-- ==== Sys2Proof/Word.lean ====
section
/-! DEFINITION. The word types of the block and the type of a sparse table: registers, bytes, lines, status codes, key
handles (00_scope.md R16, R17; 03_keys.md R71). -/

namespace Sys2Proof

-- One declaration at a time, so that the elaborator holds few threads (each takes stack of its own).
set_option Elab.async false

/-- A byte of a wire or memory structure (R16). -/
abbrev Byte := BitVec 8

/-- A register: 32 bits on a 4-byte boundary (R21). -/
abbrev Word := BitVec 32

/-- A 64-bit register or count (R21). -/
abbrev DWord := BitVec 64

/-- A byte string, byte 0 first. -/
abbrev Bytes := List (BitVec 8)

/-- A status code (R17). -/
abbrev Status := BitVec 16

/-- A key handle (R71). -/
abbrev Handle := BitVec 32

/-- A SHA-384 value, most significant byte first. -/
abbrev Digest := BitVec 384

/-- A sparse table by number: keys strictly rising, and no entry equal to what an unlisted key reads as. -/
abbrev Tab (α : Type) := List (Nat × α)

namespace Status

/-- R17: served in full. -/
def ok : Status := 0x0000#16
/-- R17: completed, late, behind work of a higher class. -/
def deferred : Status := 0x0101#16
/-- R17: the hall exceeded its own share. -/
def refusedQuota : Status := 0x0102#16
/-- R17: the block as a whole was full. -/
def refusedCapacity : Status := 0x0103#16
/-- R17: not served now. -/
def retryLater : Status := 0x0104#16
/-- R17: no valid mapping, or an address out of bounds. -/
def translationFault : Status := 0x0201#16
/-- R17: the object named no longer exists. -/
def objectGone : Status := 0x0202#16
/-- R17: not permitted: rights, state, format or an absent unit. -/
def permission : Status := 0x0203#16
/-- R17: a tag, MAC, signature or token failed. -/
def authFail : Status := 0x0301#16
/-- R17: the vault region is TAINTED. -/
def integrityTainted : Status := 0x0302#16
/-- R17: a read-modify-write found a line that failed its check. -/
def partialWriteRefused : Status := 0x0303#16
/-- R17: data was returned or found poisoned. -/
def poisoned : Status := 0x0304#16
/-- R17: the producing queue was destroyed. -/
def queueDestroyed : Status := 0x0401#16
/-- R17: work of a queue found hung was ended. -/
def queueGuilty : Status := 0x0402#16
/-- R17: a wait would have closed a cycle of declared producers. -/
def deadlock : Status := 0x0403#16
/-- R17: a member the work depended on was declared lost. -/
def peerLost : Status := 0x0404#16
/-- R17: the hall or handle named is gone. -/
def hallGone : Status := 0x0405#16
/-- R17: ended by a reset, an abort or a recorded loss. -/
def resetAborted : Status := 0x0406#16
/-- R17: the result is not yet complete. -/
def notReady : Status := 0x0501#16
/-- R17: a one-shot result was already read. -/
def consumed : Status := 0x0502#16
/-- R17: refused because the block is in its safe state. -/
def safeState : Status := 0x0601#16
/-- R17: a key budget or a counter is spent. -/
def keyExhausted : Status := 0x0602#16

end Status

end Sys2Proof
end

