-- ==== Sys2Proof/Config.lean ====
section
/-! DEFINITION. What a licence fixes of the block (R7-R10), the cited standards' primitives that the spec names and does
not restate, and the free values: constants without a body, of which nothing can be proved. -/

namespace Sys2Proof

-- One declaration at a time, so that the elaborator holds few threads (each takes stack of its own).
set_option Elab.async false

/-- The synthesis configurations of R7 and R10. -/
inductive Conf where
  /-- TQ-9F. -/
  | f
  /-- TQ-9M with four reduction units. -/
  | m4
  /-- TQ-9M without reduction units. -/
  | m0
  /-- TQ-9S. -/
  | s
deriving DecidableEq, Repr, Inhabited

namespace Conf

/-- CAPS (R10). -/
def caps : Conf → Word
  | .f => 0x3F211120#32
  | .m4 => 0x7ED08890#32
  | .m0 => 0x7ED00890#32
  | .s => 0x92480448#32

/-- Partitions (R7). -/
def parts : Conf → Nat
  | .s => 2
  | _ => 4

/-- Link groups: one per 16 lanes (R24). -/
def groups : Conf → Nat
  | .f => 4
  | .s => 1
  | _ => 2

/-- Link seal pipes per direction (R7). -/
def lanes : Conf → Nat
  | .f => 64
  | .s => 16
  | _ => 32

/-- Line seal pipes per direction (R7). -/
def linePipes : Conf → Nat
  | .f => 8
  | .s => 2
  | _ => 4

/-- Mover engines (R7). -/
def movers : Conf → Nat
  | .f => 16
  | .s => 4
  | _ => 8

/-- Reduction units (R7). -/
def redUnits : Conf → Nat
  | .f => 8
  | .m4 => 4
  | _ => 0

/-- Halls (R7). -/
def halls : Conf → Nat
  | .f => 4096
  | .s => 512
  | _ => 2048

/-- CAPS.TREE (R10). -/
def tree : Conf → Bool
  | .s => false
  | _ => true

/-- CAPS.ATOMIC (R10). -/
def atomic : Conf → Bool
  | .s => false
  | _ => true

/-- Link pipes of one direction in one partition (R8). -/
def lanesPerPart : Conf → Nat
  | .f => 16
  | _ => 8

/-- Line pipes of one direction in one partition (R8). -/
def linePerPart : Conf → Nat
  | .f => 2
  | _ => 1

/-- Movers of one partition (R8). -/
def moversPerPart : Conf → Nat
  | .f => 4
  | _ => 2

/-- Reduction units of one partition (R8). -/
def redPerPart : Conf → Nat
  | .f => 2
  | .m4 => 1
  | _ => 0

end Conf

namespace Config

/-- IDENT (R9). -/
def ident : Word := 0x7E094200#32

/-- AES-256 on one block, key and block as the standard writes them, first byte most significant. The standard is cited
(R66, R153, R189, R190, R213), its rounds are not restated. -/
opaque aes256 : BitVec 256 → BitVec 128 → BitVec 128

/-- The inverse of AES-256 on one block, which KW's unwrapping uses (R86). -/
opaque aes256Inv : BitVec 256 → BitVec 128 → BitVec 128

/-- SHA-384 (R66, R96, R116). -/
opaque sha384 : Bytes → Digest

/-- ECDSA P-384 verification of a SHA-384 value: public key x then y, digest, signature r then s (R107, R472). -/
opaque ecdsaVerify : Bytes → Digest → Bytes → Bool

/-- ECDSA P-384 signature, r then s, of a digest under a private key (R120, R122). -/
opaque ecdsaSign : BitVec 384 → Digest → BitVec 768

/-- The P-384 public key, x then y, of a private key (R118). -/
opaque ecdsaPublic : BitVec 384 → BitVec 768

/-- The public key, x then y, whose SHA-384 digest is given: that of a certificate known by the digest of its key (R142, R346). -/
opaque publicKey : Digest → Bytes

/-- The order of the P-384 group (R119; the standard's constant). -/
opaque p384Order : Nat

/-- The header bytes of an IDE TLP that its MAC covers, with its T bit, and the PCRC of its data, as PCIe IDE specifies them: kind,
function, address, length, T (R134). -/
opaque ideHeader : Nat → Nat → Nat → Nat → Bool → Bytes
opaque pcrc : Bytes → BitVec 32

/-- The seven SEC-DED check bits of an OTP word's 32 data bits (R91 names the code's kind and not its matrix). -/
opaque otpCheck : BitVec 32 → BitVec 7

/-- Drawn values: the n-th draw of the entropy source (R92, R108, R136, R365, R486, R489). -/
opaque drawn : Nat → BitVec 384

/-- A value that the spec leaves open, the n-th the machine meets. -/
opaque freeValue : Nat → BitVec 64

/-- The servo's next TB_RATE from the old one and an offset in ticks (R467 gives only its goal). -/
opaque servoRate : BitVec 32 → Int → BitVec 32

/-- The SPDM export master secret of the n-th session (R130; the SPDM key schedule is cited). -/
opaque exportSecret : Nat → BitVec 384

/-- The SPDM transcript hash that the n-th signed response covers (the transcript is that of the cited SPDM 1.3). -/
opaque spdmTranscript : Nat → Digest

/-- A secured SPDM record opened and sealed under a session's secrets, and the check of FINISH's MAC (cited DSP0274,
DSP0277): the records' own formats are not restated by the spec. -/
opaque securedOpen : BitVec 384 → Bytes → Option Bytes
opaque securedSeal : BitVec 384 → Bytes → Bytes
opaque finishOk : BitVec 384 → Bytes → Bool

/-- The base address that the host gave the 64 KiB BAR of function `f`; the host port controller holds it (R40). -/
opaque barBase : Nat → Nat

/-- The to-be-signed part of a certificate that the block builds, from the subject's key, the issuer's key, the DER of notAfter and
that of the extension or serial number that R120 and R489 give, and the certificate of it and its signature (X.509 is cited). -/
opaque certBody : BitVec 768 → BitVec 768 → Bytes → Bytes → Bytes
opaque certDer : Bytes → BitVec 768 → Bytes

/-- The fitted flash device's SFDP bytes, and what they permit: none, or 8D-8D-8D at a divider code of XSPI_CTL (R60, R463). -/
opaque flashSfdp : Nat → BitVec 8
opaque flash8d : Option (BitVec 2)

/-- The mask ROM's 64 KiB, digested once at boot (R116). -/
opaque maskRom : Bytes

end Config

end Sys2Proof
end

