-- ==== Sys2Proof/Syntax.lean ====
section
/-! DEFINITION. The commands of the block: one constructor for each row of spec/opcode_table.json, with the operands that
the row's event or operation carries from outside. -/

namespace Sys2Proof

-- One declaration at a time, so that the elaborator holds few threads (each takes stack of its own).
set_option Elab.async false

/-- Which bus an access comes on: the Keeper's private bus, or a host page (0 the operator page, n + 1 hall n) (R21). -/
inductive Bus where
  | keeper
  | page (n : Nat)
deriving DecidableEq, Repr, Inhabited

/-- The clock domains that keep a local timebase copy (R29, R30). -/
inductive ClockDomain where
  | cclk
  | mclk
  | hclk
  | kclk
  | lclk0
  | lclk1
  | lclk2
  | lclk3
  | mii
deriving DecidableEq, Repr, Inhabited

/-- The roles of a management session (R490). -/
inductive Role where
  | factory
  | operator
  | domainManager
  | tenant
deriving DecidableEq, Repr, Inhabited

/-- Who asks for a Call Sheet action: the role named, and the number of the session (R493). -/
structure Act where
  role : Role
  sess : Nat
deriving DecidableEq, Repr, Inhabited

/-- The IDE wrapping of a TLP: stream, sub-stream, key set, T bit and MAC (R134, R138). -/
structure IdeTlp where
  stream : Nat
  sub : Nat
  ks : Nat
  t : Bool
  mac : BitVec 96
deriving DecidableEq, Repr, Inhabited

/-- What a received TLP is (R41). Offsets are page or configuration-space offsets. -/
inductive TlpKind where
  | memRead (off len : Nat)
  | memWrite (off : Nat) (data : Bytes)
  | cfgRead (off : Nat)
  | cfgWrite (off : Nat) (value : Word)
  | completion (tag : Nat) (status : Status) (data : Bytes)
  | message
deriving DecidableEq, Repr, Inhabited

/-- A whole TLP from the host port controller (R40-R42): target function, whether its beat is the first of an item, the
controller's error mark, and its IDE wrapping. -/
structure Tlp where
  func : Nat
  first : Bool
  err : Bool
  kind : TlpKind
  ide : Option IdeTlp
deriving DecidableEq, Repr, Inhabited

/-- A beat of cp_req (R46, R272). -/
structure CpReq where
  op : BitVec 4
  addr : DWord
  hall : Nat
  tag : Nat
  be : DWord
  data : BitVec 512
deriving DecidableEq, Repr, Inhabited

/-- A data-path key lookup (R75): the requesting unit's source ID (R395), handle, hall and generation of its item, seal or
unseal intent, and the parent handle and label that its descriptor carries (R72, R185). -/
structure Lookup where
  unit : Nat
  handle : Handle
  hall : Nat
  hgen : BitVec 16
  sealing : Bool
  parent : Handle
  label : Bytes
  ticket : Nat
deriving DecidableEq, Repr, Inhabited

/-- Where a Slate is asked for (R133). -/
inductive SlatePath where
  | operatorPage
  | hallPage (hall : Nat)
  | action (a : Act) (hall : Nat)
deriving DecidableEq, Repr, Inhabited

/-- The two transports of the SPDM responder (R126). -/
inductive Transport where
  | doe
  | callSheet
deriving DecidableEq, Repr, Inhabited

/-- Which of the responder's choices of R127 the requester offers. -/
structure AlgOffer where
  asym : Bool
  hash : Bool
  measHash : Bool
  measSpec : Bool
  dhe : Bool
  aead : Bool
  keySchedule : Bool
deriving DecidableEq, Repr, Inhabited

/-- A pooled access of one line (R196-R198): requesting port number, hall and generation of the item, region number, region
offset, and the requester's own ticket. -/
structure LineAcc where
  port : Nat
  hall : Nat
  hgen : BitVec 16
  region : Nat
  offset : Nat
  ticket : Nat
deriving DecidableEq, Repr, Inhabited

/-- A local memory line as an mp port returns it (R48). -/
structure MemLine where
  err : BitVec 2
  data : Bytes
deriving DecidableEq, Repr, Inhabited

/-- A translation asked of the ITU (R354, R355). -/
structure ItuReq where
  hall : Nat
  hgen : BitVec 16
  va : DWord
  read : Bool
  write : Bool
  atomic : Bool
  unit : Nat
  ticket : Nat
deriving DecidableEq, Repr, Inhabited

/-- A state word of a unit's scan map with its class: DATA or CONTROL (R450). -/
structure ScanWord where
  data : Bool
  word : Word
deriving DecidableEq, Repr, Inhabited

/-- A management frame at the MAC (R484, R488). -/
structure MgtFrame where
  dst : BitVec 48
  fcsGood : Bool
  extHeader : Bool
  fragment : Bool
  sumGood : Bool
  port : Nat
  payload : Bytes
deriving DecidableEq, Repr, Inhabited

/-- A ClientHello (R489): whether it offers the suite, the group and the signature scheme, a connection ID, and a cookie. -/
structure Hello where
  suite : Bool
  group : Bool
  scheme : Bool
  cid : Bool
  cookie : Bool
deriving DecidableEq, Repr, Inhabited

/-- What a lane brings (R39, R158): a whole frame from its first beat, or the beats of a frame whose first beat was lost. -/
structure LinkFrame where
  first : Bool
  bytes : Bytes
deriving DecidableEq, Repr, Inhabited

/-- A client certificate chain (R489, R490): its leaf and root digests, its length and its bytes. -/
structure CertChain where
  leaf : Digest
  root : Digest
  certs : Nat
  bytes : Nat
deriving DecidableEq, Repr, Inhabited

/-- The commands of the block, in the order of spec/opcode_table.json. -/
inductive Instr where
  /-- REGISTER_WRITE (R18). A software write to a register field that has no row of its own stores, acts, clears or sets according to the field's type. -/
  | registerWrite (bus : Bus) (addr : Nat) (value : Word)
  /-- RC_REGISTER_READ (R18). A read of an RC register, such as ADM_LAT_MAX, returns the current value and then clears it. -/
  | rcRegisterRead (bus : Bus) (addr : Nat)
  /-- LOW_WORD_READ_LATCH (R21). A 4-byte read of the low word of a 64-bit register latches its high word and address into the bus read shadow. -/
  | lowWordReadLatch (bus : Bus) (addr : Nat)
  /-- LOW_WORD_WRITE_HOLD (R21). A 4-byte write of the low word of a 64-bit register is held in the write shadow and changes nothing yet. -/
  | lowWordWriteHold (bus : Bus) (addr : Nat) (value : Word)
  /-- LOCAL_TIMEBASE_CORRECTION (R31). A reference edge reaching a domain corrects its local timebase copy forward, or holds the copy where the correction would move it back. -/
  | localTimebaseCorrection (dom : ClockDomain) (cycles : Nat)
  /-- HP_TLP_RECEIVE (R41). A whole TLP arrives from the host port controller and is checked, unsealed where IDE applies, and dispatched to a hall page, the operator page or DOE. -/
  | hpTlpReceive (tlp : Tlp)
  /-- HP_FLR (R43). A Function Level Reset of a VF starts the FLR handling of its hall, merging with an FLR still running; an FLR of function 0 resets the operator mailbox. -/
  | hpFlr (func : Nat)
  /-- HP_FLR_DONE (R43). Once the hall reaches the state that FLR requires, the block pulses hp_flr_done_o for the function. -/
  | hpFlrDone (func : Nat)
  /-- CP_COMPLETION (R45). A completion word from a compute engine slot is checked against R28 and updates the take, abort and ownership state. -/
  | cpCompletion (w : DWord)
  /-- CP_REQ_RECEIVE (R272). A remote memory request from the compute array is translated and issued as a REQ or served locally; its response returns on cp_rsp. -/
  | cpReqReceive (r : CpReq)
  /-- MP_RESPONSE (R48). A local memory response arrives: read data is delivered as good, corrected or poisoned, and a write acknowledgement drains the write. -/
  | mpResponse (port tag : Nat) (we : Bool) (err : BitVec 2) (data : Bytes)
  /-- LINK_FRAME_RECEIVE (R158). A whole frame arrives on a lane and is relayed, or is checked, unsealed, window-checked and verified for this member. -/
  | linkFrameReceive (lane : Nat) (vc : BitVec 2) (route : Byte) (frame : LinkFrame)
  /-- FRAME_RELEASE (R160). A SIGNAL or CLOSE frame is released once the context's floor reaches it, with any loss or taint status applied. -/
  | frameRelease (ctx : Nat)
  /-- LANE_UP_FALL (R168). A lane's lane_up falls: a partial frame on it is void, its TX contexts move to their alternate lane or break, and its RX contexts wait or break. -/
  | laneUpFall (lane : Nat)
  /-- LANE_UP_RISE (R52). A lane whose lane_up bit rises again may present and accept frames. -/
  | laneUpRise (lane : Nat)
  /-- POWER_ON_RESET (R53). Assertion of fp_por_n_i resets the whole block; its release starts PLL lock and boot. -/
  | powerOnReset (level : Bool)
  /-- FP_WAKE (R54). fp_wake_i rises and the block starts the wake handshake to S0, or voids an entry in progress. -/
  | fpWake
  /-- FP_PACK_RISE (R54). The power controller raises fp_pack_i; the block updates fp_pstate_o and lowers fp_preq_o, or voids the entry if a wake is pending. -/
  | fpPackRise
  /-- FP_PACK_FALL (R54). The power controller lowers fp_pack_i and the four-phase handshake completes. -/
  | fpPackFall
  /-- S1_SELF_WAKE (R55). Valid input at hp, cp, lp or mp in S1 wakes the block to S0 within 4 refclk cycles, without a handshake. -/
  | s1SelfWake (port : Nat)
  /-- EXT_FAULT_RISE (R56). A rising, synchronized fp_ext_fault_i level produces one fault message from source 0xF00 + n. -/
  | extFaultRise (n : Nat)
  /-- OTP_PROGRAM_DONE (R59). An OTP word program completes when otp_busy_i falls. -/
  | otpProgramDone
  /-- SCAN_MODE_REQUEST (R62). so_tmode_i in TEST_OPEN connects the manufacturing scan chains to so; in every other state it is ignored. -/
  | scanModeRequest (level : Bool)
  /-- KEY_LOOKUP (R75). A data-path unit looks up a key handle with hall, generation and intent, and hits 3 CCLK later or misses. -/
  | keyLookup (l : Lookup)
  /-- DERIVATION_QUEUE_ADMIT (R78). A requester stalled on a full derivation queue enters it when space frees. -/
  | derivationQueueAdmit
  /-- FAST_DERIVATION_DONE (R78). The fast deriver finishes one L4 key after 24 CCLK, writes the slot, sets VALID and releases its merged requesters. -/
  | fastDerivationDone
  /-- DERIVE_HMAC (R85). KV_CMD DERIVE_HMAC derives a child key under an HMAC-SHA-384 label into a pinned slot. -/
  | deriveHmac (replace : Bool)
  /-- DERIVE_FAST (R85). KV_CMD DERIVE_FAST prefills an L4 key into a pinned slot through the derivation queue. -/
  | deriveFast (replace : Bool)
  /-- UNWRAP (R86). KV_CMD UNWRAP opens a 48-byte KW blob under a class 0 KEK into a pinned slot, or fails with AUTH_FAIL or PERMISSION. -/
  | unwrap (replace : Bool)
  /-- IMPORT (R85). KV_CMD IMPORT moves 32 bytes from the Keeper key region into a pinned class 0 slot and zeroes the source. -/
  | importKey (replace : Bool)
  /-- RETIRE (R85). KV_CMD RETIRE destroys a handle's slot and every resident descendant. -/
  | retire
  /-- RETIRE_MATCH (R85). KV_CMD RETIRE_MATCH destroys every slot matching class, hall and generation, with their descendants. -/
  | retireMatch
  /-- SET_BUDGET (R85). KV_CMD SET_BUDGET replaces a resident handle's remaining budget. -/
  | setBudget
  /-- WIPE_ALL (R89). KV_CMD WIPE_ALL abandons derivations, zeroes every slot and key register and the Keeper key region, and sets LOCKED. -/
  | wipeAll
  /-- KV_QUERY (R85). KV_CMD QUERY loads KV_QINFO and KV_QBUDGET for a handle. -/
  | kvQuery
  /-- KEY_REGISTER_DROP (R85). A pipe that holds a retired key drops its copy at its next item boundary. -/
  | keyRegisterDrop (unit : Nat)
  /-- TRANSITION (R96). The TRANSITION action checks the pair, role, preconditions and token, then programs the intent, clears rights and lowers enables. -/
  | transition (a : Act) (arg : Bytes)
  /-- LC_BEGIN (R104). LC_CMD BEGIN starts a transition to TARGET using the token in LC_TOKEN. -/
  | lcBegin (target : BitVec 3)
  /-- LC_ERASE_REPORT (R98). LC_CMD ERASE_REPORT records that the Keeper has read the owner region back blank. -/
  | lcEraseReport
  /-- LC_COMMIT (R98). LC_CMD COMMIT programs the target state word and performs a T3, or is refused unless the wipe and erase are done. -/
  | lcCommit
  /-- LC_ROLLBACK_ADVANCE (R100). LC_CMD ROLLBACK_ADVANCE programs rollback counter bits in order. -/
  | lcRollbackAdvance
  /-- LC_NEW_NONCE (R108). LC_CMD NEW_NONCE draws a fresh 16-byte debug nonce, replacing the old one. -/
  | lcNewNonce
  /-- LC_GRANT (R109). LC_CMD GRANT checks a debug certificate and replaces the rights in force, or refuses it. -/
  | lcGrant
  /-- LC_CLEAR_RIGHTS (R104). LC_CMD CLEAR_RIGHTS clears the debug rights in force. -/
  | lcClearRights
  /-- ROLLBACK_COMMIT (R101). The ROLLBACK_COMMIT action advances the rollback counter to v when v is permitted. -/
  | rollbackCommit (a : Act) (arg : Bytes)
  /-- DEBUG_NONCE (R108). The DEBUG_NONCE action draws a new debug nonce and returns it. -/
  | debugNonce (a : Act)
  /-- DEBUG_CERT (R109). The DEBUG_CERT action presents a debug certificate, which uses up the nonce. -/
  | debugCert (a : Act) (arg : Bytes)
  /-- CONSENT (R111). A tenant gives or withdraws consent to data-visible rights against the current nonce. -/
  | consent (a : Act) (arg : Bytes)
  /-- AT_EXTEND (R116). AT_CMD EXTEND folds a digest into an unlocked measurement register. -/
  | atExtend (index : BitVec 3)
  /-- AT_DICE_STEP (R118). AT_CMD DICE_STEP locks MEASk, computes CDIk and the layer key pair, and zeroes the previous CDI. -/
  | atDiceStep (index : BitVec 3)
  /-- AT_SIGN (R122). AT_CMD SIGN signs AT_DIGEST with the key of the highest layer reached. -/
  | atSign
  /-- MEAS_EXTEND (R116). The MEAS_EXTEND action extends MEAS6 or MEAS7 with a digest supplied by the domain manager. -/
  | measExtend (a : Act) (arg : Bytes)
  /-- SLATE_REQUEST (R133). A Slate is requested with a nonce through a mailbox or an action; bytes 4–131 are sampled when signing starts. -/
  | slateRequest (path : SlatePath) (nonce : Bytes)
  /-- SLATE_COMPLETE (R133). Slate signing completes and the Slate becomes the repeatable result of its mailbox. -/
  | slateComplete
  /-- MAILBOX_REQUEST (R334). A write to MB_CMD starts a host-page mailbox request, incrementing SEQ and setting RESULT to NOT_READY. -/
  | mailboxRequest (page : Nat) (cmd : Word)
  /-- SPDM_MSG (R126). The SPDM_MSG action carries one SPDM message to the responder and returns its response as a mailbox result. -/
  | spdmMsg (a : Act) (arg : Bytes)
  /-- DOE_DISCOVERY (R126). A DOE Discovery data object is answered by the DOE instance of function 0. -/
  | doeDiscovery (index : Nat)
  /-- GET_VERSION (R128). GET_VERSION lists SPDM 1.3 and resets the connection state. -/
  | getVersion (t : Transport)
  /-- GET_CAPABILITIES (R127). GET_CAPABILITIES returns the responder's capabilities. -/
  | getCapabilities (t : Transport) (version : Byte)
  /-- NEGOTIATE_ALGORITHMS (R127). NEGOTIATE_ALGORITHMS selects the algorithms, or returns ERROR when there is no common choice. -/
  | negotiateAlgorithms (t : Transport) (offer : AlgOffer)
  /-- GET_DIGESTS (R128). GET_DIGESTS returns the digest of the slot 0 chain. -/
  | getDigests (t : Transport)
  /-- GET_CERTIFICATE (R128). GET_CERTIFICATE returns the slot 0 certificate chain. -/
  | getCertificate (t : Transport) (slot offset length : Nat)
  /-- CHALLENGE (R128). CHALLENGE returns CHALLENGE_AUTH for slot 0. -/
  | challenge (t : Transport) (slot : Nat) (summary : Bool) (nonce : Bytes)
  /-- GET_MEASUREMENTS (R129). GET_MEASUREMENTS reports measurement indices, signed when requested. -/
  | getMeasurements (t : Transport) (index : Nat) (signed : Bool) (nonce : Bytes)
  /-- KEY_EXCHANGE (R130). KEY_EXCHANGE opens an SPDM session, or refuses it beyond the session limit and sets SESSION_REFUSED. -/
  | keyExchange (t : Transport) (carrier : Nat) (exchange : Bytes)
  /-- FINISH (R128). FINISH completes the session handshake and returns FINISH_RSP. -/
  | finish (t : Transport) (sid : Nat) (verified : Bool)
  /-- END_SESSION (R128). END_SESSION closes the session and retires imported keys derived from it. -/
  | endSession (t : Transport) (sid : Nat)
  /-- IDE_KM_QUERY (R135). IDE_KM QUERY inside a DOE session returns the IDE capability. -/
  | ideKmQuery (sid : Nat)
  /-- KEY_PROG (R135). IDE_KM KEY_PROG programs an IDE key set into the host pipes. -/
  | keyProg (sid stream sub : Nat) (tx : Bool) (ks : Nat) (key : BitVec 256)
  /-- K_SET_GO (R135). IDE_KM K_SET_GO activates a key set. -/
  | kSetGo (sid stream sub : Nat) (tx : Bool) (ks : Nat)
  /-- K_SET_STOP (R135). IDE_KM K_SET_STOP stops a key set and zeroes its registers. -/
  | kSetStop (sid stream sub : Nat) (tx : Bool) (ks : Nat)
  /-- GET_TDISP_VERSION (R136). The TDISP version request is answered for a hall's TDI. -/
  | getTdispVersion (hall : Nat)
  /-- GET_TDISP_CAPABILITIES (R136). The TDISP capabilities request is answered. -/
  | getTdispCapabilities (hall : Nat)
  /-- LOCK_INTERFACE_REQUEST (R137). LOCK_INTERFACE_REQUEST moves a TDI to CONFIG_LOCKED when the stream and state checks pass. -/
  | lockInterfaceRequest (hall stream : Nat)
  /-- GET_DEVICE_INTERFACE_REPORT (R136). The interface report lists the hall's 64 KiB BAR. -/
  | getDeviceInterfaceReport (hall : Nat)
  /-- GET_DEVICE_INTERFACE_STATE (R136). The TDI state request returns the TDI state. -/
  | getDeviceInterfaceState (hall : Nat)
  /-- START_INTERFACE_REQUEST (R136). START_INTERFACE_REQUEST with the lock nonce moves the TDI to RUN. -/
  | startInterfaceRequest (hall : Nat) (nonce : BitVec 256)
  /-- STOP_INTERFACE_REQUEST (R136). STOP_INTERFACE_REQUEST starts a retire with a generation step, or is answered at once for a TDI in CONFIG_UNLOCKED. -/
  | stopInterfaceRequest (hall : Nat)
  /-- STOP_INTERFACE_ANSWER (R136). STOP_INTERFACE_REQUEST is answered once the hall's queues are destroyed and its writes drained. -/
  | stopInterfaceAnswer (hall : Nat)
  /-- MANIFEST_CHUNK (R142). The MANIFEST_CHUNK action delivers a chunk of the domain manifest in order. -/
  | manifestChunk (a : Act) (arg : Bytes)
  /-- PLAN_CHUNK (R141). The PLAN_CHUNK action delivers a chunk of the member plan; a new plan derives added entries and retires removed ones. -/
  | planChunk (a : Act) (arg : Bytes)
  /-- DOMAIN_ROOT (R142). The DOMAIN_ROOT action imports the session KEK, unwraps the domain root and returns its handle one-shot. -/
  | domainRoot (a : Act) (arg : Bytes)
  /-- JOIN_COMMIT (R142). JOIN_COMMIT derives the epoch and service keys, sets DOM_STATUS and DOM_EPOCH, and extends MEAS4. -/
  | joinCommit (a : Act)
  /-- LEAVE (R143). The LEAVE action retires class 1 and 2 keys and clears DOM_STATUS unless a SEALED hall exists. -/
  | leave (a : Act)
  /-- MEMBER_LOST (R144). MEMBER_LOST retires RX keys from the named members and completes dependent work and fences with PEER_LOST. -/
  | memberLost (a : Act) (arg : Bytes)
  /-- EPOCH_PREPARE (R145). EPOCH_PREPARE derives the next epoch and pair keys under new handles and sets STEP_PENDING. -/
  | epochPrepare (a : Act) (arg : Bytes)
  /-- EPOCH_SWITCH (R145). EPOCH_SWITCH arms the switch instant T for every TX stream. -/
  | epochSwitch (a : Act) (arg : Bytes)
  /-- EPOCH_RETIRE (R145). EPOCH_RETIRE retires the old epoch key unless a live hall keeps it. -/
  | epochRetire (a : Act) (arg : Bytes)
  /-- SWITCH_INSTANT (R169). At the first frame boundary at or after T, each old TX context seals a CLOSE and hands over to its successor. -/
  | switchInstant (ctx : Nat)
  /-- HALL_RETIRE_MESSAGE (R146). A received hall retire message with a newer timebase runs RETIRE_MATCH for that hall generation; any other is dropped. -/
  | hallRetireMessage (ctx : Nat) (msg : Bytes)
  /-- TX_FRAME_SEAL (R156). A TX pipe takes a chunk, assigns the next sequence, seals and self-checks the frame, and presents it to the lane. -/
  | txFrameSeal (ctx : Nat) (mismatch : Bool)
  /-- FRAME_SENT (R156). A frame's last beat transfers at the port; the context records it as last-sent and the supplier releases the chunk. -/
  | frameSent (lane : Nat)
  /-- TX_FAILOVER (R166). A spare takes a failed TX pipe's lane, seals a GAP over the skipped sequences and reseals unsent chunks. -/
  | txFailover (pipe : Nat)
  /-- RX_FAILOVER (R167). The RX spare takes the lane and unseals again every frame that was held but not released. -/
  | rxFailover (pipe : Nat)
  /-- STREAM_ABANDON (R168). The STREAM_ABANDON action resolves every hole of a context as a loss with RESET_ABORTED and breaks it. -/
  | streamAbandon (a : Act) (arg : Bytes)
  /-- LS_TX_BIND (R175). LS_CMD TX_BIND binds a TX stream context. -/
  | lsTxBind (index : BitVec 9)
  /-- LS_RX_BIND (R175). LS_CMD RX_BIND binds an RX stream context, or an expander context without a key. -/
  | lsRxBind (index : BitVec 9)
  /-- LS_UNBIND (R175). LS_CMD UNBIND frees a context, or returns RETRY_LATER while it has frames in flight. -/
  | lsUnbind (index : BitVec 9)
  /-- LS_ABANDON (R175). LS_CMD ABANDON acts on an RX context as STREAM_ABANDON does. -/
  | lsAbandon (index : BitVec 9)
  /-- LS_ARM_SWITCH (R175). LS_CMD ARM_SWITCH arms LS_SWITCH for every TX context that has a successor. -/
  | lsArmSwitch
  /-- LS_QUERY (R175). LS_CMD QUERY loads LS_QINFO, LS_QSEQ and LS_QFLOOR for a context. -/
  | lsQuery (index : BitVec 9)
  /-- LS_FAILOVER (R175). LS_CMD FAILOVER forces failover of a pipe as an injection point. -/
  | lsFailover
  /-- LINE_WRITE (R196). A whole-line pooled write is checked, counted or cursor-checked, sealed with its MAC and sent in a LINE_WR. -/
  | lineWrite (r : LineAcc) (data : Bytes)
  /-- PARTIAL_WRITE (R197). A partial vault write reads and verifies the line, then merges and rewrites it, or is refused with PARTIAL_WRITE_REFUSED. -/
  | partialWrite (r : LineAcc) (be : BitVec 64) (data : Bytes)
  /-- LINE_READ (R198). A pooled read sends a LINE_RD and fetches the vault counter in parallel. -/
  | lineRead (r : LineAcc)
  /-- INFLIGHT_TABLE_ADMIT (R195). A line request stalled on a full in-flight table, or behind a write in flight, proceeds when room or the line frees. -/
  | inflightTableAdmit
  /-- LINE_RSP_RECEIVE (R195). A LINE_RSP from an expander completes the writes of its frame, or delivers read units for unsealing. -/
  | lineRspReceive (pipe : Nat) (payload : Bytes)
  /-- LN_REGION_WRITE (R186). LN_CMD REGION_WRITE installs a region descriptor after its checks. -/
  | lnRegionWrite (index : BitVec 11) (sealed : Bool)
  /-- LN_REGION_FREE (R204). LN_CMD REGION_FREE frees a region once its accepted requests are done, discarding a vault root. -/
  | lnRegionFree (index : BitVec 11)
  /-- LN_REGION_SEAL (R199). LN_CMD REGION_SEAL moves a reel region in WRITING toward SEALED. -/
  | lnRegionSeal (index : BitVec 11)
  /-- REGION_SEAL_COMPLETE (R199). Once every accepted write is done, the reel region becomes SEALED. -/
  | regionSealComplete (region : Nat)
  /-- LN_REGION_ERASE (R202). LN_CMD REGION_ERASE makes a vault region ERASING under a new descriptor. -/
  | lnRegionErase (index : BitVec 11)
  /-- REGION_ERASE_COMPLETE (R202). After accepted requests drain, the root is reset, the new descriptor is installed and the region becomes ACTIVE. -/
  | regionEraseComplete (region : Nat)
  /-- LN_QUERY (R203). LN_CMD QUERY loads LN_QINFO, LN_CURSOR and LN_DESC for a region. -/
  | lnQuery (index : BitVec 11)
  /-- TREE_COUNTER_READ (R217). A line pipe reads a vault line counter; it is returned in 5 CCLK when the leaf is held. -/
  | treeCounterRead (region line : Nat)
  /-- TREE_COUNTER_INCREMENT (R217). A line pipe increments a vault line counter and receives the new value, dirtying the leaf. -/
  | treeCounterIncrement (region line : Nat)
  /-- NODE_FETCH_RESPONSE (R218). Fetched nodes arrive and are verified top-down, each against its parent's counter, before entering the cache. -/
  | nodeFetchResponse (payload : Bytes)
  /-- NODE_WRITEBACK_RESPONSE (R221). A node write-back's LINE_RSP makes the node clean, or is retried once before the node fails. -/
  | nodeWritebackResponse (payload : Bytes)
  /-- TR_ROOT_SAVE (R228). TR_CMD ROOT_SAVE drains, writes back the tree level by level and seals a root blob. -/
  | trRootSave (index : Byte) (keep : Bool)
  /-- TR_ROOT_LOAD (R230). TR_CMD ROOT_LOAD verifies a root blob and stages it for a region number. -/
  | trRootLoad (index : Byte)
  /-- TR_ROOT_DROP (R230). TR_CMD ROOT_DROP discards a staged root. -/
  | trRootDrop (index : Byte)
  /-- TR_FLUSH (R228). TR_CMD FLUSH writes back a region's dirty nodes and leaves it ACTIVE. -/
  | trFlush (index : Byte)
  /-- TR_QUERY (R234). TR_CMD QUERY loads TR_QINFO for a region. -/
  | trQuery (index : Byte)
  /-- TR_INJECT (R232). TR_CMD INJECT makes the next fetch of a node at a given level fail its MAC. -/
  | trInject (index : Byte) (level : BitVec 4)
  /-- MOVE (R296). A MOVE packet issues a mover descriptor to a named or chosen mover, or completes with PERMISSION for an absent mover. -/
  | move (q : Nat)
  /-- MV_SUBMIT (R262). MV_CMD SUBMIT queues MV_DESC in a mover's RESERVED queue. -/
  | mvSubmit (mover : BitVec 4)
  /-- MV_QUERY (R262). MV_CMD QUERY loads MV_QINFO and MV_QPROG for a mover. -/
  | mvQuery (mover : BitVec 4)
  /-- MOVER_SEGMENT (R242). At a segment boundary the mover picks the head of its highest non-empty class queue and runs one segment of it. -/
  | moverSegment (m : Nat)
  /-- MOVER_DESCRIPTOR_COMPLETE (R252). A mover descriptor completes once its last write drains or last frame is sent, with its first non-OK status. -/
  | moverDescriptorComplete (m : Nat)
  /-- MOVER_ABORT_TOKEN (R253). An abort token takes effect at the mover's next segment boundary, aborting its put and dropping the queue's descriptors. -/
  | moverAbortToken (m q : Nat) (qgen : BitVec 16)
  /-- REDUCE (R296). A REDUCE packet gives a reduction unit a collective descriptor, or waits for a free slot. -/
  | reduce (q : Nat)
  /-- REDUCTION_SLICE (R258). A reduction slot processes the next slice of a stage once its input is present, combining, storing or sending it. -/
  | reductionSlice (u slot : Nat) (lines : List MemLine)
  /-- REDUCTION_SLOT_COMPLETE (R261). A reduction slot completes with OK after its last store drains and its last frame is sent, or with an abort status. -/
  | reductionSlotComplete (u slot : Nat)
  /-- RD_QUERY (R263). RD_CMD QUERY loads RD_QINFO and RD_QCOLL for a slot. -/
  | rdQuery (u : BitVec 3) (slot : BitVec 2)
  /-- RD_ABORT (R263). RD_CMD ABORT ends a reduction slot as an abort token does. -/
  | rdAbort (u : BitVec 3) (slot : BitVec 2)
  /-- HOME_REQ_ACCEPT (R273). A released REQ enters the home line table in release order, or waits in the hold buffer while the queue is full. -/
  | homeReqAccept (ctx : Nat)
  /-- ATOMIC_UPDATE_APPLY (R274). The atomic unit applies one update to a line, at most one per line every 4 CCLK. -/
  | atomicUpdateApply (entry : Nat)
  /-- COMBINING_FILL_DONE (R275). A combining-buffer fill completes, and the waiting atomics apply or all fail with the fill's status. -/
  | combiningFillDone (entry : Nat) (status : Status) (data : Bytes)
  /-- RSP_ITEM_RECEIVE (R271). A requester matches a received RSP item to its oldest unanswered request. -/
  | rspItemReceive (ctx : Nat)
  /-- AU_FLUSH_HALL (R281). AU_CMD FLUSH_HALL writes back a hall's dirty combining lines. -/
  | auFlushHall (hall : BitVec 12)
  /-- AU_FLUSH_ALL (R281). AU_CMD FLUSH_ALL writes back every dirty combining line. -/
  | auFlushAll
  /-- AU_INJECT (R281). AU_CMD INJECT makes the next update disagree in the duplicated ALU. -/
  | auInject
  /-- QUEUE_CREATE (R288). The QUEUE_CREATE action creates a queue in a hall slot in state IDLE. -/
  | queueCreate (a : Act) (arg : Bytes)
  /-- QUEUE_DESTROY (R306). The QUEUE_DESTROY action moves a queue to DYING and sends abort tokens to its engines. -/
  | queueDestroy (a : Act) (arg : Bytes)
  /-- QUEUE_DESTROY_FINISH (R307). After the last acknowledgement, owed fences fault, QGEN increments, the queue becomes FREE and the destroy fence is signalled. -/
  | queueDestroyFinish (q : Nat)
  /-- FE_CMD_CREATE (R309). FE_CMD CREATE creates a queue from FE_ARG. -/
  | feCmdCreate
  /-- FE_CMD_DESTROY (R309). FE_CMD DESTROY destroys a queue and completes at step 5 of the destroy. -/
  | feCmdDestroy
  /-- FE_CMD_QUERY (R309). FE_CMD QUERY loads FE_QINFO and FE_QACKS for a queue. -/
  | feCmdQuery (q : BitVec 14)
  /-- DOORBELL (R291). A write to QDB sets QTAIL when acceptable, moving an IDLE queue to READY; otherwise it is ignored and counted. -/
  | doorbell (hall slot : Nat) (value : Word)
  /-- QUEUE_ACTIVATE (R382). A READY queue takes an active entry and becomes RUNNING. -/
  | queueActivate (q : Nat)
  /-- RING_ENTRY_FETCHED (R289). A ring entry read returns and advances HEAD, or the queue stops on a malformed entry. -/
  | ringEntryFetched (q : Nat) (entry : Bytes)
  /-- COMMAND_CHUNK_FETCHED (R294). A fetched buffer header or chunk is checked and unsealed before its packets are decoded. -/
  | commandChunkFetched (q : Nat) (data : Bytes)
  /-- LAUNCH (R296). A LAUNCH packet is issued on cp to an engine slot, or waits while another queue owns the slot. -/
  | launch (q : Nat)
  /-- SIGNAL (R300). A SIGNAL packet is decoded and held until earlier work of the queue completes. -/
  | signal (q : Nat)
  /-- SIGNAL_APPLY (R300). Once earlier work completes, a SIGNAL is applied locally with the kept status, or sealed as a SIGNAL frame when REMOTE. -/
  | signalApply (q : Nat)
  /-- WAIT (R320). A WAIT packet is met at decode or parks the queue on a fence or semaphore. -/
  | wait (q : Nat)
  /-- WAIT_GRAPH_WALK (R323). A parked queue's walk follows declared producers one edge per CCLK, and ends its WAIT with DEADLOCK if it returns to itself. -/
  | waitGraphWalk (q : Nat)
  /-- ATOMIC (R296). An ATOMIC packet is issued as a one-element REQ or served by this block's atomic unit. -/
  | atomic (q : Nat)
  /-- COND_JUMP (R302). COND_JUMP evaluates its condition and jumps forward or breaks the innermost loop. -/
  | condJump (q : Nat)
  /-- LOOP (R302). LOOP opens a loop that runs its body COUNT times. -/
  | loop (q : Nat)
  /-- CALL (R302). CALL fetches and runs a library buffer whose NONCE must match. -/
  | call (q : Nat)
  /-- RET (R302). RET closes the buffer's loops and returns to the caller, or ends the ring buffer. -/
  | ret (q : Nat)
  /-- SET_REG (R298). SET_REG writes a queue register from an immediate, a register, a fence or a semaphore. -/
  | setReg (q : Nat)
  /-- MARK (R303). MARK sets the queue's scene and shot. -/
  | mark (q : Nat)
  /-- TAKE_OVERRUN (R304). A take that exceeds FE_TAKE_LIMIT is counted and raises TAKE_OVERRUN. -/
  | takeOverrun (slot : Nat)
  /-- FENCE_CREATE (R316). The FENCE_CREATE action creates a LIVE fence with a view and an optional declared producer. -/
  | fenceCreate (a : Act) (arg : Bytes)
  /-- FENCE_DESTROY (R317). The FENCE_DESTROY action frees a fence unless a queue waits on it or owes it a SIGNAL. -/
  | fenceDestroy (a : Act) (arg : Bytes)
  /-- FENCE_CLEAR (R317). The FENCE_CLEAR action returns a fence to LIVE with STATUS OK. -/
  | fenceClear (a : Act) (arg : Bytes)
  /-- SEM_ALLOC (R327). The SEM_ALLOC action allocates a local or broadcast semaphore. -/
  | semAlloc (a : Act) (arg : Bytes)
  /-- SEM_FREE (R327). The SEM_FREE action frees a semaphore unless a WAIT is parked on it. -/
  | semFree (a : Act) (arg : Bytes)
  /-- FS_FENCE_CREATE (R338). FS_CMD FENCE_CREATE creates a fence from FS_ARG. -/
  | fsFenceCreate
  /-- FS_FENCE_DESTROY (R338). FS_CMD FENCE_DESTROY destroys a fence. -/
  | fsFenceDestroy
  /-- FS_FENCE_CLEAR (R338). FS_CMD FENCE_CLEAR clears a fence. -/
  | fsFenceClear
  /-- FS_SEM_ALLOC (R338). FS_CMD SEM_ALLOC allocates a semaphore. -/
  | fsSemAlloc
  /-- FS_SEM_FREE (R338). FS_CMD SEM_FREE frees a semaphore. -/
  | fsSemFree
  /-- FS_QUERY (R338). FS_CMD QUERY loads the state, status and value of a fence or semaphore. -/
  | fsQuery (kind : BitVec 2) (obj : BitVec 16)
  /-- FS_FAULT (R321). FS_CMD FAULT sets a fence FAULTED with the status in FS_ARG0. -/
  | fsFault (kind : BitVec 2) (obj : BitVec 16)
  /-- MSIX_MESSAGE (R332). A pending MSI-X vector message of a hall is sent when hp accepts it, merging the causes that arrived meanwhile. -/
  | msixMessage (hall vector : Nat)
  /-- HALL_CREATE (R346). The HALL_CREATE action creates a hall with its generation, mode, quota and keys. -/
  | hallCreate (a : Act) (arg : Bytes)
  /-- HALL_DESTROY (R515). The HALL_DESTROY action starts or joins a retire, or sends an AWAITING hall to SCRUBBING. -/
  | hallDestroy (a : Act) (arg : Bytes)
  /-- RETIRE_DRAIN_DONE (R360). With all queues FREE, the retire drains, steps the generation, retires keys, frees regions and tables, and enters SCRUBBING. -/
  | retireDrainDone (hall : Nat)
  /-- HALL_GRANT (R349). The HALL_GRANT action grants CLEAN granules to a hall. -/
  | hallGrant (a : Act) (arg : Bytes)
  /-- HALL_UNGRANT (R349). The HALL_UNGRANT action returns a hall's unmapped granules to DIRTY. -/
  | hallUngrant (a : Act) (arg : Bytes)
  /-- MAP (R357). The MAP action writes leaf entries for a run of pages. -/
  | map (a : Act) (arg : Bytes)
  /-- UNMAP (R358). The UNMAP action invalidates entries and their TLB and walk-cache entries at its instant. -/
  | unmap (a : Act) (arg : Bytes)
  /-- UNMAP_COMPLETE (R358). Once prior translations retire and owned slots report TAKE_END, the unmap completes and signals its fence. -/
  | unmapComplete (serial : Nat)
  /-- SCRUB_DONE (R360). ITU_CMD SCRUB_DONE reports a hall's scrub list zeroed, ending it FREE or LIVE at the new generation. -/
  | scrubDone (hall : BitVec 12)
  /-- ITU_CLEAN (R369). ITU_CMD CLEAN marks zeroed DIRTY granules CLEAN. -/
  | ituClean
  /-- ITU_QUERY (R369). ITU_CMD QUERY loads ITU_QINFO for a hall. -/
  | ituQuery (hall : BitVec 12)
  /-- ITU_HALL_CREATE (R369). ITU_CMD HALL_CREATE creates a hall from ITU_ARG. -/
  | ituHallCreate
  /-- ITU_HALL_DESTROY (R369). ITU_CMD HALL_DESTROY destroys a hall. -/
  | ituHallDestroy
  /-- ITU_GRANT (R369). ITU_CMD GRANT grants granules. -/
  | ituGrant
  /-- ITU_UNGRANT (R369). ITU_CMD UNGRANT ungrants granules. -/
  | ituUngrant
  /-- ITU_MAP (R369). ITU_CMD MAP maps pages. -/
  | ituMap
  /-- ITU_UNMAP (R369). ITU_CMD UNMAP unmaps pages. -/
  | ituUnmap
  /-- ITU_FREEZE (R369). ITU_CMD FREEZE freezes a hall. -/
  | ituFreeze
  /-- ITU_SAVE (R369). ITU_CMD SAVE saves a hall image. -/
  | ituSave (pages : List Bytes)
  /-- ITU_RESTORE (R369). ITU_CMD RESTORE restores a hall image. -/
  | ituRestore (image : Bytes)
  /-- ITU_THAW (R369). ITU_CMD THAW thaws a hall. -/
  | ituThaw
  /-- ITU_MIGRATE_DONE (R369). ITU_CMD MIGRATE_DONE ends a migration on the source. -/
  | ituMigrateDone
  /-- HALL_FREEZE (R364). The HALL_FREEZE action stops doorbells and waits for the hall's work to settle. -/
  | hallFreeze (a : Act) (arg : Bytes)
  /-- HALL_FREEZE_COMPLETE (R364). When queues are idle, reductions free and writes drained, the hall becomes FROZEN. -/
  | hallFreezeComplete (hall : Nat)
  /-- HALL_SAVE (R365). The HALL_SAVE action writes a sealed hall image to host memory and makes the hall MOVED. -/
  | hallSave (a : Act) (arg : Bytes) (pages : List Bytes)
  /-- HALL_RESTORE (R366). The HALL_RESTORE action verifies and installs a hall image on an AWAITING hall, making it LIVE. -/
  | hallRestore (a : Act) (arg : Bytes) (image : Bytes)
  /-- HALL_THAW (R367). The HALL_THAW action returns a FROZEN or MOVED hall to LIVE and voids its image. -/
  | hallThaw (a : Act) (arg : Bytes)
  /-- MIGRATE_DONE (R367). The MIGRATE_DONE action retires a MOVED hall without a generation step and ends it FREE. -/
  | migrateDone (a : Act) (arg : Bytes)
  /-- HALL_QUERY (R504). The HALL_QUERY action returns ITU_QINFO and ADM_HSTAT of a hall. -/
  | hallQuery (a : Act) (arg : Bytes)
  /-- TRANSLATION_LOOKUP (R355). A TLB lookup under hall and generation hits in 3 CCLK or starts a walk. -/
  | translationLookup (r : ItuReq)
  /-- WALK_READ_RESPONSE (R355). A table read of a walk returns and continues the walk, faults, or poisons with ITU_WALK. -/
  | walkReadResponse (walk : Nat) (err : BitVec 2)
  /-- BUCKET_REFILL (R380). Every 1 µs of timebase each hall rate bucket gains rate × 100 bytes, up to BURST. -/
  | bucketRefill
  /-- FAULT_MESSAGE_ACCEPT (R401). The FCU accepts a fault record, logs and counts it, and applies FENCE or SAFE for its kind. -/
  | faultMessageAccept (source : Nat) (tdelta : BitVec 16)
  /-- AUTO_T3_REQUEST (R404). HOLD µs after the safe state begins, with AUTO_T3 set, the FCU requests a T3. -/
  | autoT3Request
  /-- FCU_INJ_ARM (R410). Writing ARM in FCU_INJ arms an injection at a source for a kind, or is ignored and counted. -/
  | fcuInjArm (source : BitVec 12) (kind : Byte)
  /-- FAULT_INJECT (R504). The FAULT_INJECT action writes FCU_INJ with ARM = 1. -/
  | faultInject (a : Act) (arg : Bytes)
  /-- HANG_WINDOW_BOUNDARY (R419). At each window boundary, miss counts advance or clear for every watched object. -/
  | hangWindowBoundary
  /-- QUEUE_T0_RESET (R424). T0 of a queue discards its ring work, ends its WAIT and sends abort tokens. -/
  | queueT0Reset (q : Nat)
  /-- QUEUE_T0_FINISH (R424). After the last acknowledgement, owed fences fault with RESET_ABORTED and the queue becomes IDLE. -/
  | queueT0Finish (q : Nat)
  /-- ENGINE_T1_RESET (R425). T1 of an engine runs Landing, then resets and tests it, stepping its generation. -/
  | engineT1Reset (unit : Nat)
  /-- SLICE_T2_RESET (R426). T2 of a slice lands and resets all its units; the slice returns, or stays retired. -/
  | sliceT2Reset (slice : Nat)
  /-- BLOCK_T3_RESET (R427). T3 lands and resets every unit and releases the Keeper into mask ROM. -/
  | blockT3Reset
  /-- TREAD_WINDOW_MISS (R423). A tread that misses its completion window escalates to the next tread, or only records the miss. -/
  | treadWindowMiss (tread : Nat) (target : Nat)
  /-- LANDING_DRAIN_END (R429). At the end of the drain window, outstanding requests are answered and the unit is reset. -/
  | landingDrainEnd (tread : Nat) (target : Nat)
  /-- HR_RESET (R434). HR_CMD RESET orders the tread that TREAD and HR_TARGET name. -/
  | hrReset (tread : BitVec 3)
  /-- HR_QUERY (R434). HR_CMD QUERY loads HR_QINFO for a queue or unit. -/
  | hrQuery (tread : BitVec 3)
  /-- RESET_ORDER (R423). The RESET_ORDER action orders a tread on a target. -/
  | resetOrder (a : Act) (arg : Bytes)
  /-- CUT_ARM (R440). The CUT_ARM action arms a CUT, and optionally sends cut orders to the domain. -/
  | cutArm (a : Act) (arg : Bytes)
  /-- CUT_DISARM (R440). The CUT_DISARM action cancels an armed CUT. -/
  | cutDisarm (a : Act)
  /-- DBG_ARM (R458). DBG_CMD ARM arms a CUT from the DBG registers. -/
  | dbgArm (flags : Byte) (serial : BitVec 12)
  /-- DBG_DISARM (R458). DBG_CMD DISARM cancels an armed CUT. -/
  | dbgDisarm
  /-- DBG_RUSHES_DUMP (R458). DBG_CMD RUSHES_DUMP streams every Rushes ring on so. -/
  | dbgRushesDump
  /-- DBG_RING_READ (R454). DBG_CMD RING_READ loads one ring record into DBG_RDATA. -/
  | dbgRingRead
  /-- CUT_STOP (R441). At T_STOP every stopped domain halts at its stop edge, and the Dailies stream may begin. -/
  | cutStop
  /-- CUT_RESUME (R445). At the resume instant every stopped domain continues from its captured state. -/
  | cutResume
  /-- DAILIES_RECORD (R448). The Dailies engine emits one record on so, masking DATA words as rights require. -/
  | dailiesRecord (kind : Byte) (unit scanMap : Nat) (body : List ScanWord)
  /-- LATE_ARRIVAL (R443). A no-ready beat arriving during a stop is stored by the edge stage as a late arrival. -/
  | lateArrival (channel item : Nat)
  /-- CUT_ORDER_RECEIVE (R446). A received cut order with a newer serial arms a local CUT and is forwarded; others are dropped. -/
  | cutOrderReceive (ctx : Nat) (msg : Bytes)
  /-- RUSHES_TICK (R452). A unit records a TICK whenever timebase bits [55:40] change. -/
  | rushesTick (unit : Nat)
  /-- RUSHES_READ (R454). The RUSHES_READ action returns a quarter of a unit's ring, filtered by role. -/
  | rushesRead (a : Act) (arg : Bytes)
  /-- PMATCH_WRITE (R456). A write to a profile slot's PMATCH sets its match and zeroes its counters. -/
  | pmatchWrite (hall slot : Nat) (value : DWord)
  /-- CCLK_MULT_WRITE (R462). A write of PWR_CCLK.MULT with every enable at 0 starts a PLL relock with CCLK gated. -/
  | cclkMultWrite (mult : BitVec 5)
  /-- PLL_RELOCK_DONE (R462). The CCLK PLL relocks and LOCK reads 1. -/
  | pllRelockDone
  /-- TIME_EXCHANGE_START (R466). Every PERIOD µs a child sends a TIME REQ to its parent. -/
  | timeExchangeStart
  /-- TIME_MESSAGE_RECEIVE (R466). A TIME message is timestamped; a REQ is answered with an RSP, and an RSP yields an offset. -/
  | timeMessageReceive (ctx : Nat) (msg : Bytes)
  /-- TIME_PARENT (R465). The TIME_PARENT action writes TB_PARENT. -/
  | timeParent (a : Act) (arg : Bytes)
  /-- POWER_STATE_ENTRY (R468). After IDLE µs of met conditions, the block lands the affected units and starts entry to the deepest allowed state. -/
  | powerStateEntry
  /-- MASK_ROM_BOOT (R474). From release, the block locks PLLs, measures, completes any pending transition, verifies and launches firmware, and raises enables. -/
  | maskRomBoot
  /-- RECOVERY_WRITE (R476). The RECOVERY_WRITE action writes image bytes to the slot, erasing sectors first. -/
  | recoveryWrite (a : Act) (arg : Bytes)
  /-- RECOVERY_COMMIT (R476). The RECOVERY_COMMIT action verifies the slot and performs a T3 on acceptance. -/
  | recoveryCommit (a : Act)
  /-- SHUTDOWN (R477). The SHUTDOWN action flushes atomics, saves every vault root and writes the root store. -/
  | shutdown (a : Act) (arg : Bytes)
  /-- ROOT_STORE_USE (R478). The ROOT_STORE_USE action names the serial S of the root store used for restore. -/
  | rootStoreUse (a : Act) (arg : Bytes)
  /-- WAKE (R504). The WAKE action sets WAKE_REQ until the block is in S0. -/
  | wake (a : Act)
  /-- XSPI_COMMAND (R479). XSPI_CMD GO issues one flash transaction. -/
  | xspiCommand (opcode length : Byte)
  /-- MGT_FRAME_RECEIVE (R484). The MAC takes a management frame, or drops and counts it on a bad address or FCS. -/
  | mgtFrameReceive (f : MgtFrame)
  /-- ANNOUNCE_RECEIVE (R487). A heard ANNOUNCE adds a node to the used set, or resolves a conflict by device ID. -/
  | announceReceive (m : Bytes)
  /-- CLAIM_RECEIVE (R487). A heard CLAIM of a held node is answered with DEFEND, or defeats a claim in progress. -/
  | claimReceive (m : Bytes)
  /-- DEFEND_RECEIVE (R487). A heard DEFEND defeats a claim in progress, or resolves a conflict by device ID. -/
  | defendReceive (m : Bytes)
  /-- CLAIM_LISTEN_END (R486). The 1.1 s listen ends and the block chooses the lowest free node to claim. -/
  | claimListenEnd
  /-- CLAIM_SEND (R486). A scheduled CLAIM is sent in the claim slot. -/
  | claimSend
  /-- CLAIM_WINDOW_END (R486). A claim window of 300 ms ends without challenge and the block takes the node. -/
  | claimWindowEnd
  /-- ANNOUNCE_SEND (R486). The holder sends ANNOUNCE every 1 s. -/
  | announceSend
  /-- NO_NODE_RETRY (R486). After 1 s in NO_NODE the block clears its used set and listens again. -/
  | noNodeRetry
  /-- PLCA_BEACON_LOSS (R483). Lost PLCA beacons make the MAC fall back as the standard prescribes and set BEACON_LOST. -/
  | plcaBeaconLoss
  /-- NEIGHBOR_SOLICITATION (R488). An ICMPv6 Neighbor Solicitation for the block's address is answered. -/
  | neighborSolicitation (target : Bytes)
  /-- ECHO_REQUEST (R488). An ICMPv6 Echo Request is answered. -/
  | echoRequest (payload : Bytes)
  /-- DTLS_CLIENT_HELLO (R489). A ClientHello is answered with a cookie retry and a handshake, or refused. -/
  | dtlsClientHello (h : Hello)
  /-- SESSION_END (R491). A session ends on close_notify or a fatal alert, closing its SPDM sessions and subscriptions. -/
  | sessionEnd (sess : Nat)
  /-- KEY_UPDATE (R489). A DTLS KeyUpdate is accepted, and the block sends one after every 2^24 records. -/
  | keyUpdate (sess : Nat)
  /-- CALL_SHEET_GET (R496). A GET returns an object's value or an action's result chunk, consuming a one-shot result at its last byte. -/
  | callSheetGet (sess : Nat) (msg : Bytes)
  /-- CALL_SHEET_SET (R497). A SET writes an object's value. -/
  | callSheetSet (sess : Nat) (msg : Bytes)
  /-- CALL_SHEET_GET_MULTI (R498). A GET_MULTI returns up to 64 object values. -/
  | callSheetGetMulti (sess : Nat) (msg : Bytes)
  /-- CALL_SHEET_ACTION (R499). An ACTION starts an action object's work and answers NOT_READY, or holds the answer under WAIT. -/
  | callSheetAction (sess : Nat) (msg : Bytes)
  /-- ACTION_WAIT_RESPONSE (R499). A WAIT action's response is sent once its result is complete. -/
  | actionWaitResponse (sess : Nat) (tag : Word)
  /-- CALL_SHEET_SUBSCRIBE (R500). A SUBSCRIBE creates or cancels a periodic or on-change subscription. -/
  | callSheetSubscribe (sess : Nat) (msg : Bytes)
  /-- SUBSCRIPTION_NOTIFY (R500). A due period or a detected change sends a notification for the subscription. -/
  | subscriptionNotify (sess : Nat) (tag : Word)
  /-- KEY_QUERY (R504). The KEY_QUERY action returns KV_QINFO and KV_QBUDGET for a handle. -/
  | keyQuery (a : Act) (arg : Bytes)
  /-- LOG_READ (R504). The LOG_READ action returns up to 40 fault log records. -/
  | logRead (a : Act) (arg : Bytes)
  /-- COUNTER_READ (R504). The COUNTER_READ action returns global counters when COUNTERS_GLOBAL is in force. -/
  | counterRead (a : Act) (arg : Bytes)
  /-- HALL_COUNTERS (R504). The HALL_COUNTERS action returns a hall's counters and profile slots. -/
  | hallCounters (a : Act) (arg : Bytes)
  /-- OTP_PROGRAM (R505). The OTP_PROGRAM action programs a blank OTP group for a permitted role and state. -/
  | otpProgram (a : Act) (arg : Bytes)
  /-- STREAM_QUERY (R504). The STREAM_QUERY action returns a link context's state and sequences. -/
  | streamQuery (a : Act) (arg : Bytes)
  /-- REGION_QUERY (R504). The REGION_QUERY action returns a region's line and tree state. -/
  | regionQuery (a : Act) (arg : Bytes)
  /-- REGION_INSTALL (R505). The REGION_INSTALL action derives region keys and runs REGION_WRITE. -/
  | regionInstall (a : Act) (arg : Bytes)
  /-- REGION_SEAL (R504). The REGION_SEAL action seals a reel region. -/
  | regionSeal (a : Act) (arg : Bytes)
  /-- REGION_ERASE (R504). The REGION_ERASE action crypto-erases a vault region under new handles. -/
  | regionErase (a : Act) (arg : Bytes)
  /-- REGION_FREE (R504). The REGION_FREE action frees a region and retires its handles. -/
  | regionFree (a : Act) (arg : Bytes)
  /-- FACTORY_CERT_WRITE (R471). The FACTORY_CERT_WRITE action writes bytes into the factory region of the flash. -/
  | factoryCertWrite (a : Act) (arg : Bytes)
  /-- CLOCK_LOSS (R397). A PLL loses lock, or a surroundings clock stops in a power state whose row of R54 requires it to run, and the power, clock and management unit raises CLK_LOSS. -/
  | clockLoss (pll : Bool) (clock : ClockDomain)
  /-- EXT_FAULT_FALL (R56). A synchronized fp_ext_fault_i level falls to 0 and, after 2 refclk cycles at 0, re-arms the input so that a later rise produces a new message. -/
  | extFaultFall (n : Nat)
  /-- OTP_VPP_OK (R59). otp_vpp_ok_i rises in answer to otp_vpp_req_o, and the block may then raise otp_pgm_o for the waiting OTP program. -/
  | otpVppOk
  /-- KEEPER_HALT_REQUEST (R111). A Keeper halt request under the KEEPER_HALT right halts the Keeper, or is refused with PERMISSION while CONSENT_MISSING is not 0. -/
  | keeperHaltRequest
  /-- PLCA_BEACON_SEEN (R483). A PLCA beacon from the coordinator is received, setting MGT_STATUS.BEACON and returning the follower from its beacon-loss fallback. -/
  | plcaBeaconSeen
  /-- DTLS_HANDSHAKE_FINISHED (R491). The client's final handshake flight arrives, its certificate chain and Finished are checked, and the session becomes live, evicting an idle session when 8 are live. -/
  | dtlsHandshakeFinished (sess : Nat) (chain : CertChain) (good : Bool)
deriving DecidableEq, Repr

end Sys2Proof
end

