-- ==== Sys2Proof/Decode.lean ====
section
/-! DEFINITION. The command that a word of the opcode table spells. No row of spec/opcode_table.json gives its command any
bits: the commands are events at the ports and register writes, so no word spells one. -/

namespace Sys2Proof

-- One declaration at a time, so that the elaborator holds few threads (each takes stack of its own).
set_option Elab.async false

/-- The command that a word spells by the table's bits: none, as the table gives bits to no row. -/
def decodeTableWord (nbits w : Nat) : Option Instr :=
  match nbits, w with
  | _, _ => none

end Sys2Proof
end

