-- ==== Sys2Proof/Machine/State.lean ====
section
/-! DEFINITION. The state of the block: every register, table, queue, counter, mode and pin that the spec gives it, one
structure for each subsystem of R22, and the state after reset. Every table is sparse (an unlisted entry reads as the
all-zero record), so that equal machines are equal data. -/

namespace Sys2Proof.Machine

-- One declaration at a time, so that the elaborator holds few threads (each takes stack of its own).
set_option Elab.async false

/-- A fault of the model: raised by no command of this block, which the spec never stops. Safe: nothing runs on it. -/
inductive Fault where
  /-- Never raised; the block has no stop of its own (R396 to R404 are effects on the state). Safe. -/
  | none
deriving DecidableEq, Repr

/-- A refusal of the model. -/
inductive Refusal where
  /-- Raised by the dispatcher for a command without a meaning yet. Safe: the machine stops where the part goes on. -/
  | notModelled (mnemonic : String)
deriving DecidableEq, Repr

/-- Addressed bytes: addresses strictly rising, no entry equal to what an unlisted address reads as. -/
abbrev Memory := List Host.Cell

/-- Who waits for an access, a line, a frame or a key (the answer goes to it). -/
inductive Owner where
  | none
  /-- Work item of a queue (R301). -/
  | work (id : Nat)
  /-- Line `line` of the running segment of mover `m` (R242); `store` marks the destination side. -/
  | mover (m line : Nat) (store : Bool)
  /-- Slot of a reduction unit (R257). -/
  | red (u slot : Nat)
  /-- Placement writes of sequence `seq` of an RX context (R249). -/
  | place (ctx seq : Nat)
  /-- Entry of the home line table (R273), unit `unit` of it. -/
  | home (entry unit : Nat)
  /-- Write-back or fill of a combining line (R275). -/
  | comb (entry : Nat)
  /-- cp_req tag (R46). -/
  | cp (tag : Nat)
  /-- The frame of a line request, of a node request (R193, R219). -/
  | line (id : Nat)
  | node (id : Nat)
  /-- A requester outside the modelled engines, by port and ticket. -/
  | port (port ticket : Nat)
deriving DecidableEq, Repr, Inhabited

/-- What leaves the block at a port or answers a requester, in the order it leaves. -/
inductive Out where
  | regRead (bus : Bus) (addr : Nat) (value : Word)
  | tlpAnswer (func : Nat) (data : Bytes)
  | tlpUnsupported (func : Nat)
  | hostRead (func tag : Nat) (addr : Nat) (len : Nat) (stream : Option Nat)
  | hostWrite (func : Nat) (addr : Nat) (data : Bytes) (stream : Option Nat)
  | ideTail (stream sub set : Nat) (mac : Bytes)
  | flrDone (func : Nat)
  | cpCmd (engine : Nat) (packet : Bytes)
  | cpRsp (tag : Nat) (status : Status) (data : Bytes)
  | mpReq (port tag : Nat) (we : Bool) (addr : Nat) (be : BitVec 128) (data : Bytes)
  | frame (lane : Nat) (dst : BitVec 16) (cls : BitVec 2) (bytes : Bytes)
  | voidFrame (lane : Nat)
  | laneDown (lane : Nat)
  | relay (lane : Nat) (bytes : Bytes)
  | stalled (unit : Nat)
  | status (owner : Owner) (status : Status) (data : Bytes)
  | keyAnswer (ticket : Nat) (status : Status)
  | msix (func vector : Nat)
  | spdm (t : Transport) (code : Byte) (body : Bytes)
  | spdmError (t : Transport) (code : Byte)
  | doe (vendor kind next : Nat)
  | ideKm (sid : Nat) (code : Byte) (body : Bytes)
  | tdisp (hall : Nat) (code : Byte) (body : Bytes)
  | tdispError (hall : Nat) (code : Nat)
  | callSheet (sess : Nat) (bytes : Bytes)
  | dtls (sess : Nat) (kind : Nat)
  | identity (sess : Nat) (certs : List Bytes)
  | segment (bytes : Bytes)
  | icmp (bytes : Bytes)
  | so (words : List Word)
  | scan (on : Bool) (chains : Byte)
  | xspi (opcode : Byte) (addr : Word) (data : Bytes)
  | otp (word : Nat) (bits : BitVec 39)
  | keeperIrq (cls : Nat)
  | keeperReset
  | dailiesEnd
deriving DecidableEq, Repr

/-! ### Buses and pins -/

/-- A read or write shadow of one bus: the register's address, if any, and the word held (R21). -/
structure Shadow where
  addr : Option Nat
  word : Word
deriving DecidableEq, Repr, Inhabited

/-- Both shadows of one bus (R21). -/
structure Shadows where
  rd : Shadow
  wr : Shadow
deriving DecidableEq, Repr, Inhabited

/-- Enables, levels, tie-offs and handshakes of the ports (02_ports.md). `granules` is the number of 2 MiB granules of local
memory that the integrator populates, `extHigh` the fault inputs that stand at 1 and have had their message, `extLatched` those that a
CUT stop holds back (R56, R443), `safeDrops` the posted TLPs to hall functions dropped in the safe state (R402). -/
structure Pins where
  hpEn : Bool
  cpEn : Bool
  miiEn : Bool
  lpEn : BitVec 4
  mpEn : BitVec 16
  mpPresent : BitVec 16
  granules : Nat
  laneUp : BitVec 64
  preempt : BitVec 16
  ptgt : BitVec 2
  preq : Bool
  pack : Bool
  pstate : BitVec 2
  wake : Bool
  extHigh : BitVec 8
  extLatched : BitVec 8
  safe : Bool
  fatal : Bool
  t4req : Bool
  por : Bool
  scanOn : Bool
  hpErrors : DWord
  safeDrops : DWord
  framing : Tab DWord
  mpCorrected : DWord
  shadowsKeeper : Shadows
  shadowsPage : Tab Shadows
  flr : List Nat
deriving DecidableEq, Repr, Inhabited

/-- An mp request without its answer (R47, R48). `addr` is the first byte wanted or written, `lines` the
64-byte lines that a read wants, `be` the mask of the bytes of `data`, `sent` whether it has left with
a tag; `hgen` and `gen` are the hall's and the requester's unit generation at the time of the request (R28, R430). -/
structure MpReq where
  id : Nat
  port : Nat
  tag : Nat
  we : Bool
  addr : Nat
  lines : Nat
  be : Nat
  data : Bytes
  hall : Nat
  hgen : BitVec 16
  owner : Owner
  unit : Nat
  gen : Byte
  sent : Bool
deriving DecidableEq, Repr, Inhabited

/-- A host read without its completion: tag, hall with its generation, bytes asked for, requester (R28, R42, R244). -/
structure HostRd where
  tag : Nat
  hall : Nat
  hgen : BitVec 16
  addr : Nat
  len : Nat
  owner : Owner
  unit : Nat
  gen : Byte
deriving DecidableEq, Repr, Inhabited

/-! ### Key vault -/

/-- A slot of the hot key cache (R73). -/
structure KeySlot where
  valid : Bool
  handle : Handle
  level : Nat
  parent : Nat
  hgen : BitVec 16
  expire : Bool
  budgetOn : Bool
  dpUse : Bool
  fastParent : Bool
  budget : Nat
  key : BitVec 256
deriving DecidableEq, Repr, Inhabited

/-- A request in the derivation queue, with every requester merged into it (R78). -/
structure Derivation where
  handle : Handle
  parent : Handle
  label : Bytes
  hgen : BitVec 16
  pinned : Bool
  attr : BitVec 4
  tickets : List (Nat × Nat)
deriving DecidableEq, Repr, Inhabited

/-- A key register of a pipe with its lease (R75, R76); `dropping` marks a retired key not dropped yet (R85). -/
structure PipeKey where
  valid : Bool
  handle : Handle
  slot : Nat
  hall : Nat
  hgen : BitVec 16
  key : BitVec 256
  lease : Nat
  dropping : Bool
deriving DecidableEq, Repr, Inhabited

/-- The key vault and derivation engine (R79 to R84). -/
structure Kv where
  go : Bool
  replace : Bool
  op : BitVec 4
  locked : Bool
  result : Status
  handle : Handle
  parent : Handle
  attr : BitVec 4
  budget : BitVec 48
  src : Word
  kmatch : Word
  pinK : BitVec 3
  label : Tab Word
  qinfo : Word
  qbudget : BitVec 48
  events : Word
  recur : Word
  slots : Tab KeySlot
  lru : List Nat
  queue : List Derivation
  stalled : List Derivation
  pipes : Tab PipeKey
  counters : Tab DWord
  region : Memory
deriving DecidableEq, Repr, Inhabited

/-! ### Life cycle and OTP -/

/-- What follows when the OTP words being programmed are done. -/
inductive OtpThen where
  | nothing
  | intent (target : Nat)
  | stateWord (target : Nat)
  | rollback (target : Nat)
  | group
  | l0
deriving DecidableEq, Repr, Inhabited

/-- The life-cycle and OTP controller (R91 to R113). -/
structure Lc where
  otp : Tab (BitVec 39)
  otpQueue : List (Nat × BitVec 39)
  otpThen : OtpThen
  otpBusy : Bool
  vppReq : Bool
  vppOk : Bool
  pgm : Bool
  tokenLock : Bool
  eraseDone : Bool
  result : Status
  go : Bool
  target : BitVec 3
  op : BitVec 4
  token : Tab Word
  nonce : BitVec 128
  nonceValid : Bool
  rollback : Nat
  consentMissing : Nat
  issuer : Bool
  rights : BitVec 6
  events : Word
  recur : Word
  running : Option Nat
  consents : List Nat
  halted : Bool
  otpAnswer : List (Nat × Nat)
deriving DecidableEq, Repr, Inhabited

/-! ### Attestation, SPDM, IDE, domain -/

/-- An SPDM session (R130). -/
structure Spdm where
  sid : Nat
  carrier : Nat
  finished : Bool
  messages : Nat
  secret : BitVec 384
  imported : List Handle
deriving DecidableEq, Repr, Inhabited

/-- The connection state of one transport of the responder (R127, R128), and the IDs of its sessions that have closed (R130). -/
structure SpdmConn where
  version : Bool
  caps : Bool
  algs : Bool
  sessions : List Spdm
  closed : List Nat
deriving DecidableEq, Repr, Inhabited

/-- An IDE stream: its state, configuration and the address association (R134 to R137). Number 64 is the link stream. -/
structure IdeStream where
  secure : Bool
  insecure : Bool
  regs : Tab Word
deriving DecidableEq, Repr, Inhabited

/-- An IDE key register (R134, R135): loaded, active, the set that the last K_SET_GO named, key, and the IVs used under it. -/
structure IdeKey where
  loaded : Bool
  active : Bool
  recent : Bool
  key : BitVec 256
  count : Nat
deriving DecidableEq, Repr, Inhabited

/-- The DOE mailbox of function 0 (R126): the object being written, the response being read, ready and error bits, and the
STOP_INTERFACE_REQUEST whose response is not ready: its session, its hall and the response's vendor header (R136). -/
structure DoeBox where
  inbuf : Bytes
  outbuf : Bytes
  ready : Bool
  error : Bool
  waits : Option (Nat × Nat × Bytes)
deriving DecidableEq, Repr, Inhabited

/-- A Slate asked for and not signed yet, or signed and not delivered (R133). -/
structure SlateReq where
  path : SlatePath
  nonce : Bytes
  sampled : Bool
  bytes : Bytes
deriving DecidableEq, Repr, Inhabited

/-- The attestation unit with its SPDM responder and the IDE and TDISP state (R116 to R139). -/
structure At where
  go : Bool
  index : BitVec 3
  op : BitVec 4
  result : Status
  layer : BitVec 3
  locks : BitVec 8
  events : Word
  recur : Word
  digest : Tab Word
  sig : BitVec 768
  pub : BitVec 768
  pubs : List (BitVec 768)
  certs : List Bytes
  meas : Tab Digest
  cdi : Digest
  layerKey : BitVec 384
  doe : SpdmConn
  doeBox : DoeBox
  callSheet : SpdmConn
  nextSid : Nat
  slates : List SlateReq
  ideKeys : Tab IdeKey
  ideStreams : Tab IdeStream
deriving DecidableEq, Repr, Inhabited

/-- An entry of a member plan (R141). -/
structure PlanEntry where
  peer : Nat
  hall : Nat
  hgen : BitVec 16
  stream : Byte
  rx : Bool
  handle : Handle
deriving DecidableEq, Repr, Inhabited

/-- A member entry of a manifest (R140). -/
structure Member where
  id : Nat
  device : DWord
  lost : Bool
  relayOnly : Bool
deriving DecidableEq, Repr, Inhabited

/-- Domain membership and the epoch step (R125, R140 to R146). -/
structure Dom where
  joined : Bool
  stepPending : Bool
  member : BitVec 13
  epoch : Word
  manifestBuf : Bytes
  planBuf : Bytes
  newManifest : Option Bytes
  newPlan : Option Bytes
  members : List Member
  manifest : Digest
  plan : List PlanEntry
  oldPlan : List PlanEntry
  signer : Option Digest
  joinSess : Nat
  root : Option Handle
  epochs : Tab Handle
  lost : List Nat
  nextEpoch : Word
  switched : Bool
  stepState : Nat
  retireSeen : Tab DWord
  retireDrops : DWord
  timeSent : Tab DWord
  nextIndex : Nat
deriving DecidableEq, Repr, Inhabited

/-! ### Link sealing -/

/-- A chunk offered to a TX context: frame type, LAST, payload, who supplied it, and its item (R156, R248). -/
structure Chunk where
  type : Byte
  last : Bool
  payload : Bytes
  owner : Owner
  hall : Nat
  item : Nat
  unit : Nat
  gen : Byte
deriving DecidableEq, Repr, Inhabited

/-- A non-posted request without its answer (R271). -/
structure Unanswered where
  rnum : Nat
  lines : Nat
  atomic : Bool
  owner : Owner
  unit : Nat
  gen : Byte
  addr : Nat
deriving DecidableEq, Repr, Inhabited

/-- A TX stream context (R148, R149, R156, R168, R169, R271). -/
structure TxCtx where
  live : Bool
  handle : Handle
  dst : BitVec 16
  stream : Byte
  cls : BitVec 2
  epoch : Bool
  lane : Nat
  alt : Option Nat
  onAlt : Bool
  nextSeq : Nat
  mark : Nat
  lastSent : Nat
  succOf : Option Nat
  broken : Bool
  waiting : Bool
  armed : Bool
  closing : Bool
  cached : Bool
  chunks : List Chunk
  openItem : Bool
  openBy : Owner
  items : Nat
  rnum : Nat
  unanswered : List Unanswered
  resync : Option Nat
deriving DecidableEq, Repr, Inhabited

/-- A frame that has verified and does not count as released yet (R160, R276): `taken` once its consumer has it, `writes` what
its release still waits for. A GAP with LOSS = 1 stands among them where placement meets it (R249). -/
structure HeldFrame where
  seq : Nat
  type : Byte
  last : Bool
  payload : Bytes
  taken : Bool
  writes : Nat
deriving DecidableEq, Repr, Inhabited

/-- Placement of the open item of an RX context (R249): whether an item is open, whether the next number is known and which it
is, skip, drop of the rest after a placement error, the kind, the address, LENGTH, running offset, and the reduction slot. -/
structure Place where
  midItem : Bool
  numberKnown : Bool
  nextItem : Nat
  skip : Bool
  drop : Bool
  red : Bool
  addr : Nat
  length : Nat
  off : Nat
  coll : Nat
  slot : Nat
  first : Nat
deriving DecidableEq, Repr, Inhabited

/-- An RX stream context (R148, R159, R160, R249, R250, R271). `holes` are the sequences at or below `top` whose window bit
is clear; `held` are the verified frames not yet counted as released. -/
structure RxCtx where
  live : Bool
  expander : Bool
  handle : Handle
  src : BitVec 16
  stream : Byte
  cls : BitVec 2
  epoch : Bool
  lane : Nat
  alt : Option Nat
  onAlt : Bool
  top : Nat
  holes : List Nat
  held : List HeldFrame
  succOf : Option Nat
  waiting : Bool
  broken : Bool
  tainted : Status
  losses : List (Nat × Status)
  kept : Status
  ahead : List Nat
  place : Place
  homeNum : Option Nat
  rspParts : List Bytes
  hall : Nat
  hgen : BitVec 16
deriving DecidableEq, Repr, Inhabited

/-- A frame presented at a lane and not wholly transferred (R156). -/
structure Presented where
  ctx : Nat
  seq : Nat
  bytes : Bytes
  chunk : Chunk
  isVoid : Bool
deriving DecidableEq, Repr, Inhabited

/-- One lane: the frame on its way out, and its relay counters (R156, R162, R174). -/
structure Lane where
  out : List Presented
  relayed : DWord
  relayDrops : DWord
deriving DecidableEq, Repr, Inhabited

/-- A link group's spares (R165, R179). -/
structure Spare where
  txLane : Option Nat
  rxLane : Option Nat
  txBad : Bool
  rxBad : Bool
deriving DecidableEq, Repr, Inhabited

/-- The link seal engines (R174 to R180). -/
structure Ls where
  go : Bool
  index : BitVec 9
  op : BitVec 4
  result : Status
  switchArmed : Bool
  switchDone : Bool
  arg0 : Word
  arg1 : Word
  arg2 : Word
  qinfo : Word
  qseq : DWord
  qfloor : DWord
  switchAt : DWord
  events : Word
  recur : Word
  tx : Tab TxCtx
  rx : Tab RxCtx
  lanes : Tab Lane
  spares : Tab Spare
  txBad : List Nat
  rxBad : List Nat
  counters : Tab DWord
deriving DecidableEq, Repr, Inhabited

/-! ### Pooled memory and the counter tree -/

/-- The states of a region (R206). -/
inductive RState where
  | free
  | active
  | writing
  | sealed
  | tainted
  | erasing
deriving DecidableEq, Repr, Inhabited

/-- A region descriptor of 64 bytes with its state (R184, R199, R202, R227). -/
structure Region where
  state : RState
  desc : Bytes
  cursor : Nat
  nkey : Handle
  newDesc : Bytes
  newNkey : Handle
  freeing : Bool
  sealing : Bool
  fromImage : Bool
deriving DecidableEq, Repr, Inhabited

/-- What a line request does (R196 to R198). -/
inductive LineOp where
  | read
  | write
  | partialRead
  | partialWrite
deriving DecidableEq, Repr, Inhabited

/-- An entry of the in-flight line table, or a request stalled before it (R195). `phase` is 0 while it waits for its line,
its counter or its keys, 1 with its LINE_RD out, 2 with its LINE_WR out, 3 with its response in and its keys missing;
`keyFail` says that a key it waited for has no parent (R78), `asked` that its counter operation has been counted (R231). -/
structure LineReq where
  id : Nat
  acc : LineAcc
  op : LineOp
  line : Nat
  be : BitVec 64
  data : Bytes
  ctr : Nat
  owner : Owner
  unit : Nat
  gen : Byte
  pipe : Nat
  phase : Nat
  keyFail : Bool
  asked : Bool
deriving DecidableEq, Repr, Inhabited

/-- The line seal engines (R203 to R207). `aborted` are the requests that a reset has answered, with their pipe: the response of each is
stale when it comes (R430). -/
structure Ln where
  go : Bool
  sealed : Bool
  index : BitVec 11
  op : BitVec 4
  result : Status
  qinfo : Word
  qcursor : DWord
  events : Word
  recur : Word
  desc : Tab Word
  regions : Tab Region
  inflight : List LineReq
  stalled : List LineReq
  nextReq : Nat
  target : Nat
  answer : List (Nat × Nat)
  retire : List Handle
  aborted : List (Nat × Nat)
  counters : Tab DWord
deriving DecidableEq, Repr, Inhabited

/-- A node of the tree: whether it is held on chip, its 16 counters, dirty since its last write-back, its snapshot in flight,
changed since that snapshot (R212, R220, R221). -/
structure Node where
  held : Bool
  counters : Tab Nat
  dirty : Bool
  inFlight : Bool
  changed : Bool
  stuck : Bool
deriving DecidableEq, Repr, Inhabited

/-- The tree states of a vault region (R234). -/
inductive TState where
  | none
  | active
  | saving
  | erasing
  | tainted
  | staged
deriving DecidableEq, Repr, Inhabited

/-- The tree of one vault region: root counters, nodes by level times 2^40 plus index, poison list of (level, index), staged
root, and the save or flush in progress with its level, and whether a write-back of it failed (R210, R224, R228, R230). -/
structure Tree where
  state : TState
  root : Tab Nat
  nodes : Tab Node
  poison : List (Nat × Nat)
  staged : Bytes
  busy : Bool
  level : Option Nat
  failed : Bool
  keep : Bool
  flush : Bool
deriving DecidableEq, Repr, Inhabited

/-- A node request without its answer: a fetch or a write-back of one to three nodes of one context, with the snapshots that
a write-back carries (R218, R219, R221, R222). -/
structure NodeReq where
  id : Nat
  region : Nat
  nodes : List (Nat × Nat)
  fetch : Bool
  snaps : List Bytes
  again : Bool
deriving DecidableEq, Repr, Inhabited

/-- A fetched node that is not verified yet, in the fetch staging buffer (R218). -/
structure Fetched where
  region : Nat
  level : Nat
  index : Nat
  bytes : Bytes
  bad : Bool
deriving DecidableEq, Repr, Inhabited

/-- The integrity tree unit (R231 to R236). -/
structure Tr where
  go : Bool
  keep : Bool
  index : Byte
  level : BitVec 4
  op : BitVec 4
  result : Status
  flushing : Bool
  nkey : Word
  qinfo : Word
  serial : DWord
  events : Word
  recur : Word
  blob : Tab Word
  trees : Tab Tree
  requests : List NodeReq
  nextReq : Nat
  fetched : List Fetched
  waits : List (Nat × Nat × Bool)
  lru : List (Nat × Nat × Nat)
  inject : Option (Nat × Nat)
  counters : Tab DWord
deriving DecidableEq, Repr, Inhabited

/-! ### Movers and reduction -/

/-- A write of a segment not issued yet: the source line it belongs to, the address it goes to, its bytes. Scale bytes go to hall
memory whatever the destination is, and `pos` is the first block that they are of (R239, R245). -/
structure MOut where
  scale : Bool
  pos : Nat
  addr : Nat
  data : Bytes
deriving DecidableEq, Repr, Inhabited

/-- The running segment of a mover (R242, R244): its class, source bytes, next source line to ask for, source lines asked for and
not in, within the segment and beyond it, source lines that are in, whether it writes, its writes not issued and not done, and the
statuses met by source line, within the segment and beyond it. -/
structure Seg where
  cls : Nat
  size : Nat
  next : Nat
  asked : Nat
  beyond : Nat
  lines : Tab (Status × Bytes)
  writing : Bool
  outs : List MOut
  posted : Nat
  errs : List (Nat × Status)
  late : List (Nat × Status)
deriving DecidableEq, Repr, Inhabited

/-- A mover descriptor with its progress (R239, R242, R252), a number of its own, and what has been asked for beyond its last
segment (R244). -/
structure MDesc where
  desc : Bytes
  work : Option Nat
  progress : Nat
  status : Status
  stopped : Bool
  started : Bool
  firstAt : Nat
  tag : Nat
  ahead : Option Seg
deriving DecidableEq, Repr, Inhabited

/-- A mover engine (R242, R253). -/
structure Mover where
  radio : List MDesc
  reserved : List MDesc
  spot : List MDesc
  seg : Option Seg
  tokens : List (Nat × BitVec 16)
  running : Nat
  nextTag : Nat
deriving DecidableEq, Repr, Inhabited

/-- The mover engines' registers (R262). -/
structure Mv where
  go : Bool
  mover : BitVec 4
  op : BitVec 4
  result : Status
  qinfo : Word
  qprog : DWord
  events : Word
  recur : Word
  desc : Tab Word
  movers : Tab Mover
  counters : Tab DWord
  placement : Tab DWord
deriving DecidableEq, Repr, Inhabited

/-- A slot of a reduction unit (R254 to R261, RD_QINFO of R263): `done` counts the wire bytes of the slice already processed,
`localBuf` is the slice's local operand in the wire format once fetched into staging. -/
structure RedSlot where
  state : Nat
  desc : Bytes
  work : Option Nat
  stage : Nat
  slice : Nat
  done : Nat
  fetched : Bool
  localBuf : Bytes
  inbuf : Bytes
  expectIn : Nat
  outbuf : Bytes
  stores : Nat
  sends : Nat
  ending : Status
  emitted : Bool
  opened : Bool
deriving DecidableEq, Repr, Inhabited

/-- The reduction units (R263). -/
structure Rd where
  go : Bool
  unit : BitVec 3
  slot : BitVec 2
  op : BitVec 4
  result : Status
  qinfo : Word
  qcoll : Word
  events : Word
  recur : Word
  slots : Tab RedSlot
  counters : Tab DWord
deriving DecidableEq, Repr, Inhabited

/-! ### Remote atomics -/

/-- An entry of the home line table (R273): a released REQ of an RX context, or a request of this block's own (`owner`), with
its units' targets (status, 0 for memory or region + 1, address), the units begun and done, and their results. `fixed` is an
entry that is answered with a status alone. -/
structure HomeReq where
  id : Nat
  ctx : Nat
  seq : Nat
  owner : Owner
  hall : Nat
  block : Bytes
  data : Bytes
  fixed : Option Status
  targets : List (Status × Nat × Nat)
  started : List Nat
  done : List Nat
  units : Tab (Status × Bytes)
deriving DecidableEq, Repr, Inhabited

/-- A line of the combining buffer (R275): its target as above, what waits on it (request, unit), and who waits for its present
or its next write-back: a SIGNAL by (context, sequence), a flush as (512, 0). -/
structure Comb where
  live : Bool
  hall : Nat
  region : Nat
  addr : Nat
  data : Bytes
  dirty : Bool
  filling : Bool
  writing : Bool
  evict : Bool
  waiting : List (Nat × Nat)
  sigs : List (Nat × Nat)
  sigsNext : List (Nat × Nat)
  reqHall : Nat
  reqAddr : Nat
  reqCtx : Nat
deriving DecidableEq, Repr, Inhabited

/-- The remote atomic unit (R280 to R283). -/
structure Au where
  go : Bool
  hall : BitVec 12
  op : BitVec 4
  result : Status
  flushing : Bool
  events : Word
  recur : Word
  queue : List HomeReq
  nextReq : Nat
  comb : Tab Comb
  lru : List Nat
  inject : Bool
  landing : Bool
  counters : Tab DWord
deriving DecidableEq, Repr, Inhabited

/-! ### Queues and the command processor -/

/-- The states of a queue, coded as QSTAT.STATE (R290). -/
inductive QState where
  | free
  | idle
  | ready
  | running
  | parked
  | stopped
  | dying
deriving DecidableEq, Repr, Inhabited

/-- A command buffer being executed: header, verified units by index (R292). -/
structure Buffer where
  addr : DWord
  header : Bytes
  units : Tab Bytes
deriving DecidableEq, Repr, Inhabited

/-- An open loop: first unit of the body, unit past it, iterations left, buffer depth (R302). -/
structure LoopRec where
  first : Nat
  past : Nat
  left : Nat
  depth : Nat
deriving DecidableEq, Repr, Inhabited

/-- What the front end is fetching for a queue (R289, R294). -/
inductive Fetch where
  | idle
  | ring
  | header (addr : DWord) (nonce : Option DWord)
  | chunk (c : Nat)
deriving DecidableEq, Repr, Inhabited

/-- A decoded SIGNAL not applied yet, with the work items issued before it (R300). -/
structure PendSignal where
  tkind : Nat
  obj : Nat
  value : DWord
  remote : Option (Nat × Nat)
  after : List Nat
deriving DecidableEq, Repr, Inhabited

/-- What a PARKED queue waits for (R320, R325, R326). -/
inductive Park where
  | none
  | fence (f : Nat) (target : DWord)
  | local (i : Nat) (amount : Word)
  | broadcast (i : Nat) (amount : Word)
deriving DecidableEq, Repr, Inhabited

/-- A queue (R286, R289, R299 to R307, R424). `fetched` is a fetch that waits for the command key, `keyFail`
says that the key's derivation found no parent. -/
structure Queue where
  state : QState
  stop : Status
  qgen : BitVec 16
  hall : Nat
  slot : Nat
  context : Nat
  ringBase : DWord
  ringLog2 : Nat
  ckey : Handle
  serial : Word
  slots : BitVec 16
  head : Word
  tail : Word
  done : Word
  qseq : DWord
  regs : Tab DWord
  scene : BitVec 24
  shot : BitVec 16
  kept : Status
  saved : Bool
  bufs : List (Buffer × Nat)
  loops : List LoopRec
  fetch : Fetch
  signals : List PendSignal
  park : Park
  active : Bool
  decoded : Nat
  acks : List Nat
  cause : Status
  t0 : Bool
  destroyFence : Option (Nat × DWord)
  byFe : Bool
  rangAt : Option Nat
  heldSince : Option Nat
  held : Nat
  fetched : Option Bytes
  keyFail : Bool
  retryHeld : Bool
  atomicAt : Option Nat
  answer : List (Nat × Nat)
deriving DecidableEq, Repr, Inhabited

/-- A work item issued and not completed (R300, R301, R378). An ATOMIC keeps its element's place and its request. -/
structure Work where
  live : Bool
  q : Nat
  qgen : BitVec 16
  hall : Nat
  engine : Nat
  reg : Option Nat
  scene : BitVec 24
  shot : BitVec 16
  bytes : Nat
  waited : Nat
  blocked : Option Nat
  began : Nat
  elem : Nat
  wide : Bool
  req : Bytes
deriving DecidableEq, Repr, Inhabited

/-- A compute engine slot as the front end sees it (R304, R383, R425). -/
structure EngSlot where
  owner : Option Nat
  launches : List Nat
  waiting : List Nat
  takeStart : Nat
  reservedFor : Option Nat
  lastIssued : Bool
  overrun : Bool
  tokens : List (Nat × BitVec 16)
deriving DecidableEq, Repr, Inhabited

/-- The front end and command processor (R308 to R312). -/
structure Fe where
  go : Bool
  queueArg : BitVec 14
  op : BitVec 4
  result : Status
  created : BitVec 14
  qinfo : Word
  qacks : Word
  events : Word
  recur : Word
  saveBase : DWord
  takeLimit : Word
  args : Tab Word
  queues : Tab Queue
  contexts : Tab (Option Nat)
  works : Tab Work
  nextWork : Nat
  slots : Tab EngSlot
  activeOrder : List Nat
  counters : Tab DWord
  cpErrors : DWord
  signalDrops : DWord
deriving DecidableEq, Repr, Inhabited

/-- Admission (R388 to R390). -/
structure Adm where
  radioActive : BitVec 7
  spotFloor : BitVec 13
  linkLimit : BitVec 16
  lineLimit : BitVec 16
  hostLimit : BitVec 16
  events : Word
  recur : Word
  latMax : Word
  sharedUsed : Nat
  turns : Tab (List (Nat × Nat))
  counters : Tab DWord
deriving DecidableEq, Repr, Inhabited

/-! ### Fences, semaphores, mailboxes -/

/-- A fence (R315). -/
structure Fence where
  value : DWord
  state : BitVec 2
  status : Status
  backward : Bool
  hall : Nat
  view : Nat
  pkind : BitVec 2
  producer : Nat
  notify : Bool
  nvec : Nat
deriving DecidableEq, Repr, Inhabited

/-- A semaphore (R325, R326). -/
structure Sem where
  alloc : Bool
  hall : Nat
  count : Word
deriving DecidableEq, Repr, Inhabited

/-- A mailbox of a host page (R334). -/
structure Mailbox where
  seq : BitVec 16
  result : Status
  len : Nat
  arg : Tab Word
  data : Bytes
deriving DecidableEq, Repr, Inhabited

/-- The fence and sync unit (R337 to R341). -/
structure Fs where
  go : Bool
  kind : BitVec 2
  obj : BitVec 16
  op : BitVec 4
  result : Status
  created : BitVec 16
  qinfo : Word
  qstat : Word
  qvalue : DWord
  events : Word
  recur : Word
  args : Tab Word
  fences : Tab Fence
  locals : Tab Sem
  broadcasts : Tab Sem
  parked : List Nat
  graph : List Nat
  walks : List Nat
  mailboxes : Tab Mailbox
  opIgnored : DWord
  counters : Tab DWord
deriving DecidableEq, Repr, Inhabited

/-! ### Halls and translation -/

/-- The states of a hall, coded as ITU_QINFO.STATE (R370). -/
inductive HState where
  | free
  | live
  | awaiting
  | frozen
  | moved
  | retiring
  | scrubbing
deriving DecidableEq, Repr, Inhabited

/-- The modes of a hall (R346, R370). -/
inductive HMode where
  | none
  | plain
  | sealed
deriving DecidableEq, Repr, Inhabited

/-- The TDI states (R136). -/
inductive Tdi where
  | unlocked
  | locked
  | run
  | error
deriving DecidableEq, Repr, Inhabited

/-- What began the retire of a hall (R345, R360, R515, R427). -/
inductive RetireBy where
  | none
  | reset
  | destroy
  | stop
  | tdiError
  | migrate
deriving DecidableEq, Repr, Inhabited

/-- A profile slot of a hall page (R456). -/
structure Profile where
  pmatch : DWord
  items : DWord
  bytes : DWord
  busy : DWord
  defer : DWord
deriving DecidableEq, Repr, Inhabited

/-- A hall (R344, R375, R380, R387, R456, R506). Leaves are kept by virtual page number of their first byte. `answer` holds who
waits for a freeze or a destroy, and `ready` the results that wait for the write of the root table entry (R351). -/
structure Hall where
  state : HState
  mode : HMode
  hgen : BitVec 16
  birth : Option Word
  tenant : Digest
  quota : Bytes
  create : Bytes
  root : Nat
  restored : Word
  hallKey : Handle
  leaves : Tab (BitVec 128)
  tables : Tab Nat
  tdi : Tdi
  lockNonce : BitVec 256
  mmioOff : DWord
  stream : Option Nat
  stopPending : Bool
  lockBusy : Bool
  retireBy : RetireBy
  joined : Bool
  drained : Bool
  freezing : Bool
  scrub : List Nat
  linkBucket : Int
  lineBucket : Int
  hostBucket : Int
  workUsed : Nat
  counters : Tab DWord
  profiles : Tab Profile
  msixTable : Tab Word
  msixPending : BitVec 8
  answer : List (Nat × Nat)
  ready : List ((Nat × Nat) × Status × Bytes)
deriving DecidableEq, Repr, Inhabited

/-- A granule of local memory (R349): 0 DIRTY, 1 CLEAN, 2 OWNED. -/
structure Granule where
  state : BitVec 2
  hall : Nat
deriving DecidableEq, Repr, Inhabited

/-- A TLB entry (R355). -/
structure TlbEntry where
  hall : Nat
  hgen : BitVec 16
  page : Nat
  size : BitVec 2
  leaf : BitVec 128
deriving DecidableEq, Repr, Inhabited

/-- A walk in flight (R355). -/
structure Walk where
  live : Bool
  req : ItuReq
  level : Nat
deriving DecidableEq, Repr, Inhabited

/-- An unmap in progress (R358): its pages with their leaves, what it waits for (memory requests, line requests, compute slots, REQ frames by context
and owner, home requests, combining lines), the tables it emptied, its fence. -/
structure Unmap where
  serial : Nat
  hall : Nat
  pages : List (Nat × BitVec 2)
  leaves : List (BitVec 128)
  mpWait : List Nat
  lineWait : List Nat
  slotWait : List Nat
  txWait : List (Nat × Nat)
  homeWait : List Nat
  combWait : List (Nat × Nat)
  tables : List Nat
  fence : Option (Nat × DWord)
  answer : List (Nat × Nat)
  byKeeper : Bool
deriving DecidableEq, Repr, Inhabited

/-- The instance translation unit (R368 to R371). -/
structure Itu where
  go : Bool
  hall : BitVec 12
  op : BitVec 5
  result : Status
  qinfo : Word
  events : Word
  recur : Word
  arena : DWord
  arenaSize : Word
  args : Tab Word
  halls : Tab Hall
  granules : Tab Granule
  tlb : List TlbEntry
  walks : Tab Walk
  nextWalk : Nat
  unmaps : List Unmap
  nextUnmap : Nat
  counters : Tab DWord
deriving DecidableEq, Repr, Inhabited

/-! ### Fault collector, hang watch, debug -/

/-- A fault record at its source: kind, class, hall, address, detail word, injected, sequence, detection time (R393). -/
structure FRec where
  kind : Nat
  cls : Nat
  hall : Nat
  addr : BitVec 48
  detail : Word
  inj : Bool
  seq : Byte
deriving DecidableEq, Repr, Inhabited

/-- A record of the log: the message, D and the detection time (R399). -/
structure LogRec where
  msg : BitVec 128
  detail : Word
  time : DWord
deriving DecidableEq, Repr, Inhabited

/-- The fault collector (R399 to R416). -/
structure Fcu where
  lock : Bool
  autoT3 : Bool
  hold : Byte
  irqClass : BitVec 3
  c3Limit : BitVec 4
  safe : Bool
  polErr : BitVec 8
  events : Word
  recur : Word
  armed : Bool
  injKind : Byte
  injSource : BitVec 12
  c3Count : Tab Nat
  inT2 : BitVec 4
  retired : BitVec 4
  logHead : Word
  logTail : Word
  first : LogRec
  policy : Tab Word
  counters : Tab DWord
  log : Tab LogRec
  fifo : Tab (List FRec)
  seqs : Tab Byte
  expect : Tab Byte
  safeAt : Nat
deriving DecidableEq, Repr, Inhabited

/-- A watched object (R418 to R421): progress since the last boundary, miss count, suspect, in its retake, the queues whose work it
held and the queue of its stalled item when it became a suspect, the time of its last progress. -/
structure Watch where
  moved : Bool
  misses : Nat
  suspect : Bool
  retake : Bool
  held : List Nat
  stall : Option Nat
  lastAt : Nat
deriving DecidableEq, Repr, Inhabited

/-- A tread in progress (R423): number 0 to 3, target (for T0 a queue, or 0x10000 + context), whether an injection makes its window count
as missed (R438), whether its window has been missed, and the commands that wait for it. -/
structure Tread where
  tread : Nat
  target : Nat
  missed : Bool
  late : Bool
  byKeeper : Bool
  answer : List (Nat × Nat)
deriving DecidableEq, Repr, Inhabited

/-- The hang watch and reset sequencer (R432 to R437). Watched objects: queue IDs, 0x10000 + unit ID, and 0x20000 + 4 u + k for slot k of
reduction unit u. `landing` are the units in Landing or kept in reset. -/
structure Hr where
  go : Bool
  tread : BitVec 3
  op : BitVec 4
  result : Status
  autoT0 : Bool
  t0Context : Bool
  autoEsc : Bool
  drain : BitVec 5
  window : BitVec 24
  target : Word
  qinfo : Word
  guilty : Word
  slotsOut : BitVec 16
  events : Word
  recur : Word
  counters : Tab DWord
  stale : Tab DWord
  gens : Tab Byte
  watch : Tab Watch
  treads : List Tread
  landing : List Nat
deriving DecidableEq, Repr, Inhabited

/-- A Rushes ring: events written since it was last cleared, and the last 256 records, oldest first (R451, R452). -/
structure Ring where
  count : Nat
  recs : List (BitVec 128)
deriving DecidableEq, Repr, Inhabited

/-- The debug and trace unit (R457 to R460). `halted` are the clock domains that have come to their stop edge (R441). -/
structure Dbg where
  go : Bool
  flags : Byte
  serialOp : BitVec 16
  cutState : BitVec 2
  late : Bool
  dailiesCut : Bool
  frozen : Bool
  moved : Bool
  result : Status
  events : Word
  recur : Word
  cutT : DWord
  resumeT : DWord
  ringSel : Word
  rdata : BitVec 128
  armStop : DWord
  armResume : DWord
  armSerial : BitVec 16
  armFlags : Byte
  lastOrder : BitVec 16
  records : Nat
  dailiesDone : Bool
  dailiesEnd : Nat
  lateList : List (Nat × Nat)
  halted : List Nat
  rings : Tab Ring
  counters : Tab DWord
deriving DecidableEq, Repr, Inhabited

/-! ### Power, clocks, boot, management -/

/-- Where the block stands between reset and service (R474 to R476). -/
inductive Phase where
  | held
  | rom
  | firmware
  | recovery
  | scrap
deriving DecidableEq, Repr, Inhabited

/-- A timebase exchange of the child (R466). -/
structure TimeEx where
  active : Bool
  number : BitVec 16
  t1 : DWord
  prevT1 : Option DWord
  prevT2 : DWord
  prevT4 : DWord
  good : Nat
  parentT3 : DWord
deriving DecidableEq, Repr, Inhabited

/-- A local timebase copy: ticks, the numerator of its fraction, and whether it holds (R30, R31). -/
structure TbCopy where
  ticks : Nat
  frac : Nat
  hold : Bool
deriving DecidableEq, Repr, Inhabited

/-- The SHUTDOWN in progress (R477): who asked, its stage (0 the flush is to start, 1 it runs, 2 a save is to start, 3 it runs), the
serial, the regions still to save, the blobs saved with their regions. -/
structure Shut where
  running : Bool
  sess : Nat
  stage : Nat
  serial : DWord
  left : List Nat
  blobs : List (Nat × Bytes)
deriving DecidableEq, Repr, Inhabited

/-- The power, clock and management unit without its MAC (R462 to R481). `erased` are the sectors of the image slot that this
recovery has erased (R476), `sram` the image body that the boot loaded at offset 0 of the Keeper SRAM (R472). -/
structure Pwr where
  maxState : BitVec 2
  idle : BitVec 16
  lockBit : Bool
  wakeReq : Bool
  shutDone : Bool
  recoveryBit : Bool
  events : Word
  recur : Word
  mult : BitVec 5
  xspiDiv : BitVec 2
  mode8d : Bool
  xspiGo : Bool
  xspiOp : Byte
  xspiLen : Byte
  xspiAddr : Word
  xspiData : Tab Word
  writeEnable : Bool
  ltol : Word
  master : Nat
  masterFrac : Int
  slew : Int
  holdUntil : Nat
  rate : Word
  parent : Word
  period : BitVec 16
  portAdj : BitVec 12
  tbLocked : Bool
  tbOffset : BitVec 31
  exch : TimeEx
  copies : Tab TbCopy
  entering : Bool
  voided : Bool
  phase : Phase
  afterT3 : Bool
  bootImage : Digest
  sram : Bytes
  reason : Nat
  secver : BitVec 16
  rootStore : Option DWord
  shut : Shut
  erased : List Nat
  flash : Memory
deriving DecidableEq, Repr, Inhabited

/-- The node claim (R486): 0 listening, 1 claiming, 2 claimed, 3 NO_NODE. -/
structure Claim where
  state : BitVec 3
  node : Nat
  used : List Nat
  candidate : Nat
  sends : Nat
deriving DecidableEq, Repr, Inhabited

/-- The mailbox of an action object in one session (R494, R335). -/
structure ActBox where
  obj : Nat
  result : Status
  data : Bytes
  oneShot : Bool
  waitTag : Option Word
deriving DecidableEq, Repr, Inhabited

/-- A subscription (R500). -/
structure Sub where
  tag : Word
  obj : Nat
  period : Word
  last : Bytes
deriving DecidableEq, Repr, Inhabited

/-- A management session (R489 to R501). -/
structure Session where
  live : Bool
  cid : Nat
  handshaking : Bool
  leaf : Digest
  root : Digest
  anchored : Bool
  idleSince : Nat
  sent : Nat
  boxes : List ActBox
  kept : List (Word × Bytes)
  outstanding : List Word
  subs : List Sub
  notified : Nat
deriving DecidableEq, Repr, Inhabited

/-- The management port (R483 to R513). `deferred` holds the accepted actions that wait for the block to be in S0 (R499). -/
structure Mgt where
  plcaEn : Bool
  toTimer : Byte
  claimId : Byte
  beacon : Bool
  events : Word
  recur : Word
  claim : Claim
  sessions : Tab Session
  nextSession : Nat
  anchor : Digest
  deferred : List (Act × Nat × Bytes)
  counters : Tab DWord
deriving DecidableEq, Repr, Inhabited

/-! ### The machine -/

/-- The whole block, and the queue of waiting commands. -/
structure State where
  pending : List Instr
  conf : Conf
  pins : Pins
  mp : List MpReq
  mpNext : Nat
  hostReads : List HostRd
  kv : Kv
  lc : Lc
  att : At
  dom : Dom
  ls : Ls
  ln : Ln
  tr : Tr
  mv : Mv
  rd : Rd
  au : Au
  fe : Fe
  adm : Adm
  fs : Fs
  itu : Itu
  fcu : Fcu
  hr : Hr
  dbg : Dbg
  pwr : Pwr
  mgt : Mgt
  draws : Nat
  frees : Nat
  out : List Out
deriving DecidableEq, Repr

/-- FCU_POLICY after reset: the defaults of R397, SAFE for the C4 kinds and for EXT_FAULT (R400). -/
def fcuPolicyReset : Tab Word := [(0, 0x142D18#32), (2, 0x8#32), (3, 0x40408#32), (4, 0x8#32)]

/-- The state after power-on reset: every field at the value the spec gives for reset, every other field all-zero. -/
def State.reset : State where
  pending := []
  conf := .f
  pins := { (default : Pins) with mpPresent := 0xFFFF#16, granules := 524288 }
  mp := []
  mpNext := 0
  hostReads := []
  kv := { (default : Kv) with attr := 8#4, pinK := 4#3 }
  lc := { (default : Lc) with rights := 0x3F#6 }
  att := default
  dom := default
  ls := default
  ln := default
  tr := default
  mv := { (default : Mv) with qinfo := 0x18000#32 }
  rd := default
  au := default
  fe := { (default : Fe) with takeLimit := 94#32 }
  adm := { (default : Adm) with
    radioActive := 16#7, spotFloor := 1024#13, linkLimit := 18432#16, lineLimit := 11059#16, hostLimit := 1080#16 }
  fs := default
  itu := default
  fcu := { (default : Fcu) with autoT3 := true, hold := 10#8, irqClass := 1#3, c3Limit := 2#4, policy := fcuPolicyReset }
  hr := { (default : Hr) with autoT0 := true, autoEsc := true, drain := 16#5, window := 100#24 }
  dbg := default
  pwr := { (default : Pwr) with
    maxState := 3#2, idle := 10#16, mult := 24#5, xspiDiv := 3#2, period := 125#16, phase := .rom }
  mgt := { (default : Mgt) with plcaEn := true, toTimer := 32#8, claimId := 16#8 }
  draws := 0
  frees := 0
  out := []

end Sys2Proof.Machine
end

