-- ==== Sys2Proof/Machine/Ops.lean ====
section
/-! DEFINITION. The named operations over bits, bytes, sparse tables and addressed bytes, the one update function of each
subsystem, and what leaves the block. Every other file of the machine goes through these. -/

namespace Sys2Proof

-- One declaration at a time, so that the elaborator holds few threads (each takes stack of its own).
set_option Elab.async false

/-! ### Bits and bytes (R16: bit 0 least significant, little-endian) -/

/-- Bits [lo+len-1 : lo] of a number. -/
def bits (n lo len : Nat) : Nat := (n >>> lo) % 2 ^ len

/-- Bit `i` of a number. -/
def bitAt (n i : Nat) : Bool := n.testBit i

/-- 1 for true, 0 for false. -/
def b2n (b : Bool) : Nat := if b then 1 else 0

/-- The number a little-endian byte string spells. -/
def leNat : Bytes → Nat
  | [] => 0
  | b :: bs => b.toNat + 256 * leNat bs

/-- The low `len` bytes of a number, byte 0 first. -/
def natLe : Nat → Nat → Bytes
  | _, 0 => []
  | n, len + 1 => BitVec.ofNat 8 n :: natLe (n / 256) len

/-- The number a most-significant-first byte string spells. -/
def beNat (bs : Bytes) : Nat := leNat bs.reverse

/-- The low `len` bytes of a number, most significant byte first. -/
def natBe (n len : Nat) : Bytes := (natLe n len).reverse

/-- `len` bytes of a string from `off`; bytes past its end read as absent. -/
def sub (bs : Bytes) (off len : Nat) : Bytes := (bs.drop off).take len

/-- The little-endian number in `len` bytes from `off`. -/
def num (bs : Bytes) (off len : Nat) : Nat := leNat (sub bs off len)

/-- The byte string cut or filled with zero bytes to `len` bytes. -/
def fit (bs : Bytes) (len : Nat) : Bytes := bs.take len ++ List.replicate (len - bs.length) 0#8

/-- Every byte is zero. -/
def allZero (bs : Bytes) : Bool := bs.all (· == 0#8)

/-- The string with `new` written over it from `off` (the string is long enough). -/
def overwrite (bs : Bytes) (off : Nat) (new : Bytes) : Bytes := bs.take off ++ new ++ bs.drop (off + new.length)

/-- The bytes of `new` where the mask bit is 1, of `old` where it is 0; mask bit i enables byte i. -/
def mergeBytes (old new : Bytes) (be : Nat) : Bytes :=
  (List.range old.length).map fun i => if be.testBit i then new.getD i 0#8 else old.getD i 0#8

/-- A string cut into pieces of `k` bytes (`k` positive), the last one shorter if need be; at most `fuel` pieces. -/
def pieces (k : Nat) : Nat → Bytes → List Bytes
  | 0, _ => []
  | fuel + 1, bs => if bs.isEmpty then [] else bs.take k :: pieces k fuel (bs.drop k)

/-- Division rounded up (`b` positive). -/
def cdiv (a b : Nat) : Nat := (a + b - 1) / b

/-- A number with `len` bits from `lo` replaced. -/
def setBits (n lo len v : Nat) : Nat := n - (bits n lo len) * 2 ^ lo + (v % 2 ^ len) * 2 ^ lo

/-! ### Sparse tables -/

/-- Insertion into a list with strictly rising keys; the value `d` is what an unlisted key reads as and is never listed. -/
def insertKey {α : Type} [DecidableEq α] (d : α) (k : Nat) (v : α) : List (Nat × α) → List (Nat × α)
  | [] => if v = d then [] else [(k, v)]
  | (k', v') :: rest =>
    if k < k' then (if v = d then (k', v') :: rest else (k, v) :: (k', v') :: rest)
    else if k = k' then (if v = d then rest else (k, v) :: rest)
    else (k', v') :: insertKey d k v rest

/-- The value listed for a key, or `d`. -/
def readKey {α : Type} (d : α) (k : Nat) : List (Nat × α) → α
  | [] => d
  | (k', v') :: rest => if k = k' then v' else readKey d k rest

/-- Keys strictly rising from `lo` and no listed value equal to `d`. -/
def keysOk {α : Type} [DecidableEq α] (d : α) : Nat → List (Nat × α) → Bool
  | _, [] => true
  | lo, (k, v) :: rest => decide (lo ≤ k) && decide (v ≠ d) && keysOk d (k + 1) rest

/-- Read of a table. -/
def Tab.get {α : Type} [Inhabited α] (t : Tab α) (k : Nat) : α := readKey default k t

/-- Write of a table. -/
def Tab.set {α : Type} [Inhabited α] [DecidableEq α] (t : Tab α) (k : Nat) (v : α) : Tab α := insertKey default k v t

/-- Change of one entry of a table. -/
def Tab.mod {α : Type} [Inhabited α] [DecidableEq α] (t : Tab α) (k : Nat) (f : α → α) : Tab α := Tab.set t k (f (Tab.get t k))

/-- A table is in its canonical form. -/
def Tab.wf {α : Type} [Inhabited α] [DecidableEq α] (t : Tab α) : Bool := keysOk default 0 t

/-- The keys listed, rising. -/
def Tab.keys {α : Type} (t : Tab α) : List Nat := t.map (·.1)

/-- A counter of 64 bits goes up by `n`; it saturates nowhere in the spec and wraps at 2^64. -/
def Tab.bump (t : Tab DWord) (k n : Nat) : Tab DWord := Tab.mod t k (· + BitVec.ofNat 64 n)

/-- The first key below `fuel + k` from `k` whose entry meets `p`. -/
def firstFrom (p : Nat → Bool) : Nat → Nat → Option Nat
  | 0, _ => none
  | fuel + 1, k => if p k then some k else firstFrom p fuel (k + 1)

/-- Applies a state change once for each element, in order. -/
def forAll {σ α : Type} (l : List α) (f : α → σ → σ) (s : σ) : σ := l.foldl (fun s a => f a s) s

namespace Machine

/-! ### Addressed bytes -/

/-- What an unwritten byte of the Keeper key region reads as (R88: zeroed). -/
def keyRegionFill : Byte := 0#8

/-- What an unwritten byte of the boot flash reads as: erased NOR flash. DESIGN CHOICE, assumption 4. -/
def flashFill : Byte := 0xFF#8

/-- Memory in its canonical form over the fill byte `d`. -/
def Memory.wf (d : Byte) (m : Memory) : Bool := keysOk d 0 m

/-- One byte. -/
def Memory.read (d : Byte) (m : Memory) (a : Nat) : Byte := readKey d a m

/-- Write of one byte. -/
def Memory.write (d : Byte) (m : Memory) (a : Nat) (b : Byte) : Memory := insertKey d a b m

/-- `len` bytes from `a`. -/
def Memory.readBytes (d : Byte) (m : Memory) (a len : Nat) : Bytes :=
  (List.range len).map fun i => Memory.read d m (a + i)

/-- Write of a byte string from `a`. -/
def Memory.writeBytes (d : Byte) (m : Memory) (a : Nat) : Bytes → Memory
  | [] => m
  | b :: bs => Memory.writeBytes d (Memory.write d m a b) (a + 1) bs

/-! ### One update function for each subsystem -/

namespace State

def updPins (f : Pins → Pins) (s : State) : State := { s with pins := f s.pins }
def updKv (f : Kv → Kv) (s : State) : State := { s with kv := f s.kv }
def updLc (f : Lc → Lc) (s : State) : State := { s with lc := f s.lc }
def updAt (f : At → At) (s : State) : State := { s with att := f s.att }
def updDom (f : Dom → Dom) (s : State) : State := { s with dom := f s.dom }
def updLs (f : Ls → Ls) (s : State) : State := { s with ls := f s.ls }
def updLn (f : Ln → Ln) (s : State) : State := { s with ln := f s.ln }
def updTr (f : Tr → Tr) (s : State) : State := { s with tr := f s.tr }
def updMv (f : Mv → Mv) (s : State) : State := { s with mv := f s.mv }
def updRd (f : Rd → Rd) (s : State) : State := { s with rd := f s.rd }
def updAu (f : Au → Au) (s : State) : State := { s with au := f s.au }
def updFe (f : Fe → Fe) (s : State) : State := { s with fe := f s.fe }
def updAdm (f : Adm → Adm) (s : State) : State := { s with adm := f s.adm }
def updFs (f : Fs → Fs) (s : State) : State := { s with fs := f s.fs }
def updItu (f : Itu → Itu) (s : State) : State := { s with itu := f s.itu }
def updFcu (f : Fcu → Fcu) (s : State) : State := { s with fcu := f s.fcu }
def updHr (f : Hr → Hr) (s : State) : State := { s with hr := f s.hr }
def updDbg (f : Dbg → Dbg) (s : State) : State := { s with dbg := f s.dbg }
def updPwr (f : Pwr → Pwr) (s : State) : State := { s with pwr := f s.pwr }
def updMgt (f : Mgt → Mgt) (s : State) : State := { s with mgt := f s.mgt }
def setMp (l : List MpReq) (s : State) : State := { s with mp := l }
def setHostReads (l : List HostRd) (s : State) : State := { s with hostReads := l }
def setMpNext (n : Nat) (s : State) : State := { s with mpNext := n }

/-- Something leaves the block; the newest stands first. -/
def emit (o : Out) (s : State) : State := { s with out := o :: s.out }

/-- The next value of the entropy source, and the state that has used it up. -/
def draw (s : State) : BitVec 384 := Config.drawn s.draws
def drew (s : State) : State := { s with draws := s.draws + 1 }

/-- A value that the spec leaves open, and the state that has used it up. -/
def open64 (s : State) : BitVec 64 := Config.freeValue s.frees
def opened (s : State) : State := { s with frees := s.frees + 1 }

end State

/-- What a meaning answers: the commands of this block never stop (R26, R396). -/
abbrev Answer := Host.Outcome State Fault Refusal

/-- The machine goes on in this state. -/
abbrev goOn (s : State) : Answer := .next s

end Machine

end Sys2Proof
end

