-- ==== Sys2Proof/Machine/Crypto.lean ====
section
/-! DEFINITION. The modes of operation that the spec builds on AES-256 and SHA-384: counter mode, GCM and GMAC (R153-R155,
R293), CMAC and the counter-mode KDFs (R66), AES Key Wrap (R86), HMAC and HKDF-Expand (R66, R130), and the CRC-32 of R448.
The primitives themselves are cited by the spec and stand without a body in Config. -/

namespace Sys2Proof.Machine.Crypto

-- One declaration at a time, so that the elaborator holds few threads (each takes stack of its own).
set_option Elab.async false

/-- A 16-byte string as a block, first byte most significant. -/
def block (b : Bytes) : BitVec 128 := BitVec.ofNat 128 (beNat (fit b 16))

/-- A block as 16 bytes. -/
def unblock (b : BitVec 128) : Bytes := natBe b.toNat 16

/-- A 256-bit key from 32 bytes, first byte most significant. -/
def keyOf (b : Bytes) : BitVec 256 := BitVec.ofNat 256 (beNat (fit b 32))

/-- The 32 bytes of a key. -/
def keyBytes (k : BitVec 256) : Bytes := natBe k.toNat 32

/-- The 48 bytes of a SHA-384 value. -/
def digestBytes (d : Digest) : Bytes := natBe d.toNat 48

/-- A SHA-384 value from 48 bytes. -/
def digestOf (b : Bytes) : Digest := BitVec.ofNat 384 (beNat (fit b 48))

/-- AES-256 on a block. -/
def aes (k : BitVec 256) (x : BitVec 128) : BitVec 128 := Config.aes256 k x

/-- XOR of two byte strings, as long as the first. -/
def xorBytes (a b : Bytes) : Bytes := (List.range a.length).map fun i => a.getD i 0#8 ^^^ b.getD i 0#8

/-- Is every bit of the two strings the same? -/
def same (a b : Bytes) : Bool := a == b

/-! ### Counter mode and GCM -/

/-- The low 32 bits of a counter block go up by one modulo 2^32. -/
def inc32 (x : BitVec 128) : BitVec 128 :=
  BitVec.ofNat 128 (x.toNat / 2 ^ 32 * 2 ^ 32 + (x.toNat % 2 ^ 32 + 1) % 2 ^ 32)

/-- Key stream of `n` blocks from counter block `c`. -/
def keyStream (k : BitVec 256) : Nat → BitVec 128 → Bytes
  | 0, _ => []
  | n + 1, c => unblock (aes k c) ++ keyStream k n (inc32 c)

/-- Counter mode from counter block `c`: encryption and decryption alike. -/
def ctr (k : BitVec 256) (c : BitVec 128) (data : Bytes) : Bytes := xorBytes data (keyStream k (cdiv data.length 16) c)

/-- One step of the multiplication in GF(2^128) of GCM. -/
def gfStep (x : BitVec 128) (acc : BitVec 128 × BitVec 128) (i : Nat) : BitVec 128 × BitVec 128 :=
  let z := if x.toNat.testBit (127 - i) then acc.1 ^^^ acc.2 else acc.1
  let v := if acc.2.toNat.testBit 0 then (acc.2 >>> 1) ^^^ (0xE1#128 <<< 120) else acc.2 >>> 1
  (z, v)

/-- Multiplication in GF(2^128) with GCM's bit order. -/
def gfMul (x y : BitVec 128) : BitVec 128 := ((List.range 128).foldl (gfStep x) (0#128, y)).1

/-- GHASH over a string, filled with zero bytes to whole blocks. -/
def ghashFrom (h : BitVec 128) (y : BitVec 128) (b : Bytes) : BitVec 128 :=
  (pieces 16 (cdiv b.length 16) b).foldl (fun y p => gfMul (y ^^^ block p) h) y

/-- GHASH of the additional data and the ciphertext with their bit lengths. -/
def ghash (h : BitVec 128) (aad c : Bytes) : BitVec 128 :=
  let y := ghashFrom h 0#128 aad
  let y := ghashFrom h y c
  ghashFrom h y (natBe (8 * aad.length) 8 ++ natBe (8 * c.length) 8)

/-- The first counter block of a 96-bit IV. -/
def j0 (iv : Bytes) : BitVec 128 := block (fit iv 12 ++ [0#8, 0#8, 0#8, 1#8])

/-- The GCM tag. -/
def gcmTag (k : BitVec 256) (iv aad c : Bytes) : Bytes :=
  unblock (ghash (aes k 0#128) aad c ^^^ aes k (j0 iv))

/-- GCM encryption: ciphertext and 16-byte tag. -/
def gcmSeal (k : BitVec 256) (iv aad plain : Bytes) : Bytes × Bytes :=
  let c := ctr k (inc32 (j0 iv)) plain
  (c, gcmTag k iv aad c)

/-- GCM decryption: the plaintext when the tag verifies. -/
def gcmOpen (k : BitVec 256) (iv aad c tag : Bytes) : Option Bytes :=
  if same (gcmTag k iv aad c) tag then some (ctr k (inc32 (j0 iv)) c) else none

/-! ### CMAC -/

/-- Doubling in GF(2^128) as SP 800-38B defines it. -/
def dbl (x : BitVec 128) : BitVec 128 := if x.toNat.testBit 127 then (x <<< 1) ^^^ 0x87#128 else x <<< 1

/-- CMAC-AES-256. -/
def cmac (k : BitVec 256) (m : Bytes) : BitVec 128 :=
  let k1 := dbl (aes k 0#128)
  let n := if m.length = 0 then 1 else cdiv m.length 16
  let last := m.drop (16 * (n - 1))
  let tail := if last.length = 16 then block last ^^^ k1 else block (last ++ [0x80#8]) ^^^ dbl k1
  let y := (pieces 16 (n - 1) (m.take (16 * (n - 1)))).foldl (fun y p => aes k (y ^^^ block p)) 0#128
  aes k (y ^^^ tail)

/-! ### HMAC and the KDFs -/

/-- HMAC-SHA-384 under a key of at most 128 bytes. -/
def hmac (key m : Bytes) : Digest :=
  let k := fit key 128
  let pad (b : Byte) : Bytes := k.map (· ^^^ b)
  Config.sha384 (pad 0x5C#8 ++ digestBytes (Config.sha384 (pad 0x36#8 ++ m)))

/-- The input of iteration i of the counter-mode KDF (R66). -/
def kdfInput (i : Nat) (label ctx : Bytes) : Bytes := natBe i 4 ++ fit label 64 ++ [0#8] ++ fit ctx 4 ++ natBe 256 4

/-- The key that HMAC-SHA-384 derives: the leftmost 256 bits (R66). -/
def deriveHmac (parent : BitVec 256) (label ctx : Bytes) : BitVec 256 :=
  keyOf ((digestBytes (hmac (keyBytes parent) (kdfInput 1 label ctx))).take 32)

/-- The key that CMAC-AES-256 derives: iterations 1 and 2 (R66). -/
def deriveCmac (parent : BitVec 256) (label : Bytes) : BitVec 256 :=
  keyOf (unblock (cmac parent (kdfInput 1 label [])) ++ unblock (cmac parent (kdfInput 2 label [])))

/-- One 48-byte output block of HKDF-Expand after another. -/
def hkdfBlocks (prk info : Bytes) : Nat → Nat → Bytes → Bytes
  | 0, _, _ => []
  | fuel + 1, i, prev =>
    let t := digestBytes (hmac prk (prev ++ info ++ [BitVec.ofNat 8 i]))
    t ++ hkdfBlocks prk info fuel (i + 1) t

/-- HKDF-Expand with SHA-384. -/
def hkdfExpand (prk info : Bytes) (len : Nat) : Bytes := (hkdfBlocks prk info (cdiv len 48) 1 []).take len

/-! ### AES Key Wrap (SP 800-38F) -/

/-- The integrity check value of KW. -/
def kwIv : Nat := 0xA6A6A6A6A6A6A6A6

/-- KW as encryption: rounds 1 to 6 n over the 64-bit register and the semiblocks. -/
def kwWrapRound (k : BitVec 256) (n : Nat) (st : Nat × List Nat) (t : Nat) : Nat × List Nat :=
  let i := t % n
  let b := (aes k (BitVec.ofNat 128 (st.1 * 2 ^ 64 + st.2.getD i 0))).toNat
  (Nat.xor (b / 2 ^ 64) (t + 1), st.2.set i (b % 2 ^ 64))

/-- KW of a plaintext of whole semiblocks. -/
def kwWrap (k : BitVec 256) (p : Bytes) : Bytes :=
  let r := (pieces 8 (p.length / 8) p).map beNat
  let n := r.length
  let st := (List.range (6 * n)).foldl (kwWrapRound k n) (kwIv, r)
  natBe st.1 8 ++ (st.2.map (natBe · 8)).flatten

/-- One step of KW's unwrapping, from the last to the first. -/
def kwUnwrapRound (k : BitVec 256) (n : Nat) (st : Nat × List Nat) (t : Nat) : Nat × List Nat :=
  let i := t % n
  let b := (Config.aes256Inv k (BitVec.ofNat 128 (Nat.xor st.1 (t + 1) * 2 ^ 64 + st.2.getD i 0))).toNat
  (b / 2 ^ 64, st.2.set i (b % 2 ^ 64))

/-- KW unwrapping: the plaintext when the integrity check value verifies. -/
def kwUnwrap (k : BitVec 256) (c : Bytes) : Option Bytes :=
  let r := (pieces 8 (c.length / 8) c).map beNat
  let n := r.length - 1
  let st := ((List.range (6 * n)).reverse).foldl (kwUnwrapRound k n) (r.headD 0, r.drop 1)
  if st.1 = kwIv then some ((st.2.map (natBe · 8)).flatten) else none

/-! ### CRC-32 (IEEE 802.3, R448) -/

/-- One bit of the reflected CRC. -/
def crcBit (c : BitVec 32) : BitVec 32 := if c.toNat.testBit 0 then (c >>> 1) ^^^ 0xEDB88320#32 else c >>> 1

/-- One byte of the reflected CRC. -/
def crcByte (c : BitVec 32) (b : Byte) : BitVec 32 :=
  crcBit (crcBit (crcBit (crcBit (crcBit (crcBit (crcBit (crcBit (c ^^^ b.setWidth 32))))))))

/-- CRC-32 of a byte string. -/
def crc32 (b : Bytes) : BitVec 32 := ~~~ (b.foldl crcByte 0xFFFFFFFF#32)

end Sys2Proof.Machine.Crypto
end

