-- ==== Sys2Proof/Machine/Clock.lean ====
section
/-! DEFINITION. The timebase: the master, the local copies of the clock domains and their correction (01_architecture.md
R29-R32, 18_power_clocks_boot.md R462-R467). -/

namespace Sys2Proof.Machine

-- One declaration at a time, so that the elaborator holds few threads (each takes stack of its own).
set_option Elab.async false

/-- Number of a clock domain in the table of copies. -/
def ClockDomain.code : ClockDomain → Nat
  | .cclk => 0
  | .mclk => 1
  | .hclk => 2
  | .kclk => 3
  | .lclk0 => 4
  | .lclk1 => 5
  | .lclk2 => 6
  | .lclk3 => 7
  | .mii => 8

/-- Ticks per cycle of a domain, as a fraction: 4 GHz over its frequency (R29, R30); CCLK follows MULT (R462). -/
def tickRatio (mult : Nat) : ClockDomain → Nat × Nat
  | .cclk => (40, mult)
  | .mclk => (40, 21)
  | .kclk => (5, 1)
  | .mii => (160, 1)
  | .hclk | .lclk0 | .lclk1 | .lclk2 | .lclk3 => (4, 1)

namespace State

/-- The timebase master (TB_NOW). -/
def master (s : State) : Nat := s.pwr.master

/-- The local copy of a domain; every timestamp and comparison of the domain uses it (R31). -/
def tb (d : ClockDomain) (s : State) : Nat := (s.pwr.copies.get (ClockDomain.code d)).ticks

/-- The local copy of the CCLK domain. -/
def now (s : State) : Nat := s.tb .cclk

end State

/-- Ticks of 0.25 ns in one ns, µs, ms and s. -/
def nsT : Nat := 4
def usT : Nat := 4000
def msT : Nat := 4000000
def secT : Nat := 4000000000

/-- The master's advance at one reference edge: 40 + TB_RATE × 2^-32 ticks with the fraction kept (R465), one tick more or
fewer while an offset is being slewed, nothing while a backward offset is held (R467). -/
def edgeOf (p : Pwr) : Pwr :=
  let sum := p.masterFrac + p.rate.toInt
  let whole := 40 + sum / 4294967296
  let frac := sum % 4294967296
  let nudge : Int := if p.slew > 0 then 1 else if p.slew < 0 then -1 else 0
  if 0 < p.holdUntil then { p with holdUntil := p.holdUntil - 40 }
  else { p with
    master := (p.master + (whole + nudge).toNat) % 2 ^ 64
    masterFrac := frac
    slew := p.slew - nudge }

/-- A copy's new record when a reference edge reaches it after `cycles` cycles of its own clock (R30, R31): corrected
forward to the master, or held where it would move backward. -/
def correctCopy (ratio : Nat × Nat) (cycles master : Nat) (c : TbCopy) : TbCopy :=
  let run := c.frac + cycles * ratio.1
  let ticks := if c.hold then c.ticks else c.ticks + run / ratio.2
  let frac := if c.hold then 0 else run % ratio.2
  if ticks ≤ master then { ticks := master, frac := 0, hold := false }
  else { ticks := ticks, frac := frac, hold := true }

/-- Is the block stopped by a CUT (R441)? The reference domain goes on. -/
def State.stopped (s : State) : Bool := s.dbg.cutState == 2#2

/-- Every clock domain with a copy of its own. -/
def domains : List ClockDomain := [.cclk, .mclk, .hclk, .kclk, .lclk0, .lclk1, .lclk2, .lclk3, .mii]

/-- The domains that a CUT stops: all of them but the MII MAC's (R441). -/
def cutDomains : List ClockDomain := [.cclk, .mclk, .hclk, .kclk, .lclk0, .lclk1, .lclk2, .lclk3]

/-- Has a domain come to its stop edge? -/
def State.isHalted (d : ClockDomain) (s : State) : Bool := s.dbg.halted.contains (ClockDomain.code d)

/-- Has a domain's own copy reached the stop instant of the armed cut (R441)? -/
def State.atStop (d : ClockDomain) (s : State) : Bool := decide (s.dbg.armStop.toNat ≤ s.tb d)

/-- The stop edge of one domain: its corrected copy has reached the stop instant of the armed cut (R32, R441). DESIGN CHOICE,
assumption 182. -/
def haltDomain (d : ClockDomain) (s : State) : State :=
  if s.dbg.cutState = 1#2 ∧ cutDomains.contains d ∧ s.atStop d then
    s.updDbg fun x => { x with halted := ClockDomain.code d :: x.halted }
  else s

/-- Correction of one local copy, and the compare with the armed instant on the corrected value (R32); a domain at its stop edge
gets its correction at its first edge after the cut. -/
def correctDomain (d : ClockDomain) (cycles : Nat) (s : State) : State :=
  if s.isHalted d then s
  else haltDomain d (s.updPwr fun p => { p with
    copies := p.copies.mod (ClockDomain.code d) (correctCopy (tickRatio p.mult.toNat d) cycles p.master) })

/-- One edge of the 100 MHz reference. The edge before it has reached every domain by then, so no copy lags the master by more than
one period (R31; DESIGN CHOICE, assumption 158). The master stands still while fp_por_n_i is asserted. -/
def referenceEdge (s : State) : State :=
  if s.pins.por then s else (forAll domains (fun d s => correctDomain d 0 s) s).updPwr edgeOf

/-- LOCAL_TIMEBASE_CORRECTION (R31). -/
def execLocalTimebaseCorrection (dom : ClockDomain) (cycles : Nat) (s : State) : Answer :=
  goOn (correctDomain dom cycles s)

end Sys2Proof.Machine
end

