-- ==== Sys2Proof/Machine/Flags.lean ====
section
/-! DEFINITION. Event flags and the types of register fields: what a software write and a hardware event do to a W1C, W1S or
RC field, with the set-wins rule and its RECUR count (00_scope.md R18-R20), and the event bits of each unit. -/

namespace Sys2Proof.Machine

-- One declaration at a time, so that the elaborator holds few threads (each takes stack of its own).
set_option Elab.async false

/-- Register word with bit `i` alone. -/
def bit32 (i : Nat) : Word := BitVec.ofNat 32 (2 ^ i)

/-- A field of a register word at its place. -/
def put (lo : Nat) (v : Nat) : Nat := v * 2 ^ lo

/-- Hardware sets bit `i` of an event register. -/
def raised (e : Word) (i : Nat) : Word := e ||| bit32 i

/-- The number of bits set in a word. -/
def popCount (w : Word) : Nat := (List.range 32).foldl (fun n i => n + b2n (w.toNat.testBit i)) 0

/-- A software write of `v` to a W1C register while hardware sets the bits of `hw` in the same cycle: the set wins, and
RECUR counts each bit of which that is so (R18, R20). -/
def writeW1C (e recur v hw : Word) : Word × Word :=
  ((e &&& ~~~v) ||| hw, recur + BitVec.ofNat 32 (popCount (v &&& hw)))

/-- The bits of `e` that the hardware sets once more in the very cycle of a software access to them (R20): whether an event
strikes in that cycle is left open, so they are a free value among the bits of `v`. DESIGN CHOICE, assumption 15. -/
def State.setAgain (s : State) (e v : Word) : Word := s.open64.setWidth 32 &&& e &&& v

/-- A software read of an RC register while the hardware sets it to `hw` in the same cycle (0: it does not): the value returned,
the value left, and RECUR (R18, R20). -/
def readRC (v recur hw : Word) : Word × Word × Word :=
  (v, hw, recur + BitVec.ofNat 32 (b2n (hw != 0#32)))

/-- A write of a W1S bit: a 1 sets it, a 0 has no effect (R18). -/
def writeW1S (old v : Bool) : Bool := old || v

namespace State

def kvEvent (i : Nat) (s : State) : State := s.updKv fun k => { k with events := raised k.events i }
def lcEvent (i : Nat) (s : State) : State := s.updLc fun k => { k with events := raised k.events i }
def atEvent (i : Nat) (s : State) : State := s.updAt fun k => { k with events := raised k.events i }
def lsEvent (i : Nat) (s : State) : State := s.updLs fun k => { k with events := raised k.events i }
def lnEvent (i : Nat) (s : State) : State := s.updLn fun k => { k with events := raised k.events i }
def trEvent (i : Nat) (s : State) : State := s.updTr fun k => { k with events := raised k.events i }
def mvEvent (i : Nat) (s : State) : State := s.updMv fun k => { k with events := raised k.events i }
def rdEvent (i : Nat) (s : State) : State := s.updRd fun k => { k with events := raised k.events i }
def auEvent (i : Nat) (s : State) : State := s.updAu fun k => { k with events := raised k.events i }
def feEvent (i : Nat) (s : State) : State := s.updFe fun k => { k with events := raised k.events i }
def admEvent (i : Nat) (s : State) : State := s.updAdm fun k => { k with events := raised k.events i }
def fsEvent (i : Nat) (s : State) : State := s.updFs fun k => { k with events := raised k.events i }
def ituEvent (i : Nat) (s : State) : State := s.updItu fun k => { k with events := raised k.events i }
def fcuEvent (i : Nat) (s : State) : State := s.updFcu fun k => { k with events := raised k.events i }
def hrEvent (i : Nat) (s : State) : State := s.updHr fun k => { k with events := raised k.events i }
def dbgEvent (i : Nat) (s : State) : State := s.updDbg fun k => { k with events := raised k.events i }
def pwrEvent (i : Nat) (s : State) : State := s.updPwr fun k => { k with events := raised k.events i }
def mgtEvent (i : Nat) (s : State) : State := s.updMgt fun k => { k with events := raised k.events i }

def kvCount (n : Nat) (s : State) : State := s.updKv fun k => { k with counters := k.counters.bump n 1 }
def lsCount (n : Nat) (s : State) : State := s.updLs fun k => { k with counters := k.counters.bump n 1 }
def lnCount (n : Nat) (s : State) : State := s.updLn fun k => { k with counters := k.counters.bump n 1 }
def trCount (n : Nat) (s : State) : State := s.updTr fun k => { k with counters := k.counters.bump n 1 }
def mvCount (n by' : Nat) (s : State) : State := s.updMv fun k => { k with counters := k.counters.bump n by' }
def rdCount (n by' : Nat) (s : State) : State := s.updRd fun k => { k with counters := k.counters.bump n by' }
def auCount (n : Nat) (s : State) : State := s.updAu fun k => { k with counters := k.counters.bump n 1 }
def feCount (n : Nat) (s : State) : State := s.updFe fun k => { k with counters := k.counters.bump n 1 }
def admCount (n : Nat) (s : State) : State := s.updAdm fun k => { k with counters := k.counters.bump n 1 }
def fsCount (n : Nat) (s : State) : State := s.updFs fun k => { k with counters := k.counters.bump n 1 }
def ituCount (n : Nat) (s : State) : State := s.updItu fun k => { k with counters := k.counters.bump n 1 }
def fcuCount (n : Nat) (s : State) : State := s.updFcu fun k => { k with counters := k.counters.bump n 1 }
def hrCount (n : Nat) (s : State) : State := s.updHr fun k => { k with counters := k.counters.bump n 1 }
def dbgCount (n by' : Nat) (s : State) : State := s.updDbg fun k => { k with counters := k.counters.bump n by' }
def mgtCount (n : Nat) (s : State) : State := s.updMgt fun k => { k with counters := k.counters.bump n 1 }

end State

end Sys2Proof.Machine
end

