-- ==== Sys2Proof/Machine/Fault.lean ====
section
/-! DEFINITION. Rushes events and fault messages at their sources: source IDs, kinds, classes, the fault FIFO and injection
(15_faults.md R393-R398, R410; 17_debug_trace.md R451-R453). -/

namespace Sys2Proof.Machine

-- One declaration at a time, so that the elaborator holds few threads (each takes stack of its own).
set_option Elab.async false

/-! ### Source unit IDs (R395) -/

namespace Src

def keeper : Nat := 0x000
def kv : Nat := 0x001
def lc : Nat := 0x002
def att : Nat := 0x003
def fe : Nat := 0x004
def hostPipes : Nat := 0x005
def fs : Nat := 0x006
def itu : Nat := 0x007
def tree : Nat := 0x008
def au : Nat := 0x009
def fcu : Nat := 0x00A
def hr : Nat := 0x00B
def dbg : Nat := 0x00C
def pwr : Nat := 0x00D
def xbar : Nat := 0x00E
def linkTx (p : Nat) : Nat := 0x100 + p
def linkRx (p : Nat) : Nat := 0x180 + p
def lineSeal (p : Nat) : Nat := 0x200 + p
def lineUnseal (p : Nat) : Nat := 0x208 + p
def mover (m : Nat) : Nat := 0x240 + m
def red (u : Nat) : Nat := 0x260 + u
def crossing (k : Nat) : Nat := 0x2C0 + k
def engine (e : Nat) : Nat := 0x2E0 + e
def extFault (n : Nat) : Nat := 0xF00 + n

end Src

/-- Hall field of a fault or an event that concerns no hall (R393, R452). -/
def noHall : Nat := 0xFFF

/-- A link group's spare pipe 64 + g belongs to slice g of a TQ-9F, to slices 2g and 2g + 1 otherwise (R8, R165). -/
def sliceOfLane (c : Conf) (p : Nat) : Nat := p / c.lanesPerPart

/-- The slice that a source belongs to; none for a block-common unit. A spare has the slice of the lane it stands in for
(R165), else, in a TQ-9F, its own. -/
def sliceOf (s : State) (src : Nat) : Option Nat :=
  let c := s.conf
  if 0x100 ≤ src ∧ src < 0x140 then some (sliceOfLane c (src - 0x100))
  else if 0x140 ≤ src ∧ src < 0x144 then
    match (s.ls.spares.get (src - 0x140)).txLane with
    | some l => some (sliceOfLane c l)
    | none => if c = .f then some (src - 0x140) else none
  else if 0x180 ≤ src ∧ src < 0x1C0 then some (sliceOfLane c (src - 0x180))
  else if 0x1C0 ≤ src ∧ src < 0x1C4 then
    match (s.ls.spares.get (src - 0x1C0)).rxLane with
    | some l => some (sliceOfLane c l)
    | none => if c = .f then some (src - 0x1C0) else none
  else if 0x200 ≤ src ∧ src < 0x208 then some ((src - 0x200) / c.linePerPart)
  else if 0x208 ≤ src ∧ src < 0x210 then some ((src - 0x208) / c.linePerPart)
  else if 0x240 ≤ src ∧ src < 0x250 then some ((src - 0x240) / c.moversPerPart)
  else if 0x260 ≤ src ∧ src < 0x268 ∧ 0 < c.redPerPart then some ((src - 0x260) / c.redPerPart)
  else if 0x2C0 ≤ src ∧ src < 0x2C4 then some (src - 0x2C0)
  else none

/-- The clock domain whose local copy stamps a unit's events (R29, R31). -/
def clockOf (unit : Nat) : ClockDomain :=
  if 0x240 ≤ unit ∧ unit < 0x250 then .mclk
  else if unit = Src.xbar then .mclk
  else if unit = Src.keeper ∨ unit = Src.lc ∨ unit = Src.att ∨ unit = Src.pwr then .kclk
  else .cclk

/-! ### Rushes (R451-R453) -/

namespace Ev

def tick : Nat := 0x01
def itemStart : Nat := 0x02
def itemEnd : Nat := 0x03
def yield : Nat := 0x04
def fault : Nat := 0x05
def landingIn : Nat := 0x06
def landingOut : Nat := 0x07
def cutStop : Nat := 0x08
def cutResume : Nat := 0x09
def keyLoad : Nat := 0x0A
def mark : Nat := 0x0B
def doorbell : Nat := 0x0C
def suspect : Nat := 0x0D
def guilty : Nat := 0x0E
def power : Nat := 0x0F

end Ev

/-- A Rushes record (R452). -/
def rushesRecord (time unit ev hall scene shot arg : Nat) : BitVec 128 :=
  BitVec.ofNat 128 (bits time 0 40 + put 40 (bits unit 0 12) + put 52 (bits ev 0 8) + put 60 (bits hall 0 12)
    + put 72 (bits scene 0 24) + put 96 (bits shot 0 16) + put 112 (bits arg 0 16))

/-- A ring that has taken one more record: it keeps the last 256. -/
def ringPut (r : Ring) (x : BitVec 128) : Ring :=
  { count := r.count + 1, recs := if r.recs.length < 256 then r.recs ++ [x] else r.recs.drop 1 ++ [x] }

/-- Does a unit keep a ring (R451)? -/
def hasRing (unit : Nat) : Bool := decide (unit < 0xF00 ∧ ¬ (0x2E0 ≤ unit ∧ unit < 0x2F0))

/-- A unit records an event with a time of its own choice. The rings stand still in the safe state. -/
def rushesAt (time unit ev hall scene shot arg : Nat) (s : State) : State :=
  if s.dbg.frozen || !hasRing unit then s
  else s.updDbg fun d => { d with rings := d.rings.mod unit fun r => ringPut r (rushesRecord time unit ev hall scene shot arg) }

/-- A unit records an event now. -/
def rushes (unit ev hall scene shot arg : Nat) (s : State) : State :=
  rushesAt (s.tb (clockOf unit)) unit ev hall scene shot arg s

/-- A unit records a block event now: no hall, no scene, no shot. -/
def rushesBlock (unit ev arg : Nat) (s : State) : State := rushes unit ev noHall 0 0 arg s

/-! ### Fault kinds (R397) -/

namespace Kind

def fcuEcc : Nat := 0x01
def fcuPolicy : Nat := 0x02
def fcuUnit : Nat := 0x03
def fcuNet : Nat := 0x04
def clkLoss : Nat := 0x08
def xingSlice : Nat := 0x09
def xingCommon : Nat := 0x0A
def extFault : Nat := 0x0B
def keeperEcc : Nat := 0x0C
def keeperUe : Nat := 0x0D
def keyBudget : Nat := 0x10
def keyMiss : Nat := 0x11
def kvUnit : Nat := 0x12
def otpUe : Nat := 0x14
def ideFail : Nat := 0x18
def linkAuth : Nat := 0x20
def linkHole : Nat := 0x21
def linkReplay : Nat := 0x22
def linkPipe : Nat := 0x23
def linkNoSpare : Nat := 0x24
def linkLane : Nat := 0x25
def lineMac : Nat := 0x30
def linePoison : Nat := 0x31
def lineRange : Nat := 0x32
def linePartial : Nat := 0x33
def lineCtrLimit : Nat := 0x34
def lineStray : Nat := 0x35
def linePipe : Nat := 0x36
def treeNode : Nat := 0x40
def treeEcc : Nat := 0x41
def treeCtrLimit : Nat := 0x42
def treeUnit : Nat := 0x43
def movePoison : Nat := 0x50
def dataFraming : Nat := 0x51
def redMismatch : Nat := 0x52
def moverUnit : Nat := 0x53
def redUnit : Nat := 0x54
def reqFraming : Nat := 0x58
def rspAlign : Nat := 0x59
def atomEcc : Nat := 0x5A
def atomLost : Nat := 0x5B
def atomUnit : Nat := 0x5C
def cmdAuth : Nat := 0x60
def cmdFormat : Nat := 0x61
def takeOverrun : Nat := 0x62
def feUnit : Nat := 0x63
def fenceStray : Nat := 0x68
def fenceEcc : Nat := 0x69
def fenceUnit : Nat := 0x6A
def ituWalk : Nat := 0x70
def ituEcc : Nat := 0x71
def ituUnit : Nat := 0x72
def radioLate : Nat := 0x78
def memCorr : Nat := 0x7C
def memPoison : Nat := 0x7D
def hangSuspect : Nat := 0x80
def hangGuilty : Nat := 0x81
def stairPart : Nat := 0x82
def stairBlock : Nat := 0x83

end Kind

/-- The kinds of each class that is not C0 (R397). -/
def kindsC1 : List Nat := [0x11, 0x25, 0x30, 0x31, 0x32, 0x33, 0x50, 0x52, 0x60, 0x61, 0x7D, 0x81]
def kindsC2 : List Nat :=
  [0x10, 0x18, 0x20, 0x21, 0x34, 0x40, 0x42, 0x51, 0x58, 0x59, 0x5B, 0x5C, 0x70]
def kindsC3 : List Nat := [0x09, 0x24, 0x36, 0x53, 0x54, 0x82]
def kindsC4 : List Nat := [0x03, 0x04, 0x08, 0x0A, 0x0D, 0x12, 0x14, 0x43, 0x63, 0x6A, 0x72, 0x83]
def kindsC0 : List Nat :=
  [0x01, 0x02, 0x0B, 0x0C, 0x22, 0x23, 0x35, 0x41, 0x5A, 0x62, 0x68, 0x69, 0x71, 0x78, 0x7C, 0x80]

/-- The class of a kind (R397). -/
def kindClass (k : Nat) : Nat :=
  if kindsC4.contains k then 4 else if kindsC3.contains k then 3 else if kindsC2.contains k then 2
  else if kindsC1.contains k then 1 else 0

/-- Is a code a kind of R397? -/
def isKind (k : Nat) : Bool :=
  kindsC0.contains k || kindsC1.contains k || kindsC2.contains k || kindsC3.contains k || kindsC4.contains k

/-- A code lies in a range of source IDs. -/
def within (src base n : Nat) : Bool := decide (base ≤ src ∧ src < base + n)

/-- Does a source raise a kind (R397, R395)? The ranges are those that the configuration has. -/
def raises (c : Conf) (src kind : Nat) : Bool :=
  let linkTx := within src 0x100 c.lanes || within src 0x140 c.groups
  let linkRx := within src 0x180 c.lanes || within src 0x1C0 c.groups
  let lineS := within src 0x200 c.linePipes
  let lineU := within src 0x208 c.linePipes
  let mover := within src 0x240 c.movers
  let red := within src 0x260 c.redUnits
  match kind with
  | 0x01 | 0x02 | 0x03 | 0x04 => src == Src.fcu
  | 0x08 | 0x0A => src == Src.pwr
  | 0x09 => within src 0x2C0 c.parts
  | 0x0B => within src 0xF00 8
  | 0x0C | 0x0D => src == Src.keeper
  | 0x10 | 0x12 => src == Src.kv
  | 0x11 => linkTx || lineS || lineU || src == Src.fe || mover || red
  | 0x14 => src == Src.lc
  | 0x18 => src == Src.hostPipes
  | 0x20 | 0x21 | 0x22 | 0x51 => linkRx
  | 0x23 | 0x24 | 0x25 => linkTx || linkRx
  | 0x30 | 0x35 => lineU
  | 0x31 | 0x32 | 0x36 => lineS || lineU
  | 0x33 | 0x34 => lineS
  | 0x40 | 0x41 | 0x42 | 0x43 => src == Src.tree && c.tree
  | 0x50 => mover || red
  | 0x52 | 0x54 => red
  | 0x53 => mover
  | 0x58 | 0x5A | 0x5B | 0x5C => src == Src.au && c.atomic
  | 0x59 => mover || src == Src.fe
  | 0x60 | 0x61 | 0x62 | 0x63 | 0x78 => src == Src.fe
  | 0x68 | 0x69 | 0x6A => src == Src.fs
  | 0x70 | 0x71 | 0x72 => src == Src.itu
  | 0x7C | 0x7D => src == Src.xbar
  | 0x80 | 0x81 | 0x82 | 0x83 => src == Src.hr
  | _ => false

/-! ### Raising a fault (R393, R394, R398) -/

/-- The record of a detection, its sequence number not yet given. -/
def mkFault (kind hall : Nat) (addr : Nat) (detail : Nat) (inj : Bool) : FRec where
  kind := kind
  cls := kindClass kind
  hall := hall
  addr := BitVec.ofNat 48 addr
  detail := BitVec.ofNat 32 detail
  inj := inj
  seq := 0

/-- A record enters its source's fault FIFO with the next sequence number. A C0 record that finds four there is folded; a
record of another class stands past the fourth and stalls its source (R398). -/
def sendFault (src : Nat) (r : FRec) (s : State) : State :=
  let f := s.fcu.fifo.get src
  if r.cls = 0 ∧ 4 ≤ f.length then s.fcuCount 7
  else
    let s := s.updFcu fun c => { c with
      fifo := c.fifo.set src (f ++ [{ r with seq := c.seqs.get src }])
      seqs := c.seqs.mod src (· + 1) }
    rushes src Ev.fault r.hall 0 0 (r.kind * 256 + r.cls) s

/-- Is a source's data path stalled by a fault record that found its FIFO full (R398)? -/
def faultStall (src : Nat) (s : State) : Bool := decide (4 < (s.fcu.fifo.get src).length)

/-- A natural failure of a check raises its kind. -/
def raiseFault (src kind hall addr detail : Nat) (s : State) : State :=
  sendFault src (mkFault kind hall addr detail false) s

/-! ### Progress (R418) -/

/-- Keys of the watched objects that are no queues: an engine by its unit ID, a reduction slot. -/
def watchUnit (unit : Nat) : Nat := 0x10000 + unit
def watchSlot (u k : Nat) : Nat := 0x20000 + 4 * u + k

/-- A progress event of an object. -/
def progress (key : Nat) (s : State) : State :=
  s.updHr fun h => { h with watch := h.watch.mod key fun w => { w with moved := true, lastAt := s.now } }

/-! ### Injection (R410, R114) -/

/-- Is an injection armed at this source for this kind? -/
def injected (src kind : Nat) (s : State) : Bool :=
  s.fcu.armed && s.fcu.injSource.toNat == src && s.fcu.injKind.toNat == kind

/-- The armed injection fires: ARM clears and INJ_FIRED is set. -/
def injFired (s : State) : State :=
  (s.updFcu fun c => { c with armed := false }).fcuEvent 7

/-- A check: does it fail, naturally or by the armed injection? A natural failure leaves the injection armed (R417). -/
def checkFails (natural : Bool) (src kind : Nat) (s : State) : Bool := natural || injected src kind s

/-- The failure of a check is reported: with INJ = 1 and the injection used up where it was not natural. -/
def reportFault (natural : Bool) (src kind hall addr detail : Nat) (s : State) : State :=
  if natural then raiseFault src kind hall addr detail s
  else sendFault src (mkFault kind hall addr detail true) (injFired s)

/-- The check of a response for a corrected error (R397). -/
def memCorrected (natural : Bool) (hall addr : Nat) (s : State) : State :=
  if checkFails natural Src.xbar Kind.memCorr s then reportFault natural Src.xbar Kind.memCorr hall addr 0 s else s

end Sys2Proof.Machine
end

