-- ==== Sys2Proof/Machine/Otp.lean ====
section
/-! DEFINITION. The OTP words and the life-cycle state that they spell, the permissions of each state, and the debug rights
(04_lifecycle_debug_rights.md R91-R94, R100, R105, R111, R114). -/

namespace Sys2Proof.Machine

-- One declaration at a time, so that the elaborator holds few threads (each takes stack of its own).
set_option Elab.async false

/-- All 39 bits. -/
def otpFull : BitVec 39 := 0x7FFFFFFFFF#39

/-- An ECC word as it is programmed: data bits and check bits (R91). -/
def otpEcc (d : BitVec 32) : BitVec 39 := BitVec.ofNat 39 (d.toNat + (Config.otpCheck d).toNat * 2 ^ 32)

/-- A word that has been programmed over: bits go from 0 to 1 only. -/
def otpProgram (old new : BitVec 39) : BitVec 39 := old ||| new

/-- The data bits of an ECC word. -/
def otpData (o : Tab (BitVec 39)) (w : Nat) : BitVec 32 := BitVec.ofNat 32 (o.get w).toNat

/-- The bytes that `n` ECC words from `w` hold: byte 0 in bits [7:0] of the first (R91). -/
def otpBytes (o : Tab (BitVec 39)) (w n : Nat) : Bytes :=
  ((List.range n).map fun i => natLe (otpData o (w + i)).toNat 4).flatten

/-- Are the words of a group blank (R91)? -/
def otpBlank (o : Tab (BitVec 39)) (w n : Nat) : Bool := (List.range n).all fun i => o.get (w + i) == 0#39

/-- Life-cycle states, encoded as LC_STATUS.STATE (R103). -/
def testOpen : Nat := 0
def provisioned : Nat := 1
def field : Nat := 2
def returned : Nat := 3
def scrap : Nat := 4

/-- Is state word S<n> (n = 1 to 4) full, or blank? -/
def sFull (o : Tab (BitVec 39)) (n : Nat) : Bool := o.get (95 + n) == otpFull
def sBlank (o : Tab (BitVec 39)) (n : Nat) : Bool := o.get (95 + n) == 0#39
/-- Is intent word I<n> full? -/
def iFull (o : Tab (BitVec 39)) (n : Nat) : Bool := o.get (99 + n) == otpFull

/-- Rows 4 to 7 of R93: the base state that S1 to S3 give. -/
def baseState (o : Tab (BitVec 39)) : Option Nat :=
  if sBlank o 1 && sBlank o 2 && sBlank o 3 then some testOpen
  else if sFull o 1 && sBlank o 2 && sBlank o 3 then some provisioned
  else if sFull o 1 && sFull o 2 && sBlank o 3 then some field
  else if sFull o 1 && sFull o 2 && sFull o 3 then some returned
  else none

/-- Row 3 of R93 for one n: I<n> full, S<n> not full, the words before it full and those after it blank. -/
def pendingAt (o : Tab (BitVec 39)) (n : Nat) : Bool :=
  iFull o n && !sFull o n && (List.range (n - 1)).all (fun k => sFull o (k + 1))
    && (List.range (3 - n)).all (fun k => sBlank o (n + 1 + k))

/-- The state that the words decode to, and the target of a pending transition (R93). -/
def decodeState (o : Tab (BitVec 39)) : Nat × Option Nat :=
  if sFull o 4 || (!sBlank o 4 && !iFull o 4) then (scrap, none)
  else
    match (if iFull o 4 then baseState o else none) with
    | some b => (b, some scrap)
    | none =>
      if pendingAt o 1 then (0, some 1)
      else if pendingAt o 2 then (1, some 2)
      else if pendingAt o 3 then (2, some 3)
      else match baseState o with
        | some b => (b, none)
        | none => (scrap, none)

namespace State

/-- The decoded life-cycle state. -/
def lcState (s : State) : Nat := (decodeState s.lc.otp).1

/-- The pending transition. -/
def lcPending (s : State) : Option Nat := (decodeState s.lc.otp).2

/-- The device ID, OTP words 8 and 9. -/
def deviceId (s : State) : Nat := leNat (otpBytes s.lc.otp 8 2)

/-- L0, OTP words 0 to 7 (R91), as key bytes. -/
def l0 (s : State) : BitVec 256 := Crypto.keyOf (otpBytes s.lc.otp 0 8)

/-- A right of DBG_RIGHTS is in force: in TEST_OPEN every right is (R94, R105). -/
def right (i : Nat) (s : State) : Bool := s.lc.rights.toNat.testBit i

/-- Rights by name (R105). -/
def rightTrace (s : State) : Bool := s.right 0
def rightCounters (s : State) : Bool := s.right 1
def rightScanMasked (s : State) : Bool := s.right 2
def rightScanFull (s : State) : Bool := s.right 3
def rightInject (s : State) : Bool := s.right 4
def rightHalt (s : State) : Bool := s.right 5

/-- May injection points accept commands (R114, R94)? -/
def injectionAllowed (s : State) : Bool :=
  let st := s.lcState
  if st = testOpen ∨ st = provisioned then true else if st = field ∨ st = returned then s.rightInject else false

/-- Does a data-visible right take effect: in FIELD only while no consent is missing (R111). -/
def consentGiven (s : State) : Bool := s.lcState != field || s.lc.consentMissing == 0

/-- Is the TRACE right, or TEST_OPEN, there? -/
def traceAllowed (s : State) : Bool := s.lcState == testOpen || s.rightTrace

end State

/-- DBG_RIGHTS as a word (R105). -/
def dbgRightsWord (s : State) : Nat :=
  put 24 (min 255 s.lc.consentMissing) + put 16 (b2n s.lc.issuer) + s.lc.rights.toNat

/-- LC_STATUS as a word (R103). -/
def lcStatusWord (s : State) : Nat :=
  let p := s.lcPending
  put 29 s.lcState + put 28 (b2n p.isSome) + put 25 (p.getD 0) + put 24 (b2n s.lc.tokenLock)
    + put 23 (b2n s.lc.eraseDone) + s.lc.result.toNat

/-- The state byte of R117: STATE, PENDING and TARGET. -/
def stateByte (s : State) : Nat :=
  let p := s.lcPending
  s.lcState + put 3 (b2n p.isSome) + put 4 (p.getD 0)

/-- The number of 1 bits of the rollback words (R100). -/
def rollbackCount (o : Tab (BitVec 39)) : Nat :=
  o.foldl (fun n e => if 128 ≤ e.1 ∧ e.1 < 256 then n + (List.range 39).foldl (fun k i => k + b2n (e.2.toNat.testBit i)) 0 else n) 0

end Sys2Proof.Machine
end

