-- ==== Sys2Proof/Machine/Keys.lean ====
section
/-! DEFINITION. The key vault: labels and purposes, the hot key cache, data-path lookups with leases, the fast deriver and its
queue, and the Keeper's commands (03_keys.md R65-R90). -/

namespace Sys2Proof.Machine

-- One declaration at a time, so that the elaborator holds few threads (each takes stack of its own).
set_option Elab.async false

/-! ### Counters that a dropped item leaves (R28) -/

/-- A hall's counter at hall page offset 0x0800 + 8 n (R387). -/
def hallCount (hall n by' : Nat) (s : State) : State :=
  s.updItu fun u => { u with halls := u.halls.mod hall fun h => { h with counters := h.counters.bump n by' } }

/-- Hall stale drops, page offset 0x0868 (R28 order 2). -/
def hallStale (hall : Nat) (s : State) : State := hallCount hall 13 1 s

/-- RX pipe counter n of pipe p, and TX pipe counter n of pipe p (R174). -/
def rxCount (p n by' : Nat) (s : State) : State := s.updLs fun l => { l with counters := l.counters.bump (8 * p + n) by' }
def txCount (p n by' : Nat) (s : State) : State := s.updLs fun l => { l with counters := l.counters.bump (1024 + 8 * p + n) by' }

/-! ### Labels and handles (R68-R71) -/

/-- Handle fields (R71). -/
def hClass (h : Handle) : Nat := bits h.toNat 28 4
def hHall (h : Handle) : Nat := bits h.toNat 16 12

/-- The level and class of a purpose (R69). -/
def purposeOf (code : Nat) : Option (Nat × Nat) :=
  match code with
  | 0x0010 => some (1, 0)
  | 0x0020 => some (2, 1)
  | 0x0021 => some (3, 1)
  | 0x0030 => some (3, 2)
  | 0x0031 => some (3, 3)
  | 0x0040 | 0x0041 | 0x0042 => some (4, 4)
  | 0x0050 | 0x0051 => some (4, 5)
  | 0x0060 => some (4, 6)
  | 0x0070 => some (4, 7)
  | _ => none

/-- Label fields (R68). -/
def labPurpose (l : Bytes) : Nat := num l 0 2
def labHall (l : Bytes) : Nat := num l 2 2
def labGen (l : Bytes) : Nat := num l 4 2
def labEpoch (l : Bytes) : Nat := num l 10 4
def labClass (l : Bytes) : Nat := num l 27 1

/-- The spans of the label that a purpose leaves unused, and which are zero (R68, R69): offset and length. -/
def unusedSpans (code : Nat) : List (Nat × Nat) :=
  match code with
  | 0x0010 => [(2, 25), (28, 36)]
  | 0x0020 => [(2, 8), (14, 13), (28, 36)]
  | 0x0021 => [(2, 4), (14, 12), (28, 36)]
  | 0x0030 => [(14, 12), (28, 36)]
  | 0x0031 => [(6, 4), (14, 13), (28, 36)]
  | 0x0060 => [(6, 4), (14, 8), (26, 1), (28, 36)]
  | 0x0070 => [(14, 8), (26, 1), (28, 36)]
  | _ => [(6, 4), (26, 1), (28, 36)]

/-- A label in the form of R68 for a key of the class: its purpose's level; none for a breach (DESIGN CHOICE, assumption
164). -/
def labelLevel (l : Bytes) (cls : Nat) : Option Nat :=
  match purposeOf (labPurpose l) with
  | some (level, c) =>
    if c = cls ∧ labClass l = cls ∧ (unusedSpans (labPurpose l)).all (fun x => allZero (sub l x.1 x.2))
        ∧ labHall l < 4096 ∧ num l 6 2 < 8192 ∧ num l 8 2 < 8192
    then some level else none
  | none => none

/-- Builds a label (R68). -/
def mkLabel (purpose hall gen src dst epoch object version stream cls : Nat) : Bytes :=
  natLe purpose 2 ++ natLe hall 2 ++ natLe gen 2 ++ natLe src 2 ++ natLe dst 2 ++ natLe epoch 4 ++ natLe object 8
    ++ natLe version 4 ++ natLe stream 1 ++ natLe cls 1 ++ List.replicate 36 0#8

/-! ### Slots (R73, R74) -/

/-- PIN_LIMIT (R79). -/
def pinLimit (k : Kv) : Nat := 1024 * k.pinK.toNat

/-- The slot of a resident handle. -/
def slotOf (k : Kv) (h : Handle) : Option Nat :=
  match k.slots.find? (fun e => e.2.valid && e.2.handle == h) with
  | some e => some e.1
  | none => none

/-- A free pinned slot. -/
def freePinned (k : Kv) : Option Nat := firstFrom (fun i => !(k.slots.get i).valid) (pinLimit k) 0

/-- A free derived slot. -/
def freeDerived (k : Kv) : Option Nat := firstFrom (fun i => !(k.slots.get i).valid) (8192 - pinLimit k) (pinLimit k)

/-- Slots in use below and from PIN_LIMIT (KV_OCC). -/
def pinnedUsed (k : Kv) : Nat := (k.slots.filter fun e => e.2.valid && decide (e.1 < pinLimit k)).length
def derivedUsed (k : Kv) : Nat := (k.slots.filter fun e => e.2.valid && decide (pinLimit k ≤ e.1)).length

/-- The attributes that the vault forces by class, level and purpose (R74). -/
def forced (cls level : Nat) (service : Bool) (attr : BitVec 4) : KeySlot → KeySlot := fun x =>
  let pair := cls == 2 || service
  { x with
    expire := pair || attr.toNat.testBit 3
    budgetOn := pair
    dpUse := pair || (attr.toNat.testBit 1 && !(level == 1 || level == 2 || cls == 3))
    fastParent := cls == 3 && attr.toNat.testBit 0 }

/-- The slots destroyed with a set of slots: each whose parent slot is among them, level by level. -/
def withChildren (k : Kv) (roots : List Nat) : List Nat :=
  let next (l : List Nat) : List Nat :=
    k.slots.filterMap fun e => if e.2.valid && 1 < e.2.level && l.contains e.2.parent then some e.1 else none
  let a := next roots
  let b := next a
  let c := next b
  roots ++ a ++ b ++ c

/-- The pipe key registers that hold a key of these handles drop it at their next item boundary (R27, R85, R90). -/
def dropCopies (gone : List Handle) (s : State) : State :=
  s.updKv fun k => { k with
    pipes := k.pipes.map fun e => (e.1, if e.2.valid && gone.contains e.2.handle then { e.2 with dropping := true } else e.2) }

/-- Slots are overwritten with zero, and every copy of their keys goes (R85). -/
def destroySlots (l : List Nat) (s : State) : State :=
  (dropCopies (l.map fun i => (s.kv.slots.get i).handle) s).updKv fun k => { k with
    slots := forAll l (fun i t => t.set i default) k.slots
    lru := k.lru.filter fun i => !l.contains i }

/-- RETIRE of a handle (R85). -/
def retireHandle (h : Handle) (s : State) : State :=
  match slotOf s.kv h with
  | some i => destroySlots (withChildren s.kv [i]) s
  | none => s

/-- The item that waits with a ticket is marked: it ends with PERMISSION, and looks up no more. -/
def failTicket (unit ticket : Nat) (s : State) : State :=
  if unit = Src.fe then s.updFe fun f => { f with
    queues := f.queues.mod ticket fun x => { x with keyFail := x.fetched.isSome } }
  else s.updLn fun l => { l with inflight := l.inflight.map fun q =>
    if (q.id == ticket) && (within unit 0x200 16) && (q.phase == 0 || q.phase == 3) then { q with keyFail := true } else q }

/-- Answers to the requesters of a derivation that found no usable parent: a miss without parent (R77, R78). -/
def missNoParent (d : Derivation) (s : State) : State :=
  let s := s.kvEvent 2
  let s := forAll d.tickets (fun t s => failTicket (t.1 % 0x1000) t.2
    ((raiseFault (t.1 % 0x1000) Kind.keyMiss (hHall d.handle) 0 0 s).emit (.keyAnswer t.2 Status.permission))) s
  if d.pinned then s.updKv fun k => { k with go := false, result := Status.permission } else s

/-- Every slot whose class, hall and hall generation match goes, with its descendants; queued derivations of the same
generation miss (R85, R90). Class 0xF stands for the classes 2 to 7 (R79). -/
def matches' (cls hall gen : Nat) (h : Handle) (g : Nat) : Bool :=
  (if cls = 15 then decide (2 ≤ hClass h ∧ hClass h ≤ 7) else hClass h == cls) && hHall h == hall && g == gen

def retireMatchOp (cls hall gen : Nat) (s : State) : State :=
  let hit := s.kv.slots.filterMap fun e =>
    if e.2.valid && matches' cls hall gen e.2.handle e.2.hgen.toNat then some e.1 else none
  let isQ (d : Derivation) : Bool := matches' cls hall gen d.handle d.hgen.toNat
  let lost := (s.kv.queue ++ s.kv.stalled).filter isQ
  let s := destroySlots (withChildren s.kv hit) s
  let s := s.updKv fun k => { k with queue := k.queue.filter (fun d => !isQ d), stalled := k.stalled.filter (fun d => !isQ d) }
  forAll lost missNoParent s

/-- Is a key a pair key or a domain-service pair key, which REPLACE never touches (R69, R72)? -/
def isPairKey (x : KeySlot) : Bool := hClass x.handle == 2 || (hClass x.handle == 1 && x.level == 3)

/-- A key enters a free pinned slot (R73, R81). -/
def placeFree (x : KeySlot) (s : State) : Status × State :=
  match freePinned s.kv with
  | some i => (Status.ok, s.updKv fun k => { k with slots := k.slots.set i x })
  | none => (Status.refusedCapacity, s)

/-- A key enters a pinned slot for its handle: under REPLACE the resident one, or in its stead a free one where the handle stands
in a derived slot; else a free one (R72, R73, R81). The pipes' copies of a replaced key go at their next item boundary (R90). -/
def placePinned (replace : Bool) (x : KeySlot) (s : State) : Status × State :=
  if replace && isPairKey x then (Status.permission, s)
  else
    match slotOf s.kv x.handle with
    | some i =>
      if !replace || isPairKey (s.kv.slots.get i) then (Status.permission, s)
      else if i < pinLimit s.kv then
        (Status.ok, (dropCopies [x.handle] s).updKv fun k => { k with slots := k.slots.set i x })
      else if (freePinned s.kv).isNone then (Status.refusedCapacity, s)
      else placeFree x (destroySlots [i] s)
    | none => placeFree x s

/-- A derived key enters a derived slot, the least recently used one giving way when none is free (R73). A key that gives way
stays in the pipes' key registers that hold it: they look it up again only at a change of key (R75). -/
def placeDerived (x : KeySlot) (s : State) : State :=
  match slotOf s.kv x.handle with
  | some i => s.updKv fun k => { k with slots := k.slots.set i x }
  | none =>
    match freeDerived s.kv with
    | some i => s.updKv fun k => { k with slots := k.slots.set i x, lru := k.lru.filter (· != i) ++ [i] }
    | none =>
      match s.kv.lru with
      | i :: rest =>
        (s.updKv fun k => { k with slots := k.slots.set i x, lru := rest ++ [i] }).kvCount 3
      | [] => s

/-! ### Budgets and leases (R76) -/

/-- The hall field of a KEY_BUDGET fault: 0xFFF for a class 1 key. -/
def budgetHall (h : Handle) : Nat := if 2 ≤ hClass h then hHall h else noHall

/-- The remaining budget of a slot becomes `n`; crossing 2^39 and reaching 0 are events, whoever lowers it. DESIGN CHOICE,
assumption 167. -/
def setRemaining (i n : Nat) (s : State) : State :=
  let x := s.kv.slots.get i
  let s := s.updKv fun k => { k with slots := k.slots.set i { x with budget := n } }
  let s := if 2 ^ 39 < x.budget ∧ n ≤ 2 ^ 39 then s.kvEvent 0 else s
  if 0 < x.budget ∧ n = 0 then raiseFault Src.kv Kind.keyBudget (budgetHall x.handle) 0 0 (s.kvEvent 1) else s

/-- A pipe's key register is cleared and the unused part of its lease goes back to the slot's budget. -/
def returnLease (unit : Nat) (s : State) : State :=
  let r := s.kv.pipes.get unit
  let back := r.valid && !r.dropping && decide (0 < r.lease) && (s.kv.slots.get r.slot).handle == r.handle
    && (s.kv.slots.get r.slot).valid
  let s := if back then s.updKv fun k => { k with
      slots := k.slots.mod r.slot fun x => { x with budget := min (x.budget + r.lease) (2 ^ 48 - 1) } } else s
  s.updKv fun k => { k with pipes := k.pipes.set unit default }

/-- A pipe's key register is cleared and its lease forfeited (R76, R166). -/
def forfeitLease (unit : Nat) (s : State) : State := s.updKv fun k => { k with pipes := k.pipes.set unit default }

/-! ### Data-path lookups (R75-R78) -/

/-- How a lookup ends. -/
inductive KeyAnswer where
  | hit (key : BitVec 256)
  /-- R28 order 1: the frame is a stale-key drop. -/
  | staleKey
  /-- R28 order 2: the item is of a torn-down hall. -/
  | staleHall
  /-- The item completes with PERMISSION and the requester raises KEY_MISS. -/
  | miss
  /-- The seal completes with KEY_EXHAUSTED. -/
  | exhausted
  /-- The item waits in the derivation queue, or for room in it. -/
  | waits
deriving DecidableEq, Repr

/-- Requesters by source ID (R395). -/
def isLinkRx (u : Nat) : Bool := within u 0x180 68
def isLinkTx (u : Nat) : Bool := within u 0x100 68

/-- May the fast deriver derive this child from this parent (R78)? -/
def fastOk (k : Kv) (handle parent : Handle) (label : Bytes) : Bool :=
  match slotOf k parent with
  | some i =>
    let p := k.slots.get i
    hClass parent == 3 && p.fastParent && labelLevel label (hClass handle) == some 4
      && labHall label == hHall handle && hHall parent == hHall handle && labGen label == p.hgen.toNat
  | none => false

/-- A request joins the derivation queue: merged with one for the same handle, at its end, or stalled before it. -/
def enqueue (d : Derivation) (s : State) : State :=
  let join (x : Derivation) : Derivation :=
    if x.handle == d.handle then { x with
      tickets := x.tickets ++ d.tickets, pinned := x.pinned || d.pinned, attr := if d.pinned then d.attr else x.attr } else x
  if s.kv.queue.any (fun x => x.handle == d.handle) then s.updKv fun k => { k with queue := k.queue.map join }
  else if s.kv.queue.length < 64 then s.updKv fun k => { k with queue := k.queue ++ [d] }
  else (s.updKv fun k => { k with stalled := k.stalled ++ [d] }).kvEvent 3

/-- A key enters a unit's key register. A line seal pipe's register for another key than before counts as a change, whichever of
the pipe's two registers it is (R203; DEDUCED, assumption 174). -/
def loadRegister (unit : Nat) (r : PipeKey) (s : State) : State :=
  let old := s.kv.pipes.get unit
  let same := old.valid && old.handle == r.handle && old.hall == r.hall && old.hgen == r.hgen
  let s := s.updKv fun k => { k with pipes := k.pipes.set unit r }
  if within (unit % 0x1000) 0x200 8 && !same then s.lnCount (8 * (unit % 0x1000 - 0x200) + 6) else s

/-- A hit of slot `i`: the key enters the unit's register, with a lease when a budgeted key is to seal. -/
def serveHit (l : Lookup) (i : Nat) (s : State) : KeyAnswer × State :=
  let x := s.kv.slots.get i
  let s := s.kvCount 0
  let s := if pinLimit s.kv ≤ i then s.updKv fun k => { k with lru := k.lru.filter (· != i) ++ [i] } else s
  let leased := l.sealing && x.budgetOn
  if leased && x.budget == 0 then (.exhausted, s)
  else if leased && injected Src.kv Kind.keyBudget s then
    (.exhausted, reportFault false Src.kv Kind.keyBudget (budgetHall x.handle) 0 0 s)
  else
    let n := if leased then min 1024 x.budget else 0
    let s := if leased then setRemaining i (x.budget - n) s else s
    let r : PipeKey :=
      { valid := true, handle := l.handle, slot := i, hall := l.hall, hgen := l.hgen, key := x.key
        lease := n, dropping := false }
    let s := loadRegister l.unit r s
    (.hit x.key, rushes l.unit Ev.keyLoad l.hall 0 0 (bits l.handle.toNat 0 16) s)

/-- The resolution of a lookup that misses (R77). -/
def serveMiss (l : Lookup) (s : State) : KeyAnswer × State :=
  let cls := hClass l.handle
  if isLinkRx l.unit && (cls == 1 || cls == 2) then (.staleKey, s.kvCount 1)
  else if !isLinkRx l.unit && !isLinkTx l.unit && decide (4 ≤ cls ∧ cls ≤ 7) then
    if !s.kv.locked && !s.fcu.safe && (slotOf s.kv l.handle).isNone && labGen l.label == l.hgen.toNat
        && fastOk s.kv l.handle l.parent l.label then
      let d : Derivation :=
        { handle := l.handle, parent := l.parent, label := l.label, hgen := l.hgen, pinned := false
          attr := 0#4, tickets := [(l.unit, l.ticket)] }
      (.waits, enqueue d (s.kvCount 1))
    else (.miss, (s.kvCount 1).kvEvent 2)
  else (.miss, s.kvCount 1)

/-- Does a request stand in the derivation queue or before it already (R78)? -/
def derivationPending (l : Lookup) (s : State) : Bool :=
  (s.kv.queue ++ s.kv.stalled).any fun d => d.handle == l.handle && d.tickets.contains (l.unit, l.ticket)

/-- A data-path lookup (R75): the unit's old key is given back first. Where a slot with DP_USE = 0 is of another hall or
generation too, its row of R77 is taken first: DESIGN CHOICE, assumption 168. -/
def lookupKey (l : Lookup) (s : State) : KeyAnswer × State :=
  let s := returnLease l.unit s
  let cls := hClass l.handle
  if s.kv.locked || s.fcu.safe then serveMiss l s
  else
    match slotOf s.kv l.handle with
    | some i =>
      let x := s.kv.slots.get i
      if !x.dpUse || (cls == 1 && !(isLinkRx l.unit || isLinkTx l.unit)) then (.miss, s.kvCount 1)
      else if decide (2 ≤ cls) && (hHall l.handle != l.hall || x.hgen != l.hgen) then (.staleHall, s.kvCount 1)
      else serveHit l i s
    | none => if decide (2 ≤ cls) && hHall l.handle != l.hall then (.staleHall, s.kvCount 1) else serveMiss l s

/-- The key for the next item of a unit: the one in its register while that serves, else one looked up (R75), unless its
derivation is on its way already. A seal under a budgeted key uses one of the lease (R74, R76). -/
def keyFor (l : Lookup) (s : State) : KeyAnswer × State :=
  let r := s.kv.pipes.get l.unit
  let budgeted := (s.kv.slots.get r.slot).budgetOn
  let held := r.valid && !r.dropping && r.handle == l.handle && r.hall == l.hall && r.hgen == l.hgen
    && (!(l.sealing && budgeted) || decide (0 < r.lease))
  let (a, s) := if held then (KeyAnswer.hit r.key, s)
    else if derivationPending l s then (KeyAnswer.waits, s) else lookupKey l s
  match a with
  | .hit k =>
    let s := s.updKv fun v => { v with pipes := v.pipes.mod l.unit fun p => { p with lease := if l.sealing then p.lease - 1 else p.lease } }
    (.hit k, s)
  | a => (a, s)

/-- KEY_LOOKUP (R75): the answer to a unit's request, with the faults and drops of R77. -/
def keyLookupOp (l : Lookup) (s : State) : State :=
  if injected l.unit Kind.keyMiss s then
    (reportFault false l.unit Kind.keyMiss l.hall 0 0 s).emit (.keyAnswer l.ticket Status.permission)
  else match lookupKey l s with
  | (.hit _, s) => s.emit (.keyAnswer l.ticket Status.ok)
  | (.exhausted, s) => s.emit (.keyAnswer l.ticket Status.keyExhausted)
  | (.waits, s) => s
  | (.staleKey, s) => rxCount (l.unit - 0x180) 1 1 s
  | (.staleHall, s) =>
    if hClass l.handle == 6 && l.unit == Src.fe then s.emit (.keyAnswer l.ticket Status.permission) else hallStale l.hall s
  | (.miss, s) => (raiseFault l.unit Kind.keyMiss l.hall 0 0 s).emit (.keyAnswer l.ticket Status.permission)

/-- KEY_LOOKUP. -/
def execKeyLookup (l : Lookup) (s : State) : Answer := goOn (keyLookupOp l s)

/-- DERIVATION_QUEUE_ADMIT (R78): the longest-stalled request enters when there is space. -/
def admitDerivation (s : State) : State :=
  match s.kv.stalled with
  | d :: rest => if s.kv.queue.length < 64 then enqueue d (s.updKv fun k => { k with stalled := rest }) else s
  | [] => s

def execDerivationQueueAdmit (s : State) : Answer := goOn (admitDerivation s)

/-- The slot that a derivation writes: level 4, EXPIRE_AT_RESET of its hall key, DP_USE = 1 when derived on demand (R74). -/
def derivedSlot (d : Derivation) (pi : Nat) (p : KeySlot) : KeySlot :=
  let base : KeySlot := { (default : KeySlot) with
    valid := true, handle := d.handle, level := 4, parent := pi, hgen := BitVec.ofNat 16 (labGen d.label)
    key := Crypto.deriveCmac p.key d.label }
  let x := forced (hClass d.handle) 4 false (if d.pinned then d.attr else 2#4) base
  { x with expire := p.expire }

/-- A derived key enters its slot. A prefill that finds no pinned slot keeps its status, and the requesters merged into it are
served from a derived slot: DESIGN CHOICE, assumption 171. -/
def placeChild (d : Derivation) (x : KeySlot) (s : State) : Status × State :=
  if !d.pinned then (Status.ok, placeDerived x s)
  else match placePinned true x s with
    | (st, s) => (st, if st = Status.ok ∨ d.tickets.isEmpty then s else placeDerived x s)

/-- FAST_DERIVATION_DONE (R78): the derivation at the head of the queue ends. Its parent is read again at the end (R90). -/
def derivationDone (s : State) : State :=
  match s.kv.queue with
  | [] => s
  | d :: rest =>
    let s := s.updKv fun k => { k with queue := rest }
    if !fastOk s.kv d.handle d.parent d.label then missNoParent d s
    else if injected Src.kv Kind.kvUnit s then
      missNoParent d (reportFault false Src.kv Kind.kvUnit noHall 0 0 s)
    else
      let pi := (slotOf s.kv d.parent).getD 0
      let x := derivedSlot d pi (s.kv.slots.get pi)
      let (st, s) := placeChild d x s
      let s := s.kvCount 2
      let i := (slotOf s.kv d.handle).getD 0
      let s := forAll d.tickets (fun t s =>
        let r : PipeKey :=
          { valid := true, handle := d.handle, slot := i, hall := hHall d.handle, hgen := d.hgen, key := x.key
            lease := 0, dropping := false }
        (loadRegister t.1 r (returnLease t.1 s)).emit (.keyAnswer t.2 Status.ok)) s
      if d.pinned then s.updKv fun k => { k with go := false, result := st } else s

/-- KEY_REGISTER_DROP (R85): at its item boundary a pipe drops the copy of a retired key. -/
def dropKeyRegister (unit : Nat) (s : State) : State :=
  if (s.kv.pipes.get unit).dropping then s.updKv fun k => { k with pipes := k.pipes.set unit default } else s

def execKeyRegisterDrop (unit : Nat) (s : State) : Answer := goOn (dropKeyRegister unit s)

/-! ### Keeper commands (R80-R89) -/

/-- KV_LABEL as bytes. -/
def kvLabel (k : Kv) : Bytes := ((List.range 16).map fun i => natLe (k.label.get i).toNat 4).flatten

/-- The handle's own fields are in range: its class is used, and classes 0 and 1 have hall 0 (R71). -/
def handleOk (h : Handle) : Bool := h != 0#32 && decide (hClass h ≤ 7) && (decide (2 ≤ hClass h) || hHall h == 0)

/-- A new slot at level 1 to 3 for the arguments given. -/
def upperSlot (h : Handle) (level pi : Nat) (gen : Nat) (service : Bool) (attr : BitVec 4) (budget : Nat) (key : BitVec 256) :
    KeySlot :=
  forced (hClass h) level service attr { (default : KeySlot) with
    valid := true, handle := h, level := level, parent := pi, budget := budget, key := key
    hgen := BitVec.ofNat 16 (if 2 ≤ hClass h then gen else 0) }

/-- DERIVE_HMAC with given arguments: the parent, level, class and purpose rules of R65, R67, R69, R72 and R85. A label that
breaks its layout, or names another hall than the handle, is refused with PERMISSION: DESIGN CHOICE, assumption 164. -/
def deriveInto (h parent : Handle) (label : Bytes) (attr : BitVec 4) (budget : Nat) (replace : Bool) (s : State) :
    Status × State :=
  let cls := hClass h
  let service := labPurpose label == 0x0021
  match labelLevel label cls with
  | none => (Status.permission, s)
  | some level =>
    if level = 4 ∨ !handleOk h ∨ (2 ≤ cls ∧ labHall label ≠ hHall h) then (Status.permission, s)
    else if level = 1 then
      if parent ≠ 0#32 ∨ s.lcState = scrap then (Status.permission, s)
      else placePinned replace (upperSlot h 1 8191 0 false attr budget
        (Crypto.deriveHmac s.l0 label [BitVec.ofNat 8 (s.lcState + 1)])) s
    else
      match slotOf s.kv parent with
      | none => (Status.permission, s)
      | some i =>
        let p := s.kv.slots.get i
        if p.level + 1 ≠ level ∨ hClass parent ≠ 1 then (Status.permission, s)
        else placePinned replace (upperSlot h level i (labGen label) service attr budget (Crypto.deriveHmac p.key label [])) s

/-- UNWRAP with given arguments (R86). A KEK of another class is refused before the integrity check, and flags [7:1] or bytes
5-7 that are not zero are refused with PERMISSION: DESIGN CHOICE, assumption 165. -/
def unwrapInto (h kek : Handle) (blob : Bytes) (replace : Bool) (s : State) : Status × State :=
  match slotOf s.kv kek with
  | none => (Status.permission, s)
  | some i =>
    if hClass kek ≠ 0 then (Status.permission, s)
    else match Crypto.kwUnwrap (s.kv.slots.get i).key (fit blob 48) with
      | none => (Status.authFail, s)
      | some p =>
        if num p 0 2 = 1 ∧ num p 2 1 = hClass h ∧ num p 3 1 = 1 ∧ handleOk h ∧ num p 4 1 < 2 ∧ allZero (sub p 5 3) then
          placePinned replace (upperSlot h 1 8191 0 false (if num p 4 1 = 1 then 8#4 else 0#4) 0 (Crypto.keyOf (sub p 8 32))) s
        else (Status.permission, s)

/-- The span [off, off + len) lies in the Keeper key region of 16 KiB (R88). -/
def inKeyRegion (off len : Nat) : Bool := decide (off + len ≤ 16384)

/-- Bytes of the Keeper key region. -/
def keyRegion (s : State) (off len : Nat) : Bytes := Memory.readBytes keyRegionFill s.kv.region off len

/-- Write of bytes into the Keeper key region. -/
def writeKeyRegion (off : Nat) (b : Bytes) (s : State) : State :=
  s.updKv fun k => { k with region := Memory.writeBytes keyRegionFill k.region off b }

/-- IMPORT (R85): 32 bytes move into a pinned class 0 slot and their source is zeroed. A span past the end of the key region
is refused: DESIGN CHOICE, assumption 166. -/
def importInto (h : Handle) (off : Nat) (attr : BitVec 4) (replace : Bool) (s : State) : Status × State :=
  if hClass h ≠ 0 ∨ !handleOk h ∨ !inKeyRegion off 32 then (Status.permission, s)
  else
    match placePinned replace (upperSlot h 1 8191 0 false attr 0 (Crypto.keyOf (keyRegion s off 32))) s with
    | (st, s') => if st = Status.ok then (st, writeKeyRegion off (List.replicate 32 0#8) s') else (st, s')

/-- A link frame being sealed ends as a void frame (R89, R156). -/
def voidLanes (s : State) : State :=
  s.updLs fun l => { l with lanes := l.lanes.map fun e =>
    (e.1, match e.2.out with
      | f :: rest => { e.2 with out := { f with isVoid := true } :: rest }
      | [] => e.2) }

/-- Every pipe key register of the block is zeroed: the vault's copies and the IDE key registers (R89, R135, R402). An IDE stream
without keys is Insecure. -/
def zeroKeyRegisters (s : State) : State :=
  let lost := s.att.ideStreams.any fun e => e.2.secure
  let s := (s.updKv fun k => { k with pipes := [] }).updAt fun a => { a with
    ideKeys := [], ideStreams := a.ideStreams.map fun e => (e.1, { e.2 with secure := false }) }
  if lost then s.atEvent 3 else s

/-- WIPE_ALL (R89). The CDI and the layer's private key stand in the key region (R118), so that they are zeroed with it. -/
def wipeAllOp (s : State) : State :=
  let lost := s.kv.queue ++ s.kv.stalled
  let s := s.updKv fun k => { k with queue := [], stalled := [] }
  let s := forAll lost missNoParent s
  let s := s.updKv fun k => { k with slots := [], lru := [], region := [] }
  let s := s.updAt fun a => { a with cdi := 0#384, layerKey := 0#384 }
  let s := voidLanes (zeroKeyRegisters s)
  (s.updKv fun k => { k with locked := true }).kvEvent 4

/-- A command's end: GO clears and RESULT holds the status. -/
def kvFinish (op : BitVec 4) (replace : Bool) (r : Status × State) : State :=
  r.2.updKv fun k => { k with go := false, op := op, replace := replace, result := r.1 }

/-- KV_QINFO of a slot (R83). -/
def qinfoOf (x : KeySlot) : Nat :=
  put 16 x.hgen.toNat + put 15 (b2n x.expire) + put 14 (b2n x.budgetOn) + put 13 (b2n x.dpUse) + put 12 (b2n x.fastParent)
    + put 11 1 + put 8 x.level

/-- KV_QINFO and KV_QBUDGET for a handle; zero for one that is not resident (R85). -/
def kvQueryOf (k : Kv) (h : Handle) : Nat × Nat :=
  match slotOf k h with
  | some i => (qinfoOf (k.slots.get i), (k.slots.get i).budget)
  | none => (0, 0)

/-- DERIVE_FAST (R85): a pinned prefill through the derivation queue; GO stays 1 until it is done. -/
def kvDeriveFast (replace : Bool) (s : State) : State :=
  let k := s.kv
  let r := slotOf k k.handle
  if !fastOk k k.handle k.parent (kvLabel k) then kvFinish 2#4 replace (Status.permission, s.kvEvent 2)
  else if r.isSome && !replace then kvFinish 2#4 replace (Status.permission, s)
  else if (match r with | some i => decide (pinLimit k ≤ i) | none => true) && (freePinned k).isNone then kvFinish 2#4 replace (Status.refusedCapacity, s)
  else
    let d : Derivation :=
      { handle := k.handle, parent := k.parent, label := kvLabel k, hgen := BitVec.ofNat 16 (labGen (kvLabel k))
        pinned := true, attr := k.attr, tickets := [] }
    enqueue d (s.updKv fun k => { k with go := true, op := 2#4, replace := replace })

/-- One KV_CMD (R80, R85, R89): every command but WIPE_ALL and QUERY is refused while LOCKED. An UNWRAP whose blob passes the end
of the key region is refused (DESIGN CHOICE, assumption 166). A GO while another command
runs is no second command (R18: the bit is set already). -/
def kvCommand (op : Nat) (replace : Bool) (s : State) : State :=
  let k := s.kv
  let o := BitVec.ofNat 4 op
  if k.go && op != 8 then s
  else if k.locked && op != 8 && op != 9 then kvFinish o replace (Status.permission, s)
  else
    match op with
    | 1 => kvFinish o replace (deriveInto k.handle k.parent (kvLabel k) k.attr k.budget.toNat replace s)
    | 2 => kvDeriveFast replace s
    | 3 =>
      let off := k.src.toNat
      if inKeyRegion off 48 then kvFinish o replace (unwrapInto k.handle k.parent (keyRegion s off 48) replace s)
      else kvFinish o replace (Status.permission, s)
    | 4 => kvFinish o replace (importInto k.handle k.src.toNat k.attr replace s)
    | 5 => if (slotOf k k.handle).isSome then kvFinish o replace (Status.ok, retireHandle k.handle s)
      else kvFinish o replace (Status.hallGone, s)
    | 6 => kvFinish o replace (Status.ok,
        retireMatchOp (bits k.kmatch.toNat 28 4) (bits k.kmatch.toNat 16 12) (bits k.kmatch.toNat 0 16) s)
    | 7 =>
      match slotOf k k.handle with
      | some i => kvFinish o replace (Status.ok, setRemaining i k.budget.toNat s)
      | none => kvFinish o replace (Status.hallGone, s)
    | 8 => kvFinish o replace (Status.ok, wipeAllOp s)
    | 9 =>
      let q := kvQueryOf k k.handle
      kvFinish o replace (Status.ok,
        s.updKv fun k => { k with qinfo := BitVec.ofNat 32 q.1, qbudget := BitVec.ofNat 48 q.2 })
    | _ => kvFinish k.op k.replace (Status.permission, s)

def execDeriveHmac (replace : Bool) (s : State) : Answer := goOn (kvCommand 1 replace s)
def execDeriveFast (replace : Bool) (s : State) : Answer := goOn (kvCommand 2 replace s)
def execUnwrap (replace : Bool) (s : State) : Answer := goOn (kvCommand 3 replace s)
def execImportKey (replace : Bool) (s : State) : Answer := goOn (kvCommand 4 replace s)
def execSetBudget (s : State) : Answer := goOn (kvCommand 7 false s)
def execKvQuery (s : State) : Answer := goOn (kvCommand 9 false s)

end Sys2Proof.Machine
end

