-- ==== Sys2Proof/Machine/Session.lean ====
section
/-! DEFINITION. Management sessions as the actions see them: roles and how a session qualifies for one, the halls a session is
bound to, and the result mailbox of each action object (12_fences_sync.md R335; 19_management.md R490, R494, R504). -/

namespace Sys2Proof.Machine

-- One declaration at a time, so that the elaborator holds few threads (each takes stack of its own).
set_option Elab.async false

/-- A session's record. -/
def sessOf (s : State) (n : Nat) : Session := s.mgt.sessions.get n

/-- Change of one session. -/
def updSess (n : Nat) (f : Session → Session) (s : State) : State :=
  s.updMgt fun m => { m with sessions := m.sessions.mod n f }

/-- Does a session's chain qualify for a role (R490)? In SCRAP no role does. A domain manager's session keeps its role when DM_ANCHOR
changes: `anchored` holds what it was at the handshake (R514). -/
def qualifies (s : State) (n : Nat) (r : Role) : Bool :=
  let x := sessOf s n
  let st := s.lcState
  let factory := otpBlank s.lc.otp 58 12 && st == testOpen ||
    Crypto.digestBytes x.root == otpBytes s.lc.otp 58 12 && !otpBlank s.lc.otp 58 12
  x.live && match r with
    | .factory => factory && (st == testOpen || st == provisioned || st == returned)
    | .operator =>
      (if otpBlank s.lc.otp 70 12 then st == provisioned && factory
        else Crypto.digestBytes x.root == otpBytes s.lc.otp 70 12)
        && (st == provisioned || st == field || st == returned)
    | .domainManager => x.anchored && (st == provisioned || st == field)
    | .tenant => s.itu.halls.any (fun e => e.2.state != .free && e.2.tenant == x.leaf) && (st == provisioned || st == field)

/-- Is a session bound to a hall (R490)? -/
def boundTo (s : State) (n hall : Nat) : Bool :=
  (s.itu.halls.get hall).state != .free && (s.itu.halls.get hall).tenant == (sessOf s n).leaf

/-- May an action run for this role, out of those its row of the dictionary gives the right X? In recovery and in SCRAP no
action of the firmware exists (R503). -/
def mayAct (s : State) (roles : List Role) (a : Act) : Bool :=
  s.pwr.phase == .firmware && roles.contains a.role && qualifies s a.sess a.role

/-- May an action of recovery run for this role (R476)? -/
def mayRecover (s : State) (roles : List Role) (a : Act) : Bool :=
  s.pwr.phase == .recovery && roles.contains a.role && qualifies s a.sess a.role

/-- A tenant may name only a hall bound to its session. -/
def mayName (s : State) (a : Act) (hall : Nat) : Bool := a.role != .tenant || boundTo s a.sess hall

/-- The mailbox of an action object in a session: empty, OK and repeatable before the first request (R494). -/
def boxOf (s : State) (n obj : Nat) : ActBox :=
  match (sessOf s n).boxes.find? (fun b => b.obj == obj) with
  | some b => b
  | none => { (default : ActBox) with obj := obj }

/-- Write of the mailbox of an action object; a session that has ended keeps none. -/
def boxPut (n : Nat) (b : ActBox) (s : State) : State :=
  if !(sessOf s n).live then s
  else updSess n (fun x => { x with boxes := x.boxes.filter (fun y => y.obj != b.obj) ++ [b] }) s

/-- The result of an action is complete (R335). -/
def actDone (n obj : Nat) (st : Status) (data : Bytes) (oneShot : Bool) (s : State) : State :=
  boxPut n { boxOf s n obj with obj := obj, result := st, data := data, oneShot := oneShot } s

/-- The result of an action is not complete yet (R335). -/
def actWaits (n obj : Nat) (s : State) : State :=
  boxPut n { boxOf s n obj with obj := obj, result := Status.notReady, data := [], oneShot := false } s

/-- The same result for every requester that waits for one event. -/
def answerAll (who : List (Nat × Nat)) (st : Status) (data : Bytes) (s : State) : State :=
  forAll who (fun w s => actDone w.1 w.2 st data false s) s

/-- An action whose work ends at once: refused with PERMISSION for a role that may not run it, else its result. -/
def runAct (a : Act) (obj : Nat) (roles : List Role) (work : State → (Status × Bytes) × State) (s : State) : State :=
  if mayAct s roles a then
    match work s with
    | ((st, data), s') => actDone a.sess obj st data false s'
  else actDone a.sess obj Status.permission [] false s

/-- Every role. -/
def allRoles : List Role := [.factory, .operator, .domainManager, .tenant]

end Sys2Proof.Machine
end

