-- ==== Sys2Proof/Machine/Work.lean ====
section
/-! DEFINITION. Halls and queues as every engine sees them: quota fields, class, kept status, work entries from issue to
completion, profile slots, rate buckets, and the queue's stop (11_submission.md R286-R307; 14_admission_radio.md R374-R392;
17_debug_trace.md R456). -/

namespace Sys2Proof.Machine

-- One declaration at a time, so that the elaborator holds few threads (each takes stack of its own).
set_option Elab.async false

/-! ### Halls -/

/-- A hall's record, and a change of it. -/
def hallOf (s : State) (h : Nat) : Hall := s.itu.halls.get h
def updHall (h : Nat) (f : Hall → Hall) (s : State) : State := s.updItu fun u => { u with halls := u.halls.mod h f }

/-- Quota block fields (R375). -/
def qClass (h : Hall) : Nat := num h.quota 0 1
def qWeight (h : Hall) : Nat := num h.quota 1 1
def qQueues (h : Hall) : Nat := num h.quota 2 2
def qFences (h : Hall) : Nat := num h.quota 4 2
def qLsems (h : Hall) : Nat := num h.quota 6 2
def qBsems (h : Hall) : Nat := num h.quota 8 1
def qVregions (h : Hall) : Nat := num h.quota 9 1
def qRregions (h : Hall) : Nat := num h.quota 10 2
def qWork (h : Hall) : Nat := num h.quota 12 2
def qEngines (h : Hall) : Nat := num h.quota 14 2
def qLinkRate (h : Hall) : Nat := num h.quota 16 2
def qLineRate (h : Hall) : Nat := num h.quota 18 2
def qHostRate (h : Hall) : Nat := num h.quota 20 2
def qBurst (h : Hall) : Nat := num h.quota 22 2
def qDefer (h : Hall) : Nat := num h.quota 24 2

/-- Class of a hall: 0 RADIO, 1 RESERVED, 2 SPOT (R374). -/
def hallClass (s : State) (h : Nat) : Nat := qClass (hallOf s h)

/-- Is there a hall in this number that is not FREE? -/
def hallUsed (s : State) (h : Nat) : Bool := (hallOf s h).state != .free

/-- Entries of the halls that are not FREE. -/
def usedHalls (s : State) : List (Nat × Hall) := s.itu.halls.filter fun e => e.2.state != .free

/-- Is any RADIO hall not FREE (R384)? -/
def radioHall (s : State) : Bool := (usedHalls s).any fun e => qClass e.2 == 0

/-- The hall's SEALED mode. -/
def isSealed (h : Hall) : Bool := h.mode == .sealed

/-- Does an item's hall generation match (R28 order 2)? -/
def genOk (s : State) (h : Nat) (g : Nat) : Bool := hallUsed s h && (hallOf s h).hgen.toNat == g

/-! ### Rate buckets (R380) -/

/-- Which bucket. -/
inductive Bucket where
  | link
  | line
  | host
deriving DecidableEq, Repr

/-- The bucket's contents. -/
def bucketOf (h : Hall) : Bucket → Int
  | .link => h.linkBucket
  | .line => h.lineBucket
  | .host => h.hostBucket

/-- A bucket with new contents. -/
def setBucket (h : Hall) (b : Bucket) (v : Int) : Hall :=
  match b with
  | .link => { h with linkBucket := v }
  | .line => { h with lineBucket := v }
  | .host => { h with hostBucket := v }

/-- Is a RESERVED hall demoted at this metered pipe now (R380)? -/
def demoted (h : Hall) (b : Bucket) : Bool := qClass h == 1 && decide (bucketOf h b < 0)

/-- A charge of an item's bytes: taken whole, bytes served demoted counted, DEMOTE set when a RESERVED bucket goes below
zero. SPOT halls have no buckets. -/
def charge (hall : Nat) (b : Bucket) (bytes : Nat) (s : State) : State :=
  let h := hallOf s hall
  if h.state = .free ∨ 2 ≤ qClass h then s
  else
    let d := demoted h b
    let v := bucketOf h b - bytes
    let s := updHall hall (fun h => setBucket h b v) s
    let s := if d then (hallCount hall 5 bytes s).updAdm fun a => { a with counters := a.counters.bump 5 bytes } else s
    if qClass h = 1 ∧ 0 ≤ bucketOf h b ∧ v < 0 then s.admEvent 0 else s

/-- Refill of one bucket by rate × 100 bytes up to BURST × 1,024. -/
def refilled (v : Int) (rate burst : Nat) : Int := min (v + rate * 100) (burst * 1024)

/-- BUCKET_REFILL (R380): 1 µs of timebase. A stopped interval of a CUT refills nothing (R386). -/
def bucketRefillOp (s : State) : State :=
  if s.stopped then s
  else forAll (usedHalls s) (fun e s =>
    if qClass e.2 < 2 then updHall e.1 (fun h => { h with
      linkBucket := refilled h.linkBucket (qLinkRate h) (qBurst h)
      lineBucket := refilled h.lineBucket (qLineRate h) (qBurst h)
      hostBucket := refilled h.hostBucket (qHostRate h) (qBurst h) }) s else s) s

def execBucketRefill (s : State) : Answer := goOn (bucketRefillOp s)

/-- The rank of a hall's item at a metered pipe (R381): RADIO 0, RESERVED 2, SPOT and demoted RESERVED 3; SERVICE is 1. -/
def pipeRank (h : Hall) (b : Bucket) : Nat := if qClass h = 0 then 0 else if qClass h = 1 && !demoted h b then 2 else 3

/-- Weighted round-robin among the halls that wait in one rank at a unit (R381): a hall that has used up its turns waits
while another has turns left, and a round ends when all have used theirs. -/
def turnOk (unit hall : Nat) (others : List Nat) (s : State) : Bool :=
  let t := s.adm.turns.get unit
  let used (h : Nat) : Nat := (t.filter (fun e => e.1 == h)).foldl (fun n e => n + e.2) 0
  decide (used hall < qWeight (hallOf s hall)) || others.all fun h => decide (qWeight (hallOf s h) ≤ used h)

/-- The turn is taken. -/
def turnTaken (unit hall : Nat) (others : List Nat) (s : State) : State :=
  let t := s.adm.turns.get unit
  let used (h : Nat) : Nat := (t.filter (fun e => e.1 == h)).foldl (fun n e => n + e.2) 0
  let fresh := decide (qWeight (hallOf s hall) ≤ used hall) && others.all fun h => decide (qWeight (hallOf s h) ≤ used h)
  s.updAdm fun a => { a with turns := a.turns.set unit ((if fresh then [] else t) ++ [(hall, 1)]) }

/-! ### Queues -/

/-- A queue's record, and a change of it. -/
def queueOf (s : State) (q : Nat) : Queue := s.fe.queues.get q
def updQueue (q : Nat) (f : Queue → Queue) (s : State) : State := s.updFe fun x => { x with queues := x.queues.mod q f }

/-- The class of a queue is that of its hall. -/
def queueClass (s : State) (q : Nat) : Nat := hallClass s (queueOf s q).hall

/-- The first status other than OK and DEFERRED since the last SIGNAL is kept (R301). RETRY_LATER never is (R385). -/
def keepStatus (q : Nat) (st : Status) (s : State) : State :=
  if st = Status.ok ∨ st = Status.deferred ∨ st = Status.retryLater then s
  else updQueue q (fun x => if x.kept = Status.ok then { x with kept := st } else x) s

/-- The queues of a hall that are not FREE. -/
def hallQueues (s : State) (h : Nat) : List Nat :=
  s.fe.queues.filterMap fun e => if e.2.state != .free && e.2.hall == h then some e.1 else none

/-- The number of queues in the active set. -/
def activeCount (s : State) : Nat := (s.fe.queues.filter fun e => e.2.active).length

/-- A queue leaves the active set. -/
def deactivate (q : Nat) (s : State) : State :=
  (updQueue q (fun x => { x with active := false }) s).updFe fun f => { f with activeOrder := f.activeOrder.filter (· != q) }

/-- The compute slots reserved for a RADIO queue are given up (R383). -/
def dropReservations (q : Nat) (s : State) : State :=
  s.updFe fun f => { f with slots := f.slots.map fun e =>
    (e.1, if e.2.reservedFor == some q then { e.2 with reservedFor := none } else e.2) }

/-- Is work of a higher class than the owner's waiting for a slot, decoded or reserved (R304, R383)? -/
def classWanted (s : State) (e : Nat) : Bool :=
  let x := s.fe.slots.get e
  match x.owner with
  | none => false
  | some o => (x.waiting ++ x.reservedFor.toList).any fun q => decide (queueClass s q < queueClass s o)

/-- Is a slot wanted for a higher class, or for a suspect in its retake (R421)? -/
def slotWanted (s : State) (e : Nat) : Bool :=
  let x := s.fe.slots.get e
  classWanted s e || (match x.owner with
    | none => false
    | some o => x.waiting.any fun q => q != o && (s.hr.watch.get q).retake)

/-- cp_preempt_o follows the slots' owners, waiters and reservations. -/
def setPreempt (s : State) : State :=
  let m := BitVec.ofNat 16 ((List.range 16).foldl (fun n e => n + b2n (slotWanted s e) * 2 ^ e) 0)
  s.updPins fun p => { p with preempt := m }

/-- A queue enters STOPPED (R305): QSTAT.STOP, the C1 fault with queue ID and unit index, the active entry given up. -/
def queueStopBy (natural : Bool) (q : Nat) (st : Status) (unit : Nat) (s : State) : State :=
  let x := queueOf s q
  let s := updQueue q (fun x => { x with state := .stopped, stop := st, fetch := .idle }) s
  let s := setPreempt (dropReservations q (deactivate q s))
  let kind := if st = Status.authFail then Kind.cmdAuth else Kind.cmdFormat
  let s := reportFault natural Src.fe kind x.hall 0 (q + unit * 2 ^ 14) s
  s.feEvent 1

/-- By a check that failed of itself. -/
def queueStop (q : Nat) (st : Status) (unit : Nat) (s : State) : State := queueStopBy true q st unit s

/-! ### Profile slots (R456) -/

/-- Does a profile slot count an item of this scene and shot? -/
def profMatch (p : Profile) (scene shot : Nat) : Bool :=
  let m := p.pmatch.toNat
  m.testBit 63 && (m.testBit 62 || bits m 16 24 == scene) && (m.testBit 61 || bits m 0 16 == shot)

/-- An item of a hall ends: its values go to every matching slot. -/
def profileEnd (hall scene shot bytes busyNs deferNs : Nat) (s : State) : State :=
  updHall hall (fun h => { h with profiles := h.profiles.map fun e =>
    (e.1, if profMatch e.2 scene shot then { e.2 with
      items := e.2.items + 1
      bytes := e.2.bytes + BitVec.ofNat 64 bytes
      busy := e.2.busy + BitVec.ofNat 64 busyNs
      defer := e.2.defer + BitVec.ofNat 64 deferNs } else e.2) }) s

/-! ### Work entries (R378, R379, R301) -/

/-- Engines as acknowledgement numbers: compute slots 0-15, movers 16-31, reduction units 32-39, remote requests 40. -/
def engMover (m : Nat) : Nat := 16 + m
def engRed (u : Nat) : Nat := 32 + u
def engRemote : Nat := 40

/-- The source ID of an engine in trace records. -/
def engUnit (e : Nat) : Nat :=
  if e < 16 then Src.engine e else if e < 32 then Src.mover (e - 16) else if e < 40 then Src.red (e - 32) else Src.fe

/-- The work pool's shared entries (R378): 8,192 less what the halls that are not FREE reserve. -/
def reservedWork (s : State) : Nat := ((usedHalls s).filter fun e => qClass e.2 < 2).foldl (fun n e => n + qWork e.2) 0
def sharedFree (s : State) : Nat := 8192 - reservedWork s - s.adm.sharedUsed

/-- What the work-entry check answers (R378). -/
inductive WorkCheck where
  | go
  | waits
  | refuse (st : Status)
deriving DecidableEq, Repr

/-- The check of a work packet when it would issue (R378). -/
def workCheck (s : State) (hall : Nat) : WorkCheck :=
  let h := hallOf s hall
  if qWork h ≤ h.workUsed then (if qClass h = 0 then .waits else .refuse Status.refusedQuota)
  else if qClass h = 2 ∧ sharedFree s = 0 then .refuse Status.refusedCapacity
  else .go

/-- A refused packet completes at once: counters, events and the kept status (R378, R387). -/
def workRefused (q : Nat) (st : Status) (s : State) : State :=
  let hall := (queueOf s q).hall
  let s := if st = Status.refusedQuota then ((hallCount hall 2 1 s).admCount 3).admEvent 1
    else ((hallCount hall 3 1 s).admCount 4).admEvent 2
  keepStatus q st s

/-- A packet or request that needs an absent or retired unit completes with PERMISSION (R13, R296). -/
def absentUnit (q : Nat) (s : State) : State := keepStatus q Status.permission (hallCount (queueOf s q).hall 11 1 s)

/-- A work packet issues: it takes an entry and its number is the pool's next. `began` is the time of issue. -/
def workIssue (q engine : Nat) (reg : Option Nat) (bytes : Nat) (s : State) : State :=
  let x := queueOf s q
  let w : Work :=
    { live := true, q := q, qgen := x.qgen, hall := x.hall, engine := engine, reg := reg, scene := x.scene, shot := x.shot
      bytes := bytes
      waited := x.held + (match x.heldSince with | some t => s.now - t | none => 0)
      blocked := none
      began := s.now
      elem := 0
      wide := false
      req := [] }
  let s := s.updFe fun f => { f with works := f.works.set f.nextWork w, nextWork := f.nextWork + 1 }
  let s := updQueue q (fun x => { x with heldSince := none, held := 0 }) s
  let s := updHall x.hall (fun h => { h with workUsed := h.workUsed + 1 }) s
  let s := if qClass (hallOf s x.hall) = 2 then s.updAdm fun a => { a with sharedUsed := a.sharedUsed + 1 } else s
  rushes Src.fe Ev.itemStart x.hall x.scene.toNat x.shot.toNat q s

/-! ### Retakes (R421) -/

/-- The engine of a watched object that is no queue. -/
def watchEngine (key : Nat) : Nat :=
  if 0x20000 ≤ key then 32 + (key - 0x20000) / 4
  else
    let u := key - 0x10000
    if 0x240 ≤ u ∧ u < 0x250 then 16 + (u - 0x240) else if 0x2E0 ≤ u ∧ u < 0x2F0 then u - 0x2E0 else engRemote

/-- Does a retake keep work of a queue from an engine: a suspect queue has work on it, or it is itself in its retake and held
no work of the queue? RADIO work is never kept. -/
def retakeBars (s : State) (q engine : Nat) : Bool :=
  queueClass s q != 0 && s.hr.watch.any fun e =>
    e.2.retake && (if e.1 < 0x10000 then e.1 != q && s.fe.works.any (fun w => w.2.live && w.2.q == e.1 && w.2.engine == engine)
      else watchEngine e.1 == engine && !e.2.held.contains q)

/-- The number that the next issue takes. -/
def nextWorkId (s : State) : Nat := s.fe.nextWork

/-- The live work of a queue on one engine. -/
def workOn (s : State) (q engine : Nat) : List Nat :=
  s.fe.works.filterMap fun e => if e.2.live && e.2.q == q && e.2.engine == engine then some e.1 else none

/-- The live work of a queue. -/
def workOf (s : State) (q : Nat) : List Nat := s.fe.works.filterMap fun e => if e.2.live && e.2.q == q then some e.1 else none

/-- The status that a completion reports: DEFERRED in place of OK where a higher class kept the work waiting for more than
DEFER_LIMIT (R379). -/
def endStatus (h : Hall) (waited : Nat) (st : Status) : Status :=
  if st = Status.ok ∧ qClass h ≠ 0 ∧ qDefer h ≠ 0xFFFF ∧ qDefer h * 64 * nsT < waited then Status.deferred else st

/-- An engine acknowledges an abort of a queue. -/
def abortAck (q engine : Nat) (s : State) : State := updQueue q (fun x => { x with acks := x.acks.filter (· != engine) }) s

/-- A work item completes (R301, R307, R378, R379, R387, R456): its entry returns, its status is recorded, the SIGNALs that
wait for it wait no longer. The status of an item of a DYING queue, or of one in T0, reaches nothing (R424). -/
def workEnd (id : Nat) (st : Status) (s : State) : State :=
  let w := s.fe.works.get id
  if !w.live then s
  else
    let x := queueOf s w.q
    let h := hallOf s w.hall
    let waited := w.waited + (match w.blocked with | some t => s.now - t | none => 0)
    let s := s.updFe fun f => { f with works := f.works.set id default }
    let s := updHall w.hall (fun h => { h with workUsed := h.workUsed - 1 }) s
    let s := if qClass h = 2 then s.updAdm fun a => { a with sharedUsed := a.sharedUsed - 1 } else s
    let s := updQueue w.q (fun x => { x with signals := x.signals.map fun g => { g with after := g.after.filter (· != id) } }) s
    let s := profileEnd w.hall w.scene.toNat w.shot.toNat w.bytes ((s.now - w.began) / nsT) (waited / nsT) s
    let s := if w.engine = engRemote ∧ (workOn s w.q engRemote).isEmpty then abortAck w.q engRemote s else s
    if x.state = .dying then
      rushes (engUnit w.engine) Ev.itemEnd w.hall w.scene.toNat w.shot.toNat Status.queueDestroyed.toNat (s.feCount 5)
    else if x.t0 then
      rushes (engUnit w.engine) Ev.itemEnd w.hall w.scene.toNat w.shot.toNat x.cause.toNat (s.feCount 5)
    else
      let s := progress w.q s
      let e := endStatus h waited st
      let s := rushes (engUnit w.engine) Ev.itemEnd w.hall w.scene.toNat w.shot.toNat e.toNat s
      let s := if e = Status.ok then hallCount w.hall 0 1 s
        else if e = Status.deferred then (hallCount w.hall 1 1 s).admCount 2
        else s
      keepStatus w.q e s

/-- Work of a lower class begins, or ends, waiting behind a higher class at a boundary (R379). -/
def workBlocked (id : Nat) (s : State) : State :=
  s.updFe fun f => { f with works := f.works.mod id fun w => if w.live && w.blocked.isNone then { w with blocked := some s.now } else w }
def workUnblocked (id : Nat) (s : State) : State :=
  s.updFe fun f => { f with works := f.works.mod id fun w =>
    match w.blocked with
    | some t => { w with blocked := none, waited := w.waited + (s.now - t) }
    | none => w }

end Sys2Proof.Machine
end

