-- ==== Sys2Proof/Machine/LifeCycle.lean ====
section
/-! DEFINITION. The life-cycle and OTP controller: OTP programming, transitions, the rollback counter, debug certificates and
consent (02_ports.md R58, R59; 04_lifecycle_debug_rights.md R91-R115; 19_management.md R505). -/

namespace Sys2Proof.Machine

-- One declaration at a time, so that the elaborator holds few threads (each takes stack of its own).
set_option Elab.async false

/-! ### OTP programming (R58, R59) -/

/-- Is the controller programming words, or waiting to? -/
def otpActive (s : State) : Bool := !s.lc.otpQueue.isEmpty

/-- Words enter the programming queue; the programming supply is asked for. `after` says what their completion does. -/
def otpStart (words : List (Nat × BitVec 39)) (after : OtpThen) (s : State) : State :=
  s.updLc fun l => { l with otpQueue := words, otpThen := after, vppReq := true }

/-- The head word's program begins: otp_pgm_o rises only with otp_vpp_ok_i = 1 and otp_busy_i = 0. -/
def otpPulse (s : State) : State :=
  match s.lc.otpQueue with
  | (w, b) :: _ =>
    if s.lc.vppOk && !s.lc.otpBusy then
      (s.updLc fun l => { l with pgm := true, otpBusy := true }).emit (.otp w b)
    else s
  | [] => s

/-- OTP_VPP_OK (R59): the supply is up. Without a request it starts nothing. -/
def otpVppOkOp (s : State) : State := if s.lc.vppReq then otpPulse (s.updLc fun l => { l with vppOk := true }) else s

def execOtpVppOk (s : State) : Answer := goOn (otpVppOkOp s)

/-- The word in programming has all of its bits; the next one begins, or the queue is done. -/
def otpWordDone (s : State) : State :=
  match s.lc.otpQueue with
  | (w, b) :: rest =>
    if s.lc.otpBusy then
      otpPulse (s.updLc fun l => { l with
        otp := l.otp.mod w (fun o => otpProgram o b)
        otpQueue := rest
        pgm := false
        otpBusy := false
        vppReq := !rest.isEmpty
        vppOk := l.vppOk && !rest.isEmpty })
    else s
  | [] => s

/-- The programming that a power-on reset interrupts: each addressed bit reads as 0 or 1, stably, and no other bit changes
(R58). Which ones is a free value. -/
def otpInterrupted (s : State) : State :=
  let inOrder := match s.lc.otpThen with | .rollback _ => true | _ => false
  let got : BitVec 39 := if inOrder then BitVec.ofNat 39 (2 ^ (s.open64.toNat % 40) - 1) else s.open64.setWidth 39
  match s.lc.otpQueue with
  | (w, b) :: _ =>
    if s.lc.otpBusy then
      (s.updLc fun l => { l with otp := l.otp.mod w fun o => otpProgram o (b &&& got) }).opened
    else s
  | [] => s

/-- A number's ECC words, 32 bits each, from word `w`. -/
def eccWords (w : Nat) : Bytes → Nat → List (Nat × BitVec 39)
  | _, 0 => []
  | b, n + 1 => (w, otpEcc (BitVec.ofNat 32 (num b 0 4))) :: eccWords (w + 1) (b.drop 4) n

/-! ### Measurement registers (R116) -/

/-- MEASn. -/
def measOf (s : State) (n : Nat) : Digest := s.att.meas.get n

/-- EXTEND: MEASn becomes SHA-384(MEASn, d). -/
def measPut (n : Nat) (d : Bytes) (s : State) : State :=
  s.updAt fun a => { a with
    meas := a.meas.set n (Config.sha384 (Crypto.digestBytes (a.meas.get n) ++ Crypto.digestBytes (Crypto.digestOf d))) }

/-- EXTEND of a register that may be locked. -/
def measExtendOp (n : Nat) (d : Bytes) (s : State) : Status × State :=
  if s.att.locks.toNat.testBit n then (Status.permission, s) else (Status.ok, measPut n d s)

/-! ### Consent (R111, R112) -/

/-- The SEALED halls without consent. -/
def withoutConsent (s : State) : Nat :=
  ((usedHalls s).filter fun e => isSealed e.2 && !s.lc.consents.contains e.1).length

/-- Is a data-visible right granted? -/
def dataVisible (s : State) : Bool := s.rightScanFull || s.rightHalt

/-- CONSENT_MISSING follows the halls and the consents; a data-visible right that was in effect and is no longer sets
CONSENT_LOST, and a halted Keeper resumes. -/
def recountConsent (s : State) : State :=
  let before := dataVisible s && s.consentGiven
  let s := s.updLc fun l => { l with consentMissing := withoutConsent s }
  if before && !s.consentGiven then (s.updLc fun l => { l with halted := false }).lcEvent 3 else s

/-- A nonce is used up: the consents against it lapse (R108, R111). -/
def nonceUsed (s : State) : State := recountConsent (s.updLc fun l => { l with nonceValid := false, consents := [] })

/-- A fresh nonce replaces the old one, and the consents against that lapse. -/
def newNonce (s : State) : State :=
  recountConsent ((s.updLc fun l => { l with
    nonce := s.draw.setWidth 128, nonceValid := true, consents := [] }).drew)

/-- The nonce as bytes: byte 4n in bits [7:0] of DBG_NONCEn (R102). -/
def nonceBytes (s : State) : Bytes := natLe s.lc.nonce.toNat 16

/-- CONSENT for every SEALED hall bound to the session. -/
def consentOp (sess : Nat) (arg : Bytes) (s : State) : Status × State :=
  let mine := (usedHalls s).filterMap fun e => if isSealed e.2 && boundTo s sess e.1 then some e.1 else none
  if mine.isEmpty ∨ arg.length ≠ 16 then (Status.permission, s)
  else if allZero arg then
    (Status.ok, recountConsent (s.updLc fun l => { l with consents := l.consents.filter fun h => !mine.contains h }))
  else if s.lc.nonceValid && arg == nonceBytes s then
    (Status.ok, recountConsent (s.updLc fun l => { l with consents := l.consents.filter (fun h => !mine.contains h) ++ mine }))
  else (Status.permission, s)

def consentAct (a : Act) (arg : Bytes) (s : State) : State :=
  runAct a 0x902003 [.tenant] (fun s => match consentOp a.sess arg s with | (st, s) => ((st, []), s)) s

def execConsent (a : Act) (arg : Bytes) (s : State) : Answer := goOn (consentAct a arg s)

/-- KEEPER_HALT_REQUEST (R105, R111): the Keeper halts under KEEPER_HALT in effect, else the request is refused. -/
def keeperHalt (s : State) : State :=
  if s.rightHalt && s.consentGiven then s.updLc fun l => { l with halted := true }
  else s.emit (.status .none Status.permission [])

def execKeeperHaltRequest (s : State) : Answer := goOn (keeperHalt s)

/-! ### Debug certificates (R107-R110) -/

/-- The clear of the rights in force, as at step 2 of R98. -/
def clearRights (s : State) : State := s.updLc fun l => { l with rights := 0#6, issuer := false, halted := false }

/-- Is an issuer (1 factory, 2 owner) admitted in the current state (R94)? -/
def issuerOk (s : State) (i : Nat) : Bool :=
  let st := s.lcState
  if st = provisioned then i == 1 || i == 2 else if st = field then i == 2 else if st = returned then i == 1 else false

/-- Everything that R109 asks of a certificate but its signature. -/
def certForm (s : State) (c : Bytes) : Bool :=
  let i := num c 4 1
  c.length == 224 && num c 0 2 == 0x0D01 && num c 2 2 == 224 && decide (num c 5 1 < 64) && num c 6 2 == 0 && issuerOk s i
    && Crypto.digestBytes (Config.sha384 (sub c 32 96)) == otpBytes s.lc.otp (if i = 1 then 58 else 70) 12
    && num c 8 8 == s.deviceId && s.lc.nonceValid && sub c 16 16 == nonceBytes s

/-- The debug record of an accepted certificate (R117). -/
def debugRecord (c : Bytes) : Bytes := sub c 5 1 ++ sub c 4 1 ++ List.replicate 14 0#8 ++ sub c 16 16

/-- A certificate is presented: the nonce is used up whatever the outcome; an accepted one replaces the rights and extends
MEAS5, a refused one sets CERT_REJECT. -/
def certOp (c : Bytes) (s : State) : Status × State :=
  let form := certForm s c
  let signed := Config.ecdsaVerify (sub c 32 96) (Config.sha384 (sub c 0 128)) (sub c 128 96)
  let s := nonceUsed s
  if !form then (Status.permission, s.lcEvent 2)
  else if !signed then (Status.authFail, s.lcEvent 2)
  else
    let s := s.updLc fun l => { l with rights := BitVec.ofNat 6 (num c 5 1), issuer := num c 4 1 == 2 }
    let s := if s.rightHalt then s else s.updLc fun l => { l with halted := false }
    (Status.ok, measPut 5 (Crypto.digestBytes (Config.sha384 (debugRecord c))) s)

/-- The roles that the state admits to DEBUG_NONCE, and with it to DEBUG_CERT (R108). -/
def debugRole (s : State) (r : Role) : Bool :=
  match r with
  | .operator => s.lcState == provisioned || s.lcState == field
  | .factory => s.lcState == provisioned || s.lcState == returned
  | _ => false

def debugNonceAct (a : Act) (s : State) : State :=
  runAct a 0x902001 [.factory, .operator] (fun s =>
    if debugRole s a.role then
      let s := newNonce s
      ((Status.ok, nonceBytes s), s)
    else ((Status.permission, []), s)) s

def execDebugNonce (a : Act) (s : State) : Answer := goOn (debugNonceAct a s)

def debugCertAct (a : Act) (arg : Bytes) (s : State) : State :=
  runAct a 0x902002 [.factory, .operator] (fun s => match certOp arg s with | (st, s) => ((st, []), s)) s

def execDebugCert (a : Act) (arg : Bytes) (s : State) : Answer := goOn (debugCertAct a arg s)

/-! ### Transitions (R96-R98) -/

/-- The OTP words of a token's digest: PROVISION 10, FIELD 22, RETURN 34, SCRAP 46 (R91). -/
def tokenWord (target : Nat) : Nat := 10 + 12 * (target - 1)

/-- Word groups are not blank: first word and count of each. -/
def groupsSet (s : State) (l : List (Nat × Nat)) : Bool := l.all fun g => !otpBlank s.lc.otp g.1 g.2

/-- A pair of R96 with its preconditions and, for an action, its role; `none` is the Keeper's BEGIN. -/
def pairOk (s : State) (target : Nat) (r : Option Role) : Bool :=
  let st := s.lcState
  let role (l : List Role) : Bool := match r with | some r => l.contains r | none => true
  if target = 1 then st == testOpen && role [.factory]
      && groupsSet s [(0, 8), (8, 2), (10, 12), (22, 12), (46, 12), (58, 12), (82, 12)]
  else if target = 2 then st == provisioned && role [.factory, .operator] && groupsSet s [(34, 12), (70, 12)]
  else if target = 3 then st == field && role [.operator] && (usedHalls s).isEmpty
  else if target = 4 then st != scrap && role [.factory, .operator]
  else false

/-- May this request go without a token: TEST_OPEN to SCRAP with words 46-57 blank, from FACTORY only? -/
def tokenless (s : State) (target : Nat) : Bool := target == 4 && s.lcState == testOpen && otpBlank s.lc.otp 46 12

/-- A transition's request (R96, R97, R115). Accepted, it begins at step 1 of R98. -/
def transitionOp (target : Nat) (token : Bytes) (r : Option Role) (s : State) : Status × State :=
  if s.lc.tokenLock || s.lc.running.isSome || otpActive s then (Status.retryLater, s)
  else if !pairOk s target r || (tokenless s target && (match r with | some r => r != .factory | none => false)) then
    (Status.permission, s)
  else if !tokenless s target
      && Crypto.digestBytes (Config.sha384 (fit token 16)) != otpBytes s.lc.otp (tokenWord target) 12 then
    (Status.authFail, (s.updLc fun l => { l with tokenLock := true }).lcEvent 1)
  else
    (Status.ok, otpStart [(99 + target, otpFull)] (.intent target) (s.updLc fun l => { l with running := some target }))

/-- Steps 2 and 3 of R98: rights cleared, every port enable but mii lowered. -/
def intentDone (s : State) : State :=
  (clearRights s).updPins fun p => { p with hpEn := false, cpEn := false, lpEn := 0#4, mpEn := 0#16 }

/-- TRANSITION (R96): the answer waits until the intent stands, and a refusal answers at once. In recovery its target is SCRAP only
(R476). -/
def transitionAct (a : Act) (arg : Bytes) (s : State) : State :=
  let inRecovery := mayRecover s [.factory, .operator] a && num arg 0 1 == 4
  if !(mayAct s [.factory, .operator] a || inRecovery) || arg.length != 17 then
    actDone a.sess 0x901001 Status.permission [] false s
  else match transitionOp (num arg 0 1) (sub arg 1 16) (some a.role) s with
    | (st, s) =>
      if st = Status.ok then actWaits a.sess 0x901001 (s.updLc fun l => { l with otpAnswer := [(a.sess, 0x901001)] })
      else actDone a.sess 0x901001 st [] false s

def execTransition (a : Act) (arg : Bytes) (s : State) : Answer := goOn (transitionAct a arg s)

/-! ### Rollback counter (R100, R101) -/

/-- The bits of the rollback words from count `n` to `v`: word 128 + i / 39, bit i mod 39, one word at a time. -/
def rollbackBits (n v : Nat) : List (Nat × BitVec 39) :=
  (List.range 128).filterMap fun k =>
    let lo := max n (39 * k)
    let hi := min v (39 * (k + 1))
    if lo < hi then some (128 + k, BitVec.ofNat 39 (2 ^ (hi - 39 * k) - 2 ^ (lo - 39 * k))) else none

/-- The counter is advanced to `v` bits. -/
def rollbackStart (v : Nat) (s : State) : State := otpStart (rollbackBits (rollbackCount s.lc.otp) v) (.rollback v) s

/-- ROLLBACK_COMMIT (R101). -/
def rollbackCommitAct (a : Act) (arg : Bytes) (s : State) : State :=
  let v := num arg 0 2
  let ok := mayAct s [.operator] a && (s.lcState == provisioned || s.lcState == field) && arg.length == 2
    && decide (v ≤ s.pwr.secver.toNat) && decide (v ≤ 4992)
  if !ok then actDone a.sess 0x901003 Status.permission [] false s
  else if v ≤ rollbackCount s.lc.otp then actDone a.sess 0x901003 Status.ok [] false s
  else if otpActive s then actDone a.sess 0x901003 Status.retryLater [] false s
  else actWaits a.sess 0x901003 (rollbackStart v (s.updLc fun l => { l with otpAnswer := [(a.sess, 0x901003)] }))

def execRollbackCommit (a : Act) (arg : Bytes) (s : State) : Answer := goOn (rollbackCommitAct a arg s)

/-! ### OTP groups (R91, R505) -/

/-- First word, word count and role of the group that OTP_PROGRAM numbers. -/
def otpGroup (g : Nat) : Option (Nat × Nat × Bool) :=
  match g with
  | 1 => some (8, 2, false)
  | 2 => some (10, 12, false)
  | 3 => some (22, 12, false)
  | 4 => some (34, 12, true)
  | 5 => some (46, 12, false)
  | 6 => some (58, 12, false)
  | 7 => some (70, 12, true)
  | 8 => some (82, 12, false)
  | _ => none

/-- OTP_PROGRAM (R505, R92): byte 0 the group, then the group's bytes. -/
def otpProgramAct (a : Act) (arg : Bytes) (s : State) : State :=
  let refuse (st : Status) : State := actDone a.sess 0x901002 st [] false s
  match otpGroup (num arg 0 1) with
  | none => refuse Status.permission
  | some (w, n, owner) =>
    let roleOk := if owner then mayAct s [.operator] a && s.lcState == provisioned
      else mayAct s [.factory] a && s.lcState == testOpen
    if !roleOk || arg.length != 4 + 4 * n || !allZero (sub arg 1 3) || !otpBlank s.lc.otp w n then refuse Status.permission
    else if otpActive s then refuse Status.retryLater
    else actWaits a.sess 0x901002
      (otpStart (eccWords w (arg.drop 4) n) .group (s.updLc fun l => { l with otpAnswer := [(a.sess, 0x901002)] }))

def execOtpProgram (a : Act) (arg : Bytes) (s : State) : Answer := goOn (otpProgramAct a arg s)

/-! ### LC_CMD (R104) -/

/-- LC_TOKEN as bytes. -/
def lcToken (s : State) : Bytes := ((List.range 4).map fun i => natLe (s.lc.token.get i).toNat 4).flatten

/-- A command's end: GO clears and RESULT holds the status. -/
def lcFinish (r : Status × State) : State := r.2.updLc fun l => { l with go := false, result := r.1 }

/-- A command whose words are still to be programmed keeps GO; its RESULT follows their completion. -/
def lcRuns (s : State) : State := s.updLc fun l => { l with go := true }

/-- The owner-region erase, and for SCRAP the L0 overwrite that follows it (R98). -/
def eraseReportOp (s : State) : State :=
  let s := s.updLc fun l => { l with eraseDone := true }
  if s.lcPending = some scrap then otpStart ((List.range 8).map fun w => (w, otpFull)) .l0 s else s

/-- COMMIT (R98): refused unless a transition is pending, the vault is LOCKED and the erase is reported where R96 asks. -/
def commitOp (s : State) : Status × State :=
  match s.lcPending with
  | none => (Status.permission, s)
  | some t =>
    if !s.kv.locked || (decide (3 ≤ t) && !s.lc.eraseDone) then (Status.permission, s)
    else if otpActive s then (Status.retryLater, s)
    else (Status.ok, otpStart [(95 + t, otpFull)] (.stateWord t) s)

/-- One LC_CMD. A GO while another command runs is no second command. ROLLBACK_ADVANCE programs one bit, and answers PERMISSION at 4,992:
DESIGN CHOICE, assumption 169. -/
def lcCommand (op : Nat) (target : BitVec 3) (s : State) : State :=
  if s.lc.go then s
  else
    let s := s.updLc fun l => { l with op := BitVec.ofNat 4 op, target := target }
    match op with
    | 1 => match transitionOp target.toNat (lcToken s) none s with
      | (st, s) => if st = Status.ok then lcRuns s else lcFinish (st, s)
    | 2 => if otpActive s then lcFinish (Status.retryLater, s)
      else
        let s := eraseReportOp s
        if otpActive s then lcRuns s else lcFinish (Status.ok, s)
    | 3 => match commitOp s with
      | (st, s) => if st = Status.ok then lcRuns s else lcFinish (st, s)
    | 4 => if otpActive s then lcFinish (Status.retryLater, s)
      else if 4992 ≤ rollbackCount s.lc.otp then lcFinish (Status.permission, s)
      else lcRuns (rollbackStart (rollbackCount s.lc.otp + 1) s)
    | 5 => lcFinish (Status.ok, newNonce s)
    | 6 => lcFinish (certOp (keyRegion s 0 224) s)
    | 7 => lcFinish (Status.ok, clearRights s)
    | _ => lcFinish (Status.permission, s)

def execLcBegin (target : BitVec 3) (s : State) : Answer := goOn (lcCommand 1 target s)
def execLcEraseReport (s : State) : Answer := goOn (lcCommand 2 s.lc.target s)
def execLcCommit (s : State) : Answer := goOn (lcCommand 3 s.lc.target s)
def execLcRollbackAdvance (s : State) : Answer := goOn (lcCommand 4 s.lc.target s)
def execLcNewNonce (s : State) : Answer := goOn (lcCommand 5 s.lc.target s)
def execLcGrant (s : State) : Answer := goOn (lcCommand 6 s.lc.target s)
def execLcClearRights (s : State) : Answer := goOn (lcCommand 7 s.lc.target s)

/-- The words of a job are all programmed: what follows, but for the T3 that a state word's completion brings. The
interface's command and the waiting action end with OK. -/
def otpJobDone (s : State) : State :=
  let who := s.lc.otpAnswer
  let s := match s.lc.otpThen with
    | .intent _ => intentDone s
    | _ => s
  let s := s.updLc fun l => { l with otpThen := .nothing, otpAnswer := [] }
  let s := answerAll who Status.ok [] s
  if s.lc.go then lcFinish (Status.ok, s) else s

/-! ### Manufacturing scan (R62, R94) -/

/-- SCAN_MODE_REQUEST (R62): so_tmode_i acts in TEST_OPEN only. -/
def scanMode (level : Bool) (s : State) : State :=
  if s.lcState = testOpen then
    (s.updPins fun p => { p with scanOn := level }).opened.emit (.scan level (if level then s.open64.setWidth 8 else 0#8))
  else s

def execScanModeRequest (level : Bool) (s : State) : Answer := goOn (scanMode level s)

end Sys2Proof.Machine
end

