-- ==== Sys2Proof/Machine/Attest.lean ====
section
/-! DEFINITION. The attestation unit: measurements, DICE, signing, the Slate, the host-page mailbox, and the SPDM responder
(05_attestation_domain.md R116-R133; 12_fences_sync.md R334, R335). -/

namespace Sys2Proof.Machine

-- One declaration at a time, so that the elaborator holds few threads (each takes stack of its own).
set_option Elab.async false

/-! ### AT_CMD (R116-R122) -/

/-- AT_DIGEST as bytes. -/
def atDigest (s : State) : Bytes := ((List.range 12).map fun i => natLe (s.att.digest.get i).toNat 4).flatten

/-- The private key of a layer from its CDI (R119). -/
def layerPrivate (cdi : Digest) : BitVec 384 :=
  let part (i : Nat) : Bytes := Crypto.digestBytes (Crypto.hmac (Crypto.digestBytes cdi) (natBe i 1 ++ [0x4B#8, 0x45#8, 0x59#8]))
  let c := beNat ((part 1 ++ part 2).take 56)
  BitVec.ofNat 384 (c % (Config.p384Order - 1) + 1)

/-- The TcbInfo extension with the one FWID of a measurement, hash SHA-384 (R120). -/
def tcbInfo (m : Digest) : Bytes :=
  [0x30#8, 0x4D#8, 0x06#8, 0x06#8, 0x67#8, 0x81#8, 0x05#8, 0x05#8, 0x04#8, 0x01#8, 0x04#8, 0x43#8, 0x30#8, 0x41#8, 0xA6#8, 0x3F#8,
    0x30#8, 0x3D#8, 0x06#8, 0x09#8, 0x60#8, 0x86#8, 0x48#8, 0x01#8, 0x65#8, 0x03#8, 0x04#8, 0x02#8, 0x02#8, 0x04#8, 0x30#8]
    ++ Crypto.digestBytes m

/-- notAfter, 99991231235959Z (R120). -/
def noExpiry : Bytes :=
  [0x18#8, 0x0F#8, 0x39#8, 0x39#8, 0x39#8, 0x39#8, 0x31#8, 0x32#8, 0x33#8, 0x31#8, 0x32#8, 0x33#8, 0x35#8, 0x39#8, 0x35#8, 0x39#8, 0x5A#8]

/-- A certificate of a key, signed with the issuer's private key. -/
def signedCert (subject issuer : BitVec 768) (key : BitVec 384) (ext : Bytes) : Bytes :=
  let body := Config.certBody subject issuer noExpiry ext
  Config.certDer body (Config.ecdsaSign key (Config.sha384 body))

/-- DICE_STEP (R118): the next layer only, each once. From step 1 on, the layer's certificate is signed with the key of the layer
before, whose private key is zeroed then (R120). CDI and key stand in the key region, which gives them no address. -/
def diceStepOp (k : Nat) (s : State) : Status × State :=
  if 2 < k ∨ s.att.layer.toNat ≠ k then (Status.permission, s)
  else
    let key := if k = 0 then Crypto.keyBytes s.l0 else Crypto.digestBytes s.att.cdi
    let cdi := Crypto.hmac key (Crypto.digestBytes (measOf s k) ++ natBe k 1)
    let d := layerPrivate cdi
    let pub := Config.ecdsaPublic d
    (Status.ok, s.updAt fun a => { a with
      locks := a.locks ||| BitVec.ofNat 8 (2 ^ k)
      cdi := cdi
      layerKey := d
      pub := pub
      pubs := a.pubs ++ [pub]
      certs := if k = 0 then [] else a.certs ++ [signedCert pub a.pub a.layerKey (tcbInfo (measOf s k))]
      layer := BitVec.ofNat 3 (k + 1) })

/-- SIGN (R122): the digest under the key of the highest layer reached; with no layer reached there is no key. -/
def signOp (s : State) : Status × State :=
  if s.att.layer = 0#3 then (Status.permission, s)
  else (Status.ok, s.updAt fun a => { a with sig := Config.ecdsaSign a.layerKey (Crypto.digestOf (atDigest s)) })

/-- A command's end. -/
def atFinish (op : Nat) (index : BitVec 3) (r : Status × State) : State :=
  r.2.updAt fun a => { a with go := false, op := BitVec.ofNat 4 op, index := index, result := r.1 }

/-- One AT_CMD. -/
def atCommand (op : Nat) (index : BitVec 3) (s : State) : State :=
  atFinish op index (match op with
    | 1 => measExtendOp index.toNat (atDigest s) s
    | 2 => diceStepOp index.toNat s
    | 3 => signOp s
    | _ => (Status.permission, s))

def execAtExtend (index : BitVec 3) (s : State) : Answer := goOn (atCommand 1 index s)
def execAtDiceStep (index : BitVec 3) (s : State) : Answer := goOn (atCommand 2 index s)
def execAtSign (s : State) : Answer := goOn (atCommand 3 s.att.index s)

/-- MEAS_EXTEND (R116): registers 6 and 7, for the domain manager. -/
def measExtendAct (a : Act) (arg : Bytes) (s : State) : State :=
  runAct a 0x101003 [.domainManager] (fun s =>
    let n := num arg 0 1
    if arg.length = 52 ∧ (n = 6 ∨ n = 7) ∧ allZero (sub arg 1 3) then
      match measExtendOp n (arg.drop 4) s with
      | (st, s) => ((st, []), s)
    else ((Status.permission, []), s)) s

def execMeasExtend (a : Act) (arg : Bytes) (s : State) : Answer := goOn (measExtendAct a arg s)

/-! ### The Slate (R132, R133) -/

/-- TDI state of a hall as R132 encodes it. -/
def tdiCode : Tdi → Nat
  | .unlocked => 0
  | .locked => 1
  | .run => 2
  | .error => 3

/-- Mode of a hall as R132 and R370 encode it. -/
def modeCode : HMode → Nat
  | .none => 0
  | .plain => 1
  | .sealed => 2

/-- Bytes 0 to 515 of a Slate, of a hall or of the block. -/
def slateBody (s : State) (hall : Option Nat) (nonce : Bytes) : Bytes :=
  let h := match hall with | some h => hallOf s h | none => default
  natLe 0x5101 2 ++ natLe 612 2 ++ natLe Config.ident.toNat 4 ++ natLe s.conf.caps.toNat 4 ++ natLe s.deviceId 8
    ++ natLe (stateByte s) 1 ++ natLe s.att.layer.toNat 1 ++ natLe (bits s.lc.rollback 0 13) 2 ++ natLe (dbgRightsWord s) 4
    ++ natLe s.pwr.secver.toNat 2 ++ natLe (if s.dom.joined then s.dom.member.toNat else 0xFFFF) 2
    ++ natLe (if s.dom.joined then s.dom.epoch.toNat else 0) 4 ++ natLe (s.tb .kclk) 8 ++ fit nonce 32
    ++ natLe (hall.getD 0xFFFF) 2 ++ natLe h.hgen.toNat 2 ++ natLe (modeCode h.mode) 1
    ++ natLe (if isSealed h then tdiCode h.tdi else 0xFF) 1
    ++ natLe (match hall with | some n => b2n (s.lc.consents.contains n) | none => 0) 1 ++ [0#8]
    ++ (if s.dom.joined then Crypto.digestBytes s.dom.manifest else List.replicate 48 0#8)
    ++ ((List.range 8).map fun i => Crypto.digestBytes (measOf s i)).flatten

/-- The hall of a Slate's path. -/
def slateHall : SlatePath → Option Nat
  | .operatorPage => none
  | .hallPage h => some h
  | .action _ h => if h = 0xFFFF then none else some h

/-- The next Slate's signing starts: its fields are sampled at once. -/
def slateStart (s : State) : State :=
  match s.att.slates with
  | r :: rest =>
    if r.sampled then s
    else s.updAt fun a => { a with
      slates := { r with sampled := true, bytes := slateBody s (slateHall r.path) r.nonce } :: rest }
  | [] => s

/-- A Slate's request joins the queue in its order of arrival. -/
def slateQueue (path : SlatePath) (nonce : Bytes) (s : State) : State :=
  slateStart (s.updAt fun a => { a with slates := a.slates ++ [{ path := path, nonce := nonce, sampled := false, bytes := [] }] })

/-! ### Host-page mailboxes (R334, R335) -/

/-- The mailbox of a page: 0 the operator page, n + 1 hall n. -/
def mailboxOf (s : State) (page : Nat) : Mailbox := s.fs.mailboxes.get page
def updMailbox (page : Nat) (f : Mailbox → Mailbox) (s : State) : State :=
  s.updFs fun x => { x with mailboxes := x.mailboxes.mod page f }

/-- An ignored request is counted. -/
def mailboxIgnored (page : Nat) (s : State) : State :=
  if page = 0 then s.updFs fun x => { x with opIgnored := x.opIgnored + 1 } else hallCount (page - 1) 12 1 s

/-- A result is complete. -/
def mailboxDone (page : Nat) (st : Status) (data : Bytes) (s : State) : State :=
  updMailbox page (fun m => { m with result := st, len := data.length, data := data }) s

/-- A request is accepted: SEQ steps and RESULT is NOT_READY. -/
def mailboxBegin (page : Nat) (s : State) : State :=
  updMailbox page (fun m => { m with seq := m.seq + 1, result := Status.notReady, len := 0, data := [] }) s

/-- MB_ARG as bytes. -/
def mailboxArg (m : Mailbox) : Bytes := ((List.range 8).map fun i => natLe (m.arg.get i).toNat 4).flatten

/-- The page's Slate path. -/
def pagePath (page : Nat) : SlatePath := if page = 0 then .operatorPage else .hallPage (page - 1)

/-- A Slate asked for at a page with the nonce given. -/
def pageSlate (page : Nat) (nonce : Bytes) (s : State) : State :=
  if (mailboxOf s page).result = Status.notReady then mailboxIgnored page s
  else slateQueue (pagePath page) nonce (mailboxBegin page s)

/-- MAILBOX_REQUEST: a write of MB_CMD. A code that is not used starts nothing (R19): MB_CMD has no GO
bit, so the exception of R19 for such registers does not apply (DEDUCED, assumption 41). -/
def mailboxRequestOp (page : Nat) (cmd : Word) (s : State) : State :=
  if cmd.setWidth 8 = 1#8 then pageSlate page (mailboxArg (mailboxOf s page)) s else s

def execMailboxRequest (page : Nat) (cmd : Word) (s : State) : Answer := goOn (mailboxRequestOp page cmd s)

/-- SLATE_REQUEST by the action: a tenant gets its own hall's Slate only. -/
def slateAct (a : Act) (hall : Nat) (nonce : Bytes) (s : State) : State :=
  if (boxOf s a.sess 0x101001).result = Status.notReady then s
  else
    let named := hall == 0xFFFF && a.role != .tenant || hallUsed s hall && mayName s a hall
    if !mayAct s allRoles a || nonce.length != 32 || !named then actDone a.sess 0x101001 Status.permission [] false s
    else slateQueue (.action a hall) nonce (actWaits a.sess 0x101001 s)

/-- SLATE_REQUEST (R133). -/
def slateRequestOp (path : SlatePath) (nonce : Bytes) (s : State) : State :=
  match path with
  | .operatorPage => pageSlate 0 nonce s
  | .hallPage h => pageSlate (h + 1) nonce s
  | .action a h => slateAct a h nonce s

def execSlateRequest (path : SlatePath) (nonce : Bytes) (s : State) : Answer := goOn (slateRequestOp path nonce s)

/-- SLATE_COMPLETE: the Slate being signed is complete and is the repeatable result of its mailbox; the next one starts. -/
def slateCompleteOp (s : State) : State :=
  match s.att.slates with
  | [] => s
  | r :: rest =>
    let sig := Config.ecdsaSign s.att.layerKey (Config.sha384 r.bytes)
    let bytes := r.bytes ++ natBe sig.toNat 96
    let s := s.updAt fun a => { a with slates := rest }
    let s := match r.path with
      | .operatorPage => mailboxDone 0 Status.ok bytes s
      | .hallPage h => mailboxDone (h + 1) Status.ok bytes s
      | .action a _ => actDone a.sess 0x101001 Status.ok bytes false s
    slateStart s

def execSlateComplete (s : State) : Answer := goOn (slateCompleteOp s)

/-! ### SPDM (R126-R131) -/

/-- A response: its code, then its two parameters and what follows them. ERROR is 0x7F with the error code. -/
abbrev SpdmAnswer := Byte × Bytes

/-- SPDM error codes of the cited DSP0274. PRESUMED, assumption 23. -/
def spdmErr (code : Nat) : SpdmAnswer := (0x7F#8, [BitVec.ofNat 8 code, 0#8])
def errInvalidRequest : Nat := 0x01
def errInvalidSession : Nat := 0x02
def errUnexpected : Nat := 0x04
def errDecrypt : Nat := 0x06
def errUnsupported : Nat := 0x07
def errSessionLimit : Nat := 0x0A
def errVersion : Nat := 0x41

/-- The connection of a transport. -/
def connOf (s : State) : Transport → SpdmConn
  | .doe => s.att.doe
  | .callSheet => s.att.callSheet
def updConn (t : Transport) (f : SpdmConn → SpdmConn) (s : State) : State :=
  match t with
  | .doe => s.updAt fun a => { a with doe := f a.doe }
  | .callSheet => s.updAt fun a => { a with callSheet := f a.callSheet }

/-- A response goes out on its transport. -/
def spdmSend (t : Transport) (r : SpdmAnswer × State) : State :=
  if r.1.1 = 0x7F#8 then r.2.emit (.spdmError t (r.1.2.headD 0#8)) else r.2.emit (.spdm t r.1.1 r.1.2)

/-- Keys imported from sessions that close are retired (R128). -/
def retireImported (l : List Spdm) (s : State) : State :=
  forAll l (fun x s => forAll x.imported retireHandle s) s

/-- The sessions of a transport that meet `p` close; their IDs stay known (R130). -/
def closeSpdm (t : Transport) (p : Spdm → Bool) (s : State) : State :=
  let gone := (connOf s t).sessions.filter p
  retireImported gone (updConn t (fun c => { c with
    sessions := c.sessions.filter fun x => !p x, closed := c.closed ++ gone.map (·.sid) }) s)

/-- What a T3 or higher reset leaves of the attestation unit: which sessions there have been (R130). -/
def spdmAfterT3 (a : At) : At :=
  let shut (c : SpdmConn) : SpdmConn := { (default : SpdmConn) with closed := c.closed ++ c.sessions.map (·.sid) }
  { State.reset.att with nextSid := a.nextSid, doe := shut a.doe, callSheet := shut a.callSheet }

/-- GET_VERSION: the connection state is reset; its sessions close with it. -/
def getVersionOp (t : Transport) (s : State) : SpdmAnswer × State :=
  let s := closeSpdm t (fun _ => true) s
  ((0x04#8, [0#8, 0#8, 0#8, 1#8] ++ natLe 0x1300 2), updConn t (fun c => { (default : SpdmConn) with version := true, closed := c.closed }) s)

/-- The capability flags of R127 in DSP0274's bit places: CERT 1, CHAL 2, MEAS 3:4 = 0b10, ENCRYPT 6, MAC 7, KEY_EX 9. -/
def spdmCaps : Nat := 0x2D6

/-- GET_CAPABILITIES. -/
def getCapabilitiesOp (t : Transport) (version : Byte) (s : State) : SpdmAnswer × State :=
  if !(connOf s t).version then (spdmErr errUnexpected, s)
  else if version ≠ 0x13#8 then (spdmErr errVersion, s)
  else ((0x61#8, [0#8, 0#8, 0#8, 11#8] ++ natLe 0 2 ++ natLe spdmCaps 4 ++ natLe 4096 4 ++ natLe 4096 4),
    updConn t (fun c => { c with caps := true }) s)

/-- NEGOTIATE_ALGORITHMS: DMTF measurements in SHA-384, ECDSA P-384, SHA-384, and the four algorithm structures. -/
def negotiateOp (t : Transport) (o : AlgOffer) (s : State) : SpdmAnswer × State :=
  if !(connOf s t).caps then (spdmErr errUnexpected, s)
  else if o.asym && o.hash && o.measHash && o.measSpec && o.dhe && o.aead && o.keySchedule then
    let alg (kind sel : Nat) : Bytes := natLe kind 1 ++ [0x20#8] ++ natLe sel 2
    ((0x63#8, [4#8, 0#8] ++ natLe 52 2 ++ [1#8, 0#8] ++ natLe 4 4 ++ natLe 0x80 4 ++ natLe 2 4 ++ List.replicate 16 0#8
        ++ alg 2 0x10 ++ alg 3 2 ++ alg 4 0 ++ alg 5 1),
      updConn t (fun c => { c with algs := true }) s)
  else (spdmErr errInvalidRequest, s)

/-- The length in bytes of a DER value, from its header. -/
def derLength (b : Bytes) : Nat :=
  let n := num b 1 1
  if n < 0x80 then 2 + n else 2 + (n - 0x80) + beNat (sub b 2 (n - 0x80))

/-- The two certificates of the factory region: the device CA's and the DeviceID's (R120, R471). -/
def factoryCerts (s : State) : List Bytes :=
  let b := Memory.readBytes flashFill s.pwr.flash 16 (min (num (Memory.readBytes flashFill s.pwr.flash 4 4) 0 4) 65520)
  let own := b.take (derLength b)
  [b.drop own.length, own]

/-- The identity that the block presents (R120, R476, R489): its chain, or in SCRAP the certificate that the mask ROM signed. -/
def identityChain (s : State) : List Bytes := if s.lcState = scrap then s.att.certs else factoryCerts s ++ s.att.certs

/-- The certificate chain of slot 0 in SPDM's form: its length, the hash of its root, its certificates (R120, R128). -/
def chainBytes (s : State) : Bytes :=
  let b := (identityChain s).flatten
  let root := Crypto.digestBytes (Config.sha384 ((identityChain s).headD []))
  natLe (52 + b.length) 2 ++ [0#8, 0#8] ++ root ++ b

/-- GET_DIGESTS: slot 0 only. -/
def getDigestsOp (t : Transport) (s : State) : SpdmAnswer × State :=
  if !(connOf s t).algs then (spdmErr errUnexpected, s)
  else ((0x01#8, [1#8, 1#8] ++ Crypto.digestBytes (Config.sha384 (chainBytes s))), s)

/-- GET_CERTIFICATE: a portion of the slot 0 chain. -/
def getCertificateOp (t : Transport) (slot offset length : Nat) (s : State) : SpdmAnswer × State :=
  if !(connOf s t).algs then (spdmErr errUnexpected, s)
  else if slot ≠ 0 ∨ (chainBytes s).length ≤ offset then (spdmErr errInvalidRequest, s)
  else
    let p := sub (chainBytes s) offset length
    ((0x02#8, [0#8, 0#8] ++ natLe p.length 2 ++ natLe ((chainBytes s).length - offset - p.length) 2 ++ p), s)

/-- The block of measurement index n + 1 (R129): DMTF format, value type, SHA-384 value. -/
def measBlock (s : State) (n : Nat) : Bytes :=
  let kind := if n = 0 then 0 else if n = 1 then 1 else if n = 2 then 2 else if n = 4 then 4 else 3
  natLe (n + 1) 1 ++ [1#8] ++ natLe 51 2 ++ natLe kind 1 ++ natLe 48 2 ++ Crypto.digestBytes (measOf s n)

/-- All eight blocks. -/
def measAll (s : State) : Bytes := ((List.range 8).map (measBlock s)).flatten

/-- A signature of the configuration key over the transcript, and the state that has used the transcript up. -/
def spdmSign (s : State) : Bytes × State :=
  (natBe (Config.ecdsaSign s.att.layerKey (Config.spdmTranscript s.frees)).toNat 96, s.opened)

/-- The measurement summary hash, over all indices, where it is asked for. -/
def measSummary (s : State) (asked : Bool) : Bytes := if asked then Crypto.digestBytes (Config.sha384 (measAll s)) else []

/-- 32 bytes of the entropy source, for a nonce. -/
def drawn32 (s : State) : Bytes := natBe (s.draw.setWidth 256).toNat 32

/-- CHALLENGE for slot 0; `rest` is the request's nonce and its context, which the response repeats. -/
def challengeOp (t : Transport) (slot : Nat) (summary : Bool) (rest : Bytes) (s : State) : SpdmAnswer × State :=
  if !(connOf s t).algs then (spdmErr errUnexpected, s)
  else if slot ≠ 0 then (spdmErr errInvalidRequest, s)
  else
    let chain := Crypto.digestBytes (Config.sha384 (chainBytes s))
    let body := [0#8, 1#8] ++ chain ++ drawn32 s ++ measSummary s summary ++ natLe 0 2 ++ sub rest 32 8
    match spdmSign s.drew with
    | (sig, s) => ((0x03#8, body ++ sig), s)

/-- GET_MEASUREMENTS (R129): the blocks, a nonce, no opaque data, the request's context, and the signature where it is asked for.
`rest` is the request behind its parameters: with a signature, the nonce and the slot stand before the context. -/
def getMeasurementsOp (t : Transport) (index : Nat) (signed : Bool) (rest : Bytes) (s : State) : SpdmAnswer × State :=
  if !(connOf s t).algs then (spdmErr errUnexpected, s)
  else if ¬ (index ≤ 8 ∨ index = 0xFF) then (spdmErr errInvalidRequest, s)
  else
    let blocks := if index = 0 then [] else if index = 0xFF then measAll s else measBlock s (index - 1)
    let count := if index = 0 then 0 else if index = 0xFF then 8 else 1
    let body := [if index = 0 then 8#8 else 0#8, 0#8] ++ natLe count 1 ++ natLe blocks.length 3 ++ blocks ++ drawn32 s ++ natLe 0 2
      ++ (if signed then sub rest 33 8 else sub rest 0 8)
    if signed then
      match spdmSign s.drew with
      | (sig, s) => ((0x60#8, body ++ sig), s)
    else ((0x60#8, body), s.drew)

/-- KEY_EXCHANGE (R130): at most four sessions of a transport. `m` is the request from its parameters on. The block's half of the
session ID keeps the ID apart from the first bytes of a message outside a session. DESIGN CHOICE, assumption 179. -/
def keyExchangeOp (t : Transport) (carrier : Nat) (m : Bytes) (s : State) : SpdmAnswer × State :=
  let c := connOf s t
  if !c.algs then (spdmErr errUnexpected, s)
  else if 4 ≤ c.sessions.length then (spdmErr errSessionLimit, s.atEvent 0)
  else if num m 1 1 ≠ 0 then (spdmErr errInvalidRequest, s)
  else
    let own := 0x1000 + s.att.nextSid % 0x6000
    let sid := num m 2 2 + put 16 own
    let secret := Config.exportSecret s.att.nextSid
    let x : Spdm := { sid := sid, carrier := carrier, finished := false, messages := 1, secret := secret, imported := [] }
    let s := (updConn t (fun c => { c with sessions := c.sessions ++ [x] }) s).updAt fun a => { a with nextSid := a.nextSid + 1 }
    let summary := measSummary s (num m 0 1 != 0)
    let random := drawn32 s
    let s := s.drew
    let exchange := natBe (Config.ecdsaPublic s.draw).toNat 96
    match spdmSign s.drew with
    | (sig, s) =>
      let verify := Crypto.digestBytes (Crypto.hmac (Crypto.digestBytes secret) (Crypto.digestBytes (Config.spdmTranscript s.frees)))
      ((0x64#8, [0#8, 0#8] ++ natLe own 2 ++ [0#8, 0#8] ++ random ++ exchange ++ summary ++ natLe 0 2 ++ sig ++ verify), s.opened)

/-- The session of a number on a transport. -/
def spdmOf (s : State) (t : Transport) (sid : Nat) : Option Spdm := (connOf s t).sessions.find? fun x => x.sid == sid

/-- A message of a session: its count steps, and past 2^32 the session closes (R130). -/
def spdmCounted (t : Transport) (sid : Nat) (s : State) : State :=
  match spdmOf s t sid with
  | none => s
  | some x =>
    if 2 ^ 32 ≤ x.messages + 1 then closeSpdm t (fun y => y.sid == sid) s
    else updConn t (fun c => { c with
      sessions := c.sessions.map fun y => if y.sid == sid then { y with messages := y.messages + 1 } else y }) s

/-- FINISH inside its session. -/
def finishOp (t : Transport) (sid : Nat) (verified : Bool) (s : State) : SpdmAnswer × State :=
  match spdmOf s t sid with
  | none => (spdmErr errInvalidSession, s)
  | some x =>
    if x.finished then (spdmErr errUnexpected, spdmCounted t sid s)
    else if !verified then (spdmErr errDecrypt, closeSpdm t (fun y => y.sid == sid) s)
    else ((0x65#8, [0#8, 0#8]), spdmCounted t sid (updConn t (fun c => { c with
      sessions := c.sessions.map fun y => if y.sid == sid then { y with finished := true } else y }) s))

/-- END_SESSION: the session closes and the keys imported from it are retired. -/
def endSessionOp (t : Transport) (sid : Nat) (s : State) : SpdmAnswer × State :=
  match spdmOf s t sid with
  | none => (spdmErr errInvalidSession, s)
  | some _ => ((0x6C#8, [0#8, 0#8]), closeSpdm t (fun y => y.sid == sid) s)

def execGetVersion (t : Transport) (s : State) : Answer := goOn (spdmSend t (getVersionOp t s))
def execGetCapabilities (t : Transport) (version : Byte) (s : State) : Answer := goOn (spdmSend t (getCapabilitiesOp t version s))
def execNegotiateAlgorithms (t : Transport) (offer : AlgOffer) (s : State) : Answer := goOn (spdmSend t (negotiateOp t offer s))
def execGetDigests (t : Transport) (s : State) : Answer := goOn (spdmSend t (getDigestsOp t s))
def execGetCertificate (t : Transport) (slot offset length : Nat) (s : State) : Answer :=
  goOn (spdmSend t (getCertificateOp t slot offset length s))
def execChallenge (t : Transport) (slot : Nat) (summary : Bool) (nonce : Bytes) (s : State) : Answer :=
  goOn (spdmSend t (challengeOp t slot summary nonce s))
def execGetMeasurements (t : Transport) (index : Nat) (signed : Bool) (nonce : Bytes) (s : State) : Answer :=
  goOn (spdmSend t (getMeasurementsOp t index signed nonce s))
def execKeyExchange (t : Transport) (carrier : Nat) (exchange : Bytes) (s : State) : Answer :=
  goOn (spdmSend t (keyExchangeOp t carrier exchange s))
def execFinish (t : Transport) (sid : Nat) (verified : Bool) (s : State) : Answer := goOn (spdmSend t (finishOp t sid verified s))
def execEndSession (t : Transport) (sid : Nat) (s : State) : Answer := goOn (spdmSend t (endSessionOp t sid s))

/-- The choices that a NEGOTIATE_ALGORITHMS message offers, at DSP0274's places. -/
def algOffer (m : Bytes) : AlgOffer :=
  let algs := pieces 4 16 ((m.drop (32 + 4 * (num m 28 1 + num m 29 1))).take (4 * num m 2 1))
  let has (kind bit : Nat) : Bool := algs.any fun a => num a 0 1 == kind && (num a 2 2).testBit bit
  { asym := (num m 8 4).testBit 7, hash := (num m 12 4).testBit 1, measHash := true, measSpec := (num m 6 1).testBit 0
    dhe := has 2 4, aead := has 3 1, keySchedule := has 5 0 }

/-- A message outside a session: header version, code and two parameters, then the body. Past GET_VERSION only version 1.3 is served
(R127). -/
def spdmMessage (t : Transport) (carrier : Nat) (m : Bytes) (s : State) : SpdmAnswer × State :=
  let p1 := num m 2 1
  let p2 := num m 3 1
  let code := num m 1 1
  if code = 0x84 then getVersionOp t s
  else if num m 0 1 ≠ 0x13 then (spdmErr errVersion, s)
  else if code = 0xE1 then getCapabilitiesOp t 0x13#8 s
  else if code = 0xE3 then negotiateOp t (algOffer m) s
  else if code = 0x81 then getDigestsOp t s
  else if code = 0x82 then getCertificateOp t p1 (num m 4 2) (num m 6 2) s
  else if code = 0x83 then challengeOp t p1 (p2 != 0) (m.drop 4) s
  else if code = 0xE0 then getMeasurementsOp t p2 (p1 % 2 == 1) (m.drop 4) s
  else if code = 0xE4 then keyExchangeOp t carrier (m.drop 2) s
  else (spdmErr errUnsupported, s)

/-- A message inside a session. -/
def spdmInner (t : Transport) (x : Spdm) (m : Bytes) (s : State) : SpdmAnswer × State :=
  let code := num m 1 1
  if code = 0xE5 then finishOp t x.sid (Config.finishOk x.secret m) s
  else if code = 0xEC then endSessionOp t x.sid s
  else
    match spdmMessage t x.carrier m s with
    | (r, s) => (r, spdmCounted t x.sid s)

/-- The bytes of a response. VERSION's header is of version 1.0. -/
def spdmBytes (r : SpdmAnswer) : Bytes := [if r.1 = 0x04#8 then 0x10#8 else 0x13#8, r.1] ++ r.2

/-- A message outside every session. -/
def spdmPlain (t : Transport) (carrier : Nat) (m : Bytes) (s : State) : Bytes × State :=
  match spdmMessage t carrier m s with
  | (r, s) => (spdmBytes r, s)

/-- A secured record, which names its session in its first four bytes; `special` serves what else a session carries. -/
def spdmSecured (t : Transport) (m : Bytes) (special : Spdm → Bytes → State → Option (SpdmAnswer × State)) (s : State) : Bytes × State :=
  match spdmOf s t (num m 0 4) with
  | none => (spdmBytes (spdmErr errInvalidSession), s)
  | some x =>
    match Config.securedOpen x.secret m with
    | none => (spdmBytes (spdmErr errDecrypt), s)
    | some p =>
      match (match special x p s with | some r => r | none => spdmInner t x p s) with
      | (r, s) => (Config.securedSeal x.secret (spdmBytes r), s)

/-- A message on the Call Sheet path: a record of a session, live or closed, or a message outside every session. -/
def spdmServe (t : Transport) (carrier : Nat) (m : Bytes) (s : State) : Bytes × State :=
  let sid := num m 0 4
  if (spdmOf s t sid).isSome || (connOf s t).closed.contains sid || !(num m 0 1 == 0x13 || num m 0 1 == 0x10) then
    spdmSecured t m (fun _ _ _ => none) s
  else spdmPlain t carrier m s

/-- SPDM_MSG (R126): one message from the domain manager's session; the response is a repeatable mailbox result. -/
def spdmMsgAct (a : Act) (arg : Bytes) (s : State) : State :=
  runAct a 0x101002 [.domainManager] (fun s =>
    if 1368 < arg.length then ((Status.permission, []), s)
    else match spdmServe .callSheet a.sess arg s with
      | (r, s) => ((Status.ok, r), s)) s

def execSpdmMsg (a : Act) (arg : Bytes) (s : State) : Answer := goOn (spdmMsgAct a arg s)

/-- DOE_DISCOVERY (R126): the DOE instance serves Discovery, CMA/SPDM and Secured CMA/SPDM; PCIe answers an index past the
last with vendor 0xFFFF. -/
def doeDiscoveryOf (index : Nat) : Nat × Nat × Nat :=
  if index = 0 then (1, 0, 1) else if index = 1 then (1, 1, 2) else if index = 2 then (1, 2, 0) else (0xFFFF, 0, 0)

def doeDiscoveryOp (index : Nat) (s : State) : State :=
  s.emit (.doe (doeDiscoveryOf index).1 (doeDiscoveryOf index).2.1 (doeDiscoveryOf index).2.2)

def execDoeDiscovery (index : Nat) (s : State) : Answer := goOn (doeDiscoveryOp index s)

end Sys2Proof.Machine
end

