-- ==== Sys2Proof/Machine/Flash.lean ====
section
/-! DEFINITION. The boot flash behind xspi, its areas and its transactions (18_power_clocks_boot.md R471, R477, R479; 02_ports.md
R60). -/

namespace Sys2Proof.Machine

-- One declaration at a time, so that the elaborator holds few threads (each takes stack of its own).
set_option Elab.async false

/-- The areas of the flash (R471). -/
def slotBase : Nat := 0x10000
def slotBytes : Nat := 0x100000
def policyBase : Nat := 0x110000
def storeBase : Nat := 0x120000
def ownerBase : Nat := 0x130000

/-- `n` bytes from an address. -/
def flashRead (s : State) (a n : Nat) : Bytes := Memory.readBytes flashFill s.pwr.flash a n

/-- Bytes [a, a + n) erased. -/
def flashErase (a n : Nat) (s : State) : State :=
  s.updPwr fun p => { p with flash := p.flash.filter fun e => decide (e.1 < a ∨ a + n ≤ e.1) }

/-- Everything from an address on erased. -/
def flashEraseFrom (a : Nat) (s : State) : State := s.updPwr fun p => { p with flash := p.flash.filter fun e => decide (e.1 < a) }

/-- Bytes written into erased flash. -/
def flashWrite (a : Nat) (b : Bytes) (s : State) : State :=
  s.updPwr fun p => { p with flash := Memory.writeBytes flashFill p.flash a b }

/-- A page program: it clears bits only, and an address past the end of its page of 256 bytes goes on at the page's start.
PRESUMED, assumption 34. -/
def flashProgram (a : Nat) : Bytes → Nat → State → State
  | [], _, s => s
  | b :: rest, i, s =>
    let x := a / 256 * 256 + (a + i) % 256
    flashProgram a rest (i + 1)
      (s.updPwr fun p => { p with flash := Memory.write flashFill p.flash x (b &&& Memory.read flashFill p.flash x) })

/-- Does a span of the flash reach into the factory region, which the Keeper writes in TEST_OPEN only? -/
def factoryBarred (s : State) (a : Nat) : Bool := decide (a < slotBase) && s.lcState != testOpen

/-- The transactions of R471 by opcode. PRESUMED, assumption 34: the opcodes of JESD251 Profile 1.0. -/
inductive FlashOp where
  | read
  | sfdp
  | status
  | writeEnable
  | program
  | erase (n : Nat)
  | reset
  | other
deriving DecidableEq, Repr

def flashOp (op : Byte) : FlashOp :=
  match op.toNat with
  | 0x13 | 0x0C | 0xEE => .read
  | 0x5A => .sfdp
  | 0x05 => .status
  | 0x06 => .writeEnable
  | 0x12 => .program
  | 0x21 => .erase 0x1000
  | 0xDC => .erase 0x10000
  | 0x66 | 0x99 => .reset
  | _ => .other

/-- XSPI_DATA as bytes, and bytes put into it. -/
def xspiBytes (p : Pwr) (n : Nat) : Bytes := (((List.range 64).map fun i => natLe (p.xspiData.get i).toNat 4).flatten).take n
def xspiPut (b : Bytes) (p : Pwr) : Pwr :=
  { p with xspiData := forAll (List.range (cdiv b.length 4)) (fun i t =>
      t.set i (BitVec.ofNat 32 (setBits (t.get i).toNat 0 (8 * min 4 (b.length - 4 * i)) (num b (4 * i) 4)))) p.xspiData }

/-- XSPI_COMMAND (R479): one flash transaction of `length` data bytes at XSPI_ADDR. The block issues no transaction but those of
R471, and no write into the factory region outside TEST_OPEN. -/
def xspiOp (op length : Byte) (s : State) : State :=
  let s := s.updPwr fun p => { p with xspiOp := op, xspiLen := length }
  let a := s.pwr.xspiAddr.toNat
  let n := length.toNat
  let sent (d : Bytes) (s : State) : State := s.emit (.xspi op s.pwr.xspiAddr d)
  match flashOp op with
  | .read => sent [] (s.updPwr (xspiPut (flashRead s a n)))
  | .sfdp => sent [] (s.updPwr (xspiPut ((List.range n).map fun i => Config.flashSfdp (a + i))))
  | .status => sent [] (s.updPwr (xspiPut ((List.replicate n (BitVec.ofNat 8 (put 1 (b2n s.pwr.writeEnable)))))))
  | .writeEnable => sent [] (s.updPwr fun p => { p with writeEnable := true })
  | .program =>
    if factoryBarred s a then s
    else if !s.pwr.writeEnable then sent (xspiBytes s.pwr n) s
    else sent (xspiBytes s.pwr n) ((flashProgram a (xspiBytes s.pwr n) 0 s).updPwr fun p => { p with writeEnable := false })
  | .erase k =>
    if factoryBarred s (a / k * k) then s
    else if !s.pwr.writeEnable then sent [] s
    else sent [] ((flashErase (a / k * k) k s).updPwr fun p => { p with writeEnable := false })
  | .reset => sent [] (s.updPwr fun p => { p with writeEnable := false })
  | .other => s

def execXspiCommand (opcode length : Byte) (s : State) : Answer := goOn (xspiOp opcode length s)

/-- FACTORY_CERT_WRITE's bytes (R504): in the factory region. -/
def factoryWrite (off : Nat) (b : Bytes) (s : State) : State := flashWrite off b s

end Sys2Proof.Machine
end

