-- ==== Sys2Proof/Machine/Mem.lean ====
section
/-! DEFINITION. The memory crossbar: requests at mp0-mp15, their tags and their responses, and the generation check of replies
at a reset edge (02_ports.md R47-R49; 16_hang_reset.md R430; 15_faults.md R397). -/

namespace Sys2Proof.Machine

-- One declaration at a time, so that the elaborator holds few threads (each takes stack of its own).
set_option Elab.async false

/-! ### Unit generations and Landing (R429, R430) -/

/-- The generation of a unit. -/
def ugen (s : State) (unit : Nat) : Byte := s.hr.gens.get unit

/-- Is a unit in Landing, or kept in reset? -/
def isLanding (s : State) (unit : Nat) : Bool := s.hr.landing.contains unit

/-- A reply that carries or echoes an old generation is dropped and counted at the unit that would receive it. -/
def staleReply (unit : Nat) (s : State) : State :=
  (s.updHr fun h => { h with stale := h.stale.bump unit 1 }).hrEvent 6

/-! ### Requests (R47, R48) -/

/-- An asynchronous answer on its way to its requester: whom it concerns, which of his accesses, how it ended, its data. -/
structure Ans where
  owner : Owner
  unit : Nat
  status : Status
  data : Bytes
deriving DecidableEq, Repr, Inhabited

/-- The port of a physical address, bits [11:8]. -/
def mpPort (pa : Nat) : Nat := bits pa 8 4

/-- Does a port reach memory? -/
def mpPresent (s : State) (pa : Nat) : Bool := s.pins.mpPresent.toNat.testBit (mpPort pa)

/-- A free tag of a port. -/
def mpTag (s : State) (port : Nat) : Option Nat :=
  firstFrom (fun t => !s.mp.any fun r => r.sent && r.port == port && r.tag == t) 1024 0

/-- Byte enables and data of a write at a place in its 128-byte block. -/
def mpEnables (r : MpReq) : BitVec 128 := BitVec.ofNat 128 (r.be * 2 ^ (r.addr % 128))
def mpData (r : MpReq) : Bytes := fit (List.replicate (r.addr % 128) 0#8 ++ r.data) 128

/-- The oldest unsent request of an enabled port leaves, when a tag is free. -/
def mpPump (port : Nat) (s : State) : State :=
  match s.mp.find? (fun r => !r.sent && r.port == port) with
  | none => s
  | some r =>
    if !s.pins.mpEn.toNat.testBit port then s
    else match mpTag s port with
      | none => s
      | some t =>
        let s := s.setMp (s.mp.map fun x => if x.id = r.id then { x with tag := t, sent := true } else x)
        s.emit (.mpReq port t r.we (r.addr / 128 * 128) (if r.we then mpEnables r else 0#128) (if r.we then mpData r else []))

/-- A request of a unit for a hall. The address's port is present. -/
def mpIssue (we : Bool) (pa lines be : Nat) (data : Bytes) (hall : Nat) (o : Owner) (unit n : Nat) (s : State) : State :=
  let r : MpReq :=
    { id := s.mpNext, port := mpPort pa, tag := 0, we := we, addr := pa, lines := lines, be := be, data := data, hall := hall
      hgen := (hallOf s hall).hgen, owner := o, unit := n, gen := ugen s unit, sent := false }
  mpPump (mpPort pa) ((s.setMp (s.mp ++ [r])).setMpNext (s.mpNext + 1))

/-- Read of the 64-byte line at a physical address, or of the two lines of a 128-byte block; write of up to a line's bytes inside it, and write under byte enables. -/
def mpRead (pa hall : Nat) (o : Owner) (unit n : Nat) (s : State) : State := mpIssue false pa 1 0 [] hall o unit n s
def mpReadTwo (pa hall : Nat) (o : Owner) (unit n : Nat) (s : State) : State := mpIssue false pa 2 0 [] hall o unit n s
def mpWrite (pa : Nat) (data : Bytes) (hall : Nat) (o : Owner) (unit n : Nat) (s : State) : State :=
  mpIssue true pa 1 (2 ^ data.length - 1) data hall o unit n s
def mpWriteBe (pa be : Nat) (data : Bytes) (hall : Nat) (o : Owner) (unit n : Nat) (s : State) : State :=
  mpIssue true pa 1 be data hall o unit n s

/-- The write accesses of a hall that are not drained (R48). -/
def undrained (s : State) (hall : Nat) : Bool := s.mp.any fun r => r.we && r.hall == hall

/-- The unit that an owner stands for, as the fault kind of an uncorrectable read asks (R397) and as R430 checks it. -/
def ownerUnit (s : State) : Owner → Nat
  | .mover m _ _ => Src.mover m
  | .red u _ => Src.red u
  | .home _ _ => Src.au
  | .comb _ => Src.au
  | .place c _ => Src.linkRx (s.ls.rx.get c).lane
  | .cp _ => Src.fe
  | .work _ => Src.fe
  | _ => Src.xbar

/-- The kind that an uncorrectable read raises at its consumer (R397). -/
def poisonKind (src : Nat) : Nat :=
  if within src 0x240 32 || within src 0x260 8 then Kind.movePoison else Kind.memPoison

/-- The source and detail number of that fault: movers and reduction units report their own (R253, R265). -/
def poisonFault (natural : Bool) (src hall : Nat) (pa : Nat) (s : State) : State :=
  if poisonKind src = Kind.movePoison then reportFault natural src Kind.movePoison hall pa (src % 16) s
  else reportFault natural Src.xbar Kind.memPoison hall pa 0 s

/-- The source that checks a read's data for its consumer. -/
def poisonSource (src : Nat) : Nat := if poisonKind src = Kind.movePoison then src else Src.xbar

/-- The owner of unit `k` of a request whose first unit is `o`'s. -/
def unitOwner (o : Owner) (k : Nat) : Owner := match o with | .mover m line st => .mover m (line + k) st | o => o

/-- Line `k` of those that a read wanted out of the 128-byte block returned. -/
def mpWanted (r : MpReq) (k : Nat) (data : Bytes) : Bytes := fit (sub data (r.addr % 128 + 64 * k) 64) 64

/-- The answers to a request's lines. -/
def mpAnswers (r : MpReq) (bad : Bool) (data : Bytes) : List Ans :=
  (List.range r.lines).map fun k =>
    { owner := unitOwner r.owner k, unit := r.unit, status := if bad then Status.poisoned else Status.ok
      data := if r.we || bad then [] else mpWanted r k data }

/-- Is an answer late: the generation of the hall that it was asked for has passed (R28 order 2)? A write of the ITU's own tables is no
item of a hall. -/
def hallPassed (s : State) (hall : Nat) (hgen : BitVec 16) (o : Owner) : Bool :=
  match o with
  | .none | .port 3 _ => false
  | _ => (hallOf s hall).hgen != hgen

/-- A response at a port (R48): the request is done, the next one may leave; the answer to its requester, unless its hall's
generation has passed or a reset has made the unit's old (R28 orders 2 and 4, R430). A response that matches no request is none of the block's. -/
def mpTake (port tag : Nat) (we : Bool) (err : BitVec 2) (data : Bytes) (s : State) : List Ans × State :=
  match s.mp.find? (fun r => r.sent && r.port == port && r.tag == tag && r.we == we) with
  | none => ([], s)
  | some r =>
    let src := ownerUnit s r.owner
    let s := mpPump port (s.setMp (s.mp.filter fun x => x.id != r.id))
    let s := memCorrected (err == 1#2) r.hall r.addr s
    let s := if err = 1#2 then s.updPins fun p => { p with mpCorrected := p.mpCorrected + 1 } else s
    let natural := decide (2 ≤ err.toNat)
    let bad := !we && checkFails natural (poisonSource src) (poisonKind src) s
    let s := if bad then poisonFault natural src r.hall r.addr s else s
    if hallPassed s r.hall r.hgen r.owner then ([], hallStale r.hall s)
    else if r.gen ≠ ugen s src then ([], staleReply src s) else (mpAnswers r bad data, s)

end Sys2Proof.Machine
end

