-- ==== Sys2Proof/Machine/Itu.lean ====
section
/-! DEFINITION. The instance translation unit: table entries, translation with its checks, the TLB and walks
(13_halls_translation.md R351-R356). -/

namespace Sys2Proof.Machine

-- One declaration at a time, so that the elaborator holds few threads (each takes stack of its own).
set_option Elab.async false

/-! ### Leaves (R352, R353) -/

/-- Fields of a leaf entry. -/
def leafType (l : BitVec 128) : Nat := bits l.toNat 0 2
def leafSize (l : BitVec 128) : Nat := bits l.toNat 2 2
def leafRd (l : BitVec 128) : Bool := l.toNat.testBit 4
def leafWr (l : BitVec 128) : Bool := l.toNat.testBit 5
def leafAt (l : BitVec 128) : Bool := l.toNat.testBit 6
def leafTarget (l : BitVec 128) : Nat := bits l.toNat 8 2
def leafAddr (l : BitVec 128) : Nat := bits l.toNat 12 52 * 4096
def leafRegion (l : BitVec 128) : Nat := bits l.toNat 64 16
def leafMember (l : BitVec 128) : Nat := bits l.toNat 80 16
def leafStream (l : BitVec 128) : Nat := bits l.toNat 96 8
def leafFlags (l : BitVec 128) : Nat := bits l.toNat 104 8

/-- Bytes of a page by size code: 4 KiB, 2 MiB, 1 GiB. -/
def pageBytes (code : Nat) : Nat := 4096 * 512 ^ code

/-- The key of a page in a hall's leaves: the number of its first 4 KiB page. -/
def pageKey (va : Nat) : Nat := va / 4096

/-- The leaf that maps an address, with the address of its page's first byte. -/
def leafFor (h : Hall) (va : Nat) : Option (BitVec 128 × Nat) :=
  let at' (code : Nat) : Option (BitVec 128 × Nat) :=
    let base := va / pageBytes code * pageBytes code
    let l := h.leaves.get (pageKey base)
    if leafType l = 2 ∧ leafSize l = code then some (l, base) else none
  match at' 0 with
  | some x => some x
  | none => match at' 1 with
    | some x => some x
    | none => at' 2

/-- Where an address leads. -/
inductive Spot where
  | mem (pa : Nat)
  | region (r off : Nat)
  | peer (member stream : Nat) (isRegion : Bool) (region addr : Nat)
deriving DecidableEq, Repr, Inhabited

/-- The outcome of a translation: `stale` is an item of an old hall generation (R28 order 2). -/
inductive Trans where
  | ok (x : Spot)
  | fail (st : Status)
  | stale
deriving DecidableEq, Repr, Inhabited

/-- What a leaf gives for an address in its page. -/
def leafSpot (l : BitVec 128) (base va : Nat) : Spot :=
  let a := leafAddr l + (va - base)
  if leafTarget l = 0 then .mem a
  else if leafTarget l = 1 then .region (leafRegion l) a
  else .peer (bits (leafMember l) 0 13) (leafStream l) ((leafFlags l).testBit 0) (leafRegion l) a

/-- What a requester may use and needs (R354): the targets by code, and the permissions. -/
structure Need where
  targets : List Nat
  rd : Bool
  wr : Bool
  atm : Bool
deriving DecidableEq, Repr, Inhabited

/-- The check of a leaf against a need. -/
def leafServes (l : BitVec 128) (n : Need) : Bool :=
  n.targets.contains (leafTarget l) && (!n.rd || leafRd l) && (!n.wr || leafWr l) && (!n.atm || leafAt l)

/-- Translation without its bookkeeping. -/
def transOf (s : State) (hall : Nat) (hgen : Nat) (va : Nat) (n : Need) : Trans :=
  if !genOk s hall hgen then .stale
  else if 2 ^ 48 ≤ va then .fail Status.translationFault
  else match leafFor (hallOf s hall) va with
    | none => .fail Status.translationFault
    | some (l, base) =>
      if !leafServes l n then .fail Status.permission
      else match leafSpot l base va with
        | .mem pa => if mpPresent s pa then .ok (.mem pa) else .fail Status.translationFault
        | x => .ok x

/-! ### The reads of a walk (R47, R352) -/

/-- The number of the table of level `k` on the path of a page. -/
def tableKey (k page : Nat) : Nat := 4 * (page / 512 ^ (k + 1)) + k

/-- Where the entry lies that a walk for an address reads at level `k`, when the hall has that table. -/
def entryPlace (h : Hall) (va k : Nat) : Option Nat :=
  let t := h.tables.get (tableKey k (pageKey va))
  if t = 0 then none else some (t + 16 * (pageKey va / 512 ^ k % 512))

/-- Would the read of level `k` go to a port whose present bit is 0 (R47)? -/
def walkAbsent (s : State) (hall va k : Nat) : Bool :=
  match entryPlace (hallOf s hall) va k with
  | some pa => !mpPresent s pa
  | none => false

/-- Does a walk to the end meet such a table? -/
def pathAbsent (s : State) (hall va : Nat) : Bool :=
  let stop := match leafFor (hallOf s hall) va with | some (l, _) => leafSize l | none => 0
  [3, 2, 1, 0].any fun k => decide (stop ≤ k) && walkAbsent s hall va k

/-! ### The TLB (R355) -/

/-- The entry that would serve a lookup: hall, generation, page and size agree and the generation is current. -/
def tlbHit (s : State) (hall : Nat) (hgen : Nat) (va : Nat) : Option TlbEntry :=
  s.itu.tlb.find? fun e => e.hall == hall && e.hgen.toNat == hgen && genOk s hall hgen
    && e.page == va / pageBytes e.size.toNat

/-- A leaf enters the TLB; the victim, when it is full, is its oldest entry. DESIGN CHOICE, assumption 24. -/
def tlbFill (hall hgen va : Nat) (l : BitVec 128) (s : State) : State :=
  let e : TlbEntry :=
    { hall := hall, hgen := BitVec.ofNat 16 hgen, page := va / pageBytes (leafSize l), size := BitVec.ofNat 2 (leafSize l), leaf := l }
  s.updItu fun u => { u with tlb := (if u.tlb.length < 16384 then u.tlb else u.tlb.drop 1) ++ [e] }

/-- The counters of a translation's outcome. -/
def transCount (t : Trans) (s : State) : State :=
  match t with
  | .fail st => if st = Status.permission then s.ituCount 4 else s.ituCount 3
  | _ => s

/-- A corrected word of the TLB or the walk cache, where one is injected (R372). -/
def ituCorrected (hall va : Nat) (s : State) : State :=
  if injected Src.itu Kind.ituEcc s then (reportFault false Src.itu Kind.ituEcc hall va 0 s).ituEvent 3 else s

/-- A walk read is poisoned (R355, R372). -/
def walkPoisoned (natural : Bool) (hall va : Nat) (s : State) : State :=
  ((reportFault natural Src.itu Kind.ituWalk hall va 0 s).ituCount 7).ituEvent 2

/-- The injected checks of the lookup (R372): a disagreeing tag compare gives no translation; a corrected word counts. -/
def ituChecks (hall va : Nat) (s : State) : Bool × State :=
  let s := ituCorrected hall va s
  if injected Src.itu Kind.ituUnit s then (false, reportFault false Src.itu Kind.ituUnit hall va 0 s) else (true, s)

/-- A translation that one of the block's engines asks for and gets within its step: the reads of its walk, which no rule of the
spec numbers, return good data unless a poisoned one is injected (assumption 39). Where a failed check gives none, the item ends as in
the safe state that the fault brings: DESIGN CHOICE, assumption 189. -/
def translate (hall hgen va : Nat) (n : Need) (s : State) : Trans × State :=
  let t := transOf s hall hgen va n
  match ituChecks hall va s with
  | (false, s) => (.fail Status.safeState, s)
  | (true, s) => match tlbHit s hall hgen va with
  | some _ => (t, transCount t (s.ituCount 0))
  | none =>
    let s := s.ituCount 1
    if genOk s hall hgen && decide (va < 2 ^ 48) && pathAbsent s hall va then
      (.fail Status.translationFault, transCount (.fail Status.translationFault) s)
    else if genOk s hall hgen && injected Src.itu Kind.ituWalk s then (.fail Status.poisoned, walkPoisoned false hall va s)
    else
      let s := match (if genOk s hall hgen then leafFor (hallOf s hall) va else none) with
        | some (l, _) => tlbFill hall hgen va l s
        | none => s
      (t, transCount t s)

/-- The needs of R354. -/
def needRead : Need := { targets := [0, 1], rd := true, wr := false, atm := false }
def needWrite : Need := { targets := [0, 1], rd := false, wr := true, atm := false }
def needAtomic : Need := { targets := [0, 1], rd := true, wr := true, atm := true }

/-- The targets of a requester by its unit ID (R354). -/
def targetsOf (unit : Nat) : List Nat :=
  if unit = Src.fe then [0, 1, 2] else if within unit 0x2E0 16 then [1, 2] else [0, 1]

/-- The need of a request at the ITU's lookup port. -/
def needOf (r : ItuReq) : Need := { targets := targetsOf r.unit, rd := r.read || r.atomic, wr := r.write || r.atomic, atm := r.atomic }

/-- What an answer carries: target code, then the address. -/
def spotBytes : Spot → Bytes
  | .mem pa => natLe 0 1 ++ natLe pa 8
  | .region r off => natLe 1 1 ++ natLe off 8 ++ natLe r 2
  | .peer m st k r a => natLe 2 1 ++ natLe a 8 ++ natLe r 2 ++ natLe m 2 ++ natLe st 1 ++ natLe (b2n k) 1

/-- The answer to a requester at the lookup port. -/
def ituAnswer (r : ItuReq) (t : Trans) (s : State) : State :=
  let s := transCount t s
  match t with
  | .ok x => s.emit (.status (.port r.unit r.ticket) Status.ok (spotBytes x))
  | .fail st => s.emit (.status (.port r.unit r.ticket) st [])
  | .stale => hallStale r.hall s

/-- A free walk out of the 64. -/
def freeWalk (s : State) : Option Nat := firstFrom (fun i => !(s.itu.walks.get i).live) 64 0

/-- TRANSLATION_LOOKUP (R354, R355): a hit answers at once, a miss starts a walk at level 3; with 64 walks in flight the
lookup waits at its requester. -/
def translationLookupOp (r : ItuReq) (s : State) : State :=
  match ituChecks r.hall r.va.toNat s with
  | (false, s) => s
  | (true, s) =>
    let t := transOf s r.hall r.hgen.toNat r.va.toNat (needOf r)
    if !genOk s r.hall r.hgen.toNat || decide (2 ^ 48 ≤ r.va.toNat) then ituAnswer r t s
    else match tlbHit s r.hall r.hgen.toNat r.va.toNat with
      | some _ => ituAnswer r t (s.ituCount 0)
      | none =>
        match freeWalk s with
        | none => s
        | some w =>
          if walkAbsent s r.hall r.va.toNat 3 then ituAnswer r (.fail Status.translationFault) (s.ituCount 1)
          else (s.ituCount 1).updItu fun u => { u with walks := u.walks.set w { live := true, req := r, level := 3 } }

def execTranslationLookup (r : ItuReq) (s : State) : Answer := goOn (translationLookupOp r s)

/-- Is there a table, or a leaf, below level `k` on the path of an address? -/
def pathBelow (h : Hall) (va k : Nat) : Bool :=
  h.leaves.any fun e => leafType e.2 == 2 && e.1 * 4096 / (4096 * 512 ^ k) == va / (4096 * 512 ^ k)

/-- WALK_READ_RESPONSE (R355): a level of a walk is read. A poisoned read completes the item; a leaf or an invalid entry
ends the walk; a table leads to the next level, whose read is not issued where its port is absent (R47). -/
def walkReadOp (walk : Nat) (err : BitVec 2) (s : State) : State :=
  let w := s.itu.walks.get walk
  if !w.live then s
  else
    let r := w.req
    let natural := decide (2 ≤ err.toNat)
    let bad := checkFails natural Src.itu Kind.ituWalk s
    let s := s.ituCount 2
    let s := memCorrected (err == 1#2) r.hall r.va.toNat s
    let done (s : State) : State := s.updItu fun u => { u with walks := u.walks.set walk default }
    let down (s : State) : State :=
      if walkAbsent s r.hall r.va.toNat (w.level - 1) then done (ituAnswer r (.fail Status.translationFault) s)
      else s.updItu fun u => { u with walks := u.walks.set walk { w with level := w.level - 1 } }
    if bad then
      done ((walkPoisoned natural r.hall r.va.toNat s).emit (.status (.port r.unit r.ticket) Status.poisoned []))
    else
      let h := hallOf s r.hall
      let t := transOf s r.hall r.hgen.toNat r.va.toNat (needOf r)
      match (if genOk s r.hall r.hgen.toNat then leafFor h r.va.toNat else none) with
      | some (l, _) =>
        if w.level ≤ leafSize l then done (ituAnswer r t (tlbFill r.hall r.hgen.toNat r.va.toNat l s))
        else down s
      | none =>
        if genOk s r.hall r.hgen.toNat && decide (0 < w.level) && pathBelow h r.va.toNat w.level then
          down s
        else done (ituAnswer r t s)

def execWalkReadResponse (walk : Nat) (err : BitVec 2) (s : State) : Answer := goOn (walkReadOp walk err s)

end Sys2Proof.Machine
end

