-- ==== Sys2Proof/Machine/Arena.lean ====
section
/-! DEFINITION. The arena (13_halls_translation.md R349, R351-R353): the place of the grant map and of the translation tables in
local memory, the entries of a table, and the writes that keep them as the halls' records stand. A table's number is 4 × (the page
number of its first byte's address over 512 to the power of its level + 1) + its level; where a table lies is a free value
among the free places (assumption 38). -/

namespace Sys2Proof.Machine

-- One declaration at a time, so that the elaborator holds few threads (each takes stack of its own).
set_option Elab.async false

/-! ### Places -/

/-- The byte offset of the grant map in the arena. -/
def grantMapOffset : Nat := 0x10000

/-- The first byte of the tables: behind the grant map of 2 bytes for each granule, at the next 8 KiB. -/
def tablesBase (s : State) : Nat := s.itu.arena.toNat + grantMapOffset + cdiv (2 * s.pins.granules) 8192 * 8192

/-- Tables of 8 KiB that the arena holds. -/
def tablesRoom (s : State) : Nat :=
  (s.itu.arenaSize.toNat * 2 ^ 26 - grantMapOffset - cdiv (2 * s.pins.granules) 8192 * 8192) / 8192

/-- Are both arena registers set? -/
def arenaSet (s : State) : Bool := s.itu.arenaSize != 0#32

/-! ### Tables -/

/-- A table's level, and the page number of its entry `i`. -/
def tableLevel (key : Nat) : Nat := key % 4
def tablePage (key i : Nat) : Nat := (key / 4 * 512 + i) * 512 ^ tableLevel key

/-- The tables on a leaf's path, the top one first. -/
def leafTables (page size : Nat) : List Nat := ([3, 2, 1, 0].filter fun k => size ≤ k).map fun k => tableKey k page

/-- The distinct values of a list. -/
def distinct (l : List Nat) : List Nat := l.foldl (fun a x => if a.contains x then a else a ++ [x]) []

/-- A list without repeats of neighbours. -/
def dedup (l : List (Nat × Nat)) : List (Nat × Nat) :=
  (l.foldl (fun a x => if a.head? = some x then a else x :: a) []).reverse

/-- The tables that a set of leaves needs. -/
def tableKeys (leaves : Tab (BitVec 128)) : List Nat := distinct (leaves.flatMap fun e => leafTables e.1 (leafSize e.2))

/-- The places in use, as a set: the halls' tables, and those that unmaps in progress have emptied. -/
def placesUsed (s : State) : Tab Nat :=
  let l := (s.itu.halls.flatMap fun e => e.2.tables.map (·.2)) ++ s.itu.unmaps.flatMap (·.tables)
  forAll l (fun a t => Tab.set t ((a - tablesBase s) / 8192) 1) ([] : Tab Nat)

/-- Tables in use. -/
def tablesUsed (s : State) : Nat := (placesUsed s).length

/-- The `k`-th place that is not in use. -/
def freePlace (used : Tab Nat) (k : Nat) : Nat := used.foldl (fun k e => if e.1 ≤ k then k + 1 else k) k

/-- A table takes one of the free places, which one is a free value. -/
def placeTable (hall key : Nat) (s : State) : State :=
  let used := placesUsed s
  let n := freePlace used (s.open64.toNat % max 1 (tablesRoom s - used.length))
  updHall hall (fun h => { h with tables := h.tables.set key (tablesBase s + 8192 * n) }) s.opened

/-- Entry `i` of a table (R353): a table entry sets TYPE and ADDR only, a leaf stands whole, every other entry is zero. -/
def tableEntry (h : Hall) (key i : Nat) : Bytes :=
  let k := tableLevel key
  let page := tablePage key i
  let below := if k = 0 then 0 else h.tables.get (tableKey (k - 1) page)
  let l := h.leaves.get page
  if below ≠ 0 then fit (natLe (below + 1) 8) 16
  else if leafType l = 2 ∧ leafSize l = k then natLe l.toNat 16 else List.replicate 16 0#8

/-- A write of the ITU to the arena. -/
def arenaWrite (pa : Nat) (data : Bytes) (s : State) : State :=
  if mpPresent s pa then mpWrite pa data noHall .none Src.itu 0 s else s

/-- The ITU writes one of a table's 64 lines of 128 bytes as the hall's record stands. -/
def tableLine (hall : Nat) (x : Nat × Nat) (s : State) : State :=
  let h := hallOf s hall
  arenaWrite (h.tables.get x.1 + 128 * x.2) ((List.range 8).flatMap fun j => tableEntry h x.1 (8 * x.2 + j)) s

/-- The line of a page's entry in its table of level `k`. -/
def lineOf (k page : Nat) : Nat × Nat := (tableKey k page, page / 512 ^ k % 512 / 8)

/-- The lines to write when a hall's tables `old` become those of its leaves and the entries of `pages` (page and size) change:
a new table whole, in every other the entries that changed. -/
def changedLines (old new : List Nat) (pages : List (Nat × Nat)) : List (Nat × Nat) :=
  let fresh := new.filter fun k => !old.contains k
  let moved := fresh ++ old.filter fun k => !new.contains k
  let parents := moved.filterMap fun k => if tableLevel k = 3 then none else some (lineOf (tableLevel k + 1) (tablePage k 0))
  let entries := pages.map fun p => lineOf p.2 p.1
  (fresh.flatMap fun k => (List.range 64).map fun i => (k, i))
    ++ dedup ((parents ++ entries).filter fun x => old.contains x.1 && new.contains x.1)

/-- The hall's leaves become `leaves`, with the entries of `pages` changed: new tables take their places, tables that are empty
leave the record, and the ITU writes what changed. The root table entry is not written here. -/
def setLeaves (hall : Nat) (leaves : Tab (BitVec 128)) (pages : List (Nat × Nat)) (s : State) : State :=
  let old := (hallOf s hall).tables.keys
  let new := tableKeys leaves
  let s := forAll (new.filter fun k => !old.contains k) (placeTable hall) s
  let s := updHall hall (fun h =>
    let tables : Tab Nat := h.tables.filter fun e => new.contains e.1
    { h with leaves := leaves, tables := tables, root := tables.get 3 }) s
  forAll (changedLines old new pages) (tableLine hall) s

/-! ### The grant map -/

/-- A granule's entry: [15:14] state, [11:0] the owning hall. -/
def grantEntry (s : State) (g : Nat) : Bytes :=
  let x := s.itu.granules.get g
  natLe (put 14 x.state.toNat + x.hall % 4096) 2

/-- The ITU writes the entries of `count` granules from `first`, a line of 64 at a time. -/
def grantWrite (first count : Nat) (s : State) : State :=
  if !arenaSet s || count = 0 then s
  else
    forAll (List.range ((first + count - 1) / 64 + 1 - first / 64)) (fun i s =>
      let lo := max first (64 * (first / 64 + i))
      let hi := min (first + count) (64 * (first / 64 + i + 1))
      arenaWrite (s.itu.arena.toNat + grantMapOffset + 2 * lo) ((List.range (hi - lo)).flatMap fun j => grantEntry s (lo + j)) s) s

/-- Every granule of a list gets a new entry in the grant map. -/
def setGranules (l : List Nat) (x : Granule) (s : State) : State :=
  forAll l (fun g s => grantWrite g 1 s) (s.updItu fun u => { u with granules := forAll l (fun g t => t.set g x) u.granules })

/-- A run of granules gets a new entry in the grant map. -/
def setRun (first count : Nat) (x : Granule) (s : State) : State :=
  grantWrite first count (s.updItu fun u =>
    { u with granules := forAll ((List.range count).map (first + ·)) (fun g t => t.set g x) u.granules })

end Sys2Proof.Machine
end

