-- ==== Sys2Proof/Machine/Ide.lean ====
section
/-! DEFINITION. IDE streams as TLPs use them: their key registers, the sealing of a TLP that leaves in a stream and the opening of one
that came in it (05_attestation_domain.md R134, R135, R138). The IV, the sub-stream numbers and the control bits are those of the cited
PCIe IDE: PRESUMED, assumption 35. -/

namespace Sys2Proof.Machine

-- One declaration at a time, so that the elaborator holds few threads (each takes stack of its own).
set_option Elab.async false

/-- The key register of a stream (64 the link stream), sub-stream, direction and key set. -/
def ideKeyAt (stream sub' : Nat) (tx : Bool) (ks : Nat) : Nat := ((stream * 3 + sub') * 2 + b2n tx) * 2 + ks
def ideKeyOf (s : State) (stream sub' : Nat) (tx : Bool) (ks : Nat) : IdeKey := s.att.ideKeys.get (ideKeyAt stream sub' tx ks)
def updIdeKey (stream sub' : Nat) (tx : Bool) (ks : Nat) (f : IdeKey → IdeKey) (s : State) : State :=
  s.updAt fun a => { a with ideKeys := a.ideKeys.mod (ideKeyAt stream sub' tx ks) f }

/-- A stream's record, and a change of it. -/
def ideOf (s : State) (i : Nat) : IdeStream := s.att.ideStreams.get i
def updIde (i : Nat) (f : IdeStream → IdeStream) (s : State) : State := s.updAt fun a => { a with ideStreams := a.ideStreams.mod i f }

/-- Registers of a stream's block: 1 control, 3 and 4 RID association, 5 to 7 address association. -/
def ideReg (s : State) (i r : Nat) : Nat := ((ideOf s i).regs.get r).toNat

/-- Sub-streams. -/
def idePosted : Nat := 0
def ideNonPosted : Nat := 1
def ideCompletion : Nat := 2

/-- The IV: the sub-stream, then the count of TLPs under the key set, from 1. -/
def ideIv (sub' n : Nat) : Bytes := natBe (put 28 sub') 4 ++ natBe (n + 1) 8

/-- Does a stream's data carry the PCRC? -/
def idePcrc (s : State) (i : Nat) : Bool := bitAt (ideReg s i 1) 8

/-- The key set that a stream sends under: the active one that K_SET_GO named last. -/
def ideTxSet (s : State) (i sub' : Nat) : Option Nat :=
  let on (f : IdeKey → Bool) : Option Nat := firstFrom (fun ks => (ideKeyOf s i sub' true ks).active && f (ideKeyOf s i sub' true ks)) 2 0
  match on (·.recent) with
  | some ks => some ks
  | none => on fun _ => true

/-- A TLP leaves: outside every stream, or sealed in one with T = 1, the MAC behind it. -/
def ideEmit (stream : Option Nat) (sub' : Nat) (head : Bytes) (data : Bytes) (out : Bytes → Out) (s : State) : State :=
  match stream with
  | none => s.emit (out data)
  | some i =>
    match ideTxSet s i sub' with
    | none => s.emit (out data)
    | some ks =>
      let k := ideKeyOf s i sub' true ks
      let plain := if idePcrc s i && !data.isEmpty then data ++ natLe (Config.pcrc data).toNat 4 else data
      let x := Crypto.gcmSeal k.key (ideIv sub' k.count) head plain
      ((updIdeKey i sub' true ks (fun k => { k with count := k.count + 1 }) s).emit (out x.1)).emit (.ideTail i sub' ks (x.2.take 12))

/-- A TLP's data that came in a stream: opened, or none where the MAC or the PCRC fails. -/
def ideOpened (s : State) (i sub' ks : Nat) (head data mac : Bytes) : Option Bytes :=
  let k := ideKeyOf s i sub' false ks
  let iv := ideIv sub' k.count
  let plain := (Crypto.gcmSeal k.key iv head data).1
  if !((Crypto.gcmTag k.key iv head data).take 12 == mac) then none
  else if idePcrc s i && !data.isEmpty then
    let body := plain.take (plain.length - 4)
    if plain.drop (plain.length - 4) == natLe (Config.pcrc body).toNat 4 then some body else none
  else some plain

/-- The stream that a hall's TDI sends in: its bound one while it is locked or runs (R138). -/
def boundStream (s : State) (hall : Nat) : Option Nat :=
  let h := hallOf s hall
  if h.tdi == .locked || h.tdi == .run then h.stream else none

end Sys2Proof.Machine
end

