-- ==== Sys2Proof/Machine/LinkTx.lean ====
section
/-! DEFINITION. The transmit side of link sealing: stream contexts, chunks, sealing, void frames, failover, lane moves and the
switch instant (06_link_sealing.md R148-R157, R165-R169, R174-R181; 09_movers_reduction.md R251; 02_ports.md R51, R52). -/

namespace Sys2Proof.Machine

-- One declaration at a time, so that the elaborator holds few threads (each takes stack of its own).
set_option Elab.async false

/-! ### Contexts, lanes and pipes -/

def txOf (s : State) (i : Nat) : TxCtx := s.ls.tx.get i
def updTx (i : Nat) (f : TxCtx → TxCtx) (s : State) : State := s.updLs fun l => { l with tx := l.tx.mod i f }
def rxOf (s : State) (i : Nat) : RxCtx := s.ls.rx.get i
def updRx (i : Nat) (f : RxCtx → RxCtx) (s : State) : State := s.updLs fun l => { l with rx := l.rx.mod i f }
def laneOf (s : State) (i : Nat) : Lane := s.ls.lanes.get i
def updLane (i : Nat) (f : Lane → Lane) (s : State) : State := s.updLs fun l => { l with lanes := l.lanes.mod i f }

/-- The lane that a context is on: its primary lane, or its alternate one after a lane move. -/
def txLane (c : TxCtx) : Nat := if c.onAlt then c.alt.getD c.lane else c.lane
def rxLane (c : RxCtx) : Nat := if c.onAlt then c.alt.getD c.lane else c.lane

/-- The link group of a lane, and the spare pipe of a group. -/
def groupOf (lane : Nat) : Nat := lane / 16
def sparePipe (g : Nat) : Nat := 64 + g

/-- The TX and the RX pipe that serve a lane: its own, or the spare that stands in (R165). -/
def txPipe (s : State) (lane : Nat) : Nat :=
  if (s.ls.spares.get (groupOf lane)).txLane = some lane then sparePipe (groupOf lane) else lane
def rxPipe (s : State) (lane : Nat) : Nat :=
  if (s.ls.spares.get (groupOf lane)).rxLane = some lane then sparePipe (groupOf lane) else lane

/-- The lane of a pipe: a spare's is the one it stands in for. -/
def laneOfTxPipe (s : State) (p : Nat) : Option Nat := if p < 64 then some p else (s.ls.spares.get (p - 64)).txLane
def laneOfRxPipe (s : State) (p : Nat) : Option Nat := if p < 64 then some p else (s.ls.spares.get (p - 64)).rxLane

/-- Is a TX, an RX pipe out of service? -/
def txPipeBad (s : State) (p : Nat) : Bool := if p < 64 then s.ls.txBad.contains p else (s.ls.spares.get (p - 64)).txBad
def rxPipeBad (s : State) (p : Nat) : Bool := if p < 64 then s.ls.rxBad.contains p else (s.ls.spares.get (p - 64)).rxBad

/-- A lane carries frames: lane_up is 1, its group's enable is 1 (R37, R52). -/
def laneUp (s : State) (lane : Nat) : Bool :=
  decide (lane < s.conf.lanes) && s.pins.laneUp.toNat.testBit lane && s.pins.lpEn.toNat.testBit (groupOf lane)

/-- A lane whose own pipes are in Landing with their slice presents and accepts no frame (R426). -/
def laneSends (s : State) (lane : Nat) : Bool :=
  laneUp s lane && !txPipeBad s (txPipe s lane) && !isLanding s (Src.linkTx (txPipe s lane)) && !s.fcu.safe
def laneReceives (s : State) (lane : Nat) : Bool :=
  laneUp s lane && !rxPipeBad s (rxPipe s lane) && !isLanding s (Src.linkRx (rxPipe s lane)) && !s.fcu.safe

/-- The hall field of a context's faults: its pair key's hall, 0xFFF for class 1 (R173). -/
def handleHall (h : Handle) : Nat := if hClass h = 2 then hHall h else noHall

/-- Has a member been declared lost (R144)? -/
def memberLost (s : State) (m : Nat) : Bool := s.dom.lost.contains m

/-- Is a context's peer a member declared lost? -/
def toLost (s : State) (c : TxCtx) : Bool := !c.dst.toNat.testBit 13 && memberLost s (bits c.dst.toNat 0 13)

/-- Is a context the one of its stream in use: no successor that waits for T, and not one that has its CLOSE (R169)? -/
def txInUse (c : TxCtx) : Bool := c.live && !c.waiting && !c.closing

/-- The live TX context of a hall toward a member on a stream, the one in use where a successor waits (R149). -/
def txFor (s : State) (hall member stream : Nat) : Option Nat :=
  match s.ls.tx.find? fun e => txInUse e.2 && e.2.dst.toNat == member && e.2.stream.toNat == stream
      && hClass e.2.handle == 2 && hHall e.2.handle == hall with
  | some e => some e.1
  | none => none

/-- The live RX context of a hall from a member on a stream. -/
def rxFor (s : State) (hall member stream : Nat) : Option Nat :=
  match s.ls.rx.find? fun e => e.2.live && !e.2.expander && !e.2.waiting && e.2.src.toNat == member && e.2.stream.toNat == stream
      && hClass e.2.handle == 2 && hHall e.2.handle == hall with
  | some e => some e.1
  | none => none

/-- The live TX contexts of the domain services, not counting those to expanders: the service streams (R146). -/
def serviceTx (s : State) : List Nat :=
  s.ls.tx.filterMap fun e => if txInUse e.2 && hClass e.2.handle == 1 && !e.2.dst.toNat.testBit 13 then some e.1 else none

/-- The live TX context to an expander (R154). -/
def expanderTx (s : State) (exp stream : Nat) : Option Nat :=
  match s.ls.tx.find? fun e => txInUse e.2 && e.2.dst.toNat == 0x2000 + exp && e.2.stream.toNat == stream with
  | some e => some e.1
  | none => none

/-! ### Chunks -/

/-- Frame types (R152). -/
def tData : Byte := 1#8
def tReq : Byte := 2#8
def tRsp : Byte := 3#8
def tSignal : Byte := 4#8
def tService : Byte := 5#8
def tClose : Byte := 6#8
def tGap : Byte := 7#8
def tLineWr : Byte := 8#8
def tLineRd : Byte := 9#8
def tLineRsp : Byte := 10#8

/-- A chunk with no owner. -/
def plainChunk (t : Byte) (payload : Bytes) : Chunk :=
  { type := t, last := true, payload := payload, owner := .none, hall := noHall, item := 0, unit := 0, gen := 0#8 }

/-- Why a TX context takes nothing: not live, BROKEN, or its peer declared lost. -/
def txRefuses (s : State) (i : Nat) : Option Status :=
  let c := txOf s i
  if !c.live then some Status.permission
  else if c.broken then some Status.resetAborted
  else if toLost s c then some Status.peerLost
  else none

/-- Chunks join a context's queue. -/
def txPush (i : Nat) (l : List Chunk) (s : State) : State := updTx i (fun c => { c with chunks := c.chunks ++ l }) s

/-- Is a chunk a non-posted REQ (R269, R271)? -/
def nonPosted (k : Chunk) : Bool := k.type == tReq && num k.payload 0 1 != 1

/-- The answers that chunks' owners get when the chunks end with a status. A non-posted REQ that has its number is answered as
an unanswered request, and one that is sent waits for its RSP. -/
def chunkEnds (l : List Chunk) (st : Status) : List Ans :=
  (l.filter fun k => !(nonPosted k && (k.item != 0 || st == Status.ok))).map fun k =>
    { owner := k.owner, unit := k.unit, status := st, data := [] }

/-- The number after `n`: 1 follows 2^32 - 1 (R271, R248). -/
def nextNum (n : Nat) : Nat := if n + 1 < 2 ^ 32 then n + 1 else 1

/-- A GAP's payload (R155). -/
def gapPayload (first last : Nat) (loss : Bool) : Bytes := fit (natLe first 8 ++ natLe last 8 ++ natLe (b2n loss) 1) 64

/-- A GAP goes ahead of everything the context holds. -/
def gapFirst (i first last : Nat) (loss : Bool) (s : State) : State :=
  updTx i (fun c => { c with chunks := plainChunk tGap (gapPayload first last loss) :: c.chunks }) s

/-- Is a chunk a frame of an item of several frames? -/
def isItem (k : Chunk) : Bool := k.type == tData || k.type == tRsp

/-- Do two owners supply the same item? -/
def sameItem : Owner → Owner → Bool
  | .mover a _ _, .mover b _ _ => a == b
  | a, b => a == b

/-- The chunks of an owner's item up to its LAST, and the chunks left. -/
def openChunks (o : Owner) : List Chunk → List Chunk × List Chunk
  | [] => ([], [])
  | k :: rest =>
    if !(isItem k && sameItem o k.owner) then
      match openChunks o rest with
      | (a, b) => (a, k :: b)
    else if k.last then ([k], rest)
    else match openChunks o rest with
      | (a, b) => (k :: a, b)

/-- The next chunk that a context seals, and those left: the first, but while an item is open no frame of another item, and
nothing that stands behind one. -/
def txHead (c : TxCtx) : Option (Chunk × List Chunk) :=
  match c.chunks with
  | [] => none
  | k :: rest =>
    if !c.openItem || !isItem k || sameItem c.openBy k.owner then some (k, rest)
    else match openChunks c.openBy c.chunks with
      | (x :: _, _) => some (x, c.chunks.erase x)
      | ([], _) => none

/-- Abort of a context's open item (R251): one sequence is taken and not sent, a GAP with LOSS = 1 follows, and item numbers
begin again at 1. -/
def txAbortOpen (i : Nat) (st : Status) (s : State) : List Ans × State :=
  let c := txOf s i
  if !c.openItem then ([], s)
  else
    let (gone, rest) := openChunks c.openBy c.chunks
    let s := updTx i (fun c => { c with chunks := rest, openItem := false, items := 0, nextSeq := c.nextSeq + 1 }) s
    (chunkEnds gone st, gapFirst i 0 0 true s)

/-- The GAP of an item aborted behind its first frame: it takes one sequence without sending it when it is sealed. -/
def abortMark : Chunk := { plainChunk tGap (gapPayload 0 0 true) with item := 1 }

/-- The chunk that a context was to seal ends without being sealed, and with it the rest of its item, open or not. -/
def dropHead (i : Nat) (st : Status) (s : State) : List Ans × State :=
  let c := txOf s i
  match txHead c with
  | none => ([], s)
  | some (k, rest) =>
    if !isItem k then (chunkEnds [k] st, updTx i (fun c => { c with chunks := rest }) s)
    else if c.openItem then txAbortOpen i st s
    else
      let (gone, left) := openChunks k.owner c.chunks
      (chunkEnds gone st, updTx i (fun c => { c with chunks := left }) s)

/-- An owner's item is withdrawn from a context: aborted when it is open (R251). One that is not leaves, when `first` gives its
first frame, that frame and the abort behind it, so that its receiver hears of the abort too. -/
def txWithdraw (i : Nat) (o : Owner) (first : Option Bytes) (s : State) : State :=
  let c := txOf s i
  if c.openItem && sameItem c.openBy o then (txAbortOpen i Status.resetAborted s).2
  else
    let again := match first with
      | some b => [{ plainChunk tData b with last := false, owner := .none }, abortMark]
      | none => []
    updTx i (fun c => { c with chunks := (c.chunks.filter fun k => !(isItem k && sameItem o k.owner)) ++ again }) s

/-! ### Sealing (R150, R153, R156) -/

/-- FLAGS (R151). -/
def frameFlags (c : TxCtx) (last : Bool) : Nat := b2n last + put 1 c.cls.toNat + put 3 (b2n c.epoch)

/-- This member's address as a frame's SRC. -/
def selfId (s : State) : Nat := s.dom.member.toNat

/-- The 16-byte header (R151). -/
def frameHeader (s : State) (c : TxCtx) (k : Chunk) (seq : Nat) : Bytes :=
  [k.type] ++ natLe (frameFlags c k.last) 1 ++ natLe c.dst.toNat 2 ++ natLe (selfId s) 2 ++ [c.stream]
    ++ natLe (k.payload.length / 64 - 1) 1 ++ natLe seq 8

/-- The IV: STREAM, SEQ, zero (R153). -/
def frameIv (stream : Byte) (seq : Nat) : Bytes := [stream] ++ natLe seq 8 ++ [0#8, 0#8, 0#8]

/-- Is a type authenticated only? -/
def isLineType (t : Byte) : Bool := t == tLineWr || t == tLineRd

/-- The whole sealed frame: GCM over the payload, or GMAC for the line types. -/
def sealFrame (s : State) (c : TxCtx) (k : Chunk) (seq : Nat) (key : BitVec 256) : Bytes :=
  let h := frameHeader s c k seq
  if isLineType k.type then h ++ k.payload ++ Crypto.gcmTag key (frameIv c.stream seq) (h ++ k.payload) []
  else
    let x := Crypto.gcmSeal key (frameIv c.stream seq) h k.payload
    h ++ x.1 ++ x.2

/-- The mark rises by 64 whenever 16 or fewer sequences remain below it (R150). -/
def raiseMark (c : TxCtx) : TxCtx := if c.mark ≤ c.nextSeq + 16 then { c with mark := c.mark + 64 } else c

/-- The other contexts that a lane's pipe caches. -/
def cachedOn (s : State) (lane i : Nat) : List Nat :=
  s.ls.tx.filterMap fun e => if e.2.live && e.2.cached && e.1 != i && txLane e.2 == lane then some e.1 else none

/-- The context enters its pipe's cache of 16; a victim writes its next sequence back as its mark. Which one is the
implementation's: the lowest number. DESIGN CHOICE, assumption 25. -/
def cacheContext (i : Nat) (s : State) : State :=
  let c := txOf s i
  if c.cached then s
  else
    let others := cachedOn s (txLane c) i
    let s := match others with
      | v :: _ => if 16 ≤ others.length then updTx v (fun x => { x with cached := false, mark := x.nextSeq }) s else s
      | [] => s
    updTx i (fun x => { x with cached := true }) s

/-- The rank of a context's next frame at its pipe (R381). -/
def txRank (s : State) (c : TxCtx) : Nat :=
  if c.cls = 0#2 then 0 else if c.cls = 3#2 then 1
  else if c.cls = 1#2 && !demoted (hallOf s (handleHall c.handle)) .link then 2 else 3

/-- Has a context something to seal: it is live, not waiting for T, not BROKEN, with a chunk whose sequence can be used? -/
def txReady (c : TxCtx) : Bool := c.live && !c.waiting && !c.broken && (txHead c).isSome && decide (c.nextSeq < 2 ^ 64 - 1)

/-- The contexts of a lane that have something to seal. -/
def txWaiting (s : State) (lane : Nat) : List (Nat × TxCtx) := s.ls.tx.filter fun e => txReady e.2 && txLane e.2 == lane

/-- Is it this context's turn at its pipe: no better rank waits, and round-robin by WEIGHT inside the rank? -/
def txTurn (s : State) (i : Nat) : Bool :=
  let c := txOf s i
  let w := txWaiting s (txLane c)
  let same := (w.filter fun e => txRank s e.2 == txRank s c && e.1 != i).map fun e => handleHall e.2.handle
  w.all (fun e => decide (txRank s c ≤ txRank s e.2))
    && (c.cls == 3#2 || turnOk (Src.linkTx (txPipe s (txLane c))) (handleHall c.handle)
      (same.filter fun h => h != handleHall c.handle) s)

/-- The bookkeeping of the turn. -/
def txTook (s : State) (i : Nat) : State :=
  let c := txOf s i
  if c.cls = 3#2 then s
  else
    let same := ((txWaiting s (txLane c)).filter fun e => txRank s e.2 == txRank s c && e.1 != i).map fun e => handleHall e.2.handle
    turnTaken (Src.linkTx (txPipe s (txLane c))) (handleHall c.handle) (same.filter fun h => h != handleHall c.handle) s

/-- Is a chunk sealed even when the budget is exhausted? -/
def isControl (k : Chunk) : Bool := k.type == tGap || k.type == tClose

/-- The frame is sealed and presented. A mismatch of the checkers withholds the tag: the frame becomes a void frame and the
pipe goes out of service, for TX_FAILOVER to replace it (R156, R166). -/
def txPresent (i : Nat) (k : Chunk) (rest : List Chunk) (key : BitVec 256) (mismatch : Bool) (s : State) : State :=
  let c := txOf s i
  let lane := txLane c
  let p := txPipe s lane
  let seq := if k.type == tGap && k.item == 1 then c.nextSeq + 1 else c.nextSeq
  let first := k.type == tData && !c.openItem && k.item == 0
  let numbered := nonPosted k && k.item == 0
  let sync := numbered && num k.payload 0 1 == 15
  let n := if first then nextNum c.items else nextNum c.rnum
  let k := if first then { k with item := n, payload := overwrite k.payload 24 (natLe n 4) }
    else if numbered then { k with item := n, payload := overwrite k.payload 20 (natLe n 4) }
    else if k.type == tRsp && !c.openItem then { k with item := 1 } else k
  let asked : List Unanswered := if numbered && !sync then
    [{ rnum := n, lines := num k.payload 7 1, atomic := num k.payload 0 1 != 0, owner := k.owner, unit := k.unit, gen := k.gen
       addr := num k.payload 8 8 }] else []
  let bytes := sealFrame s c k seq key
  let s := txTook s i
  let s := if k.hall < 4096 then charge k.hall .link k.payload.length s else s
  let s := updTx i (fun c => raiseMark { c with
    nextSeq := seq + 1
    chunks := rest
    openItem := if isItem k then !k.last else if k.type == tGap && k.item == 1 then false else c.openItem
    openBy := if isItem k then k.owner else c.openBy
    items := if first then n else if k.type == tGap && k.item == 1 then 0 else c.items
    rnum := if numbered then n else c.rnum
    resync := if sync then some n else c.resync
    unanswered := c.unanswered ++ asked }) s
  let bad := checkFails mismatch (Src.linkTx p) Kind.linkPipe s
  let s := if bad then
      let s := if mismatch then s else injFired s
      if p < 64 then s.updLs fun l => { l with txBad := l.txBad ++ [p] }
      else s.updLs fun l => { l with spares := l.spares.mod (p - 64) fun x => { x with txBad := true } }
    else s
  updLane lane (fun l => { l with out := l.out ++ [{ ctx := i, seq := seq, bytes := bytes, chunk := k, isVoid := bad }] }) s

/-- The key for a seal: a control frame gets it without a lease when the budget has none left (R156). -/
def sealKey (control : Bool) (l : Lookup) (s : State) : KeyAnswer × State :=
  match keyFor l s with
  | (.exhausted, s) => if control then keyFor { l with sealing := false } s else (.exhausted, s)
  | r => r

/-- The chunk of a frame that was not sent is offered again, first of all; its item goes on where it was (R166 step 5). -/
def offerAgain (f : Presented) (s : State) : State :=
  let mid := isItem f.chunk && f.chunk.item == 0
  if !(txOf s f.ctx).live then s
  else updTx f.ctx (fun c => { c with
    chunks := f.chunk :: c.chunks, openItem := c.openItem || mid, openBy := if mid then f.chunk.owner else c.openBy }) s

/-- The status form of an RSP whose seal found no budget: KEY_EXHAUSTED for its request (R279). -/
def rspExhausted (k : Chunk) : List Chunk :=
  [{ k with last := false, payload := fit (natLe Status.keyExhausted.toNat 2 ++ [0#8, 0#8] ++ natLe k.unit 4) 64 },
    { k with last := true, payload := List.replicate 64 0#8 }]

/-- A chunk's seal found the budget exhausted: its item ends with KEY_EXHAUSTED. An RSP that has not begun is kept behind what else
the context holds, in its order, and tells its requester once there is budget again. DESIGN CHOICE, assumption 176. -/
def txExhausted (i : Nat) (k : Chunk) (s : State) : List Ans × State :=
  let c := txOf s i
  let told := sub k.payload 0 2 == natLe Status.keyExhausted.toNat 2 && !k.last
  let counted (s : State) : State := txCount (txPipe s (txLane c)) 2 1 s
  if k.type == tRsp && !c.openItem then
    let left := (openChunks k.owner c.chunks).2
    let isRsp (x : Chunk) : Bool := x.type == tRsp
    let s := updTx i (fun c => { c with
      chunks := left.filter (fun x => !isRsp x) ++ rspExhausted k ++ left.filter isRsp }) s
    ([], if told then s else counted s)
  else dropHead i Status.keyExhausted (counted s)

/-- TX_FRAME_SEAL (R156): the head chunk of a context whose turn it is. The answers are those of a chunk that ends without
being sent: KEY_EXHAUSTED, PERMISSION for a key that is not there, PEER_LOST toward a member declared lost, to which no frame is
sealed any more (R147). A chunk of a torn-down hall is dropped without an answer (R28). CLOSE and GAP are sealed under an
exhausted budget too. -/
def txSealOp (i : Nat) (mismatch : Bool) (s : State) : List Ans × State :=
  let c := txOf s i
  let lane := txLane c
  match txHead c with
  | none => ([], s)
  | some (k, rest) =>
    if !txReady c || !laneSends s lane || !(laneOf s lane).out.isEmpty || !txTurn s i || faultStall (Src.linkTx (txPipe s lane)) s then
      ([], s)
    else if toLost s c then dropHead i Status.peerLost s
    else
      let s := cacheContext i s
      let s := updTx i raiseMark s
      let h := handleHall c.handle
      let l : Lookup :=
        { unit := Src.linkTx (txPipe s lane), handle := c.handle, hall := h, hgen := (hallOf s h).hgen
          sealing := true, parent := 0#32, label := [], ticket := 0 }
      if injected (Src.linkTx (txPipe s lane)) Kind.keyMiss s then
        dropHead i Status.permission (reportFault false (Src.linkTx (txPipe s lane)) Kind.keyMiss h 0 0 s)
      else match sealKey (isControl k) l s with
      | (.hit key, s) => ([], txPresent i k rest key mismatch s)
      | (.exhausted, s) => txExhausted i k s
      | (.staleHall, s) => ([], (dropHead i Status.hallGone (hallStale h s)).2)
      | (.miss, s) => dropHead i Status.permission (raiseFault (Src.linkTx (txPipe s lane)) Kind.keyMiss h 0 0 s)
      | (.staleKey, s) => ([], s)
      | (.waits, s) => ([], s)

/-- A frame's last beat transfers (R156): it is sent, its context records its sequence, and its chunk's owner hears of it. A
CLOSE frees its context: what an old context without a successor holds behind it ends (R169). -/
def frameSentOp (lane : Nat) (s : State) : List Ans × State :=
  match (laneOf s lane).out with
  | [] => ([], s)
  | f :: rest =>
    let p := txPipe s lane
    let s := updLane lane (fun l => { l with out := rest }) s
    let c := txOf s f.ctx
    if f.isVoid then
      let s := (txCount p 3 1 s).emit (.voidFrame lane)
      ([], offerAgain f s)
    else
      let s := s.emit (.frame lane c.dst c.cls f.bytes)
      let s := txCount p 1 f.chunk.payload.length (txCount p 0 1 s)
      let s := if f.chunk.type = tGap then txCount p 4 1 s else if f.chunk.type = tClose then txCount p 5 1 s else s
      if f.chunk.type = tClose then
        let lost := c.unanswered.map fun u => ({ owner := u.owner, unit := u.unit, status := Status.resetAborted, data := [] } : Ans)
        let s := retireHandle c.handle (updTx f.ctx (fun _ => default) s)
        (chunkEnds [f.chunk] Status.ok ++ chunkEnds c.chunks Status.permission ++ lost,
          if s.ls.tx.any (fun e => e.2.live && (e.2.armed || e.2.closing)) then s else s.updLs fun l => { l with switchDone := true })
      else (chunkEnds [f.chunk] Status.ok, updTx f.ctx (fun c => { c with lastSent := f.seq }) s)

/-! ### Failover (R165, R166) -/

/-- The contexts of a lane. -/
def txOnLane (s : State) (lane : Nat) : List Nat := s.ls.tx.filterMap fun e => if e.2.live && txLane e.2 == lane then some e.1 else none
def rxOnLane (s : State) (lane : Nat) : List Nat := s.ls.rx.filterMap fun e => if e.2.live && rxLane e.2 == lane then some e.1 else none

/-- The frame in transfer on a lane ends as a void frame; its chunk stands first again at its context. -/
def voidOut (lane : Nat) (s : State) : State :=
  let out := (laneOf s lane).out
  if out.isEmpty then s
  else
    let s := updLane lane (fun l => { l with out := [] }) s
    let s := (txCount (txPipe s lane) 3 1 s).emit (.voidFrame lane)
    forAll out.reverse offerAgain s

/-- A context resumes at its high-water mark: the mark rises by 64, and a GAP with LOSS = 0 names the sequences skipped, where
there are any (R166 step 4). The pipe that resumes it caches it when it seals (R150). -/
def resumeAtMark (i : Nat) (s : State) : State :=
  let c := txOf s i
  let s := updTx i (fun c => { c with nextSeq := max 1 c.mark, mark := c.mark + 64, cached := false }) s
  if c.lastSent + 1 ≤ c.mark - 1 ∧ 0 < c.mark then gapFirst i (c.lastSent + 1) (c.mark - 1) false s else s

/-- A context becomes BROKEN: everything it holds ends with the status, and so does every request that waits for an answer. -/
def txBreak (i : Nat) (st : Status) (s : State) : List Ans × State :=
  let c := txOf s i
  let lost := c.unanswered.map fun u => ({ owner := u.owner, unit := u.unit, status := st, data := [] } : Ans)
  (chunkEnds c.chunks st ++ lost,
    (updTx i (fun c => { c with broken := true, chunks := [], openItem := false, unanswered := [], resync := none }) s).lsEvent 6)

/-- Runs an operation with answers for each of a list. -/
def eachAns (l : List Nat) (f : Nat → State → List Ans × State) (s : State) : List Ans × State :=
  l.foldl (fun a i => match f i a.2 with | (x, s) => (a.1 ++ x, s)) ([], s)

/-- TX failover of a pipe (R165, R166): to its group's spare, or with none free the loss of its lane without a move. -/
def txFailoverOp (p : Nat) (s : State) : List Ans × State :=
  match laneOfTxPipe s p with
  | none =>
    if 64 ≤ p then ([], s.updLs fun l => { l with spares := l.spares.mod (p - 64) fun x => { x with txBad := true } })
    else ([], s)
  | some lane =>
    if s.conf.lanes ≤ lane ∨ txPipe s lane ≠ p then ([], s)
    else
      let g := groupOf lane
      let hall := match (laneOf s lane).out with | f :: _ => handleHall (txOf s f.ctx).handle | [] => noHall
      let s := voidOut lane s
      let s := forfeitLease (Src.linkTx p) s
      let s := if p < 64 then s.updLs fun l => { l with txBad := l.txBad.filter (· != p) ++ [p] }
        else s.updLs fun l => { l with spares := l.spares.mod g fun x => { x with txBad := true } }
      let sp := s.ls.spares.get g
      let natural := !(p < 64 && sp.txLane.isNone && !sp.txBad)
      if !checkFails natural (Src.linkTx p) Kind.linkNoSpare s then
        let s := s.updLs fun l => { l with spares := l.spares.mod g fun x => { x with txLane := some lane } }
        let s := forAll ((txOnLane s lane).filter fun i => !(txOf s i).waiting && !(txOf s i).broken) resumeAtMark s
        ([], raiseFault (Src.linkTx (sparePipe g)) Kind.linkPipe hall 0 p (s.lsEvent 3))
      else
        let s := reportFault natural (Src.linkTx p) Kind.linkNoSpare hall 0 p (s.lsEvent 4)
        eachAns ((txOnLane s lane).filter fun i => !(txOf s i).broken) (fun i => txBreak i Status.resetAborted) s

/-! ### Lane loss (R168) -/

/-- The items of a context with a frame sealed before the move and not complete are aborted; SIGNAL, CLOSE and GAP chunks
stand again. A SIGNAL joins its context only when the work that it guards has ended (R300), so that none that stands there guards
what is aborted: one sent afterwards has the status of its work. -/
def moveItems (voided : List Chunk) (c : TxCtx) : List Chunk × List Chunk :=
  let keeps (k : Chunk) : Bool := k.type == tSignal || k.type == tClose
  let gone := voided.filter fun k => !keeps k && k.type != tGap
  let again := voided.filter keeps
  let tail := if c.openItem || gone.any (fun k => !k.last) then openChunks c.openBy c.chunks else ([], c.chunks)
  (gone ++ tail.1, again ++ tail.2)

/-- How many items that is: the open one, and a frame's that is none of its. -/
def movedItems (voided : List Chunk) (c : TxCtx) : Nat :=
  b2n c.openItem + (voided.filter fun k =>
    k.type != tSignal && k.type != tClose && k.type != tGap && !(c.openItem && isItem k && sameItem c.openBy k.owner)).length

/-- A context moves to its alternate lane: it continues at the high-water mark with a GAP with LOSS = 1. -/
def txMove (i : Nat) (voided : List Chunk) (s : State) : List Ans × State :=
  let c := txOf s i
  let (aborted, kept) := moveItems voided c
  let s := updTx i (fun c => { c with
    onAlt := true, chunks := kept, openItem := false, items := 0, nextSeq := max 1 c.mark, mark := c.mark + 64, cached := false }) s
  let s := gapFirst i 0 0 true s
  let s := txCount (txPipe s (txLane (txOf s i))) 6 (movedItems voided c) s
  (chunkEnds aborted Status.resetAborted, s.lsEvent 5)

/-- One TX context of a lane that fell. -/
def txLaneLost (i : Nat) (voided : List (Nat × Chunk)) (s : State) : List Ans × State :=
  let c := txOf s i
  let mine := (voided.filter fun v => v.1 == i).map (·.2)
  match c.alt with
  | some a =>
    if !c.onAlt && laneUp s a then txMove i mine s
    else match txBreak i Status.resetAborted s with
      | (l, s) => (chunkEnds mine Status.resetAborted ++ l, s)
  | none => match txBreak i Status.resetAborted s with
    | (l, s) => (chunkEnds mine Status.resetAborted ++ l, s)

/-- The TX side of a lane's fall: the frame in transfer is void, each context moves or breaks. The flag says whether one did. -/
def txLaneFall (lane : Nat) (s : State) : List Ans × State :=
  let voided := (laneOf s lane).out.map fun f => (f.ctx, f.chunk)
  let ctxs := (txOnLane s lane).filter fun i => !(txOf s i).broken
  let s := if voided.isEmpty then s else txCount (txPipe s lane) 3 1 s
  let s := updLane lane (fun l => { l with out := [] }) s
  eachAns ctxs (fun i => txLaneLost i voided) s

/-- Which unanswered requests make a requester enter resync when items of their context were aborted: it then completes them
with RESET_ABORTED and sends a SYNC with its next number (R271). -/
def syncBlock (s : State) (hall : Nat) (rnum : Nat) : Bytes :=
  fit ([0x0F#8, 0#8] ++ natLe hall 2 ++ natLe (hallOf s hall).hgen.toNat 2 ++ [0#8, 1#8] ++ List.replicate 12 0#8 ++ natLe rnum 4) 64

/-- Entry into resync of a requester's context with the status for its unanswered requests. Its SYNC goes ahead of what has no
number yet, and takes the next number when it is sealed. -/
def enterResync (i : Nat) (st : Status) (s : State) : List Ans × State :=
  let c := txOf s i
  if c.broken || !c.live || toLost s c then ([], s)
  else
    let h := handleHall c.handle
    let lost := c.unanswered.map fun u => ({ owner := u.owner, unit := u.unit, status := st, data := [] } : Ans)
    let k : Chunk := { plainChunk tReq (syncBlock s h 0) with hall := h }
    let gaps := c.chunks.takeWhile fun k => k.type == tGap
    let rest := (c.chunks.drop gaps.length).filter fun k => !(nonPosted k && (k.item != 0 || num k.payload 0 1 == 15))
    (lost, updTx i (fun c => { c with unanswered := [], resync := some 0, chunks := gaps ++ [k] ++ rest }) s)

/-! ### The switch (R169) -/

/-- SWITCH_INSTANT: at the first frame boundary at or after T an armed old context seals its CLOSE, ahead of what it still
holds, which its successor sends from sequence 1. -/
def switchInstantOp (i : Nat) (s : State) : State :=
  let c := txOf s i
  let due := decide (s.ls.switchAt.toNat ≤ s.now)
  let boundary := (laneOf s (txLane c)).out.all fun f => f.ctx != i
  if !c.live || !c.armed || !due || !boundary then s
  else
    let newEpoch := s.dom.epoch.toNat + 1
    let close := plainChunk tClose (fit (natLe newEpoch 4) 64)
    let control := c.chunks.filter fun k => k.type == tGap
    let rest := c.chunks.filter fun k => k.type != tGap
    let succ := s.ls.tx.find? fun e => e.2.live && e.2.succOf == some i
    let freed := c.broken || toLost s c
    let s := if freed then updTx i (fun _ => default) s
      else updTx i (fun c => { c with
        armed := false, closing := true, openItem := c.openItem && succ.isNone
        chunks := control ++ [close] ++ (if succ.isSome then [] else rest)
        unanswered := if succ.isSome then [] else c.unanswered }) s
    let s := match succ with
      | some e => updTx e.1 (fun x => { x with
          waiting := false
          chunks := rest ++ x.chunks
          openItem := c.openItem, openBy := c.openBy
          unanswered := c.unanswered ++ x.unanswered
          items := if rest.any (fun k => k.type == tData && k.item != 0) then c.items else x.items
          resync := c.resync }) s
      | none => s
    let left (f : TxCtx → Bool) : Bool := s.ls.tx.any fun e => e.2.live && f e.2
    s.updLs fun l => { l with
      switchArmed := left (·.armed), switchDone := l.switchDone || (freed && !left fun x => x.armed || x.closing) }

def execSwitchInstant (ctx : Nat) (s : State) : Answer := goOn (switchInstantOp ctx s)

end Sys2Proof.Machine
end

