-- ==== Sys2Proof/Machine/Tree.lean ====
section
/-! DEFINITION. Region descriptors, the request blocks of the expander, and the integrity tree of the vault regions: its
geometry, node MACs, counter access, fetches, write-backs, poisoning, and the save and load of roots
(07_line_sealing.md R182-R188, R193; 08_integrity_tree.md R210-R238). -/

namespace Sys2Proof.Machine

-- One declaration at a time, so that the elaborator holds few threads (each takes stack of its own).
set_option Elab.async false

/-! ### Region descriptors (R182, R184) -/

def regionOf (s : State) (r : Nat) : Region := s.ln.regions.get r
def updRegion (r : Nat) (f : Region → Region) (s : State) : State := s.updLn fun l => { l with regions := l.regions.mod r f }

/-- Fields of a descriptor. -/
def dHall (d : Bytes) : Nat := num d 2 2
def dGen (d : Bytes) : Nat := num d 4 2
def dExpander (d : Bytes) : Nat := num d 6 2
def dCtx (d : Bytes) : Nat := num d 8 2
def dNctx (d : Bytes) : Nat := num d 10 1
def dVersion (d : Bytes) : Nat := num d 12 4
def dObject (d : Bytes) : Nat := num d 16 8
def dDkey (d : Bytes) : Handle := BitVec.ofNat 32 (num d 24 4)
def dMkey (d : Bytes) : Handle := BitVec.ofNat 32 (num d 28 4)
def dDbase (d : Bytes) : Nat := num d 32 6
def dTbase (d : Bytes) : Nat := num d 38 6
def dSize (d : Bytes) : Nat := num d 44 4
def dTreebase (d : Bytes) : Nat := num d 48 6

/-- Is a region number one of the vault range? -/
def isVault (r : Nat) : Bool := decide (r < 256)

/-- The bytes of a region. -/
def dBytes (d : Bytes) : Nat := 65536 * dSize d

/-- A region's expander context for a group or node number: bound as TX toward the region's expander (R188, R219). -/
def groupCtx (d : Bytes) (g : Nat) : Nat := dCtx d + g % max 1 (dNctx d)

/-- Is a context bound as a TX and an RX expander context toward the region's expander (R154, R186)? -/
def ctxBound (s : State) (d : Bytes) (i : Nat) : Bool :=
  let t := txOf s i
  let r := rxOf s i
  t.live && t.dst.toNat == dExpander d && r.live && r.expander && r.src.toNat == dExpander d

/-- Are all of a region's contexts bound? -/
def ctxsBound (s : State) (d : Bytes) : Bool := (List.range (dNctx d)).all fun k => ctxBound s d (dCtx d + k)

/-! ### Request blocks (R193) -/

/-- The request block for units of (expander address, granule mask). -/
def requestBlock (id : Nat) (units : List (Nat × Nat)) : Bytes :=
  fit ((units.map fun u => natLe u.1 6 ++ natLe u.2 1 ++ [0#8]).flatten) 56 ++ natLe id 4 ++ natLe units.length 1
    ++ List.replicate 3 0#8

/-- Status of unit `u` in a response block: 0 good, 1 uncorrectable, 2 out of range, another as 1. -/
def rspStatus (p : Bytes) (u : Nat) : Nat := let x := num p (5 + u) 1; if x ≤ 2 then x else 1

/-- Unit `u` of a response. -/
def rspUnit (p : Bytes) (u : Nat) : Bytes := fit (sub p (64 + 64 * u) 64) 64

/-- The identifiers of node requests have bit 31, those of line requests have not (R195, R219). DESIGN CHOICE, assumption 26. -/
def nodeId (n : Nat) : Nat := n % 2 ^ 31 + 2 ^ 31
def lineId (n : Nat) : Nat := n % 2 ^ 31

/-! ### Geometry (R210, R211) -/

/-- Lines of a region. -/
def treeLines (d : Bytes) : Nat := 1024 * dSize d

/-- The number of levels in memory. -/
def treeHeight (d : Bytes) : Nat := (firstFrom (fun h => decide (treeLines d ≤ 16 ^ (h + 1))) 12 0).getD 0

/-- The number of nodes of a level. -/
def levelNodes (d : Bytes) (l : Nat) : Nat := cdiv (treeLines d) (16 ^ (l + 1))

/-- The offset of a level in the tree area. -/
def levelOff (d : Bytes) (l : Nat) : Nat := 128 * (List.range l).foldl (fun n k => n + levelNodes d k) 0

/-- The offset of a node in the tree area, and the size of the area. -/
def nodeOff (d : Bytes) (l j : Nat) : Nat := levelOff d l + 128 * j
def treeBytes (d : Bytes) : Nat := levelOff d (treeHeight d)

/-- The pinned nodes of a region (R215). -/
def pinsOf (d : Bytes) : Nat := let h := treeHeight d; levelNodes d (h - 1) + levelNodes d (h - 2)

/-- Is a level pinned? -/
def pinnedLevel (d : Bytes) (l : Nat) : Bool := decide (treeHeight d ≤ l + 2)

/-! ### Nodes -/

def treeOf (s : State) (r : Nat) : Tree := s.tr.trees.get r
def updTree (r : Nat) (f : Tree → Tree) (s : State) : State := s.updTr fun t => { t with trees := t.trees.mod r f }
def nodeKey (l j : Nat) : Nat := l * 2 ^ 40 + j
def nodeOf (t : Tree) (l j : Nat) : Node := t.nodes.get (nodeKey l j)
def updNode (r l j : Nat) (f : Node → Node) (s : State) : State :=
  updTree r (fun t => { t with nodes := t.nodes.mod (nodeKey l j) f }) s

/-- The counter of node `j` of level `l` in its parent, the root for the topmost level. -/
def parentCtr (d : Bytes) (t : Tree) (l j : Nat) : Nat :=
  if l + 1 = treeHeight d then t.root.get j else (nodeOf t (l + 1) (j / 16)).counters.get (j % 16)

/-- Is a node on chip? A pinned one whose counter is 0 needs no fetch (R214). -/
def nodeHeld (d : Bytes) (t : Tree) (l j : Nat) : Bool :=
  decide (treeHeight d ≤ l) || (nodeOf t l j).held || (pinnedLevel d l && parentCtr d t l j == 0)

/-- A node's bytes without its MAC, and its counters from its bytes (R212). -/
def nodeBytes (c : Tab Nat) : Bytes := natLe ((List.range 16).foldl (fun n k => n + c.get k * 2 ^ (60 * k)) 0) 120
def nodeCounters (b : Bytes) : Tab Nat :=
  let n := num b 0 120
  forAll (List.range 16) (fun k t => t.set k (bits n (60 * k) 60)) []

/-- The node MAC (R213). -/
def nodeMac (key : BitVec 256) (ctr off level : Nat) (b : Bytes) : Bytes :=
  let h := Crypto.aes key 0#128
  let g := Crypto.ghashFrom h (Crypto.ghashFrom h 0#128 (b.take 120)) (natBe 0 8 ++ natBe 960 8)
  let nb := natLe ctr 8 ++ natLe off 6 ++ [3#8] ++ natLe level 1
  (Crypto.unblock (g ^^^ Crypto.aes key (Crypto.block nb))).take 8

/-- NKEY of a region, when the vault serves it: resident, for data-path use, of the region's hall and generation (R75). -/
def nkeyOf (s : State) (r : Nat) : Option (BitVec 256) :=
  let d := (regionOf s r).desc
  match slotOf s.kv (regionOf s r).nkey with
  | some i =>
    let x := s.kv.slots.get i
    if x.dpUse && hHall x.handle == dHall d && x.hgen.toNat == dGen d then some x.key else none
  | none => none

/-- The largest counter (R191, R222). -/
def ctrMax : Nat := 2 ^ 60 - 1

/-! ### Poisoning (R224) -/

/-- Does the path of a line cross a poisoned node? -/
def poisonedPath (t : Tree) (line : Nat) : Bool := t.poison.any fun p => line / 16 ^ (p.1 + 1) == p.2

/-- Is node (l, j) at or under a poisoned node? -/
def poisonedNode (t : Tree) (l j : Nat) : Bool := t.poison.any fun p => decide (l ≤ p.1) && j / 16 ^ (p.1 - l) == p.2

/-- Detail word of a fault of the tree (R237). -/
def treeDetail (r l cause : Nat) : Nat := r * 2 ^ 16 + l * 2 ^ 8 + cause

/-- The region and its tree become TAINTED; an erase that is on its way goes on (R238). -/
def taint (r : Nat) (s : State) : State :=
  if (regionOf s r).state = .erasing then s
  else updTree r (fun t => { t with state := .tainted }) (updRegion r (fun x => { x with state := .tainted }) s)

/-- A node fails: its subtree is poisoned, in one step. -/
def failNode (r l j cause : Nat) (injected : Bool) (s : State) : State :=
  let d := (regionOf s r).desc
  let under (k : Nat) : Bool := decide (k / 2 ^ 40 ≤ l) && k % 2 ^ 40 / 16 ^ (l - k / 2 ^ 40) == j
  let full := decide (64 ≤ (treeOf s r).poison.length)
  let s := updTree r (fun t => { t with
    nodes := t.nodes.filter fun e => pinnedLevel d (e.1 / 2 ^ 40) || !under e.1
    poison := if full then [(treeHeight d, 0)] else t.poison ++ [(l, j)]
    failed := true }) s
  let s := s.updTr fun t => { t with
    lru := t.lru.filter (fun e => e.1 != r || !under (nodeKey e.2.1 e.2.2))
    fetched := t.fetched.filter (fun f => f.region != r || !under (nodeKey f.level f.index)) }
  let s := if full then s.trEvent 2 else s
  let s := taint r s
  let s := if cause = 0 then s.trCount 5 else s
  (sendFault Src.tree (mkFault Kind.treeNode (dHall d) (nodeOff d l j) (treeDetail r l cause) injected) s).trEvent 0

/-! ### The node cache (R216) -/

/-- The set of a cached node. -/
def nodeSet (r l j : Nat) : Nat := (j + 97 * l + 331 * r) % 2048

/-- The lines that wait for their counters: those of the row's requesters and of the line pipes. -/
def treeWants (s : State) : List (Nat × Nat) :=
  s.tr.waits.map (fun w => (w.1, w.2.1))
    ++ (s.ln.inflight.filter fun q => q.phase == 0 && isVault q.acc.region).map fun q => (q.acc.region, q.line)

/-- May a cached node be a victim? -/
def mayEvict (s : State) (e : Nat × Nat × Nat) : Bool :=
  let t := treeOf s e.1
  !(t.nodes.any fun n => n.1 / 2 ^ 40 + 1 == e.2.1 && n.1 % 2 ^ 40 / 16 == e.2.2 && (n.2.held || n.2.inFlight))
    && !(treeWants s).any fun w => w.1 == e.1 && w.2 / 16 ^ (e.2.1 + 1) == e.2.2

/-- A node stands last in the order of use: a leaf with each operation, a node above with each counter of it that is used. -/
def touchNode (r l j : Nat) (s : State) : State :=
  s.updTr fun t => { t with lru := if t.lru.contains (r, l, j) then t.lru.filter (· != (r, l, j)) ++ [(r, l, j)] else t.lru }

/-- A request leaves in a frame of the context for a group or node number; the frame's end comes back to `o`. -/
def toExpander (d : Bytes) (g : Nat) (type : Byte) (payload : Bytes) (hall : Nat) (o : Owner) (s : State) : State :=
  txPush (groupCtx d g) [{ plainChunk type payload with owner := o, hall := hall }] s

/-- The LINE_WR of a node's snapshot with its MAC. -/
def sendNode (q : NodeReq) (s : State) : State :=
  match q.nodes with
  | (l, j) :: _ =>
    let d := (regionOf s q.region).desc
    let a := dTreebase d + nodeOff d l j
    toExpander d (j + l) tLineWr (requestBlock q.id [(a, 255), (a + 64, 255)] ++ (q.snaps.headD [])) noHall (.node q.id) s
  | [] => s

/-- Room in the node table. -/
def nodeTableFree (s : State) : Bool := decide (s.tr.requests.length < 512)

/-- An uncorrectable error in a held copy, as an armed injection of TREE_NODE makes it: that of a topmost node's write-back is in
its counter's word of the root table, any other in the node (R224). DESIGN CHOICE, assumption 175. -/
def eccFails (r l j : Nat) (s : State) : State :=
  let s := injFired s
  if l + 1 = treeHeight (regionOf s r).desc then failNode r (l + 1) 0 2 true s else failNode r l j 2 true s

/-- A node's counter in its parent is at its limit (R222): the region is TAINTED, and the node is not written back. -/
def nodeLimit (natural : Bool) (r l j : Nat) (s : State) : State :=
  let d := (regionOf s r).desc
  let s := updNode r l j (fun n => { n with stuck := n.stuck || natural }) s
  let s := updTree r (fun t => { t with failed := true }) (taint r s)
  (reportFault natural Src.tree Kind.treeCtrLimit (dHall d) (nodeOff d l j) (treeDetail r l 0) s).trEvent 5

/-- Write-back of a node (R221): nothing happens while the node table is full, its keys or context are gone, or one of it is in
flight; a counter at its limit taints the region (R222). -/
def writeBack (r l j : Nat) (s : State) : State :=
  let d := (regionOf s r).desc
  let t := treeOf s r
  let n := nodeOf t l j
  let c := parentCtr d t l j
  match nkeyOf s r with
  | none => s
  | some key =>
    if n.inFlight || n.stuck || !nodeTableFree s || !ctxBound s d (groupCtx d (j + l)) then s
    else if injected Src.tree Kind.treeNode s then eccFails r l j s
    else if checkFails (decide (ctrMax ≤ c)) Src.tree Kind.treeCtrLimit s then nodeLimit (decide (ctrMax ≤ c)) r l j s
    else
      let s := if l + 1 = treeHeight d then updTree r (fun t => { t with root := t.root.set j (c + 1) }) s
        else touchNode r (l + 1) (j / 16) (updNode r (l + 1) (j / 16) (fun p => { p with
          held := true, counters := p.counters.set (j % 16) (c + 1), dirty := true, changed := true }) s)
      let s := updNode r l j (fun n => { n with dirty := false, inFlight := true, changed := false }) s
      let b := nodeBytes n.counters
      let q : NodeReq :=
        { id := nodeId s.tr.nextReq, region := r, nodes := [(l, j)], fetch := false
          snaps := [b ++ nodeMac key (c + 1) (nodeOff d l j) l b], again := false }
      sendNode q (s.updTr fun t => { t with requests := t.requests ++ [q], nextReq := t.nextReq + 1 })

/-- A way for a node in its set: free at once, freed by the eviction of the least recently used eligible node when that is
clean; a dirty one is written back first and the fetch stalls. -/
def takeWay (r l j : Nat) (s : State) : Bool × State :=
  let x := nodeSet r l j
  let inSet := s.tr.lru.filter fun e => nodeSet e.1 e.2.1 e.2.2 == x
  if inSet.length < 12 then (true, s)
  else match inSet.find? (mayEvict s) with
    | none => (false, s)
    | some v =>
      let n := nodeOf (treeOf s v.1) v.2.1 v.2.2
      if n.inFlight then (false, s)
      else if n.dirty then (false, writeBack v.1 v.2.1 v.2.2 s)
      else
        let s := updTree v.1 (fun t => { t with nodes := t.nodes.set (nodeKey v.2.1 v.2.2) default }) s
        (true, s.updTr fun t => { t with lru := t.lru.filter (· != v) })

/-- A verified or all-zero node comes on chip; its parent has been used for it. -/
def installNode (r l j : Nat) (c : Tab Nat) (s : State) : Bool × State :=
  let d := (regionOf s r).desc
  let s' := updNode r l j (fun _ => { (default : Node) with held := true, counters := c })
  if pinnedLevel d l then (true, s' s)
  else match takeWay r l j s with
    | (false, s) => (false, s)
    | (true, s) => (true, touchNode r (l + 1) (j / 16) ((s' s).updTr fun t => { t with lru := t.lru ++ [(r, l, j)] }))

/-! ### Fetches (R218, R219) -/

/-- Nodes in the fetch staging buffer: on their way and arrived. -/
def staged (s : State) : List (Nat × Nat × Nat) :=
  s.tr.fetched.map (fun f => (f.region, f.level, f.index))
    ++ ((s.tr.requests.filter (·.fetch)).map fun q => q.nodes.map fun n => (q.region, n.1, n.2)).flatten

/-- Nodes grouped by the context of their frames, at most three in each. -/
def nodeGroups (d : Bytes) (l : List (Nat × Nat)) : List (List (Nat × Nat)) :=
  let ctxs := (l.map fun n => groupCtx d (n.2 + n.1)).eraseDups
  (ctxs.map fun c =>
    let mine := l.filter fun n => groupCtx d (n.2 + n.1) == c
    [mine.take 3, (mine.drop 3).take 3, (mine.drop 6).take 3].filter fun x => !x.isEmpty).flatten

/-- The LINE_RD frame of a group of nodes. -/
def fetchGroup (r : Nat) (g : List (Nat × Nat)) (s : State) : State :=
  let d := (regionOf s r).desc
  if !nodeTableFree s then s
  else
    let q : NodeReq := { id := nodeId s.tr.nextReq, region := r, nodes := g, fetch := true, snaps := [], again := false }
    let units := (g.map fun n =>
      let a := dTreebase d + nodeOff d n.1 n.2
      [(a, 0), (a + 64, 0)]).flatten
    let k := match g with | n :: _ => n.2 + n.1 | [] => 0
    let s := s.updTr fun t => { t with requests := t.requests ++ [q], nextReq := t.nextReq + 1 }
    toExpander d k tLineRd (requestBlock q.id units) noHall (.node q.id) s

/-- Fetch of those nodes of a list that are neither on chip nor on their way; a full staging buffer stalls it. -/
def fetchNodes (r : Nat) (l : List (Nat × Nat)) (s : State) : State :=
  let d := (regionOf s r).desc
  let st := staged s
  let want := l.filter fun n => !st.contains (r, n.1, n.2)
  if want.isEmpty ∨ 64 < st.length + want.length ∨ !ctxsBound s d then s
  else forAll (nodeGroups d want) (fetchGroup r) s

/-- The path of a line from the topmost level down. -/
def pathOf (d : Bytes) (line : Nat) : List (Nat × Nat) :=
  (List.range (treeHeight d)).reverse.map fun l => (l, line / 16 ^ (l + 1))

/-- Brings the path of a line on chip as far as it can be: nodes whose counter is 0 enter as they are (R214), the rest is
fetched in parallel. The flag says whether the leaf is there. -/
def bringPath (r : Nat) : List (Nat × Nat) → State → Bool × State
  | [], s => (true, s)
  | (l, j) :: rest, s =>
    let d := (regionOf s r).desc
    let t := treeOf s r
    if nodeHeld d t l j then bringPath r rest s
    else if parentCtr d t l j = 0 then
      match installNode r l j [] s with
      | (true, s) => bringPath r rest s
      | (false, s) => (false, s)
    else (false, fetchNodes r ((l, j) :: rest.filter fun n => !nodeHeld d t n.1 n.2) s)

/-- Verification of one fetched node against its parent's counter, once the parent is on chip. -/
def verifyNode (f : Fetched) (s : State) : State :=
  let r := f.region
  let d := (regionOf s r).desc
  let t := treeOf s r
  let gone (s : State) : State := s.updTr fun t => { t with fetched := t.fetched.filter (· != f) }
  let parentOn := nodeHeld d t (f.level + 1) (f.index / 16)
  if t.state = .none ∨ poisonedNode t f.level f.index || nodeHeld d t f.level f.index then gone s
  else if !parentOn then s
  else
    let c := parentCtr d t f.level f.index
    match nkeyOf s r with
    | none => gone s
    | some key =>
      if c = 0 then gone s
      else if f.bad then failNode r f.level f.index 1 false (gone s)
      else
        let armed := s.tr.inject == some (r, f.level)
        let natural := !(sub f.bytes 120 8 == nodeMac key c (nodeOff d f.level f.index) f.level f.bytes)
        let byFcu := injected Src.tree Kind.treeNode s
        if natural then failNode r f.level f.index 0 false (gone s)
        else if armed then failNode r f.level f.index 0 true ((gone s).updTr fun t => { t with inject := none })
        else if byFcu then failNode r f.level f.index 0 true (injFired (gone s))
        else match installNode r f.level f.index (nodeCounters f.bytes) s with
          | (true, s) => gone s
          | (false, s) => s

/-- Verification of every fetched node that can be, top-down. -/
def verifyFetched (s : State) : State :=
  forAll ((List.range 9).reverse) (fun l s => forAll (s.tr.fetched.filter fun f => f.level == l) verifyNode s) s

/-! ### Counter access (R217, R218, R220) -/

/-- What the tree unit answers to a counter operation. -/
inductive Ctr where
  | value (n : Nat)
  | poisoned
  /-- The path is being fetched. -/
  | waits
  /-- The counter would pass 2^60 - 1 (R191). -/
  | limit
  /-- NKEY is not resident (R225). -/
  | refused (st : Status)
deriving DecidableEq, Repr, Inhabited

/-- A counter operation of a line pipe: a read, or an increment; `again` says that it has been counted, as a hit or a miss, when
it was accepted (R231). -/
def counterOp (r line : Nat) (inc again : Bool) (s : State) : Ctr × State :=
  let d := (regionOf s r).desc
  if (nkeyOf s r).isNone then (.refused Status.permission, s)
  else if injected Src.tree Kind.treeUnit s then 
    (.waits, reportFault false Src.tree Kind.treeUnit (dHall d) (nodeOff d 0 (line / 16)) (treeDetail r 0 0) s)
  else
    let s := if injected Src.tree Kind.treeEcc s then
        ((reportFault false Src.tree Kind.treeEcc (dHall d) (nodeOff d 0 (line / 16)) (treeDetail r 0 2) s).trEvent 1).trCount 7 else s
    let was := nodeHeld d (treeOf s r) 0 (line / 16)
    let s := if was && injected Src.tree Kind.treeNode s then failNode r 0 (line / 16) 2 true (injFired s) else s
    if poisonedPath (treeOf s r) line then (.poisoned, s.trCount 6)
    else
      let s := if again then s else s.trCount (if was then 0 else 1)
      let (there, s') := bringPath r (pathOf d line) s
      if !there then (.waits, s')
      else
        let s' := touchNode r 0 (line / 16) s'
        let c := (nodeOf (treeOf s' r) 0 (line / 16)).counters.get (line % 16)
        if !inc then (.value c, s')
        else if ctrMax ≤ c then (.limit, s')
        else
          let s' := updNode r 0 (line / 16) (fun n => { n with
            held := true, counters := n.counters.set (line % 16) (c + 1), dirty := true, changed := true }) s'
          (.value (c + 1), s'.trCount 2)

/-- The answer of a counter operation asked for at the tree unit's own port. -/
def ctrAnswer (line : Nat) (c : Ctr) (s : State) : State :=
  match c with
  | .value n => s.emit (.status (.port Src.tree line) Status.ok (natLe n 8))
  | .poisoned => s.emit (.status (.port Src.tree line) Status.poisoned [])
  | .limit => s.emit (.status (.port Src.tree line) Status.keyExhausted [])
  | .refused st => s.emit (.status (.port Src.tree line) st [])
  | .waits => s

/-- A region whose tree serves requests: a vault region that is ACTIVE or TAINTED. -/
def treeServes (s : State) (r : Nat) : Bool :=
  s.conf.tree && isVault r && (let t := (treeOf s r).state; t == .active || t == .tainted)

/-- TREE_COUNTER_READ and TREE_COUNTER_INCREMENT (R217): one operation, which waits while its path is fetched; `again` for one
that has been accepted, which a save lets end (R228). -/
def counterRowOp (r line : Nat) (inc again : Bool) (s : State) : State :=
  let st := (treeOf s r).state
  if s.conf.tree && isVault r && !again && (st == .saving || st == .erasing) then
    s.emit (.status (.port Src.tree line) Status.retryLater [])
  else if !(treeServes s r || (again && st == .saving)) || decide (treeLines (regionOf s r).desc ≤ line) then
    s.emit (.status (.port Src.tree line) Status.permission [])
  else if inc && (treeOf s r).state == .tainted then s.emit (.status (.port Src.tree line) Status.integrityTainted [])
  else match counterOp r line inc again s with
    | (.waits, s) => s.updTr fun t => { t with waits := t.waits ++ [(r, line, inc)] }
    | (c, s) => ctrAnswer line c s

def execTreeCounterRead (region line : Nat) (s : State) : Answer := goOn (counterRowOp region line false false s)
def execTreeCounterIncrement (region line : Nat) (s : State) : Answer := goOn (counterRowOp region line true false s)

/-! ### Responses (R218, R221, R222) -/

/-- A response that answers nothing outstanding (R195). -/
def lineStray (natural : Bool) (pipe : Nat) (s : State) : State :=
  ((reportFault natural (Src.lineUnseal pipe) Kind.lineStray noHall 0 0 s).lnCount (8 * (8 + pipe) + 4)).lnEvent 4

/-- The end of a write-back. -/
def writeBackDone (q : NodeReq) (good : Bool) (s : State) : State :=
  match q.nodes with
  | [] => s
  | (l, j) :: _ =>
    let mine := (nodeOf (treeOf s q.region) l j).inFlight
    let drop (s : State) : State := s.updTr fun t => { t with requests := t.requests.filter (·.id != q.id) }
    if good then
      let s := (drop s).trCount 4
      if mine then updNode q.region l j (fun n => { n with inFlight := false, dirty := n.dirty || n.changed, changed := false }) s
      else s
    else if q.again then
      let s := updNode q.region l j (fun n => { n with inFlight := false }) (drop s)
      if mine then failNode q.region l j 3 false s else s
    else
      let q' := { q with again := true }
      sendNode q' (s.updTr fun t => { t with requests := t.requests.map fun x => if x.id = q.id then q' else x })

/-- The nodes that a fetch brought wait for their parents: one with a bad unit fails then, unless its counter is 0 and nothing of
it is looked at (R214). -/
def fetchDone (q : NodeReq) (p : Bytes) (s : State) : State :=
  let s := s.updTr fun t => { t with requests := t.requests.filter (·.id != q.id) }
  let each := (List.range q.nodes.length).zip q.nodes
  forAll each (fun e s =>
    let (l, j) := e.2
    let bad := rspStatus p (2 * e.1) != 0 || rspStatus p (2 * e.1 + 1) != 0
    let s := s.trCount 3
    if (treeOf s q.region).state = .none ∨ poisonedNode (treeOf s q.region) l j then s
    else s.updTr fun t => { t with fetched := t.fetched ++
      [{ region := q.region, level := l, index := j, bytes := rspUnit p (2 * e.1) ++ rspUnit p (2 * e.1 + 1), bad := bad }] }) s

/-- A LINE_RSP of the node table. -/
def nodeRspOp (p : Bytes) (s : State) : State :=
  match s.tr.requests.find? (fun q => q.id == num p 0 4) with
  | none => lineStray true 0 s
  | some q =>
    if num p 4 1 ≠ 2 * q.nodes.length then lineStray true 0 s
    else if q.fetch then verifyFetched (fetchDone q p s)
    else writeBackDone q (rspStatus p 0 == 0 && rspStatus p 1 == 0) s

/-- A node frame that ended without being sent: a write-back's node is dirty again, a fetch is forgotten. -/
def nodeUnsent (id : Nat) (s : State) : State :=
  match s.tr.requests.find? (·.id == id) with
  | none => s
  | some q =>
    let s := s.updTr fun t => { t with requests := t.requests.filter (·.id != id) }
    if q.fetch then s
    else forAll q.nodes (fun n s => updNode q.region n.1 n.2 (fun x =>
      if x.inFlight then { x with inFlight := false, dirty := true } else x) s) s

/-! ### Save, load and flush (R228-R230) -/

/-- The device storage key of the current life-cycle state (R67). -/
def storageKey (s : State) : BitVec 256 :=
  Crypto.deriveHmac s.l0 (mkLabel 0x0010 0 0 0 0 0 0 0 0 0) [BitVec.ofNat 8 (s.lcState + 1)]

/-- A root blob of a region (R229). -/
def rootBlob (s : State) (r : Nat) (serial : DWord) : Bytes :=
  let d := (regionOf s r).desc
  let b := natLe 0x7201 2 ++ natLe 240 2 ++ natLe r 2 ++ sub d 2 4 ++ natLe 0 2 ++ sub d 12 4 ++ sub d 16 8 ++ sub d 44 4
    ++ sub d 48 6 ++ natLe 0 2 ++ natLe serial.toNat 8 ++ natLe s.deviceId 8 ++ List.replicate 12 0#8
    ++ nodeBytes (treeOf s r).root ++ List.replicate 8 0#8
  b ++ Crypto.digestBytes (Crypto.hmac (Crypto.keyBytes (storageKey s)) b)

/-- TR_BLOB as bytes, and a blob as TR_BLOB. -/
def blobBytes (t : Tr) : Bytes := ((List.range 60).map fun i => natLe (t.blob.get i).toNat 4).flatten
def blobWords (b : Bytes) : Tab Word := forAll (List.range 60) (fun i t => t.set i (BitVec.ofNat 32 (num b (4 * i) 4))) []

/-- Dirty nodes of a level, or of every level, of a region. -/
def dirtyAt (t : Tree) (l : Nat) : List Nat := t.nodes.filterMap fun e => if e.2.dirty && e.1 / 2 ^ 40 == l then some (e.1 % 2 ^ 40) else none
def dirtyCount (t : Tree) : Nat := (t.nodes.filter fun e => e.2.dirty).length

/-- Is a node of the level, or any of the region, in flight? -/
def flightAt (t : Tree) (l : Nat) : Bool := t.nodes.any fun e => e.2.inFlight && e.1 / 2 ^ 40 == l
def flightAny (t : Tree) : Bool := t.nodes.any fun e => e.2.inFlight

/-- Requests of a region accepted and not done (R27). -/
def acceptedLines (s : State) (r : Nat) : Bool := s.ln.inflight.any fun q => q.acc.region == r

/-- The end of a TR_CMD. -/
def trFinish (op : Nat) (st : Status) (s : State) : State :=
  s.updTr fun t => { t with go := false, op := BitVec.ofNat 4 op, result := st }

/-- The tree of a region is forgotten: root, nodes, poison list, staged root. -/
def dropTree (r : Nat) (s : State) : State :=
  s.updTr fun t => { t with
    trees := t.trees.set r default
    lru := t.lru.filter (·.1 != r)
    fetched := t.fetched.filter (·.region != r)
    requests := t.requests.filter (·.region != r) }

/-- The end of a save or a flush at its last level. -/
def saveEnd (r : Nat) (s : State) : State :=
  let t := treeOf s r
  let s := (updTree r (fun t => { t with busy := false, level := none, failed := false }) s).updTr fun t => { t with flushing := false }
  if t.flush then trFinish 4 (if t.failed then Status.integrityTainted else Status.ok) s
  else if t.failed ∨ (regionOf s r).state = .tainted then trFinish 1 Status.integrityTainted s
  else
    let s := s.updTr fun x => { x with blob := blobWords (rootBlob s r x.serial) }
    let s := if t.keep then updTree r (fun t => { t with state := .active }) s
      else updRegion r (fun _ => default) (dropTree r s)
    (trFinish 1 Status.ok s).trEvent 3

/-- The work of a save or a flush at its present level: its dirty nodes outside every poisoned subtree are written back, and with
none left and none in flight the next level begins. -/
def saveStep (r : Nat) : Nat → State → State
  | 0, s => s
  | fuel + 1, s =>
    let d := (regionOf s r).desc
    let t := treeOf s r
    match t.level with
    | none => s
    | some l =>
      if !t.busy || (!t.flush && (acceptedLines s r || s.tr.waits.any fun w => w.1 == r)) then s
      else if !t.flush && t.state == .tainted then saveEnd r s
      else if treeHeight d ≤ l then saveEnd r s
      else
        let able (t : Tree) : List Nat := (dirtyAt t l).filter fun j => !(nodeOf t l j).stuck && !poisonedNode t l j
        let s := forAll (able t) (fun j s => writeBack r l j s) s
        let t := treeOf s r
        if (able t).isEmpty && !flightAt t l then saveStep r fuel (updTree r (fun t => { t with level := some (l + 1) }) s) else s

/-- The work that a change of the tree unit lets go on: verifications, waiting counter operations, saves and flushes. -/
def treeKick (s : State) : State :=
  let s := verifyFetched s
  let w := s.tr.waits
  let s := s.updTr fun t => { t with waits := [] }
  let s := forAll w (fun x s => counterRowOp x.1 x.2.1 x.2.2 true s) s
  forAll (s.tr.trees.filterMap fun e => if e.2.busy then some e.1 else none) (fun r s => saveStep r 12 s) s

/-- ROOT_SAVE and FLUSH begin, for a region whose install has ended. -/
def trStart (r : Nat) (keep flush : Bool) (s : State) : State :=
  let op := if flush then 4 else 1
  let t := treeOf s r
  let x := (regionOf s r).state
  let ok := (t.state == .active && x == .active) || (flush && t.state == .tainted && x == .tainted)
  if !s.conf.tree || !ok || t.busy then trFinish op Status.permission s
  else
    let s := updTree r (fun t => { t with
      state := if flush then t.state else .saving, busy := true, level := some 0, failed := false, keep := keep, flush := flush }) s
    let s := s.updTr fun t => { t with go := true, op := BitVec.ofNat 4 op, flushing := true }
    treeKick s

/-- ROOT_LOAD (R230). -/
def rootLoadOp (r : Nat) (s : State) : Status × State :=
  let b := blobBytes s.tr
  let macOk := s.lcState != scrap
    && sub b 192 48 == Crypto.digestBytes (Crypto.hmac (Crypto.keyBytes (storageKey s)) (b.take 192))
  let formOk := num b 0 2 == 0x7201 && num b 2 2 == 240 && num b 10 2 == 0 && num b 34 2 == 0 && allZero (sub b 52 12)
    && allZero (sub b 184 8) && num b 44 8 == s.deviceId && num b 4 2 == r && num b 36 8 == s.tr.serial.toNat
  if !s.conf.tree then (Status.permission, s)
  else if !macOk then (Status.authFail, s.trEvent 4)
  else if !formOk || (regionOf s r).state != .free then (Status.permission, s.trEvent 4)
  else (Status.ok, updRegion r (fun x => { x with fromImage := false })
    (updTree r (fun t => { t with state := .staged, staged := b }) s))

/-- ROOT_DROP. -/
def rootDropOp (r : Nat) (s : State) : Status × State :=
  if (treeOf s r).state = .staged then (Status.ok, updRegion r (fun x => { x with fromImage := false }) (dropTree r s))
  else (Status.permission, s)

/-- TR_QINFO (R234). -/
def tstateCode : TState → Nat
  | .none => 0
  | .active => 1
  | .saving => 2
  | .erasing => 3
  | .tainted => 4
  | .staged => 5

def trInfo (s : State) (r : Nat) : Nat :=
  let t := treeOf s r
  let h := if (regionOf s r).desc.isEmpty then 0 else treeHeight (regionOf s r).desc
  put 29 (tstateCode t.state) + put 25 h + put 15 t.poison.length + dirtyCount t % 2 ^ 15

/-- TR_OCC (R235). -/
def pinsUsed (s : State) : Nat :=
  s.tr.trees.foldl (fun n e => if e.2.state == .none || e.2.state == .staged then n else n + pinsOf (regionOf s e.1).desc) 0
def trOcc (s : State) : Nat := put 16 (pinsUsed s) + s.tr.lru.length % 2 ^ 15

/-- One TR_CMD. A GO while another runs starts nothing (R18). -/
def trCommand (op r : Nat) (keep : Bool) (level : Nat) (s : State) : State :=
  if s.tr.go then s
  else
    let s := s.updTr fun t => { t with keep := keep, index := BitVec.ofNat 8 r, level := BitVec.ofNat 4 level }
    match op with
    | 1 => trStart r keep false s
    | 2 => let x := rootLoadOp r s; trFinish 2 x.1 x.2
    | 3 => let x := rootDropOp r s; trFinish 3 x.1 x.2
    | 4 => trStart r keep true s
    | 5 => trFinish 5 Status.ok (s.updTr fun t => { t with qinfo := BitVec.ofNat 32 (trInfo s r) })
    | 6 => if s.injectionAllowed && s.conf.tree then trFinish 6 Status.ok (s.updTr fun t => { t with inject := some (r, level) })
      else trFinish 6 Status.permission s
    | _ => trFinish s.tr.op.toNat Status.permission s

/-- TR_CMD.KEEP and LEVEL as they stand, for the rows that do not name them. -/
def execTrRootSave (index : Byte) (keep : Bool) (s : State) : Answer :=
  goOn (trCommand 1 index.toNat keep s.tr.level.toNat s)
def execTrRootLoad (index : Byte) (s : State) : Answer := goOn (trCommand 2 index.toNat s.tr.keep s.tr.level.toNat s)
def execTrRootDrop (index : Byte) (s : State) : Answer := goOn (trCommand 3 index.toNat s.tr.keep s.tr.level.toNat s)
def execTrFlush (index : Byte) (s : State) : Answer := goOn (trCommand 4 index.toNat s.tr.keep s.tr.level.toNat s)
def execTrQuery (index : Byte) (s : State) : Answer := goOn (trCommand 5 index.toNat s.tr.keep s.tr.level.toNat s)
def execTrInject (index : Byte) (level : BitVec 4) (s : State) : Answer :=
  goOn (trCommand 6 index.toNat s.tr.keep level.toNat s)

end Sys2Proof.Machine
end

