-- ==== Sys2Proof/Machine/Line.lean ====
section
/-! DEFINITION. Pooled memory: regions and their commands, line requests from their checks to their completion, line encryption
and MACs (07_line_sealing.md R182-R209; 14_admission_radio.md R377; 15_faults.md R406; 18_power_clocks_boot.md R478). -/

namespace Sys2Proof.Machine

-- One declaration at a time, so that the elaborator holds few threads (each takes stack of its own).
set_option Elab.async false

/-! ### Line encryption and MAC (R189, R190) -/

/-- A counter block: CTR, region offset, kind byte. -/
def lineBlock (ctr off : Nat) (kind : Byte) : BitVec 128 := Crypto.block (natLe ctr 8 ++ natLe off 6 ++ [kind, 0#8])

/-- Encryption and decryption of a line at a region offset. -/
def lineCrypt (dkey : BitVec 256) (ctr off : Nat) (b : Bytes) : Bytes :=
  Crypto.xorBytes (fit b 64)
    (((List.range 4).map fun j => Crypto.unblock (Crypto.aes dkey (lineBlock ctr (off + 16 * j) 1#8))).flatten)

/-- The 8-byte MAC of a line's ciphertext. -/
def lineMacOf (mkey : BitVec 256) (ctr off : Nat) (c : Bytes) : Bytes :=
  let h := Crypto.aes mkey 0#128
  let g := Crypto.ghashFrom h (Crypto.ghashFrom h 0#128 c) (natBe 0 8 ++ natBe 512 8)
  (Crypto.unblock (g ^^^ Crypto.aes mkey (lineBlock ctr off 2#8))).take 8

/-! ### Pipes (R188, R406) -/

/-- Does a slice serve: not in T2, not retired? -/
def sliceServes (s : State) (k : Nat) : Bool := !(s.fcu.inT2.toNat.testBit k) && !(s.fcu.retired.toNat.testBit k)

/-- The line pipe of a tag group, away from a slice that does not serve. -/
def linePipe (s : State) (r g : Nat) : Nat :=
  let c := s.conf
  let p := (g + r) % c.linePipes
  let at' (j : Nat) : Nat := (p + j * c.linePerPart) % c.linePipes
  match firstFrom (fun j => sliceServes s (at' j / c.linePerPart)) c.linePipes 0 with
  | some j => at' j
  | none => p

/-- Counters of a seal pipe and of an unseal pipe (R203). -/
def sealCount (p n : Nat) (s : State) : State := s.lnCount (8 * p + n)
def unsealCount (p n : Nat) (s : State) : State := s.lnCount (8 * (8 + p) + n)

/-! ### Keys of a region (R185) -/

/-- The label of a region's data key or MAC key. -/
def regionLabel (s : State) (r : Nat) (mac : Bool) : Bytes :=
  let d := (regionOf s r).desc
  let birth := match (hallOf s (dHall d)).birth with | some b => b.toNat | none => 0
  let (purpose, cls) := if isVault r then (if mac then (0x0050, 5) else (0x0042, 4)) else (if mac then (0x0041, 4) else (0x0040, 4))
  mkLabel purpose (dHall d) (dGen d) 0 0 birth (dObject d) (dVersion d) 0 cls

/-- The lookup of a line pipe for one of a region's keys. The MAC key stands in a register of its own. -/
def lineLookup (s : State) (unit r : Nat) (mac seal' : Bool) (ticket : Nat) : Lookup :=
  let d := (regionOf s r).desc
  { unit := if mac then unit + 0x1000 else unit
    handle := if mac then dMkey d else dDkey d
    hall := dHall d, hgen := BitVec.ofNat 16 (dGen d), sealing := seal', parent := (hallOf s (dHall d)).hallKey
    label := regionLabel s r mac, ticket := ticket }

/-- What the pipe's two lookups come to. -/
inductive LineKeys where
  | both (dkey mkey : BitVec 256)
  | waits
  | stale
  | fail (st : Status)
deriving DecidableEq, Repr

/-- Both keys of a line at a pipe. -/
def lineKeys (unit r : Nat) (seal' : Bool) (ticket : Nat) (s : State) : LineKeys × State :=
  let d := (regionOf s r).desc
  let bad (a : KeyAnswer) (s : State) : LineKeys × State :=
    match a with
    | .waits => (.waits, s)
    | .exhausted => (.fail Status.keyExhausted, s)
    | .staleHall => (.stale, hallStale (dHall d) s)
    | _ => (.fail Status.permission, raiseFault unit Kind.keyMiss (dHall d) 0 0 s)
  if injected unit Kind.keyMiss s then (.fail Status.permission, reportFault false unit Kind.keyMiss (dHall d) 0 0 s)
  else match keyFor (lineLookup s unit r false seal' ticket) s with
  | (.hit dk, s) =>
    match keyFor (lineLookup s unit r true seal' ticket) s with
    | (.hit mk, s) => (.both dk mk, s)
    | (a, s) => bad a s
  | (a, s) => bad a s

/-! ### Requests -/

/-- An in-flight request. -/
def lineReq (s : State) (id : Nat) : Option LineReq := s.ln.inflight.find? (·.id == id)

/-- Change of a request, and its end in the table. -/
def updLine (id : Nat) (f : LineReq → LineReq) (s : State) : State :=
  s.updLn fun l => { l with inflight := l.inflight.map fun q => if q.id = id then f q else q }
def dropLine (id : Nat) (s : State) : State := s.updLn fun l => { l with inflight := l.inflight.filter (·.id != id) }

def isWrite (o : LineOp) : Bool := o == .write || o == .partialWrite

/-- The tag group of a line. -/
def tagGroup (line : Nat) : Nat := line / 8

/-- A request ends: its answer, unless a generation has gone by (R28 order 2, R430). -/
def lineEnd (q : LineReq) (st : Status) (data : Bytes) (s : State) : List Ans × State :=
  let s := dropLine q.id s
  if !genOk s q.acc.hall q.acc.hgen.toNat then ([], hallStale q.acc.hall s)
  else if q.gen ≠ ugen s (ownerUnit s q.owner) then ([], staleReply (ownerUnit s q.owner) s)
  else ([{ owner := q.owner, unit := q.unit, status := st, data := data }], s)

/-- Detail word of a line fault (R208). -/
def lineDetail (r low : Nat) : Nat := r * 2 ^ 16 + low

/-- A line fault of a request. -/
def lineFault (natural : Bool) (src kind : Nat) (q : LineReq) (low : Nat) (s : State) : State :=
  reportFault natural src kind q.acc.hall q.acc.offset (lineDetail q.acc.region low) s

/-- A partial write whose read gave something else than a line is refused (R197). -/
def partialRefusedBy (natural : Bool) (q : LineReq) (st : Status) (s : State) : List Ans × State :=
  let s := lineFault natural (Src.lineSeal q.pipe) Kind.linePartial q st.toNat s
  lineEnd q Status.partialWriteRefused [] ((sealCount q.pipe 2 s).lnEvent 2)

/-- By a check that failed of itself. -/
def partialRefused (q : LineReq) (st : Status) (s : State) : List Ans × State := partialRefusedBy true q st s

/-- A write that the region's state or cursor refuses. -/
def writeRefused (q : LineReq) (st : Status) (s : State) : List Ans × State :=
  lineEnd q st [] (sealCount q.pipe 5 s)

/-- The plaintext of a read, or a zero line with its status. -/
def readEnd (q : LineReq) (st : Status) (data : Bytes) (s : State) : List Ans × State :=
  if q.op = .partialWrite then partialRefused q st s else lineEnd q st data s

/-- The frame of a write: sealed line and tag (R194, R196). -/
def sendWrite (q : LineReq) (ctr : Nat) (dk mk : BitVec 256) (s : State) : State :=
  let d := (regionOf s q.acc.region).desc
  let off := 64 * q.line
  let g := tagGroup q.line
  let c := lineCrypt dk ctr off q.data
  let tag := lineMacOf mk ctr off c
  let k := q.line % 8
  let units := [(dDbase d + off, 255), (dTbase d + 64 * g, 2 ^ k)]
  let s := charge q.acc.hall .line 64 s
  let s := sealCount q.pipe 4 (sealCount q.pipe 0 s)
  let s := if q.be ≠ ~~~0#64 then sealCount q.pipe 1 s else s
  let s := updLine q.id (fun x => { x with phase := 2, ctr := ctr }) s
  toExpander d g tLineWr (requestBlock q.id units ++ c ++ fit (List.replicate (8 * k) 0#8 ++ tag) 64) q.acc.hall (.line q.id) s

/-- The frame of a read (R194, R198). -/
def sendRead (q : LineReq) (ctr : Nat) (s : State) : State :=
  let d := (regionOf s q.acc.region).desc
  let g := tagGroup q.line
  let s := unsealCount q.pipe 6 (updLine q.id (fun x => { x with phase := 1, ctr := ctr }) s)
  toExpander d g tLineRd (requestBlock q.id [(dDbase d + 64 * q.line, 0), (dTbase d + 64 * g, 0)]) q.acc.hall (.line q.id) s

/-- Does an earlier request of the same line stand before a request, one of the two being a write (R195, R199, R209)? -/
def lineBehind (s : State) (q : LineReq) : Bool :=
  (s.ln.inflight.takeWhile (·.id != q.id)).any fun x =>
    x.acc.region == q.acc.region && x.line == q.line && (isWrite x.op || isWrite q.op)

/-- The counter of a request, zero for none yet: reel regions use VERSION. -/
inductive LineCtr where
  | value (n : Nat)
  | waits
  | ends (a : List Ans)

/-- A counter at its limit ends the write. -/
def lineCtrFull (natural : Bool) (q : LineReq) (s : State) : LineCtr × State :=
  let s := lineFault natural (Src.lineSeal q.pipe) Kind.lineCtrLimit q 0 s
  match lineEnd q Status.keyExhausted [] ((sealCount q.pipe 3 s).lnEvent 5) with
  | (a, s) => (.ends a, s)

/-- Step 2 of R196, and the read's counter. -/
def lineCounter (q : LineReq) (s : State) : LineCtr × State :=
  let r := q.acc.region
  if !isVault r then (.value (dVersion (regionOf s r).desc), s)
  else if q.op = .write ∧ 0 < q.ctr then (.value q.ctr, s)
  else if q.op == .write && injected (Src.lineSeal q.pipe) Kind.lineCtrLimit s then lineCtrFull false q s
  else
    match counterOp r q.line (q.op == .write) q.asked (updLine q.id (fun x => { x with asked := true }) s) with
    | (.value n, s) => (.value n, if q.op = .write then updLine q.id (fun x => { x with ctr := n }) s else s)
    | (.waits, s) => (.waits, s)
    | (.refused st, s) => let x := if q.op = .partialWrite then partialRefused q st s else lineEnd q st [] s; (.ends x.1, x.2)
    | (.poisoned, s) =>
      let x := if isWrite q.op && q.op != .partialWrite then writeRefused q Status.integrityTainted s
        else readEnd q Status.poisoned (List.replicate 64 0#8) ((unsealCount q.pipe 2 s).lnEvent 1)
      (.ends x.1, x.2)
    | (.limit, s) => lineCtrFull true q s

/-- A partial write whose old line is there goes on as a whole-line write of the merged line. -/
def mergePartial (q : LineReq) (old : Bytes) : LineReq :=
  { q with op := .write, data := mergeBytes (fit old 64) q.data q.be.toNat, phase := 0, ctr := 0, asked := false }

/-- A line pipe's checkers disagree: the line is neither sent nor released. -/
def lineUnitFails (src : Nat) (q : LineReq) (s : State) : List Ans × State :=
  readEnd q Status.resetAborted [] (reportFault false src Kind.linePipe q.acc.hall q.acc.offset (lineDetail q.acc.region 0) s)

/-- Work on a request in phase 0, as far as it goes now; `fuel` bounds the turn from a merge to its write. -/
def lineTry : Nat → Nat → State → List Ans × State
  | 0, _, s => ([], s)
  | fuel + 1, id, s =>
    match lineReq s id with
    | none => ([], s)
    | some q =>
      let r := q.acc.region
      let x := regionOf s r
      let src := if q.op = .write then Src.lineSeal q.pipe else Src.lineUnseal q.pipe
      if q.phase = 0 ∧ q.keyFail then readEnd q Status.permission [] s
      else if q.phase ≠ 0 || lineBehind s q || faultStall src s || isLanding s src then ([], s)
      else if isWrite q.op && isVault r && x.state == .tainted then writeRefused q Status.integrityTainted s
      else if !ctxsBound s x.desc then lineEnd q Status.retryLater [] s
      else
        match lineCounter q s with
        | (.waits, s) => ([], s)
        | (.ends a, s) => (a, s)
        | (.value n, s) =>
          if q.op = .write then
            if injected src Kind.linePipe s then lineUnitFails src q s
            else match lineKeys src r true id s with
              | (.both dk mk, s) => ([], sendWrite q n dk mk s)
              | (.waits, s) => ([], s)
              | (.stale, s) => ([], dropLine id s)
              | (.fail st, s) => lineEnd q st [] s
          else if isVault r && n == 0 then
            let s := unsealCount q.pipe 3 s
            if q.op = .partialWrite then lineTry fuel id (updLine id (fun q => mergePartial q (List.replicate 64 0#8)) s)
            else lineEnd q Status.ok (List.replicate 64 0#8) s
          else ([], sendRead q n s)

/-- Unsealing of a response that is in (R198): `p` is the LINE_RSP payload. -/
def lineUnsealOp (q : LineReq) (p : Bytes) (s : State) : List Ans × State :=
  let r := q.acc.region
  let src := Src.lineUnseal q.pipe
  if injected src Kind.linePipe s then lineUnitFails src q s
  else match lineKeys src r false q.id s with
    | (.waits, s) =>
      ([], updLine q.id (fun x => { x with phase := 3, data := fit p 192 ++ q.data }) s)
    | (.stale, s) => ([], dropLine q.id s)
    | (.fail st, s) => readEnd q st [] s
    | (.both dk mk, s) =>
      let off := 64 * q.line
      let c := rspUnit p 0
      let tag := sub (rspUnit p 1) (8 * (q.line % 8)) 8
      let natural := !(tag == lineMacOf mk q.ctr off c)
      let s := charge q.acc.hall .line 64 s
      if checkFails natural src Kind.lineMac s then
        let s := reportFault natural src Kind.lineMac q.acc.hall q.acc.offset (lineDetail r 0) s
        readEnd q Status.authFail (List.replicate 64 0#8) ((unsealCount q.pipe 1 s).lnEvent 0)
      else
        let plain := lineCrypt dk q.ctr off c
        let s := unsealCount q.pipe 0 s
        if q.op == .partialWrite && injected (Src.lineSeal q.pipe) Kind.linePartial s then
          partialRefusedBy false q Status.authFail s
        else if q.op = .partialWrite then lineTry 2 q.id (updLine q.id (fun q => mergePartial q plain) s)
        else lineEnd q Status.ok plain s

/-- A LINE_RSP of the line table (R195, R198, R201). -/
def lineRspOp (pipe : Nat) (p : Bytes) (s : State) : List Ans × State :=
  if injected (Src.lineUnseal pipe) Kind.lineStray s then ([], lineStray false pipe s)
  else match s.ln.inflight.find? (fun q => q.id == num p 0 4 && (q.phase == 1 || q.phase == 2)) with
  | none => ([], lineStray true pipe s)
  | some q =>
    if num p 4 1 ≠ 2 then ([], lineStray true pipe s)
    else
      let src := if q.phase = 2 then Src.lineSeal q.pipe else Src.lineUnseal q.pipe
      let any' (n : Nat) : Bool := rspStatus p 0 == n || rspStatus p 1 == n
      let zero := List.replicate 64 0#8
      let natural := any' 1
      if checkFails natural src Kind.linePoison s then
        let s := (reportFault natural src Kind.linePoison q.acc.hall q.acc.offset (lineDetail q.acc.region 0) s).lnEvent 1
        if q.phase = 2 then lineEnd q Status.poisoned [] s else readEnd q Status.poisoned zero (unsealCount q.pipe 2 s)
      else
        let out := any' 2
        if checkFails out src Kind.lineRange s then
          let s := reportFault out src Kind.lineRange q.acc.hall q.acc.offset (lineDetail q.acc.region 0) s
          if q.phase = 2 then lineEnd q Status.translationFault [] s
          else readEnd q Status.translationFault zero (unsealCount q.pipe 5 s)
        else if q.phase = 2 then lineEnd q Status.ok [] s
        else lineUnsealOp q p s

/-- A line frame that ended without being sent ends its request. -/
def lineUnsent (id : Nat) (st : Status) (s : State) : List Ans × State :=
  match lineReq s id with
  | none => ([], s)
  | some q => if q.op = .partialWrite then partialRefused q st s else lineEnd q st [] s

/-! ### Acceptance (R196 step 1, R199) -/

/-- Answer to a request that is not accepted; `counts` for a write that the region's cursor or state refuses. -/
def lineTurnedAway (q : LineReq) (st : Status) (counts : Bool) (s : State) : List Ans × State :=
  ([{ owner := q.owner, unit := q.unit, status := st, data := [] }], if counts then sealCount q.pipe 5 s else s)

/-- Is a region's tree there to serve? The combining buffer's write-backs run on under ERASE, FREE and a save (R285). -/
def regionBusy (s : State) (r : Nat) (inner : Bool) : Bool :=
  let x := regionOf s r
  (x.freeing && !inner) || (x.state == .erasing && !inner) || (isVault r && (treeOf s r).state == .saving && !inner)

/-- Why the region an access names refuses it, if it does: the checks in order, with whether the seal pipe counts the refusal. -/
def lineRefusal (acc : LineAcc) (op : LineOp) (inner : Bool) (s : State) : Option (Status × Bool) :=
  let r := acc.region
  let x := regionOf s r
  let d := x.desc
  let line := acc.offset / 64
  if decide (1280 ≤ r) || (isVault r && !s.conf.tree) || x.state == .free || dHall d != acc.hall || dGen d != acc.hgen.toNat then
    some (Status.permission, false)
  else if regionBusy s r inner || !ctxsBound s d then some (Status.retryLater, false)
  else if dBytes d ≤ acc.offset then some (Status.translationFault, false)
  else if op = .partialWrite ∧ !isVault r then some (Status.permission, false)
  else if isWrite op && isVault r && x.state == .tainted then some (Status.integrityTainted, true)
  else if isWrite op && (x.state == .sealed || x.sealing || (x.state == .writing && decide (line < x.cursor))) then
    some (Status.permission, true)
  else if !isWrite op && x.state == .writing && decide (x.cursor ≤ line) then some (Status.permission, false)
  else none

/-- A request, if its hall is still there, is turned away or enters the table. A vault region of a block without a tree unit is an
absent one (R12, R13). -/
def lineAccept (q : LineReq) (inner : Bool) (s : State) : List Ans × State :=
  let r := q.acc.region
  let line := q.acc.offset / 64
  let q := { q with line := line, pipe := linePipe s r (tagGroup line) }
  if !genOk s q.acc.hall q.acc.hgen.toNat then ([], hallStale q.acc.hall s)
  else
    let s := if isVault r && !s.conf.tree then hallCount q.acc.hall 11 1 s else s
    match lineRefusal q.acc q.op inner s with
    | some (st, counts) => lineTurnedAway q st counts s
    | none =>
      let s := if isWrite q.op && (regionOf s r).state == .writing then updRegion r (fun x => { x with cursor := line + 1 }) s else s
      lineTry 2 q.id (s.updLn fun l => { l with inflight := l.inflight ++ [q] })

/-- A request of a line: it enters the table, or stalls before a full one (R195). With every byte enabled it is no partial write
(R197). -/
def lineIssue (acc : LineAcc) (op : LineOp) (be : BitVec 64) (data : Bytes) (o : Owner) (unit : Nat) (inner : Bool) (s : State) :
    List Ans × State :=
  let whole : Bool := op == .partialWrite && be == ~~~0#64
  let q : LineReq :=
    { id := lineId s.ln.nextReq, acc := acc, op := if whole then .write else op, line := acc.offset / 64, be := be, data := fit data 64, ctr := 0, owner := o
      unit := unit, gen := ugen s (ownerUnit s o), pipe := 0, phase := 0, keyFail := false, asked := false }
  let s := s.updLn fun l => { l with nextReq := l.nextReq + 1 }
  if 4096 ≤ s.ln.inflight.length ∨ !s.ln.stalled.isEmpty then
    ([], (s.updLn fun l => { l with stalled := l.stalled ++ [q] }).lnEvent 3)
  else lineAccept q inner s

/-- INFLIGHT_TABLE_ADMIT (R195): the longest-stalled request enters when there is room. -/
def admitLine (s : State) : List Ans × State :=
  match s.ln.stalled with
  | q :: rest =>
    let inner := match q.owner with | .comb _ => q.unit == 1 | _ => false
    if s.ln.inflight.length < 4096 then lineAccept q inner (s.updLn fun l => { l with stalled := rest }) else ([], s)
  | [] => ([], s)

/-! ### Region commands (R186, R202, R204, R215, R227) -/

/-- LN_DESC as bytes, and a descriptor as LN_DESC. -/
def descBytes (l : Ln) : Bytes := ((List.range 16).map fun i => natLe (l.desc.get i).toNat 4).flatten
def descWords (b : Bytes) : Tab Word := forAll (List.range 16) (fun i t => t.set i (BitVec.ofNat 32 (num b (4 * i) 4))) []

/-- The three handles of the region of LN_CMD.INDEX, the result of REGION_INSTALL (R505). -/
def regionHandles (s : State) : Bytes :=
  let x := regionOf s s.ln.index.toNat
  natLe (dDkey x.desc).toNat 4 ++ natLe (dMkey x.desc).toNat 4 ++ natLe x.nkey.toNat 4

/-- A command's end: RESULT, GO, the actions that wait for it, and after ERASE and FREE the old handles' RETIRE (R504). -/
def lnFinish (op : Nat) (st : Status) (s : State) : State :=
  let who := s.ln.answer
  let old := if st = Status.ok then s.ln.retire else []
  let data := if op = 1 ∧ st = Status.ok ∧ !who.isEmpty then regionHandles s else []
  let s := s.updLn fun l => { l with go := false, op := BitVec.ofNat 4 op, result := st, answer := [], retire := [] }
  answerAll who st data (forAll old retireHandle s)

/-- Do two spans meet? -/
def spansMeet (a n b m : Nat) : Bool := decide (a < b + m ∧ b < a + n)

/-- The form of a descriptor for a region number, without what depends on the block's state. -/
def descOk (r : Nat) (d : Bytes) : Bool :=
  let v := isVault r
  let size := dSize d
  let data := 65536 * size
  let tags := 8192 * size
  num d 0 1 == (if v then 1 else 2) && num d 1 1 == 0 && num d 11 1 == 0 && allZero (sub d 54 10)
    && decide (dHall d < 4096 ∧ dCtx d < 512 ∧ 1 ≤ dNctx d ∧ dNctx d ≤ 16 ∧ dCtx d + dNctx d ≤ 512 ∧ 1 ≤ size ∧ size ≤ 2 ^ 26)
    && (dExpander d).testBit 13 && decide (dExpander d < 2 ^ 14)
    && dDbase d % 4096 == 0 && dTbase d % 4096 == 0 && (if v then dTreebase d % 4096 == 0 else dTreebase d == 0)
    && hClass (dDkey d) == 4 && hClass (dMkey d) == (if v then 5 else 4)
    && hHall (dDkey d) == dHall d && hHall (dMkey d) == dHall d
    && !spansMeet (dDbase d) data (dTbase d) tags
    && (!v || (!spansMeet (dDbase d) data (dTreebase d) (treeBytes d) && !spansMeet (dTbase d) tags (dTreebase d) (treeBytes d)))

/-- TR_NKEY serves for a vault region (R227). -/
def nkeyServes (s : State) (r : Nat) (d : Bytes) : Bool :=
  let h := s.tr.nkey
  (slotOf s.kv h).isSome && hClass h == 5 && hHall h == dHall d
    && !s.ln.regions.any fun e => e.1 != r && e.2.state != .free && (e.2.nkey == h || dDkey e.2.desc == h || dMkey e.2.desc == h)

/-- A live descriptor with the same object at or above the version forbids a new WRITING (R186). -/
def reelClash (s : State) (d : Bytes) : Bool :=
  s.ln.regions.any fun e => e.2.state != .free && dObject e.2.desc == dObject d && decide (dVersion d ≤ dVersion e.2.desc)

/-- The staged root of a number agrees with a descriptor (R230). -/
def stagedOk (b d : Bytes) : Bool :=
  sub b 6 4 == sub d 2 4 && sub b 12 4 == sub d 12 4 && sub b 16 8 == sub d 16 8 && sub b 24 4 == sub d 44 4
    && sub b 28 6 == sub d 48 6

/-- The blob of a region in the root store of the flash (R477). -/
def rootStoreBlob (s : State) (r : Nat) : Option Bytes :=
  let at' (k : Nat) : Bytes := Memory.readBytes flashFill s.pwr.flash (0x120000 + 256 * k) 256
  match firstFrom (fun k => num (at' k) 240 2 == r && num (at' k) 0 2 == 0x7201) 256 0 with
  | some k => some ((at' k).take 240)
  | none => none

/-- The check of a root that came in an image against the last shutdown's store (R478), once ROOT_STORE_USE named it. -/
def storeAgrees (s : State) (r : Nat) : Bool :=
  match s.pwr.rootStore with
  | none => true
  | some serial =>
    match rootStoreBlob s r with
    | none => false
    | some b =>
      sub b 192 48 == Crypto.digestBytes (Crypto.hmac (Crypto.keyBytes (storageKey s)) (b.take 192))
        && num b 4 2 == r && num b 36 8 == serial.toNat && num b 44 8 == s.deviceId
        && sub b 64 120 == sub (treeOf s r).staged 64 120

/-- Regions of a hall in use. -/
def hallRegions (s : State) (hall : Nat) (vault : Bool) : Nat :=
  (s.ln.regions.filter fun e => e.2.state != .free && isVault e.1 == vault && dHall e.2.desc == hall).length

/-- Why REGION_WRITE is refused, if it is. -/
def regionWriteRefusal (r : Nat) (d : Bytes) (sealed : Bool) (s : State) : Option Status :=
  let v := isVault r
  let t := treeOf s r
  let h := hallOf s (dHall d)
  if decide (1280 ≤ r) || (v && !s.conf.tree) || !descOk r d || (regionOf s r).state != .free || !ctxsBound s d
      || (!v && !sealed && reelClash s d) || (v && !nkeyServes s r d)
      || (v && t.state == .staged && (!stagedOk t.staged d || ((regionOf s r).fromImage && !storeAgrees s r))) then
    some Status.permission
  else if (if v then qVregions h else qRregions h) ≤ hallRegions s (dHall d) v then some Status.refusedQuota
  else if v ∧ 8192 < pinsUsed s + pinsOf d then some Status.refusedCapacity
  else none

/-- The pinned nodes of a region that are not on chip and not poisoned. -/
def pinsMissing (s : State) (r : Nat) : List (Nat × Nat) :=
  let d := (regionOf s r).desc
  let t := treeOf s r
  let h := treeHeight d
  ([h - 1, h - 2].map fun l => (List.range (levelNodes d l)).map fun j => (l, j)).flatten.filter fun n =>
    !nodeHeld d t n.1 n.2 && !poisonedNode t n.1 n.2

/-- An install whose pinned levels are being fetched goes on, and ends once they are there (R230). -/
def installStep (s : State) : State :=
  if !(s.ln.go && s.ln.op == 1#4) then s
  else
    let r := s.ln.target
    let m := pinsMissing s r
    if m.isEmpty then
      let s := updRegion r (fun x => { x with state := if (treeOf s r).poison.isEmpty then .active else .tainted }) s
      lnFinish 1 Status.ok s
    else
      let room := 64 - (staged s).length
      let st := staged s
      fetchNodes r ((m.filter fun n => !st.contains (r, n.1, n.2)).take room) s

/-- REGION_WRITE. -/
def regionWriteOp (r : Nat) (sealed : Bool) (s : State) : State :=
  let d := descBytes s.ln
  match regionWriteRefusal r d sealed s with
  | some st => lnFinish 1 st (if isVault r && !s.conf.tree then hallCount (dHall d % 4096) 11 1 s else s)
  | none =>
    let x : Region := { (default : Region) with desc := d, nkey := if isVault r then s.tr.nkey else 0#32 }
    if !isVault r then
      lnFinish 1 Status.ok (updRegion r (fun _ => { x with state := if sealed then .sealed else .writing }) s)
    else
      let t := treeOf s r
      if t.state = .staged then
        let s := updRegion r (fun _ => x) s
        let s := updTree r (fun t => { (default : Tree) with state := .active, root := nodeCounters (sub t.staged 64 120) }) s
        installStep (s.updLn fun l => { l with go := true, op := 1#4, target := r })
      else
        let s := updTree r (fun _ => { (default : Tree) with state := .active }) s
        lnFinish 1 Status.ok (updRegion r (fun _ => { x with state := .active }) s)

/-- Are all accepted requests of a region, and its node requests, done? -/
def regionQuiet (s : State) (r : Nat) : Bool := !acceptedLines s r && !s.tr.requests.any (·.region == r)

/-- Has the combining buffer a line of a region that is not back in memory, or that an accepted operation still waits for (R285)? -/
def combBusy (s : State) (r : Nat) : Bool :=
  s.au.comb.any fun e => e.2.live && e.2.region == r + 1 && (e.2.dirty || e.2.writing || e.2.filling || !e.2.waiting.isEmpty)

/-- The nodes, the root and the combining lines of a region that ends or starts anew are discarded. -/
def dropRegion (r : Nat) (s : State) : State :=
  let mine (i : Nat) : Bool := (s.au.comb.get i).live && (s.au.comb.get i).region == r + 1
  dropTree r (s.updAu fun a => { a with comb := a.comb.filter fun e => !mine e.1, lru := a.lru.filter fun i => !mine i })

/-- REGION_FREE goes on (R204): its root and nodes are discarded once every accepted request is done. -/
def freeStep (s : State) : State :=
  let r := s.ln.target
  if s.ln.go && s.ln.op == 2#4 && regionQuiet s r && !combBusy s r then
    lnFinish 2 Status.ok (updRegion r (fun _ => default) (dropRegion r s))
  else s

/-- REGION_FREE. -/
def regionFreeOp (r : Nat) (s : State) : State :=
  if (regionOf s r).state = .free ∨ (treeOf s r).busy then lnFinish 2 Status.permission s
  else freeStep ((updRegion r (fun x => { x with freeing := true }) s).updLn fun l => { l with go := true, op := 2#4, target := r })

/-- REGION_SEAL is accepted for a reel region in WRITING. -/
def regionSealOp (r : Nat) (s : State) : State :=
  if (regionOf s r).state = .writing then
    (updRegion r (fun x => { x with sealing := true }) s).updLn fun l => { l with go := true, op := 3#4, target := r }
  else lnFinish 3 Status.permission s

/-- REGION_SEAL_COMPLETE (R199): after every accepted write the region is SEALED. -/
def sealCompleteOp (r : Nat) (s : State) : State :=
  if (regionOf s r).sealing && !acceptedLines s r then
    lnFinish 3 Status.ok (updRegion r (fun x => { x with sealing := false, state := .sealed }) s)
  else s

/-- A handle that no region uses. -/
def handleFree (s : State) (h : Handle) : Bool :=
  !s.ln.regions.any fun e => e.2.state != .free && (dDkey e.2.desc == h || dMkey e.2.desc == h || e.2.nkey == h)

/-- REGION_ERASE is accepted (R202 step 1). -/
def regionEraseOp (r : Nat) (s : State) : State :=
  let x := regionOf s r
  let d := descBytes s.ln
  let o := x.desc
  let same := d.take 12 == o.take 12 && sub d 16 8 == sub o 16 8 && d.drop 32 == o.drop 32
  let ok := isVault r && s.conf.tree && (x.state == .active || x.state == .tainted) && !(treeOf s r).busy && same
    && decide (dVersion o < 2 ^ 32 - 1) && dVersion d == dVersion o + 1 && descOk r d
    && handleFree s (dDkey d) && handleFree s (dMkey d) && dDkey d != dMkey d && dDkey d != s.tr.nkey
    && dMkey d != s.tr.nkey && nkeyServes s r d && s.tr.nkey != x.nkey
  if !ok then lnFinish 4 Status.permission s
  else
    let s := updTree r (fun t => { t with state := .erasing }) s
    let s := updRegion r (fun x => { x with state := .erasing, newDesc := d, newNkey := s.tr.nkey }) s
    s.updLn fun l => { l with go := true, op := 4#4, target := r }

/-- REGION_ERASE_COMPLETE (R202 steps 2 to 4, R227): with its requests, combining lines and node write-backs done, the region
starts anew under its new descriptor. -/
def eraseCompleteOp (r : Nat) (s : State) : State :=
  let x := regionOf s r
  if x.state = .erasing ∧ regionQuiet s r ∧ !combBusy s r then
    let s := updTree r (fun _ => { (default : Tree) with state := .active }) (dropRegion r s)
    lnFinish 4 Status.ok (updRegion r (fun x => { (default : Region) with state := .active, desc := x.newDesc, nkey := x.newNkey }) s)
  else s

/-- LN_QINFO (R206). -/
def rstateCode : RState → Nat
  | .free => 0
  | .active => 1
  | .writing => 2
  | .sealed => 3
  | .tainted => 4
  | .erasing => 5

def lnInfo (s : State) (r : Nat) : Nat :=
  put 29 (rstateCode (regionOf s r).state) + (s.ln.inflight.filter fun q => q.acc.region == r).length % 2 ^ 13

/-- QUERY loads LN_DESC, LN_QINFO and LN_CURSOR. -/
def lnQueryOp (r : Nat) (s : State) : State :=
  let x := regionOf s r
  lnFinish 5 Status.ok (s.updLn fun l => { l with
    qinfo := BitVec.ofNat 32 (lnInfo s r)
    qcursor := BitVec.ofNat 64 x.cursor
    desc := descWords (fit x.desc 64) })

/-- One LN_CMD. A GO while another runs starts nothing (R18). -/
def lnCommand (op r : Nat) (sealed : Bool) (s : State) : State :=
  if s.ln.go then s
  else
    let s := s.updLn fun l => { l with sealed := sealed, index := if r < 1280 then BitVec.ofNat 11 r else l.index }
    if op = 0 ∨ 5 < op then lnFinish s.ln.op.toNat Status.permission s
    else if 1280 ≤ r then lnFinish op Status.permission s
    else match op with
      | 1 => regionWriteOp r sealed s
      | 2 => regionFreeOp r s
      | 3 => regionSealOp r s
      | 4 => regionEraseOp r s
      | _ => lnQueryOp r s

def execLnRegionWrite (index : BitVec 11) (sealed : Bool) (s : State) : Answer := goOn (lnCommand 1 index.toNat sealed s)
def execLnRegionFree (index : BitVec 11) (s : State) : Answer := goOn (lnCommand 2 index.toNat s.ln.sealed s)
def execLnRegionSeal (index : BitVec 11) (s : State) : Answer := goOn (lnCommand 3 index.toNat s.ln.sealed s)
def execLnQuery (index : BitVec 11) (s : State) : Answer := goOn (lnCommand 5 index.toNat s.ln.sealed s)
def execRegionSealComplete (region : Nat) (s : State) : Answer := goOn (sealCompleteOp region s)
def execRegionEraseComplete (region : Nat) (s : State) : Answer := goOn (eraseCompleteOp region s)

/-! ### What a change lets go on -/

/-- A request that waits: for its line, its counter or its keys (the response, once in, stands before its data). -/
def lineRetry (id : Nat) (s : State) : List Ans × State :=
  match lineReq s id with
  | none => ([], s)
  | some q =>
    if q.keyFail then readEnd q Status.permission [] s
    else if q.phase = 3 then
      let x := { q with phase := 1, data := q.data.drop 192 }
      lineUnsealOp x (q.data.take 192) (updLine id (fun _ => x) s)
    else lineTry 2 id s

/-- The waiting requests of the line pipes, by rank and then in the order of acceptance (R381). -/
def lineQueue (s : State) : List Nat :=
  let w := s.ln.inflight.filter fun q => q.phase == 0 || q.phase == 3
  let rank (q : LineReq) : Nat := pipeRank (hallOf s q.acc.hall) .line
  ((List.range 4).map fun k => (w.filter fun q => rank q == k).map (·.id)).flatten

/-- Every waiting request of the tree unit and of the line pipes goes on as far as it can, and so do the region commands. -/
def poolKick (s : State) : List Ans × State :=
  let s := treeKick s
  match eachAns (lineQueue s) lineRetry s with
  | (a, s) => (a, freeStep (installStep s))

/-- A LINE_RSP by its request ID: of the node table or of the line table (R195, R219). That of a request which a reset has
answered is stale (R430); in the safe state nothing is released (R402). -/
def lineRspTake (pipe : Nat) (p : Bytes) (s : State) : List Ans × State :=
  let id := num p 0 4
  if s.fcu.safe then ([], s)
  else if s.tr.requests.any (fun q => q.id == id) then ([], nodeRspOp p s)
  else match s.ln.aborted.find? (·.1 == id) with
    | some (_, unit) => ([], staleReply unit (s.updLn fun l => { l with aborted := l.aborted.filter (·.1 != id) }))
    | none => lineRspOp pipe p s

end Sys2Proof.Machine
end

