-- ==== Sys2Proof/Machine/Access.lean ====
section
/-! DEFINITION. The ways in which an engine of the block reaches memory: a hall-virtual line through the ITU, a REQ to a peer's
home, a host read or write under a hall's function (09_movers_reduction.md R240, R244; 10_remote_atomics.md R269-R271;
05_attestation_domain.md R138; 02_ports.md R40-R42). -/

namespace Sys2Proof.Machine

-- One declaration at a time, so that the elaborator holds few threads (each takes stack of its own).
set_option Elab.async false

/-! ### Hall-virtual lines -/

/-- An answer given at once. -/
def ansNow (o : Owner) (unit : Nat) (st : Status) (data : Bytes) : List Ans := [{ owner := o, unit := unit, status := st, data := data }]

/-- A pooled access of an engine. -/
def engineLine (hall hgen r off : Nat) : LineAcc :=
  { port := 0, hall := hall, hgen := BitVec.ofNat 16 hgen, region := r, offset := off, ticket := 0 }

/-- Read of the 64-byte line at a hall-virtual address, and of the next one where `want` is at least 2, the two lie in one 128-byte
block and the block is in local memory: a local request of an engine is 128 B (R244). How many lines were asked for. -/
def readLines (want hall hgen va : Nat) (need : Need) (o : Owner) (unit : Nat) (s : State) : Nat × List Ans × State :=
  match translate hall hgen va need s with
  | (.ok (.mem pa), s) =>
    if 2 ≤ want ∧ pa % 128 = 0 then (2, [], mpReadTwo pa hall o (ownerUnit s o) unit s)
    else (1, [], mpRead pa hall o (ownerUnit s o) unit s)
  | (.ok (.region r off), s) => (1, lineIssue (engineLine hall hgen r off) .read 0#64 [] o unit false s)
  | (.ok (.peer _ _ _ _ _), s) => (1, ansNow o unit Status.permission [], s)
  | (.fail st, s) => (1, ansNow o unit st [], s)
  | (.stale, s) => (1, [], hallStale hall s)

/-- Write of bytes inside the line at a hall-virtual address; `data` starts at `va` and does not leave the line. -/
def writeLine (hall hgen va : Nat) (need : Need) (data : Bytes) (o : Owner) (unit : Nat) (s : State) : List Ans × State :=
  match translate hall hgen va need s with
  | (.ok (.mem pa), s) => ([], mpWrite pa data hall o (ownerUnit s o) unit s)
  | (.ok (.region r off), s) =>
    let k := off % 64
    let acc := engineLine hall hgen r (off / 64 * 64)
    if k = 0 ∧ 64 ≤ data.length then lineIssue acc .write (~~~0#64) data o unit false s
    else lineIssue acc .partialWrite (BitVec.ofNat 64 ((2 ^ data.length - 1) * 2 ^ k))
      (fit (List.replicate k 0#8 ++ data) 64) o unit false s
  | (.ok (.peer _ _ _ _ _), s) => (ansNow o unit Status.permission [], s)
  | (.fail st, s) => (ansNow o unit st [], s)
  | (.stale, s) => ([], hallStale hall s)

/-! ### Requests to a home (R269, R271) -/

/-- A request block. -/
def reqBlock (op aflags hall hgen kind n addr region mask be swap : Nat) : Bytes :=
  fit (natLe op 1 ++ natLe aflags 1 ++ natLe hall 2 ++ natLe hgen 2 ++ natLe kind 1 ++ natLe n 1 ++ natLe addr 8 ++ natLe region 2
    ++ natLe mask 2 ++ natLe 0 4 ++ natLe be 8 ++ natLe swap 8) 64

/-- Non-posted REQs of a context without an answer, sealed or not. -/
def reqCount (c : TxCtx) : Nat := c.unanswered.length + (c.chunks.filter fun k => nonPosted k && k.item == 0).length

/-- Room for one more of 1,024. -/
def reqRoom (s : State) (i : Nat) : Bool := decide (reqCount (txOf s i) < 1024)

/-- A REQ joins a context. -/
def pushReq (i : Nat) (block data : Bytes) (hall : Nat) (o : Owner) (unit : Nat) (s : State) : State :=
  txPush i [{ plainChunk tReq (block ++ data) with owner := o, hall := hall, unit := unit, gen := ugen s (ownerUnit s o) }] s

/-- The answers of a request's units. -/
def unitAnswers (u : Unanswered) (l : List (Status × Bytes)) : List Ans :=
  ((List.range l.length).zip l).map fun x =>
    { owner := unitOwner u.owner x.1, unit := u.unit + (if u.lines ≤ 1 then 0 else x.1), status := x.2.1, data := x.2.2 }

/-- The same status for every unit of a request. -/
def unitsEnd (u : Unanswered) (st : Status) : List Ans := unitAnswers u (List.replicate (max 1 u.lines) (st, []))

/-! ### The host (R138, R240) -/

/-- The IDE stream that a hall's TLPs take: its bound one while its TDI is locked or in RUN; a SEALED hall has no other way. -/
def hostStream (s : State) (hall : Nat) : Option (Option Nat) :=
  let h := hallOf s hall
  if h.tdi == .locked || h.tdi == .run then
    match h.stream with
    | some x => if (s.att.ideStreams.get x).secure then some (some x) else none
    | none => none
  else if isSealed h then none else some none

/-- Is the host port there for a hall's TLPs? -/
def hostOpen (s : State) (hall : Nat) : Bool := s.pins.hpEn && !s.fcu.safe && (hostStream s hall).isSome

/-- A free tag of the host port. -/
def hostTag (s : State) : Nat := (firstFrom (fun t => !s.hostReads.any fun r => r.tag == t) 65536 0).getD 0

/-- A host read of a hall: PERMISSION where its stream does not serve. -/
def hostRead (hall addr len : Nat) (o : Owner) (unit : Nat) (s : State) : List Ans × State :=
  match hostStream s hall with
  | none => (ansNow o unit Status.permission [], s)
  | some st =>
    if !hostOpen s hall then (ansNow o unit Status.permission [], s)
    else if isLanding s Src.hostPipes then (ansNow o unit Status.retryLater [], s)
    else
      let t := hostTag s
      let r : HostRd :=
        { tag := t, hall := hall, hgen := (hallOf s hall).hgen, addr := addr, len := len, owner := o, unit := unit, gen := ugen s (ownerUnit s o) }
      let s := s.setHostReads (s.hostReads ++ [r])
      ([], ideEmit st ideNonPosted (Config.ideHeader 0 (hall + 1) addr len true) [] (fun _ => .hostRead (hall + 1) t addr len st) s)

/-- A host write of a hall; posted, done once the host port has it. -/
def hostWrite (hall addr : Nat) (data : Bytes) (s : State) : Status × State :=
  match hostStream s hall with
  | none => (Status.permission, s)
  | some st =>
    if !hostOpen s hall then (Status.permission, s)
    else if isLanding s Src.hostPipes then (Status.retryLater, s)
    else (Status.ok, ideEmit st idePosted (Config.ideHeader 1 (hall + 1) addr data.length true) data
      (fun c => .hostWrite (hall + 1) addr c st) (charge hall .host data.length s))

/-- A completion at the host port for an outstanding read (R42): its answer, unless its hall or a reset has gone by (R28). -/
def hostTake (tag : Nat) (st : Status) (data : Bytes) (s : State) : List Ans × State :=
  match s.hostReads.find? (·.tag == tag) with
  | none => ([], s)
  | some r =>
    let s := charge r.hall .host data.length (s.setHostReads (s.hostReads.filter (·.tag != tag)))
    if hallPassed s r.hall r.hgen r.owner then ([], hallStale r.hall s)
    else if r.gen ≠ ugen s (ownerUnit s r.owner) then ([], staleReply (ownerUnit s r.owner) s)
    else
      let n := cdiv r.len 64
      (((List.range n).map fun k =>
        { owner := unitOwner r.owner k, unit := r.unit, status := st
          data := if st = Status.ok then fit (sub data (64 * k) 64) 64 else [] }), s)

end Sys2Proof.Machine
end

