-- ==== Sys2Proof/Machine/Operands.lean ====
section
/-! DEFINITION. Number formats: their codes, decoding to exact values, rounding and encoding, MX blocks, conversion, and the
element operations of reductions and of atomics (09_movers_reduction.md R245-R247, R256; 10_remote_atomics.md R274). -/

namespace Sys2Proof.Machine.Num

-- One declaration at a time, so that the elaborator holds few threads (each takes stack of its own).
set_option Elab.async false

/-! ### Values -/

/-- An exact value: NaN, an infinity, or ± m × 2^e. -/
inductive Val where
  | nan
  | inf (neg : Bool)
  | fin (neg : Bool) (m : Nat) (e : Int)
deriving DecidableEq, Repr, Inhabited

/-- What the codes above a format's finite values mean: IEEE infinities and NaNs, E4M3's one NaN, or nothing. -/
inductive Special where
  | ieee
  | e4m3
  | none
deriving DecidableEq, Repr, Inhabited

/-- A binary format: exponent bits, fraction bits, bias, specials, canonical NaN. -/
structure Fmt where
  eb : Nat
  mb : Nat
  bias : Nat
  special : Special
  nan : Nat
deriving DecidableEq, Repr, Inhabited

/-- The element format of a code (R245); integer codes have none. -/
def fmtOf (code : Nat) : Option Fmt :=
  match code with
  | 0x0 => some { eb := 11, mb := 52, bias := 1023, special := .ieee, nan := 0x7FF8000000000000 }
  | 0x1 => some { eb := 8, mb := 23, bias := 127, special := .ieee, nan := 0x7FC00000 }
  | 0x2 => some { eb := 5, mb := 10, bias := 15, special := .ieee, nan := 0x7E00 }
  | 0x3 => some { eb := 8, mb := 7, bias := 127, special := .ieee, nan := 0x7FC0 }
  | 0x4 | 0x6 => some { eb := 4, mb := 3, bias := 7, special := .e4m3, nan := 0x7F }
  | 0x5 | 0x7 => some { eb := 5, mb := 2, bias := 15, special := .ieee, nan := 0x7E }
  | 0x8 => some { eb := 3, mb := 2, bias := 3, special := .none, nan := 0 }
  | 0x9 => some { eb := 2, mb := 3, bias := 1, special := .none, nan := 0 }
  | 0xA => some { eb := 2, mb := 1, bias := 1, special := .none, nan := 0 }
  | _ => none

/-- Element bits of a code. -/
def elemBits (code : Nat) : Nat :=
  match code with
  | 0x0 => 64
  | 0x1 | 0xC | 0xD => 32
  | 0x2 | 0x3 => 16
  | 0x8 | 0x9 => 6
  | 0xA => 4
  | _ => 8

/-- The exponent of an MX code's largest element. -/
def emaxOf (code : Nat) : Int :=
  match code with
  | 0x6 => 8
  | 0x7 => 15
  | 0x8 => 4
  | 0x9 | 0xA => 2
  | _ => 0

/-- Is a code used, an MX code, a float code (MX among them)? -/
def isCode (c : Nat) : Bool := decide (c ≤ 13)
def isMx (c : Nat) : Bool := decide (6 ≤ c ∧ c ≤ 11)
def isFloat (c : Nat) : Bool := decide (c ≤ 11)

/-! ### Decoding -/

/-- The value of an element's bits. -/
def decodeFmt (f : Fmt) (n : Nat) : Val :=
  let m := bits n 0 f.mb
  let e := bits n f.mb f.eb
  let neg := n.testBit (f.mb + f.eb)
  let top := e + 1 == 2 ^ f.eb
  if f.special == .ieee && top then (if m = 0 then .inf neg else .nan)
  else if f.special == .e4m3 && top && m + 1 == 2 ^ f.mb then .nan
  else if e = 0 then .fin neg m (1 - (f.bias : Int) - f.mb)
  else .fin neg (m + 2 ^ f.mb) ((e : Int) - f.bias - f.mb)

/-- An 8-bit two's-complement element scaled by 2^-6 (MXINT8). -/
def decodeInt8 (n : Nat) : Val := if n < 128 then .fin false n (-6) else .fin true (256 - n) (-6)

/-- The value of an element of a code, an MX element without its scale. -/
def decode (code n : Nat) : Val :=
  match fmtOf code with
  | some f => decodeFmt f n
  | none => decodeInt8 n

/-! ### Rounding and encoding (R246) -/

/-- Right shift with round to nearest, ties to even. -/
def rne (m k : Nat) : Nat :=
  let q := m >>> k
  let r := m % 2 ^ k
  if k = 0 then m
  else if 2 ^ k < 2 * r ∨ (2 * r = 2 ^ k ∧ q % 2 = 1) then q + 1 else q

/-- The number of significant bits. -/
def width (m : Nat) : Nat := if m = 0 then 0 else Nat.log2 m + 1

/-- The exponent of the least bit that a format keeps of ± m × 2^e. -/
def lsbOf (f : Fmt) (m : Nat) (e : Int) : Int := max (e + width m - (f.mb + 1)) (1 - (f.bias : Int) - f.mb)

/-- The rounded significand in units of 2^q. -/
def roundTo (m : Nat) (e q : Int) : Nat := if q ≤ e then m <<< (e - q).toNat else rne m (q - e).toNat

/-- Fraction and exponent of the largest finite value. -/
def maxFinite (f : Fmt) : Nat × Int :=
  match f.special with
  | .ieee => (2 ^ (f.mb + 1) - 1, 2 ^ f.eb - 2 - (f.bias : Int) - f.mb)
  | .e4m3 => (2 ^ (f.mb + 1) - 2, 2 ^ f.eb - 1 - (f.bias : Int) - f.mb)
  | .none => (2 ^ (f.mb + 1) - 1, 2 ^ f.eb - 1 - (f.bias : Int) - f.mb)

/-- Is a × 2^x above b × 2^y? -/
def above (a : Nat) (x : Int) (b : Nat) (y : Int) : Bool :=
  if x ≤ y then decide (b <<< (y - x).toNat < a) else decide (b < a <<< (x - y).toNat)

/-- The bits of M × 2^q, M below 2^(mb+1) or equal to it. -/
def pack (f : Fmt) (neg : Bool) (M : Nat) (q : Int) : Nat :=
  let (M, q) := if M = 2 ^ (f.mb + 1) then (M / 2, q + 1) else (M, q)
  let s := b2n neg * 2 ^ (f.mb + f.eb)
  if M < 2 ^ f.mb then s + M else s + (q + f.mb + f.bias).toNat * 2 ^ f.mb + (M - 2 ^ f.mb)

/-- An infinity, or what stands for one. -/
def packInf (f : Fmt) (neg : Bool) : Nat :=
  match f.special with
  | .ieee => b2n neg * 2 ^ (f.mb + f.eb) + (2 ^ f.eb - 1) * 2 ^ f.mb
  | _ => f.nan

/-- Encoding with one rounding. Overflow is judged after rounding with an unbounded exponent. -/
def encodeFmt (f : Fmt) (sat : Bool) (v : Val) : Nat :=
  match v with
  | .nan => f.nan
  | .inf neg => packInf f neg
  | .fin neg m e =>
    let q := lsbOf f m e
    let M := roundTo m e q
    let top := maxFinite f
    if above M q top.1 top.2 then (if sat then pack f neg top.1 top.2 else packInf f neg) else pack f neg M q

/-- MXINT8: round to nearest in units of 2^-6 and clamp to ± 127. -/
def encodeInt8 (v : Val) : Nat :=
  match v with
  | .fin neg m e =>
    let n := min 127 (roundTo m e (-6))
    if neg then (256 - n) % 256 else n
  | _ => 0

/-- Encoding of a value as an element of a code. -/
def encode (code : Nat) (sat : Bool) (v : Val) : Nat :=
  match fmtOf code with
  | some f => encodeFmt f sat v
  | none => encodeInt8 v

/-- A value times 2^k. -/
def scaleVal (v : Val) (k : Int) : Val := match v with | .fin n m e => .fin n m (e + k) | v => v

/-! ### Elements in bytes -/

/-- The elements of a string, `n` of them: element e occupies bits [b e + b - 1 : b e] (R245). -/
def unpackElems (b n : Nat) (s : Bytes) : List Nat := let x := leNat s; (List.range n).map fun i => bits x (b * i) b

/-- The bytes of elements. -/
def packElems (b : Nat) (l : List Nat) : Bytes :=
  natLe (l.foldr (fun x n => x % 2 ^ b + n * 2 ^ b) 0) (b * l.length / 8)

/-! ### MX blocks (R247) -/

/-- Floor of log2 of a magnitude that is not zero. -/
def log2Val (m : Nat) (e : Int) : Int := e + Nat.log2 m

/-- The largest magnitude of a block, and whether a value of it is NaN or infinite. -/
def largest (l : List Val) : Option (Nat × Int) :=
  l.foldl (fun a v =>
    match a, v with
    | some (m, e), .fin _ m' e' => if above m' e' m e then some (m', e') else some (m, e)
    | _, _ => none) (some (0, 0))

/-- A block of 32 values: its scale byte and its elements. -/
def encodeBlock (code : Nat) (l : List Val) : Nat × List Nat :=
  match largest l with
  | none => (0xFF, l.map fun _ => 0)
  | some (m, e) =>
    if m = 0 then (0, l.map fun _ => 0)
    else
      let s := max (-127) (min 127 (log2Val m e - emaxOf code))
      ((s + 127).toNat, l.map fun v => encode code true (scaleVal v (-s)))

/-- The values of a block's elements under its scale byte. -/
def decodeBlock (code scale : Nat) (l : List Nat) : List Val :=
  if scale = 0xFF then l.map fun _ => .nan else l.map fun n => scaleVal (decode code n) ((scale : Int) - 127)

/-- Lists in blocks of 32. -/
def blocks {α : Type} : Nat → List α → List (List α)
  | 0, _ => []
  | fuel + 1, l => if l.isEmpty then [] else l.take 32 :: blocks fuel (l.drop 32)

/-! ### Conversion -/

/-- The exact values of `n` elements of a code, scale bytes given for an MX code. -/
def valuesOf (code n : Nat) (s scales : Bytes) : List Val :=
  let l := unpackElems (elemBits code) n s
  if isMx code then
    let b := blocks n l
    (((List.range b.length).zip b).map fun x => decodeBlock code (scales.getD x.1 0#8).toNat x.2).flatten
  else l.map (decode code)

/-- Values as elements of a code: their bytes, and the scale bytes of an MX code. -/
def bytesOf (code : Nat) (sat : Bool) (l : List Val) : Bytes × Bytes :=
  if isMx code then
    let b := (blocks l.length l).map (encodeBlock code)
    (packElems (elemBits code) (b.map (·.2)).flatten, b.map fun x => BitVec.ofNat 8 x.1)
  else (packElems (elemBits code) (l.map (encode code sat)), [])

/-- May one format be converted to another (R246)? -/
def convOk (src dst : Nat) : Bool :=
  isCode src && isCode dst && (src == dst || (isFloat src && isFloat dst && !(isMx src && isMx dst)))

/-- Conversion of `n` elements: a format to itself copies the bytes. -/
def convert (src dst : Nat) (sat : Bool) (n : Nat) (s scales : Bytes) : Bytes × Bytes :=
  if src = dst then (s, if isMx dst then scales else []) else bytesOf dst sat (valuesOf src n s scales)

/-! ### Reduction arithmetic (R256) -/

/-- The signed significand of a finite value in units of 2^q, q no larger than its exponent. -/
def signedAt (neg : Bool) (m : Nat) (e q : Int) : Int := let x : Int := (m <<< (e - q).toNat : Nat); if neg then -x else x

/-- The exact sum; opposite values give +0 and infinities of both signs give NaN. -/
def addVal (a b : Val) : Val :=
  match a, b with
  | .nan, _ => .nan
  | _, .nan => .nan
  | .inf x, .inf y => if x = y then .inf x else .nan
  | .inf x, _ => .inf x
  | _, .inf y => .inf y
  | .fin x m e, .fin y n f =>
    let q := min e f
    let s := signedAt x m e q + signedAt y n f q
    if s = 0 then .fin (x && y) 0 q else .fin (decide (s < 0)) s.natAbs q

/-- Is one value below another, with -0 below +0? Neither is NaN. -/
def below (a b : Val) : Bool :=
  match a, b with
  | .inf x, .inf y => x && !y
  | .inf x, _ => x
  | _, .inf y => !y
  | .fin x m e, .fin y n f =>
    let q := min e f
    let p := signedAt x m e q
    let r := signedAt y n f q
    decide (p < r) || (decide (p = r) && x && !y && m == 0)
  | _, _ => false

/-- MIN and MAX of IEEE 754-2019. -/
def minVal (a b : Val) : Val :=
  match a, b with
  | .nan, _ => .nan
  | _, .nan => .nan
  | a, b => if below b a then b else a
def maxVal (a b : Val) : Val :=
  match a, b with
  | .nan, _ => .nan
  | _, .nan => .nan
  | a, b => if below a b then b else a

/-- Two's complement of `b` bits. -/
def toSigned (b n : Nat) : Int := if n < 2 ^ (b - 1) then n else (n : Int) - 2 ^ b
def ofSigned (b : Nat) (x : Int) : Nat := (x % 2 ^ b).toNat

/-- Saturation to 16 bits (CI16). -/
def sat16 (x : Int) : Int := max (-32768) (min 32767 x)

/-- The combination of two integer elements: OP 0 SUM, 1 MIN, 2 MAX. -/
def combineInt (op : Nat) (sum : Int → Int → Int) (a b : Int) : Int :=
  if op = 0 then sum a b else if op = 1 then min a b else max a b

/-- The combination of a received and a local element, both in the wire format. -/
def combine (code op : Nat) (sat : Bool) (r l : Nat) : Nat :=
  if code = 0xC then ofSigned 32 (combineInt op (· + ·) (toSigned 32 r) (toSigned 32 l))
  else if code = 0xD then
    let part (k : Nat) : Nat :=
      ofSigned 16 (combineInt op (fun a b => sat16 (a + b)) (toSigned 16 (bits r k 16)) (toSigned 16 (bits l k 16)))
    part 0 + part 16 * 2 ^ 16
  else
    let a := decode code r
    let b := decode code l
    encode code sat (if op = 0 then addVal a b else if op = 1 then minVal a b else maxVal a b)

/-- Whole strings of the wire format combined element by element. -/
def combineBytes (code op : Nat) (sat : Bool) (n : Nat) (r l : Bytes) : Bytes :=
  let b := elemBits code
  packElems b (((unpackElems b n r).zip (unpackElems b n l)).map fun x => combine code op sat x.1 x.2)

/-- Does a wire format hold every value of a local format (R255)? -/
def wireOk (inp wire : Nat) : Bool :=
  wire == inp && !isMx inp
    || (isMx inp && (wire == 0 || wire == 1))
    || (wire == 0 && isFloat inp)
    || (wire == 1 && decide (1 ≤ inp ∧ inp ≤ 5))
    || ((wire == 2 || wire == 3) && (inp == 4 || inp == 5))

/-- The number of NaN results among elements of a float format. -/
def nanCount (code n : Nat) (s scales : Bytes) : Nat := ((valuesOf code n s scales).filter fun v => v == .nan).length

/-! ### Atomic element operations (R274) -/

/-- One element under ADD 2, MIN 3, MAX 4 or CAS 5: old value, operand, compare value, swap value. -/
def atomElem (op : Nat) (unsigned : Bool) (b old arg cmp swap : Nat) : Nat :=
  let key (n : Nat) : Int := if unsigned then (n : Int) else toSigned b n
  match op with
  | 2 => (old + arg) % 2 ^ b
  | 3 => if key arg < key old then arg else old
  | 4 => if key old < key arg then arg else old
  | _ => if old = cmp then swap else old

/-- A line under an atomic: the elements that the mask selects are updated. -/
def atomLine (op : Nat) (w64 unsigned : Bool) (mask : Nat) (line args : Bytes) (cmp swap : Nat) : Bytes :=
  let b := if w64 then 64 else 32
  let n := 512 / b
  let old := unpackElems b n line
  let arg := unpackElems b n args
  packElems b ((List.range n).map fun i =>
    let o := old.getD i 0
    if mask.testBit i then atomElem op unsigned b o (arg.getD i 0) (cmp % 2 ^ b) (swap % 2 ^ b) else o)

end Sys2Proof.Machine.Num
end

