-- ==== Sys2Proof/Machine/Mover.lean ====
section
/-! DEFINITION. The movers: descriptors and their checks, the three class queues, segments from their reads through conversion to
their writes, completion, abort tokens and commands (09_movers_reduction.md R239-R253, R262). -/

namespace Sys2Proof.Machine

-- One declaration at a time, so that the elaborator holds few threads (each takes stack of its own).
set_option Elab.async false

/-! ### Descriptors (R239-R241) -/

def mdSrcKind (d : Bytes) : Nat := bits (num d 0 1) 0 4
def mdDstKind (d : Bytes) : Nat := bits (num d 0 1) 4 4
def mdSrcFmt (d : Bytes) : Nat := bits (num d 1 1) 4 4
def mdDstFmt (d : Bytes) : Nat := bits (num d 1 1) 0 4
def mdSat (d : Bytes) : Bool := (num d 2 1).testBit 0
def mdConvert (d : Bytes) : Bool := (num d 2 1).testBit 1
def mdSeg (d : Bytes) : Nat := let x := num d 3 1; if x = 0 then 16 else x
def mdLength (d : Bytes) : Nat := num d 4 4
def mdSrc (d : Bytes) : Nat := num d 8 8
def mdDst (d : Bytes) : Nat := num d 16 8
def mdScale (d : Bytes) : Nat := num d 24 8
def mdPeer (d : Bytes) : Nat := num d 32 2
def mdStream (d : Bytes) : Nat := num d 34 1
def mdQueue (d : Bytes) : Nat := num d 56 2
def mdQgen (d : Bytes) : Nat := num d 58 2
def mdHall (d : Bytes) : Nat := num d 60 2
def mdHgen (d : Bytes) : Nat := num d 62 2

/-- Is an MX format named? -/
def mdMx (d : Bytes) : Bool := mdConvert d && (Num.isMx (mdSrcFmt d) || Num.isMx (mdDstFmt d))

/-- Bits of a source element and of a destination element; without conversion both count bytes. -/
def mdBits (d : Bytes) : Nat × Nat := if mdConvert d then (Num.elemBits (mdSrcFmt d), Num.elemBits (mdDstFmt d)) else (8, 8)

/-- Elements in a number of source bytes, and destination bytes of them. -/
def mdElems (d : Bytes) (n : Nat) : Nat := 8 * n / (mdBits d).1
def mdDstBytes (d : Bytes) (n : Nat) : Nat := mdElems d n * (mdBits d).2 / 8

/-- The kind pairs of R240; `byKeeper` for a submission by MV_CMD. -/
def mdPairOk (d : Bytes) (byKeeper : Bool) : Bool :=
  match mdSrcKind d, mdDstKind d with
  | 0, 0 | 0, 1 | 1, 0 | 0, 2 | 2, 0 | 3, 0 => true
  | 3, 3 => byKeeper
  | _, _ => false

/-- The checks before the first byte (R241). -/
def moverCheck (d : Bytes) (byKeeper : Bool) (s : State) : Bool :=
  let seg := num d 3 1
  let n := mdLength d
  let peer := mdSrcKind d == 1 || mdDstKind d == 1
  let unit := if mdMx d then 2048 else 64
  mdPairOk d byKeeper && decide (num d 2 1 < 4) && (seg == 0 || decide (12 ≤ seg ∧ seg ≤ 16)) && allZero (sub d 35 21)
    && decide (mdHall d < 4096 ∧ 64 ≤ n ∧ n % 64 = 0)
    && (mdSrcKind d == 3 || mdSrc d % 64 == 0) && mdDst d % 64 == 0
    && (if mdConvert d then
          Num.convOk (mdSrcFmt d) (mdDstFmt d) && 8 * n % (mdBits d).1 == 0 && mdElems d n % unit == 0
        else num d 1 1 == 0)
    && (mdScale d != 0) == mdMx d
    && (!peer || mdPeer d != s.dom.member.toNat && s.dom.joined && decide (mdPeer d < 8192)
          && ((txFor s (mdHall d) (mdPeer d) (mdStream d)).isSome || (rxFor s (mdHall d) (mdPeer d) (mdStream d)).isSome))

/-! ### Queues and segments (R242) -/

def moverOf (s : State) (m : Nat) : Mover := s.mv.movers.get m
def updMover (m : Nat) (f : Mover → Mover) (s : State) : State := s.updMv fun v => { v with movers := v.movers.mod m f }

/-- The queue of a class, and a mover with it changed. -/
def classQueue (x : Mover) (c : Nat) : List MDesc := if c = 0 then x.radio else if c = 1 then x.reserved else x.spot
def setClassQueue (x : Mover) (c : Nat) (l : List MDesc) : Mover :=
  if c = 0 then { x with radio := l } else if c = 1 then { x with reserved := l } else { x with spot := l }

/-- Has a descriptor nothing left to do? One that has not begun still has its checks before it. -/
def mdDone (x : MDesc) : Bool := x.stopped || x.started && decide (mdLength x.desc ≤ x.progress)

/-- Change of the descriptor that runs: the first of its class that is not finished. -/
def updFirst (f : MDesc → MDesc) : List MDesc → List MDesc
  | [] => []
  | x :: rest => if mdDone x then x :: updFirst f rest else f x :: rest
def updRunning (m : Nat) (f : MDesc → MDesc) (s : State) : State :=
  updMover m (fun x =>
    match x.seg with
    | some g => setClassQueue x g.cls (updFirst f (classQueue x g.cls))
    | none => x) s

/-- The descriptor of the running segment. -/
def runningDesc (x : Mover) : Option MDesc :=
  match x.seg with
  | some g => (classQueue x g.cls).find? fun d => !mdDone d
  | none => none

/-- Change of the running segment. -/
def updSeg (m : Nat) (f : Seg → Seg) (s : State) : State := updMover m (fun x => { x with seg := x.seg.map f }) s

/-- Room in a class queue of a mover. -/
def moverRoom (s : State) (m c : Nat) : Bool := decide ((classQueue (moverOf s m) c).length < 16)

/-- A descriptor joins its class queue. -/
def moverPut (m c : Nat) (d : Bytes) (work : Option Nat) (s : State) : State :=
  updMover m (fun x => { setClassQueue x c (classQueue x c ++
    [{ (default : MDesc) with desc := d, work := work, firstAt := s.now, tag := x.nextTag }]) with nextTag := x.nextTag + 1 }) s

/-- The bytes of the next segment: at most 2^SEG, whole lines on both sides; the item of a put carries at most 65,536 (R248). -/
def segBytes (d : Bytes) (progress : Nat) : Nat :=
  let unit := if mdConvert d then (if mdMx d then 256 else 64) * (mdBits d).1 / 8 else 64
  let most := if mdDstKind d = 1 then min (2 ^ mdSeg d) (65536 * (mdBits d).1 / (mdBits d).2) else 2 ^ mdSeg d
  min (mdLength d - progress) (most / unit * unit)

/-- The scale bytes of a segment: where they start, and how many there are. -/
def segScales (d : Bytes) (progress size : Nat) : Nat × Nat :=
  (mdScale d + mdElems d progress / 32, mdElems d size / 32)

/-- Source lines of a segment, and after them the lines that hold its source's scales. -/
def srcLines (size : Nat) : Nat := size / 64
def scaleLines (d : Bytes) (progress size : Nat) : Nat :=
  if mdConvert d && Num.isMx (mdSrcFmt d) && mdSrcFmt d != mdDstFmt d then
    let x := segScales d progress size
    (x.1 + x.2 + 63) / 64 - x.1 / 64
  else 0

/-- Statuses that stop a descriptor at their line (R252). -/
def stops (st : Status) : Bool := st != Status.ok && st != Status.poisoned && st != Status.authFail

/-- Does a requester's name belong to mover `m`? -/
def isMover (m : Nat) : Owner → Bool
  | .mover k _ _ => k == m
  | _ => false
/-- Outstanding remote requests of a mover (R244): REQs without their RSP, DATA frames not sent, pooled lines, host reads. Those of a
generation that a reset ended hold no place in it: their answers are dropped (R422). -/
def ofMover (s : State) (m : Nat) (o : Owner) (gen : Byte) : Bool := isMover m o && gen == ugen s (Src.mover m)
def moverRemote (s : State) (m : Nat) : Nat :=
  (s.ls.tx.foldl (fun n e => n + (e.2.unanswered.filter fun u => ofMover s m u.owner u.gen).length
      + (e.2.chunks.filter fun k => ((nonPosted k && k.item == 0) || k.type == tData) && ofMover s m k.owner k.gen).length) 0)
    + s.ls.lanes.foldl (fun n e => n + (e.2.out.filter fun f => f.chunk.type == tData && ofMover s m f.chunk.owner f.chunk.gen).length) 0
    + ((s.ln.inflight ++ s.ln.stalled).filter fun q => ofMover s m q.owner q.gen).length
    + (s.hostReads.filter fun r => ofMover s m r.owner r.gen).length

/-- Outstanding local requests of a mover. -/
def moverLocal (s : State) (m : Nat) : Nat := (s.mp.filter fun r => ofMover s m r.owner r.gen).length

/-- Has a mover reached a request limit? -/
def moverFull (s : State) (m : Nat) : Bool := decide (512 ≤ moverRemote s m ∨ 64 ≤ moverLocal s m)

/-! ### Reading a segment -/

/-- The requester's name of a source line, or of the write that a line leads to: the descriptor's number and the line counted
from the descriptor's first. -/
def moverOwner (m : Nat) (x : MDesc) (line : Nat) (store : Bool) : Owner := .mover m (x.tag * 2 ^ 32 + x.progress / 64 + line) store

/-- The lines that one request of a get asks for: at most 512 B, inside a 4 KiB page. -/
def getLines (addr left : Nat) : Nat := min (min 8 left) ((4096 - addr % 4096) / 64)

/-- The pattern line of a fill. -/
def patternLine (d : Bytes) : Bytes := (List.replicate 8 (natLe (mdSrc d) 8)).flatten

/-- May a descriptor ask for lines of its next segments while one is running? Reads from a peer or the host may, so that a mover
keeps 512 of them outstanding (R244), as long as nothing else has a claim on the next boundary (assumption 40). -/
def asksBeyond (s : State) (m : Nat) (x : MDesc) (g : Seg) : Bool :=
  let mv := moverOf s m
  (mdSrcKind x.desc == 1 || mdSrcKind x.desc == 2) && scaleLines x.desc x.progress g.size == 0 && mv.tokens.isEmpty
    && !isLanding s (Src.mover m) && !(List.range g.cls).any (fun c => (classQueue mv c).any fun d => !mdDone d)

/-- The source lines that may be asked for now, and those of them before the next segment's end after line `i`. -/
def askEnd (s : State) (m : Nat) (x : MDesc) (g : Seg) : Nat :=
  if asksBeyond s m x g then (mdLength x.desc - x.progress) / 64 else srcLines g.size + scaleLines x.desc x.progress g.size
def askLeft (s : State) (m : Nat) (x : MDesc) (g : Seg) : Nat :=
  let n := srcLines g.size
  let full := max 1 (srcLines (segBytes x.desc 0))
  if g.next < n then n - g.next else min (askEnd s m x g - g.next) (full - (g.next - n) % full)

/-- A pooled line that has entered the line table is a remote request (R244, R262 counter 5). -/
def pooledCount (m : Nat) (old s : State) : State := if s.ln.nextReq != old.ln.nextReq then s.mvCount (8 * m + 5) 1 else s

/-- One more request of the running segment's source. -/
def askSource (m : Nat) (x : MDesc) (g : Seg) (s : State) : List Ans × State :=
  let d := x.desc
  let n := srcLines g.size
  let hall := mdHall d
  let hgen := mdHgen d
  let o := moverOwner m x g.next false
  let past := asksBeyond s m x g && decide (n ≤ g.next)
  let took (k : Nat) (s : State) : State := updSeg m (fun g =>
    { g with next := g.next + k, asked := if past then g.asked else g.asked + k, beyond := if past then g.beyond + k else g.beyond }) s
  if !past && decide (n ≤ g.next) then
    let va := (segScales d x.progress g.size).1 / 64 * 64 + 64 * (g.next - n)
    match readLines 1 hall hgen va needRead o 0 s with | (k, a, s') => (a, took k (pooledCount m s s'))
  else
    let addr := mdSrc d + x.progress + 64 * g.next
    match mdSrcKind d with
    | 0 => match readLines (if addr % 128 = 0 then askLeft s m x g else 1) hall hgen addr needRead o 0 s with
      | (k, a, s') => (a, took k (pooledCount m s s'))
    | 1 =>
      let k := getLines addr (askLeft s m x g)
      match txFor s hall (mdPeer d) (mdStream d) with
      | none => (ansNow o 0 Status.permission [], took 1 s)
      | some i =>
        match txRefuses s i with
        | some st => (ansNow o 0 st [], took 1 s)
        | none =>
          if !reqRoom s i then ([], s)
          else ([], pushReq i (reqBlock 0 0 hall hgen 0 k addr 0 0 0 0) [] hall o 0 (s.mvCount (8 * m + 5) 1 |> took k))
    | 2 =>
      let k := min 8 (askLeft s m x g)
      hostRead hall addr (64 * k) o 0 (s.mvCount (8 * m + 5) 1 |> took k)
    | _ => (ansNow o 0 Status.ok (patternLine d), took 1 s)

/-- MV_EVENTS.REMOTE_FULL where a mover has reached a request limit (R262). -/
def markFull (m : Nat) (s : State) : State := if moverFull s m then s.mvEvent 4 else s

/-- Every line asked for, as far as the limits let: `fuel` bounds the requests of one call. -/
def askAll (m : Nat) : Nat → State → List Ans × State
  | 0, s => ([], s)
  | fuel + 1, s =>
    let mv := moverOf s m
    match mv.seg, runningDesc mv with
    | some g, some x =>
      if askEnd s m x g ≤ g.next ∨ (g.errs ++ g.late).any (fun e => stops e.2) then ([], s)
      else if moverFull s m then ([], s.mvEvent 4)
      else if mdSrcKind x.desc == 2 && isLanding s Src.hostPipes then ([], s)
      else
        match askSource m x g s with
        | (a, s') =>
          let s' := markFull m s'
          if ((moverOf s' m).seg.map (·.next)) = some g.next then (a, s')
          else if !a.isEmpty then (a, s')
          else askAll m fuel s'
    | _, _ => ([], s)

/-! ### Writing a segment -/

/-- The source lines that a destination line comes from. -/
def fromLines (d : Bytes) (j : Nat) : Nat × Nat :=
  let (sb, db) := mdBits d
  (64 * j * sb / db / 64, (64 * (j + 1) * sb / db + 63) / 64)

/-- A string in pieces that do not cross a 64-byte boundary of the addresses from `addr`. -/
def linePieces : Nat → Nat → Bytes → List (Nat × Bytes)
  | 0, _, _ => []
  | fuel + 1, addr, b =>
    let k := 64 - addr % 64
    if b.isEmpty then [] else (addr, b.take k) :: linePieces fuel (addr + k) (b.drop k)

/-- Bytes read by a segment, in order, bad lines as zeros. -/
def segData (g : Seg) (first n : Nat) : Bytes :=
  ((List.range n).map fun k =>
    let x := g.lines.get (first + k)
    if x.1 = Status.ok then fit x.2 64 else List.replicate 64 0#8).flatten

/-- The lines of a segment before the first that stops it. -/
def goodLines (g : Seg) (n : Nat) : Nat :=
  (g.errs.filter fun e => stops e.2).foldl (fun k e => min k (if n ≤ e.1 then 0 else e.1)) n

/-- The converted bytes of the lines that were read, their scale bytes. -/
def segConverted (x : MDesc) (g : Seg) : Bytes × Bytes :=
  let d := x.desc
  let n := srcLines g.size
  let k := goodLines g n
  let src := segData g 0 k
  if !mdConvert d then (src, [])
  else
    let sc := segScales d x.progress g.size
    let scales := sub (segData g n (scaleLines d x.progress g.size)) (sc.1 % 64) sc.2
    let e := mdElems d (64 * k)
    let e := if mdMx d then e / 32 * 32 else e
    Num.convert (mdSrcFmt d) (mdDstFmt d) (mdSat d) e (src.take (e * (mdBits d).1 / 8)) scales

/-- Does scale line `i` of a segment hold the scale of an element of destination line `j`? -/
def scaleFeeds (x : MDesc) (g : Seg) (i j : Nat) : Bool :=
  let skip := (segScales x.desc x.progress g.size).1 % 64
  let db := (mdBits x.desc).2
  decide (512 * j < 32 * (64 * (i + 1) - skip) * db ∧ 32 * (64 * i - skip) * db < 512 * (j + 1))

/-- Is a destination line built from a poisoned or unauthentic source line, or from such a line of scales? -/
def badLine (x : MDesc) (g : Seg) (j : Nat) : Bool :=
  let r := fromLines x.desc j
  let n := srcLines g.size
  g.errs.any fun e => !stops e.2 && (if e.1 < n then decide (r.1 ≤ e.1 ∧ e.1 < r.2) else scaleFeeds x g (e.1 - n) j)

/-- The source line of the first data byte of a put's frame `p`, whose first frame opens with the put block. -/
def frameLine (d : Bytes) (p : Nat) : Nat := if p = 0 then 0 else (fromLines d ((512 * p - 64) / 64)).1

/-- The 32-element blocks that the first `k` source lines of a segment hold whole. -/
def wholeBlocks (d : Bytes) (k : Nat) : Nat := mdElems d (64 * k) / 32

/-- The put item of a segment (R248): its chunks, for the TX context. -/
def putChunks (m : Nat) (x : MDesc) (data : Bytes) (hall : Nat) (gen : Byte) : List Chunk :=
  let d := x.desc
  let dst := mdDst d + mdDstBytes d x.progress
  let block := fit ([1#8, 0#8] ++ natLe hall 2 ++ natLe (mdHgen d) 2 ++ natLe 0 2 ++ natLe dst 8 ++ natLe data.length 6) 64
  let ps := pieces 512 (data.length / 512 + 1) (block ++ data)
  ((List.range ps.length).zip ps).map fun p =>
    { plainChunk tData p.2 with last := p.1 + 1 == ps.length, owner := moverOwner m x (frameLine d p.1) true, hall := hall, gen := gen }

/-- The writes of a segment once its source is in. -/
def startWrites (m : Nat) (x : MDesc) (g : Seg) (s : State) : State :=
  let d := x.desc
  let (out, scales) := segConverted x g
  let base := mdDst d + mdDstBytes d x.progress
  let ls := linePieces (out.length / 64 + 1) base out
  let numbered := (List.range ls.length).zip ls
  let at' := (segScales d x.progress g.size).1
  let sc := if Num.isMx (mdDstFmt d) && mdConvert d && mdSrcFmt d != mdDstFmt d then
      (linePieces (scales.length / 64 + 2) at' scales).map fun p =>
        ({ scale := true, pos := p.1 - at', addr := p.1, data := p.2 } : MOut) else []
  let mark (s : State) : State := s.mvCount (8 * m + 1) (64 * goodLines g (srcLines g.size))
  let s := mark s
  if injected (Src.mover m) Kind.moverUnit s then
    let s := reportFault false (Src.mover m) Kind.moverUnit (mdHall d) base m s
    updSeg m (fun g => { g with writing := true, errs := g.errs ++ [(0, Status.resetAborted)] }) s
  else if mdDstKind d = 1 then
    let lines := numbered.filter fun p => p.2.2.length == 64
    let data := (lines.map fun p => if badLine x g p.1 then List.replicate 64 0#8 else p.2.2).flatten
    let s := updSeg m (fun g => { g with outs := sc }) s
    if data.isEmpty then updSeg m (fun g => { g with writing := true }) s
    else match txFor s (mdHall d) (mdPeer d) (mdStream d) with
      | none => updSeg m (fun g => { g with writing := true, errs := g.errs ++ [(0, Status.permission)] }) s
      | some i =>
        match txRefuses s i with
        | some st => updSeg m (fun g => { g with writing := true, errs := g.errs ++ [(0, st)] }) s
        | none =>
          let l := putChunks m x data (mdHall d) (ugen s (Src.mover m))
          let s := s.mvCount (8 * m + 2) data.length
          txPush i l (updSeg m (fun g => { g with writing := true, posted := l.length }) s)
  else
    let keep := numbered.filter fun p => !badLine x g p.1
    let outs := keep.map fun p => ({ scale := false, pos := (fromLines d p.1).1, addr := p.2.1, data := p.2.2 } : MOut)
    updSeg m (fun g => { g with writing := true, outs := outs ++ sc }) s

/-- One write of a segment as it is issued: the answers that come at once. -/
def issueWrite (m : Nat) (x : MDesc) (w : MOut) (s : State) : List Ans × State :=
  let d := x.desc
  let o : Owner := moverOwner m x (if w.scale then cdiv (32 * w.pos * (mdBits d).1) 512 else w.pos) true
  match (if w.scale then 0 else mdDstKind d) with
  | 0 => match writeLine (mdHall d) (mdHgen d) w.addr needWrite w.data o 0 s with | (a, s') => (a, pooledCount m s s')
  | 2 => let r := hostWrite (mdHall d) w.addr w.data s; (ansNow o 0 r.1 [], r.2)
  | _ => if mpPresent s w.addr then ([], mpWrite w.addr w.data (mdHall d) o (Src.mover m) 0 s) else (ansNow o 0 Status.translationFault [], s)

/-- One write of a segment; its bytes count as written unless it is refused at once (R262). -/
def oneWrite (m : Nat) (x : MDesc) (w : MOut) (s : State) : List Ans × State :=
  match issueWrite m x w s with
  | (a, s) => (a, if a.all (·.status == Status.ok) then s.mvCount (8 * m + 2) w.data.length else s)

/-- What is left of the writes of a segment once source line `k` has stopped it: the earlier lines, and the scales of their blocks. -/
def cutOuts (d : Bytes) (k : Nat) (l : List MOut) : List MOut :=
  l.filterMap fun w =>
    if !w.scale then (if w.pos < k then some w else none)
    else if w.pos < wholeBlocks d k then some { w with data := w.data.take (wholeBlocks d k - w.pos) } else none

/-- The source line at which a write has stopped the segment. -/
def stopLine (g : Seg) : Option Nat :=
  match (g.errs.filter fun e => stops e.2).map (·.1) with
  | [] => none
  | k :: l => some (l.foldl min k)

/-- Every write, as far as the limits let; one that stops leaves the later ones unwritten. -/
def writeAll (m : Nat) : Nat → State → List Ans × State
  | 0, s => ([], s)
  | fuel + 1, s =>
    let mv := moverOf s m
    match mv.seg, runningDesc mv with
    | some g, some x =>
      match (match stopLine g with | some k => cutOuts x.desc k g.outs | none => g.outs) with
      | [] => ([], updSeg m (fun g => { g with outs := [] }) s)
      | w :: rest =>
        if moverFull s m then ([], s.mvEvent 4)
        else if mdDstKind x.desc == 2 && !w.scale && isLanding s Src.hostPipes then ([], s)
        else
          match oneWrite m x w (updSeg m (fun g => { g with outs := rest, posted := g.posted + 1 }) s) with
          | (a, s) => if a.isEmpty then writeAll m fuel s else (a, s)
    | _, _ => ([], s)

/-! ### The end of a segment -/

/-- The first status other than OK in source order. -/
def firstStatus (l : List (Nat × Status)) : Status :=
  (l.foldl (fun a e => match a with
    | some (p, st) => if e.1 < p then some e else some (p, st)
    | none => some e) none).elim Status.ok (·.2)

/-- Descriptors of a queue generation are dropped; their work ends with RESET_ABORTED; the abort is acknowledged (R253). -/
def applyToken (m : Nat) (t : Nat × BitVec 16) (s : State) : State :=
  let x := moverOf s m
  let mine (d : MDesc) : Bool := d.work.isSome && mdQueue d.desc == t.1 && mdQgen d.desc == t.2.toNat
  let gone := (x.radio ++ x.reserved ++ x.spot).filter mine
  let s := updMover m (fun x => { x with
    radio := x.radio.filter (!mine ·), reserved := x.reserved.filter (!mine ·), spot := x.spot.filter (!mine ·)
    tokens := x.tokens.filter (· != t) }) s
  let s := forAll gone (fun d s => match d.work with | some w => workEnd w Status.resetAborted s | none => s) s
  if (queueOf s t.1).qgen = t.2 then abortAck t.1 (engMover m) s else s

/-- Abort tokens take effect at a segment boundary. -/
def applyTokens (m : Nat) (s : State) : State :=
  let x := moverOf s m
  if x.seg.isSome then s else forAll x.tokens (applyToken m) s

/-- What a segment leaves to the next: the source lines asked for beyond it, and those of them that are in. -/
def segCarry (g : Seg) : Option Seg :=
  let n := srcLines g.size
  if g.next ≤ n ∨ g.lines.all (fun e => decide (e.1 < n)) ∧ g.beyond = 0 then none
  else some { (default : Seg) with
    next := g.next - n, beyond := g.beyond
    lines := g.lines.filterMap fun e => if n ≤ e.1 then some (e.1 - n, e.2) else none
    late := g.late.map fun e => (e.1 - n, e.2) }

/-- The segment with which a descriptor goes on. -/
def segBegin (x : MDesc) (cls : Nat) : Seg :=
  let size := segBytes x.desc x.progress
  let n := srcLines size
  match x.ahead with
  | none => { (default : Seg) with cls := cls, size := size }
  | some g =>
    let out := min g.next n - (g.lines.filter fun e => decide (e.1 < n)).length
    { g with
      cls := cls, size := size, asked := out, beyond := g.beyond - out
      errs := g.late.filter (fun e => decide (e.1 < n)), late := g.late.filter (fun e => decide (n ≤ e.1)) }

/-- The segment ends when nothing of it is out: progress, statuses, boundary. -/
def segEnd (m : Nat) (s : State) : State :=
  let mv := moverOf s m
  match mv.seg with
  | none => s
  | some g =>
    let st := firstStatus g.errs
    let halt := g.errs.any fun e => stops e.2
    let s := updRunning m (fun d => { d with
      progress := d.progress + (if halt then 64 * goodLines g (srcLines g.size) else g.size)
      status := if d.status = Status.ok then st else d.status
      stopped := halt, ahead := if halt then none else segCarry g }) s
    let s := if firstStatus (g.errs.filter fun e => stops e.2) = Status.translationFault then s.mvEvent 1 else s
    applyTokens m (updMover m (fun x => { x with seg := none }) s)

/-- The writes go on, and the segment ends with the last of them. -/
def segWrites (m : Nat) (s : State) : List Ans × State :=
  match writeAll m 4096 s with
  | (a, s) =>
    let done := a.isEmpty && (match (moverOf s m).seg with | some g => g.outs.isEmpty && g.posted == 0 | none => false)
    (a, if done then segEnd m s else s)

/-- Does a descriptor name a hall generation that has passed? A fill by physical address is no item of a hall. -/
def mdStale (s : State) (d : Bytes) : Bool := mdDstKind d != 3 && !genOk s (mdHall d) (mdHgen d)

/-- The descriptors of a passed hall generation are dropped, each counted in its hall's stale drops alone (R28 order 2). -/
def dropStale (m : Nat) (s : State) : State :=
  let mv := moverOf s m
  let late (d : MDesc) : Bool := !mdDone d && mdStale s d.desc
  let gone := (mv.radio ++ mv.reserved ++ mv.spot).filter late
  if gone.isEmpty then s
  else
    let now := match runningDesc mv with | some d => late d | none => false
    let s := updMover m (fun x => { x with
      radio := x.radio.filter (!late ·), reserved := x.reserved.filter (!late ·), spot := x.spot.filter (!late ·)
      seg := if now then none else x.seg }) s
    forAll gone (fun d s =>
      let s := hallStale (mdHall d.desc) s
      match d.work with | some w => workEnd w Status.resetAborted s | none => s) s

/-- Whatever the running segment can do now. -/
def segStep (m : Nat) (s : State) : List Ans × State :=
  if s.fcu.safe then ([], s) else
  match askAll m 4096 (dropStale m s) with
  | (a, s) =>
    let mv := moverOf s m
    match mv.seg, runningDesc mv with
    | some g, some x =>
      let halt := g.errs.any fun e => stops e.2
      if !a.isEmpty then (a, s)
      else if g.writing then segWrites m s
      else if g.asked = 0 ∧ (if halt then g.beyond = 0 else srcLines g.size + scaleLines x.desc x.progress g.size ≤ g.next) then
        segWrites m (startWrites m x g s)
      else ([], s)
    | _, _ => (a, s)

/-- The source line `line`, counted from the segment's first, is in. -/
def lineIn (x : MDesc) (g : Seg) (line : Nat) (st : Status) (data : Bytes) : Seg :=
  let within' := decide (line < srcLines g.size + scaleLines x.desc x.progress g.size)
  let bad : List (Nat × Status) := if st = Status.ok then [] else [(line, st)]
  { g with
    lines := g.lines.set line (st, data)
    asked := if within' then g.asked - 1 else g.asked
    beyond := if within' then g.beyond else g.beyond - 1
    errs := if within' then g.errs ++ bad else g.errs
    late := if within' then g.late else g.late ++ bad }

/-- A source line asked for beyond the last segment of a descriptor that has lost the mover is in. -/
def aheadIn (tag line : Nat) (st : Status) (data : Bytes) (d : MDesc) : MDesc :=
  if d.tag ≠ tag then d else { d with ahead := d.ahead.map fun g => lineIn d g (line - d.progress / 64) st data }

/-- An answer comes to a mover (R252): a source line, or the end of a write. -/
def moverTake (m n : Nat) (store : Bool) (st : Status) (data : Bytes) (s : State) : List Ans × State :=
  let mv := moverOf s m
  let tag := n / 2 ^ 32
  let line := n % 2 ^ 32
  let s := progress (watchUnit (Src.mover m)) s
  let s := if st = Status.poisoned ∧ !store then (s.mvCount (8 * m + 7) 1).mvEvent 0 else s
  match mv.seg, runningDesc mv with
  | some _, some x =>
    if x.tag = tag then
      let at' := line - x.progress / 64
      segStep m (updSeg m (fun g =>
        if store then { g with posted := g.posted - 1, errs := if st = Status.ok then g.errs else g.errs ++ [(at', st)] }
        else lineIn x g at' st data) s)
    else ([], updMover m (fun y => { y with
      radio := y.radio.map (aheadIn tag line st data), reserved := y.reserved.map (aheadIn tag line st data)
      spot := y.spot.map (aheadIn tag line st data) }) s)
  | _, _ => ([], updMover m (fun y => { y with
      radio := y.radio.map (aheadIn tag line st data), reserved := y.reserved.map (aheadIn tag line st data)
      spot := y.spot.map (aheadIn tag line st data) }) s)

/-! ### Commands and events -/

/-- The class that runs next: the highest with an unfinished descriptor. -/
def nextClass (x : Mover) : Option Nat := firstFrom (fun c => (classQueue x c).any fun d => !mdDone d) 3 0

/-- Marks of the wait behind a higher class (R379): the descriptors of lower classes wait, those of the class served do not. -/
def markWaits (m c : Nat) (s : State) : State :=
  let x := moverOf s m
  let ids (c : Nat) : List Nat := (classQueue x c).filterMap (·.work)
  let s := forAll (ids c) workUnblocked s
  forAll ((List.range 3).filter (c < ·)) (fun k s => forAll (ids k) workBlocked s) s

/-- The descriptor from which class `c` takes the mover at this boundary: the one whose segment ended here, of a lower class and
with bytes left (R262 counter 4, R387). -/
def lostMover (x : Mover) (c : Nat) : Option MDesc :=
  if c + 1 < x.running then (classQueue x (x.running - 1)).find? (fun d => d.started && !mdDone d) else none

/-- MOVER_SEGMENT (R242): at a boundary, the head of the highest class runs one segment; a segment that is running goes on. A
descriptor that fails its checks ends before it moves any byte. In Landing only a descriptor that has begun goes on (R429). -/
def moverSegmentOp (m : Nat) (s : State) : List Ans × State :=
  if s.fcu.safe then ([], s) else
  let s := applyTokens m (dropStale m s)
  let mv := moverOf s m
  if mv.seg.isSome then segStep m s
  else if decide (s.conf.movers ≤ m) || faultStall (Src.mover m) s then ([], s)
  else match nextClass mv with
    | none => ([], updMover m (fun x => { x with running := 0 }) s)
    | some c =>
      match (classQueue mv c).find? (fun d => !mdDone d) with
      | none => ([], s)
      | some x =>
        if isLanding s (Src.mover m) && !x.started then ([], s) else
        let s := match lostMover mv c with
          | some d => hallCount (mdHall d.desc) 4 1 (s.mvCount (8 * m + 4) 1)
          | none => s
        let s := markWaits m c s
        let s := updMover m (fun y => { y with seg := some (segBegin x c), running := c + 1 }) s
        if !x.started && !moverCheck x.desc x.work.isNone s then
          let s := updRunning m (fun d => { d with started := true, stopped := true, status := Status.permission }) s
          ([], applyTokens m (updMover m (fun y => { y with seg := none }) s))
        else
          let s := updRunning m (fun d => { d with started := true }) (s.mvCount (8 * m + 3) 1)
          segStep m s

/-- MOVER_DESCRIPTOR_COMPLETE (R252): the first finished descriptor of a class queue completes. -/
def descriptorComplete (m : Nat) (s : State) : State :=
  if s.fcu.safe then s else
  let mv := moverOf s m
  let ready (c : Nat) : Bool := match classQueue mv c with | d :: _ => mdDone d | [] => false
  match firstFrom ready 3 0 with
  | none => s
  | some c =>
    match classQueue mv c with
    | [] => s
    | d :: rest =>
      let s := (updMover m (fun x => setClassQueue x c rest) s).mvCount (8 * m) 1
      match d.work with
      | some w => workEnd w d.status s
      | none => (s.updMv fun v => { v with result := d.status }).mvEvent 3

def execMoverDescriptorComplete (m : Nat) (s : State) : Answer := goOn (descriptorComplete m s)

/-- MOVER_ABORT_TOKEN (R253): it takes effect now, or at the boundary that the running segment comes to. -/
def abortTokenOp (m q : Nat) (qgen : BitVec 16) (s : State) : State :=
  let s := updMover m (fun x => if x.tokens.contains (q, qgen) then x else { x with tokens := x.tokens ++ [(q, qgen)] }) s
  applyTokens m s

def execMoverAbortToken (m q : Nat) (qgen : BitVec 16) (s : State) : Answer := goOn (abortTokenOp m q qgen s)

/-- MV_DESC as bytes. -/
def mvDesc (v : Mv) : Bytes := ((List.range 16).map fun i => natLe (v.desc.get i).toNat 4).flatten

/-- MV_QINFO and MV_QPROG of a mover (R262). -/
def mvInfo (s : State) (m : Nat) : Nat :=
  let x := moverOf s m
  put 27 x.radio.length + put 22 x.reserved.length + put 17 x.spot.length
    + put 15 (match x.seg with | some g => g.cls | none => 3) + put 5 (moverRemote s m)
def mvProgress (s : State) (m : Nat) : Nat := match runningDesc (moverOf s m) with | some d => d.progress | none => 0

/-- A Keeper submission is queued or running (MV_STATUS.KBUSY). -/
def mvBusy (s : State) : Bool := s.mv.movers.any fun e => (e.2.radio ++ e.2.reserved ++ e.2.spot).any fun d => d.work.isNone

/-- One MV_CMD. -/
def mvCommand (op m : Nat) (s : State) : State :=
  let fin (st : Status) (s : State) : State := s.updMv fun v => { v with go := false, op := BitVec.ofNat 4 op, result := st }
  let s := s.updMv fun v => { v with mover := BitVec.ofNat 4 m }
  match op with
  | 1 =>
    if s.conf.movers ≤ m then fin Status.permission s
    else if isLanding s (Src.mover m) then fin Status.retryLater s
    else if !moverRoom s m 1 then fin Status.refusedCapacity s
    else fin Status.ok (moverPut m 1 (mvDesc s.mv) none s)
  | 2 =>
    if s.conf.movers ≤ m then fin Status.permission s
    else fin Status.ok (s.updMv fun v => { v with
      qinfo := BitVec.ofNat 32 (mvInfo s m), qprog := BitVec.ofNat 64 (mvProgress s m) })
  | _ => s.updMv fun v => { v with go := false, result := Status.permission }

def execMvSubmit (mover : BitVec 4) (s : State) : Answer := goOn (mvCommand 1 mover.toNat s)
def execMvQuery (mover : BitVec 4) (s : State) : Answer := goOn (mvCommand 2 mover.toNat s)

end Sys2Proof.Machine
end

