-- ==== Sys2Proof/Machine/Reduce.lean ====
section
/-! DEFINITION. The reduction units: descriptors, the ring schedule slice by slice, staging, stores and sends, aborts, and their
commands (09_movers_reduction.md R254-R264). -/

namespace Sys2Proof.Machine

-- One declaration at a time, so that the elaborator holds few threads (each takes stack of its own).
set_option Elab.async false

/-! ### Descriptors (R254, R255) -/

def rdMode (d : Bytes) : Nat := bits (num d 0 1) 0 2
def rdOp (d : Bytes) : Nat := bits (num d 0 1) 2 2
def rdSat (d : Bytes) : Bool := (num d 0 1).testBit 4
def rdIn (d : Bytes) : Nat := bits (num d 1 1) 0 4
def rdWire (d : Bytes) : Nat := bits (num d 1 1) 4 4
def rdOut (d : Bytes) : Nat := bits (num d 2 1) 0 4
def rdN (d : Bytes) : Nat := num d 4 2
def rdP (d : Bytes) : Nat := num d 6 2
def rdCE (d : Bytes) : Nat := num d 8 4
def rdSE (d : Bytes) : Nat := num d 12 4
def rdLocal (d : Bytes) : Nat := num d 16 8
def rdDst (d : Bytes) : Nat := num d 24 8
def rdIscale (d : Bytes) : Nat := num d 32 8
def rdOscale (d : Bytes) : Nat := num d 40 8
def rdPrev (d : Bytes) : Nat := num d 48 2
def rdPstream (d : Bytes) : Nat := num d 50 1
def rdNstream (d : Bytes) : Nat := num d 51 1
def rdNext (d : Bytes) : Nat := num d 52 2
def rdColl (d : Bytes) : Nat := num d 54 2

/-- The last stage of a mode, which is the number of its emitting stages (R257, R258). -/
def rdLast (d : Bytes) : Nat := if rdMode d = 0 then 2 * rdN d - 2 else rdN d - 1

/-- Bytes of `n` elements of a format. -/
def fmtBytes (code n : Nat) : Nat := n * Num.elemBits code / 8

/-- LENGTH of the item. -/
def rdLength (d : Bytes) : Nat := rdLast d * fmtBytes (rdWire d) (rdCE d)

def redOf (s : State) (u k : Nat) : RedSlot := s.rd.slots.get (4 * u + k)
def updRed (u k : Nat) (f : RedSlot → RedSlot) (s : State) : State := s.updRd fun r => { r with slots := r.slots.mod (4 * u + k) f }

/-- The slots of a unit that are not free. -/
def redSlots (s : State) (u : Nat) : List Nat := (List.range 4).filter fun k => (redOf s u k).state != 0
def redFree (s : State) (u : Nat) : Option Nat := firstFrom (fun k => (redOf s u k).state == 0) 4 0

/-- Is a descriptor acceptable to a unit (R254, R255)? -/
def redOk (s : State) (u : Nat) (d : Bytes) : Bool :=
  let i := rdIn d
  let w := rdWire d
  let o := rdOut d
  let mx := Num.isMx i || Num.isMx o
  let unit := if mx then 2048 else 64
  let intAny := i == 0xC || i == 0xD || o == 0xC || o == 0xD || w == 0xC || w == 0xD
  decide (rdMode d < 3 ∧ rdOp d < 3) && allZero [BitVec.ofNat 8 (bits (num d 0 1) 5 3)] && bits (num d 2 1) 4 4 == 0 && num d 3 1 == 0
    && decide (2 ≤ rdN d ∧ rdN d ≤ 8192 ∧ rdP d < rdN d ∧ 0 < rdCE d ∧ 0 < rdSE d)
    && rdCE d % unit == 0 && rdSE d % unit == 0 && rdCE d % rdSE d == 0
    && Num.isCode i && Num.isCode o && Num.isCode w && !Num.isMx w
    && (if intAny then i == w && w == o else Num.wireOk i w)
    && (rdIscale d != 0) == Num.isMx i && (rdOscale d != 0) == Num.isMx o
    && !(redSlots s u).any (fun k => rdColl (redOf s u k).desc == rdColl d)
    && (txFor s (mdHall d) (rdNext d) (rdNstream d)).isSome && (rxFor s (mdHall d) (rdPrev d) (rdPstream d)).isSome

/-- The put block of a slot's item (R248). -/
def redBlock (d : Bytes) : Bytes :=
  fit ([2#8, 0#8] ++ natLe (mdHall d) 2 ++ natLe (mdHgen d) 2 ++ natLe (rdColl d) 2 ++ natLe 0 8 ++ natLe (rdLength d) 6) 64

/-- A descriptor takes a slot. -/
def redPut (u k : Nat) (d : Bytes) (work : Option Nat) (s : State) : State :=
  updRed u k (fun _ => { (default : RedSlot) with
    state := 1, desc := d, work := work, expectIn := rdLength d, outbuf := redBlock d }) s

/-! ### Aborts (R261) -/

/-- A slot ends with a status: its outgoing item is aborted under R251, unless it is wholly sent, and the rest of its input is
dropped as it comes. An item of which nothing was sent is opened by its put block and then aborted, for every member of the ring
hears of the abort (R261). -/
def redAbort (u k : Nat) (st : Status) (s : State) : State :=
  let x := redOf s u k
  if x.state = 0 ∨ x.ending ≠ Status.ok then s
  else
    let d := x.desc
    let sent := x.emitted && x.sends == 0
    let s := match txFor s (mdHall d) (rdNext d) (rdNstream d) with
      | some i => if sent then s else txWithdraw i (.red u k) (if x.opened then none else some (redBlock d)) s
      | none => s
    let s := match rxFor s (mdHall d) (rdPrev d) (rdPstream d) with
      | some i => updRx i (fun c => if c.place.midItem && c.place.red && c.place.coll == rdColl d then
          { c with place := { c.place with drop := true } } else c) s
      | none => s
    (updRed u k (fun x => { x with ending := st, state := 3, inbuf := [], outbuf := [], sends := 0, emitted := true }) s).rdCount (8 * u + 4) 1

/-- Slots that match are ended. -/
def redAbortAll (p : Bytes → Bool) (st : Status) (s : State) : State :=
  forAll (s.rd.slots.filterMap fun e => if e.2.state != 0 && p e.2.desc then some e.1 else none)
    (fun n s => redAbort (n / 4) (n % 4) st s) s

/-- An abort token at a unit: its slots of the queue generation end with RESET_ABORTED. -/
def redToken (u q : Nat) (qgen : BitVec 16) (s : State) : State :=
  let mine := (redSlots s u).filter fun k =>
    let d := (redOf s u k).desc
    (redOf s u k).work.isSome && mdQueue d == q && mdQgen d == qgen.toNat
  if mine.isEmpty then abortAck q (engRed u) s else forAll mine (fun k s => redAbort u k Status.resetAborted s) s

/-! ### Slices (R256-R258) -/

/-- What a stage does. -/
structure Stage where
  input : Bool
  combine : Bool
  store : Bool
  send : Bool
deriving DecidableEq, Repr

/-- The action of a stage (R257). -/
def stageOf (d : Bytes) (k : Nat) : Stage :=
  let n := rdN d
  let last := rdLast d
  match rdMode d with
  | 2 => { input := decide (0 < k), combine := false, store := true, send := decide (k < last) }
  | m => { input := decide (0 < k), combine := decide (0 < k ∧ k ≤ n - 1)
           store := if m = 0 then decide (n - 1 ≤ k) else k == n - 1, send := decide (k < last) }

/-- Does a stage read the local operand? -/
def readsLocal (d : Bytes) (k : Nat) : Bool := k == 0 || (stageOf d k).combine

/-- The chunk of a stage. -/
def chunkOf (d : Bytes) (k : Nat) : Nat := (rdP d + rdN d - k % rdN d) % rdN d

/-- The element number at which a slice of a stage begins, in LOCAL and in DST. -/
def localElem (d : Bytes) (k j : Nat) : Nat := (if rdMode d = 2 then 0 else chunkOf d k * rdCE d) + j * rdSE d
def dstElem (d : Bytes) (k j : Nat) : Nat := (if rdMode d = 1 then 0 else chunkOf d k * rdCE d) + j * rdSE d

/-- The lines that hold a span of bytes. -/
def spanLines (addr len : Nat) : List Nat := (List.range ((addr + len + 63) / 64 - addr / 64)).map fun i => (addr / 64 + i) * 64

/-- The lines that a slice's local operand takes: its elements, then its scales. -/
def localLines (d : Bytes) (k j : Nat) : List Nat :=
  let e := localElem d k j
  spanLines (rdLocal d + fmtBytes (rdIn d) e) (fmtBytes (rdIn d) (rdSE d))
    ++ (if Num.isMx (rdIn d) then spanLines (rdIscale d + e / 32) (rdSE d / 32) else [])

/-- The local operand in the wire format, from the lines that came. -/
def localWire (d : Bytes) (k j : Nat) (lines : List MemLine) : Bytes :=
  let e := localElem d k j
  let a := rdLocal d + fmtBytes (rdIn d) e
  let n := fmtBytes (rdIn d) (rdSE d)
  let nl := (spanLines a n).length
  let data (from' cnt : Nat) : Bytes := ((List.range cnt).map fun i => fit ((lines[from' + i]?).elim [] (·.data)) 64).flatten
  let sc := rdIscale d + e / 32
  let scales := sub (data nl (spanLines sc (rdSE d / 32)).length) (sc % 64) (rdSE d / 32)
  (Num.convert (rdIn d) (rdWire d) (rdSat d) (rdSE d) (sub (data 0 nl) (a % 64) n) scales).1

/-- Translation of the local lines: the first status that is not OK. -/
def localTrans (d : Bytes) (l : List Nat) (s : State) : Status × State :=
  l.foldl (fun a va =>
    if a.1 ≠ Status.ok then a
    else match translate (mdHall d) (mdHgen d) va needRead a.2 with
      | (.ok _, s) => (Status.ok, s)
      | (.fail st, s) => (st, s)
      | (.stale, s) => (Status.hallGone, hallStale (mdHall d) s)) (Status.ok, s)

/-- Whole frames of a slot's pending output join the TX context (R258: the item's data fills frames regardless of slices); with
`last` the item has all its output, and what is left goes too. -/
def redFlush (u k : Nat) (last : Bool) (s : State) : State :=
  let x := redOf s u k
  let d := x.desc
  match txFor s (mdHall d) (rdNext d) (rdNstream d) with
  | none => s
  | some i =>
    let n := if last then x.outbuf.length else x.outbuf.length / 512 * 512
    let ps := pieces 512 (n / 512 + 1) (x.outbuf.take n)
    let chunks := ((List.range ps.length).zip ps).map fun p =>
      { plainChunk tData p.2 with
        last := last && p.1 + 1 == ps.length, owner := .red u k, hall := mdHall d, unit := 2, gen := ugen s (Src.red u) }
    txPush i chunks (updRed u k (fun x => { x with outbuf := x.outbuf.drop n, sends := x.sends + ps.length }) s)

/-- The wire bytes that are processed together: a block of 64, and 32 elements where a scale is shared. -/
def redGrain (d : Bytes) : Nat :=
  if Num.isMx (rdIn d) || Num.isMx (rdOut d) then max 64 (fmtBytes (rdWire d) 32) else 64

/-- The stores of a result: `v` holds `ne` elements, the first of them element `e` of DST. -/
def redStore (u k : Nat) (d : Bytes) (e ne : Nat) (v : Bytes) (s : State) : List Ans × State :=
  let (out, scales) := Num.convert (rdWire d) (rdOut d) (rdSat d) ne v []
  let l := linePieces (out.length / 64 + 2) (rdDst d + fmtBytes (rdOut d) e) out
    ++ (if Num.isMx (rdOut d) then linePieces (scales.length / 64 + 2) (rdOscale d + e / 32) scales else [])
  let s := if Num.isFloat (rdOut d) then s.rdCount (8 * u + 6) (Num.nanCount (rdOut d) ne out scales) else s
  let s := updRed u k (fun x => { x with stores := x.stores + l.length }) s
  l.foldl (fun a w => match writeLine (mdHall d) (mdHgen d) w.1 needWrite w.2 (.red u k) 1 a.2 with
    | (x, s) => (a.1 ++ x, s)) ([], s)

/-- The stage and slice worked on after slice `j` of stage `k` has been emitted. -/
def redThen (d : Bytes) (k j : Nat) : Nat × Nat :=
  if k + 1 < rdLast d then (k + 1, j) else if (j + 1) * rdSE d < rdCE d then (0, j + 1) else (rdLast d, j)

/-- The order of work (R258): emissions are slice-major; stage 0 of the next slice needs no input, so it goes out before the last
stage of this slice, which emits nothing, waits for its own. `none` at the end. -/
def redNext (d : Bytes) (k j : Nat) : Option (Nat × Nat) :=
  if k = rdLast d then (if (j + 1) * rdSE d < rdCE d then some (redThen d 0 (j + 1)) else none)
  else if k = 0 ∧ 0 < j then some (rdLast d, j - 1)
  else some (redThen d k j)

/-- The next stage and slice after this one, or the end. -/
def redAdvance (u k : Nat) (s : State) : State :=
  let x := redOf s u k
  match redNext x.desc x.stage x.slice with
  | some (stage, slice) =>
    updRed u k (fun x => { x with stage := stage, slice := slice, done := 0, fetched := false, localBuf := [] }) s
  | none => updRed u k (fun x => { x with state := 3, emitted := true }) s

/-- Has a slot begun: input in, or a slice done? -/
def redBegun (x : RedSlot) : Bool := decide (x.state = 2 ∨ 0 < x.stage ∨ 0 < x.slice ∨ 0 < x.done) || x.emitted || !x.inbuf.isEmpty

/-- The wire bytes of a slot's slice that can be processed now: for a stage without input all of them, otherwise what is there of
them in whole grains (R258: an output that lacks input waits for it, and the ring does not wait on itself). -/
def redReady (x : RedSlot) : Nat :=
  let d := x.desc
  let left := fmtBytes (rdWire d) (rdSE d) - x.done
  if (stageOf d x.stage).input then min left (x.inbuf.length / redGrain d * redGrain d) else left

/-- The local operand of a slot's slice enters staging: none where the stage reads none, or it is there already. -/
def redLocalNeed (x : RedSlot) : List Nat :=
  if readsLocal x.desc x.stage && !x.fetched then localLines x.desc x.stage x.slice else []

/-- `n` wire bytes of a slot's slice are combined, stored and sent. -/
def redPiece (u k n : Nat) (s : State) : List Ans × State :=
  let x := redOf s u k
  let d := x.desc
  let st := stageOf d x.stage
  let ne := n * 8 / Num.elemBits (rdWire d)
  let e := dstElem d x.stage x.slice + x.done * 8 / Num.elemBits (rdWire d)
  let whole := x.done + n == fmtBytes (rdWire d) (rdSE d)
  let r := x.inbuf.take n
  let l := sub x.localBuf x.done n
  let v := if st.combine then Num.combineBytes (rdWire d) (rdOp d) (rdSat d) ne r l else if st.input then r else l
  let s := updRed u k (fun x => { x with inbuf := if st.input then x.inbuf.drop n else x.inbuf, done := x.done + n }) s
  let s := if st.combine then s.rdCount (8 * u) ne else s
  let last := whole && x.stage + 1 == rdLast d && decide (rdCE d ≤ (x.slice + 1) * rdSE d)
  let s := if st.send then redFlush u k last (updRed u k (fun x => { x with outbuf := x.outbuf ++ v }) s) else s
  let s := if st.send && whole then s.rdCount (8 * u + 2) 1 else s
  match (if st.store then redStore u k d e ne v s else ([], s)) with
  | (a, s) =>
    let s := if st.store || st.send then progress (watchSlot u k) s else s
    (a, if whole then redAdvance u k s else s)

/-- REDUCTION_SLICE (R256-R258): the slot's next slice, or as much of it as its input allows; `lines` are its local lines, which
enter staging with its first part. -/
def redSliceOp (u k : Nat) (lines : List MemLine) (s : State) : List Ans × State :=
  let x := redOf s u k
  let d := x.desc
  let n := redReady x
  let src := Src.red u
  if x.state = 0 ∨ x.state = 3 ∨ x.ending ≠ Status.ok ∨ n = 0 ∨ (isLanding s src ∧ !redBegun x)
      ∨ faultStall src s ∨ s.fcu.safe then ([], s)
  else if memberLost s (rdNext d) || memberLost s (rdPrev d) then ([], redAbort u k Status.peerLost s)
  else
    let need := redLocalNeed x
    match localTrans d need s with
    | (e, s) =>
      if e = Status.hallGone then ([], s)
      else if e ≠ Status.ok then ([], redAbort u k e s)
      else
        let used := lines.take need.length
        let natural := used.any fun l => decide (2 ≤ l.err.toNat)
        if !need.isEmpty && checkFails natural src Kind.movePoison s then
          let s := reportFault natural src Kind.movePoison (mdHall d) (rdLocal d) u s
          ([], redAbort u k Status.poisoned ((s.rdCount (8 * u + 5) 1).rdEvent 1))
        else if injected src Kind.redUnit s then
          ([], redAbort u k Status.resetAborted (reportFault false src Kind.redUnit (mdHall d) (rdLocal d) u s))
        else
          let s := if used.isEmpty then s else memCorrected (used.any fun l => l.err == 1#2) (mdHall d) (rdLocal d) s
          let s := if need.isEmpty then s
            else updRed u k (fun y => { y with fetched := true, localBuf := localWire d x.stage x.slice lines }) s
          redPiece u k n s

/-! ### Input (R259) -/

/-- The slot that a RED item of an RX context goes to. -/
def redSlotFor (s : State) (c : RxCtx) (coll : Nat) : Option (Nat × Nat) :=
  match s.rd.slots.find? fun e => e.2.state != 0 && e.2.ending == Status.ok && mdHall e.2.desc == c.hall
      && rdPrev e.2.desc == c.src.toNat && rdPstream e.2.desc == c.stream.toNat && rdColl e.2.desc == coll && 0 < e.2.expectIn with
  | some e => some (e.1 / 4, e.1 % 4)
  | none => none

/-- The live slots that an RX context's RED items go to, whatever their COLL. -/
def redSlotsOf (s : State) (c : RxCtx) : List (Nat × RedSlot) :=
  s.rd.slots.filter fun e => e.2.state != 0 && e.2.ending == Status.ok && mdHall e.2.desc == c.hall
    && rdPrev e.2.desc == c.src.toNat && rdPstream e.2.desc == c.stream.toNat

/-- Is a RED item of a COLL that no slot has a second one for the slot of its context, whose own item has begun (R266)? DEDUCED,
assumption 177. -/
def redSecond (s : State) (c : RxCtx) (coll : Nat) : Bool :=
  (redSlotsOf s c).all (fun e => rdColl e.2.desc != coll) && (redSlotsOf s c).any fun e => decide (e.2.expectIn < rdLength e.2.desc)

/-- Room in a unit's 32 KiB of staging. -/
def redRoom (s : State) (u n : Nat) : Bool :=
  decide (((List.range 4).foldl (fun a k => a + (redOf s u k).inbuf.length) 0) + n ≤ 32768)

/-- Bytes of an item enter a slot's staging. -/
def redFeed (u k : Nat) (b : Bytes) (s : State) : State :=
  progress (watchSlot u k) <| updRed u k (fun x => { x with
    inbuf := x.inbuf ++ b, expectIn := x.expectIn - b.length, state := if x.state = 1 then 2 else x.state }) s

/-- A put block whose LENGTH is not the slot's expectation. -/
def redMismatch (natural : Bool) (u k : Nat) (s : State) : State :=
  let d := (redOf s u k).desc
  redAbort u k Status.permission ((reportFault natural (Src.red u) Kind.redMismatch (mdHall d) 0 u s).rdEvent 3)

/-- The incoming item of a slot is aborted, or enters skip. -/
def redInputLost (u k : Nat) (s : State) : State := redAbort u k Status.resetAborted (s.rdEvent 0)

/-! ### Completion and commands -/

/-- An answer comes to a slot: a store drained, a frame sent, or either failed. -/
def redTake (u k unit : Nat) (st : Status) (s : State) : State :=
  let x := redOf s u k
  if x.state = 0 then s
  else
    let s := updRed u k (fun x => if unit = 1 then { x with stores := x.stores - 1 } else { x with sends := x.sends - 1, opened := x.opened || st == Status.ok }) s
    if st = Status.ok then s else redAbort u k st s

/-- REDUCTION_SLOT_COMPLETE (R261): with its stores drained and its item sent, or aborted, the slot completes. -/
def redCompleteOp (u k : Nat) (s : State) : State :=
  let x := redOf s u k
  if x.state ≠ 3 ∨ 0 < x.stores ∨ 0 < x.sends ∨ s.fcu.safe then s
  else
    let d := x.desc
    let s := updRed u k (fun _ => default) s
    let s := if x.ending = Status.ok then s.rdCount (8 * u + 1) 1 else s
    match x.work with
    | none => s
    | some w =>
      let s := workEnd w x.ending s
      let left := (redSlots s u).any fun k => mdQueue (redOf s u k).desc == mdQueue d && (redOf s u k).work.isSome
      if left then s else if (queueOf s (mdQueue d)).qgen.toNat = mdQgen d then abortAck (mdQueue d) (engRed u) s else s

def execReductionSlotComplete (u slot : Nat) (s : State) : Answer := goOn (redCompleteOp u slot s)

/-- RD_QINFO and RD_QCOLL (R263). -/
def rdInfo (x : RedSlot) : Nat := put 30 x.state + put 16 (x.stage % 2 ^ 14) + x.slice % 2 ^ 16
def rdCollInfo (x : RedSlot) : Nat := put 16 (rdColl x.desc) + rdPrev x.desc

/-- One RD_CMD. The window of a block without reduction units is not there (R263). -/
def rdCommand (op u k : Nat) (s : State) : State :=
  if s.conf.redUnits = 0 then s
  else
    let fin (st : Status) (s : State) : State := s.updRd fun r => { r with go := false, op := BitVec.ofNat 4 op, result := st }
    let s := s.updRd fun r => { r with unit := BitVec.ofNat 3 u, slot := BitVec.ofNat 2 k }
    let there := decide (u < s.conf.redUnits)
    match op with
    | 1 =>
      if !there then fin Status.permission s
      else fin Status.ok (s.updRd fun r => { r with
        qinfo := BitVec.ofNat 32 (rdInfo (redOf s u k)), qcoll := BitVec.ofNat 32 (rdCollInfo (redOf s u k)) })
    | 2 =>
      if !there || (redOf s u k).state == 0 then fin Status.permission s
      else fin Status.ok (redAbort u k Status.resetAborted s)
    | _ => s.updRd fun r => { r with go := false, result := Status.permission }

def execRdQuery (u : BitVec 3) (slot : BitVec 2) (s : State) : Answer := goOn (rdCommand 1 u.toNat slot.toNat s)
def execRdAbort (u : BitVec 3) (slot : BitVec 2) (s : State) : Answer := goOn (rdCommand 2 u.toNat slot.toNat s)

end Sys2Proof.Machine
end

