-- ==== Sys2Proof/Machine/Atomic.lean ====
section
/-! DEFINITION. The home side of remote requests: the home line table, atomics in the combining buffer, answers, and the atomic
unit's commands (10_remote_atomics.md R267-R284). -/

namespace Sys2Proof.Machine

-- One declaration at a time, so that the elaborator holds few threads (each takes stack of its own).
set_option Elab.async false

/-! ### Request blocks (R269) -/

def rqOp (b : Bytes) : Nat := num b 0 1
def rqFlags (b : Bytes) : Nat := num b 1 1
def rqHall (b : Bytes) : Nat := num b 2 2
def rqHgen (b : Bytes) : Nat := num b 4 2
def rqKind (b : Bytes) : Nat := num b 6 1
def rqN (b : Bytes) : Nat := num b 7 1
def rqAddr (b : Bytes) : Nat := num b 8 8
def rqRegion (b : Bytes) : Nat := num b 16 2
def rqMask (b : Bytes) : Nat := num b 18 2
def rqNum (b : Bytes) : Nat := num b 20 4
def rqBe (b : Bytes) : Nat := num b 24 8
def rqSwap (b : Bytes) : Nat := num b 32 8

/-- Is the operation posted, an atomic? -/
def rqPosted (b : Bytes) : Bool := rqOp b == 1
def rqAtomic (b : Bytes) : Bool := decide (2 ≤ rqOp b ∧ rqOp b ≤ 5)

/-- Does a REQ payload obey the table of R269? -/
def reqFormOk (p : Bytes) : Bool :=
  let b := p.take 64
  let op := rqOp b
  let n := rqN b
  let w64 := (rqFlags b).testBit 0
  let units := if op = 1 then n else if op = 2 ∨ op = 3 ∨ op = 4 then 1 else 0
  (decide (op ≤ 5) || op == 15) && decide (rqFlags b < 4 ∧ rqHall b < 4096 ∧ rqKind b < 2) && allZero (sub b 40 24)
    && (if op = 0 then decide (1 ≤ n ∧ n ≤ 8) else if op = 1 then decide (1 ≤ n ∧ n ≤ 7) else n == 1)
    && p.length == 64 + 64 * units
    && rqAddr b % 64 == 0 && decide (rqAddr b % 4096 + 64 * n ≤ 4096)
    && (rqKind b == 1 || rqRegion b == 0)
    && (if rqAtomic b then (!w64 || decide (rqMask b < 256)) && (op != 5 || popCount (BitVec.ofNat 32 (rqMask b)) == 1) else rqMask b == 0)
    && (op != 1 || rqNum b == 0)
    && (if op = 1 then n == 1 || rqBe b == 2 ^ 64 - 1 else if op = 5 then w64 || decide (rqBe b < 2 ^ 32) else rqBe b == 0)
    && (if op = 5 then w64 || decide (rqSwap b < 2 ^ 32) else rqSwap b == 0)

/-! ### Frames of an RX context -/

/-- Is a frame held for its floor (R160)? -/
def isOrdered (h : HeldFrame) : Bool := h.type == tSignal || h.type == tClose

/-- A frame that its consumer has and that waits for nothing counts as released; SIGNAL and CLOSE go when they are released. -/
def heldGone (h : HeldFrame) : Bool := h.taken && h.writes == 0 && !isOrdered h

/-- Change of a held frame; frames that count as released leave. -/
def updHeld (i seq : Nat) (f : HeldFrame → HeldFrame) (s : State) : State :=
  let c := rxOf s i
  let l := c.held.map fun h => if h.seq = seq then f h else h
  let gone := (l.filter fun h => heldGone h && h.type != tGap).length
  let s := updRx i (fun c => { c with held := l.filter fun h => !heldGone h }) s
  if gone = 0 then s else rxCount (rxPipe s (rxLane c)) 0 gone s

/-- A frame is handed over and waits for `n` more things. -/
def takeHeld (i seq n : Nat) (s : State) : State := updHeld i seq (fun h => { h with taken := true, writes := n }) s

/-- One of the things that a frame's release waits for is there. -/
def heldDone (i seq : Nat) (s : State) : State := updHeld i seq (fun h => { h with writes := h.writes - 1 }) s

/-- The first status other than OK that an RX context keeps for its next SIGNAL (R250). -/
def keepRx (i : Nat) (st : Status) (s : State) : State :=
  if st = Status.ok then s else updRx i (fun c => if c.kept = Status.ok then { c with kept := st } else c) s

/-! ### The home line table (R273) -/

def updHome (id : Nat) (f : HomeReq → HomeReq) (s : State) : State :=
  s.updAu fun a => { a with queue := a.queue.map fun r => if r.id = id then f r else r }
def homeReq (s : State) (id : Nat) : Option HomeReq := s.au.queue.find? (·.id == id)

/-- The number of units of an entry. -/
def homeUnits (r : HomeReq) : Nat := if r.fixed.isSome then 0 else r.targets.length

/-- A unit of an entry ends. A store's frame counts as released with its last unit, an atomic's when it has been applied. -/
def homeUnitDone (id u : Nat) (st : Status) (data : Bytes) (s : State) : State :=
  match homeReq s id with
  | none => s
  | some r =>
    if r.done.contains u then s
    else
      let s := progress (watchUnit Src.au) s
      let s := updHome id (fun r => { r with
        started := if r.started.contains u then r.started else u :: r.started
        done := u :: r.done, units := r.units.set u (st, data) }) s
      if r.owner != .none then s
      else
        let s := if rqPosted r.block then keepRx r.ctx st s else s
        if rqPosted r.block || rqAtomic r.block then heldDone r.ctx r.seq s else s

/-- Used entries of the request queue: an answer that only leaves takes none. -/
def rqUsed (s : State) : Nat := (s.au.queue.filter (·.fixed.isNone)).length

/-- Used response entries: answers owed, and RSP items not sent. -/
def rspUsed (s : State) : Nat :=
  (s.au.queue.filter fun r => !rqPosted r.block).length
    + s.ls.tx.foldl (fun n e => n + (e.2.chunks.filter fun k => k.type == tRsp && k.last).length) 0

/-- Room for a request (R278): 64 of the 512 entries are kept for class 0, and `more` response entries are taken. -/
def homeRoom (s : State) (class0 : Bool) (more : Nat) : Bool :=
  decide (rqUsed s < (if class0 then 512 else 448) ∧ rspUsed s + more ≤ 4096)

/-- An entry joins the table, with its own number. The last entry of the request queue or of the response table that is taken sets
QUEUE_FULL (R283). -/
def homeAdd (r : HomeReq) (s : State) : State :=
  let s := s.updAu fun a => { a with queue := a.queue ++ [{ r with id := a.nextReq }], nextReq := a.nextReq + 1 }
  if (r.fixed.isNone && rqUsed s == 512) || (!rqPosted r.block && rspUsed s == 4096) then s.auEvent 0 else s

/-- What an operation needs of a page (R268, R354). -/
def homeNeed (b : Bytes) : Need :=
  { targets := [0, 1], rd := rqOp b == 0 || rqAtomic b, wr := rqOp b == 1 || rqAtomic b, atm := rqAtomic b }

/-- The target of a unit: its status, 0 or region + 1, address (R267, R268); an atomic at a block without the unit is refused and
counted (R13). -/
def homeTarget (b : Bytes) (u : Nat) (s : State) : (Status × Nat × Nat) × State :=
  let a := rqAddr b + 64 * u
  let vaultOnly (r : Nat) (a : Nat) (s : State) : (Status × Nat × Nat) × State :=
    if rqAtomic b && !isVault r then ((Status.permission, 0, 0), s) else ((Status.ok, r + 1, a), s)
  if rqAtomic b && !s.conf.atomic then ((Status.permission, 0, 0), hallCount (rqHall b) 11 1 s)
  else if rqKind b = 1 then
    if isVault (rqRegion b) && !s.conf.tree then ((Status.permission, 0, 0), hallCount (rqHall b) 11 1 s)
    else if isVault (rqRegion b) && s.conf.atomic then ((Status.ok, rqRegion b + 1, a), s) else ((Status.permission, 0, 0), s)
  else match translate (rqHall b) (rqHgen b) a (homeNeed b) s with
    | (.ok (.mem pa), s) => ((Status.ok, 0, pa), s)
    | (.ok (.region r off), s) => vaultOnly r off s
    | (.ok (.peer _ _ _ _ _), s) => ((Status.permission, 0, 0), s)
    | (.fail st, s) => ((st, 0, 0), s)
    | (.stale, s) => ((Status.hallGone, 0, 0), hallStale (rqHall b % 4096) s)

/-- The targets of every unit. -/
def homeTargets (b : Bytes) (s : State) : List (Status × Nat × Nat) × State :=
  (List.range (max 1 (rqN b))).foldl (fun a u => match homeTarget b u a.2 with | (t, s) => (a.1 ++ [t], s)) ([], s)

/-- An entry for a request, its units that have no target already ended. -/
def homeEnter (ctx seq : Nat) (o : Owner) (p : Bytes) (s : State) : State :=
  let b := p.take 64
  match homeTargets b s with
  | (ts, s) =>
    let id := s.au.nextReq
    let r : HomeReq := { (default : HomeReq) with
      ctx := ctx, seq := seq, owner := o, hall := rqHall b, block := b, data := p.drop 64, targets := ts }
    forAll ((List.range ts.length).zip ts) (fun x s => if x.2.1 = Status.ok then s else homeUnitDone id x.1 x.2.1 [] s) (homeAdd r s)

/-! ### The combining buffer (R275) -/

def combOf (s : State) (e : Nat) : Comb := s.au.comb.get e
def updComb (e : Nat) (f : Comb → Comb) (s : State) : State := s.updAu fun a => { a with comb := a.comb.mod e f }

/-- The entry that holds a line. -/
def combFor (s : State) (region addr : Nat) : Option Nat :=
  match s.au.comb.find? fun e => e.2.live && e.2.region == region && e.2.addr == addr with
  | some e => some e.1
  | none => none

/-- An entry goes. -/
def combFree (e : Nat) (s : State) : State := s.updAu fun a => { a with comb := a.comb.set e default, lru := a.lru.filter (· != e) }

/-- Who waits for a write-back has it: a SIGNAL's frame; a flush is looked at by `flushStep`. -/
def sigsDone (l : List (Nat × Nat)) (s : State) : State := forAll l (fun g s => if g.1 < 512 then heldDone g.1 g.2 s else s) s

/-- A write-back of an entry begins: the snapshot is what it holds now (R285). -/
def combWrite (e : Nat) (s : State) : List Ans × State :=
  let c := combOf s e
  let s := updComb e (fun c => { c with dirty := false, writing := true }) s
  if c.region = 0 then ([], mpWrite c.addr c.data c.hall (.comb e) Src.au 1 s)
  else
    let gen := (hallOf s c.hall).hgen.toNat
    lineIssue (engineLine c.hall gen (c.region - 1) c.addr) .write (~~~0#64) c.data (.comb e) 1 true s

/-- Write-back asked for by `who`: now, with one that is on its way, or after it. -/
def combClean (e : Nat) (who : Nat × Nat) (s : State) : List Ans × State :=
  let c := combOf s e
  if c.writing then
    ([], updComb e (fun c => if c.dirty then { c with sigsNext := c.sigsNext ++ [who] } else { c with sigs := c.sigs ++ [who] }) s)
  else if c.dirty then combWrite e (updComb e (fun c => { c with sigs := c.sigs ++ [who] }) s)
  else ([], s)

/-- The entries of a hall, or of every hall, that are dirty or being written. -/
def combDirty (s : State) (hall : Option Nat) : List Nat :=
  s.au.comb.filterMap fun e =>
    if e.2.live && (e.2.dirty || e.2.writing) && (match hall with | some h => e.2.hall == h | none => true) then some e.1 else none

/-- A flush ends when the lines that it wrote back have drained (R281). -/
def flushStep (s : State) : State :=
  if s.au.flushing && !s.au.comb.any (fun e => (e.2.sigs ++ e.2.sigsNext).any fun g => g.1 == 512) then
    s.updAu fun a => { a with flushing := false, go := false, result := Status.ok }
  else s

/-- A write-back's end: the entry is clean unless it changed; it goes if it was a victim that nothing waits on. -/
def combWritten (e : Nat) (s : State) : List Ans × State :=
  let c := combOf s e
  let s := sigsDone c.sigs (s.auCount 4)
  let s := updComb e (fun c => { c with writing := false, sigs := c.sigsNext, sigsNext := [] }) s
  if !c.sigsNext.isEmpty then combWrite e s
  else
    let c := combOf s e
    ([], flushStep (if c.evict && !c.dirty && c.waiting.isEmpty then combFree e s else updComb e (fun c => { c with evict := false }) s))

/-- A place for a new line: a free entry, or the least recently used one that nothing waits on, once a dirty one is written back. -/
def combPlace (s : State) : List Ans × Option Nat × State :=
  match firstFrom (fun i => !(combOf s i).live) 256 0 with
  | some i => ([], some i, s)
  | none =>
    let s' := s.auEvent 1
    match s.au.lru.find? fun i => (combOf s i).waiting.isEmpty && !(combOf s i).filling with
    | none => ([], none, s')
    | some i =>
      let c := combOf s i
      if c.writing then ([], none, updComb i (fun c => { c with evict := true }) s')
      else if c.dirty then
        match combWrite i (updComb i (fun c => { c with evict := true }) s') with
        | (a, s) => (a, none, s)
      else ([], some i, combFree i s)

/-- A unit joins what waits on an entry. -/
def combJoin (e id u : Nat) (s : State) : State :=
  updHome id (fun r => { r with started := u :: r.started })
    ((updComb e (fun c => { c with waiting := c.waiting ++ [(id, u)], evict := false }) s).updAu fun a => { a with
      lru := a.lru.filter (· != e) ++ [e] })

/-- Is the region of a target TAINTED (R277), found when the update is applied? -/
def targetTainted (s : State) (region : Nat) : Bool := region != 0 && (regionOf s (region - 1)).state == .tainted

/-- The line that a store makes of an old one. -/
def storeLine (r : HomeReq) (u : Nat) (old : Bytes) : Bytes :=
  let be := if rqN r.block = 1 then rqBe r.block else 2 ^ 64 - 1
  mergeBytes (fit old 64) (fit (sub r.data (64 * u) 64) 64) be

/-- Loads at the head of what waits on a filled entry are served. -/
def serveLoads (e : Nat) : Nat → State → State
  | 0, s => s
  | fuel + 1, s =>
    let c := combOf s e
    match c.waiting with
    | (id, u) :: rest =>
      match homeReq s id with
      | some r =>
        if !c.filling && rqOp r.block == 0 then
          serveLoads e fuel (homeUnitDone id u Status.ok c.data (updComb e (fun c => { c with waiting := rest }) s))
        else s
      | none => serveLoads e fuel (updComb e (fun c => { c with waiting := rest }) s)
    | [] => s

/-- A filled entry is given up: everything that waits on it ends with a status. -/
def combDrop (e : Nat) (st : Status) (s : State) : State :=
  let c := combOf s e
  forAll c.waiting (fun x s => homeUnitDone x.1 x.2 st [] s) (combFree e (sigsDone (c.sigs ++ c.sigsNext) s))

/-- ATOMIC_UPDATE_APPLY (R274, R275, R277): the first update that waits on a filled entry. -/
def atomicApply (e : Nat) (s : State) : State :=
  let c := combOf s e
  match c.waiting with
  | [] => s
  | (id, u) :: rest =>
    match homeReq s id with
    | none => updComb e (fun c => { c with waiting := rest }) s
    | some r =>
      if !c.live || c.filling then s
      else
        let b := r.block
        let detail := r.ctx % 512
        let addr := rqAddr b + 64 * u
        let dirtied (f : Comb → Bytes) (s : State) : State :=
          updComb e (fun c => { c with data := f c, dirty := true, reqHall := r.hall, reqAddr := addr, reqCtx := detail }) s
        let next (s : State) : State := serveLoads e 4096 (updComb e (fun c => { c with waiting := rest }) s)
        if s.au.inject || injected Src.au Kind.atomUnit s then
          let s := if s.au.inject then
              sendFault Src.au (mkFault Kind.atomUnit r.hall addr detail true) (s.updAu fun a => { a with inject := false })
            else reportFault false Src.au Kind.atomUnit r.hall addr detail s
          combDrop e Status.resetAborted (if c.dirty then s.auEvent 2 else s)
        else if injected Src.au Kind.atomLost s && c.dirty then
          combDrop e Status.poisoned ((reportFault false Src.au Kind.atomLost r.hall addr detail s).auEvent 2)
        else if targetTainted s c.region then next (homeUnitDone id u Status.integrityTainted [] s)
        else
          let s := if injected Src.au Kind.atomEcc s then (reportFault false Src.au Kind.atomEcc r.hall addr detail s).auEvent 5 else s
          if rqAtomic b then
            let new := Num.atomLine (rqOp b) ((rqFlags b).testBit 0) ((rqFlags b).testBit 1) (rqMask b) c.data (fit r.data 64)
              (rqBe b) (rqSwap b)
            next (homeUnitDone id u Status.ok c.data ((dirtied (fun _ => new) s).auCount 1))
          else next (homeUnitDone id u Status.ok [] (dirtied (fun c => storeLine r u c.data) s))

/-- COMBINING_FILL_DONE (R275): the line is there, or nothing is allocated and its atomics end with the fill's status. -/
def combFilled (e : Nat) (st : Status) (data : Bytes) (s : State) : State :=
  let c := combOf s e
  if !c.live || !c.filling then s
  else if st = Status.ok then serveLoads e 4096 (updComb e (fun c => { c with filling := false, data := fit data 64 }) s)
  else
    let atom (x : Nat × Nat) : Bool := match homeReq s x.1 with | some r => rqAtomic r.block | none => false
    let s := combFree e s
    let s := forAll (c.waiting.filter atom) (fun x s => homeUnitDone x.1 x.2 st [] s) s
    forAll (c.waiting.filter fun x => !atom x) (fun x s => updHome x.1 (fun r => { r with started := r.started.filter (· != x.2) }) s) s

/-! ### Service in table order -/

/-- Must a unit wait for an earlier operation on its line? -/
def lineBusy (before : List HomeReq) (held : Bool) (region addr : Nat) : Bool :=
  before.any fun r => ((List.range r.targets.length).zip r.targets).any fun x =>
    x.2.2 == (region, addr) && !r.done.contains x.1 && (!held || !r.started.contains x.1)

/-- Start of one unit of an entry. An atomic, and an operation on a held line, meets the region's checks here (R268); another one where
the line pipes accept it. -/
def homeStart (before : List HomeReq) (r : HomeReq) (u region addr : Nat) (s : State) : List Ans × State :=
  let b := r.block
  let o : Owner := .home r.id u
  let held := combFor s region addr
  let begun (s : State) : State := updHome r.id (fun r => { r with started := u :: r.started }) s
  let acc := engineLine r.hall (rqHgen b) (region - 1) addr
  let refused := if region != 0 && (rqAtomic b || held.isSome) then lineRefusal acc (if rqOp b = 0 then .read else .write) false s else none
  if lineBusy before held.isSome region addr then ([], s)
  else match refused, held with
    | some (st, _), _ => ([], homeUnitDone r.id u st [] s)
    | none, some e => let s := combJoin e r.id u (s.auCount 2); ([], if rqOp b = 0 then serveLoads e 4096 s else s)
    | none, none =>
      if rqAtomic b then
        match combPlace s with
        | (a, none, s) => (a, s)
        | (a, some e, s) =>
          let s := updComb e (fun _ => { (default : Comb) with
            live := true, hall := r.hall, region := region, addr := addr, filling := true }) (s.auCount 3)
          let s := combJoin e r.id u s
          if region = 0 then (a, mpRead addr r.hall (.comb e) Src.au 0 s)
          else match lineIssue acc .read 0#64 [] (.comb e) 0 false s with
            | (x, s) => (a ++ x, s)
      else if rqOp b = 0 then
        if region = 0 then ([], mpRead addr r.hall o Src.au u (begun s)) else lineIssue acc .read 0#64 [] o u false (begun s)
      else
        let be := if rqN b = 1 then rqBe b else 2 ^ 64 - 1
        let data := fit (sub r.data (64 * u) 64) 64
        if region = 0 then ([], mpWriteBe addr be data r.hall o Src.au u (begun s))
        else if be = 2 ^ 64 - 1 then lineIssue acc .write (~~~0#64) data o u false (begun s)
        else lineIssue acc .partialWrite (BitVec.ofNat 64 be) data o u false (begun s)

/-- Every unit of an entry that can start. -/
def homeBegin (id : Nat) (s : State) : List Ans × State :=
  match homeReq s id with
  | none => ([], s)
  | some r =>
    let before := s.au.queue.takeWhile (·.id != id)
    if r.fixed.isSome then ([], s)
    else ((List.range r.targets.length).zip r.targets).foldl (fun a x =>
      match homeReq a.2 id with
      | some q =>
        if q.started.contains x.1 || q.done.contains x.1 then a
        else match homeStart before q x.1 x.2.2.1 x.2.2.2 a.2 with | (l, s) => (a.1 ++ l, s)
      | none => a) ([], s)

/-! ### Answers (R270) -/

/-- Is an entry finished? -/
def homeFinished (r : HomeReq) : Bool := r.fixed.isSome || r.done.length == r.targets.length

/-- A unit's result. -/
def homeResult (r : HomeReq) (u : Nat) : Status × Bytes := r.units.get u

/-- The first status other than OK in unit order. -/
def homeStatus (r : HomeReq) : Status :=
  match r.fixed with
  | some st => st
  | none => ((List.range r.targets.length).map fun u => (homeResult r u).1).foldl (fun a st => if a = Status.ok then st else a) Status.ok

/-- The frames of an RSP item: data form, or the status form of two frames. -/
def rspFrames (r : HomeReq) : List (Bool × Bytes) :=
  let n := homeUnits r
  let us := (List.range n).map fun u => homeResult r u
  let block (count : Nat) (sts : List Status) : Bytes :=
    fit (natLe (homeStatus r).toNat 2 ++ natLe count 1 ++ [0#8] ++ natLe (rqNum r.block) 4 ++ (sts.map fun x => natLe x.toNat 2).flatten) 64
  let body (x : Status × Bytes) : Bytes := if x.1 = Status.ok then fit x.2 64 else List.replicate 64 0#8
  if r.fixed.isNone && homeStatus r == Status.ok then [(true, (us.map body).flatten)]
  else if n = 0 then [(false, block 0 []), (true, List.replicate 64 0#8)]
  else [(false, block n (us.map (·.1))), (true, (us.map body).flatten)]

/-- The answer of an entry leaves: an RSP item on the stream's reverse direction, or to the block's own requester. -/
def homeAnswer (r : HomeReq) (s : State) : List Ans × State :=
  let s := s.updAu fun a => { a with queue := a.queue.filter (·.id != r.id) }
  let s := if r.fixed.isSome then s else s.auCount 0
  if r.owner != .none then
    ([{ owner := r.owner, unit := 0, status := homeStatus r, data := (homeResult r 0).2 }], s)
  else if rqPosted r.block then ([], s)
  else
    let c := rxOf s r.ctx
    match txFor s c.hall c.src.toNat c.stream.toNat with
    | none => ([], s)
    | some i =>
      match txRefuses s i with
      | some _ => ([], s)
      | none =>
        let l := (rspFrames r).map fun f =>
          { plainChunk tRsp f.2 with last := f.1, owner := .home r.id 0, hall := c.hall, unit := rqNum r.block }
        ([], txPush i l s)

/-- Finished entries leave the table; the answers of one context keep the order of its REQs. -/
def homeRetire (s : State) : List Ans × State :=
  let x := s.au.queue.foldl (fun (a : List Ans × List Nat × State) r =>
    let ordered := r.owner == .none && !rqPosted r.block
    if homeFinished r && !(ordered && a.2.1.contains r.ctx) then
      match homeAnswer r a.2.2 with | (l, s) => (a.1 ++ l, a.2.1, s)
    else (a.1, if ordered then r.ctx :: a.2.1 else a.2.1, a.2.2)) ([], [], s)
  (x.1, x.2.2)

/-- Dirty lines of regions that REGION_ERASE or REGION_FREE ends, for their write-back (R285). -/
def combEnding (s : State) : List Nat :=
  s.au.comb.filterMap fun e =>
    let x := regionOf s (e.2.region - 1)
    if e.2.live && e.2.dirty && !e.2.writing && e.2.region != 0 && (x.state == .erasing || x.freeing) then some e.1 else none

/-- The table does what it can. -/
def homeKick (s : State) : List Ans × State :=
  match eachAns (s.au.queue.map (·.id)) homeBegin s with
  | (a, s) => match homeRetire s with
    | (b, s) => match eachAns (combEnding s) combWrite s with
      | (c, s) => (a ++ b ++ c, s)

/-! ### Acceptance (R271, R278) -/

/-- What the number of a non-posted REQ says. -/
inductive ReqNum where
  | serve
  | fill (first count : Nat)
  | sync
  | drop
deriving DecidableEq, Repr

/-- Distance from `e` to `q` in the numbering that skips 0. -/
def numAhead (e q : Nat) : Nat := (q + (2 ^ 32 - 1) - e) % (2 ^ 32 - 1)

def reqNumber (c : RxCtx) (b : Bytes) : ReqNum :=
  let q := rqNum b
  if rqOp b = 15 then .sync
  else match c.homeNum with
    | none => .serve
    | some e =>
      let d := numAhead e q
      if q = 0 then .drop else if d = 0 then .serve else if d ≤ 1024 then .fill e d else .drop

/-- The `k`-th number from `e`. -/
def numPlus (e k : Nat) : Nat := (e - 1 + k) % (2 ^ 32 - 1) + 1

/-- An entry answered with a status alone. -/
def homeFixed (ctx rnum : Nat) (st : Status) (s : State) : State :=
  homeAdd { (default : HomeReq) with ctx := ctx, hall := (rxOf s ctx).hall, block := fit (List.replicate 20 0#8 ++ natLe rnum 4) 64, fixed := some st } s

/-- A REQ whose number is in order is served (R268, R269, R279). -/
def homeServe (i : Nat) (h : HeldFrame) (s : State) : State :=
  let b := h.payload.take 64
  let refuse (st : Status) (s : State) : State :=
    let s := takeHeld i h.seq 0 s
    if rqPosted b then keepRx i st s else homeFixed i (rqNum b) st s
  if isLanding s Src.au then refuse Status.retryLater s
  else if !reqFormOk h.payload then refuse Status.permission s
  else
    let n := if rqPosted b || rqAtomic b then max 1 (rqN b) else 0
    homeEnter i h.seq .none h.payload (takeHeld i h.seq n s)

/-- A REQ dropped under R271. -/
def reqFraming (i : Nat) (h : HeldFrame) (natural : Bool) (s : State) : State :=
  let c := rxOf s i
  let s := reportFault natural Src.au Kind.reqFraming c.hall (rqAddr h.payload) (i % 512) s
  takeHeld i h.seq 0 ((rxCount (rxPipe s (rxLane c)) 5 1 s).auEvent 3)

/-- SYNC (R271): the next number follows its own, and it is answered with OK. One that breaks the table of R269 is not served, and in
Landing its answer is RETRY_LATER (R285). -/
def homeSync (i : Nat) (h : HeldFrame) (s : State) : State :=
  let n := rqNum h.payload
  let s := takeHeld i h.seq 0 s
  if !reqFormOk h.payload then homeFixed i n Status.permission s
  else
    let s := updRx i (fun c => { c with homeNum := some (nextNum n) }) s
    if isLanding s Src.au then homeFixed i n Status.retryLater s else homeFixed i n Status.ok (s.auCount 7)

/-- HOME_REQ_ACCEPT (R271, R273, R278): the context's oldest REQ enters the home line table, if there is room for it and for the
answers of the numbers that are missing before it. -/
def homeAcceptOp (i : Nat) (s : State) : List Ans × State :=
  let c := rxOf s i
  match c.held.find? fun h => h.type == tReq && !h.taken with
  | none => ([], s)
  | some h =>
    let b := h.payload.take 64
    if rqHall b ≠ c.hall ∨ rqHgen b ≠ c.hgen.toNat ∨ !genOk s c.hall c.hgen.toNat then
      ([], hallStale (rqHall b % 4096) (takeHeld i h.seq 0 s))
    else
      let bad := !rqPosted b && injected Src.au Kind.reqFraming s
      let number := if rqPosted b then ReqNum.serve else if bad then .drop else reqNumber c b
      let more := match number with | .fill _ d => d + 1 | _ => if rqPosted b then 0 else 1
      let counted (s : State) : State :=
        if rqPosted b then s else updRx i (fun c => { c with homeNum := some (nextNum (rqNum b)) }) s
      if number = .drop then homeKick (reqFraming i h (!bad) s)
      else if !homeRoom s (c.cls == 0#2) more then ([], s)
      else match number with
        | .sync => homeKick (homeSync i h s)
        | .fill e d =>
          let st := if c.tainted = Status.ok then Status.resetAborted else Status.authFail
          let s := forAll (List.range d) (fun k s => (homeFixed i (numPlus e k) st s).auCount 5) s
          homeKick (homeServe i h (counted (s.auEvent 4)))
        | _ => homeKick (homeServe i h (counted s))

/-! ### Commands (R281) -/

/-- FLUSH_HALL and FLUSH_ALL. -/
def auFlushOp (op : Nat) (hall : Option Nat) (s : State) : List Ans × State :=
  let s := s.updAu fun a => { a with go := true, op := BitVec.ofNat 4 op, flushing := true }
  match eachAns (combDirty s hall) (fun e s => combClean e (512, 0) s) s with
  | (a, s) => (a, flushStep s)

/-- One AU_CMD. The window of a block without an atomic unit is not there (R280). -/
def auCommand (op hall : Nat) (s : State) : List Ans × State :=
  if !s.conf.atomic || s.au.go then ([], s)
  else
    let s := s.updAu fun a => { a with hall := BitVec.ofNat 12 hall }
    match op with
    | 1 => auFlushOp 1 (some hall) s
    | 2 => auFlushOp 2 none s
    | 3 =>
      ([], s.updAu fun a => { a with
        op := 3#4
        inject := a.inject || s.injectionAllowed
        result := if s.injectionAllowed then Status.ok else Status.permission })
    | _ => ([], s.updAu fun a => { a with result := Status.permission })

/-- AU_QINFO (R282). -/
def auInfo (s : State) : Nat :=
  put 23 (s.au.comb.filter fun e => e.2.live).length + put 13 (rqUsed s % 2 ^ 10) + rspUsed s % 2 ^ 13

end Sys2Proof.Machine
end

