-- ==== Sys2Proof/Machine/Service.lean ====
section
/-! DEFINITION. Service messages between members: sending and forwarding, the hall retire message and the TIME exchange with
its servo (05_attestation_domain.md R146; 18_power_clocks_boot.md R465-R467). -/

namespace Sys2Proof.Machine

-- One declaration at a time, so that the elaborator holds few threads (each takes stack of its own).
set_option Elab.async false

/-! ### Sending (R146) -/

/-- A SERVICE frame joins a domain-service context. -/
def serviceSendOn (i : Nat) (m : Bytes) (s : State) : State :=
  if (txRefuses s i).isSome then s else txPush i [plainChunk tService (fit m 64)] s

/-- A service message goes out on every TX service stream, but not toward the member `from'` it came from. -/
def serviceSend (from' : Option Nat) (m : Bytes) (s : State) : State :=
  forAll ((serviceTx s).filter fun i => from' != some (bits (txOf s i).dst.toNat 0 13)) (fun i s => serviceSendOn i m s) s

/-- The first 16 bytes of a service message of this member: type, origin, epoch, timebase at sending. -/
def serviceHead (type : Nat) (s : State) : Bytes := natLe type 2 ++ natLe (selfId s) 2 ++ natLe s.dom.epoch.toNat 4 ++ natLe s.now 8

/-- The member that an RX context's frames come from. -/
def rxMember (s : State) (i : Nat) : Nat := bits (rxOf s i).src.toNat 0 13

/-- DOM_STATUS (R125). -/
def domStatusWord (s : State) : Word :=
  BitVec.ofNat 32 (put 31 (b2n s.dom.joined) + put 30 (b2n s.dom.stepPending) + put 16 s.dom.member.toNat)

/-! ### The hall retire message (R146) -/

/-- The message for a hall generation that is retired here. -/
def retireMessage (hall gen : Nat) (s : State) : Bytes := fit (serviceHead 1 s ++ natLe hall 2 ++ natLe gen 2) 64

/-- A received retire message: applied and forwarded when its timebase is newer than the origin's last, else dropped. -/
def retireReceive (i : Nat) (m : Bytes) (s : State) : State :=
  let origin := num m 2 2
  let t := num m 8 8
  if m.length ≠ 64 ∨ num m 0 2 ≠ 1 ∨ !allZero (m.drop 20) ∨ t ≤ (s.dom.retireSeen.get origin).toNat then
    s.updDom fun d => { d with retireDrops := d.retireDrops + 1 }
  else
    let s := s.updDom fun d => { d with retireSeen := d.retireSeen.set origin (BitVec.ofNat 64 t) }
    serviceSend (some (rxMember s i)) m ((retireMatchOp 15 (num m 16 2 % 4096) (num m 18 2) s).atEvent 1)

/-- HALL_RETIRE_MESSAGE. -/
def execHallRetireMessage (ctx : Nat) (msg : Bytes) (s : State) : Answer := goOn (retireReceive ctx msg s)

/-! ### TIME (R466, R467) -/

/-- TB_PARENT's fields. -/
def parentValid (s : State) : Bool := s.pwr.parent.toNat.testBit 31
def parentMember (s : State) : Nat := bits s.pwr.parent.toNat 16 13
def parentStream (s : State) : Nat := bits s.pwr.parent.toNat 0 8

/-- The TX service context toward a member on a stream. -/
def serviceTo (s : State) (member stream : Nat) : Option Nat :=
  (serviceTx s).find? fun i => bits (txOf s i).dst.toNat 0 13 == member && (txOf s i).stream.toNat == stream

/-- The LCLK domain of a lane's port. -/
def lclkOf (lane : Nat) : ClockDomain :=
  match groupOf lane with
  | 0 => .lclk0
  | 1 => .lclk1
  | 2 => .lclk2
  | _ => .lclk3

/-- The timestamp of a frame sent, of one received, on a context's lane (R466). -/
def sendStamp (s : State) (lane : Nat) : Nat := s.tb (lclkOf lane) - s.pwr.portAdj.toNat
def recvStamp (s : State) (lane : Nat) : Nat := s.tb (lclkOf lane) + s.pwr.portAdj.toNat

/-- A TIME message: phase, exchange number, T2, T3. -/
def timeMessage (phase number t2 t3 : Nat) (s : State) : Bytes :=
  fit (natLe 3 2 ++ natLe (selfId s) 2 ++ natLe s.dom.epoch.toNat 4 ++ natLe phase 1 ++ [0#8] ++ natLe number 2 ++ natLe 0 4
    ++ natLe t2 8 ++ natLe t3 8) 64

/-- TIME_EXCHANGE_START (R465): a REQ to the parent. An exchange without its answer is given up by the next. -/
def timeStartOp (s : State) : State :=
  if !parentValid s || !s.dom.joined || memberLost s (parentMember s) then s
  else
    match serviceTo s (parentMember s) (parentStream s) with
    | none => s
    | some i =>
      let n := (s.pwr.exch.number.toNat + 1) % 2 ^ 16
      let t1 := sendStamp s (txLane (txOf s i))
      let s := s.updPwr fun p => { p with exch := { p.exch with
        active := true, number := BitVec.ofNat 16 n, t1 := BitVec.ofNat 64 t1 } }
      serviceSendOn i (timeMessage 1 n 0 0 s) s

def execTimeExchangeStart (s : State) : Answer := goOn (timeStartOp s)

/-- The offset of R466, in ticks. -/
def timeOffset (t1 t2 t3 t4 : Nat) : Int := (((t2 : Int) - t1) - ((t4 : Int) - t3)) / 2

/-- TB_STATUS's last offset: signed 31 bits, saturating. -/
def satOffset (o : Int) : BitVec 31 := BitVec.ofInt 31 (max (-1073741824) (min 1073741823 o))

/-- TIMEBASE_SERVO (R467): slew up to 1 µs, step forward above it, hold backward above it; LOCKED after 16 offsets of at most
2 ns. -/
def servo (o : Int) (s : State) : State :=
  let good := if -8 ≤ o ∧ o ≤ 8 then s.pwr.exch.good + 1 else 0
  let s := s.updPwr fun p => { p with
    rate := Config.servoRate p.rate o
    tbOffset := satOffset o
    tbLocked := decide (16 ≤ good)
    exch := { p.exch with good := good } }
  if -4000 ≤ o ∧ o ≤ 4000 then s.updPwr fun p => { p with slew := o }
  else if 0 < o then (s.updPwr fun p => { p with master := (p.master + o.toNat) % 2 ^ 64, slew := 0 }).pwrEvent 2
  else (s.updPwr fun p => { p with holdUntil := (-o).toNat, slew := 0 }).pwrEvent 2

/-- A TIME message on an RX context: a REQ gets its RSP, the RSP of the running exchange yields an offset with the values of the
exchange before it. -/
def timeReceive (i : Nat) (m : Bytes) (s : State) : State :=
  let from' := rxMember s i
  let stamp := recvStamp s (rxLane (rxOf s i))
  let n := num m 10 2
  if m.length ≠ 64 ∨ num m 0 2 ≠ 3 ∨ num m 9 1 ≠ 0 ∨ num m 12 4 ≠ 0 ∨ !allZero (m.drop 32) then s
  else if num m 8 1 = 1 then
    match serviceTo s from' (rxOf s i).stream.toNat with
    | none => s
    | some t =>
      let old := (s.dom.timeSent.get from').toNat
      let t3 := sendStamp s (txLane (txOf s t))
      let s := s.updDom fun d => { d with timeSent := d.timeSent.set from' (BitVec.ofNat 64 t3) }
      serviceSendOn t (timeMessage 2 n stamp old s) s
  else if num m 8 1 = 2 && s.pwr.exch.active && s.pwr.exch.number.toNat == n && parentValid s && from' == parentMember s then
    let x := s.pwr.exch
    let s := s.updPwr fun p => { p with exch := { p.exch with
      active := false, prevT1 := some x.t1, prevT2 := BitVec.ofNat 64 (num m 16 8), prevT4 := BitVec.ofNat 64 stamp } }
    match x.prevT1 with
    | none => s
    | some t1 =>
      if num m 24 8 = 0 then s
      else servo (timeOffset t1.toNat x.prevT2.toNat (num m 24 8) x.prevT4.toNat) s
  else s

/-- TIME_MESSAGE_RECEIVE. -/
def execTimeMessageReceive (ctx : Nat) (msg : Bytes) (s : State) : Answer := goOn (timeReceive ctx msg s)

/-- A running exchange, and the values kept for the next, are discarded (R466). -/
def timeDiscard (s : State) : State := s.updPwr fun p => { p with exch := { p.exch with active := false, prevT1 := none } }

/-- TIME_PARENT (R465): TB_PARENT's value; its reserved bits are not written. -/
def timeParentAct (a : Act) (arg : Bytes) (s : State) : State :=
  runAct a 0x404001 [.domainManager] (fun s =>
    let v := num arg 0 4
    if arg.length ≠ 4 then ((Status.permission, []), s)
    else if s.pwr.exch.active then ((Status.retryLater, []), s)
    else ((Status.ok, []), timeDiscard (s.updPwr fun p => { p with parent := BitVec.ofNat 32 v &&& 0x9FFF00FF#32 }))) s

def execTimeParent (a : Act) (arg : Bytes) (s : State) : Answer := goOn (timeParentAct a arg s)

end Sys2Proof.Machine
end

