-- ==== Sys2Proof/Machine/Wake.lean ====
section
/-! DEFINITION. Wake causes at the ports, the end of a wake, and the fault inputs of the surroundings (02_ports.md R54-R56;
17_debug_trace.md R443; 18_power_clocks_boot.md R469, R470). -/

namespace Sys2Proof.Machine

-- One declaration at a time, so that the elaborator holds few threads (each takes stack of its own).
set_option Elab.async false

/-- Do the ports accept requests: in S0 and S1, and not while a CUT has stopped their domains (R442, R470)? -/
def portServes (s : State) : Bool := decide (s.pins.pstate.toNat < 2) && !s.stopped

/-- Does the host port accept requests (R37)? -/
def hpServes (s : State) : Bool := s.pins.hpEn && portServes s

/-- Does a register bus reach the block now: the Keeper's always, a host page through the host port? -/
def busServes (b : Bus) (s : State) : Bool := match b with | .keeper => true | .page _ => hpServes s

/-- The block is in S0 again. -/
def wakeEnds (s : State) : State :=
  let s := s.updPins fun p => { p with pstate := 0#2, ptgt := 0#2, wake := false }
  rushesBlock Src.pwr Ev.power 0 ((s.updPwr fun p => { p with wakeReq := false }).pwrEvent 0)

/-- A wake cause before fp_pack_i voids the entry in progress (R469). -/
def entryVoid (s : State) : State := if s.pwr.entering then s.updPwr fun p => { p with voided := true } else s

/-- Valid input at a port: it voids an entry in progress, and wakes the block from S1 (R55). -/
def portInput (s : State) : State :=
  if s.pwr.entering then entryVoid s else if s.pins.pstate = 1#2 then wakeEnds s else s

/-- A host page's access is input at the host port. -/
def busInput (b : Bus) (s : State) : State := match b with | .keeper => s | .page _ => portInput s

/-- Does a port take input: 0 to 3 are hp, cp, lp and mp (R37)? -/
def portOn (port : Nat) (s : State) : Bool :=
  match port with
  | 0 => s.pins.hpEn
  | 1 => s.pins.cpEn
  | 2 => s.pins.lpEn != 0#4
  | 3 => s.pins.mpEn != 0#16
  | _ => false

/-- S1_SELF_WAKE (R55): valid input at a port. -/
def execS1SelfWake (port : Nat) (s : State) : Answer :=
  goOn (if portOn port s ∧ s.pins.pstate = 1#2 ∧ !s.stopped then portInput s else s)

/-- The message of a fault input. -/
def extFaultNow (n : Nat) (s : State) : State := raiseFault (Src.extFault n) Kind.extFault noHall 0 0 s

/-- A rise of fp_ext_fault_i[n]: one message until the level has fallen again (R56); during a CUT stop it is latched. -/
def extFaultRise (n : Nat) (s : State) : State :=
  if 8 ≤ n ∨ s.pins.extHigh.toNat.testBit n then s
  else
    let m := BitVec.ofNat 8 (2 ^ n)
    let s := s.updPins fun p => { p with extHigh := p.extHigh ||| m }
    if s.stopped then s.updPins fun p => { p with extLatched := p.extLatched ||| m } else extFaultNow n s

def execExtFaultRise (n : Nat) (s : State) : Answer := goOn (extFaultRise n s)

/-- Its fall, which arms the input again. -/
def extFaultFall (n : Nat) (s : State) : State :=
  if 8 ≤ n then s else s.updPins fun p => { p with extHigh := p.extHigh &&& ~~~(BitVec.ofNat 8 (2 ^ n)) }

def execExtFaultFall (n : Nat) (s : State) : Answer := goOn (extFaultFall n s)

/-- What the stop held back is delivered after the resume: the fault inputs, and a wake from S1 (R443). -/
def afterStop (s : State) : State :=
  let l := s.pins.extLatched.toNat
  let s := s.updPins fun p => { p with extLatched := 0#8 }
  let s := forAll ((List.range 8).filter fun n => l.testBit n) extFaultNow s
  if s.pins.wake && s.pins.pstate == 1#2 && !s.pwr.entering then wakeEnds s else s

end Sys2Proof.Machine
end

