-- ==== Sys2Proof/Machine/Debug.lean ====
section
/-! DEFINITION. CUT, Dailies and Rushes (17_debug_trace.md R440-R461). -/

namespace Sys2Proof.Machine

-- One declaration at a time, so that the elaborator holds few threads (each takes stack of its own).
set_option Elab.async false

/-! ### Rings (R451-R454) -/

/-- The units of the configuration that keep a ring. -/
def ringUnits (c : Conf) : List Nat :=
  List.range 15 ++ (List.range c.lanes).map Src.linkTx ++ (List.range c.groups).map (fun g => Src.linkTx (64 + g))
    ++ (List.range c.lanes).map Src.linkRx ++ (List.range c.groups).map (fun g => Src.linkRx (64 + g))
    ++ (List.range c.linePipes).map Src.lineSeal ++ (List.range c.linePipes).map Src.lineUnseal
    ++ (List.range c.movers).map Src.mover ++ (List.range c.redUnits).map Src.red ++ (List.range c.parts).map Src.crossing

/-- A ring's records, oldest first, filled up to 256 with empty ones. -/
def ringRecords (r : Ring) : List (BitVec 128) := r.recs ++ List.replicate (256 - r.recs.length) 0#128

/-- RUSHES_TICK. -/
def rushesTickOp (unit : Nat) (s : State) : State :=
  if (ringUnits s.conf).contains unit then rushesBlock unit Ev.tick (bits (s.tb (clockOf unit)) 40 16) s else s

def execRushesTick (unit : Nat) (s : State) : Answer := goOn (rushesTickOp unit s)

/-- May a role read a record (R454)? -/
def mayRead (s : State) (a : Act) (x : BitVec 128) : Bool :=
  let hall := bits x.toNat 60 12
  let own := boundTo s a.sess hall
  match a.role with
  | .tenant => own
  | _ => s.traceAllowed || hall == noHall || own

/-- RUSHES_READ: a quarter of a ring. -/
def rushesReadAct (a : Act) (arg : Bytes) (s : State) : State :=
  runAct a 0x803004 [.operator, .domainManager, .tenant] (fun s =>
    let unit := num arg 0 2
    let quarter := num arg 2 1
    if arg.length ≠ 3 ∨ 4 ≤ quarter ∨ !(ringUnits s.conf).contains unit then ((Status.permission, []), s)
    else
      let l := ((ringRecords (s.dbg.rings.get unit)).drop (64 * quarter)).take 64
      ((Status.ok, (l.map fun x => natLe (if mayRead s a x then x.toNat else 0) 16).flatten), s)) s

def execRushesRead (a : Act) (arg : Bytes) (s : State) : Answer := goOn (rushesReadAct a arg s)

/-- PMATCH_WRITE (R456): the match is set, its zero field stays zero, and the slot's counters are zeroed. -/
def pmatchOp (hall slot : Nat) (v : DWord) (s : State) : State :=
  if !hallUsed s hall || decide (16 ≤ slot) then s
  else
    let x : Profile := { pmatch := v &&& 0xE00000FFFFFFFFFF#64, items := 0, bytes := 0, busy := 0, defer := 0 }
    updHall hall (fun h => { h with profiles := h.profiles.set slot x }) s

def execPmatchWrite (hall slot : Nat) (value : DWord) (s : State) : Answer := goOn (pmatchOp hall slot value s)

/-! ### Records on so (R448-R450) -/

/-- Words of a byte string. -/
def wordsOf (b : Bytes) : List Word := (List.range (cdiv b.length 4)).map fun i => BitVec.ofNat 32 (num b (4 * i) 4)

/-- A 64-bit value, low word first. -/
def words64 (v : Nat) : List Word := [BitVec.ofNat 32 v, BitVec.ofNat 32 (v / 2 ^ 32)]

/-- Are DATA words emitted unchanged (R450)? -/
def dataShown (s : State) : Bool := s.lcState == testOpen || (s.rightScanFull && s.consentGiven)

/-- The mask map of a body, and the body with its masked words zero. -/
def maskBody (shown : Bool) (b : List ScanWord) : List Word × List Word :=
  let hide (w : ScanWord) : Bool := w.data && !shown
  let n := b.length
  let map := (List.range (cdiv n 32)).map fun i =>
    BitVec.ofNat 32 ((List.range 32).foldl (fun a k =>
      a + (match b[32 * i + k]? with | some w => b2n (hide w) * 2 ^ k | none => 0)) 0)
  (map, b.map fun w => if hide w then 0#32 else w.word)

/-- The number of masked words of a body. -/
def maskedCount (shown : Bool) (b : List ScanWord) : Nat := if shown then 0 else (b.filter (·.data)).length

/-- A record: header, body, CRC word. -/
def soRecord (s : State) (kind : Nat) (masked : Bool) (unit serial index scanMap : Nat) (body : List Word) : List Word :=
  let len := 9 + body.length
  let head : List Word :=
    [ BitVec.ofNat 32 (put 16 0xDA01 + put 8 kind + b2n masked + put 1 (b2n s.dbg.late)), BitVec.ofNat 32 (put 16 (len % 2 ^ 16) + unit) ]
      ++ words64 s.dbg.armStop.toNat
      ++ [ BitVec.ofNat 32 (put 16 serial + index % 2 ^ 16), BitVec.ofNat 32 (put 16 scanMap),
           BitVec.ofNat 32 (put 24 s.lc.rights.toNat), 0#32 ]
  let all := head ++ body
  all ++ [Crypto.crc32 (all.map fun w => natLe w.toNat 4).flatten]

/-- The body of the cut header (R449). -/
def cutHeader (s : State) : List Word :=
  let off (d : ClockDomain) : Word := BitVec.ofNat 32 ((s.tb d + (2 ^ 64 - s.dbg.armStop.toNat)) % 2 ^ 16)
  [Config.ident, s.conf.caps] ++ words64 (s.deviceId)
    ++ [BitVec.ofNat 32 (dbgRightsWord s), BitVec.ofNat 32 (lcStatusWord s), domStatusWord s, s.dom.epoch]
    ++ words64 s.dbg.armResume.toNat
    ++ ([ClockDomain.cclk, .mclk, .hclk, .kclk, .lclk0, .lclk1, .lclk2, .lclk3].map off)

/-- The floor of an RX context (R160): the lowest sequence that is neither released nor resolved. -/
def rxFloor (c : RxCtx) : Nat :=
  let next := c.top + 1 + (firstFrom (fun k => !c.ahead.contains (c.top + 1 + k)) (c.ahead.length + 1) 0).getD 0
  ((c.held.filter fun h => h.type != tGap).map (·.seq) ++ c.holes).foldl min next

/-- The body of the link accounting record (R449). -/
def linkAccounting (s : State) : List Word :=
  (s.ls.tx.filter fun e => e.2.live).flatMap (fun e =>
      [BitVec.ofNat 32 (e.1 + put 10 (b2n e.2.epoch) + put 16 e.2.dst.toNat), BitVec.ofNat 32 (e.2.stream.toNat + put 8 e.2.cls.toNat)]
        ++ words64 e.2.lastSent ++ words64 e.2.mark)
    ++ (s.ls.rx.filter fun e => e.2.live).flatMap fun e =>
      [ BitVec.ofNat 32 (e.1 + put 9 1 + put 10 (b2n e.2.epoch) + put 16 e.2.src.toNat),
        BitVec.ofNat 32 (e.2.stream.toNat + put 8 e.2.cls.toNat) ]
        ++ words64 e.2.top ++ words64 (rxFloor e.2)

/-- The body of the late arrivals record (R449). -/
def lateBody (s : State) : List Word :=
  (List.range 17).flatMap fun c =>
    let l := s.dbg.lateList.filter fun x => x.1 == c
    if l.isEmpty then [] else BitVec.ofNat 32 (c + put 16 (l.length % 2 ^ 16)) :: l.map fun x => BitVec.ofNat 32 x.2

/-- The body of a record of the running cut, and how many words of it are masked. -/
def dailiesBody (kind : Nat) (body : List ScanWord) (s : State) : List Word × Nat :=
  let shown := dataShown s
  match kind with
  | 1 => (cutHeader s, 0)
  | 2 => let m := maskBody shown body; (m.1 ++ m.2, maskedCount shown body)
  | 3 => let m := maskBody shown (body.drop 2); ((body.take 2).map (·.word) ++ m.1 ++ m.2, maskedCount shown (body.drop 2))
  | 4 => (linkAccounting s, 0)
  | 5 => (lateBody s, 0)
  | _ => ([BitVec.ofNat 32 (s.dbg.records + 1)], 0)

/-- The UNIT field of a record kind. -/
def dailiesUnit (kind unit : Nat) : Nat := if kind = 2 ∨ kind = 3 then unit % 4096 else if kind = 4 then 4 else 0xFFF

/-- DAILIES_RECORD (R448-R450): the next record of a cut with DAILIES = 1; the header is the first, the end record the last. -/
def dailiesOp (kind unit scanMap : Nat) (body : List ScanWord) (s : State) : State :=
  let d := s.dbg
  let known := (decide (1 ≤ kind) && decide (kind ≤ 5)) || kind == 15
  if d.cutState ≠ 2#2 ∨ !d.armFlags.toNat.testBit 0 ∨ d.dailiesDone ∨ !known ∨ ((kind = 1) ≠ (d.records = 0)) then s
  else
    let (words, masked) := dailiesBody kind body s
    let rec' := soRecord s kind (0 < masked) (dailiesUnit kind unit) d.armSerial.toNat d.records (if kind = 2 then scanMap else 0) words
    let s := (s.emit (.so rec')).updDbg fun d => { d with records := d.records + 1 }
    let s := s.dbgCount 2 1
    let s := if 0 < masked then (s.dbgCount 3 masked).dbgEvent 3 else s
    if kind = 15 then s.updDbg fun d => { d with dailiesDone := true, dailiesEnd := s.pwr.master } else s

def execDailiesRecord (kind : Byte) (unit scanMap : Nat) (body : List ScanWord) (s : State) : Answer :=
  goOn (dailiesOp kind.toNat unit scanMap body s)

/-- RUSHES_DUMP (R458): every ring, between a cut header and an end record with SERIAL 0. -/
def rushesDump (s : State) : State :=
  let us := ringUnits s.conf
  let s1 := s.emit (.so (soRecord s 1 false 0xFFF 0 0 0 (cutHeader s)))
  let s2 := forAll ((List.range us.length).zip us) (fun x s' =>
    let r := s.dbg.rings.get x.2
    let body := BitVec.ofNat 32 (min r.count (2 ^ 32 - 1)) :: (ringRecords r).flatMap fun w => wordsOf (natLe w.toNat 16)
    s'.emit (.so (soRecord s 6 false x.2 0 (x.1 + 1) 0 body))) s1
  s2.emit (.so (soRecord s 15 false 0xFFF 0 (us.length + 1) 0 [BitVec.ofNat 32 (us.length + 2)]))

/-! ### Arming a CUT (R440, R446) -/

/-- A cut's parameters. -/
structure CutArg where
  stop : Nat
  resume : Nat
  serial : Nat
  flags : Nat
  zero : Bool
deriving DecidableEq, Repr

/-- Is a tread of T2 or higher running? -/
def bigTread (s : State) : Bool := s.hr.treads.any fun t => decide (2 ≤ t.tread)

/-- The refusal of an arm (R440); an order from the domain is not held to the lead time. -/
def cutRefusal (c : CutArg) (order : Bool) (s : State) : Option Status :=
  let flag (i : Nat) : Bool := c.flags.testBit i
  if !c.zero || decide (16 ≤ c.flags)
      || !(s.rightScanMasked || s.rightScanFull || s.lcState == testOpen)
      || (radioHall s && !flag 2)
      || (!order && decide (c.stop < s.pwr.master + 20 * usT))
      || decide (c.resume < c.stop + usT ∨ c.stop + 10 * secT < c.resume)
      || (flag 1 && !s.dom.joined) then some Status.permission
  else if s.dbg.cutState ≠ 0#2 || bigTread s then some Status.retryLater
  else none

/-- The cut is armed; a power-state entry in progress is void (R482). -/
def cutSet (c : CutArg) (s : State) : State :=
  (entryVoid s).updDbg fun d => { d with
    cutState := 1#2, late := decide (c.stop < s.pwr.master)
    armStop := BitVec.ofNat 64 c.stop, armResume := BitVec.ofNat 64 c.resume
    armSerial := BitVec.ofNat 16 c.serial, armFlags := BitVec.ofNat 8 c.flags }

/-- A cut order (R446). -/
def cutOrder (c : CutArg) (s : State) : Bytes :=
  fit (serviceHead 2 s ++ natLe c.stop 8 ++ natLe c.resume 8 ++ natLe c.serial 2 ++ natLe (c.flags &&& 0xD) 1) 64

/-- CUT_ARM, DBG ARM: the checks, the local arm, and the orders where DOMAIN = 1. -/
def cutArmOp (c : CutArg) (s : State) : Status × State :=
  match cutRefusal c false s with
  | some st => (st, s)
  | none =>
    let s := cutSet c s
    (Status.ok, if c.flags.testBit 1 then serviceSend none (cutOrder c s) s else s)

/-- The argument block of CUT_ARM. -/
def cutArg (b : Bytes) : CutArg where
  stop := num b 0 8
  resume := num b 8 8
  serial := num b 16 2
  flags := num b 18 1
  zero := decide (b.length ≤ 32) && allZero (b.drop 19)

/-- The roles of a CUT (R440). -/
def cutRoles (s : State) : List Role :=
  if s.lcState = testOpen then [.factory, .operator, .domainManager] else [.operator, .domainManager]

def cutArmAct (a : Act) (arg : Bytes) (s : State) : State :=
  runAct a 0x803001 (cutRoles s) (fun s => match cutArmOp (cutArg arg) s with | (st, s) => ((st, []), s)) s

def execCutArm (a : Act) (arg : Bytes) (s : State) : Answer := goOn (cutArmAct a arg s)

/-- DISARM: with nothing armed there is nothing to cancel. DESIGN CHOICE, assumption 27. -/
def cutDisarmOp (s : State) : Status × State :=
  if s.dbg.cutState ≠ 1#2 ∨ s.dbg.armStop.toNat < s.pwr.master + usT then (Status.permission, s)
  else (Status.ok, s.updDbg fun d => { d with cutState := 0#2, halted := [] })

def cutDisarmAct (a : Act) (s : State) : State :=
  runAct a 0x803002 (cutRoles s) (fun s => match cutDisarmOp s with | (st, s) => ((st, []), s)) s

def execCutDisarm (a : Act) (s : State) : Answer := goOn (cutDisarmAct a s)

/-- A cut order received (R446): a newer serial is applied and forwarded, every other order is dropped and counted. -/
def cutReceive (i : Nat) (m : Bytes) (s : State) : State :=
  let serial := num m 32 2
  let d := (serial + 2 ^ 16 - s.dbg.lastOrder.toNat) % 2 ^ 16
  let flags := num m 34 1
  let formed := m.length == 64 && num m 0 2 == 2 && allZero (m.drop 35) && decide (flags < 16) && !flags.testBit 1
  let mine := s.dbg.cutState != 0#2 && s.dbg.armSerial.toNat == serial
  if !formed || d = 0 || decide (2 ^ 15 ≤ d) || mine then s.dbgCount 5 1
  else
    let s := s.updDbg fun x => { x with lastOrder := BitVec.ofNat 16 serial }
    let c : CutArg := { stop := num m 16 8, resume := num m 24 8, serial := serial, flags := flags, zero := true }
    let s := match cutRefusal c true s with
      | some _ => (s.dbgCount 5 1).dbgEvent 4
      | none => cutSet c s
    serviceSend (some (rxMember s i)) m (s.dbgCount 4 1)

/-- CUT_ORDER_RECEIVE. -/
def execCutOrderReceive (ctx : Nat) (msg : Bytes) (s : State) : Answer := goOn (cutReceive ctx msg s)

/-! ### Stop and resume (R441-R445) -/

/-- CUT_STOP: every domain that stops has come to its own stop edge, its corrected copy at or above T_STOP. -/
def cutStopOp (s : State) : State :=
  let d := s.dbg
  if d.cutState ≠ 1#2 ∨ !(cutDomains.all fun d => s.atStop d) then s
  else
    let s := s.updDbg fun d => { d with
      cutState := 2#2, records := 0, dailiesDone := !d.armFlags.toNat.testBit 0, dailiesCut := false, moved := false
      dailiesEnd := 0, lateList := [], halted := cutDomains.map ClockDomain.code }
    let s := timeDiscard ((s.dbgCount 0 1).dbgEvent 0)
    if d.late then (s.dbgCount 1 1).dbgEvent 2 else s

def execCutStop (s : State) : Answer := goOn (cutStopOp s)

/-- LATE_ARRIVAL: channels 0 to 15 are mp0 to mp15, 16 is hp_flr. -/
def lateArrivalOp (channel item : Nat) (s : State) : State :=
  if s.dbg.cutState ≠ 2#2 ∨ 17 ≤ channel then s
  else (s.updDbg fun d => { d with lateList := d.lateList ++ [(channel, item)] }).dbgCount 7 1

def execLateArrival (channel item : Nat) (s : State) : Answer := goOn (lateArrivalOp channel item s)

/-- Every stamp that an interval is measured from moves by the stopped time (R386, R445). -/
def shiftStamps (d : Nat) (s : State) : State :=
  let later (o : Option Nat) : Option Nat := o.map (· + d)
  let s := s.updFe fun f => { f with
    works := f.works.map fun e => (e.1, if e.2.live then { e.2 with blocked := later e.2.blocked, began := e.2.began + d } else e.2)
    queues := f.queues.map fun e => (e.1, { e.2 with rangAt := later e.2.rangAt, heldSince := later e.2.heldSince })
    slots := f.slots.map fun e => (e.1, if e.2.launches.isEmpty then e.2 else { e.2 with takeStart := e.2.takeStart + d }) }
  let s := s.updMv fun v => { v with movers := v.movers.map fun e =>
    let move (l : List MDesc) : List MDesc := l.map fun x => if x.started then { x with firstAt := x.firstAt + d } else x
    (e.1, { e.2 with radio := move e.2.radio, reserved := move e.2.reserved, spot := move e.2.spot }) }
  s.updFcu fun c => if c.safe then { c with safeAt := c.safeAt + d } else c

/-- The resume instant, when it has come (R445). -/
def resumeInstant (s : State) : Option Nat :=
  let d := s.dbg
  let t := d.armResume.toNat
  let limit := t + 100 * msT
  let inst := if d.dailiesDone then (if d.dailiesEnd + usT ≤ t then t else min limit (d.dailiesEnd + usT)) else limit
  if inst ≤ s.pwr.master then some inst else none

/-- CUT_RESUME: the machine goes on from the captured state. -/
def cutResumeOp (s : State) : State :=
  if s.dbg.cutState ≠ 2#2 then s
  else match resumeInstant s with
    | none => s
    | some inst =>
      let d := s.dbg
      let s := s.updDbg fun x => { x with
        cutState := 0#2, dailiesCut := !d.dailiesDone, dailiesDone := true
        moved := inst != d.armResume.toNat, resumeT := BitVec.ofNat 64 inst, lateList := [], halted := [] }
      let s := (shiftStamps (inst - d.armStop.toNat) s).dbgEvent 1
      afterStop (forAll (ringUnits s.conf) (fun u s =>
        let s := rushesAt d.armStop.toNat u Ev.cutStop noHall 0 0 d.armSerial.toNat s
        rushesAt inst u Ev.cutResume noHall 0 0 d.armSerial.toNat s) s)

def execCutResume (s : State) : Answer := goOn (cutResumeOp s)

/-! ### DBG_CMD (R458) -/

/-- A command's end. -/
def dbgFinish (r : Status × State) : State := r.2.updDbg fun d => { d with go := false, result := r.1 }

/-- RING_READ. -/
def ringReadOp (s : State) : Status × State :=
  let unit := bits s.dbg.ringSel.toNat 16 12
  let i := bits s.dbg.ringSel.toNat 0 8
  if !(ringUnits s.conf).contains unit then (Status.permission, s)
  else (Status.ok, s.updDbg fun d => { d with rdata := (ringRecords (d.rings.get unit)).getD i 0#128 })

/-- One DBG_CMD; bits [15:4] are the SERIAL of an ARM. -/
def dbgCommand (op : Nat) (flags : Byte) (serial : BitVec 12) (s : State) : State :=
  let s := s.updDbg fun d => { d with flags := flags, serialOp := BitVec.ofNat 16 (serial.toNat * 16 + op) }
  match op with
  | 1 => dbgFinish (cutArmOp
      { stop := s.dbg.cutT.toNat, resume := s.dbg.resumeT.toNat, serial := serial.toNat, flags := flags.toNat, zero := true } s)
  | 2 => dbgFinish (cutDisarmOp s)
  | 3 => dbgFinish (if s.traceAllowed then (Status.ok, rushesDump s) else (Status.permission, s))
  | 4 => dbgFinish (ringReadOp s)
  | _ => dbgFinish (Status.permission, s)

/-- The SERIAL field as it stands. -/
def dbgSerial (s : State) : BitVec 12 := BitVec.ofNat 12 (s.dbg.serialOp.toNat / 16)

def execDbgArm (flags : Byte) (serial : BitVec 12) (s : State) : Answer := goOn (dbgCommand 1 flags serial s)
def execDbgDisarm (s : State) : Answer := goOn (dbgCommand 2 s.dbg.flags (dbgSerial s) s)
def execDbgRushesDump (s : State) : Answer := goOn (dbgCommand 3 s.dbg.flags (dbgSerial s) s)
def execDbgRingRead (s : State) : Answer := goOn (dbgCommand 4 s.dbg.flags (dbgSerial s) s)

end Sys2Proof.Machine
end

