-- ==== Sys2Proof/Machine/Fence.lean ====
section
/-! DEFINITION. Fences, semaphores, parked waits, the wait graph, MSI-X causes, and the commands and actions on them
(12_fences_sync.md R315-R343). -/

namespace Sys2Proof.Machine

-- One declaration at a time, so that the elaborator holds few threads (each takes stack of its own).
set_option Elab.async false

/-! ### Objects -/

/-- A fence's record, and a change of it. STATE: 0 FREE, 1 LIVE, 2 FAULTED (R315). -/
def fenceOf (s : State) (f : Nat) : Fence := s.fs.fences.get f
def updFence (f : Nat) (g : Fence → Fence) (s : State) : State := s.updFs fun x => { x with fences := x.fences.mod f g }

/-- Is a fence a live or faulted one of a hall? -/
def fenceOfHall (s : State) (f hall : Nat) : Bool := (fenceOf s f).state != 0#2 && (fenceOf s f).hall == hall

/-- The fences of a hall that are not FREE. -/
def hallFences (s : State) (hall : Nat) : List Nat :=
  s.fs.fences.filterMap fun e => if e.2.state != 0#2 && e.2.hall == hall then some e.1 else none

/-- The order of values (R318): `v` has reached `t`. -/
def reached (v t : DWord) : Bool := decide ((v - t).toNat < 2 ^ 63)

/-- The order of broadcast counts (R326). -/
def reached32 (v t : Word) : Bool := decide ((v - t).toNat < 2 ^ 31)

/-! ### MSI-X causes (R332) -/

/-- A cause for vector `v` of a hall's function; causes of a vector merge while its message waits. -/
def msixCause (hall v : Nat) (s : State) : State :=
  updHall hall (fun h => { h with msixPending := h.msixPending ||| BitVec.ofNat 8 (2 ^ v) }) s

/-- A change of a fence with NOTIFY = 1 is a cause. -/
def notifyFence (f : Nat) (s : State) : State :=
  let x := fenceOf s f
  if x.notify then msixCause x.hall x.nvec s else s

/-- A word of a hall's MSI-X table, in the PCIe layout: entry v at words 4v to 4v + 3, the last holding the mask bit, which
PCIe resets to 1. PRESUMED, assumption 21. -/
def msixWord (h : Hall) (i : Nat) : Word := if i % 4 = 3 then h.msixTable.get i ^^^ 1#32 else h.msixTable.get i

/-- MSIX_MESSAGE (R332): the pending, unmasked message of a vector is sent. -/
def msixMessageOp (hall vector : Nat) (s : State) : State :=
  let h := hallOf s hall
  if h.msixPending.toNat.testBit vector && !(msixWord h (4 * vector + 3)).toNat.testBit 0 && s.pins.hpEn && !s.fcu.safe
      && !s.hr.landing.contains Src.hostPipes then
    let s := updHall hall (fun h => { h with msixPending := h.msixPending &&& ~~~(BitVec.ofNat 8 (2 ^ vector)) }) s
    let addr := (msixWord h (4 * vector)).toNat + put 32 (msixWord h (4 * vector + 1)).toNat
    ideEmit (boundStream s hall) idePosted (Config.ideHeader 1 (hall + 1) addr 4 true) (natLe (msixWord h (4 * vector + 2)).toNat 4)
      (fun _ => .msix (hall + 1) vector) (s.fsCount 7)
  else s

def execMsixMessage (hall vector : Nat) (s : State) : Answer := goOn (msixMessageOp hall vector s)

/-! ### Parked waits (R320, R325, R326) -/

/-- A PARKED queue's WAIT ends: the queue becomes READY, a RADIO queue that kept its active entry RUNNING (R382); a status
other than OK is kept (R301) and counted. -/
def endWait (q : Nat) (st : Status) (s : State) : State :=
  let s := updQueue q (fun x => { x with park := .none, state := if x.active then .running else .ready }) s
  let s := s.updFs fun x => { x with
    parked := x.parked.filter (· != q), graph := x.graph.filter (· != q), walks := x.walks.filter (· != q) }
  if st = Status.ok then s else keepStatus q st (s.fsCount 3)

/-- A queue parks (R300, R320, R323): a wait on a fence gets its walk, in order of parking. A non-RADIO queue leaves the
active set (R382). -/
def parkQueue (q : Nat) (p : Park) (s : State) : State :=
  let s := updQueue q (fun x => { x with state := .parked, park := p }) s
  let s := if queueClass s q = 0 then s else deactivate q s
  let walk := match p with | .fence _ _ => [q] | _ => []
  (s.updFs fun x => { x with parked := x.parked ++ [q], walks := x.walks ++ walk }).fsCount 2

/-- The parked queues whose WAIT on a fence its value has reached, or all of them for a faulted one, in order of parking. -/
def metFence (s : State) (f : Nat) : List Nat :=
  let x := fenceOf s f
  s.fs.parked.filter fun q =>
    match (queueOf s q).park with
    | .fence g t => g == f && (x.state == 2#2 || reached x.value t)
    | _ => false

/-- Ends every WAIT that a fence now meets, with its STATUS. -/
def wakeFence (f : Nat) (s : State) : State :=
  let st := (fenceOf s f).status
  forAll (metFence s f) (fun q s => endWait q st s) s

/-- The faults of a word of the fence unit, the object of a hall, that a signal meets (R342): a corrected word is reported and goes
on; a unit fault is reported and nothing is applied, the answer false. -/
def fenceFaults (hall obj : Nat) (s : State) : Bool × State :=
  let s := if injected Src.fs Kind.fenceEcc s then (reportFault false Src.fs Kind.fenceEcc hall 0 obj s).fsEvent 4 else s
  if injected Src.fs Kind.fenceUnit s then (false, reportFault false Src.fs Kind.fenceUnit hall 0 obj s) else (true, s)

/-- A signal of value v with status x (R319). A signal to a FAULTED fence counts among the signals applied: DESIGN CHOICE,
assumption 187. -/
def signalFence (f : Nat) (v : DWord) (x : Status) (s : State) : State :=
  let o := fenceOf s f
  match fenceFaults o.hall f s with
  | (applies, s) =>
  if !applies then s
  else if o.state = 2#2 then s.fsCount 0
  else if o.state ≠ 1#2 then s
  else if (v - o.value).toNat < 2 ^ 63 then
    let st := if o.status = Status.ok ∧ x ≠ Status.ok ∧ x ≠ Status.deferred then x else o.status
    let s := (updFence f (fun o => { o with value := v, status := st }) s).fsCount 0
    let s := if v ≠ o.value ∨ st ≠ o.status then notifyFence f s else s
    wakeFence f s
  else ((updFence f (fun o => { o with backward := true }) s).fsCount 1).fsEvent 0

/-- A fence becomes FAULTED (R321): a LIVE one takes the status and ends its waits; a FAULTED one keeps its own. -/
def faultFence (f : Nat) (st : Status) (s : State) : State :=
  let o := fenceOf s f
  if o.state = 1#2 then
    wakeFence f (notifyFence f ((updFence f (fun o => { o with state := 2#2, status := st }) s).fsEvent 3))
  else if o.state = 2#2 then s.fsEvent 3
  else s

/-- The fences that a queue owes (R307): named by a decoded local SIGNAL not applied yet, or declaring it as producer. -/
def owed (s : State) (q : Nat) : List Nat :=
  let named := (queueOf s q).signals.filterMap fun g => if g.tkind = 0 ∧ g.remote.isNone then some g.obj else none
  let declared := s.fs.fences.filterMap fun e => if e.2.state != 0#2 && e.2.pkind == 1#2 && e.2.producer == q then some e.1 else none
  named ++ declared.filter fun f => !named.contains f

/-- A semaphore: 1 local, 2 broadcast. -/
def semOf (s : State) (kind i : Nat) : Sem := if kind = 1 then s.fs.locals.get i else s.fs.broadcasts.get i
def updSem (kind i : Nat) (g : Sem → Sem) (s : State) : State :=
  if kind = 1 then s.updFs fun x => { x with locals := x.locals.mod i g }
  else s.updFs fun x => { x with broadcasts := x.broadcasts.mod i g }

/-- The queues parked on a semaphore, in order of parking, with their amounts. -/
def semWaiters (s : State) (kind i : Nat) : List (Nat × Word) :=
  s.fs.parked.filterMap fun q =>
    match (queueOf s q).park with
    | .local j a => if kind = 1 ∧ j = i then some (q, a) else none
    | .broadcast j a => if kind = 2 ∧ j = i then some (q, a) else none
    | _ => none

/-- Local waiters are served strictly in order while the count meets the first (R325). -/
def serveLocal (i : Nat) : List (Nat × Word) → State → State
  | [], s => s
  | (q, a) :: rest, s =>
    if a.toNat ≤ (semOf s 1 i).count.toNat then
      serveLocal i rest (endWait q Status.ok (updSem 1 i (fun x => { x with count := x.count - a }) s))
    else s

/-- A SIGNAL of a semaphore (R325, R326). -/
def signalSem (kind i : Nat) (inc : Word) (s : State) : State :=
  match fenceFaults (semOf s kind i).hall i s with
  | (applies, s) =>
  if !applies then s
  else
  let s := (updSem kind i (fun x => { x with count := x.count + inc }) s).fsCount 0
  if kind = 1 then serveLocal i (semWaiters s 1 i) s
  else forAll (semWaiters s 2 i) (fun w s => if reached32 (semOf s 2 i).count w.2 then endWait w.1 Status.ok s else s) s

/-! ### The wait graph (R323, R324) -/

/-- Where a walk's step from a parked queue leads: the producer of its fence when the edge exists. -/
def edgeOf' (s : State) (q : Nat) : Option Nat :=
  match (queueOf s q).park with
  | .fence f _ =>
    let o := fenceOf s f
    if o.state != 0#2 && o.pkind == 1#2
        && !((queueOf s o.producer).signals.any fun g => g.tkind == 0 && g.remote.isNone && g.obj == f)
    then some o.producer else none
  | _ => none

/-- Does the walk from queue `q`, standing at `at'`, return to `q`? -/
def walkReturns (s : State) (q : Nat) : Nat → Nat → Bool
  | 0, _ => false
  | fuel + 1, at' =>
    match edgeOf' s at' with
    | none => false
    | some p =>
      if p = q then true
      else if (queueOf s p).state != .parked || !s.fs.graph.contains p then false
      else walkReturns s q fuel p

/-- WAIT_GRAPH_WALK (R323): the walk of the queue that parked first of those not walked yet. -/
def waitGraphWalkOp (q : Nat) (s : State) : State :=
  match s.fs.walks with
  | [] => s
  | h :: rest =>
    if h ≠ q then s
    else if walkReturns s q 16384 q then
      ((endWait q Status.deadlock s).fsEvent 1).fsCount 4
    else s.updFs fun x => { x with walks := rest, graph := x.graph ++ [q] }

def execWaitGraphWalk (q : Nat) (s : State) : Answer := goOn (waitGraphWalkOp q s)

/-! ### Creation, destruction and clearing (R316, R317, R327) -/

/-- A FREE fence. -/
def freeFence (s : State) : Option Nat := firstFrom (fun i => (fenceOf s i).state == 0#2) 65536 0

/-- FENCE_CREATE from its 16-byte argument block; the fence ID is the lowest FREE one. DESIGN CHOICE, assumption 22. -/
def fenceCreateOp (b : Bytes) (roleOk : Bool) (s : State) : (Status × Nat) × State :=
  let hall := num b 0 2
  let view := num b 2 2
  let pkind := num b 4 1
  let nf := num b 5 1
  let prod := num b 6 2
  let bad := !roleOk || decide (4096 ≤ hall) || (hallOf s hall).state != .live || decide (2048 ≤ view) || decide (16 ≤ nf)
    || (hallFences s hall).any (fun f => (fenceOf s f).view == view)
    || decide (3 ≤ pkind) || (pkind == 0 && prod != 0)
    || (pkind == 1 && (decide (16384 ≤ prod) || (queueOf s prod).state == .free || (queueOf s prod).hall != hall))
    || (pkind == 2 && (!s.dom.joined || prod == s.dom.member.toNat || !s.dom.members.any (fun m => m.id == prod)))
  if bad then ((Status.permission, 0), s)
  else if qFences (hallOf s hall) ≤ (hallFences s hall).length then ((Status.refusedQuota, 0), s)
  else match freeFence s with
    | none => ((Status.refusedCapacity, 0), s)
    | some f =>
      let x : Fence :=
        { value := BitVec.ofNat 64 (num b 8 8), state := 1#2, status := Status.ok, backward := false, hall := hall, view := view
          pkind := BitVec.ofNat 2 pkind, producer := prod, notify := nf.testBit 0, nvec := bits nf 1 3 }
      ((Status.ok, f), updFence f (fun _ => x) s)

/-- The hall states in which FENCE_DESTROY, FENCE_CLEAR and SEM_FREE are served (R317). -/
def clearable (h : Hall) : Bool := h.state == .live || h.state == .frozen || h.state == .moved

/-- Does a fence stay: a queue is parked on it or holds a SIGNAL to it not applied yet? -/
def fenceHeld (s : State) (f : Nat) : Bool :=
  s.fs.parked.any (fun q => match (queueOf s q).park with | .fence g _ => g == f | _ => false)
    || s.fe.queues.any (fun e => e.2.signals.any fun g => g.tkind == 0 && g.remote.isNone && g.obj == f)

/-- FENCE_DESTROY of a hall's fence (R317). -/
def fenceDestroyOp (hall f : Nat) (roleOk : Bool) (s : State) : Status × State :=
  if !roleOk || !fenceOfHall s f hall || !clearable (hallOf s hall) then (Status.permission, s)
  else if fenceHeld s f then (Status.retryLater, s)
  else (Status.ok, updFence f (fun _ => default) s)

/-- FENCE_CLEAR of a hall's fence (R317). -/
def fenceClearOp (hall f : Nat) (roleOk : Bool) (s : State) : Status × State :=
  if !roleOk || !fenceOfHall s f hall || !clearable (hallOf s hall) then (Status.permission, s)
  else (Status.ok, updFence f (fun o => { o with state := 1#2, status := Status.ok, backward := false }) s)

/-- The semaphores of a kind that a hall holds. -/
def hallSems (s : State) (kind hall : Nat) : Nat :=
  ((if kind = 1 then s.fs.locals else s.fs.broadcasts).filter fun e => e.2.alloc && e.2.hall == hall).length

/-- SEM_ALLOC from HALL, KIND and the initial count (R327). -/
def semAllocOp (hall kind : Nat) (count : Word) (roleOk : Bool) (s : State) : (Status × Nat) × State :=
  if !roleOk || decide (4096 ≤ hall) || (hallOf s hall).state != .live || !(kind == 1 || kind == 2) then
    ((Status.permission, 0), s)
  else
    let quota := if kind = 1 then qLsems (hallOf s hall) else qBsems (hallOf s hall)
    if quota ≤ hallSems s kind hall then ((Status.refusedQuota, 0), s)
    else match firstFrom (fun i => !(semOf s kind i).alloc) (if kind = 1 then 4096 else 256) 0 with
      | none => ((Status.refusedCapacity, 0), s)
      | some i => ((Status.ok, i), updSem kind i (fun _ => { alloc := true, hall := hall, count := count }) s)

/-- SEM_FREE (R327). -/
def semFreeOp (hall kind i : Nat) (roleOk : Bool) (s : State) : Status × State :=
  if !roleOk || !(kind == 1 || kind == 2) || !(semOf s kind i).alloc || (semOf s kind i).hall != hall
      || !clearable (hallOf s hall) then (Status.permission, s)
  else if !(semWaiters s kind i).isEmpty then (Status.retryLater, s)
  else (Status.ok, updSem kind i (fun _ => default) s)

/-- Fences and semaphores of a hall go at the end of its teardown (R336). -/
def freeHallSync (hall : Nat) (s : State) : State :=
  s.updFs fun x => { x with
    fences := x.fences.filter (fun e => !(e.2.state != 0#2 && e.2.hall == hall))
    locals := x.locals.filter (fun e => !(e.2.alloc && e.2.hall == hall))
    broadcasts := x.broadcasts.filter (fun e => !(e.2.alloc && e.2.hall == hall)) }

/-! ### The actions 0x5030.01 to .05 -/

/-- The roles of R288 for a hall's objects, with a tenant bound to the hall; for a SEALED hall not the operator. -/
def hallRole (s : State) (a : Act) (hall : Nat) : Bool :=
  mayAct s (if isSealed (hallOf s hall) then [.domainManager, .tenant] else [.operator, .domainManager, .tenant]) a
    && mayName s a hall

/-- Bytes from `off` are all zero, and the argument is no longer than `len`. -/
def padZero (b : Bytes) (off len : Nat) : Bool := decide (b.length ≤ len) && allZero (b.drop off)

def fenceCreateAct (a : Act) (arg : Bytes) (s : State) : State :=
  let b := fit arg 16
  match fenceCreateOp b (hallRole s a (num b 0 2) && decide (arg.length ≤ 16)) s with
  | ((st, f), s) => actDone a.sess 0x503001 st (if st = Status.ok then natLe f 4 else []) false s

def execFenceCreate (a : Act) (arg : Bytes) (s : State) : Answer := goOn (fenceCreateAct a arg s)

def fenceDestroyAct (a : Act) (arg : Bytes) (s : State) : State :=
  match fenceDestroyOp (num arg 0 2) (num arg 2 2) (hallRole s a (num arg 0 2) && padZero arg 4 16) s with
  | (st, s) => actDone a.sess 0x503002 st [] false s

def execFenceDestroy (a : Act) (arg : Bytes) (s : State) : Answer := goOn (fenceDestroyAct a arg s)

def fenceClearAct (a : Act) (arg : Bytes) (s : State) : State :=
  match fenceClearOp (num arg 0 2) (num arg 2 2) (hallRole s a (num arg 0 2) && padZero arg 4 16) s with
  | (st, s) => actDone a.sess 0x503003 st [] false s

def execFenceClear (a : Act) (arg : Bytes) (s : State) : Answer := goOn (fenceClearAct a arg s)

def semAllocAct (a : Act) (arg : Bytes) (s : State) : State :=
  let ok := hallRole s a (num arg 0 2) && padZero arg 8 16 && num arg 3 1 == 0
  match semAllocOp (num arg 0 2) (num arg 2 1) (BitVec.ofNat 32 (num arg 4 4)) ok s with
  | ((st, i), s) => actDone a.sess 0x503004 st (if st = Status.ok then natLe i 4 else []) false s

def execSemAlloc (a : Act) (arg : Bytes) (s : State) : Answer := goOn (semAllocAct a arg s)

def semFreeAct (a : Act) (arg : Bytes) (s : State) : State :=
  let ok := hallRole s a (num arg 0 2) && padZero arg 6 16 && num arg 3 1 == 0
  match semFreeOp (num arg 0 2) (num arg 2 1) (num arg 4 2) ok s with
  | (st, s) => actDone a.sess 0x503005 st [] false s

def execSemFree (a : Act) (arg : Bytes) (s : State) : Answer := goOn (semFreeAct a arg s)

/-! ### FS_CMD (R338) -/

/-- FS_ARG as bytes. -/
def fsArg (x : Fs) : Bytes := ((List.range 4).map fun i => natLe (x.args.get i).toNat 4).flatten

/-- A command's end. -/
def fsFinish (op : Nat) (r : Status × State) : State :=
  r.2.updFs fun x => { x with go := false, op := BitVec.ofNat 4 op, result := r.1 }

/-- A create's end: FS_STATUS.OBJ takes the object it made. -/
def fsMade (op : Nat) (r : (Status × Nat) × State) : State :=
  fsFinish op (r.1.1, if r.1.1 = Status.ok then r.2.updFs fun x => { x with created := BitVec.ofNat 16 r.1.2 } else r.2)

/-- FS_QINFO of a fence (R340). -/
def fenceInfo (o : Fence) : Nat :=
  put 30 o.state.toNat + put 29 (b2n o.backward) + put 28 (b2n o.notify) + put 25 o.nvec + put 23 o.pkind.toNat + put 12 o.view
    + o.hall

/-- QUERY of a fence or a semaphore (R338-R340). -/
def fsQueryOp (kind obj : Nat) (s : State) : Status × State :=
  if kind = 0 then
    let o := fenceOf s obj
    (Status.ok, s.updFs fun x => { x with
      qinfo := BitVec.ofNat 32 (fenceInfo o), qstat := BitVec.ofNat 32 (put 16 (o.producer % 2 ^ 14) + o.status.toNat), qvalue := o.value })
  else if kind = 3 then (Status.permission, s)
  else
    let o := semOf s kind obj
    (Status.ok, s.updFs fun x => { x with
      qinfo := BitVec.ofNat 32 (put 30 (b2n o.alloc) + o.hall), qstat := 0#32, qvalue := o.count.setWidth 64 })

/-- FAULT (R321): the status is other than OK and DEFERRED; the object is a fence that is not FREE. -/
def fsFaultOp (kind obj : Nat) (s : State) : Status × State :=
  let st := BitVec.ofNat 16 (s.fs.args.get 0).toNat
  if kind ≠ 0 ∨ (fenceOf s obj).state = 0#2 ∨ st = Status.ok ∨ st = Status.deferred then (Status.permission, s)
  else (Status.ok, faultFence obj st s)

/-- One FS_CMD. TKIND and OBJ name the object of every operation but the creates, which take FS_ARG (R337, R338). -/
def fsCommand (op kind obj : Nat) (s : State) : State :=
  let s := s.updFs fun x => { x with kind := BitVec.ofNat 2 kind, obj := BitVec.ofNat 16 obj }
  let b := fsArg s.fs
  match op with
  | 1 => fsMade 1 (fenceCreateOp b true s)
  | 2 => fsFinish 2 (fenceDestroyOp (fenceOf s obj).hall obj (kind == 0) s)
  | 3 => fsFinish 3 (fenceClearOp (fenceOf s obj).hall obj (kind == 0) s)
  | 4 => fsMade 4 (semAllocOp (num b 0 2) (num b 2 1) (BitVec.ofNat 32 (num b 4 4)) (padZero b 8 16 && num b 3 1 == 0) s)
  | 5 => fsFinish 5 (semFreeOp (semOf s kind obj).hall kind obj true s)
  | 6 => fsFinish 6 (fsQueryOp kind obj s)
  | 7 => fsFinish 7 (fsFaultOp kind obj s)
  | _ => fsFinish s.fs.op.toNat (Status.permission, s)

/-- The object fields that a command row without operands leaves as they stand. -/
def fsObj (s : State) : Nat × Nat := (s.fs.kind.toNat, s.fs.obj.toNat)

def execFsFenceCreate (s : State) : Answer := goOn (fsCommand 1 (fsObj s).1 (fsObj s).2 s)
def execFsFenceDestroy (s : State) : Answer := goOn (fsCommand 2 (fsObj s).1 (fsObj s).2 s)
def execFsFenceClear (s : State) : Answer := goOn (fsCommand 3 (fsObj s).1 (fsObj s).2 s)
def execFsSemAlloc (s : State) : Answer := goOn (fsCommand 4 (fsObj s).1 (fsObj s).2 s)
def execFsSemFree (s : State) : Answer := goOn (fsCommand 5 (fsObj s).1 (fsObj s).2 s)
def execFsQuery (kind : BitVec 2) (obj : BitVec 16) (s : State) : Answer := goOn (fsCommand 6 kind.toNat obj.toNat s)
def execFsFault (kind : BitVec 2) (obj : BitVec 16) (s : State) : Answer := goOn (fsCommand 7 kind.toNat obj.toNat s)

end Sys2Proof.Machine
end

