-- ==== Sys2Proof/Machine/LinkRx.lean ====
section
/-! DEFINITION. The receive side of link sealing: relays, checks, the window, losses, placement, ordered release, answers to
requests, failover, lane falls, and the link seal commands (06_link_sealing.md R158-R181; 09_movers_reduction.md R249-R251;
10_remote_atomics.md R270, R271; 12_fences_sync.md R329). -/

namespace Sys2Proof.Machine

-- One declaration at a time, so that the elaborator holds few threads (each takes stack of its own).
set_option Elab.async false

/-! ### Frame fields (R151, R152) -/

def fType (b : Bytes) : Byte := BitVec.ofNat 8 (num b 0 1)
def fLast (b : Bytes) : Bool := (num b 1 1).testBit 0
def fClass (b : Bytes) : Nat := bits (num b 1 1) 1 2
def fEpoch (b : Bytes) : Bool := (num b 1 1).testBit 3
def fDst (b : Bytes) : Nat := num b 2 2
def fSrc (b : Bytes) : Nat := num b 4 2
def fStream (b : Bytes) : Nat := num b 6 1
def fLen (b : Bytes) : Nat := num b 7 1
def fSeq (b : Bytes) : Nat := num b 8 8
def fPayload (b : Bytes) : Bytes := sub b 16 (64 * (fLen b + 1))
def fTag (b : Bytes) : Bytes := sub b (16 + 64 * (fLen b + 1)) 16

/-- The form of a header (R158 step 1): a used TYPE, zero reserved bits, a LEN of R152, CLASS as on the port, and a whole frame. -/
def frameForm (vc : BitVec 2) (b : Bytes) : Bool :=
  let t := (fType b).toNat
  let len := fLen b
  let lenOk := if t ≤ 3 ∨ t = 10 then decide (len ≤ 7) else if t = 8 then decide (1 ≤ len ∧ len ≤ 7) else len == 0
  decide (1 ≤ t ∧ t ≤ 10) && bits (num b 1 1) 4 4 == 0 && bits (fDst b) 14 2 == 0 && bits (fSrc b) 14 2 == 0 && lenOk
    && fClass b == vc.toNat && b.length == 32 + 64 * (len + 1)

/-- The context of a frame (R158 step 2). -/
def rxMatch (s : State) (b : Bytes) : Option Nat :=
  match s.ls.rx.find? fun e => e.2.live && e.2.src.toNat == fSrc b && e.2.stream.toNat == fStream b && e.2.epoch == fEpoch b with
  | some e => some e.1
  | none => none

/-! ### The hold buffer (R164) -/

/-- Sizes of the frames of a class that a lane's hold buffer holds: each until it counts as released. -/
def heldSizes (s : State) (lane cls : Nat) : List Nat :=
  (s.ls.rx.filter fun e => e.2.live && rxLane e.2 == lane && e.2.cls.toNat == cls).flatMap fun e =>
    (e.2.held.filter fun h => h.type != tGap).map fun h => h.payload.length + 32

/-- Does a class find 544 bytes free? A class with a reserve keeps its first frame there. DESIGN CHOICE, assumption 28. -/
def holdRoom (s : State) (lane cls : Nat) : Bool :=
  let total (l : List Nat) : Nat := l.foldl (· + ·) 0
  let c0 := heldSizes s lane 0
  let c3 := heldSizes s lane 3
  let shared := total (heldSizes s lane 1) + total (heldSizes s lane 2) + total (c0.drop 1) + total (c3.drop 1)
  (cls == 0 && c0.isEmpty) || (cls == 3 && c3.isEmpty) || decide (shared + 544 ≤ 1984)

/-! ### Relays (R50, R162) -/

/-- RELAY_FRAME: unchanged to its egress lane, or dropped and counted on its ingress lane. -/
def relayOp (lane : Nat) (route : Byte) (b : Bytes) (s : State) : State :=
  let out := bits route.toNat 0 6
  if route.toNat.testBit 7 && laneUp s out then
    (updLane lane (fun l => { l with relayed := l.relayed + 1 }) s).emit (.relay out b)
  else updLane lane (fun l => { l with relayDrops := l.relayDrops + 1 }) s

/-! ### Losses (R160) -/

/-- Has a context no part in requests: none numbered yet, none waiting for its number? DEDUCED, assumption 173. -/
def asksNothing (c : TxCtx) : Bool :=
  c.rnum == 0 && c.unanswered.isEmpty && c.resync.isNone && !c.chunks.any nonPosted

/-- The requester's side of a loss (R271): its requests on the reverse direction enter resync. -/
def resyncOf (i : Nat) (st : Status) (s : State) : List Ans × State :=
  let c := rxOf s i
  match txFor s c.hall c.src.toNat c.stream.toNat with
  | none => ([], s)
  | some t => if asksNothing (txOf s t) then ([], s) else enterResync t st s

/-- Sequences of a context become losses, `n` of them holes: each stands where it is for the SIGNALs above it. -/
def rxLoss (i n : Nat) (seqs : List Nat) (st : Status) (taint : Bool) (s : State) : List Ans × State :=
  let c := rxOf s i
  let s := if n = 0 then s else (rxCount (rxPipe s (rxLane c)) 6 n s).lsEvent 2
  let s := updRx i (fun c => { c with
    losses := c.losses ++ seqs.map fun q => (q, st)
    tainted := if taint && !seqs.isEmpty && c.tainted == Status.ok then st else c.tainted }) s
  resyncOf i st s

/-- The hall field of an RX context's faults (R173). -/
def rxHall (s : State) (i : Nat) : Nat := handleHall (rxOf s i).handle

/-- A frame has verified: the window takes its sequence (R159). -/
def rxMark (i seq : Nat) (s : State) : List Ans × State :=
  let c := rxOf s i
  let src := Src.linkRx (rxPipe s (rxLane c))
  if seq ≤ c.top then ([], updRx i (fun c => { c with holes := c.holes.filter (· != seq) }) s)
  else
    let low := seq - 1023
    let fresh := (List.range (seq - max (c.top + 1) low)).map (· + max (c.top + 1) low)
    let past := low - (c.top + 1) - (c.ahead.filter fun a => decide (c.top < a ∧ a < low)).length
    let gone := (c.holes.filter (· < low)).length + past
    let lost := c.holes.filter (· < low) ++ if past = 0 then [] else [c.top + 1]
    let s := updRx i (fun c => { c with
      top := seq
      holes := c.holes.filter (fun h => decide (low ≤ h)) ++ fresh.filter fun h => !c.ahead.contains h
      ahead := c.ahead.filter (seq < ·) }) s
    if checkFails (decide (0 < gone)) src Kind.linkHole s then
      rxLoss i gone lost Status.authFail true (reportFault (decide (0 < gone)) src Kind.linkHole (rxHall s i) 0 i s)
    else ([], s)

/-- Is a sequence a replay (R159)? -/
def isReplay (c : RxCtx) (seq : Nat) : Bool :=
  if seq ≤ c.top then !c.holes.contains seq else c.ahead.contains seq

/-! ### Placement (R249, R250) -/

def placeCount (n : Nat) (s : State) : State := s.updMv fun v => { v with placement := v.placement.bump n 1 }
def updPlace (i : Nat) (f : Place → Place) (s : State) : State := updRx i (fun c => { c with place := f c.place }) s

/-- The slot of the open reduction item hears that its input is lost (R261). -/
def placeRedLost (i : Nat) (s : State) : State :=
  let c := rxOf s i
  if c.place.midItem && c.place.red && !c.place.drop then
    match redSlotFor s c c.place.coll with
    | some (u, k) => redInputLost u k s
    | none => s
  else s

/-- The slots that a frame which enters skip at a put block leaves without their input (R261): the one that its put block names, and
in a TAINTED context, whose every item is skipped, each that waits on it. DEDUCED, assumption 177. -/
def placeRedSkipped (i : Nat) (b : Bytes) (s : State) : State :=
  let c := rxOf s i
  let mine := (redSlotsOf s c).filter fun e =>
    0 < e.2.expectIn && (c.tainted != Status.ok || (num b 0 1 == 2 && num b 6 2 == rdColl e.2.desc))
  forAll mine (fun e s => redInputLost (e.1 / 4) (e.1 % 4) s) s

/-- SKIP_ENTRY: the fault, the kept status, and the frame dropped. -/
def placeSkip (i : Nat) (h : HeldFrame) (natural : Bool) (s : State) : State :=
  let c := rxOf s i
  let src := Src.linkRx (rxPipe s (rxLane c))
  let s := (reportFault natural src Kind.dataFraming (rxHall s i) c.place.addr i s).mvEvent 2
  let s := if c.place.midItem then placeRedLost i s else s
  let s := if c.place.midItem && c.tainted == Status.ok then s else placeRedSkipped i h.payload s
  let s := placeCount 1 (keepRx i Status.authFail s)
  takeHeld i h.seq 0 (updPlace i (fun p => { p with midItem := false, skip := !h.last, drop := false }) s)

/-- An answer to a placement write of a frame: an error drops the rest of its item, and TRANSLATION_FAULT and PERMISSION are kept
(R250). -/
def placeTake (i seq : Nat) (st : Status) (s : State) : State :=
  let s := if st = Status.ok then s
    else
      let s := if (rxOf s i).place.drop then s else placeCount 2 s
      let s := updPlace i (fun p => { p with drop := p.drop || (p.midItem && decide (p.first ≤ seq)) }) s
      if st = Status.translationFault ∨ st = Status.permission then keepRx i st s else s
  heldDone i seq s

/-- The writes of a frame's data; what is left of an item after a placement error is dropped. -/
def placeWrites (i seq hall hgen : Nat) : List (Nat × Bytes) → State → List Ans × State
  | [], s => ([], s)
  | (a, d) :: rest, s =>
    if (rxOf s i).place.drop then placeWrites i seq hall hgen rest (heldDone i seq s)
    else match writeLine hall hgen a needWrite d (.place i seq) 0 s with
      | (l, s) =>
        let mine := l.filter fun x => x.owner == .place i seq
        let s := forAll mine (fun x s => placeTake i seq x.status s) s
        match placeWrites i seq hall hgen rest s with
        | (m, s) => (l.filter (fun x => x.owner != .place i seq) ++ m, s)

/-- Put block fields (R248). -/
def pbKind (b : Bytes) : Nat := num b 0 1
def pbColl (b : Bytes) : Nat := num b 6 2
def pbAddr (b : Bytes) : Nat := num b 8 8
def pbLength (b : Bytes) : Nat := num b 16 6
def pbItem (b : Bytes) : Nat := num b 24 4

/-- The checks of a put block. -/
def putBlockOk (c : RxCtx) (b : Bytes) : Bool :=
  (pbKind b == 1 || pbKind b == 2) && num b 1 1 == 0 && num b 22 2 == 0 && allZero (sub b 28 36)
    && num b 2 2 == c.hall && num b 4 2 == c.hgen.toNat && pbLength b % 64 == 0
    && (if pbKind b = 1 then pbColl b == 0 && decide (pbLength b ≤ 65536) else pbAddr b == 0)
    && (!c.place.numberKnown || pbItem b == c.place.nextItem)

/-- What the open item does with the data of a frame. -/
def placeData (i : Nat) (h : HeldFrame) (data : Bytes) (s : State) : Option (List Ans × State) :=
  let c := rxOf s i
  let p := c.place
  let n := data.length
  let done (s : State) : State :=
    if h.last then placeCount 0 (updPlace i (fun p => { p with midItem := false, drop := false }) s) else s
  if p.length < p.off + n ∨ (h.last ∧ p.off + n < p.length) then some ([], placeSkip i h true s)
  else
    let moved (s : State) : State := updPlace i (fun p => { p with off := p.off + n }) s
    if p.drop then
      let s := updPlace i (fun p => { p with off := p.off + n, midItem := !h.last, drop := !h.last }) s
      some ([], takeHeld i h.seq 0 s)
    else if p.red then
      match redSlotFor s c p.coll with
      | none => if n = 0 then some ([], done (takeHeld i h.seq 0 (moved s))) else none
      | some (u, k) =>
        if !redRoom s u n then none else some ([], done (takeHeld i h.seq 0 (moved (redFeed u k data s))))
    else
      let l := linePieces (n / 64 + 2) (p.addr + p.off) data
      let s := moved (takeHeld i h.seq l.length s)
      match placeWrites i h.seq c.hall c.hgen.toNat l s with
      | (a, s) => some (a, done s)

/-- The first frame of an item: its put block, then its data. -/
def placeFirst (i : Nat) (h : HeldFrame) (s : State) : Option (List Ans × State) :=
  let c := rxOf s i
  let b := h.payload.take 64
  let src := Src.linkRx (rxPipe s (rxLane c))
  let natural := !putBlockOk c b
  let next (p : Place) : Place := { p with nextItem := if p.numberKnown then nextNum p.nextItem else nextNum (pbItem b), numberKnown := true }
  if checkFails natural src Kind.dataFraming s then some ([], placeSkip i h natural (updPlace i next s))
  else
    let opened (s : State) : State := updPlace i (fun p => { next p with
      midItem := true, skip := false, drop := false, red := pbKind b == 2, addr := pbAddr b, length := pbLength b, off := 0, coll := pbColl b
      first := h.seq }) s
    if pbKind b = 2 then
      match redSlotFor s c (pbColl b) with
      | none => if redSecond s c (pbColl b) then some ([], placeSkip i h true (updPlace i next s)) else none
      | some (u, k) =>
        let other := decide ((redOf s u k).expectIn ≠ pbLength b)
        if checkFails other (Src.red u) Kind.redMismatch s then
          placeData i h (h.payload.drop 64) (updPlace i (fun p => { p with drop := true }) (redMismatch other u k (opened s)))
        else if !redRoom s u (h.payload.length - 64) then none
        else placeData i h (h.payload.drop 64) (opened s)
    else placeData i h (h.payload.drop 64) (opened s)

/-- A GAP with LOSS = 1 reaches placement: the open item was aborted by its sender, and a put block is expected. -/
def placeGap (i : Nat) (h : HeldFrame) (s : State) : State :=
  let c := rxOf s i
  let s := if c.place.midItem then placeCount 3 (placeRedLost i s) else s
  takeHeld i h.seq 0 (updPlace i (fun p => { p with midItem := false, numberKnown := false, skip := false, drop := false }) s)

/-- The oldest DATA frame, or GAP, that placement has not taken; none when it has to wait. A frame of a torn-down hall is dropped
and counted once (R28, R172). -/
def placeStep (i : Nat) (s : State) : Option (List Ans × State) :=
  let c := rxOf s i
  match c.held.find? fun h => !h.taken && (h.type == tData || h.type == tGap) with
  | none => none
  | some h =>
    if h.type = tGap then some ([], placeGap i h s)
    else if c.hall < 4096 ∧ !genOk s c.hall c.hgen.toNat then some ([], takeHeld i h.seq 0 (hallStale c.hall s))
    else if c.place.skip then
      some ([], takeHeld i h.seq 0 (placeCount 1 (updPlace i (fun p => { p with skip := !h.last }) s)))
    else if c.tainted ≠ Status.ok ∨ c.holes.any (· < h.seq) then some ([], placeSkip i h true s)
    else if c.place.midItem then placeData i h h.payload s
    else placeFirst i h s

/-- Does the frame that placement cannot take wait for room in a reduction unit's staging? -/
def stagingFull (i : Nat) (s : State) : Bool :=
  let c := rxOf s i
  match c.held.find? fun h => !h.taken && (h.type == tData || h.type == tGap) with
  | none => false
  | some h =>
    let red := if c.place.midItem then c.place.red else pbKind h.payload == 2
    match redSlotFor s c (if c.place.midItem then c.place.coll else pbColl h.payload) with
    | some (u, _) => red && !redRoom s u (h.payload.length - if c.place.midItem then 0 else 64)
    | none => false

/-- Placement goes on while it can; a full staging is an event (R263). -/
def placePump (i : Nat) : Nat → State → List Ans × State
  | 0, s => ([], s)
  | fuel + 1, s =>
    match placeStep i s with
    | none => ([], if stagingFull i s then s.rdEvent 2 else s)
    | some (a, s) => match placePump i fuel s with | (b, s) => (a ++ b, s)

/-- Placement of every context that holds something for it. -/
def placeAll (s : State) : List Ans × State :=
  let l := s.ls.rx.filterMap fun e =>
    if e.2.held.any (fun h => !h.taken && (h.type == tData || h.type == tGap)) then some e.1 else none
  eachAns l (fun i s => placePump i (rxOf s i).held.length s) s

/-! ### A verified frame (R160) -/

/-- A frame joins what its context holds. -/
def holdFrame (i : Nat) (b : Bytes) (plain : Bytes) (s : State) : State :=
  let h : HeldFrame := { seq := fSeq b, type := fType b, last := fLast b, payload := plain, taken := false, writes := 0 }
  updRx i (fun c => { c with held := c.held ++ [h] }) s

/-- A service frame's message goes to its handler (R146, R446, R466). -/
def serviceTake (i : Nat) (m : Bytes) (s : State) : State :=
  match num m 0 2 with
  | 1 => retireReceive i m s
  | 2 => cutReceive i m s
  | 3 => timeReceive i m s
  | _ => s.updDom fun d => { d with retireDrops := d.retireDrops + 1 }

/-- GAP_APPLY. -/
def gapApply (i : Nat) (b : Bytes) (plain : Bytes) (s : State) : List Ans × State :=
  let c := rxOf s i
  let p := rxPipe s (rxLane c)
  let first := num plain 0 8
  let last := num plain 8 8
  let loss := num plain 16 1
  let bad := !allZero (plain.drop 17) || decide (2 ≤ loss)
    || (if loss = 1 then first != 0 || last != 0 else decide (last < first ∨ fSeq b ≤ last))
  if bad then ([], rxCount p 5 1 s)
  else if loss = 0 then
    ([], rxCount p 7 1 (updRx i (fun c => { c with holes := c.holes.filter fun h => !decide (first ≤ h ∧ h ≤ last) }) s))
  else
    let lost := c.holes.filter (· < fSeq b)
    let s := rxCount p 7 1 (updRx i (fun c => { c with holes := c.holes.filter fun h => !decide (h < fSeq b) }) s)
    match rxLoss i lost.length lost Status.resetAborted false (holdFrame i b [] s) with
    | (a, s) => match placePump i (rxOf s i).held.length s with | (x, s) => (a ++ x, s)

/-- What a verified frame does. -/
def frameAccepted (i : Nat) (b : Bytes) (plain : Bytes) (s : State) : List Ans × State :=
  let c := rxOf s i
  let p := rxPipe s (rxLane c)
  let t := fType b
  let service := hClass c.handle == 1
  if t = tGap then gapApply i b plain s
  else if t = tService then
    if service then ([], serviceTake i plain (rxCount p 0 1 s)) else ([], rxCount p 5 1 s)
  else if t = tData then
    let s := holdFrame i b plain s
    placePump i (rxOf s i).held.length s
  else ([], holdFrame i b plain s)

/-! ### LINK_FRAME_RECEIVE (R158) -/

/-- The frame of an expander context (R154): no tag check, the window, then the line engines. -/
def expanderFrame (i : Nat) (b : Bytes) (s : State) : List Ans × State :=
  let c := rxOf s i
  match rxMark i (fSeq b) s with
  | (a, s) => match lineRspTake 0 (fPayload b) (rxCount (rxPipe s (rxLane c)) 0 1 s) with | (x, s) => (a ++ x, s)

/-- A frame whose tag fails (R158, R172): void, or an authentication failure whose sequence becomes a loss. -/
def tagFailed (p i : Nat) (b : Bytes) (natural : Bool) (s : State) : List Ans × State :=
  let c := rxOf s i
  if natural && fTag b == List.replicate 16 0xFF#8 then ([], rxCount p 4 1 s)
  else
    let s := (rxCount p 2 1 (reportFault natural (Src.linkRx p) Kind.linkAuth (rxHall s i) 0 i s)).lsEvent 0
    let seq := fSeq b
    let n := if c.holes.contains seq then 1 else 0
    let s := updRx i (fun c =>
      if seq ≤ c.top then { c with holes := c.holes.filter (· != seq) } else { c with ahead := c.ahead ++ [seq] }) s
    match rxLoss i n [seq] Status.authFail true s with
    | (a, s) => match placePump i (rxOf s i).held.length s with | (x, s) => (a ++ x, s)

/-- A context is on the lane that its last good frame came on. -/
def onLane (lane i : Nat) (s : State) : State :=
  if rxLane (rxOf s i) = lane then s else updRx i (fun c => { c with onAlt := c.alt == some lane }) s

/-- The key, the tag, the window, the release (R158 steps 4 to 8). Nothing of the context moves before the tag verifies. -/
def rxVerify (lane i : Nat) (b : Bytes) (s : State) : List Ans × State :=
  let c := rxOf s i
  let p := rxPipe s lane
  let l : Lookup :=
    { unit := Src.linkRx p, handle := c.handle, hall := if hClass c.handle = 2 then hHall c.handle else noHall, hgen := c.hgen
      sealing := false, parent := 0#32, label := [], ticket := 0 }
  match keyFor l s with
  | (.hit key, s) =>
    let plain := Crypto.gcmOpen key (frameIv c.stream (fSeq b)) (b.take 16) (fPayload b) (fTag b)
    match plain with
    | none => tagFailed p i b true s
    | some x =>
      if injected (Src.linkRx p) Kind.linkAuth s then tagFailed p i b false s
      else match rxMark i (fSeq b) (onLane lane i s) with
        | (a, s) => match frameAccepted i b x s with | (y, s) => (a ++ y, s)
  | (.staleHall, s) => ([], hallStale (hHall c.handle) s)
  | (.miss, s) => ([], rxCount p 1 1 (raiseFault (Src.linkRx p) Kind.keyMiss (rxHall s i) 0 0 s))
  | (.staleKey, s) | (.exhausted, s) | (.waits, s) => ([], rxCount p 1 1 s)

/-- A frame for this member (R158). -/
def frameHere (lane : Nat) (vc : BitVec 2) (b : Bytes) (s : State) : List Ans × State :=
  let p := rxPipe s lane
  if s.fcu.safe || !frameForm vc b then ([], rxCount p 5 1 s)
  else if fType b = tLineWr ∨ fType b = tLineRd then ([], rxCount p 1 1 s)
  else match rxMatch s b with
    | none => ([], rxCount p 1 1 s)
    | some i =>
      let c := rxOf s i
      if c.broken || !(lane == c.lane || c.alt == some lane) || c.cls != vc || (c.expander != (fType b == tLineRsp)) then
        ([], rxCount p 5 1 s)
      else
        let natural := isReplay c (fSeq b)
        if checkFails natural (Src.linkRx p) Kind.linkReplay s then
          ([], (rxCount p 3 1 (reportFault natural (Src.linkRx p) Kind.linkReplay (rxHall s i) 0 i s)).lsEvent 1)
        else if c.expander then expanderFrame i b (onLane lane i s)
        else rxVerify lane i b s

/-! ### Ordered release (FRAME_RELEASE, R160, R170, R329) -/

/-- REMOTE_SIGNAL_APPLY. -/
def remoteSignal (i : Nat) (m : Bytes) (st : Status) (s : State) : State :=
  let c := rxOf s i
  let hall := num m 0 2
  let f := num m 4 2
  if hall ≠ c.hall ∨ num m 2 2 ≠ c.hgen.toNat ∨ !genOk s c.hall c.hgen.toNat then hallStale (hall % 4096) s
  else if injected Src.fs Kind.fenceUnit s then reportFault false Src.fs Kind.fenceUnit hall 0 f s
  else if checkFails (!fenceOfHall s f hall) Src.fs Kind.fenceStray s then
    let s := reportFault (!fenceOfHall s f hall) Src.fs Kind.fenceStray hall 0 f s
    (s.fsCount 6).fsEvent 2
  else (signalFence f (BitVec.ofNat 64 (num m 8 8)) st s).fsCount 5

/-- The status that a SIGNAL is delivered with (R160, R250): that of the taint, else of a loss below it. -/
def signalStatus (c : RxCtx) (seq : Nat) (own : Status) : Status :=
  if c.tainted ≠ Status.ok then c.tainted
  else if let some x := c.losses.find? (·.1 < seq) then x.2
  else if own ≠ Status.ok then own
  else c.kept

/-- A held frame of a context goes, as released. -/
def heldDrop (i seq : Nat) (s : State) : State :=
  let p := rxPipe s (rxLane (rxOf s i))
  rxCount p 0 1 (updRx i (fun c => { c with held := c.held.filter fun h => h.seq != seq }) s)

/-- A SIGNAL is delivered: what the context kept for it is used up. -/
def signalDeliver (i : Nat) (h : HeldFrame) (st : Status) (s : State) : State :=
  remoteSignal i h.payload st (updRx i (fun c => { c with losses := c.losses.filter (h.seq < ·.1), kept := Status.ok }) (heldDrop i h.seq s))

/-- The old contexts of a running epoch step: those whose EPOCH bit is the old epoch's. A context that has no more to drain
because it is BROKEN holds nothing up. DEDUCED, assumption 29. -/
def oldEpochLeft (s : State) : Bool :=
  let old := s.dom.epoch.toNat.testBit 0
  s.ls.tx.any (fun e => e.2.live && e.2.epoch == old && !e.2.broken)
    || s.ls.rx.any fun e => e.2.live && !e.2.expander && e.2.epoch == old && !e.2.broken

/-- EPOCH_DRAIN_COMPLETE (R145, R170): when all old keys are gone, STEP_PENDING clears and DOM_EPOCH is the new epoch. Broken
contexts of the old epoch go with their keys, and so do old keys that no context used. -/
def drainComplete (s : State) : State :=
  if !s.dom.stepPending || !s.dom.switched || oldEpochLeft s then s
  else
    let old := s.dom.epoch.toNat.testBit 0
    let gone := (s.ls.rx.filter fun e => e.2.live && !e.2.expander && e.2.epoch == old).map fun e => e.2.handle
    let s := s.updLs fun l => { l with
      tx := l.tx.filter fun e => !(e.2.live && e.2.epoch == old)
      rx := l.rx.filter fun e => !(e.2.live && !e.2.expander && e.2.epoch == old) }
    let s := forAll (gone ++ s.dom.oldPlan.map (·.handle)) retireHandle s
    s.updDom fun d => { d with stepPending := false, epoch := d.nextEpoch, switched := false, stepState := 3, oldPlan := [] }

/-- An old RX context is closed: its key retired, the context freed, its successor released. -/
def rxClose (i : Nat) (s : State) : State :=
  let h := (rxOf s i).handle
  let s := retireHandle h (updRx i (fun _ => default) s)
  let s := s.updLs fun l => { l with rx := l.rx.map fun e =>
    (e.1, if e.2.live && e.2.succOf == some i then { e.2 with waiting := false, succOf := none } else e.2) }
  drainComplete (s.lsEvent 7)

/-- FRAME_RELEASE: the SIGNAL or CLOSE that the floor has reached. A SIGNAL first waits for the write-back of its hall's dirty
combining lines (R276). -/
def frameReleaseOp (i : Nat) (s : State) : List Ans × State :=
  let c := rxOf s i
  if !c.live || c.waiting then ([], s)
  else match c.held.find? fun h => isOrdered h && h.seq == rxFloor c with
    | none => ([], s)
    | some h =>
      if h.type = tClose then ([], rxClose i (heldDrop i h.seq s))
      else if h.taken then
        if h.writes = 0 then ([], signalDeliver i h (signalStatus c h.seq (BitVec.ofNat 16 (num h.payload 6 2))) s) else ([], s)
      else
        let dirty := combDirty s (some c.hall)
        if dirty.isEmpty then ([], signalDeliver i h (signalStatus c h.seq (BitVec.ofNat 16 (num h.payload 6 2))) s)
        else
          let s := takeHeld i h.seq dirty.length s
          eachAns dirty (fun e s => combClean e (i, h.seq) s) s

/-! ### Answers to requests (RSP_ITEM_RECEIVE, R270, R271) -/

/-- The requester of a context's oldest request. -/
def rspSource (s : State) (t : Nat) : Nat :=
  match (txOf s t).unanswered with
  | u :: _ => (match u.owner with | .mover m _ _ => Src.mover m | _ => Src.fe)
  | [] => Src.fe

/-- A mismatch of an answer and its request: RSP_ALIGN with the requester's TX context and the home address (R284), then resync. -/
def rspMismatch (natural : Bool) (i t : Nat) (s : State) : List Ans × State :=
  let addr := match (txOf s t).unanswered with | u :: _ => u.addr | [] => 0
  enterResync t Status.resetAborted (reportFault natural (rspSource s t) Kind.rspAlign (rxHall s i) addr t s)

/-- The oldest request has its answer; a reset of the requester since makes it stale (R430). -/
def rspServe (t : Nat) (l : List (Status × Bytes)) (s : State) : List Ans × State :=
  match (txOf s t).unanswered with
  | [] => ([], s)
  | u :: rest =>
    let s := updTx t (fun c => { c with unanswered := rest }) s
    if u.gen ≠ ugen s (ownerUnit s u.owner) then ([], staleReply (ownerUnit s u.owner) s) else (unitAnswers u l, s)

/-- The units of a status-form answer: its statuses with the bytes of frame 2, and one status for those that it does not carry. -/
def rspUnits (u : Unanswered) (block data : Bytes) : List (Status × Bytes) :=
  let count := num block 2 1
  let st : Status := BitVec.ofNat 16 (num block 0 2)
  (List.range (max 1 u.lines)).map fun k =>
    if k < count then (BitVec.ofNat 16 (num block (8 + 2 * k) 2), sub data (64 * k) 64) else (st, [])

/-- A whole RSP item: `block` is the response block of the status form. -/
def rspItem (i : Nat) (block : Option Bytes) (data : Bytes) (s : State) : List Ans × State :=
  let c := rxOf s i
  let drop (s : State) : State := rxCount (rxPipe s (rxLane c)) 5 1 s
  match txFor s c.hall c.src.toNat c.stream.toNat with
  | none => ([], drop s)
  | some t =>
    let x := txOf s t
    match x.resync, block with
    | some n, some b => if n ≠ 0 ∧ num b 4 4 = n then ([], updTx t (fun x => { x with resync := none }) s) else ([], drop s)
    | some _, none => ([], drop s)
    | none, _ =>
      match x.unanswered with
      | [] => ([], drop s)
      | u :: _ =>
        if injected (rspSource s t) Kind.rspAlign s then rspMismatch false i t s
        else match block with
        | none =>
          if data.length = 64 * max 1 u.lines then
            rspServe t ((List.range (max 1 u.lines)).map fun k => (Status.ok, sub data (64 * k) 64)) s
          else rspMismatch true i t s
        | some b =>
          if num b 4 4 = u.rnum then
            rspServe t (rspUnits u b data) s
          else rspMismatch true i t s

/-- RSP_ITEM_RECEIVE: the context's oldest RSP frame; the second frame of a status form completes its item. -/
def rspReceiveOp (i : Nat) (s : State) : List Ans × State :=
  let c := rxOf s i
  match c.held.find? fun h => h.type == tRsp && !h.taken with
  | none => ([], s)
  | some h =>
    let s := takeHeld i h.seq 0 s
    match c.rspParts with
    | b :: _ =>
      let s := updRx i (fun c => { c with rspParts := [] }) s
      if h.last then rspItem i (some b) h.payload s else rspItem i none [] s
    | [] => if h.last then rspItem i none h.payload s else ([], updRx i (fun c => { c with rspParts := [h.payload] }) s)

/-! ### Failover, lane falls, abandoned streams (R165-R168) -/

/-- The holes of a context are resolved as losses and it becomes BROKEN. -/
def rxBreak (i : Nat) (taint : Bool) (s : State) : List Ans × State :=
  let lost := (rxOf s i).holes
  let s := updRx i (fun c => { c with broken := true, holes := [] }) s
  match rxLoss i lost.length lost Status.resetAborted taint (s.lsEvent 6) with
  | (a, s) => match placePump i (rxOf s i).held.length s with | (b, s) => (a ++ b, s)

/-- RX failover (R165, R167): the group's spare takes the lane and nothing is lost; with none free the lane's contexts break. -/
def rxFailoverOp (p : Nat) (s : State) : List Ans × State :=
  match laneOfRxPipe s p with
  | none =>
    if 64 ≤ p then ([], s.updLs fun l => { l with spares := l.spares.mod (p - 64) fun x => { x with rxBad := true } })
    else ([], s)
  | some lane =>
    if s.conf.lanes ≤ lane ∨ rxPipe s lane ≠ p then ([], s)
    else
      let g := groupOf lane
      let hall := match rxOnLane s lane with | i :: _ => rxHall s i | [] => noHall
      let s := forfeitLease (Src.linkRx p) s
      let s := if p < 64 then s.updLs fun l => { l with rxBad := l.rxBad.filter (· != p) ++ [p] }
        else s.updLs fun l => { l with spares := l.spares.mod g fun x => { x with rxBad := true } }
      let sp := s.ls.spares.get g
      let natural := !(p < 64 && sp.rxLane.isNone && !sp.rxBad)
      if !checkFails natural (Src.linkRx p) Kind.linkNoSpare s then
        let s := s.updLs fun l => { l with spares := l.spares.mod g fun x => { x with rxLane := some lane } }
        ([], raiseFault (Src.linkRx (sparePipe g)) Kind.linkPipe hall 0 p (s.lsEvent 3))
      else
        let s := reportFault natural (Src.linkRx p) Kind.linkNoSpare hall 0 p (s.lsEvent 4)
        eachAns ((rxOnLane s lane).filter fun i => !(rxOf s i).broken) (fun i => rxBreak i false) s

/-- A frame finds room for its class (R164); then it is relayed or is for this member. An injected failure of the RX pipe's
own checks makes the spare unseal it (R167). -/
def frameTakeOp (lane : Nat) (vc : BitVec 2) (route : Byte) (b : Bytes) (s : State) : List Ans × State :=
  if !laneUp s lane || isLanding s (Src.linkRx (rxPipe s lane)) || rxPipeBad s (rxPipe s lane) then ([], s)
  else if !holdRoom s lane vc.toNat then ([], s)
  else if bits (fDst b) 0 14 ≠ selfId s then ([], relayOp lane route b s)
  else if faultStall (Src.linkRx (rxPipe s lane)) s then ([], s)
  else
    let p := rxPipe s lane
    match (if injected (Src.linkRx p) Kind.linkPipe s then rxFailoverOp p (injFired s) else ([], s)) with
    | (a, s) => match frameHere lane vc b s with | (x, s) => (a ++ x, s)

/-- One RX context of a lane that fell: it waits on its alternate lane, or on its primary one again where that is up and the
alternate one fell; else it breaks. -/
def rxLaneLost (i : Nat) (s : State) : List Ans × State :=
  let c := rxOf s i
  if (if c.onAlt then laneUp s c.lane else c.alt.isSome) then ([], (updRx i (fun c => { c with onAlt := !c.onAlt }) s).lsEvent 5)
  else rxBreak i false s

/-- A moved TX context's requests enter resync (R271). -/
def moveResync (i : Nat) (s : State) : List Ans × State :=
  if (txOf s i).broken || asksNothing (txOf s i) then ([], s)
  else enterResync i Status.resetAborted s

/-- LANE_UP_FALL (R168). DEDUCED, assumption 172. -/
def laneFallOp (lane : Nat) (s : State) : List Ans × State :=
  if s.conf.lanes ≤ lane ∨ !s.pins.laneUp.toNat.testBit lane then ([], s)
  else
    let s := (s.updPins fun p => { p with laneUp := p.laneUp &&& ~~~(BitVec.ofNat 64 (2 ^ lane)) }).emit (.laneDown lane)
    let tx := (txOnLane s lane).filter fun i => !(txOf s i).broken
    let rx := (rxOnLane s lane).filter fun i => !(rxOf s i).broken
    let txHall := match tx with | i :: _ => handleHall (txOf s i).handle | [] => noHall
    let rxH := match rx with | i :: _ => rxHall s i | [] => noHall
    match txLaneFall lane s with
    | (a, s) => match eachAns tx moveResync s with
      | (b, s) => match eachAns rx rxLaneLost s with
        | (c, s) =>
          let s := if tx.isEmpty then s else raiseFault (Src.linkTx (txPipe s lane)) Kind.linkLane txHall 0 lane s
          let s := if rx.isEmpty then s else raiseFault (Src.linkRx (rxPipe s lane)) Kind.linkLane rxH 0 lane s
          (a ++ b ++ c, s)

/-- LINK_FRAME_RECEIVE, with an injected LINK_LANE at the RX pipe: its contexts lose the lane, whose level stays. -/
def frameReceiveOp (lane : Nat) (vc : BitVec 2) (route : Byte) (b : Bytes) (s : State) : List Ans × State :=
  let src := Src.linkRx (rxPipe s lane)
  if injected src Kind.linkLane s then
    let rx := (rxOnLane s lane).filter fun i => !(rxOf s i).broken
    let hall := match rx with | i :: _ => rxHall s i | [] => noHall
    match eachAns rx rxLaneLost s with
    | (a, s) => (a, reportFault false src Kind.linkLane hall 0 lane s)
  else frameTakeOp lane vc route b s

/-- TX_FRAME_SEAL, with an injected LINK_LANE at the TX pipe. -/
def txSealRow (i : Nat) (mismatch : Bool) (s : State) : List Ans × State :=
  let lane := txLane (txOf s i)
  let src := Src.linkTx (txPipe s lane)
  if (txHead (txOf s i)).isSome && txReady (txOf s i) && injected src Kind.linkLane s then
    let tx := (txOnLane s lane).filter fun i => !(txOf s i).broken
    match txLaneFall lane s with
    | (a, s) => match eachAns tx moveResync s with
      | (b, s) => (a ++ b, reportFault false src Kind.linkLane (handleHall (txOf s i).handle) 0 lane s)
  else txSealOp i mismatch s

/-- LANE_UP_RISE. -/
def laneRiseOp (lane : Nat) (s : State) : State :=
  if s.conf.lanes ≤ lane then s else s.updPins fun p => { p with laneUp := p.laneUp ||| BitVec.ofNat 64 (2 ^ lane) }

def execLaneUpRise (lane : Nat) (s : State) : Answer := goOn (laneRiseOp lane s)

/-- ABANDON of one RX context. -/
def abandonOp (i : Nat) (s : State) : List Ans × State := rxBreak i true s

/-- STREAM_ABANDON: every context of a source and stream. -/
def streamAbandonAct (a : Act) (arg : Bytes) (s : State) : List Ans × State :=
  let l := s.ls.rx.filterMap fun e =>
    if e.2.live && e.2.src.toNat == num arg 0 2 && e.2.stream.toNat == num arg 2 1 then some e.1 else none
  if !mayAct s [.domainManager] a || arg.length != 3 || l.isEmpty then
    ([], actDone a.sess 0xA01001 Status.permission [] false s)
  else match eachAns l abandonOp s with
    | (x, s) => (x, actDone a.sess 0xA01001 Status.ok [] false s)

/-- MEMBER_LOST at an RX context (R160, R144): its held SIGNALs are delivered with PEER_LOST, its key is retired. -/
def rxPeerLost (i : Nat) (s : State) : State :=
  let c := rxOf s i
  let s := forAll (c.held.filter fun h => h.type == tSignal) (fun h s => signalDeliver i h Status.peerLost s) s
  let s := placeRedLost i s
  retireHandle c.handle (updRx i (fun _ => default) s)

/-! ### LS_CMD (R175-R178) -/

/-- Argument fields (R177). -/
def lsPeer (l : Ls) : Nat := bits l.arg1.toNat 16 16
def lsStream (l : Ls) : Nat := bits l.arg1.toNat 8 8
def lsLane (l : Ls) : Nat := bits l.arg1.toNat 2 6
def lsClass (l : Ls) : Nat := bits l.arg1.toNat 0 2
def lsAlt (l : Ls) : Option Nat := if l.arg2.toNat.testBit 25 then some (bits l.arg2.toNat 26 6) else none
def lsSucc (l : Ls) : Option Nat := if l.arg2.toNat.testBit 15 then some (bits l.arg2.toNat 16 9) else none
def lsEpoch (l : Ls) : Bool := l.arg2.toNat.testBit 2
def lsExpander (l : Ls) : Bool := l.arg2.toNat.testBit 1
def lsRx (l : Ls) : Bool := l.arg2.toNat.testBit 0

/-- What both binds check: lanes of the configuration, the peer's form, the class that goes with the handle (R149, R13). -/
def bindForm (s : State) : Bool :=
  let l := s.ls
  let cls := hClass l.arg0
  bits (lsPeer l) 14 2 == 0 && decide (lsLane l < s.conf.lanes)
    && (match lsAlt l with | some a => decide (a < s.conf.lanes) | none => true)
    && (cls == 1 || cls == 2) && ((lsClass l == 3) == (cls == 1))

/-- The hall of a context's key: 4,096, which no hall has, for a key of class 1. -/
def bindHall (h : Handle) : Nat := if hClass h = 2 then hHall h else 4096

/-- TX_BIND with the argument registers. -/
def txBindOp (i : Nat) (s : State) : Status × State :=
  let l := s.ls
  let dup := l.tx.any fun e => e.2.live && e.2.dst.toNat == lsPeer l && e.2.stream.toNat == lsStream l && e.2.epoch == lsEpoch l
  if (txOf s i).live || !bindForm s || dup then (Status.permission, s)
  else
    let waits := match lsSucc l with | some p => (txOf s p).live | none => false
    (Status.ok, updTx i (fun _ => { (default : TxCtx) with
      live := true, handle := l.arg0, dst := BitVec.ofNat 16 (lsPeer l), stream := BitVec.ofNat 8 (lsStream l)
      cls := BitVec.ofNat 2 (lsClass l), epoch := lsEpoch l, lane := lsLane l, alt := lsAlt l, nextSeq := 1
      succOf := lsSucc l, waiting := waits }) s)

/-- RX_BIND with the argument registers. -/
def rxBindOp (i : Nat) (s : State) : Status × State :=
  let l := s.ls
  let dup := l.rx.any fun e => e.2.live && e.2.src.toNat == lsPeer l && e.2.stream.toNat == lsStream l && e.2.epoch == lsEpoch l
  let form := if lsExpander l then l.arg0 == 0#32 && bits (lsPeer l) 14 2 == 0 && decide (lsLane l < s.conf.lanes) else bindForm s
  if (rxOf s i).live || !form || dup then (Status.permission, s)
  else
    let hall := if lsExpander l then 4096 else bindHall l.arg0
    let waits := match lsSucc l with | some p => (rxOf s p).live | none => false
    (Status.ok, updRx i (fun _ => { (default : RxCtx) with
      live := true, expander := lsExpander l, handle := l.arg0, src := BitVec.ofNat 16 (lsPeer l)
      stream := BitVec.ofNat 8 (lsStream l), cls := BitVec.ofNat 2 (lsClass l), epoch := lsEpoch l, lane := lsLane l
      alt := lsAlt l, succOf := lsSucc l, waiting := waits, hall := hall, hgen := (hallOf s hall).hgen }) s)

/-- UNBIND: a context with frames in a pipe or a hold buffer stays. What has not been sealed ends with PERMISSION, as an item for a
context that is not live does. -/
def unbindOp (i : Nat) (rx : Bool) (s : State) : Status × List Ans × State :=
  if rx then
    if !(rxOf s i).live then (Status.permission, [], s)
    else if !(rxOf s i).held.isEmpty then (Status.retryLater, [], s)
    else (Status.ok, [], updRx i (fun _ => default) s)
  else
    let c := txOf s i
    if !c.live then (Status.permission, [], s)
    else if s.ls.lanes.any (fun e => e.2.out.any fun f => f.ctx == i) then (Status.retryLater, [], s)
    else (Status.ok, chunkEnds c.chunks Status.permission ++ (c.unanswered.map fun u => unitsEnd u Status.permission).flatten,
      updTx i (fun _ => default) s)

/-- ARM_SWITCH (R169, R175): every TX context that has a successor, and during an epoch step those of the old epoch that have
none. DEDUCED, assumption 30. -/
def armSwitchOp (s : State) : State :=
  let old := s.dom.epoch.toNat.testBit 0
  let succeeded (i : Nat) : Bool := s.ls.tx.any fun e => e.2.live && e.2.succOf == some i
  let arms (e : Nat × TxCtx) : Bool :=
    e.2.live && !e.2.waiting && (succeeded e.1 || (s.dom.stepPending && e.2.epoch == old))
  let any := s.ls.tx.any arms
  s.updLs fun l => { l with
    tx := l.tx.map fun e => (e.1, if arms e then { e.2 with armed := true } else e.2)
    switchArmed := any, switchDone := !any }

/-- QUERY's registers (R174, R178). -/
def lsQueryOp (i : Nat) (rx : Bool) (s : State) : State :=
  if rx then
    let c := rxOf s i
    s.updLs fun l => { l with
      qinfo := BitVec.ofNat 32 (put 31 (b2n c.live) + put 30 1 + put 29 (b2n c.broken) + put 28 (b2n (c.tainted != Status.ok))
        + put 27 (b2n c.waiting) + put 26 (b2n c.onAlt) + min c.holes.length 0xFFFF)
      qseq := BitVec.ofNat 64 c.top, qfloor := BitVec.ofNat 64 (if c.live then rxFloor c else 0) }
  else
    let c := txOf s i
    s.updLs fun l => { l with
      qinfo := BitVec.ofNat 32 (put 31 (b2n c.live) + put 29 (b2n c.broken) + put 27 (b2n c.waiting) + put 26 (b2n c.onAlt))
      qseq := BitVec.ofNat 64 c.nextSeq, qfloor := BitVec.ofNat 64 c.mark }

/-- FAILOVER (R175, R114): an injection point. -/
def lsFailoverOp (s : State) : Status × List Ans × State :=
  if !s.injectionAllowed || decide (s.conf.lanes ≤ lsLane s.ls) then (Status.permission, [], s)
  else if lsRx s.ls then match rxFailoverOp (rxPipe s (lsLane s.ls)) s with | (a, s) => (Status.ok, a, s)
  else match txFailoverOp (txPipe s (lsLane s.ls)) s with | (a, s) => (Status.ok, a, s)

/-- One LS_CMD. -/
def lsCommand (op i : Nat) (s : State) : List Ans × State :=
  let s := s.updLs fun l => { l with index := BitVec.ofNat 9 i }
  let fin (r : Status × State) : State := r.2.updLs fun l => { l with go := false, op := BitVec.ofNat 4 op, result := r.1 }
  match op with
  | 1 => ([], fin (txBindOp i s))
  | 2 => ([], fin (rxBindOp i s))
  | 3 => match unbindOp i (lsRx s.ls) s with | (st, a, s) => (a, fin (st, s))
  | 4 =>
    if (rxOf s i).live then match abandonOp i s with | (a, s) => (a, fin (Status.ok, s)) else ([], fin (Status.permission, s))
  | 5 => ([], fin (Status.ok, armSwitchOp s))
  | 6 => ([], fin (Status.ok, lsQueryOp i (lsRx s.ls) s))
  | 7 => match lsFailoverOp s with | (st, a, s) => (a, fin (st, s))
  | _ => ([], s.updLs fun l => { l with go := false, result := Status.permission })

/-- LS_SPARE (R179). -/
def lsSpareWord (s : State) : Nat :=
  (List.range 4).foldl (fun n g =>
    let x := s.ls.spares.get g
    n + put (16 * g) (put 15 (b2n x.txLane.isSome) + put 11 (x.txLane.getD 0 % 16) + put 10 (b2n x.txBad)
      + put 7 (b2n x.rxLane.isSome) + put 3 (x.rxLane.getD 0 % 16) + put 2 (b2n x.rxBad))) 0

end Sys2Proof.Machine
end

