-- ==== Sys2Proof/Machine/Submit.lean ====
section
/-! DEFINITION. Queues: creation and destruction, doorbells, the active set, fetching, and the decode of each packet
(11_submission.md R286-R314; 14_admission_radio.md R378, R382-R387). -/

namespace Sys2Proof.Machine

-- One declaration at a time, so that the elaborator holds few threads (each takes stack of its own).
set_option Elab.async false

/-! ### Creation (R287, R288) -/

/-- The queue of a hall's slot. -/
def queueAt (s : State) (hall slot : Nat) : Option Nat :=
  match s.fe.queues.find? fun e => e.2.state != .free && e.2.hall == hall && e.2.slot == slot with
  | some e => some e.1
  | none => none

/-- QUEUE_CREATE from the 32-byte argument block. -/
def queueCreateOp (b : Bytes) (roleOk : Bool) (s : State) : (Status × Nat) × State :=
  let hall := num b 0 2
  let h := hallOf s hall
  let slot := num b 2 1
  let log2 := num b 3 1
  let ctx := num b 4 2
  let slots := num b 6 2
  let base := num b 8 8
  let ckey : Handle := BitVec.ofNat 32 (num b 16 4)
  let bad := !roleOk || s.fe.saveBase == 0 || decide (4096 ≤ hall) || h.state != .live || decide (log2 < 6 ∨ 16 < log2)
    || !allZero (sub b 24 8) || (slots != 0 && qClass h != 0) || base % (16 * 2 ^ log2) != 0
    || (if isSealed h then hClass ckey != 6 || hHall ckey != hall || h.tdi != .unlocked else ckey != 0#32 || num b 20 4 != 0)
    || (queueAt s hall slot).isSome
    || (match s.fe.contexts.get ctx with | some o => o != hall | none => false)
  if bad then ((Status.permission, 0), s)
  else if qQueues h ≤ (hallQueues s hall).length then ((Status.refusedQuota, 0), s)
  else match firstFrom (fun q => (queueOf s q).state == .free) 16384 0 with
    | none => ((Status.refusedCapacity, 0), s)
    | some q =>
      let gen := (queueOf s q).qgen
      let s := updQueue q (fun _ => { (default : Queue) with
        state := .idle, qgen := gen, hall := hall, slot := slot, context := ctx, ringBase := BitVec.ofNat 64 base, ringLog2 := log2
        ckey := ckey, serial := BitVec.ofNat 32 (num b 20 4), slots := BitVec.ofNat 16 slots, qseq := 1#64 }) s
      ((Status.ok, q), s.updFe fun f => { f with contexts := f.contexts.set ctx (some hall) })

/-- QUEUE_CREATE's result (R288). -/
def queueName (s : State) (q : Nat) : Nat := put 16 (queueOf s q).qgen.toNat + q

def queueCreateAct (a : Act) (arg : Bytes) (s : State) : State :=
  match queueCreateOp (fit arg 32) (hallRole s a (num arg 0 2) && decide (arg.length ≤ 32)) s with
  | ((st, q), s) => actDone a.sess 0x502001 st (if st = Status.ok then natLe (queueName s q) 4 else []) false s

def execQueueCreate (a : Act) (arg : Bytes) (s : State) : Answer := goOn (queueCreateAct a arg s)

/-! ### Destruction (R306, R307) -/

/-- An ABORT token on cp (R295, R298). -/
def abortPacket (q : Nat) (gen : BitVec 16) : Bytes :=
  fit ([0x7F#8] ++ List.replicate 23 0#8 ++ natLe q 2 ++ natLe gen.toNat 2) 32

/-- The engines that hold issued work of a queue which has not completed. -/
def enginesOf (s : State) (q : Nat) : List Nat := ((workOf s q).map fun w => (s.fe.works.get w).engine).eraseDups

/-- ABORT_TOKEN_SEND to one engine. -/
def sendToken (q e : Nat) (s : State) : State :=
  let gen := (queueOf s q).qgen
  if e < 16 then
    (s.updFe fun f => { f with slots := f.slots.mod e fun x => { x with tokens := x.tokens ++ [(q, gen)] } }).emit
      (.cpCmd e (abortPacket q gen))
  else if e < 32 then abortTokenOp (e - 16) q gen s
  else if e < 40 then redToken (e - 32) q gen s
  else s

/-- Abort tokens to every engine of a queue, whose acknowledgements are then awaited. -/
def sendTokens (q : Nat) (s : State) : State :=
  let es := enginesOf s q
  forAll es (fun e s => sendToken q e s) (updQueue q (fun x => { x with acks := es }) s)

/-- A queue leaves whatever it waits in: parked waits, slot queues, the active set, reservations, fetch. -/
def queueLeaves (q : Nat) (s : State) : State :=
  let s := s.updFs fun x => { x with
    parked := x.parked.filter (· != q), graph := x.graph.filter (· != q), walks := x.walks.filter (· != q) }
  let s := s.updFe fun f => { f with slots := f.slots.map fun e => (e.1, { e.2 with waiting := e.2.waiting.filter (· != q) }) }
  let s := s.setHostReads (s.hostReads.filter fun r => r.owner != .port 1 q)
  setPreempt (dropReservations q (deactivate q s))

/-- The start of a destroy (R307 steps 1 and 2). With a T0 that runs, whose tokens are out, it merges (R439). -/
def queueDie (q : Nat) (s : State) : State :=
  let x := queueOf s q
  if x.state = .free ∨ x.state = .dying then s
  else if x.t0 then updQueue q (fun x => { x with state := .dying, t0 := false, signals := [], bufs := [], loops := [] }) s
  else
    let s := queueLeaves q s
    let s := updQueue q (fun x => { x with
      state := .dying, fetch := .idle, fetched := none, bufs := [], loops := [], park := .none, rangAt := none, heldSince := none }) s
    sendTokens q s

/-- QUEUE_DESTROY of a hall's slot; `who` is what waits for its end. -/
def queueDestroyOp (hall slot f : Nat) (v : DWord) (roleOk byFe : Bool) (who : List (Nat × Nat)) (s : State) : Status × State :=
  let h := hallOf s hall
  if !roleOk || (isSealed h && (h.tdi == .locked || h.tdi == .run)) || !fenceOfHall s f hall then (Status.permission, s)
  else match queueAt s hall slot with
    | none => (Status.permission, s)
    | some q =>
      if (queueOf s q).state = .dying then (Status.retryLater, s)
      else
        let s := updQueue q (fun x => { x with destroyFence := some (f, v), byFe := byFe, answer := x.answer ++ who }) s
        (Status.ok, queueDie q s)

def queueDestroyAct (a : Act) (arg : Bytes) (s : State) : State :=
  let b := fit arg 16
  let zero := decide (arg.length ≤ 16) && num b 3 1 == 0 && num b 6 2 == 0
  match queueDestroyOp (num b 0 2) (num b 2 1) (num b 4 2) (BitVec.ofNat 64 (num b 8 8)) (hallRole s a (num b 0 2) && zero) false
      [(a.sess, 0x502002)] s with
  | (st, s) => if st = Status.ok then actWaits a.sess 0x502002 s else actDone a.sess 0x502002 st [] false s

def execQueueDestroy (a : Act) (arg : Bytes) (s : State) : Answer := goOn (queueDestroyAct a arg s)

/-- QUEUE_DESTROY_FINISH (R307 steps 4 and 5). -/
def destroyFinishOp (q : Nat) (s : State) : State :=
  let x := queueOf s q
  if x.state ≠ .dying ∨ !x.acks.isEmpty ∨ !(workOf s q).isEmpty then s
  else
    let s := forAll (owed s q) (fun f s => faultFence f Status.queueDestroyed s) s
    let s := updQueue q (fun _ => { (default : Queue) with qgen := x.qgen + 1#16 }) s
    let used := s.fe.queues.any fun e => e.2.state != .free && e.2.context == x.context
    let s := if used then s else s.updFe fun f => { f with contexts := f.contexts.set x.context none }
    let s := match x.destroyFence with | some (f, v) => signalFence f v Status.ok s | none => s
    let s := answerAll x.answer Status.ok [] s
    let s := if x.byFe then s.updFe fun f => { f with go := false, result := Status.ok } else s
    s.feEvent 2


/-! ### FE_CMD (R309-R311) -/

def feArg (f : Fe) : Bytes := ((List.range 8).map fun i => natLe (f.args.get i).toNat 4).flatten
def feFinish (op : Nat) (r : Status × State) : State :=
  r.2.updFe fun f => { f with go := false, op := BitVec.ofNat 4 op, result := r.1 }

def qstateCode : QState → Nat
  | .free => 0
  | .idle => 1
  | .ready => 2
  | .running => 3
  | .parked => 4
  | .stopped => 5
  | .dying => 6

/-- FE_QINFO (R311). -/
def feInfo (s : State) (q : Nat) : Nat :=
  let x := queueOf s q
  put 29 (qstateCode x.state) + put 28 (b2n x.active) + put 26 (if x.state = .free then 0 else queueClass s q % 4)
    + put 24 (x.bufs.length - 1) + put 21 x.loops.length + x.qgen.toNat

/-- One FE_CMD. -/
def feCommand (op q : Nat) (s : State) : State :=
  if s.fe.go then s
  else
    let b := feArg s.fe
    match op with
    | 1 =>
      match queueCreateOp b true s with
      | ((st, n), s) => feFinish 1 (st, if st = Status.ok then s.updFe fun f => { f with created := BitVec.ofNat 14 n } else s)
    | 2 =>
      let zero := num b 3 1 == 0 && num b 6 2 == 0 && allZero (b.drop 16)
      match queueDestroyOp (num b 0 2) (num b 2 1) (num b 4 2) (BitVec.ofNat 64 (num b 8 8)) zero true [] s with
      | (st, s) => if st = Status.ok then s.updFe fun f => { f with go := true, op := 2#4 } else feFinish 2 (st, s)
    | 3 => feFinish 3 (Status.ok, s.updFe fun f => { f with
        queueArg := BitVec.ofNat 14 q, qinfo := BitVec.ofNat 32 (feInfo s q)
        qacks := BitVec.ofNat 32 (queueOf s q).acks.length })
    | _ => feFinish s.fe.op.toNat (Status.permission, s)

def execFeCmdCreate (s : State) : Answer := goOn (feCommand 1 s.fe.queueArg.toNat s)
def execFeCmdDestroy (s : State) : Answer := goOn (feCommand 2 s.fe.queueArg.toNat s)
def execFeCmdQuery (q : BitVec 14) (s : State) : Answer := goOn (feCommand 3 q.toNat s)

/-! ### Doorbells (R291, R383) -/

/-- SLOT_PREEMPT_RAISE: a RADIO queue's slots that a lower class owns are reserved for it. -/
def reserveSlots (q : Nat) (s : State) : State :=
  let mask := (queueOf s q).slots.toNat
  let take (e : Nat) (x : EngSlot) : EngSlot :=
    match x.owner with
    | some o => if mask.testBit e && decide (0 < queueClass s o) && x.reservedFor.isNone then { x with reservedFor := some q } else x
    | none => x
  setPreempt (s.updFe fun f => { f with slots := f.slots.map fun e => (e.1, take e.1 e.2) })

/-- DOORBELL. -/
def doorbellOp (hall slot : Nat) (t : Word) (s : State) : State :=
  match queueAt s hall slot with
  | none => s
  | some q =>
    let x := queueOf s q
    let h := hallOf s hall
    let open' := x.state == .idle || x.state == .ready || x.state == .running || x.state == .parked
    let room := 2 ^ x.ringLog2 - (x.tail - x.head).toNat
    if !open' || x.t0 || h.state != .live || (isSealed h && h.tdi != .run) || decide (room < (t - x.tail).toNat) then
      (hallCount hall 7 1 s).feCount 3
    else if t = x.tail then s
    else
      let s := updQueue q (fun x => { x with tail := t, state := if x.state = .idle then .ready else x.state }) s
      let s := rushes Src.fe Ev.doorbell hall 0 0 q s
      if qClass h = 0 then
        reserveSlots q (updQueue q (fun x => { x with rangAt := match x.rangAt with | some r => some r | none => some s.now }) s)
      else s

/-- DOORBELL: a write that the host port accepts. -/
def execDoorbell (hall slot : Nat) (value : Word) (s : State) : Answer :=
  goOn (if hpServes s then doorbellOp hall slot value (portInput s) else s)

/-! ### Fetching (R289, R292-R294) -/

/-- Bytes of a chunk of `n` units: a SEALED hall's carries its tag. -/
def chunkBytes (sealed : Bool) (n : Nat) : Nat := 32 * n + (if sealed then 16 else 0)

/-- Where chunk `c` of a buffer lies. -/
def chunkAt (sealed : Bool) (addr c : Nat) : Nat := addr + 64 + (if sealed then 528 else 512) * c

/-- UNITS of a header, and the units of its chunk `c`. -/
def bufUnits (header : Bytes) : Nat := num header 4 4
def chunkUnits (header : Bytes) (c : Nat) : Nat := min 16 (bufUnits header - 16 * c)

/-- A host read of the front end for a queue; with no way to the host the queue stops. -/
def fetchAsk (q : Nat) (f : Fetch) (addr len : Nat) (s : State) : State :=
  let x := queueOf s q
  match hostRead x.hall addr len (.port 1 q) 0 (updQueue q (fun x => { x with fetch := f }) s) with
  | (a, s) => if a.all (·.status == Status.retryLater) then s else queueStop q Status.permission 0 s

/-- The units that the next packet takes, as far as they are known. -/
def wanted (b : Buffer) (pos : Nat) : List Nat :=
  let ext := bits (num (b.units.get pos) 1 1) 0 2
  (List.range (ext + 1)).map (· + pos)

/-- The read of what a running queue needs next: a ring entry, or a chunk of its buffer. -/
def feFetch (q : Nat) (s : State) : State :=
  let x := queueOf s q
  let sealed := isSealed (hallOf s x.hall)
  if x.state ≠ .running ∨ !x.active ∨ x.fetch ≠ .idle ∨ x.fetched.isSome then s
  else match x.bufs with
    | [] =>
      if x.head = x.tail then s
      else fetchAsk q .ring (x.ringBase.toNat + 16 * (x.head.toNat % 2 ^ x.ringLog2)) 16 s
    | (b, pos) :: _ =>
      match (wanted b pos).find? fun i => decide (i < bufUnits b.header) && (b.units.get i).isEmpty with
      | none => s
      | some i => fetchAsk q (.chunk (i / 16)) (chunkAt sealed b.addr.toNat (i / 16)) (chunkBytes sealed (chunkUnits b.header (i / 16))) s

/-! ### The record of an inactive queue (R299) -/

/-- The four lines of a queue's record in local memory. -/
def recordLines (s : State) (q : Nat) : List Nat := (List.range 4).map fun k => s.fe.saveBase.toNat + 256 * q + 64 * k

/-- A queue that becomes inactive writes its record, whose layout is open, and keeps no chunk of its buffers: each is fetched and
verified again (R294). DESIGN CHOICE, assumption 181. -/
def saveRecord (q : Nat) (s : State) : State :=
  let s := updQueue q (fun x => { x with saved := true, bufs := x.bufs.map fun b => ({ b.1 with units := [] }, b.2) }) s
  forAll (recordLines s q) (fun a s => (mpWrite a (natLe s.open64.toNat 64) noHall .none Src.fe 0 s).opened) s

/-- A queue that becomes active again reads it. -/
def loadRecord (q : Nat) (s : State) : State :=
  if (queueOf s q).saved then forAll (recordLines s q) (fun a s => mpRead a noHall .none Src.fe 0 s) s else s

/-! ### Program position (R300, R302) -/

/-- Loops of one buffer whose body ends at a position: the next iteration, or the loop's end. -/
def settleLoops (depth pos : Nat) : List LoopRec → List LoopRec × Nat
  | [] => ([], pos)
  | l :: rest =>
    if l.depth = depth ∧ l.past = pos then
      if 1 < l.left then ({ l with left := l.left - 1 } :: rest, l.first) else settleLoops depth pos rest
    else (l :: rest, pos)

/-- A ring buffer is executed to its end: DONE advances, the queue goes IDLE when that was all. -/
def ringBufferEnd (q : Nat) (s : State) : State :=
  let s := setPreempt (dropReservations q (updQueue q (fun x => { x with done := x.done + 1#32, loops := [] }) s))
  let x := queueOf s q
  if x.done = x.tail then saveRecord q (updQueue q (fun x => { x with state := .idle }) (deactivate q s)) else s

/-- Position after a packet: iterations, returns, the end of the buffer. -/
def settle (q : Nat) : Nat → State → State
  | 0, s => s
  | fuel + 1, s =>
    let x := queueOf s q
    match x.bufs with
    | [] => s
    | (b, pos) :: rest =>
      let depth := rest.length
      let (loops, pos') := settleLoops depth pos x.loops
      if pos' < bufUnits b.header then updQueue q (fun x => { x with bufs := (b, pos') :: rest, loops := loops }) s
      else
        let s := updQueue q (fun x => { x with bufs := rest, loops := x.loops.filter fun l => decide (l.depth < depth) }) s
        if rest.isEmpty then ringBufferEnd q s else settle q fuel s

/-- A running queue goes on: what has been executed to its end ends, and what comes next is read. -/
def feKick (q : Nat) (s : State) : State :=
  let x := queueOf s q
  if x.state ≠ .running ∨ !x.active ∨ x.fetch ≠ .idle ∨ x.fetched.isSome then s else feFetch q (settle q 8 s)

/-- A read of the front end has failed at the host: the queue stops with its status. -/
def fetchFailed (q : Nat) (st : Status) (s : State) : State :=
  if (queueOf s q).fetch = .idle then s else queueStop q st 0 s

/-- The read that a queue waited for is answered. -/
def queueFetched (q : Nat) (s : State) : State := s.setHostReads (s.hostReads.filter fun r => r.owner != .port 1 q)

/-- RING_ENTRY_FETCHED (R289). -/
def ringFetched (q : Nat) (entry : Bytes) (s : State) : State :=
  let x := queueOf s q
  if x.fetch ≠ .ring ∨ x.state ≠ .running then s
  else
    let addr := num entry 0 8
    let s := queueFetched q s
    if num entry 8 8 ≠ 0 ∨ addr % 64 ≠ 0 then queueStop q Status.permission 0 (s.feCount 1)
    else
      let sealed := isSealed (hallOf s x.hall)
      fetchAsk q (.header (BitVec.ofNat 64 addr) none) addr (64 + chunkBytes sealed 16)
        (progress q (updQueue q (fun x => { x with head := x.head + 1#32, fetch := .idle }) s))

/-- The header checks (R292, R294): a ring buffer, or a library buffer with the NONCE of its CALL. -/
def headerOk (s : State) (q : Nat) (nonce : Option DWord) (h : Bytes) : Bool :=
  let x := queueOf s q
  let plain := !isSealed (hallOf s x.hall)
  num h 0 2 == 0xCB01 && num h 3 1 == b2n plain && decide (1 ≤ bufUnits h ∧ bufUnits h ≤ 65535) && allZero (sub h 36 28)
    && num h 12 4 == x.serial.toNat && (!plain || num h 24 8 == 0)
    && num h 32 2 == x.hall && num h 34 2 == (hallOf s x.hall).hgen.toNat
    && (match nonce with
        | none => num h 2 1 == 0 && num h 8 2 == q && num h 10 2 == x.qgen.toNat && num h 16 8 == x.qseq.toNat
        | some n => num h 2 1 == 1 && num h 8 2 == 0xFFFF && num h 10 2 == 0 && num h 16 8 == 0 && num h 24 8 == n.toNat)

/-- How the opening of a chunk ends. -/
inductive Opened where
  | plain (b : Bytes)
  | refused (st : Status)
  | waits
deriving DecidableEq, Repr

/-- The command key's lookup (R69, R77). -/
def commandLookup (s : State) (q : Nat) : Lookup :=
  let x := queueOf s q
  let h := hallOf s x.hall
  { unit := Src.fe, handle := x.ckey, hall := x.hall, hgen := h.hgen, sealing := false, parent := h.hallKey
    label := mkLabel 0x0060 x.hall h.hgen.toNat 0 0 (h.birth.getD 0).toNat 0 x.serial.toNat 0 6, ticket := q }

/-- A chunk of a queue's buffer, unsealed where the hall is SEALED (R293). -/
def openChunk (q c : Nat) (header body : Bytes) (again : Bool) (s : State) : Opened × State :=
  let x := queueOf s q
  let n := 32 * chunkUnits header c
  if !isSealed (hallOf s x.hall) then (.plain (fit (body.take n) n), s)
  else if again && x.keyFail then (.refused Status.permission, s)
  else match keyFor (commandLookup s q) s with
    | (.hit key, s) =>
      match Crypto.gcmOpen key (sub header 24 8 ++ natLe c 4) header (fit (body.take n) n) (fit (sub body n 16) 16) with
      | some p => (.plain p, s)
      | none => (.refused Status.authFail, s.feEvent 0)
    | (.waits, s) => (.waits, s)
    | (.staleKey, s) | (.staleHall, s) | (.miss, s) | (.exhausted, s) =>
      (.refused Status.permission, if again then s else raiseFault Src.fe Kind.keyMiss x.hall 0 0 s)

/-- The injected failure of a chunk's check, if one is armed: a missing key, or its tag. -/
def chunkInjected (q : Nat) (s : State) : Option Nat :=
  if !isSealed (hallOf s (queueOf s q).hall) then none
  else if injected Src.fe Kind.keyMiss s then some Kind.keyMiss
  else if injected Src.fe Kind.cmdAuth s then some Kind.cmdAuth
  else none

/-- What that failure does to the queue. -/
def chunkFails (q kind pos : Nat) (s : State) : State :=
  if kind = Kind.keyMiss then queueStop q Status.permission pos (reportFault false Src.fe Kind.keyMiss (queueOf s q).hall 0 0 s)
  else queueStopBy false q Status.authFail pos (s.feEvent 0)

/-- Verified units join a buffer. -/
def addUnits (b : Buffer) (c : Nat) (p : Bytes) : Buffer :=
  { b with units := forAll (List.range (p.length / 32)) (fun i t => t.set (16 * c + i) (sub p (32 * i) 32)) b.units }

/-- COMMAND_CHUNK_FETCHED (R294): a header with chunk 0, or a later chunk. -/
def chunkFetched (q : Nat) (data : Bytes) (again : Bool) (s : State) : State :=
  let x := queueOf s q
  if x.state ≠ .running then s
  else match x.fetch with
    | .header addr nonce =>
      let s := queueFetched q s
      let h := fit (data.take 64) 64
      let wrong := !headerOk s q nonce h
      if checkFails wrong Src.fe Kind.cmdFormat s then queueStopBy wrong q Status.permission 0 (s.feCount 1)
      else if let some k := chunkInjected q s then chunkFails q k 0 (s.feCount 1)
      else match openChunk q 0 h (data.drop 64) again s with
        | (.waits, s) => updQueue q (fun x => { x with fetched := some data, keyFail := false }) s
        | (.refused st, s) => queueStop q st 0 (s.feCount 1)
        | (.plain p, s) =>
          let b := addUnits { addr := addr, header := h, units := [] } 0 p
          (updQueue q (fun x => { x with
            fetch := .idle, fetched := none, bufs := (b, 0) :: x.bufs
            qseq := if nonce.isNone then x.qseq + 1#64 else x.qseq }) s).feCount 0
    | .chunk c =>
      let s := queueFetched q s
      match x.bufs with
      | [] => updQueue q (fun x => { x with fetch := .idle }) s
      | (b, pos) :: rest =>
        if let some k := chunkInjected q s then chunkFails q k pos s
        else match openChunk q c b.header data again s with
        | (.waits, s) => updQueue q (fun x => { x with fetched := some data, keyFail := false }) s
        | (.refused st, s) => queueStop q st pos s
        | (.plain p, s) => updQueue q (fun x => { x with fetch := .idle, fetched := none, bufs := (addUnits b c p, pos) :: rest }) s
    | _ => s

/-- Queues go on whose WAIT has ended, and the fetches that waited for a command key when a derivation ends. -/
def feRetry (s : State) : State :=
  forAll (s.fe.queues.filterMap fun e => if e.2.fetched.isSome then some e.1 else none)
    (fun q s => match (queueOf s q).fetched with
      | some d => chunkFetched q d true (updQueue q (fun x => { x with fetched := none }) s)
      | none => s)
    (forAll (s.fe.queues.filterMap fun e => if e.2.active && e.2.state == .running then some e.1 else none) feKick s)

def execRingEntryFetched (q : Nat) (entry : Bytes) (s : State) : Answer := goOn (ringFetched q entry s)
def execCommandChunkFetched (q : Nat) (data : Bytes) (s : State) : Answer := goOn (feKick q (chunkFetched q data false s))

/-! ### The active set (R382) -/

/-- READY queues without an entry. -/
def readyQueues (s : State) : List Nat := s.fe.queues.filterMap fun e => if e.2.state == .ready && !e.2.active && !e.2.t0 then some e.1 else none

/-- Entries of the active set that RADIO queues hold. -/
def radioActive (s : State) : Nat := (s.fe.activeOrder.filter fun q => queueClass s q == 0).length

/-- Is there a free entry for a class? RADIO_ACTIVE entries accept only RADIO queues. -/
def entryFree (s : State) (cls : Nat) : Bool :=
  let kept := s.adm.radioActive.toNat - radioActive s
  decide (activeCount s + (if cls = 0 then 0 else kept) < 64)

/-- The queue that a RADIO queue displaces: the longest active SPOT queue, else RESERVED. -/
def displaced (s : State) : Option Nat :=
  match s.fe.activeOrder.find? fun q => queueClass s q == 2 with
  | some q => some q
  | none => s.fe.activeOrder.find? fun q => queueClass s q == 1

/-- A queue gives its entry up at a packet boundary, its record saved (R299). A read on its way is let go of; that of a header is made
again when the queue is active again. -/
def yieldEntry (q : Nat) (s : State) : State :=
  let s := updQueue q (fun x => { x with
    state := if x.state = .running then .ready else x.state, decoded := 0, fetched := none
    fetch := match x.fetch with | .header a n => .header a n | _ => .idle }) (deactivate q (queueFetched q s))
  (saveRecord q s).feCount 7

/-- A queue takes an entry. -/
def takeEntry (q : Nat) (s : State) : State :=
  let s := updQueue q (fun x => { x with active := true, state := .running, decoded := 0 }) (loadRecord q s)
  let s := s.updFe fun f => { f with activeOrder := f.activeOrder ++ [q] }
  match (queueOf s q).fetch with
  | .header a n => fetchAsk q (.header a n) a.toNat (64 + chunkBytes (isSealed (hallOf s (queueOf s q).hall)) 16) s
  | _ => feKick q s

/-- QUEUE_ACTIVATE: a READY queue of the best class that waits takes an entry, a RADIO queue by displacement if need be. -/
def activateOp (q : Nat) (s : State) : State :=
  let x := queueOf s q
  let cls := queueClass s q
  if x.state ≠ .ready ∨ x.active ∨ x.t0 ∨ s.fcu.safe ∨ (readyQueues s).any (fun p => decide (queueClass s p < cls) && entryFree s (queueClass s p)) then s
  else if entryFree s cls then takeEntry q s
  else if cls = 0 then
    match displaced s with
    | some d => takeEntry q ((yieldEntry d s).admCount 6)
    | none => s
  else s

def execQueueActivate (q : Nat) (s : State) : Answer := goOn (activateOp q s)

/-! ### Turns and packets (R382) -/

/-- A READY queue of equal or higher class without an entry takes the place of one that has decoded 256 packets. -/
def fairness (q : Nat) (s : State) : State :=
  let x := queueOf s q
  if x.active ∧ x.state = .running ∧ 256 ≤ x.decoded ∧ (readyQueues s).any (fun p => decide (queueClass s p ≤ queueClass s q)) then
    yieldEntry q s
  else s

/-- The next position of the innermost buffer. -/
def setPos (q n : Nat) (s : State) : State :=
  updQueue q (fun x => match x.bufs with | (b, _) :: rest => { x with bufs := (b, n) :: rest } | [] => x) s

/-- A packet is decoded and done with: the position moves on, counters, fairness, the next fetch. -/
def packetDone (q next : Nat) (s : State) : State :=
  let s := progress q ((updQueue q (fun x => { x with decoded := x.decoded + 1, retryHeld := false }) (setPos q next s)).feCount 2)
  feKick q (fairness q (settle q 8 s))

/-! ### Decode (R295) -/

/-- A packet about to be decoded: its position, its buffer's units, its first unit, the units that follow. -/
structure Packet where
  idx : Nat
  units : Nat
  unit : Bytes
  more : List Bytes
deriving DecidableEq, Repr, Inhabited

/-- EXT of an OP; none for an OP that is not used. -/
def extOf (op : Nat) : Option Nat :=
  if op = 2 ∨ op = 3 then some 2 else if 1 ≤ op ∧ op ≤ 12 then some 0 else none

/-- A byte's bits other than those of a mask are zero. -/
def onlyBits (b mask : Nat) : Bool := b &&& mask == b

/-- May the oldest SIGNAL of a queue be applied: its earlier work is complete, and nothing holds it (R300)? DEDUCED, assumption 37. -/
def signalDue (s : State) (q : Nat) : Bool :=
  let x := queueOf s q
  match x.signals with
  | [] => false
  | g :: _ => g.after.isEmpty && x.state != .dying && !x.t0 && !s.fcu.safe && !isLanding s Src.fs

/-- Decode of the next packet of a queue, if it is of the kind `op`: `f` does what it does. A packet with an unused OP, a wrong
EXT or past the end of its buffer stops the queue. -/
def decodeNext (q op : Nat) (f : Packet → State → State) (s : State) : State :=
  let x := queueOf s q
  if x.state ≠ .running ∨ !x.active ∨ x.fetch ≠ .idle ∨ x.fetched.isSome ∨ s.fcu.safe ∨ isLanding s Src.fe then s
  else match x.bufs with
    | [] => feKick q s
    | (b, pos) :: _ =>
      let u := b.units.get pos
      if u.isEmpty then feKick q s
      else
        let o := num u 0 1
        let ext := bits (num u 1 1) 0 2
        match extOf o with
        | none => queueStop q Status.permission pos s
        | some e =>
          if o ≠ op then s
          else if ext ≠ e ∨ bufUnits b.header < pos + e + 1 then queueStop q Status.permission pos s
          else
            let more := (List.range e).map fun i => b.units.get (pos + 1 + i)
            if more.any (·.isEmpty) then feKick q s
            else if injected Src.fe Kind.feUnit s then reportFault false Src.fe Kind.feUnit x.hall 0 q s
            else f { idx := pos, units := bufUnits b.header, unit := u, more := more } s

/-- A refused packet. -/
def badPacket (q : Nat) (p : Packet) (s : State) : State := queueStop q Status.permission p.idx s

/-- Is an earlier ATOMIC to a register not complete (R300)? -/
def regPending (s : State) (q r : Nat) : Bool := s.fe.works.any fun e => e.2.live && e.2.q == q && e.2.reg == some r

/-- A queue is held behind work of a higher class from now on (R379). -/
def holdQueue (q : Nat) (s : State) : State :=
  updQueue q (fun x => { x with heldSince := match x.heldSince with | some t => some t | none => some s.now }) s

/-- A packet that an engine in Landing holds up (R385). -/
def landingHeld (q : Nat) (s : State) : State :=
  if (queueOf s q).retryHeld || queueClass s q != 0 then s
  else (updQueue q (fun x => { x with retryHeld := true }) s).admCount 7

/-- A RADIO queue's first work packet has issued (R383). -/
def radioIssued (q : Nat) (s : State) : State :=
  let x := queueOf s q
  match x.rangAt with
  | none => s
  | some t =>
    let ns := (s.now - t) / nsT
    let s := (updQueue q (fun x => { x with rangAt := none }) s).updAdm fun a => { a with
      latMax := BitVec.ofNat 32 (min (2 ^ 32 - 1) (max a.latMax.toNat ns)) }
    let s := s.admCount 0
    if checkFails (decide (8000 < ns)) Src.fe Kind.radioLate s then
      let s := reportFault (decide (8000 < ns)) Src.fe Kind.radioLate x.hall 0 q s
      ((hallCount x.hall 6 1 s).admCount 1).admEvent 3
    else s

/-- The check of a work packet before it issues (R378), then its issue by `f`, which gets its work number. -/
def issueWork (q : Nat) (p : Packet) (f : Nat → State → State) (s : State) : State :=
  let hall := (queueOf s q).hall
  match workCheck s hall with
  | .waits => s
  | .refuse st => packetDone q (p.idx + 1 + p.more.length) (workRefused q st s)
  | .go => packetDone q (p.idx + 1 + p.more.length) (radioIssued q (f (nextWorkId s) s))

/-- The four fields that the command processor fills in (R296, R239). -/
def fillFields (s : State) (q : Nat) : Bytes :=
  let x := queueOf s q
  natLe q 2 ++ natLe x.qgen.toNat 2 ++ natLe x.hall 2 ++ natLe (hallOf s x.hall).hgen.toNat 2

/-! ### LAUNCH (R296, R304) -/

def slotOfEng (s : State) (e : Nat) : EngSlot := s.fe.slots.get e
def updSlot (e : Nat) (f : EngSlot → EngSlot) (s : State) : State := s.updFe fun x => { x with slots := x.slots.mod e f }

/-- Is a queue the one that a free slot goes to: no better class waits, nobody of its class waits longer? -/
def slotTurn (s : State) (e q : Nat) : Bool :=
  let x := slotOfEng s e
  let ahead := x.waiting.takeWhile (· != q)
  x.waiting.all (fun w => w == q || decide (queueClass s q ≤ queueClass s w)) && ahead.all (fun w => queueClass s w != queueClass s q)
    && (match x.reservedFor with | some r => r == q || decide (queueClass s q ≤ queueClass s r) | none => true)

/-- A LAUNCH has to wait for its slot. -/
def slotWait (e q : Nat) (s : State) : State :=
  let behind := match (slotOfEng s e).owner with | some o => decide (queueClass s o < queueClass s q) | none => true
  let s := updSlot e (fun x => if x.waiting.contains q then x else { x with waiting := x.waiting ++ [q] }) s
  setPreempt (if behind then holdQueue q s else s)

/-- The LAUNCH leaves on cp. -/
def launchIssue (q e : Nat) (u : Bytes) (last : Bool) (id : Nat) (s : State) : State :=
  let packet := u.take 24 ++ fillFields s q
  let s := workIssue q e none 0 s
  let s := updSlot e (fun x => { x with
    owner := some q, launches := x.launches ++ [id]
    takeStart := if x.owner = some q && !x.launches.isEmpty then x.takeStart else if x.owner = some q then x.takeStart else s.now
    overrun := if x.owner = some q then x.overrun else false
    waiting := x.waiting.filter (· != q), lastIssued := last
    reservedFor := if x.reservedFor = some q then none else x.reservedFor }) s
  setPreempt (s.emit (.cpCmd e packet))

/-- A LAUNCH packet (R296); an engine slot that the hall's ENGINES leave out stops the queue (R377). -/
def launchPacket (q : Nat) (p : Packet) (s : State) : State :=
  let u := p.unit
  let e := num u 2 1
  let last := (num u 1 1).testBit 2
  if !onlyBits (num u 1 1) 4 || decide (16 ≤ e) || num u 3 1 != 0 || num u 4 4 == 0
      || !(qEngines (hallOf s (queueOf s q).hall)).testBit e then badPacket q p s
  else if s.hr.slotsOut.toNat.testBit e then
    issueWork q p (fun id s => workEnd id Status.resetAborted (workIssue q e none 0 s)) s
  else if !s.pins.cpEn || retakeBars s q e then s
  else
    let x := slotOfEng s e
    let mine := match x.owner with | some o => o == q && !x.lastIssued | none => slotTurn s e q
    if !mine then slotWait e q s else issueWork q p (launchIssue q e u last) s

def execLaunch (q : Nat) (s : State) : Answer := goOn (decodeNext q 1 (launchPacket q) s)

/-- The end of a take (R304): how long it was, whom it ended for, and the release of the slot. -/
def takeEnd (e : Nat) (s : State) : State :=
  let x := slotOfEng s e
  match x.owner with
  | none => s
  | some o =>
    let long := decide (s.fe.takeLimit.toNat * 64 * nsT < s.now - x.takeStart) && !x.overrun
    let hall := (queueOf s o).hall
    let s := if checkFails long Src.fe Kind.takeOverrun s then
        ((hallCount hall 9 1 (reportFault long Src.fe Kind.takeOverrun hall 0 o s)).feCount 6).feEvent 3 else s
    let s := if classWanted s e then hallCount hall 4 1 s else s
    let s := s.updItu fun u => { u with unmaps := u.unmaps.map fun m => { m with slotWait := m.slotWait.filter (· != e) } }
    setPreempt (updSlot e (fun x => { x with owner := none, lastIssued := false, overrun := false }) s)

/-- TAKE_OVERRUN: a running take has passed FE_TAKE_LIMIT; it is counted once. -/
def takeOverrunOp (e : Nat) (s : State) : State :=
  let x := slotOfEng s e
  match x.owner with
  | none => s
  | some o =>
    let hall := (queueOf s o).hall
    if x.overrun ∨ s.now - x.takeStart ≤ s.fe.takeLimit.toNat * 64 * nsT then s
    else
      let s := raiseFault Src.fe Kind.takeOverrun hall 0 o (updSlot e (fun x => { x with overrun := true }) s)
      ((hallCount hall 9 1 s).feCount 6).feEvent 3

def execTakeOverrun (slot : Nat) (s : State) : Answer := goOn (takeOverrunOp slot s)

/-- The status of work that an abort of a queue ends: the cause of a T0, else RESET_ABORTED (R307, R424). -/
def abortStatus (x : Queue) : Status := if x.t0 then x.cause else Status.resetAborted

/-- A slot returns to service (R425): its take is over, and nothing of before its T1 is expected of it. -/
def slotReturns (e : Nat) (s : State) : State :=
  let s := s.updHr fun h => { h with slotsOut := h.slotsOut &&& ~~~(BitVec.ofNat 16 (2 ^ e)) }
  updSlot e (fun x => { x with launches := [], tokens := [] }) (takeEnd e s)

/-- CP_COMPLETION (R44, R45, R28, R425). -/
def cpCompletionOp (w : DWord) (s : State) : State :=
  let n := w.toNat
  let st : Status := BitVec.ofNat 16 (bits n 48 16)
  let gen := bits n 32 16
  let q := bits n 18 14
  let e := bits n 14 4
  let takeEnds := n.testBit 13
  let ack := n.testBit 12
  let x := queueOf s q
  let bad (s : State) : State := s.updFe fun f => { f with cpErrors := f.cpErrors + 1 }
  let mine := (slotOfEng s e).launches.filter fun i => (s.fe.works.get i).live && (s.fe.works.get i).q == q
  let release (s : State) : State := progress (watchUnit (Src.engine e)) (if takeEnds && (slotOfEng s e).owner == some q then takeEnd e s else s)
  let out := s.hr.slotsOut.toNat.testBit e
  if bits n 0 12 ≠ 0 then bad s
  else if out && ack && takeEnds then (if s.fcu.safe then s else slotReturns e s)
  else if gen ≠ x.qgen.toNat then s.feCount 4
  else if out then bad s
  else if ack then
    if !(slotOfEng s e).tokens.contains (q, x.qgen) then bad s
    else if s.fcu.safe then s
    else
      let s := forAll mine (fun i s => workEnd i (abortStatus x) s) s
      let s := updSlot e (fun y => { y with
        launches := y.launches.filter (fun i => !mine.contains i), tokens := y.tokens.filter (· != (q, x.qgen)) }) s
      abortAck q e (release s)
  else match mine with
    | [] => bad s
    | i :: _ =>
      if s.fcu.safe then s
      else release (updSlot e (fun y => { y with launches := y.launches.filter (· != i) }) (workEnd i st s))

def execCpCompletion (w : DWord) (s : State) : Answer :=
  goOn (if s.pins.cpEn && portServes s then cpCompletionOp w (portInput s) else s)

/-! ### MOVE and REDUCE (R296) -/

/-- Is a mover, a reduction unit there and not of a retired slice (R13, R405)? -/
def moverThere (s : State) (m : Nat) : Bool :=
  decide (m < s.conf.movers) && !s.fcu.retired.toNat.testBit (m / s.conf.moversPerPart)
def redThere (s : State) (u : Nat) : Bool :=
  decide (u < s.conf.redUnits) && !s.fcu.retired.toNat.testBit (u / s.conf.redPerPart)

/-- The mover that a MOVE with MOVER = 0xFF goes to: fewest entries of its class, then the lowest number. -/
def pickMover (s : State) (cls : Nat) : Option Nat :=
  let l := (List.range s.conf.movers).filter fun m => moverThere s m && !isLanding s (Src.mover m)
  let len (m : Nat) : Nat := (classQueue (moverOf s m) cls).length
  l.find? fun m => l.all fun k => decide (len m ≤ len k)

/-- Units 1 and 2 of a packet as a descriptor with the filled fields. -/
def filledDesc (s : State) (q : Nat) (p : Packet) : Bytes := (p.more.flatten).take 56 ++ fillFields s q

/-- A packet for an absent unit completes at once (R13, R296). -/
def absentPacket (q : Nat) (p : Packet) (s : State) : State := packetDone q (p.idx + 1 + p.more.length) (absentUnit q s)

/-- Does a lower-class queue entry wait behind a higher class at a mover? -/
def moverBehind (s : State) (m cls : Nat) : Bool := (List.range cls).any fun c => !(classQueue (moverOf s m) c).isEmpty

def movePacket (q : Nat) (p : Packet) (s : State) : State :=
  let u := p.unit
  let cls := queueClass s q
  let m := num u 2 1
  if !onlyBits (num u 1 1) 2 || !allZero (u.drop 3) || !(decide (m < 16) || m == 255) then badPacket q p s
  else
    let put (m : Nat) (s : State) : State :=
      if !moverThere s m then absentPacket q p s
      else if isLanding s (Src.mover m) then landingHeld q s
      else if retakeBars s q (engMover m) then s
      else if !moverRoom s m cls then (if moverBehind s m cls then holdQueue q s else s)
      else
        let d := filledDesc s q p
        issueWork q p (fun id s => moverPut m cls d (some id) (workIssue q (engMover m) none (mdLength d) s)) s
    if m ≠ 255 then put m s
    else match pickMover s cls with
      | some k => put k s
      | none => if (List.range s.conf.movers).any (moverThere s) then s else absentPacket q p s

def execMove (q : Nat) (s : State) : Answer := goOn (decodeNext q 2 (movePacket q) s)

/-- The slot that a descriptor of a class gets (R381): slot 3 is for RADIO alone. -/
def redSlotFree (s : State) (u cls : Nat) : Option Nat :=
  let ks := if cls = 0 then [3, 0, 1, 2] else [0, 1, 2]
  ks.find? fun k => (redOf s u k).state == 0

def reducePacket (q : Nat) (p : Packet) (s : State) : State :=
  let n := p.unit
  let u := num n 2 1
  if !onlyBits (num n 1 1) 2 || !allZero (n.drop 3) || decide (8 ≤ u) then badPacket q p s
  else if !redThere s u then absentPacket q p s
  else if isLanding s (Src.red u) then landingHeld q s
  else if retakeBars s q (engRed u) then s
  else match redSlotFree s u (queueClass s q) with
    | none => s
    | some k =>
      let d := filledDesc s q p
      let bytes := rdN d * fmtBytes (rdIn d) (rdCE d)
      issueWork q p (fun id s =>
        let s := workIssue q (engRed u) none bytes s
        if redOk s u d then redPut u k d (some id) s else workEnd id Status.permission s) s

def execReduce (q : Nat) (s : State) : Answer := goOn (decodeNext q 3 (reducePacket q) s)

/-! ### SIGNAL and WAIT (R297, R300, R320, R325, R326) -/

/-- May a packet of a hall name this object? -/
def objectOk (s : State) (hall kind obj : Nat) : Bool :=
  if kind = 0 then fenceOfHall s obj hall
  else decide (obj < (if kind = 1 then 4096 else 256)) && (semOf s kind obj).alloc && (semOf s kind obj).hall == hall

def signalPacket (q : Nat) (p : Packet) (s : State) : State :=
  let u := p.unit
  let f := num u 1 1
  let kind := bits f 2 2
  let remote := f.testBit 4
  let obj := num u 2 2
  let v := num u 8 8
  let hall := (queueOf s q).hall
  let zero := onlyBits f 0x1C && num u 7 1 == 0 && allZero (u.drop 16) && decide (kind < 3) && (kind == 0 || decide (v < 2 ^ 32))
    && (if remote then kind == 0 && decide (num u 4 2 < 8192) else num u 4 3 == 0)
  if !zero || !(remote || objectOk s hall kind obj) then badPacket q p s
  else
    let g : PendSignal :=
      { tkind := kind, obj := obj, value := BitVec.ofNat 64 v, after := workOf s q
        remote := if remote then some (num u 4 2, num u 6 1) else none }
    packetDone q (p.idx + 1) (updQueue q (fun x => { x with signals := x.signals ++ [g] }) s)

def execSignal (q : Nat) (s : State) : Answer := goOn (decodeNext q 4 (signalPacket q) s)

/-- A SIGNAL frame (R155, R328); its end comes back to the queue. -/
def signalChunk (s : State) (q : Nat) (g : PendSignal) (st : Status) : Chunk :=
  let x := queueOf s q
  let m := natLe x.hall 2 ++ natLe (hallOf s x.hall).hgen.toNat 2 ++ natLe g.obj 2 ++ natLe st.toNat 2 ++ natLe g.value.toNat 8
  { plainChunk tSignal (fit m 64) with owner := .port 2 q, hall := x.hall, unit := x.qgen.toNat }

/-- A REMOTE SIGNAL that is not sent: its status enters the kept status (R328). -/
def signalUnsent (q : Nat) (gen : Nat) (st : Status) (s : State) : State :=
  if st = Status.ok ∨ (queueOf s q).qgen.toNat ≠ gen ∨ (queueOf s q).state = .free then s
  else
    let s := s.updFe fun f => { f with signalDrops := f.signalDrops + 1 }
    keepStatus q st s

/-- SIGNAL_APPLY (R300, R301): the oldest SIGNAL of a queue whose earlier work is complete. -/
def signalApplyOp (q : Nat) (s : State) : State :=
  let x := queueOf s q
  match x.signals with
  | [] => s
  | g :: rest =>
    if !signalDue s q then s
    else
      let s := updQueue q (fun x => { x with signals := rest }) s
      let applied (s : State) : State := updQueue q (fun x => { x with kept := Status.ok }) s
      match g.remote with
      | none =>
        if g.tkind = 0 then signalFence g.obj g.value x.kept (applied s)
        else signalSem g.tkind g.obj (BitVec.ofNat 32 g.value.toNat) (applied s)
      | some (m, st) =>
        match txFor s x.hall m st with
        | none => signalUnsent q x.qgen.toNat (if memberLost s m then Status.peerLost else Status.permission) s
        | some i =>
          match txRefuses s i with
          | some e => signalUnsent q x.qgen.toNat e s
          | none => applied (txPush i [signalChunk s q g x.kept] s)

def execSignalApply (q : Nat) (s : State) : Answer := goOn (signalApplyOp q s)

/-- A WAIT that is met when it is decoded. -/
def waitMet (q : Nat) (st : Status) (s : State) : State := if st = Status.ok then s else keepStatus q st (s.fsCount 3)

/-- WAIT: met at once (an amount of 0 also past parked waiters, R325: DEDUCED, assumption 188), or the queue parks behind it, its
position past the WAIT but its buffer's end not reached before the WAIT ends. -/
def waitPacket (q : Nat) (p : Packet) (s : State) : State :=
  let u := p.unit
  let f := num u 1 1
  let kind := bits f 2 2
  let obj := num u 2 2
  let v := num u 8 8
  let hall := (queueOf s q).hall
  let zero := onlyBits f 0xC && num u 4 4 == 0 && allZero (u.drop 16) && decide (kind < 3) && (kind == 0 || decide (v < 2 ^ 32))
  if !zero || !objectOk s hall kind obj then badPacket q p s
  else
    let met (st : Status) : State := packetDone q (p.idx + 1) (waitMet q st s)
    let parks (k : Park) : State :=
      let s := (updQueue q (fun x => { x with decoded := x.decoded + 1 }) (setPos q (p.idx + 1) s)).feCount 2
      let s := parkQueue q k s
      if (queueOf s q).active then s else saveRecord q s
    let a : Word := BitVec.ofNat 32 v
    if kind = 0 then
      let o := fenceOf s obj
      if o.state = 2#2 ∨ reached o.value (BitVec.ofNat 64 v) then met o.status else parks (.fence obj (BitVec.ofNat 64 v))
    else if kind = 1 then
      let x := semOf s 1 obj
      if v = 0 then met Status.ok
      else if (semWaiters s 1 obj).isEmpty && decide (v ≤ x.count.toNat) then
        packetDone q (p.idx + 1) (updSem 1 obj (fun x => { x with count := x.count - a }) s)
      else parks (.local obj a)
    else if reached32 (semOf s 2 obj).count a then met Status.ok
    else parks (.broadcast obj a)

def execWait (q : Nat) (s : State) : Answer := goOn (decodeNext q 5 (waitPacket q) s)

/-! ### Control packets (R298, R302, R303) -/

/-- A register G0 to G7. -/
def greg (s : State) (q r : Nat) : DWord := (queueOf s q).regs.get r
def setGreg (q r : Nat) (v : DWord) (s : State) : State := updQueue q (fun x => { x with regs := x.regs.set r v }) s

/-- A COND_JUMP's condition. -/
def condHolds (cc : Nat) (a b : DWord) : Bool :=
  match cc with
  | 0 => a == b
  | 1 => a != b
  | 2 => decide (a.toInt < b.toInt)
  | 3 => decide (b.toInt ≤ a.toInt)
  | 4 => decide (a.toNat < b.toNat)
  | 5 => decide (b.toNat ≤ a.toNat)
  | 6 => reached a b
  | _ => true

/-- The loops open in the current buffer. -/
def openLoops (s : State) (q : Nat) : List LoopRec :=
  let x := queueOf s q
  x.loops.filter fun l => l.depth + 1 == x.bufs.length

def condJumpPacket (q : Nat) (p : Packet) (s : State) : State :=
  let u := p.unit
  let f := num u 1 1
  let brk := f.testBit 2
  let bsel := f.testBit 3
  let cc := num u 2 1
  let asrc := num u 3 1
  let aobj := num u 4 2
  let breg := num u 6 1
  let target := num u 16 2
  let hall := (queueOf s q).hall
  let loops := openLoops s q
  let bound := match loops with | l :: _ => l.past | [] => p.units
  let form := onlyBits f 0xC && decide (cc < 8 ∧ asrc < 10 ∧ breg < 8) && num u 7 1 == 0 && allZero (u.drop 18)
    && (asrc != 8 || objectOk s hall 0 aobj) && (asrc != 9 || objectOk s hall 1 aobj)
    && (if brk then target == 0 && !loops.isEmpty else decide (p.idx < target ∧ target ≤ bound))
  if !form then badPacket q p s
  else if (decide (asrc < 8) && regPending s q asrc) || (bsel && regPending s q breg) then s
  else
    let a : DWord := if asrc < 8 then greg s q asrc else if asrc = 8 then (fenceOf s aobj).value else (semOf s 1 aobj).count.setWidth 64
    let b : DWord := if bsel then greg s q breg else BitVec.ofNat 64 (num u 8 8)
    if !condHolds cc a b then packetDone q (p.idx + 1) s
    else if brk then packetDone q bound (updQueue q (fun x => { x with loops := x.loops.drop 1 }) s)
    else packetDone q target s

def execCondJump (q : Nat) (s : State) : Answer := goOn (decodeNext q 7 (condJumpPacket q) s)

def loopPacket (q : Nat) (p : Packet) (s : State) : State :=
  let u := p.unit
  let csel := (num u 1 1).testBit 2
  let creg := num u 2 1
  let body := num u 8 2
  let x := queueOf s q
  let past := p.idx + 1 + body
  let bound := match openLoops s q with | l :: _ => l.past | [] => p.units
  let form := onlyBits (num u 1 1) 4 && decide (creg < 8) && num u 3 1 == 0 && allZero (u.drop 10) && decide (1 ≤ body ∧ past ≤ bound)
  if !form then badPacket q p s
  else if csel && regPending s q creg then s
  else
    let count := if csel then (greg s q creg).toNat % 2 ^ 32 else num u 4 4
    if count = 0 then packetDone q past s
    else if 4 ≤ x.loops.length then badPacket q p s
    else
      let l : LoopRec := { first := p.idx + 1, past := past, left := count, depth := x.bufs.length - 1 }
      packetDone q (p.idx + 1) (updQueue q (fun x => { x with loops := l :: x.loops }) s)

def execLoop (q : Nat) (s : State) : Answer := goOn (decodeNext q 8 (loopPacket q) s)

def callPacket (q : Nat) (p : Packet) (s : State) : State :=
  let u := p.unit
  let addr := num u 8 8
  let x := queueOf s q
  let form := num u 1 1 == 0 && allZero (sub u 2 6) && allZero (u.drop 24) && addr % 64 == 0 && decide (x.bufs.length < 3)
  if !form then badPacket q p s
  else
    let sealed := isSealed (hallOf s x.hall)
    let s := (updQueue q (fun x => { x with decoded := x.decoded + 1 }) (setPos q (p.idx + 1) s)).feCount 2
    fetchAsk q (.header (BitVec.ofNat 64 addr) (some (BitVec.ofNat 64 (num u 16 8)))) addr (64 + chunkBytes sealed 16) s

def execCall (q : Nat) (s : State) : Answer := goOn (decodeNext q 9 (callPacket q) s)

def retPacket (q : Nat) (p : Packet) (s : State) : State :=
  if num p.unit 1 1 ≠ 0 ∨ !allZero (p.unit.drop 2) then badPacket q p s
  else
    let depth := (queueOf s q).bufs.length - 1
    packetDone q p.units (updQueue q (fun x => { x with loops := x.loops.filter fun l => decide (l.depth < depth) }) s)

def execRet (q : Nat) (s : State) : Answer := goOn (decodeNext q 10 (retPacket q) s)

def setRegPacket (q : Nat) (p : Packet) (s : State) : State :=
  let u := p.unit
  let dreg := num u 2 1
  let rop := num u 3 1
  let sreg := num u 4 1
  let obj := num u 6 2
  let imm : DWord := BitVec.ofNat 64 (num u 8 8)
  let hall := (queueOf s q).hall
  let form := num u 1 1 == 0 && decide (dreg < 8 ∧ rop < 5 ∧ sreg < 8) && num u 5 1 == 0 && allZero (u.drop 16)
    && (rop != 3 || objectOk s hall 0 obj) && (rop != 4 || objectOk s hall 1 obj)
  if !form then badPacket q p s
  else if (rop == 1 && regPending s q dreg) || (rop == 2 && regPending s q sreg) then s
  else
    let v : DWord := match rop with
      | 0 => imm
      | 1 => greg s q dreg + imm
      | 2 => greg s q sreg
      | 3 => (fenceOf s obj).value
      | _ => (semOf s 1 obj).count.setWidth 64
    packetDone q (p.idx + 1) (setGreg q dreg v s)

def execSetReg (q : Nat) (s : State) : Answer := goOn (decodeNext q 11 (setRegPacket q) s)

def markPacket (q : Nat) (p : Packet) (s : State) : State :=
  let u := p.unit
  if num u 1 1 ≠ 0 ∨ num u 2 2 ≠ 0 ∨ num u 7 1 ≠ 0 ∨ !allZero (u.drop 10) then badPacket q p s
  else
    let s := updQueue q (fun x => { x with scene := BitVec.ofNat 24 (num u 4 3), shot := BitVec.ofNat 16 (num u 8 2) }) s
    let s := rushes Src.fe Ev.mark (queueOf s q).hall (num u 4 3) (num u 8 2) q s
    packetDone q (p.idx + 1) s

def execMark (q : Nat) (s : State) : Answer := goOn (decodeNext q 12 (markPacket q) s)

/-! ### ATOMIC and cp_req (R296, R272, R46) -/

/-- A remote or local operation of the block's own requesters, once translated: a REQ to a peer, a line or an entry here, which a held
line needs too. Nothing happens when a peer's context or the home line table has no room for one more request. -/
def ownRequest (hall gen : Nat) (va : Nat) (t : Trans) (block data : Bytes) (o : Owner) (s : State) : Option (List Ans × State) :=
  match t with
  | .ok (.peer m st k r a) =>
    match txFor s hall m st with
    | none => some (ansNow o 0 Status.permission [], s)
    | some i =>
      match txRefuses s i with
      | some e => some (ansNow o 0 e [], s)
      | none =>
        let b := overwrite (overwrite (overwrite block 6 (natLe (b2n k) 1)) 8 (natLe a 8)) 16 (natLe (if k then r else 0) 2)
        if num block 0 1 != 1 && !reqRoom s i then none else some ([], pushReq i b data hall o 0 s)
  | .ok (.mem _) =>
    if homeRoom s false 1 then
      some ([], homeEnter 512 0 o (overwrite (overwrite block 8 (natLe (va / 64 * 64) 8)) 6 [0#8] ++ data) s)
    else none
  | .ok (.region r off) =>
    let op := num block 0 1
    let line := off / 64 * 64
    if 2 ≤ op ∨ (combFor s (r + 1) line).isSome then
      if isVault r && s.conf.atomic then
        if !homeRoom s false 1 then none
        else some ([], homeEnter 512 0 o (overwrite (overwrite (overwrite block 6 [1#8]) 8 (natLe line 8)) 16 (natLe r 2) ++ data) s)
      else some (ansNow o 0 Status.permission [], s)
    else if op = 0 then some (lineIssue (engineLine hall gen r line) .read 0#64 [] o 0 false s)
    else
      let be := num block 24 8
      some (if be = 2 ^ 64 - 1 then lineIssue (engineLine hall gen r line) .write (~~~0#64) data o 0 false s
        else lineIssue (engineLine hall gen r line) .partialWrite (BitVec.ofNat 64 be) data o 0 false s)
  | .fail st => some (ansNow o 0 st [], s)
  | .stale => some ([], hallStale hall s)

/-- The request block and operand unit of an ATOMIC packet (R269, R296). -/
def atomicRequest (s : State) (q : Nat) (u : Bytes) : Bytes × Bytes :=
  let x := queueOf s q
  let w64 := (num u 1 1).testBit 2
  let size := if w64 then 8 else 4
  let off := num u 8 8 % 64
  let op := num u 2 1
  let flags := b2n w64 + put 1 (b2n ((num u 1 1).testBit 3))
  let operand := sub u 16 size
  let cas := op == 5
  let block := reqBlock op flags x.hall (hallOf s x.hall).hgen.toNat 0 1 0 0 (2 ^ (off / size))
    (if cas then leNat operand else 0) (if cas then num u 24 size else 0)
  (block, if cas then [] else fit (List.replicate off 0#8 ++ operand) 64)

/-- An ATOMIC's issue (R296); one whose page is local needs this block's atomic unit (R13). -/
def atomicIssue (q : Nat) (u : Bytes) (p : Packet) (s : State) : List Ans × State :=
  let x := queueOf s q
  let va := num u 8 8
  let gen := (hallOf s x.hall).hgen.toNat
  let need : Need := { targets := [0, 1, 2], rd := true, wr := true, atm := true }
  match workCheck s x.hall with
  | .waits => ([], s)
  | .refuse st => ([], packetDone q (p.idx + 1) (workRefused q st s))
  | .go =>
    match translate x.hall gen va need s with
    | (t, s) =>
      let id := nextWorkId s
      let (block, data) := atomicRequest s q u
      let dreg := num u 3 1
      let issued (s : State) : State :=
        let s := workIssue q engRemote (if dreg.testBit 3 then some (dreg % 8) else none) 64 s
        s.updFe fun f => { f with works := f.works.mod id fun w => { w with
          elem := va % 64, wide := (num u 1 1).testBit 2, req := natLe va 8 ++ block ++ data } }
      let local' := match t with | .ok (.peer _ _ _ _ _) => false | .ok _ => true | _ => false
      if local' && !s.conf.atomic then ([], absentPacket q p s)
      else if local' && isLanding s Src.au then ([], landingHeld q s)
      else if local' && queueClass s q != 0 && (s.hr.watch.get (watchUnit Src.au)).retake
          && !(s.hr.watch.get (watchUnit Src.au)).held.contains q then ([], s)
      else if t = .stale then ([], packetDone q (p.idx + 1) (hallStale x.hall s))
      else match ownRequest x.hall gen va t block data (.work id) (issued s) with
        | none => ([], s)
        | some (a, s) => (a, packetDone q (p.idx + 1) (radioIssued q s))

/-- ATOMIC. -/
def atomicOp (q : Nat) (s : State) : List Ans × State :=
  let x := queueOf s q
  -- the packet is looked at by the common decode first: what it leaves unchanged is then issued with its answers
  let probe := decodeNext q 6 (fun p s =>
    let u := p.unit
    let w64 := (num u 1 1).testBit 2
    let aop := num u 2 1
    let form := onlyBits (num u 1 1) 0xC && decide (2 ≤ aop ∧ aop ≤ 5) && onlyBits (num u 3 1) 0xF && num u 4 4 == 0
      && num u 8 8 % (if w64 then 8 else 4) == 0 && (w64 || (num u 20 4 == 0 && num u 28 4 == 0)) && (aop == 5 || num u 24 8 == 0)
    if !form then badPacket q p s
    else updQueue q (fun x => { x with atomicAt := some p.idx }) s) s
  match (queueOf probe q).atomicAt, x.bufs with
  | some i, (b, _) :: _ =>
    let s := updQueue q (fun x => { x with atomicAt := none }) probe
    let u := b.units.get i
    let dreg := num u 3 1
    if dreg.testBit 3 && regPending s q (dreg % 8) then ([], s)
    else atomicIssue q u { idx := i, units := bufUnits b.header, unit := u, more := [] } s
  | _, _ => ([], probe)

/-- The end of an ATOMIC (R296, R300): the element's prior value, zero-extended, goes to its register. A RETRY_LATER of a unit in
Landing is no end: the request is offered again (R385). -/
def atomicEnd (id : Nat) (st : Status) (line : Bytes) (s : State) : List Ans × State :=
  let w := s.fe.works.get id
  if !w.live then ([], s)
  else
    let gen := (hallOf s w.hall).hgen.toNat
    let va := num w.req 0 8
    let again : Option (List Ans × State) :=
      if st ≠ Status.retryLater ∨ (queueOf s w.q).state = .dying then none
      else match transOf s w.hall gen va { targets := [0, 1, 2], rd := true, wr := true, atm := true } with
        | .ok (.peer m k a b c) => ownRequest w.hall gen va (.ok (.peer m k a b c)) (sub w.req 8 64) (w.req.drop 72) (.work id) s
        | _ => none
    match again with
    | some r => r
    | none =>
      let v : DWord := BitVec.ofNat 64 (num line w.elem (if w.wide then 8 else 4))
      let s := match w.reg with | some r => if st = Status.ok then setGreg w.q r v s else s | none => s
      ([], workEnd id st s)

/-- The request block of a cp_req (R272). -/
def cpBlock (s : State) (r : CpReq) : Bytes × Bytes :=
  let gen := (hallOf s r.hall).hgen.toNat
  let data := natLe r.data.toNat 64
  let op := r.op.toNat
  if op = 0 then (reqBlock 0 0 r.hall gen 0 1 0 0 0 0 0, [])
  else if op = 1 then (reqBlock 1 0 r.hall gen 0 1 0 0 0 r.be.toNat 0, data)
  else
    let flags := bits r.be.toNat 16 2
    let mask := bits r.be.toNat 0 16
    if op = 5 then (reqBlock op flags r.hall gen 0 1 0 0 mask (num data 0 8) (num data 8 8), [])
    else (reqBlock op flags r.hall gen 0 1 0 0 mask 0 0, data)

/-- Is a cp_req well-formed (R46, R272)? One whose address is not 64 B aligned is not: DESIGN CHOICE, assumption 163. -/
def cpReqOk (r : CpReq) : Bool :=
  let op := r.op.toNat
  let n := r.data.toNat
  r.addr.toNat % 64 == 0 && (match op with
    | 0 => r.be == 0#64 && n == 0
    | 1 => true
    | 2 | 3 | 4 => r.be.toNat >>> 18 == 0
    | 5 => r.be.toNat >>> 18 == 0 && n >>> 128 == 0
    | _ => false)

/-- The response of a cp_req. -/
def cpAnswer (tag : Nat) (st : Status) (data : Bytes) (s : State) : State :=
  s.emit (.cpRsp tag st (if st = Status.ok then fit data 64 else List.replicate 64 0#8))

/-- CP_REQ_RECEIVE. -/
def cpReqOp (r : CpReq) (s : State) : List Ans × State :=
  let op := r.op.toNat
  let atomic := decide (2 ≤ op)
  let gen := (hallOf s r.hall).hgen.toNat
  let o : Owner := .cp r.tag
  let need : Need := { targets := [1, 2], rd := op == 0 || atomic, wr := op == 1 || atomic, atm := atomic }
  if !s.pins.cpEn then ([], s)
  else if s.fcu.safe then ([], cpAnswer r.tag Status.safeState [] s)
  else if !cpReqOk r then (ansNow o 0 Status.permission [], s)
  else if isLanding s Src.au && atomic then (ansNow o 0 Status.retryLater [], s)
  else match translate r.hall gen r.addr.toNat need s with
    | (t, s') =>
      let (block, data) := cpBlock s r
      if !reqFormOk (overwrite block 8 (natLe 0 8) ++ data) then (ansNow o 0 Status.permission [], s)
      else match ownRequest r.hall gen r.addr.toNat t block data o s' with
        | none => ([], s)
        | some x => x

end Sys2Proof.Machine
end

