-- ==== Sys2Proof/Machine/Firm.lean ====
section
/-! DEFINITION. What the Keeper's firmware derives for the domain and for halls: handles, epoch keys, hall keys and the pair keys
of the plan (03_keys.md R69-R72; 05_attestation_domain.md R141; 13_halls_translation.md R346, R361). -/

namespace Sys2Proof.Machine

-- One declaration at a time, so that the elaborator holds few threads (each takes stack of its own).
set_option Elab.async false

/-- Is a handle bound somewhere: a slot, a stream context, a region, a queue, the plan, the domain's own keys (R72)? -/
def handleBound (s : State) (h : Handle) : Bool :=
  (slotOf s.kv h).isSome || !handleFree s h || s.dom.root == some h
    || s.dom.plan.any (fun e => e.handle == h) || s.dom.epochs.any (fun e => e.2 == h)
    || s.ls.tx.any (fun e => e.2.live && e.2.handle == h) || s.ls.rx.any (fun e => e.2.live && e.2.handle == h)
    || s.fe.queues.any (fun e => e.2.state != .free && e.2.ckey == h)
    || s.itu.halls.any (fun e => e.2.state != .free && e.2.hallKey == h)

/-- The handle that the Keeper chooses for a new key: the lowest index, from 1, that is bound to nothing. DESIGN CHOICE,
assumption 22. -/
def freshHandle (s : State) (cls hall : Nat) : Handle :=
  let h (i : Nat) : Handle := BitVec.ofNat 32 (put 28 cls + put 16 hall + i)
  match firstFrom (fun i => !handleBound s (h i)) 65535 1 with
  | some i => h i
  | none => h 65535

/-- The epoch whose keys the current plan names: the next one while a step is pending. -/
def planEpoch (s : State) : Nat := if s.dom.stepPending then s.dom.nextEpoch.toNat else s.dom.epoch.toNat

/-- The epoch key of an epoch is derived under the domain root (R69). -/
def deriveEpochKey (e : Nat) (s : State) : Status × State :=
  match s.dom.root with
  | none => (Status.permission, s)
  | some root =>
    let h := freshHandle s 1 0
    match deriveInto h root (mkLabel 0x0020 0 0 0 0 e 0 0 0 1) 0#4 0 false s with
    | (st, s) => (st, if st = Status.ok then s.updDom fun d => { d with epochs := d.epochs.set e h } else s)

/-- Does an entry of the plan name a domain-service stream? -/
def isServiceEntry (e : PlanEntry) : Bool := e.hall == 0xFFFF

/-- May an entry's key be derived now: a service entry always, a pair key once its hall of that generation has a birth epoch? -/
def entryDue (s : State) (e : PlanEntry) : Bool :=
  isServiceEntry e || (decide (e.hall < 4096) && genOk s e.hall e.hgen.toNat && (hallOf s e.hall).birth.isSome)

/-- The label of an entry's key: source and destination by direction (R69). -/
def entryLabel (s : State) (epoch : Nat) (e : PlanEntry) : Bytes :=
  let me := s.dom.member.toNat
  let src := if e.rx then e.peer else me
  let dst := if e.rx then me else e.peer
  if isServiceEntry e then mkLabel 0x0021 0 0 src dst epoch 0 0 e.stream.toNat 1
  else mkLabel 0x0030 e.hall e.hgen.toNat src dst epoch 0 0 e.stream.toNat 2

/-- The budget of a pair key (R76). -/
def pairBudget : Nat := 2 ^ 40

/-- An entry without its key gets it, under the epoch key. -/
def deriveEntry (epoch : Nat) (e : PlanEntry) (s : State) : PlanEntry × State :=
  let parent := s.dom.epochs.get epoch
  if (e.handle ≠ 0#32 ∧ (slotOf s.kv e.handle).isSome) ∨ !entryDue s e ∨ parent = 0#32 then (e, s)
  else
    let h := if isServiceEntry e then freshHandle s 1 0 else freshHandle s 2 e.hall
    match deriveInto h parent (entryLabel s epoch e) 0#4 pairBudget false s with
    | (st, s) => if st = Status.ok then ({ e with handle := h }, s) else (e, s)

/-- Every entry of the plan that is due gets its key. -/
def derivePlan (s : State) : State :=
  let epoch := planEpoch s
  let step (a : List PlanEntry × State) (e : PlanEntry) : List PlanEntry × State :=
    match deriveEntry epoch e (a.2.updDom fun d => { d with plan := a.1 ++ [e] ++ d.plan.drop (a.1.length + 1) }) with
    | (e, s) => (a.1 ++ [e], s)
  match s.dom.plan.foldl step ([], s) with
  | (l, s) => s.updDom fun d => { d with plan := l }

/-- Does R70 keep an epoch's key: the current epoch, the next while a step is pending, the birth epoch of a hall? -/
def epochKept (s : State) (e : Nat) : Bool :=
  (s.dom.joined && (e == s.dom.epoch.toNat || (s.dom.stepPending && e == s.dom.nextEpoch.toNat)))
    || (usedHalls s).any fun h => h.2.birth == some (BitVec.ofNat 32 e)

/-- An epoch's key is retired unless R70 keeps it. -/
def retireEpoch (e : Nat) (s : State) : State :=
  let h := s.dom.epochs.get e
  if h = 0#32 ∨ epochKept s e then s
  else retireHandle h (s.updDom fun d => { d with epochs := d.epochs.set e 0#32 })

/-- A hall of this birth epoch has gone. -/
def dropEpoch (birth : Option Word) (s : State) : State :=
  match birth with
  | some b => retireEpoch b.toNat s
  | none => s

/-- The hall key of a hall with a birth epoch, FAST_PARENT set and surviving T3; none where no epoch key of its birth epoch is
resident (R346, R361). -/
def deriveHallKey (hall : Nat) (s : State) : State :=
  let h := hallOf s hall
  match h.birth with
  | none => s
  | some b =>
    let parent := s.dom.epochs.get b.toNat
    if parent = 0#32 then s
    else
      let k := freshHandle s 3 hall
      match deriveInto k parent (mkLabel 0x0031 hall h.hgen.toNat 0 0 b.toNat 0 0 0 3) 1#4 0 false s with
      | (st, s) => if st = Status.ok then updHall hall (fun h => { h with hallKey := k }) s else s

/-- The keys of a hall: its hall key, unless it has it, and the plan's pair keys for it. -/
def hallKeys (hall : Nat) (s : State) : State :=
  derivePlan (if (slotOf s.kv (hallOf s hall).hallKey).isSome && (hallOf s hall).hallKey != 0#32 then s else deriveHallKey hall s)

end Sys2Proof.Machine
end

