-- ==== Sys2Proof/Machine/Hall.lean ====
section
/-! DEFINITION. Halls: their creation and quotas, grants of local memory, maps and unmaps, the retire, and ITU_CMD
(13_halls_translation.md R344-R361, R369-R373, R515; 14_admission_radio.md R374-R377). Migration stands in Migrate.lean. -/

namespace Sys2Proof.Machine

-- One declaration at a time, so that the elaborator holds few threads (each takes stack of its own).
set_option Elab.async false

/-! ### Results that wait for the root table entry (R351) -/

/-- The session number that stands for the Keeper's ITU_CMD among the requesters of a hall's action. -/
def keeperSess : Nat := 65536

/-- The end of an ITU_CMD. -/
def ituFinish (op : Nat) (st : Status) (s : State) : State :=
  s.updItu fun u => { u with go := false, op := BitVec.ofNat 5 op, result := st }

/-- A result for everyone who waits: sessions' mailboxes, and ITU_STATUS where it is the Keeper who waits. -/
def hallAnswer (who : List (Nat × Nat)) (st : Status) (data : Bytes) (s : State) : State :=
  forAll who (fun w s => if w.1 = keeperSess then ituFinish w.2 st s else actDone w.1 w.2 st data false s) s

/-- Code of a hall state (R370). -/
def hstateCode : HState → Nat
  | .free => 0
  | .live => 1
  | .awaiting => 2
  | .frozen => 3
  | .moved => 4
  | .retiring => 5
  | .scrubbing => 6

def hmodeCode : HMode → Nat
  | .none => 0
  | .plain => 1
  | .sealed => 2

/-- The owner of a write of a hall's root table entry or restored page. -/
def hallOwner (hall : Nat) : Owner := .port 3 hall

/-- Is a write of a hall's root table entry on its way? -/
def rootPending (s : State) (hall : Nat) : Bool := s.mp.any fun r => r.owner == hallOwner hall

/-- A hall's root table entry: ROOT, HGEN, state (R351). -/
def rootEntry (h : Hall) : Bytes :=
  fit (natLe h.root 8 ++ natLe h.hgen.toNat 2 ++ natLe (hstateCode h.state) 1) 16

/-- The ITU writes a hall's root table entry in the arena. -/
def rootWrite (hall : Nat) (s : State) : State :=
  let pa := s.itu.arena.toNat + 16 * hall
  if mpPresent s pa then mpWrite pa (rootEntry (hallOf s hall)) noHall (hallOwner hall) Src.itu 0 s else s

/-- A change of a hall's record that the root table shows. -/
def hallChange (hall : Nat) (f : Hall → Hall) (s : State) : State := rootWrite hall (updHall hall f s)

/-- A requester's action is in progress: its result reads NOT_READY, or GO stays 1. -/
def stillWaits (who : Nat × Nat) (s : State) : State :=
  if who.1 = keeperSess then s.updItu fun u => { u with go := true, op := BitVec.ofNat 5 who.2 } else actWaits who.1 who.2 s

/-- The result of a hall's action, given once the root table entry has drained. -/
def hallDone (hall : Nat) (who : List (Nat × Nat)) (st : Status) (data : Bytes) (s : State) : State :=
  if rootPending s hall then
    updHall hall (fun h => { h with ready := h.ready ++ who.map fun w => (w, st, data) }) (forAll who stillWaits s)
  else hallAnswer who st data s

/-- A root table entry has drained: the results that waited for it. -/
def rootDrained (hall : Nat) (s : State) : State :=
  if rootPending s hall then s
  else
    let l := (hallOf s hall).ready
    forAll l (fun x s => hallAnswer [x.1] x.2.1 x.2.2 s) (updHall hall (fun h => { h with ready := [] }) s)

/-- A requester waits for a freeze or a destroy. -/
def hallWaits (hall : Nat) (who : Nat × Nat) (s : State) : State :=
  updHall hall (fun h => { h with answer := h.answer ++ [who] }) (stillWaits who s)

/-- Those who wait for the freeze or the destroy have their result. -/
def hallEnds (hall : Nat) (st : Status) (s : State) : State :=
  let who := (hallOf s hall).answer
  hallDone hall who st [] (updHall hall (fun h => { h with answer := [] }) s)

/-- ITU_QINFO of a hall (R370). -/
def ituInfo (s : State) (hall : Nat) : Nat :=
  let h := hallOf s hall
  put 29 (hstateCode h.state) + put 27 (hmodeCode h.mode) + put 26 (b2n h.birth.isSome)
    + put 20 (min 63 (s.itu.unmaps.filter fun u => u.hall == hall).length) + h.hgen.toNat

/-! ### Creation (R346, R376) -/

/-- The fields of a quota block are in range (R375, R376). -/
def quotaOk (c : Conf) (q : Bytes) : Bool :=
  let h : Hall := { (default : Hall) with quota := q }
  decide (qClass h ≤ 2 ∧ 1 ≤ qWeight h ∧ 1 ≤ qQueues h ∧ qQueues h ≤ 256 ∧ qLsems h ≤ 4096 ∧ qRregions h ≤ 1024)
    && (c.tree || qVregions h == 0) && decide (1 ≤ qWork h ∧ qWork h ≤ 8192) && qEngines h != 0 && decide (1 ≤ qBurst h)
    && (qClass h != 2 || (qLinkRate h == 0 && qLineRate h == 0 && qHostRate h == 0)) && allZero (q.drop 26)

/-- The sum of a quantity over the RADIO and RESERVED halls that are not FREE. -/
def reservedSum (s : State) (f : Hall → Nat) : Nat := ((usedHalls s).filter fun e => qClass e.2 < 2).foldl (fun n e => n + f e.2) 0

/-- A new hall's reservation fits (R376). -/
def reservationFits (s : State) (q : Bytes) : Bool :=
  let h : Hall := { (default : Hall) with quota := q }
  qClass h == 2 || decide (reservedSum s qWork + qWork h ≤ 8192 - s.adm.spotFloor.toNat
    ∧ reservedSum s qLinkRate + qLinkRate h ≤ s.adm.linkLimit.toNat
    ∧ reservedSum s qLineRate + qLineRate h ≤ s.adm.lineLimit.toNat
    ∧ reservedSum s qHostRate + qHostRate h ≤ s.adm.hostLimit.toNat)

/-- Why HALL_CREATE is refused with PERMISSION (R346, R351, R376). -/
def createBad (b : Bytes) (s : State) : Bool :=
  let hall := num b 0 2
  let gen := num b 2 2
  let mode := num b 4 1
  let flags := num b 5 1
  let incoming := flags == 1
  let step := (gen + 65536 - (hallOf s hall).hgen.toNat) % 65536
  !arenaSet s || decide (s.conf.halls ≤ hall) || (hallOf s hall).state != .free || step == 0 || decide (32768 ≤ step)
    || !(mode == 1 || mode == 2) || (mode == 1 && (s.lcState == returned || s.lcState == scrap)) || decide (2 ≤ flags) || num b 6 2 != 0 || num b 12 4 != 0 || (!incoming && num b 8 4 != 0)
    || (mode == 2 && (s.lcState != field || !s.dom.joined || allZero (sub b 16 48))) || (incoming && mode != 2)
    || !quotaOk s.conf (sub b 64 64)

/-- The record of a new hall. -/
def newHall (b : Bytes) (s : State) : Hall :=
  let incoming := num b 5 1 == 1
  let h : Hall := { (default : Hall) with quota := sub b 64 64 }
  let full : Int := if qClass h = 2 then 0 else qBurst h * 1024
  { h with
    state := if incoming then .awaiting else .live
    mode := if num b 4 1 = 2 then .sealed else .plain
    hgen := BitVec.ofNat 16 (num b 2 2)
    birth := if incoming then some (BitVec.ofNat 32 (num b 8 4)) else if s.dom.joined then some s.dom.epoch else none
    tenant := Crypto.digestOf (sub b 16 48)
    create := b
    restored := (hallOf s (num b 0 2)).restored
    linkBucket := full
    lineBucket := full
    hostBucket := full }

/-- HALL_CREATE from its 128-byte argument. -/
def hallCreateOp (b : Bytes) (roleOk : Bool) (who : Nat × Nat) (s : State) : State :=
  let hall := num b 0 2
  let refuse (st : Status) : State := hallAnswer [who] st [] s
  if !roleOk || createBad b s then refuse Status.permission
  else if !reservationFits s (sub b 64 64) then refuse Status.refusedCapacity
  else
    let h := newHall b s
    let s := recountConsent (hallKeys hall (hallChange hall (fun _ => h) s))
    hallDone hall [who] Status.ok (natLe (put 16 h.hgen.toNat + hall) 4) s

def hallCreateAct (a : Act) (arg : Bytes) (s : State) : State :=
  hallCreateOp (fit arg 128) (mayAct s [.operator] a && decide (arg.length = 128)) (a.sess, 0x501001) s

def execHallCreate (a : Act) (arg : Bytes) (s : State) : Answer := goOn (hallCreateAct a arg s)

/-! ### Grants (R349, R350) -/

/-- Bytes of a granule. -/
def granuleBytes : Nat := 2 ^ 21

/-- Is a granule in the arena or in the FE_SAVE_BASE range of 4 MiB? Those two are never granted. -/
def granuleKept (s : State) (g : Nat) : Bool :=
  let lo := g * granuleBytes
  let meets (base len : Nat) : Bool := decide (lo < base + len ∧ base < lo + granuleBytes)
  (arenaSet s && meets s.itu.arena.toNat (s.itu.arenaSize.toNat * 2 ^ 26)) || (s.fe.saveBase != 0 && meets s.fe.saveBase.toNat (2 ^ 22))

/-- A granule's state: 0 DIRTY, 1 CLEAN, 2 OWNED. -/
def granuleState (s : State) (g : Nat) : Nat := (s.itu.granules.get g).state.toNat

/-- Every granule of a range meets a test. -/
def granulesAll (first count : Nat) (p : Nat → Bool) : Bool := (List.range count).all fun i => p (first + i)

/-- Is a granule OWNED by a hall? -/
def ownedBy (s : State) (hall g : Nat) : Bool := granuleState s g == 2 && (s.itu.granules.get g).hall == hall

/-- The granules that a hall owns, rising. -/
def ownedGranules (s : State) (hall : Nat) : List Nat := s.itu.granules.filterMap fun e => if e.2.state == 2#2 && e.2.hall == hall then some e.1 else none

/-- Does a LOCAL leaf of a hall point into a granule range? -/
def leafMeets (l : BitVec 128) (first count : Nat) : Bool :=
  leafTarget l == 0 && spansMeet (leafAddr l) (pageBytes (leafSize l)) (first * granuleBytes) (count * granuleBytes)

/-- HALL, granule index and count of a grant. -/
def grantArg (b : Bytes) : Nat × Nat × Nat := (num b 0 2, num b 4 4, num b 8 4)

/-- Does the range of a grant lie in local memory? -/
def rangeOk (s : State) (first count : Nat) : Bool := decide (1 ≤ count ∧ first + count ≤ s.pins.granules)

/-- HALL_GRANT. -/
def hallGrantOp (b : Bytes) (roleOk : Bool) (s : State) : Status × State :=
  match grantArg b with
  | (hall, first, count) =>
    let st := (hallOf s hall).state
    let bad := !roleOk || decide (4096 ≤ hall) || !(st == .live || st == .awaiting) || !rangeOk s first count
      || !granulesAll first count (fun g => granuleState s g == 1 && !granuleKept s g)
    if bad then (Status.permission, s)
    else (Status.ok, setRun first count { state := 2#2, hall := hall } s)

/-- HALL_UNGRANT. Mappings of an unmap in progress count until it completes (R359). -/
def hallUngrantOp (b : Bytes) (roleOk : Bool) (s : State) : Status × State :=
  match grantArg b with
  | (hall, first, count) =>
    let h := hallOf s hall
    let served := h.state == .live || h.state == .awaiting || h.state == .frozen || h.state == .moved
    let bad := !roleOk || decide (4096 ≤ hall) || !served || !rangeOk s first count || !granulesAll first count (ownedBy s hall)
    if bad then (Status.permission, s)
    else if h.leaves.any (fun e => leafMeets e.2 first count)
        || s.itu.unmaps.any (fun u => u.hall == hall && u.leaves.any fun l => leafMeets l first count) then (Status.retryLater, s)
    else (Status.ok, setRun first count default s)

def hallGrantAct (a : Act) (arg : Bytes) (s : State) : State :=
  match hallGrantOp (fit arg 12) (mayAct s [.operator] a && padZero arg 12 12 && num arg 2 2 == 0) s with
  | (st, s) => actDone a.sess 0x501003 st [] false s

def hallUngrantAct (a : Act) (arg : Bytes) (s : State) : State :=
  match hallUngrantOp (fit arg 12) (mayAct s [.operator] a && padZero arg 12 12 && num arg 2 2 == 0) s with
  | (st, s) => actDone a.sess 0x501004 st [] false s

def execHallGrant (a : Act) (arg : Bytes) (s : State) : Answer := goOn (hallGrantAct a arg s)
def execHallUngrant (a : Act) (arg : Bytes) (s : State) : Answer := goOn (hallUngrantAct a arg s)

/-- CLEAN (R369): DIRTY granules that the Keeper has zeroed. -/
def cleanOp (first count : Nat) (s : State) : Status × State :=
  if !rangeOk s first count || !granulesAll first count (fun g => granuleState s g == 0 && !granuleKept s g) then (Status.permission, s)
  else (Status.ok, (setRun first count { state := 1#2, hall := 0 } s).updItu fun u =>
    { u with counters := u.counters.bump 6 count })

/-! ### Map (R357) -/

/-- Fields of MAP's argument. -/
structure MapArg where
  hall : Nat
  count : Nat
  va : Nat
  leaf : BitVec 128
deriving DecidableEq, Repr, Inhabited

def mapArg (b : Bytes) : MapArg :=
  { hall := num b 0 2, count := num b 4 4, va := num b 8 8, leaf := BitVec.ofNat 128 (num b 16 16) }

/-- The leaf of page `p`. -/
def leafAdvance (l : BitVec 128) (p : Nat) : BitVec 128 := BitVec.ofNat 128 (l.toNat + p * pageBytes (leafSize l))

/-- The template obeys R352 and R353 for every page. -/
def leafForm (m : MapArg) : Bool :=
  let l := m.leaf
  let n := l.toNat
  let size := pageBytes (leafSize l)
  let pages := m.count * size
  let local' := leafTarget l == 0
  let peer := leafTarget l == 2
  leafType l == 2 && decide (leafSize l ≤ 2 ∧ leafTarget l ≤ 2) && bits n 7 1 == 0 && bits n 10 2 == 0 && bits n 112 16 == 0
    && m.va % size == 0 && decide (m.va + pages ≤ 2 ^ 48) && leafAddr l % size == 0
    && decide (leafAddr l + pages ≤ (if local' then 2 ^ 40 else 2 ^ 64))
    && (!local' || leafRegion l == 0) && (peer || (leafMember l == 0 && leafStream l == 0 && leafFlags l == 0))
    && decide (leafMember l < 8192) && decide (leafFlags l < 2) && (!peer || leafFlags l == 1 || leafRegion l == 0)

/-- Is a page, by key and size code, met by a leaf of a hall? -/
def pageMapped (h : Hall) (key code : Nat) : Bool :=
  h.leaves.any fun e => spansMeet e.1 (512 ^ leafSize e.2) key (512 ^ code)

/-- Does a page meet an unmap in progress of a hall? -/
def pageUnmapping (s : State) (hall key code : Nat) : Bool :=
  s.itu.unmaps.any fun u => u.hall == hall && u.pages.any fun p => spansMeet p.1 (512 ^ p.2.toNat) key (512 ^ code)

/-- The pages of a run: keys. -/
def runKeys (va count code : Nat) : List Nat := (List.range count).map fun p => pageKey va + p * 512 ^ code

/-- A REGION target's region is the hall's own generation's. -/
def regionOfHall (s : State) (hall r : Nat) : Bool :=
  (regionOf s r).state != .free && dHall (regionOf s r).desc == hall && dGen (regionOf s r).desc == (hallOf s hall).hgen.toNat

/-- Is a hall's translation root frozen: its TDI is in CONFIG_LOCKED, and the first mapping or the last unmapping would change it
(R136)? DEDUCED, assumption 178. -/
def rootFrozen (h : Hall) : Bool := isSealed h && h.tdi == .locked

/-- MAP. -/
def mapOp (b : Bytes) (roleOk : Bool) (s : State) : Status × State :=
  let m := mapArg b
  let h := hallOf s m.hall
  let code := leafSize m.leaf
  let keys := runKeys m.va m.count code
  let owned (p : Nat) : Bool :=
    let a := leafAddr (leafAdvance m.leaf p)
    granulesAll (a / granuleBytes) (cdiv (a + pageBytes code) granuleBytes - a / granuleBytes) (ownedBy s m.hall)
  let bad := !roleOk || decide (4096 ≤ m.hall) || h.state != .live || decide (m.count < 1 ∨ 65536 < m.count) || !leafForm m
    || keys.any (fun k => pageMapped h k code)
    || (leafTarget m.leaf == 0 && !(List.range m.count).all owned)
    || (leafTarget m.leaf == 1 && !regionOfHall s m.hall (leafRegion m.leaf)) || (h.leaves.isEmpty && rootFrozen h)
  if bad then (Status.permission, s)
  else if keys.any (fun k => pageUnmapping s m.hall k code) then (Status.retryLater, s)
  else
    let leaves := forAll ((List.range m.count).zip keys) (fun x t => Tab.set t x.2 (leafAdvance m.leaf x.1)) h.leaves
    if tablesRoom s < tablesUsed s + (tableKeys leaves).length - h.tables.length then (Status.refusedCapacity, s.ituEvent 0)
    else
      let s := setLeaves m.hall leaves (keys.map fun k => (k, code)) s
      (Status.ok, if h.leaves.isEmpty then rootWrite m.hall s else s)

def mapAct (a : Act) (arg : Bytes) (s : State) : State :=
  let hall := num arg 0 2
  match mapOp (fit arg 32) (hallRole s a hall && padZero arg 32 32 && num arg 2 2 == 0) s with
  | (st, s) =>
    if st = Status.ok then hallDone hall [(a.sess, 0x504001)] st [] s else actDone a.sess 0x504001 st [] false s

def execMap (a : Act) (arg : Bytes) (s : State) : Answer := goOn (mapAct a arg s)

/-! ### Unmap (R358) -/

/-- Requests to peers that a hall's translation has led to and whose frames are not sent: context and requester. -/
def reqTag : Owner → Option Nat
  | .cp t => some t
  | .work w => some (65536 + w)
  | _ => none

def hallReqs (s : State) (hall : Nat) : List (Nat × Nat) :=
  (s.ls.tx.map fun e => (e.2.chunks.filterMap fun k =>
    if k.type == tReq && k.hall == hall then (reqTag k.owner).map fun t => (e.1, t) else none)).flatten
  ++ (s.ls.lanes.map fun e => (e.2.out.filterMap fun f =>
    if f.chunk.type == tReq && f.chunk.hall == hall then (reqTag f.chunk.owner).map fun t => (f.ctx, t) else none)).flatten

/-- The targets of leaves, by region + 1 (0 for memory), first byte and length. -/
def leafTargets (l : List (BitVec 128)) : List (Nat × Nat × Nat) :=
  l.filterMap fun x => if leafTarget x ≤ 1 then some (if leafTarget x = 1 then leafRegion x + 1 else 0, leafAddr x, pageBytes (leafSize x)) else none

/-- The combining lines of a hall, dirty or on their way, that lie in the pages of an unmap. -/
def unmapComb (s : State) (hall : Nat) (leaves : List (BitVec 128)) : List (Nat × Nat) :=
  let t := leafTargets leaves
  s.au.comb.filterMap fun e =>
    let c := e.2
    if c.live && c.hall == hall && (c.dirty || c.writing || c.filling) && t.any (fun x => x.1 == c.region && decide (x.2.1 ≤ c.addr ∧ c.addr < x.2.1 + x.2.2))
    then some (c.region, c.addr) else none

/-- The record of an unmap: what the hall's translations given before its instant have not finished. -/
def unmapRecord (hall : Nat) (pages : List (Nat × BitVec 2)) (leaves : List (BitVec 128)) (tables : List Nat)
    (fence : Option (Nat × DWord)) (who : Nat × Nat) (s : State) : Unmap where
  serial := s.itu.nextUnmap
  hall := hall
  pages := pages
  leaves := leaves
  mpWait := (s.mp.filter fun r => r.hall == hall && r.owner != hallOwner hall).map (·.id)
  lineWait := ((s.ln.inflight ++ s.ln.stalled).filter fun q => q.acc.hall == hall).map (·.id)
  slotWait := s.fe.slots.filterMap fun e => match e.2.owner with | some q => if (queueOf s q).hall = hall then some e.1 else none | none => none
  txWait := hallReqs s hall
  homeWait := (s.au.queue.filter fun r => r.hall == hall).map (·.id)
  combWait := unmapComb s hall leaves
  tables := tables
  fence := fence
  answer := [who]
  byKeeper := who.1 == keeperSess

/-- UNMAP: the checks, then its instant. -/
def unmapOp (b : Bytes) (roleOk : Bool) (who : Nat × Nat) (s : State) : Status × State :=
  let hall := num b 0 2
  let count := num b 4 4
  let code := num b 16 1
  let flags := num b 17 1
  let f := num b 18 2
  let va := num b 8 8
  let h := hallOf s hall
  let keys := runKeys va count code
  let exact (k : Nat) : Bool := leafType (h.leaves.get k) == 2 && leafSize (h.leaves.get k) == code
  let leaves := forAll keys (fun k t => Tab.set t k default) h.leaves
  let bad := !roleOk || decide (4096 ≤ hall) || h.state != .live || decide (count < 1 ∨ 65536 < count ∨ 2 < code ∨ 2 ^ 48 ≤ va)
    || (leaves.isEmpty && rootFrozen h)
    || num b 2 2 != 0 || decide (2 ≤ flags) || num b 20 4 != 0 || (flags == 0 && (f != 0 || num b 24 8 != 0))
    || va % pageBytes code != 0 || !keys.all exact
    || (flags == 1 && !(fenceOfHall s f hall && (fenceOf s f).state == 1#2))
  if keys.any (fun k => pageUnmapping s hall k code) && roleOk && h.state == .live && decide (1 ≤ count ∧ count ≤ 65536 ∧ code ≤ 2) then
    (Status.retryLater, s)
  else if bad then (Status.permission, s)
  else
    let gone := keys.map fun k => h.leaves.get k
    let pages := keys.map fun k => (k, BitVec.ofNat 2 code)
    let fence := if flags = 1 then some (f, BitVec.ofNat 64 (num b 24 8)) else none
    let kept := tableKeys leaves
    let u := unmapRecord hall pages gone (h.tables.filterMap fun e => if kept.contains e.1 then none else some e.2) fence who s
    let s := s.updItu fun t => { t with
      unmaps := t.unmaps ++ [u]
      nextUnmap := t.nextUnmap + 1
      tlb := t.tlb.filter fun e => !(e.hall == hall && keys.any fun k => spansMeet (e.page * 512 ^ e.size.toNat) (512 ^ e.size.toNat) k (512 ^ code)) }
    let s := setLeaves hall leaves (keys.map fun k => (k, code)) s
    let s := if leaves.isEmpty then rootWrite hall s else s
    (Status.ok, if who.1 = keeperSess then s.updItu fun u => { u with go := true, op := 6#5 } else actWaits who.1 who.2 s)

def unmapAct (a : Act) (arg : Bytes) (s : State) : State :=
  match unmapOp (fit arg 32) (hallRole s a (num arg 0 2) && padZero arg 32 32) (a.sess, 0x504002) s with
  | (st, s) => if st = Status.ok then s else actDone a.sess 0x504002 st [] false s

def execUnmap (a : Act) (arg : Bytes) (s : State) : Answer := goOn (unmapAct a arg s)

/-- Has everything that an unmap waits for retired? -/
def unmapSettled (s : State) (u : Unmap) : Bool :=
  let reqs := hallReqs s u.hall
  !s.mp.any (fun r => u.mpWait.contains r.id)
    && !(s.ln.inflight ++ s.ln.stalled).any (fun q => u.lineWait.contains q.id)
    && u.slotWait.isEmpty
    && !u.txWait.any (fun w => reqs.contains w)
    && !s.au.queue.any (fun r => u.homeWait.contains r.id)
    && !s.au.comb.any (fun e => e.2.live && (e.2.dirty || e.2.writing || e.2.filling) && u.combWait.contains (e.2.region, e.2.addr))

/-! ### Retire (R360, R515) -/

/-- The TDI of a hall enters ERROR with a teardown that the operator or the domain manager orders (R136). -/
def tdiTeardown (hall : Nat) (s : State) : State :=
  updHall hall (fun h => if isSealed h then { h with tdi := .error } else h) s

/-- A freeze that a destroy overtakes ends with HALL_GONE (R373). -/
def freezeLost (hall : Nat) (s : State) : State :=
  if (hallOf s hall).freezing then
    let who := (hallOf s hall).answer
    hallAnswer who Status.hallGone [] (updHall hall (fun h => { h with freezing := false, answer := [] }) s)
  else s

/-- Retire step 1 (R360): every queue of the hall is destroyed, without a destroy fence. -/
def retireBegin (hall : Nat) (by' : RetireBy) (s : State) : State :=
  let s := freezeLost hall s
  let s := hallChange hall (fun h => { h with
    state := if by' = .migrate then h.state else .retiring
    retireBy := by', joined := by' == .destroy, drained := false }) s
  forAll (hallQueues s hall) queueDie s

/-- A TX context is freed: what it holds and what it waits for ends. -/
def txFree (i : Nat) (st : Status) (s : State) : List Ans × State :=
  let c := txOf s i
  (chunkEnds c.chunks st ++ (c.unanswered.map fun u => unitsEnd u st).flatten, updTx i (fun _ => default) s)

/-- Retire step 3: the hall's reduction slots and stream contexts are freed, the requests that its RX contexts brought and its clean
lines in the combining buffer with them. -/
def freeStreams (hall : Nat) (s : State) : List Ans × State :=
  let clean (i : Nat) : Bool :=
    let c := combOf s i
    c.live && c.hall == hall && !c.dirty && !c.writing && !c.filling
  let s := s.updAu fun a => { a with
    queue := a.queue.filter fun r => !(r.owner == .none && r.hall == hall)
    comb := a.comb.filter fun e => !clean e.1, lru := a.lru.filter fun i => !clean i }
  let s := s.updRd fun r => { r with slots := r.slots.filter fun e => !(e.2.state != 0 && mdHall e.2.desc == hall) }
  let s := s.updLs fun l => { l with rx := l.rx.filter fun e => !(e.2.live && e.2.hall == hall) }
  let mine := s.ls.tx.filterMap fun e => if e.2.live && handleHall e.2.handle == hall then some e.1 else none
  eachAns mine (fun i s => txFree i Status.hallGone s) s

/-- Retire step 6: the hall's regions are freed, a vault's root discarded. A command that runs on one ends with HALL_GONE. -/
def freeRegions (hall : Nat) (s : State) : State :=
  let mine := s.ln.regions.filterMap fun e => if e.2.state != .free && dHall e.2.desc == hall then some e.1 else none
  let s := if s.ln.go && mine.contains s.ln.target then lnFinish s.ln.op.toNat Status.hallGone s else s
  forAll mine (fun r s =>
    let s := if (treeOf s r).busy then (trFinish s.tr.op.toNat Status.hallGone s).updTr fun t => { t with flushing := false } else s
    updRegion r (fun _ => default) (dropRegion r s)) s

/-- Retire step 7 without its wait, and the entry of step 8: tables, fences and semaphores go, the scrub list is recorded. -/
def retireEnd (hall : Nat) (s : State) : State :=
  let s := freeHallSync hall s
  let s := s.updItu fun u => { u with tlb := u.tlb.filter fun e => e.hall != hall }
  let list := ownedGranules s hall
  (hallChange hall (fun h => { h with state := .scrubbing, leaves := [], tables := [], root := 0, scrub := list }) s).ituEvent 1

/-- Step 7 waits for the hall's unmaps. -/
def retireStep7 (hall : Nat) (s : State) : State :=
  let h := hallOf s hall
  if h.drained && (h.state == .retiring || (h.state == .moved && h.retireBy == .migrate)) && !s.itu.unmaps.any (fun u => u.hall == hall)
  then retireEnd hall s else s

/-- UNMAP_COMPLETE (R358): the fence, the result, the tables. -/
def unmapCompleteOp (serial : Nat) (s : State) : State :=
  match s.itu.unmaps.find? (·.serial == serial) with
  | none => s
  | some u =>
    if !unmapSettled s u then s
    else
      let s := (s.updItu fun t => { t with unmaps := t.unmaps.filter (·.serial != serial) }).ituCount 5
      let s := match u.fence with | some (f, v) => signalFence f v Status.ok s | none => s
      retireStep7 u.hall (hallAnswer u.answer Status.ok [] s)

def execUnmapComplete (serial : Nat) (s : State) : Answer := goOn (unmapCompleteOp serial s)

/-- Line writes of a hall that are not done (R194), and requests of its regions. -/
def hallLines (s : State) (hall : Nat) : Bool :=
  (s.ln.inflight ++ s.ln.stalled).any (fun q => q.acc.hall == hall) ||
    s.ln.regions.any fun e => e.2.state != .free && dHall e.2.desc == hall && !regionQuiet s e.1

/-- Write-back of a hall's combining lines for a retire or a freeze; nobody but the hall waits for it. -/
def flushHall (hall : Nat) (s : State) : List Ans × State :=
  let l := (combDirty s (some hall)).filter fun e => (combOf s e).dirty && !(combOf s e).writing
  eachAns l (fun e s => combClean e (513, 0) s) s

/-- Does a retire of a hall stand before the end of its step 2? -/
def retireWaits (s : State) (hall : Nat) : Bool :=
  let h := hallOf s hall
  (h.state == .retiring || (h.state == .moved && h.retireBy == .migrate)) && !h.drained

/-- RETIRE_DRAIN_DONE (R360 steps 2 to 7): with every queue FREE the combining lines are written back; with these and the hall's
writes drained, the generation steps, keys, streams and regions go. MIGRATE_DONE steps no generation and sends no message,
and the retires of a boot after T3 send none (R427). -/
def retireDrainOp (hall : Nat) (s : State) : List Ans × State :=
  if !retireWaits s hall || !(hallQueues s hall).isEmpty then ([], s)
  else if !(combDirty s (some hall)).isEmpty then flushHall hall s
  else if undrained s hall || hallLines s hall then ([], s)
  else
    let h := hallOf s hall
    let quiet := h.retireBy == .migrate
    match freeStreams hall s with
    | (a, s) =>
      let s := hallChange hall (fun h => { h with drained := true, hgen := if quiet then h.hgen else h.hgen + 1#16 }) s
      let s := if quiet then s
        else
          let s := retireMatchOp 15 hall h.hgen.toNat s
          let s := updHall hall (fun h => { h with hallKey := 0#32 }) s
          if h.retireBy = .reset then s else serviceSend none (retireMessage hall h.hgen.toNat s) s
      (a, retireStep7 hall (freeRegions hall s))

/-- HALL_DESTROY of an AWAITING hall (R515): no generation step, no message. -/
def destroyAwaiting (hall : Nat) (s : State) : List Ans × State :=
  match freeStreams hall s with
  | (a, s) =>
    let s := retireMatchOp 15 hall (hallOf s hall).hgen.toNat s
    let s := updHall hall (fun h => { h with retireBy := .destroy, joined := true, drained := true, hallKey := 0#32 }) s
    (a, retireEnd hall (freeRegions hall s))

/-- HALL_DESTROY (R515). The Keeper's ITU_CMD is done when the destroy is accepted, so that it can report the scrub; its RESULT
reads NOT_READY. DEDUCED, assumption 31. -/
def hallDestroyOp (hall : Nat) (roleOk : Bool) (who : Nat × Nat) (s : State) : List Ans × State :=
  let h := hallOf s hall
  let accept (r : List Ans × State) : List Ans × State :=
    (r.1, if who.1 = keeperSess then ituFinish 2 Status.notReady r.2 else hallWaits hall who r.2)
  if !roleOk || decide (s.conf.halls ≤ hall) then ([], hallAnswer [who] Status.permission [] s)
  else match h.state with
    | .free => ([], hallAnswer [who] Status.hallGone [] s)
    | .awaiting => accept (destroyAwaiting hall (tdiTeardown hall s))
    | .retiring | .scrubbing => accept ([], updHall hall (fun h => { h with joined := true }) s)
    | _ => accept ([], tdiTeardown hall (retireBegin hall .destroy s))

def hallDestroyAct (a : Act) (arg : Bytes) (s : State) : List Ans × State :=
  hallDestroyOp (num arg 0 2) (mayAct s [.operator, .domainManager] a && padZero arg 2 2) (a.sess, 0x501002) s

/-- Does a retire end FREE? -/
def endsFree (h : Hall) : Bool := h.joined || h.retireBy == .destroy || h.retireBy == .reset || h.retireBy == .migrate

/-- SCRUB_DONE (R360 step 8, R361): the scrub list is zeroed. -/
def scrubDoneOp (hall : Nat) (who : Nat × Nat) (s : State) : State :=
  let h := hallOf s hall
  if h.state ≠ .scrubbing then hallAnswer [who] Status.permission [] s
  else
    let s := s.updItu fun u => { u with counters := u.counters.bump 6 h.scrub.length }
    if endsFree h then
      let s := setGranules h.scrub default s
      let s := hallChange hall (fun h => { (default : Hall) with
        hgen := h.hgen, restored := h.restored, answer := h.answer, ready := h.ready }) s
      let s := s.updLc fun l => { l with consents := l.consents.filter (· != hall) }
      hallDone hall [who] Status.ok [] (hallEnds hall Status.ok (recountConsent (dropEpoch h.birth s)))
    else
      let s := hallChange hall (fun h => { h with state := .live, retireBy := .none, drained := false, scrub := [], lockBusy := false
                                                  stream := none }) s
      hallDone hall [who] Status.ok [] (hallKeys hall s)

/-! ### The TDI and FLR (R136, R139, R43) -/

/-- A TDI in CONFIG_LOCKED or RUN enters ERROR: the hall's retire begins. -/
def tdiError (hall : Nat) (s : State) : State :=
  let h := hallOf s hall
  if isSealed h && (h.tdi == .locked || h.tdi == .run) then
    let s := updHall hall (fun h => { h with tdi := .error, lockBusy := true }) s
    if h.state = .live ∨ h.state = .frozen then retireBegin hall .tdiError s else s
  else s

/-- The page registers of a hall return to their reset values (R139). -/
def resetPage (hall : Nat) (s : State) : State :=
  let s := s.updFs fun x => { x with mailboxes := x.mailboxes.set (hall + 1) default }
  updHall hall (fun h => { h with msixTable := [], msixPending := 0#8, profiles := [] }) s

/-- Does the retire that an ERROR of its TDI began still run in a hall: the FLR then waits for its drain too? -/
def flrDrains (h : Hall) : Bool := isSealed h && h.tdi == .error && (h.state == .retiring || h.state == .scrubbing)

/-- HP_FLR. A second FLR of a function merges with one that runs. A SEALED hall that is LIVE again with its TDI in ERROR, of which R139
says nothing, is treated as one in CONFIG_UNLOCKED: DESIGN CHOICE, assumption 159. -/
def flrOp (func : Nat) (s : State) : State :=
  if s.pins.flr.contains func || decide (s.conf.halls < func) then s
  else
    let s := s.updPins fun p => { p with flr := p.flr ++ [func] }
    if func = 0 then s.updFs fun x => { x with mailboxes := x.mailboxes.set 0 default }
    else
      let hall := func - 1
      let h := hallOf s hall
      if h.state = .free then s
      else if isSealed h && (h.tdi == .locked || h.tdi == .run) then tdiError hall s
      else if flrDrains h then s
      else resetPage hall (forAll (hallQueues s hall) queueDie s)

/-- Has a function reached the state that its FLR requires? -/
def flrReady (s : State) (func : Nat) : Bool :=
  let hall := func - 1
  let h := hallOf s hall
  func == 0 || h.state == .free || ((hallQueues s hall).isEmpty && (!flrDrains h || h.state != .retiring || h.drained))

/-- HP_FLR_DONE: the pulse of hp_flr_done_o. -/
def flrDoneOp (func : Nat) (s : State) : State :=
  if s.pins.flr.contains func && flrReady s func then
    (s.updPins fun p => { p with flr := p.flr.filter (· != func) }).emit (.flrDone func)
  else s

def execHpFlr (func : Nat) (s : State) : Answer := goOn (if s.pins.hpEn then flrOp func (portInput s) else s)
def execHpFlrDone (func : Nat) (s : State) : Answer := goOn (flrDoneOp func s)

end Sys2Proof.Machine
end

