-- ==== Sys2Proof/Machine/Migrate.lean ====
section
/-! DEFINITION. Migration of a hall: freeze, save, restore, thaw and its end on the source, and ITU_CMD as a whole
(13_halls_translation.md R363-R371). -/

namespace Sys2Proof.Machine

-- One declaration at a time, so that the elaborator holds few threads (each takes stack of its own).
set_option Elab.async false

/-! ### Freeze (R364) -/

/-- HALL_FREEZE: the combining lines are written back; the result waits for HALL_FREEZE_COMPLETE. -/
def hallFreezeOp (hall : Nat) (roleOk : Bool) (who : Nat × Nat) (s : State) : List Ans × State :=
  if !roleOk || decide (4096 ≤ hall) || (hallOf s hall).state != .live then ([], hallAnswer [who] Status.permission [] s)
  else flushHall hall (hallWaits hall who (updHall hall (fun h => { h with freezing := true }) s))

/-- Is a queue idle, with everything it issued or decoded complete? -/
def queueSettled (s : State) (q : Nat) : Bool :=
  let x := queueOf s q
  x.state == .idle && (workOf s q).isEmpty && x.signals.isEmpty && x.park == .none

/-- What FROZEN asks (R364). -/
def freezeReady (s : State) (hall : Nat) : Bool :=
  (hallQueues s hall).all (queueSettled s)
    && !s.rd.slots.any (fun e => e.2.state != 0 && mdHall e.2.desc == hall)
    && (combDirty s (some hall)).isEmpty && !undrained s hall

/-- HALL_FREEZE_COMPLETE. -/
def freezeCompleteOp (hall : Nat) (s : State) : State :=
  if (hallOf s hall).freezing && freezeReady s hall then
    hallEnds hall Status.ok (hallChange hall (fun h => { h with state := .frozen, freezing := false }) s)
  else s

def execHallFreezeComplete (hall : Nat) (s : State) : Answer := goOn (freezeCompleteOp hall s)

/-! ### The image (R365) -/

/-- A record: TYPE, LENGTH in 8-byte words with the head, content. -/
def imageRecord (type : Nat) (content : Bytes) : Bytes := natLe type 2 ++ natLe ((content.length + 4) / 8) 2 ++ content

/-- R288's argument block of a queue. -/
def queueArgs (x : Queue) : Bytes :=
  fit (natLe x.hall 2 ++ natLe x.slot 1 ++ natLe x.ringLog2 1 ++ natLe x.context 2 ++ natLe x.slots.toNat 2 ++ natLe x.ringBase.toNat 8
    ++ natLe x.ckey.toNat 4 ++ natLe x.serial.toNat 4) 32

/-- R316's argument block of a fence. -/
def fenceArgs (f : Fence) : Bytes :=
  natLe f.hall 2 ++ natLe f.view 2 ++ natLe f.pkind.toNat 1 ++ natLe (b2n f.notify + put 1 f.nvec) 1 ++ natLe f.producer 2
    ++ natLe f.value.toNat 8

/-- The records of a hall, without its pages: hall, leaves, queues, fences, semaphores, vault roots. -/
def queueRecord (q : Nat) (x : Queue) : Bytes :=
  imageRecord 3 (natLe q 2 ++ natLe x.qgen.toNat 2 ++ queueArgs x ++ natLe x.qseq.toNat 8
    ++ ((List.range 8).map fun i => natLe (x.regs.get i).toNat 8).flatten ++ natLe x.scene.toNat 4 ++ natLe x.shot.toNat 2
    ++ List.replicate 10 0#8)
def fenceRecord (f : Nat) (x : Fence) : Bytes :=
  imageRecord 4 (natLe f 2 ++ natLe 0 2 ++ fenceArgs x ++ natLe x.value.toNat 8 ++ natLe x.state.toNat 1 ++ natLe (b2n x.backward) 1
    ++ natLe x.status.toNat 2 ++ natLe 0 4)
def semRecord (kind i : Nat) (x : Sem) : Bytes :=
  imageRecord 5 (natLe i 2 ++ natLe kind 1 ++ natLe 0 1 ++ natLe x.count.toNat 4 ++ natLe 0 4)
def vaultRecord (s : State) (r : Nat) : Bytes :=
  let b := rootBlob s r 0#64
  imageRecord 6 (sub b 4 40 ++ List.replicate 8 0#8 ++ sub b 52 132)
def mapRecord (e : Nat × BitVec 128) : Bytes := imageRecord 2 (natLe 0 4 ++ natLe (e.1 * 4096) 8 ++ natLe e.2.toNat 16)

/-- The addresses of the 4 KiB pages of a hall's LOCAL leaves, in VA order. -/
def localPages (h : Hall) : List Nat :=
  ((h.leaves.filter fun e => leafTarget e.2 == 0).map fun e => (List.range (512 ^ leafSize e.2)).map fun i => (e.1 + i) * 4096).flatten

/-- The whole body, its pages' data given, filled with zero bytes to whole chunks. -/
def imageBody (s : State) (hall : Nat) (pages : List Bytes) : Bytes :=
  let h := hallOf s hall
  let queues := (hallQueues s hall).map fun q => queueRecord q (queueOf s q)
  let fences := s.fs.fences.filterMap fun e => if e.2.state != 0#2 && e.2.hall == hall then some (fenceRecord e.1 e.2) else none
  let sems (kind : Nat) (t : Tab Sem) : List Bytes :=
    t.filterMap fun e => if e.2.alloc && e.2.hall == hall then some (semRecord kind e.1 e.2) else none
  let vaults := s.ln.regions.filterMap fun e =>
    if isVault e.1 && e.2.state != .free && dHall e.2.desc == hall then some (vaultRecord s e.1) else none
  let va := localPages h
  let data := ((List.range va.length).zip va).map fun x => imageRecord 7 (natLe 0 4 ++ natLe x.2 8 ++ fit (pages.getD x.1 []) 4096)
  let body := imageRecord 1 (h.create.drop 4) ++ (h.leaves.map mapRecord).flatten ++ queues.flatten ++ fences.flatten
    ++ (sems 1 s.fs.locals).flatten ++ (sems 2 s.fs.broadcasts).flatten ++ vaults.flatten ++ data.flatten
    ++ imageRecord 0xFF (natLe 0 4)
  fit body (cdiv body.length 512 * 512)

/-- The migration key (R69): derived under the hall key. -/
def migrationKey (s : State) (hall src dst serial : Nat) : Option (BitVec 256) :=
  let h := hallOf s hall
  match slotOf s.kv h.hallKey, h.birth with
  | some i, some b => some (Crypto.deriveCmac (s.kv.slots.get i).key
      (mkLabel 0x0070 hall h.hgen.toNat src dst b.toNat 0 serial 0 7))
  | _, _ => none

/-- The header of an image. -/
def imageHeader (hall hgen birth src dst serial len nonce : Nat) : Bytes :=
  fit (natLe 0x4801 2 ++ natLe 0 2 ++ natLe (len / 64) 4 ++ natLe hall 2 ++ natLe hgen 2 ++ natLe birth 4 ++ natLe src 2
    ++ natLe dst 2 ++ natLe serial 4 ++ natLe nonce 8) 64

/-- The IV of chunk `c`. -/
def imageIv (header : Bytes) (c : Nat) : Bytes := sub header 24 8 ++ natLe c 4

/-- HALL_SAVE. With no way to the host for the hall's function it returns PERMISSION. -/
def hallSaveOp (b : Bytes) (pages : List Bytes) (roleOk : Bool) (who : Nat × Nat) (s : State) : State :=
  let hall := num b 0 2
  let dst := num b 2 2
  let serial := num b 4 4
  let addr := num b 8 8
  let h := hallOf s hall
  match migrationKey s hall s.dom.member.toNat dst serial with
  | none => hallAnswer [who] Status.permission [] s
  | some key =>
    if !roleOk || decide (4096 ≤ hall ∨ 8192 ≤ dst) || h.state != .frozen || !hostOpen s hall then hallAnswer [who] Status.permission [] s
    else
      let body := imageBody s hall pages
      let nonce := (s.draw.setWidth 64).toNat
      let birth := match h.birth with | some x => x.toNat | none => 0
      let header := imageHeader hall h.hgen.toNat birth s.dom.member.toNat dst serial body.length nonce
      let chunks := pieces 512 (body.length / 512) body
      let s := (hostWrite hall addr header s.drew).2
      let s := forAll ((List.range chunks.length).zip chunks) (fun x s =>
        match Crypto.gcmSeal key (imageIv header x.1) header x.2 with
        | (c, tag) => (hostWrite hall (addr + 64 + 528 * x.1) (c ++ tag) s).2) s
      let s := retireMatchOp 2 hall h.hgen.toNat s
      hallDone hall [who] Status.ok (natLe (64 + 528 * chunks.length) 8) (hallChange hall (fun h => { h with state := .moved }) s)

/-! ### Restore (R366) -/

/-- The plaintext of an image's body, if every chunk verifies. -/
def openImage (key : BitVec 256) (header image : Bytes) (n : Nat) : Option Bytes :=
  (List.range n).foldl (fun a c =>
    match a with
    | none => none
    | some p =>
      match Crypto.gcmOpen key (imageIv header c) header (fit (sub image (64 + 528 * c) 512) 512) (fit (sub image (64 + 528 * c + 512) 16) 16) with
      | some x => some (p ++ x)
      | none => none) (some [])

/-- The records of a body up to END: types and contents; none for a body that is cut short or ill-formed. -/
def imageRecords : Nat → Bytes → Option (List (Nat × Bytes))
  | 0, _ => none
  | fuel + 1, b =>
    let type := num b 0 2
    let len := 8 * num b 2 2
    if len < 8 ∨ b.length < len then none
    else if type = 0xFF then (if allZero (b.drop 4) then some [] else none)
    else match imageRecords fuel (b.drop len) with
      | some l => some ((type, sub b 4 (len - 4)) :: l)
      | none => none

/-- Contents of one type. -/
def ofType (l : List (Nat × Bytes)) (type : Nat) : List Bytes := l.filterMap fun x => if x.1 = type then some x.2 else none

/-- The lengths that R365 gives the contents. -/
def recordsOk (l : List (Nat × Bytes)) : Bool :=
  l.all fun x => x.2.length == (match x.1 with | 1 => 124 | 2 => 28 | 3 => 124 | 4 => 36 | 5 => 12 | 6 => 180 | 7 => 4108 | _ => 0)

/-- The lowest place from `cursor` in owned granules for a page of a size. -/
def placeAt (owned : List Nat) (cursor size : Nat) : Option Nat :=
  let up (a : Nat) : Nat := cdiv a size * size
  let fits (a : Nat) : Bool :=
    (List.range (cdiv (a + size) granuleBytes - a / granuleBytes)).all fun i => owned.contains (a / granuleBytes + i)
  (up cursor :: (owned.map fun g => up (g * granuleBytes))).find? fun a => decide (cursor ≤ a) && fits a

/-- Leaves placed in the hall's granules in ascending order: key, leaf with its new address. -/
def placeLeaves (owned : List Nat) : Nat → List (Nat × BitVec 128) → Option (List (Nat × BitVec 128))
  | _, [] => some []
  | cursor, (k, l) :: rest =>
    if leafTarget l ≠ 0 then (placeLeaves owned cursor rest).map ((k, l) :: ·)
    else
      let size := pageBytes (leafSize l)
      match placeAt owned cursor size with
      | none => none
      | some a =>
        let moved := BitVec.ofNat 128 (l.toNat - leafAddr l + a)
        (placeLeaves owned (a + size) rest).map ((k, moved) :: ·)

/-- Header conditions of R366. -/
def restoreHeader (s : State) (hall : Nat) (image : Bytes) : Bool :=
  let h := hallOf s hall
  let hd := image.take 64
  let units := num hd 4 4
  num hd 0 2 == 0x4801 && num hd 2 2 == 0 && allZero (hd.drop 32) && units % 8 == 0 && units != 0
    && decide (image.length = 64 + 528 * (units / 8))
    && num hd 8 2 == hall && num hd 10 2 == h.hgen.toNat && h.birth == some (BitVec.ofNat 32 (num hd 12 4))
    && s.dom.joined && num hd 18 2 == s.dom.member.toNat && s.dom.members.any (fun m => m.id == num hd 16 2)
    && decide (h.restored.toNat < num hd 20 4)

/-- The IDs that the records carry are FREE here, and no context of theirs is bound to another hall (R287; DESIGN CHOICE, assumption
186). -/
def restoreFree (s : State) (hall : Nat) (l : List (Nat × Bytes)) : Bool :=
  (ofType l 3).all (fun c => (queueOf s (num c 0 2)).state == .free && decide (num c 0 2 < 16384) && num c 4 2 == hall &&
      (match s.fe.contexts.get (num c 8 2) with | some h => h == hall | none => true))
    && (ofType l 4).all (fun c => (fenceOf s (num c 0 2)).state == 0#2 && num c 4 2 == hall)
    && (ofType l 5).all (fun c => !(semOf s (num c 2 1) (num c 0 2)).alloc && (num c 2 1 == 1 || num c 2 1 == 2))
    && (ofType l 6).all (fun c => isVault (num c 0 2) && (regionOf s (num c 0 2)).state == .free && (treeOf s (num c 0 2)).state == .none)

/-- A QUEUE record returns IDLE. -/
def restoreQueue (c : Bytes) (s : State) : State :=
  let b := sub c 4 32
  let ctx := num b 4 2
  let hall := num b 0 2
  let regs := forAll (List.range 8) (fun i t => Tab.set t i (BitVec.ofNat 64 (num c (44 + 8 * i) 8))) ([] : Tab DWord)
  let x : Queue := { (default : Queue) with
    state := .idle, qgen := BitVec.ofNat 16 (num c 2 2), hall := hall, slot := num b 2 1, context := ctx
    ringBase := BitVec.ofNat 64 (num b 8 8), ringLog2 := num b 3 1, ckey := BitVec.ofNat 32 (num b 16 4)
    serial := BitVec.ofNat 32 (num b 20 4), slots := BitVec.ofNat 16 (num b 6 2), qseq := BitVec.ofNat 64 (num c 36 8), regs := regs
    scene := BitVec.ofNat 24 (num c 108 4), shot := BitVec.ofNat 16 (num c 112 2) }
  (updQueue (num c 0 2) (fun _ => x) s).updFe fun f => { f with contexts := f.contexts.set ctx (some hall) }

def restoreFence (c : Bytes) (s : State) : State :=
  let b := sub c 4 16
  let x : Fence :=
    { value := BitVec.ofNat 64 (num c 20 8), state := BitVec.ofNat 2 (num c 28 1), status := BitVec.ofNat 16 (num c 30 2)
      backward := num c 29 1 == 1, hall := num b 0 2, view := num b 2 2, pkind := BitVec.ofNat 2 (num b 4 1), producer := num b 6 2
      notify := bitAt (num b 5 1) 0, nvec := bits (num b 5 1) 1 3 }
  updFence (num c 0 2) (fun _ => x) s

def restoreSem (hall : Nat) (c : Bytes) (s : State) : State :=
  updSem (num c 2 1) (num c 0 2) (fun _ => { alloc := true, hall := hall, count := BitVec.ofNat 32 (num c 4 4) }) s

/-- A VAULT_ROOT record becomes the staged root of its number. -/
def restoreRoot (c : Bytes) (s : State) : State :=
  let r := num c 0 2
  let blob := fit (natLe 0x7201 2 ++ natLe 240 2 ++ c) 240
  updRegion r (fun x => { x with fromImage := true }) (updTree r (fun t => { t with state := .staged, staged := blob }) s)

/-- A PAGE's data goes to its new place, a line at a time. -/
def restorePage (hall : Nat) (leaves : Tab (BitVec 128)) (c : Bytes) (s : State) : State :=
  let va := num c 4 8
  match leafFor { (default : Hall) with leaves := leaves } va with
  | none => s
  | some (l, base) =>
    let pa := leafAddr l + (va - base)
    forAll (List.range 64) (fun i s =>
      if mpPresent s (pa + 64 * i) then mpWrite (pa + 64 * i) (sub c (12 + 64 * i) 64) noHall (hallOwner hall) Src.itu 0 s else s) s

/-- HALL_RESTORE. -/
def hallRestoreOp (hall : Nat) (image : Bytes) (roleOk : Bool) (who : Nat × Nat) (s : State) : State :=
  let refuse (st : Status) : State := hallAnswer [who] st [] s
  let h := hallOf s hall
  let hd := image.take 64
  if !roleOk || decide (4096 ≤ hall) || h.state != .awaiting || !restoreHeader s hall image then refuse Status.permission
  else match migrationKey s hall (num hd 16 2) (num hd 18 2) (num hd 20 4) with
    | none => refuse Status.permission
    | some key =>
      match openImage key hd image (num hd 4 4 / 8) with
      | none => refuse Status.authFail
      | some body =>
        match imageRecords (body.length / 8) body with
        | none => refuse Status.permission
        | some l =>
          let maps := (ofType l 2).map fun c => (num c 4 8 / 4096, BitVec.ofNat 128 (num c 12 16))
          match placeLeaves (ownedGranules s hall) 0 maps with
          | none => refuse Status.permission
          | some placed =>
            let leaves := forAll placed (fun e t => Tab.set t e.1 e.2) ([] : Tab (BitVec 128))
            if !recordsOk l || !restoreFree s hall l || decide (tablesRoom s < tablesUsed s + (tableKeys leaves).length) then refuse Status.permission
            else
              let s := forAll (ofType l 3) restoreQueue s
              let s := forAll (ofType l 4) restoreFence s
              let s := forAll (ofType l 5) (restoreSem hall) s
              let s := forAll (ofType l 6) restoreRoot s
              let s := forAll (ofType l 7) (restorePage hall leaves) s
              let s := setLeaves hall leaves [] s
              let s := hallChange hall (fun h => { h with state := .live, restored := BitVec.ofNat 32 (num hd 20 4) }) s
              hallDone hall [who] Status.ok [] s

/-! ### Thaw and the end of a migration (R367) -/

/-- HALL_THAW, which comes back later while SHUTDOWN runs (R482). -/
def hallThawOp (hall : Nat) (roleOk : Bool) (who : Nat × Nat) (s : State) : State :=
  let st := (hallOf s hall).state
  if !roleOk || decide (4096 ≤ hall) || !(st == .frozen || (st == .moved && (hallOf s hall).retireBy != .migrate)) then
    hallAnswer [who] Status.permission [] s
  else if s.pwr.shut.running then hallAnswer [who] Status.retryLater [] s
  else hallDone hall [who] Status.ok [] (hallKeys hall (hallChange hall (fun h => { h with state := .live }) s))

/-- MIGRATE_DONE: the drain begins; the hall ends FREE. -/
def migrateDoneOp (hall : Nat) (roleOk : Bool) (who : Nat × Nat) (s : State) : State :=
  let h := hallOf s hall
  if !roleOk || decide (4096 ≤ hall) || h.state != .moved || h.retireBy == .migrate then hallAnswer [who] Status.permission [] s
  else
    let s := retireBegin hall .migrate s
    if who.1 = keeperSess then ituFinish 11 Status.notReady s else hallWaits hall who s

/-! ### The actions -/

def dmOnly (a : Act) (arg : Bytes) (len : Nat) (s : State) : Bool := mayAct s [.domainManager] a && padZero arg len len

def hallFreezeAct (a : Act) (arg : Bytes) (s : State) : List Ans × State :=
  hallFreezeOp (num arg 0 2) (dmOnly a arg 2 s) (a.sess, 0x505001) s
def hallSaveAct (a : Act) (arg : Bytes) (pages : List Bytes) (s : State) : State :=
  hallSaveOp (fit arg 16) pages (dmOnly a arg 16 s) (a.sess, 0x505002) s
def hallRestoreAct (a : Act) (arg image : Bytes) (s : State) : State :=
  hallRestoreOp (num arg 0 2) image (dmOnly a arg 16 s && allZero (sub arg 2 6)) (a.sess, 0x505003) s
def hallThawAct (a : Act) (arg : Bytes) (s : State) : State := hallThawOp (num arg 0 2) (dmOnly a arg 2 s) (a.sess, 0x505004) s
def migrateDoneAct (a : Act) (arg : Bytes) (s : State) : State :=
  migrateDoneOp (num arg 0 2) (dmOnly a arg 2 s) (a.sess, 0x505005) s

def execHallSave (a : Act) (arg : Bytes) (pages : List Bytes) (s : State) : Answer := goOn (hallSaveAct a arg pages s)
def execHallRestore (a : Act) (arg : Bytes) (image : Bytes) (s : State) : Answer := goOn (hallRestoreAct a arg image s)
def execHallThaw (a : Act) (arg : Bytes) (s : State) : Answer := goOn (hallThawAct a arg s)
def execMigrateDone (a : Act) (arg : Bytes) (s : State) : Answer := goOn (migrateDoneAct a arg s)

/-! ### ITU_CMD (R368-R370) -/

/-- ITU_ARG as bytes. -/
def ituArg (u : Itu) : Bytes := ((List.range 32).map fun i => natLe (u.args.get i).toNat 4).flatten

/-- A status-only command's end. -/
def ituEnd (op : Nat) (r : Status × State) : State := ituFinish op r.1 r.2

/-- One ITU_CMD. What the ITU reads of memory for SAVE and RESTORE comes with the command. A GO while one runs starts nothing. -/
def ituCommand (op hall : Nat) (pages : List Bytes) (image : Bytes) (s : State) : List Ans × State :=
  if s.itu.go then ([], s)
  else
    let s := s.updItu fun u => { u with hall := BitVec.ofNat 12 hall, op := BitVec.ofNat 5 op }
    let b := ituArg s.itu
    let who := (keeperSess, op)
    let h := num b 0 2
    match op with
    | 1 => ([], hallCreateOp b true who s)
    | 2 => hallDestroyOp h true who s
    | 3 => ([], ituEnd 3 (hallGrantOp b true s))
    | 4 => ([], ituEnd 4 (hallUngrantOp b true s))
    | 5 =>
      match mapOp (b.take 32) true s with
      | (st, s) => ([], if st = Status.ok then hallDone h [who] st [] s else ituFinish 5 st s)
    | 6 =>
      match unmapOp (b.take 32) true who s with
      | (st, s) => ([], if st = Status.ok then s else ituFinish 6 st s)
    | 7 => hallFreezeOp h true who s
    | 8 => ([], hallSaveOp b pages true who s)
    | 9 => ([], hallRestoreOp h image true who s)
    | 10 => ([], hallThawOp h true who s)
    | 11 => ([], migrateDoneOp h true who s)
    | 12 => ([], scrubDoneOp hall who s)
    | 13 => ([], ituFinish 13 Status.ok (s.updItu fun u => { u with qinfo := BitVec.ofNat 32 (ituInfo s hall) }))
    | 14 => ([], ituEnd 14 (cleanOp (s.itu.args.get 0).toNat (s.itu.args.get 1).toNat s))
    | _ => ([], ituFinish op Status.permission s)

/-- The HALL field as it stands, for a command row without it. -/
def ituHallField (s : State) : Nat := s.itu.hall.toNat

def execScrubDone (hall : BitVec 12) (s : State) : Answer := goOn (ituCommand 12 hall.toNat [] [] s).2
def execItuClean (s : State) : Answer := goOn (ituCommand 14 (ituHallField s) [] [] s).2
def execItuQuery (hall : BitVec 12) (s : State) : Answer := goOn (ituCommand 13 hall.toNat [] [] s).2
def execItuHallCreate (s : State) : Answer := goOn (ituCommand 1 (ituHallField s) [] [] s).2
def execItuGrant (s : State) : Answer := goOn (ituCommand 3 (ituHallField s) [] [] s).2
def execItuUngrant (s : State) : Answer := goOn (ituCommand 4 (ituHallField s) [] [] s).2
def execItuMap (s : State) : Answer := goOn (ituCommand 5 (ituHallField s) [] [] s).2
def execItuUnmap (s : State) : Answer := goOn (ituCommand 6 (ituHallField s) [] [] s).2
/-- A SAVE or RESTORE that a write of ITU_CMD has started (R18) goes on with the row that carries its bytes: GO falls with the
command's end. -/
def ituGoesOn (op : Nat) (s : State) : State :=
  if s.itu.go ∧ s.itu.op = BitVec.ofNat 5 op then s.updItu fun u => { u with go := false } else s

def execItuSave (pages : List Bytes) (s : State) : Answer := goOn (ituCommand 8 (ituHallField s) pages [] (ituGoesOn 8 s)).2
def execItuRestore (image : Bytes) (s : State) : Answer := goOn (ituCommand 9 (ituHallField s) [] image (ituGoesOn 9 s)).2
def execItuThaw (s : State) : Answer := goOn (ituCommand 10 (ituHallField s) [] [] s).2
def execItuMigrateDone (s : State) : Answer := goOn (ituCommand 11 (ituHallField s) [] [] s).2

end Sys2Proof.Machine
end

