-- ==== Sys2Proof/Machine/Domain.lean ====
section
/-! DEFINITION. Domain membership: manifest and plan, join and leave, member loss and the epoch step
(05_attestation_domain.md R140-R147). -/

namespace Sys2Proof.Machine

-- One declaration at a time, so that the elaborator holds few threads (each takes stack of its own).
set_option Elab.async false

/-! ### Manifests (R140, R142) -/

def mfCount (b : Bytes) : Nat := num b 20 2
def mfEpoch (b : Bytes) : Nat := num b 16 4
def mfEntry (b : Bytes) (i : Nat) : Bytes := sub b (64 + 24 * i) 24

/-- The entries of a manifest. -/
def mfEntries (b : Bytes) : List Bytes := (List.range (mfCount b)).map (mfEntry b)

/-- Member IDs rise strictly and are below 8,192. -/
def idsRise : List Nat → Bool
  | [] => true
  | [a] => decide (a < 8192)
  | a :: b :: rest => decide (a < b) && idsRise (b :: rest)

/-- The form of a manifest. -/
def mfForm (b : Bytes) : Bool :=
  let n := mfCount b
  num b 0 2 == 0x4D01 && num b 2 2 == 0 && decide (1 ≤ n ∧ n ≤ 8192) && num b 4 4 == 64 + 24 * n + 96
    && b.length == 64 + 24 * n + 96 && allZero (sub b 22 42) && idsRise ((mfEntries b).map fun e => num e 8 2)
    && (mfEntries b).all fun e => decide (num e 10 2 < 4)

/-- This block's entries. -/
def mfOwn (s : State) (b : Bytes) : List Bytes := (mfEntries b).filter fun e => num e 0 8 == s.deviceId

/-- The own entry is the only one of this device, is not LOST and gives its CAPS. -/
def mfOwnOk (s : State) (b : Bytes) : Bool :=
  match mfOwn s b with
  | [e] => !(num e 10 2).testBit 0 && num e 20 4 == s.conf.caps.toNat
  | _ => false

/-- The own member ID of a manifest. -/
def mfMember (s : State) (b : Bytes) : Nat := num ((mfOwn s b).headD []) 8 2

/-- The members of a manifest. -/
def mfMembers (b : Bytes) : List Member :=
  (mfEntries b).map fun e =>
    { id := num e 8 2, device := BitVec.ofNat 64 (num e 0 8), lost := bitAt (num e 10 2) 0, relayOnly := bitAt (num e 10 2) 1 }

/-- The digest of a manifest or a plan: over the whole of it. DEDUCED, assumption 32. -/
def docDigest (b : Bytes) : Digest := Config.sha384 b

/-- The signature at the end of a manifest or plan verifies under a key known by its digest. -/
def docSigned (key : Digest) (b : Bytes) : Bool :=
  Config.ecdsaVerify (Config.publicKey key) (Config.sha384 (b.take (b.length - 96))) (b.drop (b.length - 96))

/-- The key that must have signed, once one has joined the block. -/
def signerOk (s : State) (key : Digest) : Bool := match s.dom.signer with | some d => d == key | none => true

/-- A chunk in order: offset 0 begins again. -/
def chunkJoins (buf arg : Bytes) : Option Bytes :=
  let off := num arg 0 4
  if arg.length < 5 ∨ 1028 < arg.length then none
  else if off = 0 then some (arg.drop 4)
  else if off = buf.length then some (buf ++ arg.drop 4)
  else none

/-- Is a document whole, by its own length field? -/
def docWhole (b : Bytes) : Bool := decide (8 ≤ b.length ∧ num b 4 4 ≤ b.length)

/-- A join runs over one session, that of its manifest's first chunk (R142). -/
def otherSession (s : State) (sess : Nat) : Bool := !s.dom.joined && s.dom.joinSess != sess

/-- MANIFEST_CHUNK: the chunk that completes the manifest has it checked. -/
def manifestChunkOp (sess : Nat) (arg : Bytes) (s : State) : Status × State :=
  let key := (sessOf s sess).leaf
  let s := if num arg 0 4 = 0 then s.updDom fun d => { d with joinSess := sess } else s
  if s.lcState ≠ field ∨ otherSession s sess then (Status.permission, s)
  else match chunkJoins s.dom.manifestBuf arg with
    | none => (Status.permission, s)
    | some b =>
      if !docWhole b then (Status.ok, s.updDom fun d => { d with manifestBuf := b })
      else
        let s := s.updDom fun d => { d with manifestBuf := [] }
        if !docSigned key b then (Status.authFail, s)
        else if !mfForm b || !mfOwnOk s b || !signerOk s key then (Status.permission, s)
        else (Status.ok, s.updDom fun d => { d with newManifest := some b, newPlan := none })

def manifestChunkAct (a : Act) (arg : Bytes) (s : State) : State :=
  runAct a 0x401001 [.domainManager] (fun s => match manifestChunkOp a.sess arg s with | (st, s) => ((st, []), s)) s

def execManifestChunk (a : Act) (arg : Bytes) (s : State) : Answer := goOn (manifestChunkAct a arg s)

/-! ### Plans (R141) -/

/-- The entries of a plan, their keys not derived. -/
def planEntries (b : Bytes) : List PlanEntry :=
  (List.range (num b 8 2)).map fun i =>
    let e := sub b (64 + 8 * i) 8
    { peer := num e 0 2, hall := num e 2 2, hgen := BitVec.ofNat 16 (num e 4 2), stream := BitVec.ofNat 8 (num e 6 1)
      rx := bitAt (num e 7 1) 0, handle := 0#32 }

/-- The form of a plan for a member under a manifest. -/
def planForm (b : Bytes) (member : Nat) (manifest : Digest) : Bool :=
  let n := num b 8 2
  num b 0 2 == 0x5001 && num b 2 2 == member && num b 4 4 == 64 + 8 * n + 96 && b.length == 64 + 8 * n + 96 && allZero (sub b 10 6)
    && Crypto.digestOf (sub b 16 48) == manifest
    && (List.range n).all fun i =>
      let e := sub b (64 + 8 * i) 8
      decide (num e 7 1 < 2 ∧ num e 0 2 < 16384) && (num e 2 2 == 0xFFFF || decide (num e 2 2 < 4096))

/-- Do two entries name the same key? -/
def sameEntry (a b : PlanEntry) : Bool := { a with handle := 0#32 } == { b with handle := 0#32 }

/-- A plan replaces the current one under the same manifest: added entries are derived, removed ones retired. -/
def planReplace (b : Bytes) (s : State) : State :=
  let new := planEntries b
  let old := s.dom.plan
  let gone := old.filter fun e => !new.any (sameEntry e)
  let kept := new.map fun e => match old.find? (sameEntry e) with | some x => x | none => e
  let s := forAll gone (fun e s => if e.handle = 0#32 then s else retireHandle e.handle s) s
  measPut 4 (Crypto.digestBytes (docDigest b)) (derivePlan (s.updDom fun d => { d with plan := kept }))

/-- PLAN_CHUNK: a plan for the manifest just accepted waits for its join or its epoch step; one for the current manifest
replaces the current plan at once. -/
def planChunkOp (sess : Nat) (arg : Bytes) (s : State) : Status × State :=
  let key := (sessOf s sess).leaf
  if s.lcState ≠ field ∨ otherSession s sess then (Status.permission, s)
  else match chunkJoins s.dom.planBuf arg with
    | none => (Status.permission, s)
    | some b =>
      if !docWhole b then (Status.ok, s.updDom fun d => { d with planBuf := b })
      else
        let s := s.updDom fun d => { d with planBuf := [] }
        let forNew := match s.dom.newManifest with
          | some m => planForm b (mfMember s m) (docDigest m)
          | none => false
        if !docSigned key b then (Status.authFail, s)
        else if !signerOk s key then (Status.permission, s)
        else if forNew then (Status.ok, s.updDom fun d => { d with newPlan := some b })
        else if s.dom.joined && planForm b s.dom.member.toNat s.dom.manifest then (Status.ok, planReplace b s)
        else (Status.permission, s)

def planChunkAct (a : Act) (arg : Bytes) (s : State) : State :=
  runAct a 0x401002 [.domainManager] (fun s => match planChunkOp a.sess arg s with | (st, s) => ((st, []), s)) s

def execPlanChunk (a : Act) (arg : Bytes) (s : State) : Answer := goOn (planChunkAct a arg s)

/-! ### Join and leave (R142, R143) -/

/-- The info string of the session KEK, "TQ9-DOMAIN-KEK" (R130). -/
def kekInfo : Bytes :=
  [0x54#8, 0x51#8, 0x39#8, 0x2D#8, 0x44#8, 0x4F#8, 0x4D#8, 0x41#8, 0x49#8, 0x4E#8, 0x2D#8, 0x4B#8, 0x45#8, 0x4B#8]

/-- The session KEK of an SPDM session (R130). -/
def sessionKek (x : Spdm) : Bytes := Crypto.hkdfExpand (Crypto.digestBytes x.secret) kekInfo 32

/-- Where firmware stages the KEK and the blob in the Keeper key region. DESIGN CHOICE, assumption 33. -/
def kekOffset : Nat := 0x3C00
def blobOffset : Nat := 0x3C40

/-- An SPDM session that imported a key remembers it. -/
def spdmImported (sid : Nat) (h : Handle) (s : State) : State :=
  updConn .callSheet (fun c => { c with
    sessions := c.sessions.map fun y => if y.sid == sid then { y with imported := h :: y.imported } else y }) s

/-- DOMAIN_ROOT: IMPORT of the KEK, UNWRAP of the root. The blob in transit is zeroed. The SPDM session is one of the joining session. -/
def domainRootOp (sess : Nat) (arg : Bytes) (s : State) : (Status × Bytes) × State :=
  let refuse (st : Status) (s : State) : (Status × Bytes) × State := ((st, []), s)
  if arg.length ≠ 52 ∨ s.lcState ≠ field ∨ s.dom.joined ∨ otherSession s sess then refuse Status.permission s
  else match spdmOf s .callSheet (num arg 0 4) with
    | none => refuse Status.permission s
    | some x =>
      if !x.finished || x.carrier != sess then refuse Status.permission s
      else
        let kek := freshHandle s 0 0
        match importInto kek kekOffset 8#4 false (writeKeyRegion kekOffset (sessionKek x) s) with
        | (st, s) =>
          if st ≠ Status.ok then refuse st s
          else
            let s := spdmImported x.sid kek (writeKeyRegion blobOffset (arg.drop 4) s)
            let s := match s.dom.root with | some r => (retireHandle r s).updDom fun d => { d with root := none } | none => s
            let h := freshHandle s 1 0
            match unwrapInto h kek (keyRegion s blobOffset 48) false s with
            | (st, s) =>
              let s := writeKeyRegion blobOffset (List.replicate 48 0#8) s
              if st ≠ Status.ok then refuse st s
              else ((Status.ok, natLe h.toNat 4), s.updDom fun d => { d with root := some h })

/-- DOMAIN_ROOT; its handle is a one-shot result (R87). -/
def domainRootAct (a : Act) (arg : Bytes) (s : State) : State :=
  if mayAct s [.domainManager] a then
    match domainRootOp a.sess arg s with
    | ((st, data), s) => actDone a.sess 0x401003 st data (st == Status.ok) s
  else actDone a.sess 0x401003 Status.permission [] false s

def execDomainRoot (a : Act) (arg : Bytes) (s : State) : Answer := goOn (domainRootAct a arg s)

/-- A manifest and a plan come into force under an epoch; the plan's keys are to be derived. -/
def installDocs (m p : Bytes) (s : State) : State :=
  let s := s.updDom fun d => { d with
    members := mfMembers m, manifest := docDigest m, plan := planEntries p, newManifest := none, newPlan := none }
  measPut 4 (Crypto.digestBytes (docDigest p)) (measPut 4 (Crypto.digestBytes (docDigest m)) s)

/-- Has every entry of the plan whose key is due its key? -/
def planDerived (s : State) : Bool := s.dom.plan.all fun e => !entryDue s e || (e.handle != 0#32 && (slotOf s.kv e.handle).isSome)

/-- JOIN_COMMIT: the key that signed the manifest stays the signer's, and a plan whose keys find no room commits nothing. DESIGN CHOICE,
assumption 180. -/
def joinCommitOp (sess : Nat) (s : State) : Status × State :=
  match s.dom.newManifest, s.dom.newPlan, s.dom.root with
  | some m, some p, some _ =>
    if s.lcState ≠ field ∨ s.dom.joined ∨ otherSession s sess then (Status.permission, s)
    else
      match deriveEpochKey (mfEpoch m) s with
      | (st, s') =>
        if st ≠ Status.ok then (st, s)
        else
          let lost := ((mfMembers m).filter (·.lost)).map (·.id)
          let done := s'.updDom fun d => { d with
            joined := true, member := BitVec.ofNat 13 (mfMember s m), epoch := BitVec.ofNat 32 (mfEpoch m)
            signer := some (sessOf s sess).leaf, lost := lost, stepState := 0 }
          let done := derivePlan (installDocs m p done)
          if planDerived done then (Status.ok, done) else (Status.refusedCapacity, s)
  | _, _, _ => (Status.permission, s)

def joinCommitAct (a : Act) (s : State) : State :=
  runAct a 0x401004 [.domainManager] (fun s => match joinCommitOp a.sess s with | (st, s) => ((st, []), s)) s

def execJoinCommit (a : Act) (s : State) : Answer := goOn (joinCommitAct a s)

/-- LEAVE. -/
def leaveOp (s : State) : Status × State :=
  if (usedHalls s).any fun e => isSealed e.2 then (Status.permission, s)
  else
    let gone := s.kv.slots.filterMap fun e =>
      if e.2.valid && (hClass e.2.handle == 1 || hClass e.2.handle == 2) then some e.1 else none
    let s := destroySlots (withChildren s.kv gone) s
    (Status.ok, s.updDom fun d => { (default : Dom) with
      epoch := d.epoch, retireSeen := d.retireSeen, retireDrops := d.retireDrops, timeSent := d.timeSent, nextIndex := d.nextIndex })

def leaveAct (a : Act) (s : State) : State :=
  runAct a 0x401005 [.domainManager] (fun s => match leaveOp s with | (st, s) => ((st, []), s)) s

def execLeave (a : Act) (s : State) : Answer := goOn (leaveAct a s)

/-! ### Member loss (R144) -/

/-- What a TX context toward a lost member holds ends with PEER_LOST. -/
def txPeerLost (i : Nat) (s : State) : List Ans × State :=
  let c := txOf s i
  (chunkEnds c.chunks Status.peerLost ++ (c.unanswered.map fun u => unitsEnd u Status.peerLost).flatten,
    updTx i (fun c => { c with chunks := [], unanswered := [], openItem := false }) s)

/-- One member is lost. -/
def peerLostOp (m : Nat) (s : State) : List Ans × State :=
  let s := s.updDom fun d => { d with
    lost := if d.lost.contains m then d.lost else d.lost ++ [m]
    members := d.members.map fun x => if x.id = m then { x with lost := true } else x }
  let rx := s.ls.rx.filterMap fun e => if e.2.live && !e.2.expander && bits e.2.src.toNat 0 13 == m && !e.2.src.toNat.testBit 13 then some e.1 else none
  let s := redAbortAll (fun d => rdPrev d == m || rdNext d == m) Status.peerLost s
  let s := forAll rx rxPeerLost s
  let keys := (s.dom.plan ++ s.dom.oldPlan).filter fun e => e.rx && e.peer == m && e.handle != 0#32
  let s := forAll keys (fun e s => retireHandle e.handle s) s
  let fences := s.fs.fences.filterMap fun e => if e.2.state == 1#2 && e.2.pkind == 2#2 && e.2.producer == m then some e.1 else none
  let s := forAll fences (fun f s => faultFence f Status.peerLost s) s
  let s := if parentValid s && parentMember s == m then timeDiscard s else s
  let tx := s.ls.tx.filterMap fun e => if e.2.live && bits e.2.dst.toNat 0 14 == m then some e.1 else none
  eachAns tx txPeerLost (s.atEvent 2)

/-- MEMBER_LOST: up to 256 member IDs of two bytes. -/
def memberLostAct (a : Act) (arg : Bytes) (s : State) : List Ans × State :=
  let ids := (List.range (arg.length / 2)).map fun i => num arg (2 * i) 2
  let ok := mayAct s [.domainManager] a && s.dom.joined && arg.length % 2 == 0 && decide (arg.length ≤ 512)
    && ids.all fun m => decide (m < 8192)
  if !ok then ([], actDone a.sess 0x402004 Status.permission [] false s)
  else match eachAns ids peerLostOp s with
    | (x, s) => (x, actDone a.sess 0x402004 Status.ok [] false s)

/-! ### The epoch step (R145) -/

/-- EPOCH_PREPARE: OK once every due key is there; where one finds no room, nothing has changed. DESIGN CHOICE, assumption 180. -/
def epochPrepareOp (arg : Bytes) (s : State) : Status × List Ans × State :=
  if s.dom.stepPending then (Status.retryLater, [], s)
  else match s.dom.newManifest, s.dom.newPlan with
    | some m, some p =>
      let next := num arg 0 4
      if arg.length ≠ 4 ∨ !s.dom.joined ∨ s.dom.epoch.toNat + 1 ≠ next ∨ 2 ^ 32 ≤ next ∨ mfEpoch m ≠ next
          ∨ mfMember s m ≠ s.dom.member.toNat then (Status.permission, [], s)
      else match deriveEpochKey next s with
        | (st, s') =>
          if st ≠ Status.ok then (st, [], s)
          else
            let newly := ((mfMembers m).filter fun x => x.lost && !memberLost s x.id).map (·.id)
            let done := s'.updDom fun d => { d with
              stepPending := true, nextEpoch := BitVec.ofNat 32 next, switched := false, stepState := 1, oldPlan := d.plan }
            match eachAns newly peerLostOp done with
            | (x, done) =>
              let done := derivePlan (installDocs m p done)
              if planDerived done then (Status.ok, x, done) else (Status.refusedCapacity, [], s)
    | _, _ => (Status.permission, [], s)

def epochPrepareAct (a : Act) (arg : Bytes) (s : State) : List Ans × State :=
  if mayAct s [.domainManager] a then
    match epochPrepareOp arg s with
    | (st, x, s) => (x, actDone a.sess 0x402001 st [] false s)
  else ([], actDone a.sess 0x402001 Status.permission [] false s)

/-- EPOCH_SWITCH: the instant T is armed for every TX stream. -/
def epochSwitchOp (arg : Bytes) (s : State) : Status × State :=
  if arg.length ≠ 8 ∨ !s.dom.stepPending ∨ s.dom.switched then (Status.permission, s)
  else
    let s := s.updLs fun l => { l with switchAt := BitVec.ofNat 64 (num arg 0 8) }
    (Status.ok, drainComplete ((armSwitchOp s).updDom fun d => { d with switched := true, stepState := 2 }))

def epochSwitchAct (a : Act) (arg : Bytes) (s : State) : State :=
  runAct a 0x402002 [.domainManager] (fun s => match epochSwitchOp arg s with | (st, s) => ((st, []), s)) s

def execEpochSwitch (a : Act) (arg : Bytes) (s : State) : Answer := goOn (epochSwitchAct a arg s)

/-- EPOCH_RETIRE. -/
def epochRetireOp (arg : Bytes) (s : State) : Status × State :=
  if arg.length ≠ 4 ∨ !s.dom.joined then (Status.permission, s) else (Status.ok, retireEpoch (num arg 0 4) s)

def epochRetireAct (a : Act) (arg : Bytes) (s : State) : State :=
  runAct a 0x402003 [.domainManager] (fun s => match epochRetireOp arg s with | (st, s) => ((st, []), s)) s

def execEpochRetire (a : Act) (arg : Bytes) (s : State) : Answer := goOn (epochRetireAct a arg s)

end Sys2Proof.Machine
end

