-- ==== Sys2Proof/Machine/Shutdown.lean ====
section
/-! DEFINITION. Orderly shutdown and the root store (18_power_clocks_boot.md R477, R478). -/

namespace Sys2Proof.Machine

-- One declaration at a time, so that the elaborator holds few threads (each takes stack of its own).
set_option Elab.async false

/-- The object of SHUTDOWN. -/
def shutObj : Nat := 0x201002

/-- SHUTDOWN has ended. -/
def shutOver (st : Status) (data : Bytes) (s : State) : State :=
  actDone s.pwr.shut.sess shutObj st data false (s.updPwr fun p => { p with shut := default })

/-- The root store is erased and written: the blobs 256 bytes apart, each followed by its region number and zeros. -/
def storeWrite : Nat → List (Nat × Bytes) → State → State
  | _, [], s => s
  | k, (r, b) :: rest, s => storeWrite (k + 1) rest (flashWrite (storeBase + 256 * k) (fit (fit b 240 ++ natLe r 2) 256) s)

/-- The end of step 2: the result is the number of blobs. -/
def shutEnd (s : State) : State :=
  let l := s.pwr.shut.blobs
  let s := storeWrite 0 l (flashErase storeBase 0x10000 s)
  shutOver Status.ok (natLe l.length 4) (s.updPwr fun p => { p with shutDone := true })

/-- The installed vault regions, in ascending number. -/
def installedVaults (s : State) : List Nat :=
  s.ln.regions.filterMap fun e => if isVault e.1 && e.2.state != .free then some e.1 else none

/-- Step 2 goes on: FLUSH_ALL of the atomic unit, where there is one, then one ROOT_SAVE after the other. Each waits for a command
of the Keeper that runs in its unit. -/
def shutStep (s : State) : List Ans × State :=
  let x := s.pwr.shut
  let stage (n : Nat) (s : State) : State := s.updPwr fun p => { p with shut := { p.shut with stage := n } }
  if !x.running then ([], s)
  else match x.stage with
    | 0 =>
      if !s.conf.atomic then ([], stage 2 (s.updPwr fun p => { p with shut := { p.shut with left := installedVaults s } }))
      else if s.au.go then ([], s)
      else auFlushOp 2 none (stage 1 s)
    | 1 =>
      if s.au.go then ([], s)
      else ([], stage 2 (s.updPwr fun p => { p with shut := { p.shut with left := installedVaults s } }))
    | 2 =>
      match x.left with
      | [] => ([], shutEnd s)
      | r :: _ =>
        if s.tr.go then ([], s)
        else ([], trStart r true false ((stage 3 s).updTr fun t => { t with
          keep := true, index := BitVec.ofNat 8 r, serial := x.serial }))
    | _ =>
      match x.left with
      | [] => ([], stage 2 s)
      | r :: rest =>
        if s.tr.go then ([], s)
        else if s.tr.result ≠ Status.ok then ([], shutOver s.tr.result [] s)
        else ([], stage 2 (s.updPwr fun p => { p with
          shut := { p.shut with left := rest, blobs := p.shut.blobs ++ [(r, blobBytes s.tr)] } }))

/-- Several steps of SHUTDOWN that need nothing from outside follow one another: as many as there are vault regions, and the
flush. -/
def shutSteps : Nat → State → List Ans × State
  | 0, s => ([], s)
  | n + 1, s =>
    match shutStep s with
    | (a, s') => if s'.pwr.shut = s.pwr.shut then (a, s') else match shutSteps n s' with | (b, s'') => (a ++ b, s'')

/-- SHUTDOWN: the domain manager's, with every hall FREE or FROZEN. One that runs already makes a second come back later. -/
def shutdownAct (a : Act) (arg : Bytes) (s : State) : List Ans × State :=
  let parked := (usedHalls s).all fun e => e.2.state == .frozen
  if !mayAct s [.domainManager] a || arg.length != 8 || !parked then ([], actDone a.sess shutObj Status.permission [] false s)
  else if s.pwr.shut.running then ([], actDone a.sess shutObj Status.retryLater [] false s)
  else
    let x : Shut := { running := true, sess := a.sess, stage := 0, serial := BitVec.ofNat 64 (num arg 0 8), left := [], blobs := [] }
    ([], actWaits a.sess shutObj (s.updPwr fun p => { p with shut := x }))

/-- ROOT_STORE_USE: the serial of the root store that REGION_WRITE checks roots from images against. -/
def rootStoreUseAct (a : Act) (arg : Bytes) (s : State) : State :=
  runAct a 0x201003 [.domainManager] (fun s =>
    if arg.length = 8 then ((Status.ok, []), s.updPwr fun p => { p with rootStore := some (BitVec.ofNat 64 (num arg 0 8)) })
    else ((Status.permission, []), s)) s

def execRootStoreUse (a : Act) (arg : Bytes) (s : State) : Answer := goOn (rootStoreUseAct a arg s)

end Sys2Proof.Machine
end

