-- ==== Sys2Proof/Machine/Deliver.lean ====
section
/-! DEFINITION. Delivery: an asynchronous answer goes to its requester, whatever can go on because of it goes on, until nothing
is left to do; and the commands whose effect may answer a requester. -/

namespace Sys2Proof.Machine

-- One declaration at a time, so that the elaborator holds few threads (each takes stack of its own).
set_option Elab.async false

/-! ### One answer -/

/-- An answer to a read of the front end for a queue (R289, R294). -/
def fetchTake (q : Nat) (a : Ans) (s : State) : State :=
  if a.status ≠ Status.ok then fetchFailed q a.status s
  else if (queueOf s q).fetch = .ring then ringFetched q a.data s
  else feKick q (chunkFetched q a.data false s)

/-- An answer goes to its requester. -/
def takeAns (a : Ans) (s : State) : List Ans × State :=
  match a.owner with
  | .none => ([], s)
  | .work id => atomicEnd id a.status a.data s
  | .mover m line store => moverTake m line store a.status a.data s
  | .red u slot => ([], redTake u slot a.unit a.status s)
  | .place ctx seq => ([], placeTake ctx seq a.status s)
  | .home entry unit => homeKick (homeUnitDone entry unit a.status a.data s)
  | .comb entry => if a.unit = 0 then homeKick (combFilled entry a.status a.data s) else combWritten entry s
  | .cp tag => ([], cpAnswer tag a.status a.data s)
  | .line id => if a.status = Status.ok then ([], s) else lineUnsent id a.status s
  | .node id => ([], if a.status = Status.ok then s else nodeUnsent id s)
  | .port 1 q => ([], fetchTake q a s)
  | .port 2 q => ([], signalUnsent q a.unit a.status s)
  | .port 3 hall => ([], rootDrained hall s)
  | .port p ticket => ([], s.emit (.status (.port p ticket) a.status a.data))

/-! ### Whatever can go on -/

/-- The movers with a segment. -/
def busyMovers (s : State) : List Nat := s.mv.movers.filterMap fun e => if e.2.seg.isSome then some e.1 else none

/-- The halls that wait to be FROZEN. -/
def freezingHalls (s : State) : List Nat := s.itu.halls.filterMap fun e => if e.2.freezing then some e.1 else none

/-- Every engine that waits for a line, a key, an entry or a place tries again, once. -/
def kicks (s : State) : List Ans × State :=
  match poolKick s with
  | (a, s) => match homeKick s with
    | (b, s) => match placeAll s with
      | (c, s) => match eachAns (busyMovers s) segStep s with
        | (d, s) => match eachAns (freezingHalls s) flushHall s with
          | (e, s) => match shutSteps 520 s with
            | (f, s) => (a ++ b ++ c ++ d ++ e ++ f, feRetry s)

/-- Answers are delivered in order and what they let go on goes on; `fuel` bounds the answers of one command. -/
def deliver : Nat → List Ans → State → State
  | 0, _, s => s
  | fuel + 1, [], s =>
    match kicks s with
    | ([], s) => s
    | (a :: l, s) => deliver fuel (a :: l) s
  | fuel + 1, a :: l, s =>
    match takeAns a s with
    | (more, s) => deliver fuel (l ++ more) s

/-- The end of a command that answered requesters. In the safe state work that is issued is not completed (R402). -/
def settled (r : List Ans × State) : State := if r.2.fcu.safe then r.2 else deliver 65536 r.1 r.2

/-! ### Local memory, compute, pooled memory -/

/-- MP_RESPONSE (R48). -/
def mpResponseOp (port tag : Nat) (we : Bool) (err : BitVec 2) (data : Bytes) (s : State) : State :=
  settled (mpTake port tag we err data s)

/-- Requesters of a pooled access outside the modelled engines, by their port number. -/
def lineOwner (r : LineAcc) : Owner := .port (16 + r.port) r.ticket

def execMpResponse (port tag : Nat) (we : Bool) (err : BitVec 2) (data : Bytes) (s : State) : Answer :=
  goOn (if s.pins.mpEn.getLsbD port then mpResponseOp port tag we err data (portInput s) else s)
def execCpReqReceive (r : CpReq) (s : State) : Answer :=
  goOn (if s.pins.cpEn && portServes s then settled (cpReqOp r (portInput s)) else s)
def execLineWrite (r : LineAcc) (data : Bytes) (s : State) : Answer :=
  goOn (settled (lineIssue r .write (~~~0#64) (fit data 64) (lineOwner r) 0 false s))
def execPartialWrite (r : LineAcc) (be : BitVec 64) (data : Bytes) (s : State) : Answer :=
  goOn (settled (lineIssue r .partialWrite be (fit data 64) (lineOwner r) 0 false s))
def execLineRead (r : LineAcc) (s : State) : Answer := goOn (settled (lineIssue r .read 0#64 [] (lineOwner r) 0 false s))
def execInflightTableAdmit (s : State) : Answer := goOn (settled (admitLine s))
def execLineRspReceive (pipe : Nat) (payload : Bytes) (s : State) : Answer := goOn (if pipe < s.conf.linePipes then settled (lineRspTake pipe payload s) else s)
def execNodeFetchResponse (payload : Bytes) (s : State) : Answer := goOn (settled ([], nodeRspOp payload s))
def execNodeWritebackResponse (payload : Bytes) (s : State) : Answer := goOn (settled ([], nodeRspOp payload s))
def execRetire (s : State) : Answer := goOn (settled ([], kvCommand 5 false s))
def execRetireMatch (s : State) : Answer := goOn (settled ([], kvCommand 6 false s))
def execWipeAll (s : State) : Answer := goOn (settled ([], kvCommand 8 false s))
def execFastDerivationDone (s : State) : Answer := goOn (settled ([], derivationDone s))

def execLnRegionErase (index : BitVec 11) (s : State) : Answer := goOn (settled ([], lnCommand 4 index.toNat s.ln.sealed s))

/-! ### Links -/

/-- LINK_FRAME_RECEIVE: a lane that is down or not enabled takes nothing (R37, R52); a beat that is not the first of a frame is
discarded and counted by its port (R39). -/
def linkReceive (lane : Nat) (vc : BitVec 2) (route : Byte) (first : Bool) (frame : Bytes) (s : State) : State :=
  if !portServes s || !laneUp s lane then s
  else if !first then (portInput s).updPins fun p => { p with framing := p.framing.bump (1 + groupOf lane) 1 }
  else settled (frameReceiveOp lane vc route frame (portInput s))

def execLinkFrameReceive (lane : Nat) (vc : BitVec 2) (route : Byte) (frame : LinkFrame) (s : State) : Answer :=
  goOn (linkReceive lane vc route frame.first frame.bytes s)
def execFrameRelease (ctx : Nat) (s : State) : Answer := goOn (settled (frameReleaseOp ctx s))
def execLaneUpFall (lane : Nat) (s : State) : Answer := goOn (settled (laneFallOp lane s))
def execTxFrameSeal (ctx : Nat) (mismatch : Bool) (s : State) : Answer := goOn (settled (txSealRow ctx mismatch s))

/-- FRAME_SENT (R156); the CLOSE of the last old context may end an epoch step (R145). -/
def frameSentRow (lane : Nat) (s : State) : State :=
  match frameSentOp lane s with
  | (a, s) => settled (a, drainComplete s)

def execFrameSent (lane : Nat) (s : State) : Answer := goOn (frameSentRow lane s)
def execTxFailover (pipe : Nat) (s : State) : Answer := goOn (settled (txFailoverOp pipe s))
def execRxFailover (pipe : Nat) (s : State) : Answer := goOn (settled (rxFailoverOp pipe s))
def execStreamAbandon (a : Act) (arg : Bytes) (s : State) : Answer := goOn (settled (streamAbandonAct a arg s))
def execLsTxBind (index : BitVec 9) (s : State) : Answer := goOn (settled (lsCommand 1 index.toNat s))
def execLsRxBind (index : BitVec 9) (s : State) : Answer := goOn (settled (lsCommand 2 index.toNat s))
def execLsUnbind (index : BitVec 9) (s : State) : Answer := goOn (settled (lsCommand 3 index.toNat s))
def execLsAbandon (index : BitVec 9) (s : State) : Answer := goOn (settled (lsCommand 4 index.toNat s))
def execLsArmSwitch (s : State) : Answer := goOn (settled (lsCommand 5 s.ls.index.toNat s))
def execLsQuery (index : BitVec 9) (s : State) : Answer := goOn (settled (lsCommand 6 index.toNat s))
def execLsFailover (s : State) : Answer := goOn (settled (lsCommand 7 s.ls.index.toNat s))

/-! ### Movers, reduction, atomics -/

def execMoverSegment (m : Nat) (s : State) : Answer := goOn (settled (moverSegmentOp m s))
def execReductionSlice (u slot : Nat) (lines : List MemLine) (s : State) : Answer := goOn (settled (redSliceOp u slot lines s))
def execHomeReqAccept (ctx : Nat) (s : State) : Answer := goOn (settled (homeAcceptOp ctx s))
def execAtomicUpdateApply (entry : Nat) (s : State) : Answer := goOn (settled ([], atomicApply entry s))
def execCombiningFillDone (entry : Nat) (status : Status) (data : Bytes) (s : State) : Answer :=
  goOn (settled ([], combFilled entry status data s))
def execRspItemReceive (ctx : Nat) (s : State) : Answer := goOn (settled (rspReceiveOp ctx s))
def execAuFlushHall (hall : BitVec 12) (s : State) : Answer := goOn (settled (auCommand 1 hall.toNat s))
def execAuFlushAll (s : State) : Answer := goOn (settled (auCommand 2 s.au.hall.toNat s))
def execAuInject (s : State) : Answer := goOn (settled (auCommand 3 s.au.hall.toNat s))
def execAtomic (q : Nat) (s : State) : Answer := goOn (settled (atomicOp q s))

/-! ### Halls and the domain -/

def execRetireDrainDone (hall : Nat) (s : State) : Answer := goOn (settled (retireDrainOp hall s))
def execHallDestroy (a : Act) (arg : Bytes) (s : State) : Answer := goOn (settled (hallDestroyAct a arg s))
def execHallFreeze (a : Act) (arg : Bytes) (s : State) : Answer := goOn (settled (hallFreezeAct a arg s))
def execItuHallDestroy (s : State) : Answer := goOn (settled (ituCommand 2 (ituHallField s) [] [] s))
def execItuFreeze (s : State) : Answer := goOn (settled (ituCommand 7 (ituHallField s) [] [] s))
def execMemberLost (a : Act) (arg : Bytes) (s : State) : Answer := goOn (settled (memberLostAct a arg s))
def execEpochPrepare (a : Act) (arg : Bytes) (s : State) : Answer := goOn (settled (epochPrepareAct a arg s))

end Sys2Proof.Machine
end

