-- ==== Sys2Proof/Machine/Landing.lean ====
section
/-! DEFINITION. Landing: a unit refuses, drains, answers what is left, is reset and leaves (16_hang_reset.md R429-R431), for each
kind of unit that a tread or a power state resets. -/

namespace Sys2Proof.Machine

-- One declaration at a time, so that the elaborator holds few threads (each takes stack of its own).
set_option Elab.async false

/-! ### Units (R423, R395, R165) -/

/-- The units that a T1 may name. -/
def resetUnit (c : Conf) (u : Nat) : Bool :=
  within u 0x100 c.lanes || within u 0x140 c.groups || within u 0x180 c.lanes || within u 0x1C0 c.groups
    || within u 0x200 c.linePipes || within u 0x208 c.linePipes || within u 0x240 c.movers || within u 0x260 c.redUnits
    || u == Src.hostPipes || (u == Src.au && c.atomic) || within u 0x2E0 16

/-- Numbers below `n` that belong to slice `k` when each slice has `per`. -/
def ofSlice (k per n : Nat) : List Nat := (List.range n).filter fun i => i / per == k

/-- The lanes of a slice's own link pipes. -/
def sliceLanes (c : Conf) (k : Nat) : List Nat := ofSlice k c.lanesPerPart c.lanes

/-- The units of a slice, without spares. -/
def sliceUnits (c : Conf) (k : Nat) : List Nat :=
  (sliceLanes c k).map Src.linkTx ++ (sliceLanes c k).map Src.linkRx
    ++ (ofSlice k c.linePerPart c.linePipes).map Src.lineSeal ++ (ofSlice k c.linePerPart c.linePipes).map Src.lineUnseal
    ++ (ofSlice k c.moversPerPart c.movers).map Src.mover ++ (ofSlice k c.redPerPart c.redUnits).map Src.red ++ [Src.crossing k]

/-- The slices that a group's spare belongs to (R165), which are those that its lanes belong to. -/
def groupSlices (c : Conf) (g : Nat) : List Nat := if c = .f then [g] else [2 * g, 2 * g + 1]

/-- A slice out of service: in T2, or retired. -/
def sliceOut (s : State) (k : Nat) : Bool := !sliceServes s k

/-- The spares that are reset with a slice: those all of whose slices are out. -/
def spareUnits (s : State) (k : Nat) : List Nat :=
  (((List.range s.conf.groups).filter fun g => (groupSlices s.conf g).contains k && (groupSlices s.conf g).all (sliceOut s)).map
    fun g => [Src.linkTx (sparePipe g), Src.linkRx (sparePipe g)]).flatten

/-- Every unit that a T3 resets. -/
def allUnits (c : Conf) : List Nat :=
  List.range 15 ++ ((List.range c.parts).map (sliceUnits c)).flatten
    ++ ((List.range c.groups).map fun g => [Src.linkTx (sparePipe g), Src.linkRx (sparePipe g)]).flatten

/-! ### Entry (R429 step 1) -/

/-- A unit enters Landing. The atomic unit begins to write its dirty lines back (R428). -/
def landEnter (tread u : Nat) (s : State) : List Ans × State :=
  if isLanding s u then ([], s)
  else
    let s := rushesBlock u Ev.landingIn tread (s.updHr fun h => { h with landing := h.landing ++ [u] })
    if u = Src.au then eachAns (combDirty s none) (fun e s => combClean e (513, 0) s) s else ([], s)

/-! ### What a unit still holds (R429 step 2) -/

/-- The unit that a request of the line table is in. -/
def lineUnit (q : LineReq) : Nat := if q.op = .write then Src.lineSeal q.pipe else Src.lineUnseal q.pipe

/-- The requests that a line pipe has begun. -/
def linesIn (s : State) (u : Nat) : List Nat := (s.ln.inflight.filter fun q => lineUnit q == u && q.phase != 0).map (·.id)

/-- The frames of a context that stand in its pipe's hold buffer: not those that the atomic unit has taken. -/
def inHold (h : HeldFrame) : Bool := !h.taken || h.type != tReq

/-- The lane that a pipe serves. -/
def txLaneOfPipe (s : State) (p : Nat) : Option Nat := (laneOfTxPipe s p).filter fun l => txPipe s l == p
def rxLaneOfPipe (s : State) (p : Nat) : Option Nat := (laneOfRxPipe s p).filter fun l => rxPipe s l == p

/-- Has a unit something left to drain? -/
def unitBusy (s : State) (u : Nat) : Bool :=
  if 0x100 ≤ u ∧ u < 0x180 then
    match txLaneOfPipe s (u - 0x100) with
    | some l => !(laneOf s l).out.isEmpty
    | none => false
  else if 0x180 ≤ u ∧ u < 0x200 then
    match rxLaneOfPipe s (u - 0x180) with
    | some l => (rxOnLane s l).any fun i => (rxOf s i).held.any inHold
    | none => false
  else if 0x200 ≤ u ∧ u < 0x210 then !(linesIn s u).isEmpty
  else if 0x240 ≤ u ∧ u < 0x250 then
    let x := moverOf s (u - 0x240)
    x.seg.isSome || (x.radio ++ x.reserved ++ x.spot).any fun d => d.started
  else if 0x260 ≤ u ∧ u < 0x268 then (redSlots s (u - 0x260)).any fun k => redBegun (redOf s (u - 0x260) k)
  else if u = Src.hostPipes then !s.hostReads.isEmpty
  else if u = Src.au then !s.au.queue.isEmpty || !(combDirty s none).isEmpty || s.au.comb.any fun e => !e.2.waiting.isEmpty
  else false

/-! ### The answers at the end of the drain (R429 step 3) -/

/-- A link TX pipe at T1: each context of its lane resumes at its high-water mark, on the spare when one is free (R425, R166). At
T2 and T3 the frame in transfer is void and the contexts fare as their lane does. -/
def landTx (t1 : Bool) (p : Nat) (s : State) : State :=
  match txLaneOfPipe s p with
  | none => s
  | some lane =>
    let s := voidOut lane s
    if !t1 then s
    else
      let g := groupOf lane
      let sp := s.ls.spares.get g
      let s := if p < 64 && sp.txLane.isNone && !sp.txBad && !isLanding s (Src.linkTx (sparePipe g)) then
          (s.updLs fun l => { l with spares := l.spares.mod g fun x => { x with txLane := some lane } }).lsEvent 3
        else s
      forAll ((txOnLane s lane).filter fun i => !(txOf s i).waiting && !(txOf s i).broken) resumeAtMark s

/-- What an RX context holds in a reset pipe is lost: RESET_ABORTED, and the context is TAINTED (R160). -/
def rxDiscard (i : Nat) (s : State) : List Ans × State :=
  let lost := (rxOf s i).held.filter inHold
  let seqs := (lost.filter fun h => h.type != tGap).map (·.seq)
  let s := updRx i (fun c => { c with held := c.held.filter fun h => !inHold h, rspParts := [] }) s
  if seqs.isEmpty then ([], s) else rxLoss i seqs.length seqs Status.resetAborted true s

def landRx (p : Nat) (s : State) : List Ans × State :=
  match rxLaneOfPipe s p with
  | none => ([], s)
  | some lane => eachAns (rxOnLane s lane) rxDiscard s

/-- A request in a line pipe ends; its frame is withdrawn, or its response will be stale when it comes (R430). -/
def lineAbort (u id : Nat) (s : State) : List Ans × State :=
  match lineReq s id with
  | none => ([], s)
  | some q =>
    let mine (k : Chunk) : Bool := k.owner == .line id
    let unsent := s.ls.tx.any fun e => e.2.chunks.any mine
    let s := s.updLs fun l => { l with tx := l.tx.map fun e => (e.1, { e.2 with chunks := e.2.chunks.filter (!mine ·) }) }
    let s := if unsent || q.phase == 3 then s else s.updLn fun l => { l with aborted := l.aborted ++ [(id, u)] }
    lineEnd q Status.resetAborted [] s

/-- Every queue that waits for an engine's acknowledgement has it: a T1 counts as one (R424). -/
def ackAll (engine : Nat) (s : State) : State :=
  forAll (s.fe.queues.filterMap fun e => if e.2.acks.contains engine then some e.1 else none) (fun q s => abortAck q engine s) s

/-- The frames of a mover that no context has sealed leave; an item of several frames is aborted (R251). -/
def moverWithdraw (m : Nat) (s : State) : State :=
  let l := s.ls.tx.filterMap fun e =>
    if e.2.live && (e.2.chunks.any (fun k => isMover m k.owner) || (e.2.openItem && isMover m e.2.openBy)) then some e.1 else none
  forAll l (fun i s =>
    updTx i (fun c => { c with chunks := c.chunks.filter fun k => !isMover m k.owner || (nonPosted k && k.item != 0) })
      (txWithdraw i (.mover m 0 true) none s)) s

/-- A mover: the descriptors that it has begun end with RESET_ABORTED. Those not begun go back with RETRY_LATER, to be offered
again (R385): they stay in its queues, but for one of the Keeper's, which has no one to offer it again. -/
def landMover (m : Nat) (s : State) : State :=
  let halt (d : MDesc) : MDesc :=
    if d.started && !mdDone d then
      { d with stopped := true, status := if d.status = Status.ok then Status.resetAborted else d.status } else d
  let keeps (d : MDesc) : Bool := d.started || d.work.isSome
  let s := moverWithdraw m s
  let x := moverOf s m
  let back := (x.radio ++ x.reserved ++ x.spot).any fun d => !keeps d
  let each (l : List MDesc) : List MDesc := (l.filter keeps).map halt
  let s := updMover m (fun x => { x with
    seg := none, radio := each x.radio, reserved := each x.reserved, spot := each x.spot, running := 0 }) s
  let s := if back then (s.updMv fun v => { v with result := Status.retryLater }).mvEvent 3 else s
  ackAll (engMover m) (applyTokens m (forAll (List.range 48) (fun _ s => descriptorComplete m s) s))

/-- A reduction unit: the slots that it has begun end with RESET_ABORTED; the others keep their place (R385). -/
def landRed (u : Nat) (s : State) : State :=
  let s := forAll (redSlots s u) (fun k s =>
    if !redBegun (redOf s u k) then s
    else redCompleteOp u k (updRed u k (fun x => { x with stores := 0, sends := 0 }) (redAbort u k Status.resetAborted s))) s
  ackAll (engRed u) s

/-- The host pipes: every outstanding read ends. The IDE keys stay (R428). -/
def landHost (s : State) : List Ans × State :=
  let l := (s.hostReads.map fun r => (List.range (cdiv r.len 64)).map fun k =>
    ({ owner := unitOwner r.owner k, unit := r.unit, status := Status.resetAborted, data := [] } : Ans)).flatten
  (l, s.setHostReads [])

/-- The atomic unit: requests that it has begun end with RESET_ABORTED, others with RETRY_LATER; dirty lines not written back are
discarded with ATOM_LOST (R429). -/
def landAu (s : State) : List Ans × State :=
  let s := forAll (s.au.queue.filter fun r => r.fixed.isNone) (fun r s =>
    let st := if r.started.isEmpty then Status.retryLater else Status.resetAborted
    forAll (List.range r.targets.length) (fun u s => homeUnitDone r.id u st [] s) s) s
  let s := forAll (s.au.comb.filter fun e => e.2.live && (e.2.dirty || e.2.writing))
    (fun e s => (raiseFault Src.au Kind.atomLost e.2.reqHall e.2.reqAddr e.2.reqCtx s).auEvent 2) s
  let s := forAll s.au.comb (fun e s => sigsDone (e.2.sigs ++ e.2.sigsNext) s) s
  let s := s.updAu fun a => { a with
    comb := [], lru := [], go := false, flushing := false, result := if a.flushing then Status.resetAborted else a.result }
  homeRetire s

/-- Step 3 for one unit. -/
def landAnswer (t1 : Bool) (u : Nat) (s : State) : List Ans × State :=
  if 0x100 ≤ u ∧ u < 0x180 then ([], landTx t1 (u - 0x100) s)
  else if 0x180 ≤ u ∧ u < 0x200 then landRx (u - 0x180) s
  else if 0x200 ≤ u ∧ u < 0x210 then eachAns (linesIn s u) (lineAbort u) s
  else if 0x240 ≤ u ∧ u < 0x250 then ([], landMover (u - 0x240) s)
  else if 0x260 ≤ u ∧ u < 0x268 then ([], landRed (u - 0x260) s)
  else if u = Src.hostPipes then landHost s
  else if u = Src.au then landAu s
  else ([], s)

/-! ### Reset and leaving (R429 steps 4 and 5) -/

/-- The watched objects of a unit. -/
def unitWatches (u : Nat) : List Nat :=
  if 0x260 ≤ u ∧ u < 0x268 then (List.range 4).map (watchSlot (u - 0x260)) else [watchUnit u]

/-- A unit is reset: its generation steps, its key registers are zeroed and their leases forfeited, its fault records are lost
(R425, R417). -/
def unitReset (u : Nat) (s : State) : State :=
  let s := forfeitLease (u + 0x1000) (forfeitLease u s)
  let s := s.updHr fun h => { h with
    gens := h.gens.mod u (· + 1), watch := forAll (unitWatches u) (fun k t => t.set k default) h.watch }
  s.updFcu fun c => { c with fifo := c.fifo.set u [], seqs := c.seqs.set u 0, expect := c.expect.set u 0 }

/-- A unit leaves Landing. -/
def landLeave (u : Nat) (s : State) : State :=
  rushesBlock u Ev.landingOut (ugen s u).toNat (s.updHr fun h => { h with landing := h.landing.filter (· != u) })

/-- The reads that the host pipes turned away or answered are made again for the queues that still wait for them (R385). -/
def fetchAgain (q : Nat) (s : State) : State :=
  let x := queueOf s q
  let sealed := isSealed (hallOf s x.hall)
  if x.fetched.isSome || s.hostReads.any (fun r => r.owner == .port 1 q) then s
  else match x.fetch, x.bufs with
    | .idle, _ => feKick q s
    | .ring, _ => fetchAsk q .ring (x.ringBase.toNat + 16 * (x.head.toNat % 2 ^ x.ringLog2)) 16 s
    | .header a n, _ => fetchAsk q (.header a n) a.toNat (64 + chunkBytes sealed 16) s
    | .chunk c, (b, _) :: _ => fetchAsk q (.chunk c) (chunkAt sealed b.addr.toNat c) (chunkBytes sealed (chunkUnits b.header c)) s
    | .chunk _, [] => s

/-- Every running queue fetches again. -/
def fetchAllAgain (s : State) : State :=
  forAll (s.fe.queues.filterMap fun e => if e.2.state == .running then some e.1 else none) fetchAgain s

/-- Steps 3 to 5 for a list of units; with `stays` they stay in reset. -/
def landUnits (t1 stays : Bool) (us : List Nat) (s : State) : List Ans × State :=
  match eachAns us (landAnswer t1) s with
  | (a, s) =>
    let s := forAll us unitReset s
    let s := if stays then s else forAll us landLeave s
    (a, if us.contains Src.hostPipes then fetchAllAgain s else s)

/-! ### Lanes of a slice in T2 (R426, R405, R168) -/

/-- The port enables as R39 has them: a group's is 0 while all of its slices are out. They rise again only while the block serves. -/
def linkEnables (s : State) : State :=
  let down := (List.range s.conf.groups).filter fun g => (groupSlices s.conf g).all (sliceOut s)
  let up := (List.range s.conf.groups).filter fun g => !down.contains g && s.pins.hpEn
  s.updPins fun p => { p with
    lpEn := (p.lpEn ||| BitVec.ofNat 4 (up.foldl (fun n g => n + 2 ^ g) 0)) &&& ~~~(BitVec.ofNat 4 (down.foldl (fun n g => n + 2 ^ g) 0)) }

/-- One TX context of a lane that serves no more: it moves to its alternate lane; without one it keeps what it has when `hold`
says that the slice will return with its port, and breaks otherwise. -/
def txSliceLost (hold : Bool) (voided : List (Nat × Chunk)) (i : Nat) (s : State) : List Ans × State :=
  let c := txOf s i
  let mine := (voided.filter fun v => v.1 == i).map (·.2)
  let moves := match c.alt with | some a => !c.onAlt && laneSends s a | none => false
  if moves then
    match txMove i mine s with
    | (a, s) => match moveResync i s with | (b, s) => (a ++ b, s)
  else if !hold then
    match txBreak i Status.resetAborted s with
    | (l, s) => (chunkEnds mine Status.resetAborted ++ l, s)
  else ([], forAll mine.reverse (fun k => offerAgain { (default : Presented) with ctx := i, chunk := k }) s)

/-- One RX context of such a lane. -/
def rxSliceLost (hold : Bool) (i : Nat) (s : State) : List Ans × State :=
  let c := rxOf s i
  if c.alt.isSome && !c.onAlt then ([], (updRx i (fun c => { c with onAlt := true }) s).lsEvent 5)
  else if hold then ([], s)
  else rxBreak i false s

/-- The contexts of a lane that are live and not BROKEN. -/
def txSound (s : State) (lane : Nat) : List Nat := (txOnLane s lane).filter fun i => !(txOf s i).broken
def rxSound (s : State) (lane : Nat) : List Nat := (rxOnLane s lane).filter fun i => !(rxOf s i).broken

/-- A lane serves no more: the frame in transfer is void. -/
def laneStops (hold : Bool) (lane : Nat) (s : State) : List Ans × State :=
  let voided := (laneOf s lane).out.map fun f => (f.ctx, f.chunk)
  let s := if voided.isEmpty || hold then s else (txCount (txPipe s lane) 3 1 s).emit (.voidFrame lane)
  let s := updLane lane (fun l => { l with out := [] }) s
  match eachAns (txSound s lane) (txSliceLost hold voided) s with
  | (a, s) => match eachAns (rxSound s lane) (rxSliceLost hold) s with | (b, s) => (a ++ b, s)

/-- One TX context of a lane that serves again: a GAP with LOSS = 1 at its high-water mark (R426, R181). -/
def txReturns (i : Nat) (s : State) : List Ans × State :=
  let c := txOf s i
  if c.waiting then ([], s)
  else
    let (aborted, kept) := moveItems [] c
    let s := updTx i (fun c => { c with
      chunks := kept, openItem := false, items := 0, nextSeq := max 1 c.mark, mark := c.mark + 64, cached := false }) s
    match moveResync i (gapFirst i 0 0 true s) with
    | (a, s) => (chunkEnds aborted Status.resetAborted ++ a, s)

/-- A lane serves again. -/
def laneReturns (lane : Nat) (s : State) : List Ans × State := eachAns (txSound s lane) txReturns s

/-- The lines of pipes of a slice out of service go to other pipes (R406). -/
def redirectLines (s : State) : State :=
  s.updLn fun l => { l with inflight := l.inflight.map fun q =>
    if q.phase = 0 ∧ sliceOut s (q.pipe / s.conf.linePerPart) then { q with pipe := linePipe s q.acc.region (tagGroup q.line) } else q }

end Sys2Proof.Machine
end

