-- ==== Sys2Proof/Machine/Reset.lean ====
section
/-! DEFINITION. The reset staircase: T0 of queues, T1 of engines, T2 of slices, T3 of the block, the requests for T4, missed windows,
and the commands of the reset sequencer (16_hang_reset.md R423-R439; 15_faults.md R405). -/

namespace Sys2Proof.Machine

-- One declaration at a time, so that the elaborator holds few threads (each takes stack of its own).
set_option Elab.async false

/-! ### Treads in progress -/

/-- Who waits for a tread: the Keeper's HR_CMD, or mailboxes. -/
structure Waiter where
  keeper : Bool
  boxes : List (Nat × Nat)
deriving DecidableEq, Repr, Inhabited

def noWaiter : Waiter := { keeper := false, boxes := [] }

/-- HR_CMD ends. -/
def hrFinish (st : Status) (s : State) : State := s.updHr fun h => { h with go := false, result := st }

/-- A waiter hears that its tread has completed. -/
def waiterDone (w : Waiter) (s : State) : State :=
  answerAll w.boxes Status.ok [] (if w.keeper then hrFinish Status.ok s else s)

/-- The record of a tread. -/
def treadOf (s : State) (t target : Nat) : Option Tread := s.hr.treads.find? fun x => x.tread == t && x.target == target

/-- A tread begins, or one that runs already gets another waiter. -/
def treadAdd (t target : Nat) (missed : Bool) (w : Waiter) (s : State) : State :=
  let x : Tread := { tread := t, target := target, missed := missed, late := false, byKeeper := w.keeper, answer := w.boxes }
  s.updHr fun h => { h with treads := h.treads ++ [x] }
def treadJoin (t target : Nat) (w : Waiter) (s : State) : State :=
  s.updHr fun h => { h with treads := h.treads.map fun x =>
    if x.tread = t ∧ x.target = target then { x with byKeeper := x.byKeeper || w.keeper, answer := x.answer ++ w.boxes } else x }

/-- A tread has completed. -/
def treadOver (t target : Nat) (s : State) : State :=
  match treadOf s t target with
  | none => s
  | some x =>
    waiterDone { keeper := x.byKeeper, boxes := x.answer }
      (s.updHr fun h => { h with treads := h.treads.filter fun y => !(y.tread == t && y.target == target) })

/-- A fault of the reset sequencer; an injected miss marks its message. -/
def stairFault (kind detail : Nat) (inj : Bool) (s : State) : State := sendFault Src.hr (mkFault kind noHall 0 detail inj) s

/-- Does HR_TARGET, read as HR_CMD.TREAD gives, name this unit, this slice (R438)? -/
def targetsUnit (s : State) (u : Nat) : Bool := s.hr.tread == 2#3 && bits s.hr.target.toNat 0 12 == u
def targetsSlice (s : State) (k : Nat) : Bool := s.hr.tread == 3#3 && bits s.hr.target.toNat 0 2 == k

/-- Is the window of a tread that is now ordered to count as missed by an injection? -/
def stairInjected (s : State) (t target : Nat) : Bool :=
  let block := injected Src.hr Kind.stairBlock s
  if t = 1 then (block || injected Src.hr Kind.stairPart s) && targetsUnit s target
  else if t = 2 then block && targetsSlice s target
  else false

/-! ### Queues (R424) -/

/-- Steps 1 and 2 of a T0 of one queue. A DYING queue goes on to its end, into which the T0 merges (R439). -/
def t0Start (q : Nat) (cause : Status) (s : State) : State :=
  let x := queueOf s q
  if x.state = .free ∨ x.state = .dying ∨ x.t0 then s
  else
    let s := if x.state = .parked then endWait q Status.resetAborted s else s
    let s := updQueue q (fun x => { x with
      t0 := true, cause := cause, qseq := x.qseq + (x.tail - x.head).setWidth 64, head := x.tail, done := x.tail
      fetch := .idle, fetched := none, park := .none, rangAt := none, heldSince := none, held := 0, atomicAt := none }) (queueLeaves q s)
    sendTokens q s

/-- Is a queue still in its T0, or in the destroy that it merged with? -/
def t0Busy (s : State) (q : Nat) : Bool := (queueOf s q).t0 || (queueOf s q).state == .dying

/-- The queues of a T0 record. -/
def t0Queues (s : State) (target : Nat) : List Nat :=
  if target < 0x10000 then [target]
  else s.fe.queues.filterMap fun e => if e.2.state != .free && e.2.context == target - 0x10000 then some e.1 else none

/-- The T0s whose queues are all done have completed. -/
def t0Sweep (s : State) : State :=
  let finished := s.hr.treads.filter fun t => t.tread == 0 && !(t0Queues s t.target).any (t0Busy s)
  forAll finished (fun t s => treadOver 0 t.target s) s

/-- T0 of a queue or of a context. The queue named guilty ends its items with QUEUE_GUILTY, every other with RESET_ABORTED. -/
def t0Order (target : Nat) (guilty : Option Nat) (w : Waiter) (s : State) : State :=
  if (treadOf s 0 target).isSome then treadJoin 0 target w s
  else
    let s := treadAdd 0 target false w (s.hrCount 3)
    t0Sweep (forAll (t0Queues s target)
      (fun q s => t0Start q (if guilty = some q then Status.queueGuilty else Status.resetAborted) s) s)

/-- Step 4: after the last acknowledgement the fences that the queue owes are faulted, and it is IDLE with its registers, scene and
shot kept. -/
def t0FinishOp (q : Nat) (s : State) : State :=
  let x := queueOf s q
  if !x.t0 ∨ !x.acks.isEmpty ∨ !(workOf s q).isEmpty then s
  else
    let s := forAll (owed s q) (fun f s => faultFence f Status.resetAborted s) s
    t0Sweep (updQueue q (fun x => { x with
      t0 := false, cause := Status.ok, state := .idle, stop := Status.ok, kept := Status.ok
      bufs := [], loops := [], signals := [], decoded := 0, retryHeld := false }) s)

def execQueueT0Finish (q : Nat) (s : State) : Answer := goOn (settled ([], t0FinishOp q s))

/-- QUEUE_DESTROY_FINISH (R307), which a T0 of the queue may wait for. -/
def execQueueDestroyFinish (q : Nat) (s : State) : Answer := goOn (settled ([], t0Sweep (destroyFinishOp q s)))

/-! ### The block (R427, R428) -/

/-- The cp_req and port requests that have no answer yet. -/
def outsideOwners (s : State) : List Owner :=
  let l := s.mp.map (·.owner) ++ (s.ln.inflight ++ s.ln.stalled).map (·.owner) ++ s.au.queue.map (·.owner)
    ++ (s.ls.tx.map fun e => e.2.unanswered.map (·.owner) ++ (e.2.chunks.filter nonPosted).map (·.owner)).flatten
  (l.filter fun o => match o with | .cp _ => true | .port p _ => decide (16 ≤ p) | _ => false).eraseDups

/-- Their answer at the end of a block-wide Landing. -/
def outsideAborted (s : State) : State :=
  forAll (outsideOwners s) (fun o s => match o with
    | .cp tag => cpAnswer tag Status.resetAborted [] s
    | o => s.emit (.status o Status.resetAborted [])) s

/-- A queue as T3 leaves it: reset as at T0, a destroy that ran at its end. -/
def queueAfterT3 (x : Queue) : Queue :=
  if x.state = .free ∨ x.state = .dying then
    { (default : Queue) with qgen := if x.state = .dying then x.qgen + 1 else x.qgen }
  else { (default : Queue) with
    state := .idle, qgen := x.qgen, hall := x.hall, slot := x.slot, context := x.context, ringBase := x.ringBase, ringLog2 := x.ringLog2
    ckey := x.ckey, serial := x.serial, slots := x.slots, head := x.tail, tail := x.tail, done := x.tail
    qseq := x.qseq + (x.tail - x.head).setWidth 64, regs := x.regs, scene := x.scene, shot := x.shot }

/-- A hall's record after T3: what was in progress in it is gone; its TDI is unlocked, for the host's sessions are closed. -/
def hallAfterT3 (h : Hall) : Hall :=
  { h with workUsed := 0, freezing := false, answer := [], ready := [], stopPending := false, lockBusy := false
           tdi := .unlocked, lockNonce := 0#256, stream := none }

/-- A tree after T3 (R225): a write-back that was in flight is to be made again; saves are given up. -/
def treeAfterT3 (t : Tree) : Tree :=
  { t with
    busy := false, level := none, failed := false, keep := false, flush := false
    state := if t.state = .saving then .active else t.state
    nodes := t.nodes.map fun e => (e.1, { e.2 with dirty := e.2.dirty || e.2.inFlight, inFlight := false, changed := false }) }

/-- The mp requests whose answers are still to come; every unit that could take one has a new generation (R430).
Their tags stay taken until then: DESIGN CHOICE, assumption 162. -/
def mpAfterT3 (l : List MpReq) : List MpReq := l.filter (·.sent)

/-- The state after the reset of T3: the table of R428. -/
def t3State (s : State) : State :=
  let z := State.reset
  let queues : Tab Queue := forAll s.fe.queues (fun e t => t.set e.1 (queueAfterT3 e.2)) []
  { s with
    pins := { s.pins with
      hpEn := false, cpEn := false, miiEn := false, lpEn := 0, mpEn := 0, preempt := 0, safe := false, scanOn := false
      hpErrors := 0, safeDrops := 0, framing := [], mpCorrected := 0, shadowsKeeper := default, shadowsPage := [], flr := [] }
    mp := mpAfterT3 s.mp
    hostReads := []
    kv := { z.kv with slots := s.kv.slots.filter (fun e => !e.2.expire), lru := s.kv.lru.filter fun i => !(s.kv.slots.get i).expire }
    lc := { z.lc with
      otp := s.lc.otp, otpQueue := s.lc.otpQueue, otpThen := s.lc.otpThen, otpBusy := s.lc.otpBusy, vppReq := s.lc.vppReq
      vppOk := s.lc.vppOk, pgm := s.lc.pgm, rights := if s.lcState = testOpen then z.lc.rights else 0 }
    att := spdmAfterT3 s.att
    dom := z.dom
    ls := z.ls
    ln := { z.ln with
      regions := s.ln.regions.map (fun e => (e.1, { e.2 with freeing := false, sealing := false })), nextReq := s.ln.nextReq }
    tr := { z.tr with trees := s.tr.trees.map (fun e => (e.1, treeAfterT3 e.2)), lru := s.tr.lru, nextReq := s.tr.nextReq }
    mv := z.mv
    rd := z.rd
    au := { z.au with nextReq := s.au.nextReq }
    fe := { z.fe with
      saveBase := s.fe.saveBase, nextWork := s.fe.nextWork, queues := queues
      contexts := s.fe.contexts.filter fun c => queues.any fun e => e.2.state != .free && e.2.context == c.1 }
    adm := z.adm
    fs := { z.fs with fences := s.fs.fences, locals := s.fs.locals, broadcasts := s.fs.broadcasts }
    itu := { z.itu with
      arena := s.itu.arena, arenaSize := s.itu.arenaSize, halls := s.itu.halls.map (fun e => (e.1, hallAfterT3 e.2))
      granules := s.itu.granules, nextWalk := s.itu.nextWalk, nextUnmap := s.itu.nextUnmap }
    fcu := { z.fcu with
      logHead := s.fcu.logHead, logTail := s.fcu.logTail, first := s.fcu.first, counters := s.fcu.counters, log := s.fcu.log }
    hr := { z.hr with
      counters := s.hr.counters, stale := s.hr.stale, guilty := s.hr.guilty, slotsOut := s.hr.slotsOut
      gens := forAll (allUnits s.conf) (fun u t => t.mod u (· + 1)) s.hr.gens }
    dbg := z.dbg
    pwr := { z.pwr with
      flash := s.pwr.flash, master := s.pwr.master, masterFrac := s.pwr.masterFrac, copies := s.pwr.copies
      phase := .rom, afterT3 := true, bootImage := s.pwr.bootImage, rate := s.pwr.rate }
    mgt := { z.mgt with anchor := s.mgt.anchor, nextSession := s.mgt.nextSession } }

/-- The end of T3's Landing: what is outstanding is answered, LIVE fences are faulted (R336), the block is reset and the Keeper
released into the mask ROM. -/
def t3End (s : State) : State :=
  let s := outsideAborted s
  let live := s.fs.fences.filterMap fun e => if e.2.state = 1#2 then some e.1 else none
  let s := forAll live (fun f s => faultFence f Status.resetAborted s) s
  t3State s

/-- The units of the block that have something to drain. -/
def anyBusy (s : State) : Bool := (allUnits s.conf).any (unitBusy s)

/-- A T3 that is ordered disarms an armed cut (R461). -/
def cutDisarmed (s : State) : State := s.updDbg fun d => if d.cutState = 1#2 then { d with cutState := 0#2, halted := [] } else d

/-- T3: one Landing for the block, which absorbs the lower treads. -/
def t3Order (w : Waiter) (s : State) : List Ans × State :=
  if (treadOf s 3 0).isSome then ([], treadJoin 3 0 w s)
  else
    let old := s.hr.treads
    let s := cutDisarmed ((s.hrCount 6).updHr fun h => { h with treads := [] })
    let w : Waiter := { keeper := w.keeper || old.any (·.byKeeper), boxes := w.boxes ++ (old.map (·.answer)).flatten }
    match eachAns (allUnits s.conf) (landEnter 3) (treadAdd 3 0 false w s) with
    | (a, s) => if anyBusy s then (a, s) else ([], t3End s)

/-! ### Slices (R426, R405) -/

/-- A T2 that missed its window: to T3 with STAIR_BLOCK, or recorded alone (R423). -/
def t2Missed (k : Nat) (inj : Bool) (s : State) : List Ans × State :=
  let s := s.hrEvent 5
  if !s.hr.autoEsc then ([], s)
  else t3Order noWaiter (stairFault Kind.stairBlock (put 4 k + 2) inj (s.hrCount 7))

/-- What the movers and reduction units of a retired slice had not begun ends with PERMISSION (R13, R405). -/
def retireWork (k : Nat) (s : State) : State :=
  let gone (w : Option Nat) (s : State) : State :=
    match w with
    | some i => workEnd i Status.permission (hallCount (s.fe.works.get i).hall 11 1 s)
    | none => s
  let s := forAll (ofSlice k s.conf.moversPerPart s.conf.movers) (fun m s =>
    let x := moverOf s m
    updMover m (fun _ => default) (forAll (x.radio ++ x.reserved ++ x.spot) (fun d s => gone d.work s) s)) s
  forAll (ofSlice k s.conf.redPerPart s.conf.redUnits) (fun u s =>
    forAll (redSlots s u) (fun j s => updRed u j (fun _ => default) (gone (redOf s u j).work s)) s) s

/-- The end of a T2: its units are reset; with its C3 limit reached the slice is retired and stays in reset, else it returns and
its lanes serve again. -/
def t2End (k : Nat) (s : State) : List Ans × State :=
  match treadOf s 2 k with
  | none => ([], s)
  | some x =>
    let us := sliceUnits s.conf k ++ spareUnits s k
    let retire := decide (s.fcu.c3Limit.toNat ≤ s.fcu.c3Count.get k)
    match landUnits false retire us s with
    | (a, s) =>
      let m := BitVec.ofNat 4 (2 ^ k)
      let s := s.updFcu fun c => { c with inT2 := c.inT2 &&& ~~~m, retired := if retire then c.retired ||| m else c.retired }
      let s := linkEnables s
      let r : List Ans × State :=
        if retire then
          let s := retireWork k (s.fcuEvent 8)
          eachAns (sliceLanes s.conf k) (laneStops false) s
        else eachAns (sliceLanes s.conf k) laneReturns s
      match r with
      | (b, s) =>
        let s := treadOver 2 k s
        if x.missed && !x.late then
          match t2Missed k true s with | (c, s) => (a ++ b ++ c, s)
        else (a ++ b, s)

/-- Is the timebase parent's stream on a lane of a slice (R466)? -/
def parentInSlice (s : State) (k : Nat) : Bool :=
  match serviceTo s (parentMember s) (parentStream s) with
  | some i => (sliceLanes s.conf k).contains (txLane (txOf s i))
  | none => false

/-- T2 of a slice that serves: every T1 of its units merges into it. -/
def t2Order (k : Nat) (w : Waiter) (s : State) : List Ans × State :=
  if (treadOf s 2 k).isSome then ([], treadJoin 2 k w s)
  else if (treadOf s 3 0).isSome then ([], treadJoin 3 0 w s)
  else
    let inj := stairInjected s 2 k
    let s := (if inj then injFired s else s).hrCount 5
    let s := s.updFcu fun c => { c with inT2 := c.inT2 ||| BitVec.ofNat 4 (2 ^ k) }
    let mine (t : Tread) : Bool := t.tread == 1 && (sliceUnits s.conf k ++ spareUnits s k).contains t.target
    let old := s.hr.treads.filter mine
    let w : Waiter := { keeper := w.keeper || old.any (·.byKeeper), boxes := w.boxes ++ (old.map (·.answer)).flatten }
    let s := treadAdd 2 k inj w (s.updHr fun h => { h with treads := h.treads.filter (!mine ·) })
    let s := if parentInSlice s k then timeDiscard s else s
    match eachAns (sliceUnits s.conf k ++ spareUnits s k) (landEnter 2) s with
    | (a, s) =>
      let s := redirectLines (linkEnables s)
      let hold (lane : Nat) : Bool := !s.pins.lpEn.toNat.testBit (groupOf lane)
      match eachAns (sliceLanes s.conf k) (fun lane => laneStops (hold lane) lane) s with
      | (b, s) =>
        if (sliceUnits s.conf k ++ spareUnits s k).any (unitBusy s) then (a ++ b, s)
        else match t2End k s with | (c, s) => (a ++ b ++ c, s)

/-! ### Engines (R425) -/

/-- T1 of a compute slot: it is marked out of service at once, its launches end, and the mark is its acknowledgement. -/
def slotOut (e : Nat) (s : State) : State :=
  let l := (slotOfEng s e).launches
  let s := s.updHr fun h => { h with slotsOut := h.slotsOut ||| BitVec.ofNat 16 (2 ^ e), watch := h.watch.set (watchUnit (Src.engine e)) default }
  let s := forAll l (fun i s => workEnd i (abortStatus (queueOf s (s.fe.works.get i).q)) s) (s.hrEvent 7)
  ackAll e (updSlot e (fun x => { x with launches := [], tokens := [] }) s)

/-- A T1 that missed its window: T2 of the engine's slice with STAIR_PART, or T3 with STAIR_BLOCK for the host pipes, the atomic
unit and a spare that belongs to no slice; for a compute slot nothing (R423). -/
def t1Missed (u : Nat) (inj : Bool) (s : State) : List Ans × State :=
  let s := s.hrEvent 4
  if !s.hr.autoEsc || within u 0x2E0 16 then ([], s)
  else match sliceOf s u with
    | some k => t2Order k noWaiter (stairFault Kind.stairPart (put 4 u + 1) inj (s.hrCount 7))
    | none => t3Order noWaiter (stairFault Kind.stairBlock (put 4 u + 1) inj (s.hrCount 7))

/-- The end of a T1's Landing. -/
def t1End (u : Nat) (s : State) : List Ans × State :=
  match treadOf s 1 u with
  | none => ([], s)
  | some x =>
    match landUnits true false [u] s with
    | (a, s) =>
      let s := treadOver 1 u s
      if x.missed && !x.late then match t1Missed u true s with | (b, s) => (a ++ b, s) else (a, s)

/-- T1 of an engine. With its slice in T2, or the block in T3, it merges into that. -/
def t1Order (u : Nat) (w : Waiter) (s : State) : List Ans × State :=
  let upper := match sliceOf s u with | some k => (treadOf s 2 k).isSome | none => false
  if within u 0x2E0 16 then ([], waiterDone w (slotOut (u - 0x2E0) (s.hrCount 4)))
  else if (treadOf s 3 0).isSome then ([], treadJoin 3 0 w s)
  else if (treadOf s 1 u).isSome then ([], treadJoin 1 u w s)
  else if upper then ([], treadJoin 2 ((sliceOf s u).getD 0) w s)
  else
    let inj := stairInjected s 1 u
    let s := (if inj then injFired s else s).hrCount 4
    match landEnter 1 u (treadAdd 1 u inj w s) with
    | (a, s) => if unitBusy s u then (a, s) else match t1End u s with | (b, s) => (a ++ b, s)

/-! ### Missed windows (TREAD_WINDOW_MISS) -/

/-- The unit ID of an engine's acknowledgement. -/
def ackUnit (e : Nat) : Nat :=
  if e < 16 then Src.engine e else if e < 32 then Src.mover (e - 16) else Src.red (e - 32)

/-- A T0 that missed its window: T1 of each engine that has not acknowledged. -/
def t0Missed (target : Nat) (s : State) : List Ans × State :=
  let s := s.hrEvent 3
  if !s.hr.autoEsc then ([], s)
  else
    let es := ((t0Queues s target).map fun q => (queueOf s q).acks).flatten.eraseDups.filter (· < 40)
    eachAns es (fun e s => t1Order (ackUnit e) noWaiter (s.hrCount 7)) s

/-- The window of a tread has passed without its completion. A missed T3 raises fp_t4_req_o (R427, R57). -/
def windowMiss (t target : Nat) (s : State) : List Ans × State :=
  if t = 3 then
    if (treadOf s 3 0).isSome || s.pwr.phase == .rom && s.pwr.afterT3 then ([], s.updPins fun p => { p with t4req := true }) else ([], s)
  else match treadOf s t target with
    | none => ([], s)
    | some x =>
      if x.late then ([], s)
      else
        let s := s.updHr fun h => { h with treads := h.treads.map fun y =>
          if y.tread = t ∧ y.target = target then { y with late := true } else y }
        match t with
        | 0 => t0Missed target s
        | 1 => t1Missed target x.missed s
        | _ => t2Missed target x.missed s

def execTreadWindowMiss (tread target : Nat) (s : State) : Answer := goOn (settled (windowMiss tread target s))

/-- LANDING_DRAIN_END: the drain window of a tread is over. It does not advance during a CUT stop (R439). -/
def drainEnd (t target : Nat) (s : State) : List Ans × State :=
  if s.stopped then ([], s)
  else match t with
    | 1 => t1End target s
    | 2 => t2End target s
    | 3 => if (treadOf s 3 0).isSome then ([], t3End s) else ([], s)
    | _ => ([], s)

def execLandingDrainEnd (tread target : Nat) (s : State) : Answer := goOn (settled (drainEnd tread target s))

/-! ### Orders (R423, R434) -/

/-- Is there such a unit in the block (R395)? -/
def unitThere (c : Conf) (u : Nat) : Bool := decide (u < 15) || resetUnit c u || within u 0x2C0 c.parts

/-- Is a unit kept in reset because its slice is retired? -/
def unitRetired (s : State) (u : Nat) : Bool := match sliceOf s u with | some k => s.fcu.retired.toNat.testBit k | none => false

/-- Does a target name what its tread resets? A retired slice and its units are absent (R405). -/
def targetOk (s : State) (tread target : Nat) : Bool :=
  match tread with
  | 0 => decide (target < 16384) && (queueOf s target).state != .free
  | 1 => decide (target < 65536) && (s.fe.contexts.get target).isSome
  | 2 => decide (target < 4096) && resetUnit s.conf target && !unitRetired s target
  | 3 => decide (target < s.conf.parts) && !s.fcu.retired.toNat.testBit target
  | 4 | 5 => target == 0
  | _ => false

/-- An order by HR_CMD or RESET_ORDER: it waits for the tread, but a T4 request is made at once. -/
def orderTread (tread target : Nat) (w : Waiter) (s : State) : List Ans × State :=
  match tread with
  | 0 => ([], t0Order target none w s)
  | 1 => ([], t0Order (0x10000 + target) none w s)
  | 2 => t1Order target w s
  | 3 => t2Order target w s
  | 4 => t3Order w s
  | _ => ([], waiterDone w (s.updPins fun p => { p with t4req := true }))

/-- The rows of the treads themselves: an order that nobody waits for. -/
def treadRow (tread target : Nat) (s : State) : Answer :=
  goOn (settled (if targetOk s tread target then orderTread tread target noWaiter s else ([], s)))

def execQueueT0Reset (q : Nat) (s : State) : Answer := treadRow 0 q s
def execEngineT1Reset (unit : Nat) (s : State) : Answer := treadRow 2 unit s
def execSliceT2Reset (slice : Nat) (s : State) : Answer := treadRow 3 slice s
def execBlockT3Reset (s : State) : Answer := treadRow 4 0 s

/-! ### The watched objects (R418) -/

/-- Is an item the work of another queue than `q`, or the Keeper's? -/
def othersWork (s : State) (q : Nat) (w : Option Nat) : Bool :=
  match w with
  | some i => (s.fe.works.get i).q != q
  | none => true

/-- Is a mover's class queue full with work of another queue in it? A unit without a free slot, one of them another queue's? -/
def moverTaken (s : State) (q m cls : Nat) : Bool :=
  !moverRoom s m cls && (classQueue (moverOf s m) cls).any fun d => othersWork s q d.work
def redTaken (s : State) (q u cls : Nat) : Bool :=
  (redSlotFree s u cls).isNone && (redSlots s u).any fun k => othersWork s q (redOf s u k).work

/-- Is a queue blocked: its next packet waits for something that another queue's work holds? -/
def queueBlocked (s : State) (q : Nat) : Bool :=
  let x := queueOf s q
  let hall := hallOf s x.hall
  match x.bufs with
  | [] => false
  | (b, pos) :: _ =>
    let u := b.units.get pos
    if u.isEmpty || x.fetch != .idle then false
    else
      let cls := queueClass s q
      let work := cls == 0 && decide (qWork hall ≤ hall.workUsed)
        && s.fe.works.any fun e => e.2.live && e.2.hall == x.hall && e.2.q != q
      match num u 0 1 with
      | 1 =>
        let e := num u 2 1
        let o := (slotOfEng s e).owner
        work || (e < 16 && (match o with | some o => o != q | none => false))
      | 2 =>
        let m := num u 2 1
        work || (if m = 255 then (List.range s.conf.movers).all (fun k => moverTaken s q k cls) else moverTaken s q m cls)
      | 3 => work || redTaken s q (num u 2 1) cls
      | 6 => work
      | _ => false

/-- Is an object in its "watched while" condition? -/
def watched (s : State) (key : Nat) : Bool :=
  if key < 0x10000 then
    let x := queueOf s key
    x.state == .running && x.active && !x.t0 && !queueBlocked s key
  else if 0x20000 ≤ key then (s.rd.slots.get (key - 0x20000)).state != 0
  else
    let u := key - 0x10000
    if 0x240 ≤ u ∧ u < 0x250 then
      let m := moverOf s (u - 0x240)
      m.seg.isSome || (m.radio ++ m.reserved ++ m.spot).any fun d => !mdDone d
    else if 0x2E0 ≤ u ∧ u < 0x2F0 then (slotOfEng s (u - 0x2E0)).owner.isSome && !s.hr.slotsOut.toNat.testBit (u - 0x2E0)
    else if u = Src.au then !s.au.queue.isEmpty
    else false

/-- The watched objects that a unit ID stands for. -/
def keysOf (u : Nat) : List Nat := unitWatches u

/-- HR_QINFO of a queue, of a unit (R436). -/
def hrQueueInfo (s : State) (q : Nat) : Nat :=
  let w := s.hr.watch.get q
  put 22 (if w.suspect || w.retake then 2 else if watched s q then 1 else 0) + put 20 (min 2 w.misses)
def hrUnitInfo (s : State) (u : Nat) : Nat :=
  let ws := (keysOf u).map fun k => s.hr.watch.get k
  put 24 (if within u 0x2E0 16 then 0 else (ugen s u).toNat)
    + put 22 (if isLanding s u then 3 else if ws.any (fun w => w.suspect || w.retake) then 2
        else if (keysOf u).any (watched s) then 1 else 0)
    + put 20 (ws.foldl (fun n w => max n (min 2 w.misses)) 0)

/-! ### HR_CMD and RESET_ORDER (R434, R423) -/

/-- One HR_CMD on HR_TARGET. -/
def hrCommand (op tread : Nat) (s : State) : List Ans × State :=
  if s.hr.go then ([], s)
  else
    let s := s.updHr fun h => { h with tread := BitVec.ofNat 3 tread }
    let target := s.hr.target.toNat
    let s := if op = 1 ∨ op = 2 then s.updHr fun h => { h with op := BitVec.ofNat 4 op } else s
    match op with
    | 1 =>
      if !targetOk s tread target then ([], hrFinish Status.permission s)
      else orderTread tread target { keeper := true, boxes := [] } (s.updHr fun h => { h with go := true })
    | 2 =>
      let ok := match tread with
        | 2 => decide (target < 4096) && unitThere s.conf target
        | 3 => decide (target < s.conf.parts)
        | _ => targetOk s tread target
      if !ok then ([], hrFinish Status.permission s)
      else
        let v := match tread with | 0 => hrQueueInfo s target | 2 => hrUnitInfo s target | _ => 0
        ([], hrFinish Status.ok (s.updHr fun h => { h with qinfo := BitVec.ofNat 32 v }))
    | _ => ([], hrFinish Status.permission s)

def execHrReset (tread : BitVec 3) (s : State) : Answer := goOn (settled (hrCommand 1 tread.toNat s))
def execHrQuery (tread : BitVec 3) (s : State) : Answer := goOn (settled (hrCommand 2 tread.toNat s))

/-- RESET_ORDER: a tread byte, and a target in bytes 4 to 7. -/
def resetOrderAct (a : Act) (arg : Bytes) (s : State) : List Ans × State :=
  let tread := num arg 0 1
  let target := num arg 4 4
  if !mayAct s [.operator] a || arg.length != 8 || !allZero (sub arg 1 3) || !targetOk s tread target then
    ([], actDone a.sess 0x701001 Status.permission [] false s)
  else orderTread tread target { keeper := false, boxes := [(a.sess, 0x701001)] } (actWaits a.sess 0x701001 s)

def execResetOrder (a : Act) (arg : Bytes) (s : State) : Answer := goOn (settled (resetOrderAct a arg s))

end Sys2Proof.Machine
end

