-- ==== Sys2Proof/Machine/Hang.lean ====
section
/-! DEFINITION. The hang watch: window boundaries, miss counts, suspects, retakes and their verdicts (16_hang_reset.md R418-R422,
R438). -/

namespace Sys2Proof.Machine

-- One declaration at a time, so that the elaborator holds few threads (each takes stack of its own).
set_option Elab.async false

/-! ### Objects -/

/-- Every object that the hang watch can watch, queues first. -/
def watchKeys (s : State) : List Nat :=
  (s.fe.queues.filterMap fun e => if e.2.state != .free then some e.1 else none)
    ++ (if s.conf.atomic then [watchUnit Src.au] else [])
    ++ (List.range s.conf.movers).map (fun m => watchUnit (Src.mover m))
    ++ (List.range 16).map (fun e => watchUnit (Src.engine e))
    ++ List.map (· + 0x20000) (List.range (4 * s.conf.redUnits))

def isQueueKey (key : Nat) : Bool := decide (key < 0x10000)

/-- The unit ID of an engine's key. -/
def keyUnit (key : Nat) : Nat := if 0x20000 ≤ key then Src.red ((key - 0x20000) / 4) else key - 0x10000

/-- Hall field and detail word of an object's faults (R438). -/
def objHall (s : State) (key : Nat) : Nat := if isQueueKey key then (queueOf s key).hall else noHall
def objDetail (key : Nat) : Nat := if isQueueKey key then key else put 31 1 + keyUnit key

def watchOf (s : State) (key : Nat) : Watch := s.hr.watch.get key
def updWatch (key : Nat) (f : Watch → Watch) (s : State) : State := s.updHr fun h => { h with watch := h.watch.mod key f }

/-- The engine numbers that an object occupies: a queue those that hold its work, an engine itself. -/
def objEngines (s : State) (key : Nat) : List Nat := if isQueueKey key then enginesOf s key else [watchEngine key]

/-- The queues whose work an engine holds. -/
def heldQueues (s : State) (engine : Nat) : List Nat :=
  (s.fe.works.filterMap fun e => if e.2.live && e.2.engine == engine then some e.2.q else none).eraseDups

/-- The queues of the items that an engine runs: none stands for the Keeper's work and for requests from other members. -/
def runningQueues (s : State) (key : Nat) : List (Option Nat) :=
  let ofDesc (d : Bytes) (w : Option Nat) : Option Nat := w.map fun _ => mdQueue d
  if 0x20000 ≤ key then
    let u := (key - 0x20000) / 4
    (redSlots s u).map fun k => ofDesc (redOf s u k).desc (redOf s u k).work
  else
    let u := key - 0x10000
    if 0x240 ≤ u ∧ u < 0x250 then
      let x := moverOf s (u - 0x240)
      match runningDesc x with
      | some d => [ofDesc d.desc d.work]
      | none => ((x.radio ++ x.reserved ++ x.spot).find? fun d => !mdDone d).toList.map fun d => ofDesc d.desc d.work
    else if 0x2E0 ≤ u then [(slotOfEng s (u - 0x2E0)).owner]
    else s.au.queue.map fun r => match r.owner with | .work id => some (s.fe.works.get id).q | _ => none

/-- The queue of an engine's stalled item: none when the items are the Keeper's, or of several queues at once. -/
def stalledQueue (s : State) (key : Nat) : Option Nat :=
  match (runningQueues s key).eraseDups with
  | [some q] => some q
  | _ => none

/-! ### Injection (R438) -/

/-- Does HR_TARGET, read as HR_CMD.TREAD gives, name an object? -/
def targetsKey (s : State) (key : Nat) : Bool :=
  if isQueueKey key then s.hr.tread == 0#3 && bits s.hr.target.toNat 0 14 == key else targetsUnit s (keyUnit key)

/-! ### Verdicts (R421, R422) -/

/-- An object is no suspect any more. -/
def watchClear (key : Nat) (s : State) : State :=
  updWatch key (fun w => { (default : Watch) with moved := w.moved, lastAt := w.lastAt }) s

/-- A retake clears a suspect. -/
def retakeCleared (key : Nat) (s : State) : State := (watchClear key s).hrCount 1 |>.hrEvent 2

/-- HR_GUILTY (R436). -/
def guiltyWord (s : State) (key : Nat) : Nat :=
  put 30 (if isQueueKey key then 1 else 2) + put 16 (if isQueueKey key then key else keyUnit key) + objHall s key

/-- An object is found guilty and its reset ordered, if the hang watch may. -/
def objGuilty (key : Nat) (inj : Bool) (s : State) : List Ans × State :=
  let id := if isQueueKey key then key else keyUnit key
  let s := (watchClear key s).updHr fun h => { h with guilty := BitVec.ofNat 32 (guiltyWord s key) }
  let s := rushesBlock Src.hr Ev.guilty id ((s.hrCount 2).hrEvent 1)
  let s := sendFault Src.hr (mkFault Kind.hangGuilty (objHall s key) 0 (objDetail key) inj) s
  if !s.hr.autoT0 then ([], s)
  else if isQueueKey key then
    ([], t0Order (if s.hr.t0Context then 0x10000 + (queueOf s key).context else key) (some key) noWaiter s)
  else t1Order (keyUnit key) noWaiter s

/-- The end of one retake. An engine's stalled item of one queue names that queue guilty, whose own retake, if it ran with the
engine's, has then its verdict. -/
def retakeVerdict (key : Nat) (s : State) : List Ans × State :=
  let w := watchOf s key
  if !w.retake then ([], s)
  else
    let natural := watched s key && !w.moved
    let inj := !natural && injected Src.hr Kind.hangGuilty s && targetsKey s key
    if !natural && !inj then ([], retakeCleared key s)
    else
      let s := if inj then injFired s else s
      match (if isQueueKey key then none else w.stall) with
      | some q => objGuilty q inj (watchClear key (watchClear q s))
      | none => objGuilty key inj s

/-- Every retake ends: the engines' first. -/
def retakesEnd (s : State) : List Ans × State :=
  let ks := (s.hr.watch.filter fun e => e.2.retake).map (·.1)
  eachAns ((ks.filter (!isQueueKey ·)) ++ ks.filter isQueueKey) retakeVerdict s

/-! ### Miss counts (R419) -/

/-- One object at a boundary. -/
def boundaryOf (key : Nat) (s : State) : State :=
  let w := watchOf s key
  let still := watched s key && !w.moved
  let inj := !still && watched s key && injected Src.hr Kind.hangSuspect s && targetsKey s key
  let s := if inj then injFired s else s
  if !still && !inj then
    if w.suspect then retakeCleared key s else updWatch key (fun w => { w with misses := 0 }) s
  else
    let n := min 2 (w.misses + 1)
    let s := updWatch key (fun w => { w with misses := n }) s
    if n < 2 ∨ w.suspect then s
    else
      let id := if isQueueKey key then key else keyUnit key
      let s := updWatch key (fun w => { w with
        suspect := true
        held := if isQueueKey key then [] else heldQueues s (watchEngine key)
        stall := if isQueueKey key then none else stalledQueue s key }) s
      let s := rushesBlock Src.hr Ev.suspect id ((s.hrCount 0).hrEvent 0)
      sendFault Src.hr (mkFault Kind.hangSuspect (objHall s key) 0 (objDetail key) inj) s

/-! ### Retakes (R421) -/

/-- Insertion by oldest last progress, then by number. -/
def insertOldest (x : Nat × Nat) : List (Nat × Nat) → List (Nat × Nat)
  | [] => [x]
  | y :: rest => if decide (x.1 < y.1) || (x.1 == y.1 && decide (x.2 ≤ y.2)) then x :: y :: rest else y :: insertOldest x rest

/-- The suspects that wait for a retake, oldest last progress first. -/
def suspects (s : State) : List Nat :=
  let l := (s.hr.watch.filter fun e => e.2.suspect && !e.2.retake).map fun e => (e.2.lastAt, e.1)
  (l.foldr insertOldest []).map (·.2)

/-- A retake: an engine with the suspect queues whose work it holds, or one object. -/
def retakeGroup (s : State) (key : Nat) : List Nat :=
  if isQueueKey key then [key]
  else key :: (watchOf s key).held.filter fun q => (watchOf s q).suspect && !(watchOf s q).retake

/-- Retakes start, up to 16, none that shares an engine with one that runs. -/
def retakesStart : List Nat → Nat → List Nat → State → State
  | [], _, _, s => s
  | key :: rest, n, busy, s =>
    let w := watchOf s key
    let joint := isQueueKey key && s.hr.watch.any fun e => !isQueueKey e.1 && e.2.suspect && !e.2.retake && e.2.held.contains key
    let g := retakeGroup s key
    let es := (g.map (objEngines s)).flatten
    if w.retake ∨ 16 ≤ n ∨ joint ∨ es.any busy.contains then retakesStart rest n busy s
    else retakesStart rest (n + 1) (es ++ busy) (forAll g (fun k s => updWatch k (fun w => { w with retake := true, moved := false }) s) s)

/-- HANG_WINDOW_BOUNDARY. No boundary falls while a CUT holds the block stopped, nor in S2 and S3 (R420). -/
def boundaryOp (s : State) : List Ans × State :=
  if s.stopped ∨ 2 ≤ s.pins.pstate.toNat then ([], s)
  else
    match retakesEnd s with
    | (a, s) =>
      let s := forAll (watchKeys s) boundaryOf s
      let s := s.updHr fun h => { h with
        watch := forAll (h.watch.map (·.1)) (fun k t => t.mod k fun w => { w with moved := false }) h.watch }
      (a, setPreempt (retakesStart (suspects s) 0 [] s))

def execHangWindowBoundary (s : State) : Answer := goOn (settled (boundaryOp s))

end Sys2Proof.Machine
end

