-- ==== Sys2Proof/Machine/Fcu.lean ====
section
/-! DEFINITION. The fault collector: acceptance of records, the log, FENCE and SAFE reactions, the safe state, its own checks and
injection (15_faults.md R394, R396, R398-R417). -/

namespace Sys2Proof.Machine

-- One declaration at a time, so that the elaborator holds few threads (each takes stack of its own).
set_option Elab.async false

/-! ### The log (R399) -/

/-- The message of a record (R393). -/
def faultMessage (src : Nat) (r : FRec) (tdelta : Nat) : BitVec 128 :=
  BitVec.ofNat 128 (bits src 0 12 + put 12 (bits r.kind 0 8) + put 20 (bits r.cls 0 4) + put 24 (bits r.hall 0 12)
    + put 36 r.addr.toNat + put 84 (bits tdelta 0 16) + put 100 r.seq.toNat + put 108 (bits r.detail.toNat 0 19) + put 127 (b2n r.inj))

/-- A record joins the log: it may overwrite one that the Keeper has not read. -/
def logPut (x : LogRec) (s : State) : State :=
  let overrun := decide (1024 ≤ (s.fcu.logHead - s.fcu.logTail).toNat)
  let s := s.updFcu fun c => { c with log := c.log.set (c.logHead.toNat % 1024) x, logHead := c.logHead + 1 }
  if overrun then (s.fcuCount 5).fcuEvent 6 else s

/-! ### The safe state (R402) -/

/-- Entry into the safe state, with the record that caused it. Every link frame in transfer ends as a void frame, the hold
buffers are discarded, the key registers zeroed, and the rings stand still. -/
def safeEnter (x : LogRec) (fatal : Bool) (s : State) : State :=
  let s := if fatal then s.updPins (fun p => { p with fatal := true }) else s
  if s.fcu.safe then s
  else
    let s := forAll (s.ls.lanes.filterMap fun e => if e.2.out.isEmpty then none else some e.1) voidOut s
    let s := s.updLs fun l => { l with rx := l.rx.map (fun e => (e.1, { e.2 with held := [], rspParts := [] })) }
    let s := zeroKeyRegisters s
    let s := (s.updFcu fun c => { c with first := x, safe := true, safeAt := s.now }).fcuEvent 5
    let s := s.updPins fun p => { p with safe := true }
    s.updDbg fun d => { d with frozen := true }

/-! ### Classification (R400, R401) -/

/-- Does a kind react SAFE: its policy bit, a C4 kind, or a policy word that failed its parity? -/
def policySafe (s : State) (kind cls : Nat) : Bool :=
  cls == 4 || (s.fcu.policy.get (kind / 32)).toNat.testBit (kind % 32) || s.fcu.polErr.toNat.testBit (kind / 32)

/-- The slice that a C3 record's T2 names: that of the source, for STAIR_PART that of the unit in D[15:4]. -/
def fenceSlice (s : State) (src : Nat) (r : FRec) : Option Nat :=
  if r.kind = Kind.stairPart then sliceOf s (bits r.detail.toNat 4 12) else sliceOf s src

/-- A shared spare that stands in for no pipe (R165). -/
def idleSpare (s : State) (src : Nat) : Bool :=
  s.conf != .f && (within src 0x140 4 && (s.ls.spares.get (src - 0x140)).txLane.isNone
    || within src 0x1C0 4 && (s.ls.spares.get (src - 0x1C0)).rxLane.isNone)

/-- Such a spare stays out of service until the next T3. -/
def markSpare (src : Nat) (s : State) : State :=
  if within src 0x140 4 then s.updLs fun l => { l with spares := l.spares.mod (src - 0x140) fun x => { x with txBad := true } }
  else s.updLs fun l => { l with spares := l.spares.mod (src - 0x1C0) fun x => { x with rxBad := true } }

/-- The FENCE action of a C3 record: the slice's count goes up and its T2 is ordered, unless it is in T2 or retired, where the
record is only logged (R401, R417); a source of no slice counts as C4. The T2 of a STAIR_PART is the one that the escalation has
ordered, with which the record's order merges (R423). -/
def fenceC3 (src : Nat) (r : FRec) (x : LogRec) (s : State) : List Ans × State :=
  match fenceSlice s src r with
  | some k =>
    if s.fcu.inT2.toNat.testBit k || s.fcu.retired.toNat.testBit k then ([], s)
    else
      let s := s.updFcu fun c => { c with c3Count := c.c3Count.mod k fun n => min 15 (n + 1) }
      if r.kind = Kind.stairPart then ([], s) else t2Order k noWaiter s
  | none => if idleSpare s src then ([], markSpare src s) else ([], safeEnter x true s)

/-- A record that has been read: logged, counted, its reaction taken (R401). -/
def acceptRecord (src : Nat) (r : FRec) (tdelta : Nat) (s : State) : List Ans × State :=
  let x : LogRec :=
    { msg := faultMessage src r tdelta, detail := r.detail, time := BitVec.ofNat 64 (s.now - tdelta) }
  let s := ((logPut x s).fcuCount r.cls).fcuEvent r.cls
  let s := if s.fcu.irqClass.toNat ≤ r.cls then s.emit (.keeperIrq r.cls) else s
  if policySafe s r.kind r.cls then ([], safeEnter x (r.cls == 4) s)
  else if r.cls = 3 then fenceC3 src r x s
  else ([], s)

/-- A fault that the collector finds in itself joins its own FIFO with its own numbering. -/
def ownFault (kind detail : Nat) (s : State) : State := raiseFault Src.fcu kind noHall 0 detail s

/-! ### FAULT_MESSAGE_ACCEPT (R401, R408) -/

/-- A check of the collector's own that was made to fail, and what it leaves. -/
def selfCheck (kind : Nat) (f : State → State) (s : State) : State :=
  if injected Src.fcu kind s then f (reportFault false Src.fcu kind noHall 0 0 s) else s

/-- The checks that the collector makes of itself as it takes a record (R408): they fail by injection. A policy word that fails
its parity reacts SAFE until the next T3. -/
def selfChecks (kind : Nat) (s : State) : State :=
  let s := selfCheck Kind.fcuPolicy (fun s => s.updFcu fun c => { c with polErr := c.polErr ||| BitVec.ofNat 8 (2 ^ (kind / 32)) }) s
  let s := selfCheck Kind.fcuEcc (fun s => s) s
  selfCheck Kind.fcuUnit (fun s => s) s

/-- The oldest record of a source reaches the collector. A record whose number is not the next of its source shows that one was
lost, and one that cannot be read could have been block-fatal: FCU_NET. During a CUT stop nothing is delivered (R417). -/
def faultAccept (src tdelta : Nat) (s : State) : List Ans × State :=
  if s.stopped then ([], s)
  else match s.fcu.fifo.get src with
    | [] => ([], s)
    | r :: rest =>
      let want := s.fcu.expect.get src
      let s := s.updFcu fun c => { c with fifo := c.fifo.set src rest, expect := c.expect.set src (r.seq + 1) }
      let s := if src = Src.fcu then s else selfChecks r.kind s
      let natural := r.seq != want
      let net := src != Src.fcu && checkFails natural Src.fcu Kind.fcuNet s
      let s := if !net then s else if natural then ownFault Kind.fcuNet src s else reportFault false Src.fcu Kind.fcuNet noHall 0 src s
      if net && !natural then ([], s) else acceptRecord src r tdelta s

def execFaultMessageAccept (source : Nat) (tdelta : BitVec 16) (s : State) : Answer := goOn (settled (faultAccept source tdelta.toNat s))

/-! ### AUTO_T3_REQUEST (R404) -/

/-- HOLD µs after the safe state began the collector asks for T3. -/
def autoT3Op (s : State) : List Ans × State :=
  if s.fcu.safe && s.fcu.autoT3 && decide (s.fcu.safeAt + s.fcu.hold.toNat * usT ≤ s.now) then t3Order noWaiter s else ([], s)

def execAutoT3Request (s : State) : Answer := goOn (settled (autoT3Op s))

/-! ### Injection (R410, R416) -/

/-- The kinds whose detector has a check of its own only when an event occurs that the surroundings make, or that runs all the
time: their injection fires at once. -/
def firesAtOnce (kind : Nat) : Bool :=
  [Kind.clkLoss, Kind.xingSlice, Kind.xingCommon, Kind.extFault, Kind.keeperEcc, Kind.keeperUe, Kind.otpUe].contains kind

/-- Is an arm ignored: one is armed, R114 forbids it, or the source does not raise the kind? -/
def injRefused (src kind : Nat) (s : State) : Bool := s.fcu.armed || !s.injectionAllowed || !raises s.conf src kind

/-- A write of FCU_INJ with ARM = 1. -/
def injArm (src kind : Nat) (s : State) : State :=
  if injRefused src kind s then s.fcuCount 6
  else
    let s := s.updFcu fun c => { c with armed := true, injKind := BitVec.ofNat 8 kind, injSource := BitVec.ofNat 12 src }
    if firesAtOnce kind then reportFault false src kind noHall 0 0 s else s

/-- FCU_INJ_ARM. -/
def execFcuInjArm (source : BitVec 12) (kind : Byte) (s : State) : Answer := goOn (injArm source.toNat kind.toNat s)

/-- FAULT_INJECT: bytes 0 and 1 the source, byte 2 the kind; OK when the arm is accepted. -/
def faultInjectAct (a : Act) (arg : Bytes) (s : State) : State :=
  runAct a 0x602001 [.factory, .operator] (fun s =>
    let src := num arg 0 2
    let kind := num arg 2 1
    if arg.length ≠ 3 ∨ 4096 ≤ src then ((Status.permission, []), s)
    else ((if injRefused src kind s then Status.permission else Status.ok, []), injArm src kind s)) s

def execFaultInject (a : Act) (arg : Bytes) (s : State) : Answer := goOn (faultInjectAct a arg s)

end Sys2Proof.Machine
end

