-- ==== Sys2Proof/Machine/RegRead.lean ====
section
/-! DEFINITION. The register space and the host pages as they read: one function for the 32-bit registers and one for the 64-bit
registers of each window (00_scope.md R9-R12, R18-R22; 19_management.md R506-R512; the register tables of each chapter). -/

namespace Sys2Proof.Machine

-- One declaration at a time, so that the elaborator holds few threads (each takes stack of its own).
set_option Elab.async false

/-- Word `i` of a byte string. -/
def wordOf (b : Bytes) (i : Nat) : Nat := num b (4 * i) 4

/-- A counter block of `n` registers of 64 bits from `base`: the entry of an aligned offset. -/
def counterAt (t : Tab DWord) (base n key off : Nat) : Option Nat :=
  if base ≤ off ∧ off < base + 8 * n then some (t.get (key + (off - base) / 8)).toNat else none

/-- A command register as it reads: GO, its fields, OP. -/
def cmdWord (go : Bool) (fields op : Nat) : Nat := put 31 (b2n go) + fields + op

/-- The first of two optional values. -/
def orElse' (a b : Option Nat) : Option Nat := match a with | some x => some x | none => b

/-! ### Key vault (R79-R84) -/

def kvRead (s : State) (off : Nat) : Nat :=
  let k := s.kv
  match off with
  | 0x00 => cmdWord k.go (put 30 (b2n k.replace)) k.op.toNat
  | 0x04 => put 31 (b2n k.locked) + put 30 (b2n (!k.queue.isEmpty)) + k.result.toNat
  | 0x08 => k.handle.toNat
  | 0x0C => k.parent.toNat
  | 0x10 => put 12 k.attr.toNat
  | 0x20 => k.src.toNat
  | 0x24 => k.kmatch.toNat
  | 0x28 => k.pinK.toNat
  | 0x80 => k.qinfo.toNat
  | 0x100 => k.events.toNat
  | 0x104 => k.recur.toNat
  | 0x108 => put 16 (derivedUsed k) + pinnedUsed k
  | _ => if 0x40 ≤ off ∧ off < 0x80 then (k.label.get ((off - 0x40) / 4)).toNat else 0

def kvRead64 (s : State) (off : Nat) : Option Nat :=
  if off = 0x18 then some s.kv.budget.toNat else if off = 0x88 then some s.kv.qbudget.toNat
  else counterAt s.kv.counters 0x110 4 0 off

/-! ### Life cycle (R102-R106) -/

def lcRead (s : State) (off : Nat) : Nat :=
  match off with
  | 0x00 => lcStatusWord s
  | 0x04 => s.lc.rollback % 2 ^ 13
  | 0x08 => dbgRightsWord s
  | 0x0C => cmdWord s.lc.go (put 4 s.lc.target.toNat) s.lc.op.toNat
  | 0x30 => s.lc.events.toNat
  | 0x34 => s.lc.recur.toNat
  | _ => if 0x20 ≤ off ∧ off < 0x30 then wordOf (nonceBytes s) ((off - 0x20) / 4) else 0

/-! ### Attestation (R121-R125) -/

def atStatusWord (s : State) : Nat := put 24 s.att.layer.toNat + put 16 s.att.locks.toNat + s.att.result.toNat

def atRead (s : State) (off : Nat) : Nat :=
  let a := s.att
  match off with
  | 0x00 => cmdWord a.go (put 4 a.index.toNat) a.op.toNat
  | 0x04 => atStatusWord s
  | 0x08 => a.events.toNat
  | 0x0C => a.recur.toNat
  | 0x10 => (domStatusWord s).toNat
  | 0x14 => s.dom.epoch.toNat
  | _ =>
    if 0x80 ≤ off ∧ off < 0xE0 then wordOf (natBe a.sig.toNat 96) ((off - 0x80) / 4)
    else if 0x100 ≤ off ∧ off < 0x160 then wordOf (natBe a.pub.toNat 96) ((off - 0x100) / 4)
    else if 0x200 ≤ off ∧ off < 0x380 then
      wordOf (Crypto.digestBytes (measOf s ((off - 0x200) / 48))) ((off - 0x200) % 48 / 4)
    else 0

/-! ### Link seal engines (R174-R180) -/

def lsRead (s : State) (off : Nat) : Nat :=
  let l := s.ls
  match off with
  | 0x00 => cmdWord l.go (put 12 l.index.toNat) l.op.toNat
  | 0x04 => put 17 (b2n l.switchDone) + put 16 (b2n (l.switchArmed && decide (s.now < l.switchAt.toNat))) + l.result.toNat
  | 0x08 => l.arg0.toNat
  | 0x0C => l.arg1.toNat
  | 0x10 => l.arg2.toNat
  | 0x14 => l.qinfo.toNat
  | 0x38 => l.events.toNat
  | 0x3C => l.recur.toNat
  | _ => 0

def lsRead64 (s : State) (off : Nat) : Option Nat :=
  match off with
  | 0x18 => some s.ls.qseq.toNat
  | 0x20 => some s.ls.qfloor.toNat
  | 0x28 => some s.ls.switchAt.toNat
  | 0x30 => some (lsSpareWord s)
  | _ =>
    if 0x3400 ≤ off ∧ off < 0x3600 then some (laneOf s ((off - 0x3400) / 8)).relayed.toNat
    else if 0x3600 ≤ off ∧ off < 0x3800 then some (laneOf s ((off - 0x3600) / 8)).relayDrops.toNat
    else orElse' (counterAt s.ls.counters 0x1000 544 0 off) (counterAt s.ls.counters 0x2200 544 1024 off)

/-! ### Line seal engines (R203-R207) -/

def lnRead (s : State) (off : Nat) : Nat :=
  let l := s.ln
  match off with
  | 0x00 => cmdWord l.go (put 30 (b2n l.sealed) + put 16 l.index.toNat) l.op.toNat
  | 0x04 => put 16 (b2n (decide (4096 ≤ l.inflight.length))) + l.result.toNat
  | 0x08 => l.qinfo.toNat
  | 0x18 => l.events.toNat
  | 0x1C => l.recur.toNat
  | _ => if 0x40 ≤ off ∧ off < 0x80 then (l.desc.get ((off - 0x40) / 4)).toNat else 0

def lnRead64 (s : State) (off : Nat) : Option Nat :=
  if off = 0x10 then some s.ln.qcursor.toNat
  else if within off 0x1000 0x400 && decide (s.conf.linePipes ≤ (off - 0x1000) / 64 % 8) then some 0
  else counterAt s.ln.counters 0x1000 128 0 off

/-! ### Integrity tree unit (R231-R236) -/

def trRead (s : State) (off : Nat) : Nat :=
  let t := s.tr
  match off with
  | 0x00 => cmdWord t.go (put 30 (b2n t.keep) + put 16 t.index.toNat + put 8 t.level.toNat) t.op.toNat
  | 0x04 => put 17 (b2n t.flushing) + put 16 (b2n (decide (64 ≤ (staged s).length))) + t.result.toNat
  | 0x08 => t.nkey.toNat
  | 0x0C => t.qinfo.toNat
  | 0x18 => trOcc s
  | 0x1C => t.events.toNat
  | 0x20 => t.recur.toNat
  | _ => if 0x100 ≤ off ∧ off < 0x1F0 then (t.blob.get ((off - 0x100) / 4)).toNat else 0

def trRead64 (s : State) (off : Nat) : Option Nat :=
  if off = 0x10 then some s.tr.serial.toNat else counterAt s.tr.counters 0x1000 8 0 off

/-! ### Movers and reduction units (R262, R263) -/

def mvRead (s : State) (off : Nat) : Nat :=
  let v := s.mv
  match off with
  | 0x00 => cmdWord v.go (put 16 v.mover.toNat) v.op.toNat
  | 0x04 => put 31 (b2n (mvBusy s)) + v.result.toNat
  | 0x08 => v.qinfo.toNat
  | 0x18 => v.events.toNat
  | 0x1C => v.recur.toNat
  | _ => if 0x40 ≤ off ∧ off < 0x80 then (v.desc.get ((off - 0x40) / 4)).toNat else 0

def mvRead64 (s : State) (off : Nat) : Option Nat :=
  if off = 0x10 then some s.mv.qprog.toNat
  else orElse' (counterAt s.mv.counters 0x1000 128 0 off) (counterAt s.mv.placement 0x2000 4 0 off)

def rdRead (s : State) (off : Nat) : Nat :=
  let r := s.rd
  match off with
  | 0x00 => cmdWord r.go (put 16 r.unit.toNat + put 12 r.slot.toNat) r.op.toNat
  | 0x04 => r.result.toNat
  | 0x08 => r.qinfo.toNat
  | 0x0C => r.qcoll.toNat
  | 0x10 => r.events.toNat
  | 0x14 => r.recur.toNat
  | _ => 0

def rdRead64 (s : State) (off : Nat) : Option Nat := counterAt s.rd.counters 0x1000 64 0 off

/-! ### Remote atomic unit (R280-R283) -/

def auRead (s : State) (off : Nat) : Nat :=
  let a := s.au
  match off with
  | 0x00 => cmdWord a.go (put 16 a.hall.toNat) a.op.toNat
  | 0x04 => put 16 (b2n a.flushing) + a.result.toNat
  | 0x08 => auInfo s
  | 0x0C => a.events.toNat
  | 0x10 => a.recur.toNat
  | _ => 0

def auRead64 (s : State) (off : Nat) : Option Nat := counterAt s.au.counters 0x1000 8 0 off

/-! ### Front end and admission (R308-R312, R388-R390) -/

def feRead (s : State) (off : Nat) : Nat :=
  let f := s.fe
  match off with
  | 0x00 => cmdWord f.go (put 4 f.queueArg.toNat) f.op.toNat
  | 0x04 => put 16 f.created.toNat + f.result.toNat
  | 0x08 => f.qinfo.toNat
  | 0x0C => f.events.toNat
  | 0x10 => f.recur.toNat
  | 0x14 => f.qacks.toNat
  | 0x20 => f.takeLimit.toNat
  | 0x100 => put 16 s.adm.radioActive.toNat + s.adm.spotFloor.toNat
  | 0x104 => s.adm.linkLimit.toNat
  | 0x108 => s.adm.lineLimit.toNat
  | 0x10C => s.adm.hostLimit.toNat
  | 0x110 => put 16 (sharedFree s) + reservedWork s
  | 0x114 => s.adm.events.toNat
  | 0x118 => s.adm.recur.toNat
  | 0x120 => s.adm.latMax.toNat
  | _ => if 0x40 ≤ off ∧ off < 0x60 then (f.args.get ((off - 0x40) / 4)).toNat else 0

def feRead64 (s : State) (off : Nat) : Option Nat :=
  if off = 0x18 then some s.fe.saveBase.toNat else if off = 0x1080 then some s.fe.cpErrors.toNat
  else orElse' (counterAt s.fe.counters 0x1000 8 0 off) (counterAt s.adm.counters 0x1040 8 0 off)

/-! ### Fence and sync unit (R337-R341) -/

def fsRead (s : State) (off : Nat) : Nat :=
  let x := s.fs
  match off with
  | 0x00 => cmdWord x.go (put 24 x.kind.toNat + put 8 x.obj.toNat) x.op.toNat
  | 0x04 => put 16 x.created.toNat + x.result.toNat
  | 0x08 => x.qinfo.toNat
  | 0x0C => x.events.toNat
  | 0x10 => x.recur.toNat
  | 0x14 => x.qstat.toNat
  | _ => if 0x40 ≤ off ∧ off < 0x50 then (x.args.get ((off - 0x40) / 4)).toNat else 0

def fsRead64 (s : State) (off : Nat) : Option Nat :=
  if off = 0x18 then some s.fs.qvalue.toNat else counterAt s.fs.counters 0x1000 8 0 off

/-! ### ITU (R368-R371) -/

def ituRead (s : State) (off : Nat) : Nat :=
  let u := s.itu
  match off with
  | 0x00 => cmdWord u.go (put 16 u.hall.toNat) u.op.toNat
  | 0x04 => put 16 (b2n (arenaSet s && decide (tablesRoom s - tablesUsed s < 64))) + u.result.toNat
  | 0x08 => u.qinfo.toNat
  | 0x0C => u.events.toNat
  | 0x10 => u.recur.toNat
  | 0x20 => u.arenaSize.toNat
  | _ => if 0x40 ≤ off ∧ off < 0xC0 then (u.args.get ((off - 0x40) / 4)).toNat else 0

def ituRead64 (s : State) (off : Nat) : Option Nat :=
  if off = 0x18 then some s.itu.arena.toNat else counterAt s.itu.counters 0x1000 8 0 off

/-! ### Fault collector (R399, R411-R416) -/

/-- A record of the log as 32 bytes. -/
def logBytes (x : LogRec) : Bytes := natLe x.msg.toNat 16 ++ natLe x.detail.toNat 4 ++ natLe 0 4 ++ natLe x.time.toNat 8

def fcuCfgWord (s : State) : Nat :=
  let c := s.fcu
  put 31 (b2n c.lock) + put 30 (b2n c.autoT3) + put 16 c.hold.toNat + put 8 c.irqClass.toNat + c.c3Limit.toNat
def fcuStatusWord (s : State) : Nat :=
  let c := s.fcu
  put 31 (b2n c.safe) + put 30 (b2n (c.polErr != 0#8)) + put 29 (b2n c.armed) + min 1024 (c.logHead - c.logTail).toNat
def fcuSlicesWord (s : State) : Nat :=
  let c := s.fcu
  (List.range 4).foldl (fun n k => n + put (16 + 4 * k) (c.c3Count.get k)) 0 + put 4 c.inT2.toNat + c.retired.toNat

def fcuRead (s : State) (off : Nat) : Nat :=
  let c := s.fcu
  match off with
  | 0x00 => fcuCfgWord s
  | 0x04 => fcuStatusWord s
  | 0x08 => c.events.toNat
  | 0x0C => c.recur.toNat
  | 0x10 => put 31 (b2n c.armed) + put 12 c.injKind.toNat + c.injSource.toNat
  | 0x14 => fcuSlicesWord s
  | 0x18 => c.logHead.toNat
  | 0x1C => c.logTail.toNat
  | _ =>
    if 0x40 ≤ off ∧ off < 0x60 then wordOf (logBytes c.first) ((off - 0x40) / 4)
    else if 0x100 ≤ off ∧ off < 0x120 then (c.policy.get ((off - 0x100) / 4)).toNat
    else if 0x2000 ≤ off ∧ off < 0xA000 then wordOf (logBytes (c.log.get ((off - 0x2000) / 32))) ((off - 0x2000) % 32 / 4)
    else 0

def fcuRead64 (s : State) (off : Nat) : Option Nat := counterAt s.fcu.counters 0x1000 8 0 off

/-! ### Hang watch (R432-R437) -/

def hrStatusWord (s : State) : Nat :=
  (List.range 5).foldl (fun n t => n + put (27 + t) (b2n (s.hr.treads.any fun x => x.tread == t))) 0 + s.hr.result.toNat
def hrCfgWord (s : State) : Nat :=
  put 31 (b2n s.hr.autoT0) + put 30 (b2n s.hr.t0Context) + put 29 (b2n s.hr.autoEsc) + s.hr.drain.toNat

def hrRead (s : State) (off : Nat) : Nat :=
  let h := s.hr
  match off with
  | 0x00 => cmdWord h.go (put 28 h.tread.toNat) h.op.toNat
  | 0x04 => hrStatusWord s
  | 0x08 => hrCfgWord s
  | 0x0C => h.window.toNat
  | 0x10 => h.target.toNat
  | 0x14 => h.qinfo.toNat
  | 0x18 => h.guilty.toNat
  | 0x1C => h.slotsOut.toNat
  | 0x20 => h.events.toNat
  | 0x24 => h.recur.toNat
  | _ =>
    if 0x4000 ≤ off ∧ off < 0x42C4 then
      (List.range 4).foldl (fun n i => n + put (8 * i) (ugen s (off - 0x4000 + i)).toNat) 0
    else 0

def hrRead64 (s : State) (off : Nat) : Option Nat :=
  orElse' (counterAt s.hr.counters 0x1000 8 0 off) (counterAt s.hr.stale 0x2000 0x2C4 0 off)

/-! ### Debug and trace unit (R457-R460) -/

def dbgStatusWord (s : State) : Nat :=
  let d := s.dbg
  put 30 d.cutState.toNat + put 29 (b2n d.late) + put 28 (b2n d.dailiesCut) + put 27 (b2n d.frozen) + put 26 (b2n d.moved)
    + d.result.toNat

def dbgRead (s : State) (off : Nat) : Nat :=
  let d := s.dbg
  match off with
  | 0x00 => cmdWord d.go (put 16 d.flags.toNat) d.serialOp.toNat
  | 0x04 => dbgStatusWord s
  | 0x08 => d.events.toNat
  | 0x0C => d.recur.toNat
  | 0x20 => d.ringSel.toNat
  | _ => if 0x30 ≤ off ∧ off < 0x40 then bits d.rdata.toNat (8 * (off - 0x30)) 32 else 0

def dbgRead64 (s : State) (off : Nat) : Option Nat :=
  if off = 0x10 then some s.dbg.cutT.toNat else if off = 0x18 then some s.dbg.resumeT.toNat
  else counterAt s.dbg.counters 0x1000 8 0 off

/-! ### Power, clocks, timebase, management (R479-R481, R510-R513) -/

def pwrStatusWord (s : State) : Nat :=
  put 30 s.pins.pstate.toNat + put 29 (b2n s.pwr.lockBit) + put 28 (b2n s.pwr.wakeReq) + put 27 (b2n s.pwr.shutDone)
    + put 26 (b2n s.pwr.recoveryBit)
def tbStatusWord (s : State) : Nat := put 31 (b2n s.pwr.tbLocked) + s.pwr.tbOffset.toNat

/-- The live sessions and their subscriptions. -/
def liveSessions (s : State) : List (Nat × Session) := s.mgt.sessions.filter fun e => e.2.live
def subsUsed (s : State) : Nat := (liveSessions s).foldl (fun n e => n + e.2.subs.length) 0
def nodeHeldId (s : State) : Nat := if s.mgt.claim.state = 2#3 then s.mgt.claim.node else 0
def mgtStatusWord (s : State) : Nat :=
  put 29 s.mgt.claim.state.toNat + put 28 (b2n s.mgt.beacon) + put 16 (liveSessions s).length + put 7 (subsUsed s) + nodeHeldId s

/-- The MAC address as its six octets (R484). -/
def macAddress (s : State) : Bytes := 0x0A#8 :: natLe s.deviceId 5

def pwrRead (s : State) (off : Nat) : Nat :=
  let p := s.pwr
  match off with
  | 0x00 => put 16 p.maxState.toNat + p.idle.toNat
  | 0x04 => pwrStatusWord s
  | 0x08 => p.events.toNat
  | 0x0C => p.recur.toNat
  | 0x10 => p.mult.toNat
  | 0x14 => put 2 (b2n p.mode8d) + p.xspiDiv.toNat
  | 0x18 => put 31 (b2n p.xspiGo) + put 8 p.xspiOp.toNat + p.xspiLen.toNat
  | 0x1C => p.xspiAddr.toNat
  | 0x208 => p.rate.toNat
  | 0x20C => p.parent.toNat
  | 0x210 => p.period.toNat
  | 0x214 => p.portAdj.toNat
  | 0x218 => tbStatusWord s
  | 0x300 => put 31 (b2n s.mgt.plcaEn) + put 8 s.mgt.toTimer.toNat + s.mgt.claimId.toNat
  | 0x304 => mgtStatusWord s
  | 0x308 => s.mgt.events.toNat
  | 0x30C => s.mgt.recur.toNat
  | _ => if 0x100 ≤ off ∧ off < 0x200 then (p.xspiData.get ((off - 0x100) / 4)).toNat else 0

def pwrRead64 (s : State) (off : Nat) : Option Nat :=
  if off = 0x200 then some s.master else if off = 0x310 then some (leNat (macAddress s))
  else counterAt s.mgt.counters 0x1000 8 0 off

/-! ### The register space of the Keeper's bus (R22) -/

/-- Is the unit of a window in the block (R12)? -/
def windowThere (c : Conf) (w : Nat) : Bool := if w = 6 then c.tree else if w = 8 then decide (0 < c.redUnits) else if w = 9 then c.atomic else true

/-- A 32-bit register of the Keeper's bus; zero outside every register. -/
def keeperRead (s : State) (a : Nat) : Nat :=
  let off := a % 0x10000
  if !windowThere s.conf (a / 0x10000) then 0
  else match a / 0x10000 with
    | 0x0 => if off = 0 then Config.ident.toNat else if off = 8 then (s.conf.caps).toNat else 0
    | 0x1 => feRead s off
    | 0x2 => fsRead s off
    | 0x3 => ituRead s off
    | 0x4 => lsRead s off
    | 0x5 => lnRead s off
    | 0x6 => trRead s off
    | 0x7 => mvRead s off
    | 0x8 => rdRead s off
    | 0x9 => auRead s off
    | 0xA => fcuRead s off
    | 0xB => hrRead s off
    | 0xC => dbgRead s off
    | 0xD => pwrRead s off
    | 0xE => kvRead s off
    | 0xF => lcRead s off
    | 0x10 => atRead s off
    | _ => 0

/-- A 64-bit register of the Keeper's bus at an aligned address. -/
def keeperRead64 (s : State) (a : Nat) : Option Nat :=
  let off := a % 0x10000
  if a % 8 ≠ 0 ∨ !windowThere s.conf (a / 0x10000) then none
  else match a / 0x10000 with
    | 0x1 => feRead64 s off
    | 0x2 => fsRead64 s off
    | 0x3 => ituRead64 s off
    | 0x4 => lsRead64 s off
    | 0x5 => lnRead64 s off
    | 0x6 => trRead64 s off
    | 0x7 => mvRead64 s off
    | 0x8 => rdRead64 s off
    | 0x9 => auRead64 s off
    | 0xA => fcuRead64 s off
    | 0xB => hrRead64 s off
    | 0xC => dbgRead64 s off
    | 0xD => pwrRead64 s off
    | 0xE => kvRead64 s off
    | _ => none

/-! ### Host pages (R334, R387, R290, R331, R456, R506, R508) -/

/-- ADM_HSTAT. -/
def hstatWord (s : State) (hall : Nat) : Nat :=
  let h := hallOf s hall
  put 30 (qClass h) + put 29 (b2n (demoted h .link)) + put 28 (b2n (demoted h .line)) + put 27 (b2n (demoted h .host))
    + put 13 h.workUsed

/-- The mailbox of a page. -/
def mailboxRead (m : Mailbox) (off : Nat) : Nat :=
  match off with
  | 0x404 => put 16 m.seq.toNat + m.result.toNat
  | 0x408 => m.len
  | _ =>
    if 0x420 ≤ off ∧ off < 0x440 then (m.arg.get ((off - 0x420) / 4)).toNat
    else if 0x500 ≤ off ∧ off < 0x800 then wordOf m.data ((off - 0x500) / 4)
    else 0

/-- QSTAT. -/
def qstatWord (x : Queue) : Nat := put 29 (qstateCode x.state) + x.stop.toNat

/-- The queue of a window of a hall page. -/
def windowQueue (s : State) (hall off : Nat) : Option Nat := queueAt s hall ((off - 0x1000) / 0x40)

def queueWindowRead (s : State) (hall off : Nat) : Nat :=
  match windowQueue s hall off with
  | none => 0
  | some q =>
    let x := queueOf s q
    match off % 0x40 with
    | 0x04 => put 16 x.qgen.toNat + q
    | 0x08 => x.head.toNat
    | 0x0C => x.tail.toNat
    | 0x10 => x.done.toNat
    | 0x14 => qstatWord x
    | _ => 0

/-- The fence of a view of a hall page. -/
def viewFence (s : State) (hall v : Nat) : Option Fence :=
  match s.fs.fences.find? fun e => (e.2.state == 1#2 || e.2.state == 2#2) && e.2.hall == hall && e.2.view == v with
  | some e => some e.2
  | none => none
def fstatWord (f : Fence) : Nat := put 30 f.state.toNat + put 29 (b2n f.backward) + f.status.toNat

def hallPageRead (s : State) (hall off : Nat) : Nat :=
  let h := hallOf s hall
  if off = 0 then Config.ident.toNat
  else if off = 8 then (s.conf.caps).toNat
  else if off = 0x10 then put 16 h.hgen.toNat + put 14 (hmodeCode h.mode) + put 12 (qClass h) + hall
  else if off = 0x14 then put 29 (hstateCode h.state) + put 24 (if isSealed h then tdiCode h.tdi else 7)
  else if 0x400 ≤ off ∧ off < 0x800 then mailboxRead (mailboxOf s (hall + 1)) off
  else if off = 0x840 then hstatWord s hall
  else if 0x1000 ≤ off ∧ off < 0x5000 then queueWindowRead s hall off
  else if 0x5000 ≤ off ∧ off < 0x5080 then (msixWord h ((off - 0x5000) / 4)).toNat
  else if 0x8000 ≤ off ∧ off < 0x10000 ∧ off % 16 = 8 then
    match viewFence s hall ((off - 0x8000) / 16) with | some f => fstatWord f | none => 0
  else 0

/-- The offsets of a slot's 64-bit registers; the 16 bytes from +0x30 are none (R456). -/
def profileReg (off : Nat) : Bool := [0x00, 0x08, 0x10, 0x18, 0x20, 0x28].contains off

/-- Register `off` of a profile slot. -/
def profileRead (p : Profile) (off : Nat) : Nat :=
  match off with
  | 0x00 => p.pmatch.toNat
  | 0x10 => p.items.toNat
  | 0x18 => p.bytes.toNat
  | 0x20 => p.busy.toNat
  | 0x28 => p.defer.toNat
  | _ => 0

def hallPageRead64 (s : State) (hall off : Nat) : Option Nat :=
  let h := hallOf s hall
  if 0x800 ≤ off ∧ off < 0x870 ∧ off ≠ 0x840 then some (h.counters.get ((off - 0x800) / 8)).toNat
  else if 0x900 ≤ off ∧ off < 0xD00 ∧ profileReg (off % 0x40) then some (profileRead (h.profiles.get ((off - 0x900) / 0x40)) (off % 0x40))
  else if 0x1000 ≤ off ∧ off < 0x5000 ∧ off % 0x40 = 0x18 then
    some (match windowQueue s hall off with | some q => (queueOf s q).qseq.toNat | none => 0)
  else if off = 0x5800 then some h.msixPending.toNat
  else if 0x8000 ≤ off ∧ off < 0x10000 ∧ off % 16 = 0 then
    some (match viewFence s hall ((off - 0x8000) / 16) with | some f => f.value.toNat | none => 0)
  else none

/-- OP_STATUS. -/
def opStatusWord (s : State) : Nat :=
  put 31 (b2n s.fcu.safe) + put 28 s.lcState + put 27 (b2n s.dom.joined) + put 25 s.pins.pstate.toNat + put 24 (b2n s.pwr.shutDone)
    + nodeHeldId s

def operatorRead (s : State) (off : Nat) : Nat :=
  match off with
  | 0x0000 => Config.ident.toNat
  | 0x0008 => (s.conf.caps).toNat
  | 0x0010 => opStatusWord s
  | 0x0200 => s.pwr.ltol.toNat
  | _ => if 0x400 ≤ off ∧ off < 0x800 then mailboxRead (mailboxOf s 0) off else 0

def operatorRead64 (s : State) (off : Nat) : Option Nat := if off = 0x300 then some s.fs.opIgnored.toNat else none

/-- A 32-bit word of a host page: page 0 is the operator's, page n + 1 that of hall n. -/
def pageRead (s : State) (page off : Nat) : Nat :=
  if page = 0 then operatorRead s off else if page ≤ s.conf.halls then hallPageRead s (page - 1) off else 0
def pageRead64 (s : State) (page off : Nat) : Option Nat :=
  if off % 8 ≠ 0 then none
  else if page = 0 then operatorRead64 s off else if page ≤ s.conf.halls then hallPageRead64 s (page - 1) off else none

/-! ### A bus (R21) -/

/-- A bus's registers. -/
def busReg (s : State) : Bus → Nat → Nat
  | .keeper, a => keeperRead s a
  | .page n, a => pageRead s n a
def busReg64 (s : State) : Bus → Nat → Option Nat
  | .keeper, a => keeperRead64 s a
  | .page n, a => pageRead64 s n a

/-- A bus's shadows. -/
def shadowsOf (s : State) : Bus → Shadows
  | .keeper => s.pins.shadowsKeeper
  | .page n => s.pins.shadowsPage.get n
def updShadows (f : Shadows → Shadows) : Bus → State → State
  | .keeper, s => s.updPins fun p => { p with shadowsKeeper := f p.shadowsKeeper }
  | .page n, s => s.updPins fun p => { p with shadowsPage := p.shadowsPage.mod n f }

/-- ADM_LAT_MAX clears as it is read; the latency of an admission that ends in that very cycle stays in it, and whether there is one is
left open (R20; DESIGN CHOICE, assumption 15). -/
def readLatMax (s : State) : State :=
  (s.updAdm fun x => match readRC x.latMax x.recur (s.open64.setWidth 32) with
    | (_, left, r) => { x with latMax := left, recur := r }).opened

/-- A 4-byte read of an aligned address: the value, and the state it leaves. The low word of a 64-bit register is latched with its
high word; the high word comes from the shadow that holds the register's address. ADM_LAT_MAX is the one register that a read changes (R18). -/
def busRead (bus : Bus) (a : Nat) (s : State) : Nat × State :=
  let a := a / 4 * 4
  match busReg64 s bus (a / 8 * 8) with
  | some v =>
    if a % 8 = 0 then
      (v % 2 ^ 32, updShadows (fun x => { x with rd := { addr := some a, word := BitVec.ofNat 32 (v / 2 ^ 32) } }) bus s)
    else
      let x := (shadowsOf s bus).rd
      (if x.addr = some (a - 4) then x.word.toNat else v / 2 ^ 32 % 2 ^ 32, s)
  | none =>
    let v := busReg s bus a
    (v, if bus = .keeper ∧ a = 0x10120 then readLatMax s else s)

/-- A read row: the word leaves on the bus. -/
def readRow (bus : Bus) (a : Nat) (s : State) : State :=
  match busRead bus a s with
  | (v, s) => s.emit (.regRead bus (a / 4 * 4) (BitVec.ofNat 32 v))

def execRcRegisterRead (bus : Bus) (addr : Nat) (s : State) : Answer :=
  goOn (if busServes bus s then readRow bus addr (busInput bus s) else s)
def execLowWordReadLatch (bus : Bus) (addr : Nat) (s : State) : Answer :=
  goOn (if busServes bus s then readRow bus addr (busInput bus s) else s)

end Sys2Proof.Machine
end

