-- ==== Sys2Proof/Machine/RegWrite.lean ====
section
/-! DEFINITION. Software writes of registers: the fields of each window by their types, the command registers, the 64-bit pairs with
their write shadows, and the host pages (00_scope.md R18-R21 and the register tables of each chapter). -/

namespace Sys2Proof.Machine

-- One declaration at a time, so that the elaborator holds few threads (each takes stack of its own).
set_option Elab.async false

/-! ### Helpers -/

/-- Field [lo+len-1 : lo] of a written word. -/
def wf (v lo len : Nat) : Nat := bits v lo len

/-- A W1C register and its RECUR counter after a write of `v` (R18, R20). -/
def w1c (s : State) (e recur : Word) (v : Nat) : Word × Word :=
  writeW1C e recur (BitVec.ofNat 32 v) (s.setAgain e (BitVec.ofNat 32 v))

/-- A written value where the encoding is used, else the old one (R19). -/
def usedOr (ok : Bool) (new old : Nat) : Nat := if ok then new else old

/-- A write of a command register with codes 1 to `top`: nothing while GO reads 1; GO with a code that is not used completes with
PERMISSION and changes nothing else (R19); GO with a code runs it; without GO the fields are stored. -/
def cmdWrite (go : Bool) (top opBits v : Nat) (bad : State → State) (store run : Nat → State → List Ans × State) (s : State) :
    List Ans × State :=
  let op := wf v 0 opBits
  if go then ([], s)
  else if v.testBit 31 then (if 1 ≤ op ∧ op ≤ top then run op s else ([], bad s))
  else store op s

/-- A change that answers nobody. -/
def quiet (s : State) : List Ans × State := ([], s)

/-! ### Key vault -/

/-- A write of an argument register: ignored while GO reads 1. -/
def kvKeep (f : Kv → Kv) (s : State) : State := if s.kv.go then s else s.updKv f

def kvWrite (off v : Nat) (s : State) : State :=
  let k := s.kv
  let word := BitVec.ofNat 32 v
  match off with
  | 0x00 =>
    let op := wf v 0 4
    if k.go && !(v.testBit 31 && op == 8) then s
    else if v.testBit 31 then
      (if 1 ≤ op ∧ op ≤ 9 then kvCommand op (v.testBit 30) s else s.updKv fun k => { k with result := Status.permission })
    else s.updKv fun k => { k with replace := v.testBit 30, op := BitVec.ofNat 4 (usedOr (decide (op ≤ 9)) op k.op.toNat) }
  | 0x08 => kvKeep (fun k => { k with handle := word }) s
  | 0x0C => kvKeep (fun k => { k with parent := word }) s
  | 0x10 => kvKeep (fun k => { k with attr := BitVec.ofNat 4 (wf v 12 4) }) s
  | 0x20 => kvKeep (fun k => { k with src := word }) s
  | 0x24 => kvKeep (fun k => { k with kmatch := word }) s
  | 0x28 => if derivedUsed k = 0 ∧ wf v 0 3 ≠ 0 then s.updKv fun k => { k with pinK := BitVec.ofNat 3 v } else s
  | 0x100 => (s.updKv fun k => match w1c s k.events k.recur v with | (e, r) => { k with events := e, recur := r }).opened
  | _ => if 0x40 ≤ off ∧ off < 0x80 then kvKeep (fun k => { k with label := k.label.set ((off - 0x40) / 4) word }) s else s

def kvWrite64 (off v : Nat) (s : State) : State :=
  if off = 0x18 ∧ !s.kv.go then s.updKv fun k => { k with budget := BitVec.ofNat 48 v } else s

/-! ### Life cycle and attestation -/

def lcWrite (off v : Nat) (s : State) : State :=
  match off with
  | 0x0C =>
    let t := usedOr (decide (wf v 4 3 ≤ 4)) (wf v 4 3) s.lc.target.toNat
    (cmdWrite s.lc.go 7 4 v (fun s => s.updLc fun l => { l with result := Status.permission })
      (fun op s => quiet (s.updLc fun l => { l with
        target := BitVec.ofNat 3 t, op := BitVec.ofNat 4 (usedOr (decide (op ≤ 7)) op l.op.toNat) }))
      (fun op s => quiet (lcCommand op (BitVec.ofNat 3 t) s)) s).2
  | 0x30 => (s.updLc fun l => match w1c s l.events l.recur v with | (e, r) => { l with events := e, recur := r }).opened
  | _ => if 0x10 ≤ off ∧ off < 0x20 then s.updLc fun l => { l with token := l.token.set ((off - 0x10) / 4) (BitVec.ofNat 32 v) } else s

def atWrite (off v : Nat) (s : State) : State :=
  match off with
  | 0x00 =>
    (cmdWrite s.att.go 3 4 v (fun s => s.updAt fun a => { a with result := Status.permission })
      (fun op s => quiet (s.updAt fun a => { a with
        index := BitVec.ofNat 3 (wf v 4 3), op := BitVec.ofNat 4 (usedOr (decide (op ≤ 3)) op a.op.toNat) }))
      (fun op s => quiet (atCommand op (BitVec.ofNat 3 (wf v 4 3)) s)) s).2
  | 0x08 => (s.updAt fun a => match w1c s a.events a.recur v with | (e, r) => { a with events := e, recur := r }).opened
  | 0x10 => s.updDom fun d => { d with
      joined := v.testBit 31, stepPending := v.testBit 30, member := BitVec.ofNat 13 (wf v 16 13) }
  | 0x14 => s.updDom fun d => { d with epoch := BitVec.ofNat 32 v }
  | _ =>
    if 0x40 ≤ off ∧ off < 0x70 then s.updAt fun a => { a with digest := a.digest.set ((off - 0x40) / 4) (BitVec.ofNat 32 v) } else s

/-! ### Link, line, tree -/

/-- A write of an argument register: ignored while GO reads 1. -/
def lsKeep (f : Ls → Ls) (s : State) : List Ans × State := quiet (if s.ls.go then s else s.updLs f)

def lsWrite (off v : Nat) (s : State) : List Ans × State :=
  match off with
  | 0x00 =>
    cmdWrite s.ls.go 7 4 v (fun s => s.updLs fun l => { l with result := Status.permission })
      (fun op s => quiet (s.updLs fun l => { l with
        index := BitVec.ofNat 9 (wf v 12 9), op := BitVec.ofNat 4 (usedOr (decide (op ≤ 7)) op l.op.toNat) }))
      (fun op s => lsCommand op (wf v 12 9) s) s
  | 0x08 => lsKeep (fun l => { l with arg0 := BitVec.ofNat 32 v }) s
  | 0x0C => lsKeep (fun l => { l with arg1 := BitVec.ofNat 32 v }) s
  | 0x10 => lsKeep (fun l => { l with arg2 := BitVec.ofNat 32 v &&& 0xFFFF8007#32 }) s
  | 0x38 => quiet ((s.updLs fun l => match w1c s l.events l.recur v with | (e, r) => { l with events := e, recur := r }).opened)
  | _ => quiet s

def lsWrite64 (off v : Nat) (s : State) : State :=
  if off = 0x28 ∧ !s.ls.go then s.updLs fun l => { l with switchAt := BitVec.ofNat 64 v } else s

def lnWrite (off v : Nat) (s : State) : State :=
  match off with
  | 0x00 =>
    let i := usedOr (decide (wf v 16 11 < 1280)) (wf v 16 11) s.ln.index.toNat
    (cmdWrite s.ln.go 5 4 v (fun s => s.updLn fun l => { l with result := Status.permission })
      (fun op s => quiet (s.updLn fun l => { l with
        sealed := v.testBit 30, index := BitVec.ofNat 11 i, op := BitVec.ofNat 4 (usedOr (decide (op ≤ 5)) op l.op.toNat) }))
      (fun op s => quiet (lnCommand op i (v.testBit 30) s)) s).2
  | 0x18 => (s.updLn fun l => match w1c s l.events l.recur v with | (e, r) => { l with events := e, recur := r }).opened
  | _ =>
    if 0x40 ≤ off ∧ off < 0x80 ∧ !s.ln.go then
      s.updLn fun l => { l with desc := l.desc.set ((off - 0x40) / 4) (BitVec.ofNat 32 v) } else s

def trWrite (off v : Nat) (s : State) : State :=
  match off with
  | 0x00 =>
    (cmdWrite s.tr.go 6 4 v (fun s => s.updTr fun t => { t with result := Status.permission })
      (fun op s => quiet (s.updTr fun t => { t with
        keep := v.testBit 30
        index := BitVec.ofNat 8 (wf v 16 8)
        level := BitVec.ofNat 4 (wf v 8 4)
        op := BitVec.ofNat 4 (usedOr (decide (op ≤ 6)) op t.op.toNat) }))
      (fun op s => quiet (trCommand op (wf v 16 8) (v.testBit 30) (wf v 8 4) s)) s).2
  | 0x08 => if s.tr.go then s else s.updTr fun t => { t with nkey := BitVec.ofNat 32 v }
  | 0x1C => (s.updTr fun t => match w1c s t.events t.recur v with | (e, r) => { t with events := e, recur := r }).opened
  | _ =>
    if 0x100 ≤ off ∧ off < 0x1F0 ∧ !s.tr.go then
      s.updTr fun t => { t with blob := t.blob.set ((off - 0x100) / 4) (BitVec.ofNat 32 v) } else s

def trWrite64 (off v : Nat) (s : State) : State :=
  if off = 0x10 ∧ !s.tr.go then s.updTr fun t => { t with serial := BitVec.ofNat 64 v } else s

/-! ### Movers, reduction, atomics -/

def mvWrite (off v : Nat) (s : State) : State :=
  match off with
  | 0x00 =>
    (cmdWrite s.mv.go 2 4 v (fun s => s.updMv fun x => { x with result := Status.permission })
      (fun op s => quiet (s.updMv fun x => { x with
        mover := BitVec.ofNat 4 (wf v 16 4), op := BitVec.ofNat 4 (usedOr (decide (op ≤ 2)) op x.op.toNat) }))
      (fun op s => quiet (mvCommand op (wf v 16 4) s)) s).2
  | 0x18 => (s.updMv fun x => match w1c s x.events x.recur v with | (e, r) => { x with events := e, recur := r }).opened
  | _ =>
    if 0x40 ≤ off ∧ off < 0x80 then
      s.updMv fun x => { x with desc := x.desc.set ((off - 0x40) / 4) (BitVec.ofNat 32 v) } else s

def rdWrite (off v : Nat) (s : State) : State :=
  match off with
  | 0x00 =>
    (cmdWrite s.rd.go 2 4 v (fun s => s.updRd fun x => { x with result := Status.permission })
      (fun op s => quiet (s.updRd fun x => { x with
        unit := BitVec.ofNat 3 (wf v 16 3)
        slot := BitVec.ofNat 2 (wf v 12 2)
        op := BitVec.ofNat 4 (usedOr (decide (op ≤ 2)) op x.op.toNat) }))
      (fun op s => quiet (rdCommand op (wf v 16 3) (wf v 12 2) s)) s).2
  | 0x10 => (s.updRd fun x => match w1c s x.events x.recur v with | (e, r) => { x with events := e, recur := r }).opened
  | _ => s

def auWrite (off v : Nat) (s : State) : List Ans × State :=
  match off with
  | 0x00 =>
    cmdWrite s.au.go 3 4 v (fun s => s.updAu fun x => { x with result := Status.permission })
      (fun op s => quiet (s.updAu fun x => { x with
        hall := BitVec.ofNat 12 (wf v 16 12), op := BitVec.ofNat 4 (usedOr (decide (op ≤ 3)) op x.op.toNat) }))
      (fun op s => auCommand op (wf v 16 12) s) s
  | 0x0C => quiet ((s.updAu fun x => match w1c s x.events x.recur v with | (e, r) => { x with events := e, recur := r }).opened)
  | _ => quiet s

/-! ### Front end, admission, fences, ITU -/

def feWrite (off v : Nat) (s : State) : State :=
  match off with
  | 0x00 =>
    (cmdWrite s.fe.go 3 4 v (fun s => s.updFe fun x => { x with result := Status.permission })
      (fun op s => quiet (s.updFe fun x => { x with
        queueArg := BitVec.ofNat 14 (wf v 4 14), op := BitVec.ofNat 4 (usedOr (decide (op ≤ 3)) op x.op.toNat) }))
      (fun op s => quiet (feCommand op (wf v 4 14) s)) s).2
  | 0x0C => (s.updFe fun x => match w1c s x.events x.recur v with | (e, r) => { x with events := e, recur := r }).opened
  | 0x20 => s.updFe fun x => { x with takeLimit := BitVec.ofNat 32 v }
  | 0x100 => s.updAdm fun x => { x with
      radioActive := BitVec.ofNat 7 (usedOr (decide (wf v 16 7 ≤ 64)) (wf v 16 7) x.radioActive.toNat)
      spotFloor := BitVec.ofNat 13 (usedOr (decide (wf v 0 13 + reservedWork s ≤ 8192)) (wf v 0 13) x.spotFloor.toNat) }
  | 0x104 => s.updAdm fun x => { x with linkLimit := BitVec.ofNat 16 v }
  | 0x108 => s.updAdm fun x => { x with lineLimit := BitVec.ofNat 16 v }
  | 0x10C => s.updAdm fun x => { x with hostLimit := BitVec.ofNat 16 v }
  | 0x114 => (s.updAdm fun x => match w1c s x.events x.recur v with | (e, r) => { x with events := e, recur := r }).opened
  | _ =>
    if 0x40 ≤ off ∧ off < 0x60 ∧ !s.fe.go then
      s.updFe fun x => { x with args := x.args.set ((off - 0x40) / 4) (BitVec.ofNat 32 v) } else s

/-- FE_SAVE_BASE: a base aligned to 4 MiB, while every queue is FREE. -/
def feWrite64 (off v : Nat) (s : State) : State :=
  if off = 0x18 ∧ v % 0x400000 = 0 ∧ s.fe.queues.all (fun e => e.2.state == .free) then
    s.updFe fun x => { x with saveBase := BitVec.ofNat 64 v } else s

def fsWrite (off v : Nat) (s : State) : State :=
  match off with
  | 0x00 =>
    (cmdWrite s.fs.go 7 4 v (fun s => s.updFs fun x => { x with result := Status.permission })
      (fun op s => quiet (s.updFs fun x => { x with
        kind := BitVec.ofNat 2 (usedOr (decide (wf v 24 2 ≤ 2)) (wf v 24 2) x.kind.toNat)
        obj := BitVec.ofNat 16 (wf v 8 16)
        op := BitVec.ofNat 4 (usedOr (decide (op ≤ 7)) op x.op.toNat) }))
      (fun op s => quiet (fsCommand op (usedOr (decide (wf v 24 2 ≤ 2)) (wf v 24 2) s.fs.kind.toNat) (wf v 8 16) s)) s).2
  | 0x0C => (s.updFs fun x => match w1c s x.events x.recur v with | (e, r) => { x with events := e, recur := r }).opened
  | _ =>
    if 0x40 ≤ off ∧ off < 0x50 ∧ !s.fs.go then
      s.updFs fun x => { x with args := x.args.set ((off - 0x40) / 4) (BitVec.ofNat 32 v) } else s

/-- Every hall is FREE, as a change of the arena asks (R368). -/
def noHalls (s : State) : Bool := (usedHalls s).isEmpty

/-- ITU_CMD and the rest of the page. A GO with SAVE or RESTORE sets GO; the rows ITU SAVE and ITU RESTORE, which carry the memory that
they read, do the work (assumption 50). -/
def ituWrite (off v : Nat) (s : State) : List Ans × State :=
  match off with
  | 0x00 =>
    let store (op : Nat) (s : State) : List Ans × State := quiet (s.updItu fun x => { x with
      hall := BitVec.ofNat 12 (wf v 16 12), op := BitVec.ofNat 5 (usedOr (decide (op ≤ 14)) op x.op.toNat) })
    cmdWrite s.itu.go 14 5 v (fun s => s.updItu fun x => { x with result := Status.permission }) store
      (fun op s => if op = 8 ∨ op = 9 then (match store op s with | (a, s) => (a, s.updItu fun x => { x with go := true }))
        else ituCommand op (wf v 16 12) [] [] s) s
  | 0x0C => quiet ((s.updItu fun x => match w1c s x.events x.recur v with | (e, r) => { x with events := e, recur := r }).opened)
  | 0x20 => quiet (if 1 ≤ v ∧ v ≤ 1024 ∧ noHalls s then s.updItu fun x => { x with arenaSize := BitVec.ofNat 32 v } else s)
  | _ => quiet (
    if 0x40 ≤ off ∧ off < 0xC0 ∧ !s.itu.go then
      s.updItu fun x => { x with args := x.args.set ((off - 0x40) / 4) (BitVec.ofNat 32 v) } else s)

/-- ITU_ARENA: a base aligned to 1 GiB, while every hall is FREE. -/
def ituWrite64 (off v : Nat) (s : State) : State :=
  if off = 0x18 ∧ v % 0x40000000 = 0 ∧ noHalls s then s.updItu fun x => { x with arena := BitVec.ofNat 64 v } else s

/-! ### Fault collector, hang watch, debug -/

/-- The bits of a policy word that a C4 kind holds at 1 (R400). -/
def policyFixed (w : Nat) : Word := (kindsC4.filter fun k => k / 32 == w).foldl (fun v k => v ||| bit32 (k % 32)) 0#32

/-- FCU_POLICYw, ignored once LOCK is set. -/
def policyWrite (w : Nat) (v : Word) (s : State) : State :=
  if s.fcu.lock then s else s.updFcu fun c => { c with policy := c.policy.set w (v ||| policyFixed w) }

def fcuWrite (off v : Nat) (s : State) : State :=
  match off with
  | 0x00 =>
    if s.fcu.lock then s
    else s.updFcu fun c => { c with
      lock := v.testBit 31
      autoT3 := v.testBit 30
      hold := BitVec.ofNat 8 (usedOr (wf v 16 8 != 0) (wf v 16 8) c.hold.toNat)
      irqClass := BitVec.ofNat 3 (usedOr (decide (wf v 8 3 ≤ 4)) (wf v 8 3) c.irqClass.toNat)
      c3Limit := BitVec.ofNat 4 (usedOr (wf v 0 4 != 0) (wf v 0 4) c.c3Limit.toNat) }
  | 0x08 => (s.updFcu fun c => match w1c s c.events c.recur v with | (e, r) => { c with events := e, recur := r }).opened
  | 0x10 =>
    if v.testBit 31 then injArm (wf v 0 12) (wf v 12 8) s
    else if s.fcu.armed then s
    else s.updFcu fun c => { c with injKind := BitVec.ofNat 8 (wf v 12 8), injSource := BitVec.ofNat 12 (wf v 0 12) }
  | 0x1C => s.updFcu fun c => { c with logTail := BitVec.ofNat 32 v }
  | _ => if 0x100 ≤ off ∧ off < 0x120 then policyWrite ((off - 0x100) / 4) (BitVec.ofNat 32 v) s else s

/-- HR_CFG and HR_WINDOW, which the policy area and an object of the dictionary write too. -/
def hrCfgWrite (v : Nat) (s : State) : State := s.updHr fun h => { h with
  autoT0 := v.testBit 31
  t0Context := v.testBit 30
  autoEsc := v.testBit 29
  drain := BitVec.ofNat 5 (usedOr (decide (1 ≤ wf v 0 5 ∧ wf v 0 5 ≤ 16)) (wf v 0 5) h.drain.toNat) }
def hrWindowWrite (v : Nat) (s : State) : State := s.updHr fun h => { h with
  window := BitVec.ofNat 24 (usedOr (decide (10 ≤ wf v 0 24 ∧ wf v 0 24 ≤ 10000000)) (wf v 0 24) h.window.toNat) }

def hrWrite (off v : Nat) (s : State) : List Ans × State :=
  match off with
  | 0x00 =>
    let t := usedOr (decide (wf v 28 3 ≤ 5)) (wf v 28 3) s.hr.tread.toNat
    cmdWrite s.hr.go 2 4 v (fun s => s.updHr fun h => { h with result := Status.permission })
      (fun op s => quiet (s.updHr fun h => { h with
        tread := BitVec.ofNat 3 t, op := BitVec.ofNat 4 (usedOr (decide (op ≤ 2)) op h.op.toNat) }))
      (fun op s => hrCommand op t s) s
  | 0x08 => quiet (hrCfgWrite v s)
  | 0x0C => quiet (hrWindowWrite v s)
  | 0x10 => quiet (if s.hr.go then s else s.updHr fun h => { h with target := BitVec.ofNat 32 v })
  | 0x20 => quiet ((s.updHr fun h => match w1c s h.events h.recur v with | (e, r) => { h with events := e, recur := r }).opened)
  | _ => quiet s

def dbgWrite (off v : Nat) (s : State) : State :=
  match off with
  | 0x00 =>
    (cmdWrite s.dbg.go 4 4 v (fun s => s.updDbg fun d => { d with result := Status.permission })
      (fun op s => quiet (s.updDbg fun d => { d with
        flags := BitVec.ofNat 8 (wf v 16 8)
        serialOp := BitVec.ofNat 16 (put 4 (wf v 4 12) + usedOr (decide (op ≤ 4)) op (d.serialOp.toNat % 16)) }))
      (fun op s => quiet (dbgCommand op (BitVec.ofNat 8 (wf v 16 8)) (BitVec.ofNat 12 (wf v 4 12)) s)) s).2
  | 0x08 => (s.updDbg fun d => match w1c s d.events d.recur v with | (e, r) => { d with events := e, recur := r }).opened
  | 0x20 => if s.dbg.go then s else s.updDbg fun d => { d with ringSel := BitVec.ofNat 32 v &&& 0x0FFF00FF#32 }
  | _ => s

def dbgWrite64 (off v : Nat) (s : State) : State :=
  if s.dbg.go then s
  else if off = 0x10 then s.updDbg fun d => { d with cutT := BitVec.ofNat 64 v }
  else if off = 0x18 then s.updDbg fun d => { d with resumeT := BitVec.ofNat 64 v }
  else s

/-! ### Power, clocks, timebase, management -/

/-- Every port enable of R37 is 0. -/
def enablesLow (s : State) : Bool := !s.pins.hpEn && !s.pins.cpEn && s.pins.lpEn == 0#4 && s.pins.mpEn == 0#16

/-- CCLK_MULT_WRITE (R462): accepted with every enable at 0; CCLK is gated and LOCK reads 0 until the PLL has relocked. -/
def cclkMultOp (v : Nat) (s : State) : State :=
  if enablesLow s && decide (20 ≤ v ∧ v ≤ 26) then s.updPwr fun p => { p with mult := BitVec.ofNat 5 v, lockBit := false } else s

def execCclkMultWrite (mult : BitVec 5) (s : State) : Answer := goOn (cclkMultOp mult.toNat s)

/-- PLL_RELOCK_DONE: the PLL locks again. Held in power-on reset, or powered off in S3, it cannot. -/
def pllLocked (s : State) : State :=
  if s.pins.por || s.pins.pstate == 3#2 then s else s.updPwr fun p => { p with lockBit := true }

def execPllRelockDone (s : State) : Answer := goOn (pllLocked s)

/-- PWR_CFG.MAX_STATE and IDLE. -/
def pwrCfgWrite (v : Nat) (s : State) : State := s.updPwr fun p => { p with
  maxState := BitVec.ofNat 2 (wf v 16 2), idle := BitVec.ofNat 16 (usedOr (wf v 0 16 != 0) (wf v 0 16) p.idle.toNat) }

def pwrWrite (off v : Nat) (s : State) : State :=
  let word := BitVec.ofNat 32 v
  match off with
  | 0x00 => pwrCfgWrite v s
  | 0x08 => (s.updPwr fun p => match w1c s p.events p.recur v with | (e, r) => { p with events := e, recur := r }).opened
  | 0x10 => cclkMultOp (wf v 0 5) s
  | 0x14 => if s.pwr.xspiGo then s else s.updPwr fun p => { p with xspiDiv := BitVec.ofNat 2 v, mode8d := v.testBit 2 }
  | 0x18 =>
    if s.pwr.xspiGo then s
    else if v.testBit 31 then xspiOp (BitVec.ofNat 8 (wf v 8 8)) (BitVec.ofNat 8 (wf v 0 8)) s
    else s.updPwr fun p => { p with xspiOp := BitVec.ofNat 8 (wf v 8 8), xspiLen := BitVec.ofNat 8 (wf v 0 8) }
  | 0x1C => if s.pwr.xspiGo then s else s.updPwr fun p => { p with xspiAddr := word }
  | 0x20C => if s.pwr.exch.active then s else timeDiscard (s.updPwr fun p => { p with parent := word &&& 0x9FFF00FF#32 })
  | 0x210 =>
    if 16 ≤ wf v 0 16 ∧ wf v 0 16 ≤ 10000 then s.updPwr fun p => { p with period := BitVec.ofNat 16 v } else s
  | 0x214 => s.updPwr fun p => { p with portAdj := BitVec.ofNat 12 (usedOr (decide (v < 4096)) v p.portAdj.toNat) }
  | 0x300 => s.updMgt fun m => { m with
      plcaEn := v.testBit 31
      toTimer := BitVec.ofNat 8 (wf v 8 8)
      claimId := BitVec.ofNat 8 (usedOr (decide (16 ≤ wf v 0 8)) (wf v 0 8) m.claimId.toNat) }
  | 0x308 => (s.updMgt fun m => match w1c s m.events m.recur v with | (e, r) => { m with events := e, recur := r }).opened
  | _ =>
    if 0x100 ≤ off ∧ off < 0x200 ∧ !s.pwr.xspiGo then
      s.updPwr fun p => { p with xspiData := p.xspiData.set ((off - 0x100) / 4) word } else s

/-! ### The Keeper's bus -/

/-- A write of a 32-bit register. -/
def keeperWrite (a v : Nat) (s : State) : List Ans × State :=
  let off := a % 0x10000
  if !windowThere s.conf (a / 0x10000) then ([], s)
  else match a / 0x10000 with
    | 0x1 => quiet (feWrite off v s)
    | 0x2 => quiet (fsWrite off v s)
    | 0x3 => ituWrite off v s
    | 0x4 => lsWrite off v s
    | 0x5 => quiet (lnWrite off v s)
    | 0x6 => quiet (trWrite off v s)
    | 0x7 => quiet (mvWrite off v s)
    | 0x8 => quiet (rdWrite off v s)
    | 0x9 => auWrite off v s
    | 0xA => quiet (fcuWrite off v s)
    | 0xB => hrWrite off v s
    | 0xC => quiet (dbgWrite off v s)
    | 0xD => quiet (pwrWrite off v s)
    | 0xE => quiet (kvWrite off v s)
    | 0xF => quiet (lcWrite off v s)
    | 0x10 => quiet (atWrite off v s)
    | _ => ([], s)

/-- A write of a 64-bit register. -/
def keeperWrite64 (a v : Nat) (s : State) : State :=
  let off := a % 0x10000
  match a / 0x10000 with
  | 0x1 => feWrite64 off v s
  | 0x3 => ituWrite64 off v s
  | 0x4 => lsWrite64 off v s
  | 0x6 => trWrite64 off v s
  | 0xC => dbgWrite64 off v s
  | 0xE => kvWrite64 off v s
  | _ => s

/-! ### The host pages -/

/-- A write of the mailbox of a page. -/
def mailboxWrite (page off v : Nat) (s : State) : State :=
  if off = 0x400 then mailboxRequestOp page (BitVec.ofNat 32 v) s
  else if 0x420 ≤ off ∧ off < 0x440 then updMailbox page (fun m => { m with arg := m.arg.set ((off - 0x420) / 4) (BitVec.ofNat 32 v) }) s
  else s

/-- A word of the MSI-X table: the vector control word holds its mask bit alone. -/
def msixWrite (hall i v : Nat) (s : State) : State :=
  let x : Word := if i % 4 = 3 then (BitVec.ofNat 32 v &&& 1#32) ^^^ 1#32 else BitVec.ofNat 32 v
  updHall hall (fun h => { h with msixTable := h.msixTable.set i x }) s

def hallPageWrite (hall off v : Nat) (s : State) : State :=
  if 0x400 ≤ off ∧ off < 0x800 then mailboxWrite (hall + 1) off v s
  else if 0x1000 ≤ off ∧ off < 0x5000 ∧ off % 0x40 = 0 then doorbellOp hall ((off - 0x1000) / 0x40) (BitVec.ofNat 32 v) s
  else if 0x5000 ≤ off ∧ off < 0x5080 then msixWrite hall ((off - 0x5000) / 4) v s
  else s

/-- A write of a 32-bit word of a page. -/
def pageWrite (page off v : Nat) (s : State) : State :=
  if page = 0 then
    if off = 0x200 then s.updPwr fun p => { p with ltol := BitVec.ofNat 32 v &&& 0x80FFFFFF#32 }
    else if 0x400 ≤ off ∧ off < 0x800 then mailboxWrite 0 off v s
    else s
  else if page ≤ s.conf.halls then hallPageWrite (page - 1) off v s
  else s

/-- A write of a 64-bit register of a page: PMATCH alone is not read-only. -/
def pageWrite64 (page off v : Nat) (s : State) : State :=
  if 1 ≤ page ∧ page ≤ s.conf.halls ∧ 0x900 ≤ off ∧ off < 0xD00 ∧ off % 0x40 = 0 then
    pmatchOp (page - 1) ((off - 0x900) / 0x40) (BitVec.ofNat 64 v) s else s

/-! ### A bus (R21) -/

def busPut (bus : Bus) (a v : Nat) (s : State) : List Ans × State :=
  match bus with
  | .keeper => keeperWrite a v s
  | .page n => ([], pageWrite n a v s)
def busPut64 (bus : Bus) (a v : Nat) (s : State) : State :=
  match bus with
  | .keeper => keeperWrite64 a v s
  | .page n => pageWrite64 n a v s

/-- A 4-byte write of an aligned address. The low word of a 64-bit register is held; its high word commits the pair, with the held low
word when the shadow holds the register's address, and empties the shadow. -/
def busWrite (bus : Bus) (a v : Nat) (s : State) : List Ans × State :=
  let a := a / 4 * 4
  let v := v % 2 ^ 32
  match busReg64 s bus (a / 8 * 8) with
  | none => busPut bus a v s
  | some cur =>
    if a % 8 = 0 then ([], updShadows (fun x => { x with wr := { addr := some a, word := BitVec.ofNat 32 v } }) bus s)
    else
      let x := (shadowsOf s bus).wr
      let low := if x.addr = some (a - 4) then x.word.toNat else cur % 2 ^ 32
      ([], updShadows (fun x => { x with wr := default }) bus (busPut64 bus (a - 4) (put 32 v + low) s))

/-- An aligned 8-byte write of the host: a 64-bit register at once and past the shadows, else two words. -/
def busWrite8 (bus : Bus) (a v : Nat) (s : State) : List Ans × State :=
  match busReg64 s bus a with
  | some _ => ([], busPut64 bus a v s)
  | none =>
    match busPut bus a (v % 2 ^ 32) s with
    | (x, s) => match busPut bus (a + 4) (v / 2 ^ 32 % 2 ^ 32) s with | (y, s) => (x ++ y, s)

/-- An aligned 8-byte read of the host. -/
def busRead8 (bus : Bus) (a : Nat) (s : State) : Nat :=
  match busReg64 s bus a with
  | some v => v
  | none => busReg s bus a + put 32 (busReg s bus (a + 4))

def execRegisterWrite (bus : Bus) (addr : Nat) (value : Word) (s : State) : Answer :=
  goOn (if busServes bus s then settled (busWrite bus addr value.toNat (busInput bus s)) else s)

/-- LOW_WORD_WRITE_HOLD: a write of the low word of a 64-bit register. -/
def lowWordHold (bus : Bus) (a : Nat) (v : Word) (s : State) : State :=
  if a % 8 = 0 ∧ (busReg64 s bus a).isSome then
    updShadows (fun x => { x with wr := { addr := some a, word := v } }) bus s
  else s

def execLowWordWriteHold (bus : Bus) (addr : Nat) (value : Word) (s : State) : Answer :=
  goOn (if busServes bus s then lowWordHold bus addr value (busInput bus s) else s)

end Sys2Proof.Machine
end

