-- ==== Sys2Proof/Machine/Power.lean ====
section
/-! DEFINITION. Power states: when the block may enter one, the four-phase handshake, wakes, and the loss of a clock (02_ports.md
R54, R55; 15_faults.md R397; 18_power_clocks_boot.md R464, R468-R470, R482). -/

namespace Sys2Proof.Machine

-- One declaration at a time, so that the elaborator holds few threads (each takes stack of its own).
set_option Elab.async false

/-! ### Entry conditions (R468) -/

/-- The wake time of a state in ns. -/
def wakeNs (st : Nat) : Nat := match st with | 1 => 40 | 2 => 3000 | _ => 80000

/-- The host's latency tolerance in ns. -/
def toleranceNs (s : State) : Nat := if bitAt s.pwr.ltol.toNat 31 then bits s.pwr.ltol.toNat 0 24 else 0

/-- S1: nothing is being processed. -/
def quiet1 (s : State) : Bool :=
  s.fe.queues.all (fun e =>
    e.2.state != .ready && e.2.state != .running && e.2.state != .dying && !e.2.t0 && e.2.acks.isEmpty && e.2.signals.isEmpty)
    && s.mv.movers.all (fun e => e.2.seg.isNone && (e.2.radio ++ e.2.reserved ++ e.2.spot).all (fun d => !d.started))
    && s.ls.lanes.all (fun e => e.2.out.isEmpty) && s.ls.tx.all (fun e => e.2.chunks.isEmpty || e.2.openItem)
    && s.ln.inflight.isEmpty && s.ln.stalled.isEmpty && s.au.queue.isEmpty && s.mp.all (fun r => r.sent) && s.itu.walks.isEmpty

/-- S2: no hold buffer, slot, open item or host read. -/
def quiet2 (s : State) : Bool :=
  s.ls.rx.all (fun e => !e.2.held.any inHold) && s.rd.slots.all (fun e => e.2.state == 0)
    && s.ls.tx.all (fun e => !e.2.openItem && e.2.chunks.isEmpty) && s.hostReads.isEmpty

/-- S3: no queue has work, nothing waits, and what memory is to hold has been written. -/
def quiet3 (s : State) : Bool :=
  s.fe.queues.all (fun e => e.2.state == .free || e.2.state == .idle) && s.fe.works.all (fun e => !e.2.live) && s.fs.parked.isEmpty
    && s.mv.movers.all (fun e => (e.2.radio ++ e.2.reserved ++ e.2.spot).isEmpty) && s.itu.unmaps.isEmpty
    && s.au.comb.all (fun e => !e.2.live || !(e.2.dirty || e.2.writing || e.2.filling)) && s.tr.requests.isEmpty
    && s.tr.trees.all (fun e => !flightAny e.2)

/-- Are a state's conditions met, with those of the states above it? -/
def stateQuiet (s : State) (st : Nat) : Bool :=
  quiet1 s && (decide (st < 2) || (quiet2 s && !radioHall s && s.dbg.cutState == 0#2 && !bigTread s)) && (decide (st < 3) || quiet3 s)

/-- May the block enter a state now? -/
def stateAllowed (s : State) (st : Nat) : Bool :=
  decide (st ≤ s.pwr.maxState.toNat) && decide (wakeNs st ≤ toleranceNs s) && stateQuiet s st

/-- The deepest state below the present one that it may enter. -/
def stateChosen (s : State) : Option Nat :=
  [3, 2, 1].find? fun st => decide (s.pins.pstate.toNat < st) && stateAllowed s st

/-! ### The units of a state (R464) -/

/-- What S2 powers off. -/
def offUnits2 (c : Conf) : List Nat :=
  (List.range c.lanes).map Src.linkTx ++ (List.range c.lanes).map Src.linkRx
    ++ ((List.range c.groups).map fun g => [Src.linkTx (sparePipe g), Src.linkRx (sparePipe g)]).flatten
    ++ (List.range c.linePipes).map Src.lineSeal ++ (List.range c.linePipes).map Src.lineUnseal ++ [Src.hostPipes]
    ++ (List.range c.redUnits).map Src.red

/-- What a state powers off: S3 adds the units whose logic is off. -/
def offUnits (c : Conf) (st : Nat) : List Nat :=
  if st < 2 then []
  else if st = 2 then offUnits2 c
  else offUnits2 c ++ (List.range c.movers).map Src.mover ++ [Src.kv, Src.fe, Src.fs, Src.itu, Src.tree, Src.au, Src.dbg]

/-- Every TX pipe writes its cached contexts back and returns its lease (R469, R150, R76). -/
def writeBackContexts (s : State) : State :=
  let s := s.updLs fun l => { l with tx := l.tx.map fun e =>
    (e.1, if e.2.cached then { e.2 with mark := e.2.nextSeq, cached := false } else e.2) }
  forAll (offUnits2 s.conf) returnLease s

/-- Landing of a unit before the state powers it off: it has nothing to drain. The event's argument names a tread and there is
none: a free value. -/
def landOff (u : Nat) (s : State) : List Ans × State := landEnter (s.open64.toNat % 2 ^ 16) u s.opened

/-! ### Entry and wake (R54, R469) -/

/-- Is a handshake under way? -/
def shaking (s : State) : Bool := s.pins.preq || s.pins.pack || s.pwr.entering

/-- POWER_STATE_ENTRY: the deepest allowed state; Landing of its units; the handshake begins. -/
def stateEntry (s : State) : List Ans × State :=
  if shaking s || s.stopped || s.pwr.phase != .firmware then ([], s)
  else match stateChosen s with
    | none => ([], s)
    | some st =>
      let s := if st < 2 then s else writeBackContexts s
      match eachAns ((offUnits s.conf st).filter fun u => !isLanding s u) landOff s with
      | (a, s) =>
        let s := s.updPwr fun p => { p with entering := true, voided := false }
        (a, s.updPins fun p => { p with ptgt := BitVec.ofNat 2 st, preq := true })

def execPowerStateEntry (s : State) : Answer := goOn (settled (stateEntry s))

/-- The handshake of a wake from S2 or S3. -/
def wakeStart (s : State) : State := s.updPins fun p => { p with ptgt := 0#2, preq := true }

/-- A wake that is due and no handshake in its way: from S1 at once, from S2 and S3 by a handshake. -/
def wakeNow (s : State) : State :=
  if s.pins.pstate = 1#2 then wakeEnds s else if s.pins.pstate = 0#2 then s.updPins fun p => { p with wake := false } else wakeStart s

/-- FP_WAKE: it voids an entry whose fp_pack_i has not come, else the wake begins, after a handshake that still runs. During a CUT
stop it waits for the resume (R443). -/
def wakeOp (s : State) : State :=
  let s := s.updPins fun p => { p with wake := true }
  if s.stopped then s else if s.pwr.entering then entryVoid s else if shaking s then s else wakeNow s

def execFpWake (s : State) : Answer := goOn (wakeOp s)

/-- The units that a state had powered off leave Landing: after a wake they have been reset. -/
def offLeave (reset : Bool) (st : Nat) (s : State) : State :=
  let us := (offUnits s.conf st).filter (isLanding s)
  forAll us landLeave (if reset then forAll us unitReset s else s)

/-- FP_PACK_RISE: the update phase, with the CCLK PLL off in S3 alone (R464). An entry with a wake pending is void and the old state
stays; fp_ptgt_o then shows it again, which the spec leaves open: DESIGN CHOICE, assumption 160. -/
def packRise (s : State) : State :=
  if !s.pins.preq then s
  else
    let s := s.updPins fun p => { p with pack := true, preq := false }
    let old := s.pins.pstate.toNat
    let target := s.pins.ptgt.toNat
    if !s.pwr.entering then
      wakeEnds ((offLeave true old s).updPwr fun p => { p with lockBit := p.lockBit || decide (old = 3) })
    else if s.pins.wake || s.pwr.voided then
      let s := (s.updPwr fun p => { p with entering := false, voided := true }).pwrEvent 1
      let stay := offUnits s.conf old
      let us := (offUnits s.conf target).filter fun u => isLanding s u && !stay.contains u
      (forAll us landLeave s).updPins fun p => { p with ptgt := p.pstate }
    else
      let s := s.updPwr fun p => { p with entering := false, voided := false, lockBit := p.lockBit && decide (target < 3) }
      rushesBlock Src.pwr Ev.power target (s.updPins fun p => { p with pstate := BitVec.ofNat 2 target })

/-- FP_PACK_FALL: the fourth phase. A wake that came meanwhile begins, and so does that of an entry from S1 that was void. -/
def packFall (s : State) : State :=
  if !s.pins.pack then s
  else
    let due := s.pins.wake || (s.pwr.voided && s.pins.pstate == 1#2)
    let s := (s.updPwr fun p => { p with voided := false }).updPins fun p => { p with pack := false }
    if due then wakeNow s else s

def execFpPackFall (s : State) : Answer := goOn (packFall s)

/-! ### The loss of a clock (R397, R54) -/

/-- Does the present power state require a clock of the surroundings to run? -/
def clockNeeded (s : State) : ClockDomain → Bool
  | .mclk | .hclk => decide (s.pins.pstate.toNat < 3)
  | .lclk0 | .lclk1 | .lclk2 | .lclk3 => decide (s.pins.pstate.toNat < 2)
  | _ => false

/-- CLOCK_LOSS: of a PLL with the clock that it makes, or of a clock of the surroundings. -/
def clockLossOp (pll : Bool) (clock : ClockDomain) (s : State) : State :=
  let s := if pll && clock == .cclk then s.updPwr fun p => { p with lockBit := false } else s
  if pll || clockNeeded s clock then raiseFault Src.pwr Kind.clkLoss noHall 0 0 s else s

def execClockLoss (pll : Bool) (clock : ClockDomain) (s : State) : Answer := goOn (clockLossOp pll clock s)

/-! ### Actions -/

/-- WAKE (R504): WAKE_REQ until the block is in S0. -/
def wakeAct (a : Act) (s : State) : State :=
  runAct a 0x201001 [.operator, .domainManager] (fun s =>
    ((Status.ok, []), if s.pins.pstate = 0#2 then s else s.updPwr fun p => { p with wakeReq := true })) s

def execWake (a : Act) (s : State) : Answer := goOn (wakeAct a s)
def execShutdown (a : Act) (arg : Bytes) (s : State) : Answer := goOn (settled (shutdownAct a arg s))

end Sys2Proof.Machine
end

