-- ==== Sys2Proof/Machine/Boot.lean ====
section
/-! DEFINITION. Power-on reset, boot, recovery and the factory region (02_ports.md R53, R58; 04_lifecycle_debug_rights.md R95, R98,
R99; 05_attestation_domain.md R116-R120; 16_hang_reset.md R427, R428; 18_power_clocks_boot.md R471-R476). -/

namespace Sys2Proof.Machine

-- One declaration at a time, so that the elaborator holds few threads (each takes stack of its own).
set_option Elab.async false

/-! ### Power-on reset (R53, R428) -/

/-- What stands after the assertion of fp_por_n_i, from the state in which the OTP writes have ended. -/
def porFrom (s : State) : State :=
  let z := State.reset
  let pins := { z.pins with
    mpPresent := s.pins.mpPresent, granules := s.pins.granules, laneUp := s.pins.laneUp, pack := s.pins.pack, wake := s.pins.wake
    por := true }
  let lc := { z.lc with otp := s.lc.otp, rights := if s.lcState = testOpen then z.lc.rights else 0 }
  { z with
    pending := s.pending, conf := s.conf, pins := pins, lc := lc, att := spdmAfterT3 s.att
    pwr := { z.pwr with flash := s.pwr.flash, phase := .held }
    mgt := { z.mgt with nextSession := s.mgt.nextSession }
    draws := s.draws, frees := s.frees, out := s.out }

/-- The assertion of fp_por_n_i: every state but OTP, flash and what stands outside the block. -/
def porState (s : State) : State := porFrom (otpInterrupted s)

/-- POWER_ON_RESET: the level of fp_por_n_i. Its rise releases the Keeper into the mask ROM. -/
def porOp (level : Bool) (s : State) : State :=
  if !level then porState s
  else if s.pins.por then (s.updPins fun p => { p with por := false }).updPwr fun p => { p with phase := .rom }
  else s

def execPowerOnReset (level : Bool) (s : State) : Answer := goOn (porOp level s)

/-! ### OTP words (R59, R98 step 7) -/

/-- OTP_PROGRAM_DONE: the word is programmed; the last word of a transition's state brings T3, and where the mask ROM has completed the
transition, PENDING_DONE. -/
def otpDone (s : State) : List Ans × State :=
  if !s.lc.otpBusy then ([], s)
  else
    let s := otpWordDone s
    if otpActive s then ([], s)
    else
      let ends := match s.lc.otpThen with | .stateWord _ => true | _ => false
      let boot := s.pwr.phase == .rom
      let s := otpJobDone s
      if !ends then ([], s)
      else match t3Order noWaiter s with
        | (a, s) => (a, if boot then s.lcEvent 0 else s)

def execOtpProgramDone (s : State) : Answer := goOn (settled (otpDone s))

/-! ### The image (R472, R475) -/

/-- The header, the body and the signature of the image slot. -/
def bootHeader (s : State) : Bytes := flashRead s slotBase 256
def bootBody (s : State) : Bytes := flashRead s (slotBase + 256) (num (bootHeader s) 4 4)
def bootSignature (s : State) : Bytes := flashRead s (slotBase + 0xFFFA0) 96

/-- Format, lengths and zero fields. -/
def bootForm (h : Bytes) : Bool :=
  num h 0 2 == 0x1A01 && num h 2 2 == 256 && num h 4 4 % 4 == 0 && decide (4 ≤ num h 4 4 ∧ num h 4 4 ≤ 786432)
    && allZero (sub h 10 6) && allZero (sub h 20 44) && allZero (sub h 208 48) && decide (num h 16 4 < num h 4 4)

/-- What is wrong with the image, as object 0x9030.03 numbers it; 0 for an image that is accepted. A slot whose header is erased is
blank. -/
def bootFault (s : State) : Nat :=
  let h := bootHeader s
  let signed := s.lcState != testOpen && !otpBlank s.lc.otp 82 12
  if h.all (· == flashFill) then 1
  else if !bootForm h then 2
  else if Crypto.digestBytes (Config.sha384 (bootBody s)) != sub h 64 48 then 3
  else if !signed then 0
  else if Crypto.digestBytes (Config.sha384 (sub h 112 96)) != otpBytes s.lc.otp 82 12 then 4
  else if !Config.ecdsaVerify (sub h 112 96) (Config.sha384 (h.take 208)) (bootSignature s) then 5
  else if num h 8 2 < s.lc.rollback then 6
  else 0

/-- The digest of MEAS1. -/
def bootDigest (s : State) : Digest := Config.sha384 (bootHeader s ++ bootBody s)

/-! ### Measurements of the mask ROM (R116, R117) -/

/-- EXTEND by the SHA-384 of some bytes. -/
def measure (n : Nat) (b : Bytes) (s : State) : State := measPut n (Crypto.digestBytes (Config.sha384 b)) s

/-- The hardware configuration record. -/
def configRecord (s : State) : Bytes :=
  natLe Config.ident.toNat 4 ++ natLe s.conf.caps.toNat 4 ++ natLe (stateByte s) 1 ++ [0#8] ++ natLe (bits s.lc.rollback 0 13) 2
    ++ natLe s.deviceId 8 ++ List.replicate 12 0#8

/-- One DICE step by the code that runs. -/
def dice (k : Nat) (s : State) : State := (diceStepOp k s).2

/-! ### A pending transition (R99) -/

/-- The mask ROM runs steps 2 to 6 of R98; step 7 follows the last word. -/
def romTransition (t : Nat) (s : State) : State :=
  let s := wipeAllOp (intentDone s)
  let s := if 3 ≤ t then (flashEraseFrom policyBase s).updLc fun l => { l with eraseDone := true } else s
  let l0 := if t = scrap then (List.range 8).map fun w => (w, otpFull) else []
  otpStart (l0 ++ [(95 + t, otpFull)]) (.stateWord t) s

/-! ### The policy area (R473) -/

/-- The length of a record of a type. -/
def policyLength (t : Nat) : Option Nat :=
  match t with
  | 1 => some 36
  | 2 => some 12
  | 3 => some 20
  | 0xFFFF => some 4
  | _ => none

/-- The records from the start of the area, and whether an end record closes them. -/
def policyRecords : Nat → Bytes → List Bytes × Bool
  | 0, _ => ([], false)
  | fuel + 1, b =>
    let n := num b 2 2
    if b.length < 4 ∨ policyLength (num b 0 2) ≠ some n ∨ b.length < n then ([], false)
    else if num b 0 2 = 0xFFFF then ([b.take n], true)
    else match policyRecords fuel (b.drop n) with
      | (l, e) => (b.take n :: l, e)

/-- The registers of one record. -/
def policyLoad (r : Bytes) (s : State) : State :=
  match num r 0 2 with
  | 1 => forAll (List.range 8) (fun w s => policyWrite w (BitVec.ofNat 32 (num r (4 + 4 * w) 4)) s) s
  | 2 => hrCfgWrite (num r 8 4) (hrWindowWrite (num r 4 4) s)
  | 3 => forAll (List.range 4) (fun k s => feWrite (0x100 + 4 * k) (num r (4 + 4 * k) 4) s) s
  | _ => s

/-- Every record is measured, in order; without an end record the registers keep their reset values. -/
def policyArea (s : State) : State :=
  match policyRecords 16384 (flashRead s policyBase 0x10000) with
  | (l, good) =>
    let s := forAll l (measure 3) s
    if good then forAll l policyLoad s else s

/-- DM_ANCHOR's record at the start of the owner data: measured after the policy records (R504). -/
def anchorLoad (s : State) : State :=
  let b := flashRead s ownerBase 52
  if num b 0 2 = 0xD401 ∧ allZero (sub b 2 2) then
    (measPut 3 (b.drop 4) s).updMgt fun m => { m with anchor := Crypto.digestOf (b.drop 4) }
  else s.updMgt fun m => { m with anchor := 0#384 }

/-! ### Firmware's first steps (R474, steps 9 and 10) -/

/-- FE_SAVE_BASE and the arena after power-on: firmware's choice among the legal values, with the save records below the first GiB
boundary and the arena above it. Free values. -/
def firmMemory (s : State) : State :=
  let gib := s.pins.granules / 512
  let save := (1 + s.open64.toNat % 255) * 0x400000
  let s := s.opened
  let base := 1 + s.open64.toNat % max 1 (gib - 1)
  let s := s.opened
  let size := 1 + s.open64.toNat % max 1 (min 1024 (16 * (gib - base)))
  let s := s.opened
  (s.updFe fun x => { x with saveBase := BitVec.ofNat 64 save }).updItu fun u => { u with
    arena := BitVec.ofNat 64 (base * 0x40000000), arenaSize := BitVec.ofNat 32 size }

/-- After T3 every SEALED hall but those FREE or SCRUBBING is retired, and a retire that had drained goes on (R427). -/
def retireAfterT3 (s : State) : List Ans × State :=
  eachAns ((usedHalls s).map (·.1)) (fun hall s =>
    let h := hallOf s hall
    match h.state with
    | .scrubbing => ([], s)
    | .retiring =>
      let s := if isSealed h then updHall hall (fun h => { h with retireBy := .reset }) s else s
      ([], retireStep7 hall s)
    | .awaiting => if isSealed h then destroyAwaiting hall s else ([], s)
    | _ => ([], if isSealed h then retireBegin hall .reset s else s)) s

/-- The port enables are raised, those of the memory ports that are present: DESIGN CHOICE, assumption 161. -/
def raiseEnables (s : State) : State := s.updPins fun p => { p with
  hpEn := true, cpEn := true, miiEn := true, lpEn := BitVec.ofNat 4 (2 ^ s.conf.groups - 1), mpEn := p.mpPresent }

/-- Firmware runs. -/
def firmwareStart (s : State) : List Ans × State :=
  let s := anchorLoad (policyArea (dice 2 s))
  let s := s.updFcu fun c => { c with lock := true }
  let s := if s.pwr.afterT3 then s else firmMemory s
  let s := (raiseEnables s).updPwr fun p => { p with phase := .firmware }
  if s.pwr.afterT3 then retireAfterT3 s else ([], s)

/-- The mask ROM enters recovery for a reason: no enable but mii, and the DeviceID key is kept (R476). -/
def enterRecovery (reason : Nat) (s : State) : State :=
  ((dice 0 s).updPins fun p => { p with miiEn := true }).updPwr fun p => { p with
    phase := .recovery, recoveryBit := true, reason := reason, erased := [] }

/-! ### The mask ROM (R474, steps 1 to 8) -/

/-- SFDP is read and the mode and divider are set (R463). -/
def xspiSelect (s : State) : State :=
  match Config.flash8d with
  | some d => s.updPwr fun p => { p with mode8d := true, xspiDiv := d }
  | none => s

/-- The image is accepted: a digest other than before a T3 destroys every key slot (R74). -/
def imageAccepted (s : State) : State :=
  let d := bootDigest s
  let secver := sub (bootHeader s) 8 2
  let s := if s.pwr.afterT3 && s.pwr.bootImage != d then destroySlots (s.kv.slots.map (·.1)) s else s
  let s := measure 1 secver (measPut 1 (Crypto.digestBytes d) s)
  dice 1 (dice 0 ((measure 2 (configRecord s) s).updPwr fun p => { p with bootImage := d, sram := bootBody s, secver := BitVec.ofNat 16 (num secver 0 2) }))

/-- The first boot in TEST_OPEN programs L0 from the entropy source; the mask ROM goes on when it is there (R91, R92). -/
def secretStart (s : State) : State :=
  otpStart (eccWords 0 (natLe (s.draw.setWidth 256).toNat 32) 8) .group s.drew

/-- The server identity of SCRAP (R489): a self-signed certificate of a key pair drawn at this boot, with the device ID. -/
def scrapIdentity (s : State) : State :=
  let d := BitVec.ofNat 384 (s.draw.toNat % (Config.p384Order - 1) + 1)
  let pub := Config.ecdsaPublic d
  s.drew.updAt fun a => { a with layerKey := d, pub := pub, certs := [signedCert pub pub d (natBe s.deviceId 8)] }

/-- MASK_ROM_BOOT. While OTP words of a pending transition are being programmed it waits for them. -/
def romBoot (s : State) : List Ans × State :=
  if s.pwr.phase ≠ .rom ∨ otpActive s then ([], s)
  else if s.lcState = testOpen ∧ otpBlank s.lc.otp 0 8 then ([], secretStart s)
  else
    let s := measure 0 Config.maskRom (s.updPwr fun p => { p with lockBit := true })
    let s := s.updLc fun l => { l with rollback := rollbackCount l.otp }
    match s.lcPending with
    | some t => ([], romTransition t s)
    | none =>
      if s.lcState = scrap then
        ([], ((scrapIdentity s).updPins fun p => { p with miiEn := true }).updPwr fun p => { p with phase := .scrap })
      else
        let s := xspiSelect s
        match bootFault s with
        | 0 => firmwareStart (imageAccepted s)
        | r => ([], enterRecovery r s)

def execMaskRomBoot (s : State) : Answer := goOn (settled (romBoot s))

/-! ### Recovery (R476) -/

/-- Bytes programmed: bits go from 1 to 0 only. -/
def programOver (at' : Nat) (b : Bytes) (s : State) : State :=
  flashWrite at' ((b.zip (flashRead s at' b.length)).map fun p => p.1 &&& p.2) s

/-- The sectors of the slot that a span touches. -/
def sectorsOf (off n : Nat) : List Nat := (List.range (cdiv (off % 4096 + n) 4096)).map fun k => off / 4096 + k

/-- RECOVERY_WRITE: the first write to a sector begins it, and erases it. -/
def recoveryWriteAct (a : Act) (arg : Bytes) (s : State) : State :=
  let off := num arg 0 4
  let n := arg.length - 4
  let new := (sectorsOf off n).filter fun k => !s.pwr.erased.contains k
  let ok := mayRecover s [.factory, .operator] a && decide (4 < arg.length ∧ arg.length ≤ 1028 ∧ off + n ≤ slotBytes)
    && new.all (fun k => off == 4096 * k)
  if !ok then actDone a.sess 0x903001 Status.permission [] false s
  else
    let s := forAll new (fun k s => flashErase (slotBase + 4096 * k) 4096 s) s
    let s := s.updPwr fun p => { p with erased := p.erased ++ new }
    actDone a.sess 0x903001 Status.ok [] false (programOver (slotBase + off) (arg.drop 4) s)

def execRecoveryWrite (a : Act) (arg : Bytes) (s : State) : Answer := goOn (recoveryWriteAct a arg s)

/-- RECOVERY_COMMIT: a signature that does not verify is AUTH_FAIL, every other rejection PERMISSION; an accepted image brings T3. -/
def recoveryCommitAct (a : Act) (s : State) : List Ans × State :=
  if !mayRecover s [.factory, .operator] a then ([], actDone a.sess 0x903002 Status.permission [] false s)
  else match bootFault s with
    | 0 => t3Order noWaiter (actDone a.sess 0x903002 Status.ok [] false s)
    | 5 => ([], actDone a.sess 0x903002 Status.authFail [] false s)
    | _ => ([], actDone a.sess 0x903002 Status.permission [] false s)

def execRecoveryCommit (a : Act) (s : State) : Answer := goOn (settled (recoveryCommitAct a s))

/-! ### The factory region (R471, R504) -/

/-- FACTORY_CERT_WRITE: in TEST_OPEN, bytes inside the factory region. -/
def factoryCertAct (a : Act) (arg : Bytes) (s : State) : State :=
  let off := num arg 0 4
  runAct a 0xF01001 [.factory] (fun s =>
    if s.lcState = testOpen ∧ 4 < arg.length ∧ arg.length ≤ 1028 ∧ off + (arg.length - 4) ≤ slotBase then
      ((Status.ok, []), factoryWrite off (arg.drop 4) s)
    else ((Status.permission, []), s)) s

def execFactoryCertWrite (a : Act) (arg : Bytes) (s : State) : Answer := goOn (factoryCertAct a arg s)

end Sys2Proof.Machine
end

