-- ==== Sys2Proof/Machine/Tdisp.lean ====
section
/-! DEFINITION. IDE streams and keys, the DOE capability, IDE_KM and TDISP (05_attestation_domain.md R126, R128, R134-R137, R139,
R147). The layouts and codes of the cited PCIe, IDE_KM and TDISP specifications are PRESUMED, assumption 35. -/

namespace Sys2Proof.Machine

-- One declaration at a time, so that the elaborator holds few threads (each takes stack of its own).
set_option Elab.async false

/-! ### IDE streams (R134, R135) -/

/-- The stream's enable bit, its TEE-Limited bit, its Stream ID. -/
def ideEnabled (s : State) (i : Nat) : Bool := bitAt (ideReg s i 1) 0
def ideTee (s : State) (i : Nat) : Bool := bitAt (ideReg s i 1) 23
def ideId (s : State) (i : Nat) : Nat := bits (ideReg s i 1) 24 8

/-- Has every sub-stream an active key set in both directions? -/
def ideKeyed (s : State) (i : Nat) : Bool :=
  (List.range 3).all fun k => [true, false].all fun tx => (List.range 2).any fun ks => (ideKeyOf s i k tx ks).active

/-- The hall whose TDI is bound to a stream, locked or running. -/
def boundHall (s : State) (i : Nat) : Option Nat :=
  ((usedHalls s).find? fun e => (e.2.tdi == .locked || e.2.tdi == .run) && e.2.stream == some i).map (·.1)

/-- The TDI bound to a stream enters ERROR (R136). -/
def boundError (i : Nat) (s : State) : State := match boundHall s i with | some h => tdiError h s | none => s

/-- A stream is Secure while it is enabled, has its keys and has had no integrity failure; when it is so no longer, IDE_INSECURE. -/
def ideSettle (i : Nat) (s : State) : State :=
  let now := ideEnabled s i && ideKeyed s i && !(ideOf s i).insecure
  let was := (ideOf s i).secure
  let s := updIde i (fun x => { x with secure := now }) s
  if was && !now then boundError i (s.atEvent 3) else s

/-- An IDE integrity failure: the stream is Insecure until software disables it, with its fault (R135). -/
def ideFailure (natural : Bool) (i : Nat) (s : State) : State :=
  let hall := (boundHall s i).getD noHall
  let s := reportFault natural Src.hostPipes Kind.ideFail hall 0 0 s
  let s := boundError i (updIde i (fun x => { x with insecure := true, secure := false }) s)
  s.atEvent 3

/-! ### IDE_KM (R135) -/

/-- Is there such a DOE session, past its FINISH? -/
def doeSession (s : State) (sid : Nat) : Bool := match spdmOf s .doe sid with | some x => x.finished | none => false

/-- Are the operands those of a key register? -/
def ideNamed (stream sub' ks : Nat) : Bool := decide (stream ≤ 64 ∧ sub' < 3 ∧ ks < 2)

/-- The IDE capability of R134: link and selective streams, PCRC, IDE_KM, AES-GCM-256, 64 selective streams, TEE-Limited. -/
def ideCapability : Nat := put 24 1 + put 16 63 + put 6 1 + put 5 1 + put 1 1 + 1

/-- Response codes of IDE_KM with their bodies. -/
abbrev KmAnswer := Byte × Bytes

/-- QUERY. -/
def kmQuery (s : State) : KmAnswer := (1#8, natLe ideCapability 4 ++ natLe (ideReg s 64 1) 4)

/-- The acknowledgement's echo of a key register's name. -/
def kmName (stream sub' : Nat) (tx : Bool) (ks : Nat) : Bytes := natLe stream 1 ++ natLe (put 4 sub' + put 1 (b2n tx) + ks) 1

/-- KEY_PROG: a key set that is not active takes its key. A write to the bound stream's IDE registers is an error of its TDI. -/
def kmProg (stream sub' : Nat) (tx : Bool) (ks : Nat) (key : BitVec 256) (s : State) : KmAnswer × State :=
  let ack (st : Nat) : KmAnswer := (3#8, natLe st 1 ++ kmName stream sub' tx ks)
  if !ideNamed stream sub' ks then (ack 3, s)
  else if (ideKeyOf s stream sub' tx ks).active then (ack 4, s)
  else (ack 0, boundError stream (updIdeKey stream sub' tx ks (fun _ => 
    { loaded := true, active := false, recent := false, key := key, count := 0 }) s))

/-- K_SET_GO: a loaded key set becomes active. -/
def kmGo (stream sub' : Nat) (tx : Bool) (ks : Nat) (s : State) : KmAnswer × State :=
  let ack : KmAnswer := (6#8, kmName stream sub' tx ks)
  if !ideNamed stream sub' ks || !(ideKeyOf s stream sub' tx ks).loaded then (ack, s)
  else
    let s := updIdeKey stream sub' tx (1 - ks) (fun k => { k with recent := false }) s
    (ack, ideSettle stream (updIdeKey stream sub' tx ks (fun k => { k with active := true, recent := true }) s))

/-- K_SET_STOP: the key set's registers are zeroed. -/
def kmStop (stream sub' : Nat) (tx : Bool) (ks : Nat) (s : State) : KmAnswer × State :=
  let ack : KmAnswer := (6#8, kmName stream sub' tx ks)
  if !ideNamed stream sub' ks then (ack, s)
  else (ack, ideSettle stream (updIdeKey stream sub' tx ks (fun _ => default) s))

/-- A message of a DOE session; without the session it is ERROR InvalidSession. -/
def kmRow (sid : Nat) (f : State → KmAnswer × State) (s : State) : State :=
  if !doeSession s sid then s.emit (.spdmError .doe (BitVec.ofNat 8 errInvalidSession))
  else match f s with
    | (r, s) => (spdmCounted .doe sid s).emit (.ideKm sid r.1 r.2)

def execIdeKmQuery (sid : Nat) (s : State) : Answer := goOn (kmRow sid (fun s => (kmQuery s, s)) s)
def execKeyProg (sid stream sub' : Nat) (tx : Bool) (ks : Nat) (key : BitVec 256) (s : State) : Answer :=
  goOn (settled ([], kmRow sid (kmProg stream sub' tx ks key) s))
def execKSetGo (sid stream sub' : Nat) (tx : Bool) (ks : Nat) (s : State) : Answer := goOn (kmRow sid (kmGo stream sub' tx ks) s)
def execKSetStop (sid stream sub' : Nat) (tx : Bool) (ks : Nat) (s : State) : Answer :=
  goOn (settled ([], kmRow sid (kmStop stream sub' tx ks) s))

/-! ### TDISP (R136, R137, R139) -/

/-- Error codes. -/
def tdErrState : Nat := 0x0004
def tdErrBusy : Nat := 0x0003
def tdErrInterface : Nat := 0x0101
def tdErrNonce : Nat := 0x0102
def tdErrConfig : Nat := 0x0104

/-- A response, an error, or none yet. -/
inductive TdAnswer where
  | rsp (code : Byte) (body : Bytes)
  | err (code : Nat)
  | later
deriving DecidableEq, Repr, Inhabited

/-- Is there such a TDI: that of a SEALED hall that exists? -/
def tdiThere (s : State) (hall : Nat) : Bool :=
  decide (hall < s.conf.halls) && (hallOf s hall).state != .free && isSealed (hallOf s hall)

/-- A request to a TDI. -/
def tdRequest (hall : Nat) (f : State → TdAnswer × State) (s : State) : TdAnswer × State :=
  if tdiThere s hall then f s else (.err tdErrInterface, s)

def tdVersion (s : State) : TdAnswer × State := (.rsp 0x01#8 [1#8, 0x10#8], s)

/-- Capabilities: the seven requests served. -/
def tdCapabilities (s : State) : TdAnswer × State :=
  (.rsp 0x02#8 (natLe 0 4 ++ natLe 0xFE 16 ++ natLe 0 2 ++ natLe 0 3 ++ [48#8, 1#8, 1#8]), s)

/-- Is a hall's FLR running? -/
def flrRuns (s : State) (hall : Nat) : Bool := s.pins.flr.contains (hall + 1)

/-- The stream that a lock names: selective, Secure, TEE-Limited, bound to no other TDI, with the RID association of this VF alone
and the address association of its BAR. -/
def lockStreamOk (s : State) (hall i : Nat) : Bool :=
  let base := Config.barBase (hall + 1)
  let low (n : Nat) : Nat := put 20 (bits (ideReg s i 5) n 12)
  decide (i < 64) && (ideOf s i).secure && ideTee s i && (boundHall s i).isNone
    && bitAt (ideReg s i 4) 0 && bits (ideReg s i 3) 8 16 == hall + 1 && bits (ideReg s i 4) 8 16 == hall + 1
    && bitAt (ideReg s i 5) 0 && decide (low 8 + put 32 (ideReg s i 7) ≤ base)
    && decide (base + 0xFFFF ≤ low 20 + 0xFFFFF + put 32 (ideReg s i 6))

/-- LOCK_INTERFACE_REQUEST, with the offset that the report gives the MMIO range. -/
def tdLock (hall stream : Nat) (off : DWord) (s : State) : TdAnswer × State :=
  let h := hallOf s hall
  if h.state ≠ .live ∨ flrRuns s hall ∨ h.tdi ≠ .unlocked then (.err tdErrState, s)
  else if h.lockBusy then (.err tdErrBusy, s)
  else if !(s.lcState == field && s.dom.joined && lockStreamOk s hall stream) then (.err tdErrConfig, s)
  else
    let n : BitVec 256 := s.draw.setWidth 256
    (.rsp 0x03#8 (natLe n.toNat 32),
      updHall hall (fun h => { h with
        tdi := .locked, lockNonce := n, mmioOff := off, stream := some stream }) s.drew)

/-- The interface report: DMA without PASID, an MSI-X table of 8 entries, and one MMIO range, the 64 KiB BAR in pages of 4 KiB at the
reporting offset of the lock. -/
def tdReportBytes (hall : Nat) (s : State) : Bytes :=
  natLe 2 2 ++ natLe 0 2 ++ natLe 7 2 ++ natLe 0 2 ++ natLe 0 4 ++ natLe 1 4
    ++ natLe ((Config.barBase (hall + 1) + (hallOf s hall).mmioOff.toNat) / 4096) 8 ++ natLe 16 4 ++ natLe 0 4 ++ natLe 0 4

/-- GET_DEVICE_INTERFACE_REPORT: a portion of the report, what remains behind it, and its bytes. -/
def tdReport (hall off len : Nat) (s : State) : TdAnswer × State :=
  let t := (hallOf s hall).tdi
  let p := sub (tdReportBytes hall s) off len
  if t = .locked ∨ t = .run then
    (.rsp 0x04#8 (natLe p.length 2 ++ natLe ((tdReportBytes hall s).length - off - p.length) 2 ++ p), s)
  else (.err tdErrState, s)

def tdState (hall : Nat) (s : State) : TdAnswer × State := (.rsp 0x05#8 (natLe (tdiCode (hallOf s hall).tdi) 1), s)

/-- START_INTERFACE_REQUEST. -/
def tdStart (hall : Nat) (nonce : BitVec 256) (s : State) : TdAnswer × State :=
  let h := hallOf s hall
  if h.tdi ≠ .locked then (.err tdErrState, s)
  else if nonce ≠ h.lockNonce then (.err tdErrNonce, s)
  else (.rsp 0x06#8 [], updHall hall (fun h => { h with tdi := .run, lockNonce := 0#256 }) s)

/-- The answer of STOP_INTERFACE_REQUEST: the TDI is in CONFIG_UNLOCKED. -/
def tdStopped (hall : Nat) (s : State) : TdAnswer × State :=
  (.rsp 0x07#8 [], updHall hall (fun h => { h with tdi := .unlocked, stopPending := false, lockNonce := 0#256, stream := none }) s)

/-- The response of STOP_INTERFACE_REQUEST stays due. -/
def tdStopWaits (hall : Nat) (s : State) : TdAnswer × State :=
  (.later, updHall hall (fun h => { h with stopPending := true, lockBusy := true }) s)

/-- STOP_INTERFACE_REQUEST: at once where nothing is to be stopped, or after step 2 of the retire that it begins or joins. A TDI in
ERROR whose retire is over is moved without a second one (R361). -/
def tdStop (hall : Nat) (s : State) : TdAnswer × State :=
  let h := hallOf s hall
  if h.tdi = .unlocked then (.rsp 0x07#8 [], s)
  else match h.state with
    | .retiring => if h.drained then tdStopped hall s else tdStopWaits hall s
    | .live | .frozen => if h.tdi = .error then tdStopped hall s else tdStopWaits hall (retireBegin hall .stop s)
    | _ => if h.tdi = .error then tdStopped hall s else (.err tdErrState, s)

/-- A response leaves. -/
def tdSend (hall : Nat) (r : TdAnswer × State) : State :=
  match r.1 with
  | .rsp code body => r.2.emit (.tdisp hall code body)
  | .err code => r.2.emit (.tdispError hall code)
  | .later => r.2

def execGetTdispVersion (hall : Nat) (s : State) : Answer := goOn (tdSend hall (tdRequest hall tdVersion s))
def execGetTdispCapabilities (hall : Nat) (s : State) : Answer := goOn (tdSend hall (tdRequest hall tdCapabilities s))
def execLockInterfaceRequest (hall stream : Nat) (s : State) : Answer := goOn (tdSend hall (tdRequest hall (tdLock hall stream 0#64) s))
def execGetDeviceInterfaceReport (hall : Nat) (s : State) : Answer := goOn (tdSend hall (tdRequest hall (tdReport hall 0 65535) s))
def execGetDeviceInterfaceState (hall : Nat) (s : State) : Answer := goOn (tdSend hall (tdRequest hall (tdState hall) s))
def execStartInterfaceRequest (hall : Nat) (nonce : BitVec 256) (s : State) : Answer :=
  goOn (tdSend hall (tdRequest hall (tdStart hall nonce) s))
def execStopInterfaceRequest (hall : Nat) (s : State) : Answer :=
  goOn (settled ([], tdSend hall (tdRequest hall (tdStop hall) s)))

/-! ### Vendor-defined messages of a DOE session (R128) -/

/-- The stream of a Stream ID: a selective one, else the link stream's. -/
def ideById (s : State) (id : Nat) : Nat :=
  match firstFrom (fun i => (ideOf s i).regs != [] && ideId s i == id) 64 0 with
  | some i => i
  | none => if ideId s 64 == id then 64 else 65

/-- An IDE_KM object: the protocol byte, the object, then its fields. -/
def kmMessage (m : Bytes) (s : State) : Bytes × State :=
  let stream := ideById s (num m 4 1)
  let info := num m 6 1
  let r : KmAnswer × State := match num m 1 1 with
    | 0 => (kmQuery s, s)
    | 2 => kmProg stream (bits info 4 4) (bitAt info 1) (bits info 0 1) (BitVec.ofNat 256 (num m 8 32)) s
    | 4 => kmGo stream (bits info 4 4) (bitAt info 1) (bits info 0 1) s
    | 5 => kmStop stream (bits info 4 4) (bitAt info 1) (bits info 0 1) s
    | _ => ((0xFF#8, []), s)
  ([0#8, r.1.1] ++ r.1.2, r.2)

/-- What the request of a type, with the fields `p`, does for a hall. -/
def tdWork (type hall : Nat) (p : Bytes) (s : State) : TdAnswer × State := match type with
  | 0x81 => tdVersion s
  | 0x82 => tdCapabilities s
  | 0x83 => tdLock hall (ideById s (num p 2 1)) (BitVec.ofNat 64 (num p 4 8)) s
  | 0x84 => tdReport hall (num p 0 2) (num p 2 2) s
  | 0x85 => tdState hall s
  | 0x86 => tdStart hall (BitVec.ofNat 256 (num p 0 32)) s
  | 0x87 => tdStop hall s
  | _ => (.err 0x0007, s)

/-- The header of a TDISP response: version, type, the interface's function number. -/
def tdHead (code : Byte) (func : Nat) : Bytes := [0x10#8, code, 0#8, 0#8] ++ natLe func 4 ++ List.replicate 8 0#8

/-- A TDISP message behind its protocol byte: version, type, the interface's function number, then its fields. -/
def tdMessage (m : Bytes) (s : State) : Bytes × State :=
  let func := num m 5 4
  let p := m.drop 17
  let hall := func - 1
  match (if func = 0 then (TdAnswer.err tdErrInterface, s) else tdRequest hall (tdWork (num m 2 1) hall p) s) with
  | (.rsp code body, s) => (1#8 :: tdHead code func ++ body, s)
  | (.err code, s) => (1#8 :: tdHead 0x7F#8 func ++ natLe code 4 ++ natLe 0 4, s)
  | (.later, s) => ([], s)

/-- VENDOR_DEFINED_REQUEST of the PCI-SIG: IDE_KM or TDISP. -/
def vendorMessage (m : Bytes) (s : State) : SpdmAnswer × State :=
  let p := m.drop 11
  if num m 4 2 ≠ 3 ∨ 2 ≤ num p 0 1 then (spdmErr errUnsupported, s)
  else match (if num p 0 1 = 0 then kmMessage p s else tdMessage p s) with
    | (r, s) => ((0x7E#8, [0#8, 0#8] ++ sub m 4 5 ++ natLe r.length 2 ++ r), s)

/-- What a DOE session carries besides SPDM: VENDOR_DEFINED_REQUEST, once it is established (R128). -/
def doeVendor (x : Spdm) (p : Bytes) (s : State) : Option (SpdmAnswer × State) :=
  if num p 1 1 = 0xFE ∧ x.finished then
    match vendorMessage p s with
    | (r, s) => some (r, spdmCounted .doe x.sid s)
  else none

/-- The TDI whose STOP a record of a session asks for, with the session and the vendor header of its response. -/
def doeStop (m : Bytes) (s : State) : Option (Nat × Nat × Bytes) :=
  match spdmOf s .doe (num m 0 4) with
  | none => none
  | some x =>
    match Config.securedOpen x.secret m with
    | none => none
    | some p =>
      let q := p.drop 11
      if x.finished && num p 1 1 == 0xFE && num p 4 2 == 3 && num q 0 1 == 1 && num q 2 1 == 0x87 && num q 5 4 != 0 then
        some (x.sid, num q 5 4 - 1, sub p 4 5)
      else none

/-! ### The configuration space of function 0 (R126) -/

/-- A response object of a type in the mailbox. -/
def doeReply (kind : Nat) (r : Bytes) (s : State) : State :=
  let w := cdiv r.length 4
  s.updAt fun a => { a with doeBox :=
    { inbuf := [], outbuf := natLe 1 2 ++ natLe kind 2 ++ natLe (w + 2) 4 ++ fit r (4 * w), ready := true, error := false, waits := none } }

/-- A data object has been written: its response, at once, but for a STOP_INTERFACE_REQUEST that has to wait for its drain, which
leaves the mailbox busy (R136). -/
def doeGo (s : State) : State :=
  let b := s.att.doeBox.inbuf
  let kind := num b 2 1
  let n := num b 4 4
  let body := b.drop 8
  let fail : State := s.updAt fun a => { a with doeBox := { (default : DoeBox) with error := true } }
  if num b 0 2 ≠ 1 ∨ n < 3 ∨ 1024 < n ∨ b.length ≠ 4 * n then fail
  else match kind with
    | 0 =>
      let d := doeDiscoveryOf (num body 0 1)
      doeReply 0 (natLe d.1 2 ++ natLe d.2.1 1 ++ natLe d.2.2 1) s
    | 1 => match spdmPlain .doe 0 body s with | (r, s) => doeReply 1 r s
    | 2 =>
      let stop := doeStop body s
      match spdmSecured .doe body doeVendor s with
      | (r, s) =>
        match stop with
        | some w =>
          if (hallOf s w.2.1).stopPending then s.updAt fun a => { a with doeBox := { (default : DoeBox) with waits := some w } }
          else doeReply 2 r s
        | none => doeReply 2 r s
    | _ => fail

/-- The response that a STOP_INTERFACE_REQUEST of the DOE instance was waiting for. -/
def doeStopped (hall : Nat) (s : State) : Option State :=
  match s.att.doeBox.waits with
  | none => none
  | some (sid, h, head) =>
    if h ≠ hall then none
    else
      let body := tdHead 0x07#8 (hall + 1)
      match spdmOf s .doe sid with
      | none => some (doeReply 2 (spdmBytes (spdmErr errInvalidSession)) s)
      | some x => some (doeReply 2 (Config.securedSeal x.secret (spdmBytes (0x7E#8, [0#8, 0#8] ++ head ++ natLe (1 + body.length) 2 ++ 1#8 :: body))) s)

/-- STOP_INTERFACE_ANSWER: after step 2 of the retire (R361). -/
def stopAnswer (hall : Nat) (s : State) : State :=
  let h := hallOf s hall
  if h.stopPending && (h.drained || h.state != .retiring) then
    match tdStopped hall s with
    | (r, s) => match doeStopped hall s with
      | some s => s
      | none => tdSend hall (r, s)
  else s

def execStopInterfaceAnswer (hall : Nat) (s : State) : Answer := goOn (stopAnswer hall s)

/-- The stream and register of an offset in the IDE capability. -/
def ideAt (off : Nat) : Option (Nat × Nat) :=
  if off = 0x424 then some (64, 1) else if off = 0x428 then some (64, 2)
  else if 0x42C ≤ off ∧ off < 0xC2C then some ((off - 0x42C) / 32, (off - 0x42C) % 32 / 4)
  else none

/-- A configuration read. -/
def cfgRead (s : State) (off : Nat) : Nat :=
  match off with
  | 0x400 => put 20 0x418 + put 16 1 + 0x2E
  | 0x404 => 0
  | 0x408 => 0
  | 0x40C => put 31 (b2n s.att.doeBox.ready) + put 2 (b2n s.att.doeBox.error) + b2n s.att.doeBox.waits.isSome
  | 0x414 => num s.att.doeBox.outbuf 0 4
  | 0x418 => put 16 1 + 0x30
  | 0x41C => ideCapability
  | _ =>
    match ideAt off with
    | some (_, 0) => 1
    | some (i, 2) => if (ideOf s i).secure then 2 else 0
    | some (i, r) => ideReg s i r
    | none => 0

/-- A configuration write. -/
def cfgWrite (off : Nat) (v : Word) (s : State) : State :=
  match off with
  | 0x408 =>
    if bitAt v.toNat 0 then s.updAt fun a => { a with doeBox := default }
    else if bitAt v.toNat 31 && s.att.doeBox.waits.isNone then doeGo s else s
  | 0x410 => s.updAt fun a => { a with doeBox := { a.doeBox with inbuf := (a.doeBox.inbuf ++ natLe v.toNat 4).take 4100 } }
  | 0x414 => s.updAt fun a =>
    let rest := a.doeBox.outbuf.drop 4
    { a with doeBox := { a.doeBox with outbuf := rest, ready := a.doeBox.ready && !rest.isEmpty } }
  | _ =>
    match ideAt off with
    | none | some (_, 0) | some (_, 2) => s
    | some (i, r) =>
      let s := boundError i (updIde i (fun x => { x with
        regs := x.regs.set r v, insecure := x.insecure && (r != 1 || bitAt v.toNat 0) }) s)
      ideSettle i s

end Sys2Proof.Machine
end

