-- ==== Sys2Proof/Machine/HostPort.lean ====
section
/-! DEFINITION. The host port: a whole TLP from the host port controller, its checks and where it goes (02_ports.md R39-R42;
01_architecture.md R21; 05_attestation_domain.md R126, R135, R138). -/

namespace Sys2Proof.Machine

-- One declaration at a time, so that the elaborator holds few threads (each takes stack of its own).
set_option Elab.async false

/-! ### Pages -/

/-- A read of `n` bytes of a page: aligned pieces of 8 bytes, else of 4, each read whole. -/
def pageGet : Nat → Bus → Nat → Nat → State → Bytes × State
  | 0, _, _, _, s => ([], s)
  | fuel + 1, bus, a, n, s =>
    if n = 0 then ([], s)
    else
      let k := if a % 8 = 0 ∧ 8 ≤ n then 8 else min n (4 - a % 4)
      let r : Bytes × State := if k = 8 then (natLe (busRead8 bus a s) 8, s)
        else match busRead bus a s with | (v, s) => (sub (natLe v 4) (a % 4) k, s)
      match pageGet fuel bus (a + k) (n - k) r.2 with
      | (b, s) => (r.1 ++ b, s)

/-- A write of bytes to a page, in the same pieces; bytes of a word that are not written keep its value. -/
def pagePut : Nat → Bus → Nat → Bytes → State → List Ans × State
  | 0, _, _, _, s => ([], s)
  | fuel + 1, bus, a, b, s =>
    if b.isEmpty then ([], s)
    else
      let k := if a % 8 = 0 ∧ 8 ≤ b.length then 8 else min b.length (4 - a % 4)
      let r := if k = 8 then busWrite8 bus a (num b 0 8) s
        else busWrite bus a (num (overwrite (natLe (busReg s bus (a / 4 * 4)) 4) (a % 4) (b.take k)) 0 4) s
      match pagePut fuel bus (a + k) (b.drop k) r.2 with
      | (y, s) => (r.1 ++ y, s)

/-! ### IDE (R134, R135) -/

/-- The header that a TLP's MAC covers, and its data as it came. -/
def tlpHead (t : Tlp) (tee : Bool) : Bytes :=
  match t.kind with
  | .memRead off len => Config.ideHeader 0 t.func off len tee
  | .memWrite off data => Config.ideHeader 1 t.func off data.length tee
  | .cfgRead off => Config.ideHeader 2 t.func off 4 tee
  | .cfgWrite off _ => Config.ideHeader 3 t.func off 4 tee
  | .completion tag st data => Config.ideHeader 4 t.func (put 16 st.toNat + tag) data.length tee
  | .message => Config.ideHeader 5 t.func 0 0 tee

def tlpData (t : Tlp) : Bytes :=
  match t.kind with
  | .memWrite _ data | .completion _ _ data => data
  | .cfgWrite _ v => natLe v.toNat 4
  | _ => []

/-- A TLP with its data opened. -/
def tlpWith (t : Tlp) (b : Bytes) : Tlp :=
  match t.kind with
  | .memWrite off _ => { t with kind := .memWrite off b }
  | .completion tag st _ => { t with kind := .completion tag st b }
  | .cfgWrite off _ => { t with kind := .cfgWrite off (BitVec.ofNat 32 (num b 0 4)) }
  | _ => t

/-- The check of an IDE TLP, and the TLP opened where it is taken. Without an active key its stream does not serve it; a MAC or PCRC
that fails is an integrity failure. -/
def ideCheck (t : Tlp) (s : State) : Option Tlp × State :=
  match t.ide with
  | none => (some t, s)
  | some x =>
    if !(ideOf s x.stream).secure || !ideNamed x.stream x.sub x.ks || !(ideKeyOf s x.stream x.sub false x.ks).active then (none, s)
    else
      let plain := ideOpened s x.stream x.sub x.ks (tlpHead t x.t) (tlpData t) (natBe x.mac.toNat 12)
      if checkFails plain.isNone Src.hostPipes Kind.ideFail s then (none, ideFailure plain.isNone x.stream s)
      else (some (tlpWith t (plain.getD [])), updIdeKey x.stream x.sub false x.ks (fun k => { k with count := k.count + 1 }) s)

/-- May a TLP reach its function: a TDI that is locked or in RUN takes only those of its bound stream with T = 1 (R138)? -/
def tdiTakes (s : State) (t : Tlp) : Bool :=
  let h := hallOf s (t.func - 1)
  t.func == 0 || !(h.tdi == .locked || h.tdi == .run)
    || (match t.ide with | some x => h.stream == some x.stream && x.t | none => false)

/-! ### Dispatch -/

/-- Does the TLP want a completion? -/
def tlpNonPosted : TlpKind → Bool
  | .memRead _ _ | .cfgRead _ | .cfgWrite _ _ => true
  | _ => false

/-- Unsupported Request for a non-posted TLP; another is dropped. -/
def tlpRefused (t : Tlp) (s : State) : State := if tlpNonPosted t.kind then s.emit (.tlpUnsupported t.func) else s

/-- A completion of an outstanding read of the hall's function: a fetch of the front end has its data whole. -/
def completionTake (func tag : Nat) (st : Status) (data : Bytes) (s : State) : List Ans × State :=
  match s.hostReads.find? (·.tag == tag) with
  | none => ([], s)
  | some r =>
    if r.hall + 1 ≠ func then ([], s)
    else match r.owner with
      | .port 1 q =>
        let s := charge r.hall .host data.length (s.setHostReads (s.hostReads.filter (·.tag != tag)))
        if hallPassed s r.hall r.hgen r.owner then ([], hallStale r.hall s)
        else if r.gen ≠ ugen s (ownerUnit s r.owner) then ([], staleReply (ownerUnit s r.owner) s)
        else ([{ owner := .port 1 q, unit := r.unit, status := st, data := if st = Status.ok then fit data r.len else [] }], s)
      | _ => hostTake tag st data s

/-- A TLP to a hall function in the safe state (R402): Unsupported Request, or dropped and counted. -/
def tlpSafe (t : Tlp) (s : State) : State :=
  match t.kind with
  | .memWrite _ _ | .message => s.updPins fun p => { p with safeDrops := p.safeDrops + 1 }
  | _ => tlpRefused t s

/-- The completion of a read or a configuration request leaves in its hall's bound stream; function 0 answers in the stream that asked. -/
def tlpAnswers (t : Tlp) (b : Bytes) (s : State) : State :=
  let stream := if t.func = 0 then t.ide.map (·.stream) else boundStream s (t.func - 1)
  ideEmit stream ideCompletion (Config.ideHeader 4 t.func 0 b.length true) b (fun c => .tlpAnswer t.func c) s

/-- A TLP that has passed its checks. -/
def tlpWork (t : Tlp) (s : State) : List Ans × State :=
  let page := Bus.page t.func
  match t.kind with
  | .memRead off len =>
    if 0x10000 < off + len then ([], tlpRefused t s)
    else match pageGet len page off len s with | (b, s) => ([], tlpAnswers t b s)
  | .memWrite off data => if 0x10000 < off + data.length then ([], s) else pagePut data.length page off data s
  | .cfgRead off =>
    if t.func = 0 ∧ 0x400 ≤ off ∧ off < 0x1000 then ([], tlpAnswers t (natLe (cfgRead s (off / 4 * 4)) 4) s)
    else ([], tlpRefused t s)
  | .cfgWrite off v =>
    if t.func = 0 ∧ 0x400 ≤ off ∧ off < 0x1000 then ([], tlpAnswers t [] (cfgWrite (off / 4 * 4) v s))
    else ([], tlpRefused t s)
  | .completion tag st data => completionTake t.func tag st data s
  | .message => ([], s)

/-- HP_TLP_RECEIVE. -/
def tlpReceive (t : Tlp) (s : State) : List Ans × State :=
  if !hpServes s || isLanding s Src.hostPipes then ([], s)
  else
    let s := portInput s
    if !t.first then ([], s.updPins fun p => { p with framing := p.framing.bump 0 1 })
    else if t.err then ([], s.updPins fun p => { p with hpErrors := p.hpErrors + 1 })
    else if s.conf.halls < t.func then ([], tlpRefused t s)
    else if s.fcu.safe && t.func != 0 then ([], tlpSafe t s)
    else match ideCheck t s with
      | (none, s') =>
        ([], if tdiTakes s t then s' else tlpRefused t (hallCount (t.func - 1) 10 1 s'))
      | (some t, s) =>
        if !tdiTakes s t then ([], tlpRefused t (hallCount (t.func - 1) 10 1 s))
        else tlpWork t s

def execHpTlpReceive (tlp : Tlp) (s : State) : Answer := goOn (settled (tlpReceive tlp s))

end Sys2Proof.Machine
end

