-- ==== Sys2Proof/Machine/Query.lean ====
section
/-! DEFINITION. The actions of the Call Sheet that report state, and those of the regions (15_faults.md R399; 17_debug_trace.md
R455, R456; 19_management.md R504, R505). -/

namespace Sys2Proof.Machine

-- One declaration at a time, so that the elaborator holds few threads (each takes stack of its own).
set_option Elab.async false

/-! ### Actions that report -/

/-- KEY_QUERY (R504): KV_QINFO then KV_QBUDGET of a handle; a tenant only for a handle of classes 2 to 7 of a bound hall. -/
def keyQueryAct (a : Act) (arg : Bytes) (s : State) : State :=
  runAct a 0x301001 [.operator, .domainManager, .tenant] (fun s =>
    let h : Handle := BitVec.ofNat 32 (num arg 0 4)
    let named := a.role != .tenant || decide (2 ≤ hClass h ∧ hClass h ≤ 7) && boundTo s a.sess (hHall h)
    if arg.length ≠ 4 ∨ !named then ((Status.permission, []), s)
    else ((Status.ok, natLe (kvQueryOf s.kv h).1 4 ++ natLe (kvQueryOf s.kv h).2 8), s)) s

def execKeyQuery (a : Act) (arg : Bytes) (s : State) : Answer := goOn (keyQueryAct a arg s)

/-- HALL_QUERY (R504): ITU_QINFO then ADM_HSTAT. -/
def hallQueryAct (a : Act) (arg : Bytes) (s : State) : State :=
  runAct a 0x500001 [.operator, .domainManager, .tenant] (fun s =>
    let h := num arg 0 2
    if arg.length ≠ 2 ∨ s.conf.halls ≤ h ∨ !mayName s a h then ((Status.permission, []), s)
    else ((Status.ok, natLe (ituInfo s h) 4 ++ natLe (hstatWord s h) 4), s)) s

def execHallQuery (a : Act) (arg : Bytes) (s : State) : Answer := goOn (hallQueryAct a arg s)

/-- A record of the log by its number: zero where it is overwritten or not yet written (R504). -/
def logRecord (s : State) (k : Nat) : Bytes :=
  let head := s.fcu.logHead.toNat
  if k < head ∧ head ≤ k + 1024 then logBytes (s.fcu.log.get (k % 1024)) else List.replicate 32 0#8

/-- LOG_READ (R504). -/
def logReadAct (a : Act) (arg : Bytes) (s : State) : State :=
  runAct a 0x601001 [.factory, .operator, .domainManager] (fun s =>
    let n := num arg 4 1
    if arg.length ≠ 5 ∨ n = 0 ∨ 40 < n then ((Status.permission, []), s)
    else ((Status.ok, ((List.range n).map fun i => logRecord s (num arg 0 4 + i)).flatten), s)) s

def execLogRead (a : Act) (arg : Bytes) (s : State) : Answer := goOn (logReadAct a arg s)

/-- The counter blocks of the register windows: base and number of 64-bit counters (R455; the register tables of the units). -/
def counterBlocks : List (Nat × Nat) :=
  [(0x011000, 8), (0x011040, 9), (0x021000, 8), (0x031000, 8), (0x041000, 544), (0x042200, 544), (0x043400, 64), (0x043600, 64),
    (0x051000, 128), (0x061000, 8), (0x071000, 128), (0x072000, 4), (0x081000, 64), (0x091000, 8), (0x0A1000, 8), (0x0B1000, 8),
    (0x0B2000, 708), (0x0C1000, 8), (0x0D1000, 8), (0x0E0110, 4)]

/-- Is an address that of a counter of a unit the block has? -/
def counterThere (s : State) (a : Nat) : Bool :=
  (counterBlocks.any fun b => decide (b.1 ≤ a ∧ a < b.1 + 8 * b.2 ∧ (a - b.1) % 8 = 0)) && windowThere s.conf (a / 0x10000)

/-- COUNTER_READ (R504, R455): with COUNTERS_GLOBAL in force, or for FACTORY in TEST_OPEN. -/
def counterReadAct (a : Act) (arg : Bytes) (s : State) : State :=
  runAct a 0x801001 [.factory, .operator, .domainManager] (fun s =>
    let n := num arg 4 1
    let l := (List.range n).map fun i => num arg 0 4 + 8 * i
    let may := s.rightCounters || (a.role == .factory && s.lcState == testOpen)
    if arg.length ≠ 5 ∨ n = 0 ∨ 64 < n ∨ !may ∨ !(l.all (counterThere s)) then ((Status.permission, []), s)
    else ((Status.ok, (l.map fun o => natLe ((keeperRead64 s o).getD 0) 8).flatten), s)) s

def execCounterRead (a : Act) (arg : Bytes) (s : State) : Answer := goOn (counterReadAct a arg s)

/-- The hall page's counters with ADM_HSTAT in their midst, then the four counters of each profile slot (R504). -/
def hallCounterBytes (s : State) (h : Nat) : Bytes :=
  ((List.range 14).map fun i =>
      natLe (if i = 8 then hstatWord s h else (hallPageRead64 s h (0x800 + 8 * i)).getD 0) 8).flatten
    ++ ((List.range 16).map fun k =>
        ((List.range 4).map fun j => natLe ((hallPageRead64 s h (0x910 + 0x40 * k + 8 * j)).getD 0) 8).flatten).flatten

/-- HALL_COUNTERS (R504). -/
def hallCountersAct (a : Act) (arg : Bytes) (s : State) : State :=
  runAct a 0x802001 [.operator, .domainManager, .tenant] (fun s =>
    let h := num arg 0 2
    if arg.length ≠ 2 ∨ s.conf.halls ≤ h ∨ !mayName s a h then ((Status.permission, []), s)
    else ((Status.ok, hallCounterBytes s h), s)) s

def execHallCounters (a : Act) (arg : Bytes) (s : State) : Answer := goOn (hallCountersAct a arg s)

/-- STREAM_QUERY (R504): LS_QINFO, LS_QSEQ and LS_QFLOOR of a context, as QUERY gives them. -/
def streamQueryAct (a : Act) (arg : Bytes) (s : State) : State :=
  runAct a 0xA01002 [.operator, .domainManager] (fun s =>
    let q := (lsQueryOp (num arg 0 2) (num arg 2 1 == 1) s).ls
    if arg.length ≠ 3 ∨ 512 ≤ num arg 0 2 ∨ 1 < num arg 2 1 then ((Status.permission, []), s)
    else ((Status.ok, natLe q.qinfo.toNat 4 ++ natLe q.qseq.toNat 8 ++ natLe q.qfloor.toNat 8), s)) s

def execStreamQuery (a : Act) (arg : Bytes) (s : State) : Answer := goOn (streamQueryAct a arg s)

/-- REGION_QUERY (R504): LN_QINFO, LN_CURSOR, and TR_QINFO, which is zero for a reel region. -/
def regionQueryAct (a : Act) (arg : Bytes) (s : State) : State :=
  runAct a 0xB01001 [.operator, .domainManager, .tenant] (fun s =>
    let r := num arg 0 2
    let named := a.role != .tenant || ((regionOf s r).state != .free && boundTo s a.sess (dHall (regionOf s r).desc))
    if arg.length ≠ 2 ∨ 1280 ≤ r ∨ !named then ((Status.permission, []), s)
    else ((Status.ok, natLe (lnInfo s r) 4 ++ natLe (regionOf s r).cursor 8 ++ natLe (if isVault r then trInfo s r else 0) 4), s)) s

def execRegionQuery (a : Act) (arg : Bytes) (s : State) : Answer := goOn (regionQueryAct a arg s)

/-! ### Region actions (R504, R505) -/

/-- The label of a region's key by its purpose and class, from the descriptor (R185, R227). -/
def keyLabel (s : State) (d : Bytes) (purpose cls : Nat) : Bytes :=
  let birth := match (hallOf s (dHall d)).birth with | some b => b.toNat | none => 0
  mkLabel purpose (dHall d) (dGen d) 0 0 birth (dObject d) (dVersion d) 0 cls

/-- A pinned prefill of a key of level 4 under its hall's key (R78, R85), ended. The Keeper gives it DP_USE = 1, for the pipes use
it: DESIGN CHOICE, assumption 170. -/
def prefill (h parent : Handle) (label : Bytes) (s : State) : Status × State :=
  if s.kv.locked then (Status.permission, s)
  else if !fastOk s.kv h parent label then (Status.permission, s.kvEvent 2)
  else
    let d : Derivation :=
      { handle := h, parent := parent, label := label, hgen := BitVec.ofNat 16 (labGen label), pinned := true, attr := 2#4, tickets := [] }
    let pi := (slotOf s.kv parent).getD 0
    match placePinned false (derivedSlot d pi (s.kv.slots.get pi)) s with
    | (st, s) => (st, if st = Status.ok then s.kvCount 2 else s)

/-- The keys of a region by purpose and class, in the order DKEY, MKEY, NKEY. -/
def regionPurposes (v : Bool) : List (Nat × Nat) := if v then [(0x0042, 4), (0x0050, 5), (0x0051, 5)] else [(0x0040, 4), (0x0041, 4)]

/-- The Keeper assigns handles for a region's keys and derives them; after a failure none stays. -/
def regionKeys (d : Bytes) : List (Nat × Nat) → List Handle → State → Status × List Handle × State
  | [], got, s => (Status.ok, got, s)
  | (p, c) :: rest, got, s =>
    let h := freshHandle s c (dHall d)
    match prefill h (hallOf s (dHall d)).hallKey (keyLabel s d p c) s with
    | (st, s) => if st = Status.ok then regionKeys d rest (got ++ [h]) s else (st, [], forAll got retireHandle s)

/-- A descriptor with its two handles. -/
def withKeys (d : Bytes) (got : List Handle) : Bytes :=
  d.take 24 ++ natLe (got.getD 0 0#32).toNat 4 ++ natLe (got.getD 1 0#32).toNat 4 ++ d.drop 32

/-- LN_DESC and TR_NKEY of a command that has a descriptor. -/
def regionStage (desc : Option Bytes) (new : List Handle) (s : State) : State := match desc with
  | some d => (s.updLn fun l => { l with desc := descWords d }).updTr fun t => { t with nkey := new.getD 2 t.nkey }
  | none => s

/-- A region command with LN_DESC, TR_NKEY and those who wait for it; a refusal takes the new keys back. -/
def regionRun (a : Act) (obj op r : Nat) (sealed : Bool) (desc : Option Bytes) (new old : List Handle) (s : State) : State :=
  let s := (actWaits a.sess obj (regionStage desc new s)).updLn fun l => { l with answer := [(a.sess, obj)], retire := old }
  let s := lnCommand op r sealed s
  if s.ln.go ∨ s.ln.result = Status.ok then s else forAll new retireHandle s

/-- May a region command be given now: a valid region number, and no other command at work? -/
def regionMay (a : Act) (obj r : Nat) (formed : Bool) (s : State) (work : State → State) : State :=
  if !mayAct s [.domainManager] a ∨ !formed ∨ 1280 ≤ r then actDone a.sess obj Status.permission [] false s
  else if s.ln.go then actDone a.sess obj Status.retryLater [] false s
  else work s

/-- REGION_INSTALL (R505). -/
def regionInstallAct (a : Act) (arg : Bytes) (s : State) : State :=
  let r := num arg 0 2
  let d := arg.drop 4
  let formed := arg.length == 68 && decide (num arg 2 1 ≤ 1) && num arg 3 1 == 0 && num d 24 8 == 0 && decide (dHall d < 4096)
  regionMay a 0xB01002 r formed s fun s =>
    match regionKeys d (regionPurposes (isVault r)) [] s with
    | (st, got, s) =>
      if st ≠ Status.ok then actDone a.sess 0xB01002 st [] false s
      else regionRun a 0xB01002 1 r (num arg 2 1 == 1) (some (withKeys d got)) got [] s

def execRegionInstall (a : Act) (arg : Bytes) (s : State) : Answer := goOn (regionInstallAct a arg s)

/-- REGION_SEAL (R199). -/
def regionSealAct (a : Act) (arg : Bytes) (s : State) : State :=
  regionMay a 0xB01003 (num arg 0 2) (arg.length == 2) s (regionRun a 0xB01003 3 (num arg 0 2) false none [] [])

def execRegionSeal (a : Act) (arg : Bytes) (s : State) : Answer := goOn (regionSealAct a arg s)

/-- The keys that a region holds. -/
def heldKeys (s : State) (r : Nat) : List Handle :=
  let x := regionOf s r
  if x.state = .free then [] else [dDkey x.desc, dMkey x.desc] ++ if isVault r then [x.nkey] else []

/-- REGION_ERASE (R202, R227): under the next version, with handles the Keeper chooses; the old ones are RETIREd afterwards. -/
def regionEraseAct (a : Act) (arg : Bytes) (s : State) : State :=
  let r := num arg 0 2
  regionMay a 0xB01004 r (arg.length == 2 && isVault r && (regionOf s r).state != .free) s fun s =>
    let o := (regionOf s r).desc
    let d := o.take 12 ++ natLe (dVersion o + 1) 4 ++ o.drop 16
    match regionKeys d (regionPurposes true) [] s with
    | (st, got, s) =>
      if st ≠ Status.ok then actDone a.sess 0xB01004 st [] false s
      else regionRun a 0xB01004 4 r false (some (withKeys d got)) got (heldKeys s r) s

def execRegionErase (a : Act) (arg : Bytes) (s : State) : Answer := goOn (regionEraseAct a arg s)

/-- REGION_FREE (R204). -/
def regionFreeAct (a : Act) (arg : Bytes) (s : State) : State :=
  regionMay a 0xB01005 (num arg 0 2) (arg.length == 2) s fun s =>
    regionRun a 0xB01005 2 (num arg 0 2) false none [] (heldKeys s (num arg 0 2)) s

def execRegionFree (a : Act) (arg : Bytes) (s : State) : Answer := goOn (regionFreeAct a arg s)

end Sys2Proof.Machine
end

