-- ==== Sys2Proof/Machine/Sheet.lean ====
section
/-! DEFINITION. DTLS sessions and the Call Sheet: the dictionary, the checks of a request, its five operations, held answers and
notifications (04_lifecycle_debug_rights.md R95; 18_power_clocks_boot.md R470, R476; 19_management.md R489-R504, R514). -/

namespace Sys2Proof.Machine

-- One declaration at a time, so that the elaborator holds few threads (each takes stack of its own).
set_option Elab.async false

/-! ### Sessions (R489, R491) -/

/-- A frame leaves for a session: one record, and the block's KeyUpdate after every 2^24 (R489). -/
def recordSent (n : Nat) (s : State) : State :=
  let k := (sessOf s n).sent + 1
  let s := (updSess n (fun x => { x with sent := k }) s).mgtCount 1
  if k % 2 ^ 24 = 0 then s.emit (.dtls n 5) else s

/-- A session ends: its SPDM sessions close, its subscriptions end, its unread one-shot handles are RETIREd (R491, R130). -/
def endSession (n : Nat) (s : State) : State :=
  let unread := (sessOf s n).boxes.filter fun b => b.oneShot && b.result == Status.ok
  let s := closeSpdm .callSheet (fun x => x.carrier == n) s
  let s := forAll unread (fun b s =>
    let h : Handle := BitVec.ofNat 32 (num b.data 0 4)
    (retireHandle h s).updDom fun d => { d with root := if d.root == some h then none else d.root }) s
  s.updMgt fun m => { m with
    sessions := m.sessions.filter fun e => e.1 != n
    deferred := m.deferred.filter fun d => d.1.sess != n }

/-- SESSION_END (R491): close_notify or a fatal alert. -/
def execSessionEnd (sess : Nat) (s : State) : Answer := goOn (endSession sess s)

/-- 600 s of timebase. -/
def idleLimit : Nat := 600 * 4000000000

/-- The session to evict for a new one: the one idle longest, if that is at least 600 s (R491). -/
def evictable (s : State) : Option Nat :=
  let oldest := (liveSessions s).foldl (fun (b : Option (Nat × Session)) e =>
    match b with
    | some x => if e.2.idleSince < x.2.idleSince then some e else b
    | none => some e) none
  match oldest with
  | some e => if e.2.idleSince + idleLimit ≤ s.now then some e.1 else none
  | none => none

/-- A handshake is refused, or a ClientHello dropped. -/
def handshakeRefused (s : State) : State := (s.mgtCount 5).mgtEvent 4

/-- Does the block serve the management port now: a node of its own, and a program that answers? -/
def servesSessions (s : State) : Bool :=
  s.mgt.claim.state == 2#3 && (s.pwr.phase == .firmware || s.pwr.phase == .recovery || s.pwr.phase == .scrap)

/-- DTLS_CLIENT_HELLO (R489, R491). What `Out.dtls` names: 0 HelloRetryRequest with a cookie, 1 the server's flight, 2 the alert
handshake_failure, 3 the handshake's end, 4 another fatal alert, 5 the block's KeyUpdate, 6 the acknowledgement of one. -/
def clientHello (h : Hello) (s : State) : State :=
  let n := s.mgt.nextSession
  if !servesSessions s then handshakeRefused s
  else if !(h.suite && h.group && h.scheme && h.cid) then handshakeRefused ((s.emit (.dtls n 2)).mgtCount 1)
  else if 8 ≤ (liveSessions s).length ∧ (evictable s).isNone then handshakeRefused s
  else if !h.cookie then (s.emit (.dtls n 0)).mgtCount 1
  else
    let x : Session := { (default : Session) with handshaking := true, cid := s.open64.toNat, idleSince := s.now }
    let s := s.opened.updMgt fun m => { m with nextSession := n + 1, sessions := m.sessions.set n x }
    ((s.emit (.dtls n 1)).emit (.identity n (identityChain s))).mgtCount 1

def execDtlsClientHello (h : Hello) (s : State) : Answer := goOn (clientHello h s)

/-- A handshake fails. -/
def handshakeFails (n : Nat) (s : State) : State :=
  handshakeRefused (((s.updMgt fun m => { m with sessions := m.sessions.filter fun e => e.1 != n }).emit (.dtls n 4)).mgtCount 1)

/-- The session becomes live, a domain manager's if its root is the anchor now (R490, R514). -/
def sessionLive (n : Nat) (c : CertChain) (s : State) : State :=
  let s := updSess n (fun x => { x with
    live := true, handshaking := false, leaf := c.leaf, root := c.root
    anchored := c.root == s.mgt.anchor && s.mgt.anchor != 0#384
    idleSince := s.now }) s
  (s.emit (.dtls n 3)).mgtCount 1

/-- DTLS_HANDSHAKE_FINISHED (R491): `good` says that signatures, order, basicConstraints and Finished are right. -/
def handshakeFinished (n : Nat) (c : CertChain) (good : Bool) (s : State) : State :=
  if !(sessOf s n).handshaking then s
  else if !good ∨ c.certs = 0 ∨ 4 < c.certs ∨ 4096 < c.bytes then handshakeFails n s
  else if (liveSessions s).length < 8 then sessionLive n c s
  else match evictable s with
    | some old => sessionLive n c ((endSession old s).mgtEvent 3)
    | none => handshakeFails n s

def execDtlsHandshakeFinished (sess : Nat) (chain : CertChain) (good : Bool) (s : State) : Answer :=
  goOn (handshakeFinished sess chain good s)

/-- KEY_UPDATE (R489): accepted. -/
def execKeyUpdate (sess : Nat) (s : State) : Answer :=
  goOn (if (sessOf s sess).live then recordSent sess ((updSess sess (fun x => { x with idleSince := s.now }) s).emit (.dtls sess 6)) else s.mgtCount 4)

/-! ### The dictionary (R504) -/

/-- An object: its number as index and subindex, its type (R494), and the roles with the rights R, W and X. -/
structure Entry where
  obj : Nat
  type : Nat
  rd : List Role
  wr : List Role
  ex : List Role
deriving DecidableEq, Repr, Inhabited

def rolesFOD : List Role := [.factory, .operator, .domainManager]
def rolesOD : List Role := [.operator, .domainManager]
def rolesODT : List Role := [.operator, .domainManager, .tenant]
def rolesFO : List Role := [.factory, .operator]
def rolesD : List Role := [.domainManager]

/-- Read-only objects, and actions, from one index with subindexes 1 to `n`. -/
def valueRow (obj type : Nat) (roles : List Role) : Entry := { obj := obj, type := type, rd := roles, wr := [], ex := [] }
def actRow (index n : Nat) (roles : List Role) : List Entry :=
  (List.range n).map fun k => { obj := 256 * index + k + 1, type := 6, rd := [], wr := [], ex := roles }

/-- Identity and capability; clocks and power. -/
def dictIdentity : List Entry :=
  [valueRow 0x100001 3 allRoles, valueRow 0x100002 3 allRoles, valueRow 0x100003 4 allRoles, valueRow 0x100004 2 allRoles,
    valueRow 0x100005 1 allRoles]
    ++ ((List.range 8).map fun k => valueRow (0x100101 + k) 3 allRoles) ++ actRow 0x1010 1 allRoles
    ++ [{ obj := 0x101002, type := 6, rd := [], wr := [], ex := rolesD }, { obj := 0x101003, type := 6, rd := [], wr := [], ex := rolesD }]

def dictPower : List Entry :=
  [valueRow 0x200001 1 rolesFOD, valueRow 0x200002 1 rolesFOD,
    { obj := 0x200003, type := 1, rd := rolesFOD, wr := [.operator], ex := [] }, valueRow 0x200004 4 allRoles]
    ++ actRow 0x2010 1 rolesOD
    ++ [{ obj := 0x201002, type := 6, rd := [], wr := [], ex := rolesD }, { obj := 0x201003, type := 6, rd := [], wr := [], ex := rolesD }]

/-- Keys, domain and halls. -/
def dictDomain : List Entry :=
  [valueRow 0x300001 3 rolesFOD] ++ actRow 0x3010 1 rolesODT
    ++ [{ obj := 0x400001, type := 5, rd := rolesOD, wr := [.operator], ex := [] }, valueRow 0x400002 3 allRoles,
      valueRow 0x400003 3 allRoles, valueRow 0x400004 5 allRoles]
    ++ actRow 0x4010 5 rolesD ++ actRow 0x4020 4 rolesD ++ [valueRow 0x403001 1 rolesFOD] ++ actRow 0x4040 1 rolesD
    ++ [valueRow 0x404002 3 rolesFOD]

def dictHalls : List Entry :=
  actRow 0x5000 1 rolesODT ++ actRow 0x5010 1 [.operator]
    ++ [{ obj := 0x501002, type := 6, rd := [], wr := [], ex := rolesOD }, { obj := 0x501003, type := 6, rd := [], wr := [], ex := [.operator] },
      { obj := 0x501004, type := 6, rd := [], wr := [], ex := [.operator] }]
    ++ actRow 0x5020 2 rolesODT ++ actRow 0x5030 5 rolesODT ++ actRow 0x5040 2 rolesODT ++ actRow 0x5050 5 rolesD

/-- Faults, hang, counters and debug. -/
def dictFaults : List Entry :=
  [valueRow 0x600001 3 rolesFOD, valueRow 0x600002 3 rolesFOD, valueRow 0x600003 3 rolesFOD, valueRow 0x600004 5 rolesFOD]
    ++ actRow 0x6010 1 rolesFOD ++ actRow 0x6020 1 rolesFO
    ++ [{ obj := 0x700001, type := 3, rd := rolesFOD, wr := [.operator], ex := [] }, valueRow 0x700002 3 rolesFOD,
      valueRow 0x700003 3 rolesFOD]
    ++ actRow 0x7010 1 [.operator]

def dictDebug : List Entry :=
  actRow 0x8010 1 rolesFOD ++ actRow 0x8020 1 rolesODT ++ actRow 0x8030 2 rolesFOD ++ [valueRow 0x803003 3 rolesFOD]
    ++ [{ obj := 0x803004, type := 6, rd := [], wr := [], ex := allRoles }]

/-- Life cycle, links, regions and factory. -/
def dictLife : List Entry :=
  [valueRow 0x900001 3 allRoles, valueRow 0x900002 3 allRoles, valueRow 0x900003 3 allRoles] ++ actRow 0x9010 2 rolesFO
    ++ [{ obj := 0x901003, type := 6, rd := [], wr := [], ex := [.operator] }] ++ actRow 0x9020 2 rolesFO
    ++ [{ obj := 0x902003, type := 6, rd := [], wr := [], ex := [.tenant] }] ++ actRow 0x9030 2 rolesFO
    ++ [valueRow 0x903003 1 rolesFO]

def dictLinks : List Entry :=
  [valueRow 0xA00001 4 rolesFOD, valueRow 0xA00002 4 rolesFOD] ++ actRow 0xA010 1 rolesD
    ++ [{ obj := 0xA01002, type := 6, rd := [], wr := [], ex := rolesOD }, valueRow 0xB00001 3 rolesFOD]
    ++ actRow 0xB010 1 rolesODT
    ++ (List.range 4).map (fun k => { obj := 0xB01002 + k, type := 6, rd := [], wr := [], ex := rolesD })
    ++ actRow 0xF010 1 [.factory]

/-- Every object. -/
def dictionary : List Entry :=
  dictIdentity ++ dictPower ++ dictDomain ++ dictHalls ++ dictFaults ++ dictDebug ++ dictLife ++ dictLinks

/-- The identity objects and the life-cycle state object (R95). -/
def identityObj (obj : Nat) : Bool := decide (0x100001 ≤ obj ∧ obj ≤ 0x100005) || obj == 0x900001

/-- Does an object exist in the present configuration and state (R502, R503)? -/
def objThere (s : State) (obj : Nat) : Bool :=
  (match s.pwr.phase with
    | .firmware => !(obj == 0x903001 || obj == 0x903002)
    | .recovery => identityObj obj || obj == 0x901001 || obj == 0x903001 || obj == 0x903002 || obj == 0x903003
    | .scrap => identityObj obj
    | _ => false)
    && (obj != 0xB00001 || s.conf.tree) && (obj / 0x1000 != 0xF01 || s.lcState == testOpen)

def entryOf (s : State) (obj : Nat) : Option Entry :=
  if objThere s obj then dictionary.find? fun e => e.obj == obj else none

/-- The value of an object. -/
def objValue (s : State) (obj : Nat) : Bytes :=
  match obj with
  | 0x100001 => natLe Config.ident.toNat 4
  | 0x100002 => natLe s.conf.caps.toNat 4
  | 0x100003 => natLe s.deviceId 8
  | 0x100004 => natLe (if s.pwr.phase = .firmware then s.pwr.secver.toNat else 0) 2
  | 0x100005 => natLe (nodeHeldId s) 1
  | 0x100101 => natLe s.conf.halls 4
  | 0x100102 => natLe 16384 4
  | 0x100103 => natLe 65536 4
  | 0x100104 => natLe 4096 4
  | 0x100105 => natLe 256 4
  | 0x100106 => natLe (if s.conf.tree then 256 else 0) 4
  | 0x100107 => natLe 1024 4
  | 0x100108 => natLe 8192 4
  | 0x200001 => natLe s.pins.pstate.toNat 1
  | 0x200002 => natLe s.pwr.mult.toNat 1
  | 0x200003 => natLe s.pwr.maxState.toNat 1
  | 0x200004 => natLe s.master 8
  | 0x300001 => natLe (kvRead s 0x108) 4
  | 0x400001 => Crypto.digestBytes s.mgt.anchor
  | 0x400002 => natLe (domStatusWord s).toNat 4
  | 0x400003 => natLe s.dom.epoch.toNat 4
  | 0x400004 => Crypto.digestBytes s.dom.manifest
  | 0x403001 => natLe s.dom.stepState 1
  | 0x404002 => natLe (tbStatusWord s) 4
  | 0x600001 => natLe (fcuStatusWord s) 4
  | 0x600002 => natLe (fcuSlicesWord s) 4
  | 0x600003 => natLe s.fcu.logHead.toNat 4
  | 0x600004 => logBytes s.fcu.first
  | 0x700001 => natLe s.hr.window.toNat 4
  | 0x700002 => natLe s.hr.guilty.toNat 4
  | 0x700003 => natLe s.hr.slotsOut.toNat 4
  | 0x803003 => natLe (dbgStatusWord s) 4
  | 0x900001 => natLe (lcStatusWord s) 4
  | 0x900002 => natLe (lcRead s 0x04) 4
  | 0x900003 => natLe (dbgRightsWord s) 4
  | 0x903003 => natLe (if s.pwr.phase = .recovery then s.pwr.reason else 0) 1
  | 0xA00001 => natLe s.pins.laneUp.toNat 8
  | 0xA00002 => natLe (lsSpareWord s) 8
  | 0xB00001 => natLe (trOcc s) 4
  | _ => []

/-! ### Requests and answers (R493, R495, R501) -/

/-- A request's parts. -/
structure Req where
  op : Nat
  role : Role
  waits : Bool
  tag : Word
  body : Bytes
deriving DecidableEq, Repr, Inhabited

def roleOf (code : Nat) : Role := match code with | 0 => .factory | 1 => .operator | 2 => .domainManager | _ => .tenant

/-- A well-formed header (R493). -/
def requestOk (m : Bytes) : Bool :=
  let op := num m 1 1
  decide (12 ≤ m.length ∧ m.length ≤ 1400) && num m 0 1 == 1 && decide (1 ≤ op ∧ op ≤ 5 ∧ num m 2 1 ≤ 3)
    && decide (num m 3 1 ≤ if op = 4 then 1 else 0) && num m 8 2 == m.length - 12 && num m 10 2 == 0

def reqOf (m : Bytes) : Req :=
  { op := num m 1 1, role := roleOf (num m 2 1), waits := num m 3 1 == 1, tag := BitVec.ofNat 32 (num m 4 4), body := m.drop 12 }

/-- OUTCOME codes (R495). -/
def ocDone : Nat := 0
def ocNoObject : Nat := 1
def ocDenied : Nat := 2
def ocMalformed : Nat := 3
def ocBusy : Nat := 4
def ocInvalid : Nat := 5
def ocTooLarge : Nat := 6

/-- A response or notification as bytes. -/
def sheetBytes (op outcome : Nat) (tag : Word) (st : Status) (body : Bytes) : Bytes :=
  natLe 1 1 ++ natLe (128 + op % 128) 1 ++ natLe outcome 1 ++ [0#8] ++ natLe tag.toNat 4 ++ natLe body.length 2 ++ natLe st.toNat 2 ++ body

/-- A message goes out on a session. -/
def sheetSend (n : Nat) (b : Bytes) (s : State) : State := recordSent n (s.emit (.callSheet n b))

/-- A request is answered, and its response kept with those of the last 16 TAGs (R501). -/
def respond (n op : Nat) (tag : Word) (outcome : Nat) (st : Status) (body : Bytes) (s : State) : State :=
  let b := sheetBytes op outcome tag st body
  let s := updSess n (fun x =>
    let l := x.kept.filter (fun e => e.1 != tag) ++ [(tag, b)]
    { x with kept := l.drop (l.length - 16), outstanding := x.outstanding.filter (· != tag) }) s
  sheetSend n b s

/-- An object ID names an object; its last byte is zero (R494). -/
def objOf (b : Bytes) : Nat := 256 * num b 0 2 + num b 2 1
def objBytes (obj : Nat) : Bytes := natLe (obj / 256) 2 ++ natLe (obj % 256) 1 ++ [0#8]

/-- Does the session qualify for a role, with recovery serving FACTORY and OPERATOR only (R476)? -/
def roleServes (s : State) (n : Nat) (r : Role) : Bool :=
  qualifies s n r && (s.pwr.phase != .recovery || r == .factory || r == .operator)

/-- The checks 2 to 4 of R502: the object, or the outcome that decides. -/
def access (s : State) (n : Nat) (r : Role) (obj : Nat) (right : Entry → List Role) : Entry ⊕ Nat :=
  match entryOf s obj with
  | none => .inr ocNoObject
  | some e =>
    if s.pwr.phase = .scrap then (if (right e).isEmpty then .inr ocDenied else .inl e)
    else if roleServes s n r && (right e).contains r then .inl e
    else .inr ocDenied

/-- The right that a GET needs: R for a value, X for an action's result. -/
def getRight (e : Entry) : List Role := if e.type = 6 then e.ex else e.rd

/-- The body of a GET's response (R496). -/
def getBody (obj type off : Nat) (v : Bytes) : Bytes :=
  let c := (v.drop off).take 1376
  objBytes obj ++ natLe type 1 ++ [0#8] ++ natLe c.length 2 ++ natLe v.length 4 ++ c

/-- A read of an action's result from an offset: a one-shot result is consumed by the read of its last byte (R335, R496). -/
def boxRead (n obj off : Nat) (s : State) : State :=
  let b := boxOf s n obj
  if b.oneShot && b.result == Status.ok && !b.data.isEmpty && decide (off < b.data.length ∧ b.data.length ≤ off + 1376) then
    boxPut n { b with result := Status.consumed, data := [], oneShot := false } s
  else s

/-- GET. -/
def sheetGet (n : Nat) (q : Req) (s : State) : State :=
  let obj := objOf q.body
  let off := num q.body 4 4
  if q.body.length ≠ 8 ∨ num q.body 3 1 ≠ 0 then respond n 1 q.tag ocMalformed Status.ok [] s
  else match access s n q.role obj getRight with
    | .inr o => respond n 1 q.tag o Status.ok [] s
    | .inl e =>
      if e.type = 6 then
        let b := boxOf s n obj
        boxRead n obj off (respond n 1 q.tag ocDone b.result (getBody obj 6 off b.data) s)
      else if off ≠ 0 ∧ e.type ≠ 5 then respond n 1 q.tag ocMalformed Status.ok [] s
      else respond n 1 q.tag ocDone Status.ok (getBody obj e.type off (objValue s obj)) s

/-- The write of a value: OUTCOME and STATUS. -/
def setValue (obj : Nat) (v : Bytes) (s : State) : Nat × Status × State :=
  let x := num v 0 4
  match obj with
  | 0x200003 => if 3 < x then (ocInvalid, Status.ok, s) else (ocDone, Status.ok, s.updPwr fun p => { p with maxState := BitVec.ofNat 2 x })
  | 0x700001 => if x < 10 ∨ 10000000 < x then (ocInvalid, Status.ok, s) else (ocDone, Status.ok, hrWindowWrite x s)
  | _ =>
    if s.dom.joined then (ocDone, Status.permission, s)
    else
      let s := flashWrite ownerBase (natLe 0xD401 2 ++ natLe 0 2 ++ v) (flashErase ownerBase 4096 s)
      (ocDone, Status.ok, s.updMgt fun m => { m with anchor := Crypto.digestOf v })

/-- The length of a type's value; that of the one writable byte object is 48. -/
def typeBytes (t : Nat) : Nat := match t with | 1 => 1 | 2 => 2 | 3 => 4 | 4 => 8 | _ => 48

/-- SET. -/
def sheetSet (n : Nat) (q : Req) (s : State) : State :=
  let b := q.body
  let obj := objOf b
  if b.length < 8 ∨ num b 3 1 ≠ 0 ∨ num b 5 1 ≠ 0 ∨ b.length ≠ 8 + num b 6 2 then respond n 2 q.tag ocMalformed Status.ok [] s
  else if (match entryOf s obj with | some e => e.type == 6 | none => false) then respond n 2 q.tag ocMalformed Status.ok [] s
  else match access s n q.role obj (·.wr) with
    | .inr o => respond n 2 q.tag o Status.ok [] s
    | .inl e =>
      if num b 4 1 ≠ e.type ∨ num b 6 2 ≠ typeBytes e.type then respond n 2 q.tag ocMalformed Status.ok [] s
      else match setValue obj (b.drop 8) s with
        | (o, st, s) => respond n 2 q.tag o st [] s

/-- The value padded to a multiple of 4 bytes. -/
def padded (b : Bytes) : Bytes := fit b (cdiv b.length 4 * 4)

/-- One entry of a GET_MULTI's response. -/
def multiEntry (id : Bytes) (outcome type : Nat) (v : Bytes) : Bytes :=
  id ++ natLe outcome 1 ++ natLe type 1 ++ natLe v.length 2 ++ padded v

/-- The entries, each in the room that the headers of those after it leave. -/
def multiEntries (s : State) (n : Nat) (r : Role) : List Bytes → Bytes → Bytes
  | [], done => done
  | id :: rest, done =>
    let obj := objOf id
    let e :=
      if num id 3 1 ≠ 0 then multiEntry id ocMalformed 0 []
      else match access s n r obj (·.rd) with
        | .inr o => multiEntry id (if (dictionary.any fun e => e.obj == obj && e.type == 6) then ocNoObject else o) 0 []
        | .inl e =>
          let v := objValue s obj
          if done.length + 8 + (padded v).length + 8 * rest.length ≤ 1388 then multiEntry id ocDone e.type v
          else multiEntry id ocTooLarge e.type []
    multiEntries s n r rest (done ++ e)

/-- GET_MULTI (R498). -/
def sheetGetMulti (n : Nat) (q : Req) (s : State) : State :=
  let b := q.body
  let k := num b 0 1
  if k = 0 ∨ 64 < k ∨ !allZero (sub b 1 3) ∨ b.length ≠ 4 + 4 * k then respond n 3 q.tag ocMalformed Status.ok [] s
  else
    let ids := (List.range k).map fun i => sub b (4 + 4 * i) 4
    respond n 3 q.tag ocDone Status.ok (multiEntries s n q.role ids []) s

/-! ### ACTION (R499) -/

/-- Is an action's object in one of these indexes? -/
def objIn (obj : Nat) (l : List Nat) : Bool := l.contains (obj / 256)

/-- Does an action need a unit that the present power state has switched off (R499, R464)? -/
def needsOff (s : State) (obj : Nat) : Bool :=
  let links := objIn obj [0x4010, 0x4020, 0xA010, 0xB010] || objIn obj [0x5050] || obj == 0x501002 || obj == 0x201002
  let logic := objIn obj [0x3010, 0x5000, 0x5010, 0x5020, 0x5030, 0x5040, 0x7010, 0x8020, 0x8030, 0x9020]
  (s.pins.pstate == 2#2 && links) || (s.pins.pstate == 3#2 && (links || logic))

/-- An action that answers no requester of its own. -/
def quietAct (s : State) : List Ans × State := ([], s)

/-- Actions of the Keeper, the domain and the halls. HALL_SAVE and HALL_RESTORE read or carry memory, which their own rows bring: here
their results stand NOT_READY until then. -/
def runDomain (obj : Nat) (a : Act) (arg : Bytes) (s : State) : List Ans × State :=
  match obj with
  | 0x101001 => quietAct (slateAct a (num arg 0 2) (arg.drop 2) s)
  | 0x101002 => quietAct (spdmMsgAct a arg s)
  | 0x101003 => quietAct (measExtendAct a arg s)
  | 0x201001 => quietAct (wakeAct a s)
  | 0x201002 => shutdownAct a arg s
  | 0x201003 => quietAct (rootStoreUseAct a arg s)
  | 0x301001 => quietAct (keyQueryAct a arg s)
  | 0x401001 => quietAct (manifestChunkAct a arg s)
  | 0x401002 => quietAct (planChunkAct a arg s)
  | 0x401003 => quietAct (domainRootAct a arg s)
  | 0x401004 => quietAct (joinCommitAct a s)
  | 0x401005 => quietAct (leaveAct a s)
  | 0x402001 => epochPrepareAct a arg s
  | 0x402002 => quietAct (epochSwitchAct a arg s)
  | 0x402003 => quietAct (epochRetireAct a arg s)
  | 0x402004 => memberLostAct a arg s
  | 0x404001 => quietAct (timeParentAct a arg s)
  | 0x500001 => quietAct (hallQueryAct a arg s)
  | 0x501001 => quietAct (hallCreateAct a arg s)
  | 0x501002 => hallDestroyAct a arg s
  | 0x501003 => quietAct (hallGrantAct a arg s)
  | 0x501004 => quietAct (hallUngrantAct a arg s)
  | 0x505001 => hallFreezeAct a arg s
  | 0x505004 => quietAct (hallThawAct a arg s)
  | 0x505005 => quietAct (migrateDoneAct a arg s)
  | _ => quietAct (actWaits a.sess obj s)

/-- Actions of queues, fences, faults, debug, life cycle, links, regions and factory. -/
def runUnit (obj : Nat) (a : Act) (arg : Bytes) (s : State) : List Ans × State :=
  match obj with
  | 0x502001 => quietAct (queueCreateAct a arg s)
  | 0x502002 => quietAct (queueDestroyAct a arg s)
  | 0x503001 => quietAct (fenceCreateAct a arg s)
  | 0x503002 => quietAct (fenceDestroyAct a arg s)
  | 0x503003 => quietAct (fenceClearAct a arg s)
  | 0x503004 => quietAct (semAllocAct a arg s)
  | 0x503005 => quietAct (semFreeAct a arg s)
  | 0x504001 => quietAct (mapAct a arg s)
  | 0x504002 => quietAct (unmapAct a arg s)
  | 0x601001 => quietAct (logReadAct a arg s)
  | 0x602001 => quietAct (faultInjectAct a arg s)
  | 0x701001 => resetOrderAct a arg s
  | 0x801001 => quietAct (counterReadAct a arg s)
  | 0x802001 => quietAct (hallCountersAct a arg s)
  | 0x803001 => quietAct (cutArmAct a arg s)
  | 0x803002 => quietAct (cutDisarmAct a s)
  | 0x803004 => quietAct (rushesReadAct a arg s)
  | 0x901001 => quietAct (transitionAct a arg s)
  | 0x901002 => quietAct (otpProgramAct a arg s)
  | 0x901003 => quietAct (rollbackCommitAct a arg s)
  | 0x902001 => quietAct (debugNonceAct a s)
  | 0x902002 => quietAct (debugCertAct a arg s)
  | 0x902003 => quietAct (consentAct a arg s)
  | 0x903001 => quietAct (recoveryWriteAct a arg s)
  | 0x903002 => recoveryCommitAct a s
  | 0xA01001 => streamAbandonAct a arg s
  | 0xA01002 => quietAct (streamQueryAct a arg s)
  | 0xB01001 => quietAct (regionQueryAct a arg s)
  | 0xB01002 => quietAct (regionInstallAct a arg s)
  | 0xB01003 => quietAct (regionSealAct a arg s)
  | 0xB01004 => quietAct (regionEraseAct a arg s)
  | 0xB01005 => quietAct (regionFreeAct a arg s)
  | _ => quietAct (factoryCertAct a arg s)

/-- An accepted action does its work. -/
def runAction (obj : Nat) (a : Act) (arg : Bytes) (s : State) : List Ans × State :=
  if obj < 0x500000 ∨ objIn obj [0x5000, 0x5010, 0x5050] then runDomain obj a arg s else runUnit obj a arg s

/-- An action that needs a unit which is off asks for wake and waits for S0. -/
def startAction (obj : Nat) (a : Act) (arg : Bytes) (s : State) : List Ans × State :=
  if needsOff s obj then
    let s := (actWaits a.sess obj s).updPwr fun p => { p with wakeReq := true }
    ([], s.updMgt fun m => { m with deferred := m.deferred ++ [(a, obj, arg)] })
  else runAction obj a arg s

/-- In S0 again, the actions that waited for it run in their order. -/
def runDeferred (s : State) : List Ans × State :=
  if s.pins.pstate = 0#2 then
    s.mgt.deferred.foldl (fun x d => match runAction d.2.1 d.1 d.2.2 x.2 with | (a, s) => (x.1 ++ a, s))
      ([], s.updMgt fun m => { m with deferred := [] })
  else ([], s)

/-- FP_PACK_RISE: the update phase of the handshake, and what waited for S0. -/
def execFpPackRise (s : State) : Answer := goOn (settled (runDeferred (packRise s)))

/-- The held answer of a WAIT action whose result is complete; it counts as a read (R499). -/
def waitAnswer (n obj : Nat) (s : State) : State :=
  let b := boxOf s n obj
  match b.waitTag with
  | none => s
  | some tag =>
    if b.result = Status.notReady then s
    else
      let s := respond n 4 tag ocDone b.result (getBody obj 6 0 b.data) s
      boxRead n obj 0 (boxPut n { b with waitTag := none } s)

/-- ACTION. -/
def sheetAction (n : Nat) (q : Req) (s : State) : List Ans × State :=
  let b := q.body
  let obj := objOf b
  let a : Act := { role := q.role, sess := n }
  if b.length < 8 ∨ num b 3 1 ≠ 0 ∨ num b 4 2 ≠ 0 ∨ b.length ≠ 8 + num b 6 2 ∨ 1368 < num b 6 2 then
    ([], respond n 4 q.tag ocMalformed Status.ok [] s)
  else match access s n q.role obj (·.ex) with
    | .inr o => ([], respond n 4 q.tag o Status.ok [] s)
    | .inl _ =>
      let s := waitAnswer n obj s
      if (boxOf s n obj).result = Status.notReady then ([], respond n 4 q.tag ocBusy Status.ok [] s)
      else if q.waits then
        let s := updSess n (fun x => { x with outstanding := x.outstanding ++ [q.tag] }) s
        startAction obj a (b.drop 8) (boxPut n { boxOf s n obj with waitTag := some q.tag } s)
      else startAction obj a (b.drop 8) (respond n 4 q.tag ocDone Status.notReady [] s)

/-- ACTION_WAIT_RESPONSE (R499). -/
def waitResponse (n : Nat) (tag : Word) (s : State) : State :=
  match (sessOf s n).boxes.find? fun b => b.waitTag == some tag with
  | some b => waitAnswer n b.obj s
  | none => s

def execActionWaitResponse (sess : Nat) (tag : Word) (s : State) : Answer := goOn (waitResponse sess tag s)

/-! ### SUBSCRIBE and notifications (R500) -/

/-- On change only. -/
def onChange : Nat := 0xFFFFFFFF

/-- SUBSCRIBE. -/
def sheetSubscribe (n : Nat) (q : Req) (s : State) : State :=
  let b := q.body
  let obj := objOf b
  let p := num b 4 4
  let subs := (sessOf s n).subs
  let others := subs.filter fun x => x.tag != q.tag
  if b.length ≠ 8 ∨ num b 3 1 ≠ 0 then respond n 5 q.tag ocMalformed Status.ok [] s
  else match access s n q.role obj (·.rd) with
    | .inr o => respond n 5 q.tag o Status.ok [] s
    | .inl _ =>
      if p = 0 then
        respond n 5 q.tag ocDone (if others.length = subs.length then Status.permission else Status.ok) []
          (updSess n (fun x => { x with subs := others }) s)
      else if p ≠ onChange ∧ (p < 10 ∨ 3600000 < p) then respond n 5 q.tag ocInvalid Status.ok [] s
      else if 32 ≤ others.length then respond n 5 q.tag ocDone Status.permission [] s
      else
        let x : Sub := { tag := q.tag, obj := obj, period := BitVec.ofNat 32 p, last := objValue s obj }
        respond n 5 q.tag ocDone Status.ok [] (updSess n (fun y => { y with subs := others ++ [x] }) s)

/-- SUBSCRIPTION_NOTIFY (R500): a period is due, or a value has changed; none while a CUT holds the Keeper stopped. -/
def notify (n : Nat) (tag : Word) (s : State) : State :=
  match (sessOf s n).subs.find? fun x => x.tag == tag with
  | none => s
  | some x =>
    let v := objValue s x.obj
    if s.stopped || !(sessOf s n).live || (x.period.toNat == onChange && v == x.last) then s
    else
      let type := match entryOf s x.obj with | some e => e.type | none => 0
      let body := natLe (sessOf s n).notified 4 ++ natLe s.now 8 ++ getBody x.obj type 0 v
      let s := updSess n (fun y => { y with
        notified := y.notified + 1
        subs := y.subs.map fun z => if z.tag == tag then { z with last := v } else z }) s
      (sheetSend n (sheetBytes 5 ocDone tag Status.ok body) s).mgtCount 7

def execSubscriptionNotify (sess : Nat) (tag : Word) (s : State) : Answer := goOn (notify sess tag s)

/-! ### A request (R501, R502) -/

/-- Does a message cancel a subscription? It carries the TAG of the SUBSCRIBE it cancels (R500). -/
def cancels (m : Bytes) : Bool := requestOk m && num m 1 1 == 5 && m.length == 20 && num m 16 4 == 0

/-- A Call Sheet message on a session: kept and outstanding TAGs, the header, the number outstanding, then the operation. Each row is
of one operation; a message of another leaves the block as it was. -/
def sheetServe (row n : Nat) (m : Bytes) (work : Req → State → List Ans × State) (s : State) : List Ans × State :=
  let op := num m 1 1
  let tag : Word := BitVec.ofNat 32 (num m 4 4)
  if !(sessOf s n).live then ([], s.mgtCount 4)
  else if 1 ≤ op ∧ op ≤ 5 ∧ op ≠ row then ([], s)
  else
    let s := (updSess n (fun x => { x with idleSince := s.now }) s).mgtCount 6
    let x := sessOf s n
    match (if cancels m then none else x.kept.find? fun e => e.1 == tag) with
    | some e => ([], sheetSend n e.2 s)
    | none =>
      if x.outstanding.contains tag then ([], s)
      else if !requestOk m then ([], respond n op tag ocMalformed Status.ok [] s)
      else if 16 ≤ x.outstanding.length then ([], respond n op tag ocBusy Status.ok [] s)
      else work (reqOf m) s

def quietWork (f : Req → State → State) (q : Req) (s : State) : List Ans × State := ([], f q s)

def execCallSheetGet (sess : Nat) (msg : Bytes) (s : State) : Answer :=
  goOn (settled (sheetServe 1 sess msg (quietWork (sheetGet sess)) s))
def execCallSheetSet (sess : Nat) (msg : Bytes) (s : State) : Answer :=
  goOn (settled (sheetServe 2 sess msg (quietWork (sheetSet sess)) s))
def execCallSheetGetMulti (sess : Nat) (msg : Bytes) (s : State) : Answer :=
  goOn (settled (sheetServe 3 sess msg (quietWork (sheetGetMulti sess)) s))
def execCallSheetAction (sess : Nat) (msg : Bytes) (s : State) : Answer := goOn (settled (sheetServe 4 sess msg (sheetAction sess) s))
def execCallSheetSubscribe (sess : Nat) (msg : Bytes) (s : State) : Answer :=
  goOn (settled (sheetServe 5 sess msg (quietWork (sheetSubscribe sess)) s))

end Sys2Proof.Machine
end

