-- ==== Sys2Proof/Machine/Segment.lean ====
section
/-! DEFINITION. The management segment: what the MAC takes, segment messages, the node claim, PLCA beacons, Neighbor Solicitations
and Echo Requests (17_debug_trace.md R443; 19_management.md R483-R488, R514). -/

namespace Sys2Proof.Machine

-- One declaration at a time, so that the elaborator holds few threads (each takes stack of its own).
set_option Elab.async false

/-! ### Segment messages (R485) -/

/-- A message of this block: its type and node. -/
def segmentMessage (type node : Nat) (s : State) : Bytes :=
  fit (natLe 0x5C 1 ++ natLe type 1 ++ natLe node 1 ++ natLe (b2n (s.pwr.phase == .recovery)) 1 ++ natLe s.deviceId 8
    ++ natLe s.lcState 1) 32

def segmentSend (type node : Nat) (s : State) : State := (s.emit (.segment (segmentMessage type node s))).mgtCount 1

/-- The fixed fields of a message. -/
def segmentOk (m : Bytes) : Bool :=
  m.length == 32 && num m 0 1 == 0x5C && decide (1 ≤ num m 1 1 ∧ num m 1 1 ≤ 3 ∧ 1 ≤ num m 2 1 ∧ num m 2 1 ≤ 15 ∧ num m 3 1 ≤ 1)
    && decide (num m 12 1 ≤ 7) && allZero (m.drop 13)

/-- Change of the claim. -/
def updClaim (f : Claim → Claim) (s : State) : State := s.updMgt fun m => { m with claim := f m.claim }

/-! ### Claiming (R486) -/

/-- The block chooses the lowest node not in use, or none. -/
def claimChoose (s : State) : State :=
  match firstFrom (fun n => !s.mgt.claim.used.contains n) 15 1 with
  | some n => updClaim (fun c => { c with state := 1#3, candidate := n, sends := 0 }) s
  | none => updClaim (fun c => { c with state := 3#3, candidate := 0, sends := 0 }) s

/-- CLAIM_LISTEN_END. -/
def execClaimListenEnd (s : State) : Answer := goOn (if s.mgt.claim.state = 0#3 then claimChoose s else s)

/-- CLAIM_SEND: one of the three CLAIMs of the schedule. -/
def claimSendOp (s : State) : State :=
  if s.mgt.claim.state = 1#3 ∧ s.mgt.claim.sends < 3 then
    segmentSend 2 s.mgt.claim.candidate (updClaim (fun c => { c with sends := c.sends + 1 }) s)
  else s

def execClaimSend (s : State) : Answer := goOn (claimSendOp s)

/-- CLAIM_WINDOW_END: the block takes its node, and announces it at once. -/
def claimWindowOp (s : State) : State :=
  if s.mgt.claim.state = 1#3 then
    let n := s.mgt.claim.candidate
    segmentSend 1 n ((updClaim (fun c => { c with state := 2#3, node := n }) s).mgtEvent 0)
  else s

def execClaimWindowEnd (s : State) : Answer := goOn (claimWindowOp s)

/-- ANNOUNCE_SEND. -/
def execAnnounceSend (s : State) : Answer := goOn (if s.mgt.claim.state = 2#3 then segmentSend 1 s.mgt.claim.node s else s)

/-- The block listens anew with nothing used. -/
def listenAgain (s : State) : State := updClaim (fun _ => { state := 0#3, node := 0, used := [], candidate := 0, sends := 0 }) s

/-- NO_NODE_RETRY. -/
def execNoNodeRetry (s : State) : Answer := goOn (if s.mgt.claim.state = 3#3 then listenAgain s else s)

/-- The node is given up, and every session with it (R487, R491). -/
def nodeGivenUp (s : State) : State := listenAgain ((forAll (s.mgt.sessions.map (·.1)) endSession s).mgtEvent 1)

/-- A heard message of another device (R486, R487). -/
def segmentHeard (m : Bytes) (s : State) : State :=
  let c := s.mgt.claim
  let type := num m 1 1
  let node := num m 2 1
  let lower := decide (num m 4 8 < s.deviceId)
  if num m 4 8 = s.deviceId then s
  else if c.state = 0#3 then updClaim (fun c => { c with used := if c.used.contains node then c.used else c.used ++ [node] }) s
  else if c.state = 1#3 ∧ node = c.candidate ∧ (type ≠ 2 ∨ lower) then
    claimChoose (updClaim (fun c => { c with used := c.used ++ [node] }) s)
  else if c.state = 2#3 ∧ node = c.node then
    if type = 2 then segmentSend 3 node s else if lower then nodeGivenUp s else s
  else s

/-- A segment message: one with a wrong value in a fixed field is dropped and counted. -/
def segmentTake (m : Bytes) (s : State) : State := if segmentOk m then segmentHeard m s else s.mgtCount 2

/-- ANNOUNCE_RECEIVE, CLAIM_RECEIVE, DEFEND_RECEIVE: a good message of another type is no message of the row. -/
def segmentRow (type : Nat) (m : Bytes) (s : State) : State :=
  if segmentOk m && num m 1 1 != type then s else if s.stopped then s.mgtCount 2 else segmentTake m s

def execAnnounceReceive (m : Bytes) (s : State) : Answer := goOn (segmentRow 1 m s)
def execClaimReceive (m : Bytes) (s : State) : Answer := goOn (segmentRow 2 m s)
def execDefendReceive (m : Bytes) (s : State) : Answer := goOn (segmentRow 3 m s)

/-! ### The MAC and UDP (R483, R484, R488) -/

/-- A MAC address as a number, its first octet lowest, as MGT_MAC has it. -/
def macNumber (b : Bytes) : Nat := leNat b

/-- The addresses that the MAC accepts. -/
def macAccepts (s : State) : List Nat :=
  [macNumber (macAddress s), 2 ^ 48 - 1, macNumber [0x33#8, 0x33#8, 0#8, 0#8, 0#8, 1#8],
    macNumber ([0x33#8, 0x33#8, 0xFF#8] ++ natBe (s.deviceId % 2 ^ 24) 3)]

/-- Is a DTLS record under the connection ID of a live session, or part of a handshake, which carries none yet (R489)? -/
def recordKnown (s : State) (m : Bytes) : Bool :=
  let b := num m 0 1
  if b / 32 = 1 then b.testBit 4 && (liveSessions s).any fun e => e.2.cid == beNat (sub m 1 8) else true

/-- MGT_FRAME_RECEIVE: a datagram goes on as a segment message or as a DTLS record; what a session's records hold are commands of
their own. -/
def mgtFrame (f : MgtFrame) (s : State) : State :=
  if !s.pins.miiEn then s
  else if s.stopped ∨ !f.fcsGood ∨ !(macAccepts s).contains f.dst.toNat then s.mgtCount 2
  else
    let s := s.mgtCount 0
    if f.extHeader || f.fragment || !f.sumGood || f.port != 61400 then s.mgtCount 2
    else if num f.payload 0 1 = 0x5C then segmentTake f.payload s
    else if f.dst.toNat ≠ macNumber (macAddress s) then s.mgtCount 2
    else if recordKnown s f.payload then s
    else s.mgtCount 4

def execMgtFrameReceive (f : MgtFrame) (s : State) : Answer := goOn (mgtFrame f s)

/-- PLCA_BEACON_LOSS. -/
def execPlcaBeaconLoss (s : State) : Answer := goOn ((s.updMgt fun m => { m with beacon := false }).mgtEvent 2)

/-- PLCA_BEACON_SEEN. -/
def execPlcaBeaconSeen (s : State) : Answer := goOn (s.updMgt fun m => { m with beacon := true })

/-- The block's address (R488): fe80::/64 and the device ID, most significant byte first. -/
def ipAddress (s : State) : Bytes := [0xFE#8, 0x80#8, 0#8, 0#8, 0#8, 0#8, 0#8, 0#8] ++ natBe s.deviceId 8

/-- May the block send now: it holds a node, and no CUT has stopped the Keeper? -/
def maySend (s : State) : Bool := s.mgt.claim.state == 2#3 && !s.stopped

/-- NEIGHBOR_SOLICITATION (R488): for its address the block answers with an advertisement, solicited and overriding, that names its
MAC address. PRESUMED, assumption 36: the layout of RFC 4861, the checksum left to the sender's IP layer. -/
def neighborOp (target : Bytes) (s : State) : State :=
  if maySend s && target == ipAddress s then
    (s.emit (.icmp ([136#8, 0#8] ++ [0x60#8, 0#8, 0#8, 0#8] ++ target ++ [2#8, 1#8] ++ macAddress s))).mgtCount 1
  else s

def execNeighborSolicitation (target : Bytes) (s : State) : Answer := goOn (neighborOp target s)

/-- ECHO_REQUEST (R488): answered with the same identifier, number and data. -/
def echoOp (payload : Bytes) (s : State) : State :=
  if maySend s then (s.emit (.icmp ([129#8, 0#8] ++ payload))).mgtCount 1 else s

def execEchoRequest (payload : Bytes) (s : State) : Answer := goOn (echoOp payload s)

end Sys2Proof.Machine
end

