-- ==== Sys2Proof/Machine/Dispatch.lean ====
section
/-! DEFINITION. What each command does: one arm for each constructor of Instr, one direct call of its meaning. -/

namespace Sys2Proof.Machine

def exec (i : Instr) (s : State) : Host.Outcome State Fault Refusal :=
  match i with
  | .registerWrite bus addr value => Sys2Proof.Machine.execRegisterWrite bus addr value s
  | .rcRegisterRead bus addr => Sys2Proof.Machine.execRcRegisterRead bus addr s
  | .lowWordReadLatch bus addr => Sys2Proof.Machine.execLowWordReadLatch bus addr s
  | .lowWordWriteHold bus addr value => Sys2Proof.Machine.execLowWordWriteHold bus addr value s
  | .localTimebaseCorrection dom cycles => Sys2Proof.Machine.execLocalTimebaseCorrection dom cycles s
  | .hpTlpReceive tlp => Sys2Proof.Machine.execHpTlpReceive tlp s
  | .hpFlr func => Sys2Proof.Machine.execHpFlr func s
  | .hpFlrDone func => Sys2Proof.Machine.execHpFlrDone func s
  | .cpCompletion w => Sys2Proof.Machine.execCpCompletion w s
  | .cpReqReceive r => Sys2Proof.Machine.execCpReqReceive r s
  | .mpResponse port tag we err data => Sys2Proof.Machine.execMpResponse port tag we err data s
  | .linkFrameReceive lane vc route frame => Sys2Proof.Machine.execLinkFrameReceive lane vc route frame s
  | .frameRelease ctx => Sys2Proof.Machine.execFrameRelease ctx s
  | .laneUpFall lane => Sys2Proof.Machine.execLaneUpFall lane s
  | .laneUpRise lane => Sys2Proof.Machine.execLaneUpRise lane s
  | .powerOnReset level => Sys2Proof.Machine.execPowerOnReset level s
  | .fpWake => Sys2Proof.Machine.execFpWake s
  | .fpPackRise => Sys2Proof.Machine.execFpPackRise s
  | .fpPackFall => Sys2Proof.Machine.execFpPackFall s
  | .s1SelfWake port => Sys2Proof.Machine.execS1SelfWake port s
  | .extFaultRise n => Sys2Proof.Machine.execExtFaultRise n s
  | .otpProgramDone => Sys2Proof.Machine.execOtpProgramDone s
  | .scanModeRequest level => Sys2Proof.Machine.execScanModeRequest level s
  | .keyLookup l => Sys2Proof.Machine.execKeyLookup l s
  | .derivationQueueAdmit => Sys2Proof.Machine.execDerivationQueueAdmit s
  | .fastDerivationDone => Sys2Proof.Machine.execFastDerivationDone s
  | .deriveHmac replace => Sys2Proof.Machine.execDeriveHmac replace s
  | .deriveFast replace => Sys2Proof.Machine.execDeriveFast replace s
  | .unwrap replace => Sys2Proof.Machine.execUnwrap replace s
  | .importKey replace => Sys2Proof.Machine.execImportKey replace s
  | .retire => Sys2Proof.Machine.execRetire s
  | .retireMatch => Sys2Proof.Machine.execRetireMatch s
  | .setBudget => Sys2Proof.Machine.execSetBudget s
  | .wipeAll => Sys2Proof.Machine.execWipeAll s
  | .kvQuery => Sys2Proof.Machine.execKvQuery s
  | .keyRegisterDrop unit => Sys2Proof.Machine.execKeyRegisterDrop unit s
  | .transition a arg => Sys2Proof.Machine.execTransition a arg s
  | .lcBegin target => Sys2Proof.Machine.execLcBegin target s
  | .lcEraseReport => Sys2Proof.Machine.execLcEraseReport s
  | .lcCommit => Sys2Proof.Machine.execLcCommit s
  | .lcRollbackAdvance => Sys2Proof.Machine.execLcRollbackAdvance s
  | .lcNewNonce => Sys2Proof.Machine.execLcNewNonce s
  | .lcGrant => Sys2Proof.Machine.execLcGrant s
  | .lcClearRights => Sys2Proof.Machine.execLcClearRights s
  | .rollbackCommit a arg => Sys2Proof.Machine.execRollbackCommit a arg s
  | .debugNonce a => Sys2Proof.Machine.execDebugNonce a s
  | .debugCert a arg => Sys2Proof.Machine.execDebugCert a arg s
  | .consent a arg => Sys2Proof.Machine.execConsent a arg s
  | .atExtend index => Sys2Proof.Machine.execAtExtend index s
  | .atDiceStep index => Sys2Proof.Machine.execAtDiceStep index s
  | .atSign => Sys2Proof.Machine.execAtSign s
  | .measExtend a arg => Sys2Proof.Machine.execMeasExtend a arg s
  | .slateRequest path nonce => Sys2Proof.Machine.execSlateRequest path nonce s
  | .slateComplete => Sys2Proof.Machine.execSlateComplete s
  | .mailboxRequest page cmd => Sys2Proof.Machine.execMailboxRequest page cmd s
  | .spdmMsg a arg => Sys2Proof.Machine.execSpdmMsg a arg s
  | .doeDiscovery index => Sys2Proof.Machine.execDoeDiscovery index s
  | .getVersion t => Sys2Proof.Machine.execGetVersion t s
  | .getCapabilities t version => Sys2Proof.Machine.execGetCapabilities t version s
  | .negotiateAlgorithms t offer => Sys2Proof.Machine.execNegotiateAlgorithms t offer s
  | .getDigests t => Sys2Proof.Machine.execGetDigests t s
  | .getCertificate t slot offset length => Sys2Proof.Machine.execGetCertificate t slot offset length s
  | .challenge t slot summary nonce => Sys2Proof.Machine.execChallenge t slot summary nonce s
  | .getMeasurements t index signed nonce => Sys2Proof.Machine.execGetMeasurements t index signed nonce s
  | .keyExchange t carrier exchange => Sys2Proof.Machine.execKeyExchange t carrier exchange s
  | .finish t sid verified => Sys2Proof.Machine.execFinish t sid verified s
  | .endSession t sid => Sys2Proof.Machine.execEndSession t sid s
  | .ideKmQuery sid => Sys2Proof.Machine.execIdeKmQuery sid s
  | .keyProg sid stream sub tx ks key => Sys2Proof.Machine.execKeyProg sid stream sub tx ks key s
  | .kSetGo sid stream sub tx ks => Sys2Proof.Machine.execKSetGo sid stream sub tx ks s
  | .kSetStop sid stream sub tx ks => Sys2Proof.Machine.execKSetStop sid stream sub tx ks s
  | .getTdispVersion hall => Sys2Proof.Machine.execGetTdispVersion hall s
  | .getTdispCapabilities hall => Sys2Proof.Machine.execGetTdispCapabilities hall s
  | .lockInterfaceRequest hall stream => Sys2Proof.Machine.execLockInterfaceRequest hall stream s
  | .getDeviceInterfaceReport hall => Sys2Proof.Machine.execGetDeviceInterfaceReport hall s
  | .getDeviceInterfaceState hall => Sys2Proof.Machine.execGetDeviceInterfaceState hall s
  | .startInterfaceRequest hall nonce => Sys2Proof.Machine.execStartInterfaceRequest hall nonce s
  | .stopInterfaceRequest hall => Sys2Proof.Machine.execStopInterfaceRequest hall s
  | .stopInterfaceAnswer hall => Sys2Proof.Machine.execStopInterfaceAnswer hall s
  | .manifestChunk a arg => Sys2Proof.Machine.execManifestChunk a arg s
  | .planChunk a arg => Sys2Proof.Machine.execPlanChunk a arg s
  | .domainRoot a arg => Sys2Proof.Machine.execDomainRoot a arg s
  | .joinCommit a => Sys2Proof.Machine.execJoinCommit a s
  | .leave a => Sys2Proof.Machine.execLeave a s
  | .memberLost a arg => Sys2Proof.Machine.execMemberLost a arg s
  | .epochPrepare a arg => Sys2Proof.Machine.execEpochPrepare a arg s
  | .epochSwitch a arg => Sys2Proof.Machine.execEpochSwitch a arg s
  | .epochRetire a arg => Sys2Proof.Machine.execEpochRetire a arg s
  | .switchInstant ctx => Sys2Proof.Machine.execSwitchInstant ctx s
  | .hallRetireMessage ctx msg => Sys2Proof.Machine.execHallRetireMessage ctx msg s
  | .txFrameSeal ctx mismatch => Sys2Proof.Machine.execTxFrameSeal ctx mismatch s
  | .frameSent lane => Sys2Proof.Machine.execFrameSent lane s
  | .txFailover pipe => Sys2Proof.Machine.execTxFailover pipe s
  | .rxFailover pipe => Sys2Proof.Machine.execRxFailover pipe s
  | .streamAbandon a arg => Sys2Proof.Machine.execStreamAbandon a arg s
  | .lsTxBind index => Sys2Proof.Machine.execLsTxBind index s
  | .lsRxBind index => Sys2Proof.Machine.execLsRxBind index s
  | .lsUnbind index => Sys2Proof.Machine.execLsUnbind index s
  | .lsAbandon index => Sys2Proof.Machine.execLsAbandon index s
  | .lsArmSwitch => Sys2Proof.Machine.execLsArmSwitch s
  | .lsQuery index => Sys2Proof.Machine.execLsQuery index s
  | .lsFailover => Sys2Proof.Machine.execLsFailover s
  | .lineWrite r data => Sys2Proof.Machine.execLineWrite r data s
  | .partialWrite r be data => Sys2Proof.Machine.execPartialWrite r be data s
  | .lineRead r => Sys2Proof.Machine.execLineRead r s
  | .inflightTableAdmit => Sys2Proof.Machine.execInflightTableAdmit s
  | .lineRspReceive pipe payload => Sys2Proof.Machine.execLineRspReceive pipe payload s
  | .lnRegionWrite index sealed => Sys2Proof.Machine.execLnRegionWrite index sealed s
  | .lnRegionFree index => Sys2Proof.Machine.execLnRegionFree index s
  | .lnRegionSeal index => Sys2Proof.Machine.execLnRegionSeal index s
  | .regionSealComplete region => Sys2Proof.Machine.execRegionSealComplete region s
  | .lnRegionErase index => Sys2Proof.Machine.execLnRegionErase index s
  | .regionEraseComplete region => Sys2Proof.Machine.execRegionEraseComplete region s
  | .lnQuery index => Sys2Proof.Machine.execLnQuery index s
  | .treeCounterRead region line => Sys2Proof.Machine.execTreeCounterRead region line s
  | .treeCounterIncrement region line => Sys2Proof.Machine.execTreeCounterIncrement region line s
  | .nodeFetchResponse payload => Sys2Proof.Machine.execNodeFetchResponse payload s
  | .nodeWritebackResponse payload => Sys2Proof.Machine.execNodeWritebackResponse payload s
  | .trRootSave index keep => Sys2Proof.Machine.execTrRootSave index keep s
  | .trRootLoad index => Sys2Proof.Machine.execTrRootLoad index s
  | .trRootDrop index => Sys2Proof.Machine.execTrRootDrop index s
  | .trFlush index => Sys2Proof.Machine.execTrFlush index s
  | .trQuery index => Sys2Proof.Machine.execTrQuery index s
  | .trInject index level => Sys2Proof.Machine.execTrInject index level s
  | .move q => Sys2Proof.Machine.execMove q s
  | .mvSubmit mover => Sys2Proof.Machine.execMvSubmit mover s
  | .mvQuery mover => Sys2Proof.Machine.execMvQuery mover s
  | .moverSegment m => Sys2Proof.Machine.execMoverSegment m s
  | .moverDescriptorComplete m => Sys2Proof.Machine.execMoverDescriptorComplete m s
  | .moverAbortToken m q qgen => Sys2Proof.Machine.execMoverAbortToken m q qgen s
  | .reduce q => Sys2Proof.Machine.execReduce q s
  | .reductionSlice u slot lines => Sys2Proof.Machine.execReductionSlice u slot lines s
  | .reductionSlotComplete u slot => Sys2Proof.Machine.execReductionSlotComplete u slot s
  | .rdQuery u slot => Sys2Proof.Machine.execRdQuery u slot s
  | .rdAbort u slot => Sys2Proof.Machine.execRdAbort u slot s
  | .homeReqAccept ctx => Sys2Proof.Machine.execHomeReqAccept ctx s
  | .atomicUpdateApply entry => Sys2Proof.Machine.execAtomicUpdateApply entry s
  | .combiningFillDone entry status data => Sys2Proof.Machine.execCombiningFillDone entry status data s
  | .rspItemReceive ctx => Sys2Proof.Machine.execRspItemReceive ctx s
  | .auFlushHall hall => Sys2Proof.Machine.execAuFlushHall hall s
  | .auFlushAll => Sys2Proof.Machine.execAuFlushAll s
  | .auInject => Sys2Proof.Machine.execAuInject s
  | .queueCreate a arg => Sys2Proof.Machine.execQueueCreate a arg s
  | .queueDestroy a arg => Sys2Proof.Machine.execQueueDestroy a arg s
  | .queueDestroyFinish q => Sys2Proof.Machine.execQueueDestroyFinish q s
  | .feCmdCreate => Sys2Proof.Machine.execFeCmdCreate s
  | .feCmdDestroy => Sys2Proof.Machine.execFeCmdDestroy s
  | .feCmdQuery q => Sys2Proof.Machine.execFeCmdQuery q s
  | .doorbell hall slot value => Sys2Proof.Machine.execDoorbell hall slot value s
  | .queueActivate q => Sys2Proof.Machine.execQueueActivate q s
  | .ringEntryFetched q entry => Sys2Proof.Machine.execRingEntryFetched q entry s
  | .commandChunkFetched q data => Sys2Proof.Machine.execCommandChunkFetched q data s
  | .launch q => Sys2Proof.Machine.execLaunch q s
  | .signal q => Sys2Proof.Machine.execSignal q s
  | .signalApply q => Sys2Proof.Machine.execSignalApply q s
  | .wait q => Sys2Proof.Machine.execWait q s
  | .waitGraphWalk q => Sys2Proof.Machine.execWaitGraphWalk q s
  | .atomic q => Sys2Proof.Machine.execAtomic q s
  | .condJump q => Sys2Proof.Machine.execCondJump q s
  | .loop q => Sys2Proof.Machine.execLoop q s
  | .call q => Sys2Proof.Machine.execCall q s
  | .ret q => Sys2Proof.Machine.execRet q s
  | .setReg q => Sys2Proof.Machine.execSetReg q s
  | .mark q => Sys2Proof.Machine.execMark q s
  | .takeOverrun slot => Sys2Proof.Machine.execTakeOverrun slot s
  | .fenceCreate a arg => Sys2Proof.Machine.execFenceCreate a arg s
  | .fenceDestroy a arg => Sys2Proof.Machine.execFenceDestroy a arg s
  | .fenceClear a arg => Sys2Proof.Machine.execFenceClear a arg s
  | .semAlloc a arg => Sys2Proof.Machine.execSemAlloc a arg s
  | .semFree a arg => Sys2Proof.Machine.execSemFree a arg s
  | .fsFenceCreate => Sys2Proof.Machine.execFsFenceCreate s
  | .fsFenceDestroy => Sys2Proof.Machine.execFsFenceDestroy s
  | .fsFenceClear => Sys2Proof.Machine.execFsFenceClear s
  | .fsSemAlloc => Sys2Proof.Machine.execFsSemAlloc s
  | .fsSemFree => Sys2Proof.Machine.execFsSemFree s
  | .fsQuery kind obj => Sys2Proof.Machine.execFsQuery kind obj s
  | .fsFault kind obj => Sys2Proof.Machine.execFsFault kind obj s
  | .msixMessage hall vector => Sys2Proof.Machine.execMsixMessage hall vector s
  | .hallCreate a arg => Sys2Proof.Machine.execHallCreate a arg s
  | .hallDestroy a arg => Sys2Proof.Machine.execHallDestroy a arg s
  | .retireDrainDone hall => Sys2Proof.Machine.execRetireDrainDone hall s
  | .hallGrant a arg => Sys2Proof.Machine.execHallGrant a arg s
  | .hallUngrant a arg => Sys2Proof.Machine.execHallUngrant a arg s
  | .map a arg => Sys2Proof.Machine.execMap a arg s
  | .unmap a arg => Sys2Proof.Machine.execUnmap a arg s
  | .unmapComplete serial => Sys2Proof.Machine.execUnmapComplete serial s
  | .scrubDone hall => Sys2Proof.Machine.execScrubDone hall s
  | .ituClean => Sys2Proof.Machine.execItuClean s
  | .ituQuery hall => Sys2Proof.Machine.execItuQuery hall s
  | .ituHallCreate => Sys2Proof.Machine.execItuHallCreate s
  | .ituHallDestroy => Sys2Proof.Machine.execItuHallDestroy s
  | .ituGrant => Sys2Proof.Machine.execItuGrant s
  | .ituUngrant => Sys2Proof.Machine.execItuUngrant s
  | .ituMap => Sys2Proof.Machine.execItuMap s
  | .ituUnmap => Sys2Proof.Machine.execItuUnmap s
  | .ituFreeze => Sys2Proof.Machine.execItuFreeze s
  | .ituSave pages => Sys2Proof.Machine.execItuSave pages s
  | .ituRestore image => Sys2Proof.Machine.execItuRestore image s
  | .ituThaw => Sys2Proof.Machine.execItuThaw s
  | .ituMigrateDone => Sys2Proof.Machine.execItuMigrateDone s
  | .hallFreeze a arg => Sys2Proof.Machine.execHallFreeze a arg s
  | .hallFreezeComplete hall => Sys2Proof.Machine.execHallFreezeComplete hall s
  | .hallSave a arg pages => Sys2Proof.Machine.execHallSave a arg pages s
  | .hallRestore a arg image => Sys2Proof.Machine.execHallRestore a arg image s
  | .hallThaw a arg => Sys2Proof.Machine.execHallThaw a arg s
  | .migrateDone a arg => Sys2Proof.Machine.execMigrateDone a arg s
  | .hallQuery a arg => Sys2Proof.Machine.execHallQuery a arg s
  | .translationLookup r => Sys2Proof.Machine.execTranslationLookup r s
  | .walkReadResponse walk err => Sys2Proof.Machine.execWalkReadResponse walk err s
  | .bucketRefill => Sys2Proof.Machine.execBucketRefill s
  | .faultMessageAccept source tdelta => Sys2Proof.Machine.execFaultMessageAccept source tdelta s
  | .autoT3Request => Sys2Proof.Machine.execAutoT3Request s
  | .fcuInjArm source kind => Sys2Proof.Machine.execFcuInjArm source kind s
  | .faultInject a arg => Sys2Proof.Machine.execFaultInject a arg s
  | .hangWindowBoundary => Sys2Proof.Machine.execHangWindowBoundary s
  | .queueT0Reset q => Sys2Proof.Machine.execQueueT0Reset q s
  | .queueT0Finish q => Sys2Proof.Machine.execQueueT0Finish q s
  | .engineT1Reset unit => Sys2Proof.Machine.execEngineT1Reset unit s
  | .sliceT2Reset slice => Sys2Proof.Machine.execSliceT2Reset slice s
  | .blockT3Reset => Sys2Proof.Machine.execBlockT3Reset s
  | .treadWindowMiss tread target => Sys2Proof.Machine.execTreadWindowMiss tread target s
  | .landingDrainEnd tread target => Sys2Proof.Machine.execLandingDrainEnd tread target s
  | .hrReset tread => Sys2Proof.Machine.execHrReset tread s
  | .hrQuery tread => Sys2Proof.Machine.execHrQuery tread s
  | .resetOrder a arg => Sys2Proof.Machine.execResetOrder a arg s
  | .cutArm a arg => Sys2Proof.Machine.execCutArm a arg s
  | .cutDisarm a => Sys2Proof.Machine.execCutDisarm a s
  | .dbgArm flags serial => Sys2Proof.Machine.execDbgArm flags serial s
  | .dbgDisarm => Sys2Proof.Machine.execDbgDisarm s
  | .dbgRushesDump => Sys2Proof.Machine.execDbgRushesDump s
  | .dbgRingRead => Sys2Proof.Machine.execDbgRingRead s
  | .cutStop => Sys2Proof.Machine.execCutStop s
  | .cutResume => Sys2Proof.Machine.execCutResume s
  | .dailiesRecord kind unit scanMap body => Sys2Proof.Machine.execDailiesRecord kind unit scanMap body s
  | .lateArrival channel item => Sys2Proof.Machine.execLateArrival channel item s
  | .cutOrderReceive ctx msg => Sys2Proof.Machine.execCutOrderReceive ctx msg s
  | .rushesTick unit => Sys2Proof.Machine.execRushesTick unit s
  | .rushesRead a arg => Sys2Proof.Machine.execRushesRead a arg s
  | .pmatchWrite hall slot value => Sys2Proof.Machine.execPmatchWrite hall slot value s
  | .cclkMultWrite mult => Sys2Proof.Machine.execCclkMultWrite mult s
  | .pllRelockDone => Sys2Proof.Machine.execPllRelockDone s
  | .timeExchangeStart => Sys2Proof.Machine.execTimeExchangeStart s
  | .timeMessageReceive ctx msg => Sys2Proof.Machine.execTimeMessageReceive ctx msg s
  | .timeParent a arg => Sys2Proof.Machine.execTimeParent a arg s
  | .powerStateEntry => Sys2Proof.Machine.execPowerStateEntry s
  | .maskRomBoot => Sys2Proof.Machine.execMaskRomBoot s
  | .recoveryWrite a arg => Sys2Proof.Machine.execRecoveryWrite a arg s
  | .recoveryCommit a => Sys2Proof.Machine.execRecoveryCommit a s
  | .shutdown a arg => Sys2Proof.Machine.execShutdown a arg s
  | .rootStoreUse a arg => Sys2Proof.Machine.execRootStoreUse a arg s
  | .wake a => Sys2Proof.Machine.execWake a s
  | .xspiCommand opcode length => Sys2Proof.Machine.execXspiCommand opcode length s
  | .mgtFrameReceive f => Sys2Proof.Machine.execMgtFrameReceive f s
  | .announceReceive m => Sys2Proof.Machine.execAnnounceReceive m s
  | .claimReceive m => Sys2Proof.Machine.execClaimReceive m s
  | .defendReceive m => Sys2Proof.Machine.execDefendReceive m s
  | .claimListenEnd => Sys2Proof.Machine.execClaimListenEnd s
  | .claimSend => Sys2Proof.Machine.execClaimSend s
  | .claimWindowEnd => Sys2Proof.Machine.execClaimWindowEnd s
  | .announceSend => Sys2Proof.Machine.execAnnounceSend s
  | .noNodeRetry => Sys2Proof.Machine.execNoNodeRetry s
  | .plcaBeaconLoss => Sys2Proof.Machine.execPlcaBeaconLoss s
  | .neighborSolicitation target => Sys2Proof.Machine.execNeighborSolicitation target s
  | .echoRequest payload => Sys2Proof.Machine.execEchoRequest payload s
  | .dtlsClientHello h => Sys2Proof.Machine.execDtlsClientHello h s
  | .sessionEnd sess => Sys2Proof.Machine.execSessionEnd sess s
  | .keyUpdate sess => Sys2Proof.Machine.execKeyUpdate sess s
  | .callSheetGet sess msg => Sys2Proof.Machine.execCallSheetGet sess msg s
  | .callSheetSet sess msg => Sys2Proof.Machine.execCallSheetSet sess msg s
  | .callSheetGetMulti sess msg => Sys2Proof.Machine.execCallSheetGetMulti sess msg s
  | .callSheetAction sess msg => Sys2Proof.Machine.execCallSheetAction sess msg s
  | .actionWaitResponse sess tag => Sys2Proof.Machine.execActionWaitResponse sess tag s
  | .callSheetSubscribe sess msg => Sys2Proof.Machine.execCallSheetSubscribe sess msg s
  | .subscriptionNotify sess tag => Sys2Proof.Machine.execSubscriptionNotify sess tag s
  | .keyQuery a arg => Sys2Proof.Machine.execKeyQuery a arg s
  | .logRead a arg => Sys2Proof.Machine.execLogRead a arg s
  | .counterRead a arg => Sys2Proof.Machine.execCounterRead a arg s
  | .hallCounters a arg => Sys2Proof.Machine.execHallCounters a arg s
  | .otpProgram a arg => Sys2Proof.Machine.execOtpProgram a arg s
  | .streamQuery a arg => Sys2Proof.Machine.execStreamQuery a arg s
  | .regionQuery a arg => Sys2Proof.Machine.execRegionQuery a arg s
  | .regionInstall a arg => Sys2Proof.Machine.execRegionInstall a arg s
  | .regionSeal a arg => Sys2Proof.Machine.execRegionSeal a arg s
  | .regionErase a arg => Sys2Proof.Machine.execRegionErase a arg s
  | .regionFree a arg => Sys2Proof.Machine.execRegionFree a arg s
  | .factoryCertWrite a arg => Sys2Proof.Machine.execFactoryCertWrite a arg s
  | .clockLoss pll clock => Sys2Proof.Machine.execClockLoss pll clock s
  | .extFaultFall n => Sys2Proof.Machine.execExtFaultFall n s
  | .otpVppOk => Sys2Proof.Machine.execOtpVppOk s
  | .keeperHaltRequest => Sys2Proof.Machine.execKeeperHaltRequest s
  | .plcaBeaconSeen => Sys2Proof.Machine.execPlcaBeaconSeen s
  | .dtlsHandshakeFinished sess chain good => Sys2Proof.Machine.execDtlsHandshakeFinished sess chain good s

end Sys2Proof.Machine
end

