-- ==== Sys2Proof/Machine/Steady.lean ====
section
/-! DEFINITION. Each subsystem without the fields that the delivery of answers may change: what an answer on its way leaves alone.
The statements of what each command leaves unchanged are made of these. -/

namespace Sys2Proof.Machine

-- One declaration at a time, so that the elaborator holds few threads (each takes stack of its own).
set_option Elab.async false

/-- `pins` without the fields that the delivery of answers may change. -/
def Pins.rest (x : Pins) : Pins := { x with
  preempt := default }

/-- `kv` without the fields that the delivery of answers may change. -/
def Kv.rest (x : Kv) : Kv := { x with
  counters := default
  events := default
  lru := default
  pipes := default
  queue := default
  slots := default
  stalled := default }

/-- `att` without the fields that the delivery of answers may change. -/
def At.rest (x : At) : At := { x with
  ideKeys := default }

/-- `ls` without the fields that the delivery of answers may change. -/
def Ls.rest (x : Ls) : Ls := { x with
  counters := default
  rx := default
  tx := default }

/-- `ln` without the fields that the delivery of answers may change. -/
def Ln.rest (x : Ln) : Ln := { x with
  answer := default
  counters := default
  events := default
  go := default
  inflight := default
  nextReq := default
  op := default
  regions := default
  result := default
  retire := default
  stalled := default }

/-- `tr` without the fields that the delivery of answers may change. -/
def Tr.rest (x : Tr) : Tr := { x with
  blob := default
  counters := default
  events := default
  fetched := default
  flushing := default
  go := default
  index := default
  inject := default
  keep := default
  lru := default
  nextReq := default
  op := default
  requests := default
  result := default
  serial := default
  trees := default
  waits := default }

/-- `mv` without the fields that the delivery of answers may change. -/
def Mv.rest (x : Mv) : Mv := { x with
  counters := default
  events := default
  movers := default
  placement := default }

/-- `rd` without the fields that the delivery of answers may change. -/
def Rd.rest (x : Rd) : Rd := { x with
  counters := default
  events := default
  slots := default }

/-- `au` without the fields that the delivery of answers may change. -/
def Au.rest (x : Au) : Au := { x with
  comb := default
  counters := default
  events := default
  flushing := default
  go := default
  lru := default
  nextReq := default
  op := default
  queue := default
  result := default }

/-- `fe` without the fields that the delivery of answers may change. -/
def Fe.rest (x : Fe) : Fe := { x with
  activeOrder := default
  counters := default
  events := default
  queues := default
  signalDrops := default
  slots := default
  works := default }

/-- `adm` without the fields that the delivery of answers may change. -/
def Adm.rest (x : Adm) : Adm := { x with
  counters := default
  events := default
  sharedUsed := default }

/-- `itu` without the fields that the delivery of answers may change. -/
def Itu.rest (x : Itu) : Itu := { x with
  counters := default
  events := default
  go := default
  halls := default
  op := default
  result := default
  tlb := default }

/-- `fcu` without the fields that the delivery of answers may change. -/
def Fcu.rest (x : Fcu) : Fcu := { x with
  armed := default
  counters := default
  events := default
  fifo := default
  seqs := default }

/-- `hr` without the fields that the delivery of answers may change. -/
def Hr.rest (x : Hr) : Hr := { x with
  events := default
  stale := default
  watch := default }

/-- `dbg` without the fields that the delivery of answers may change. -/
def Dbg.rest (x : Dbg) : Dbg := { x with
  rings := default }

/-- `pwr` without the fields that the delivery of answers may change. -/
def Pwr.rest (x : Pwr) : Pwr := { x with
  flash := default
  shut := default
  shutDone := default }

/-- `mgt` without the fields that the delivery of answers may change. -/
def Mgt.rest (x : Mgt) : Mgt := { x with
  sessions := default }

end Sys2Proof.Machine
end

