-- ==== Sys2Proof/Safety.lean ====
section
/-! DEFINITION. What counts as a safe step, which command may change which part, and the conditions and results that the statements
name: each says once, over the machine's own operations, when a command is taken and what it then leaves. -/

namespace Sys2Proof.Machine

-- One declaration at a time, so that the elaborator holds few threads (each takes stack of its own).
set_option Elab.async false

/-- A step that stops: a fault or a refusal. -/
def Stops (s : State) : Prop := ∀ t, step s ≠ .next t

/-- A step that goes on. -/
def Advances (s : State) : Prop := ∃ t, step s = .next t

/-- The slots of the key vault cleared with the slots `l` and every descendant of them (R85). -/
def slotsWithout (k : Kv) (l : List Nat) : Tab KeySlot := forAll (withChildren k l) (fun i t => t.set i default) k.slots

/-- The line request a row makes, before its pipe is chosen (R185, R186). -/
def lineReqOf (s : State) (a : LineAcc) (op : LineOp) (be : BitVec 64) (data : Bytes) : LineReq :=
  { id := lineId s.ln.nextReq, acc := a, op := op, line := a.offset / 64, be := be, data := fit data 64, ctr := 0, owner := lineOwner a
    unit := 0, gen := ugen s (ownerUnit s (lineOwner a)), pipe := linePipe s a.region (tagGroup (a.offset / 64)), phase := 0
    keyFail := false, asked := false }

/-- `s` with the next line request number taken. -/
def reqTaken (s : State) : State := s.updLn fun l => { l with nextReq := l.nextReq + 1 }

/-- `s` with a line request taken into the in-flight table (R193). -/
def reqInFlight (q : LineReq) (s : State) : State := s.updLn fun l => { l with inflight := l.inflight ++ [q] }

/-- A line request the unit takes: room in the table, the region's hall of its generation, the contexts bound, the region not busy
and the offset inside it (R185, R193, R200). -/
def lineTaken (s : State) (a : LineAcc) : Bool :=
  decide (s.ln.inflight.length < 4096) && s.ln.stalled.isEmpty && decide (a.region < 1280)
    && !(isVault a.region && !s.conf.tree) && (regionOf s a.region).state != .free && genOk s a.hall a.hgen.toNat
    && dHall (regionOf s a.region).desc == a.hall && dGen (regionOf s a.region).desc == a.hgen.toNat
    && !regionBusy s a.region false && ctxsBound s (regionOf s a.region).desc && decide (a.offset < dBytes (regionOf s a.region).desc)

/-- REGION_ERASE may be done on region `r` with the descriptor written (R198). -/
def regionEraseOk (r : Nat) (s : State) : Bool :=
  let o := (regionOf s r).desc
  let d := descBytes s.ln
  d.take 12 == o.take 12 && sub d 16 8 == sub o 16 8 && d.drop 32 == o.drop 32 && decide (dVersion o < 2 ^ 32 - 1)
    && dVersion d == dVersion o + 1 && descOk r d && handleFree s (dDkey d) && handleFree s (dMkey d) && dDkey d != dMkey d
    && nkeyServes s r d && s.tr.nkey != (regionOf s r).nkey

/-- The blob in the tree's registers is a root of region `r` that this module saved last, and the region is free (R230). -/
def rootLoadOk (r : Nat) (s : State) : Bool :=
  let b := blobBytes s.tr
  s.conf.tree && s.lcState != scrap && (regionOf s r).state == .free
    && sub b 192 48 == Crypto.digestBytes (Crypto.hmac (Crypto.keyBytes (storageKey s)) (b.take 192))
    && num b 0 2 == 0x7201 && num b 2 2 == 240 && num b 10 2 == 0 && num b 34 2 == 0 && allZero (sub b 52 12)
    && allZero (sub b 184 8) && num b 44 8 == s.deviceId && num b 4 2 == r && num b 36 8 == s.tr.serial.toNat

/-- A slot of a reduction unit that has a piece of its slice ready to combine (R257, R258). -/
def redRuns (u k : Nat) (s : State) : Bool :=
  let x := redOf s u k
  x.state != 0 && x.state != 3 && x.ending == Status.ok && redReady x != 0 && !isLanding s (Src.red u) && !faultStall (Src.red u) s
    && !s.fcu.safe

/-- Every descriptor of a mover that is not done belongs to its hall's present generation (R28). -/
def moverFresh (m : Nat) (s : State) : Bool :=
  ((moverOf s m).radio ++ (moverOf s m).reserved ++ (moverOf s m).spot).all fun d => mdDone d || !mdStale s d.desc

/-- The held REQ frame's header names its context's hall, and the hall is of that generation (R267). -/
def homeFits (i : Nat) (h : HeldFrame) (s : State) : Bool :=
  rqHall (h.payload.take 64) == (rxOf s i).hall && rqHgen (h.payload.take 64) == (rxOf s i).hgen.toNat
    && genOk s (rxOf s i).hall (rxOf s i).hgen.toNat

/-- The packet of opcode `op` that queue `q` decodes next: the queue runs with an active entry and nothing being fetched, the
packet's units are all on chip, whatever SIGNALs are due before it (R296, R300, R304). -/
def packetReady (q op : Nat) (s : State) : Option Packet :=
  match (queueOf s q).bufs with
  | [] => none
  | (b, pos) :: _ =>
    let u := b.units.get pos
    match extOf op with
    | none => none
    | some e =>
      let more := (List.range e).map fun i => b.units.get (pos + 1 + i)
      if (queueOf s q).state == .running && (queueOf s q).active && (queueOf s q).fetch == .idle && (queueOf s q).fetched.isNone
          && !s.fcu.safe && !s.fcu.armed && !isLanding s Src.fe && !u.isEmpty && num u 0 1 == op
          && bits (num u 1 1) 0 2 == e && decide (pos + e + 1 ≤ bufUnits b.header) && !more.any (·.isEmpty) then
        some { idx := pos, units := bufUnits b.header, unit := u, more := more }
      else none

/-- The state in which a document chunk is looked at: a manifest chunk at offset 0 opens the join for its session (R142). -/
def chunkFrom (sess : Nat) (arg : Bytes) (s : State) : State :=
  if num arg 0 4 = 0 then s.updDom fun d => { d with joinSess := sess } else s

/-- The block joined with manifest `m` and plan `p`, from `v`, `s` with the epoch key derived (R142). -/
def joinMade (sess : Nat) (m p : Bytes) (s v : State) : State :=
  derivePlan (installDocs m p (v.updDom fun d => { d with
    joined := true, member := BitVec.ofNat 13 (mfMember s m), epoch := BitVec.ofNat 32 (mfEpoch m)
    signer := some (sessOf s sess).leaf, lost := ((mfMembers m).filter (·.lost)).map (·.id), stepState := 0 }))

/-- The epoch step to `next` begun with manifest `m` and plan `p`, from `v`, `s` with the epoch key derived (R145). -/
def stepMade (next : Nat) (m p : Bytes) (v : State) : State :=
  derivePlan (installDocs m p (v.updDom fun d => { d with
    stepPending := true, nextEpoch := BitVec.ofNat 32 next, switched := false, stepState := 1, oldPlan := d.plan }))

/-- QUEUE_CREATE's argument block names a queue that may be made (R292, R293). -/
def queueCreateOk (b : Bytes) (s : State) : Bool :=
  let h := hallOf s (num b 0 2)
  let ckey : Handle := BitVec.ofNat 32 (num b 16 4)
  s.fe.saveBase != 0 && decide (num b 0 2 < 4096) && h.state == .live && decide (6 ≤ num b 3 1 ∧ num b 3 1 ≤ 16)
    && allZero (sub b 24 8) && (num b 6 2 == 0 || qClass h == 0) && num b 8 8 % (16 * 2 ^ num b 3 1) == 0
    && (if isSealed h then hClass ckey == 6 && hHall ckey == num b 0 2 && h.tdi == .unlocked else ckey == 0#32 && num b 20 4 == 0)
    && (queueAt s (num b 0 2) (num b 2 1)).isNone
    && (match s.fe.contexts.get (num b 4 2) with | some o => o == num b 0 2 | none => true)
    && decide ((hallQueues s (num b 0 2)).length < qQueues h)

/-- The queue QUEUE_CREATE makes from its argument block (R292). -/
def queueMade (b : Bytes) (gen : BitVec 16) : Queue :=
  let base : DWord := BitVec.ofNat 64 (num b 8 8)
  { (default : Queue) with
    state := .idle, qgen := gen, hall := num b 0 2, slot := num b 2 1, context := num b 4 2, ringBase := base, ringLog2 := num b 3 1
    ckey := BitVec.ofNat 32 (num b 16 4), serial := BitVec.ofNat 32 (num b 20 4), slots := BitVec.ofNat 16 (num b 6 2), qseq := 1#64 }

/-- A doorbell that queue `q` of its hall takes (R294). -/
def doorbellOk (hall q : Nat) (t : Word) (s : State) : Bool :=
  let x := queueOf s q
  let h := hallOf s hall
  (x.state == .idle || x.state == .ready || x.state == .running || x.state == .parked) && !x.t0 && h.state == .live
    && (!isSealed h || h.tdi == .run) && decide ((t - x.tail).toNat ≤ 2 ^ x.ringLog2 - (x.tail - x.head).toNat)

/-- FENCE_CREATE's argument block names a fence that may be made (R327). -/
def fenceCreateOk (b : Bytes) (s : State) : Bool :=
  let hall := num b 0 2
  let prod := num b 6 2
  decide (hall < 4096) && (hallOf s hall).state == .live && decide (num b 2 2 < 2048) && decide (num b 5 1 < 16)
    && !(hallFences s hall).any (fun f => (fenceOf s f).view == num b 2 2) && decide (num b 4 1 < 3)
    && (num b 4 1 != 0 || prod == 0)
    && (num b 4 1 != 1 || (decide (prod < 16384) && (queueOf s prod).state != .free && (queueOf s prod).hall == hall))
    && (num b 4 1 != 2 || (s.dom.joined && prod != s.dom.member.toNat && s.dom.members.any (fun m => m.id == prod)))
    && decide ((hallFences s hall).length < qFences (hallOf s hall))

/-- The fence FENCE_CREATE makes from its argument block (R327). -/
def fenceMade (b : Bytes) : Fence :=
  let v : DWord := BitVec.ofNat 64 (num b 8 8)
  let pk : BitVec 2 := BitVec.ofNat 2 (num b 4 1)
  { value := v, state := 1#2, status := Status.ok, backward := false, hall := num b 0 2, view := num b 2 2
    pkind := pk, producer := num b 6 2, notify := (num b 5 1).testBit 0, nvec := bits (num b 5 1) 1 3 }

/-- SEM_ALLOC may make a local semaphore of the hall (R332). -/
def semAllocOk (hall kind : Nat) (s : State) : Bool :=
  decide (hall < 4096) && (hallOf s hall).state == .live && (kind == 1 || kind == 2)
    && decide (hallSems s kind hall < (if kind = 1 then qLsems (hallOf s hall) else qBsems (hallOf s hall)))

/-- The index a semaphore is given: the lowest that is not in use (R332). -/
def semFreeIndex (kind : Nat) (s : State) : Option Nat :=
  firstFrom (fun i => !(semOf s kind i).alloc) (if kind = 1 then 4096 else 256) 0

/-- The semaphore may be freed by its hall (R332). -/
def semFreeOk (hall kind i : Nat) (s : State) : Bool :=
  (kind == 1 || kind == 2) && (semOf s kind i).alloc && (semOf s kind i).hall == hall && clearable (hallOf s hall)
    && (semWaiters s kind i).isEmpty

/-- The fence may be destroyed or cleared by its hall (R327, R330). -/
def fenceClearOk (hall f : Nat) (s : State) : Bool := fenceOfHall s f hall && clearable (hallOf s hall)

/-- The state in which an ITU_CMD operation is carried out: its hall and operation fields loaded (R347). -/
def ituTaken (op hall : Nat) (s : State) : State :=
  s.updItu fun u => { u with hall := BitVec.ofNat 12 hall, op := BitVec.ofNat 5 op }

/-- HALL_GRANT may give the granules of its argument block to its hall (R344). -/
def grantOk (b : Bytes) (s : State) : Bool :=
  decide (num b 0 2 < 4096) && ((hallOf s (num b 0 2)).state == .live || (hallOf s (num b 0 2)).state == .awaiting)
    && rangeOk s (num b 4 4) (num b 8 4) && granulesAll (num b 4 4) (num b 8 4) (fun g => granuleState s g == 1 && !granuleKept s g)

/-- HALL_UNGRANT may take back the granules of its argument block (R344). -/
def ungrantOk (b : Bytes) (s : State) : Bool :=
  let h := hallOf s (num b 0 2)
  decide (num b 0 2 < 4096) && (h.state == .live || h.state == .awaiting || h.state == .frozen || h.state == .moved)
    && rangeOk s (num b 4 4) (num b 8 4) && granulesAll (num b 4 4) (num b 8 4) (ownedBy s (num b 0 2))
    && !(h.leaves.any (fun e => leafMeets e.2 (num b 4 4) (num b 8 4))
      || s.itu.unmaps.any (fun u => u.hall == num b 0 2 && u.leaves.any fun l => leafMeets l (num b 4 4) (num b 8 4)))

/-- MAP may map the run of pages its argument block names (R352). -/
def mapOk (b : Bytes) (s : State) : Bool :=
  let m := mapArg b
  let h := hallOf s m.hall
  let code := leafSize m.leaf
  let keys := runKeys m.va m.count code
  let owned (p : Nat) : Bool :=
    let a := leafAddr (leafAdvance m.leaf p)
    granulesAll (a / granuleBytes) (cdiv (a + pageBytes code) granuleBytes - a / granuleBytes) (ownedBy s m.hall)
  decide (m.hall < 4096) && h.state == .live && decide (1 ≤ m.count ∧ m.count ≤ 65536) && leafForm m
    && !keys.any (fun k => pageMapped h k code) && (leafTarget m.leaf != 0 || (List.range m.count).all owned)
    && (leafTarget m.leaf != 1 || regionOfHall s m.hall (leafRegion m.leaf))
    && !keys.any (fun k => pageUnmapping s m.hall k code) && !(h.leaves.isEmpty && rootFrozen h)

/-- The leaves of a hall after MAP of its argument block (R352). -/
def mapLeaves (b : Bytes) (s : State) : Tab (BitVec 128) :=
  let m := mapArg b
  forAll ((List.range m.count).zip (runKeys m.va m.count (leafSize m.leaf))) (fun x t => Tab.set t x.2 (leafAdvance m.leaf x.1))
    (hallOf s m.hall).leaves

/-- The new tables MAP needs fit in the arena (R352). -/
def mapRoom (b : Bytes) (s : State) : Bool :=
  decide (tablesUsed s + (tableKeys (mapLeaves b s)).length - (hallOf s (mapArg b).hall).tables.length ≤ tablesRoom s)

/-- What MAP does when it may be done and its tables fit (R352). -/
def mapped (b : Bytes) (s : State) : State :=
  let m := mapArg b
  let u := setLeaves m.hall (mapLeaves b s) ((runKeys m.va m.count (leafSize m.leaf)).map fun k => (k, leafSize m.leaf)) s
  if (hallOf s m.hall).leaves.isEmpty then rootWrite m.hall u else u

/-- Every node of a line's path is on chip (R218). -/
def pathHeld (s : State) (r line : Nat) : Bool :=
  nodeHeld (regionOf s r).desc (treeOf s r) 0 (line / 16)
    && (pathOf (regionOf s r).desc line).all fun n => nodeHeld (regionOf s r).desc (treeOf s r) n.1 n.2

/-- A line's counter in its leaf node (R210). -/
def leafCounter (s : State) (r line : Nat) : Nat := (nodeOf (treeOf s r) 0 (line / 16)).counters.get (line % 16)

/-- HALL_SAVE may write the image of the frozen hall its argument block names (R357). -/
def saveOk (b : Bytes) (s : State) : Bool :=
  decide (num b 0 2 < 4096 ∧ num b 2 2 < 8192) && (hallOf s (num b 0 2)).state == .frozen && hostOpen s (num b 0 2)

/-- The image of an awaiting hall opens under the migration key into records that may all be restored, with a place for every page
(R358, R361, R362). -/
def restoreParts (h : Nat) (image : Bytes) (s : State) (key : BitVec 256) (body : Bytes) (l : List (Nat × Bytes))
    (placed : List (Nat × BitVec 128)) : Prop :=
  let hd := image.take 64
  let maps := (ofType l 2).map fun c => (num c 4 8 / 4096, BitVec.ofNat 128 (num c 12 16))
  let leaves := forAll placed (fun e t => Tab.set t e.1 e.2) ([] : Tab (BitVec 128))
  (hallOf s h).state = .awaiting ∧ restoreHeader s h image = true
    ∧ migrationKey s h (num hd 16 2) (num hd 18 2) (num hd 20 4) = some key ∧ openImage key hd image (num hd 4 4 / 8) = some body
    ∧ imageRecords (body.length / 8) body = some l ∧ placeLeaves (ownedGranules s h) 0 maps = some placed
    ∧ recordsOk l = true ∧ restoreFree s h l = true ∧ tablesUsed s + (tableKeys leaves).length ≤ tablesRoom s

/-- A call-sheet request of its row that a live session has not seen yet and that is well formed, with room for it (R502, R503,
R505). -/
def sheetTakes (row n : Nat) (m : Bytes) (s : State) : Bool :=
  let tag : Word := BitVec.ofNat 32 (num m 4 4)
  (sessOf s n).live && num m 1 1 == row && requestOk m && decide ((sessOf s n).outstanding.length < 16)
    && !(sessOf s n).outstanding.contains tag && (cancels m || (sessOf s n).kept.all fun e => e.1 != tag)

/-- `s` with a request of session `n` taken: its idle time begins again and it is counted (R502). -/
def sheetTaken (n : Nat) (s : State) : State := (updSess n (fun x => { x with idleSince := s.now }) s).mgtCount 6

/-- The stores are in canonical form: the flash, the key region, the key slots and the OTP words. -/
def Inv (s : State) : Prop :=
  Memory.wf flashFill s.pwr.flash = true ∧ Memory.wf keyRegionFill s.kv.region = true ∧ s.kv.slots.wf = true ∧ s.lc.otp.wf = true

/-! ### Which commands may change which part -/

/-- The commands that may change any part: a reset, the commands that wait for one, the actions of the Call Sheet, a register
write, a TLP, a fault message. -/
def wide : Instr → Bool
  | .registerWrite .. | .hpTlpReceive .. | .powerOnReset .. | .fpPackRise | .otpProgramDone | .faultMessageAccept ..
  | .autoT3Request | .hangWindowBoundary | .queueT0Reset .. | .engineT1Reset .. | .sliceT2Reset .. | .blockT3Reset
  | .treadWindowMiss .. | .landingDrainEnd .. | .hrReset .. | .hrQuery .. | .resetOrder .. | .recoveryCommit ..
  | .callSheetAction .. => true
  | _ => false

/-- May the command change the pins, but for cp_preempt? -/
def changesPins : Instr → Bool
  | .rcRegisterRead .. | .lowWordReadLatch .. | .lowWordWriteHold .. | .hpFlr .. | .hpFlrDone .. | .cpCompletion ..
  | .cpReqReceive .. | .mpResponse .. | .linkFrameReceive .. | .laneUpFall .. | .laneUpRise .. | .fpWake | .fpPackFall
  | .s1SelfWake .. | .extFaultRise .. | .scanModeRequest .. | .doorbell .. | .cutResume | .powerStateEntry | .maskRomBoot
  | .extFaultFall .. => true
  | c => wide c

/-- May the command change the key vault, but for its cache, its pipes and its queue? -/
def changesKeyVault : Instr → Bool
  | .linkFrameReceive .. | .fastDerivationDone | .deriveHmac .. | .deriveFast .. | .unwrap .. | .importKey .. | .retire
  | .retireMatch | .setBudget | .wipeAll | .kvQuery | .domainRoot .. | .hallRetireMessage .. | .hallDestroy ..
  | .retireDrainDone .. | .scrubDone .. | .ituClean | .ituQuery .. | .ituHallCreate | .ituHallDestroy | .ituGrant | .ituUngrant
  | .ituMap | .ituUnmap | .ituFreeze | .ituSave .. | .ituRestore .. | .ituThaw | .ituMigrateDone | .hallSave .. | .maskRomBoot => true
  | c => wide c

/-- May the command change the Keeper's key region? -/
def changesKeyRegion : Instr → Bool
  | .deriveHmac .. | .deriveFast .. | .unwrap .. | .importKey .. | .retire | .retireMatch | .setBudget | .wipeAll | .kvQuery
  | .domainRoot .. | .maskRomBoot => true
  | c => wide c

/-- May the command change the life-cycle and OTP controller? -/
def changesLifeCycle : Instr → Bool
  | .transition .. | .lcBegin .. | .lcEraseReport | .lcCommit | .lcRollbackAdvance | .lcNewNonce | .lcGrant | .lcClearRights
  | .rollbackCommit .. | .debugNonce .. | .debugCert .. | .consent .. | .hallCreate .. | .scrubDone .. | .ituClean | .ituQuery ..
  | .ituHallCreate | .ituHallDestroy | .ituGrant | .ituUngrant | .ituMap | .ituUnmap | .ituFreeze | .ituSave .. | .ituRestore ..
  | .ituThaw | .ituMigrateDone | .maskRomBoot | .otpProgram .. | .otpVppOk | .keeperHaltRequest => true
  | c => wide c

/-- May the command change the attestation unit, the SPDM sessions and the TDIs, but for the counters of the IDE keys? -/
def changesAttestation : Instr → Bool
  | .linkFrameReceive .. | .deriveHmac .. | .deriveFast .. | .unwrap .. | .importKey .. | .retire | .retireMatch | .setBudget
  | .wipeAll | .kvQuery | .lcBegin .. | .lcEraseReport | .lcCommit | .lcRollbackAdvance | .lcNewNonce | .lcGrant | .lcClearRights
  | .debugCert .. | .atExtend .. | .atDiceStep .. | .atSign | .measExtend .. | .slateRequest .. | .slateComplete
  | .mailboxRequest .. | .spdmMsg .. | .getVersion .. | .getCapabilities .. | .negotiateAlgorithms .. | .keyExchange ..
  | .finish .. | .endSession .. | .ideKmQuery .. | .keyProg .. | .kSetGo .. | .kSetStop .. | .stopInterfaceAnswer ..
  | .planChunk .. | .domainRoot .. | .joinCommit .. | .memberLost .. | .epochPrepare .. | .hallRetireMessage .. | .maskRomBoot
  | .mgtFrameReceive .. | .announceReceive .. | .claimReceive .. | .defendReceive .. | .sessionEnd .. | .dtlsHandshakeFinished .. => true
  | c => wide c

/-- May the command change the attestation unit at all, the counters of the IDE keys included? -/
def countsIde : Instr → Bool
  | .cpReqReceive .. | .mpResponse .. | .linkFrameReceive .. | .frameRelease .. | .laneUpFall .. | .fastDerivationDone
  | .deriveHmac .. | .deriveFast .. | .unwrap .. | .importKey .. | .retire | .retireMatch | .setBudget | .wipeAll | .kvQuery
  | .lcBegin .. | .lcEraseReport | .lcCommit | .lcRollbackAdvance | .lcNewNonce | .lcGrant | .lcClearRights | .debugCert ..
  | .atExtend .. | .atDiceStep .. | .atSign | .measExtend .. | .slateRequest .. | .slateComplete | .mailboxRequest ..
  | .spdmMsg .. | .getVersion .. | .getCapabilities .. | .negotiateAlgorithms .. | .keyExchange .. | .finish .. | .endSession ..
  | .ideKmQuery .. | .keyProg .. | .kSetGo .. | .kSetStop .. | .stopInterfaceRequest .. | .stopInterfaceAnswer .. | .planChunk ..
  | .domainRoot .. | .joinCommit .. | .memberLost .. | .epochPrepare .. | .hallRetireMessage .. | .txFrameSeal .. | .frameSent ..
  | .txFailover .. | .rxFailover .. | .streamAbandon .. | .lsTxBind .. | .lsRxBind .. | .lsUnbind .. | .lsAbandon ..
  | .lsArmSwitch | .lsQuery .. | .lsFailover | .lineWrite .. | .partialWrite .. | .lineRead .. | .inflightTableAdmit
  | .lineRspReceive .. | .lnRegionErase .. | .nodeFetchResponse .. | .nodeWritebackResponse .. | .move .. | .moverSegment ..
  | .reduce .. | .reductionSlice .. | .homeReqAccept .. | .atomicUpdateApply .. | .combiningFillDone .. | .rspItemReceive ..
  | .auFlushHall .. | .auFlushAll | .auInject | .queueDestroyFinish .. | .queueActivate .. | .ringEntryFetched ..
  | .commandChunkFetched .. | .launch .. | .signal .. | .wait .. | .atomic .. | .condJump .. | .loop .. | .call .. | .ret ..
  | .setReg .. | .mark .. | .msixMessage .. | .hallDestroy .. | .retireDrainDone .. | .scrubDone .. | .ituClean | .ituQuery ..
  | .ituHallCreate | .ituHallDestroy | .ituGrant | .ituUngrant | .ituMap | .ituUnmap | .ituFreeze | .ituSave .. | .ituRestore ..
  | .ituThaw | .ituMigrateDone | .hallFreeze .. | .hallSave .. | .queueT0Finish .. | .powerStateEntry | .maskRomBoot
  | .shutdown .. | .mgtFrameReceive .. | .announceReceive .. | .claimReceive .. | .defendReceive .. | .sessionEnd ..
  | .callSheetGet .. | .callSheetSet .. | .callSheetGetMulti .. | .callSheetSubscribe .. | .dtlsHandshakeFinished .. => true
  | c => wide c

/-- May the command change the domain: its manifest, its plan and its epochs? -/
def changesDomain : Instr → Bool
  | .linkFrameReceive .. | .frameRelease .. | .manifestChunk .. | .planChunk .. | .domainRoot .. | .joinCommit .. | .leave ..
  | .memberLost .. | .epochPrepare .. | .epochSwitch .. | .epochRetire .. | .hallRetireMessage .. | .frameSent ..
  | .hallCreate .. | .scrubDone .. | .ituClean | .ituQuery .. | .ituHallCreate | .ituHallDestroy | .ituGrant | .ituUngrant
  | .ituMap | .ituUnmap | .ituFreeze | .ituSave .. | .ituRestore .. | .ituThaw | .ituMigrateDone | .hallThaw ..
  | .timeMessageReceive .. | .mgtFrameReceive .. | .announceReceive .. | .claimReceive .. | .defendReceive .. | .sessionEnd ..
  | .dtlsHandshakeFinished .. => true
  | c => wide c

/-- May the command change the link sealer, but for its contexts and its counters? -/
def changesLinkSealer : Instr → Bool
  | .linkFrameReceive .. | .frameRelease .. | .laneUpFall .. | .deriveHmac .. | .deriveFast .. | .unwrap .. | .importKey ..
  | .retire | .retireMatch | .setBudget | .wipeAll | .kvQuery | .epochSwitch .. | .switchInstant .. | .txFrameSeal ..
  | .frameSent .. | .txFailover .. | .rxFailover .. | .streamAbandon .. | .lsTxBind .. | .lsRxBind .. | .lsUnbind ..
  | .lsAbandon .. | .lsArmSwitch | .lsQuery .. | .lsFailover | .maskRomBoot | .streamQuery .. => true
  | c => wide c

/-- May the command change the line sealer, but for its regions, its table of lines in flight and its running command? -/
def changesLineSealer : Instr → Bool
  | .linkFrameReceive .. | .lineRspReceive .. | .lnRegionWrite .. | .lnRegionFree .. | .lnRegionSeal .. | .lnRegionErase ..
  | .lnQuery .. | .regionInstall .. | .regionSeal .. | .regionErase .. | .regionFree .. => true
  | c => wide c

/-- May the command change the integrity tree unit, but for its trees, its requests and its running command? -/
def changesTree : Instr → Bool
  | .trRootSave .. | .trRootLoad .. | .trRootDrop .. | .trFlush .. | .trQuery .. | .trInject .. | .regionInstall ..
  | .regionSeal .. | .regionErase .. | .regionFree .. => true
  | c => wide c

/-- May the command change the registers of the movers? -/
def changesMovers : Instr → Bool
  | .mvSubmit .. | .mvQuery .. | .moverDescriptorComplete .. | .cutResume => true
  | c => wide c

/-- May the command change the registers of the reduction units? -/
def changesReduction : Instr → Bool
  | .rdQuery .. | .rdAbort .. => true
  | c => wide c

/-- May the command change the atomic unit, but for its home queue, its combining buffer and its running command? -/
def changesAtomics : Instr → Bool
  | .atomicUpdateApply .. | .auFlushHall .. | .auFlushAll | .auInject => true
  | c => wide c

/-- May the command change the front end, but for its queues, its work items and its slots? -/
def changesFrontEnd : Instr → Bool
  | .cpCompletion .. | .move .. | .reduce .. | .queueCreate .. | .queueDestroyFinish .. | .feCmdCreate | .feCmdDestroy
  | .feCmdQuery .. | .launch .. | .atomic .. | .scrubDone .. | .ituClean | .ituQuery .. | .ituHallCreate | .ituHallDestroy
  | .ituGrant | .ituUngrant | .ituMap | .ituUnmap | .ituFreeze | .ituSave .. | .ituRestore .. | .ituThaw | .ituMigrateDone
  | .hallRestore .. | .maskRomBoot => true
  | c => wide c

/-- May the command change the admission unit, but for its work pool? -/
def changesAdmission : Instr → Bool
  | .rcRegisterRead .. | .lowWordReadLatch .. | .txFrameSeal .. | .move .. | .reduce .. | .launch .. | .atomic .. | .maskRomBoot => true
  | c => wide c

/-- May the command change the fences, the semaphores and the mailboxes? -/
def changesFences : Instr → Bool
  | .hpFlr .. | .frameRelease .. | .slateRequest .. | .slateComplete | .mailboxRequest .. | .keyProg .. | .kSetGo ..
  | .kSetStop .. | .stopInterfaceRequest .. | .memberLost .. | .epochPrepare .. | .queueDestroy .. | .queueDestroyFinish ..
  | .feCmdCreate | .feCmdDestroy | .feCmdQuery .. | .signalApply .. | .wait .. | .waitGraphWalk .. | .fenceCreate ..
  | .fenceDestroy .. | .fenceClear .. | .semAlloc .. | .semFree .. | .fsFenceCreate | .fsFenceDestroy | .fsFenceClear
  | .fsSemAlloc | .fsSemFree | .fsQuery .. | .fsFault .. | .msixMessage .. | .hallDestroy .. | .retireDrainDone ..
  | .unmapComplete .. | .scrubDone .. | .ituClean | .ituQuery .. | .ituHallCreate | .ituHallDestroy | .ituGrant | .ituUngrant
  | .ituMap | .ituUnmap | .ituFreeze | .ituSave .. | .ituRestore .. | .ituThaw | .ituMigrateDone | .hallRestore ..
  | .migrateDone .. | .queueT0Finish .. | .maskRomBoot => true
  | c => wide c

/-- May the command change the isolation and translation unit, but for its halls, its translations and its running command? -/
def changesTranslation : Instr → Bool
  | .cpCompletion .. | .hallGrant .. | .hallUngrant .. | .unmap .. | .unmapComplete .. | .scrubDone .. | .ituClean | .ituQuery ..
  | .ituHallCreate | .ituHallDestroy | .ituGrant | .ituUngrant | .ituMap | .ituUnmap | .ituFreeze | .ituSave .. | .ituRestore ..
  | .ituThaw | .ituMigrateDone | .translationLookup .. | .walkReadResponse .. | .maskRomBoot => true
  | c => wide c

/-- May the command change the fault unit, but for its log of waiting messages and its counters? -/
def changesFaultUnit : Instr → Bool
  | .fcuInjArm .. | .faultInject .. | .cutResume | .maskRomBoot => true
  | c => wide c

/-- May the command change the hang and reset unit, but for its watches? -/
def changesHangUnit : Instr → Bool
  | .cpCompletion .. | .queueDestroyFinish .. | .queueT0Finish .. | .powerStateEntry | .maskRomBoot | .callSheetSet .. => true
  | c => wide c

/-- May the command change the debug unit, but for its trace rings? -/
def changesDebug : Instr → Bool
  | .localTimebaseCorrection .. | .linkFrameReceive .. | .cutArm .. | .cutDisarm .. | .dbgArm .. | .dbgDisarm | .dbgRushesDump
  | .dbgRingRead | .cutStop | .cutResume | .dailiesRecord .. | .lateArrival .. | .cutOrderReceive .. => true
  | c => wide c

/-- May the command change the power and clock unit, but for a shutdown in progress and the flash? -/
def changesPower : Instr → Bool
  | .rcRegisterRead .. | .lowWordReadLatch .. | .lowWordWriteHold .. | .localTimebaseCorrection .. | .hpFlr .. | .cpCompletion ..
  | .cpReqReceive .. | .mpResponse .. | .linkFrameReceive .. | .fpWake | .fpPackFall | .s1SelfWake .. | .memberLost ..
  | .epochPrepare .. | .doorbell .. | .cutArm .. | .dbgArm .. | .dbgDisarm | .dbgRushesDump | .dbgRingRead | .cutStop
  | .cutResume | .cutOrderReceive .. | .cclkMultWrite .. | .pllRelockDone | .timeExchangeStart | .timeMessageReceive ..
  | .timeParent .. | .powerStateEntry | .maskRomBoot | .recoveryWrite .. | .rootStoreUse .. | .wake .. | .xspiCommand ..
  | .callSheetSet .. | .clockLoss .. => true
  | c => wide c

/-- May the command change the management port, but for its sessions? -/
def changesManagement : Instr → Bool
  | .frameRelease .. | .memberLost .. | .epochPrepare .. | .queueDestroyFinish .. | .signalApply .. | .fenceCreate ..
  | .fsFenceCreate | .fsFenceDestroy | .fsFenceClear | .fsSemAlloc | .fsSemFree | .fsQuery .. | .fsFault .. | .unmapComplete ..
  | .scrubDone .. | .ituClean | .ituQuery .. | .ituHallCreate | .ituHallDestroy | .ituGrant | .ituUngrant | .ituMap | .ituUnmap
  | .ituFreeze | .ituSave .. | .ituRestore .. | .ituThaw | .ituMigrateDone | .hallSave .. | .hallRestore .. | .queueT0Finish ..
  | .maskRomBoot | .mgtFrameReceive .. | .announceReceive .. | .claimReceive .. | .defendReceive .. | .claimListenEnd
  | .claimSend | .claimWindowEnd | .announceSend | .noNodeRetry | .plcaBeaconLoss | .neighborSolicitation .. | .echoRequest ..
  | .dtlsClientHello .. | .sessionEnd .. | .keyUpdate .. | .callSheetGet .. | .callSheetSet .. | .callSheetGetMulti ..
  | .actionWaitResponse .. | .callSheetSubscribe .. | .subscriptionNotify .. | .plcaBeaconSeen | .dtlsHandshakeFinished .. => true
  | c => wide c

/-- May the command change the count of values drawn from the entropy source? -/
def drawsRandom : Instr → Bool
  | .registerWrite .. | .hpTlpReceive .. | .fpPackRise | .lcBegin .. | .lcEraseReport | .lcCommit | .lcRollbackAdvance
  | .lcNewNonce | .lcGrant | .lcClearRights | .debugNonce .. | .spdmMsg .. | .challenge .. | .getMeasurements ..
  | .keyExchange .. | .lockInterfaceRequest .. | .scrubDone .. | .ituClean | .ituQuery .. | .ituHallCreate | .ituHallDestroy
  | .ituGrant | .ituUngrant | .ituMap | .ituUnmap | .ituFreeze | .ituSave .. | .ituRestore .. | .ituThaw | .ituMigrateDone
  | .hallSave .. | .maskRomBoot | .callSheetAction .. => true
  | _ => false

end Sys2Proof.Machine
end

