-- ==== Sys2Proof/Certificates/Slice0/Obligations.lean ====
section
/-! DEFINITION. The statements about the block, one for each group of commands and one for each rule over all of them. -/

open Sys2Proof Sys2Proof.Machine

/-- R21: what the shadows of a bus do with a read of a low word, a read of a high word, a write of a low word, and (for LS_SWITCH_AT, a
64-bit register that software writes) a write of a high word; and the RC register of the block, which clears as it is read (R18). -/
def Obligations.SixtyFourBitShadows : Prop :=
  (∀ (bus : Bus) (a v : Nat) (s : State), busServes bus s = true → a % 8 = 0 → busReg64 (busInput bus s) bus a = some v →
    ∃ t, exec (.lowWordReadLatch bus a) s = .next t
      ∧ t.out = .regRead bus a (BitVec.ofNat 32 (v % 2 ^ 32)) :: (busInput bus s).out
      ∧ (shadowsOf t bus).rd = { addr := some a, word := BitVec.ofNat 32 (v / 2 ^ 32) }
      ∧ (shadowsOf t bus).wr = (shadowsOf (busInput bus s) bus).wr
      ∧ t = { busInput bus s with pins := t.pins, out := t.out })
  ∧ (∀ (bus : Bus) (a v : Nat) (s : State), busServes bus s = true → a % 8 = 0 → busReg64 (busInput bus s) bus a = some v →
    ∃ t, exec (.rcRegisterRead bus (a + 4)) s = .next t
      ∧ t = (busInput bus s).emit (.regRead bus (a + 4)
          (if (shadowsOf (busInput bus s) bus).rd.addr = some a then (shadowsOf (busInput bus s) bus).rd.word
           else BitVec.ofNat 32 (v / 2 ^ 32))))
  ∧ (∀ s : State, ∃ t, exec (.rcRegisterRead .keeper 0x10120) s = .next t
      ∧ t.out = .regRead .keeper 0x10120 s.adm.latMax :: s.out
      ∧ t.adm = { s.adm with latMax := s.open64.setWidth 32, recur := s.adm.recur + (if s.open64.setWidth 32 = 0#32 then 0#32 else 1#32) }
      ∧ t = { s with adm := t.adm, frees := s.frees + 1, out := t.out })
  ∧ (∀ (bus : Bus) (a v : Nat) (w : Word) (s : State), busServes bus s = true → a % 8 = 0 → busReg64 (busInput bus s) bus a = some v →
    ∃ t, exec (.lowWordWriteHold bus a w) s = .next t
      ∧ (shadowsOf t bus).wr = { addr := some a, word := w }
      ∧ (shadowsOf t bus).rd = (shadowsOf (busInput bus s) bus).rd
      ∧ t = { busInput bus s with pins := t.pins })
  ∧ (∀ (w : Word) (s : State), s.ls.go = false →
    ∃ t, exec (.registerWrite .keeper 0x4002C w) s = .next t
      ∧ t.ls.switchAt = w ++ (if s.pins.shadowsKeeper.wr.addr = some 0x40028 then s.pins.shadowsKeeper.wr.word
          else s.ls.switchAt.setWidth 32)
      ∧ t.pins.shadowsKeeper.wr.addr = none ∧ t.pins.shadowsKeeper.rd = s.pins.shadowsKeeper.rd
      ∧ t.pwr = s.pwr ∧ t.lc = s.lc ∧ t.att = s.att ∧ t.kv.region = s.kv.region)

/-- R37, R39 to R43: the TLP row on its reads, writes and two kinds of bad framing, and the two FLR rows. `portInput s` is the state that the
input itself leaves (R55). -/
def Obligations.HostPortCommands : Prop :=
  (∀ (t : Tlp) (off len : Nat) (s : State), hpServes s = true → isLanding s Src.hostPipes = false → t.first = true → t.err = false →
    t.kind = .memRead off len → off + len ≤ 0x10000 → t.ide = none → t.func ≤ (portInput s).conf.halls →
    ((portInput s).fcu.safe = false ∨ t.func = 0) → tdiTakes (portInput s) t = true →
    exec (.hpTlpReceive t) s = .next (settled ([], (pageGet len (.page t.func) off len (portInput s)).2.emit
      (.tlpAnswer t.func (pageGet len (.page t.func) off len (portInput s)).1))))
  ∧ (∀ (t : Tlp) (off : Nat) (data : Bytes) (s : State), hpServes s = true → isLanding s Src.hostPipes = false → t.first = true →
    t.err = false → t.kind = .memWrite off data → off + data.length ≤ 0x10000 → t.ide = none → t.func ≤ (portInput s).conf.halls →
    ((portInput s).fcu.safe = false ∨ t.func = 0) → tdiTakes (portInput s) t = true →
    exec (.hpTlpReceive t) s = .next (settled (pagePut data.length (.page t.func) off data (portInput s))))
  ∧ (∀ (t : Tlp) (s : State), hpServes s = true → isLanding s Src.hostPipes = false → t.first = false →
    ∃ u, exec (.hpTlpReceive t) s = .next u ∧ u.pins.framing = (portInput s).pins.framing.bump 0 1)
  ∧ (∀ (t : Tlp) (s : State), hpServes s = true → isLanding s Src.hostPipes = false → t.first = true → t.err = true →
    ∃ u, exec (.hpTlpReceive t) s = .next u ∧ u.pins.hpErrors = (portInput s).pins.hpErrors + 1)
  ∧ (∀ (s p : State), p = portInput s → s.pins.hpEn = true → p.pins.flr.contains 0 = false →
    ∃ u, exec (.hpFlr 0) s = .next u ∧ u.pins = { p.pins with flr := p.pins.flr ++ [0] }
      ∧ u.fs = { p.fs with mailboxes := p.fs.mailboxes.set 0 default } ∧ u = { p with pins := u.pins, fs := u.fs })
  ∧ (∀ (hall : Nat) (s p : State), p = portInput s → s.pins.hpEn = true → p.pins.flr.contains (hall + 1) = false →
    hall < p.conf.halls → (hallOf p hall).state = .free →
    ∃ u, exec (.hpFlr (hall + 1)) s = .next u ∧ u = { p with pins := { p.pins with flr := p.pins.flr ++ [hall + 1] } })
  ∧ (∀ (hall : Nat) (s p : State), p = portInput s → s.pins.hpEn = true → p.pins.flr.contains (hall + 1) = false →
    hall < p.conf.halls → (hallOf p hall).state = .live → (hallOf p hall).mode = .plain →
    exec (.hpFlr (hall + 1)) s = .next (resetPage hall (forAll (hallQueues p hall) queueDie
      { p with pins := { p.pins with flr := p.pins.flr ++ [hall + 1] } })))
  ∧ (∀ (func : Nat) (s : State), s.pins.hpEn = false → exec (.hpFlr func) s = .next s)
  ∧ (∀ (func : Nat) (s : State), s.pins.flr.contains func = true → flrReady s func = true →
    ∃ u, exec (.hpFlrDone func) s = .next u ∧ u.out = .flrDone func :: s.out ∧ u.pins.flr = s.pins.flr.filter (· != func)
      ∧ u = { s with pins := { s.pins with flr := u.pins.flr }, out := u.out })

/-- R45, R48, R158, R160, R168, R272: one clause for each effect of the rows of the compute port, the memory ports and the link ports.
`portInput s` is the state that the input itself leaves (R55). -/
def Obligations.ComputeMemoryAndLinkPorts : Prop :=
  (∀ (w : DWord) (i : Nat) (l : List Nat) (s u : State), portInput s = u → s.pins.cpEn = true → portServes s = true →
    u.fcu.safe = false → bits w.toNat 0 12 = 0 →
    u.hr.slotsOut.toNat.testBit (bits w.toNat 14 4) = false → bits w.toNat 32 16 = (queueOf u (bits w.toNat 18 14)).qgen.toNat →
    w.toNat.testBit 12 = false → w.toNat.testBit 13 = false →
    (slotOfEng u (bits w.toNat 14 4)).launches.filter (fun i => (u.fe.works.get i).live && (u.fe.works.get i).q == bits w.toNat 18 14) = i :: l →
    exec (.cpCompletion w) s = .next (progress (watchUnit (Src.engine (bits w.toNat 14 4)))
      (updSlot (bits w.toNat 14 4) (fun y => { y with launches := y.launches.filter (· != i) })
        (workEnd i (BitVec.ofNat 16 (bits w.toNat 48 16)) u))))
  ∧ (∀ (r : CpReq) (s u v : State) (t : Trans) (x : List Ans × State), portInput s = u → portServes s = true → s.pins.cpEn = true →
    u.fcu.safe = false → cpReqOk r = true →
    (isLanding u Src.au = false ∨ r.op.toNat < 2) →
    translate r.hall (hallOf u r.hall).hgen.toNat r.addr.toNat
      { targets := [1, 2], rd := r.op.toNat == 0 || decide (2 ≤ r.op.toNat), wr := r.op.toNat == 1 || decide (2 ≤ r.op.toNat)
        atm := decide (2 ≤ r.op.toNat) } u = (t, v) →
    ownRequest r.hall (hallOf u r.hall).hgen.toNat r.addr.toNat t (cpBlock u r).1 (cpBlock u r).2 (.cp r.tag) v = some x →
    reqFormOk (overwrite (cpBlock u r).1 8 (natLe 0 8) ++ (cpBlock u r).2) = true →
    exec (.cpReqReceive r) s = .next (settled x))
  ∧ (∀ (r : CpReq) (s u : State), portInput s = u → portServes s = true → s.pins.cpEn = true → u.fcu.safe = true →
    exec (.cpReqReceive r) s = .next (settled ([], cpAnswer r.tag Status.safeState [] u)))
  ∧ (∀ (port tag : Nat) (we : Bool) (data : Bytes) (r : MpReq) (s u : State), portInput s = u → s.pins.mpEn.getLsbD port = true →
    u.mp.find? (fun r => r.sent && r.port == port && r.tag == tag && r.we == we) = some r → u.fcu.armed = false →
    exec (.mpResponse port tag we 0#2 data) s
      = .next (settled (
        if hallPassed u r.hall r.hgen r.owner then ([], hallStale r.hall (mpPump port (u.setMp (u.mp.filter fun x => x.id != r.id))))
        else if r.gen = ugen u (ownerUnit u r.owner) then
          (mpAnswers r false data, mpPump port (u.setMp (u.mp.filter fun x => x.id != r.id)))
        else ([], staleReply (ownerUnit u r.owner) (mpPump port (u.setMp (u.mp.filter fun x => x.id != r.id)))))))
  ∧ (∀ (lane : Nat) (vc : BitVec 2) (route : Byte) (b : Bytes) (s u : State), portInput s = u → portServes s = true → u.fcu.armed = false →
    laneUp s lane = true → isLanding u (Src.linkRx (rxPipe u lane)) = false → rxPipeBad u (rxPipe u lane) = false →
    holdRoom u lane vc.toNat = true → bits (fDst b) 0 14 ≠ selfId u →
    exec (.linkFrameReceive lane vc route ⟨true, b⟩) s = .next (settled ([], relayOp lane route b u)))
  ∧ (∀ (lane : Nat) (vc : BitVec 2) (route : Byte) (b : Bytes) (s u : State), portInput s = u → portServes s = true → u.fcu.armed = false →
    laneUp s lane = true → isLanding u (Src.linkRx (rxPipe u lane)) = false → rxPipeBad u (rxPipe u lane) = false →
    holdRoom u lane vc.toNat = true → bits (fDst b) 0 14 = selfId u → faultStall (Src.linkRx (rxPipe u lane)) u = false →
    exec (.linkFrameReceive lane vc route ⟨true, b⟩) s = .next (settled (frameHere lane vc b u)))
  ∧ (∀ (lane : Nat) (vc : BitVec 2) (route : Byte) (b : Bytes) (s : State), portServes s = true → laneUp s lane = true →
    ∃ t, exec (.linkFrameReceive lane vc route ⟨false, b⟩) s = .next t
      ∧ t = { portInput s with pins := { (portInput s).pins with framing := (portInput s).pins.framing.bump (1 + groupOf lane) 1 } })
  ∧ (∀ (lane : Nat) (vc : BitVec 2) (route : Byte) (first : Bool) (b : Bytes) (s : State), laneUp s lane = false →
    exec (.linkFrameReceive lane vc route ⟨first, b⟩) s = .next s)
  ∧ (∀ (ctx : Nat) (h : HeldFrame) (s : State), (rxOf s ctx).live = true → (rxOf s ctx).waiting = false →
    (rxOf s ctx).held.find? (fun h => isOrdered h && h.seq == rxFloor (rxOf s ctx)) = some h → h.type = tSignal → h.taken = false →
    combDirty s (some (rxOf s ctx).hall) = [] →
    exec (.frameRelease ctx) s
      = .next (settled ([], signalDeliver ctx h (signalStatus (rxOf s ctx) h.seq (BitVec.ofNat 16 (num h.payload 6 2))) s)))
  ∧ (∀ (lane : Nat) (s : State), lane < s.conf.lanes → s.pins.laneUp.toNat.testBit lane = true →
    ∃ t, exec (.laneUpFall lane) s = .next t ∧ t.pins.laneUp = s.pins.laneUp &&& ~~~(BitVec.ofNat 64 (2 ^ lane))
      ∧ (.laneDown lane :: s.out) <:+ t.out)
  ∧ (∀ (lane : Nat) (s : State), lane < s.conf.lanes →
    ∃ t, exec (.laneUpRise lane) s = .next t ∧ t = { s with pins := { s.pins with laneUp := s.pins.laneUp ||| BitVec.ofNat 64 (2 ^ lane) } })

/-- R53 to R56, R428, R469, R470: one clause for each effect of the rows of the pins. -/
def Obligations.PinEvents : Prop :=
  (∀ s : State, ∃ t, exec (.powerOnReset false) s = .next t ∧ t.pins.por = true ∧ t.pwr.phase = .held ∧ t.pwr.flash = s.pwr.flash
      ∧ t.kv.slots = [] ∧ t.kv.region = [] ∧ t.mgt.sessions = [] ∧ t.fcu.log = [] ∧ t.ls.tx = [] ∧ t.ls.rx = [] ∧ t.pins.mpEn = 0#16
      ∧ t.pending = s.pending ∧ t.conf = s.conf)
  ∧ (∀ s : State, s.pins.por = true →
    ∃ t, exec (.powerOnReset true) s = .next t ∧ t.pins = { s.pins with por := false } ∧ t.pwr = { s.pwr with phase := .rom }
      ∧ t = { s with pins := t.pins, pwr := t.pwr })
  ∧ (∀ s : State, s.stopped = false → s.pwr.entering = false → s.pins.preq = false → s.pins.pack = false → s.pins.pstate = 1#2 →
    ∃ t, exec .fpWake s = .next t ∧ t.pins = { s.pins with pstate := 0#2, ptgt := 0#2, wake := false }
      ∧ t.pwr = { s.pwr with wakeReq := false, events := raised s.pwr.events 0 })
  ∧ (∀ s : State, s.pins.preq = true → s.pwr.entering = true → s.pins.wake = false → s.pwr.voided = false → s.pins.ptgt ≠ 0#2 →
    ∃ t, exec .fpPackRise s = .next t ∧ t.pins.pack = true ∧ t.pins.preq = false ∧ t.pins.pstate = s.pins.ptgt ∧ t.pwr.entering = false)
  ∧ (∀ s : State, s.pins.pack = true → s.pins.wake = false → s.pwr.voided = false →
    ∃ t, exec .fpPackFall s = .next t ∧ t.pins = { s.pins with pack := false } ∧ t = { s with pins := t.pins })
  ∧ (∀ (port : Nat) (s : State), portOn port s = true → s.pins.pstate = 1#2 → s.stopped = false → s.pwr.entering = false →
    ∃ t, exec (.s1SelfWake port) s = .next t ∧ t.pins = { s.pins with pstate := 0#2, ptgt := 0#2, wake := false }
      ∧ t.pwr = { s.pwr with wakeReq := false, events := raised s.pwr.events 0 })
  ∧ (∀ (port : Nat) (s : State), portOn port s = false → exec (.s1SelfWake port) s = .next s)
  ∧ (∀ (n : Nat) (s : State), n < 8 → s.pins.extHigh.toNat.testBit n = false → s.stopped = false →
    (s.fcu.fifo.get (Src.extFault n)).length < 4 →
    ∃ t, exec (.extFaultRise n) s = .next t ∧ t.pins.extHigh = s.pins.extHigh ||| BitVec.ofNat 8 (2 ^ n)
      ∧ t.fcu.fifo = s.fcu.fifo.set (Src.extFault n) (s.fcu.fifo.get (Src.extFault n)
          ++ [{ mkFault Kind.extFault noHall 0 0 false with seq := s.fcu.seqs.get (Src.extFault n) }]))
  ∧ (∀ (n : Nat) (s : State), n < 8 → s.pins.extHigh.toNat.testBit n = true →
    ∃ t, exec (.extFaultRise n) s = .next t ∧ t = s)
  ∧ (∀ (n : Nat) (s : State), n < 8 →
    ∃ t, exec (.extFaultFall n) s = .next t
      ∧ t = { s with pins := { s.pins with extHigh := s.pins.extHigh &&& ~~~(BitVec.ofNat 8 (2 ^ n)) } })
  ∧ (∀ (pll : Bool) (clock : ClockDomain) (s : State), (pll = true ∨ clockNeeded s clock = true) → s.fcu.fifo.get Src.pwr = [] →
    ∃ t, exec (.clockLoss pll clock) s = .next t
      ∧ t.fcu.fifo = s.fcu.fifo.set Src.pwr [{ mkFault Kind.clkLoss noHall 0 0 false with seq := s.fcu.seqs.get Src.pwr }]
      ∧ (pll = true → clock = .cclk → t.pwr = { s.pwr with lockBit := false }))

/-- R72, R75 to R81, R85 to R89: one clause for each row of the key vault, on the path that the rules give a command that is not refused. -/
def Obligations.KeyVaultCommands : Prop :=
  (∀ (l : Lookup) (i : Nat) (s : State), s.fcu.armed = false → s.fcu.safe = false → s.kv.locked = false → s.kv.pipes.get l.unit = default →
    slotOf (returnLease l.unit s).kv l.handle = some i → ((returnLease l.unit s).kv.slots.get i).dpUse = true → 2 ≤ hClass l.handle →
    hHall l.handle = l.hall → ((returnLease l.unit s).kv.slots.get i).hgen = l.hgen →
    ((returnLease l.unit s).kv.slots.get i).budgetOn = false →
    ∃ t, exec (.keyLookup l) s = .next t ∧ t.out = .keyAnswer l.ticket Status.ok :: s.out ∧ (t.kv.pipes.get l.unit).valid = true
      ∧ (t.kv.pipes.get l.unit).handle = l.handle ∧ (t.kv.pipes.get l.unit).key = ((returnLease l.unit s).kv.slots.get i).key
      ∧ t.kv.slots = (returnLease l.unit s).kv.slots)
  ∧ (∀ (d : Derivation) (rest : List Derivation) (s : State), s.kv.stalled = d :: rest → s.kv.queue.length < 64 →
    s.kv.queue.any (fun x => x.handle == d.handle) = false →
    ∃ t, exec .derivationQueueAdmit s = .next t ∧ t.kv = { s.kv with stalled := rest, queue := s.kv.queue ++ [d] } ∧ t = { s with kv := t.kv })
  ∧ (∀ (d : Derivation) (rest : List Derivation) (i : Nat) (s : State), s.kv.queue = d :: rest → s.fcu.armed = false →
    fastOk s.kv d.handle d.parent d.label = true → d.pinned = true → d.tickets = [] → slotOf s.kv d.handle = none → freePinned s.kv = some i →
    ∃ u, exec .fastDerivationDone s = .next (settled ([], u)) ∧ u.kv.queue = rest ∧ u.kv.go = false ∧ u.kv.result = Status.ok
      ∧ u.kv.slots = s.kv.slots.set i (derivedSlot d ((slotOf s.kv d.parent).getD 0) (s.kv.slots.get ((slotOf s.kv d.parent).getD 0))))
  ∧ (∀ (d : Derivation) (rest : List Derivation) (unit ticket i : Nat) (s : State), s.kv.queue = d :: rest → s.fcu.armed = false →
    fastOk s.kv d.handle d.parent d.label = true → d.pinned = false → d.tickets = [(unit, ticket)] → s.kv.pipes.get unit = default →
    slotOf s.kv d.handle = none → freeDerived s.kv = some i →
    ∃ u, exec .fastDerivationDone s = .next (settled ([], u)) ∧ u.kv.queue = rest ∧ u.out = .keyAnswer ticket Status.ok :: s.out
      ∧ u.kv.slots = s.kv.slots.set i (derivedSlot d ((slotOf s.kv d.parent).getD 0) (s.kv.slots.get ((slotOf s.kv d.parent).getD 0)))
      ∧ (u.kv.pipes.get unit).key = Crypto.deriveCmac (s.kv.slots.get ((slotOf s.kv d.parent).getD 0)).key d.label)
  ∧ (∀ (replace : Bool) (i : Nat) (s : State), s.kv.go = false → s.kv.locked = false → labelLevel (kvLabel s.kv) (hClass s.kv.handle) = some 1 →
    handleOk s.kv.handle = true → (hClass s.kv.handle < 2 ∨ labHall (kvLabel s.kv) = hHall s.kv.handle) → labPurpose (kvLabel s.kv) ≠ 0x0021 →
    hClass s.kv.handle ≠ 2 → s.kv.parent = 0#32 → s.lcState ≠ scrap → slotOf s.kv s.kv.handle = none → freePinned s.kv = some i →
    ∃ t, exec (.deriveHmac replace) s = .next t ∧ t.kv.result = Status.ok ∧ t.kv.go = false
      ∧ t.kv.slots = s.kv.slots.set i (upperSlot s.kv.handle 1 8191 0 false s.kv.attr s.kv.budget.toNat
          (Crypto.deriveHmac s.l0 (kvLabel s.kv) [BitVec.ofNat 8 (s.lcState + 1)])))
  ∧ (∀ (i p : Nat) (s : State), s.kv.go = false → s.kv.locked = false → labelLevel (kvLabel s.kv) (hClass s.kv.handle) = some 2 →
    handleOk s.kv.handle = true → (hClass s.kv.handle < 2 ∨ labHall (kvLabel s.kv) = hHall s.kv.handle) →
    slotOf s.kv s.kv.parent = some p → (s.kv.slots.get p).level = 1 → hClass s.kv.parent = 1 →
    slotOf s.kv s.kv.handle = none → freePinned s.kv = some i →
    ∃ t, exec (.deriveHmac false) s = .next t ∧ t.kv.result = Status.ok
      ∧ t.kv.slots = s.kv.slots.set i (upperSlot s.kv.handle 2 p (labGen (kvLabel s.kv)) (labPurpose (kvLabel s.kv) == 0x0021) s.kv.attr
          s.kv.budget.toNat (Crypto.deriveHmac (s.kv.slots.get p).key (kvLabel s.kv) [])))
  ∧ (∀ (replace : Bool) (i : Nat) (s : State), s.kv.go = false → s.kv.locked = false →
    fastOk s.kv s.kv.handle s.kv.parent (kvLabel s.kv) = true → slotOf s.kv s.kv.handle = none → freePinned s.kv = some i →
    s.kv.queue.any (fun x => x.handle == s.kv.handle) = false → s.kv.queue.length < 64 →
    ∃ t, exec (.deriveFast replace) s = .next t ∧ t.kv.go = true ∧ t.kv.slots = s.kv.slots
      ∧ t.kv.queue = s.kv.queue ++ [{ handle := s.kv.handle, parent := s.kv.parent, label := kvLabel s.kv
                                      hgen := BitVec.ofNat 16 (labGen (kvLabel s.kv)), pinned := true, attr := s.kv.attr, tickets := [] }])
  ∧ (∀ (i k : Nat) (p : Bytes) (s : State), s.kv.go = false → s.kv.locked = false → inKeyRegion s.kv.src.toNat 48 = true →
    slotOf s.kv s.kv.parent = some k → hClass s.kv.parent = 0 →
    Crypto.kwUnwrap (s.kv.slots.get k).key (fit (keyRegion s s.kv.src.toNat 48) 48) = some p → num p 0 2 = 1 →
    num p 2 1 = hClass s.kv.handle → num p 3 1 = 1 → handleOk s.kv.handle = true → num p 4 1 < 2 → allZero (sub p 5 3) = true →
    slotOf s.kv s.kv.handle = none → freePinned s.kv = some i →
    ∃ t, exec (.unwrap false) s = .next t ∧ t.kv.result = Status.ok
      ∧ t.kv.slots = s.kv.slots.set i (upperSlot s.kv.handle 1 8191 0 false (if num p 4 1 = 1 then 8#4 else 0#4) 0 (Crypto.keyOf (sub p 8 32))))
  ∧ (∀ (i : Nat) (s : State), s.kv.go = false → s.kv.locked = false → hClass s.kv.handle = 0 → handleOk s.kv.handle = true →
    inKeyRegion s.kv.src.toNat 32 = true → slotOf s.kv s.kv.handle = none → freePinned s.kv = some i →
    ∃ t, exec (.importKey false) s = .next t ∧ t.kv.result = Status.ok
      ∧ t.kv.slots = s.kv.slots.set i (upperSlot s.kv.handle 1 8191 0 false s.kv.attr 0 (Crypto.keyOf (keyRegion s s.kv.src.toNat 32)))
      ∧ t.kv.region = Memory.writeBytes keyRegionFill s.kv.region s.kv.src.toNat (List.replicate 32 0#8))
  ∧ (∀ (i : Nat) (s : State), s.kv.go = false → s.kv.locked = false → slotOf s.kv s.kv.handle = some i →
    ∃ u, exec .retire s = .next (settled ([], u)) ∧ u.kv.result = Status.ok ∧ u.kv.slots = slotsWithout s.kv [i])
  ∧ (∀ s : State, s.kv.go = false → s.kv.locked = false → s.kv.queue = [] → s.kv.stalled = [] →
    ∃ u, exec .retireMatch s = .next (settled ([], u)) ∧ u.kv.result = Status.ok
      ∧ u.kv.slots = slotsWithout s.kv (s.kv.slots.filterMap fun e =>
          if e.2.valid && matches' (bits s.kv.kmatch.toNat 28 4) (bits s.kv.kmatch.toNat 16 12) (bits s.kv.kmatch.toNat 0 16) e.2.handle
            e.2.hgen.toNat then some e.1 else none))
  ∧ (∀ (i : Nat) (s : State), s.kv.go = false → s.kv.locked = false → slotOf s.kv s.kv.handle = some i →
    ∃ t, exec .setBudget s = .next t ∧ t.kv.result = Status.ok
      ∧ t.kv.slots = s.kv.slots.set i { s.kv.slots.get i with budget := s.kv.budget.toNat })
  ∧ (∀ s : State, s.kv.queue = [] → s.kv.stalled = [] →
    ∃ u, exec .wipeAll s = .next (settled ([], u)) ∧ u.kv.result = Status.ok ∧ u.kv.locked = true ∧ u.kv.slots = [] ∧ u.kv.region = []
      ∧ u.kv.queue = [] ∧ u.kv.stalled = [] ∧ u.att.cdi = 0#384 ∧ u.att.layerKey = 0#384 ∧ u.lc = s.lc)
  ∧ (∀ s : State, s.kv.go = false →
    ∃ t, exec .kvQuery s = .next t ∧ t.kv.result = Status.ok ∧ t.kv.qinfo = BitVec.ofNat 32 (kvQueryOf s.kv s.kv.handle).1
      ∧ t.kv.qbudget = BitVec.ofNat 48 (kvQueryOf s.kv s.kv.handle).2 ∧ t = { s with kv := t.kv })
  ∧ (∀ (unit : Nat) (s : State), s.kv.pipes.wf = true → (s.kv.pipes.get unit).dropping = true →
    ∃ t, exec (.keyRegisterDrop unit) s = .next t ∧ t.kv.pipes.get unit = default ∧ (∀ v, v ≠ unit → t.kv.pipes.get v = s.kv.pipes.get v)
      ∧ t = { s with kv := { s.kv with pipes := t.kv.pipes } })

/-- R58, R59, R62, R96 to R98, R100, R104, R105: one clause for each row of the OTP pins and of LC_CMD. -/
def Obligations.OtpAndLifeCycleCommands : Prop :=
  (∀ (w : Nat) (b : BitVec 39) (rest : List (Nat × BitVec 39)) (s : State), s.lc.vppReq = true → s.lc.otpQueue = (w, b) :: rest →
    s.lc.otpBusy = false →
    ∃ t, exec .otpVppOk s = .next t ∧ t.lc = { s.lc with vppOk := true, pgm := true, otpBusy := true } ∧ t.out = .otp w b :: s.out
      ∧ t = { s with lc := t.lc, out := t.out })
  ∧ (∀ (w : Nat) (b : BitVec 39) (rest : List (Nat × BitVec 39)) (s : State), s.lc.otpBusy = true → s.lc.otpQueue = (w, b) :: rest →
    s.lc.otp.wf = true →
    ∃ t, exec .otpProgramDone s = .next t ∧ t.lc.otp.get w = s.lc.otp.get w ||| b ∧ (∀ v, v ≠ w → t.lc.otp.get v = s.lc.otp.get v))
  ∧ (∀ (target : BitVec 3) (s : State), s.lc.go = false → s.lc.tokenLock = false → s.lc.running = none → s.lc.otpQueue = [] →
    pairOk s target.toNat none = true → tokenless s target.toNat = false →
    Crypto.digestBytes (Config.sha384 (fit (lcToken s) 16)) = otpBytes s.lc.otp (tokenWord target.toNat) 12 →
    ∃ t, exec (.lcBegin target) s = .next t ∧ t.lc.otpQueue = [(99 + target.toNat, otpFull)] ∧ t.lc.running = some target.toNat
      ∧ t.lc.vppReq = true ∧ t.lc.go = true ∧ t = { s with lc := t.lc })
  ∧ (∀ s : State, s.lc.go = false → s.lc.otpQueue = [] → s.lcPending ≠ some scrap →
    ∃ t, exec .lcEraseReport s = .next t ∧ t.lc = { s.lc with op := 2#4, eraseDone := true, result := Status.ok } ∧ t = { s with lc := t.lc })
  ∧ (∀ (n : Nat) (s : State), s.lc.go = false → s.lc.otpQueue = [] → s.lcPending = some n → s.kv.locked = true →
    (n < 3 ∨ s.lc.eraseDone = true) →
    ∃ t, exec .lcCommit s = .next t ∧ t.lc.otpQueue = [(95 + n, otpFull)] ∧ t.lc.vppReq = true ∧ t.lc.go = true ∧ t = { s with lc := t.lc })
  ∧ (∀ s : State, s.lc.go = false → s.lc.otpQueue = [] → rollbackCount s.lc.otp < 4992 →
    ∃ t, exec .lcRollbackAdvance s = .next t
      ∧ t.lc.otpQueue = rollbackBits (rollbackCount s.lc.otp) (rollbackCount s.lc.otp + 1) ∧ t.lc.vppReq = true ∧ t.lc.go = true
      ∧ t = { s with lc := t.lc })
  ∧ (∀ s : State, s.lc.go = false →
    ∃ t, exec .lcNewNonce s = .next t ∧ t.lc.nonce = s.draw.setWidth 128 ∧ t.lc.nonceValid = true ∧ t.lc.consents = []
      ∧ t.lc.result = Status.ok ∧ t.draws = s.draws + 1)
  ∧ (∀ s : State, s.lc.go = false → certForm s (keyRegion s 0 224) = true →
    Config.ecdsaVerify (sub (keyRegion s 0 224) 32 96) (Config.sha384 (sub (keyRegion s 0 224) 0 128)) (sub (keyRegion s 0 224) 128 96) = true →
    ∃ t, exec .lcGrant s = .next t ∧ t.lc.rights = BitVec.ofNat 6 (num (keyRegion s 0 224) 5 1)
      ∧ t.lc.issuer = (num (keyRegion s 0 224) 4 1 == 2) ∧ t.lc.nonceValid = false ∧ t.lc.result = Status.ok
      ∧ t.att.meas = s.att.meas.set 5 (Config.sha384 (Crypto.digestBytes (s.att.meas.get 5) ++ Crypto.digestBytes (Crypto.digestOf
          (Crypto.digestBytes (Config.sha384 (debugRecord (keyRegion s 0 224))))))))
  ∧ (∀ s : State, s.lc.go = false →
    ∃ t, exec .lcClearRights s = .next t
      ∧ t.lc = { s.lc with op := 7#4, rights := 0#6, issuer := false, halted := false, result := Status.ok } ∧ t = { s with lc := t.lc })
  ∧ (∀ (level : Bool) (s : State), s.lcState = testOpen →
    ∃ t, exec (.scanModeRequest level) s = .next t ∧ t.pins.scanOn = level
      ∧ t.out = .scan level (if level then s.open64.setWidth 8 else 0#8) :: s.out
      ∧ t = { s with pins := { s.pins with scanOn := level }, frees := s.frees + 1, out := t.out })
  ∧ (∀ (level : Bool) (s : State), s.lcState ≠ testOpen → ∃ t, exec (.scanModeRequest level) s = .next t ∧ t = s)
  ∧ (∀ s : State, s.rightHalt = true → s.consentGiven = true →
    ∃ t, exec .keeperHaltRequest s = .next t ∧ t = { s with lc := { s.lc with halted := true } })

/-- R96, R101, R108, R109, R111, R505: the actions of the life cycle. An action that ends leaves its result in its mailbox (`actDone`), one
that does not yet leaves NOT_READY there (`actWaits`). -/
def Obligations.LifeCycleActions : Prop :=
  (∀ (a : Act) (arg : Bytes) (s : State), mayAct s [.factory, .operator] a = true → arg.length = 17 → s.lc.tokenLock = false →
    s.lc.running = none → s.lc.otpQueue = [] → pairOk s (num arg 0 1) (some a.role) = true → tokenless s (num arg 0 1) = false →
    Crypto.digestBytes (Config.sha384 (fit (sub arg 1 16) 16)) = otpBytes s.lc.otp (tokenWord (num arg 0 1)) 12 →
    ∃ t, exec (.transition a arg) s = .next t ∧ t.lc.otpQueue = [(99 + num arg 0 1, otpFull)] ∧ t.lc.running = some (num arg 0 1)
      ∧ t.lc.vppReq = true ∧ t.lc.otpAnswer = [(a.sess, 0x901001)] ∧ t = { s with lc := t.lc, mgt := (actWaits a.sess 0x901001 s).mgt })
  ∧ (∀ (a : Act) (arg : Bytes) (s : State), mayAct s [.operator] a = true → (s.lcState = provisioned ∨ s.lcState = field) → arg.length = 2 →
    num arg 0 2 ≤ s.pwr.secver.toNat → num arg 0 2 ≤ 4992 → rollbackCount s.lc.otp < num arg 0 2 → s.lc.otpQueue = [] →
    ∃ t, exec (.rollbackCommit a arg) s = .next t ∧ t.lc.otpQueue = rollbackBits (rollbackCount s.lc.otp) (num arg 0 2)
      ∧ t.lc.vppReq = true ∧ t = { s with lc := t.lc, mgt := (actWaits a.sess 0x901003 s).mgt })
  ∧ (∀ (a : Act) (s : State), mayAct s [.factory, .operator] a = true → debugRole s a.role = true →
    ∃ t v, exec (.debugNonce a) s = .next t ∧ t = actDone a.sess 0x902001 Status.ok (natLe v.lc.nonce.toNat 16) false v
      ∧ v.lc.nonce = s.draw.setWidth 128 ∧ v.lc.nonceValid = true ∧ v.lc.consents = [] ∧ v.draws = s.draws + 1)
  ∧ (∀ (a : Act) (c : Bytes) (s : State), mayAct s [.factory, .operator] a = true → certForm s c = true →
    Config.ecdsaVerify (sub c 32 96) (Config.sha384 (sub c 0 128)) (sub c 128 96) = true →
    ∃ t v, exec (.debugCert a c) s = .next t ∧ t = actDone a.sess 0x902002 Status.ok [] false v
      ∧ v.lc.rights = BitVec.ofNat 6 (num c 5 1) ∧ v.lc.issuer = (num c 4 1 == 2) ∧ v.lc.nonceValid = false)
  ∧ (∀ (a : Act) (arg : Bytes) (l : List Nat) (s : State), mayAct s [.tenant] a = true → arg.length = 16 →
    (usedHalls s).filterMap (fun e => if isSealed e.2 && boundTo s a.sess e.1 then some e.1 else none) = l → l ≠ [] →
    ∃ t v, exec (.consent a arg) s = .next t ∧
      (allZero arg = true → t = actDone a.sess 0x902003 Status.ok [] false v ∧ v.lc.consents = s.lc.consents.filter fun h => !l.contains h)
      ∧ (allZero arg = false → s.lc.nonceValid = true → arg = natLe s.lc.nonce.toNat 16 →
          t = actDone a.sess 0x902003 Status.ok [] false v ∧ v.lc.consents = s.lc.consents.filter (fun h => !l.contains h) ++ l))
  ∧ (∀ (a : Act) (arg : Bytes) (w n : Nat) (owner : Bool) (s : State), otpGroup (num arg 0 1) = some (w, n, owner) →
    (if owner then mayAct s [.operator] a = true ∧ s.lcState = provisioned else mayAct s [.factory] a = true ∧ s.lcState = testOpen) →
    arg.length = 4 + 4 * n → allZero (sub arg 1 3) = true → otpBlank s.lc.otp w n = true → s.lc.otpQueue = [] →
    ∃ t, exec (.otpProgram a arg) s = .next t ∧ t.lc.otpQueue = eccWords w (arg.drop 4) n ∧ t.lc.vppReq = true
      ∧ t = { s with lc := t.lc, mgt := (actWaits a.sess 0x901002 s).mgt })
  ∧ (∀ (a : Act) (arg : Bytes) (s : State), mayAct s [.factory, .operator] a = false →
    (∃ t, exec (.debugNonce a) s = .next t ∧ t = actDone a.sess 0x902001 Status.permission [] false s)
    ∧ (∃ t, exec (.debugCert a arg) s = .next t ∧ t = actDone a.sess 0x902002 Status.permission [] false s)
    ∧ (s.pwr.phase = .firmware → ∃ t, exec (.transition a arg) s = .next t ∧ t = actDone a.sess 0x901001 Status.permission [] false s))

/-- R116, R118, R119, R122, R133, R334, R335: one clause for each row of the attestation unit and of the mailboxes. -/
def Obligations.AttestationCommands : Prop :=
  (∀ (index : BitVec 3) (s : State), s.att.locks.toNat.testBit index.toNat = false →
    ∃ t, exec (.atExtend index) s = .next t ∧ t.att.result = Status.ok ∧ t.att.go = false
      ∧ t.att.meas = s.att.meas.set index.toNat (Config.sha384 (Crypto.digestBytes (s.att.meas.get index.toNat)
          ++ Crypto.digestBytes (Crypto.digestOf (atDigest s)))) ∧ t = { s with att := t.att })
  ∧ (∀ (index : BitVec 3) (s : State), s.att.locks.toNat.testBit index.toNat = true →
    ∃ t, exec (.atExtend index) s = .next t ∧ t.att.result = Status.permission ∧ t.att.meas = s.att.meas)
  ∧ (∀ (k : BitVec 3) (s : State), k.toNat ≤ 2 → s.att.layer = k →
    ∃ t, exec (.atDiceStep k) s = .next t ∧ t.att.result = Status.ok ∧ t.att.layer.toNat = k.toNat + 1
      ∧ t.att.locks = s.att.locks ||| BitVec.ofNat 8 (2 ^ k.toNat)
      ∧ t.att.cdi = Crypto.hmac (if k.toNat = 0 then Crypto.keyBytes s.l0 else Crypto.digestBytes s.att.cdi)
          (Crypto.digestBytes (measOf s k.toNat) ++ natBe k.toNat 1)
      ∧ t.att.layerKey = layerPrivate t.att.cdi ∧ t.att.pub = Config.ecdsaPublic t.att.layerKey ∧ t = { s with att := t.att })
  ∧ (∀ s : State, s.att.layer ≠ 0#3 →
    ∃ t, exec .atSign s = .next t ∧ t.att.result = Status.ok ∧ t.att.sig = Config.ecdsaSign s.att.layerKey (Crypto.digestOf (atDigest s))
      ∧ t = { s with att := t.att })
  ∧ (∀ (a : Act) (arg : Bytes) (s : State), mayAct s [.domainManager] a = true → arg.length = 52 → (num arg 0 1 = 6 ∨ num arg 0 1 = 7) →
    allZero (sub arg 1 3) = true → s.att.locks.toNat.testBit (num arg 0 1) = false →
    ∃ t v, exec (.measExtend a arg) s = .next t ∧ t = actDone a.sess 0x101003 Status.ok [] false v
      ∧ v = { s with att := { s.att with meas := s.att.meas.set (num arg 0 1) (Config.sha384
          (Crypto.digestBytes (s.att.meas.get (num arg 0 1)) ++ Crypto.digestBytes (Crypto.digestOf (arg.drop 4)))) } })
  ∧ (∀ (nonce : Bytes) (s : State), (mailboxOf s 0).result ≠ Status.notReady → s.att.slates = [] →
    ∃ t, exec (.slateRequest .operatorPage nonce) s = .next t
      ∧ t.fs.mailboxes = s.fs.mailboxes.mod 0 (fun m => { m with seq := m.seq + 1, result := Status.notReady, len := 0, data := [] })
      ∧ t.att.slates.map (fun r => (r.path, r.nonce, r.sampled)) = [(.operatorPage, nonce, true)])
  ∧ (∀ (hall : Nat) (s : State), (mailboxOf s (hall + 1)).result ≠ Status.notReady → s.att.slates = [] →
    ∃ t, exec (.mailboxRequest (hall + 1) 1#32) s = .next t
      ∧ t.fs.mailboxes = s.fs.mailboxes.mod (hall + 1) (fun m => { m with seq := m.seq + 1, result := Status.notReady, len := 0, data := [] })
      ∧ t.att.slates.map (fun r => (r.path, r.nonce, r.sampled)) = [(.hallPage hall, mailboxArg (mailboxOf s (hall + 1)), true)])
  ∧ (∀ (page : Nat) (cmd : Word) (s : State), cmd.setWidth 8 ≠ 1#8 → ∃ t, exec (.mailboxRequest page cmd) s = .next t ∧ t = s)
  ∧ (∀ (nonce body : Bytes) (s : State), s.att.slates = [{ path := .operatorPage, nonce := nonce, sampled := true, bytes := body }] →
    ∃ t, exec .slateComplete s = .next t ∧ t.att = { s.att with slates := [] }
      ∧ t.fs.mailboxes = s.fs.mailboxes.mod 0 (fun m => { m with
          result := Status.ok
          len := (body ++ natBe (Config.ecdsaSign s.att.layerKey (Config.sha384 body)).toNat 96).length
          data := body ++ natBe (Config.ecdsaSign s.att.layerKey (Config.sha384 body)).toNat 96 }))

/-- R126 to R130: one clause for each request of the responder on a transport. -/
def Obligations.SpdmResponder : Prop :=
  (∀ (t : Transport) (s : State), ∃ u, exec (.getVersion t) s = .next u ∧ connOf u t = { (default : SpdmConn) with version := true, closed := (connOf (closeSpdm t (fun _ => true) s) t).closed }
      ∧ u.out = .spdm t 0x04#8 ([0#8, 0#8, 0#8, 1#8] ++ natLe 0x1300 2) :: s.out)
  ∧ (∀ (t : Transport) (s : State), (connOf s t).version = true →
    ∃ u, exec (.getCapabilities t 0x13#8) s = .next u ∧ connOf u t = { connOf s t with caps := true }
      ∧ u.out = .spdm t 0x61#8 ([0#8, 0#8, 0#8, 11#8] ++ natLe 0 2 ++ natLe spdmCaps 4 ++ natLe 4096 4 ++ natLe 4096 4) :: s.out)
  ∧ (∀ (t : Transport) (o : AlgOffer) (s : State), (connOf s t).caps = true → o.asym = true → o.hash = true → o.measHash = true →
    o.measSpec = true → o.dhe = true → o.aead = true → o.keySchedule = true →
    ∃ u, exec (.negotiateAlgorithms t o) s = .next u ∧ connOf u t = { connOf s t with algs := true }
      ∧ (∃ b, u.out = .spdm t 0x63#8 b :: s.out))
  ∧ (∀ (t : Transport) (s : State), (connOf s t).algs = true →
    exec (.getDigests t) s = .next (s.emit (.spdm t 0x01#8 ([1#8, 1#8] ++ Crypto.digestBytes (Config.sha384 (chainBytes s))))))
  ∧ (∀ (t : Transport) (offset length : Nat) (s : State), (connOf s t).algs = true → offset < (chainBytes s).length →
    exec (.getCertificate t 0 offset length) s = .next (s.emit (.spdm t 0x02#8 ([0#8, 0#8] ++ natLe (sub (chainBytes s) offset length).length 2
      ++ natLe ((chainBytes s).length - offset - (sub (chainBytes s) offset length).length) 2 ++ sub (chainBytes s) offset length))))
  ∧ (∀ (t : Transport) (summary : Bool) (nonce : Bytes) (s : State), (connOf s t).algs = true →
    ∃ u b, exec (.challenge t 0 summary nonce) s = .next u ∧ u.out = .spdm t 0x03#8 b :: s.out ∧ u.draws = s.draws + 1
      ∧ sub b 2 48 = Crypto.digestBytes (Config.sha384 (chainBytes s)) ∧ u.att = s.att)
  ∧ (∀ (t : Transport) (index : Nat) (nonce : Bytes) (s : State), (connOf s t).algs = true → 1 ≤ index → index ≤ 8 →
    exec (.getMeasurements t index false nonce) s = .next (s.drew.emit (.spdm t 0x60#8 ([0#8, 0#8] ++ natLe 1 1
      ++ natLe (measBlock s (index - 1)).length 3 ++ measBlock s (index - 1) ++ drawn32 s ++ natLe 0 2 ++ sub nonce 0 8))))
  ∧ (∀ (t : Transport) (index : Nat) (nonce : Bytes) (s : State), (connOf s t).algs = true → 1 ≤ index → index ≤ 8 →
    ∃ u b, exec (.getMeasurements t index true nonce) s = .next u ∧ u.out = .spdm t 0x60#8 b :: s.out ∧ u.draws = s.draws + 1
      ∧ sub b 0 6 = [0#8, 0#8] ++ natLe 1 1 ++ natLe (measBlock s (index - 1)).length 3 ∧ u.att = s.att)
  ∧ (∀ (t : Transport) (carrier : Nat) (x : Bytes) (s : State), (connOf s t).algs = true → (connOf s t).sessions.length < 4 →
    num x 1 1 = 0 →
    ∃ u, exec (.keyExchange t carrier x) s = .next u ∧ u.att.nextSid = s.att.nextSid + 1
      ∧ (connOf u t).sessions = (connOf s t).sessions ++ [Spdm.mk (num x 2 2 + put 16 (0x1000 + s.att.nextSid % 0x6000)) carrier false 1 (Config.exportSecret s.att.nextSid) []])
  ∧ (∀ (t : Transport) (carrier : Nat) (x : Bytes) (s : State), (connOf s t).algs = true → 4 ≤ (connOf s t).sessions.length →
    ∃ u, exec (.keyExchange t carrier x) s = .next u ∧ u.out = .spdmError t 0x0A#8 :: s.out ∧ connOf u t = connOf s t
      ∧ u.att.events = raised s.att.events 0)
  ∧ (∀ (t : Transport) (sid : Nat) (x : Spdm) (s : State), spdmOf s t sid = some x → x.finished = false → x.messages + 1 < 2 ^ 32 →
    ∃ u, exec (.finish t sid true) s = .next u ∧ u.out = .spdm t 0x65#8 [0#8, 0#8] :: s.out
      ∧ spdmOf u t sid = some { x with finished := true, messages := x.messages + 1 })
  ∧ (∀ (t : Transport) (sid : Nat) (x : Spdm) (s : State), spdmOf s t sid = some x →
    ∃ u, exec (.endSession t sid) s = .next u ∧ u.out = .spdm t 0x6C#8 [0#8, 0#8] :: s.out ∧ spdmOf u t sid = none)
  ∧ (∀ (a : Act) (m : Bytes) (s : State), mayAct s [.domainManager] a = true → m.length ≤ 1368 →
    exec (.spdmMsg a m) s = .next (actDone a.sess 0x101002 Status.ok (spdmServe .callSheet a.sess m s).1 false (spdmServe .callSheet a.sess m s).2))
  ∧ (∀ s : State, exec (.doeDiscovery 0) s = .next (s.emit (.doe 1 0 1)) ∧ exec (.doeDiscovery 1) s = .next (s.emit (.doe 1 1 2))
      ∧ exec (.doeDiscovery 2) s = .next (s.emit (.doe 1 2 0)))

/-- R135 to R137, R139, R361: one clause for each row of IDE_KM and of TDISP. -/
def Obligations.IdeAndTdispRequests : Prop :=
  (∀ (sid : Nat) (s : State), doeSession s sid = true →
    exec (.ideKmQuery sid) s = .next ((spdmCounted .doe sid s).emit (.ideKm sid 1#8 (natLe ideCapability 4 ++ natLe (ideReg s 64 1) 4))))
  ∧ (∀ (sid stream sub' ks : Nat) (tx : Bool) (key : BitVec 256) (s : State), doeSession s sid = true → stream ≤ 64 → sub' < 3 → ks < 2 →
    (ideKeyOf s stream sub' tx ks).active = false → boundHall s stream = none →
    ∃ u, exec (.keyProg sid stream sub' tx ks key) s = .next (settled ([], u))
      ∧ ideKeyOf u stream sub' tx ks = { loaded := true, active := false, recent := false, key := key, count := 0 }
      ∧ u.out = .ideKm sid 3#8 ([0#8] ++ kmName stream sub' tx ks) :: s.out)
  ∧ (∀ (sid stream sub' ks : Nat) (tx : Bool) (s : State), doeSession s sid = true → stream ≤ 64 → sub' < 3 → ks < 2 →
    (ideKeyOf s stream sub' tx ks).loaded = true → (ideOf s stream).secure = false →
    ∃ u, exec (.kSetGo sid stream sub' tx ks) s = .next u ∧ ideKeyOf u stream sub' tx ks = { ideKeyOf s stream sub' tx ks with active := true, recent := true }
      ∧ u.out = .ideKm sid 6#8 (kmName stream sub' tx ks) :: s.out)
  ∧ (∀ (sid stream sub' ks : Nat) (tx : Bool) (s : State), doeSession s sid = true → stream ≤ 64 → sub' < 3 → ks < 2 →
    (ideOf s stream).secure = false → s.att.ideKeys.wf = true →
    ∃ u, exec (.kSetStop sid stream sub' tx ks) s = .next (settled ([], u)) ∧ ideKeyOf u stream sub' tx ks = default
      ∧ u.out = .ideKm sid 6#8 (kmName stream sub' tx ks) :: s.out)
  ∧ (∀ (hall : Nat) (s : State), tdiThere s hall = true →
    exec (.getTdispVersion hall) s = .next (s.emit (.tdisp hall 0x01#8 [1#8, 0x10#8]))
    ∧ exec (.getTdispCapabilities hall) s = .next (s.emit (.tdisp hall 0x02#8
        (natLe 0 4 ++ natLe 0xFE 16 ++ natLe 0 2 ++ natLe 0 3 ++ [48#8, 1#8, 1#8])))
    ∧ exec (.getDeviceInterfaceState hall) s = .next (s.emit (.tdisp hall 0x05#8 (natLe (tdiCode (hallOf s hall).tdi) 1)))
    ∧ (((hallOf s hall).tdi = .locked ∨ (hallOf s hall).tdi = .run) → ∃ b, exec (.getDeviceInterfaceReport hall) s
        = .next (s.emit (.tdisp hall 0x04#8 b)))
    ∧ (((hallOf s hall).tdi = .unlocked ∨ (hallOf s hall).tdi = .error) → exec (.getDeviceInterfaceReport hall) s
        = .next (s.emit (.tdispError hall tdErrState))))
  ∧ (∀ (hall stream : Nat) (s : State), tdiThere s hall = true → (hallOf s hall).state = .live → flrRuns s hall = false →
    (hallOf s hall).tdi = .unlocked → (hallOf s hall).lockBusy = false → s.lcState = field → s.dom.joined = true →
    lockStreamOk s hall stream = true →
    ∃ t, exec (.lockInterfaceRequest hall stream) s = .next t ∧ t.out = .tdisp hall 0x03#8 (natLe (s.draw.setWidth 256).toNat 32) :: s.out
      ∧ hallOf t hall = { hallOf s hall with tdi := .locked, lockNonce := s.draw.setWidth 256, mmioOff := 0#64, stream := some stream }
      ∧ t.draws = s.draws + 1)
  ∧ (∀ (hall : Nat) (s : State), tdiThere s hall = true → (hallOf s hall).tdi = .locked →
    ∃ t, exec (.startInterfaceRequest hall (hallOf s hall).lockNonce) s = .next t ∧ t.out = .tdisp hall 0x06#8 [] :: s.out
      ∧ hallOf t hall = { hallOf s hall with tdi := .run, lockNonce := 0#256 })
  ∧ (∀ (hall : Nat) (nonce : BitVec 256) (s : State), tdiThere s hall = true → (hallOf s hall).tdi = .locked →
    nonce ≠ (hallOf s hall).lockNonce → exec (.startInterfaceRequest hall nonce) s = .next (s.emit (.tdispError hall tdErrNonce)))
  ∧ (∀ (hall : Nat) (s : State), tdiThere s hall = true → (hallOf s hall).tdi = .unlocked →
    exec (.stopInterfaceRequest hall) s = .next (settled ([], s.emit (.tdisp hall 0x07#8 []))))
  ∧ (∀ (hall : Nat) (s : State), tdiThere s hall = true → (hallOf s hall).tdi = .run → (hallOf s hall).state = .live →
    exec (.stopInterfaceRequest hall) s
      = .next (settled ([], updHall hall (fun h => { h with stopPending := true, lockBusy := true }) (retireBegin hall .stop s))))
  ∧ (∀ (hall : Nat) (s : State), (hallOf s hall).stopPending = true → ((hallOf s hall).drained = true ∨ (hallOf s hall).state ≠ .retiring) →
    (hallOf s hall).state ≠ .free → (∀ w, s.att.doeBox.waits = some w → w.2.1 ≠ hall) →
    ∃ t, exec (.stopInterfaceAnswer hall) s = .next t ∧ t.out = .tdisp hall 0x07#8 [] :: s.out
      ∧ hallOf t hall = { hallOf s hall with tdi := .unlocked, stopPending := false, lockNonce := 0#256, stream := none })
  ∧ (∀ (hall sid : Nat) (head : Bytes) (x : Spdm) (s : State), (hallOf s hall).stopPending = true →
    ((hallOf s hall).drained = true ∨ (hallOf s hall).state ≠ .retiring) → s.att.doeBox.waits = some (sid, hall, head) →
    spdmOf s .doe sid = some x →
    ∃ t, exec (.stopInterfaceAnswer hall) s = .next t ∧ t.out = s.out ∧ t.att.doeBox.ready = true ∧ t.att.doeBox.waits = none
      ∧ (hallOf t hall).tdi = .unlocked)
  ∧ (∀ (hall stream : Nat) (s : State), tdiThere s hall = false →
    exec (.lockInterfaceRequest hall stream) s = .next (s.emit (.tdispError hall tdErrInterface)))

/-- R140 to R146: one clause for each row of the domain. -/
def Obligations.DomainCommands : Prop :=
  (∀ (a : Act) (arg b : Bytes) (s w : State), mayAct s [.domainManager] a = true → s.lcState = field → w = chunkFrom a.sess arg s →
    otherSession w a.sess = false → chunkJoins s.dom.manifestBuf arg = some b → docWhole b = false →
    ∃ t, exec (.manifestChunk a arg) s = .next t
      ∧ t = actDone a.sess 0x401001 Status.ok [] false { w with dom := { w.dom with manifestBuf := b } })
  ∧ (∀ (a : Act) (arg b : Bytes) (s w : State), mayAct s [.domainManager] a = true → s.lcState = field → w = chunkFrom a.sess arg s →
    otherSession w a.sess = false → chunkJoins s.dom.manifestBuf arg = some b → docWhole b = true →
    docSigned (sessOf s a.sess).leaf b = true → mfForm b = true →
    mfOwnOk { w with dom := { w.dom with manifestBuf := [] } } b = true →
    signerOk { w with dom := { w.dom with manifestBuf := [] } } (sessOf s a.sess).leaf = true →
    ∃ t, exec (.manifestChunk a arg) s = .next t
      ∧ t = actDone a.sess 0x401001 Status.ok [] false { w with dom := { w.dom with manifestBuf := [], newManifest := some b, newPlan := none } })
  ∧ (∀ (a : Act) (arg b m : Bytes) (s u : State), mayAct s [.domainManager] a = true → s.lcState = field → otherSession s a.sess = false →
    chunkJoins s.dom.planBuf arg = some b → docWhole b = true → u = { s with dom := { s.dom with planBuf := [] } } →
    docSigned (sessOf s a.sess).leaf b = true → signerOk u (sessOf s a.sess).leaf = true → s.dom.newManifest = some m →
    planForm b (mfMember u m) (docDigest m) = true →
    ∃ t, exec (.planChunk a arg) s = .next t
      ∧ t = actDone a.sess 0x401002 Status.ok [] false { s with dom := { s.dom with planBuf := [], newPlan := some b } })
  ∧ (∀ (a : Act) (arg b : Bytes) (s v : State), mayAct s [.domainManager] a = true → domainRootOp a.sess arg s = ((Status.ok, b), v) →
    (∃ t, exec (.domainRoot a arg) s = .next t ∧ t = actDone a.sess 0x401003 Status.ok b true v)
    ∧ (∃ h, v.dom.root = some h ∧ b = natLe h.toNat 4))
  ∧ (∀ (a : Act) (m p : Bytes) (r : Handle) (s v u : State), mayAct s [.domainManager] a = true → s.lcState = field →
    s.dom.joined = false → otherSession s a.sess = false → s.dom.newManifest = some m → s.dom.newPlan = some p → s.dom.root = some r →
    deriveEpochKey (mfEpoch m) s = (Status.ok, v) → u = joinMade a.sess m p s v →
    exec (.joinCommit a) s = .next (if planDerived u then actDone a.sess 0x401004 Status.ok [] false u
      else actDone a.sess 0x401004 Status.refusedCapacity [] false s)
    ∧ u.dom.joined = true ∧ u.dom.epoch = BitVec.ofNat 32 (mfEpoch m) ∧ u.dom.manifest = docDigest m ∧ u.dom.members = mfMembers m
    ∧ u.dom.plan.length = (planEntries p).length ∧ u.dom.newManifest = none ∧ u.dom.newPlan = none ∧ u.dom.signer = some (sessOf s a.sess).leaf)
  ∧ (∀ (a : Act) (s : State), mayAct s [.domainManager] a = true → (usedHalls s).any (fun e => isSealed e.2) = false →
    ∃ t v, exec (.leave a) s = .next t ∧ t = actDone a.sess 0x401005 Status.ok [] false v ∧ v.dom.joined = false ∧ v.dom.epoch = s.dom.epoch
      ∧ v.dom.root = none ∧ v.dom.plan = [] ∧ v.kv.slots = slotsWithout s.kv (s.kv.slots.filterMap fun e =>
          if e.2.valid && (hClass e.2.handle == 1 || hClass e.2.handle == 2) then some e.1 else none))
  ∧ (∀ (a : Act) (m : Nat) (s : State), mayAct s [.domainManager] a = true → s.dom.joined = true → m < 8192 →
    exec (.memberLost a (natLe m 2)) s = .next (settled ((peerLostOp m s).1, actDone a.sess 0x402004 Status.ok [] false (peerLostOp m s).2)))
  ∧ (∀ (a : Act) (m p arg : Bytes) (s v u : State), mayAct s [.domainManager] a = true → s.dom.stepPending = false →
    s.dom.newManifest = some m → s.dom.newPlan = some p → arg.length = 4 → s.dom.joined = true → s.dom.epoch.toNat + 1 = num arg 0 4 →
    num arg 0 4 < 2 ^ 32 → mfEpoch m = num arg 0 4 → mfMember s m = s.dom.member.toNat → deriveEpochKey (num arg 0 4) s = (Status.ok, v) →
    (mfMembers m).filter (fun x => x.lost && !memberLost s x.id) = [] → u = stepMade (num arg 0 4) m p v →
    exec (.epochPrepare a arg) s = .next (settled ([], if planDerived u then actDone a.sess 0x402001 Status.ok [] false u
      else actDone a.sess 0x402001 Status.refusedCapacity [] false s))
    ∧ u.dom.stepPending = true ∧ u.dom.nextEpoch = BitVec.ofNat 32 (num arg 0 4) ∧ u.dom.stepState = 1 ∧ u.dom.oldPlan = v.dom.plan
    ∧ u.dom.manifest = docDigest m ∧ u.dom.plan.length = (planEntries p).length ∧ u.dom.switched = false)
  ∧ (∀ (a : Act) (arg : Bytes) (s : State), mayAct s [.domainManager] a = true → arg.length = 8 → s.dom.stepPending = true →
    s.dom.switched = false →
    ∃ t v, exec (.epochSwitch a arg) s = .next t ∧ t = actDone a.sess 0x402002 Status.ok [] false (drainComplete v)
      ∧ v.ls.switchAt = BitVec.ofNat 64 (num arg 0 8) ∧ v.dom.switched = true ∧ v.dom.stepState = 2)
  ∧ (∀ (a : Act) (arg : Bytes) (s : State), mayAct s [.domainManager] a = true → arg.length = 4 → s.dom.joined = true →
    exec (.epochRetire a arg) s = .next (actDone a.sess 0x402003 Status.ok [] false (retireEpoch (num arg 0 4) s)))
  ∧ (∀ (ctx : Nat) (m : Bytes) (s : State), m.length = 64 → num m 0 2 = 1 → allZero (m.drop 20) = true →
    (s.dom.retireSeen.get (num m 2 2)).toNat < num m 8 8 →
    ∃ v, exec (.hallRetireMessage ctx m) s = .next (serviceSend (some (rxMember v ctx)) m
        ((retireMatchOp 15 (num m 16 2 % 4096) (num m 18 2) v).atEvent 1))
      ∧ v = { s with dom := { s.dom with retireSeen := s.dom.retireSeen.set (num m 2 2) (BitVec.ofNat 64 (num m 8 8)) } })
  ∧ (∀ (ctx : Nat) (m : Bytes) (s : State), num m 8 8 ≤ (s.dom.retireSeen.get (num m 2 2)).toNat →
    ∃ t, exec (.hallRetireMessage ctx m) s = .next t ∧ t = { s with dom := { s.dom with retireDrops := s.dom.retireDrops + 1 } })

/-- R145, R148, R149, R156, R165, R166, R169, R170, R175, R176: one clause for each row of the link seal engines. -/
def Obligations.LinkSealEngines : Prop :=
  (∀ (i : Nat) (s : State), (txOf s i).live = true → (txOf s i).armed = true → s.ls.switchAt.toNat ≤ s.now →
    (laneOf s (txLane (txOf s i))).out.all (fun f => f.ctx != i) = true → (txOf s i).broken = false → toLost s (txOf s i) = false →
    s.ls.tx.any (fun e => e.2.live && e.2.succOf == some i) = false →
    ∃ t, exec (.switchInstant i) s = .next t ∧ (txOf t i).armed = false ∧ (txOf t i).closing = true ∧ (txOf t i).openItem = (txOf s i).openItem
      ∧ (txOf t i).chunks = (txOf s i).chunks.filter (fun k => k.type == tGap)
          ++ [plainChunk tClose (fit (natLe (s.dom.epoch.toNat + 1) 4) 64)] ++ (txOf s i).chunks.filter (fun k => k.type != tGap))
  ∧ (∀ (i : Nat) (mismatch : Bool) (k : Chunk) (rest : List Chunk) (key : BitVec 256) (s u v : State), s.fcu.armed = false →
    txHead (txOf s i) = some (k, rest) → txReady (txOf s i) = true → laneSends s (txLane (txOf s i)) = true →
    (laneOf s (txLane (txOf s i))).out = [] → txTurn s i = true →
    faultStall (Src.linkTx (txPipe s (txLane (txOf s i)))) s = false → toLost s (txOf s i) = false → u = updTx i raiseMark (cacheContext i s) →
    sealKey (isControl k)
      { unit := Src.linkTx (txPipe u (txLane (txOf s i))), handle := (txOf s i).handle, hall := handleHall (txOf s i).handle,
        hgen := (hallOf u (handleHall (txOf s i).handle)).hgen, sealing := true, parent := 0#32, label := [], ticket := 0 } u
      = (.hit key, v) →
    exec (.txFrameSeal i mismatch) s = .next (settled ([], txPresent i k rest key mismatch v)))
  ∧ (∀ (lane : Nat) (f : Presented) (rest : List Presented) (s : State), (laneOf s lane).out = f :: rest → f.isVoid = false →
    f.chunk.type ≠ tClose →
    ∃ u, exec (.frameSent lane) s = .next (settled (chunkEnds [f.chunk] Status.ok, drainComplete u))
      ∧ u.out = .frame lane (txOf s f.ctx).dst (txOf s f.ctx).cls f.bytes :: s.out
      ∧ ((txOf s f.ctx).live = true → (txOf u f.ctx).lastSent = f.seq))
  ∧ (∀ (lane : Nat) (f : Presented) (rest : List Presented) (s : State), (laneOf s lane).out = f :: rest → f.isVoid = true →
    (txOf s f.ctx).live = true →
    ∃ u, exec (.frameSent lane) s = .next (settled ([], drainComplete u)) ∧ u.out = .voidFrame lane :: s.out
      ∧ (txOf u f.ctx).chunks = f.chunk :: (txOf s f.ctx).chunks)
  ∧ (∀ (p : Nat) (s : State), p < 64 → p < s.conf.lanes → txPipe s p = p → (s.ls.spares.get (groupOf p)).txLane = none →
    (s.ls.spares.get (groupOf p)).txBad = false → s.fcu.armed = false →
    ∃ u, exec (.txFailover p) s = .next (settled ([], u)) ∧ (u.ls.spares.get (groupOf p)).txLane = some p ∧ u.ls.txBad.contains p = true
      ∧ u.ls.events = raised s.ls.events 3)
  ∧ (∀ (p : Nat) (s : State), p < 64 → p < s.conf.lanes → rxPipe s p = p → (s.ls.spares.get (groupOf p)).rxLane = none →
    (s.ls.spares.get (groupOf p)).rxBad = false → s.fcu.armed = false →
    ∃ u, exec (.rxFailover p) s = .next (settled ([], u)) ∧ (u.ls.spares.get (groupOf p)).rxLane = some p ∧ u.ls.rxBad.contains p = true
      ∧ u.ls.events = raised s.ls.events 3)
  ∧ (∀ (a : Act) (arg : Bytes) (l : List Nat) (s : State), mayAct s [.domainManager] a = true → arg.length = 3 →
    s.ls.rx.filterMap (fun e => if e.2.live && e.2.src.toNat == num arg 0 2 && e.2.stream.toNat == num arg 2 1 then some e.1 else none) = l →
    l ≠ [] →
    exec (.streamAbandon a arg) s
      = .next (settled ((eachAns l abandonOp s).1, actDone a.sess 0xA01001 Status.ok [] false (eachAns l abandonOp s).2)))
  ∧ (∀ (index : BitVec 9) (s u : State), u = { s with ls := { s.ls with index := index } } → (txOf s index.toNat).live = false →
    bindForm u = true →
    s.ls.tx.any (fun e => e.2.live && e.2.dst.toNat == lsPeer s.ls && e.2.stream.toNat == lsStream s.ls && e.2.epoch == lsEpoch s.ls) = false →
    ∃ t, exec (.lsTxBind index) s = .next (settled ([], t)) ∧ t.ls.result = Status.ok ∧ (txOf t index.toNat).live = true
      ∧ (txOf t index.toNat).handle = s.ls.arg0 ∧ (txOf t index.toNat).dst = BitVec.ofNat 16 (lsPeer s.ls)
      ∧ (txOf t index.toNat).lane = lsLane s.ls ∧ (txOf t index.toNat).nextSeq = 1)
  ∧ (∀ (index : BitVec 9) (s u : State), u = { s with ls := { s.ls with index := index } } → (rxOf s index.toNat).live = false →
    lsExpander s.ls = false → bindForm u = true →
    s.ls.rx.any (fun e => e.2.live && e.2.src.toNat == lsPeer s.ls && e.2.stream.toNat == lsStream s.ls && e.2.epoch == lsEpoch s.ls) = false →
    ∃ t, exec (.lsRxBind index) s = .next (settled ([], t)) ∧ t.ls.result = Status.ok ∧ (rxOf t index.toNat).live = true
      ∧ (rxOf t index.toNat).handle = s.ls.arg0 ∧ (rxOf t index.toNat).src = BitVec.ofNat 16 (lsPeer s.ls)
      ∧ (rxOf t index.toNat).lane = lsLane s.ls ∧ (rxOf t index.toNat).top = 0)
  ∧ (∀ (index : BitVec 9) (s : State), lsRx s.ls = false → (txOf s index.toNat).live = true →
    s.ls.lanes.any (fun e => e.2.out.any fun f => f.ctx == index.toNat) = false →
    ∃ t, exec (.lsUnbind index) s = .next (settled (chunkEnds (txOf s index.toNat).chunks Status.permission
        ++ ((txOf s index.toNat).unanswered.map fun u => unitsEnd u Status.permission).flatten, t)) ∧ t.ls.result = Status.ok
      ∧ t.ls.tx = s.ls.tx.set index.toNat default ∧ t.ls.rx = s.ls.rx)
  ∧ (∀ (index : BitVec 9) (s u : State), u = { s with ls := { s.ls with index := index } } → (rxOf s index.toNat).live = true →
    ∃ t, exec (.lsAbandon index) s = .next (settled ((abandonOp index.toNat u).1, t)) ∧ t.ls.result = Status.ok
      ∧ t.ls.rx = (abandonOp index.toNat u).2.ls.rx)
  ∧ (∀ s : State, ∃ t, exec .lsArmSwitch s = .next (settled ([], t)) ∧ t.ls.result = Status.ok
      ∧ t.ls.tx = s.ls.tx.map (fun e => (e.1, if e.2.live && !e.2.waiting && (s.ls.tx.any (fun x => x.2.live && x.2.succOf == some e.1)
          || (s.dom.stepPending && e.2.epoch == s.dom.epoch.toNat.testBit 0)) then { e.2 with armed := true } else e.2)))
  ∧ (∀ (index : BitVec 9) (s : State), lsRx s.ls = false →
    ∃ t, exec (.lsQuery index) s = .next (settled ([], t)) ∧ t.ls.result = Status.ok ∧ t.ls.qseq = BitVec.ofNat 64 (txOf s index.toNat).nextSeq
      ∧ t.ls.qfloor = BitVec.ofNat 64 (txOf s index.toNat).mark ∧ t.ls.tx = s.ls.tx ∧ t.ls.rx = s.ls.rx)
  ∧ (∀ s : State, s.injectionAllowed = true → lsLane s.ls < s.conf.lanes → lsRx s.ls = false →
    ∃ t, exec .lsFailover s = .next (settled ((txFailoverOp (txPipe s (lsLane s.ls)) s).1, t))
      ∧ t.ls.result = Status.ok)

/-- R185, R186, R187, R193, R195, R199, R200: the line requests, the table's admission and the memory's answers. -/
def Obligations.LineRequests : Prop :=
  (∀ (a : LineAcc) (data : Bytes) (s : State) (q : LineReq), q = lineReqOf s a .write (~~~0#64) data → lineTaken s a = true →
    isVault a.region = false → (regionOf s a.region).state = .writing → (regionOf s a.region).sealing = false →
    (regionOf s a.region).cursor ≤ q.line →
    exec (.lineWrite a data) s = .next (settled (lineTry 2 q.id
      (reqInFlight q (updRegion a.region (fun x => { x with cursor := q.line + 1 }) (reqTaken s))))))
  ∧ (∀ (a : LineAcc) (data : Bytes) (s : State) (q : LineReq), q = lineReqOf s a .write (~~~0#64) data → lineTaken s a = true →
    (regionOf s a.region).state = .active → (regionOf s a.region).sealing = false →
    exec (.lineWrite a data) s = .next (settled (lineTry 2 q.id (reqInFlight q (reqTaken s)))))
  ∧ (∀ (a : LineAcc) (be : BitVec 64) (data : Bytes) (s : State) (q : LineReq), q = lineReqOf s a (if be = ~~~0#64 then .write else .partialWrite) be data →
    lineTaken s a = true → isVault a.region = true → (regionOf s a.region).state = .active → (regionOf s a.region).sealing = false →
    exec (.partialWrite a be data) s = .next (settled (lineTry 2 q.id (reqInFlight q (reqTaken s)))))
  ∧ (∀ (a : LineAcc) (s : State) (q : LineReq), q = lineReqOf s a .read 0#64 [] → lineTaken s a = true →
    ((regionOf s a.region).state = .active ∨ (regionOf s a.region).state = .sealed ∨ (regionOf s a.region).state = .tainted
      ∨ ((regionOf s a.region).state = .writing ∧ q.line < (regionOf s a.region).cursor)) →
    exec (.lineRead a) s = .next (settled (lineTry 2 q.id (reqInFlight q (reqTaken s)))))
  ∧ (∀ (a : LineAcc) (s : State), 4096 ≤ s.ln.inflight.length →
    ∃ u, exec (.lineRead a) s = .next (settled ([], u)) ∧ u.ln.inflight = s.ln.inflight ∧ u.ln.events = raised s.ln.events 3
      ∧ u.ln.stalled = s.ln.stalled ++ [{ lineReqOf s a .read 0#64 [] with pipe := 0 }])
  ∧ (∀ (q : LineReq) (rest : List LineReq) (s : State), s.ln.stalled = q :: rest → s.ln.inflight.length < 4096 →
    exec .inflightTableAdmit s = .next (settled (lineAccept q false { s with ln := { s.ln with stalled := rest } })))
  ∧ (∀ (pipe : Nat) (p : Bytes) (q : LineReq) (s : State), pipe < s.conf.linePipes → s.fcu.safe = false → s.fcu.armed = false →
    s.tr.requests.any (fun r => r.id == num p 0 4) = false → s.ln.aborted.find? (·.1 == num p 0 4) = none →
    s.ln.inflight.find? (fun r => r.id == num p 0 4 && (r.phase == 1 || r.phase == 2)) = some q → num p 4 1 = 2 →
    rspStatus p 0 = 0 → rspStatus p 1 = 0 →
    exec (.lineRspReceive pipe p) s = .next (settled (if q.phase = 2 then lineEnd q Status.ok [] s else lineUnsealOp q p s)))
  ∧ (∀ (pipe : Nat) (p : Bytes) (s : State), pipe < s.conf.linePipes → s.fcu.safe = false → s.fcu.armed = false →
    s.tr.requests.any (fun r => r.id == num p 0 4) = false → s.ln.aborted.find? (·.1 == num p 0 4) = none →
    s.ln.inflight.find? (fun r => r.id == num p 0 4 && (r.phase == 1 || r.phase == 2)) = none →
    exec (.lineRspReceive pipe p) s = .next (settled ([], lineStray true pipe s)))
  ∧ (∀ (pipe unit : Nat) (p : Bytes) (s : State), pipe < s.conf.linePipes → s.fcu.safe = false → s.tr.requests.any (fun r => r.id == num p 0 4) = false →
    s.ln.aborted.find? (·.1 == num p 0 4) = some (num p 0 4, unit) →
    ∃ u, exec (.lineRspReceive pipe p) s = .next (settled ([], u)) ∧ u.hr.stale = s.hr.stale.bump unit 1
      ∧ u.ln.aborted = s.ln.aborted.filter (·.1 != num p 0 4) ∧ u.ln.inflight = s.ln.inflight)
  ∧ (∀ (pipe : Nat) (p : Bytes) (s : State), s.conf.linePipes ≤ pipe → exec (.lineRspReceive pipe p) s = .next s)

/-- R182, R186, R196, R197, R198: the region commands of the line unit, each with the completion that follows it. -/
def Obligations.RegionCommands : Prop :=
  (∀ (index : BitVec 11) (sealed : Bool) (s : State), s.ln.go = false → index.toNat < 1280 → isVault index.toNat = false →
    regionWriteRefusal index.toNat (descBytes s.ln) sealed
      { s with ln := { s.ln with sealed := sealed, index := BitVec.ofNat 11 index.toNat } } = none →
    ∃ t, exec (.lnRegionWrite index sealed) s = .next t ∧ t.ln.result = Status.ok ∧ t.ln.go = false ∧ t.ln.op = 1
      ∧ t.ln.regions = s.ln.regions.set index.toNat
        { (default : Region) with desc := descBytes s.ln, state := if sealed then .sealed else .writing })
  ∧ (∀ (index : BitVec 11) (sealed : Bool) (s : State), s.ln.go = false → isVault index.toNat = true →
    (treeOf s index.toNat).state ≠ .staged →
    regionWriteRefusal index.toNat (descBytes s.ln) sealed
      { s with ln := { s.ln with sealed := sealed, index := BitVec.ofNat 11 index.toNat } } = none →
    ∃ t, exec (.lnRegionWrite index sealed) s = .next t ∧ t.ln.result = Status.ok ∧ t.ln.go = false
      ∧ t.tr.trees = s.tr.trees.set index.toNat { (default : Tree) with state := .active }
      ∧ t.ln.regions = s.ln.regions.set index.toNat
        { (default : Region) with desc := descBytes s.ln, nkey := s.tr.nkey, state := .active })
  ∧ (∀ (index : BitVec 11) (s : State), s.ln.go = false → index.toNat < 1280 → (regionOf s index.toNat).state ≠ .free →
    (treeOf s index.toNat).busy = false → regionQuiet s index.toNat = true →
    combBusy s index.toNat = false →
    ∃ t, exec (.lnRegionFree index) s = .next t ∧ t.ln.result = Status.ok ∧ t.ln.go = false
      ∧ t.ln.regions = (s.ln.regions.mod index.toNat (fun x => { x with freeing := true })).set index.toNat default
      ∧ t.tr.trees = s.tr.trees.set index.toNat default)
  ∧ (∀ (index : BitVec 11) (s : State), s.ln.go = false → index.toNat < 1280 → (regionOf s index.toNat).state ≠ .free →
    (treeOf s index.toNat).busy = false →
    (regionQuiet s index.toNat && !combBusy s index.toNat) = false →
    ∃ t, exec (.lnRegionFree index) s = .next t ∧ t.ln.go = true ∧ t.ln.op = 2 ∧ t.ln.target = index.toNat
      ∧ (regionOf t index.toNat).freeing = true ∧ t.tr = s.tr)
  ∧ (∀ (index : BitVec 11) (s : State), s.ln.go = false → index.toNat < 1280 → (regionOf s index.toNat).state = .writing →
    ∃ t, exec (.lnRegionSeal index) s = .next t ∧ t.ln.go = true ∧ t.ln.op = 3 ∧ t.ln.target = index.toNat
      ∧ (regionOf t index.toNat).sealing = true ∧ (regionOf t index.toNat).state = .writing)
  ∧ (∀ (r : Nat) (s : State), (regionOf s r).sealing = true → acceptedLines s r = false →
    ∃ t, exec (.regionSealComplete r) s = .next t ∧ t.ln.result = Status.ok ∧ t.ln.go = false ∧ t.ln.op = 3
      ∧ t.ln.regions = s.ln.regions.mod r (fun x => { x with sealing := false, state := .sealed }))
  ∧ (∀ (r : Nat) (s : State), (regionOf s r).sealing = true → acceptedLines s r = true → exec (.regionSealComplete r) s = .next s)
  ∧ (∀ (index : BitVec 11) (s : State), s.ln.go = false → isVault index.toNat = true → s.conf.tree = true →
    (regionOf s index.toNat).state = .active → (treeOf s index.toNat).busy = false → regionEraseOk index.toNat s = true →
    ∃ u, exec (.lnRegionErase index) s = .next (settled ([], u)) ∧ u.ln.go = true ∧ u.ln.op = 4 ∧ u.ln.target = index.toNat
      ∧ (regionOf u index.toNat).state = .erasing ∧ (regionOf u index.toNat).newDesc = descBytes s.ln
      ∧ (treeOf u index.toNat).state = .erasing)
  ∧ (∀ (index : BitVec 11) (s : State), s.ln.go = false → isVault index.toNat = false → s.ln.answer = [] →
    ∃ u, exec (.lnRegionErase index) s = .next (settled ([], u)) ∧ u.ln.result = Status.permission ∧ u.ln.regions = s.ln.regions ∧ u.tr = s.tr)
  ∧ (∀ (r : Nat) (s : State), (regionOf s r).state = .erasing → regionQuiet s r = true →
    combBusy s r = false →
    ∃ t, exec (.regionEraseComplete r) s = .next t ∧ t.ln.result = Status.ok ∧ t.ln.go = false
      ∧ (regionOf t r).desc = (regionOf s r).newDesc ∧ (regionOf t r).state = .active ∧ (regionOf t r).nkey = (regionOf s r).newNkey
      ∧ (treeOf t r) = { (default : Tree) with state := .active })
  ∧ (∀ (index : BitVec 11) (s : State), s.ln.go = false → index.toNat < 1280 →
    ∃ t, exec (.lnQuery index) s = .next t ∧ t.ln.result = Status.ok ∧ t.ln.regions = s.ln.regions
      ∧ t.ln.qcursor = BitVec.ofNat 64 (regionOf s index.toNat).cursor ∧ t.ln.qinfo = BitVec.ofNat 32 (lnInfo s index.toNat))
  ∧ (∀ (index : BitVec 11) (s : State), s.ln.go = false → 1280 ≤ index.toNat →
    ∃ t, exec (.lnQuery index) s = .next t ∧ t.ln.result = Status.permission ∧ t.ln.regions = s.ln.regions)
  ∧ (∀ (index : BitVec 11) (s : State), s.ln.go = true → exec (.lnQuery index) s = .next s)

/-- R221, R228, R229, R230, R233, R234: the rows of TR_CMD. -/
def Obligations.TreeCommands : Prop :=
  (∀ (index : Byte) (keep : Bool) (s : State), s.tr.go = false → s.conf.tree = true → (treeOf s index.toNat).state = .active →
    (regionOf s index.toNat).state = .active → (treeOf s index.toNat).busy = false →
    ∃ u, exec (.trRootSave index keep) s = .next (treeKick u) ∧ u.tr.go = true ∧ u.tr.op = 1 ∧ u.tr.flushing = true
      ∧ u.tr.index = index ∧ u.tr.keep = keep ∧ (treeOf u index.toNat).state = .saving ∧ (treeOf u index.toNat).busy = true
      ∧ (treeOf u index.toNat).level = some 0 ∧ (treeOf u index.toNat).keep = keep ∧ u.ln = s.ln)
  ∧ (∀ (index : Byte) (s : State), s.tr.go = false → s.conf.tree = true →
    (treeOf s index.toNat).state = .active ∧ (regionOf s index.toNat).state = .active
      ∨ (treeOf s index.toNat).state = .tainted ∧ (regionOf s index.toNat).state = .tainted →
    (treeOf s index.toNat).busy = false →
    ∃ u, exec (.trFlush index) s = .next (treeKick u) ∧ u.tr.go = true ∧ u.tr.op = 4 ∧ u.tr.flushing = true ∧ u.tr.index = index
      ∧ (treeOf u index.toNat).state = (treeOf s index.toNat).state ∧ (treeOf u index.toNat).busy = true
      ∧ (treeOf u index.toNat).level = some 0 ∧ (treeOf u index.toNat).flush = true ∧ u.ln = s.ln)
  ∧ (∀ (index : Byte) (keep : Bool) (s : State), s.tr.go = false → (treeOf s index.toNat).state ≠ .active →
    (treeOf s index.toNat).state ≠ .tainted →
    ∃ t, exec (.trRootSave index keep) s = .next t ∧ t.tr.result = Status.permission ∧ t.tr.go = false ∧ t.tr.op = 1
      ∧ t.tr.trees = s.tr.trees ∧ t.ln = s.ln)
  ∧ (∀ (index : Byte) (s : State), s.tr.go = false → (treeOf s index.toNat).state ≠ .active →
    (treeOf s index.toNat).state ≠ .tainted →
    ∃ t, exec (.trFlush index) s = .next t ∧ t.tr.result = Status.permission ∧ t.tr.go = false ∧ t.tr.op = 4
      ∧ t.tr.trees = s.tr.trees ∧ t.ln = s.ln)
  ∧ (∀ (index : Byte) (s : State), s.tr.go = false → rootLoadOk index.toNat s = true →
    ∃ t, exec (.trRootLoad index) s = .next t ∧ t.tr.result = Status.ok ∧ t.tr.go = false ∧ t.tr.op = 2 ∧ t.tr.index = index
      ∧ (treeOf t index.toNat).state = .staged ∧ (treeOf t index.toNat).staged = blobBytes s.tr ∧ t.tr.events = s.tr.events)
  ∧ (∀ (index : Byte) (s : State), s.tr.go = false → s.conf.tree = true → s.lcState = scrap →
    ∃ t, exec (.trRootLoad index) s = .next t ∧ t.tr.result = Status.authFail ∧ t.tr.go = false ∧ t.tr.events = raised s.tr.events 4
      ∧ t.tr.trees = s.tr.trees ∧ t.ln = s.ln)
  ∧ (∀ (index : Byte) (s : State), s.tr.go = false → (treeOf s index.toNat).state = .staged →
    ∃ t, exec (.trRootDrop index) s = .next t ∧ t.tr.result = Status.ok ∧ t.tr.go = false ∧ t.tr.op = 3
      ∧ t.tr.trees = s.tr.trees.set index.toNat default ∧ t.tr.requests = s.tr.requests.filter (·.region != index.toNat))
  ∧ (∀ (index : Byte) (s : State), s.tr.go = false → (treeOf s index.toNat).state ≠ .staged →
    ∃ t, exec (.trRootDrop index) s = .next t ∧ t.tr.result = Status.permission ∧ t.tr.go = false ∧ t.tr.op = 3
      ∧ t.tr.trees = s.tr.trees ∧ t.ln = s.ln)
  ∧ (∀ (index : Byte) (s : State), s.tr.go = false →
    ∃ t, exec (.trQuery index) s = .next t ∧ t.tr.result = Status.ok ∧ t.tr.go = false ∧ t.tr.op = 5 ∧ t.tr.index = index
      ∧ t.tr.qinfo = BitVec.ofNat 32 (trInfo s index.toNat) ∧ t.tr.trees = s.tr.trees ∧ t.ln = s.ln)
  ∧ (∀ (index : Byte) (level : BitVec 4) (s : State), s.tr.go = false → s.injectionAllowed = true → s.conf.tree = true →
    ∃ t, exec (.trInject index level) s = .next t ∧ t.tr.result = Status.ok ∧ t.tr.go = false ∧ t.tr.op = 6 ∧ t.tr.level = level
      ∧ t.tr.inject = some (index.toNat, level.toNat) ∧ t.tr.trees = s.tr.trees ∧ t.ln = s.ln)
  ∧ (∀ (index : Byte) (level : BitVec 4) (s : State), s.tr.go = false → s.injectionAllowed = false →
    ∃ t, exec (.trInject index level) s = .next t ∧ t.tr.result = Status.permission ∧ t.tr.inject = s.tr.inject
      ∧ t.tr.trees = s.tr.trees ∧ t.ln = s.ln)
  ∧ (∀ (index : Byte) (keep : Bool) (level : BitVec 4) (s : State), s.tr.go = true →
    exec (.trRootSave index keep) s = .next s ∧ exec (.trRootLoad index) s = .next s ∧ exec (.trRootDrop index) s = .next s
      ∧ exec (.trFlush index) s = .next s ∧ exec (.trQuery index) s = .next s ∧ exec (.trInject index level) s = .next s)

/-- R237, R238, R239, R240, R241, R243, R246, R247, R248: the movers' own rows. -/
def Obligations.MoverCommands : Prop :=
  (∀ (mover : BitVec 4) (s : State), mover.toNat < s.conf.movers → isLanding s (Src.mover mover.toNat) = false →
    (moverOf s mover.toNat).reserved.length < 16 →
    ∃ t, exec (.mvSubmit mover) s = .next t ∧ t.mv.result = Status.ok ∧ t.mv.go = false ∧ t.mv.op = 1
      ∧ (moverOf t mover.toNat).reserved = (moverOf s mover.toNat).reserved ++ [{ (default : MDesc) with
          desc := mvDesc s.mv, firstAt := s.now, tag := (moverOf s mover.toNat).nextTag }]
      ∧ (moverOf t mover.toNat).radio = (moverOf s mover.toNat).radio ∧ (moverOf t mover.toNat).spot = (moverOf s mover.toNat).spot)
  ∧ (∀ (mover : BitVec 4) (s : State),
    ∃ t, exec (.mvSubmit mover) s = .next t
      ∧ (s.conf.movers ≤ mover.toNat → t.mv.result = Status.permission ∧ t.mv.movers = s.mv.movers)
      ∧ (mover.toNat < s.conf.movers → isLanding s (Src.mover mover.toNat) = true →
          t.mv.result = Status.retryLater ∧ t.mv.movers = s.mv.movers)
      ∧ (mover.toNat < s.conf.movers → isLanding s (Src.mover mover.toNat) = false → 16 ≤ (moverOf s mover.toNat).reserved.length →
          t.mv.result = Status.refusedCapacity ∧ t.mv.movers = s.mv.movers))
  ∧ (∀ (mover : BitVec 4) (s : State), mover.toNat < s.conf.movers →
    ∃ t, exec (.mvQuery mover) s = .next t ∧ t.mv.result = Status.ok ∧ t.mv.movers = s.mv.movers
      ∧ t.mv.qinfo = BitVec.ofNat 32 (mvInfo s mover.toNat) ∧ t.mv.qprog = BitVec.ofNat 64 (mvProgress s mover.toNat))
  ∧ (∀ (m : Nat) (s : State), s.fcu.safe = false → moverFresh m s = true → (moverOf s m).seg.isSome = true →
    exec (.moverSegment m) s = .next (settled (segStep m s)))
  ∧ (∀ (m : Nat) (s : State), s.fcu.safe = false → moverFresh m s = true → m < s.conf.movers → faultStall (Src.mover m) s = false → (moverOf s m).tokens = [] →
    (moverOf s m).seg = none → nextClass (moverOf s m) = none →
    exec (.moverSegment m) s = .next (settled ([], updMover m (fun x => { x with running := 0 }) s)))
  ∧ (∀ (m c : Nat) (d : MDesc) (s u : State), s.fcu.safe = false → moverFresh m s = true → m < s.conf.movers → faultStall (Src.mover m) s = false →
    isLanding s (Src.mover m) = false → (moverOf s m).tokens = [] → (moverOf s m).seg = none → nextClass (moverOf s m) = some c →
    (classQueue (moverOf s m) c).find? (fun d => !mdDone d) = some d → lostMover (moverOf s m) c = none →
    u = updMover m (fun y => { y with seg := some (segBegin d c), running := c + 1 }) (markWaits m c s) →
    (d.started || moverCheck d.desc d.work.isNone u) = true →
    exec (.moverSegment m) s
      = .next (settled (segStep m (updRunning m (fun d => { d with started := true }) (u.mvCount (8 * m + 3) 1)))))
  ∧ (∀ (m c : Nat) (d : MDesc) (s u : State), s.fcu.safe = false → moverFresh m s = true → m < s.conf.movers → faultStall (Src.mover m) s = false →
    isLanding s (Src.mover m) = false → (moverOf s m).tokens = [] → (moverOf s m).seg = none → nextClass (moverOf s m) = some c →
    (classQueue (moverOf s m) c).find? (fun d => !mdDone d) = some d → lostMover (moverOf s m) c = none →
    u = updMover m (fun y => { y with seg := some (segBegin d c), running := c + 1 }) (markWaits m c s) → d.started = false →
    moverCheck d.desc d.work.isNone u = false →
    exec (.moverSegment m) s = .next (settled ([], applyTokens m (updMover m (fun y => { y with seg := none })
      (updRunning m (fun d => { d with started := true, stopped := true, status := Status.permission }) u)))))
  ∧ (∀ (m : Nat) (d : MDesc) (rest : List MDesc) (s : State), s.fcu.safe = false → (moverOf s m).radio = d :: rest → mdDone d = true →
    ∃ t, exec (.moverDescriptorComplete m) s = .next t ∧ t.mv.movers = s.mv.movers.mod m (fun x => { x with radio := rest })
      ∧ (d.work = none → t.mv.result = d.status ∧ t.mv.events = raised s.mv.events 3))
  ∧ (∀ (m w : Nat) (d : MDesc) (rest : List MDesc) (s : State), s.fcu.safe = false → (moverOf s m).radio = d :: rest →
    mdDone d = true → d.work = some w →
    exec (.moverDescriptorComplete m) s
      = .next (workEnd w d.status ((updMover m (fun x => { x with radio := rest }) s).mvCount (8 * m) 1)))
  ∧ (∀ (m q : Nat) (qgen : BitVec 16) (s : State), (moverOf s m).seg.isSome = true → (moverOf s m).tokens.contains (q, qgen) = false →
    ∃ t, exec (.moverAbortToken m q qgen) s = .next t ∧ (moverOf t m).tokens = (moverOf s m).tokens ++ [(q, qgen)]
      ∧ (moverOf t m).radio = (moverOf s m).radio ∧ (moverOf t m).reserved = (moverOf s m).reserved
      ∧ (moverOf t m).spot = (moverOf s m).spot)

/-- R249, R251, R253, R255, R257, R258, R260, R261: the reduction units' own rows. -/
def Obligations.ReductionCommands : Prop :=
  (∀ (u : BitVec 3) (slot : BitVec 2) (s : State), u.toNat < s.conf.redUnits →
    ∃ t, exec (.rdQuery u slot) s = .next t ∧ t.rd.result = Status.ok ∧ t.rd.slots = s.rd.slots
      ∧ t.rd.qinfo = BitVec.ofNat 32 (rdInfo (redOf s u.toNat slot.toNat))
      ∧ t.rd.qcoll = BitVec.ofNat 32 (rdCollInfo (redOf s u.toNat slot.toNat)))
  ∧ (∀ (u : BitVec 3) (slot : BitVec 2) (s : State), u.toNat < s.conf.redUnits → (redOf s u.toNat slot.toNat).state ≠ 0 →
    (redOf s u.toNat slot.toNat).ending = Status.ok →
    ∃ t, exec (.rdAbort u slot) s = .next t ∧ t.rd.result = Status.ok ∧ (redOf t u.toNat slot.toNat).state = 3
      ∧ (redOf t u.toNat slot.toNat).ending = Status.resetAborted ∧ (redOf t u.toNat slot.toNat).outbuf = [])
  ∧ (∀ (u : BitVec 3) (slot : BitVec 2) (s : State), 0 < s.conf.redUnits →
    (s.conf.redUnits ≤ u.toNat ∨ (redOf s u.toNat slot.toNat).state = 0) →
    ∃ t, exec (.rdAbort u slot) s = .next t ∧ t.rd.result = Status.permission ∧ t.rd.slots = s.rd.slots)
  ∧ (∀ (u k : Nat) (lines : List MemLine) (s : State), redReady (redOf s u k) = 0 →
    exec (.reductionSlice u k lines) s = .next (settled ([], s)))
  ∧ (∀ (u k : Nat) (lines : List MemLine) (s : State), redRuns u k s = true →
    (memberLost s (rdNext (redOf s u k).desc) || memberLost s (rdPrev (redOf s u k).desc)) = true →
    exec (.reductionSlice u k lines) s = .next (settled ([], redAbort u k Status.peerLost s)))
  ∧ (∀ (u k : Nat) (lines : List MemLine) (e : Status) (s v : State), redRuns u k s = true →
    memberLost s (rdNext (redOf s u k).desc) = false → memberLost s (rdPrev (redOf s u k).desc) = false →
    localTrans (redOf s u k).desc (redLocalNeed (redOf s u k)) s = (e, v) → e ≠ Status.ok → e ≠ Status.hallGone →
    exec (.reductionSlice u k lines) s = .next (settled ([], redAbort u k e v)))
  ∧ (∀ (u k : Nat) (lines : List MemLine) (s v : State), redRuns u k s = true →
    memberLost s (rdNext (redOf s u k).desc) = false → memberLost s (rdPrev (redOf s u k).desc) = false →
    localTrans (redOf s u k).desc (redLocalNeed (redOf s u k)) s = (Status.hallGone, v) →
    exec (.reductionSlice u k lines) s = .next (settled ([], v)))
  ∧ (∀ (u k : Nat) (lines : List MemLine) (s : State), redRuns u k s = true → s.fcu.armed = false →
    memberLost s (rdNext (redOf s u k).desc) = false → memberLost s (rdPrev (redOf s u k).desc) = false →
    redLocalNeed (redOf s u k) = [] →
    exec (.reductionSlice u k lines) s = .next (settled (redPiece u k (redReady (redOf s u k)) s)))
  ∧ (∀ (u k : Nat) (lines : List MemLine) (s v : State), redRuns u k s = true → v.fcu.armed = false →
    memberLost s (rdNext (redOf s u k).desc) = false → memberLost s (rdPrev (redOf s u k).desc) = false →
    localTrans (redOf s u k).desc (redLocalNeed (redOf s u k)) s = (Status.ok, v) → redLocalNeed (redOf s u k) ≠ [] → lines ≠ [] →
    (∀ l ∈ lines, l.err = 0#2) →
    exec (.reductionSlice u k lines) s = .next (settled (redPiece u k (redReady (redOf s u k))
      (updRed u k (fun y => { y with fetched := true, localBuf := localWire (redOf s u k).desc (redOf s u k).stage (redOf s u k).slice lines })
        (memCorrected false (mdHall (redOf s u k).desc) (rdLocal (redOf s u k).desc) v)))))
  ∧ (∀ (u k : Nat) (s : State), s.fcu.safe = false → (redOf s u k).state = 3 → (redOf s u k).stores = 0 → (redOf s u k).sends = 0 →
    ∃ t, exec (.reductionSlotComplete u k) s = .next t ∧ t.rd.slots = s.rd.slots.set (4 * u + k) default
      ∧ t.rd.result = s.rd.result)
  ∧ (∀ (u k : Nat) (s : State), s.fcu.safe = false → ((redOf s u k).state ≠ 3 ∨ 0 < (redOf s u k).stores ∨ 0 < (redOf s u k).sends) →
    exec (.reductionSlotComplete u k) s = .next s)

/-- R266, R267, R268, R269, R270, R271, R275, R276, R281, R282, R284, R285: the atomic unit's rows and the RSP frames. -/
def Obligations.HomeAndCombining : Prop :=
  (∀ (i : Nat) (s : State), (rxOf s i).held.find? (fun h => h.type == tReq && !h.taken) = none →
    exec (.homeReqAccept i) s = .next (settled ([], s)))
  ∧ (∀ (i : Nat) (h : HeldFrame) (s : State), (rxOf s i).held.find? (fun h => h.type == tReq && !h.taken) = some h →
    homeFits i h s = false →
    exec (.homeReqAccept i) s = .next (settled ([], hallStale (rqHall (h.payload.take 64) % 4096) (takeHeld i h.seq 0 s))))
  ∧ (∀ (i : Nat) (h : HeldFrame) (s : State), (rxOf s i).held.find? (fun h => h.type == tReq && !h.taken) = some h →
    homeFits i h s = true → rqPosted (h.payload.take 64) = true → homeRoom s ((rxOf s i).cls == 0#2) 0 = false →
    exec (.homeReqAccept i) s = .next (settled ([], s)))
  ∧ (∀ (i : Nat) (h : HeldFrame) (s : State), (rxOf s i).held.find? (fun h => h.type == tReq && !h.taken) = some h →
    homeFits i h s = true → rqPosted (h.payload.take 64) = true → homeRoom s ((rxOf s i).cls == 0#2) 0 = true →
    exec (.homeReqAccept i) s = .next (settled (homeKick (homeServe i h s))))
  ∧ (∀ (i : Nat) (h : HeldFrame) (s : State), (rxOf s i).held.find? (fun h => h.type == tReq && !h.taken) = some h →
    homeFits i h s = true → s.fcu.armed = false → rqPosted (h.payload.take 64) = false →
    reqNumber (rxOf s i) (h.payload.take 64) = .serve → homeRoom s ((rxOf s i).cls == 0#2) 1 = false →
    exec (.homeReqAccept i) s = .next (settled ([], s)))
  ∧ (∀ (i : Nat) (h : HeldFrame) (s : State), (rxOf s i).held.find? (fun h => h.type == tReq && !h.taken) = some h →
    homeFits i h s = true → s.fcu.armed = false → rqPosted (h.payload.take 64) = false →
    reqNumber (rxOf s i) (h.payload.take 64) = .serve → homeRoom s ((rxOf s i).cls == 0#2) 1 = true →
    exec (.homeReqAccept i) s = .next (settled (homeKick (homeServe i h
      (updRx i (fun c => { c with homeNum := some (nextNum (rqNum (h.payload.take 64))) }) s)))))
  ∧ (∀ (i : Nat) (h : HeldFrame) (s : State), (rxOf s i).held.find? (fun h => h.type == tReq && !h.taken) = some h →
    homeFits i h s = true → s.fcu.armed = false → rqPosted (h.payload.take 64) = false →
    reqNumber (rxOf s i) (h.payload.take 64) = .sync → homeRoom s ((rxOf s i).cls == 0#2) 1 = true →
    exec (.homeReqAccept i) s = .next (settled (homeKick (homeSync i h s))))
  ∧ (∀ (i : Nat) (h : HeldFrame) (s : State), (rxOf s i).held.find? (fun h => h.type == tReq && !h.taken) = some h →
    homeFits i h s = true → s.fcu.armed = false → rqPosted (h.payload.take 64) = false →
    reqNumber (rxOf s i) (h.payload.take 64) = .drop →
    exec (.homeReqAccept i) s = .next (settled (homeKick (reqFraming i h true s))))
  ∧ (∀ (e id u : Nat) (rest : List (Nat × Nat)) (r : HomeReq) (s : State), (combOf s e).waiting = (id, u) :: rest →
    homeReq s id = some r → (combOf s e).live = true → (combOf s e).filling = false → s.au.inject = false → s.fcu.armed = false →
    targetTainted s (combOf s e).region = false → rqAtomic r.block = true →
    exec (.atomicUpdateApply e) s = .next (settled ([], serveLoads e 4096 (updComb e (fun c => { c with waiting := rest })
      (homeUnitDone id u Status.ok (combOf s e).data ((updComb e (fun c => { c with
          dirty := true
          data := Num.atomLine (rqOp r.block) ((rqFlags r.block).testBit 0) ((rqFlags r.block).testBit 1) (rqMask r.block)
            (combOf s e).data (fit r.data 64) (rqBe r.block) (rqSwap r.block)
          reqHall := r.hall, reqAddr := rqAddr r.block + 64 * u, reqCtx := r.ctx % 512 }) s).auCount 1))))))
  ∧ (∀ (e id u : Nat) (rest : List (Nat × Nat)) (r : HomeReq) (s : State), (combOf s e).waiting = (id, u) :: rest →
    homeReq s id = some r → (combOf s e).live = true → (combOf s e).filling = false → s.au.inject = false → s.fcu.armed = false →
    targetTainted s (combOf s e).region = false → rqAtomic r.block = false →
    exec (.atomicUpdateApply e) s = .next (settled ([], serveLoads e 4096 (updComb e (fun c => { c with waiting := rest })
      (homeUnitDone id u Status.ok [] (updComb e (fun c => { c with
        data := storeLine r u c.data, dirty := true, reqHall := r.hall, reqAddr := rqAddr r.block + 64 * u, reqCtx := r.ctx % 512 }) s))))))
  ∧ (∀ (e : Nat) (data : Bytes) (s : State), (combOf s e).live = true → (combOf s e).filling = true →
    exec (.combiningFillDone e Status.ok data) s
      = .next (settled ([], serveLoads e 4096 (updComb e (fun c => { c with filling := false, data := fit data 64 }) s))))
  ∧ (∀ (e : Nat) (st : Status) (data : Bytes) (s : State), (combOf s e).live = true → (combOf s e).filling = true →
    (combOf s e).waiting = [] → st ≠ Status.ok → exec (.combiningFillDone e st data) s = .next (settled ([], combFree e s)))
  ∧ (∀ (e : Nat) (st : Status) (data : Bytes) (s : State), (combOf s e).filling = false →
    exec (.combiningFillDone e st data) s = .next (settled ([], s)))
  ∧ (∀ (i : Nat) (h : HeldFrame) (s u : State), (rxOf s i).held.find? (fun h => h.type == tRsp && !h.taken) = some h →
    (rxOf s i).rspParts = [] → u = takeHeld i h.seq 0 s →
    exec (.rspItemReceive i) s = .next (settled (if h.last then rspItem i none h.payload u
      else ([], updRx i (fun c => { c with rspParts := [h.payload] }) u))))
  ∧ (∀ (i : Nat) (b : Bytes) (rest : List Bytes) (h : HeldFrame) (s u : State),
    (rxOf s i).held.find? (fun h => h.type == tRsp && !h.taken) = some h →
    (rxOf s i).rspParts = b :: rest → u = updRx i (fun c => { c with rspParts := [] }) (takeHeld i h.seq 0 s) → h.last = true →
    exec (.rspItemReceive i) s = .next (settled (rspItem i (some b) h.payload u)))
  ∧ (∀ (hall : BitVec 12) (s u : State), s.conf.atomic = true → s.au.go = false →
    u = { s with au := { s.au with hall := BitVec.ofNat 12 hall.toNat, go := true, op := 1, flushing := true } } →
    exec (.auFlushHall hall) s = .next (settled ((eachAns (combDirty u (some hall.toNat)) (fun e s => combClean e (512, 0) s) u).1,
      flushStep (eachAns (combDirty u (some hall.toNat)) (fun e s => combClean e (512, 0) s) u).2)))
  ∧ (∀ s u : State, s.conf.atomic = true → s.au.go = false →
    u = { s with au := { s.au with hall := BitVec.ofNat 12 s.au.hall.toNat, go := true, op := 2, flushing := true } } →
    exec .auFlushAll s = .next (settled ((eachAns (combDirty u none) (fun e s => combClean e (512, 0) s) u).1,
      flushStep (eachAns (combDirty u none) (fun e s => combClean e (512, 0) s) u).2)))
  ∧ (∀ s : State, s.conf.atomic = true → s.au.go = false →
    ∃ t, exec .auInject s = .next (settled ([], t)) ∧ t.au.comb = s.au.comb ∧ t.au.queue = s.au.queue
      ∧ (s.injectionAllowed = true → t.au.inject = true ∧ t.au.result = Status.ok)
      ∧ (s.injectionAllowed = false → t.au.inject = s.au.inject ∧ t.au.result = Status.permission))

/-- R290 to R298, R302, R305: the queues' rows outside the packets. -/
def Obligations.QueueCommands : Prop :=
  (∀ (a : Act) (arg : Bytes) (q : Nat) (s : State), hallRole s a (num arg 0 2) = true → arg.length ≤ 32 →
    queueCreateOk (fit arg 32) s = true → firstFrom (fun q => (queueOf s q).state == .free) 16384 0 = some q →
    ∃ t, exec (.queueCreate a arg) s = .next t ∧ t.fe.queues = s.fe.queues.set q (queueMade (fit arg 32) (queueOf s q).qgen)
      ∧ t.fe.contexts = s.fe.contexts.set (num (fit arg 32) 4 2) (some (num (fit arg 32) 0 2)))
  ∧ (∀ (q : Nat) (s : State), s.fe.go = false → queueCreateOk (feArg s.fe) s = true →
    firstFrom (fun q => (queueOf s q).state == .free) 16384 0 = some q →
    ∃ t, exec .feCmdCreate s = .next t ∧ t.fe.queues = s.fe.queues.set q (queueMade (feArg s.fe) (queueOf s q).qgen)
      ∧ t.fe.result = Status.ok ∧ t.fe.created = BitVec.ofNat 14 q ∧ t.fe.go = false)
  ∧ (∀ (a : Act) (arg b : Bytes) (q : Nat) (s : State), b = fit arg 16 → hallRole s a (num b 0 2) = true → arg.length ≤ 16 →
    num b 3 1 = 0 → num b 6 2 = 0 → (isSealed (hallOf s (num b 0 2)) && ((hallOf s (num b 0 2)).tdi == .locked
      || (hallOf s (num b 0 2)).tdi == .run)) = false → fenceOfHall s (num b 4 2) (num b 0 2) = true →
    queueAt s (num b 0 2) (num b 2 1) = some q → (queueOf s q).state ≠ .dying →
    exec (.queueDestroy a arg) s = .next (actWaits a.sess 0x502002 (queueDie q (updQueue q (fun x => { x with
      destroyFence := some (num b 4 2, BitVec.ofNat 64 (num b 8 8)), byFe := false, answer := x.answer ++ [(a.sess, 0x502002)] }) s))))
  ∧ (∀ (b : Bytes) (q : Nat) (s u : State), s.fe.go = false → b = feArg s.fe → num b 3 1 = 0 → num b 6 2 = 0 →
    allZero (b.drop 16) = true → (isSealed (hallOf s (num b 0 2)) && ((hallOf s (num b 0 2)).tdi == .locked
      || (hallOf s (num b 0 2)).tdi == .run)) = false → fenceOfHall s (num b 4 2) (num b 0 2) = true →
    queueAt s (num b 0 2) (num b 2 1) = some q → (queueOf s q).state ≠ .dying →
    u = queueDie q (updQueue q (fun x => { x with
      destroyFence := some (num b 4 2, BitVec.ofNat 64 (num b 8 8)), byFe := true, answer := x.answer ++ [] }) s) →
    exec .feCmdDestroy s = .next { u with fe := { u.fe with go := true, op := 2 } })
  ∧ (∀ (q f : Nat) (v : DWord) (s u : State), (queueOf s q).state = .dying → (queueOf s q).acks = [] → workOf s q = [] → owed s q = [] →
    (queueOf s q).destroyFence = some (f, v) → (queueOf s q).answer = [] → (queueOf s q).byFe = false →
    u = updQueue q (fun _ => { (default : Queue) with qgen := (queueOf s q).qgen + 1 }) s →
    exec (.queueDestroyFinish q) s = .next (settled ([], t0Sweep ((signalFence f v Status.ok
      (if u.fe.queues.any (fun e => e.2.state != .free && e.2.context == (queueOf s q).context) then u
       else { u with fe := { u.fe with contexts := u.fe.contexts.set (queueOf s q).context none } })).feEvent 2))))
  ∧ (∀ (q : BitVec 14) (s : State), s.fe.go = false →
    ∃ t, exec (.feCmdQuery q) s = .next t ∧ t.fe.result = Status.ok ∧ t.fe.queues = s.fe.queues
      ∧ t.fe.qinfo = BitVec.ofNat 32 (feInfo s q.toNat) ∧ t.fe.qacks = BitVec.ofNat 32 (queueOf s q.toNat).acks.length)
  ∧ (∀ (hall slot q : Nat) (t : Word) (s u : State), u = portInput s → hpServes s = true → queueAt u hall slot = some q →
    doorbellOk hall q t u = true → t ≠ (queueOf u q).tail → (queueOf u q).state = .idle → qClass (hallOf u hall) ≠ 0 →
    ∃ v, exec (.doorbell hall slot t) s = .next v ∧ (queueOf v q).tail = t ∧ (queueOf v q).state = .ready
      ∧ (queueOf v q).head = (queueOf u q).head)
  ∧ (∀ (hall slot q : Nat) (t : Word) (s u : State), u = portInput s → hpServes s = true → queueAt u hall slot = some q →
    doorbellOk hall q t u = false → exec (.doorbell hall slot t) s = .next ((hallCount hall 7 1 u).feCount 3))
  ∧ (∀ (q : Nat) (s : State), (queueOf s q).state = .ready → (queueOf s q).active = false → (queueOf s q).t0 = false →
    (queueOf s q).fetch = .idle →
    s.fcu.safe = false → (readyQueues s).any (fun p => decide (queueClass s p < queueClass s q) && entryFree s (queueClass s p)) = false →
    entryFree s (queueClass s q) = true →
    ∃ u, exec (.queueActivate q) s = .next (feKick q u) ∧ (queueOf u q).state = .running ∧ (queueOf u q).active = true
      ∧ (queueOf u q).decoded = 0 ∧ u.fe.activeOrder = s.fe.activeOrder ++ [q])
  ∧ (∀ (q : Nat) (entry : Bytes) (s : State), (queueOf s q).fetch = .ring → (queueOf s q).state = .running → num entry 8 8 = 0 →
    num entry 0 8 % 64 = 0 →
    ∃ u, exec (.ringEntryFetched q entry) s = .next (fetchAsk q (.header (BitVec.ofNat 64 (num entry 0 8)) none) (num entry 0 8)
        (64 + chunkBytes (isSealed (hallOf s (queueOf s q).hall)) 16) u)
      ∧ (queueOf u q).head = (queueOf s q).head + 1 ∧ (queueOf u q).state = .running)
  ∧ (∀ (q : Nat) (entry : Bytes) (s : State), (queueOf s q).fetch = .ring → (queueOf s q).state = .running →
    (num entry 8 8 ≠ 0 ∨ num entry 0 8 % 64 ≠ 0) →
    exec (.ringEntryFetched q entry) s = .next (queueStop q Status.permission 0 ((queueFetched q s).feCount 1)))
  ∧ (∀ (q : Nat) (data : Bytes) (addr : DWord) (h : Bytes) (s u : State), (queueOf s q).state = .running →
    (queueOf s q).fetch = .header addr none → h = fit (data.take 64) 64 → u = queueFetched q s → headerOk u q none h = true →
    s.fcu.armed = false → isSealed (hallOf s (queueOf s q).hall) = false →
    ∃ v, exec (.commandChunkFetched q data) s = .next (feKick q v) ∧ (queueOf v q).qseq = (queueOf s q).qseq + 1
      ∧ (queueOf v q).bufs = (addUnits { addr := addr, header := h, units := [] } 0
          (fit ((data.drop 64).take (32 * chunkUnits h 0)) (32 * chunkUnits h 0)), 0) :: (queueOf s q).bufs)
  ∧ (∀ (e o : Nat) (s : State), (slotOfEng s e).owner = some o → (slotOfEng s e).overrun = false →
    s.fe.takeLimit.toNat * 64 * nsT < s.now - (slotOfEng s e).takeStart →
    ∃ t, exec (.takeOverrun e) s = .next t ∧ (slotOfEng t e).overrun = true ∧ (slotOfEng t e).owner = some o
      ∧ t.fe.events = raised s.fe.events 3)

/-- R237, R249, R303, R306, R307, R309, R310, R313 to R317: the packets a queue decodes. -/
def Obligations.CommandPackets : Prop :=
  (∀ (q m : Nat) (p : Packet) (s : State), packetReady q 2 s = some p → onlyBits (num p.unit 1 1) 2 = true →
    allZero (p.unit.drop 3) = true → num p.unit 2 1 = m → m < 16 → moverThere s m = true → isLanding s (Src.mover m) = false →
    retakeBars s q (engMover m) = false → moverRoom s m (queueClass s q) = true → workCheck s (queueOf s q).hall = .go →
    exec (.move q) s = .next (packetDone q (p.idx + 1 + p.more.length) (radioIssued q (moverPut m (queueClass s q) (filledDesc s q p)
      (some (nextWorkId s)) (workIssue q (engMover m) none (mdLength (filledDesc s q p)) s)))))
  ∧ (∀ (q u k : Nat) (p : Packet) (d : Bytes) (s : State), packetReady q 3 s = some p → onlyBits (num p.unit 1 1) 2 = true →
    allZero (p.unit.drop 3) = true → num p.unit 2 1 = u → u < 8 → redThere s u = true → isLanding s (Src.red u) = false →
    retakeBars s q (engRed u) = false → redSlotFree s u (queueClass s q) = some k → workCheck s (queueOf s q).hall = .go →
    d = filledDesc s q p → redOk (workIssue q (engRed u) none (rdN d * fmtBytes (rdIn d) (rdCE d)) s) u d = true →
    exec (.reduce q) s = .next (packetDone q (p.idx + 1 + p.more.length) (radioIssued q (redPut u k d (some (nextWorkId s))
      (workIssue q (engRed u) none (rdN d * fmtBytes (rdIn d) (rdCE d)) s)))))
  ∧ (∀ (q e : Nat) (p : Packet) (s : State), packetReady q 1 s = some p → num p.unit 2 1 = e → e < 16 →
    onlyBits (num p.unit 1 1) 4 = true → num p.unit 3 1 = 0 → num p.unit 4 4 ≠ 0 →
    (qEngines (hallOf s (queueOf s q).hall)).testBit e = true → s.hr.slotsOut.toNat.testBit e = false → s.pins.cpEn = true →
    retakeBars s q e = false → (slotOfEng s e).owner = some q → (slotOfEng s e).lastIssued = false →
    workCheck s (queueOf s q).hall = .go →
    exec (.launch q) s = .next (packetDone q (p.idx + 1 + p.more.length) (radioIssued q
      (launchIssue q e p.unit ((num p.unit 1 1).testBit 2) (nextWorkId s) s))))
  ∧ (∀ (q : Nat) (p : Packet) (s : State), packetReady q 4 s = some p → onlyBits (num p.unit 1 1) 0xC = true → num p.unit 7 1 = 0 →
    allZero (p.unit.drop 16) = true → bits (num p.unit 1 1) 2 2 < 3 → (bits (num p.unit 1 1) 2 2 = 0 ∨ num p.unit 8 8 < 2 ^ 32) →
    num p.unit 4 3 = 0 → (num p.unit 1 1).testBit 4 = false →
    objectOk s (queueOf s q).hall (bits (num p.unit 1 1) 2 2) (num p.unit 2 2) = true →
    exec (.signal q) s = .next (packetDone q (p.idx + 1) (updQueue q (fun x => { x with signals := x.signals ++ [
      { tkind := bits (num p.unit 1 1) 2 2, obj := num p.unit 2 2, value := BitVec.ofNat 64 (num p.unit 8 8), remote := none
        after := workOf s q }] }) s)))
  ∧ (∀ (q : Nat) (g : PendSignal) (rest : List PendSignal) (s : State), (queueOf s q).signals = g :: rest → signalDue s q = true →
    g.remote = none →
    exec (.signalApply q) s = .next (if g.tkind = 0 then signalFence g.obj g.value (queueOf s q).kept
        (updQueue q (fun x => { x with kept := Status.ok }) (updQueue q (fun x => { x with signals := rest }) s))
      else signalSem g.tkind g.obj (BitVec.ofNat 32 g.value.toNat)
        (updQueue q (fun x => { x with kept := Status.ok }) (updQueue q (fun x => { x with signals := rest }) s))))
  ∧ (∀ (q f : Nat) (v : DWord) (p : Packet) (s : State), packetReady q 5 s = some p → onlyBits (num p.unit 1 1) 0xC = true →
    num p.unit 4 4 = 0 → allZero (p.unit.drop 16) = true → bits (num p.unit 1 1) 2 2 = 0 → num p.unit 2 2 = f →
    BitVec.ofNat 64 (num p.unit 8 8) = v → objectOk s (queueOf s q).hall 0 f = true →
    ((fenceOf s f).state = 2#2 ∨ reached (fenceOf s f).value v = true) →
    exec (.wait q) s = .next (packetDone q (p.idx + 1) (waitMet q (fenceOf s f).status s)))
  ∧ (∀ (q f : Nat) (v : DWord) (p : Packet) (s u : State), packetReady q 5 s = some p → onlyBits (num p.unit 1 1) 0xC = true →
    num p.unit 4 4 = 0 → allZero (p.unit.drop 16) = true → bits (num p.unit 1 1) 2 2 = 0 → num p.unit 2 2 = f →
    BitVec.ofNat 64 (num p.unit 8 8) = v → objectOk s (queueOf s q).hall 0 f = true → (fenceOf s f).state ≠ 2#2 →
    reached (fenceOf s f).value v = false →
    u = parkQueue q (.fence f v) ((updQueue q (fun x => { x with decoded := x.decoded + 1 }) (setPos q (p.idx + 1) s)).feCount 2) →
    exec (.wait q) s = .next (if (queueOf u q).active then u else saveRecord q u))
  ∧ (∀ (q i : Nat) (a : Word) (p : Packet) (s : State), packetReady q 5 s = some p → onlyBits (num p.unit 1 1) 0xC = true →
    num p.unit 4 4 = 0 → allZero (p.unit.drop 16) = true → bits (num p.unit 1 1) 2 2 = 1 → num p.unit 2 2 = i →
    num p.unit 8 8 = a.toNat → a ≠ 0 → objectOk s (queueOf s q).hall 1 i = true → (semWaiters s 1 i).isEmpty = true →
    a.toNat ≤ (semOf s 1 i).count.toNat →
    exec (.wait q) s = .next (packetDone q (p.idx + 1) (updSem 1 i (fun x => { x with count := x.count - a }) s)))
  ∧ (∀ (q : Nat) (rest : List Nat) (s : State), s.fs.walks = q :: rest →
    exec (.waitGraphWalk q) s = .next (if walkReturns s q 16384 q then ((endWait q Status.deadlock s).fsEvent 1).fsCount 4
      else { s with fs := { s.fs with walks := rest, graph := s.fs.graph ++ [q] } }))
  ∧ (∀ (q : Nat) (p : Packet) (s u : State), packetReady q 6 s = some p → onlyBits (num p.unit 1 1) 0xC = true →
    2 ≤ num p.unit 2 1 → num p.unit 2 1 ≤ 5 → onlyBits (num p.unit 3 1) 0xF = true → num p.unit 4 4 = 0 → num p.unit 8 8 % 8 = 0 →
    (num p.unit 1 1).testBit 2 = true → (num p.unit 2 1 = 5 ∨ num p.unit 24 8 = 0) → (num p.unit 3 1).testBit 3 = false →
    u = updQueue q (fun x => { x with atomicAt := none }) (updQueue q (fun x => { x with atomicAt := some p.idx }) s) →
    exec (.atomic q) s = .next (settled (atomicIssue q p.unit p u)))
  ∧ (∀ (q d : Nat) (imm : DWord) (p : Packet) (s : State), packetReady q 11 s = some p → num p.unit 1 1 = 0 → num p.unit 2 1 = d → d < 8 →
    num p.unit 3 1 = 0 → num p.unit 4 1 < 8 → num p.unit 5 1 = 0 → allZero (p.unit.drop 16) = true →
    imm = BitVec.ofNat 64 (num p.unit 8 8) →
    exec (.setReg q) s = .next (packetDone q (p.idx + 1) (setGreg q d imm s)))
  ∧ (∀ (q d : Nat) (imm : DWord) (p : Packet) (s : State), packetReady q 11 s = some p → num p.unit 1 1 = 0 → num p.unit 2 1 = d → d < 8 →
    num p.unit 3 1 = 1 → num p.unit 4 1 < 8 → num p.unit 5 1 = 0 → allZero (p.unit.drop 16) = true →
    imm = BitVec.ofNat 64 (num p.unit 8 8) → regPending s q d = false →
    exec (.setReg q) s = .next (packetDone q (p.idx + 1) (setGreg q d (greg s q d + imm) s)))
  ∧ (∀ (q : Nat) (p : Packet) (s : State), packetReady q 12 s = some p → num p.unit 1 1 = 0 → num p.unit 2 2 = 0 → num p.unit 7 1 = 0 →
    allZero (p.unit.drop 10) = true →
    exec (.mark q) s = .next (packetDone q (p.idx + 1) (rushes Src.fe Ev.mark (queueOf s q).hall (num p.unit 4 3) (num p.unit 8 2) q
      (updQueue q (fun x => { x with scene := BitVec.ofNat 24 (num p.unit 4 3), shot := BitVec.ofNat 16 (num p.unit 8 2) }) s))))
  ∧ (∀ (q body n : Nat) (l : LoopRec) (p : Packet) (s : State), packetReady q 8 s = some p →
    l = LoopRec.mk (p.idx + 1) (p.idx + 1 + body) n ((queueOf s q).bufs.length - 1) → num p.unit 1 1 = 0 → num p.unit 2 1 < 8 →
    num p.unit 3 1 = 0 → num p.unit 4 4 = n → num p.unit 8 2 = body → allZero (p.unit.drop 10) = true → 1 ≤ body →
    openLoops s q = [] → p.idx + 1 + body ≤ p.units → (queueOf s q).loops.length < 4 →
    exec (.loop q) s = .next (if n = 0 then packetDone q (p.idx + 1 + body) s
      else packetDone q (p.idx + 1) (updQueue q (fun x => { x with loops := l :: x.loops }) s)))
  ∧ (∀ (q addr : Nat) (p : Packet) (s : State), packetReady q 9 s = some p → num p.unit 1 1 = 0 → allZero (sub p.unit 2 6) = true →
    allZero (p.unit.drop 24) = true → num p.unit 8 8 = addr → addr % 64 = 0 → (queueOf s q).bufs.length < 3 →
    exec (.call q) s = .next (fetchAsk q (.header (BitVec.ofNat 64 addr) (some (BitVec.ofNat 64 (num p.unit 16 8)))) addr
      (64 + chunkBytes (isSealed (hallOf s (queueOf s q).hall)) 16)
      ((updQueue q (fun x => { x with decoded := x.decoded + 1 }) (setPos q (p.idx + 1) s)).feCount 2)))
  ∧ (∀ (q : Nat) (p : Packet) (s : State), packetReady q 10 s = some p → num p.unit 1 1 = 0 → allZero (p.unit.drop 2) = true →
    exec (.ret q) s = .next (packetDone q p.units (updQueue q (fun x => { x with
      loops := x.loops.filter fun l => decide (l.depth < (queueOf s q).bufs.length - 1) }) s)))
  ∧ (∀ (q a b target : Nat) (p : Packet) (s : State), packetReady q 7 s = some p → num p.unit 1 1 = 8 → num p.unit 2 1 < 8 →
    num p.unit 3 1 = a → a < 8 → num p.unit 6 1 = b → b < 8 → num p.unit 7 1 = 0 → allZero (p.unit.drop 18) = true →
    num p.unit 16 2 = target → p.idx < target → target ≤ p.units → openLoops s q = [] → regPending s q a = false →
    regPending s q b = false →
    exec (.condJump q) s = .next (packetDone q (if condHolds (num p.unit 2 1) (greg s q a) (greg s q b) then target else p.idx + 1) s))
  ∧ (∀ (q : Nat) (p : Packet) (s : State),
    (packetReady q 7 s = some p → num p.unit 7 1 ≠ 0 → exec (.condJump q) s = .next (queueStop q Status.permission p.idx s))
    ∧ (packetReady q 11 s = some p → num p.unit 1 1 ≠ 0 → exec (.setReg q) s = .next (queueStop q Status.permission p.idx s))
    ∧ (packetReady q 12 s = some p → num p.unit 1 1 ≠ 0 → exec (.mark q) s = .next (queueStop q Status.permission p.idx s))
    ∧ (packetReady q 5 s = some p → num p.unit 4 4 ≠ 0 → exec (.wait q) s = .next (queueStop q Status.permission p.idx s))
    ∧ (packetReady q 10 s = some p → num p.unit 1 1 ≠ 0 → exec (.ret q) s = .next (queueStop q Status.permission p.idx s)))

/-- R138, R321, R322, R325, R327, R329, R330, R331, R332, R333, R336: the fence and semaphore rows. -/
def Obligations.FenceAndSemaphoreCommands : Prop :=
  (∀ (a : Act) (arg : Bytes) (f : Nat) (s : State), hallRole s a (num (fit arg 16) 0 2) = true → arg.length ≤ 16 →
    fenceCreateOk (fit arg 16) s = true → freeFence s = some f →
    exec (.fenceCreate a arg) s = .next (actDone a.sess 0x503001 Status.ok (natLe f 4) false
      { s with fs := { s.fs with fences := s.fs.fences.set f (fenceMade (fit arg 16)) } }))
  ∧ (∀ (f : Nat) (s : State), fenceCreateOk (fsArg s.fs) s = true → freeFence s = some f →
    ∃ t, exec .fsFenceCreate s = .next t ∧ t.fs.result = Status.ok ∧ t.fs.created = BitVec.ofNat 16 f
      ∧ t.fs.fences = s.fs.fences.set f (fenceMade (fsArg s.fs)))
  ∧ (∀ (a : Act) (arg : Bytes) (s : State), hallRole s a (num arg 0 2) = true → padZero arg 4 16 = true →
    fenceClearOk (num arg 0 2) (num arg 2 2) s = true → fenceHeld s (num arg 2 2) = false →
    exec (.fenceDestroy a arg) s = .next (actDone a.sess 0x503002 Status.ok [] false
      { s with fs := { s.fs with fences := s.fs.fences.set (num arg 2 2) default } }))
  ∧ (∀ (a : Act) (arg : Bytes) (s : State), hallRole s a (num arg 0 2) = true → padZero arg 4 16 = true →
    fenceClearOk (num arg 0 2) (num arg 2 2) s = true → fenceHeld s (num arg 2 2) = true →
    exec (.fenceDestroy a arg) s = .next (actDone a.sess 0x503002 Status.retryLater [] false s))
  ∧ (∀ s : State, s.fs.kind = 0 → fenceClearOk (fenceOf s s.fs.obj.toNat).hall s.fs.obj.toNat s = true →
    fenceHeld s s.fs.obj.toNat = false →
    ∃ t, exec .fsFenceDestroy s = .next t ∧ t.fs.result = Status.ok ∧ t.fs.fences = s.fs.fences.set s.fs.obj.toNat default)
  ∧ (∀ (a : Act) (arg : Bytes) (s : State), hallRole s a (num arg 0 2) = true → padZero arg 4 16 = true →
    fenceClearOk (num arg 0 2) (num arg 2 2) s = true →
    exec (.fenceClear a arg) s = .next (actDone a.sess 0x503003 Status.ok [] false (updFence (num arg 2 2)
      (fun o => { o with state := 1#2, status := Status.ok, backward := false }) s)))
  ∧ (∀ s : State, s.fs.kind = 0 → fenceClearOk (fenceOf s s.fs.obj.toNat).hall s.fs.obj.toNat s = true →
    ∃ t, exec .fsFenceClear s = .next t ∧ t.fs.result = Status.ok ∧ t.fs.fences = s.fs.fences.mod s.fs.obj.toNat
      (fun o => { o with state := 1#2, status := Status.ok, backward := false }))
  ∧ (∀ (a : Act) (arg : Bytes) (i : Nat) (s : State), hallRole s a (num arg 0 2) = true → padZero arg 8 16 = true → num arg 3 1 = 0 →
    semAllocOk (num arg 0 2) (num arg 2 1) s = true → semFreeIndex (num arg 2 1) s = some i →
    exec (.semAlloc a arg) s = .next (actDone a.sess 0x503004 Status.ok (natLe i 4) false
      (updSem (num arg 2 1) i (fun _ => Sem.mk true (num arg 0 2) (BitVec.ofNat 32 (num arg 4 4))) s)))
  ∧ (∀ (b : Bytes) (i : Nat) (s : State), b = fsArg s.fs → padZero b 8 16 = true → num b 3 1 = 0 → num b 2 1 = 1 →
    semAllocOk (num b 0 2) 1 s = true → semFreeIndex 1 s = some i →
    ∃ t, exec .fsSemAlloc s = .next t ∧ t.fs.result = Status.ok ∧ t.fs.created = BitVec.ofNat 16 i
      ∧ t.fs.locals = s.fs.locals.set i (Sem.mk true (num b 0 2) (BitVec.ofNat 32 (num b 4 4))))
  ∧ (∀ (a : Act) (arg : Bytes) (s : State), hallRole s a (num arg 0 2) = true → padZero arg 6 16 = true → num arg 3 1 = 0 →
    semFreeOk (num arg 0 2) (num arg 2 1) (num arg 4 2) s = true →
    exec (.semFree a arg) s = .next (actDone a.sess 0x503005 Status.ok [] false (updSem (num arg 2 1) (num arg 4 2) (fun _ => default) s)))
  ∧ (∀ s : State, s.fs.kind = 1 → semFreeOk (semOf s 1 s.fs.obj.toNat).hall 1 s.fs.obj.toNat s = true →
    ∃ t, exec .fsSemFree s = .next t ∧ t.fs.result = Status.ok ∧ t.fs.locals = s.fs.locals.set s.fs.obj.toNat default)
  ∧ (∀ (obj : BitVec 16) (s : State),
    ∃ t, exec (.fsQuery 0 obj) s = .next t ∧ t.fs.result = Status.ok ∧ t.fs.qvalue = (fenceOf s obj.toNat).value
      ∧ t.fs.qinfo = BitVec.ofNat 32 (fenceInfo (fenceOf s obj.toNat)) ∧ t.fs.fences = s.fs.fences)
  ∧ (∀ (obj : BitVec 16) (s : State),
    ∃ t, exec (.fsQuery 1 obj) s = .next t ∧ t.fs.result = Status.ok ∧ t.fs.locals = s.fs.locals
      ∧ t.fs.qvalue = ((semOf s 1 obj.toNat).count).setWidth 64)
  ∧ (∀ (obj : BitVec 16) (s : State), ∃ t, exec (.fsQuery 3 obj) s = .next t ∧ t.fs.result = Status.permission)
  ∧ (∀ (obj : BitVec 16) (st : Status) (s u : State), st = BitVec.ofNat 16 (s.fs.args.get 0).toNat → st ≠ Status.ok →
    st ≠ Status.deferred → (fenceOf s obj.toNat).state ≠ 0#2 → u = { s with fs := { s.fs with kind := 0, obj := obj } } →
    ∃ t, exec (.fsFault 0 obj) s = .next t ∧ t.fs.result = Status.ok ∧ t.fs.fences = (faultFence obj.toNat st u).fs.fences)
  ∧ (∀ (hall vector : Nat) (s : State), s.itu.halls.wf = true → (hallOf s hall).msixPending.toNat.testBit vector = true → vector < 8 →
    (msixWord (hallOf s hall) (4 * vector + 3)).toNat.testBit 0 = false → s.pins.hpEn = true → s.fcu.safe = false →
    s.hr.landing.contains Src.hostPipes = false → boundStream s hall = none →
    ∃ t, exec (.msixMessage hall vector) s = .next t ∧ t.out = .msix (hall + 1) vector :: s.out
      ∧ t.itu.halls = (updHall hall (fun h => { h with msixPending := h.msixPending &&& ~~~(BitVec.ofNat 8 (2 ^ vector)) }) s).itu.halls)
  ∧ (∀ (hall vector i ks : Nat) (s : State), s.itu.halls.wf = true → (hallOf s hall).msixPending.toNat.testBit vector = true → vector < 8 →
    (msixWord (hallOf s hall) (4 * vector + 3)).toNat.testBit 0 = false → s.pins.hpEn = true → s.fcu.safe = false →
    s.hr.landing.contains Src.hostPipes = false → boundStream s hall = some i →
    ideTxSet s i idePosted = some ks →
    ∃ t x, exec (.msixMessage hall vector) s = .next t ∧ t.out = .ideTail i idePosted ks x :: .msix (hall + 1) vector :: s.out
      ∧ t.itu.halls = (updHall hall (fun h => { h with msixPending := h.msixPending &&& ~~~(BitVec.ofNat 8 (2 ^ vector)) }) s).itu.halls)

/-- R339 to R347, R352, R353, R354: the hall and mapping commands, as actions and as ITU_CMD operations. -/
def Obligations.HallAndMappingCommands : Prop :=
  (∀ (a : Act) (arg : Bytes) (s : State), mayAct s [.operator] a = true → arg.length = 128 → createBad (fit arg 128) s = false →
    reservationFits s (sub (fit arg 128) 64 64) = true →
    exec (.hallCreate a arg) s = .next (hallDone (num (fit arg 128) 0 2) [(a.sess, 0x501001)] Status.ok
      (natLe (put 16 (newHall (fit arg 128) s).hgen.toNat + num (fit arg 128) 0 2) 4)
      (recountConsent (hallKeys (num (fit arg 128) 0 2)
        (hallChange (num (fit arg 128) 0 2) (fun _ => newHall (fit arg 128) s) s)))))
  ∧ (∀ (b : Bytes) (s u : State), s.itu.go = false → u = ituTaken 1 s.itu.hall.toNat s → b = ituArg s.itu → createBad b u = false →
    reservationFits u (sub b 64 64) = true →
    exec .ituHallCreate s = .next (hallDone (num b 0 2) [(keeperSess, 1)] Status.ok
      (natLe (put 16 (newHall b u).hgen.toNat + num b 0 2) 4)
      (recountConsent (hallKeys (num b 0 2) (hallChange (num b 0 2) (fun _ => newHall b u) u)))))
  ∧ (∀ (a : Act) (arg : Bytes) (s : State), mayAct s [.operator] a = true → arg.length = 128 → a.sess ≠ keeperSess →
    createBad (fit arg 128) s = false → reservationFits s (sub (fit arg 128) 64 64) = false →
    exec (.hallCreate a arg) s = .next (actDone a.sess 0x501001 Status.refusedCapacity [] false s))
  ∧ (∀ (a : Act) (arg : Bytes) (s : State), mayAct s [.operator, .domainManager] a = true → padZero arg 2 2 = true →
    num arg 0 2 < s.conf.halls → (hallOf s (num arg 0 2)).state = .live → a.sess ≠ keeperSess →
    exec (.hallDestroy a arg) s = .next (settled ([], hallWaits (num arg 0 2) (a.sess, 0x501002)
      (tdiTeardown (num arg 0 2) (retireBegin (num arg 0 2) .destroy s)))))
  ∧ (∀ (a : Act) (arg : Bytes) (s : State), mayAct s [.operator, .domainManager] a = true → padZero arg 2 2 = true →
    num arg 0 2 < s.conf.halls → (hallOf s (num arg 0 2)).state = .free → a.sess ≠ keeperSess →
    exec (.hallDestroy a arg) s = .next (settled ([], actDone a.sess 0x501002 Status.hallGone [] false s)))
  ∧ (∀ (s u : State), s.itu.go = false → u = ituTaken 2 s.itu.hall.toNat s → num (ituArg s.itu) 0 2 < s.conf.halls →
    (hallOf s (num (ituArg s.itu) 0 2)).state = .live →
    exec .ituHallDestroy s = .next (settled ([], ituFinish 2 Status.notReady
      (tdiTeardown (num (ituArg s.itu) 0 2) (retireBegin (num (ituArg s.itu) 0 2) .destroy u)))))
  ∧ (∀ (hall : Nat) (a : List Ans) (s u v : State), retireWaits s hall = true → hallQueues s hall = [] →
    combDirty s (some hall) = [] → undrained s hall = false → hallLines s hall = false → (hallOf s hall).retireBy = .destroy →
    freeStreams hall s = (a, u) → v = updHall hall (fun h => { h with hallKey := 0#32 })
      (retireMatchOp 15 hall (hallOf s hall).hgen.toNat
        (hallChange hall (fun h => { h with drained := true, hgen := (hallOf s hall).hgen + 1 }) u)) →
    exec (.retireDrainDone hall) s = .next (settled (a, retireStep7 hall (freeRegions hall
      (serviceSend none (retireMessage hall (hallOf s hall).hgen.toNat v) v)))))
  ∧ (∀ (a : Act) (arg : Bytes) (s : State), mayAct s [.operator] a = true → padZero arg 12 12 = true → num arg 2 2 = 0 →
    (grantOk (fit arg 12) s = true → exec (.hallGrant a arg) s = .next (actDone a.sess 0x501003 Status.ok [] false
      (setRun (num (fit arg 12) 4 4) (num (fit arg 12) 8 4) { state := 2, hall := num (fit arg 12) 0 2 } s)))
    ∧ (ungrantOk (fit arg 12) s = true → exec (.hallUngrant a arg) s = .next (actDone a.sess 0x501004 Status.ok [] false
      (setRun (num (fit arg 12) 4 4) (num (fit arg 12) 8 4) default s))))
  ∧ (∀ (b : Bytes) (s u v : State), s.itu.go = false → b = ituArg s.itu → u = ituTaken 3 s.itu.hall.toNat s →
    v = ituTaken 4 s.itu.hall.toNat s →
    (grantOk b u = true → exec .ituGrant s
      = .next (ituFinish 3 Status.ok (setRun (num b 4 4) (num b 8 4) { state := 2, hall := num b 0 2 } u)))
    ∧ (ungrantOk b v = true → exec .ituUngrant s = .next (ituFinish 4 Status.ok (setRun (num b 4 4) (num b 8 4) default v))))
  ∧ (∀ (a : Act) (arg : Bytes) (s : State), hallRole s a (num arg 0 2) = true → padZero arg 32 32 = true → num arg 2 2 = 0 →
    mapOk (fit arg 32) s = true →
    exec (.map a arg) s = .next (if mapRoom (fit arg 32) s
      then hallDone (num arg 0 2) [(a.sess, 0x504001)] Status.ok [] (mapped (fit arg 32) s)
      else actDone a.sess 0x504001 Status.refusedCapacity [] false (s.ituEvent 0)))
  ∧ (∀ (b : Bytes) (s u : State), s.itu.go = false → b = (ituArg s.itu).take 32 → u = ituTaken 5 s.itu.hall.toNat s →
    mapOk b u = true → mapRoom b u = true →
    exec .ituMap s = .next (hallDone (num (ituArg s.itu) 0 2) [(keeperSess, 5)] Status.ok [] (mapped b u)))
  ∧ (∀ (a : Act) (arg b : Bytes) (s u : State), b = fit arg 32 →
    unmapOp b (hallRole s a (num arg 0 2) && padZero arg 32 32) (a.sess, 0x504002) s = (Status.ok, u) → a.sess ≠ keeperSess →
    (hallOf u (num b 0 2)).state = .live →
    ∃ r, exec (.unmap a arg) s = .next u ∧ u.itu.unmaps = s.itu.unmaps ++ [r] ∧ r.hall = num b 0 2 ∧ r.serial = s.itu.nextUnmap
      ∧ r.leaves = (runKeys (num b 8 8) (num b 4 4) (num b 16 1)).map (fun k => (hallOf s (num b 0 2)).leaves.get k)
      ∧ (hallOf u (num b 0 2)).leaves
        = forAll (runKeys (num b 8 8) (num b 4 4) (num b 16 1)) (fun k t => Tab.set t k default) (hallOf s (num b 0 2)).leaves)
  ∧ (∀ (s u v : State), s.itu.go = false → u = ituTaken 6 s.itu.hall.toNat s →
    unmapOp ((ituArg s.itu).take 32) true (keeperSess, 6) u = (Status.ok, v) →
    exec .ituUnmap s = .next v ∧ v.itu.go = true ∧ v.itu.op = 6 ∧ v.itu.nextUnmap = s.itu.nextUnmap + 1)
  ∧ (∀ (serial : Nat) (r : Unmap) (s : State), s.itu.unmaps.find? (·.serial == serial) = some r → unmapSettled s r = true →
    r.fence = none →
    exec (.unmapComplete serial) s = .next (retireStep7 r.hall (hallAnswer r.answer Status.ok []
      ((s.updItu fun t => { t with unmaps := t.unmaps.filter (·.serial != serial) }).ituCount 5))))
  ∧ (∀ (serial f : Nat) (v : DWord) (r : Unmap) (s : State), s.itu.unmaps.find? (·.serial == serial) = some r → unmapSettled s r = true →
    r.fence = some (f, v) →
    exec (.unmapComplete serial) s = .next (retireStep7 r.hall (hallAnswer r.answer Status.ok []
      (signalFence f v Status.ok ((s.updItu fun t => { t with unmaps := t.unmaps.filter (·.serial != serial) }).ituCount 5)))))
  ∧ (∀ (hall : BitVec 12) (s u : State), s.itu.go = false → u = ituTaken 12 hall.toNat s → (hallOf s hall.toNat).state = .scrubbing →
    endsFree (hallOf s hall.toNat) = false →
    exec (.scrubDone hall) s = .next (hallDone hall.toNat [(keeperSess, 12)] Status.ok [] (hallKeys hall.toNat
      (hallChange hall.toNat (fun h => { h with state := .live, retireBy := .none, drained := false, scrub := [], lockBusy := false,
                                                stream := none })
        (u.updItu fun t => { t with counters := t.counters.bump 6 (hallOf s hall.toNat).scrub.length })))))
  ∧ (∀ (hall : BitVec 12) (s : State), s.itu.go = false → (hallOf s hall.toNat).state ≠ .scrubbing →
    exec (.scrubDone hall) s = .next (ituFinish 12 Status.permission (ituTaken 12 hall.toNat s)))
  ∧ (∀ (first count : Nat) (s u : State), s.itu.go = false → u = ituTaken 14 s.itu.hall.toNat s → first = (s.itu.args.get 0).toNat →
    count = (s.itu.args.get 1).toNat → rangeOk u first count = true →
    granulesAll first count (fun g => granuleState u g == 0 && !granuleKept u g) = true →
    exec .ituClean s = .next (ituFinish 14 Status.ok ((setRun first count { state := 1, hall := 0 } u).updItu fun t =>
      { t with counters := t.counters.bump 6 count })))
  ∧ (∀ (hall : BitVec 12) (s : State), s.itu.go = false →
    ∃ t, exec (.ituQuery hall) s = .next t ∧ t.itu.result = Status.ok ∧ t.itu.qinfo = BitVec.ofNat 32 (ituInfo s hall.toNat)
      ∧ t.itu.halls = s.itu.halls ∧ t.itu.granules = s.itu.granules)

/-- R47, R348, R349, R350, R355 to R358, R361, R363 to R365: the migration commands, the query, the walks and the refill. -/
def Obligations.MigrationAndTranslation : Prop :=
  (∀ (a : Act) (arg : Bytes) (h : Nat) (s : State), dmOnly a arg 2 s = true → num arg 0 2 = h → h < 4096 →
    (hallOf s h).state = .live →
    exec (.hallFreeze a arg) s
      = .next (settled (flushHall h (hallWaits h (a.sess, 0x505001) (updHall h (fun x => { x with freezing := true }) s)))))
  ∧ (∀ (h : Nat) (s : State), s.itu.go = false → num (ituArg s.itu) 0 2 = h → h < 4096 → (hallOf s h).state = .live →
    exec .ituFreeze s = .next (settled (flushHall h (hallWaits h (keeperSess, 7)
      (updHall h (fun x => { x with freezing := true }) (ituTaken 7 s.itu.hall.toNat s))))))
  ∧ (∀ (a : Act) (arg : Bytes) (h : Nat) (s : State), dmOnly a arg 2 s = true → num arg 0 2 = h → (hallOf s h).state ≠ .live →
    a.sess ≠ keeperSess →
    exec (.hallFreeze a arg) s = .next (settled ([], actDone a.sess 0x505001 Status.permission [] false s)))
  ∧ (∀ (h : Nat) (s : State), (hallOf s h).freezing = true → freezeReady s h = true →
    exec (.hallFreezeComplete h) s
      = .next (hallEnds h Status.ok (hallChange h (fun x => { x with state := .frozen, freezing := false }) s)))
  ∧ (∀ (h : Nat) (s : State), ((hallOf s h).freezing = false ∨ freezeReady s h = false) → exec (.hallFreezeComplete h) s = .next s)
  ∧ (∀ (a : Act) (arg : Bytes) (pages : List Bytes) (key : BitVec 256) (s : State), saveOk (fit arg 16) s = true →
    dmOnly a arg 16 s = true →
    migrationKey s (num (fit arg 16) 0 2) s.dom.member.toNat (num (fit arg 16) 2 2) (num (fit arg 16) 4 4) = some key →
    ∃ u n, exec (.hallSave a arg pages) s = .next (hallDone (num (fit arg 16) 0 2) [(a.sess, 0x505002)] Status.ok (natLe n 8)
      (hallChange (num (fit arg 16) 0 2) (fun h => { h with state := .moved }) u))
      ∧ n = 64 + 528 * ((imageBody s (num (fit arg 16) 0 2) pages).length / 512) ∧ u.dom = s.dom ∧ u.fs = s.fs ∧ u.fe = s.fe)
  ∧ (∀ (pages : List Bytes) (b : Bytes) (key : BitVec 256) (s u : State), s.itu.go = false → b = ituArg s.itu →
    u = ituTaken 8 s.itu.hall.toNat s → saveOk b u = true →
    migrationKey u (num b 0 2) u.dom.member.toNat (num b 2 2) (num b 4 4) = some key →
    ∃ v n, exec (.ituSave pages) s = .next (hallDone (num b 0 2) [(keeperSess, 8)] Status.ok (natLe n 8)
      (hallChange (num b 0 2) (fun h => { h with state := .moved }) v)) ∧ v.fs = s.fs ∧ v.fe = s.fe)
  ∧ (∀ (a : Act) (arg image body : Bytes) (h : Nat) (key : BitVec 256) (l : List (Nat × Bytes)) (placed : List (Nat × BitVec 128))
    (s : State), dmOnly a arg 16 s = true → allZero (sub arg 2 6) = true → num arg 0 2 = h → h < 4096 →
    restoreParts h image s key body l placed →
    ∃ u, exec (.hallRestore a arg image) s = .next (hallDone h [(a.sess, 0x505003)] Status.ok []
      (hallChange h (fun x => { x with state := .live, restored := BitVec.ofNat 32 (num image 20 4) }) u)))
  ∧ (∀ (image body : Bytes) (h : Nat) (key : BitVec 256) (l : List (Nat × Bytes)) (placed : List (Nat × BitVec 128)) (s u : State),
    s.itu.go = false → num (ituArg s.itu) 0 2 = h → h < 4096 → u = ituTaken 9 s.itu.hall.toNat s →
    restoreParts h image u key body l placed →
    ∃ v, exec (.ituRestore image) s = .next (hallDone h [(keeperSess, 9)] Status.ok []
      (hallChange h (fun x => { x with state := .live, restored := BitVec.ofNat 32 (num image 20 4) }) v)))
  ∧ (∀ (a : Act) (arg : Bytes) (h : Nat) (s : State), dmOnly a arg 2 s = true → num arg 0 2 = h → h < 4096 →
    (hallOf s h).state = .frozen → s.pwr.shut.running = false →
    exec (.hallThaw a arg) s = .next (hallDone h [(a.sess, 0x505004)] Status.ok []
      (hallKeys h (hallChange h (fun x => { x with state := .live }) s))))
  ∧ (∀ (h : Nat) (s : State), s.itu.go = false → num (ituArg s.itu) 0 2 = h → h < 4096 → (hallOf s h).state = .frozen →
    s.pwr.shut.running = false →
    exec .ituThaw s = .next (hallDone h [(keeperSess, 10)] Status.ok []
      (hallKeys h (hallChange h (fun x => { x with state := .live }) (ituTaken 10 s.itu.hall.toNat s)))))
  ∧ (∀ (a : Act) (arg : Bytes) (h : Nat) (s : State), dmOnly a arg 2 s = true → num arg 0 2 = h → h < 4096 →
    (hallOf s h).state = .moved → (hallOf s h).retireBy ≠ .migrate → a.sess ≠ keeperSess →
    exec (.migrateDone a arg) s = .next (hallWaits h (a.sess, 0x505005) (retireBegin h .migrate s)))
  ∧ (∀ (h : Nat) (s : State), s.itu.go = false → num (ituArg s.itu) 0 2 = h → h < 4096 → (hallOf s h).state = .moved →
    (hallOf s h).retireBy ≠ .migrate →
    exec .ituMigrateDone s = .next (ituFinish 11 Status.notReady (retireBegin h .migrate (ituTaken 11 s.itu.hall.toNat s))))
  ∧ (∀ (a : Act) (arg : Bytes) (s : State), mayAct s [.operator, .domainManager, .tenant] a = true → arg.length = 2 →
    num arg 0 2 < s.conf.halls → mayName s a (num arg 0 2) = true →
    exec (.hallQuery a arg) s = .next (actDone a.sess 0x500001 Status.ok
      (natLe (ituInfo s (num arg 0 2)) 4 ++ natLe (hstatWord s (num arg 0 2)) 4) false s))
  ∧ (∀ (r : ItuReq) (e : TlbEntry) (s u : State), s.fcu.armed = false → u = ituCorrected r.hall r.va.toNat s →
    genOk u r.hall r.hgen.toNat = true → r.va.toNat < 2 ^ 48 → tlbHit u r.hall r.hgen.toNat r.va.toNat = some e →
    exec (.translationLookup r) s = .next (ituAnswer r (transOf u r.hall r.hgen.toNat r.va.toNat (needOf r)) (u.ituCount 0)))
  ∧ (∀ (r : ItuReq) (w : Nat) (s u : State), s.fcu.armed = false → u = ituCorrected r.hall r.va.toNat s →
    genOk u r.hall r.hgen.toNat = true → r.va.toNat < 2 ^ 48 → tlbHit u r.hall r.hgen.toNat r.va.toNat = none → freeWalk u = some w →
    walkAbsent u r.hall r.va.toNat 3 = false →
    ∃ t, exec (.translationLookup r) s = .next t ∧ t.itu.walks = u.itu.walks.set w { live := true, req := r, level := 3 }
      ∧ t.itu.tlb = u.itu.tlb ∧ t.out = u.out)
  ∧ (∀ (r : ItuReq) (w : Nat) (s u : State), s.fcu.armed = false → u = ituCorrected r.hall r.va.toNat s →
    genOk u r.hall r.hgen.toNat = true → r.va.toNat < 2 ^ 48 → tlbHit u r.hall r.hgen.toNat r.va.toNat = none → freeWalk u = some w →
    walkAbsent u r.hall r.va.toNat 3 = true →
    exec (.translationLookup r) s = .next (ituAnswer r (.fail Status.translationFault) (u.ituCount 1)))
  ∧ (∀ (walk : Nat) (err : BitVec 2) (l : BitVec 128) (base : Nat) (s u : State), (s.itu.walks.get walk).live = true → s.fcu.armed = false →
    err = 0 → u = s.ituCount 2 → genOk u (s.itu.walks.get walk).req.hall (s.itu.walks.get walk).req.hgen.toNat = true →
    leafFor (hallOf u (s.itu.walks.get walk).req.hall) (s.itu.walks.get walk).req.va.toNat = some (l, base) →
    leafSize l < (s.itu.walks.get walk).level →
    walkAbsent u (s.itu.walks.get walk).req.hall (s.itu.walks.get walk).req.va.toNat ((s.itu.walks.get walk).level - 1) = false →
    ∃ t, exec (.walkReadResponse walk err) s = .next t
      ∧ t.itu.walks = s.itu.walks.set walk { s.itu.walks.get walk with level := (s.itu.walks.get walk).level - 1 } ∧ t.out = s.out)
  ∧ (∀ (walk : Nat) (err : BitVec 2) (s : State), (s.itu.walks.get walk).live = false →
    exec (.walkReadResponse walk err) s = .next s)
  ∧ (∀ (h : Nat) (x : Hall) (s : State), s.stopped = false → usedHalls s = [(h, x)] → qClass x < 2 →
    exec .bucketRefill s = .next (updHall h (fun y => { y with
      linkBucket := refilled y.linkBucket (qLinkRate y) (qBurst y)
      lineBucket := refilled y.lineBucket (qLineRate y) (qBurst y)
      hostBucket := refilled y.hostBucket (qHostRate y) (qBurst y) }) s))
  ∧ (∀ s : State, s.stopped = true → exec .bucketRefill s = .next s)

/-- R397 to R404, R408, R418, R419: the fault control unit's rows and the hang window. -/
def Obligations.FaultControlCommands : Prop :=
  (∀ (src : Nat) (d : BitVec 16) (s : State), s.stopped = false → s.fcu.fifo.get src = [] →
    exec (.faultMessageAccept src d) s = .next (settled ([], s)))
  ∧ (∀ (src : Nat) (d : BitVec 16) (s : State), s.stopped = true → exec (.faultMessageAccept src d) s = .next (settled ([], s)))
  ∧ (∀ (src : Nat) (d : BitVec 16) (r : FRec) (rest : List FRec) (s u : State), s.stopped = false → s.fcu.armed = false → src ≠ Src.fcu →
    s.fcu.fifo.get src = r :: rest → s.fcu.expect.get src = r.seq →
    u = { s with fcu := { s.fcu with fifo := s.fcu.fifo.set src rest, expect := s.fcu.expect.set src (r.seq + 1) } } →
    exec (.faultMessageAccept src d) s = .next (settled (acceptRecord src r d.toNat u)))
  ∧ (∀ (src : Nat) (d : BitVec 16) (r : FRec) (rest : List FRec) (x : LogRec) (s u : State), s.stopped = false → s.fcu.armed = false →
    src ≠ Src.fcu → s.fcu.fifo.get src = r :: rest → s.fcu.expect.get src = r.seq → r.cls < s.fcu.irqClass.toNat → r.cls < 3 →
    policySafe s r.kind r.cls = false → (s.fcu.logHead - s.fcu.logTail).toNat < 1024 →
    u = { s with fcu := { s.fcu with fifo := s.fcu.fifo.set src rest, expect := s.fcu.expect.set src (r.seq + 1) } } →
    x = LogRec.mk (faultMessage src r d.toNat) r.detail (BitVec.ofNat 64 (s.now - d.toNat)) →
    exec (.faultMessageAccept src d) s = .next (settled ([], (({ u with fcu := { u.fcu with
      log := s.fcu.log.set (s.fcu.logHead.toNat % 1024) x, logHead := s.fcu.logHead + 1 } }).fcuCount r.cls).fcuEvent r.cls)))
  ∧ (∀ s : State, s.fcu.safe = true → s.fcu.autoT3 = true → s.fcu.safeAt + s.fcu.hold.toNat * usT ≤ s.now →
    exec .autoT3Request s = .next (settled (t3Order noWaiter s)))
  ∧ (∀ s : State, (s.fcu.safe = false ∨ s.fcu.autoT3 = false ∨ s.now < s.fcu.safeAt + s.fcu.hold.toNat * usT) →
    exec .autoT3Request s = .next (settled ([], s)))
  ∧ (∀ (src : BitVec 12) (kind : Byte) (s : State), injRefused src.toNat kind.toNat s = false → firesAtOnce kind.toNat = false →
    ∃ t, exec (.fcuInjArm src kind) s = .next t ∧ t.fcu.armed = true ∧ t.fcu.injKind = kind ∧ t.fcu.injSource = src
      ∧ t.fcu.fifo = s.fcu.fifo ∧ t.fcu.log = s.fcu.log)
  ∧ (∀ (src : BitVec 12) (kind : Byte) (s : State), injRefused src.toNat kind.toNat s = true →
    exec (.fcuInjArm src kind) s = .next (s.fcuCount 6))
  ∧ (∀ (a : Act) (arg : Bytes) (s : State), mayAct s [.factory, .operator] a = true → arg.length = 3 → num arg 0 2 < 4096 →
    exec (.faultInject a arg) s = .next (actDone a.sess 0x602001
      (if injRefused (num arg 0 2) (num arg 2 1) s then Status.permission else Status.ok) [] false (injArm (num arg 0 2) (num arg 2 1) s)))
  ∧ (∀ (a : Act) (arg : Bytes) (s : State), mayAct s [.factory, .operator] a = false →
    exec (.faultInject a arg) s = .next (actDone a.sess 0x602001 Status.permission [] false s))
  ∧ (∀ (s : State), (s.stopped = true ∨ 2 ≤ s.pins.pstate.toNat) → exec .hangWindowBoundary s = .next (settled ([], s)))
  ∧ (∀ s : State, s.stopped = false → s.pins.pstate.toNat < 2 → (s.hr.watch.filter fun e => e.2.retake) = [] →
    ∃ u, exec .hangWindowBoundary s = .next (settled ([], setPreempt (retakesStart (suspects u) 0 [] u)))
      ∧ u.hr.watch = forAll ((forAll (watchKeys s) boundaryOf s).hr.watch.map (·.1)) (fun k t => t.mod k fun w => { w with moved := false })
        (forAll (watchKeys s) boundaryOf s).hr.watch)

/-- R421 to R424, R426 to R431, R436: the staged resets. -/
def Obligations.ResetCommands : Prop :=
  (∀ (q : Nat) (s : State), targetOk s 0 q = true → treadOf s 0 q = none →
    exec (.queueT0Reset q) s = .next (settled ([], t0Sweep (forAll (t0Queues s q) (fun q s => t0Start q Status.resetAborted s)
      (treadAdd 0 q false noWaiter (s.hrCount 3))))))
  ∧ (∀ (q : Nat) (x : Tread) (s : State), targetOk s 0 q = true → treadOf s 0 q = some x →
    exec (.queueT0Reset q) s = .next (settled ([], treadJoin 0 q noWaiter s)))
  ∧ (∀ (q : Nat) (s : State), (queueOf s q).t0 = true → (queueOf s q).acks = [] → workOf s q = [] → owed s q = [] →
    exec (.queueT0Finish q) s = .next (settled ([], t0Sweep (updQueue q (fun x => { x with
      t0 := false, cause := Status.ok, state := .idle, stop := Status.ok, kept := Status.ok
      bufs := [], loops := [], signals := [], decoded := 0, retryHeld := false }) s))))
  ∧ (∀ (q : Nat) (s : State), ((queueOf s q).t0 = false ∨ (queueOf s q).acks ≠ []) → exec (.queueT0Finish q) s = .next (settled ([], s)))
  ∧ (∀ (unit : Nat) (s : State), targetOk s 2 unit = true → within unit 0x2E0 16 = true →
    exec (.engineT1Reset unit) s = .next (settled ([], slotOut (unit - 0x2E0) (s.hrCount 4))))
  ∧ (∀ (unit : Nat) (a : List Ans) (s u : State), targetOk s 2 unit = true → within unit 0x2E0 16 = false → sliceOf s unit = none →
    treadOf s 3 0 = none → treadOf s 1 unit = none → stairInjected s 1 unit = false →
    landEnter 1 unit (treadAdd 1 unit false noWaiter (s.hrCount 4)) = (a, u) → unitBusy u unit = true →
    exec (.engineT1Reset unit) s = .next (settled (a, u)))
  ∧ (∀ (unit : Nat) (s : State), targetOk s 2 unit = true → within unit 0x2E0 16 = false → (treadOf s 3 0).isSome = true →
    exec (.engineT1Reset unit) s = .next (settled ([], treadJoin 3 0 noWaiter s)))
  ∧ (∀ (k : Nat) (x : Tread) (s : State), targetOk s 3 k = true → treadOf s 2 k = some x →
    exec (.sliceT2Reset k) s = .next (settled ([], treadJoin 2 k noWaiter s)))
  ∧ (∀ (k : Nat) (a b : List Ans) (s u v w : State), targetOk s 3 k = true → treadOf s 2 k = none → treadOf s 3 0 = none →
    stairInjected s 2 k = false → s.hr.treads = [] →
    u = treadAdd 2 k false noWaiter ((s.hrCount 5).updFcu fun c => { c with inT2 := c.inT2 ||| BitVec.ofNat 4 (2 ^ k) }) →
    parentInSlice u k = false → eachAns (sliceUnits u.conf k ++ spareUnits u k) (landEnter 2) u = (a, v) →
    eachAns (sliceLanes s.conf k) (fun l => laneStops (!(redirectLines (linkEnables v)).pins.lpEn.toNat.testBit (groupOf l)) l)
      (redirectLines (linkEnables v)) = (b, w) → (redirectLines (linkEnables v)).conf = s.conf →
    (sliceUnits w.conf k ++ spareUnits w k).any (unitBusy w) = true →
    exec (.sliceT2Reset k) s = .next (settled (a ++ b, w)))
  ∧ (∀ (a : List Ans) (s u : State), treadOf s 3 0 = none →
    eachAns (allUnits s.conf) (landEnter 3) (treadAdd 3 0 false
      { keeper := s.hr.treads.any (·.byKeeper), boxes := (s.hr.treads.map (·.answer)).flatten }
      ((s.hrCount 6).updHr fun h => { h with treads := [] })) = (a, u) → anyBusy u = true →
    exec .blockT3Reset s = .next (settled (a, u)))
  ∧ (∀ (k : Nat) (s : State), targetOk s 3 k = false → exec (.sliceT2Reset k) s = .next (settled ([], s)))
  ∧ (∀ (t target : Nat) (s : State), t ≠ 3 → treadOf s t target = none →
    exec (.treadWindowMiss t target) s = .next (settled ([], s)))
  ∧ (∀ (target : Nat) (x : Tread) (s : State), treadOf s 0 target = some x → x.late = false → s.hr.autoEsc = false →
    ∃ u, exec (.treadWindowMiss 0 target) s = .next (settled ([], u)) ∧ u.hr.events = raised s.hr.events 3
      ∧ u.hr.treads = s.hr.treads.map (fun y => if y.tread = 0 ∧ y.target = target then { y with late := true } else y))
  ∧ (∀ (target : Nat) (x : Tread) (s : State), treadOf s 0 target = some x → x.late = true →
    exec (.treadWindowMiss 0 target) s = .next (settled ([], s)))
  ∧ (∀ (target : Nat) (x : Tread) (a : List Ans) (s u : State), s.stopped = false → treadOf s 1 target = some x → x.missed = false →
    landUnits true false [target] s = (a, u) →
    exec (.landingDrainEnd 1 target) s = .next (settled (a, treadOver 1 target u)))
  ∧ (∀ (s : State), s.stopped = false → (treadOf s 3 0).isSome = true →
    exec (.landingDrainEnd 3 0) s = .next (settled ([], t3End s)))
  ∧ (∀ (t target : Nat) (s : State), s.stopped = true → exec (.landingDrainEnd t target) s = .next (settled ([], s)))
  ∧ (∀ (tread : BitVec 3) (s u : State), s.hr.go = false → u = { s with hr := { s.hr with tread := tread, op := 1 } } →
    targetOk s tread.toNat s.hr.target.toNat = true →
    exec (.hrReset tread) s = .next (settled (orderTread tread.toNat s.hr.target.toNat { keeper := true, boxes := [] }
      { u with hr := { u.hr with go := true } })))
  ∧ (∀ (tread : BitVec 3) (s : State), s.hr.go = false → targetOk s tread.toNat s.hr.target.toNat = false →
    ∃ u, exec (.hrReset tread) s = .next (settled ([], u)) ∧ u.hr.result = Status.permission ∧ u.hr.treads = s.hr.treads)
  ∧ (∀ (s : State), s.hr.go = false → targetOk s 0 s.hr.target.toNat = true →
    ∃ u, exec (.hrQuery 0) s = .next (settled ([], u)) ∧ u.hr.result = Status.ok
      ∧ u.hr.qinfo = BitVec.ofNat 32 (hrQueueInfo s s.hr.target.toNat) ∧ u.hr.treads = s.hr.treads)
  ∧ (∀ (a : Act) (arg : Bytes) (s : State), mayAct s [.operator] a = true → arg.length = 8 → allZero (sub arg 1 3) = true →
    targetOk s (num arg 0 1) (num arg 4 4) = true →
    exec (.resetOrder a arg) s = .next (settled (orderTread (num arg 0 1) (num arg 4 4)
      { keeper := false, boxes := [(a.sess, 0x701001)] } (actWaits a.sess 0x701001 s))))
  ∧ (∀ (a : Act) (arg : Bytes) (s : State), mayAct s [.operator] a = false →
    exec (.resetOrder a arg) s = .next (settled ([], actDone a.sess 0x701001 Status.permission [] false s)))

/-- R442 to R447, R449, R451, R452, R453, R456, R460: the Cut, the dailies and the rushes. -/
def Obligations.CutAndTraceCommands : Prop :=
  (∀ (a : Act) (arg : Bytes) (s : State), mayAct s (cutRoles s) a = true → cutRefusal (cutArg arg) false s = none →
    (cutArg arg).flags.testBit 1 = false →
    exec (.cutArm a arg) s = .next (actDone a.sess 0x803001 Status.ok [] false (cutSet (cutArg arg) s)))
  ∧ (∀ (a : Act) (arg : Bytes) (st : Status) (s : State), mayAct s (cutRoles s) a = true → cutRefusal (cutArg arg) false s = some st →
    exec (.cutArm a arg) s = .next (actDone a.sess 0x803001 st [] false s))
  ∧ (∀ (flags : Byte) (serial : BitVec 12) (c : CutArg) (s u : State), flags.toNat.testBit 1 = false →
    c = CutArg.mk s.dbg.cutT.toNat s.dbg.resumeT.toNat serial.toNat flags.toNat true →
    u = { s with dbg := { s.dbg with flags := flags, serialOp := BitVec.ofNat 16 (serial.toNat * 16 + 1) } } →
    cutRefusal c false u = none →
    ∃ t, exec (.dbgArm flags serial) s = .next t ∧ t.dbg.result = Status.ok ∧ t.dbg.cutState = 1 ∧ t.dbg.armStop = s.dbg.cutT
      ∧ t.dbg.armResume = s.dbg.resumeT ∧ t.dbg.armFlags = flags ∧ t.dbg.armSerial = BitVec.ofNat 16 serial.toNat)
  ∧ (∀ s : State, s.dbg.cutState = 1 → s.pwr.master + usT ≤ s.dbg.armStop.toNat →
    ∃ t, exec .dbgDisarm s = .next t ∧ t.dbg.result = Status.ok ∧ t.dbg.cutState = 0 ∧ t.dbg.halted = [])
  ∧ (∀ (a : Act) (s : State), mayAct s (cutRoles s) a = true → s.dbg.cutState = 1 → s.pwr.master + usT ≤ s.dbg.armStop.toNat →
    exec (.cutDisarm a) s = .next (actDone a.sess 0x803002 Status.ok [] false { s with dbg := { s.dbg with cutState := 0, halted := [] } }))
  ∧ (∀ (a : Act) (s : State), mayAct s (cutRoles s) a = true → s.dbg.armStop.toNat < s.pwr.master + usT →
    exec (.cutDisarm a) s = .next (actDone a.sess 0x803002 Status.permission [] false s))
  ∧ (∀ s : State, s.traceAllowed = true →
    ∃ t, exec .dbgRushesDump s = .next t ∧ t.dbg.result = Status.ok ∧ t.dbg.rings = s.dbg.rings)
  ∧ (∀ s : State, s.traceAllowed = false → ∃ t, exec .dbgRushesDump s = .next t ∧ t.dbg.result = Status.permission ∧ t.out = s.out)
  ∧ (∀ s : State, (ringUnits s.conf).contains (bits s.dbg.ringSel.toNat 16 12) = true →
    ∃ t, exec .dbgRingRead s = .next t ∧ t.dbg.result = Status.ok ∧ t.dbg.rings = s.dbg.rings
      ∧ t.dbg.rdata = (ringRecords (s.dbg.rings.get (bits s.dbg.ringSel.toNat 16 12))).getD (bits s.dbg.ringSel.toNat 0 8) 0)
  ∧ (∀ s : State, s.dbg.cutState = 1 → cutDomains.all (fun d => s.atStop d) = true →
    ∃ t, exec .cutStop s = .next t ∧ t.dbg.cutState = 2 ∧ t.dbg.records = 0 ∧ t.dbg.lateList = [] ∧ t.stopped = true
      ∧ t.dbg.halted = cutDomains.map ClockDomain.code
      ∧ t.dbg.dailiesDone = !s.dbg.armFlags.toNat.testBit 0)
  ∧ (∀ s : State, (s.dbg.cutState ≠ 1 ∨ cutDomains.all (fun d => s.atStop d) = false) → exec .cutStop s = .next s)
  ∧ (∀ (inst : Nat) (s : State), s.dbg.cutState = 2 → resumeInstant s = some inst →
    ∃ t, exec .cutResume s = .next t ∧ t.dbg.cutState = 0 ∧ t.dbg.resumeT = BitVec.ofNat 64 inst ∧ t.stopped = false
      ∧ t.dbg.moved = (inst != s.dbg.armResume.toNat))
  ∧ (∀ s : State, (s.dbg.cutState ≠ 2 ∨ resumeInstant s = none) → exec .cutResume s = .next s)
  ∧ (∀ (unit scanMap : Nat) (body : List ScanWord) (s : State), s.dbg.cutState = 2 → s.dbg.armFlags.toNat.testBit 0 = true →
    s.dbg.dailiesDone = false → s.dbg.records = 0 →
    ∃ t w, exec (.dailiesRecord 1 unit scanMap body) s = .next t ∧ t.out = .so w :: s.out ∧ t.dbg.records = 1
      ∧ w = soRecord s 1 false 0xFFF s.dbg.armSerial.toNat 0 0 (cutHeader s))
  ∧ (∀ (unit scanMap : Nat) (body : List ScanWord) (s : State), s.dbg.cutState = 2 → s.dbg.armFlags.toNat.testBit 0 = true →
    s.dbg.dailiesDone = false → s.dbg.records ≠ 0 →
    ∃ t, exec (.dailiesRecord 15 unit scanMap body) s = .next t ∧ t.dbg.dailiesDone = true ∧ t.dbg.dailiesEnd = s.pwr.master
      ∧ t.dbg.records = s.dbg.records + 1)
  ∧ (∀ (kind : Byte) (unit scanMap : Nat) (body : List ScanWord) (s : State), s.dbg.cutState ≠ 2 →
    exec (.dailiesRecord kind unit scanMap body) s = .next s)
  ∧ (∀ (channel item : Nat) (s : State), s.dbg.cutState = 2 → channel < 17 →
    ∃ t, exec (.lateArrival channel item) s = .next t ∧ t.dbg.lateList = s.dbg.lateList ++ [(channel, item)])
  ∧ (∀ (ctx : Nat) (m : Bytes) (s : State), num m 32 2 = s.dbg.lastOrder.toNat → exec (.cutOrderReceive ctx m) s = .next (s.dbgCount 5 1))
  ∧ (∀ (ctx : Nat) (m : Bytes) (c : CutArg) (s u : State), m.length = 64 → num m 0 2 = 2 → allZero (m.drop 35) = true → num m 34 1 < 16 →
    (num m 34 1).testBit 1 = false → s.dbg.cutState = 0 → num m 32 2 = (s.dbg.lastOrder.toNat + 1) % 2 ^ 16 →
    c = CutArg.mk (num m 16 8) (num m 24 8) (num m 32 2) (num m 34 1) true →
    u = { s with dbg := { s.dbg with lastOrder := BitVec.ofNat 16 (num m 32 2) } } → cutRefusal c true u = none →
    exec (.cutOrderReceive ctx m) s = .next (serviceSend (some (rxMember (cutSet c u) ctx)) m ((cutSet c u).dbgCount 4 1)))
  ∧ (∀ (unit : Nat) (s : State), (ringUnits s.conf).contains unit = true →
    exec (.rushesTick unit) s = .next (rushesBlock unit Ev.tick (bits (s.tb (clockOf unit)) 40 16) s))
  ∧ (∀ (a : Act) (arg : Bytes) (s : State), mayAct s [.operator, .domainManager, .tenant] a = true → arg.length = 3 → num arg 2 1 < 4 →
    (ringUnits s.conf).contains (num arg 0 2) = true →
    exec (.rushesRead a arg) s = .next (actDone a.sess 0x803004 Status.ok
      ((((ringRecords (s.dbg.rings.get (num arg 0 2))).drop (64 * num arg 2 1)).take 64).map
        (fun x => natLe (if mayRead s a x then x.toNat else 0) 16)).flatten false s))
  ∧ (∀ (hall slot : Nat) (v : DWord) (s : State), hallUsed s hall = true → slot < 16 →
    exec (.pmatchWrite hall slot v) s = .next (updHall hall (fun h => { h with
      profiles := h.profiles.set slot (Profile.mk (v &&& 0xE00000FFFFFFFFFF#64) 0 0 0 0) }) s))

/-- R33, R463, R464, R468, R469, R472, R474, R476, R481, R482, R484, R487: clocks, time, power states, boot and the flash. -/
def Obligations.ClockTimePowerAndBoot : Prop :=
  (∀ (d : ClockDomain) (n : Nat) (s : State), s.isHalted d = false →
    ∃ t, exec (.localTimebaseCorrection d n) s = .next t
      ∧ t.pwr.copies = s.pwr.copies.mod (ClockDomain.code d) (correctCopy (tickRatio s.pwr.mult.toNat d) n s.pwr.master)
      ∧ t.pwr.master = s.pwr.master ∧ (s.dbg.cutState ≠ 1 → t.dbg = s.dbg))
  ∧ (∀ (d : ClockDomain) (n : Nat) (s : State), s.isHalted d = true → exec (.localTimebaseCorrection d n) s = .next s)
  ∧ (∀ (m : BitVec 5) (s : State), enablesLow s = true → 20 ≤ m.toNat → m.toNat ≤ 26 →
    exec (.cclkMultWrite m) s = .next { s with pwr := { s.pwr with mult := m, lockBit := false } })
  ∧ (∀ (m : BitVec 5) (s : State), (enablesLow s = false ∨ m.toNat < 20 ∨ 26 < m.toNat) → exec (.cclkMultWrite m) s = .next s)
  ∧ (∀ s : State, s.pins.por = false → s.pins.pstate ≠ 3 →
    exec .pllRelockDone s = .next { s with pwr := { s.pwr with lockBit := true } })
  ∧ (∀ (i : Nat) (s u : State), parentValid s = true → s.dom.joined = true → memberLost s (parentMember s) = false →
    serviceTo s (parentMember s) (parentStream s) = some i →
    u = s.updPwr (fun p => { p with exch := { p.exch with
      active := true, number := BitVec.ofNat 16 ((s.pwr.exch.number.toNat + 1) % 2 ^ 16)
      t1 := BitVec.ofNat 64 (sendStamp s (txLane (txOf s i))) } }) →
    exec .timeExchangeStart s
      = .next (serviceSendOn i (timeMessage 1 ((s.pwr.exch.number.toNat + 1) % 2 ^ 16) 0 0 u) u))
  ∧ (∀ s : State, parentValid s = false → exec .timeExchangeStart s = .next s)
  ∧ (∀ (i t : Nat) (m : Bytes) (s u : State), m.length = 64 → num m 0 2 = 3 → num m 9 1 = 0 → num m 12 4 = 0 → allZero (m.drop 32) = true →
    num m 8 1 = 1 → serviceTo s (rxMember s i) (rxOf s i).stream.toNat = some t →
    u = s.updDom (fun d => { d with
      timeSent := d.timeSent.set (rxMember s i) (BitVec.ofNat 64 (sendStamp s (txLane (txOf s t)))) }) →
    exec (.timeMessageReceive i m) s = .next (serviceSendOn t (timeMessage 2 (num m 10 2) (recvStamp s (rxLane (rxOf s i)))
      (s.dom.timeSent.get (rxMember s i)).toNat u) u))
  ∧ (∀ (i : Nat) (m : Bytes) (s : State), m.length = 64 → num m 0 2 = 3 → num m 9 1 = 0 → num m 12 4 = 0 → allZero (m.drop 32) = true →
    num m 8 1 = 2 → s.pwr.exch.active = true → s.pwr.exch.number.toNat = num m 10 2 → parentValid s = true →
    rxMember s i = parentMember s → s.pwr.exch.prevT1 = none →
    ∃ t, exec (.timeMessageReceive i m) s = .next t ∧ t.pwr.exch.active = false ∧ t.pwr.exch.prevT1 = some s.pwr.exch.t1
      ∧ t.pwr.exch.prevT2 = BitVec.ofNat 64 (num m 16 8) ∧ t.pwr.master = s.pwr.master)
  ∧ (∀ (a : Act) (arg : Bytes) (s : State), mayAct s [.domainManager] a = true → arg.length = 4 → s.pwr.exch.active = false →
    ∃ t, exec (.timeParent a arg) s = .next (actDone a.sess 0x404001 Status.ok [] false t)
      ∧ t.pwr.parent = BitVec.ofNat 32 (num arg 0 4) &&& 0x9FFF00FF ∧ t.pwr.exch.active = false ∧ t.pwr.exch.prevT1 = none)
  ∧ (∀ (a : Act) (arg : Bytes) (s : State), mayAct s [.domainManager] a = true → arg.length = 4 → s.pwr.exch.active = true →
    exec (.timeParent a arg) s = .next (actDone a.sess 0x404001 Status.retryLater [] false s))
  ∧ (∀ s : State, (shaking s = true ∨ s.stopped = true ∨ s.pwr.phase ≠ .firmware ∨ stateChosen s = none) →
    exec .powerStateEntry s = .next (settled ([], s)))
  ∧ (∀ (st : Nat) (s : State), shaking s = false → s.stopped = false → s.pwr.phase = .firmware → stateChosen s = some st →
    ∃ a u, exec .powerStateEntry s = .next (settled (a, u)) ∧ u.pwr.entering = true ∧ u.pwr.voided = false
      ∧ u.pins.ptgt = BitVec.ofNat 2 st ∧ u.pins.preq = true)
  ∧ (∀ s : State, (s.pwr.phase ≠ .rom ∨ otpActive s = true) → exec .maskRomBoot s = .next (settled ([], s)))
  ∧ (∀ s : State, s.pwr.phase = .rom → otpActive s = false → s.lcState = testOpen → otpBlank s.lc.otp 0 8 = true →
    exec .maskRomBoot s = .next (settled ([], secretStart s)))
  ∧ (∀ (s u : State), s.pwr.phase = .rom → otpActive s = false → (s.lcState ≠ testOpen ∨ otpBlank s.lc.otp 0 8 = false) →
    u = (measure 0 Config.maskRom (s.updPwr fun p => { p with lockBit := true })).updLc (fun l => { l with rollback := rollbackCount l.otp }) →
    u.lcPending = none →
    exec .maskRomBoot s = .next (settled (
      if u.lcState = scrap then ([], ((scrapIdentity u).updPins fun p => { p with miiEn := true }).updPwr fun p => { p with phase := .scrap })
      else if bootFault (xspiSelect u) = 0 then firmwareStart (imageAccepted (xspiSelect u))
      else ([], enterRecovery (bootFault (xspiSelect u)) (xspiSelect u)))))
  ∧ (∀ (a : Act) (arg : Bytes) (s : State), mayRecover s [.factory, .operator] a = true → 4 < arg.length → arg.length ≤ 1028 →
    num arg 0 4 + (arg.length - 4) ≤ slotBytes →
    (sectorsOf (num arg 0 4) (arg.length - 4)).all (fun k => s.pwr.erased.contains k) = true →
    exec (.recoveryWrite a arg) s = .next (actDone a.sess 0x903001 Status.ok [] false
      (programOver (slotBase + num arg 0 4) (arg.drop 4) (s.updPwr fun p => { p with erased := p.erased ++ [] }))))
  ∧ (∀ (a : Act) (arg : Bytes) (s : State), mayRecover s [.factory, .operator] a = false →
    exec (.recoveryWrite a arg) s = .next (actDone a.sess 0x903001 Status.permission [] false s)
    ∧ exec (.recoveryCommit a) s = .next (settled ([], actDone a.sess 0x903002 Status.permission [] false s)))
  ∧ (∀ (a : Act) (s : State), mayRecover s [.factory, .operator] a = true → bootFault s = 0 →
    exec (.recoveryCommit a) s = .next (settled (t3Order noWaiter (actDone a.sess 0x903002 Status.ok [] false s))))
  ∧ (∀ (a : Act) (s : State), mayRecover s [.factory, .operator] a = true → bootFault s = 5 →
    exec (.recoveryCommit a) s = .next (settled ([], actDone a.sess 0x903002 Status.authFail [] false s)))
  ∧ (∀ (a : Act) (arg : Bytes) (s : State), mayAct s [.domainManager] a = true → arg.length = 8 →
    (usedHalls s).all (fun e => e.2.state == .frozen) = true → s.pwr.shut.running = false →
    exec (.shutdown a arg) s = .next (settled ([], actWaits a.sess shutObj (s.updPwr fun p => { p with
      shut := Shut.mk true a.sess 0 (BitVec.ofNat 64 (num arg 0 8)) [] [] }))))
  ∧ (∀ (a : Act) (arg : Bytes) (s : State), mayAct s [.domainManager] a = true → arg.length = 8 →
    exec (.rootStoreUse a arg) s = .next (actDone a.sess 0x201003 Status.ok [] false
      { s with pwr := { s.pwr with rootStore := some (BitVec.ofNat 64 (num arg 0 8)) } }))
  ∧ (∀ (a : Act) (s : State), mayAct s [.operator, .domainManager] a = true →
    exec (.wake a) s = .next (actDone a.sess 0x201001 Status.ok [] false
      (if s.pins.pstate = 0 then s else { s with pwr := { s.pwr with wakeReq := true } })))
  ∧ (∀ (len : Byte) (s : State), ∃ t, exec (.xspiCommand 0x06 len) s = .next t ∧ t.pwr.writeEnable = true ∧ t.pwr.flash = s.pwr.flash)
  ∧ (∀ (len : Byte) (s : State), slotBase ≤ s.pwr.xspiAddr.toNat / 0x1000 * 0x1000 → s.pwr.writeEnable = true →
    ∃ t, exec (.xspiCommand 0x21 len) s = .next t ∧ t.pwr.writeEnable = false
      ∧ t.pwr.flash = (flashErase (s.pwr.xspiAddr.toNat / 0x1000 * 0x1000) 0x1000 s).pwr.flash)
  ∧ (∀ (len : Byte) (s : State), s.pwr.writeEnable = false →
    ∃ t, exec (.xspiCommand 0x12 len) s = .next t ∧ t.pwr.flash = s.pwr.flash ∧ t.pwr.writeEnable = false)
  ∧ (∀ (pll : Bool) (c : ClockDomain) (s u : State),
    u = (if pll && c == .cclk then { s with pwr := { s.pwr with lockBit := false } } else s) → (pll || clockNeeded u c) = true →
    exec (.clockLoss pll c) s = .next (raiseFault Src.pwr Kind.clkLoss noHall 0 0 u))

/-- R492 to R501: the segment protocol, the neighbour and echo answers and the DTLS sessions. -/
def Obligations.ManagementPort : Prop :=
  (∀ (f : MgtFrame) (s : State), s.pins.miiEn = false → exec (.mgtFrameReceive f) s = .next s)
  ∧ (∀ (f : MgtFrame) (s : State), s.pins.miiEn = true → f.fcsGood = false → exec (.mgtFrameReceive f) s = .next (s.mgtCount 2))
  ∧ (∀ (f : MgtFrame) (s : State), s.pins.miiEn = true → s.stopped = false → f.fcsGood = true →
    (macAccepts s).contains f.dst.toNat = true → f.extHeader = false → f.fragment = false → f.sumGood = true → f.port = 61400 →
    num f.payload 0 1 = 0x5C → segmentOk f.payload = true →
    exec (.mgtFrameReceive f) s = .next (segmentHeard f.payload (s.mgtCount 0)))
  ∧ (∀ (m : Bytes) (s : State), s.stopped = false → segmentOk m = true → num m 1 1 = 1 → num m 4 8 ≠ s.deviceId → s.mgt.claim.state = 0 →
    s.mgt.claim.used.contains (num m 2 1) = false →
    ∃ t, exec (.announceReceive m) s = .next t ∧ t.mgt.claim = { s.mgt.claim with used := s.mgt.claim.used ++ [num m 2 1] }
      ∧ t.mgt.sessions = s.mgt.sessions ∧ t.out = s.out)
  ∧ (∀ (m : Bytes) (s : State), s.stopped = false → segmentOk m = true → num m 1 1 = 2 → num m 4 8 ≠ s.deviceId → s.mgt.claim.state = 2 →
    num m 2 1 = s.mgt.claim.node →
    exec (.claimReceive m) s = .next (segmentSend 3 s.mgt.claim.node s))
  ∧ (∀ (m : Bytes) (s : State), s.stopped = false → segmentOk m = true → num m 1 1 = 3 → num m 4 8 ≠ s.deviceId → s.mgt.claim.state = 1 →
    num m 2 1 = s.mgt.claim.candidate →
    exec (.defendReceive m) s = .next (claimChoose { s with mgt := { s.mgt with
      claim := { s.mgt.claim with used := s.mgt.claim.used ++ [num m 2 1] } } }))
  ∧ (∀ (n : Nat) (s : State), s.mgt.claim.state = 0 → firstFrom (fun n => !s.mgt.claim.used.contains n) 15 1 = some n →
    ∃ t, exec .claimListenEnd s = .next t ∧ t.mgt.claim.state = 1 ∧ t.mgt.claim.candidate = n ∧ t.mgt.claim.sends = 0
      ∧ t.mgt.claim.used = s.mgt.claim.used)
  ∧ (∀ s : State, s.mgt.claim.state = 0 → firstFrom (fun n => !s.mgt.claim.used.contains n) 15 1 = none →
    ∃ t, exec .claimListenEnd s = .next t ∧ t.mgt.claim.state = 3)
  ∧ (∀ s : State, s.mgt.claim.state = 1 → s.mgt.claim.sends < 3 →
    ∃ t, exec .claimSend s = .next t ∧ t.mgt.claim.sends = s.mgt.claim.sends + 1 ∧ t.mgt.claim.state = 1
      ∧ t.out = .segment (segmentMessage 2 s.mgt.claim.candidate s) :: s.out)
  ∧ (∀ s : State, s.mgt.claim.state = 1 →
    ∃ t, exec .claimWindowEnd s = .next t ∧ t.mgt.claim.state = 2 ∧ t.mgt.claim.node = s.mgt.claim.candidate
      ∧ t.out = .segment (segmentMessage 1 s.mgt.claim.candidate s) :: s.out ∧ t.mgt.events = raised s.mgt.events 0)
  ∧ (∀ s : State, s.mgt.claim.state = 2 →
    ∃ t, exec .announceSend s = .next t ∧ t.out = .segment (segmentMessage 1 s.mgt.claim.node s) :: s.out ∧ t.mgt.claim = s.mgt.claim)
  ∧ (∀ s : State, s.mgt.claim.state = 3 →
    ∃ t, exec .noNodeRetry s = .next t ∧ t.mgt.claim = { state := 0, node := 0, used := [], candidate := 0, sends := 0 })
  ∧ (∀ s : State, ∃ t, exec .plcaBeaconLoss s = .next t ∧ t.mgt.beacon = false ∧ t.mgt.events = raised s.mgt.events 2)
  ∧ (∀ s : State, exec .plcaBeaconSeen s = .next { s with mgt := { s.mgt with beacon := true } })
  ∧ (∀ s : State, maySend s = true →
    ∃ t, exec (.neighborSolicitation (ipAddress s)) s = .next t ∧ t.mgt.claim = s.mgt.claim
      ∧ t.out = .icmp ([136, 0, 0x60, 0, 0, 0] ++ ipAddress s ++ [2, 1] ++ macAddress s) :: s.out)
  ∧ (∀ (x : Bytes) (s : State), x ≠ ipAddress s → exec (.neighborSolicitation x) s = .next s)
  ∧ (∀ (p : Bytes) (s : State), maySend s = true →
    ∃ t, exec (.echoRequest p) s = .next t ∧ t.out = .icmp ([129, 0] ++ p) :: s.out)
  ∧ (∀ (h : Hello) (s : State), servesSessions s = false → exec (.dtlsClientHello h) s = .next ((s.mgtCount 5).mgtEvent 4))
  ∧ (∀ s : State, servesSessions s = true → (liveSessions s).length < 8 →
    ∃ t, exec (.dtlsClientHello ⟨true, true, true, true, false⟩) s = .next t ∧ t.out = .dtls s.mgt.nextSession 0 :: s.out
      ∧ t.mgt.sessions = s.mgt.sessions ∧ t.mgt.nextSession = s.mgt.nextSession)
  ∧ (∀ s : State, servesSessions s = true → (liveSessions s).length < 8 →
    ∃ t, exec (.dtlsClientHello ⟨true, true, true, true, true⟩) s = .next t ∧ t.out = .identity s.mgt.nextSession (identityChain s) :: .dtls s.mgt.nextSession 1 :: s.out
      ∧ (sessOf t s.mgt.nextSession).handshaking = true ∧ (sessOf t s.mgt.nextSession).live = false
      ∧ t.mgt.nextSession = s.mgt.nextSession + 1)
  ∧ (∀ (n : Nat) (c : CertChain) (s : State), (sessOf s n).handshaking = true → 1 ≤ c.certs → c.certs ≤ 4 → c.bytes ≤ 4096 →
    (liveSessions s).length < 8 → exec (.dtlsHandshakeFinished n c true) s = .next (sessionLive n c s))
  ∧ (∀ (n old : Nat) (c : CertChain) (s : State), (sessOf s n).handshaking = true → 1 ≤ c.certs → c.certs ≤ 4 → c.bytes ≤ 4096 →
    8 ≤ (liveSessions s).length → evictable s = some old →
    exec (.dtlsHandshakeFinished n c true) s = .next (sessionLive n c ((endSession old s).mgtEvent 3)))
  ∧ (∀ (n : Nat) (c : CertChain) (s : State), (sessOf s n).handshaking = true →
    exec (.dtlsHandshakeFinished n c false) s = .next (handshakeFails n s))
  ∧ (∀ (n : Nat) (s : State),
    ∃ t, exec (.sessionEnd n) s = .next t ∧ t.mgt.sessions = s.mgt.sessions.filter (fun e => e.1 != n)
      ∧ t.mgt.deferred = s.mgt.deferred.filter (fun d => d.1.sess != n))
  ∧ (∀ (n : Nat) (s : State), (sessOf s n).live = true →
    ∃ t, exec (.keyUpdate n) s = .next t ∧ (sessOf t n).idleSince = s.now ∧ (sessOf t n).sent = (sessOf s n).sent + 1)

/-- R502 to R509: the call sheet's requests and what follows them. -/
def Obligations.CallSheetRequests : Prop :=
  (∀ (n : Nat) (m : Bytes) (s : State), (sessOf s n).live = false →
    exec (.callSheetGet n m) s = .next (settled ([], s.mgtCount 4)) ∧ exec (.callSheetSet n m) s = .next (settled ([], s.mgtCount 4))
    ∧ exec (.callSheetGetMulti n m) s = .next (settled ([], s.mgtCount 4))
    ∧ exec (.callSheetAction n m) s = .next (settled ([], s.mgtCount 4))
    ∧ exec (.callSheetSubscribe n m) s = .next (settled ([], s.mgtCount 4)))
  ∧ (∀ (n : Nat) (m : Bytes) (e : Word × Bytes) (s : State), (sessOf s n).live = true → num m 1 1 = 1 → cancels m = false →
    (sessOf s n).kept.find? (fun e => e.1 == BitVec.ofNat 32 (num m 4 4)) = some e →
    exec (.callSheetGet n m) s = .next (settled ([], sheetSend n e.2 (sheetTaken n s))))
  ∧ (∀ (n : Nat) (m : Bytes) (s : State), (sessOf s n).live = true → num m 1 1 = 1 → requestOk m = false →
    (sessOf s n).kept.all (fun e => e.1 != BitVec.ofNat 32 (num m 4 4)) = true →
    (sessOf s n).outstanding.contains (BitVec.ofNat 32 (num m 4 4)) = false →
    exec (.callSheetGet n m) s
      = .next (settled ([], respond n 1 (BitVec.ofNat 32 (num m 4 4)) ocMalformed Status.ok [] (sheetTaken n s))))
  ∧ (∀ (n obj : Nat) (m : Bytes) (q : Req) (e : Entry) (s u : State), sheetTakes 1 n m s = true → q = reqOf m → u = sheetTaken n s →
    q.body.length = 8 → num q.body 3 1 = 0 → obj = objOf q.body → access u n q.role obj getRight = .inl e → e.type ≠ 6 →
    (num q.body 4 4 = 0 ∨ e.type = 5) →
    exec (.callSheetGet n m) s = .next (settled ([], respond n 1 q.tag ocDone Status.ok
      (getBody obj e.type (num q.body 4 4) (objValue u obj)) u)))
  ∧ (∀ (n obj o : Nat) (m : Bytes) (q : Req) (s u : State), sheetTakes 1 n m s = true → q = reqOf m → u = sheetTaken n s →
    q.body.length = 8 → num q.body 3 1 = 0 → obj = objOf q.body → access u n q.role obj getRight = .inr o →
    exec (.callSheetGet n m) s = .next (settled ([], respond n 1 q.tag o Status.ok [] u)))
  ∧ (∀ (n : Nat) (m : Bytes) (q : Req) (e : Entry) (s u : State), sheetTakes 2 n m s = true → q = reqOf m → u = sheetTaken n s →
    q.body.length = 9 → num q.body 3 1 = 0 → num q.body 5 1 = 0 → num q.body 6 2 = 1 → objOf q.body = 0x200003 →
    access u n q.role 0x200003 (·.wr) = .inl e → num q.body 4 1 = e.type → typeBytes e.type = 1 → entryOf u 0x200003 = some e →
    e.type ≠ 6 → num (q.body.drop 8) 0 1 ≤ 3 →
    exec (.callSheetSet n m) s = .next (settled ([], respond n 2 q.tag ocDone Status.ok []
      { u with pwr := { u.pwr with maxState := BitVec.ofNat 2 (num (q.body.drop 8) 0 1) } })))
  ∧ (∀ (n k : Nat) (m : Bytes) (q : Req) (s u : State), sheetTakes 3 n m s = true → q = reqOf m → u = sheetTaken n s →
    num q.body 0 1 = k → 1 ≤ k → k ≤ 64 → allZero (sub q.body 1 3) = true → q.body.length = 4 + 4 * k →
    exec (.callSheetGetMulti n m) s = .next (settled ([], respond n 3 q.tag ocDone Status.ok
      (multiEntries u n q.role ((List.range k).map fun i => sub q.body (4 + 4 * i) 4) []) u)))
  ∧ (∀ (n obj : Nat) (m : Bytes) (q : Req) (e : Entry) (s u : State), sheetTakes 4 n m s = true → q = reqOf m → u = sheetTaken n s →
    8 ≤ q.body.length → num q.body 3 1 = 0 → num q.body 4 2 = 0 → q.body.length = 8 + num q.body 6 2 → num q.body 6 2 ≤ 1368 →
    obj = objOf q.body → access u n q.role obj (·.ex) = .inl e → (boxOf u n obj).waitTag = none →
    exec (.callSheetAction n m) s = .next (settled (
      if (boxOf u n obj).result = Status.notReady then ([], respond n 4 q.tag ocBusy Status.ok [] u)
      else if q.waits then startAction obj { role := q.role, sess := n } (q.body.drop 8)
        (boxPut n { boxOf (updSess n (fun x => { x with outstanding := x.outstanding ++ [q.tag] }) u) n obj with waitTag := some q.tag }
          (updSess n (fun x => { x with outstanding := x.outstanding ++ [q.tag] }) u))
      else startAction obj { role := q.role, sess := n } (q.body.drop 8) (respond n 4 q.tag ocDone Status.notReady [] u))))
  ∧ (∀ (n : Nat) (tag : Word) (b : ActBox) (s : State), (sessOf s n).boxes.find? (fun b => b.waitTag == some tag) = some b →
    boxOf s n b.obj = b → b.waitTag = some tag → b.result ≠ Status.notReady →
    exec (.actionWaitResponse n tag) s = .next (boxRead n b.obj 0 (boxPut n { b with waitTag := none }
      (respond n 4 tag ocDone b.result (getBody b.obj 6 0 b.data) s))))
  ∧ (∀ (n : Nat) (tag : Word) (s : State), (sessOf s n).boxes.find? (fun b => b.waitTag == some tag) = none →
    exec (.actionWaitResponse n tag) s = .next s)
  ∧ (∀ (n obj : Nat) (m : Bytes) (q : Req) (e : Entry) (others : List Sub) (s u : State), sheetTakes 5 n m s = true → q = reqOf m →
    u = sheetTaken n s → q.body.length = 8 → num q.body 3 1 = 0 → obj = objOf q.body → access u n q.role obj (·.rd) = .inl e →
    10 ≤ num q.body 4 4 → num q.body 4 4 ≤ 3600000 → others = (sessOf u n).subs.filter (fun x => x.tag != q.tag) → others.length < 32 →
    exec (.callSheetSubscribe n m) s = .next (settled ([], respond n 5 q.tag ocDone Status.ok [] (updSess n (fun y => { y with
      subs := others ++ [Sys2Proof.Machine.Sub.mk q.tag obj (BitVec.ofNat 32 (num q.body 4 4)) (objValue u obj)] }) u))))
  ∧ (∀ (n : Nat) (tag : Word) (x : Sub) (s u : State), (sessOf s n).subs.find? (fun x => x.tag == tag) = some x → s.stopped = false →
    (sessOf s n).live = true → (x.period.toNat ≠ onChange ∨ objValue s x.obj ≠ x.last) →
    u = updSess n (fun y => { y with
      notified := y.notified + 1
      subs := y.subs.map fun z => if z.tag == tag then { z with last := objValue s x.obj } else z }) s →
    exec (.subscriptionNotify n tag) s = .next ((sheetSend n (sheetBytes 5 ocDone tag Status.ok
      (natLe (sessOf s n).notified 4 ++ natLe s.now 8 ++ getBody x.obj (match entryOf s x.obj with | some e => e.type | none => 0) 0
        (objValue s x.obj))) u).mgtCount 7))
  ∧ (∀ (n : Nat) (tag : Word) (s : State), (sessOf s n).subs.find? (fun x => x.tag == tag) = none →
    exec (.subscriptionNotify n tag) s = .next s)

/-- R506, R507, R508, R510, R511, R512: the query actions, the region actions and the factory certificate. -/
def Obligations.QueryActions : Prop :=
  (∀ (a : Act) (arg : Bytes) (s : State), mayAct s [.operator, .domainManager, .tenant] a = true → a.role ≠ .tenant → arg.length = 4 →
    exec (.keyQuery a arg) s = .next (actDone a.sess 0x301001 Status.ok
      (natLe (kvQueryOf s.kv (BitVec.ofNat 32 (num arg 0 4))).1 4 ++ natLe (kvQueryOf s.kv (BitVec.ofNat 32 (num arg 0 4))).2 8) false s))
  ∧ (∀ (a : Act) (arg : Bytes) (s : State), mayAct s [.factory, .operator, .domainManager] a = true → arg.length = 5 → 1 ≤ num arg 4 1 →
    num arg 4 1 ≤ 40 →
    exec (.logRead a arg) s = .next (actDone a.sess 0x601001 Status.ok
      ((List.range (num arg 4 1)).map fun i => logRecord s (num arg 0 4 + i)).flatten false s))
  ∧ (∀ (a : Act) (arg : Bytes) (s : State), mayAct s [.factory, .operator, .domainManager] a = true → arg.length = 5 → 1 ≤ num arg 4 1 →
    num arg 4 1 ≤ 64 → s.rightCounters = true →
    ((List.range (num arg 4 1)).map fun i => num arg 0 4 + 8 * i).all (counterThere s) = true →
    exec (.counterRead a arg) s = .next (actDone a.sess 0x801001 Status.ok
      (((List.range (num arg 4 1)).map fun i => num arg 0 4 + 8 * i).map fun o => natLe ((keeperRead64 s o).getD 0) 8).flatten false s))
  ∧ (∀ (a : Act) (arg : Bytes) (s : State), mayAct s [.operator, .domainManager, .tenant] a = true → arg.length = 2 →
    num arg 0 2 < s.conf.halls → mayName s a (num arg 0 2) = true →
    exec (.hallCounters a arg) s = .next (actDone a.sess 0x802001 Status.ok (hallCounterBytes s (num arg 0 2)) false s))
  ∧ (∀ (a : Act) (arg : Bytes) (q : Ls) (s : State), mayAct s [.operator, .domainManager] a = true → arg.length = 3 → num arg 0 2 < 512 →
    num arg 2 1 ≤ 1 → q = (lsQueryOp (num arg 0 2) (num arg 2 1 == 1) s).ls →
    exec (.streamQuery a arg) s = .next (actDone a.sess 0xA01002 Status.ok
      (natLe q.qinfo.toNat 4 ++ natLe q.qseq.toNat 8 ++ natLe q.qfloor.toNat 8) false s))
  ∧ (∀ (a : Act) (arg : Bytes) (s : State), mayAct s [.operator, .domainManager, .tenant] a = true → a.role ≠ .tenant → arg.length = 2 →
    num arg 0 2 < 1280 →
    exec (.regionQuery a arg) s = .next (actDone a.sess 0xB01001 Status.ok
      (natLe (lnInfo s (num arg 0 2)) 4 ++ natLe (regionOf s (num arg 0 2)).cursor 8
        ++ natLe (if isVault (num arg 0 2) then trInfo s (num arg 0 2) else 0) 4) false s))
  ∧ (∀ (a : Act) (arg : Bytes) (s : State), mayAct s [.operator, .domainManager, .tenant] a = false →
    exec (.hallCounters a arg) s = .next (actDone a.sess 0x802001 Status.permission [] false s)
    ∧ exec (.regionQuery a arg) s = .next (actDone a.sess 0xB01001 Status.permission [] false s)
    ∧ exec (.keyQuery a arg) s = .next (actDone a.sess 0x301001 Status.permission [] false s))
  ∧ (∀ (a : Act) (arg : Bytes) (s : State), mayAct s [.domainManager] a = true → arg.length = 2 → num arg 0 2 < 1280 → s.ln.go = true →
    exec (.regionSeal a arg) s = .next (actDone a.sess 0xB01003 Status.retryLater [] false s)
    ∧ exec (.regionFree a arg) s = .next (actDone a.sess 0xB01005 Status.retryLater [] false s))
  ∧ (∀ (a : Act) (arg : Bytes) (s : State), mayAct s [.domainManager] a = true → arg.length = 2 → num arg 0 2 < 1280 → s.ln.go = false →
    (regionOf s (num arg 0 2)).state = .writing →
    ∃ t, exec (.regionSeal a arg) s = .next t ∧ t.ln.go = true ∧ t.ln.op = 3 ∧ t.ln.target = num arg 0 2
      ∧ t.ln.answer = [(a.sess, 0xB01003)] ∧ (regionOf t (num arg 0 2)).sealing = true)
  ∧ (∀ (a : Act) (arg : Bytes) (s : State), mayAct s [.domainManager] a = true → arg.length = 2 → num arg 0 2 < 1280 → s.ln.go = false →
    (regionOf s (num arg 0 2)).state ≠ .free → (treeOf s (num arg 0 2)).busy = false → regionQuiet s (num arg 0 2) = false →
    ∃ t, exec (.regionFree a arg) s = .next t ∧ t.ln.go = true ∧ t.ln.op = 2 ∧ t.ln.answer = [(a.sess, 0xB01005)]
      ∧ t.ln.retire = heldKeys s (num arg 0 2) ∧ (regionOf t (num arg 0 2)).freeing = true)
  ∧ (∀ (a : Act) (arg d : Bytes) (r : Nat) (got : List Handle) (s u : State), mayAct s [.domainManager] a = true → arg.length = 68 →
    d = arg.drop 4 → r = num arg 0 2 → num arg 2 1 ≤ 1 → num arg 3 1 = 0 → num d 24 8 = 0 → dHall d < 4096 → r < 1280 →
    s.ln.go = false → regionKeys d (regionPurposes (isVault r)) [] s = (Status.ok, got, u) →
    exec (.regionInstall a arg) s
      = .next (regionRun a 0xB01002 1 r (num arg 2 1 == 1) (some (withKeys d got)) got [] u))
  ∧ (∀ (a : Act) (arg d o : Bytes) (r : Nat) (got : List Handle) (s u : State), mayAct s [.domainManager] a = true → arg.length = 2 →
    r = num arg 0 2 → isVault r = true → (regionOf s r).state ≠ .free → s.ln.go = false → o = (regionOf s r).desc →
    d = o.take 12 ++ natLe (dVersion o + 1) 4 ++ o.drop 16 → regionKeys d (regionPurposes true) [] s = (Status.ok, got, u) →
    exec (.regionErase a arg) s
      = .next (regionRun a 0xB01004 4 r false (some (withKeys d got)) got (heldKeys u r) u))
  ∧ (∀ (a : Act) (arg : Bytes) (s : State), mayAct s [.factory] a = true → s.lcState = testOpen → 4 < arg.length → arg.length ≤ 1028 →
    num arg 0 4 + (arg.length - 4) ≤ slotBase →
    exec (.factoryCertWrite a arg) s = .next (actDone a.sess 0xF01001 Status.ok [] false
      (flashWrite (num arg 0 4) (arg.drop 4) s)))
  ∧ (∀ (a : Act) (arg : Bytes) (s : State), mayAct s [.factory] a = true → s.lcState ≠ testOpen →
    exec (.factoryCertWrite a arg) s = .next (actDone a.sess 0xF01001 Status.permission [] false s))

/-- The frame of every command over these parts: the lists of the commands that may change one stand in Safety. -/
def Obligations.FrameOfTheSecrets : Prop :=
  ∀ (c : Instr) (s t : State), exec c s = .next t →
    (changesKeyVault c = false → t.kv.rest = s.kv.rest)
    ∧ (changesKeyRegion c = false → t.kv.region = s.kv.region)
    ∧ (changesLifeCycle c = false → t.lc = s.lc)
    ∧ (changesAttestation c = false → t.att = s.att)
    ∧ (changesDomain c = false → t.dom = s.dom)
    ∧ (drawsRandom c = false → t.draws = s.draws)

/-- The frame of every command over these parts: the lists of the commands that may change one stand in Safety. -/
def Obligations.FrameOfTheEngines : Prop :=
  ∀ (c : Instr) (s t : State), exec c s = .next t →
    (changesLinkSealer c = false → t.ls.rest = s.ls.rest)
    ∧ (changesLineSealer c = false → t.ln.rest = s.ln.rest)
    ∧ (changesTree c = false → t.tr.rest = s.tr.rest)
    ∧ (changesMovers c = false → t.mv.rest = s.mv.rest)
    ∧ (changesReduction c = false → t.rd.rest = s.rd.rest)
    ∧ (changesAtomics c = false → t.au.rest = s.au.rest)

/-- The frame of every command over these parts: the lists of the commands that may change one stand in Safety. -/
def Obligations.FrameOfTheHalls : Prop :=
  ∀ (c : Instr) (s t : State), exec c s = .next t →
    (changesFrontEnd c = false → t.fe.rest = s.fe.rest)
    ∧ (changesAdmission c = false → t.adm.rest = s.adm.rest)
    ∧ (changesFences c = false → t.fs = s.fs)
    ∧ (changesTranslation c = false → t.itu.rest = s.itu.rest)

/-- The frame of every command over these parts: the lists of the commands that may change one stand in Safety. -/
def Obligations.FrameOfTheControl : Prop :=
  ∀ (c : Instr) (s t : State), exec c s = .next t →
    (changesPins c = false → t.pins.rest = s.pins.rest)
    ∧ (changesFaultUnit c = false → t.fcu.rest = s.fcu.rest)
    ∧ (changesHangUnit c = false → t.hr.rest = s.hr.rest)
    ∧ (changesDebug c = false → t.dbg.rest = s.dbg.rest)
    ∧ (changesPower c = false → t.pwr.rest = s.pwr.rest)
    ∧ (changesManagement c = false → t.mgt.rest = s.mgt.rest)

/-- No command ends in a fault or a refusal, in no state: the block has an answer to each of them. -/
def Obligations.EveryCommandCompletes : Prop :=
  ∀ (c : Instr) (s : State), ∃ t, exec c s = .next t
    ∧ t.pending = s.pending ∧ t.conf = s.conf ∧ s.out <:+ t.out ∧ s.draws ≤ t.draws ∧ s.frees ≤ t.frees

/-- The stores' invariant, over every step from every state that has it. -/
def Obligations.EveryStepKeepsTheStores : Prop :=
  ∀ s : State, Inv s → ∃ t, step s = .next t ∧ Inv t

/-- R58: each bit moves from 0 to 1 only. -/
def Obligations.ProgrammedBitsStay : Prop :=
  ∀ s : State, ∃ t, step s = .next t ∧ ∀ w, s.lc.otp.get w ||| t.lc.otp.get w = t.lc.otp.get w

/-- R93 over every step: the states follow one another in the order of their codes. -/
def Obligations.LifeCycleGoesForward : Prop :=
  ∀ s t : State, step s = .next t →
    (s.lcState ≠ scrap → s.lcState ≤ t.lcState) ∧ (sFull s.lc.otp 4 = true → t.lcState = scrap ∧ sFull t.lc.otp 4 = true)

/-- R100: the counter is never decreased, and no life-cycle transition resets it. -/
def Obligations.RollbackCounterNeverFalls : Prop :=
  ∀ s t : State, s.lc.otp.wf = true → step s = .next t → rollbackCount s.lc.otp ≤ rollbackCount t.lc.otp

/-- What a step does when a command waits. -/
def Obligations.StepRunsTheFrontCommand : Prop :=
  ∀ (c : Instr) (s : State) (rest : List Instr),
    step { s with pending := c :: rest } = exec c { s with pending := rest }

/-- Assumption 1, a choice of the model: an empty queue is one reference edge; what the edge adds is R465's, what it corrects R30's. -/
def Obligations.EmptyQueueIsAReferenceEdge : Prop :=
  (∀ s : State, s.pending = [] → s.pins.por = true → step s = .next s)
  ∧ (∀ s : State, s.pending = [] → s.pins.por = false → 0 < s.pwr.holdUntil → s.dbg.cutState ≠ 1 →
    ∃ copies, step s = .next { s with pwr := { s.pwr with holdUntil := s.pwr.holdUntil - 40, copies := copies } }
      ∧ (s.dbg.halted = [] → copies = domains.foldl
          (fun c d => c.mod (ClockDomain.code d) (correctCopy (tickRatio s.pwr.mult.toNat d) 0 s.pwr.master)) s.pwr.copies))
  ∧ (∀ s : State, s.pending = [] → s.pins.por = false → s.pwr.holdUntil = 0 → s.pwr.slew = 0 → 0 ≤ s.pwr.masterFrac →
    s.pwr.masterFrac < 2 ^ 32 → s.pwr.master + 41 < 2 ^ 64 →
    ∃ t, step s = .next t
      ∧ t = { s with
          pwr := { s.pwr with master := t.pwr.master, masterFrac := t.pwr.masterFrac, copies := t.pwr.copies }
          dbg := { s.dbg with halted := t.dbg.halted } }
      ∧ (s.dbg.cutState ≠ 1 → t.dbg.halted = s.dbg.halted)
      ∧ (s.dbg.cutState ≠ 1 → s.dbg.halted = [] → t.pwr.copies = domains.foldl
          (fun c d => c.mod (ClockDomain.code d) (correctCopy (tickRatio s.pwr.mult.toNat d) 0 s.pwr.master)) s.pwr.copies)
      ∧ 0 ≤ t.pwr.masterFrac ∧ t.pwr.masterFrac < 2 ^ 32
      ∧ (t.pwr.master : Int) * 2 ^ 32 + t.pwr.masterFrac
        = ((s.pwr.master : Int) + 40) * 2 ^ 32 + s.pwr.masterFrac + s.pwr.rate.toInt)

/-- What reset leaves. The OTP contents, the configuration and the tie-offs are the model's choice: assumptions 5, 6 and 7. -/
def Obligations.ResetState : Prop :=
  let z := State.reset
  z.pending = [] ∧ z.out = [] ∧ z.conf = .f ∧ z.lcState = testOpen
  ∧ z.pins.hpEn = false ∧ z.pins.cpEn = false ∧ z.pins.lpEn = 0 ∧ z.pins.mpEn = 0
  ∧ z.kv.slots = [] ∧ z.ln.regions = [] ∧ z.itu.halls = [] ∧ z.fe.queues = [] ∧ z.fs.fences = [] ∧ z.fcu.log = [] ∧ z.mgt.sessions = []
  ∧ z.fcu.safe = false ∧ z.dom.joined = false
  ∧ keeperRead z 0x000008 = 0x3F211120
  ∧ keeperRead z 0x010020 = 94
  ∧ keeperRead z 0x010100 = 0x00100400 ∧ keeperRead z 0x010104 = 18432 ∧ keeperRead z 0x010108 = 11059 ∧ keeperRead z 0x01010C = 1080
  ∧ keeperRead z 0x0A0000 = 0x400A0102 ∧ keeperRead z 0x0B0008 = 0xA0000010 ∧ keeperRead z 0x0B000C = 100
  ∧ keeperRead z 0x0D0000 = 0x0003000A ∧ keeperRead z 0x0D0010 = 24 ∧ keeperRead z 0x0D0014 = 3 ∧ keeperRead z 0x0D0210 = 125
  ∧ keeperRead z 0x0D0300 = 0x80002010 ∧ keeperRead z 0x0E0010 = 0x8000 ∧ keeperRead z 0x0E0028 = 4

/-- The invariant of EveryStepKeepsTheStores, at reset. -/
def Obligations.StoresAreCanonicalAtReset : Prop := Inv State.reset

/-- R9 and R10. -/
def Obligations.IdentificationRegisters : Prop :=
  (∀ s : State, exec (.rcRegisterRead .keeper 0x000000) s = .next (s.emit (.regRead .keeper 0x000000 0x7E094200#32)))
  ∧ (bits 0x7E094200 16 16 = 0x7E09 ∧ bits 0x7E094200 8 8 = 0x42 ∧ bits 0x7E094200 0 8 = 0x00)
  ∧ (∀ s : State, exec (.rcRegisterRead .keeper 0x000008) s = .next (s.emit (.regRead .keeper 0x000008 s.conf.caps)))
  ∧ (∀ (w : Word) (s : State), exec (.registerWrite .keeper 0x000000 w) s = .next (settled ([], s))
    ∧ exec (.registerWrite .keeper 0x000008 w) s = .next (settled ([], s)))
  ∧ (Conf.f.caps = 0x3F211120#32 ∧ Conf.m4.caps = 0x7ED08890#32 ∧ Conf.m0.caps = 0x7ED00890#32 ∧ Conf.s.caps = 0x92480448#32)
  ∧ (bits Conf.f.caps.toNat 30 2 = 0 ∧ bits Conf.m4.caps.toNat 30 2 = 1 ∧ bits Conf.m0.caps.toNat 30 2 = 1 ∧ bits Conf.s.caps.toNat 30 2 = 2)
  ∧ (∀ k : Conf, bits k.caps.toNat 28 2 + 1 = k.parts ∧ (bits k.caps.toNat 27 1 = 1 ↔ k.atomic = true)
    ∧ (bits k.caps.toNat 26 1 = 1 ↔ k.tree = true) ∧ 2 ^ bits k.caps.toNat 22 4 = k.halls ∧ bits k.caps.toNat 17 5 = k.movers
    ∧ bits k.caps.toNat 13 4 = k.redUnits ∧ bits k.caps.toNat 9 4 = k.linePipes ∧ 8 * bits k.caps.toNat 2 4 = k.lanes
    ∧ bits k.caps.toNat 0 2 = 0)

/-- R123 and R125. -/
def Obligations.AttestationStatusAndDomainStatus : Prop :=
  (∀ s : State, ∃ v : Word, exec (.rcRegisterRead .keeper 0x100004) s = .next (s.emit (.regRead .keeper 0x100004 v))
    ∧ bits v.toNat 27 5 = 0 ∧ bits v.toNat 24 3 = s.att.layer.toNat ∧ bits v.toNat 16 8 = s.att.locks.toNat
    ∧ bits v.toNat 0 16 = s.att.result.toNat)
  ∧ (∀ (w : Word) (s : State), ∃ t, exec (.registerWrite .keeper 0x100004 w) s = .next t ∧ t.att = s.att ∧ t.dom = s.dom)
  ∧ (∀ s : State, ∃ v : Word, exec (.rcRegisterRead .keeper 0x100010) s = .next (s.emit (.regRead .keeper 0x100010 v))
    ∧ v.toNat.testBit 31 = s.dom.joined ∧ v.toNat.testBit 30 = s.dom.stepPending ∧ v.toNat.testBit 29 = false
    ∧ bits v.toNat 16 13 = s.dom.member.toNat ∧ bits v.toNat 0 16 = 0)
  ∧ (∀ (w : Word) (s : State), ∃ t, exec (.registerWrite .keeper 0x100010 w) s = .next t ∧ t.att = s.att
    ∧ t.dom = { s.dom with joined := w.toNat.testBit 31, stepPending := w.toNat.testBit 30, member := BitVec.ofNat 13 (bits w.toNat 16 13) })
  ∧ (exec (.rcRegisterRead .keeper 0x100004) State.reset = .next (State.reset.emit (.regRead .keeper 0x100004 0#32))
    ∧ exec (.rcRegisterRead .keeper 0x100010) State.reset = .next (State.reset.emit (.regRead .keeper 0x100010 0#32)))

/-- R143: both outcomes of LEAVE, by a session that may act. -/
def Obligations.LeaveTheDomain : Prop :=
  (∀ (a : Act) (s : State), mayAct s [.domainManager] a = true → (usedHalls s).any (fun e => isSealed e.2) = true →
    exec (.leave a) s = .next (actDone a.sess 0x401005 Status.permission [] false s))
  ∧ (∀ (a : Act) (s : State), mayAct s [.domainManager] a = true → (usedHalls s).any (fun e => isSealed e.2) = false →
    s.kv.slots.wf = true →
    ∃ v, exec (.leave a) s = .next (actDone a.sess 0x401005 Status.ok [] false v) ∧ domStatusWord v = 0#32
      ∧ ∀ e ∈ v.kv.slots, e.2.valid = true → hClass e.2.handle ≠ 1 ∧ hClass e.2.handle ≠ 2)

/-- R191, R214, R217, R218, R220, R224, R225, R228, R231: TREE_COUNTER_READ and TREE_COUNTER_INCREMENT. -/
def Obligations.TreeCounters : Prop :=
  (∀ (r line : Nat) (s : State), treeServes s r = true → line < treeLines (regionOf s r).desc → (nkeyOf s r).isSome = true →
    s.fcu.armed = false → poisonedPath (treeOf s r) line = false → pathHeld s r line = true →
    exec (.treeCounterRead r line) s
      = .next ((touchNode r 0 (line / 16) (s.trCount 0)).emit (.status (.port Src.tree line) Status.ok (natLe (leafCounter s r line) 8))))
  ∧ (∀ (r line : Nat) (s : State), treeServes s r = true → line < treeLines (regionOf s r).desc → (nkeyOf s r).isSome = true →
    s.fcu.armed = false → poisonedPath (treeOf s r) line = false → pathHeld s r line = true → (treeOf s r).state = .active →
    leafCounter s r line < ctrMax →
    exec (.treeCounterIncrement r line) s
      = .next (((updNode r 0 (line / 16) (fun n => { n with
          held := true, counters := n.counters.set (line % 16) (leafCounter s r line + 1), dirty := true, changed := true })
            (touchNode r 0 (line / 16) (s.trCount 0))).trCount 2).emit
          (.status (.port Src.tree line) Status.ok (natLe (leafCounter s r line + 1) 8))))
  ∧ (∀ (r line : Nat) (s : State), treeServes s r = true → line < treeLines (regionOf s r).desc → (nkeyOf s r).isSome = true →
    s.fcu.armed = false → poisonedPath (treeOf s r) line = false → pathHeld s r line = true → (treeOf s r).state = .active →
    ctrMax ≤ leafCounter s r line →
    exec (.treeCounterIncrement r line) s
      = .next ((touchNode r 0 (line / 16) (s.trCount 0)).emit (.status (.port Src.tree line) Status.keyExhausted [])))
  ∧ (∀ (r line : Nat) (s : State), treeServes s r = true → line < treeLines (regionOf s r).desc → (nkeyOf s r).isSome = true →
    s.fcu.armed = false → poisonedPath (treeOf s r) line = true →
    exec (.treeCounterRead r line) s = .next ((s.trCount 6).emit (.status (.port Src.tree line) Status.poisoned [])))
  ∧ (∀ (r line : Nat) (s : State), treeServes s r = true → line < treeLines (regionOf s r).desc → (nkeyOf s r).isSome = true →
    s.fcu.armed = false → poisonedPath (treeOf s r) line = true → (treeOf s r).state = .active →
    exec (.treeCounterIncrement r line) s = .next ((s.trCount 6).emit (.status (.port Src.tree line) Status.poisoned [])))
  ∧ (∀ (r line : Nat) (s : State), treeServes s r = true → line < treeLines (regionOf s r).desc → nkeyOf s r = none →
    exec (.treeCounterRead r line) s = .next (s.emit (.status (.port Src.tree line) Status.permission [])))
  ∧ (∀ (r line : Nat) (s u : State), treeServes s r = true → line < treeLines (regionOf s r).desc →
    counterOp r line false false s = (.waits, u) →
    exec (.treeCounterRead r line) s = .next (u.updTr fun t => { t with waits := t.waits ++ [(r, line, false)] }))
  ∧ (∀ (r line : Nat) (s u : State), treeServes s r = true → line < treeLines (regionOf s r).desc → (treeOf s r).state = .active →
    counterOp r line true false s = (.waits, u) →
    exec (.treeCounterIncrement r line) s = .next (u.updTr fun t => { t with waits := t.waits ++ [(r, line, true)] }))
  ∧ (∀ (r line : Nat) (s : State), treeServes s r = true → line < treeLines (regionOf s r).desc → (treeOf s r).state = .tainted →
    exec (.treeCounterIncrement r line) s = .next (s.emit (.status (.port Src.tree line) Status.integrityTainted [])))
  ∧ (∀ (r line : Nat) (s : State), s.conf.tree = true → isVault r = true →
    (treeOf s r).state = .saving ∨ (treeOf s r).state = .erasing →
    exec (.treeCounterRead r line) s = .next (s.emit (.status (.port Src.tree line) Status.retryLater []))
    ∧ exec (.treeCounterIncrement r line) s = .next (s.emit (.status (.port Src.tree line) Status.retryLater [])))
  ∧ (∀ (r line : Nat) (s : State), (treeOf s r).state ≠ .saving → (treeOf s r).state ≠ .erasing →
    treeServes s r = false ∨ treeLines (regionOf s r).desc ≤ line →
    exec (.treeCounterRead r line) s = .next (s.emit (.status (.port Src.tree line) Status.permission []))
    ∧ exec (.treeCounterIncrement r line) s = .next (s.emit (.status (.port Src.tree line) Status.permission [])))

/-- R195, R214, R218, R221, R222: the responses of the node table. -/
def Obligations.NodeResponses : Prop :=
  (∀ (p : Bytes) (q : NodeReq) (s : State), s.tr.requests.find? (fun q => q.id == num p 0 4) = some q →
    num p 4 1 = 2 * q.nodes.length → q.fetch = true →
    exec (.nodeFetchResponse p) s = .next (settled ([], verifyFetched (fetchDone q p s)))
    ∧ (fetchDone q p s).tr.requests = s.tr.requests.filter (·.id != q.id))
  ∧ (∀ (p : Bytes) (l j : Nat) (rest : List (Nat × Nat)) (q : NodeReq) (s : State),
    s.tr.requests.find? (fun q => q.id == num p 0 4) = some q → q.nodes = (l, j) :: rest → num p 4 1 = 2 * q.nodes.length →
    q.fetch = false → rspStatus p 0 = 0 → rspStatus p 1 = 0 → (nodeOf (treeOf s q.region) l j).inFlight = true →
    ∃ u, exec (.nodeWritebackResponse p) s = .next (settled ([], u)) ∧ u.tr.requests = s.tr.requests.filter (·.id != q.id)
      ∧ u.tr.trees = (updNode q.region l j (fun n => { n with inFlight := false, dirty := n.dirty || n.changed, changed := false })
          s).tr.trees)
  ∧ (∀ (p : Bytes) (l j : Nat) (rest : List (Nat × Nat)) (q : NodeReq) (s : State),
    s.tr.requests.find? (fun q => q.id == num p 0 4) = some q → q.nodes = (l, j) :: rest → num p 4 1 = 2 * q.nodes.length →
    q.fetch = false → rspStatus p 0 ≠ 0 → q.again = false →
    exec (.nodeWritebackResponse p) s = .next (settled ([], sendNode { q with again := true }
      (s.updTr fun t => { t with requests := t.requests.map fun x => if x.id = q.id then { q with again := true } else x }))))
  ∧ (∀ (p : Bytes) (l j : Nat) (rest : List (Nat × Nat)) (q : NodeReq) (s : State),
    s.tr.requests.find? (fun q => q.id == num p 0 4) = some q → q.nodes = (l, j) :: rest → num p 4 1 = 2 * q.nodes.length →
    q.fetch = false → rspStatus p 0 ≠ 0 → q.again = true → (nodeOf (treeOf s q.region) l j).inFlight = true →
    exec (.nodeWritebackResponse p) s = .next (settled ([], failNode q.region l j 3 false
      (updNode q.region l j (fun n => { n with inFlight := false })
        (s.updTr fun t => { t with requests := t.requests.filter (·.id != q.id) })))))
  ∧ (∀ (p : Bytes) (s : State), s.tr.requests.find? (fun q => q.id == num p 0 4) = none →
    exec (.nodeFetchResponse p) s = .next (settled ([], lineStray true 0 s))
    ∧ exec (.nodeWritebackResponse p) s = .next (settled ([], lineStray true 0 s)))
  ∧ (∀ (p : Bytes) (q : NodeReq) (s : State), s.tr.requests.find? (fun q => q.id == num p 0 4) = some q →
    num p 4 1 ≠ 2 * q.nodes.length →
    exec (.nodeFetchResponse p) s = .next (settled ([], lineStray true 0 s))
    ∧ exec (.nodeWritebackResponse p) s = .next (settled ([], lineStray true 0 s)))
end

