-- ==== Sys2Proof/Laws/Tab.lean ====
section
/-! SUPPORT. The laws of the sparse tables and of the addressed bytes: read after write, and that every operation keeps the
canonical form. -/

namespace Sys2Proof

-- One declaration at a time, so that the elaborator holds few threads (each takes stack of its own).
set_option Elab.async false

/-- A write leaves every other key alone. -/
theorem readKey_insertKey_ne {α : Type} [DecidableEq α] {d : α} {k k' : Nat} {v : α} (h : k' ≠ k) (l : List (Nat × α)) :
    readKey d k' (insertKey d k v l) = readKey d k' l := by
  induction l with
  | nil => unfold insertKey; split <;> simp [readKey, h]
  | cons x l ih =>
    obtain ⟨j, u⟩ := x
    unfold insertKey
    split
    · split <;> simp [readKey, h]
    · split
      · rename_i hj
        subst hj
        split <;> simp [readKey, h]
      · simp only [readKey, ih]

/-- A value that may be listed reads back. -/
theorem readKey_insertKey_of_ne {α : Type} [DecidableEq α] {d : α} {k : Nat} {v : α} (h : v ≠ d) (l : List (Nat × α)) :
    readKey d k (insertKey d k v l) = v := by
  induction l with
  | nil => simp [insertKey, readKey, h]
  | cons x l ih =>
    obtain ⟨j, u⟩ := x
    unfold insertKey
    split
    · simp [readKey, h]
    · split
      · simp [readKey, h]
      · rename_i hj
        simp [readKey, hj, ih]

/-- A key below all listed ones reads as unlisted. -/
theorem readKey_below {α : Type} [DecidableEq α] {d : α} {k lo : Nat} {l : List (Nat × α)} (h : keysOk d lo l = true) (hk : k < lo) :
    readKey d k l = d := by
  induction l generalizing lo with
  | nil => rfl
  | cons x l ih =>
    obtain ⟨j, u⟩ := x
    simp only [keysOk, Bool.and_eq_true, decide_eq_true_eq] at h
    have hne : k ≠ j := by omega
    simp only [readKey, hne, if_false]
    exact ih h.2 (by omega)

/-- In a table in its canonical form, every value reads back. -/
theorem readKey_insertKey {α : Type} [DecidableEq α] {d : α} {k lo : Nat} {v : α} {l : List (Nat × α)} (h : keysOk d lo l = true) :
    readKey d k (insertKey d k v l) = v := by
  by_cases hv : v = d
  · subst hv
    induction l generalizing lo with
    | nil => simp [insertKey, readKey]
    | cons x l ih =>
      obtain ⟨j, u⟩ := x
      have h' := h
      simp only [keysOk, Bool.and_eq_true, decide_eq_true_eq] at h
      unfold insertKey
      split
      · rename_i hk
        simp only [if_true, readKey, show k ≠ j by omega, if_false]
        exact readKey_below h.2 (by omega)
      · split
        · rename_i hj
          subst hj
          simp only [if_true]
          exact readKey_below h.2 (by omega)
        · rename_i hj
          simp only [readKey, hj, if_false]
          exact ih h.2
  · exact readKey_insertKey_of_ne hv l

theorem keysOk_mono {α : Type} [DecidableEq α] {d : α} {lo lo' : Nat} {l : List (Nat × α)} (h : keysOk d lo l = true) (hl : lo' ≤ lo) :
    keysOk d lo' l = true := by
  cases l with
  | nil => rfl
  | cons x l =>
    simp only [keysOk, Bool.and_eq_true, decide_eq_true_eq] at h ⊢
    exact ⟨⟨by omega, h.1.2⟩, h.2⟩

/-- A write keeps the canonical form. -/
theorem keysOk_insertKey {α : Type} [DecidableEq α] {d : α} {k lo : Nat} {v : α} {l : List (Nat × α)} (h : keysOk d lo l = true)
    (hk : lo ≤ k) : keysOk d lo (insertKey d k v l) = true := by
  induction l generalizing lo with
  | nil => unfold insertKey; split <;> simp_all [keysOk]
  | cons x l ih =>
    obtain ⟨j, u⟩ := x
    have h' := h
    simp only [keysOk, Bool.and_eq_true, decide_eq_true_eq] at h
    unfold insertKey
    split
    · split
      · exact h'
      · simp only [keysOk, Bool.and_eq_true, decide_eq_true_eq]
        exact ⟨⟨hk, by assumption⟩, ⟨by omega, h.1.2⟩, h.2⟩
    · split
      · split
        · exact keysOk_mono h.2 (by omega)
        · simp only [keysOk, Bool.and_eq_true, decide_eq_true_eq]
          exact ⟨⟨hk, by assumption⟩, by subst_vars; exact h.2⟩
      · simp only [keysOk, Bool.and_eq_true, decide_eq_true_eq]
        exact ⟨⟨h.1.1, h.1.2⟩, ih h.2 (by omega)⟩

/-- Striking entries keeps the canonical form. -/
theorem keysOk_filter {α : Type} [DecidableEq α] {d : α} {lo : Nat} {l : List (Nat × α)} (p : Nat × α → Bool) (h : keysOk d lo l = true) :
    keysOk d lo (l.filter p) = true := by
  induction l generalizing lo with
  | nil => rfl
  | cons x l ih =>
    obtain ⟨j, u⟩ := x
    simp only [keysOk, Bool.and_eq_true, decide_eq_true_eq] at h
    rw [List.filter_cons]
    split
    · simp only [keysOk, Bool.and_eq_true, decide_eq_true_eq]
      exact ⟨h.1, ih h.2⟩
    · exact ih (keysOk_mono h.2 (by omega))

namespace Tab

variable {α : Type} [Inhabited α] [DecidableEq α]

@[simp] theorem get_set_ne {t : Tab α} {k k' : Nat} {v : α} (h : k' ≠ k) : (t.set k v).get k' = t.get k' := readKey_insertKey_ne h t

theorem get_set_of_ne {t : Tab α} {k : Nat} {v : α} (h : v ≠ default) : (t.set k v).get k = v := readKey_insertKey_of_ne h t

theorem get_set {t : Tab α} (h : t.wf = true) {k : Nat} {v : α} : (t.set k v).get k = v := readKey_insertKey h

@[simp] theorem get_mod_ne {t : Tab α} {k k' : Nat} {f : α → α} (h : k' ≠ k) : (t.mod k f).get k' = t.get k' := readKey_insertKey_ne h t

theorem get_mod_of_ne {t : Tab α} {k : Nat} {f : α → α} (h : f (t.get k) ≠ default) : (t.mod k f).get k = f (t.get k) :=
  readKey_insertKey_of_ne h t

theorem get_mod {t : Tab α} (h : t.wf = true) {k : Nat} {f : α → α} : (t.mod k f).get k = f (t.get k) := readKey_insertKey h

theorem wf_set {t : Tab α} (h : t.wf = true) {k : Nat} {v : α} : (t.set k v).wf = true := keysOk_insertKey h (Nat.zero_le _)

theorem wf_mod {t : Tab α} (h : t.wf = true) {k : Nat} {f : α → α} : (t.mod k f).wf = true := wf_set h

theorem wf_nil : Tab.wf ([] : Tab α) = true := rfl

/-- An unlisted key, and a table with nothing listed. -/
@[simp] theorem get_nil {k : Nat} : Tab.get ([] : Tab α) k = default := rfl

end Tab

namespace Machine

/-- Read after write of a byte. -/
theorem Memory.read_write {d : Byte} {m : Memory} (h : Memory.wf d m = true) {a : Nat} {b : Byte} :
    Memory.read d (Memory.write d m a b) a = b := readKey_insertKey h

theorem Memory.read_write_ne {d : Byte} {m : Memory} {a a' : Nat} {b : Byte} (h : a' ≠ a) :
    Memory.read d (Memory.write d m a b) a' = Memory.read d m a' := readKey_insertKey_ne h m

theorem Memory.wf_write {d : Byte} {m : Memory} (h : Memory.wf d m = true) {a : Nat} {b : Byte} :
    Memory.wf d (Memory.write d m a b) = true := keysOk_insertKey h (Nat.zero_le _)

theorem Memory.wf_writeBytes {d : Byte} {m : Memory} (h : Memory.wf d m = true) {a : Nat} {bs : Bytes} :
    Memory.wf d (Memory.writeBytes d m a bs) = true := by
  induction bs generalizing m a with
  | nil => exact h
  | cons b bs ih => exact ih (Memory.wf_write h)

/-- A byte outside the written span reads as before. -/
theorem Memory.read_writeBytes_out {d : Byte} {m : Memory} {a x : Nat} {bs : Bytes} (h : x < a ∨ a + bs.length ≤ x) :
    Memory.read d (Memory.writeBytes d m a bs) x = Memory.read d m x := by
  induction bs generalizing m a with
  | nil => rfl
  | cons b bs ih =>
    simp only [List.length_cons] at h
    rw [Memory.writeBytes, ih (by omega), Memory.read_write_ne (by omega)]

/-- A byte inside it reads as the byte written. -/
theorem Memory.read_writeBytes_in {d : Byte} {m : Memory} (h : Memory.wf d m = true) {a i : Nat} {bs : Bytes} (hi : i < bs.length) :
    Memory.read d (Memory.writeBytes d m a bs) (a + i) = bs.getD i 0#8 := by
  induction bs generalizing m a i with
  | nil => simp at hi
  | cons b bs ih =>
    cases i with
    | zero =>
      rw [Memory.writeBytes, Memory.read_writeBytes_out (by omega), Nat.add_zero, Memory.read_write h]
      rfl
    | succ i =>
      simp only [List.length_cons] at hi
      rw [Memory.writeBytes, show a + (i + 1) = a + 1 + i by omega, ih (Memory.wf_write h) (by omega)]
      rfl

/-! ### The flash -/

theorem flashErase_wf {a n : Nat} {s : State} (h : Memory.wf flashFill s.pwr.flash = true) :
    Memory.wf flashFill (flashErase a n s).pwr.flash = true := keysOk_filter _ h

theorem flashEraseFrom_wf {a : Nat} {s : State} (h : Memory.wf flashFill s.pwr.flash = true) :
    Memory.wf flashFill (flashEraseFrom a s).pwr.flash = true := keysOk_filter _ h

theorem flashWrite_wf {a : Nat} {b : Bytes} {s : State} (h : Memory.wf flashFill s.pwr.flash = true) :
    Memory.wf flashFill (flashWrite a b s).pwr.flash = true := Memory.wf_writeBytes h

theorem flashProgram_wf {a i : Nat} {b : Bytes} {s : State} (h : Memory.wf flashFill s.pwr.flash = true) :
    Memory.wf flashFill (flashProgram a b i s).pwr.flash = true := by
  induction b generalizing i s with
  | nil => exact h
  | cons x b ih => exact ih (Memory.wf_write h)

end Machine

end Sys2Proof
end

