-- ==== Sys2Proof/Laws/Frame.lean ====
section
/-! SUPPORT. What an operation may change: a mask over the parts of the state, one law for each update function, and how the laws
compose. The generated files `Fr…` beside this one say the mask of every operation of the machine. -/

namespace Sys2Proof.Machine

-- One declaration at a time, so that the elaborator holds few threads (each takes stack of its own).
set_option Elab.async false

/-- What every operation keeps: the canonical forms of the flash, of the key region and of the OTP words, and the bits
programmed in them. -/
structure Kept (s t : State) : Prop where
  flash : Memory.wf flashFill s.pwr.flash = true → Memory.wf flashFill t.pwr.flash = true
  region : Memory.wf keyRegionFill s.kv.region = true → Memory.wf keyRegionFill t.kv.region = true
  slots : s.kv.slots.wf = true → t.kv.slots.wf = true
  otp : s.lc.otp.wf = true → t.lc.otp.wf = true
  up : ∀ w, s.lc.otp.get w ||| t.lc.otp.get w = t.lc.otp.get w

theorem Kept.same {s t : State} (hf : t.pwr.flash = s.pwr.flash) (hr : t.kv.region = s.kv.region)
    (hs : s.kv.slots.wf = true → t.kv.slots.wf = true) (ho : t.lc.otp = s.lc.otp) :
    Kept s t := by
  refine ⟨fun h => ?_, fun h => ?_, hs, fun h => ?_, fun w => ?_⟩
  · rw [hf]; exact h
  · rw [hr]; exact h
  · rw [ho]; exact h
  · rw [ho]; exact BitVec.or_self

theorem Kept.refl {s : State} : Kept s s := Kept.same rfl rfl id rfl

theorem Kept.trans {s t u : State} (h : Kept s t) (k : Kept t u) : Kept s u := by
  refine ⟨k.flash ∘ h.flash, k.region ∘ h.region, k.slots ∘ h.slots, k.otp ∘ h.otp, fun w => ?_⟩
  have a := h.up w
  have b := k.up w
  rw [← b, ← BitVec.or_assoc, a]

/-- Programming a word keeps the form of the OTP words and every bit of them. -/
theorem otpMod_keeps {o : Tab (BitVec 39)} {k : Nat} {f : BitVec 39 → BitVec 39} (hf : ∀ x, x ||| f x = f x) :
    (o.wf = true → (o.mod k f).wf = true) ∧ ∀ w, o.get w ||| (o.mod k f).get w = (o.mod k f).get w := by
  refine ⟨fun h => Tab.wf_mod h, fun w => ?_⟩
  by_cases e : w = k
  · subst e
    by_cases z : f (o.get w) = default
    · have b := hf (o.get w)
      rw [z] at b
      have c : o.get w = 0#39 := by
        have : (default : BitVec 39) = 0#39 := rfl
        rw [this] at b
        exact (BitVec.or_eq_zero_iff.mp b).1
      rw [c, BitVec.zero_or]
    · rw [Tab.get_mod_of_ne z]
      exact hf _
  · rw [Tab.get_mod_ne e]
    exact BitVec.or_self

/-- Striking entries off a table keeps its form. -/
theorem clear_wf {α : Type} [Inhabited α] [DecidableEq α] {l : List Nat} {t : Tab α} (h : t.wf = true) :
    (Sys2Proof.forAll l (fun i (t : Tab α) => t.set i default) t).wf = true := by
  induction l generalizing t with
  | nil => exact h
  | cons a l ih => exact ih (Tab.wf_set h)

theorem otpProgram_up (x b : BitVec 39) : x ||| otpProgram x b = otpProgram x b := by
  unfold otpProgram
  rw [← BitVec.or_assoc, BitVec.or_self]

/-- A state change: a part whose bit in `w` is 0 is unchanged. What left the block stays left, and the values drawn stay
drawn. -/
structure Frame (w : Nat) (s t : State) : Prop where
  base : w.testBit 0 = false → t.pending = s.pending ∧ t.conf = s.conf
  pins : w.testBit 1 = false → t.pins = s.pins
  pinsRest : w.testBit 2 = false → t.pins.rest = s.pins.rest
  mp : w.testBit 3 = false → t.mp = s.mp
  mpNext : w.testBit 4 = false → t.mpNext = s.mpNext
  hostReads : w.testBit 5 = false → t.hostReads = s.hostReads
  kv : w.testBit 6 = false → t.kv = s.kv
  kvRest : w.testBit 7 = false → t.kv.rest = s.kv.rest
  region : w.testBit 8 = false → t.kv.region = s.kv.region
  lc : w.testBit 9 = false → t.lc = s.lc
  otp : w.testBit 10 = false → t.lc.otp = s.lc.otp
  att : w.testBit 11 = false → t.att = s.att
  dom : w.testBit 12 = false → t.dom = s.dom
  ls : w.testBit 13 = false → t.ls = s.ls
  lsRest : w.testBit 14 = false → t.ls.rest = s.ls.rest
  ln : w.testBit 15 = false → t.ln = s.ln
  lnRest : w.testBit 16 = false → t.ln.rest = s.ln.rest
  tr : w.testBit 17 = false → t.tr = s.tr
  trRest : w.testBit 18 = false → t.tr.rest = s.tr.rest
  mv : w.testBit 19 = false → t.mv = s.mv
  mvRest : w.testBit 20 = false → t.mv.rest = s.mv.rest
  rd : w.testBit 21 = false → t.rd = s.rd
  rdRest : w.testBit 22 = false → t.rd.rest = s.rd.rest
  au : w.testBit 23 = false → t.au = s.au
  auRest : w.testBit 24 = false → t.au.rest = s.au.rest
  fe : w.testBit 25 = false → t.fe = s.fe
  feRest : w.testBit 26 = false → t.fe.rest = s.fe.rest
  adm : w.testBit 27 = false → t.adm = s.adm
  admRest : w.testBit 28 = false → t.adm.rest = s.adm.rest
  fs : w.testBit 29 = false → t.fs = s.fs
  itu : w.testBit 30 = false → t.itu = s.itu
  ituRest : w.testBit 31 = false → t.itu.rest = s.itu.rest
  fcu : w.testBit 32 = false → t.fcu = s.fcu
  fcuRest : w.testBit 33 = false → t.fcu.rest = s.fcu.rest
  hr : w.testBit 34 = false → t.hr = s.hr
  hrRest : w.testBit 35 = false → t.hr.rest = s.hr.rest
  dbg : w.testBit 36 = false → t.dbg = s.dbg
  dbgRest : w.testBit 37 = false → t.dbg.rest = s.dbg.rest
  pwr : w.testBit 38 = false → t.pwr = s.pwr
  pwrRest : w.testBit 39 = false → t.pwr.rest = s.pwr.rest
  flash : w.testBit 40 = false → t.pwr.flash = s.pwr.flash
  mgt : w.testBit 41 = false → t.mgt = s.mgt
  mgtRest : w.testBit 42 = false → t.mgt.rest = s.mgt.rest
  draws : w.testBit 43 = false → t.draws = s.draws
  frees : w.testBit 44 = false → t.frees = s.frees
  out : w.testBit 45 = false → t.out = s.out
  attRest : w.testBit 46 = false → t.att.rest = s.att.rest
  grows : s.out <:+ t.out ∧ s.draws ≤ t.draws ∧ s.frees ≤ t.frees
  keeps : Kept s t

/-- The bits of a mask that lies in another. -/
theorem mask_bit {v w : Nat} (h : v ||| w = w) (i : Nat) (hi : w.testBit i = false) : v.testBit i = false := by
  rw [← h, Nat.testBit_or] at hi
  cases hv : v.testBit i <;> simp_all

/-- Masks compose. -/
theorem mask_le {u v w : Nat} (h : u ||| v = v) (k : v ||| w = w) : u ||| w = w := by
  rw [← k, ← Nat.or_assoc, h]

theorem Frame.refl {w : Nat} {s : State} : Frame w s s := by
  constructor
  case base => exact fun _ => ⟨rfl, rfl⟩
  case grows => exact ⟨List.suffix_rfl, Nat.le_refl _, Nat.le_refl _⟩
  case keeps => exact Kept.refl
  all_goals exact fun _ => rfl

theorem Frame.trans {w : Nat} {s t u : State} (v : Nat) (h : Frame w s t) (k : Frame v t u) (hv : v ||| w = w) : Frame w s u :=
  ⟨fun i => ⟨(k.base (mask_bit hv _ i)).1.trans (h.base i).1, (k.base (mask_bit hv _ i)).2.trans (h.base i).2⟩,
   fun i => (k.pins (mask_bit hv _ i)).trans (h.pins i),
   fun i => (k.pinsRest (mask_bit hv _ i)).trans (h.pinsRest i),
   fun i => (k.mp (mask_bit hv _ i)).trans (h.mp i),
   fun i => (k.mpNext (mask_bit hv _ i)).trans (h.mpNext i),
   fun i => (k.hostReads (mask_bit hv _ i)).trans (h.hostReads i),
   fun i => (k.kv (mask_bit hv _ i)).trans (h.kv i),
   fun i => (k.kvRest (mask_bit hv _ i)).trans (h.kvRest i),
   fun i => (k.region (mask_bit hv _ i)).trans (h.region i),
   fun i => (k.lc (mask_bit hv _ i)).trans (h.lc i),
   fun i => (k.otp (mask_bit hv _ i)).trans (h.otp i),
   fun i => (k.att (mask_bit hv _ i)).trans (h.att i),
   fun i => (k.dom (mask_bit hv _ i)).trans (h.dom i),
   fun i => (k.ls (mask_bit hv _ i)).trans (h.ls i),
   fun i => (k.lsRest (mask_bit hv _ i)).trans (h.lsRest i),
   fun i => (k.ln (mask_bit hv _ i)).trans (h.ln i),
   fun i => (k.lnRest (mask_bit hv _ i)).trans (h.lnRest i),
   fun i => (k.tr (mask_bit hv _ i)).trans (h.tr i),
   fun i => (k.trRest (mask_bit hv _ i)).trans (h.trRest i),
   fun i => (k.mv (mask_bit hv _ i)).trans (h.mv i),
   fun i => (k.mvRest (mask_bit hv _ i)).trans (h.mvRest i),
   fun i => (k.rd (mask_bit hv _ i)).trans (h.rd i),
   fun i => (k.rdRest (mask_bit hv _ i)).trans (h.rdRest i),
   fun i => (k.au (mask_bit hv _ i)).trans (h.au i),
   fun i => (k.auRest (mask_bit hv _ i)).trans (h.auRest i),
   fun i => (k.fe (mask_bit hv _ i)).trans (h.fe i),
   fun i => (k.feRest (mask_bit hv _ i)).trans (h.feRest i),
   fun i => (k.adm (mask_bit hv _ i)).trans (h.adm i),
   fun i => (k.admRest (mask_bit hv _ i)).trans (h.admRest i),
   fun i => (k.fs (mask_bit hv _ i)).trans (h.fs i),
   fun i => (k.itu (mask_bit hv _ i)).trans (h.itu i),
   fun i => (k.ituRest (mask_bit hv _ i)).trans (h.ituRest i),
   fun i => (k.fcu (mask_bit hv _ i)).trans (h.fcu i),
   fun i => (k.fcuRest (mask_bit hv _ i)).trans (h.fcuRest i),
   fun i => (k.hr (mask_bit hv _ i)).trans (h.hr i),
   fun i => (k.hrRest (mask_bit hv _ i)).trans (h.hrRest i),
   fun i => (k.dbg (mask_bit hv _ i)).trans (h.dbg i),
   fun i => (k.dbgRest (mask_bit hv _ i)).trans (h.dbgRest i),
   fun i => (k.pwr (mask_bit hv _ i)).trans (h.pwr i),
   fun i => (k.pwrRest (mask_bit hv _ i)).trans (h.pwrRest i),
   fun i => (k.flash (mask_bit hv _ i)).trans (h.flash i),
   fun i => (k.mgt (mask_bit hv _ i)).trans (h.mgt i),
   fun i => (k.mgtRest (mask_bit hv _ i)).trans (h.mgtRest i),
   fun i => (k.draws (mask_bit hv _ i)).trans (h.draws i),
   fun i => (k.frees (mask_bit hv _ i)).trans (h.frees i),
   fun i => (k.out (mask_bit hv _ i)).trans (h.out i),
   fun i => (k.attRest (mask_bit hv _ i)).trans (h.attRest i),
   ⟨h.grows.1.trans k.grows.1, h.grows.2.1.trans k.grows.2.1, h.grows.2.2.trans k.grows.2.2⟩,
   h.keeps.trans k.keeps⟩

theorem Frame.mono {v w : Nat} {s t : State} (h : Frame v s t) (hv : v ||| w = w) : Frame w s t := Frame.refl.trans v h hv

/-! ### One law for each update function -/

theorem Frame.updPins {w : Nat} {s t : State} {f : Pins → Pins} (h : Frame w s t) (hw : 6 ||| w = w) :
    Frame w s (t.updPins f) :=
  h.trans 6 { Frame.refl (s := t) with pins := fun i => absurd i (by decide), pinsRest := fun i => absurd i (by decide), keeps := Kept.same rfl rfl id rfl } hw

theorem Frame.updPinsSoft {w : Nat} {s t : State} {f : Pins → Pins} (hf : ∀ x, (f x).rest = x.rest) (h : Frame w s t) (hw : 2 ||| w = w) :
    Frame w s (t.updPins f) :=
  h.trans 2 { Frame.refl (s := t) with pins := fun i => absurd i (by decide), pinsRest := fun _ => hf _, keeps := Kept.same rfl rfl id rfl } hw

theorem Frame.updKv {w : Nat} {s t : State} {f : Kv → Kv} (hf : ∀ x, (f x).region = x.region) (h : Frame w s t) (hw : 192 ||| w = w)
    (hs : ∀ x, x.slots.wf = true → (f x).slots.wf = true := by
      first
      | exact fun _ h => h
      | exact fun _ h => Tab.wf_set h
      | exact fun _ h => Tab.wf_mod h
      | exact fun _ h => clear_wf h
      | exact fun _ _ => Tab.wf_nil) :
    Frame w s (t.updKv f) :=
  h.trans 192 { Frame.refl (s := t) with kv := fun i => absurd i (by decide), kvRest := fun i => absurd i (by decide), region := fun _ => hf _, keeps := Kept.same rfl (hf _) (hs _) rfl } hw

theorem Frame.updKvRegion {w : Nat} {s t : State} {f : Kv → Kv} (hf : ∀ x, Memory.wf keyRegionFill x.region = true → Memory.wf keyRegionFill (f x).region = true) (h : Frame w s t) (hw : 448 ||| w = w)
    (hs : ∀ x, x.slots.wf = true → (f x).slots.wf = true := by
      first
      | exact fun _ h => h
      | exact fun _ h => Tab.wf_set h
      | exact fun _ h => Tab.wf_mod h
      | exact fun _ h => clear_wf h
      | exact fun _ _ => Tab.wf_nil) :
    Frame w s (t.updKv f) :=
  h.trans 448 { Frame.refl (s := t) with kv := fun i => absurd i (by decide), kvRest := fun i => absurd i (by decide), region := fun i => absurd i (by decide), keeps := ⟨id, hf _, hs _, id, fun _ => BitVec.or_self⟩ } hw

theorem Frame.updKvSoft {w : Nat} {s t : State} {f : Kv → Kv} (hf : ∀ x, (f x).rest = x.rest ∧ (f x).region = x.region) (h : Frame w s t) (hw : 64 ||| w = w)
    (hs : ∀ x, x.slots.wf = true → (f x).slots.wf = true := by
      first
      | exact fun _ h => h
      | exact fun _ h => Tab.wf_set h
      | exact fun _ h => Tab.wf_mod h
      | exact fun _ h => clear_wf h
      | exact fun _ _ => Tab.wf_nil) :
    Frame w s (t.updKv f) :=
  h.trans 64 { Frame.refl (s := t) with kv := fun i => absurd i (by decide), kvRest := fun _ => (hf _).1, region := fun _ => (hf _).2, keeps := Kept.same rfl (hf _).2 (hs _) rfl } hw

theorem Frame.updLc {w : Nat} {s t : State} {f : Lc → Lc} (hf : ∀ x, (f x).otp = x.otp) (h : Frame w s t) (hw : 512 ||| w = w) :
    Frame w s (t.updLc f) :=
  h.trans 512 { Frame.refl (s := t) with lc := fun i => absurd i (by decide), otp := fun _ => hf _, keeps := Kept.same rfl rfl id (hf _) } hw

theorem Frame.updLcOtp {w : Nat} {s t : State} {f : Lc → Lc} (hf : ∀ x, (x.otp.wf = true → (f x).otp.wf = true) ∧ ∀ w, x.otp.get w ||| (f x).otp.get w = (f x).otp.get w) (h : Frame w s t) (hw : 1536 ||| w = w) :
    Frame w s (t.updLc f) :=
  h.trans 1536 { Frame.refl (s := t) with lc := fun i => absurd i (by decide), otp := fun i => absurd i (by decide), keeps := ⟨id, id, id, (hf _).1, (hf _).2⟩ } hw

theorem Frame.updAt {w : Nat} {s t : State} {f : At → At} (h : Frame w s t) (hw : 70368744179712 ||| w = w) :
    Frame w s (t.updAt f) :=
  h.trans 70368744179712 { Frame.refl (s := t) with att := fun i => absurd i (by decide), attRest := fun i => absurd i (by decide), keeps := Kept.same rfl rfl id rfl } hw

theorem Frame.updAtSoft {w : Nat} {s t : State} {f : At → At} (hf : ∀ x, (f x).rest = x.rest) (h : Frame w s t) (hw : 2048 ||| w = w) :
    Frame w s (t.updAt f) :=
  h.trans 2048 { Frame.refl (s := t) with att := fun i => absurd i (by decide), attRest := fun _ => hf _, keeps := Kept.same rfl rfl id rfl } hw

theorem Frame.updDom {w : Nat} {s t : State} {f : Dom → Dom} (h : Frame w s t) (hw : 4096 ||| w = w) :
    Frame w s (t.updDom f) :=
  h.trans 4096 { Frame.refl (s := t) with dom := fun i => absurd i (by decide), keeps := Kept.same rfl rfl id rfl } hw

theorem Frame.updLs {w : Nat} {s t : State} {f : Ls → Ls} (h : Frame w s t) (hw : 24576 ||| w = w) :
    Frame w s (t.updLs f) :=
  h.trans 24576 { Frame.refl (s := t) with ls := fun i => absurd i (by decide), lsRest := fun i => absurd i (by decide), keeps := Kept.same rfl rfl id rfl } hw

theorem Frame.updLsSoft {w : Nat} {s t : State} {f : Ls → Ls} (hf : ∀ x, (f x).rest = x.rest) (h : Frame w s t) (hw : 8192 ||| w = w) :
    Frame w s (t.updLs f) :=
  h.trans 8192 { Frame.refl (s := t) with ls := fun i => absurd i (by decide), lsRest := fun _ => hf _, keeps := Kept.same rfl rfl id rfl } hw

theorem Frame.updLn {w : Nat} {s t : State} {f : Ln → Ln} (h : Frame w s t) (hw : 98304 ||| w = w) :
    Frame w s (t.updLn f) :=
  h.trans 98304 { Frame.refl (s := t) with ln := fun i => absurd i (by decide), lnRest := fun i => absurd i (by decide), keeps := Kept.same rfl rfl id rfl } hw

theorem Frame.updLnSoft {w : Nat} {s t : State} {f : Ln → Ln} (hf : ∀ x, (f x).rest = x.rest) (h : Frame w s t) (hw : 32768 ||| w = w) :
    Frame w s (t.updLn f) :=
  h.trans 32768 { Frame.refl (s := t) with ln := fun i => absurd i (by decide), lnRest := fun _ => hf _, keeps := Kept.same rfl rfl id rfl } hw

theorem Frame.updTr {w : Nat} {s t : State} {f : Tr → Tr} (h : Frame w s t) (hw : 393216 ||| w = w) :
    Frame w s (t.updTr f) :=
  h.trans 393216 { Frame.refl (s := t) with tr := fun i => absurd i (by decide), trRest := fun i => absurd i (by decide), keeps := Kept.same rfl rfl id rfl } hw

theorem Frame.updTrSoft {w : Nat} {s t : State} {f : Tr → Tr} (hf : ∀ x, (f x).rest = x.rest) (h : Frame w s t) (hw : 131072 ||| w = w) :
    Frame w s (t.updTr f) :=
  h.trans 131072 { Frame.refl (s := t) with tr := fun i => absurd i (by decide), trRest := fun _ => hf _, keeps := Kept.same rfl rfl id rfl } hw

theorem Frame.updMv {w : Nat} {s t : State} {f : Mv → Mv} (h : Frame w s t) (hw : 1572864 ||| w = w) :
    Frame w s (t.updMv f) :=
  h.trans 1572864 { Frame.refl (s := t) with mv := fun i => absurd i (by decide), mvRest := fun i => absurd i (by decide), keeps := Kept.same rfl rfl id rfl } hw

theorem Frame.updMvSoft {w : Nat} {s t : State} {f : Mv → Mv} (hf : ∀ x, (f x).rest = x.rest) (h : Frame w s t) (hw : 524288 ||| w = w) :
    Frame w s (t.updMv f) :=
  h.trans 524288 { Frame.refl (s := t) with mv := fun i => absurd i (by decide), mvRest := fun _ => hf _, keeps := Kept.same rfl rfl id rfl } hw

theorem Frame.updRd {w : Nat} {s t : State} {f : Rd → Rd} (h : Frame w s t) (hw : 6291456 ||| w = w) :
    Frame w s (t.updRd f) :=
  h.trans 6291456 { Frame.refl (s := t) with rd := fun i => absurd i (by decide), rdRest := fun i => absurd i (by decide), keeps := Kept.same rfl rfl id rfl } hw

theorem Frame.updRdSoft {w : Nat} {s t : State} {f : Rd → Rd} (hf : ∀ x, (f x).rest = x.rest) (h : Frame w s t) (hw : 2097152 ||| w = w) :
    Frame w s (t.updRd f) :=
  h.trans 2097152 { Frame.refl (s := t) with rd := fun i => absurd i (by decide), rdRest := fun _ => hf _, keeps := Kept.same rfl rfl id rfl } hw

theorem Frame.updAu {w : Nat} {s t : State} {f : Au → Au} (h : Frame w s t) (hw : 25165824 ||| w = w) :
    Frame w s (t.updAu f) :=
  h.trans 25165824 { Frame.refl (s := t) with au := fun i => absurd i (by decide), auRest := fun i => absurd i (by decide), keeps := Kept.same rfl rfl id rfl } hw

theorem Frame.updAuSoft {w : Nat} {s t : State} {f : Au → Au} (hf : ∀ x, (f x).rest = x.rest) (h : Frame w s t) (hw : 8388608 ||| w = w) :
    Frame w s (t.updAu f) :=
  h.trans 8388608 { Frame.refl (s := t) with au := fun i => absurd i (by decide), auRest := fun _ => hf _, keeps := Kept.same rfl rfl id rfl } hw

theorem Frame.updFe {w : Nat} {s t : State} {f : Fe → Fe} (h : Frame w s t) (hw : 100663296 ||| w = w) :
    Frame w s (t.updFe f) :=
  h.trans 100663296 { Frame.refl (s := t) with fe := fun i => absurd i (by decide), feRest := fun i => absurd i (by decide), keeps := Kept.same rfl rfl id rfl } hw

theorem Frame.updFeSoft {w : Nat} {s t : State} {f : Fe → Fe} (hf : ∀ x, (f x).rest = x.rest) (h : Frame w s t) (hw : 33554432 ||| w = w) :
    Frame w s (t.updFe f) :=
  h.trans 33554432 { Frame.refl (s := t) with fe := fun i => absurd i (by decide), feRest := fun _ => hf _, keeps := Kept.same rfl rfl id rfl } hw

theorem Frame.updAdm {w : Nat} {s t : State} {f : Adm → Adm} (h : Frame w s t) (hw : 402653184 ||| w = w) :
    Frame w s (t.updAdm f) :=
  h.trans 402653184 { Frame.refl (s := t) with adm := fun i => absurd i (by decide), admRest := fun i => absurd i (by decide), keeps := Kept.same rfl rfl id rfl } hw

theorem Frame.updAdmSoft {w : Nat} {s t : State} {f : Adm → Adm} (hf : ∀ x, (f x).rest = x.rest) (h : Frame w s t) (hw : 134217728 ||| w = w) :
    Frame w s (t.updAdm f) :=
  h.trans 134217728 { Frame.refl (s := t) with adm := fun i => absurd i (by decide), admRest := fun _ => hf _, keeps := Kept.same rfl rfl id rfl } hw

theorem Frame.updFs {w : Nat} {s t : State} {f : Fs → Fs} (h : Frame w s t) (hw : 536870912 ||| w = w) :
    Frame w s (t.updFs f) :=
  h.trans 536870912 { Frame.refl (s := t) with fs := fun i => absurd i (by decide), keeps := Kept.same rfl rfl id rfl } hw

theorem Frame.updItu {w : Nat} {s t : State} {f : Itu → Itu} (h : Frame w s t) (hw : 3221225472 ||| w = w) :
    Frame w s (t.updItu f) :=
  h.trans 3221225472 { Frame.refl (s := t) with itu := fun i => absurd i (by decide), ituRest := fun i => absurd i (by decide), keeps := Kept.same rfl rfl id rfl } hw

theorem Frame.updItuSoft {w : Nat} {s t : State} {f : Itu → Itu} (hf : ∀ x, (f x).rest = x.rest) (h : Frame w s t) (hw : 1073741824 ||| w = w) :
    Frame w s (t.updItu f) :=
  h.trans 1073741824 { Frame.refl (s := t) with itu := fun i => absurd i (by decide), ituRest := fun _ => hf _, keeps := Kept.same rfl rfl id rfl } hw

theorem Frame.updFcu {w : Nat} {s t : State} {f : Fcu → Fcu} (h : Frame w s t) (hw : 12884901888 ||| w = w) :
    Frame w s (t.updFcu f) :=
  h.trans 12884901888 { Frame.refl (s := t) with fcu := fun i => absurd i (by decide), fcuRest := fun i => absurd i (by decide), keeps := Kept.same rfl rfl id rfl } hw

theorem Frame.updFcuSoft {w : Nat} {s t : State} {f : Fcu → Fcu} (hf : ∀ x, (f x).rest = x.rest) (h : Frame w s t) (hw : 4294967296 ||| w = w) :
    Frame w s (t.updFcu f) :=
  h.trans 4294967296 { Frame.refl (s := t) with fcu := fun i => absurd i (by decide), fcuRest := fun _ => hf _, keeps := Kept.same rfl rfl id rfl } hw

theorem Frame.updHr {w : Nat} {s t : State} {f : Hr → Hr} (h : Frame w s t) (hw : 51539607552 ||| w = w) :
    Frame w s (t.updHr f) :=
  h.trans 51539607552 { Frame.refl (s := t) with hr := fun i => absurd i (by decide), hrRest := fun i => absurd i (by decide), keeps := Kept.same rfl rfl id rfl } hw

theorem Frame.updHrSoft {w : Nat} {s t : State} {f : Hr → Hr} (hf : ∀ x, (f x).rest = x.rest) (h : Frame w s t) (hw : 17179869184 ||| w = w) :
    Frame w s (t.updHr f) :=
  h.trans 17179869184 { Frame.refl (s := t) with hr := fun i => absurd i (by decide), hrRest := fun _ => hf _, keeps := Kept.same rfl rfl id rfl } hw

theorem Frame.updDbg {w : Nat} {s t : State} {f : Dbg → Dbg} (h : Frame w s t) (hw : 206158430208 ||| w = w) :
    Frame w s (t.updDbg f) :=
  h.trans 206158430208 { Frame.refl (s := t) with dbg := fun i => absurd i (by decide), dbgRest := fun i => absurd i (by decide), keeps := Kept.same rfl rfl id rfl } hw

theorem Frame.updDbgSoft {w : Nat} {s t : State} {f : Dbg → Dbg} (hf : ∀ x, (f x).rest = x.rest) (h : Frame w s t) (hw : 68719476736 ||| w = w) :
    Frame w s (t.updDbg f) :=
  h.trans 68719476736 { Frame.refl (s := t) with dbg := fun i => absurd i (by decide), dbgRest := fun _ => hf _, keeps := Kept.same rfl rfl id rfl } hw

theorem Frame.updPwr {w : Nat} {s t : State} {f : Pwr → Pwr} (hf : ∀ x, (f x).flash = x.flash) (h : Frame w s t) (hw : 824633720832 ||| w = w) :
    Frame w s (t.updPwr f) :=
  h.trans 824633720832 { Frame.refl (s := t) with pwr := fun i => absurd i (by decide), pwrRest := fun i => absurd i (by decide), flash := fun _ => hf _, keeps := Kept.same (hf _) rfl id rfl } hw

theorem Frame.updPwrFlash {w : Nat} {s t : State} {f : Pwr → Pwr} (hf : ∀ x, (f x).rest = x.rest) (hk : ∀ x, Memory.wf flashFill x.flash = true → Memory.wf flashFill (f x).flash = true) (h : Frame w s t) (hw : 1374389534720 ||| w = w) :
    Frame w s (t.updPwr f) :=
  h.trans 1374389534720 { Frame.refl (s := t) with pwr := fun i => absurd i (by decide), pwrRest := fun _ => hf _, flash := fun i => absurd i (by decide), keeps := ⟨hk _, id, id, id, fun _ => BitVec.or_self⟩ } hw

theorem Frame.updPwrSoft {w : Nat} {s t : State} {f : Pwr → Pwr} (hf : ∀ x, (f x).rest = x.rest ∧ (f x).flash = x.flash) (h : Frame w s t) (hw : 274877906944 ||| w = w) :
    Frame w s (t.updPwr f) :=
  h.trans 274877906944 { Frame.refl (s := t) with pwr := fun i => absurd i (by decide), pwrRest := fun _ => (hf _).1, flash := fun _ => (hf _).2, keeps := Kept.same (hf _).2 rfl id rfl } hw

theorem Frame.updMgt {w : Nat} {s t : State} {f : Mgt → Mgt} (h : Frame w s t) (hw : 6597069766656 ||| w = w) :
    Frame w s (t.updMgt f) :=
  h.trans 6597069766656 { Frame.refl (s := t) with mgt := fun i => absurd i (by decide), mgtRest := fun i => absurd i (by decide), keeps := Kept.same rfl rfl id rfl } hw

theorem Frame.updMgtSoft {w : Nat} {s t : State} {f : Mgt → Mgt} (hf : ∀ x, (f x).rest = x.rest) (h : Frame w s t) (hw : 2199023255552 ||| w = w) :
    Frame w s (t.updMgt f) :=
  h.trans 2199023255552 { Frame.refl (s := t) with mgt := fun i => absurd i (by decide), mgtRest := fun _ => hf _, keeps := Kept.same rfl rfl id rfl } hw

theorem Frame.setMp {w : Nat} {s t : State} {l : List MpReq} (h : Frame w s t) (hw : 8 ||| w = w) :
    Frame w s (t.setMp l) :=
  h.trans 8 { Frame.refl (s := t) with mp := fun i => absurd i (by decide), keeps := Kept.same rfl rfl id rfl } hw

theorem Frame.setMpNext {w : Nat} {s t : State} {n : Nat} (h : Frame w s t) (hw : 16 ||| w = w) :
    Frame w s (t.setMpNext n) :=
  h.trans 16 { Frame.refl (s := t) with mpNext := fun i => absurd i (by decide), keeps := Kept.same rfl rfl id rfl } hw

theorem Frame.setHostReads {w : Nat} {s t : State} {l : List HostRd} (h : Frame w s t) (hw : 32 ||| w = w) :
    Frame w s (t.setHostReads l) :=
  h.trans 32 { Frame.refl (s := t) with hostReads := fun i => absurd i (by decide), keeps := Kept.same rfl rfl id rfl } hw

theorem Frame.emit {w : Nat} {s t : State} {o : Out} (h : Frame w s t) (hw : 35184372088832 ||| w = w) :
    Frame w s (t.emit o) :=
  h.trans 35184372088832 { Frame.refl (s := t) with out := fun i => absurd i (by decide), grows := ⟨List.suffix_cons _ _, Nat.le_refl _, Nat.le_refl _⟩, keeps := Kept.same rfl rfl id rfl } hw

theorem Frame.drew {w : Nat} {s t : State} (h : Frame w s t) (hw : 8796093022208 ||| w = w) :
    Frame w s (t.drew) :=
  h.trans 8796093022208 { Frame.refl (s := t) with draws := fun i => absurd i (by decide), grows := ⟨List.suffix_refl _, Nat.le_succ _, Nat.le_refl _⟩, keeps := Kept.same rfl rfl id rfl } hw

theorem Frame.opened {w : Nat} {s t : State} (h : Frame w s t) (hw : 17592186044416 ||| w = w) :
    Frame w s (t.opened) :=
  h.trans 17592186044416 { Frame.refl (s := t) with frees := fun i => absurd i (by decide), grows := ⟨List.suffix_refl _, Nat.le_refl _, Nat.le_succ _⟩, keeps := Kept.same rfl rfl id rfl } hw

/-! ### Sequences -/

theorem Frame.cut {w : Nat} {s x : State} {P : Prop} (h : Frame w s x) (k : Frame w s x → P) : P := k h

theorem Frame.cut2 {α : Type} {w : Nat} {s : State} {x : α × State} {P : Prop} (h : Frame w s x.2) (k : Frame w s x.2 → P) : P := k h

theorem Frame.cut3 {α β : Type} {w : Nat} {s : State} {x : α × β × State} {P : Prop} (h : Frame w s x.2.2)
    (k : Frame w s x.2.2 → P) : P := k h

theorem Frame.cutFn {w : Nat} {f : State → State} {P : Prop} (h : ∀ u, Frame w u (f u)) (k : (∀ u, Frame w u (f u)) → P) : P := k h

theorem Frame.cutFn2 {α : Type} {w : Nat} {f : α → State → State} {P : Prop} (h : ∀ a u, Frame w u (f a u))
    (k : (∀ a u, Frame w u (f a u)) → P) : P := k h

theorem Frame.cutFn3 {α β : Type} {w : Nat} {f : α → β → State → State} {P : Prop} (h : ∀ a b u, Frame w u (f a b u))
    (k : (∀ a b u, Frame w u (f a b u)) → P) : P := k h

theorem Frame.cutC {α : Type} {w : Nat} {s : State} {f : α → State} {P : Prop} (h : ∀ a, Frame w s (f a))
    (k : (∀ a, Frame w s (f a)) → P) : P := k h

theorem Frame.appC {α : Type} {w : Nat} {s : State} {f : α → State} (hf : ∀ a, Frame w s (f a)) (a : α) : Frame w s (f a) := hf a

theorem Frame.app {w : Nat} {s t : State} {f : State → State} (hf : ∀ u, Frame w u (f u)) (h : Frame w s t) : Frame w s (f t) :=
  h.trans w (hf t) (Nat.or_self w)

theorem Frame.app2 {α : Type} {a : α} {w : Nat} {s t : State} {f : α → State → State} (hf : ∀ a u, Frame w u (f a u))
    (h : Frame w s t) : Frame w s (f a t) := h.trans w (hf a t) (Nat.or_self w)

theorem Frame.app3 {α β : Type} {a : α} {b : β} {w : Nat} {s t : State} {f : α → β → State → State}
    (hf : ∀ a b u, Frame w u (f a b u)) (h : Frame w s t) : Frame w s (f a b t) := h.trans w (hf a b t) (Nat.or_self w)

theorem Frame.cutFnP {α β : Type} {w : Nat} {f : α → State → β × State} {P : Prop} (h : ∀ a u, Frame w u (f a u).2)
    (k : (∀ a u, Frame w u (f a u).2) → P) : P := k h

theorem Frame.appP {α β : Type} {a : α} {w : Nat} {s t : State} {f : α → State → β × State} (hf : ∀ a u, Frame w u (f a u).2)
    (h : Frame w s t) : Frame w s (f a t).2 := h.trans w (hf a t) (Nat.or_self w)

theorem Frame.cutFnP2 {α β γ : Type} {w : Nat} {f : α → β → State → γ × State} {P : Prop} (h : ∀ a b u, Frame w u (f a b u).2)
    (k : (∀ a b u, Frame w u (f a b u).2) → P) : P := k h

theorem Frame.appP2 {α β γ : Type} {a : α} {b : β} {w : Nat} {s t : State} {f : α → β → State → γ × State}
    (hf : ∀ a b u, Frame w u (f a b u).2) (h : Frame w s t) : Frame w s (f a b t).2 := h.trans w (hf a b t) (Nat.or_self w)

theorem Frame.ite {w : Nat} {s a b : State} {c : Prop} [Decidable c] (h : Frame w s a) (k : Frame w s b) :
    Frame w s (if c then a else b) := by
  split
  · exact h
  · exact k

theorem Frame.ite2 {α : Type} {w : Nat} {s : State} {a b : α × State} {c : Prop} [Decidable c] (h : Frame w s a.2)
    (k : Frame w s b.2) : Frame w s (if c then a else b).2 := by
  split
  · exact h
  · exact k

theorem Frame.ite3 {α β : Type} {w : Nat} {s : State} {a b : α × β × State} {c : Prop} [Decidable c] (h : Frame w s a.2.2)
    (k : Frame w s b.2.2) : Frame w s (if c then a else b).2.2 := by
  split
  · exact h
  · exact k

theorem Frame.ofEq {α : Type} {w : Nat} {s : State} {x : α × State} {a : α} {u : State} (e : x = (a, u)) (h : Frame w s x.2) :
    Frame w s u := by
  subst e
  exact h

theorem Frame.ofEq3 {α β : Type} {w : Nat} {s : State} {x : α × β × State} {a : α} {b : β} {u : State} (e : x = (a, b, u))
    (h : Frame w s x.2.2) : Frame w s u := by
  subst e
  exact h

theorem Frame.forAll {α : Type} {w : Nat} {s : State} {f : α → State → State} (hf : ∀ a u, Frame w u (f a u)) (l : List α) :
    ∀ {t : State}, Frame w s t → Frame w s (forAll l f t) := by
  induction l with
  | nil => exact fun h => h
  | cons a l ih => exact fun h => ih (h.trans w (hf a _) (Nat.or_self w))

theorem Frame.foldl {α β : Type} {w : Nat} {s : State} {f : β × State → α → β × State}
    (hf : ∀ x a, Frame w x.2 (f x a).2) (l : List α) :
    ∀ {x : β × State}, Frame w s x.2 → Frame w s (l.foldl f x).2 := by
  induction l with
  | nil => exact fun h => h
  | cons a l ih => exact fun h => ih (h.trans w (hf _ a) (Nat.or_self w))

theorem Frame.cutFnQ {α : Type} {w : Nat} {f : α × State → State} {P : Prop} (h : ∀ r, Frame w r.2 (f r))
    (k : (∀ r, Frame w r.2 (f r)) → P) : P := k h

theorem Frame.appQ {α : Type} {w : Nat} {s : State} {r : α × State} {f : α × State → State} (hf : ∀ r, Frame w r.2 (f r))
    (h : Frame w s r.2) : Frame w s (f r) := h.trans w (hf r) (Nat.or_self w)

theorem Frame.cutFnF {α β : Type} {w : Nat} {f : β × State → α → β × State} {P : Prop} (h : ∀ r a, Frame w r.2 (f r a).2)
    (k : (∀ r a, Frame w r.2 (f r a).2) → P) : P := k h

theorem Frame.appF {α β : Type} {w : Nat} {s : State} {r : β × State} {a : α} {f : β × State → α → β × State}
    (hf : ∀ r a, Frame w r.2 (f r a).2) (h : Frame w s r.2) : Frame w s (f r a).2 := h.trans w (hf r a) (Nat.or_self w)

theorem Frame.cutFnR {α β : Type} {w : Nat} {f : α × State → β × State} {P : Prop} (h : ∀ r, Frame w r.2 (f r).2)
    (k : (∀ r, Frame w r.2 (f r).2) → P) : P := k h

theorem Frame.appR {α β : Type} {w : Nat} {s : State} {r : α × State} {f : α × State → β × State}
    (hf : ∀ r, Frame w r.2 (f r).2) (h : Frame w s r.2) : Frame w s (f r).2 := h.trans w (hf r) (Nat.or_self w)

/-- The same of a change that may not take place. -/
structure FrameOpt {α : Type} (w : Nat) (s : State) (o : Option (α × State)) : Prop where
  out : ∀ x, o = some x → Frame w s x.2

theorem FrameOpt.none {α : Type} {w : Nat} {s : State} : FrameOpt w s (none : Option (α × State)) :=
  ⟨fun _ e => absurd e.symm (Option.some_ne_none _)⟩

theorem FrameOpt.some {α : Type} {w : Nat} {s : State} {x : α × State} (h : Frame w s x.2) : FrameOpt w s (some x) :=
  ⟨fun _ e => Option.some.inj e ▸ h⟩

theorem FrameOpt.get {α : Type} {w : Nat} {s : State} {o : Option (α × State)} {a : α} {u : State} (e : o = Option.some (a, u))
    (h : FrameOpt w s o) : Frame w s u := h.out _ e

theorem FrameOpt.get2 {α : Type} {w : Nat} {s : State} {x : α × State} (h : FrameOpt w s (Option.some x)) : Frame w s x.2 := h.out _ rfl

theorem FrameOpt.cut {α : Type} {w : Nat} {s : State} {x : Option (α × State)} {P : Prop} (h : FrameOpt w s x)
    (k : FrameOpt w s x → P) : P := k h

theorem FrameOpt.trans {α : Type} {w : Nat} {s t : State} {o : Option (α × State)} (v : Nat) (h : Frame w s t) (k : FrameOpt v t o)
    (hv : v ||| w = w) : FrameOpt w s o := ⟨fun x e => h.trans v (k.out x e) hv⟩

theorem Frame.foldl3 {α β γ : Type} {w : Nat} {s : State} {f : β × γ × State → α → β × γ × State}
    (hf : ∀ x a, Frame w x.2.2 (f x a).2.2) (l : List α) :
    ∀ {x : β × γ × State}, Frame w s x.2.2 → Frame w s (l.foldl f x).2.2 := by
  induction l with
  | nil => exact fun h => h
  | cons a l ih => exact fun h => ih (h.trans w (hf _ a) (Nat.or_self w))

end Sys2Proof.Machine
end

