-- ==== Sys2Proof/Laws/FrClock.lean ====
section
/-! SUPPORT. What each operation of Machine/Clock.lean may change (see Frame.lean). -/

namespace Sys2Proof.Machine

-- One declaration at a time, so that the elaborator holds few threads (each takes stack of its own).
set_option Elab.async false

theorem haltDomain_frame {w₀ : Nat} {s₀ : State} {d : ClockDomain} {s : State} (h₀ : Frame w₀ s₀ s) (hw₀ : 206158430208 ||| w₀ = w₀) :
    Frame w₀ s₀ (haltDomain d s) := by
  refine h₀.trans 206158430208 ?_ hw₀
  clear h₀ hw₀
  unfold haltDomain
  repeat' first
      | with_reducible exact Frame.refl
      | ((with_reducible refine Frame.updDbg ?_ ?_); on_goal 2 => rfl)
      | with_reducible refine Frame.ite ?_ ?_

theorem correctDomain_frame {w₀ : Nat} {s₀ : State} {d : ClockDomain} {cycles : Nat} {s : State} (h₀ : Frame w₀ s₀ s) (hw₀ : 1030792151040 ||| w₀ = w₀) :
    Frame w₀ s₀ (correctDomain d cycles s) := by
  refine h₀.trans 1030792151040 ?_ hw₀
  clear h₀ hw₀
  unfold correctDomain
  repeat' first
      | with_reducible exact Frame.refl
      | ((with_reducible refine haltDomain_frame ?_ ?_); on_goal 2 => rfl)
      | ((with_reducible refine Frame.updPwr (f := _) ?_ ?_ ?_); (on_goal 1 => (intro _; rfl)); on_goal 2 => rfl)
      | with_reducible refine Frame.ite ?_ ?_

theorem edgeOf_flash (x : Pwr) : (edgeOf x).flash = x.flash := by
  dsimp only [edgeOf]
  by_cases h : 0 < x.holdUntil <;> simp only [h, if_true, if_false]

theorem referenceEdge_frame {w : Nat} {s₀ s : State} (h : Frame w s₀ s) (hw : 1030792151040 ||| w = w) :
    Frame w s₀ (referenceEdge s) := by
  unfold referenceEdge
  split
  · exact h
  · exact Frame.updPwr edgeOf_flash (Frame.forAll (fun _ _ => correctDomain_frame Frame.refl (mask_le rfl hw)) _ h) (mask_le rfl hw)

end Sys2Proof.Machine
end

