-- ==== Sys2Proof/Laws/FrFlags.lean ====
section
/-! SUPPORT. What each operation of Machine/Flags.lean may change (see Frame.lean). -/

namespace Sys2Proof.Machine

-- One declaration at a time, so that the elaborator holds few threads (each takes stack of its own).
set_option Elab.async false

theorem State.kvEvent_frame {w₀ : Nat} {s₀ : State} {i : Nat} {s : State} (h₀ : Frame w₀ s₀ s) (hw₀ : 64 ||| w₀ = w₀) :
    Frame w₀ s₀ (State.kvEvent i s) := by
  refine h₀.trans 64 ?_ hw₀
  clear h₀ hw₀
  unfold State.kvEvent
  repeat' first
      | with_reducible exact Frame.refl
      | ((with_reducible refine Frame.updKvSoft (f := _) ?_ ?_ ?_); (on_goal 1 => (intro _; refine ⟨?_, rfl⟩; unfold Kv.rest; rfl)); on_goal 2 => rfl)

theorem State.lcEvent_frame {w₀ : Nat} {s₀ : State} {i : Nat} {s : State} (h₀ : Frame w₀ s₀ s) (hw₀ : 512 ||| w₀ = w₀) :
    Frame w₀ s₀ (State.lcEvent i s) := by
  refine h₀.trans 512 ?_ hw₀
  clear h₀ hw₀
  unfold State.lcEvent
  repeat' first
      | with_reducible exact Frame.refl
      | ((with_reducible refine Frame.updLc (f := _) ?_ ?_ ?_); (on_goal 1 => (intro _; rfl)); on_goal 2 => rfl)

theorem State.atEvent_frame {w₀ : Nat} {s₀ : State} {i : Nat} {s : State} (h₀ : Frame w₀ s₀ s) (hw₀ : 70368744179712 ||| w₀ = w₀) :
    Frame w₀ s₀ (State.atEvent i s) := by
  refine h₀.trans 70368744179712 ?_ hw₀
  clear h₀ hw₀
  unfold State.atEvent
  repeat' first
      | with_reducible exact Frame.refl
      | ((with_reducible refine Frame.updAt ?_ ?_); on_goal 2 => rfl)

theorem State.lsEvent_frame {w₀ : Nat} {s₀ : State} {i : Nat} {s : State} (h₀ : Frame w₀ s₀ s) (hw₀ : 24576 ||| w₀ = w₀) :
    Frame w₀ s₀ (State.lsEvent i s) := by
  refine h₀.trans 24576 ?_ hw₀
  clear h₀ hw₀
  unfold State.lsEvent
  repeat' first
      | with_reducible exact Frame.refl
      | ((with_reducible refine Frame.updLs ?_ ?_); on_goal 2 => rfl)

theorem State.lnEvent_frame {w₀ : Nat} {s₀ : State} {i : Nat} {s : State} (h₀ : Frame w₀ s₀ s) (hw₀ : 32768 ||| w₀ = w₀) :
    Frame w₀ s₀ (State.lnEvent i s) := by
  refine h₀.trans 32768 ?_ hw₀
  clear h₀ hw₀
  unfold State.lnEvent
  repeat' first
      | with_reducible exact Frame.refl
      | ((with_reducible refine Frame.updLnSoft (f := _) ?_ ?_ ?_); (on_goal 1 => (intro _; unfold Ln.rest; rfl)); on_goal 2 => rfl)

theorem State.trEvent_frame {w₀ : Nat} {s₀ : State} {i : Nat} {s : State} (h₀ : Frame w₀ s₀ s) (hw₀ : 131072 ||| w₀ = w₀) :
    Frame w₀ s₀ (State.trEvent i s) := by
  refine h₀.trans 131072 ?_ hw₀
  clear h₀ hw₀
  unfold State.trEvent
  repeat' first
      | with_reducible exact Frame.refl
      | ((with_reducible refine Frame.updTrSoft (f := _) ?_ ?_ ?_); (on_goal 1 => (intro _; unfold Tr.rest; rfl)); on_goal 2 => rfl)

theorem State.mvEvent_frame {w₀ : Nat} {s₀ : State} {i : Nat} {s : State} (h₀ : Frame w₀ s₀ s) (hw₀ : 524288 ||| w₀ = w₀) :
    Frame w₀ s₀ (State.mvEvent i s) := by
  refine h₀.trans 524288 ?_ hw₀
  clear h₀ hw₀
  unfold State.mvEvent
  repeat' first
      | with_reducible exact Frame.refl
      | ((with_reducible refine Frame.updMvSoft (f := _) ?_ ?_ ?_); (on_goal 1 => (intro _; unfold Mv.rest; rfl)); on_goal 2 => rfl)

theorem State.rdEvent_frame {w₀ : Nat} {s₀ : State} {i : Nat} {s : State} (h₀ : Frame w₀ s₀ s) (hw₀ : 2097152 ||| w₀ = w₀) :
    Frame w₀ s₀ (State.rdEvent i s) := by
  refine h₀.trans 2097152 ?_ hw₀
  clear h₀ hw₀
  unfold State.rdEvent
  repeat' first
      | with_reducible exact Frame.refl
      | ((with_reducible refine Frame.updRdSoft (f := _) ?_ ?_ ?_); (on_goal 1 => (intro _; unfold Rd.rest; rfl)); on_goal 2 => rfl)

theorem State.auEvent_frame {w₀ : Nat} {s₀ : State} {i : Nat} {s : State} (h₀ : Frame w₀ s₀ s) (hw₀ : 8388608 ||| w₀ = w₀) :
    Frame w₀ s₀ (State.auEvent i s) := by
  refine h₀.trans 8388608 ?_ hw₀
  clear h₀ hw₀
  unfold State.auEvent
  repeat' first
      | with_reducible exact Frame.refl
      | ((with_reducible refine Frame.updAuSoft (f := _) ?_ ?_ ?_); (on_goal 1 => (intro _; unfold Au.rest; rfl)); on_goal 2 => rfl)

theorem State.feEvent_frame {w₀ : Nat} {s₀ : State} {i : Nat} {s : State} (h₀ : Frame w₀ s₀ s) (hw₀ : 33554432 ||| w₀ = w₀) :
    Frame w₀ s₀ (State.feEvent i s) := by
  refine h₀.trans 33554432 ?_ hw₀
  clear h₀ hw₀
  unfold State.feEvent
  repeat' first
      | with_reducible exact Frame.refl
      | ((with_reducible refine Frame.updFeSoft (f := _) ?_ ?_ ?_); (on_goal 1 => (intro _; unfold Fe.rest; rfl)); on_goal 2 => rfl)

theorem State.admEvent_frame {w₀ : Nat} {s₀ : State} {i : Nat} {s : State} (h₀ : Frame w₀ s₀ s) (hw₀ : 134217728 ||| w₀ = w₀) :
    Frame w₀ s₀ (State.admEvent i s) := by
  refine h₀.trans 134217728 ?_ hw₀
  clear h₀ hw₀
  unfold State.admEvent
  repeat' first
      | with_reducible exact Frame.refl
      | ((with_reducible refine Frame.updAdmSoft (f := _) ?_ ?_ ?_); (on_goal 1 => (intro _; unfold Adm.rest; rfl)); on_goal 2 => rfl)

theorem State.fsEvent_frame {w₀ : Nat} {s₀ : State} {i : Nat} {s : State} (h₀ : Frame w₀ s₀ s) (hw₀ : 536870912 ||| w₀ = w₀) :
    Frame w₀ s₀ (State.fsEvent i s) := by
  refine h₀.trans 536870912 ?_ hw₀
  clear h₀ hw₀
  unfold State.fsEvent
  repeat' first
      | with_reducible exact Frame.refl
      | ((with_reducible refine Frame.updFs ?_ ?_); on_goal 2 => rfl)

theorem State.ituEvent_frame {w₀ : Nat} {s₀ : State} {i : Nat} {s : State} (h₀ : Frame w₀ s₀ s) (hw₀ : 1073741824 ||| w₀ = w₀) :
    Frame w₀ s₀ (State.ituEvent i s) := by
  refine h₀.trans 1073741824 ?_ hw₀
  clear h₀ hw₀
  unfold State.ituEvent
  repeat' first
      | with_reducible exact Frame.refl
      | ((with_reducible refine Frame.updItuSoft (f := _) ?_ ?_ ?_); (on_goal 1 => (intro _; unfold Itu.rest; rfl)); on_goal 2 => rfl)

theorem State.fcuEvent_frame {w₀ : Nat} {s₀ : State} {i : Nat} {s : State} (h₀ : Frame w₀ s₀ s) (hw₀ : 4294967296 ||| w₀ = w₀) :
    Frame w₀ s₀ (State.fcuEvent i s) := by
  refine h₀.trans 4294967296 ?_ hw₀
  clear h₀ hw₀
  unfold State.fcuEvent
  repeat' first
      | with_reducible exact Frame.refl
      | ((with_reducible refine Frame.updFcuSoft (f := _) ?_ ?_ ?_); (on_goal 1 => (intro _; unfold Fcu.rest; rfl)); on_goal 2 => rfl)

theorem State.hrEvent_frame {w₀ : Nat} {s₀ : State} {i : Nat} {s : State} (h₀ : Frame w₀ s₀ s) (hw₀ : 17179869184 ||| w₀ = w₀) :
    Frame w₀ s₀ (State.hrEvent i s) := by
  refine h₀.trans 17179869184 ?_ hw₀
  clear h₀ hw₀
  unfold State.hrEvent
  repeat' first
      | with_reducible exact Frame.refl
      | ((with_reducible refine Frame.updHrSoft (f := _) ?_ ?_ ?_); (on_goal 1 => (intro _; unfold Hr.rest; rfl)); on_goal 2 => rfl)

theorem State.dbgEvent_frame {w₀ : Nat} {s₀ : State} {i : Nat} {s : State} (h₀ : Frame w₀ s₀ s) (hw₀ : 206158430208 ||| w₀ = w₀) :
    Frame w₀ s₀ (State.dbgEvent i s) := by
  refine h₀.trans 206158430208 ?_ hw₀
  clear h₀ hw₀
  unfold State.dbgEvent
  repeat' first
      | with_reducible exact Frame.refl
      | ((with_reducible refine Frame.updDbg ?_ ?_); on_goal 2 => rfl)

theorem State.pwrEvent_frame {w₀ : Nat} {s₀ : State} {i : Nat} {s : State} (h₀ : Frame w₀ s₀ s) (hw₀ : 824633720832 ||| w₀ = w₀) :
    Frame w₀ s₀ (State.pwrEvent i s) := by
  refine h₀.trans 824633720832 ?_ hw₀
  clear h₀ hw₀
  unfold State.pwrEvent
  repeat' first
      | with_reducible exact Frame.refl
      | ((with_reducible refine Frame.updPwr (f := _) ?_ ?_ ?_); (on_goal 1 => (intro _; rfl)); on_goal 2 => rfl)

theorem State.mgtEvent_frame {w₀ : Nat} {s₀ : State} {i : Nat} {s : State} (h₀ : Frame w₀ s₀ s) (hw₀ : 6597069766656 ||| w₀ = w₀) :
    Frame w₀ s₀ (State.mgtEvent i s) := by
  refine h₀.trans 6597069766656 ?_ hw₀
  clear h₀ hw₀
  unfold State.mgtEvent
  repeat' first
      | with_reducible exact Frame.refl
      | ((with_reducible refine Frame.updMgt ?_ ?_); on_goal 2 => rfl)

theorem State.kvCount_frame {w₀ : Nat} {s₀ : State} {n : Nat} {s : State} (h₀ : Frame w₀ s₀ s) (hw₀ : 64 ||| w₀ = w₀) :
    Frame w₀ s₀ (State.kvCount n s) := by
  refine h₀.trans 64 ?_ hw₀
  clear h₀ hw₀
  unfold State.kvCount
  repeat' first
      | with_reducible exact Frame.refl
      | ((with_reducible refine Frame.updKvSoft (f := _) ?_ ?_ ?_); (on_goal 1 => (intro _; refine ⟨?_, rfl⟩; unfold Kv.rest; rfl)); on_goal 2 => rfl)

theorem State.lsCount_frame {w₀ : Nat} {s₀ : State} {n : Nat} {s : State} (h₀ : Frame w₀ s₀ s) (hw₀ : 8192 ||| w₀ = w₀) :
    Frame w₀ s₀ (State.lsCount n s) := by
  refine h₀.trans 8192 ?_ hw₀
  clear h₀ hw₀
  unfold State.lsCount
  repeat' first
      | with_reducible exact Frame.refl
      | ((with_reducible refine Frame.updLsSoft (f := _) ?_ ?_ ?_); (on_goal 1 => (intro _; unfold Ls.rest; rfl)); on_goal 2 => rfl)

theorem State.lnCount_frame {w₀ : Nat} {s₀ : State} {n : Nat} {s : State} (h₀ : Frame w₀ s₀ s) (hw₀ : 32768 ||| w₀ = w₀) :
    Frame w₀ s₀ (State.lnCount n s) := by
  refine h₀.trans 32768 ?_ hw₀
  clear h₀ hw₀
  unfold State.lnCount
  repeat' first
      | with_reducible exact Frame.refl
      | ((with_reducible refine Frame.updLnSoft (f := _) ?_ ?_ ?_); (on_goal 1 => (intro _; unfold Ln.rest; rfl)); on_goal 2 => rfl)

theorem State.trCount_frame {w₀ : Nat} {s₀ : State} {n : Nat} {s : State} (h₀ : Frame w₀ s₀ s) (hw₀ : 131072 ||| w₀ = w₀) :
    Frame w₀ s₀ (State.trCount n s) := by
  refine h₀.trans 131072 ?_ hw₀
  clear h₀ hw₀
  unfold State.trCount
  repeat' first
      | with_reducible exact Frame.refl
      | ((with_reducible refine Frame.updTrSoft (f := _) ?_ ?_ ?_); (on_goal 1 => (intro _; unfold Tr.rest; rfl)); on_goal 2 => rfl)

theorem State.mvCount_frame {w₀ : Nat} {s₀ : State} {n : Nat} {by' : Nat} {s : State} (h₀ : Frame w₀ s₀ s) (hw₀ : 524288 ||| w₀ = w₀) :
    Frame w₀ s₀ (State.mvCount n by' s) := by
  refine h₀.trans 524288 ?_ hw₀
  clear h₀ hw₀
  unfold State.mvCount
  repeat' first
      | with_reducible exact Frame.refl
      | ((with_reducible refine Frame.updMvSoft (f := _) ?_ ?_ ?_); (on_goal 1 => (intro _; unfold Mv.rest; rfl)); on_goal 2 => rfl)

theorem State.rdCount_frame {w₀ : Nat} {s₀ : State} {n : Nat} {by' : Nat} {s : State} (h₀ : Frame w₀ s₀ s) (hw₀ : 2097152 ||| w₀ = w₀) :
    Frame w₀ s₀ (State.rdCount n by' s) := by
  refine h₀.trans 2097152 ?_ hw₀
  clear h₀ hw₀
  unfold State.rdCount
  repeat' first
      | with_reducible exact Frame.refl
      | ((with_reducible refine Frame.updRdSoft (f := _) ?_ ?_ ?_); (on_goal 1 => (intro _; unfold Rd.rest; rfl)); on_goal 2 => rfl)

theorem State.auCount_frame {w₀ : Nat} {s₀ : State} {n : Nat} {s : State} (h₀ : Frame w₀ s₀ s) (hw₀ : 8388608 ||| w₀ = w₀) :
    Frame w₀ s₀ (State.auCount n s) := by
  refine h₀.trans 8388608 ?_ hw₀
  clear h₀ hw₀
  unfold State.auCount
  repeat' first
      | with_reducible exact Frame.refl
      | ((with_reducible refine Frame.updAuSoft (f := _) ?_ ?_ ?_); (on_goal 1 => (intro _; unfold Au.rest; rfl)); on_goal 2 => rfl)

theorem State.feCount_frame {w₀ : Nat} {s₀ : State} {n : Nat} {s : State} (h₀ : Frame w₀ s₀ s) (hw₀ : 33554432 ||| w₀ = w₀) :
    Frame w₀ s₀ (State.feCount n s) := by
  refine h₀.trans 33554432 ?_ hw₀
  clear h₀ hw₀
  unfold State.feCount
  repeat' first
      | with_reducible exact Frame.refl
      | ((with_reducible refine Frame.updFeSoft (f := _) ?_ ?_ ?_); (on_goal 1 => (intro _; unfold Fe.rest; rfl)); on_goal 2 => rfl)

theorem State.admCount_frame {w₀ : Nat} {s₀ : State} {n : Nat} {s : State} (h₀ : Frame w₀ s₀ s) (hw₀ : 134217728 ||| w₀ = w₀) :
    Frame w₀ s₀ (State.admCount n s) := by
  refine h₀.trans 134217728 ?_ hw₀
  clear h₀ hw₀
  unfold State.admCount
  repeat' first
      | with_reducible exact Frame.refl
      | ((with_reducible refine Frame.updAdmSoft (f := _) ?_ ?_ ?_); (on_goal 1 => (intro _; unfold Adm.rest; rfl)); on_goal 2 => rfl)

theorem State.fsCount_frame {w₀ : Nat} {s₀ : State} {n : Nat} {s : State} (h₀ : Frame w₀ s₀ s) (hw₀ : 536870912 ||| w₀ = w₀) :
    Frame w₀ s₀ (State.fsCount n s) := by
  refine h₀.trans 536870912 ?_ hw₀
  clear h₀ hw₀
  unfold State.fsCount
  repeat' first
      | with_reducible exact Frame.refl
      | ((with_reducible refine Frame.updFs ?_ ?_); on_goal 2 => rfl)

theorem State.ituCount_frame {w₀ : Nat} {s₀ : State} {n : Nat} {s : State} (h₀ : Frame w₀ s₀ s) (hw₀ : 1073741824 ||| w₀ = w₀) :
    Frame w₀ s₀ (State.ituCount n s) := by
  refine h₀.trans 1073741824 ?_ hw₀
  clear h₀ hw₀
  unfold State.ituCount
  repeat' first
      | with_reducible exact Frame.refl
      | ((with_reducible refine Frame.updItuSoft (f := _) ?_ ?_ ?_); (on_goal 1 => (intro _; unfold Itu.rest; rfl)); on_goal 2 => rfl)

theorem State.fcuCount_frame {w₀ : Nat} {s₀ : State} {n : Nat} {s : State} (h₀ : Frame w₀ s₀ s) (hw₀ : 4294967296 ||| w₀ = w₀) :
    Frame w₀ s₀ (State.fcuCount n s) := by
  refine h₀.trans 4294967296 ?_ hw₀
  clear h₀ hw₀
  unfold State.fcuCount
  repeat' first
      | with_reducible exact Frame.refl
      | ((with_reducible refine Frame.updFcuSoft (f := _) ?_ ?_ ?_); (on_goal 1 => (intro _; unfold Fcu.rest; rfl)); on_goal 2 => rfl)

theorem State.hrCount_frame {w₀ : Nat} {s₀ : State} {n : Nat} {s : State} (h₀ : Frame w₀ s₀ s) (hw₀ : 51539607552 ||| w₀ = w₀) :
    Frame w₀ s₀ (State.hrCount n s) := by
  refine h₀.trans 51539607552 ?_ hw₀
  clear h₀ hw₀
  unfold State.hrCount
  repeat' first
      | with_reducible exact Frame.refl
      | ((with_reducible refine Frame.updHr ?_ ?_); on_goal 2 => rfl)

theorem State.dbgCount_frame {w₀ : Nat} {s₀ : State} {n : Nat} {by' : Nat} {s : State} (h₀ : Frame w₀ s₀ s) (hw₀ : 206158430208 ||| w₀ = w₀) :
    Frame w₀ s₀ (State.dbgCount n by' s) := by
  refine h₀.trans 206158430208 ?_ hw₀
  clear h₀ hw₀
  unfold State.dbgCount
  repeat' first
      | with_reducible exact Frame.refl
      | ((with_reducible refine Frame.updDbg ?_ ?_); on_goal 2 => rfl)

theorem State.mgtCount_frame {w₀ : Nat} {s₀ : State} {n : Nat} {s : State} (h₀ : Frame w₀ s₀ s) (hw₀ : 6597069766656 ||| w₀ = w₀) :
    Frame w₀ s₀ (State.mgtCount n s) := by
  refine h₀.trans 6597069766656 ?_ hw₀
  clear h₀ hw₀
  unfold State.mgtCount
  repeat' first
      | with_reducible exact Frame.refl
      | ((with_reducible refine Frame.updMgt ?_ ?_); on_goal 2 => rfl)

end Sys2Proof.Machine
end

