-- ==== Sys2Proof/Laws/FrFault.lean ====
section
/-! SUPPORT. What each operation of Machine/Fault.lean may change (see Frame.lean). -/

namespace Sys2Proof.Machine

-- One declaration at a time, so that the elaborator holds few threads (each takes stack of its own).
set_option Elab.async false

theorem rushesAt_frame {w₀ : Nat} {s₀ : State} {time : Nat} {unit : Nat} {ev : Nat} {hall : Nat} {scene : Nat} {shot : Nat} {arg : Nat} {s : State} (h₀ : Frame w₀ s₀ s) (hw₀ : 68719476736 ||| w₀ = w₀) :
    Frame w₀ s₀ (rushesAt time unit ev hall scene shot arg s) := by
  refine h₀.trans 68719476736 ?_ hw₀
  clear h₀ hw₀
  unfold rushesAt
  repeat' first
      | with_reducible exact Frame.refl
      | ((with_reducible refine Frame.updDbgSoft (f := _) ?_ ?_ ?_); (on_goal 1 => (intro _; unfold Dbg.rest; rfl)); on_goal 2 => rfl)
      | with_reducible refine Frame.ite ?_ ?_

theorem rushes_frame {w₀ : Nat} {s₀ : State} {unit : Nat} {ev : Nat} {hall : Nat} {scene : Nat} {shot : Nat} {arg : Nat} {s : State} (h₀ : Frame w₀ s₀ s) (hw₀ : 68719476736 ||| w₀ = w₀) :
    Frame w₀ s₀ (rushes unit ev hall scene shot arg s) := by
  refine h₀.trans 68719476736 ?_ hw₀
  clear h₀ hw₀
  unfold rushes
  repeat' first
      | with_reducible exact Frame.refl
      | ((with_reducible refine rushesAt_frame ?_ ?_); on_goal 2 => rfl)

theorem rushesBlock_frame {w₀ : Nat} {s₀ : State} {unit : Nat} {ev : Nat} {arg : Nat} {s : State} (h₀ : Frame w₀ s₀ s) (hw₀ : 68719476736 ||| w₀ = w₀) :
    Frame w₀ s₀ (rushesBlock unit ev arg s) := by
  refine h₀.trans 68719476736 ?_ hw₀
  clear h₀ hw₀
  unfold rushesBlock
  repeat' first
      | with_reducible exact Frame.refl
      | ((with_reducible refine rushes_frame ?_ ?_); on_goal 2 => rfl)

theorem sendFault_frame {w₀ : Nat} {s₀ : State} {src : Nat} {r : FRec} {s : State} (h₀ : Frame w₀ s₀ s) (hw₀ : 73014444032 ||| w₀ = w₀) :
    Frame w₀ s₀ (sendFault src r s) := by
  refine h₀.trans 73014444032 ?_ hw₀
  clear h₀ hw₀
  unfold sendFault
  repeat' first
      | with_reducible assumption
      | with_reducible exact Frame.refl
      | ((first | intro x | (lift_lets -underBinder; intro x)); first
      | (refine Frame.cut (w := 73014444032) (s := s) (x := x) ?_ fun _ => ?_; (on_goal 1 => try dsimp only [x]); (on_goal 2 => clear_value x))
      | clear_value x)
      | ((with_reducible refine State.fcuCount_frame ?_ ?_); on_goal 2 => rfl)
      | ((with_reducible refine rushes_frame ?_ ?_); on_goal 2 => rfl)
      | ((with_reducible refine Frame.updFcuSoft (f := _) ?_ ?_ ?_); (on_goal 1 => (intro _; unfold Fcu.rest; rfl)); on_goal 2 => rfl)
      | with_reducible refine Frame.ite ?_ ?_

theorem raiseFault_frame {w₀ : Nat} {s₀ : State} {src : Nat} {kind : Nat} {hall : Nat} {addr : Nat} {detail : Nat} {s : State} (h₀ : Frame w₀ s₀ s) (hw₀ : 73014444032 ||| w₀ = w₀) :
    Frame w₀ s₀ (raiseFault src kind hall addr detail s) := by
  refine h₀.trans 73014444032 ?_ hw₀
  clear h₀ hw₀
  unfold raiseFault
  repeat' first
      | with_reducible exact Frame.refl
      | ((with_reducible refine sendFault_frame ?_ ?_); on_goal 2 => rfl)

theorem progress_frame {w₀ : Nat} {s₀ : State} {key : Nat} {s : State} (h₀ : Frame w₀ s₀ s) (hw₀ : 17179869184 ||| w₀ = w₀) :
    Frame w₀ s₀ (progress key s) := by
  refine h₀.trans 17179869184 ?_ hw₀
  clear h₀ hw₀
  unfold progress
  repeat' first
      | with_reducible exact Frame.refl
      | ((with_reducible refine Frame.updHrSoft (f := _) ?_ ?_ ?_); (on_goal 1 => (intro _; unfold Hr.rest; rfl)); on_goal 2 => rfl)

theorem injFired_frame {w₀ : Nat} {s₀ : State}  {s : State} (h₀ : Frame w₀ s₀ s) (hw₀ : 4294967296 ||| w₀ = w₀) :
    Frame w₀ s₀ (injFired s) := by
  refine h₀.trans 4294967296 ?_ hw₀
  clear h₀ hw₀
  unfold injFired
  repeat' first
      | with_reducible exact Frame.refl
      | ((with_reducible refine State.fcuEvent_frame ?_ ?_); on_goal 2 => rfl)
      | ((with_reducible refine Frame.updFcuSoft (f := _) ?_ ?_ ?_); (on_goal 1 => (intro _; unfold Fcu.rest; rfl)); on_goal 2 => rfl)

theorem reportFault_frame {w₀ : Nat} {s₀ : State} {natural : Bool} {src : Nat} {kind : Nat} {hall : Nat} {addr : Nat} {detail : Nat} {s : State} (h₀ : Frame w₀ s₀ s) (hw₀ : 73014444032 ||| w₀ = w₀) :
    Frame w₀ s₀ (reportFault natural src kind hall addr detail s) := by
  refine h₀.trans 73014444032 ?_ hw₀
  clear h₀ hw₀
  unfold reportFault
  repeat' first
      | with_reducible exact Frame.refl
      | ((with_reducible refine sendFault_frame ?_ ?_); on_goal 2 => rfl)
      | ((with_reducible refine raiseFault_frame ?_ ?_); on_goal 2 => rfl)
      | ((with_reducible refine injFired_frame ?_ ?_); on_goal 2 => rfl)
      | with_reducible refine Frame.ite ?_ ?_

theorem memCorrected_frame {w₀ : Nat} {s₀ : State} {natural : Bool} {hall : Nat} {addr : Nat} {s : State} (h₀ : Frame w₀ s₀ s) (hw₀ : 73014444032 ||| w₀ = w₀) :
    Frame w₀ s₀ (memCorrected natural hall addr s) := by
  refine h₀.trans 73014444032 ?_ hw₀
  clear h₀ hw₀
  unfold memCorrected
  repeat' first
      | with_reducible exact Frame.refl
      | ((with_reducible refine reportFault_frame ?_ ?_); on_goal 2 => rfl)
      | with_reducible refine Frame.ite ?_ ?_

end Sys2Proof.Machine
end

