-- ==== Sys2Proof/Laws/FrWake.lean ====
section
/-! SUPPORT. What each operation of Machine/Wake.lean may change (see Frame.lean). -/

namespace Sys2Proof.Machine

-- One declaration at a time, so that the elaborator holds few threads (each takes stack of its own).
set_option Elab.async false

theorem wakeEnds_frame {w₀ : Nat} {s₀ : State}  {s : State} (h₀ : Frame w₀ s₀ s) (hw₀ : 893353197574 ||| w₀ = w₀) :
    Frame w₀ s₀ (wakeEnds s) := by
  refine h₀.trans 893353197574 ?_ hw₀
  clear h₀ hw₀
  unfold wakeEnds
  repeat' first
      | with_reducible assumption
      | with_reducible exact Frame.refl
      | ((first | intro x | (lift_lets -underBinder; intro x)); first
      | (refine Frame.cut (w := 893353197574) (s := s) (x := x) ?_ fun _ => ?_; (on_goal 1 => try dsimp only [x]); (on_goal 2 => clear_value x)))
      | ((with_reducible refine State.pwrEvent_frame ?_ ?_); on_goal 2 => rfl)
      | ((with_reducible refine rushesBlock_frame ?_ ?_); on_goal 2 => rfl)
      | ((with_reducible refine Frame.updPins ?_ ?_); on_goal 2 => rfl)
      | ((with_reducible refine Frame.updPwr (f := _) ?_ ?_ ?_); (on_goal 1 => (intro _; rfl)); on_goal 2 => rfl)

theorem entryVoid_frame {w₀ : Nat} {s₀ : State}  {s : State} (h₀ : Frame w₀ s₀ s) (hw₀ : 824633720832 ||| w₀ = w₀) :
    Frame w₀ s₀ (entryVoid s) := by
  refine h₀.trans 824633720832 ?_ hw₀
  clear h₀ hw₀
  unfold entryVoid
  repeat' first
      | with_reducible exact Frame.refl
      | ((with_reducible refine Frame.updPwr (f := _) ?_ ?_ ?_); (on_goal 1 => (intro _; rfl)); on_goal 2 => rfl)
      | with_reducible refine Frame.ite ?_ ?_

theorem portInput_frame {w₀ : Nat} {s₀ : State}  {s : State} (h₀ : Frame w₀ s₀ s) (hw₀ : 893353197574 ||| w₀ = w₀) :
    Frame w₀ s₀ (portInput s) := by
  refine h₀.trans 893353197574 ?_ hw₀
  clear h₀ hw₀
  unfold portInput
  repeat' first
      | with_reducible exact Frame.refl
      | ((with_reducible refine wakeEnds_frame ?_ ?_); on_goal 2 => rfl)
      | ((with_reducible refine entryVoid_frame ?_ ?_); on_goal 2 => rfl)
      | with_reducible refine Frame.ite ?_ ?_

theorem busInput_frame {w₀ : Nat} {s₀ : State} {b : Bus} {s : State} (h₀ : Frame w₀ s₀ s) (hw₀ : 893353197574 ||| w₀ = w₀) :
    Frame w₀ s₀ (busInput b s) := by
  refine h₀.trans 893353197574 ?_ hw₀
  clear h₀ hw₀
  unfold busInput
  repeat' first
      | with_reducible exact Frame.refl
      | ((with_reducible refine portInput_frame ?_ ?_); on_goal 2 => rfl)
      | split

theorem extFaultNow_frame {w₀ : Nat} {s₀ : State} {n : Nat} {s : State} (h₀ : Frame w₀ s₀ s) (hw₀ : 73014444032 ||| w₀ = w₀) :
    Frame w₀ s₀ (extFaultNow n s) := by
  refine h₀.trans 73014444032 ?_ hw₀
  clear h₀ hw₀
  unfold extFaultNow
  repeat' first
      | with_reducible exact Frame.refl
      | ((with_reducible refine raiseFault_frame ?_ ?_); on_goal 2 => rfl)

theorem extFaultRise_frame {w₀ : Nat} {s₀ : State} {n : Nat} {s : State} (h₀ : Frame w₀ s₀ s) (hw₀ : 73014444038 ||| w₀ = w₀) :
    Frame w₀ s₀ (extFaultRise n s) := by
  refine h₀.trans 73014444038 ?_ hw₀
  clear h₀ hw₀
  unfold extFaultRise
  repeat' first
      | with_reducible assumption
      | with_reducible exact Frame.refl
      | ((first | intro x | (lift_lets -underBinder; intro x)); first
      | (refine Frame.cut (w := 73014444038) (s := s) (x := x) ?_ fun _ => ?_; (on_goal 1 => try dsimp only [x]); (on_goal 2 => clear_value x))
      | clear_value x)
      | ((with_reducible refine extFaultNow_frame ?_ ?_); on_goal 2 => rfl)
      | ((with_reducible refine Frame.updPins ?_ ?_); on_goal 2 => rfl)
      | with_reducible refine Frame.ite ?_ ?_

theorem extFaultFall_frame {w₀ : Nat} {s₀ : State} {n : Nat} {s : State} (h₀ : Frame w₀ s₀ s) (hw₀ : 6 ||| w₀ = w₀) :
    Frame w₀ s₀ (extFaultFall n s) := by
  refine h₀.trans 6 ?_ hw₀
  clear h₀ hw₀
  unfold extFaultFall
  repeat' first
      | with_reducible exact Frame.refl
      | ((with_reducible refine Frame.updPins ?_ ?_); on_goal 2 => rfl)
      | with_reducible refine Frame.ite ?_ ?_

theorem afterStop_frame {w₀ : Nat} {s₀ : State}  {s : State} (h₀ : Frame w₀ s₀ s) (hw₀ : 897648164870 ||| w₀ = w₀) :
    Frame w₀ s₀ (afterStop s) := by
  refine h₀.trans 897648164870 ?_ hw₀
  clear h₀ hw₀
  unfold afterStop
  repeat' first
      | with_reducible assumption
      | with_reducible exact Frame.refl
      | ((first | intro x | (lift_lets -underBinder; intro x)); first
      | (refine Frame.cut (w := 897648164870) (s := s) (x := x) ?_ fun _ => ?_; (on_goal 1 => try dsimp only [x]); (on_goal 2 => clear_value x))
      | clear_value x)
      | ((with_reducible refine wakeEnds_frame ?_ ?_); on_goal 2 => rfl)
      | ((with_reducible refine extFaultNow_frame ?_ ?_); on_goal 2 => rfl)
      | ((with_reducible refine Frame.updPins ?_ ?_); on_goal 2 => rfl)
      | with_reducible refine Frame.forAll (fun _ s => ?_) _ ?_
      | with_reducible refine Frame.ite ?_ ?_

end Sys2Proof.Machine
end

