-- ==== Sys2Proof/Laws/FrKeys.lean ====
section
/-! SUPPORT. What each operation of Machine/Keys.lean may change (see Frame.lean). -/

namespace Sys2Proof.Machine

-- One declaration at a time, so that the elaborator holds few threads (each takes stack of its own).
set_option Elab.async false

theorem hallCount_frame {w₀ : Nat} {s₀ : State} {hall : Nat} {n : Nat} {by' : Nat} {s : State} (h₀ : Frame w₀ s₀ s) (hw₀ : 1073741824 ||| w₀ = w₀) :
    Frame w₀ s₀ (hallCount hall n by' s) := by
  refine h₀.trans 1073741824 ?_ hw₀
  clear h₀ hw₀
  unfold hallCount
  repeat' first
      | with_reducible exact Frame.refl
      | ((with_reducible refine Frame.updItuSoft (f := _) ?_ ?_ ?_); (on_goal 1 => (intro _; unfold Itu.rest; rfl)); on_goal 2 => rfl)

theorem hallStale_frame {w₀ : Nat} {s₀ : State} {hall : Nat} {s : State} (h₀ : Frame w₀ s₀ s) (hw₀ : 1073741824 ||| w₀ = w₀) :
    Frame w₀ s₀ (hallStale hall s) := by
  refine h₀.trans 1073741824 ?_ hw₀
  clear h₀ hw₀
  unfold hallStale
  repeat' first
      | with_reducible exact Frame.refl
      | ((with_reducible refine hallCount_frame ?_ ?_); on_goal 2 => rfl)

theorem rxCount_frame {w₀ : Nat} {s₀ : State} {p : Nat} {n : Nat} {by' : Nat} {s : State} (h₀ : Frame w₀ s₀ s) (hw₀ : 8192 ||| w₀ = w₀) :
    Frame w₀ s₀ (rxCount p n by' s) := by
  refine h₀.trans 8192 ?_ hw₀
  clear h₀ hw₀
  unfold rxCount
  repeat' first
      | with_reducible exact Frame.refl
      | ((with_reducible refine Frame.updLsSoft (f := _) ?_ ?_ ?_); (on_goal 1 => (intro _; unfold Ls.rest; rfl)); on_goal 2 => rfl)

theorem txCount_frame {w₀ : Nat} {s₀ : State} {p : Nat} {n : Nat} {by' : Nat} {s : State} (h₀ : Frame w₀ s₀ s) (hw₀ : 8192 ||| w₀ = w₀) :
    Frame w₀ s₀ (txCount p n by' s) := by
  refine h₀.trans 8192 ?_ hw₀
  clear h₀ hw₀
  unfold txCount
  repeat' first
      | with_reducible exact Frame.refl
      | ((with_reducible refine Frame.updLsSoft (f := _) ?_ ?_ ?_); (on_goal 1 => (intro _; unfold Ls.rest; rfl)); on_goal 2 => rfl)

theorem dropCopies_frame {w₀ : Nat} {s₀ : State} {gone : List Handle} {s : State} (h₀ : Frame w₀ s₀ s) (hw₀ : 64 ||| w₀ = w₀) :
    Frame w₀ s₀ (dropCopies gone s) := by
  refine h₀.trans 64 ?_ hw₀
  clear h₀ hw₀
  unfold dropCopies
  repeat' first
      | with_reducible exact Frame.refl
      | ((with_reducible refine Frame.updKvSoft (f := _) ?_ ?_ ?_); (on_goal 1 => (intro _; refine ⟨?_, rfl⟩; unfold Kv.rest; rfl)); on_goal 2 => rfl)

theorem destroySlots_frame {w₀ : Nat} {s₀ : State} {l : List Nat} {s : State} (h₀ : Frame w₀ s₀ s) (hw₀ : 64 ||| w₀ = w₀) :
    Frame w₀ s₀ (destroySlots l s) := by
  refine h₀.trans 64 ?_ hw₀
  clear h₀ hw₀
  unfold destroySlots
  repeat' first
      | with_reducible exact Frame.refl
      | ((with_reducible refine dropCopies_frame ?_ ?_); on_goal 2 => rfl)
      | ((with_reducible refine Frame.updKvSoft (f := _) ?_ ?_ ?_); (on_goal 1 => (intro _; refine ⟨?_, rfl⟩; unfold Kv.rest; rfl)); on_goal 2 => rfl)

theorem retireHandle_frame {w₀ : Nat} {s₀ : State} {h : Handle} {s : State} (h₀ : Frame w₀ s₀ s) (hw₀ : 64 ||| w₀ = w₀) :
    Frame w₀ s₀ (retireHandle h s) := by
  refine h₀.trans 64 ?_ hw₀
  clear h₀ hw₀
  unfold retireHandle
  repeat' first
      | with_reducible exact Frame.refl
      | ((with_reducible refine destroySlots_frame ?_ ?_); on_goal 2 => rfl)
      | split

theorem failTicket_frame {w₀ : Nat} {s₀ : State} {unit : Nat} {ticket : Nat} {s : State} (h₀ : Frame w₀ s₀ s) (hw₀ : 33587200 ||| w₀ = w₀) :
    Frame w₀ s₀ (failTicket unit ticket s) := by
  refine h₀.trans 33587200 ?_ hw₀
  clear h₀ hw₀
  unfold failTicket
  repeat' first
      | with_reducible exact Frame.refl
      | ((with_reducible refine Frame.updFeSoft (f := _) ?_ ?_ ?_); (on_goal 1 => (intro _; unfold Fe.rest; rfl)); on_goal 2 => rfl)
      | ((with_reducible refine Frame.updLnSoft (f := _) ?_ ?_ ?_); (on_goal 1 => (intro _; unfold Ln.rest; rfl)); on_goal 2 => rfl)
      | with_reducible refine Frame.ite ?_ ?_

theorem missNoParent_frame {w₀ : Nat} {s₀ : State} {d : Derivation} {s : State} (h₀ : Frame w₀ s₀ s) (hw₀ : 35257420120256 ||| w₀ = w₀) :
    Frame w₀ s₀ (missNoParent d s) := by
  refine h₀.trans 35257420120256 ?_ hw₀
  clear h₀ hw₀
  unfold missNoParent
  repeat' first
      | with_reducible assumption
      | with_reducible exact Frame.refl
      | ((first | intro x | (lift_lets -underBinder; intro x)); first
      | (refine Frame.cut (w := 35257420120256) (s := s) (x := x) ?_ fun _ => ?_; (on_goal 1 => try dsimp only [x]); (on_goal 2 => clear_value x)))
      | ((with_reducible refine State.kvEvent_frame ?_ ?_); on_goal 2 => rfl)
      | ((with_reducible refine raiseFault_frame ?_ ?_); on_goal 2 => rfl)
      | ((with_reducible refine failTicket_frame ?_ ?_); on_goal 2 => rfl)
      | ((with_reducible refine Frame.updKv (f := _) ?_ ?_ ?_); (on_goal 1 => (intro _; rfl)); on_goal 2 => rfl)
      | ((with_reducible refine Frame.emit ?_ ?_); on_goal 2 => rfl)
      | with_reducible refine Frame.forAll (fun _ s => ?_) _ ?_
      | with_reducible refine Frame.ite ?_ ?_

theorem retireMatchOp_frame {w₀ : Nat} {s₀ : State} {cls : Nat} {hall : Nat} {gen : Nat} {s : State} (h₀ : Frame w₀ s₀ s) (hw₀ : 35257420120256 ||| w₀ = w₀) :
    Frame w₀ s₀ (retireMatchOp cls hall gen s) := by
  refine h₀.trans 35257420120256 ?_ hw₀
  clear h₀ hw₀
  unfold retireMatchOp
  repeat' first
      | with_reducible assumption
      | with_reducible exact Frame.refl
      | ((first | intro x | (lift_lets -underBinder; intro x)); first
      | (refine Frame.cut (w := 35257420120256) (s := s) (x := x) ?_ fun _ => ?_; (on_goal 1 => try dsimp only [x]); (on_goal 2 => clear_value x))
      | clear_value x)
      | ((with_reducible refine destroySlots_frame ?_ ?_); on_goal 2 => rfl)
      | ((with_reducible refine missNoParent_frame ?_ ?_); on_goal 2 => rfl)
      | ((with_reducible refine Frame.updKvSoft (f := _) ?_ ?_ ?_); (on_goal 1 => (intro _; refine ⟨?_, rfl⟩; unfold Kv.rest; rfl)); on_goal 2 => rfl)
      | with_reducible refine Frame.forAll (fun _ s => ?_) _ ?_

theorem placeFree_frame {w₀ : Nat} {s₀ : State} {x : KeySlot} {s : State} (h₀ : Frame w₀ s₀ s) (hw₀ : 64 ||| w₀ = w₀) :
    Frame w₀ s₀ (placeFree x s).2 := by
  refine h₀.trans 64 ?_ hw₀
  clear h₀ hw₀
  unfold placeFree
  repeat' first
      | with_reducible exact Frame.refl
      | ((with_reducible refine Frame.updKvSoft (f := _) ?_ ?_ ?_); (on_goal 1 => (intro _; refine ⟨?_, rfl⟩; unfold Kv.rest; rfl)); on_goal 2 => rfl)
      | split

theorem placePinned_frame {w₀ : Nat} {s₀ : State} {replace : Bool} {x : KeySlot} {s : State} (h₀ : Frame w₀ s₀ s) (hw₀ : 64 ||| w₀ = w₀) :
    Frame w₀ s₀ (placePinned replace x s).2 := by
  refine h₀.trans 64 ?_ hw₀
  clear h₀ hw₀
  unfold placePinned
  repeat' first
      | with_reducible exact Frame.refl
      | ((with_reducible refine dropCopies_frame ?_ ?_); on_goal 2 => rfl)
      | ((with_reducible refine destroySlots_frame ?_ ?_); on_goal 2 => rfl)
      | ((with_reducible refine placeFree_frame ?_ ?_); on_goal 2 => rfl)
      | ((with_reducible refine Frame.updKvSoft (f := _) ?_ ?_ ?_); (on_goal 1 => (intro _; refine ⟨?_, rfl⟩; unfold Kv.rest; rfl)); on_goal 2 => rfl)
      | with_reducible refine Frame.ite2 ?_ ?_
      | split

theorem placeDerived_frame {w₀ : Nat} {s₀ : State} {x : KeySlot} {s : State} (h₀ : Frame w₀ s₀ s) (hw₀ : 64 ||| w₀ = w₀) :
    Frame w₀ s₀ (placeDerived x s) := by
  refine h₀.trans 64 ?_ hw₀
  clear h₀ hw₀
  unfold placeDerived
  repeat' first
      | with_reducible exact Frame.refl
      | ((with_reducible refine State.kvCount_frame ?_ ?_); on_goal 2 => rfl)
      | ((with_reducible refine Frame.updKvSoft (f := _) ?_ ?_ ?_); (on_goal 1 => (intro _; refine ⟨?_, rfl⟩; unfold Kv.rest; rfl)); on_goal 2 => rfl)
      | split

theorem setRemaining_frame {w₀ : Nat} {s₀ : State} {i : Nat} {n : Nat} {s : State} (h₀ : Frame w₀ s₀ s) (hw₀ : 73014444096 ||| w₀ = w₀) :
    Frame w₀ s₀ (setRemaining i n s) := by
  refine h₀.trans 73014444096 ?_ hw₀
  clear h₀ hw₀
  unfold setRemaining
  repeat' first
      | with_reducible assumption
      | with_reducible exact Frame.refl
      | ((first | intro x | (lift_lets -underBinder; intro x)); first
      | (refine Frame.cut (w := 73014444096) (s := s) (x := x) ?_ fun _ => ?_; (on_goal 1 => try dsimp only [x]); (on_goal 2 => clear_value x))
      | clear_value x)
      | ((with_reducible refine State.kvEvent_frame ?_ ?_); on_goal 2 => rfl)
      | ((with_reducible refine raiseFault_frame ?_ ?_); on_goal 2 => rfl)
      | ((with_reducible refine Frame.updKvSoft (f := _) ?_ ?_ ?_); (on_goal 1 => (intro _; refine ⟨?_, rfl⟩; unfold Kv.rest; rfl)); on_goal 2 => rfl)
      | with_reducible refine Frame.ite ?_ ?_

theorem returnLease_frame {w₀ : Nat} {s₀ : State} {unit : Nat} {s : State} (h₀ : Frame w₀ s₀ s) (hw₀ : 64 ||| w₀ = w₀) :
    Frame w₀ s₀ (returnLease unit s) := by
  refine h₀.trans 64 ?_ hw₀
  clear h₀ hw₀
  unfold returnLease
  repeat' first
      | with_reducible assumption
      | with_reducible exact Frame.refl
      | ((first | intro x | (lift_lets -underBinder; intro x)); first
      | (refine Frame.cut (w := 64) (s := s) (x := x) ?_ fun _ => ?_; (on_goal 1 => try dsimp only [x]); (on_goal 2 => clear_value x))
      | clear_value x)
      | ((with_reducible refine Frame.updKvSoft (f := _) ?_ ?_ ?_); (on_goal 1 => (intro _; refine ⟨?_, rfl⟩; unfold Kv.rest; rfl)); on_goal 2 => rfl)
      | with_reducible refine Frame.ite ?_ ?_

theorem forfeitLease_frame {w₀ : Nat} {s₀ : State} {unit : Nat} {s : State} (h₀ : Frame w₀ s₀ s) (hw₀ : 64 ||| w₀ = w₀) :
    Frame w₀ s₀ (forfeitLease unit s) := by
  refine h₀.trans 64 ?_ hw₀
  clear h₀ hw₀
  unfold forfeitLease
  repeat' first
      | with_reducible exact Frame.refl
      | ((with_reducible refine Frame.updKvSoft (f := _) ?_ ?_ ?_); (on_goal 1 => (intro _; refine ⟨?_, rfl⟩; unfold Kv.rest; rfl)); on_goal 2 => rfl)

theorem enqueue_frame {w₀ : Nat} {s₀ : State} {d : Derivation} {s : State} (h₀ : Frame w₀ s₀ s) (hw₀ : 64 ||| w₀ = w₀) :
    Frame w₀ s₀ (enqueue d s) := by
  refine h₀.trans 64 ?_ hw₀
  clear h₀ hw₀
  unfold enqueue
  repeat' first
      | with_reducible exact Frame.refl
      | ((first | intro x | (lift_lets -underBinder; intro x)); first
      | clear_value x)
      | ((with_reducible refine State.kvEvent_frame ?_ ?_); on_goal 2 => rfl)
      | ((with_reducible refine Frame.updKvSoft (f := _) ?_ ?_ ?_); (on_goal 1 => (intro _; refine ⟨?_, rfl⟩; unfold Kv.rest; rfl)); on_goal 2 => rfl)
      | with_reducible refine Frame.ite ?_ ?_

theorem loadRegister_frame {w₀ : Nat} {s₀ : State} {unit : Nat} {r : PipeKey} {s : State} (h₀ : Frame w₀ s₀ s) (hw₀ : 32832 ||| w₀ = w₀) :
    Frame w₀ s₀ (loadRegister unit r s) := by
  refine h₀.trans 32832 ?_ hw₀
  clear h₀ hw₀
  unfold loadRegister
  repeat' first
      | with_reducible assumption
      | with_reducible exact Frame.refl
      | ((first | intro x | (lift_lets -underBinder; intro x)); first
      | (refine Frame.cut (w := 32832) (s := s) (x := x) ?_ fun _ => ?_; (on_goal 1 => try dsimp only [x]); (on_goal 2 => clear_value x))
      | clear_value x)
      | ((with_reducible refine State.lnCount_frame ?_ ?_); on_goal 2 => rfl)
      | ((with_reducible refine Frame.updKvSoft (f := _) ?_ ?_ ?_); (on_goal 1 => (intro _; refine ⟨?_, rfl⟩; unfold Kv.rest; rfl)); on_goal 2 => rfl)
      | with_reducible refine Frame.ite ?_ ?_

theorem serveHit_frame {w₀ : Nat} {s₀ : State} {l : Lookup} {i : Nat} {s : State} (h₀ : Frame w₀ s₀ s) (hw₀ : 73014476864 ||| w₀ = w₀) :
    Frame w₀ s₀ (serveHit l i s).2 := by
  refine h₀.trans 73014476864 ?_ hw₀
  clear h₀ hw₀
  unfold serveHit
  repeat' first
      | with_reducible assumption
      | with_reducible exact Frame.refl
      | ((first | intro x | (lift_lets -underBinder; intro x)); first
      | (refine Frame.cut (w := 73014476864) (s := s) (x := x) ?_ fun _ => ?_; (on_goal 1 => try dsimp only [x]); (on_goal 2 => clear_value x))
      | clear_value x)
      | ((with_reducible refine State.kvCount_frame ?_ ?_); on_goal 2 => rfl)
      | ((with_reducible refine rushes_frame ?_ ?_); on_goal 2 => rfl)
      | ((with_reducible refine reportFault_frame ?_ ?_); on_goal 2 => rfl)
      | ((with_reducible refine setRemaining_frame ?_ ?_); on_goal 2 => rfl)
      | ((with_reducible refine loadRegister_frame ?_ ?_); on_goal 2 => rfl)
      | ((with_reducible refine Frame.updKvSoft (f := _) ?_ ?_ ?_); (on_goal 1 => (intro _; refine ⟨?_, rfl⟩; unfold Kv.rest; rfl)); on_goal 2 => rfl)
      | with_reducible refine Frame.ite ?_ ?_
      | with_reducible refine Frame.ite2 ?_ ?_

theorem serveMiss_frame {w₀ : Nat} {s₀ : State} {l : Lookup} {s : State} (h₀ : Frame w₀ s₀ s) (hw₀ : 64 ||| w₀ = w₀) :
    Frame w₀ s₀ (serveMiss l s).2 := by
  refine h₀.trans 64 ?_ hw₀
  clear h₀ hw₀
  unfold serveMiss
  repeat' first
      | with_reducible exact Frame.refl
      | ((first | intro x | (lift_lets -underBinder; intro x)); first
      | clear_value x)
      | ((with_reducible refine State.kvEvent_frame ?_ ?_); on_goal 2 => rfl)
      | ((with_reducible refine State.kvCount_frame ?_ ?_); on_goal 2 => rfl)
      | ((with_reducible refine enqueue_frame ?_ ?_); on_goal 2 => rfl)
      | with_reducible refine Frame.ite2 ?_ ?_

theorem lookupKey_frame {w₀ : Nat} {s₀ : State} {l : Lookup} {s : State} (h₀ : Frame w₀ s₀ s) (hw₀ : 73014476864 ||| w₀ = w₀) :
    Frame w₀ s₀ (lookupKey l s).2 := by
  refine h₀.trans 73014476864 ?_ hw₀
  clear h₀ hw₀
  unfold lookupKey
  repeat' first
      | with_reducible assumption
      | with_reducible exact Frame.refl
      | ((first | intro x | (lift_lets -underBinder; intro x)); first
      | (refine Frame.cut (w := 73014476864) (s := s) (x := x) ?_ fun _ => ?_; (on_goal 1 => try dsimp only [x]); (on_goal 2 => clear_value x))
      | clear_value x)
      | ((with_reducible refine State.kvCount_frame ?_ ?_); on_goal 2 => rfl)
      | ((with_reducible refine returnLease_frame ?_ ?_); on_goal 2 => rfl)
      | ((with_reducible refine serveHit_frame ?_ ?_); on_goal 2 => rfl)
      | ((with_reducible refine serveMiss_frame ?_ ?_); on_goal 2 => rfl)
      | with_reducible refine Frame.ite2 ?_ ?_
      | split

theorem keyFor_frame {w₀ : Nat} {s₀ : State} {l : Lookup} {s : State} (h₀ : Frame w₀ s₀ s) (hw₀ : 73014476864 ||| w₀ = w₀) :
    Frame w₀ s₀ (keyFor l s).2 := by
  refine h₀.trans 73014476864 ?_ hw₀
  clear h₀ hw₀
  unfold keyFor
  repeat' first
      | with_reducible assumption
      | with_reducible exact Frame.refl
      | ((first | intro x | (lift_lets -underBinder; intro x)); first
      | (refine Frame.cut (w := 73014476864) (s := s) (x := x) ?_ fun _ => ?_; (on_goal 1 => try dsimp only [x]); (on_goal 2 => clear_value x))
      | clear_value x)
      | ((with_reducible refine lookupKey_frame ?_ ?_); on_goal 2 => rfl)
      | ((with_reducible refine Frame.updKvSoft (f := _) ?_ ?_ ?_); (on_goal 1 => (intro _; refine ⟨?_, rfl⟩; unfold Kv.rest; rfl)); on_goal 2 => rfl)
      | dsimp -zeta only
      | with_reducible refine Frame.ite2 ?_ ?_
      | split

theorem keyLookupOp_frame {w₀ : Nat} {s₀ : State} {l : Lookup} {s : State} (h₀ : Frame w₀ s₀ s) (hw₀ : 35258460315712 ||| w₀ = w₀) :
    Frame w₀ s₀ (keyLookupOp l s) := by
  refine h₀.trans 35258460315712 ?_ hw₀
  clear h₀ hw₀
  unfold keyLookupOp
  repeat' first
      | with_reducible exact Frame.refl
      | ((with_reducible refine raiseFault_frame ?_ ?_); on_goal 2 => rfl)
      | ((with_reducible refine reportFault_frame ?_ ?_); on_goal 2 => rfl)
      | ((with_reducible refine hallStale_frame ?_ ?_); on_goal 2 => rfl)
      | ((with_reducible refine rxCount_frame ?_ ?_); on_goal 2 => rfl)
      | ((with_reducible refine lookupKey_frame ?_ ?_); on_goal 2 => rfl)
      | ((with_reducible refine Frame.emit ?_ ?_); on_goal 2 => rfl)
      | (refine Frame.ofEq ‹_› ?_)
      | with_reducible refine Frame.ite ?_ ?_
      | split

theorem admitDerivation_frame {w₀ : Nat} {s₀ : State}  {s : State} (h₀ : Frame w₀ s₀ s) (hw₀ : 64 ||| w₀ = w₀) :
    Frame w₀ s₀ (admitDerivation s) := by
  refine h₀.trans 64 ?_ hw₀
  clear h₀ hw₀
  unfold admitDerivation
  repeat' first
      | with_reducible exact Frame.refl
      | ((with_reducible refine enqueue_frame ?_ ?_); on_goal 2 => rfl)
      | ((with_reducible refine Frame.updKvSoft (f := _) ?_ ?_ ?_); (on_goal 1 => (intro _; refine ⟨?_, rfl⟩; unfold Kv.rest; rfl)); on_goal 2 => rfl)
      | with_reducible refine Frame.ite ?_ ?_
      | split

theorem placeChild_frame {w₀ : Nat} {s₀ : State} {d : Derivation} {x : KeySlot} {s : State} (h₀ : Frame w₀ s₀ s) (hw₀ : 64 ||| w₀ = w₀) :
    Frame w₀ s₀ (placeChild d x s).2 := by
  refine h₀.trans 64 ?_ hw₀
  clear h₀ hw₀
  unfold placeChild
  repeat' first
      | with_reducible exact Frame.refl
      | ((with_reducible refine placePinned_frame ?_ ?_); on_goal 2 => rfl)
      | ((with_reducible refine placeDerived_frame ?_ ?_); on_goal 2 => rfl)
      | with_reducible refine Frame.ite ?_ ?_
      | with_reducible refine Frame.ite2 ?_ ?_

theorem derivationDone_frame {w₀ : Nat} {s₀ : State}  {s : State} (h₀ : Frame w₀ s₀ s) (hw₀ : 35257420120256 ||| w₀ = w₀) :
    Frame w₀ s₀ (derivationDone s) := by
  refine h₀.trans 35257420120256 ?_ hw₀
  clear h₀ hw₀
  unfold derivationDone
  repeat' first
      | with_reducible assumption
      | with_reducible exact Frame.refl
      | ((first | intro x | (lift_lets -underBinder; intro x)); first
      | (refine Frame.cut (w := 35257420120256) (s := s) (x := x) ?_ fun _ => ?_; (on_goal 1 => try dsimp only [x]); (on_goal 2 => clear_value x))
      | clear_value x)
      | ((with_reducible refine State.kvCount_frame ?_ ?_); on_goal 2 => rfl)
      | ((with_reducible refine reportFault_frame ?_ ?_); on_goal 2 => rfl)
      | ((with_reducible refine missNoParent_frame ?_ ?_); on_goal 2 => rfl)
      | ((with_reducible refine returnLease_frame ?_ ?_); on_goal 2 => rfl)
      | ((with_reducible refine loadRegister_frame ?_ ?_); on_goal 2 => rfl)
      | ((with_reducible refine placeChild_frame ?_ ?_); on_goal 2 => rfl)
      | ((with_reducible refine Frame.updKvSoft (f := _) ?_ ?_ ?_); (on_goal 1 => (intro _; refine ⟨?_, rfl⟩; unfold Kv.rest; rfl)); on_goal 2 => rfl)
      | ((with_reducible refine Frame.updKv (f := _) ?_ ?_ ?_); (on_goal 1 => (intro _; rfl)); on_goal 2 => rfl)
      | ((with_reducible refine Frame.emit ?_ ?_); on_goal 2 => rfl)
      | with_reducible refine Frame.forAll (fun _ s => ?_) _ ?_
      | dsimp -zeta only
      | with_reducible refine Frame.ite ?_ ?_
      | split

theorem dropKeyRegister_frame {w₀ : Nat} {s₀ : State} {unit : Nat} {s : State} (h₀ : Frame w₀ s₀ s) (hw₀ : 64 ||| w₀ = w₀) :
    Frame w₀ s₀ (dropKeyRegister unit s) := by
  refine h₀.trans 64 ?_ hw₀
  clear h₀ hw₀
  unfold dropKeyRegister
  repeat' first
      | with_reducible exact Frame.refl
      | ((with_reducible refine Frame.updKvSoft (f := _) ?_ ?_ ?_); (on_goal 1 => (intro _; refine ⟨?_, rfl⟩; unfold Kv.rest; rfl)); on_goal 2 => rfl)
      | with_reducible refine Frame.ite ?_ ?_

theorem deriveInto_frame {w₀ : Nat} {s₀ : State} {h : Handle} {parent : Handle} {label : Bytes} {attr : BitVec 4} {budget : Nat} {replace : Bool} {s : State} (h₀ : Frame w₀ s₀ s) (hw₀ : 64 ||| w₀ = w₀) :
    Frame w₀ s₀ (deriveInto h parent label attr budget replace s).2 := by
  refine h₀.trans 64 ?_ hw₀
  clear h₀ hw₀
  unfold deriveInto
  repeat' first
      | with_reducible exact Frame.refl
      | ((first | intro x | (lift_lets -underBinder; intro x)); first
      | clear_value x)
      | ((with_reducible refine placePinned_frame ?_ ?_); on_goal 2 => rfl)
      | with_reducible refine Frame.ite2 ?_ ?_
      | split

theorem unwrapInto_frame {w₀ : Nat} {s₀ : State} {h : Handle} {kek : Handle} {blob : Bytes} {replace : Bool} {s : State} (h₀ : Frame w₀ s₀ s) (hw₀ : 64 ||| w₀ = w₀) :
    Frame w₀ s₀ (unwrapInto h kek blob replace s).2 := by
  refine h₀.trans 64 ?_ hw₀
  clear h₀ hw₀
  unfold unwrapInto
  repeat' first
      | with_reducible exact Frame.refl
      | ((with_reducible refine placePinned_frame ?_ ?_); on_goal 2 => rfl)
      | with_reducible refine Frame.ite2 ?_ ?_
      | split

theorem writeKeyRegion_frame {w₀ : Nat} {s₀ : State} {off : Nat} {b : Bytes} {s : State} (h₀ : Frame w₀ s₀ s) (hw₀ : 448 ||| w₀ = w₀) :
    Frame w₀ s₀ (writeKeyRegion off b s) := by
  refine h₀.trans 448 ?_ hw₀
  clear h₀ hw₀
  unfold writeKeyRegion
  repeat' first
      | with_reducible exact Frame.refl
      | ((with_reducible refine Frame.updKvRegion (f := _) ?_ ?_ ?_); (on_goal 1 => first | exact fun _ h => Memory.wf_writeBytes h | exact fun _ _ => rfl); on_goal 2 => rfl)

theorem importInto_frame {w₀ : Nat} {s₀ : State} {h : Handle} {off : Nat} {attr : BitVec 4} {replace : Bool} {s : State} (h₀ : Frame w₀ s₀ s) (hw₀ : 448 ||| w₀ = w₀) :
    Frame w₀ s₀ (importInto h off attr replace s).2 := by
  refine h₀.trans 448 ?_ hw₀
  clear h₀ hw₀
  unfold importInto
  repeat' first
      | with_reducible exact Frame.refl
      | ((with_reducible refine placePinned_frame ?_ ?_); on_goal 2 => rfl)
      | ((with_reducible refine writeKeyRegion_frame ?_ ?_); on_goal 2 => rfl)
      | with_reducible refine Frame.ite2 ?_ ?_

theorem voidLanes_frame {w₀ : Nat} {s₀ : State}  {s : State} (h₀ : Frame w₀ s₀ s) (hw₀ : 24576 ||| w₀ = w₀) :
    Frame w₀ s₀ (voidLanes s) := by
  refine h₀.trans 24576 ?_ hw₀
  clear h₀ hw₀
  unfold voidLanes
  repeat' first
      | with_reducible exact Frame.refl
      | ((with_reducible refine Frame.updLs ?_ ?_); on_goal 2 => rfl)

theorem zeroKeyRegisters_frame {w₀ : Nat} {s₀ : State}  {s : State} (h₀ : Frame w₀ s₀ s) (hw₀ : 70368744179776 ||| w₀ = w₀) :
    Frame w₀ s₀ (zeroKeyRegisters s) := by
  refine h₀.trans 70368744179776 ?_ hw₀
  clear h₀ hw₀
  unfold zeroKeyRegisters
  repeat' first
      | with_reducible assumption
      | with_reducible exact Frame.refl
      | ((first | intro x | (lift_lets -underBinder; intro x)); first
      | (refine Frame.cut (w := 70368744179776) (s := s) (x := x) ?_ fun _ => ?_; (on_goal 1 => try dsimp only [x]); (on_goal 2 => clear_value x))
      | clear_value x)
      | ((with_reducible refine State.atEvent_frame ?_ ?_); on_goal 2 => rfl)
      | ((with_reducible refine Frame.updAt ?_ ?_); on_goal 2 => rfl)
      | ((with_reducible refine Frame.updKvSoft (f := _) ?_ ?_ ?_); (on_goal 1 => (intro _; refine ⟨?_, rfl⟩; unfold Kv.rest; rfl)); on_goal 2 => rfl)
      | with_reducible refine Frame.ite ?_ ?_

theorem wipeAllOp_frame {w₀ : Nat} {s₀ : State}  {s : State} (h₀ : Frame w₀ s₀ s) (hw₀ : 105626164324800 ||| w₀ = w₀) :
    Frame w₀ s₀ (wipeAllOp s) := by
  refine h₀.trans 105626164324800 ?_ hw₀
  clear h₀ hw₀
  unfold wipeAllOp
  repeat' first
      | with_reducible assumption
      | with_reducible exact Frame.refl
      | ((first | intro x | (lift_lets -underBinder; intro x)); first
      | (refine Frame.cut (w := 105626164324800) (s := s) (x := x) ?_ fun _ => ?_; (on_goal 1 => try dsimp only [x]); (on_goal 2 => clear_value x))
      | clear_value x)
      | ((with_reducible refine State.kvEvent_frame ?_ ?_); on_goal 2 => rfl)
      | ((with_reducible refine missNoParent_frame ?_ ?_); on_goal 2 => rfl)
      | ((with_reducible refine voidLanes_frame ?_ ?_); on_goal 2 => rfl)
      | ((with_reducible refine zeroKeyRegisters_frame ?_ ?_); on_goal 2 => rfl)
      | ((with_reducible refine Frame.updAt ?_ ?_); on_goal 2 => rfl)
      | ((with_reducible refine Frame.updKvSoft (f := _) ?_ ?_ ?_); (on_goal 1 => (intro _; refine ⟨?_, rfl⟩; unfold Kv.rest; rfl)); on_goal 2 => rfl)
      | ((with_reducible refine Frame.updKv (f := _) ?_ ?_ ?_); (on_goal 1 => (intro _; rfl)); on_goal 2 => rfl)
      | ((with_reducible refine Frame.updKvRegion (f := _) ?_ ?_ ?_); (on_goal 1 => first | exact fun _ h => Memory.wf_writeBytes h | exact fun _ _ => rfl); on_goal 2 => rfl)
      | with_reducible refine Frame.forAll (fun _ s => ?_) _ ?_

theorem kvFinish_frame {w₀ : Nat} {s₀ : State} {op : BitVec 4} {replace : Bool} {r : Status × State} (h₀ : Frame w₀ s₀ r.2) (hw₀ : 192 ||| w₀ = w₀) :
    Frame w₀ s₀ (kvFinish op replace r) := by
  refine h₀.trans 192 ?_ hw₀
  clear h₀ hw₀
  rcases r with ⟨_, s⟩
  show Frame 192 s _
  unfold kvFinish
  repeat' first
      | with_reducible exact Frame.refl
      | ((with_reducible refine Frame.updKv (f := _) ?_ ?_ ?_); (on_goal 1 => (intro _; rfl)); on_goal 2 => rfl)

theorem kvDeriveFast_frame {w₀ : Nat} {s₀ : State} {replace : Bool} {s : State} (h₀ : Frame w₀ s₀ s) (hw₀ : 192 ||| w₀ = w₀) :
    Frame w₀ s₀ (kvDeriveFast replace s) := by
  refine h₀.trans 192 ?_ hw₀
  clear h₀ hw₀
  unfold kvDeriveFast
  repeat' first
      | with_reducible exact Frame.refl
      | ((first | intro x | (lift_lets -underBinder; intro x)); first
      | clear_value x)
      | ((with_reducible refine State.kvEvent_frame ?_ ?_); on_goal 2 => rfl)
      | ((with_reducible refine enqueue_frame ?_ ?_); on_goal 2 => rfl)
      | ((with_reducible refine kvFinish_frame ?_ ?_); on_goal 2 => rfl)
      | ((with_reducible refine Frame.updKv (f := _) ?_ ?_ ?_); (on_goal 1 => (intro _; rfl)); on_goal 2 => rfl)
      | with_reducible refine Frame.ite ?_ ?_

theorem kvCommand_frame {w₀ : Nat} {s₀ : State} {op : Nat} {replace : Bool} {s : State} (h₀ : Frame w₀ s₀ s) (hw₀ : 105626164324800 ||| w₀ = w₀) :
    Frame w₀ s₀ (kvCommand op replace s) := by
  refine h₀.trans 105626164324800 ?_ hw₀
  clear h₀ hw₀
  unfold kvCommand
  repeat' first
      | with_reducible exact Frame.refl
      | ((first | intro x | (lift_lets -underBinder; intro x)); first
      | clear_value x)
      | ((with_reducible refine retireHandle_frame ?_ ?_); on_goal 2 => rfl)
      | ((with_reducible refine retireMatchOp_frame ?_ ?_); on_goal 2 => rfl)
      | ((with_reducible refine setRemaining_frame ?_ ?_); on_goal 2 => rfl)
      | ((with_reducible refine deriveInto_frame ?_ ?_); on_goal 2 => rfl)
      | ((with_reducible refine unwrapInto_frame ?_ ?_); on_goal 2 => rfl)
      | ((with_reducible refine importInto_frame ?_ ?_); on_goal 2 => rfl)
      | ((with_reducible refine wipeAllOp_frame ?_ ?_); on_goal 2 => rfl)
      | ((with_reducible refine kvFinish_frame ?_ ?_); on_goal 2 => rfl)
      | ((with_reducible refine kvDeriveFast_frame ?_ ?_); on_goal 2 => rfl)
      | ((with_reducible refine Frame.updKv (f := _) ?_ ?_ ?_); (on_goal 1 => (intro _; rfl)); on_goal 2 => rfl)
      | with_reducible refine Frame.ite ?_ ?_
      | split

end Sys2Proof.Machine
end

