-- ==== Sys2Proof/Laws/FrSession.lean ====
section
/-! SUPPORT. What each operation of Machine/Session.lean may change (see Frame.lean). -/

namespace Sys2Proof.Machine

-- One declaration at a time, so that the elaborator holds few threads (each takes stack of its own).
set_option Elab.async false

theorem updSess_frame {w₀ : Nat} {s₀ : State} {n : Nat} {f : Session → Session} {s : State} (h₀ : Frame w₀ s₀ s) (hw₀ : 2199023255552 ||| w₀ = w₀) :
    Frame w₀ s₀ (updSess n f s) := by
  refine h₀.trans 2199023255552 ?_ hw₀
  clear h₀ hw₀
  unfold updSess
  repeat' first
      | with_reducible exact Frame.refl
      | ((with_reducible refine Frame.updMgtSoft (f := _) ?_ ?_ ?_); (on_goal 1 => (intro _; unfold Mgt.rest; rfl)); on_goal 2 => rfl)

theorem boxPut_frame {w₀ : Nat} {s₀ : State} {n : Nat} {b : ActBox} {s : State} (h₀ : Frame w₀ s₀ s) (hw₀ : 2199023255552 ||| w₀ = w₀) :
    Frame w₀ s₀ (boxPut n b s) := by
  refine h₀.trans 2199023255552 ?_ hw₀
  clear h₀ hw₀
  unfold boxPut
  repeat' first
      | with_reducible exact Frame.refl
      | ((with_reducible refine updSess_frame ?_ ?_); on_goal 2 => rfl)
      | with_reducible refine Frame.ite ?_ ?_

theorem actDone_frame {w₀ : Nat} {s₀ : State} {n : Nat} {obj : Nat} {st : Status} {data : Bytes} {oneShot : Bool} {s : State} (h₀ : Frame w₀ s₀ s) (hw₀ : 2199023255552 ||| w₀ = w₀) :
    Frame w₀ s₀ (actDone n obj st data oneShot s) := by
  refine h₀.trans 2199023255552 ?_ hw₀
  clear h₀ hw₀
  unfold actDone
  repeat' first
      | with_reducible exact Frame.refl
      | ((with_reducible refine boxPut_frame ?_ ?_); on_goal 2 => rfl)

theorem actWaits_frame {w₀ : Nat} {s₀ : State} {n : Nat} {obj : Nat} {s : State} (h₀ : Frame w₀ s₀ s) (hw₀ : 2199023255552 ||| w₀ = w₀) :
    Frame w₀ s₀ (actWaits n obj s) := by
  refine h₀.trans 2199023255552 ?_ hw₀
  clear h₀ hw₀
  unfold actWaits
  repeat' first
      | with_reducible exact Frame.refl
      | ((with_reducible refine boxPut_frame ?_ ?_); on_goal 2 => rfl)

theorem answerAll_frame {w₀ : Nat} {s₀ : State} {who : List (Nat × Nat)} {st : Status} {data : Bytes} {s : State} (h₀ : Frame w₀ s₀ s) (hw₀ : 2199023255552 ||| w₀ = w₀) :
    Frame w₀ s₀ (answerAll who st data s) := by
  refine h₀.trans 2199023255552 ?_ hw₀
  clear h₀ hw₀
  unfold answerAll
  repeat' first
      | with_reducible exact Frame.refl
      | ((with_reducible refine actDone_frame ?_ ?_); on_goal 2 => rfl)
      | with_reducible refine Frame.forAll (fun _ s => ?_) _ ?_

theorem runAct_frame {w₀ : Nat} {s₀ : State} {a : Act} {obj : Nat} {roles : List Role} {work : State → (Status × Bytes) × State} {s : State} (hwork : ∀ u, Frame w₀ u (work u).2) (h₀ : Frame w₀ s₀ s) (hw₀ : 2199023255552 ||| w₀ = w₀) :
    Frame w₀ s₀ (runAct a obj roles work s) := by
  unfold runAct
  repeat' first
      | with_reducible assumption
      | ((with_reducible refine actDone_frame ?_ ?_); on_goal 2 => first | rfl | exact mask_le rfl hw₀)
      | with_reducible refine Frame.ite ?_ ?_
      | with_reducible refine Frame.trans w₀ ?_ (hwork _) (Nat.or_self w₀)

end Sys2Proof.Machine
end

