-- ==== Sys2Proof/Laws/FrWork.lean ====
section
/-! SUPPORT. What each operation of Machine/Work.lean may change (see Frame.lean). -/

namespace Sys2Proof.Machine

-- One declaration at a time, so that the elaborator holds few threads (each takes stack of its own).
set_option Elab.async false

theorem updHall_frame {w₀ : Nat} {s₀ : State} {h : Nat} {f : Hall → Hall} {s : State} (h₀ : Frame w₀ s₀ s) (hw₀ : 1073741824 ||| w₀ = w₀) :
    Frame w₀ s₀ (updHall h f s) := by
  refine h₀.trans 1073741824 ?_ hw₀
  clear h₀ hw₀
  unfold updHall
  repeat' first
      | with_reducible exact Frame.refl
      | ((with_reducible refine Frame.updItuSoft (f := _) ?_ ?_ ?_); (on_goal 1 => (intro _; unfold Itu.rest; rfl)); on_goal 2 => rfl)

theorem charge_frame {w₀ : Nat} {s₀ : State} {hall : Nat} {b : Bucket} {bytes : Nat} {s : State} (h₀ : Frame w₀ s₀ s) (hw₀ : 1207959552 ||| w₀ = w₀) :
    Frame w₀ s₀ (charge hall b bytes s) := by
  refine h₀.trans 1207959552 ?_ hw₀
  clear h₀ hw₀
  unfold charge
  repeat' first
      | with_reducible assumption
      | with_reducible exact Frame.refl
      | ((first | intro x | (lift_lets -underBinder; intro x)); first
      | (refine Frame.cut (w := 1207959552) (s := s) (x := x) ?_ fun _ => ?_; (on_goal 1 => try dsimp only [x]); (on_goal 2 => clear_value x))
      | clear_value x)
      | ((with_reducible refine State.admEvent_frame ?_ ?_); on_goal 2 => rfl)
      | ((with_reducible refine hallCount_frame ?_ ?_); on_goal 2 => rfl)
      | ((with_reducible refine updHall_frame ?_ ?_); on_goal 2 => rfl)
      | ((with_reducible refine Frame.updAdmSoft (f := _) ?_ ?_ ?_); (on_goal 1 => (intro _; unfold Adm.rest; rfl)); on_goal 2 => rfl)
      | with_reducible refine Frame.ite ?_ ?_

theorem bucketRefillOp_frame {w₀ : Nat} {s₀ : State}  {s : State} (h₀ : Frame w₀ s₀ s) (hw₀ : 1073741824 ||| w₀ = w₀) :
    Frame w₀ s₀ (bucketRefillOp s) := by
  refine h₀.trans 1073741824 ?_ hw₀
  clear h₀ hw₀
  unfold bucketRefillOp
  repeat' first
      | with_reducible exact Frame.refl
      | ((with_reducible refine updHall_frame ?_ ?_); on_goal 2 => rfl)
      | with_reducible refine Frame.forAll (fun _ s => ?_) _ ?_
      | with_reducible refine Frame.ite ?_ ?_

theorem turnTaken_frame {w₀ : Nat} {s₀ : State} {unit : Nat} {hall : Nat} {others : List Nat} {s : State} (h₀ : Frame w₀ s₀ s) (hw₀ : 402653184 ||| w₀ = w₀) :
    Frame w₀ s₀ (turnTaken unit hall others s) := by
  refine h₀.trans 402653184 ?_ hw₀
  clear h₀ hw₀
  unfold turnTaken
  repeat' first
      | with_reducible exact Frame.refl
      | ((first | intro x | (lift_lets -underBinder; intro x)); first
      | clear_value x)
      | ((with_reducible refine Frame.updAdm ?_ ?_); on_goal 2 => rfl)

theorem updQueue_frame {w₀ : Nat} {s₀ : State} {q : Nat} {f : Queue → Queue} {s : State} (h₀ : Frame w₀ s₀ s) (hw₀ : 33554432 ||| w₀ = w₀) :
    Frame w₀ s₀ (updQueue q f s) := by
  refine h₀.trans 33554432 ?_ hw₀
  clear h₀ hw₀
  unfold updQueue
  repeat' first
      | with_reducible exact Frame.refl
      | ((with_reducible refine Frame.updFeSoft (f := _) ?_ ?_ ?_); (on_goal 1 => (intro _; unfold Fe.rest; rfl)); on_goal 2 => rfl)

theorem keepStatus_frame {w₀ : Nat} {s₀ : State} {q : Nat} {st : Status} {s : State} (h₀ : Frame w₀ s₀ s) (hw₀ : 33554432 ||| w₀ = w₀) :
    Frame w₀ s₀ (keepStatus q st s) := by
  refine h₀.trans 33554432 ?_ hw₀
  clear h₀ hw₀
  unfold keepStatus
  repeat' first
      | with_reducible exact Frame.refl
      | ((with_reducible refine updQueue_frame ?_ ?_); on_goal 2 => rfl)
      | with_reducible refine Frame.ite ?_ ?_

theorem deactivate_frame {w₀ : Nat} {s₀ : State} {q : Nat} {s : State} (h₀ : Frame w₀ s₀ s) (hw₀ : 33554432 ||| w₀ = w₀) :
    Frame w₀ s₀ (deactivate q s) := by
  refine h₀.trans 33554432 ?_ hw₀
  clear h₀ hw₀
  unfold deactivate
  repeat' first
      | with_reducible exact Frame.refl
      | ((with_reducible refine updQueue_frame ?_ ?_); on_goal 2 => rfl)
      | ((with_reducible refine Frame.updFeSoft (f := _) ?_ ?_ ?_); (on_goal 1 => (intro _; unfold Fe.rest; rfl)); on_goal 2 => rfl)

theorem dropReservations_frame {w₀ : Nat} {s₀ : State} {q : Nat} {s : State} (h₀ : Frame w₀ s₀ s) (hw₀ : 33554432 ||| w₀ = w₀) :
    Frame w₀ s₀ (dropReservations q s) := by
  refine h₀.trans 33554432 ?_ hw₀
  clear h₀ hw₀
  unfold dropReservations
  repeat' first
      | with_reducible exact Frame.refl
      | ((with_reducible refine Frame.updFeSoft (f := _) ?_ ?_ ?_); (on_goal 1 => (intro _; unfold Fe.rest; rfl)); on_goal 2 => rfl)

theorem setPreempt_frame {w₀ : Nat} {s₀ : State}  {s : State} (h₀ : Frame w₀ s₀ s) (hw₀ : 2 ||| w₀ = w₀) :
    Frame w₀ s₀ (setPreempt s) := by
  refine h₀.trans 2 ?_ hw₀
  clear h₀ hw₀
  unfold setPreempt
  repeat' first
      | with_reducible exact Frame.refl
      | ((first | intro x | (lift_lets -underBinder; intro x)); first
      | clear_value x)
      | ((with_reducible refine Frame.updPinsSoft (f := _) ?_ ?_ ?_); (on_goal 1 => (intro _; unfold Pins.rest; rfl)); on_goal 2 => rfl)

theorem queueStopBy_frame {w₀ : Nat} {s₀ : State} {natural : Bool} {q : Nat} {st : Status} {unit : Nat} {s : State} (h₀ : Frame w₀ s₀ s) (hw₀ : 73047998466 ||| w₀ = w₀) :
    Frame w₀ s₀ (queueStopBy natural q st unit s) := by
  refine h₀.trans 73047998466 ?_ hw₀
  clear h₀ hw₀
  unfold queueStopBy
  repeat' first
      | with_reducible assumption
      | with_reducible exact Frame.refl
      | ((first | intro x | (lift_lets -underBinder; intro x)); first
      | (refine Frame.cut (w := 73047998466) (s := s) (x := x) ?_ fun _ => ?_; (on_goal 1 => try dsimp only [x]); (on_goal 2 => clear_value x))
      | clear_value x)
      | ((with_reducible refine State.feEvent_frame ?_ ?_); on_goal 2 => rfl)
      | ((with_reducible refine reportFault_frame ?_ ?_); on_goal 2 => rfl)
      | ((with_reducible refine updQueue_frame ?_ ?_); on_goal 2 => rfl)
      | ((with_reducible refine deactivate_frame ?_ ?_); on_goal 2 => rfl)
      | ((with_reducible refine dropReservations_frame ?_ ?_); on_goal 2 => rfl)
      | ((with_reducible refine setPreempt_frame ?_ ?_); on_goal 2 => rfl)

theorem queueStop_frame {w₀ : Nat} {s₀ : State} {q : Nat} {st : Status} {unit : Nat} {s : State} (h₀ : Frame w₀ s₀ s) (hw₀ : 73047998466 ||| w₀ = w₀) :
    Frame w₀ s₀ (queueStop q st unit s) := by
  refine h₀.trans 73047998466 ?_ hw₀
  clear h₀ hw₀
  unfold queueStop
  repeat' first
      | with_reducible exact Frame.refl
      | ((with_reducible refine queueStopBy_frame ?_ ?_); on_goal 2 => rfl)

theorem profileEnd_frame {w₀ : Nat} {s₀ : State} {hall : Nat} {scene : Nat} {shot : Nat} {bytes : Nat} {busyNs : Nat} {deferNs : Nat} {s : State} (h₀ : Frame w₀ s₀ s) (hw₀ : 1073741824 ||| w₀ = w₀) :
    Frame w₀ s₀ (profileEnd hall scene shot bytes busyNs deferNs s) := by
  refine h₀.trans 1073741824 ?_ hw₀
  clear h₀ hw₀
  unfold profileEnd
  repeat' first
      | with_reducible exact Frame.refl
      | ((with_reducible refine updHall_frame ?_ ?_); on_goal 2 => rfl)

theorem workRefused_frame {w₀ : Nat} {s₀ : State} {q : Nat} {st : Status} {s : State} (h₀ : Frame w₀ s₀ s) (hw₀ : 1241513984 ||| w₀ = w₀) :
    Frame w₀ s₀ (workRefused q st s) := by
  refine h₀.trans 1241513984 ?_ hw₀
  clear h₀ hw₀
  unfold workRefused
  repeat' first
      | with_reducible assumption
      | with_reducible exact Frame.refl
      | ((first | intro x | (lift_lets -underBinder; intro x)); first
      | (refine Frame.cut (w := 1241513984) (s := s) (x := x) ?_ fun _ => ?_; (on_goal 1 => try dsimp only [x]); (on_goal 2 => clear_value x))
      | clear_value x)
      | ((with_reducible refine State.admEvent_frame ?_ ?_); on_goal 2 => rfl)
      | ((with_reducible refine State.admCount_frame ?_ ?_); on_goal 2 => rfl)
      | ((with_reducible refine hallCount_frame ?_ ?_); on_goal 2 => rfl)
      | ((with_reducible refine keepStatus_frame ?_ ?_); on_goal 2 => rfl)
      | with_reducible refine Frame.ite ?_ ?_

theorem absentUnit_frame {w₀ : Nat} {s₀ : State} {q : Nat} {s : State} (h₀ : Frame w₀ s₀ s) (hw₀ : 1107296256 ||| w₀ = w₀) :
    Frame w₀ s₀ (absentUnit q s) := by
  refine h₀.trans 1107296256 ?_ hw₀
  clear h₀ hw₀
  unfold absentUnit
  repeat' first
      | with_reducible exact Frame.refl
      | ((with_reducible refine hallCount_frame ?_ ?_); on_goal 2 => rfl)
      | ((with_reducible refine keepStatus_frame ?_ ?_); on_goal 2 => rfl)

theorem workIssue_frame {w₀ : Nat} {s₀ : State} {q : Nat} {engine : Nat} {reg : Option Nat} {bytes : Nat} {s : State} (h₀ : Frame w₀ s₀ s) (hw₀ : 70028099584 ||| w₀ = w₀) :
    Frame w₀ s₀ (workIssue q engine reg bytes s) := by
  refine h₀.trans 70028099584 ?_ hw₀
  clear h₀ hw₀
  unfold workIssue
  repeat' first
      | with_reducible assumption
      | with_reducible exact Frame.refl
      | ((first | intro x | (lift_lets -underBinder; intro x)); first
      | (refine Frame.cut (w := 70028099584) (s := s) (x := x) ?_ fun _ => ?_; (on_goal 1 => try dsimp only [x]); (on_goal 2 => clear_value x))
      | clear_value x)
      | ((with_reducible refine rushes_frame ?_ ?_); on_goal 2 => rfl)
      | ((with_reducible refine updHall_frame ?_ ?_); on_goal 2 => rfl)
      | ((with_reducible refine updQueue_frame ?_ ?_); on_goal 2 => rfl)
      | ((with_reducible refine Frame.updAdmSoft (f := _) ?_ ?_ ?_); (on_goal 1 => (intro _; unfold Adm.rest; rfl)); on_goal 2 => rfl)
      | ((with_reducible refine Frame.updFe ?_ ?_); on_goal 2 => rfl)
      | with_reducible refine Frame.ite ?_ ?_

theorem abortAck_frame {w₀ : Nat} {s₀ : State} {q : Nat} {engine : Nat} {s : State} (h₀ : Frame w₀ s₀ s) (hw₀ : 33554432 ||| w₀ = w₀) :
    Frame w₀ s₀ (abortAck q engine s) := by
  refine h₀.trans 33554432 ?_ hw₀
  clear h₀ hw₀
  unfold abortAck
  repeat' first
      | with_reducible exact Frame.refl
      | ((with_reducible refine updQueue_frame ?_ ?_); on_goal 2 => rfl)

theorem workEnd_frame {w₀ : Nat} {s₀ : State} {id : Nat} {st : Status} {s : State} (h₀ : Frame w₀ s₀ s) (hw₀ : 87140859904 ||| w₀ = w₀) :
    Frame w₀ s₀ (workEnd id st s) := by
  refine h₀.trans 87140859904 ?_ hw₀
  clear h₀ hw₀
  unfold workEnd
  repeat' first
      | with_reducible assumption
      | with_reducible exact Frame.refl
      | ((first | intro x | (lift_lets -underBinder; intro x)); first
      | (refine Frame.cut (w := 87140859904) (s := s) (x := x) ?_ fun _ => ?_; (on_goal 1 => try dsimp only [x]); (on_goal 2 => clear_value x))
      | clear_value x)
      | ((with_reducible refine State.feCount_frame ?_ ?_); on_goal 2 => rfl)
      | ((with_reducible refine State.admCount_frame ?_ ?_); on_goal 2 => rfl)
      | ((with_reducible refine rushes_frame ?_ ?_); on_goal 2 => rfl)
      | ((with_reducible refine progress_frame ?_ ?_); on_goal 2 => rfl)
      | ((with_reducible refine hallCount_frame ?_ ?_); on_goal 2 => rfl)
      | ((with_reducible refine updHall_frame ?_ ?_); on_goal 2 => rfl)
      | ((with_reducible refine updQueue_frame ?_ ?_); on_goal 2 => rfl)
      | ((with_reducible refine keepStatus_frame ?_ ?_); on_goal 2 => rfl)
      | ((with_reducible refine profileEnd_frame ?_ ?_); on_goal 2 => rfl)
      | ((with_reducible refine abortAck_frame ?_ ?_); on_goal 2 => rfl)
      | ((with_reducible refine Frame.updAdmSoft (f := _) ?_ ?_ ?_); (on_goal 1 => (intro _; unfold Adm.rest; rfl)); on_goal 2 => rfl)
      | ((with_reducible refine Frame.updFeSoft (f := _) ?_ ?_ ?_); (on_goal 1 => (intro _; unfold Fe.rest; rfl)); on_goal 2 => rfl)
      | with_reducible refine Frame.ite ?_ ?_

theorem workBlocked_frame {w₀ : Nat} {s₀ : State} {id : Nat} {s : State} (h₀ : Frame w₀ s₀ s) (hw₀ : 33554432 ||| w₀ = w₀) :
    Frame w₀ s₀ (workBlocked id s) := by
  refine h₀.trans 33554432 ?_ hw₀
  clear h₀ hw₀
  unfold workBlocked
  repeat' first
      | with_reducible exact Frame.refl
      | ((with_reducible refine Frame.updFeSoft (f := _) ?_ ?_ ?_); (on_goal 1 => (intro _; unfold Fe.rest; rfl)); on_goal 2 => rfl)

theorem workUnblocked_frame {w₀ : Nat} {s₀ : State} {id : Nat} {s : State} (h₀ : Frame w₀ s₀ s) (hw₀ : 33554432 ||| w₀ = w₀) :
    Frame w₀ s₀ (workUnblocked id s) := by
  refine h₀.trans 33554432 ?_ hw₀
  clear h₀ hw₀
  unfold workUnblocked
  repeat' first
      | with_reducible exact Frame.refl
      | ((with_reducible refine Frame.updFeSoft (f := _) ?_ ?_ ?_); (on_goal 1 => (intro _; unfold Fe.rest; rfl)); on_goal 2 => rfl)

end Sys2Proof.Machine
end

