-- ==== Sys2Proof/Laws/FrIde.lean ====
section
/-! SUPPORT. What each operation of Machine/Ide.lean may change (see Frame.lean). -/

namespace Sys2Proof.Machine

-- One declaration at a time, so that the elaborator holds few threads (each takes stack of its own).
set_option Elab.async false

theorem updIdeKey_frame {w₀ : Nat} {s₀ : State} {stream : Nat} {sub' : Nat} {tx : Bool} {ks : Nat} {f : IdeKey → IdeKey} {s : State} (h₀ : Frame w₀ s₀ s) (hw₀ : 2048 ||| w₀ = w₀) :
    Frame w₀ s₀ (updIdeKey stream sub' tx ks f s) := by
  refine h₀.trans 2048 ?_ hw₀
  clear h₀ hw₀
  unfold updIdeKey
  repeat' first
      | with_reducible exact Frame.refl
      | ((with_reducible refine Frame.updAtSoft (f := _) ?_ ?_ ?_); (on_goal 1 => (intro _; unfold At.rest; rfl)); on_goal 2 => rfl)

theorem updIde_frame {w₀ : Nat} {s₀ : State} {i : Nat} {f : IdeStream → IdeStream} {s : State} (h₀ : Frame w₀ s₀ s) (hw₀ : 70368744179712 ||| w₀ = w₀) :
    Frame w₀ s₀ (updIde i f s) := by
  refine h₀.trans 70368744179712 ?_ hw₀
  clear h₀ hw₀
  unfold updIde
  repeat' first
      | with_reducible exact Frame.refl
      | ((with_reducible refine Frame.updAt ?_ ?_); on_goal 2 => rfl)

theorem ideEmit_frame {w₀ : Nat} {s₀ : State} {stream : Option Nat} {sub' : Nat} {head : Bytes} {data : Bytes} {out : Bytes → Out} {s : State} (h₀ : Frame w₀ s₀ s) (hw₀ : 35184372090880 ||| w₀ = w₀) :
    Frame w₀ s₀ (ideEmit stream sub' head data out s) := by
  refine h₀.trans 35184372090880 ?_ hw₀
  clear h₀ hw₀
  unfold ideEmit
  repeat' first
      | with_reducible exact Frame.refl
      | ((first | intro x | (lift_lets -underBinder; intro x)); first
      | clear_value x)
      | ((with_reducible refine updIdeKey_frame ?_ ?_); on_goal 2 => rfl)
      | ((with_reducible refine Frame.emit ?_ ?_); on_goal 2 => rfl)
      | split

end Sys2Proof.Machine
end

