-- ==== Sys2Proof/Laws/FrFence.lean ====
section
/-! SUPPORT. What each operation of Machine/Fence.lean may change (see Frame.lean). -/

namespace Sys2Proof.Machine

-- One declaration at a time, so that the elaborator holds few threads (each takes stack of its own).
set_option Elab.async false

theorem updFence_frame {w₀ : Nat} {s₀ : State} {f : Nat} {g : Fence → Fence} {s : State} (h₀ : Frame w₀ s₀ s) (hw₀ : 536870912 ||| w₀ = w₀) :
    Frame w₀ s₀ (updFence f g s) := by
  refine h₀.trans 536870912 ?_ hw₀
  clear h₀ hw₀
  unfold updFence
  repeat' first
      | with_reducible exact Frame.refl
      | ((with_reducible refine Frame.updFs ?_ ?_); on_goal 2 => rfl)

theorem msixCause_frame {w₀ : Nat} {s₀ : State} {hall : Nat} {v : Nat} {s : State} (h₀ : Frame w₀ s₀ s) (hw₀ : 1073741824 ||| w₀ = w₀) :
    Frame w₀ s₀ (msixCause hall v s) := by
  refine h₀.trans 1073741824 ?_ hw₀
  clear h₀ hw₀
  unfold msixCause
  repeat' first
      | with_reducible exact Frame.refl
      | ((with_reducible refine updHall_frame ?_ ?_); on_goal 2 => rfl)

theorem notifyFence_frame {w₀ : Nat} {s₀ : State} {f : Nat} {s : State} (h₀ : Frame w₀ s₀ s) (hw₀ : 41782515597312 ||| w₀ = w₀) :
    Frame w₀ s₀ (notifyFence f s) := by
  refine h₀.trans 41782515597312 ?_ hw₀
  clear h₀ hw₀
  unfold notifyFence
  repeat' first
      | with_reducible exact Frame.refl
      | ((first | intro x | (lift_lets -underBinder; intro x)); first
      | clear_value x)
      | ((with_reducible refine msixCause_frame ?_ ?_); on_goal 2 => rfl)
      | with_reducible refine Frame.ite ?_ ?_

theorem msixMessageOp_frame {w₀ : Nat} {s₀ : State} {hall : Nat} {vector : Nat} {s : State} (h₀ : Frame w₀ s₀ s) (hw₀ : 35185982703616 ||| w₀ = w₀) :
    Frame w₀ s₀ (msixMessageOp hall vector s) := by
  refine h₀.trans 35185982703616 ?_ hw₀
  clear h₀ hw₀
  unfold msixMessageOp
  repeat' first
      | with_reducible assumption
      | with_reducible exact Frame.refl
      | ((first | intro x | (lift_lets -underBinder; intro x)); first
      | (refine Frame.cut (w := 35185982703616) (s := s) (x := x) ?_ fun _ => ?_; (on_goal 1 => try dsimp only [x]); (on_goal 2 => clear_value x))
      | clear_value x)
      | ((with_reducible refine State.fsCount_frame ?_ ?_); on_goal 2 => rfl)
      | ((with_reducible refine updHall_frame ?_ ?_); on_goal 2 => rfl)
      | ((with_reducible refine ideEmit_frame ?_ ?_); on_goal 2 => rfl)
      | with_reducible refine Frame.ite ?_ ?_

theorem endWait_frame {w₀ : Nat} {s₀ : State} {q : Nat} {st : Status} {s : State} (h₀ : Frame w₀ s₀ s) (hw₀ : 570425344 ||| w₀ = w₀) :
    Frame w₀ s₀ (endWait q st s) := by
  refine h₀.trans 570425344 ?_ hw₀
  clear h₀ hw₀
  unfold endWait
  repeat' first
      | with_reducible assumption
      | with_reducible exact Frame.refl
      | ((first | intro x | (lift_lets -underBinder; intro x)); first
      | (refine Frame.cut (w := 570425344) (s := s) (x := x) ?_ fun _ => ?_; (on_goal 1 => try dsimp only [x]); (on_goal 2 => clear_value x)))
      | ((with_reducible refine State.fsCount_frame ?_ ?_); on_goal 2 => rfl)
      | ((with_reducible refine updQueue_frame ?_ ?_); on_goal 2 => rfl)
      | ((with_reducible refine keepStatus_frame ?_ ?_); on_goal 2 => rfl)
      | ((with_reducible refine Frame.updFs ?_ ?_); on_goal 2 => rfl)
      | with_reducible refine Frame.ite ?_ ?_

theorem parkQueue_frame {w₀ : Nat} {s₀ : State} {q : Nat} {p : Park} {s : State} (h₀ : Frame w₀ s₀ s) (hw₀ : 570425344 ||| w₀ = w₀) :
    Frame w₀ s₀ (parkQueue q p s) := by
  refine h₀.trans 570425344 ?_ hw₀
  clear h₀ hw₀
  unfold parkQueue
  repeat' first
      | with_reducible assumption
      | with_reducible exact Frame.refl
      | ((first | intro x | (lift_lets -underBinder; intro x)); first
      | (refine Frame.cut (w := 570425344) (s := s) (x := x) ?_ fun _ => ?_; (on_goal 1 => try dsimp only [x]); (on_goal 2 => clear_value x))
      | clear_value x)
      | ((with_reducible refine State.fsCount_frame ?_ ?_); on_goal 2 => rfl)
      | ((with_reducible refine updQueue_frame ?_ ?_); on_goal 2 => rfl)
      | ((with_reducible refine deactivate_frame ?_ ?_); on_goal 2 => rfl)
      | ((with_reducible refine Frame.updFs ?_ ?_); on_goal 2 => rfl)
      | with_reducible refine Frame.ite ?_ ?_

theorem wakeFence_frame {w₀ : Nat} {s₀ : State} {f : Nat} {s : State} (h₀ : Frame w₀ s₀ s) (hw₀ : 570425344 ||| w₀ = w₀) :
    Frame w₀ s₀ (wakeFence f s) := by
  refine h₀.trans 570425344 ?_ hw₀
  clear h₀ hw₀
  unfold wakeFence
  repeat' first
      | with_reducible exact Frame.refl
      | ((first | intro x | (lift_lets -underBinder; intro x)); first
      | clear_value x)
      | ((with_reducible refine endWait_frame ?_ ?_); on_goal 2 => rfl)
      | with_reducible refine Frame.forAll (fun _ s => ?_) _ ?_

theorem fenceFaults_frame {w₀ : Nat} {s₀ : State} {hall : Nat} {obj : Nat} {s : State} (h₀ : Frame w₀ s₀ s) (hw₀ : 73551314944 ||| w₀ = w₀) :
    Frame w₀ s₀ (fenceFaults hall obj s).2 := by
  refine h₀.trans 73551314944 ?_ hw₀
  clear h₀ hw₀
  unfold fenceFaults
  repeat' first
      | with_reducible assumption
      | with_reducible exact Frame.refl
      | ((first | intro x | (lift_lets -underBinder; intro x)); first
      | (refine Frame.cut (w := 73551314944) (s := s) (x := x) ?_ fun _ => ?_; (on_goal 1 => try dsimp only [x]); (on_goal 2 => clear_value x)))
      | ((with_reducible refine State.fsEvent_frame ?_ ?_); on_goal 2 => rfl)
      | ((with_reducible refine reportFault_frame ?_ ?_); on_goal 2 => rfl)
      | with_reducible refine Frame.ite ?_ ?_
      | with_reducible refine Frame.ite2 ?_ ?_

theorem signalFence_frame {w₀ : Nat} {s₀ : State} {f : Nat} {v : DWord} {x : Status} {s : State} (h₀ : Frame w₀ s₀ s) (hw₀ : 41856100466688 ||| w₀ = w₀) :
    Frame w₀ s₀ (signalFence f v x s) := by
  refine h₀.trans 41856100466688 ?_ hw₀
  clear h₀ hw₀
  unfold signalFence
  repeat' first
      | with_reducible assumption
      | with_reducible exact Frame.refl
      | ((first | intro x | (lift_lets -underBinder; intro x)); first
      | (refine Frame.cut (w := 41856100466688) (s := s) (x := x) ?_ fun _ => ?_; (on_goal 1 => try dsimp only [x]); (on_goal 2 => clear_value x))
      | clear_value x)
      | ((with_reducible refine State.fsEvent_frame ?_ ?_); on_goal 2 => rfl)
      | ((with_reducible refine State.fsCount_frame ?_ ?_); on_goal 2 => rfl)
      | ((with_reducible refine updFence_frame ?_ ?_); on_goal 2 => rfl)
      | ((with_reducible refine notifyFence_frame ?_ ?_); on_goal 2 => rfl)
      | ((with_reducible refine wakeFence_frame ?_ ?_); on_goal 2 => rfl)
      | ((with_reducible refine fenceFaults_frame ?_ ?_); on_goal 2 => rfl)
      | dsimp -zeta only
      | with_reducible refine Frame.ite ?_ ?_

theorem faultFence_frame {w₀ : Nat} {s₀ : State} {f : Nat} {st : Status} {s : State} (h₀ : Frame w₀ s₀ s) (hw₀ : 41783086022656 ||| w₀ = w₀) :
    Frame w₀ s₀ (faultFence f st s) := by
  refine h₀.trans 41783086022656 ?_ hw₀
  clear h₀ hw₀
  unfold faultFence
  repeat' first
      | with_reducible exact Frame.refl
      | ((first | intro x | (lift_lets -underBinder; intro x)); first
      | clear_value x)
      | ((with_reducible refine State.fsEvent_frame ?_ ?_); on_goal 2 => rfl)
      | ((with_reducible refine updFence_frame ?_ ?_); on_goal 2 => rfl)
      | ((with_reducible refine notifyFence_frame ?_ ?_); on_goal 2 => rfl)
      | ((with_reducible refine wakeFence_frame ?_ ?_); on_goal 2 => rfl)
      | with_reducible refine Frame.ite ?_ ?_

theorem updSem_frame {w₀ : Nat} {s₀ : State} {kind : Nat} {i : Nat} {g : Sem → Sem} {s : State} (h₀ : Frame w₀ s₀ s) (hw₀ : 536870912 ||| w₀ = w₀) :
    Frame w₀ s₀ (updSem kind i g s) := by
  refine h₀.trans 536870912 ?_ hw₀
  clear h₀ hw₀
  unfold updSem
  repeat' first
      | with_reducible exact Frame.refl
      | ((with_reducible refine Frame.updFs ?_ ?_); on_goal 2 => rfl)
      | with_reducible refine Frame.ite ?_ ?_

theorem serveLocal_frame {w₀ : Nat} {s₀ : State} {i : Nat} {x0 : List (Nat × Word)} {x1 : State} (h₀ : Frame w₀ s₀ x1) (hw₀ : 570425344 ||| w₀ = w₀) :
    Frame w₀ s₀ (serveLocal i x0 x1) := by
  refine h₀.trans 570425344 ?_ hw₀
  clear h₀ hw₀
  induction x0 generalizing x1 with
  | nil =>
    unfold serveLocal
    repeat' first
      | with_reducible exact Frame.refl
  | cons a l ih =>
    unfold serveLocal
    repeat' first
      | with_reducible exact Frame.refl
      | ((with_reducible refine endWait_frame ?_ ?_); on_goal 2 => rfl)
      | ((with_reducible refine updSem_frame ?_ ?_); on_goal 2 => rfl)
      | ((with_reducible refine Frame.trans 570425344 ?_ (ih ..) ?_); on_goal 2 => rfl)
      | with_reducible refine Frame.ite ?_ ?_

theorem signalSem_frame {w₀ : Nat} {s₀ : State} {kind : Nat} {i : Nat} {inc : Word} {s : State} (h₀ : Frame w₀ s₀ s) (hw₀ : 73584869376 ||| w₀ = w₀) :
    Frame w₀ s₀ (signalSem kind i inc s) := by
  refine h₀.trans 73584869376 ?_ hw₀
  clear h₀ hw₀
  unfold signalSem
  repeat' first
      | with_reducible assumption
      | with_reducible exact Frame.refl
      | ((first | intro x | (lift_lets -underBinder; intro x)); first
      | (refine Frame.cut (w := 73584869376) (s := s) (x := x) ?_ fun _ => ?_; (on_goal 1 => try dsimp only [x]); (on_goal 2 => clear_value x)))
      | ((with_reducible refine State.fsCount_frame ?_ ?_); on_goal 2 => rfl)
      | ((with_reducible refine endWait_frame ?_ ?_); on_goal 2 => rfl)
      | ((with_reducible refine fenceFaults_frame ?_ ?_); on_goal 2 => rfl)
      | ((with_reducible refine updSem_frame ?_ ?_); on_goal 2 => rfl)
      | ((with_reducible refine serveLocal_frame ?_ ?_); on_goal 2 => rfl)
      | with_reducible refine Frame.forAll (fun _ s => ?_) _ ?_
      | dsimp -zeta only
      | with_reducible refine Frame.ite ?_ ?_

theorem waitGraphWalkOp_frame {w₀ : Nat} {s₀ : State} {q : Nat} {s : State} (h₀ : Frame w₀ s₀ s) (hw₀ : 570425344 ||| w₀ = w₀) :
    Frame w₀ s₀ (waitGraphWalkOp q s) := by
  refine h₀.trans 570425344 ?_ hw₀
  clear h₀ hw₀
  unfold waitGraphWalkOp
  repeat' first
      | with_reducible exact Frame.refl
      | ((with_reducible refine State.fsEvent_frame ?_ ?_); on_goal 2 => rfl)
      | ((with_reducible refine State.fsCount_frame ?_ ?_); on_goal 2 => rfl)
      | ((with_reducible refine endWait_frame ?_ ?_); on_goal 2 => rfl)
      | ((with_reducible refine Frame.updFs ?_ ?_); on_goal 2 => rfl)
      | with_reducible refine Frame.ite ?_ ?_
      | split

theorem fenceCreateOp_frame {w₀ : Nat} {s₀ : State} {b : Bytes} {roleOk : Bool} {s : State} (h₀ : Frame w₀ s₀ s) (hw₀ : 41781978726400 ||| w₀ = w₀) :
    Frame w₀ s₀ (fenceCreateOp b roleOk s).2 := by
  refine h₀.trans 41781978726400 ?_ hw₀
  clear h₀ hw₀
  unfold fenceCreateOp
  repeat' first
      | with_reducible exact Frame.refl
      | ((first | intro x | (lift_lets -underBinder; intro x)); first
      | clear_value x)
      | ((with_reducible refine updFence_frame ?_ ?_); on_goal 2 => rfl)
      | with_reducible refine Frame.ite2 ?_ ?_
      | split

theorem fenceDestroyOp_frame {w₀ : Nat} {s₀ : State} {hall : Nat} {f : Nat} {roleOk : Bool} {s : State} (h₀ : Frame w₀ s₀ s) (hw₀ : 536870912 ||| w₀ = w₀) :
    Frame w₀ s₀ (fenceDestroyOp hall f roleOk s).2 := by
  refine h₀.trans 536870912 ?_ hw₀
  clear h₀ hw₀
  unfold fenceDestroyOp
  repeat' first
      | with_reducible exact Frame.refl
      | ((with_reducible refine updFence_frame ?_ ?_); on_goal 2 => rfl)
      | with_reducible refine Frame.ite2 ?_ ?_

theorem fenceClearOp_frame {w₀ : Nat} {s₀ : State} {hall : Nat} {f : Nat} {roleOk : Bool} {s : State} (h₀ : Frame w₀ s₀ s) (hw₀ : 536870912 ||| w₀ = w₀) :
    Frame w₀ s₀ (fenceClearOp hall f roleOk s).2 := by
  refine h₀.trans 536870912 ?_ hw₀
  clear h₀ hw₀
  unfold fenceClearOp
  repeat' first
      | with_reducible exact Frame.refl
      | ((with_reducible refine updFence_frame ?_ ?_); on_goal 2 => rfl)
      | with_reducible refine Frame.ite2 ?_ ?_

theorem semAllocOp_frame {w₀ : Nat} {s₀ : State} {hall : Nat} {kind : Nat} {count : Word} {roleOk : Bool} {s : State} (h₀ : Frame w₀ s₀ s) (hw₀ : 536870912 ||| w₀ = w₀) :
    Frame w₀ s₀ (semAllocOp hall kind count roleOk s).2 := by
  refine h₀.trans 536870912 ?_ hw₀
  clear h₀ hw₀
  unfold semAllocOp
  repeat' first
      | with_reducible exact Frame.refl
      | ((first | intro x | (lift_lets -underBinder; intro x)); first
      | clear_value x)
      | ((with_reducible refine updSem_frame ?_ ?_); on_goal 2 => rfl)
      | with_reducible refine Frame.ite2 ?_ ?_
      | split

theorem semFreeOp_frame {w₀ : Nat} {s₀ : State} {hall : Nat} {kind : Nat} {i : Nat} {roleOk : Bool} {s : State} (h₀ : Frame w₀ s₀ s) (hw₀ : 536870912 ||| w₀ = w₀) :
    Frame w₀ s₀ (semFreeOp hall kind i roleOk s).2 := by
  refine h₀.trans 536870912 ?_ hw₀
  clear h₀ hw₀
  unfold semFreeOp
  repeat' first
      | with_reducible exact Frame.refl
      | ((with_reducible refine updSem_frame ?_ ?_); on_goal 2 => rfl)
      | with_reducible refine Frame.ite2 ?_ ?_

theorem freeHallSync_frame {w₀ : Nat} {s₀ : State} {hall : Nat} {s : State} (h₀ : Frame w₀ s₀ s) (hw₀ : 536870912 ||| w₀ = w₀) :
    Frame w₀ s₀ (freeHallSync hall s) := by
  refine h₀.trans 536870912 ?_ hw₀
  clear h₀ hw₀
  unfold freeHallSync
  repeat' first
      | with_reducible exact Frame.refl
      | ((with_reducible refine Frame.updFs ?_ ?_); on_goal 2 => rfl)

theorem fenceCreateAct_frame {w₀ : Nat} {s₀ : State} {a : Act} {arg : Bytes} {s : State} (h₀ : Frame w₀ s₀ s) (hw₀ : 41781978726400 ||| w₀ = w₀) :
    Frame w₀ s₀ (fenceCreateAct a arg s) := by
  refine h₀.trans 41781978726400 ?_ hw₀
  clear h₀ hw₀
  unfold fenceCreateAct
  repeat' first
      | with_reducible exact Frame.refl
      | ((first | intro x | (lift_lets -underBinder; intro x)); first
      | clear_value x)
      | ((with_reducible refine actDone_frame ?_ ?_); on_goal 2 => rfl)
      | ((with_reducible refine fenceCreateOp_frame ?_ ?_); on_goal 2 => rfl)

theorem fenceDestroyAct_frame {w₀ : Nat} {s₀ : State} {a : Act} {arg : Bytes} {s : State} (h₀ : Frame w₀ s₀ s) (hw₀ : 2199560126464 ||| w₀ = w₀) :
    Frame w₀ s₀ (fenceDestroyAct a arg s) := by
  refine h₀.trans 2199560126464 ?_ hw₀
  clear h₀ hw₀
  unfold fenceDestroyAct
  repeat' first
      | with_reducible exact Frame.refl
      | ((with_reducible refine actDone_frame ?_ ?_); on_goal 2 => rfl)
      | ((with_reducible refine fenceDestroyOp_frame ?_ ?_); on_goal 2 => rfl)

theorem fenceClearAct_frame {w₀ : Nat} {s₀ : State} {a : Act} {arg : Bytes} {s : State} (h₀ : Frame w₀ s₀ s) (hw₀ : 2199560126464 ||| w₀ = w₀) :
    Frame w₀ s₀ (fenceClearAct a arg s) := by
  refine h₀.trans 2199560126464 ?_ hw₀
  clear h₀ hw₀
  unfold fenceClearAct
  repeat' first
      | with_reducible exact Frame.refl
      | ((with_reducible refine actDone_frame ?_ ?_); on_goal 2 => rfl)
      | ((with_reducible refine fenceClearOp_frame ?_ ?_); on_goal 2 => rfl)

theorem semAllocAct_frame {w₀ : Nat} {s₀ : State} {a : Act} {arg : Bytes} {s : State} (h₀ : Frame w₀ s₀ s) (hw₀ : 2199560126464 ||| w₀ = w₀) :
    Frame w₀ s₀ (semAllocAct a arg s) := by
  refine h₀.trans 2199560126464 ?_ hw₀
  clear h₀ hw₀
  unfold semAllocAct
  repeat' first
      | with_reducible exact Frame.refl
      | ((first | intro x | (lift_lets -underBinder; intro x)); first
      | clear_value x)
      | ((with_reducible refine actDone_frame ?_ ?_); on_goal 2 => rfl)
      | ((with_reducible refine semAllocOp_frame ?_ ?_); on_goal 2 => rfl)

theorem semFreeAct_frame {w₀ : Nat} {s₀ : State} {a : Act} {arg : Bytes} {s : State} (h₀ : Frame w₀ s₀ s) (hw₀ : 2199560126464 ||| w₀ = w₀) :
    Frame w₀ s₀ (semFreeAct a arg s) := by
  refine h₀.trans 2199560126464 ?_ hw₀
  clear h₀ hw₀
  unfold semFreeAct
  repeat' first
      | with_reducible exact Frame.refl
      | ((first | intro x | (lift_lets -underBinder; intro x)); first
      | clear_value x)
      | ((with_reducible refine actDone_frame ?_ ?_); on_goal 2 => rfl)
      | ((with_reducible refine semFreeOp_frame ?_ ?_); on_goal 2 => rfl)

theorem fsFinish_frame {w₀ : Nat} {s₀ : State} {op : Nat} {r : Status × State} (h₀ : Frame w₀ s₀ r.2) (hw₀ : 536870912 ||| w₀ = w₀) :
    Frame w₀ s₀ (fsFinish op r) := by
  refine h₀.trans 536870912 ?_ hw₀
  clear h₀ hw₀
  rcases r with ⟨_, s⟩
  show Frame 536870912 s _
  unfold fsFinish
  repeat' first
      | with_reducible exact Frame.refl
      | ((with_reducible refine Frame.updFs ?_ ?_); on_goal 2 => rfl)

theorem fsMade_frame {w₀ : Nat} {s₀ : State} {op : Nat} {r : (Status × Nat) × State} (h₀ : Frame w₀ s₀ r.2) (hw₀ : 536870912 ||| w₀ = w₀) :
    Frame w₀ s₀ (fsMade op r) := by
  refine h₀.trans 536870912 ?_ hw₀
  clear h₀ hw₀
  rcases r with ⟨_, s⟩
  show Frame 536870912 s _
  unfold fsMade
  repeat' first
      | with_reducible exact Frame.refl
      | ((with_reducible refine fsFinish_frame ?_ ?_); on_goal 2 => rfl)
      | ((with_reducible refine Frame.updFs ?_ ?_); on_goal 2 => rfl)
      | with_reducible refine Frame.ite ?_ ?_

theorem fsQueryOp_frame {w₀ : Nat} {s₀ : State} {kind : Nat} {obj : Nat} {s : State} (h₀ : Frame w₀ s₀ s) (hw₀ : 41781978726400 ||| w₀ = w₀) :
    Frame w₀ s₀ (fsQueryOp kind obj s).2 := by
  refine h₀.trans 41781978726400 ?_ hw₀
  clear h₀ hw₀
  unfold fsQueryOp
  repeat' first
      | with_reducible exact Frame.refl
      | ((first | intro x | (lift_lets -underBinder; intro x)); first
      | clear_value x)
      | ((with_reducible refine Frame.updFs ?_ ?_); on_goal 2 => rfl)
      | with_reducible refine Frame.ite2 ?_ ?_

theorem fsFaultOp_frame {w₀ : Nat} {s₀ : State} {kind : Nat} {obj : Nat} {s : State} (h₀ : Frame w₀ s₀ s) (hw₀ : 41783086022656 ||| w₀ = w₀) :
    Frame w₀ s₀ (fsFaultOp kind obj s).2 := by
  refine h₀.trans 41783086022656 ?_ hw₀
  clear h₀ hw₀
  unfold fsFaultOp
  repeat' first
      | with_reducible exact Frame.refl
      | ((first | intro x | (lift_lets -underBinder; intro x)); first
      | clear_value x)
      | ((with_reducible refine faultFence_frame ?_ ?_); on_goal 2 => rfl)
      | with_reducible refine Frame.ite2 ?_ ?_

theorem fsCommand_frame {w₀ : Nat} {s₀ : State} {op : Nat} {kind : Nat} {obj : Nat} {s : State} (h₀ : Frame w₀ s₀ s) (hw₀ : 41783086022656 ||| w₀ = w₀) :
    Frame w₀ s₀ (fsCommand op kind obj s) := by
  refine h₀.trans 41783086022656 ?_ hw₀
  clear h₀ hw₀
  unfold fsCommand
  repeat' first
      | with_reducible assumption
      | with_reducible exact Frame.refl
      | ((first | intro x | (lift_lets -underBinder; intro x)); first
      | (refine Frame.cut (w := 41783086022656) (s := s) (x := x) ?_ fun _ => ?_; (on_goal 1 => try dsimp only [x]); (on_goal 2 => clear_value x))
      | clear_value x)
      | ((with_reducible refine fenceCreateOp_frame ?_ ?_); on_goal 2 => rfl)
      | ((with_reducible refine fenceDestroyOp_frame ?_ ?_); on_goal 2 => rfl)
      | ((with_reducible refine fenceClearOp_frame ?_ ?_); on_goal 2 => rfl)
      | ((with_reducible refine semAllocOp_frame ?_ ?_); on_goal 2 => rfl)
      | ((with_reducible refine semFreeOp_frame ?_ ?_); on_goal 2 => rfl)
      | ((with_reducible refine fsFinish_frame ?_ ?_); on_goal 2 => rfl)
      | ((with_reducible refine fsMade_frame ?_ ?_); on_goal 2 => rfl)
      | ((with_reducible refine fsQueryOp_frame ?_ ?_); on_goal 2 => rfl)
      | ((with_reducible refine fsFaultOp_frame ?_ ?_); on_goal 2 => rfl)
      | ((with_reducible refine Frame.updFs ?_ ?_); on_goal 2 => rfl)
      | split

end Sys2Proof.Machine
end

