-- ==== Sys2Proof/Laws/FrLifeCycle.lean ====
section
/-! SUPPORT. What each operation of Machine/LifeCycle.lean may change (see Frame.lean). -/

namespace Sys2Proof.Machine

-- One declaration at a time, so that the elaborator holds few threads (each takes stack of its own).
set_option Elab.async false

theorem otpStart_frame {w₀ : Nat} {s₀ : State} {words : List (Nat × BitVec 39)} {after : OtpThen} {s : State} (h₀ : Frame w₀ s₀ s) (hw₀ : 512 ||| w₀ = w₀) :
    Frame w₀ s₀ (otpStart words after s) := by
  refine h₀.trans 512 ?_ hw₀
  clear h₀ hw₀
  unfold otpStart
  repeat' first
      | with_reducible exact Frame.refl
      | ((with_reducible refine Frame.updLc (f := _) ?_ ?_ ?_); (on_goal 1 => (intro _; rfl)); on_goal 2 => rfl)

theorem otpPulse_frame {w₀ : Nat} {s₀ : State}  {s : State} (h₀ : Frame w₀ s₀ s) (hw₀ : 35184372089344 ||| w₀ = w₀) :
    Frame w₀ s₀ (otpPulse s) := by
  refine h₀.trans 35184372089344 ?_ hw₀
  clear h₀ hw₀
  unfold otpPulse
  repeat' first
      | with_reducible exact Frame.refl
      | ((with_reducible refine Frame.updLc (f := _) ?_ ?_ ?_); (on_goal 1 => (intro _; rfl)); on_goal 2 => rfl)
      | ((with_reducible refine Frame.emit ?_ ?_); on_goal 2 => rfl)
      | with_reducible refine Frame.ite ?_ ?_
      | split

theorem otpVppOkOp_frame {w₀ : Nat} {s₀ : State}  {s : State} (h₀ : Frame w₀ s₀ s) (hw₀ : 35184372089344 ||| w₀ = w₀) :
    Frame w₀ s₀ (otpVppOkOp s) := by
  refine h₀.trans 35184372089344 ?_ hw₀
  clear h₀ hw₀
  unfold otpVppOkOp
  repeat' first
      | with_reducible exact Frame.refl
      | ((with_reducible refine otpPulse_frame ?_ ?_); on_goal 2 => rfl)
      | ((with_reducible refine Frame.updLc (f := _) ?_ ?_ ?_); (on_goal 1 => (intro _; rfl)); on_goal 2 => rfl)
      | with_reducible refine Frame.ite ?_ ?_

theorem otpWordDone_frame {w₀ : Nat} {s₀ : State}  {s : State} (h₀ : Frame w₀ s₀ s) (hw₀ : 35184372090368 ||| w₀ = w₀) :
    Frame w₀ s₀ (otpWordDone s) := by
  refine h₀.trans 35184372090368 ?_ hw₀
  clear h₀ hw₀
  unfold otpWordDone
  repeat' first
      | with_reducible exact Frame.refl
      | ((with_reducible refine otpPulse_frame ?_ ?_); on_goal 2 => rfl)
      | ((with_reducible refine Frame.updLcOtp (f := _) ?_ ?_ ?_); (on_goal 1 => exact fun _ => otpMod_keeps fun _ => otpProgram_up _ _); on_goal 2 => rfl)
      | with_reducible refine Frame.ite ?_ ?_
      | split

theorem otpInterrupted_frame {w₀ : Nat} {s₀ : State}  {s : State} (h₀ : Frame w₀ s₀ s) (hw₀ : 17592186045952 ||| w₀ = w₀) :
    Frame w₀ s₀ (otpInterrupted s) := by
  refine h₀.trans 17592186045952 ?_ hw₀
  clear h₀ hw₀
  unfold otpInterrupted
  repeat' first
      | with_reducible exact Frame.refl
      | ((first | intro x | (lift_lets -underBinder; intro x)); first
      | clear_value x)
      | ((with_reducible refine Frame.opened ?_ ?_); on_goal 2 => rfl)
      | ((with_reducible refine Frame.updLcOtp (f := _) ?_ ?_ ?_); (on_goal 1 => exact fun _ => otpMod_keeps fun _ => otpProgram_up _ _); on_goal 2 => rfl)
      | with_reducible refine Frame.ite ?_ ?_
      | split

theorem measPut_frame {w₀ : Nat} {s₀ : State} {n : Nat} {d : Bytes} {s : State} (h₀ : Frame w₀ s₀ s) (hw₀ : 70368744179712 ||| w₀ = w₀) :
    Frame w₀ s₀ (measPut n d s) := by
  refine h₀.trans 70368744179712 ?_ hw₀
  clear h₀ hw₀
  unfold measPut
  repeat' first
      | with_reducible exact Frame.refl
      | ((with_reducible refine Frame.updAt ?_ ?_); on_goal 2 => rfl)

theorem measExtendOp_frame {w₀ : Nat} {s₀ : State} {n : Nat} {d : Bytes} {s : State} (h₀ : Frame w₀ s₀ s) (hw₀ : 70368744179712 ||| w₀ = w₀) :
    Frame w₀ s₀ (measExtendOp n d s).2 := by
  refine h₀.trans 70368744179712 ?_ hw₀
  clear h₀ hw₀
  unfold measExtendOp
  repeat' first
      | with_reducible exact Frame.refl
      | ((with_reducible refine measPut_frame ?_ ?_); on_goal 2 => rfl)
      | with_reducible refine Frame.ite2 ?_ ?_

theorem recountConsent_frame {w₀ : Nat} {s₀ : State}  {s : State} (h₀ : Frame w₀ s₀ s) (hw₀ : 512 ||| w₀ = w₀) :
    Frame w₀ s₀ (recountConsent s) := by
  refine h₀.trans 512 ?_ hw₀
  clear h₀ hw₀
  unfold recountConsent
  repeat' first
      | with_reducible assumption
      | with_reducible exact Frame.refl
      | ((first | intro x | (lift_lets -underBinder; intro x)); first
      | (refine Frame.cut (w := 512) (s := s) (x := x) ?_ fun _ => ?_; (on_goal 1 => try dsimp only [x]); (on_goal 2 => clear_value x))
      | clear_value x)
      | ((with_reducible refine State.lcEvent_frame ?_ ?_); on_goal 2 => rfl)
      | ((with_reducible refine Frame.updLc (f := _) ?_ ?_ ?_); (on_goal 1 => (intro _; rfl)); on_goal 2 => rfl)
      | with_reducible refine Frame.ite ?_ ?_

theorem nonceUsed_frame {w₀ : Nat} {s₀ : State}  {s : State} (h₀ : Frame w₀ s₀ s) (hw₀ : 512 ||| w₀ = w₀) :
    Frame w₀ s₀ (nonceUsed s) := by
  refine h₀.trans 512 ?_ hw₀
  clear h₀ hw₀
  unfold nonceUsed
  repeat' first
      | with_reducible exact Frame.refl
      | ((with_reducible refine recountConsent_frame ?_ ?_); on_goal 2 => rfl)
      | ((with_reducible refine Frame.updLc (f := _) ?_ ?_ ?_); (on_goal 1 => (intro _; rfl)); on_goal 2 => rfl)

theorem newNonce_frame {w₀ : Nat} {s₀ : State}  {s : State} (h₀ : Frame w₀ s₀ s) (hw₀ : 8796093022720 ||| w₀ = w₀) :
    Frame w₀ s₀ (newNonce s) := by
  refine h₀.trans 8796093022720 ?_ hw₀
  clear h₀ hw₀
  unfold newNonce
  repeat' first
      | with_reducible exact Frame.refl
      | ((with_reducible refine recountConsent_frame ?_ ?_); on_goal 2 => rfl)
      | ((with_reducible refine Frame.drew ?_ ?_); on_goal 2 => rfl)
      | ((with_reducible refine Frame.updLc (f := _) ?_ ?_ ?_); (on_goal 1 => (intro _; rfl)); on_goal 2 => rfl)

theorem consentOp_frame {w₀ : Nat} {s₀ : State} {sess : Nat} {arg : Bytes} {s : State} (h₀ : Frame w₀ s₀ s) (hw₀ : 512 ||| w₀ = w₀) :
    Frame w₀ s₀ (consentOp sess arg s).2 := by
  refine h₀.trans 512 ?_ hw₀
  clear h₀ hw₀
  unfold consentOp
  repeat' first
      | with_reducible exact Frame.refl
      | ((first | intro x | (lift_lets -underBinder; intro x)); first
      | clear_value x)
      | ((with_reducible refine recountConsent_frame ?_ ?_); on_goal 2 => rfl)
      | ((with_reducible refine Frame.updLc (f := _) ?_ ?_ ?_); (on_goal 1 => (intro _; rfl)); on_goal 2 => rfl)
      | with_reducible refine Frame.ite2 ?_ ?_

theorem consentAct_frame {w₀ : Nat} {s₀ : State} {a : Act} {arg : Bytes} {s : State} (h₀ : Frame w₀ s₀ s) (hw₀ : 2199023256064 ||| w₀ = w₀) :
    Frame w₀ s₀ (consentAct a arg s) := by
  refine h₀.trans 2199023256064 ?_ hw₀
  clear h₀ hw₀
  unfold consentAct
  repeat' first
      | with_reducible exact Frame.refl
      | ((with_reducible refine runAct_frame (fun s => ?_) ?_ ?_); on_goal 3 => rfl)
      | ((with_reducible refine consentOp_frame ?_ ?_); on_goal 2 => rfl)

theorem keeperHalt_frame {w₀ : Nat} {s₀ : State}  {s : State} (h₀ : Frame w₀ s₀ s) (hw₀ : 35184372089344 ||| w₀ = w₀) :
    Frame w₀ s₀ (keeperHalt s) := by
  refine h₀.trans 35184372089344 ?_ hw₀
  clear h₀ hw₀
  unfold keeperHalt
  repeat' first
      | with_reducible exact Frame.refl
      | ((with_reducible refine Frame.updLc (f := _) ?_ ?_ ?_); (on_goal 1 => (intro _; rfl)); on_goal 2 => rfl)
      | ((with_reducible refine Frame.emit ?_ ?_); on_goal 2 => rfl)
      | with_reducible refine Frame.ite ?_ ?_

theorem clearRights_frame {w₀ : Nat} {s₀ : State}  {s : State} (h₀ : Frame w₀ s₀ s) (hw₀ : 512 ||| w₀ = w₀) :
    Frame w₀ s₀ (clearRights s) := by
  refine h₀.trans 512 ?_ hw₀
  clear h₀ hw₀
  unfold clearRights
  repeat' first
      | with_reducible exact Frame.refl
      | ((with_reducible refine Frame.updLc (f := _) ?_ ?_ ?_); (on_goal 1 => (intro _; rfl)); on_goal 2 => rfl)

theorem certOp_frame {w₀ : Nat} {s₀ : State} {c : Bytes} {s : State} (h₀ : Frame w₀ s₀ s) (hw₀ : 70368744180224 ||| w₀ = w₀) :
    Frame w₀ s₀ (certOp c s).2 := by
  refine h₀.trans 70368744180224 ?_ hw₀
  clear h₀ hw₀
  unfold certOp
  repeat' first
      | with_reducible assumption
      | with_reducible exact Frame.refl
      | ((first | intro x | (lift_lets -underBinder; intro x)); first
      | (refine Frame.cut (w := 70368744180224) (s := s) (x := x) ?_ fun _ => ?_; (on_goal 1 => try dsimp only [x]); (on_goal 2 => clear_value x))
      | clear_value x)
      | ((with_reducible refine State.lcEvent_frame ?_ ?_); on_goal 2 => rfl)
      | ((with_reducible refine measPut_frame ?_ ?_); on_goal 2 => rfl)
      | ((with_reducible refine nonceUsed_frame ?_ ?_); on_goal 2 => rfl)
      | ((with_reducible refine Frame.updLc (f := _) ?_ ?_ ?_); (on_goal 1 => (intro _; rfl)); on_goal 2 => rfl)
      | with_reducible refine Frame.ite ?_ ?_
      | with_reducible refine Frame.ite2 ?_ ?_

theorem debugNonceAct_frame {w₀ : Nat} {s₀ : State} {a : Act} {s : State} (h₀ : Frame w₀ s₀ s) (hw₀ : 10995116278272 ||| w₀ = w₀) :
    Frame w₀ s₀ (debugNonceAct a s) := by
  refine h₀.trans 10995116278272 ?_ hw₀
  clear h₀ hw₀
  unfold debugNonceAct
  repeat' first
      | with_reducible assumption
      | with_reducible exact Frame.refl
      | ((first | intro x | (lift_lets -underBinder; intro x)); first
      | (refine Frame.cut (w := 10995116278272) (s := s) (x := x) ?_ fun _ => ?_; (on_goal 1 => try dsimp only [x]); (on_goal 2 => clear_value x)))
      | ((with_reducible refine runAct_frame (fun s => ?_) ?_ ?_); on_goal 3 => rfl)
      | ((with_reducible refine newNonce_frame ?_ ?_); on_goal 2 => rfl)
      | with_reducible refine Frame.ite2 ?_ ?_

theorem debugCertAct_frame {w₀ : Nat} {s₀ : State} {a : Act} {arg : Bytes} {s : State} (h₀ : Frame w₀ s₀ s) (hw₀ : 72567767435776 ||| w₀ = w₀) :
    Frame w₀ s₀ (debugCertAct a arg s) := by
  refine h₀.trans 72567767435776 ?_ hw₀
  clear h₀ hw₀
  unfold debugCertAct
  repeat' first
      | with_reducible exact Frame.refl
      | ((with_reducible refine runAct_frame (fun s => ?_) ?_ ?_); on_goal 3 => rfl)
      | ((with_reducible refine certOp_frame ?_ ?_); on_goal 2 => rfl)

theorem transitionOp_frame {w₀ : Nat} {s₀ : State} {target : Nat} {token : Bytes} {r : Option Role} {s : State} (h₀ : Frame w₀ s₀ s) (hw₀ : 512 ||| w₀ = w₀) :
    Frame w₀ s₀ (transitionOp target token r s).2 := by
  refine h₀.trans 512 ?_ hw₀
  clear h₀ hw₀
  unfold transitionOp
  repeat' first
      | with_reducible exact Frame.refl
      | ((with_reducible refine State.lcEvent_frame ?_ ?_); on_goal 2 => rfl)
      | ((with_reducible refine otpStart_frame ?_ ?_); on_goal 2 => rfl)
      | ((with_reducible refine Frame.updLc (f := _) ?_ ?_ ?_); (on_goal 1 => (intro _; rfl)); on_goal 2 => rfl)
      | with_reducible refine Frame.ite2 ?_ ?_

theorem intentDone_frame {w₀ : Nat} {s₀ : State}  {s : State} (h₀ : Frame w₀ s₀ s) (hw₀ : 518 ||| w₀ = w₀) :
    Frame w₀ s₀ (intentDone s) := by
  refine h₀.trans 518 ?_ hw₀
  clear h₀ hw₀
  unfold intentDone
  repeat' first
      | with_reducible exact Frame.refl
      | ((with_reducible refine clearRights_frame ?_ ?_); on_goal 2 => rfl)
      | ((with_reducible refine Frame.updPins ?_ ?_); on_goal 2 => rfl)

theorem transitionAct_frame {w₀ : Nat} {s₀ : State} {a : Act} {arg : Bytes} {s : State} (h₀ : Frame w₀ s₀ s) (hw₀ : 2199023256064 ||| w₀ = w₀) :
    Frame w₀ s₀ (transitionAct a arg s) := by
  refine h₀.trans 2199023256064 ?_ hw₀
  clear h₀ hw₀
  unfold transitionAct
  repeat' first
      | with_reducible exact Frame.refl
      | ((first | intro x | (lift_lets -underBinder; intro x)); first
      | clear_value x)
      | ((with_reducible refine actDone_frame ?_ ?_); on_goal 2 => rfl)
      | ((with_reducible refine actWaits_frame ?_ ?_); on_goal 2 => rfl)
      | ((with_reducible refine transitionOp_frame ?_ ?_); on_goal 2 => rfl)
      | ((with_reducible refine Frame.updLc (f := _) ?_ ?_ ?_); (on_goal 1 => (intro _; rfl)); on_goal 2 => rfl)
      | dsimp -zeta only
      | with_reducible refine Frame.ite ?_ ?_

theorem rollbackStart_frame {w₀ : Nat} {s₀ : State} {v : Nat} {s : State} (h₀ : Frame w₀ s₀ s) (hw₀ : 512 ||| w₀ = w₀) :
    Frame w₀ s₀ (rollbackStart v s) := by
  refine h₀.trans 512 ?_ hw₀
  clear h₀ hw₀
  unfold rollbackStart
  repeat' first
      | with_reducible exact Frame.refl
      | ((with_reducible refine otpStart_frame ?_ ?_); on_goal 2 => rfl)

theorem rollbackCommitAct_frame {w₀ : Nat} {s₀ : State} {a : Act} {arg : Bytes} {s : State} (h₀ : Frame w₀ s₀ s) (hw₀ : 2199023256064 ||| w₀ = w₀) :
    Frame w₀ s₀ (rollbackCommitAct a arg s) := by
  refine h₀.trans 2199023256064 ?_ hw₀
  clear h₀ hw₀
  unfold rollbackCommitAct
  repeat' first
      | with_reducible exact Frame.refl
      | ((first | intro x | (lift_lets -underBinder; intro x)); first
      | clear_value x)
      | ((with_reducible refine actDone_frame ?_ ?_); on_goal 2 => rfl)
      | ((with_reducible refine actWaits_frame ?_ ?_); on_goal 2 => rfl)
      | ((with_reducible refine rollbackStart_frame ?_ ?_); on_goal 2 => rfl)
      | ((with_reducible refine Frame.updLc (f := _) ?_ ?_ ?_); (on_goal 1 => (intro _; rfl)); on_goal 2 => rfl)
      | with_reducible refine Frame.ite ?_ ?_

theorem otpProgramAct_frame {w₀ : Nat} {s₀ : State} {a : Act} {arg : Bytes} {s : State} (h₀ : Frame w₀ s₀ s) (hw₀ : 2199023256064 ||| w₀ = w₀) :
    Frame w₀ s₀ (otpProgramAct a arg s) := by
  refine h₀.trans 2199023256064 ?_ hw₀
  clear h₀ hw₀
  unfold otpProgramAct
  repeat' first
      | with_reducible exact Frame.refl
      | with_reducible exact Frame.appC ‹_› _
      | ((first | intro x | (lift_lets -underBinder; intro x)); first
      | (refine Frame.cutC (w := 2199023256064) (s := s) (f := x) (fun _ => ?_) fun _ => ?_; (on_goal 1 => try dsimp only [x]); (on_goal 2 => clear_value x))
      | clear_value x)
      | ((with_reducible refine actDone_frame ?_ ?_); on_goal 2 => rfl)
      | ((with_reducible refine actWaits_frame ?_ ?_); on_goal 2 => rfl)
      | ((with_reducible refine otpStart_frame ?_ ?_); on_goal 2 => rfl)
      | ((with_reducible refine Frame.updLc (f := _) ?_ ?_ ?_); (on_goal 1 => (intro _; rfl)); on_goal 2 => rfl)
      | with_reducible refine Frame.ite ?_ ?_
      | split

theorem lcFinish_frame {w₀ : Nat} {s₀ : State}  {r : Status × State} (h₀ : Frame w₀ s₀ r.2) (hw₀ : 512 ||| w₀ = w₀) :
    Frame w₀ s₀ (lcFinish r) := by
  refine h₀.trans 512 ?_ hw₀
  clear h₀ hw₀
  rcases r with ⟨_, s⟩
  show Frame 512 s _
  unfold lcFinish
  repeat' first
      | with_reducible exact Frame.refl
      | ((with_reducible refine Frame.updLc (f := _) ?_ ?_ ?_); (on_goal 1 => (intro _; rfl)); on_goal 2 => rfl)

theorem lcRuns_frame {w₀ : Nat} {s₀ : State}  {s : State} (h₀ : Frame w₀ s₀ s) (hw₀ : 512 ||| w₀ = w₀) :
    Frame w₀ s₀ (lcRuns s) := by
  refine h₀.trans 512 ?_ hw₀
  clear h₀ hw₀
  unfold lcRuns
  repeat' first
      | with_reducible exact Frame.refl
      | ((with_reducible refine Frame.updLc (f := _) ?_ ?_ ?_); (on_goal 1 => (intro _; rfl)); on_goal 2 => rfl)

theorem eraseReportOp_frame {w₀ : Nat} {s₀ : State}  {s : State} (h₀ : Frame w₀ s₀ s) (hw₀ : 512 ||| w₀ = w₀) :
    Frame w₀ s₀ (eraseReportOp s) := by
  refine h₀.trans 512 ?_ hw₀
  clear h₀ hw₀
  unfold eraseReportOp
  repeat' first
      | with_reducible assumption
      | with_reducible exact Frame.refl
      | ((first | intro x | (lift_lets -underBinder; intro x)); first
      | (refine Frame.cut (w := 512) (s := s) (x := x) ?_ fun _ => ?_; (on_goal 1 => try dsimp only [x]); (on_goal 2 => clear_value x)))
      | ((with_reducible refine otpStart_frame ?_ ?_); on_goal 2 => rfl)
      | ((with_reducible refine Frame.updLc (f := _) ?_ ?_ ?_); (on_goal 1 => (intro _; rfl)); on_goal 2 => rfl)
      | with_reducible refine Frame.ite ?_ ?_

theorem commitOp_frame {w₀ : Nat} {s₀ : State}  {s : State} (h₀ : Frame w₀ s₀ s) (hw₀ : 512 ||| w₀ = w₀) :
    Frame w₀ s₀ (commitOp s).2 := by
  refine h₀.trans 512 ?_ hw₀
  clear h₀ hw₀
  unfold commitOp
  repeat' first
      | with_reducible exact Frame.refl
      | ((with_reducible refine otpStart_frame ?_ ?_); on_goal 2 => rfl)
      | with_reducible refine Frame.ite2 ?_ ?_
      | split

theorem lcCommand_frame {w₀ : Nat} {s₀ : State} {op : Nat} {target : BitVec 3} {s : State} (h₀ : Frame w₀ s₀ s) (hw₀ : 79164837202432 ||| w₀ = w₀) :
    Frame w₀ s₀ (lcCommand op target s) := by
  refine h₀.trans 79164837202432 ?_ hw₀
  clear h₀ hw₀
  unfold lcCommand
  repeat' first
      | with_reducible assumption
      | with_reducible exact Frame.refl
      | ((first | intro x | (lift_lets -underBinder; intro x)); first
      | (refine Frame.cut (w := 79164837202432) (s := s) (x := x) ?_ fun _ => ?_; (on_goal 1 => try dsimp only [x]); (on_goal 2 => clear_value x)))
      | ((with_reducible refine newNonce_frame ?_ ?_); on_goal 2 => rfl)
      | ((with_reducible refine clearRights_frame ?_ ?_); on_goal 2 => rfl)
      | ((with_reducible refine certOp_frame ?_ ?_); on_goal 2 => rfl)
      | ((with_reducible refine transitionOp_frame ?_ ?_); on_goal 2 => rfl)
      | ((with_reducible refine rollbackStart_frame ?_ ?_); on_goal 2 => rfl)
      | ((with_reducible refine lcFinish_frame ?_ ?_); on_goal 2 => rfl)
      | ((with_reducible refine lcRuns_frame ?_ ?_); on_goal 2 => rfl)
      | ((with_reducible refine eraseReportOp_frame ?_ ?_); on_goal 2 => rfl)
      | ((with_reducible refine commitOp_frame ?_ ?_); on_goal 2 => rfl)
      | ((with_reducible refine Frame.updLc (f := _) ?_ ?_ ?_); (on_goal 1 => (intro _; rfl)); on_goal 2 => rfl)
      | dsimp -zeta only
      | with_reducible refine Frame.ite ?_ ?_
      | split

theorem otpJobDone_frame {w₀ : Nat} {s₀ : State}  {s : State} (h₀ : Frame w₀ s₀ s) (hw₀ : 2199023256070 ||| w₀ = w₀) :
    Frame w₀ s₀ (otpJobDone s) := by
  refine h₀.trans 2199023256070 ?_ hw₀
  clear h₀ hw₀
  unfold otpJobDone
  repeat' first
      | with_reducible assumption
      | with_reducible exact Frame.refl
      | ((first | intro x | (lift_lets -underBinder; intro x)); first
      | (refine Frame.cut (w := 2199023256070) (s := s) (x := x) ?_ fun _ => ?_; (on_goal 1 => try dsimp only [x]); (on_goal 2 => clear_value x))
      | clear_value x)
      | ((with_reducible refine answerAll_frame ?_ ?_); on_goal 2 => rfl)
      | ((with_reducible refine intentDone_frame ?_ ?_); on_goal 2 => rfl)
      | ((with_reducible refine lcFinish_frame ?_ ?_); on_goal 2 => rfl)
      | ((with_reducible refine Frame.updLc (f := _) ?_ ?_ ?_); (on_goal 1 => (intro _; rfl)); on_goal 2 => rfl)
      | with_reducible refine Frame.ite ?_ ?_
      | split

theorem scanMode_frame {w₀ : Nat} {s₀ : State} {level : Bool} {s : State} (h₀ : Frame w₀ s₀ s) (hw₀ : 52776558133254 ||| w₀ = w₀) :
    Frame w₀ s₀ (scanMode level s) := by
  refine h₀.trans 52776558133254 ?_ hw₀
  clear h₀ hw₀
  unfold scanMode
  repeat' first
      | with_reducible exact Frame.refl
      | ((with_reducible refine Frame.opened ?_ ?_); on_goal 2 => rfl)
      | ((with_reducible refine Frame.emit ?_ ?_); on_goal 2 => rfl)
      | ((with_reducible refine Frame.updPins ?_ ?_); on_goal 2 => rfl)
      | with_reducible refine Frame.ite ?_ ?_

end Sys2Proof.Machine
end

