-- ==== Sys2Proof/Laws/FrAttest.lean ====
section
/-! SUPPORT. What each operation of Machine/Attest.lean may change (see Frame.lean). -/

namespace Sys2Proof.Machine

-- One declaration at a time, so that the elaborator holds few threads (each takes stack of its own).
set_option Elab.async false

theorem diceStepOp_frame {w₀ : Nat} {s₀ : State} {k : Nat} {s : State} (h₀ : Frame w₀ s₀ s) (hw₀ : 70368744179712 ||| w₀ = w₀) :
    Frame w₀ s₀ (diceStepOp k s).2 := by
  refine h₀.trans 70368744179712 ?_ hw₀
  clear h₀ hw₀
  unfold diceStepOp
  repeat' first
      | with_reducible exact Frame.refl
      | ((first | intro x | (lift_lets -underBinder; intro x)); first
      | clear_value x)
      | ((with_reducible refine Frame.updAt ?_ ?_); on_goal 2 => rfl)
      | with_reducible refine Frame.ite2 ?_ ?_

theorem signOp_frame {w₀ : Nat} {s₀ : State}  {s : State} (h₀ : Frame w₀ s₀ s) (hw₀ : 70368744179712 ||| w₀ = w₀) :
    Frame w₀ s₀ (signOp s).2 := by
  refine h₀.trans 70368744179712 ?_ hw₀
  clear h₀ hw₀
  unfold signOp
  repeat' first
      | with_reducible exact Frame.refl
      | ((with_reducible refine Frame.updAt ?_ ?_); on_goal 2 => rfl)
      | with_reducible refine Frame.ite2 ?_ ?_

theorem atFinish_frame {w₀ : Nat} {s₀ : State} {op : Nat} {index : BitVec 3} {r : Status × State} (h₀ : Frame w₀ s₀ r.2) (hw₀ : 70368744179712 ||| w₀ = w₀) :
    Frame w₀ s₀ (atFinish op index r) := by
  refine h₀.trans 70368744179712 ?_ hw₀
  clear h₀ hw₀
  rcases r with ⟨_, s⟩
  show Frame 70368744179712 s _
  unfold atFinish
  repeat' first
      | with_reducible exact Frame.refl
      | ((with_reducible refine Frame.updAt ?_ ?_); on_goal 2 => rfl)

theorem atCommand_frame {w₀ : Nat} {s₀ : State} {op : Nat} {index : BitVec 3} {s : State} (h₀ : Frame w₀ s₀ s) (hw₀ : 70368744179712 ||| w₀ = w₀) :
    Frame w₀ s₀ (atCommand op index s) := by
  refine h₀.trans 70368744179712 ?_ hw₀
  clear h₀ hw₀
  unfold atCommand
  repeat' first
      | with_reducible exact Frame.refl
      | ((with_reducible refine measExtendOp_frame ?_ ?_); on_goal 2 => rfl)
      | ((with_reducible refine diceStepOp_frame ?_ ?_); on_goal 2 => rfl)
      | ((with_reducible refine signOp_frame ?_ ?_); on_goal 2 => rfl)
      | ((with_reducible refine atFinish_frame ?_ ?_); on_goal 2 => rfl)
      | split

theorem measExtendAct_frame {w₀ : Nat} {s₀ : State} {a : Act} {arg : Bytes} {s : State} (h₀ : Frame w₀ s₀ s) (hw₀ : 72567767435264 ||| w₀ = w₀) :
    Frame w₀ s₀ (measExtendAct a arg s) := by
  refine h₀.trans 72567767435264 ?_ hw₀
  clear h₀ hw₀
  unfold measExtendAct
  repeat' first
      | with_reducible exact Frame.refl
      | ((first | intro x | (lift_lets -underBinder; intro x)); first
      | clear_value x)
      | ((with_reducible refine runAct_frame (fun s => ?_) ?_ ?_); on_goal 3 => rfl)
      | ((with_reducible refine measExtendOp_frame ?_ ?_); on_goal 2 => rfl)
      | dsimp -zeta only
      | with_reducible refine Frame.ite2 ?_ ?_

theorem slateStart_frame {w₀ : Nat} {s₀ : State}  {s : State} (h₀ : Frame w₀ s₀ s) (hw₀ : 70368744179712 ||| w₀ = w₀) :
    Frame w₀ s₀ (slateStart s) := by
  refine h₀.trans 70368744179712 ?_ hw₀
  clear h₀ hw₀
  unfold slateStart
  repeat' first
      | with_reducible exact Frame.refl
      | ((with_reducible refine Frame.updAt ?_ ?_); on_goal 2 => rfl)
      | with_reducible refine Frame.ite ?_ ?_
      | split

theorem slateQueue_frame {w₀ : Nat} {s₀ : State} {path : SlatePath} {nonce : Bytes} {s : State} (h₀ : Frame w₀ s₀ s) (hw₀ : 70368744179712 ||| w₀ = w₀) :
    Frame w₀ s₀ (slateQueue path nonce s) := by
  refine h₀.trans 70368744179712 ?_ hw₀
  clear h₀ hw₀
  unfold slateQueue
  repeat' first
      | with_reducible exact Frame.refl
      | ((with_reducible refine slateStart_frame ?_ ?_); on_goal 2 => rfl)
      | ((with_reducible refine Frame.updAt ?_ ?_); on_goal 2 => rfl)

theorem updMailbox_frame {w₀ : Nat} {s₀ : State} {page : Nat} {f : Mailbox → Mailbox} {s : State} (h₀ : Frame w₀ s₀ s) (hw₀ : 536870912 ||| w₀ = w₀) :
    Frame w₀ s₀ (updMailbox page f s) := by
  refine h₀.trans 536870912 ?_ hw₀
  clear h₀ hw₀
  unfold updMailbox
  repeat' first
      | with_reducible exact Frame.refl
      | ((with_reducible refine Frame.updFs ?_ ?_); on_goal 2 => rfl)

theorem mailboxIgnored_frame {w₀ : Nat} {s₀ : State} {page : Nat} {s : State} (h₀ : Frame w₀ s₀ s) (hw₀ : 1610612736 ||| w₀ = w₀) :
    Frame w₀ s₀ (mailboxIgnored page s) := by
  refine h₀.trans 1610612736 ?_ hw₀
  clear h₀ hw₀
  unfold mailboxIgnored
  repeat' first
      | with_reducible exact Frame.refl
      | ((with_reducible refine hallCount_frame ?_ ?_); on_goal 2 => rfl)
      | ((with_reducible refine Frame.updFs ?_ ?_); on_goal 2 => rfl)
      | with_reducible refine Frame.ite ?_ ?_

theorem mailboxDone_frame {w₀ : Nat} {s₀ : State} {page : Nat} {st : Status} {data : Bytes} {s : State} (h₀ : Frame w₀ s₀ s) (hw₀ : 536870912 ||| w₀ = w₀) :
    Frame w₀ s₀ (mailboxDone page st data s) := by
  refine h₀.trans 536870912 ?_ hw₀
  clear h₀ hw₀
  unfold mailboxDone
  repeat' first
      | with_reducible exact Frame.refl
      | ((with_reducible refine updMailbox_frame ?_ ?_); on_goal 2 => rfl)

theorem mailboxBegin_frame {w₀ : Nat} {s₀ : State} {page : Nat} {s : State} (h₀ : Frame w₀ s₀ s) (hw₀ : 536870912 ||| w₀ = w₀) :
    Frame w₀ s₀ (mailboxBegin page s) := by
  refine h₀.trans 536870912 ?_ hw₀
  clear h₀ hw₀
  unfold mailboxBegin
  repeat' first
      | with_reducible exact Frame.refl
      | ((with_reducible refine updMailbox_frame ?_ ?_); on_goal 2 => rfl)

theorem pageSlate_frame {w₀ : Nat} {s₀ : State} {page : Nat} {nonce : Bytes} {s : State} (h₀ : Frame w₀ s₀ s) (hw₀ : 70370354792448 ||| w₀ = w₀) :
    Frame w₀ s₀ (pageSlate page nonce s) := by
  refine h₀.trans 70370354792448 ?_ hw₀
  clear h₀ hw₀
  unfold pageSlate
  repeat' first
      | with_reducible exact Frame.refl
      | ((with_reducible refine slateQueue_frame ?_ ?_); on_goal 2 => rfl)
      | ((with_reducible refine mailboxIgnored_frame ?_ ?_); on_goal 2 => rfl)
      | ((with_reducible refine mailboxBegin_frame ?_ ?_); on_goal 2 => rfl)
      | with_reducible refine Frame.ite ?_ ?_

theorem mailboxRequestOp_frame {w₀ : Nat} {s₀ : State} {page : Nat} {cmd : Word} {s : State} (h₀ : Frame w₀ s₀ s) (hw₀ : 70370354792448 ||| w₀ = w₀) :
    Frame w₀ s₀ (mailboxRequestOp page cmd s) := by
  refine h₀.trans 70370354792448 ?_ hw₀
  clear h₀ hw₀
  unfold mailboxRequestOp
  repeat' first
      | with_reducible exact Frame.refl
      | ((with_reducible refine pageSlate_frame ?_ ?_); on_goal 2 => rfl)
      | with_reducible refine Frame.ite ?_ ?_

theorem slateAct_frame {w₀ : Nat} {s₀ : State} {a : Act} {hall : Nat} {nonce : Bytes} {s : State} (h₀ : Frame w₀ s₀ s) (hw₀ : 72567767435264 ||| w₀ = w₀) :
    Frame w₀ s₀ (slateAct a hall nonce s) := by
  refine h₀.trans 72567767435264 ?_ hw₀
  clear h₀ hw₀
  unfold slateAct
  repeat' first
      | with_reducible exact Frame.refl
      | ((first | intro x | (lift_lets -underBinder; intro x)); first
      | clear_value x)
      | ((with_reducible refine actDone_frame ?_ ?_); on_goal 2 => rfl)
      | ((with_reducible refine actWaits_frame ?_ ?_); on_goal 2 => rfl)
      | ((with_reducible refine slateQueue_frame ?_ ?_); on_goal 2 => rfl)
      | with_reducible refine Frame.ite ?_ ?_

theorem slateRequestOp_frame {w₀ : Nat} {s₀ : State} {path : SlatePath} {nonce : Bytes} {s : State} (h₀ : Frame w₀ s₀ s) (hw₀ : 72569378048000 ||| w₀ = w₀) :
    Frame w₀ s₀ (slateRequestOp path nonce s) := by
  refine h₀.trans 72569378048000 ?_ hw₀
  clear h₀ hw₀
  unfold slateRequestOp
  repeat' first
      | with_reducible exact Frame.refl
      | ((with_reducible refine pageSlate_frame ?_ ?_); on_goal 2 => rfl)
      | ((with_reducible refine slateAct_frame ?_ ?_); on_goal 2 => rfl)
      | split

theorem slateCompleteOp_frame {w₀ : Nat} {s₀ : State}  {s : State} (h₀ : Frame w₀ s₀ s) (hw₀ : 72568304306176 ||| w₀ = w₀) :
    Frame w₀ s₀ (slateCompleteOp s) := by
  refine h₀.trans 72568304306176 ?_ hw₀
  clear h₀ hw₀
  unfold slateCompleteOp
  repeat' first
      | with_reducible assumption
      | with_reducible exact Frame.refl
      | ((first | intro x | (lift_lets -underBinder; intro x)); first
      | (refine Frame.cut (w := 72568304306176) (s := s) (x := x) ?_ fun _ => ?_; (on_goal 1 => try dsimp only [x]); (on_goal 2 => clear_value x))
      | clear_value x)
      | ((with_reducible refine actDone_frame ?_ ?_); on_goal 2 => rfl)
      | ((with_reducible refine slateStart_frame ?_ ?_); on_goal 2 => rfl)
      | ((with_reducible refine mailboxDone_frame ?_ ?_); on_goal 2 => rfl)
      | ((with_reducible refine Frame.updAt ?_ ?_); on_goal 2 => rfl)
      | split

theorem updConn_frame {w₀ : Nat} {s₀ : State} {t : Transport} {f : SpdmConn → SpdmConn} {s : State} (h₀ : Frame w₀ s₀ s) (hw₀ : 70368744179712 ||| w₀ = w₀) :
    Frame w₀ s₀ (updConn t f s) := by
  refine h₀.trans 70368744179712 ?_ hw₀
  clear h₀ hw₀
  unfold updConn
  repeat' first
      | with_reducible exact Frame.refl
      | ((with_reducible refine Frame.updAt ?_ ?_); on_goal 2 => rfl)
      | split

theorem spdmSend_frame {w₀ : Nat} {s₀ : State} {t : Transport} {r : SpdmAnswer × State} (h₀ : Frame w₀ s₀ r.2) (hw₀ : 35184372088832 ||| w₀ = w₀) :
    Frame w₀ s₀ (spdmSend t r) := by
  refine h₀.trans 35184372088832 ?_ hw₀
  clear h₀ hw₀
  rcases r with ⟨_, s⟩
  show Frame 35184372088832 s _
  unfold spdmSend
  repeat' first
      | with_reducible exact Frame.refl
      | ((with_reducible refine Frame.emit ?_ ?_); on_goal 2 => rfl)
      | with_reducible refine Frame.ite ?_ ?_

theorem retireImported_frame {w₀ : Nat} {s₀ : State} {l : List Spdm} {s : State} (h₀ : Frame w₀ s₀ s) (hw₀ : 64 ||| w₀ = w₀) :
    Frame w₀ s₀ (retireImported l s) := by
  refine h₀.trans 64 ?_ hw₀
  clear h₀ hw₀
  unfold retireImported
  repeat' first
      | with_reducible exact Frame.refl
      | ((with_reducible refine retireHandle_frame ?_ ?_); on_goal 2 => rfl)
      | with_reducible refine Frame.forAll (fun _ s => ?_) _ ?_

theorem closeSpdm_frame {w₀ : Nat} {s₀ : State} {t : Transport} {p : Spdm → Bool} {s : State} (h₀ : Frame w₀ s₀ s) (hw₀ : 70368744179776 ||| w₀ = w₀) :
    Frame w₀ s₀ (closeSpdm t p s) := by
  refine h₀.trans 70368744179776 ?_ hw₀
  clear h₀ hw₀
  unfold closeSpdm
  repeat' first
      | with_reducible exact Frame.refl
      | ((first | intro x | (lift_lets -underBinder; intro x)); first
      | clear_value x)
      | ((with_reducible refine updConn_frame ?_ ?_); on_goal 2 => rfl)
      | ((with_reducible refine retireImported_frame ?_ ?_); on_goal 2 => rfl)

theorem getVersionOp_frame {w₀ : Nat} {s₀ : State} {t : Transport} {s : State} (h₀ : Frame w₀ s₀ s) (hw₀ : 70368744179776 ||| w₀ = w₀) :
    Frame w₀ s₀ (getVersionOp t s).2 := by
  refine h₀.trans 70368744179776 ?_ hw₀
  clear h₀ hw₀
  unfold getVersionOp
  repeat' first
      | with_reducible assumption
      | with_reducible exact Frame.refl
      | ((first | intro x | (lift_lets -underBinder; intro x)); first
      | (refine Frame.cut (w := 70368744179776) (s := s) (x := x) ?_ fun _ => ?_; (on_goal 1 => try dsimp only [x]); (on_goal 2 => clear_value x)))
      | ((with_reducible refine updConn_frame ?_ ?_); on_goal 2 => rfl)
      | ((with_reducible refine closeSpdm_frame ?_ ?_); on_goal 2 => rfl)

theorem getCapabilitiesOp_frame {w₀ : Nat} {s₀ : State} {t : Transport} {version : Byte} {s : State} (h₀ : Frame w₀ s₀ s) (hw₀ : 70368744179712 ||| w₀ = w₀) :
    Frame w₀ s₀ (getCapabilitiesOp t version s).2 := by
  refine h₀.trans 70368744179712 ?_ hw₀
  clear h₀ hw₀
  unfold getCapabilitiesOp
  repeat' first
      | with_reducible exact Frame.refl
      | ((with_reducible refine updConn_frame ?_ ?_); on_goal 2 => rfl)
      | with_reducible refine Frame.ite2 ?_ ?_

theorem negotiateOp_frame {w₀ : Nat} {s₀ : State} {t : Transport} {o : AlgOffer} {s : State} (h₀ : Frame w₀ s₀ s) (hw₀ : 70368744179712 ||| w₀ = w₀) :
    Frame w₀ s₀ (negotiateOp t o s).2 := by
  refine h₀.trans 70368744179712 ?_ hw₀
  clear h₀ hw₀
  unfold negotiateOp
  repeat' first
      | with_reducible exact Frame.refl
      | ((first | intro x | (lift_lets -underBinder; intro x)); first
      | clear_value x)
      | ((with_reducible refine updConn_frame ?_ ?_); on_goal 2 => rfl)
      | with_reducible refine Frame.ite2 ?_ ?_

theorem getDigestsOp_frame {w₀ : Nat} {s₀ : State} {t : Transport} {s : State} (h₀ : Frame w₀ s₀ s) (hw₀ : 0 ||| w₀ = w₀) :
    Frame w₀ s₀ (getDigestsOp t s).2 := by
  refine h₀.trans 0 ?_ hw₀
  clear h₀ hw₀
  unfold getDigestsOp
  repeat' first
      | with_reducible exact Frame.refl
      | with_reducible refine Frame.ite2 ?_ ?_

theorem getCertificateOp_frame {w₀ : Nat} {s₀ : State} {t : Transport} {slot : Nat} {offset : Nat} {length : Nat} {s : State} (h₀ : Frame w₀ s₀ s) (hw₀ : 0 ||| w₀ = w₀) :
    Frame w₀ s₀ (getCertificateOp t slot offset length s).2 := by
  refine h₀.trans 0 ?_ hw₀
  clear h₀ hw₀
  unfold getCertificateOp
  repeat' first
      | with_reducible exact Frame.refl
      | ((first | intro x | (lift_lets -underBinder; intro x)); first
      | clear_value x)
      | with_reducible refine Frame.ite2 ?_ ?_

theorem spdmSign_frame {w₀ : Nat} {s₀ : State}  {s : State} (h₀ : Frame w₀ s₀ s) (hw₀ : 17592186044416 ||| w₀ = w₀) :
    Frame w₀ s₀ (spdmSign s).2 := by
  refine h₀.trans 17592186044416 ?_ hw₀
  clear h₀ hw₀
  unfold spdmSign
  repeat' first
      | with_reducible exact Frame.refl
      | ((with_reducible refine Frame.opened ?_ ?_); on_goal 2 => rfl)

theorem challengeOp_frame {w₀ : Nat} {s₀ : State} {t : Transport} {slot : Nat} {summary : Bool} {rest : Bytes} {s : State} (h₀ : Frame w₀ s₀ s) (hw₀ : 26388279066624 ||| w₀ = w₀) :
    Frame w₀ s₀ (challengeOp t slot summary rest s).2 := by
  refine h₀.trans 26388279066624 ?_ hw₀
  clear h₀ hw₀
  unfold challengeOp
  repeat' first
      | with_reducible exact Frame.refl
      | ((first | intro x | (lift_lets -underBinder; intro x)); first
      | clear_value x)
      | ((with_reducible refine spdmSign_frame ?_ ?_); on_goal 2 => rfl)
      | ((with_reducible refine Frame.drew ?_ ?_); on_goal 2 => rfl)
      | dsimp -zeta only
      | with_reducible refine Frame.ite2 ?_ ?_

theorem getMeasurementsOp_frame {w₀ : Nat} {s₀ : State} {t : Transport} {index : Nat} {signed : Bool} {rest : Bytes} {s : State} (h₀ : Frame w₀ s₀ s) (hw₀ : 26388279066624 ||| w₀ = w₀) :
    Frame w₀ s₀ (getMeasurementsOp t index signed rest s).2 := by
  refine h₀.trans 26388279066624 ?_ hw₀
  clear h₀ hw₀
  unfold getMeasurementsOp
  repeat' first
      | with_reducible exact Frame.refl
      | ((first | intro x | (lift_lets -underBinder; intro x)); first
      | clear_value x)
      | ((with_reducible refine spdmSign_frame ?_ ?_); on_goal 2 => rfl)
      | ((with_reducible refine Frame.drew ?_ ?_); on_goal 2 => rfl)
      | dsimp -zeta only
      | with_reducible refine Frame.ite2 ?_ ?_

theorem keyExchangeOp_frame {w₀ : Nat} {s₀ : State} {t : Transport} {carrier : Nat} {m : Bytes} {s : State} (h₀ : Frame w₀ s₀ s) (hw₀ : 96757023246336 ||| w₀ = w₀) :
    Frame w₀ s₀ (keyExchangeOp t carrier m s).2 := by
  refine h₀.trans 96757023246336 ?_ hw₀
  clear h₀ hw₀
  unfold keyExchangeOp
  repeat' first
      | with_reducible assumption
      | with_reducible exact Frame.refl
      | ((first | intro x | (lift_lets -underBinder; intro x)); first
      | (refine Frame.cut (w := 96757023246336) (s := s) (x := x) ?_ fun _ => ?_; (on_goal 1 => try dsimp only [x]); (on_goal 2 => clear_value x))
      | clear_value x)
      | ((with_reducible refine State.atEvent_frame ?_ ?_); on_goal 2 => rfl)
      | ((with_reducible refine updConn_frame ?_ ?_); on_goal 2 => rfl)
      | ((with_reducible refine spdmSign_frame ?_ ?_); on_goal 2 => rfl)
      | ((with_reducible refine Frame.updAt ?_ ?_); on_goal 2 => rfl)
      | ((with_reducible refine Frame.drew ?_ ?_); on_goal 2 => rfl)
      | ((with_reducible refine Frame.opened ?_ ?_); on_goal 2 => rfl)
      | dsimp -zeta only
      | with_reducible refine Frame.ite2 ?_ ?_

theorem spdmCounted_frame {w₀ : Nat} {s₀ : State} {t : Transport} {sid : Nat} {s : State} (h₀ : Frame w₀ s₀ s) (hw₀ : 70368744179776 ||| w₀ = w₀) :
    Frame w₀ s₀ (spdmCounted t sid s) := by
  refine h₀.trans 70368744179776 ?_ hw₀
  clear h₀ hw₀
  unfold spdmCounted
  repeat' first
      | with_reducible exact Frame.refl
      | ((with_reducible refine updConn_frame ?_ ?_); on_goal 2 => rfl)
      | ((with_reducible refine closeSpdm_frame ?_ ?_); on_goal 2 => rfl)
      | with_reducible refine Frame.ite ?_ ?_
      | split

theorem finishOp_frame {w₀ : Nat} {s₀ : State} {t : Transport} {sid : Nat} {verified : Bool} {s : State} (h₀ : Frame w₀ s₀ s) (hw₀ : 70368744179776 ||| w₀ = w₀) :
    Frame w₀ s₀ (finishOp t sid verified s).2 := by
  refine h₀.trans 70368744179776 ?_ hw₀
  clear h₀ hw₀
  unfold finishOp
  repeat' first
      | with_reducible exact Frame.refl
      | ((with_reducible refine updConn_frame ?_ ?_); on_goal 2 => rfl)
      | ((with_reducible refine closeSpdm_frame ?_ ?_); on_goal 2 => rfl)
      | ((with_reducible refine spdmCounted_frame ?_ ?_); on_goal 2 => rfl)
      | with_reducible refine Frame.ite2 ?_ ?_
      | split

theorem endSessionOp_frame {w₀ : Nat} {s₀ : State} {t : Transport} {sid : Nat} {s : State} (h₀ : Frame w₀ s₀ s) (hw₀ : 70368744179776 ||| w₀ = w₀) :
    Frame w₀ s₀ (endSessionOp t sid s).2 := by
  refine h₀.trans 70368744179776 ?_ hw₀
  clear h₀ hw₀
  unfold endSessionOp
  repeat' first
      | with_reducible exact Frame.refl
      | ((with_reducible refine closeSpdm_frame ?_ ?_); on_goal 2 => rfl)
      | split

theorem spdmMessage_frame {w₀ : Nat} {s₀ : State} {t : Transport} {carrier : Nat} {m : Bytes} {s : State} (h₀ : Frame w₀ s₀ s) (hw₀ : 96757023246400 ||| w₀ = w₀) :
    Frame w₀ s₀ (spdmMessage t carrier m s).2 := by
  refine h₀.trans 96757023246400 ?_ hw₀
  clear h₀ hw₀
  unfold spdmMessage
  repeat' first
      | with_reducible exact Frame.refl
      | ((first | intro x | (lift_lets -underBinder; intro x)); first
      | clear_value x)
      | ((with_reducible refine getVersionOp_frame ?_ ?_); on_goal 2 => rfl)
      | ((with_reducible refine getCapabilitiesOp_frame ?_ ?_); on_goal 2 => rfl)
      | ((with_reducible refine negotiateOp_frame ?_ ?_); on_goal 2 => rfl)
      | ((with_reducible refine getDigestsOp_frame ?_ ?_); on_goal 2 => rfl)
      | ((with_reducible refine getCertificateOp_frame ?_ ?_); on_goal 2 => rfl)
      | ((with_reducible refine challengeOp_frame ?_ ?_); on_goal 2 => rfl)
      | ((with_reducible refine getMeasurementsOp_frame ?_ ?_); on_goal 2 => rfl)
      | ((with_reducible refine keyExchangeOp_frame ?_ ?_); on_goal 2 => rfl)
      | with_reducible refine Frame.ite2 ?_ ?_

theorem spdmInner_frame {w₀ : Nat} {s₀ : State} {t : Transport} {x : Spdm} {m : Bytes} {s : State} (h₀ : Frame w₀ s₀ s) (hw₀ : 96757023246400 ||| w₀ = w₀) :
    Frame w₀ s₀ (spdmInner t x m s).2 := by
  refine h₀.trans 96757023246400 ?_ hw₀
  clear h₀ hw₀
  unfold spdmInner
  repeat' first
      | with_reducible exact Frame.refl
      | ((first | intro x | (lift_lets -underBinder; intro x)); first
      | clear_value x)
      | ((with_reducible refine spdmCounted_frame ?_ ?_); on_goal 2 => rfl)
      | ((with_reducible refine finishOp_frame ?_ ?_); on_goal 2 => rfl)
      | ((with_reducible refine endSessionOp_frame ?_ ?_); on_goal 2 => rfl)
      | ((with_reducible refine spdmMessage_frame ?_ ?_); on_goal 2 => rfl)
      | dsimp -zeta only
      | with_reducible refine Frame.ite2 ?_ ?_

theorem spdmPlain_frame {w₀ : Nat} {s₀ : State} {t : Transport} {carrier : Nat} {m : Bytes} {s : State} (h₀ : Frame w₀ s₀ s) (hw₀ : 96757023246400 ||| w₀ = w₀) :
    Frame w₀ s₀ (spdmPlain t carrier m s).2 := by
  refine h₀.trans 96757023246400 ?_ hw₀
  clear h₀ hw₀
  unfold spdmPlain
  repeat' first
      | with_reducible exact Frame.refl
      | ((with_reducible refine spdmMessage_frame ?_ ?_); on_goal 2 => rfl)

theorem spdmSecured_frame {w₀ : Nat} {s₀ : State} {t : Transport} {m : Bytes}
    {special : Spdm → Bytes → State → Option (SpdmAnswer × State)} {s : State} (hs : ∀ x p u, FrameOpt w₀ u (special x p u))
    (h₀ : Frame w₀ s₀ s) (hw₀ : 96757023246400 ||| w₀ = w₀) : Frame w₀ s₀ (spdmSecured t m special s).2 := by
  refine h₀.trans w₀ ?_ (Nat.or_self w₀)
  clear h₀
  unfold spdmSecured
  split
  · exact Frame.refl
  · split
    · exact Frame.refl
    · split
      rename_i e
      refine Frame.ofEq e ?_
      split
      · rename_i r q
        exact (hs _ _ _).out r q
      · exact spdmInner_frame Frame.refl hw₀

theorem spdmServe_frame {w₀ : Nat} {s₀ : State} {t : Transport} {carrier : Nat} {m : Bytes} {s : State} (h₀ : Frame w₀ s₀ s) (hw₀ : 96757023246400 ||| w₀ = w₀) :
    Frame w₀ s₀ (spdmServe t carrier m s).2 := by
  refine h₀.trans 96757023246400 ?_ hw₀
  clear h₀ hw₀
  unfold spdmServe
  repeat' first
      | with_reducible exact Frame.refl
      | ((first | intro x | (lift_lets -underBinder; intro x)); first
      | clear_value x)
      | ((with_reducible refine spdmPlain_frame ?_ ?_); on_goal 2 => rfl)
      | ((with_reducible refine spdmSecured_frame (fun _ _ _ => ?_) ?_ ?_); on_goal 3 => rfl)
      | with_reducible exact FrameOpt.none
      | with_reducible refine Frame.ite2 ?_ ?_

theorem spdmMsgAct_frame {w₀ : Nat} {s₀ : State} {a : Act} {arg : Bytes} {s : State} (h₀ : Frame w₀ s₀ s) (hw₀ : 98956046501952 ||| w₀ = w₀) :
    Frame w₀ s₀ (spdmMsgAct a arg s) := by
  refine h₀.trans 98956046501952 ?_ hw₀
  clear h₀ hw₀
  unfold spdmMsgAct
  repeat' first
      | with_reducible exact Frame.refl
      | ((with_reducible refine runAct_frame (fun s => ?_) ?_ ?_); on_goal 3 => rfl)
      | ((with_reducible refine spdmServe_frame ?_ ?_); on_goal 2 => rfl)
      | with_reducible refine Frame.ite2 ?_ ?_

theorem doeDiscoveryOp_frame {w₀ : Nat} {s₀ : State} {index : Nat} {s : State} (h₀ : Frame w₀ s₀ s) (hw₀ : 35184372088832 ||| w₀ = w₀) :
    Frame w₀ s₀ (doeDiscoveryOp index s) := by
  refine h₀.trans 35184372088832 ?_ hw₀
  clear h₀ hw₀
  unfold doeDiscoveryOp
  repeat' first
      | with_reducible exact Frame.refl
      | ((with_reducible refine Frame.emit ?_ ?_); on_goal 2 => rfl)

end Sys2Proof.Machine
end

