-- ==== Sys2Proof/Laws/FrMem.lean ====
section
/-! SUPPORT. What each operation of Machine/Mem.lean may change (see Frame.lean). -/

namespace Sys2Proof.Machine

-- One declaration at a time, so that the elaborator holds few threads (each takes stack of its own).
set_option Elab.async false

theorem staleReply_frame {w₀ : Nat} {s₀ : State} {unit : Nat} {s : State} (h₀ : Frame w₀ s₀ s) (hw₀ : 17179869184 ||| w₀ = w₀) :
    Frame w₀ s₀ (staleReply unit s) := by
  refine h₀.trans 17179869184 ?_ hw₀
  clear h₀ hw₀
  unfold staleReply
  repeat' first
      | with_reducible exact Frame.refl
      | ((with_reducible refine State.hrEvent_frame ?_ ?_); on_goal 2 => rfl)
      | ((with_reducible refine Frame.updHrSoft (f := _) ?_ ?_ ?_); (on_goal 1 => (intro _; unfold Hr.rest; rfl)); on_goal 2 => rfl)

theorem mpPump_frame {w₀ : Nat} {s₀ : State} {port : Nat} {s : State} (h₀ : Frame w₀ s₀ s) (hw₀ : 35184372088840 ||| w₀ = w₀) :
    Frame w₀ s₀ (mpPump port s) := by
  refine h₀.trans 35184372088840 ?_ hw₀
  clear h₀ hw₀
  unfold mpPump
  repeat' first
      | with_reducible assumption
      | with_reducible exact Frame.refl
      | ((first | intro x | (lift_lets -underBinder; intro x)); first
      | (refine Frame.cut (w := 35184372088840) (s := s) (x := x) ?_ fun _ => ?_; (on_goal 1 => try dsimp only [x]); (on_goal 2 => clear_value x)))
      | ((with_reducible refine Frame.setMp ?_ ?_); on_goal 2 => rfl)
      | ((with_reducible refine Frame.emit ?_ ?_); on_goal 2 => rfl)
      | with_reducible refine Frame.ite ?_ ?_
      | split

theorem mpIssue_frame {w₀ : Nat} {s₀ : State} {we : Bool} {pa : Nat} {lines : Nat} {be : Nat} {data : Bytes} {hall : Nat} {o : Owner} {unit : Nat} {n : Nat} {s : State} (h₀ : Frame w₀ s₀ s) (hw₀ : 35184372088856 ||| w₀ = w₀) :
    Frame w₀ s₀ (mpIssue we pa lines be data hall o unit n s) := by
  refine h₀.trans 35184372088856 ?_ hw₀
  clear h₀ hw₀
  unfold mpIssue
  repeat' first
      | with_reducible exact Frame.refl
      | ((first | intro x | (lift_lets -underBinder; intro x)); first
      | clear_value x)
      | ((with_reducible refine mpPump_frame ?_ ?_); on_goal 2 => rfl)
      | ((with_reducible refine Frame.setMp ?_ ?_); on_goal 2 => rfl)
      | ((with_reducible refine Frame.setMpNext ?_ ?_); on_goal 2 => rfl)

theorem mpRead_frame {w₀ : Nat} {s₀ : State} {pa : Nat} {hall : Nat} {o : Owner} {unit : Nat} {n : Nat} {s : State} (h₀ : Frame w₀ s₀ s) (hw₀ : 35184372088856 ||| w₀ = w₀) :
    Frame w₀ s₀ (mpRead pa hall o unit n s) := by
  refine h₀.trans 35184372088856 ?_ hw₀
  clear h₀ hw₀
  unfold mpRead
  repeat' first
      | with_reducible exact Frame.refl
      | ((with_reducible refine mpIssue_frame ?_ ?_); on_goal 2 => rfl)

theorem mpReadTwo_frame {w₀ : Nat} {s₀ : State} {pa : Nat} {hall : Nat} {o : Owner} {unit : Nat} {n : Nat} {s : State} (h₀ : Frame w₀ s₀ s) (hw₀ : 35184372088856 ||| w₀ = w₀) :
    Frame w₀ s₀ (mpReadTwo pa hall o unit n s) := by
  refine h₀.trans 35184372088856 ?_ hw₀
  clear h₀ hw₀
  unfold mpReadTwo
  repeat' first
      | with_reducible exact Frame.refl
      | ((with_reducible refine mpIssue_frame ?_ ?_); on_goal 2 => rfl)

theorem mpWrite_frame {w₀ : Nat} {s₀ : State} {pa : Nat} {data : Bytes} {hall : Nat} {o : Owner} {unit : Nat} {n : Nat} {s : State} (h₀ : Frame w₀ s₀ s) (hw₀ : 35184372088856 ||| w₀ = w₀) :
    Frame w₀ s₀ (mpWrite pa data hall o unit n s) := by
  refine h₀.trans 35184372088856 ?_ hw₀
  clear h₀ hw₀
  unfold mpWrite
  repeat' first
      | with_reducible exact Frame.refl
      | ((with_reducible refine mpIssue_frame ?_ ?_); on_goal 2 => rfl)

theorem mpWriteBe_frame {w₀ : Nat} {s₀ : State} {pa : Nat} {be : Nat} {data : Bytes} {hall : Nat} {o : Owner} {unit : Nat} {n : Nat} {s : State} (h₀ : Frame w₀ s₀ s) (hw₀ : 35184372088856 ||| w₀ = w₀) :
    Frame w₀ s₀ (mpWriteBe pa be data hall o unit n s) := by
  refine h₀.trans 35184372088856 ?_ hw₀
  clear h₀ hw₀
  unfold mpWriteBe
  repeat' first
      | with_reducible exact Frame.refl
      | ((with_reducible refine mpIssue_frame ?_ ?_); on_goal 2 => rfl)

theorem poisonFault_frame {w₀ : Nat} {s₀ : State} {natural : Bool} {src : Nat} {hall : Nat} {pa : Nat} {s : State} (h₀ : Frame w₀ s₀ s) (hw₀ : 73014444032 ||| w₀ = w₀) :
    Frame w₀ s₀ (poisonFault natural src hall pa s) := by
  refine h₀.trans 73014444032 ?_ hw₀
  clear h₀ hw₀
  unfold poisonFault
  repeat' first
      | with_reducible exact Frame.refl
      | ((with_reducible refine reportFault_frame ?_ ?_); on_goal 2 => rfl)
      | with_reducible refine Frame.ite ?_ ?_

theorem mpTake_frame {w₀ : Nat} {s₀ : State} {port : Nat} {tag : Nat} {we : Bool} {err : BitVec 2} {data : Bytes} {s : State} (h₀ : Frame w₀ s₀ s) (hw₀ : 35275640143886 ||| w₀ = w₀) :
    Frame w₀ s₀ (mpTake port tag we err data s).2 := by
  refine h₀.trans 35275640143886 ?_ hw₀
  clear h₀ hw₀
  unfold mpTake
  repeat' first
      | with_reducible assumption
      | with_reducible exact Frame.refl
      | ((first | intro x | (lift_lets -underBinder; intro x)); first
      | (refine Frame.cut (w := 35275640143886) (s := s) (x := x) ?_ fun _ => ?_; (on_goal 1 => try dsimp only [x]); (on_goal 2 => clear_value x))
      | clear_value x)
      | ((with_reducible refine memCorrected_frame ?_ ?_); on_goal 2 => rfl)
      | ((with_reducible refine hallStale_frame ?_ ?_); on_goal 2 => rfl)
      | ((with_reducible refine staleReply_frame ?_ ?_); on_goal 2 => rfl)
      | ((with_reducible refine mpPump_frame ?_ ?_); on_goal 2 => rfl)
      | ((with_reducible refine poisonFault_frame ?_ ?_); on_goal 2 => rfl)
      | ((with_reducible refine Frame.setMp ?_ ?_); on_goal 2 => rfl)
      | ((with_reducible refine Frame.updPins ?_ ?_); on_goal 2 => rfl)
      | with_reducible refine Frame.ite ?_ ?_
      | with_reducible refine Frame.ite2 ?_ ?_
      | split

end Sys2Proof.Machine
end

