-- ==== Sys2Proof/Laws/FrItu.lean ====
section
/-! SUPPORT. What each operation of Machine/Itu.lean may change (see Frame.lean). -/

namespace Sys2Proof.Machine

-- One declaration at a time, so that the elaborator holds few threads (each takes stack of its own).
set_option Elab.async false

theorem tlbFill_frame {w₀ : Nat} {s₀ : State} {hall : Nat} {hgen : Nat} {va : Nat} {l : BitVec 128} {s : State} (h₀ : Frame w₀ s₀ s) (hw₀ : 1073741824 ||| w₀ = w₀) :
    Frame w₀ s₀ (tlbFill hall hgen va l s) := by
  refine h₀.trans 1073741824 ?_ hw₀
  clear h₀ hw₀
  unfold tlbFill
  repeat' first
      | with_reducible exact Frame.refl
      | ((first | intro x | (lift_lets -underBinder; intro x)); first
      | clear_value x)
      | ((with_reducible refine Frame.updItuSoft (f := _) ?_ ?_ ?_); (on_goal 1 => (intro _; unfold Itu.rest; rfl)); on_goal 2 => rfl)

theorem transCount_frame {w₀ : Nat} {s₀ : State} {t : Trans} {s : State} (h₀ : Frame w₀ s₀ s) (hw₀ : 1073741824 ||| w₀ = w₀) :
    Frame w₀ s₀ (transCount t s) := by
  refine h₀.trans 1073741824 ?_ hw₀
  clear h₀ hw₀
  unfold transCount
  repeat' first
      | with_reducible exact Frame.refl
      | ((with_reducible refine State.ituCount_frame ?_ ?_); on_goal 2 => rfl)
      | with_reducible refine Frame.ite ?_ ?_
      | split

theorem ituCorrected_frame {w₀ : Nat} {s₀ : State} {hall : Nat} {va : Nat} {s : State} (h₀ : Frame w₀ s₀ s) (hw₀ : 74088185856 ||| w₀ = w₀) :
    Frame w₀ s₀ (ituCorrected hall va s) := by
  refine h₀.trans 74088185856 ?_ hw₀
  clear h₀ hw₀
  unfold ituCorrected
  repeat' first
      | with_reducible exact Frame.refl
      | ((with_reducible refine State.ituEvent_frame ?_ ?_); on_goal 2 => rfl)
      | ((with_reducible refine reportFault_frame ?_ ?_); on_goal 2 => rfl)
      | with_reducible refine Frame.ite ?_ ?_

theorem walkPoisoned_frame {w₀ : Nat} {s₀ : State} {natural : Bool} {hall : Nat} {va : Nat} {s : State} (h₀ : Frame w₀ s₀ s) (hw₀ : 74088185856 ||| w₀ = w₀) :
    Frame w₀ s₀ (walkPoisoned natural hall va s) := by
  refine h₀.trans 74088185856 ?_ hw₀
  clear h₀ hw₀
  unfold walkPoisoned
  repeat' first
      | with_reducible exact Frame.refl
      | ((with_reducible refine State.ituEvent_frame ?_ ?_); on_goal 2 => rfl)
      | ((with_reducible refine State.ituCount_frame ?_ ?_); on_goal 2 => rfl)
      | ((with_reducible refine reportFault_frame ?_ ?_); on_goal 2 => rfl)

theorem ituChecks_frame {w₀ : Nat} {s₀ : State} {hall : Nat} {va : Nat} {s : State} (h₀ : Frame w₀ s₀ s) (hw₀ : 74088185856 ||| w₀ = w₀) :
    Frame w₀ s₀ (ituChecks hall va s).2 := by
  refine h₀.trans 74088185856 ?_ hw₀
  clear h₀ hw₀
  unfold ituChecks
  repeat' first
      | with_reducible assumption
      | with_reducible exact Frame.refl
      | ((first | intro x | (lift_lets -underBinder; intro x)); first
      | (refine Frame.cut (w := 74088185856) (s := s) (x := x) ?_ fun _ => ?_; (on_goal 1 => try dsimp only [x]); (on_goal 2 => clear_value x)))
      | ((with_reducible refine reportFault_frame ?_ ?_); on_goal 2 => rfl)
      | ((with_reducible refine ituCorrected_frame ?_ ?_); on_goal 2 => rfl)
      | with_reducible refine Frame.ite2 ?_ ?_

theorem translate_frame {w₀ : Nat} {s₀ : State} {hall : Nat} {hgen : Nat} {va : Nat} {n : Need} {s : State} (h₀ : Frame w₀ s₀ s) (hw₀ : 74088185856 ||| w₀ = w₀) :
    Frame w₀ s₀ (translate hall hgen va n s).2 := by
  refine h₀.trans 74088185856 ?_ hw₀
  clear h₀ hw₀
  unfold translate
  repeat' first
      | with_reducible assumption
      | with_reducible exact Frame.refl
      | ((first | intro x | (lift_lets -underBinder; intro x)); first
      | (refine Frame.cut (w := 74088185856) (s := s) (x := x) ?_ fun _ => ?_; (on_goal 1 => try dsimp only [x]); (on_goal 2 => clear_value x))
      | clear_value x)
      | ((with_reducible refine State.ituCount_frame ?_ ?_); on_goal 2 => rfl)
      | ((with_reducible refine tlbFill_frame ?_ ?_); on_goal 2 => rfl)
      | ((with_reducible refine transCount_frame ?_ ?_); on_goal 2 => rfl)
      | ((with_reducible refine walkPoisoned_frame ?_ ?_); on_goal 2 => rfl)
      | ((with_reducible refine ituChecks_frame ?_ ?_); on_goal 2 => rfl)
      | (refine Frame.ofEq ‹_› ?_)
      | with_reducible refine Frame.ite2 ?_ ?_
      | split

theorem ituAnswer_frame {w₀ : Nat} {s₀ : State} {r : ItuReq} {t : Trans} {s : State} (h₀ : Frame w₀ s₀ s) (hw₀ : 35185445830656 ||| w₀ = w₀) :
    Frame w₀ s₀ (ituAnswer r t s) := by
  refine h₀.trans 35185445830656 ?_ hw₀
  clear h₀ hw₀
  unfold ituAnswer
  repeat' first
      | with_reducible assumption
      | with_reducible exact Frame.refl
      | ((first | intro x | (lift_lets -underBinder; intro x)); first
      | (refine Frame.cut (w := 35185445830656) (s := s) (x := x) ?_ fun _ => ?_; (on_goal 1 => try dsimp only [x]); (on_goal 2 => clear_value x)))
      | ((with_reducible refine hallStale_frame ?_ ?_); on_goal 2 => rfl)
      | ((with_reducible refine transCount_frame ?_ ?_); on_goal 2 => rfl)
      | ((with_reducible refine Frame.emit ?_ ?_); on_goal 2 => rfl)
      | split

theorem translationLookupOp_frame {w₀ : Nat} {s₀ : State} {r : ItuReq} {s : State} (h₀ : Frame w₀ s₀ s) (hw₀ : 35260607758336 ||| w₀ = w₀) :
    Frame w₀ s₀ (translationLookupOp r s) := by
  refine h₀.trans 35260607758336 ?_ hw₀
  clear h₀ hw₀
  unfold translationLookupOp
  repeat' first
      | with_reducible exact Frame.refl
      | ((first | intro x | (lift_lets -underBinder; intro x)); first
      | clear_value x)
      | ((with_reducible refine State.ituCount_frame ?_ ?_); on_goal 2 => rfl)
      | ((with_reducible refine ituChecks_frame ?_ ?_); on_goal 2 => rfl)
      | ((with_reducible refine ituAnswer_frame ?_ ?_); on_goal 2 => rfl)
      | ((with_reducible refine Frame.updItu ?_ ?_); on_goal 2 => rfl)
      | (refine Frame.ofEq ‹_› ?_)
      | with_reducible refine Frame.ite ?_ ?_
      | split

theorem walkReadOp_frame {w₀ : Nat} {s₀ : State} {walk : Nat} {err : BitVec 2} {s : State} (h₀ : Frame w₀ s₀ s) (hw₀ : 35260607758336 ||| w₀ = w₀) :
    Frame w₀ s₀ (walkReadOp walk err s) := by
  refine h₀.trans 35260607758336 ?_ hw₀
  clear h₀ hw₀
  unfold walkReadOp
  repeat' first
      | with_reducible assumption
      | with_reducible exact Frame.refl
      | ((first | intro x | (lift_lets -underBinder; intro x)); first
      | (refine Frame.cut (w := 35260607758336) (s := s) (x := x) ?_ fun _ => ?_; (on_goal 1 => try dsimp only [x]); (on_goal 2 => clear_value x))
      | (refine Frame.cutFn (w := 35260607758336) (f := x) ?_ fun _ => ?_; (on_goal 1 => intro s; try dsimp only [x]); (on_goal 2 => clear_value x))
      | clear_value x)
      | ((with_reducible refine State.ituCount_frame ?_ ?_); on_goal 2 => rfl)
      | ((with_reducible refine memCorrected_frame ?_ ?_); on_goal 2 => rfl)
      | ((with_reducible refine tlbFill_frame ?_ ?_); on_goal 2 => rfl)
      | ((with_reducible refine walkPoisoned_frame ?_ ?_); on_goal 2 => rfl)
      | ((with_reducible refine ituAnswer_frame ?_ ?_); on_goal 2 => rfl)
      | ((with_reducible refine Frame.updItu ?_ ?_); on_goal 2 => rfl)
      | ((with_reducible refine Frame.emit ?_ ?_); on_goal 2 => rfl)
      | with_reducible refine Frame.app ‹_› ?_
      | with_reducible refine Frame.ite ?_ ?_
      | split

end Sys2Proof.Machine
end

