-- ==== Sys2Proof/Laws/FrArena.lean ====
section
/-! SUPPORT. What each operation of Machine/Arena.lean may change (see Frame.lean). -/

namespace Sys2Proof.Machine

-- One declaration at a time, so that the elaborator holds few threads (each takes stack of its own).
set_option Elab.async false

theorem placeTable_frame {w₀ : Nat} {s₀ : State} {hall : Nat} {key : Nat} {s : State} (h₀ : Frame w₀ s₀ s) (hw₀ : 17593259786240 ||| w₀ = w₀) :
    Frame w₀ s₀ (placeTable hall key s) := by
  refine h₀.trans 17593259786240 ?_ hw₀
  clear h₀ hw₀
  unfold placeTable
  repeat' first
      | with_reducible exact Frame.refl
      | ((first | intro x | (lift_lets -underBinder; intro x)); first
      | clear_value x)
      | ((with_reducible refine updHall_frame ?_ ?_); on_goal 2 => rfl)
      | ((with_reducible refine Frame.opened ?_ ?_); on_goal 2 => rfl)

theorem arenaWrite_frame {w₀ : Nat} {s₀ : State} {pa : Nat} {data : Bytes} {s : State} (h₀ : Frame w₀ s₀ s) (hw₀ : 35184372088856 ||| w₀ = w₀) :
    Frame w₀ s₀ (arenaWrite pa data s) := by
  refine h₀.trans 35184372088856 ?_ hw₀
  clear h₀ hw₀
  unfold arenaWrite
  repeat' first
      | with_reducible exact Frame.refl
      | ((with_reducible refine mpWrite_frame ?_ ?_); on_goal 2 => rfl)
      | with_reducible refine Frame.ite ?_ ?_

theorem tableLine_frame {w₀ : Nat} {s₀ : State} {hall : Nat} {x : Nat × Nat} {s : State} (h₀ : Frame w₀ s₀ s) (hw₀ : 35184372088856 ||| w₀ = w₀) :
    Frame w₀ s₀ (tableLine hall x s) := by
  refine h₀.trans 35184372088856 ?_ hw₀
  clear h₀ hw₀
  unfold tableLine
  repeat' first
      | with_reducible exact Frame.refl
      | ((first | intro x | (lift_lets -underBinder; intro x)); first
      | clear_value x)
      | ((with_reducible refine arenaWrite_frame ?_ ?_); on_goal 2 => rfl)

theorem setLeaves_frame {w₀ : Nat} {s₀ : State} {hall : Nat} {leaves : Tab (BitVec 128)} {pages : List (Nat × Nat)} {s : State} (h₀ : Frame w₀ s₀ s) (hw₀ : 52777631875096 ||| w₀ = w₀) :
    Frame w₀ s₀ (setLeaves hall leaves pages s) := by
  refine h₀.trans 52777631875096 ?_ hw₀
  clear h₀ hw₀
  unfold setLeaves
  repeat' first
      | with_reducible assumption
      | with_reducible exact Frame.refl
      | ((first | intro x | (lift_lets -underBinder; intro x)); first
      | (refine Frame.cut (w := 52777631875096) (s := s) (x := x) ?_ fun _ => ?_; (on_goal 1 => try dsimp only [x]); (on_goal 2 => clear_value x))
      | clear_value x)
      | ((with_reducible refine updHall_frame ?_ ?_); on_goal 2 => rfl)
      | ((with_reducible refine placeTable_frame ?_ ?_); on_goal 2 => rfl)
      | ((with_reducible refine tableLine_frame ?_ ?_); on_goal 2 => rfl)
      | with_reducible refine Frame.forAll (fun _ s => ?_) _ ?_

theorem grantWrite_frame {w₀ : Nat} {s₀ : State} {first : Nat} {count : Nat} {s : State} (h₀ : Frame w₀ s₀ s) (hw₀ : 35184372088856 ||| w₀ = w₀) :
    Frame w₀ s₀ (grantWrite first count s) := by
  refine h₀.trans 35184372088856 ?_ hw₀
  clear h₀ hw₀
  unfold grantWrite
  repeat' first
      | with_reducible exact Frame.refl
      | ((first | intro x | (lift_lets -underBinder; intro x)); first
      | clear_value x)
      | ((with_reducible refine arenaWrite_frame ?_ ?_); on_goal 2 => rfl)
      | with_reducible refine Frame.forAll (fun _ s => ?_) _ ?_
      | with_reducible refine Frame.ite ?_ ?_

theorem setGranules_frame {w₀ : Nat} {s₀ : State} {l : List Nat} {x : Granule} {s : State} (h₀ : Frame w₀ s₀ s) (hw₀ : 35187593314328 ||| w₀ = w₀) :
    Frame w₀ s₀ (setGranules l x s) := by
  refine h₀.trans 35187593314328 ?_ hw₀
  clear h₀ hw₀
  unfold setGranules
  repeat' first
      | with_reducible exact Frame.refl
      | ((with_reducible refine grantWrite_frame ?_ ?_); on_goal 2 => rfl)
      | ((with_reducible refine Frame.updItu ?_ ?_); on_goal 2 => rfl)
      | with_reducible refine Frame.forAll (fun _ s => ?_) _ ?_

theorem setRun_frame {w₀ : Nat} {s₀ : State} {first : Nat} {count : Nat} {x : Granule} {s : State} (h₀ : Frame w₀ s₀ s) (hw₀ : 35187593314328 ||| w₀ = w₀) :
    Frame w₀ s₀ (setRun first count x s) := by
  refine h₀.trans 35187593314328 ?_ hw₀
  clear h₀ hw₀
  unfold setRun
  repeat' first
      | with_reducible exact Frame.refl
      | ((with_reducible refine grantWrite_frame ?_ ?_); on_goal 2 => rfl)
      | ((with_reducible refine Frame.updItu ?_ ?_); on_goal 2 => rfl)

end Sys2Proof.Machine
end

