-- ==== Sys2Proof/Laws/FrLinkTx.lean ====
section
/-! SUPPORT. What each operation of Machine/LinkTx.lean may change (see Frame.lean). -/

namespace Sys2Proof.Machine

-- One declaration at a time, so that the elaborator holds few threads (each takes stack of its own).
set_option Elab.async false

theorem updTx_frame {w₀ : Nat} {s₀ : State} {i : Nat} {f : TxCtx → TxCtx} {s : State} (h₀ : Frame w₀ s₀ s) (hw₀ : 8192 ||| w₀ = w₀) :
    Frame w₀ s₀ (updTx i f s) := by
  refine h₀.trans 8192 ?_ hw₀
  clear h₀ hw₀
  unfold updTx
  repeat' first
      | with_reducible exact Frame.refl
      | ((with_reducible refine Frame.updLsSoft (f := _) ?_ ?_ ?_); (on_goal 1 => (intro _; unfold Ls.rest; rfl)); on_goal 2 => rfl)

theorem updRx_frame {w₀ : Nat} {s₀ : State} {i : Nat} {f : RxCtx → RxCtx} {s : State} (h₀ : Frame w₀ s₀ s) (hw₀ : 8192 ||| w₀ = w₀) :
    Frame w₀ s₀ (updRx i f s) := by
  refine h₀.trans 8192 ?_ hw₀
  clear h₀ hw₀
  unfold updRx
  repeat' first
      | with_reducible exact Frame.refl
      | ((with_reducible refine Frame.updLsSoft (f := _) ?_ ?_ ?_); (on_goal 1 => (intro _; unfold Ls.rest; rfl)); on_goal 2 => rfl)

theorem updLane_frame {w₀ : Nat} {s₀ : State} {i : Nat} {f : Lane → Lane} {s : State} (h₀ : Frame w₀ s₀ s) (hw₀ : 24576 ||| w₀ = w₀) :
    Frame w₀ s₀ (updLane i f s) := by
  refine h₀.trans 24576 ?_ hw₀
  clear h₀ hw₀
  unfold updLane
  repeat' first
      | with_reducible exact Frame.refl
      | ((with_reducible refine Frame.updLs ?_ ?_); on_goal 2 => rfl)

theorem txPush_frame {w₀ : Nat} {s₀ : State} {i : Nat} {l : List Chunk} {s : State} (h₀ : Frame w₀ s₀ s) (hw₀ : 8192 ||| w₀ = w₀) :
    Frame w₀ s₀ (txPush i l s) := by
  refine h₀.trans 8192 ?_ hw₀
  clear h₀ hw₀
  unfold txPush
  repeat' first
      | with_reducible exact Frame.refl
      | ((with_reducible refine updTx_frame ?_ ?_); on_goal 2 => rfl)

theorem gapFirst_frame {w₀ : Nat} {s₀ : State} {i : Nat} {first : Nat} {last : Nat} {loss : Bool} {s : State} (h₀ : Frame w₀ s₀ s) (hw₀ : 8192 ||| w₀ = w₀) :
    Frame w₀ s₀ (gapFirst i first last loss s) := by
  refine h₀.trans 8192 ?_ hw₀
  clear h₀ hw₀
  unfold gapFirst
  repeat' first
      | with_reducible exact Frame.refl
      | ((with_reducible refine updTx_frame ?_ ?_); on_goal 2 => rfl)

theorem txAbortOpen_frame {w₀ : Nat} {s₀ : State} {i : Nat} {st : Status} {s : State} (h₀ : Frame w₀ s₀ s) (hw₀ : 8192 ||| w₀ = w₀) :
    Frame w₀ s₀ (txAbortOpen i st s).2 := by
  refine h₀.trans 8192 ?_ hw₀
  clear h₀ hw₀
  unfold txAbortOpen
  repeat' first
      | with_reducible assumption
      | with_reducible exact Frame.refl
      | ((first | intro x | (lift_lets -underBinder; intro x)); first
      | (refine Frame.cut (w := 8192) (s := s) (x := x) ?_ fun _ => ?_; (on_goal 1 => try dsimp only [x]); (on_goal 2 => clear_value x))
      | clear_value x)
      | ((with_reducible refine updTx_frame ?_ ?_); on_goal 2 => rfl)
      | ((with_reducible refine gapFirst_frame ?_ ?_); on_goal 2 => rfl)
      | dsimp -zeta only
      | with_reducible refine Frame.ite2 ?_ ?_

theorem dropHead_frame {w₀ : Nat} {s₀ : State} {i : Nat} {st : Status} {s : State} (h₀ : Frame w₀ s₀ s) (hw₀ : 8192 ||| w₀ = w₀) :
    Frame w₀ s₀ (dropHead i st s).2 := by
  refine h₀.trans 8192 ?_ hw₀
  clear h₀ hw₀
  unfold dropHead
  repeat' first
      | with_reducible exact Frame.refl
      | ((first | intro x | (lift_lets -underBinder; intro x)); first
      | clear_value x)
      | ((with_reducible refine updTx_frame ?_ ?_); on_goal 2 => rfl)
      | ((with_reducible refine txAbortOpen_frame ?_ ?_); on_goal 2 => rfl)
      | dsimp -zeta only
      | with_reducible refine Frame.ite2 ?_ ?_
      | split

theorem txWithdraw_frame {w₀ : Nat} {s₀ : State} {i : Nat} {o : Owner} {first : Option Bytes} {s : State} (h₀ : Frame w₀ s₀ s) (hw₀ : 8192 ||| w₀ = w₀) :
    Frame w₀ s₀ (txWithdraw i o first s) := by
  refine h₀.trans 8192 ?_ hw₀
  clear h₀ hw₀
  unfold txWithdraw
  repeat' first
      | with_reducible exact Frame.refl
      | ((first | intro x | (lift_lets -underBinder; intro x)); first
      | clear_value x)
      | ((with_reducible refine updTx_frame ?_ ?_); on_goal 2 => rfl)
      | ((with_reducible refine txAbortOpen_frame ?_ ?_); on_goal 2 => rfl)
      | with_reducible refine Frame.ite ?_ ?_

theorem cacheContext_frame {w₀ : Nat} {s₀ : State} {i : Nat} {s : State} (h₀ : Frame w₀ s₀ s) (hw₀ : 8192 ||| w₀ = w₀) :
    Frame w₀ s₀ (cacheContext i s) := by
  refine h₀.trans 8192 ?_ hw₀
  clear h₀ hw₀
  unfold cacheContext
  repeat' first
      | with_reducible assumption
      | with_reducible exact Frame.refl
      | ((first | intro x | (lift_lets -underBinder; intro x)); first
      | (refine Frame.cut (w := 8192) (s := s) (x := x) ?_ fun _ => ?_; (on_goal 1 => try dsimp only [x]); (on_goal 2 => clear_value x))
      | clear_value x)
      | ((with_reducible refine updTx_frame ?_ ?_); on_goal 2 => rfl)
      | with_reducible refine Frame.ite ?_ ?_
      | split

theorem txTook_frame {w₀ : Nat} {s₀ : State} {i : Nat} {s : State} (h₀ : Frame w₀ s₀ s) (hw₀ : 402653184 ||| w₀ = w₀) :
    Frame w₀ s₀ (txTook s i) := by
  refine h₀.trans 402653184 ?_ hw₀
  clear h₀ hw₀
  unfold txTook
  repeat' first
      | with_reducible exact Frame.refl
      | ((first | intro x | (lift_lets -underBinder; intro x)); first
      | clear_value x)
      | ((with_reducible refine turnTaken_frame ?_ ?_); on_goal 2 => rfl)
      | with_reducible refine Frame.ite ?_ ?_

theorem txPresent_frame {w₀ : Nat} {s₀ : State} {i : Nat} {k : Chunk} {rest : List Chunk} {key : BitVec 256} {mismatch : Bool} {s : State} (h₀ : Frame w₀ s₀ s) (hw₀ : 5771386880 ||| w₀ = w₀) :
    Frame w₀ s₀ (txPresent i k rest key mismatch s) := by
  refine h₀.trans 5771386880 ?_ hw₀
  clear h₀ hw₀
  unfold txPresent
  repeat' first
      | with_reducible assumption
      | with_reducible exact Frame.refl
      | ((first | intro x | (lift_lets -underBinder; intro x)); first
      | (refine Frame.cut (w := 5771386880) (s := s) (x := x) ?_ fun _ => ?_; (on_goal 1 => try dsimp only [x]); (on_goal 2 => clear_value x))
      | clear_value x)
      | ((with_reducible refine injFired_frame ?_ ?_); on_goal 2 => rfl)
      | ((with_reducible refine charge_frame ?_ ?_); on_goal 2 => rfl)
      | ((with_reducible refine updTx_frame ?_ ?_); on_goal 2 => rfl)
      | ((with_reducible refine updLane_frame ?_ ?_); on_goal 2 => rfl)
      | ((with_reducible refine txTook_frame ?_ ?_); on_goal 2 => rfl)
      | ((with_reducible refine Frame.updLs ?_ ?_); on_goal 2 => rfl)
      | with_reducible refine Frame.ite ?_ ?_

theorem sealKey_frame {w₀ : Nat} {s₀ : State} {control : Bool} {l : Lookup} {s : State} (h₀ : Frame w₀ s₀ s) (hw₀ : 73014476864 ||| w₀ = w₀) :
    Frame w₀ s₀ (sealKey control l s).2 := by
  refine h₀.trans 73014476864 ?_ hw₀
  clear h₀ hw₀
  unfold sealKey
  repeat' first
      | with_reducible exact Frame.refl
      | ((with_reducible refine keyFor_frame ?_ ?_); on_goal 2 => rfl)
      | (refine Frame.ofEq ‹_› ?_)
      | with_reducible refine Frame.ite2 ?_ ?_
      | split

theorem offerAgain_frame {w₀ : Nat} {s₀ : State} {f : Presented} {s : State} (h₀ : Frame w₀ s₀ s) (hw₀ : 8192 ||| w₀ = w₀) :
    Frame w₀ s₀ (offerAgain f s) := by
  refine h₀.trans 8192 ?_ hw₀
  clear h₀ hw₀
  unfold offerAgain
  repeat' first
      | with_reducible exact Frame.refl
      | ((first | intro x | (lift_lets -underBinder; intro x)); first
      | clear_value x)
      | ((with_reducible refine updTx_frame ?_ ?_); on_goal 2 => rfl)
      | with_reducible refine Frame.ite ?_ ?_

theorem txExhausted_frame {w₀ : Nat} {s₀ : State} {i : Nat} {k : Chunk} {s : State} (h₀ : Frame w₀ s₀ s) (hw₀ : 8192 ||| w₀ = w₀) :
    Frame w₀ s₀ (txExhausted i k s).2 := by
  refine h₀.trans 8192 ?_ hw₀
  clear h₀ hw₀
  unfold txExhausted
  repeat' first
      | with_reducible assumption
      | with_reducible exact Frame.refl
      | ((first | intro x | (lift_lets -underBinder; intro x)); first
      | (refine Frame.cut (w := 8192) (s := s) (x := x) ?_ fun _ => ?_; (on_goal 1 => try dsimp only [x]); (on_goal 2 => clear_value x))
      | (refine Frame.cutFn (w := 8192) (f := x) ?_ fun _ => ?_; (on_goal 1 => intro s; try dsimp only [x]); (on_goal 2 => clear_value x))
      | clear_value x)
      | ((with_reducible refine txCount_frame ?_ ?_); on_goal 2 => rfl)
      | ((with_reducible refine updTx_frame ?_ ?_); on_goal 2 => rfl)
      | ((with_reducible refine dropHead_frame ?_ ?_); on_goal 2 => rfl)
      | dsimp -zeta only
      | with_reducible refine Frame.app ‹_› ?_
      | with_reducible refine Frame.ite ?_ ?_
      | with_reducible refine Frame.ite2 ?_ ?_

theorem txSealOp_frame {w₀ : Nat} {s₀ : State} {i : Nat} {mismatch : Bool} {s : State} (h₀ : Frame w₀ s₀ s) (hw₀ : 74490896448 ||| w₀ = w₀) :
    Frame w₀ s₀ (txSealOp i mismatch s).2 := by
  refine h₀.trans 74490896448 ?_ hw₀
  clear h₀ hw₀
  unfold txSealOp
  repeat' first
      | with_reducible assumption
      | with_reducible exact Frame.refl
      | ((first | intro x | (lift_lets -underBinder; intro x)); first
      | (refine Frame.cut (w := 74490896448) (s := s) (x := x) ?_ fun _ => ?_; (on_goal 1 => try dsimp only [x]); (on_goal 2 => clear_value x))
      | clear_value x)
      | ((with_reducible refine raiseFault_frame ?_ ?_); on_goal 2 => rfl)
      | ((with_reducible refine reportFault_frame ?_ ?_); on_goal 2 => rfl)
      | ((with_reducible refine hallStale_frame ?_ ?_); on_goal 2 => rfl)
      | ((with_reducible refine updTx_frame ?_ ?_); on_goal 2 => rfl)
      | ((with_reducible refine dropHead_frame ?_ ?_); on_goal 2 => rfl)
      | ((with_reducible refine cacheContext_frame ?_ ?_); on_goal 2 => rfl)
      | ((with_reducible refine txPresent_frame ?_ ?_); on_goal 2 => rfl)
      | ((with_reducible refine sealKey_frame ?_ ?_); on_goal 2 => rfl)
      | ((with_reducible refine txExhausted_frame ?_ ?_); on_goal 2 => rfl)
      | (refine Frame.ofEq ‹_› ?_)
      | with_reducible refine Frame.ite2 ?_ ?_
      | split

theorem frameSentOp_frame {w₀ : Nat} {s₀ : State} {lane : Nat} {s : State} (h₀ : Frame w₀ s₀ s) (hw₀ : 35184372113472 ||| w₀ = w₀) :
    Frame w₀ s₀ (frameSentOp lane s).2 := by
  refine h₀.trans 35184372113472 ?_ hw₀
  clear h₀ hw₀
  unfold frameSentOp
  repeat' first
      | with_reducible assumption
      | with_reducible exact Frame.refl
      | ((first | intro x | (lift_lets -underBinder; intro x)); first
      | (refine Frame.cut (w := 35184372113472) (s := s) (x := x) ?_ fun _ => ?_; (on_goal 1 => try dsimp only [x]); (on_goal 2 => clear_value x))
      | clear_value x)
      | ((with_reducible refine txCount_frame ?_ ?_); on_goal 2 => rfl)
      | ((with_reducible refine retireHandle_frame ?_ ?_); on_goal 2 => rfl)
      | ((with_reducible refine updTx_frame ?_ ?_); on_goal 2 => rfl)
      | ((with_reducible refine updLane_frame ?_ ?_); on_goal 2 => rfl)
      | ((with_reducible refine offerAgain_frame ?_ ?_); on_goal 2 => rfl)
      | ((with_reducible refine Frame.updLs ?_ ?_); on_goal 2 => rfl)
      | ((with_reducible refine Frame.emit ?_ ?_); on_goal 2 => rfl)
      | dsimp -zeta only
      | with_reducible refine Frame.ite ?_ ?_
      | with_reducible refine Frame.ite2 ?_ ?_
      | split

theorem voidOut_frame {w₀ : Nat} {s₀ : State} {lane : Nat} {s : State} (h₀ : Frame w₀ s₀ s) (hw₀ : 35184372113408 ||| w₀ = w₀) :
    Frame w₀ s₀ (voidOut lane s) := by
  refine h₀.trans 35184372113408 ?_ hw₀
  clear h₀ hw₀
  unfold voidOut
  repeat' first
      | with_reducible assumption
      | with_reducible exact Frame.refl
      | ((first | intro x | (lift_lets -underBinder; intro x)); first
      | (refine Frame.cut (w := 35184372113408) (s := s) (x := x) ?_ fun _ => ?_; (on_goal 1 => try dsimp only [x]); (on_goal 2 => clear_value x))
      | clear_value x)
      | ((with_reducible refine txCount_frame ?_ ?_); on_goal 2 => rfl)
      | ((with_reducible refine updLane_frame ?_ ?_); on_goal 2 => rfl)
      | ((with_reducible refine offerAgain_frame ?_ ?_); on_goal 2 => rfl)
      | ((with_reducible refine Frame.emit ?_ ?_); on_goal 2 => rfl)
      | with_reducible refine Frame.forAll (fun _ s => ?_) _ ?_
      | with_reducible refine Frame.ite ?_ ?_

theorem resumeAtMark_frame {w₀ : Nat} {s₀ : State} {i : Nat} {s : State} (h₀ : Frame w₀ s₀ s) (hw₀ : 8192 ||| w₀ = w₀) :
    Frame w₀ s₀ (resumeAtMark i s) := by
  refine h₀.trans 8192 ?_ hw₀
  clear h₀ hw₀
  unfold resumeAtMark
  repeat' first
      | with_reducible assumption
      | with_reducible exact Frame.refl
      | ((first | intro x | (lift_lets -underBinder; intro x)); first
      | (refine Frame.cut (w := 8192) (s := s) (x := x) ?_ fun _ => ?_; (on_goal 1 => try dsimp only [x]); (on_goal 2 => clear_value x))
      | clear_value x)
      | ((with_reducible refine updTx_frame ?_ ?_); on_goal 2 => rfl)
      | ((with_reducible refine gapFirst_frame ?_ ?_); on_goal 2 => rfl)
      | with_reducible refine Frame.ite ?_ ?_

theorem txBreak_frame {w₀ : Nat} {s₀ : State} {i : Nat} {st : Status} {s : State} (h₀ : Frame w₀ s₀ s) (hw₀ : 24576 ||| w₀ = w₀) :
    Frame w₀ s₀ (txBreak i st s).2 := by
  refine h₀.trans 24576 ?_ hw₀
  clear h₀ hw₀
  unfold txBreak
  repeat' first
      | with_reducible exact Frame.refl
      | ((first | intro x | (lift_lets -underBinder; intro x)); first
      | clear_value x)
      | ((with_reducible refine State.lsEvent_frame ?_ ?_); on_goal 2 => rfl)
      | ((with_reducible refine updTx_frame ?_ ?_); on_goal 2 => rfl)

theorem eachAns_frame {w₀ : Nat} {s₀ : State} {l : List Nat} {f : Nat → State → List Ans × State} {s : State} (hf : ∀ a0 u, Frame w₀ u (f a0 u).2) (h₀ : Frame w₀ s₀ s) (hw₀ : 0 ||| w₀ = w₀) :
    Frame w₀ s₀ (eachAns l f s).2 := by
  unfold eachAns
  repeat' first
      | with_reducible assumption
      | with_reducible exact Frame.refl
      | with_reducible refine Frame.foldl (fun _ _ => ?_) _ ?_
      | with_reducible refine Frame.trans w₀ ?_ (hf _ _) (Nat.or_self w₀)

theorem txFailoverOp_frame {w₀ : Nat} {s₀ : State} {p : Nat} {s : State} (h₀ : Frame w₀ s₀ s) (hw₀ : 35257386557504 ||| w₀ = w₀) :
    Frame w₀ s₀ (txFailoverOp p s).2 := by
  refine h₀.trans 35257386557504 ?_ hw₀
  clear h₀ hw₀
  unfold txFailoverOp
  repeat' first
      | with_reducible assumption
      | with_reducible exact Frame.refl
      | ((first | intro x | (lift_lets -underBinder; intro x)); first
      | (refine Frame.cut (w := 35257386557504) (s := s) (x := x) ?_ fun _ => ?_; (on_goal 1 => try dsimp only [x]); (on_goal 2 => clear_value x))
      | clear_value x)
      | ((with_reducible refine State.lsEvent_frame ?_ ?_); on_goal 2 => rfl)
      | ((with_reducible refine raiseFault_frame ?_ ?_); on_goal 2 => rfl)
      | ((with_reducible refine reportFault_frame ?_ ?_); on_goal 2 => rfl)
      | ((with_reducible refine forfeitLease_frame ?_ ?_); on_goal 2 => rfl)
      | ((with_reducible refine voidOut_frame ?_ ?_); on_goal 2 => rfl)
      | ((with_reducible refine resumeAtMark_frame ?_ ?_); on_goal 2 => rfl)
      | ((with_reducible refine txBreak_frame ?_ ?_); on_goal 2 => rfl)
      | ((with_reducible refine eachAns_frame (fun _ s => ?_) ?_ ?_); on_goal 3 => rfl)
      | ((with_reducible refine Frame.updLs ?_ ?_); on_goal 2 => rfl)
      | with_reducible refine Frame.forAll (fun _ s => ?_) _ ?_
      | with_reducible refine Frame.ite ?_ ?_
      | with_reducible refine Frame.ite2 ?_ ?_
      | split

theorem txMove_frame {w₀ : Nat} {s₀ : State} {i : Nat} {voided : List Chunk} {s : State} (h₀ : Frame w₀ s₀ s) (hw₀ : 24576 ||| w₀ = w₀) :
    Frame w₀ s₀ (txMove i voided s).2 := by
  refine h₀.trans 24576 ?_ hw₀
  clear h₀ hw₀
  unfold txMove
  repeat' first
      | with_reducible exact Frame.refl
      | ((first | intro x | (lift_lets -underBinder; intro x)); first
      | clear_value x)
      | ((with_reducible refine State.lsEvent_frame ?_ ?_); on_goal 2 => rfl)
      | ((with_reducible refine txCount_frame ?_ ?_); on_goal 2 => rfl)
      | ((with_reducible refine updTx_frame ?_ ?_); on_goal 2 => rfl)
      | ((with_reducible refine gapFirst_frame ?_ ?_); on_goal 2 => rfl)

theorem txLaneLost_frame {w₀ : Nat} {s₀ : State} {i : Nat} {voided : List (Nat × Chunk)} {s : State} (h₀ : Frame w₀ s₀ s) (hw₀ : 24576 ||| w₀ = w₀) :
    Frame w₀ s₀ (txLaneLost i voided s).2 := by
  refine h₀.trans 24576 ?_ hw₀
  clear h₀ hw₀
  unfold txLaneLost
  repeat' first
      | with_reducible exact Frame.refl
      | ((first | intro x | (lift_lets -underBinder; intro x)); first
      | clear_value x)
      | ((with_reducible refine txBreak_frame ?_ ?_); on_goal 2 => rfl)
      | ((with_reducible refine txMove_frame ?_ ?_); on_goal 2 => rfl)
      | dsimp -zeta only
      | with_reducible refine Frame.ite2 ?_ ?_
      | split

theorem txLaneFall_frame {w₀ : Nat} {s₀ : State} {lane : Nat} {s : State} (h₀ : Frame w₀ s₀ s) (hw₀ : 24576 ||| w₀ = w₀) :
    Frame w₀ s₀ (txLaneFall lane s).2 := by
  refine h₀.trans 24576 ?_ hw₀
  clear h₀ hw₀
  unfold txLaneFall
  repeat' first
      | with_reducible assumption
      | with_reducible exact Frame.refl
      | ((first | intro x | (lift_lets -underBinder; intro x)); first
      | (refine Frame.cut (w := 24576) (s := s) (x := x) ?_ fun _ => ?_; (on_goal 1 => try dsimp only [x]); (on_goal 2 => clear_value x))
      | clear_value x)
      | ((with_reducible refine txCount_frame ?_ ?_); on_goal 2 => rfl)
      | ((with_reducible refine updLane_frame ?_ ?_); on_goal 2 => rfl)
      | ((with_reducible refine eachAns_frame (fun _ s => ?_) ?_ ?_); on_goal 3 => rfl)
      | ((with_reducible refine txLaneLost_frame ?_ ?_); on_goal 2 => rfl)
      | with_reducible refine Frame.ite ?_ ?_

theorem enterResync_frame {w₀ : Nat} {s₀ : State} {i : Nat} {st : Status} {s : State} (h₀ : Frame w₀ s₀ s) (hw₀ : 8192 ||| w₀ = w₀) :
    Frame w₀ s₀ (enterResync i st s).2 := by
  refine h₀.trans 8192 ?_ hw₀
  clear h₀ hw₀
  unfold enterResync
  repeat' first
      | with_reducible exact Frame.refl
      | ((first | intro x | (lift_lets -underBinder; intro x)); first
      | clear_value x)
      | ((with_reducible refine updTx_frame ?_ ?_); on_goal 2 => rfl)
      | with_reducible refine Frame.ite2 ?_ ?_

theorem switchInstantOp_frame {w₀ : Nat} {s₀ : State} {i : Nat} {s : State} (h₀ : Frame w₀ s₀ s) (hw₀ : 24576 ||| w₀ = w₀) :
    Frame w₀ s₀ (switchInstantOp i s) := by
  refine h₀.trans 24576 ?_ hw₀
  clear h₀ hw₀
  unfold switchInstantOp
  repeat' first
      | with_reducible assumption
      | with_reducible exact Frame.refl
      | ((first | intro x | (lift_lets -underBinder; intro x)); first
      | (refine Frame.cut (w := 24576) (s := s) (x := x) ?_ fun _ => ?_; (on_goal 1 => try dsimp only [x]); (on_goal 2 => clear_value x))
      | clear_value x)
      | ((with_reducible refine updTx_frame ?_ ?_); on_goal 2 => rfl)
      | ((with_reducible refine Frame.updLs ?_ ?_); on_goal 2 => rfl)
      | with_reducible refine Frame.ite ?_ ?_
      | split

end Sys2Proof.Machine
end

