-- ==== Sys2Proof/Laws/FrTree.lean ====
section
/-! SUPPORT. What each operation of Machine/Tree.lean may change (see Frame.lean). -/

namespace Sys2Proof.Machine

-- One declaration at a time, so that the elaborator holds few threads (each takes stack of its own).
set_option Elab.async false

theorem updRegion_frame {w₀ : Nat} {s₀ : State} {r : Nat} {f : Region → Region} {s : State} (h₀ : Frame w₀ s₀ s) (hw₀ : 32768 ||| w₀ = w₀) :
    Frame w₀ s₀ (updRegion r f s) := by
  refine h₀.trans 32768 ?_ hw₀
  clear h₀ hw₀
  unfold updRegion
  repeat' first
      | with_reducible exact Frame.refl
      | ((with_reducible refine Frame.updLnSoft (f := _) ?_ ?_ ?_); (on_goal 1 => (intro _; unfold Ln.rest; rfl)); on_goal 2 => rfl)

theorem updTree_frame {w₀ : Nat} {s₀ : State} {r : Nat} {f : Tree → Tree} {s : State} (h₀ : Frame w₀ s₀ s) (hw₀ : 131072 ||| w₀ = w₀) :
    Frame w₀ s₀ (updTree r f s) := by
  refine h₀.trans 131072 ?_ hw₀
  clear h₀ hw₀
  unfold updTree
  repeat' first
      | with_reducible exact Frame.refl
      | ((with_reducible refine Frame.updTrSoft (f := _) ?_ ?_ ?_); (on_goal 1 => (intro _; unfold Tr.rest; rfl)); on_goal 2 => rfl)

theorem updNode_frame {w₀ : Nat} {s₀ : State} {r : Nat} {l : Nat} {j : Nat} {f : Node → Node} {s : State} (h₀ : Frame w₀ s₀ s) (hw₀ : 131072 ||| w₀ = w₀) :
    Frame w₀ s₀ (updNode r l j f s) := by
  refine h₀.trans 131072 ?_ hw₀
  clear h₀ hw₀
  unfold updNode
  repeat' first
      | with_reducible exact Frame.refl
      | ((with_reducible refine updTree_frame ?_ ?_); on_goal 2 => rfl)

theorem taint_frame {w₀ : Nat} {s₀ : State} {r : Nat} {s : State} (h₀ : Frame w₀ s₀ s) (hw₀ : 163840 ||| w₀ = w₀) :
    Frame w₀ s₀ (taint r s) := by
  refine h₀.trans 163840 ?_ hw₀
  clear h₀ hw₀
  unfold taint
  repeat' first
      | with_reducible exact Frame.refl
      | ((with_reducible refine updRegion_frame ?_ ?_); on_goal 2 => rfl)
      | ((with_reducible refine updTree_frame ?_ ?_); on_goal 2 => rfl)
      | with_reducible refine Frame.ite ?_ ?_

theorem failNode_frame {w₀ : Nat} {s₀ : State} {r : Nat} {l : Nat} {j : Nat} {cause : Nat} {injected : Bool} {s : State} (h₀ : Frame w₀ s₀ s) (hw₀ : 73014607872 ||| w₀ = w₀) :
    Frame w₀ s₀ (failNode r l j cause injected s) := by
  refine h₀.trans 73014607872 ?_ hw₀
  clear h₀ hw₀
  unfold failNode
  repeat' first
      | with_reducible assumption
      | with_reducible exact Frame.refl
      | ((first | intro x | (lift_lets -underBinder; intro x)); first
      | (refine Frame.cut (w := 73014607872) (s := s) (x := x) ?_ fun _ => ?_; (on_goal 1 => try dsimp only [x]); (on_goal 2 => clear_value x))
      | clear_value x)
      | ((with_reducible refine State.trEvent_frame ?_ ?_); on_goal 2 => rfl)
      | ((with_reducible refine State.trCount_frame ?_ ?_); on_goal 2 => rfl)
      | ((with_reducible refine sendFault_frame ?_ ?_); on_goal 2 => rfl)
      | ((with_reducible refine updTree_frame ?_ ?_); on_goal 2 => rfl)
      | ((with_reducible refine taint_frame ?_ ?_); on_goal 2 => rfl)
      | ((with_reducible refine Frame.updTrSoft (f := _) ?_ ?_ ?_); (on_goal 1 => (intro _; unfold Tr.rest; rfl)); on_goal 2 => rfl)
      | with_reducible refine Frame.ite ?_ ?_

theorem touchNode_frame {w₀ : Nat} {s₀ : State} {r : Nat} {l : Nat} {j : Nat} {s : State} (h₀ : Frame w₀ s₀ s) (hw₀ : 131072 ||| w₀ = w₀) :
    Frame w₀ s₀ (touchNode r l j s) := by
  refine h₀.trans 131072 ?_ hw₀
  clear h₀ hw₀
  unfold touchNode
  repeat' first
      | with_reducible exact Frame.refl
      | ((with_reducible refine Frame.updTrSoft (f := _) ?_ ?_ ?_); (on_goal 1 => (intro _; unfold Tr.rest; rfl)); on_goal 2 => rfl)

theorem toExpander_frame {w₀ : Nat} {s₀ : State} {d : Bytes} {g : Nat} {type : Byte} {payload : Bytes} {hall : Nat} {o : Owner} {s : State} (h₀ : Frame w₀ s₀ s) (hw₀ : 8192 ||| w₀ = w₀) :
    Frame w₀ s₀ (toExpander d g type payload hall o s) := by
  refine h₀.trans 8192 ?_ hw₀
  clear h₀ hw₀
  unfold toExpander
  repeat' first
      | with_reducible exact Frame.refl
      | ((with_reducible refine txPush_frame ?_ ?_); on_goal 2 => rfl)

theorem sendNode_frame {w₀ : Nat} {s₀ : State} {q : NodeReq} {s : State} (h₀ : Frame w₀ s₀ s) (hw₀ : 8192 ||| w₀ = w₀) :
    Frame w₀ s₀ (sendNode q s) := by
  refine h₀.trans 8192 ?_ hw₀
  clear h₀ hw₀
  unfold sendNode
  repeat' first
      | with_reducible exact Frame.refl
      | ((first | intro x | (lift_lets -underBinder; intro x)); first
      | clear_value x)
      | ((with_reducible refine toExpander_frame ?_ ?_); on_goal 2 => rfl)
      | split

theorem eccFails_frame {w₀ : Nat} {s₀ : State} {r : Nat} {l : Nat} {j : Nat} {s : State} (h₀ : Frame w₀ s₀ s) (hw₀ : 73014607872 ||| w₀ = w₀) :
    Frame w₀ s₀ (eccFails r l j s) := by
  refine h₀.trans 73014607872 ?_ hw₀
  clear h₀ hw₀
  unfold eccFails
  repeat' first
      | with_reducible assumption
      | with_reducible exact Frame.refl
      | ((first | intro x | (lift_lets -underBinder; intro x)); first
      | (refine Frame.cut (w := 73014607872) (s := s) (x := x) ?_ fun _ => ?_; (on_goal 1 => try dsimp only [x]); (on_goal 2 => clear_value x)))
      | ((with_reducible refine injFired_frame ?_ ?_); on_goal 2 => rfl)
      | ((with_reducible refine failNode_frame ?_ ?_); on_goal 2 => rfl)
      | with_reducible refine Frame.ite ?_ ?_

theorem nodeLimit_frame {w₀ : Nat} {s₀ : State} {natural : Bool} {r : Nat} {l : Nat} {j : Nat} {s : State} (h₀ : Frame w₀ s₀ s) (hw₀ : 73014607872 ||| w₀ = w₀) :
    Frame w₀ s₀ (nodeLimit natural r l j s) := by
  refine h₀.trans 73014607872 ?_ hw₀
  clear h₀ hw₀
  unfold nodeLimit
  repeat' first
      | with_reducible assumption
      | with_reducible exact Frame.refl
      | ((first | intro x | (lift_lets -underBinder; intro x)); first
      | (refine Frame.cut (w := 73014607872) (s := s) (x := x) ?_ fun _ => ?_; (on_goal 1 => try dsimp only [x]); (on_goal 2 => clear_value x))
      | clear_value x)
      | ((with_reducible refine State.trEvent_frame ?_ ?_); on_goal 2 => rfl)
      | ((with_reducible refine reportFault_frame ?_ ?_); on_goal 2 => rfl)
      | ((with_reducible refine updTree_frame ?_ ?_); on_goal 2 => rfl)
      | ((with_reducible refine updNode_frame ?_ ?_); on_goal 2 => rfl)
      | ((with_reducible refine taint_frame ?_ ?_); on_goal 2 => rfl)

theorem writeBack_frame {w₀ : Nat} {s₀ : State} {r : Nat} {l : Nat} {j : Nat} {s : State} (h₀ : Frame w₀ s₀ s) (hw₀ : 73014616064 ||| w₀ = w₀) :
    Frame w₀ s₀ (writeBack r l j s) := by
  refine h₀.trans 73014616064 ?_ hw₀
  clear h₀ hw₀
  unfold writeBack
  repeat' first
      | with_reducible assumption
      | with_reducible exact Frame.refl
      | ((first | intro x | (lift_lets -underBinder; intro x)); first
      | (refine Frame.cut (w := 73014616064) (s := s) (x := x) ?_ fun _ => ?_; (on_goal 1 => try dsimp only [x]); (on_goal 2 => clear_value x))
      | clear_value x)
      | ((with_reducible refine updTree_frame ?_ ?_); on_goal 2 => rfl)
      | ((with_reducible refine updNode_frame ?_ ?_); on_goal 2 => rfl)
      | ((with_reducible refine touchNode_frame ?_ ?_); on_goal 2 => rfl)
      | ((with_reducible refine sendNode_frame ?_ ?_); on_goal 2 => rfl)
      | ((with_reducible refine eccFails_frame ?_ ?_); on_goal 2 => rfl)
      | ((with_reducible refine nodeLimit_frame ?_ ?_); on_goal 2 => rfl)
      | ((with_reducible refine Frame.updTrSoft (f := _) ?_ ?_ ?_); (on_goal 1 => (intro _; unfold Tr.rest; rfl)); on_goal 2 => rfl)
      | with_reducible refine Frame.ite ?_ ?_
      | split

theorem takeWay_frame {w₀ : Nat} {s₀ : State} {r : Nat} {l : Nat} {j : Nat} {s : State} (h₀ : Frame w₀ s₀ s) (hw₀ : 73014616064 ||| w₀ = w₀) :
    Frame w₀ s₀ (takeWay r l j s).2 := by
  refine h₀.trans 73014616064 ?_ hw₀
  clear h₀ hw₀
  unfold takeWay
  repeat' first
      | with_reducible assumption
      | with_reducible exact Frame.refl
      | ((first | intro x | (lift_lets -underBinder; intro x)); first
      | (refine Frame.cut (w := 73014616064) (s := s) (x := x) ?_ fun _ => ?_; (on_goal 1 => try dsimp only [x]); (on_goal 2 => clear_value x))
      | clear_value x)
      | ((with_reducible refine updTree_frame ?_ ?_); on_goal 2 => rfl)
      | ((with_reducible refine writeBack_frame ?_ ?_); on_goal 2 => rfl)
      | ((with_reducible refine Frame.updTrSoft (f := _) ?_ ?_ ?_); (on_goal 1 => (intro _; unfold Tr.rest; rfl)); on_goal 2 => rfl)
      | with_reducible refine Frame.ite2 ?_ ?_
      | split

theorem installNode_frame {w₀ : Nat} {s₀ : State} {r : Nat} {l : Nat} {j : Nat} {c : Tab Nat} {s : State} (h₀ : Frame w₀ s₀ s) (hw₀ : 73014616064 ||| w₀ = w₀) :
    Frame w₀ s₀ (installNode r l j c s).2 := by
  refine h₀.trans 73014616064 ?_ hw₀
  clear h₀ hw₀
  unfold installNode
  repeat' first
      | with_reducible exact Frame.refl
      | ((first | intro x | (lift_lets -underBinder; intro x)); first
      | (refine Frame.cutFn (w := 73014616064) (f := x) ?_ fun _ => ?_; (on_goal 1 => intro s; try dsimp only [x]); (on_goal 2 => clear_value x))
      | clear_value x)
      | ((with_reducible refine updNode_frame ?_ ?_); on_goal 2 => rfl)
      | ((with_reducible refine touchNode_frame ?_ ?_); on_goal 2 => rfl)
      | ((with_reducible refine takeWay_frame ?_ ?_); on_goal 2 => rfl)
      | ((with_reducible refine Frame.updTrSoft (f := _) ?_ ?_ ?_); (on_goal 1 => (intro _; unfold Tr.rest; rfl)); on_goal 2 => rfl)
      | (refine Frame.ofEq ‹_› ?_)
      | dsimp -zeta only
      | with_reducible refine Frame.app ‹_› ?_
      | with_reducible refine Frame.ite2 ?_ ?_
      | split

theorem fetchGroup_frame {w₀ : Nat} {s₀ : State} {r : Nat} {g : List (Nat × Nat)} {s : State} (h₀ : Frame w₀ s₀ s) (hw₀ : 139264 ||| w₀ = w₀) :
    Frame w₀ s₀ (fetchGroup r g s) := by
  refine h₀.trans 139264 ?_ hw₀
  clear h₀ hw₀
  unfold fetchGroup
  repeat' first
      | with_reducible assumption
      | with_reducible exact Frame.refl
      | ((first | intro x | (lift_lets -underBinder; intro x)); first
      | (refine Frame.cut (w := 139264) (s := s) (x := x) ?_ fun _ => ?_; (on_goal 1 => try dsimp only [x]); (on_goal 2 => clear_value x))
      | clear_value x)
      | ((with_reducible refine toExpander_frame ?_ ?_); on_goal 2 => rfl)
      | ((with_reducible refine Frame.updTrSoft (f := _) ?_ ?_ ?_); (on_goal 1 => (intro _; unfold Tr.rest; rfl)); on_goal 2 => rfl)
      | with_reducible refine Frame.ite ?_ ?_

theorem fetchNodes_frame {w₀ : Nat} {s₀ : State} {r : Nat} {l : List (Nat × Nat)} {s : State} (h₀ : Frame w₀ s₀ s) (hw₀ : 139264 ||| w₀ = w₀) :
    Frame w₀ s₀ (fetchNodes r l s) := by
  refine h₀.trans 139264 ?_ hw₀
  clear h₀ hw₀
  unfold fetchNodes
  repeat' first
      | with_reducible exact Frame.refl
      | ((first | intro x | (lift_lets -underBinder; intro x)); first
      | clear_value x)
      | ((with_reducible refine fetchGroup_frame ?_ ?_); on_goal 2 => rfl)
      | with_reducible refine Frame.forAll (fun _ s => ?_) _ ?_
      | with_reducible refine Frame.ite ?_ ?_

theorem bringPath_frame {w₀ : Nat} {s₀ : State} {r : Nat} {x0 : List (Nat × Nat)} {x1 : State} (h₀ : Frame w₀ s₀ x1) (hw₀ : 73014616064 ||| w₀ = w₀) :
    Frame w₀ s₀ (bringPath r x0 x1).2 := by
  refine h₀.trans 73014616064 ?_ hw₀
  clear h₀ hw₀
  induction x0 generalizing x1 with
  | nil =>
    unfold bringPath
    repeat' first
      | with_reducible exact Frame.refl
  | cons a l ih =>
    unfold bringPath
    repeat' first
      | with_reducible exact Frame.refl
      | ((first | intro x | (lift_lets -underBinder; intro x)); first
      | clear_value x)
      | ((with_reducible refine installNode_frame ?_ ?_); on_goal 2 => rfl)
      | ((with_reducible refine fetchNodes_frame ?_ ?_); on_goal 2 => rfl)
      | (refine Frame.ofEq ‹_› ?_)
      | with_reducible refine Frame.app ‹_› ?_
      | with_reducible refine Frame.ite2 ?_ ?_
      | split

theorem verifyNode_frame {w₀ : Nat} {s₀ : State} {f : Fetched} {s : State} (h₀ : Frame w₀ s₀ s) (hw₀ : 73014616064 ||| w₀ = w₀) :
    Frame w₀ s₀ (verifyNode f s) := by
  refine h₀.trans 73014616064 ?_ hw₀
  clear h₀ hw₀
  unfold verifyNode
  repeat' first
      | with_reducible exact Frame.refl
      | ((first | intro x | (lift_lets -underBinder; intro x)); first
      | (refine Frame.cutFn (w := 73014616064) (f := x) ?_ fun _ => ?_; (on_goal 1 => intro s; try dsimp only [x]); (on_goal 2 => clear_value x))
      | clear_value x)
      | ((with_reducible refine injFired_frame ?_ ?_); on_goal 2 => rfl)
      | ((with_reducible refine failNode_frame ?_ ?_); on_goal 2 => rfl)
      | ((with_reducible refine installNode_frame ?_ ?_); on_goal 2 => rfl)
      | ((with_reducible refine Frame.updTrSoft (f := _) ?_ ?_ ?_); (on_goal 1 => (intro _; unfold Tr.rest; rfl)); on_goal 2 => rfl)
      | (refine Frame.ofEq ‹_› ?_)
      | with_reducible refine Frame.app ‹_› ?_
      | with_reducible refine Frame.ite ?_ ?_
      | split

theorem verifyFetched_frame {w₀ : Nat} {s₀ : State}  {s : State} (h₀ : Frame w₀ s₀ s) (hw₀ : 73014616064 ||| w₀ = w₀) :
    Frame w₀ s₀ (verifyFetched s) := by
  refine h₀.trans 73014616064 ?_ hw₀
  clear h₀ hw₀
  unfold verifyFetched
  repeat' first
      | with_reducible exact Frame.refl
      | ((with_reducible refine verifyNode_frame ?_ ?_); on_goal 2 => rfl)
      | with_reducible refine Frame.forAll (fun _ s => ?_) _ ?_

theorem counterOp_frame {w₀ : Nat} {s₀ : State} {r : Nat} {line : Nat} {inc : Bool} {again : Bool} {s : State} (h₀ : Frame w₀ s₀ s) (hw₀ : 73014616064 ||| w₀ = w₀) :
    Frame w₀ s₀ (counterOp r line inc again s).2 := by
  refine h₀.trans 73014616064 ?_ hw₀
  clear h₀ hw₀
  unfold counterOp
  repeat' first
      | with_reducible assumption
      | with_reducible exact Frame.refl
      | ((first | intro x | (lift_lets -underBinder; intro x)); first
      | (refine Frame.cut (w := 73014616064) (s := s) (x := x) ?_ fun _ => ?_; (on_goal 1 => try dsimp only [x]); (on_goal 2 => clear_value x))
      | clear_value x)
      | ((with_reducible refine State.trEvent_frame ?_ ?_); on_goal 2 => rfl)
      | ((with_reducible refine State.trCount_frame ?_ ?_); on_goal 2 => rfl)
      | ((with_reducible refine injFired_frame ?_ ?_); on_goal 2 => rfl)
      | ((with_reducible refine reportFault_frame ?_ ?_); on_goal 2 => rfl)
      | ((with_reducible refine updNode_frame ?_ ?_); on_goal 2 => rfl)
      | ((with_reducible refine failNode_frame ?_ ?_); on_goal 2 => rfl)
      | ((with_reducible refine touchNode_frame ?_ ?_); on_goal 2 => rfl)
      | ((with_reducible refine bringPath_frame ?_ ?_); on_goal 2 => rfl)
      | dsimp -zeta only
      | with_reducible refine Frame.ite ?_ ?_
      | with_reducible refine Frame.ite2 ?_ ?_

theorem ctrAnswer_frame {w₀ : Nat} {s₀ : State} {line : Nat} {c : Ctr} {s : State} (h₀ : Frame w₀ s₀ s) (hw₀ : 35184372088832 ||| w₀ = w₀) :
    Frame w₀ s₀ (ctrAnswer line c s) := by
  refine h₀.trans 35184372088832 ?_ hw₀
  clear h₀ hw₀
  unfold ctrAnswer
  repeat' first
      | with_reducible exact Frame.refl
      | ((with_reducible refine Frame.emit ?_ ?_); on_goal 2 => rfl)
      | split

theorem counterRowOp_frame {w₀ : Nat} {s₀ : State} {r : Nat} {line : Nat} {inc : Bool} {again : Bool} {s : State} (h₀ : Frame w₀ s₀ s) (hw₀ : 35257386704896 ||| w₀ = w₀) :
    Frame w₀ s₀ (counterRowOp r line inc again s) := by
  refine h₀.trans 35257386704896 ?_ hw₀
  clear h₀ hw₀
  unfold counterRowOp
  repeat' first
      | with_reducible exact Frame.refl
      | ((first | intro x | (lift_lets -underBinder; intro x)); first
      | clear_value x)
      | ((with_reducible refine counterOp_frame ?_ ?_); on_goal 2 => rfl)
      | ((with_reducible refine ctrAnswer_frame ?_ ?_); on_goal 2 => rfl)
      | ((with_reducible refine Frame.emit ?_ ?_); on_goal 2 => rfl)
      | ((with_reducible refine Frame.updTrSoft (f := _) ?_ ?_ ?_); (on_goal 1 => (intro _; unfold Tr.rest; rfl)); on_goal 2 => rfl)
      | (refine Frame.ofEq ‹_› ?_)
      | with_reducible refine Frame.ite ?_ ?_
      | split

theorem lineStray_frame {w₀ : Nat} {s₀ : State} {natural : Bool} {pipe : Nat} {s : State} (h₀ : Frame w₀ s₀ s) (hw₀ : 73014476800 ||| w₀ = w₀) :
    Frame w₀ s₀ (lineStray natural pipe s) := by
  refine h₀.trans 73014476800 ?_ hw₀
  clear h₀ hw₀
  unfold lineStray
  repeat' first
      | with_reducible exact Frame.refl
      | ((with_reducible refine State.lnEvent_frame ?_ ?_); on_goal 2 => rfl)
      | ((with_reducible refine State.lnCount_frame ?_ ?_); on_goal 2 => rfl)
      | ((with_reducible refine reportFault_frame ?_ ?_); on_goal 2 => rfl)

theorem writeBackDone_frame {w₀ : Nat} {s₀ : State} {q : NodeReq} {good : Bool} {s : State} (h₀ : Frame w₀ s₀ s) (hw₀ : 73014616064 ||| w₀ = w₀) :
    Frame w₀ s₀ (writeBackDone q good s) := by
  refine h₀.trans 73014616064 ?_ hw₀
  clear h₀ hw₀
  unfold writeBackDone
  repeat' first
      | with_reducible assumption
      | with_reducible exact Frame.refl
      | ((first | intro x | (lift_lets -underBinder; intro x)); first
      | (refine Frame.cut (w := 73014616064) (s := s) (x := x) ?_ fun _ => ?_; (on_goal 1 => try dsimp only [x]); (on_goal 2 => clear_value x))
      | (refine Frame.cutFn (w := 73014616064) (f := x) ?_ fun _ => ?_; (on_goal 1 => intro s; try dsimp only [x]); (on_goal 2 => clear_value x))
      | clear_value x)
      | ((with_reducible refine State.trCount_frame ?_ ?_); on_goal 2 => rfl)
      | ((with_reducible refine updNode_frame ?_ ?_); on_goal 2 => rfl)
      | ((with_reducible refine failNode_frame ?_ ?_); on_goal 2 => rfl)
      | ((with_reducible refine sendNode_frame ?_ ?_); on_goal 2 => rfl)
      | ((with_reducible refine Frame.updTrSoft (f := _) ?_ ?_ ?_); (on_goal 1 => (intro _; unfold Tr.rest; rfl)); on_goal 2 => rfl)
      | with_reducible refine Frame.app ‹_› ?_
      | with_reducible refine Frame.ite ?_ ?_
      | split

theorem fetchDone_frame {w₀ : Nat} {s₀ : State} {q : NodeReq} {p : Bytes} {s : State} (h₀ : Frame w₀ s₀ s) (hw₀ : 131072 ||| w₀ = w₀) :
    Frame w₀ s₀ (fetchDone q p s) := by
  refine h₀.trans 131072 ?_ hw₀
  clear h₀ hw₀
  unfold fetchDone
  repeat' first
      | with_reducible assumption
      | with_reducible exact Frame.refl
      | ((first | intro x | (lift_lets -underBinder; intro x)); first
      | (refine Frame.cut (w := 131072) (s := s) (x := x) ?_ fun _ => ?_; (on_goal 1 => try dsimp only [x]); (on_goal 2 => clear_value x))
      | clear_value x)
      | ((with_reducible refine State.trCount_frame ?_ ?_); on_goal 2 => rfl)
      | ((with_reducible refine Frame.updTrSoft (f := _) ?_ ?_ ?_); (on_goal 1 => (intro _; unfold Tr.rest; rfl)); on_goal 2 => rfl)
      | with_reducible refine Frame.forAll (fun _ s => ?_) _ ?_
      | dsimp -zeta only
      | with_reducible refine Frame.ite ?_ ?_

theorem nodeRspOp_frame {w₀ : Nat} {s₀ : State} {p : Bytes} {s : State} (h₀ : Frame w₀ s₀ s) (hw₀ : 73014616064 ||| w₀ = w₀) :
    Frame w₀ s₀ (nodeRspOp p s) := by
  refine h₀.trans 73014616064 ?_ hw₀
  clear h₀ hw₀
  unfold nodeRspOp
  repeat' first
      | with_reducible exact Frame.refl
      | ((with_reducible refine verifyFetched_frame ?_ ?_); on_goal 2 => rfl)
      | ((with_reducible refine lineStray_frame ?_ ?_); on_goal 2 => rfl)
      | ((with_reducible refine writeBackDone_frame ?_ ?_); on_goal 2 => rfl)
      | ((with_reducible refine fetchDone_frame ?_ ?_); on_goal 2 => rfl)
      | with_reducible refine Frame.ite ?_ ?_
      | split

theorem nodeUnsent_frame {w₀ : Nat} {s₀ : State} {id : Nat} {s : State} (h₀ : Frame w₀ s₀ s) (hw₀ : 131072 ||| w₀ = w₀) :
    Frame w₀ s₀ (nodeUnsent id s) := by
  refine h₀.trans 131072 ?_ hw₀
  clear h₀ hw₀
  unfold nodeUnsent
  repeat' first
      | with_reducible assumption
      | with_reducible exact Frame.refl
      | ((first | intro x | (lift_lets -underBinder; intro x)); first
      | (refine Frame.cut (w := 131072) (s := s) (x := x) ?_ fun _ => ?_; (on_goal 1 => try dsimp only [x]); (on_goal 2 => clear_value x)))
      | ((with_reducible refine updNode_frame ?_ ?_); on_goal 2 => rfl)
      | ((with_reducible refine Frame.updTrSoft (f := _) ?_ ?_ ?_); (on_goal 1 => (intro _; unfold Tr.rest; rfl)); on_goal 2 => rfl)
      | with_reducible refine Frame.forAll (fun _ s => ?_) _ ?_
      | with_reducible refine Frame.ite ?_ ?_
      | split

theorem trFinish_frame {w₀ : Nat} {s₀ : State} {op : Nat} {st : Status} {s : State} (h₀ : Frame w₀ s₀ s) (hw₀ : 131072 ||| w₀ = w₀) :
    Frame w₀ s₀ (trFinish op st s) := by
  refine h₀.trans 131072 ?_ hw₀
  clear h₀ hw₀
  unfold trFinish
  repeat' first
      | with_reducible exact Frame.refl
      | ((with_reducible refine Frame.updTrSoft (f := _) ?_ ?_ ?_); (on_goal 1 => (intro _; unfold Tr.rest; rfl)); on_goal 2 => rfl)

theorem dropTree_frame {w₀ : Nat} {s₀ : State} {r : Nat} {s : State} (h₀ : Frame w₀ s₀ s) (hw₀ : 131072 ||| w₀ = w₀) :
    Frame w₀ s₀ (dropTree r s) := by
  refine h₀.trans 131072 ?_ hw₀
  clear h₀ hw₀
  unfold dropTree
  repeat' first
      | with_reducible exact Frame.refl
      | ((with_reducible refine Frame.updTrSoft (f := _) ?_ ?_ ?_); (on_goal 1 => (intro _; unfold Tr.rest; rfl)); on_goal 2 => rfl)

theorem saveEnd_frame {w₀ : Nat} {s₀ : State} {r : Nat} {s : State} (h₀ : Frame w₀ s₀ s) (hw₀ : 163840 ||| w₀ = w₀) :
    Frame w₀ s₀ (saveEnd r s) := by
  refine h₀.trans 163840 ?_ hw₀
  clear h₀ hw₀
  unfold saveEnd
  repeat' first
      | with_reducible assumption
      | with_reducible exact Frame.refl
      | ((first | intro x | (lift_lets -underBinder; intro x)); first
      | (refine Frame.cut (w := 163840) (s := s) (x := x) ?_ fun _ => ?_; (on_goal 1 => try dsimp only [x]); (on_goal 2 => clear_value x))
      | clear_value x)
      | ((with_reducible refine State.trEvent_frame ?_ ?_); on_goal 2 => rfl)
      | ((with_reducible refine updRegion_frame ?_ ?_); on_goal 2 => rfl)
      | ((with_reducible refine updTree_frame ?_ ?_); on_goal 2 => rfl)
      | ((with_reducible refine trFinish_frame ?_ ?_); on_goal 2 => rfl)
      | ((with_reducible refine dropTree_frame ?_ ?_); on_goal 2 => rfl)
      | ((with_reducible refine Frame.updTrSoft (f := _) ?_ ?_ ?_); (on_goal 1 => (intro _; unfold Tr.rest; rfl)); on_goal 2 => rfl)
      | with_reducible refine Frame.ite ?_ ?_

theorem saveStep_frame {w₀ : Nat} {s₀ : State} {r : Nat} {x0 : Nat} {x1 : State} (h₀ : Frame w₀ s₀ x1) (hw₀ : 73014616064 ||| w₀ = w₀) :
    Frame w₀ s₀ (saveStep r x0 x1) := by
  refine h₀.trans 73014616064 ?_ hw₀
  clear h₀ hw₀
  induction x0 generalizing x1 with
  | zero =>
    unfold saveStep
    repeat' first
      | with_reducible exact Frame.refl
  | succ n ih =>
    unfold saveStep
    repeat' first
      | with_reducible assumption
      | with_reducible exact Frame.refl
      | ((first | intro x | (lift_lets -underBinder; intro x)); first
      | (refine Frame.cut (w := 73014616064) (s := x1) (x := x) ?_ fun _ => ?_; (on_goal 1 => try dsimp only [x]); (on_goal 2 => clear_value x))
      | clear_value x)
      | ((with_reducible refine updTree_frame ?_ ?_); on_goal 2 => rfl)
      | ((with_reducible refine writeBack_frame ?_ ?_); on_goal 2 => rfl)
      | ((with_reducible refine saveEnd_frame ?_ ?_); on_goal 2 => rfl)
      | with_reducible refine Frame.forAll (fun _ x1 => ?_) _ ?_
      | with_reducible refine Frame.app ‹_› ?_
      | with_reducible refine Frame.ite ?_ ?_
      | split

theorem treeKick_frame {w₀ : Nat} {s₀ : State}  {s : State} (h₀ : Frame w₀ s₀ s) (hw₀ : 35257386704896 ||| w₀ = w₀) :
    Frame w₀ s₀ (treeKick s) := by
  refine h₀.trans 35257386704896 ?_ hw₀
  clear h₀ hw₀
  unfold treeKick
  repeat' first
      | with_reducible assumption
      | with_reducible exact Frame.refl
      | ((first | intro x | (lift_lets -underBinder; intro x)); first
      | (refine Frame.cut (w := 35257386704896) (s := s) (x := x) ?_ fun _ => ?_; (on_goal 1 => try dsimp only [x]); (on_goal 2 => clear_value x))
      | clear_value x)
      | ((with_reducible refine verifyFetched_frame ?_ ?_); on_goal 2 => rfl)
      | ((with_reducible refine counterRowOp_frame ?_ ?_); on_goal 2 => rfl)
      | ((with_reducible refine saveStep_frame ?_ ?_); on_goal 2 => rfl)
      | ((with_reducible refine Frame.updTrSoft (f := _) ?_ ?_ ?_); (on_goal 1 => (intro _; unfold Tr.rest; rfl)); on_goal 2 => rfl)
      | with_reducible refine Frame.forAll (fun _ s => ?_) _ ?_

theorem trStart_frame {w₀ : Nat} {s₀ : State} {r : Nat} {keep : Bool} {flush : Bool} {s : State} (h₀ : Frame w₀ s₀ s) (hw₀ : 35257386704896 ||| w₀ = w₀) :
    Frame w₀ s₀ (trStart r keep flush s) := by
  refine h₀.trans 35257386704896 ?_ hw₀
  clear h₀ hw₀
  unfold trStart
  repeat' first
      | with_reducible assumption
      | with_reducible exact Frame.refl
      | ((first | intro x | (lift_lets -underBinder; intro x)); first
      | (refine Frame.cut (w := 35257386704896) (s := s) (x := x) ?_ fun _ => ?_; (on_goal 1 => try dsimp only [x]); (on_goal 2 => clear_value x))
      | clear_value x)
      | ((with_reducible refine updTree_frame ?_ ?_); on_goal 2 => rfl)
      | ((with_reducible refine trFinish_frame ?_ ?_); on_goal 2 => rfl)
      | ((with_reducible refine treeKick_frame ?_ ?_); on_goal 2 => rfl)
      | ((with_reducible refine Frame.updTrSoft (f := _) ?_ ?_ ?_); (on_goal 1 => (intro _; unfold Tr.rest; rfl)); on_goal 2 => rfl)
      | with_reducible refine Frame.ite ?_ ?_

theorem rootLoadOp_frame {w₀ : Nat} {s₀ : State} {r : Nat} {s : State} (h₀ : Frame w₀ s₀ s) (hw₀ : 163840 ||| w₀ = w₀) :
    Frame w₀ s₀ (rootLoadOp r s).2 := by
  refine h₀.trans 163840 ?_ hw₀
  clear h₀ hw₀
  unfold rootLoadOp
  repeat' first
      | with_reducible exact Frame.refl
      | ((first | intro x | (lift_lets -underBinder; intro x)); first
      | clear_value x)
      | ((with_reducible refine State.trEvent_frame ?_ ?_); on_goal 2 => rfl)
      | ((with_reducible refine updRegion_frame ?_ ?_); on_goal 2 => rfl)
      | ((with_reducible refine updTree_frame ?_ ?_); on_goal 2 => rfl)
      | with_reducible refine Frame.ite2 ?_ ?_

theorem rootDropOp_frame {w₀ : Nat} {s₀ : State} {r : Nat} {s : State} (h₀ : Frame w₀ s₀ s) (hw₀ : 163840 ||| w₀ = w₀) :
    Frame w₀ s₀ (rootDropOp r s).2 := by
  refine h₀.trans 163840 ?_ hw₀
  clear h₀ hw₀
  unfold rootDropOp
  repeat' first
      | with_reducible exact Frame.refl
      | ((with_reducible refine updRegion_frame ?_ ?_); on_goal 2 => rfl)
      | ((with_reducible refine dropTree_frame ?_ ?_); on_goal 2 => rfl)
      | with_reducible refine Frame.ite2 ?_ ?_

theorem trCommand_frame {w₀ : Nat} {s₀ : State} {op : Nat} {r : Nat} {keep : Bool} {level : Nat} {s : State} (h₀ : Frame w₀ s₀ s) (hw₀ : 35257386967040 ||| w₀ = w₀) :
    Frame w₀ s₀ (trCommand op r keep level s) := by
  refine h₀.trans 35257386967040 ?_ hw₀
  clear h₀ hw₀
  unfold trCommand
  repeat' first
      | with_reducible assumption
      | with_reducible exact Frame.refl
      | ((first | intro x | (lift_lets -underBinder; intro x)); first
      | (refine Frame.cut (w := 35257386967040) (s := s) (x := x) ?_ fun _ => ?_; (on_goal 1 => try dsimp only [x]); (on_goal 2 => clear_value x))
      | (refine Frame.cut2 (w := 35257386967040) (s := s) (x := x) ?_ fun _ => ?_; (on_goal 1 => try dsimp only [x]); (on_goal 2 => clear_value x)))
      | ((with_reducible refine trFinish_frame ?_ ?_); on_goal 2 => rfl)
      | ((with_reducible refine trStart_frame ?_ ?_); on_goal 2 => rfl)
      | ((with_reducible refine rootLoadOp_frame ?_ ?_); on_goal 2 => rfl)
      | ((with_reducible refine rootDropOp_frame ?_ ?_); on_goal 2 => rfl)
      | ((with_reducible refine Frame.updTrSoft (f := _) ?_ ?_ ?_); (on_goal 1 => (intro _; unfold Tr.rest; rfl)); on_goal 2 => rfl)
      | ((with_reducible refine Frame.updTr ?_ ?_); on_goal 2 => rfl)
      | with_reducible refine Frame.ite ?_ ?_
      | split

end Sys2Proof.Machine
end

