-- ==== Sys2Proof/Laws/FrLine.lean ====
section
/-! SUPPORT. What each operation of Machine/Line.lean may change (see Frame.lean). -/

namespace Sys2Proof.Machine

-- One declaration at a time, so that the elaborator holds few threads (each takes stack of its own).
set_option Elab.async false

theorem sealCount_frame {w₀ : Nat} {s₀ : State} {p : Nat} {n : Nat} {s : State} (h₀ : Frame w₀ s₀ s) (hw₀ : 32768 ||| w₀ = w₀) :
    Frame w₀ s₀ (sealCount p n s) := by
  refine h₀.trans 32768 ?_ hw₀
  clear h₀ hw₀
  unfold sealCount
  repeat' first
      | with_reducible exact Frame.refl
      | ((with_reducible refine State.lnCount_frame ?_ ?_); on_goal 2 => rfl)

theorem unsealCount_frame {w₀ : Nat} {s₀ : State} {p : Nat} {n : Nat} {s : State} (h₀ : Frame w₀ s₀ s) (hw₀ : 32768 ||| w₀ = w₀) :
    Frame w₀ s₀ (unsealCount p n s) := by
  refine h₀.trans 32768 ?_ hw₀
  clear h₀ hw₀
  unfold unsealCount
  repeat' first
      | with_reducible exact Frame.refl
      | ((with_reducible refine State.lnCount_frame ?_ ?_); on_goal 2 => rfl)

theorem lineKeys_frame {w₀ : Nat} {s₀ : State} {unit : Nat} {r : Nat} {seal' : Bool} {ticket : Nat} {s : State} (h₀ : Frame w₀ s₀ s) (hw₀ : 74088218688 ||| w₀ = w₀) :
    Frame w₀ s₀ (lineKeys unit r seal' ticket s).2 := by
  refine h₀.trans 74088218688 ?_ hw₀
  clear h₀ hw₀
  unfold lineKeys
  repeat' first
      | with_reducible exact Frame.refl
      | ((first | intro x | (lift_lets -underBinder; intro x)); first
      | (refine Frame.cutFnP (w := 74088218688) (f := x) ?_ fun _ => ?_; (on_goal 1 => intro _ s; try dsimp only [x]); (on_goal 2 => clear_value x))
      | clear_value x)
      | ((with_reducible refine raiseFault_frame ?_ ?_); on_goal 2 => rfl)
      | ((with_reducible refine reportFault_frame ?_ ?_); on_goal 2 => rfl)
      | ((with_reducible refine hallStale_frame ?_ ?_); on_goal 2 => rfl)
      | ((with_reducible refine keyFor_frame ?_ ?_); on_goal 2 => rfl)
      | (refine Frame.ofEq ‹_› ?_)
      | with_reducible refine Frame.app2 ‹_› ?_
      | with_reducible refine Frame.ite2 ?_ ?_
      | split

theorem updLine_frame {w₀ : Nat} {s₀ : State} {id : Nat} {f : LineReq → LineReq} {s : State} (h₀ : Frame w₀ s₀ s) (hw₀ : 32768 ||| w₀ = w₀) :
    Frame w₀ s₀ (updLine id f s) := by
  refine h₀.trans 32768 ?_ hw₀
  clear h₀ hw₀
  unfold updLine
  repeat' first
      | with_reducible exact Frame.refl
      | ((with_reducible refine Frame.updLnSoft (f := _) ?_ ?_ ?_); (on_goal 1 => (intro _; unfold Ln.rest; rfl)); on_goal 2 => rfl)

theorem dropLine_frame {w₀ : Nat} {s₀ : State} {id : Nat} {s : State} (h₀ : Frame w₀ s₀ s) (hw₀ : 32768 ||| w₀ = w₀) :
    Frame w₀ s₀ (dropLine id s) := by
  refine h₀.trans 32768 ?_ hw₀
  clear h₀ hw₀
  unfold dropLine
  repeat' first
      | with_reducible exact Frame.refl
      | ((with_reducible refine Frame.updLnSoft (f := _) ?_ ?_ ?_); (on_goal 1 => (intro _; unfold Ln.rest; rfl)); on_goal 2 => rfl)

theorem lineEnd_frame {w₀ : Nat} {s₀ : State} {q : LineReq} {st : Status} {data : Bytes} {s : State} (h₀ : Frame w₀ s₀ s) (hw₀ : 18253643776 ||| w₀ = w₀) :
    Frame w₀ s₀ (lineEnd q st data s).2 := by
  refine h₀.trans 18253643776 ?_ hw₀
  clear h₀ hw₀
  unfold lineEnd
  repeat' first
      | with_reducible assumption
      | with_reducible exact Frame.refl
      | ((first | intro x | (lift_lets -underBinder; intro x)); first
      | (refine Frame.cut (w := 18253643776) (s := s) (x := x) ?_ fun _ => ?_; (on_goal 1 => try dsimp only [x]); (on_goal 2 => clear_value x)))
      | ((with_reducible refine hallStale_frame ?_ ?_); on_goal 2 => rfl)
      | ((with_reducible refine staleReply_frame ?_ ?_); on_goal 2 => rfl)
      | ((with_reducible refine dropLine_frame ?_ ?_); on_goal 2 => rfl)
      | with_reducible refine Frame.ite2 ?_ ?_

theorem lineFault_frame {w₀ : Nat} {s₀ : State} {natural : Bool} {src : Nat} {kind : Nat} {q : LineReq} {low : Nat} {s : State} (h₀ : Frame w₀ s₀ s) (hw₀ : 73014444032 ||| w₀ = w₀) :
    Frame w₀ s₀ (lineFault natural src kind q low s) := by
  refine h₀.trans 73014444032 ?_ hw₀
  clear h₀ hw₀
  unfold lineFault
  repeat' first
      | with_reducible exact Frame.refl
      | ((with_reducible refine reportFault_frame ?_ ?_); on_goal 2 => rfl)

theorem partialRefusedBy_frame {w₀ : Nat} {s₀ : State} {natural : Bool} {q : LineReq} {st : Status} {s : State} (h₀ : Frame w₀ s₀ s) (hw₀ : 91268087808 ||| w₀ = w₀) :
    Frame w₀ s₀ (partialRefusedBy natural q st s).2 := by
  refine h₀.trans 91268087808 ?_ hw₀
  clear h₀ hw₀
  unfold partialRefusedBy
  repeat' first
      | with_reducible assumption
      | with_reducible exact Frame.refl
      | ((first | intro x | (lift_lets -underBinder; intro x)); first
      | (refine Frame.cut (w := 91268087808) (s := s) (x := x) ?_ fun _ => ?_; (on_goal 1 => try dsimp only [x]); (on_goal 2 => clear_value x)))
      | ((with_reducible refine State.lnEvent_frame ?_ ?_); on_goal 2 => rfl)
      | ((with_reducible refine sealCount_frame ?_ ?_); on_goal 2 => rfl)
      | ((with_reducible refine lineEnd_frame ?_ ?_); on_goal 2 => rfl)
      | ((with_reducible refine lineFault_frame ?_ ?_); on_goal 2 => rfl)

theorem partialRefused_frame {w₀ : Nat} {s₀ : State} {q : LineReq} {st : Status} {s : State} (h₀ : Frame w₀ s₀ s) (hw₀ : 91268087808 ||| w₀ = w₀) :
    Frame w₀ s₀ (partialRefused q st s).2 := by
  refine h₀.trans 91268087808 ?_ hw₀
  clear h₀ hw₀
  unfold partialRefused
  repeat' first
      | with_reducible exact Frame.refl
      | ((with_reducible refine partialRefusedBy_frame ?_ ?_); on_goal 2 => rfl)

theorem writeRefused_frame {w₀ : Nat} {s₀ : State} {q : LineReq} {st : Status} {s : State} (h₀ : Frame w₀ s₀ s) (hw₀ : 18253643776 ||| w₀ = w₀) :
    Frame w₀ s₀ (writeRefused q st s).2 := by
  refine h₀.trans 18253643776 ?_ hw₀
  clear h₀ hw₀
  unfold writeRefused
  repeat' first
      | with_reducible exact Frame.refl
      | ((with_reducible refine sealCount_frame ?_ ?_); on_goal 2 => rfl)
      | ((with_reducible refine lineEnd_frame ?_ ?_); on_goal 2 => rfl)

theorem readEnd_frame {w₀ : Nat} {s₀ : State} {q : LineReq} {st : Status} {data : Bytes} {s : State} (h₀ : Frame w₀ s₀ s) (hw₀ : 91268087808 ||| w₀ = w₀) :
    Frame w₀ s₀ (readEnd q st data s).2 := by
  refine h₀.trans 91268087808 ?_ hw₀
  clear h₀ hw₀
  unfold readEnd
  repeat' first
      | with_reducible exact Frame.refl
      | ((with_reducible refine lineEnd_frame ?_ ?_); on_goal 2 => rfl)
      | ((with_reducible refine partialRefused_frame ?_ ?_); on_goal 2 => rfl)
      | with_reducible refine Frame.ite2 ?_ ?_

theorem sendWrite_frame {w₀ : Nat} {s₀ : State} {q : LineReq} {ctr : Nat} {dk : BitVec 256} {mk : BitVec 256} {s : State} (h₀ : Frame w₀ s₀ s) (hw₀ : 1208000512 ||| w₀ = w₀) :
    Frame w₀ s₀ (sendWrite q ctr dk mk s) := by
  refine h₀.trans 1208000512 ?_ hw₀
  clear h₀ hw₀
  unfold sendWrite
  repeat' first
      | with_reducible assumption
      | with_reducible exact Frame.refl
      | ((first | intro x | (lift_lets -underBinder; intro x)); first
      | (refine Frame.cut (w := 1208000512) (s := s) (x := x) ?_ fun _ => ?_; (on_goal 1 => try dsimp only [x]); (on_goal 2 => clear_value x))
      | clear_value x)
      | ((with_reducible refine charge_frame ?_ ?_); on_goal 2 => rfl)
      | ((with_reducible refine toExpander_frame ?_ ?_); on_goal 2 => rfl)
      | ((with_reducible refine sealCount_frame ?_ ?_); on_goal 2 => rfl)
      | ((with_reducible refine updLine_frame ?_ ?_); on_goal 2 => rfl)
      | with_reducible refine Frame.ite ?_ ?_

theorem sendRead_frame {w₀ : Nat} {s₀ : State} {q : LineReq} {ctr : Nat} {s : State} (h₀ : Frame w₀ s₀ s) (hw₀ : 40960 ||| w₀ = w₀) :
    Frame w₀ s₀ (sendRead q ctr s) := by
  refine h₀.trans 40960 ?_ hw₀
  clear h₀ hw₀
  unfold sendRead
  repeat' first
      | with_reducible assumption
      | with_reducible exact Frame.refl
      | ((first | intro x | (lift_lets -underBinder; intro x)); first
      | (refine Frame.cut (w := 40960) (s := s) (x := x) ?_ fun _ => ?_; (on_goal 1 => try dsimp only [x]); (on_goal 2 => clear_value x))
      | clear_value x)
      | ((with_reducible refine toExpander_frame ?_ ?_); on_goal 2 => rfl)
      | ((with_reducible refine unsealCount_frame ?_ ?_); on_goal 2 => rfl)
      | ((with_reducible refine updLine_frame ?_ ?_); on_goal 2 => rfl)

theorem lineCtrFull_frame {w₀ : Nat} {s₀ : State} {natural : Bool} {q : LineReq} {s : State} (h₀ : Frame w₀ s₀ s) (hw₀ : 91268087808 ||| w₀ = w₀) :
    Frame w₀ s₀ (lineCtrFull natural q s).2 := by
  refine h₀.trans 91268087808 ?_ hw₀
  clear h₀ hw₀
  unfold lineCtrFull
  repeat' first
      | with_reducible assumption
      | with_reducible exact Frame.refl
      | ((first | intro x | (lift_lets -underBinder; intro x)); first
      | (refine Frame.cut (w := 91268087808) (s := s) (x := x) ?_ fun _ => ?_; (on_goal 1 => try dsimp only [x]); (on_goal 2 => clear_value x)))
      | ((with_reducible refine State.lnEvent_frame ?_ ?_); on_goal 2 => rfl)
      | ((with_reducible refine sealCount_frame ?_ ?_); on_goal 2 => rfl)
      | ((with_reducible refine lineEnd_frame ?_ ?_); on_goal 2 => rfl)
      | ((with_reducible refine lineFault_frame ?_ ?_); on_goal 2 => rfl)

theorem lineCounter_frame {w₀ : Nat} {s₀ : State} {q : LineReq} {s : State} (h₀ : Frame w₀ s₀ s) (hw₀ : 91268227072 ||| w₀ = w₀) :
    Frame w₀ s₀ (lineCounter q s).2 := by
  refine h₀.trans 91268227072 ?_ hw₀
  clear h₀ hw₀
  unfold lineCounter
  repeat' first
      | with_reducible assumption
      | with_reducible exact Frame.refl
      | ((first | intro x | (lift_lets -underBinder; intro x)); first
      | (refine Frame.cut2 (w := 91268227072) (s := s) (x := x) ?_ fun _ => ?_; (on_goal 1 => try dsimp only [x]); (on_goal 2 => clear_value x))
      | clear_value x)
      | ((with_reducible refine State.lnEvent_frame ?_ ?_); on_goal 2 => rfl)
      | ((with_reducible refine counterOp_frame ?_ ?_); on_goal 2 => rfl)
      | ((with_reducible refine unsealCount_frame ?_ ?_); on_goal 2 => rfl)
      | ((with_reducible refine updLine_frame ?_ ?_); on_goal 2 => rfl)
      | ((with_reducible refine lineEnd_frame ?_ ?_); on_goal 2 => rfl)
      | ((with_reducible refine partialRefused_frame ?_ ?_); on_goal 2 => rfl)
      | ((with_reducible refine writeRefused_frame ?_ ?_); on_goal 2 => rfl)
      | ((with_reducible refine readEnd_frame ?_ ?_); on_goal 2 => rfl)
      | ((with_reducible refine lineCtrFull_frame ?_ ?_); on_goal 2 => rfl)
      | (refine Frame.ofEq ‹_› ?_)
      | dsimp -zeta only
      | with_reducible refine Frame.ite ?_ ?_
      | with_reducible refine Frame.ite2 ?_ ?_
      | split

theorem lineUnitFails_frame {w₀ : Nat} {s₀ : State} {src : Nat} {q : LineReq} {s : State} (h₀ : Frame w₀ s₀ s) (hw₀ : 91268087808 ||| w₀ = w₀) :
    Frame w₀ s₀ (lineUnitFails src q s).2 := by
  refine h₀.trans 91268087808 ?_ hw₀
  clear h₀ hw₀
  unfold lineUnitFails
  repeat' first
      | with_reducible exact Frame.refl
      | ((with_reducible refine reportFault_frame ?_ ?_); on_goal 2 => rfl)
      | ((with_reducible refine readEnd_frame ?_ ?_); on_goal 2 => rfl)

theorem lineTry_frame {w₀ : Nat} {s₀ : State} {x0 : Nat} {x1 : Nat} {x2 : State} (h₀ : Frame w₀ s₀ x2) (hw₀ : 91402444864 ||| w₀ = w₀) :
    Frame w₀ s₀ (lineTry x0 x1 x2).2 := by
  refine h₀.trans 91402444864 ?_ hw₀
  clear h₀ hw₀
  induction x0 generalizing x1 x2 with
  | zero =>
    unfold lineTry
    repeat' first
      | with_reducible exact Frame.refl
  | succ n ih =>
    unfold lineTry
    repeat' first
      | with_reducible assumption
      | with_reducible exact Frame.refl
      | ((first | intro x | (lift_lets -underBinder; intro x)); first
      | (refine Frame.cut (w := 91402444864) (s := x2) (x := x) ?_ fun _ => ?_; (on_goal 1 => try dsimp only [x]); (on_goal 2 => clear_value x))
      | clear_value x)
      | ((with_reducible refine unsealCount_frame ?_ ?_); on_goal 2 => rfl)
      | ((with_reducible refine lineKeys_frame ?_ ?_); on_goal 2 => rfl)
      | ((with_reducible refine updLine_frame ?_ ?_); on_goal 2 => rfl)
      | ((with_reducible refine dropLine_frame ?_ ?_); on_goal 2 => rfl)
      | ((with_reducible refine lineEnd_frame ?_ ?_); on_goal 2 => rfl)
      | ((with_reducible refine writeRefused_frame ?_ ?_); on_goal 2 => rfl)
      | ((with_reducible refine readEnd_frame ?_ ?_); on_goal 2 => rfl)
      | ((with_reducible refine sendWrite_frame ?_ ?_); on_goal 2 => rfl)
      | ((with_reducible refine sendRead_frame ?_ ?_); on_goal 2 => rfl)
      | ((with_reducible refine lineCounter_frame ?_ ?_); on_goal 2 => rfl)
      | ((with_reducible refine lineUnitFails_frame ?_ ?_); on_goal 2 => rfl)
      | (refine Frame.ofEq ‹_› ?_)
      | with_reducible refine Frame.app2 ‹_› ?_
      | with_reducible refine Frame.ite2 ?_ ?_
      | split

theorem lineUnsealOp_frame {w₀ : Nat} {s₀ : State} {q : LineReq} {p : Bytes} {s : State} (h₀ : Frame w₀ s₀ s) (hw₀ : 91402444864 ||| w₀ = w₀) :
    Frame w₀ s₀ (lineUnsealOp q p s).2 := by
  refine h₀.trans 91402444864 ?_ hw₀
  clear h₀ hw₀
  unfold lineUnsealOp
  repeat' first
      | with_reducible assumption
      | with_reducible exact Frame.refl
      | ((first | intro x | (lift_lets -underBinder; intro x)); first
      | (refine Frame.cut (w := 91402444864) (s := s) (x := x) ?_ fun _ => ?_; (on_goal 1 => try dsimp only [x]); (on_goal 2 => clear_value x))
      | clear_value x)
      | ((with_reducible refine State.lnEvent_frame ?_ ?_); on_goal 2 => rfl)
      | ((with_reducible refine reportFault_frame ?_ ?_); on_goal 2 => rfl)
      | ((with_reducible refine charge_frame ?_ ?_); on_goal 2 => rfl)
      | ((with_reducible refine unsealCount_frame ?_ ?_); on_goal 2 => rfl)
      | ((with_reducible refine lineKeys_frame ?_ ?_); on_goal 2 => rfl)
      | ((with_reducible refine updLine_frame ?_ ?_); on_goal 2 => rfl)
      | ((with_reducible refine dropLine_frame ?_ ?_); on_goal 2 => rfl)
      | ((with_reducible refine lineEnd_frame ?_ ?_); on_goal 2 => rfl)
      | ((with_reducible refine partialRefusedBy_frame ?_ ?_); on_goal 2 => rfl)
      | ((with_reducible refine readEnd_frame ?_ ?_); on_goal 2 => rfl)
      | ((with_reducible refine lineUnitFails_frame ?_ ?_); on_goal 2 => rfl)
      | ((with_reducible refine lineTry_frame ?_ ?_); on_goal 2 => rfl)
      | (refine Frame.ofEq ‹_› ?_)
      | with_reducible refine Frame.ite2 ?_ ?_
      | split

theorem lineRspOp_frame {w₀ : Nat} {s₀ : State} {pipe : Nat} {p : Bytes} {s : State} (h₀ : Frame w₀ s₀ s) (hw₀ : 91402444864 ||| w₀ = w₀) :
    Frame w₀ s₀ (lineRspOp pipe p s).2 := by
  refine h₀.trans 91402444864 ?_ hw₀
  clear h₀ hw₀
  unfold lineRspOp
  repeat' first
      | with_reducible assumption
      | with_reducible exact Frame.refl
      | ((first | intro x | (lift_lets -underBinder; intro x)); first
      | (refine Frame.cut (w := 91402444864) (s := s) (x := x) ?_ fun _ => ?_; (on_goal 1 => try dsimp only [x]); (on_goal 2 => clear_value x))
      | clear_value x)
      | ((with_reducible refine State.lnEvent_frame ?_ ?_); on_goal 2 => rfl)
      | ((with_reducible refine reportFault_frame ?_ ?_); on_goal 2 => rfl)
      | ((with_reducible refine lineStray_frame ?_ ?_); on_goal 2 => rfl)
      | ((with_reducible refine unsealCount_frame ?_ ?_); on_goal 2 => rfl)
      | ((with_reducible refine lineEnd_frame ?_ ?_); on_goal 2 => rfl)
      | ((with_reducible refine readEnd_frame ?_ ?_); on_goal 2 => rfl)
      | ((with_reducible refine lineUnsealOp_frame ?_ ?_); on_goal 2 => rfl)
      | with_reducible refine Frame.ite2 ?_ ?_
      | split

theorem lineUnsent_frame {w₀ : Nat} {s₀ : State} {id : Nat} {st : Status} {s : State} (h₀ : Frame w₀ s₀ s) (hw₀ : 91268087808 ||| w₀ = w₀) :
    Frame w₀ s₀ (lineUnsent id st s).2 := by
  refine h₀.trans 91268087808 ?_ hw₀
  clear h₀ hw₀
  unfold lineUnsent
  repeat' first
      | with_reducible exact Frame.refl
      | ((with_reducible refine lineEnd_frame ?_ ?_); on_goal 2 => rfl)
      | ((with_reducible refine partialRefused_frame ?_ ?_); on_goal 2 => rfl)
      | with_reducible refine Frame.ite2 ?_ ?_
      | split

theorem lineTurnedAway_frame {w₀ : Nat} {s₀ : State} {q : LineReq} {st : Status} {counts : Bool} {s : State} (h₀ : Frame w₀ s₀ s) (hw₀ : 32768 ||| w₀ = w₀) :
    Frame w₀ s₀ (lineTurnedAway q st counts s).2 := by
  refine h₀.trans 32768 ?_ hw₀
  clear h₀ hw₀
  unfold lineTurnedAway
  repeat' first
      | with_reducible exact Frame.refl
      | ((with_reducible refine sealCount_frame ?_ ?_); on_goal 2 => rfl)
      | with_reducible refine Frame.ite ?_ ?_

theorem lineAccept_frame {w₀ : Nat} {s₀ : State} {q : LineReq} {inner : Bool} {s : State} (h₀ : Frame w₀ s₀ s) (hw₀ : 91402444864 ||| w₀ = w₀) :
    Frame w₀ s₀ (lineAccept q inner s).2 := by
  refine h₀.trans 91402444864 ?_ hw₀
  clear h₀ hw₀
  unfold lineAccept
  repeat' first
      | with_reducible assumption
      | with_reducible exact Frame.refl
      | ((first | intro x | (lift_lets -underBinder; intro x)); first
      | (refine Frame.cut (w := 91402444864) (s := s) (x := x) ?_ fun _ => ?_; (on_goal 1 => try dsimp only [x]); (on_goal 2 => clear_value x))
      | clear_value x)
      | ((with_reducible refine hallCount_frame ?_ ?_); on_goal 2 => rfl)
      | ((with_reducible refine hallStale_frame ?_ ?_); on_goal 2 => rfl)
      | ((with_reducible refine updRegion_frame ?_ ?_); on_goal 2 => rfl)
      | ((with_reducible refine lineTry_frame ?_ ?_); on_goal 2 => rfl)
      | ((with_reducible refine lineTurnedAway_frame ?_ ?_); on_goal 2 => rfl)
      | ((with_reducible refine Frame.updLnSoft (f := _) ?_ ?_ ?_); (on_goal 1 => (intro _; unfold Ln.rest; rfl)); on_goal 2 => rfl)
      | with_reducible refine Frame.ite ?_ ?_
      | with_reducible refine Frame.ite2 ?_ ?_
      | split

theorem lineIssue_frame {w₀ : Nat} {s₀ : State} {acc : LineAcc} {op : LineOp} {be : BitVec 64} {data : Bytes} {o : Owner} {unit : Nat} {inner : Bool} {s : State} (h₀ : Frame w₀ s₀ s) (hw₀ : 91402444864 ||| w₀ = w₀) :
    Frame w₀ s₀ (lineIssue acc op be data o unit inner s).2 := by
  refine h₀.trans 91402444864 ?_ hw₀
  clear h₀ hw₀
  unfold lineIssue
  repeat' first
      | with_reducible assumption
      | with_reducible exact Frame.refl
      | ((first | intro x | (lift_lets -underBinder; intro x)); first
      | (refine Frame.cut (w := 91402444864) (s := s) (x := x) ?_ fun _ => ?_; (on_goal 1 => try dsimp only [x]); (on_goal 2 => clear_value x))
      | clear_value x)
      | ((with_reducible refine State.lnEvent_frame ?_ ?_); on_goal 2 => rfl)
      | ((with_reducible refine lineAccept_frame ?_ ?_); on_goal 2 => rfl)
      | ((with_reducible refine Frame.updLnSoft (f := _) ?_ ?_ ?_); (on_goal 1 => (intro _; unfold Ln.rest; rfl)); on_goal 2 => rfl)
      | with_reducible refine Frame.ite2 ?_ ?_

theorem admitLine_frame {w₀ : Nat} {s₀ : State}  {s : State} (h₀ : Frame w₀ s₀ s) (hw₀ : 91402444864 ||| w₀ = w₀) :
    Frame w₀ s₀ (admitLine s).2 := by
  refine h₀.trans 91402444864 ?_ hw₀
  clear h₀ hw₀
  unfold admitLine
  repeat' first
      | with_reducible exact Frame.refl
      | ((first | intro x | (lift_lets -underBinder; intro x)); first
      | clear_value x)
      | ((with_reducible refine lineAccept_frame ?_ ?_); on_goal 2 => rfl)
      | ((with_reducible refine Frame.updLnSoft (f := _) ?_ ?_ ?_); (on_goal 1 => (intro _; unfold Ln.rest; rfl)); on_goal 2 => rfl)
      | with_reducible refine Frame.ite2 ?_ ?_
      | split

theorem lnFinish_frame {w₀ : Nat} {s₀ : State} {op : Nat} {st : Status} {s : State} (h₀ : Frame w₀ s₀ s) (hw₀ : 2199023288384 ||| w₀ = w₀) :
    Frame w₀ s₀ (lnFinish op st s) := by
  refine h₀.trans 2199023288384 ?_ hw₀
  clear h₀ hw₀
  unfold lnFinish
  repeat' first
      | with_reducible assumption
      | with_reducible exact Frame.refl
      | ((first | intro x | (lift_lets -underBinder; intro x)); first
      | (refine Frame.cut (w := 2199023288384) (s := s) (x := x) ?_ fun _ => ?_; (on_goal 1 => try dsimp only [x]); (on_goal 2 => clear_value x))
      | clear_value x)
      | ((with_reducible refine retireHandle_frame ?_ ?_); on_goal 2 => rfl)
      | ((with_reducible refine answerAll_frame ?_ ?_); on_goal 2 => rfl)
      | ((with_reducible refine Frame.updLnSoft (f := _) ?_ ?_ ?_); (on_goal 1 => (intro _; unfold Ln.rest; rfl)); on_goal 2 => rfl)
      | with_reducible refine Frame.forAll (fun _ s => ?_) _ ?_

theorem installStep_frame {w₀ : Nat} {s₀ : State}  {s : State} (h₀ : Frame w₀ s₀ s) (hw₀ : 2199023427648 ||| w₀ = w₀) :
    Frame w₀ s₀ (installStep s) := by
  refine h₀.trans 2199023427648 ?_ hw₀
  clear h₀ hw₀
  unfold installStep
  repeat' first
      | with_reducible assumption
      | with_reducible exact Frame.refl
      | ((first | intro x | (lift_lets -underBinder; intro x)); first
      | (refine Frame.cut (w := 2199023427648) (s := s) (x := x) ?_ fun _ => ?_; (on_goal 1 => try dsimp only [x]); (on_goal 2 => clear_value x))
      | clear_value x)
      | ((with_reducible refine updRegion_frame ?_ ?_); on_goal 2 => rfl)
      | ((with_reducible refine fetchNodes_frame ?_ ?_); on_goal 2 => rfl)
      | ((with_reducible refine lnFinish_frame ?_ ?_); on_goal 2 => rfl)
      | with_reducible refine Frame.ite ?_ ?_

theorem regionWriteOp_frame {w₀ : Nat} {s₀ : State} {r : Nat} {sealed : Bool} {s : State} (h₀ : Frame w₀ s₀ s) (hw₀ : 2200097235008 ||| w₀ = w₀) :
    Frame w₀ s₀ (regionWriteOp r sealed s) := by
  refine h₀.trans 2200097235008 ?_ hw₀
  clear h₀ hw₀
  unfold regionWriteOp
  repeat' first
      | with_reducible assumption
      | with_reducible exact Frame.refl
      | ((first | intro x | (lift_lets -underBinder; intro x)); first
      | (refine Frame.cut (w := 2200097235008) (s := s) (x := x) ?_ fun _ => ?_; (on_goal 1 => try dsimp only [x]); (on_goal 2 => clear_value x))
      | clear_value x)
      | ((with_reducible refine hallCount_frame ?_ ?_); on_goal 2 => rfl)
      | ((with_reducible refine updRegion_frame ?_ ?_); on_goal 2 => rfl)
      | ((with_reducible refine updTree_frame ?_ ?_); on_goal 2 => rfl)
      | ((with_reducible refine lnFinish_frame ?_ ?_); on_goal 2 => rfl)
      | ((with_reducible refine installStep_frame ?_ ?_); on_goal 2 => rfl)
      | ((with_reducible refine Frame.updLn ?_ ?_); on_goal 2 => rfl)
      | with_reducible refine Frame.ite ?_ ?_
      | split

theorem dropRegion_frame {w₀ : Nat} {s₀ : State} {r : Nat} {s : State} (h₀ : Frame w₀ s₀ s) (hw₀ : 8519680 ||| w₀ = w₀) :
    Frame w₀ s₀ (dropRegion r s) := by
  refine h₀.trans 8519680 ?_ hw₀
  clear h₀ hw₀
  unfold dropRegion
  repeat' first
      | with_reducible exact Frame.refl
      | ((first | intro x | (lift_lets -underBinder; intro x)); first
      | clear_value x)
      | ((with_reducible refine dropTree_frame ?_ ?_); on_goal 2 => rfl)
      | ((with_reducible refine Frame.updAuSoft (f := _) ?_ ?_ ?_); (on_goal 1 => (intro _; unfold Au.rest; rfl)); on_goal 2 => rfl)

theorem freeStep_frame {w₀ : Nat} {s₀ : State}  {s : State} (h₀ : Frame w₀ s₀ s) (hw₀ : 2199031808064 ||| w₀ = w₀) :
    Frame w₀ s₀ (freeStep s) := by
  refine h₀.trans 2199031808064 ?_ hw₀
  clear h₀ hw₀
  unfold freeStep
  repeat' first
      | with_reducible exact Frame.refl
      | ((first | intro x | (lift_lets -underBinder; intro x)); first
      | clear_value x)
      | ((with_reducible refine updRegion_frame ?_ ?_); on_goal 2 => rfl)
      | ((with_reducible refine lnFinish_frame ?_ ?_); on_goal 2 => rfl)
      | ((with_reducible refine dropRegion_frame ?_ ?_); on_goal 2 => rfl)
      | with_reducible refine Frame.ite ?_ ?_

theorem regionFreeOp_frame {w₀ : Nat} {s₀ : State} {r : Nat} {s : State} (h₀ : Frame w₀ s₀ s) (hw₀ : 2199031873600 ||| w₀ = w₀) :
    Frame w₀ s₀ (regionFreeOp r s) := by
  refine h₀.trans 2199031873600 ?_ hw₀
  clear h₀ hw₀
  unfold regionFreeOp
  repeat' first
      | with_reducible exact Frame.refl
      | ((with_reducible refine updRegion_frame ?_ ?_); on_goal 2 => rfl)
      | ((with_reducible refine lnFinish_frame ?_ ?_); on_goal 2 => rfl)
      | ((with_reducible refine freeStep_frame ?_ ?_); on_goal 2 => rfl)
      | ((with_reducible refine Frame.updLn ?_ ?_); on_goal 2 => rfl)
      | with_reducible refine Frame.ite ?_ ?_

theorem regionSealOp_frame {w₀ : Nat} {s₀ : State} {r : Nat} {s : State} (h₀ : Frame w₀ s₀ s) (hw₀ : 2199023353920 ||| w₀ = w₀) :
    Frame w₀ s₀ (regionSealOp r s) := by
  refine h₀.trans 2199023353920 ?_ hw₀
  clear h₀ hw₀
  unfold regionSealOp
  repeat' first
      | with_reducible exact Frame.refl
      | ((with_reducible refine updRegion_frame ?_ ?_); on_goal 2 => rfl)
      | ((with_reducible refine lnFinish_frame ?_ ?_); on_goal 2 => rfl)
      | ((with_reducible refine Frame.updLn ?_ ?_); on_goal 2 => rfl)
      | with_reducible refine Frame.ite ?_ ?_

theorem sealCompleteOp_frame {w₀ : Nat} {s₀ : State} {r : Nat} {s : State} (h₀ : Frame w₀ s₀ s) (hw₀ : 2199023288384 ||| w₀ = w₀) :
    Frame w₀ s₀ (sealCompleteOp r s) := by
  refine h₀.trans 2199023288384 ?_ hw₀
  clear h₀ hw₀
  unfold sealCompleteOp
  repeat' first
      | with_reducible exact Frame.refl
      | ((with_reducible refine updRegion_frame ?_ ?_); on_goal 2 => rfl)
      | ((with_reducible refine lnFinish_frame ?_ ?_); on_goal 2 => rfl)
      | with_reducible refine Frame.ite ?_ ?_

theorem regionEraseOp_frame {w₀ : Nat} {s₀ : State} {r : Nat} {s : State} (h₀ : Frame w₀ s₀ s) (hw₀ : 2199023484992 ||| w₀ = w₀) :
    Frame w₀ s₀ (regionEraseOp r s) := by
  refine h₀.trans 2199023484992 ?_ hw₀
  clear h₀ hw₀
  unfold regionEraseOp
  repeat' first
      | with_reducible assumption
      | with_reducible exact Frame.refl
      | ((first | intro x | (lift_lets -underBinder; intro x)); first
      | (refine Frame.cut (w := 2199023484992) (s := s) (x := x) ?_ fun _ => ?_; (on_goal 1 => try dsimp only [x]); (on_goal 2 => clear_value x))
      | clear_value x)
      | ((with_reducible refine updRegion_frame ?_ ?_); on_goal 2 => rfl)
      | ((with_reducible refine updTree_frame ?_ ?_); on_goal 2 => rfl)
      | ((with_reducible refine lnFinish_frame ?_ ?_); on_goal 2 => rfl)
      | ((with_reducible refine Frame.updLn ?_ ?_); on_goal 2 => rfl)
      | with_reducible refine Frame.ite ?_ ?_

theorem eraseCompleteOp_frame {w₀ : Nat} {s₀ : State} {r : Nat} {s : State} (h₀ : Frame w₀ s₀ s) (hw₀ : 2199031808064 ||| w₀ = w₀) :
    Frame w₀ s₀ (eraseCompleteOp r s) := by
  refine h₀.trans 2199031808064 ?_ hw₀
  clear h₀ hw₀
  unfold eraseCompleteOp
  repeat' first
      | with_reducible assumption
      | with_reducible exact Frame.refl
      | ((first | intro x | (lift_lets -underBinder; intro x)); first
      | (refine Frame.cut (w := 2199031808064) (s := s) (x := x) ?_ fun _ => ?_; (on_goal 1 => try dsimp only [x]); (on_goal 2 => clear_value x))
      | clear_value x)
      | ((with_reducible refine updRegion_frame ?_ ?_); on_goal 2 => rfl)
      | ((with_reducible refine updTree_frame ?_ ?_); on_goal 2 => rfl)
      | ((with_reducible refine lnFinish_frame ?_ ?_); on_goal 2 => rfl)
      | ((with_reducible refine dropRegion_frame ?_ ?_); on_goal 2 => rfl)
      | with_reducible refine Frame.ite ?_ ?_

theorem lnQueryOp_frame {w₀ : Nat} {s₀ : State} {r : Nat} {s : State} (h₀ : Frame w₀ s₀ s) (hw₀ : 2199023353920 ||| w₀ = w₀) :
    Frame w₀ s₀ (lnQueryOp r s) := by
  refine h₀.trans 2199023353920 ?_ hw₀
  clear h₀ hw₀
  unfold lnQueryOp
  repeat' first
      | with_reducible exact Frame.refl
      | ((first | intro x | (lift_lets -underBinder; intro x)); first
      | clear_value x)
      | ((with_reducible refine lnFinish_frame ?_ ?_); on_goal 2 => rfl)
      | ((with_reducible refine Frame.updLn ?_ ?_); on_goal 2 => rfl)

theorem lnCommand_frame {w₀ : Nat} {s₀ : State} {op : Nat} {r : Nat} {sealed : Bool} {s : State} (h₀ : Frame w₀ s₀ s) (hw₀ : 2200105623616 ||| w₀ = w₀) :
    Frame w₀ s₀ (lnCommand op r sealed s) := by
  refine h₀.trans 2200105623616 ?_ hw₀
  clear h₀ hw₀
  unfold lnCommand
  repeat' first
      | with_reducible assumption
      | with_reducible exact Frame.refl
      | ((first | intro x | (lift_lets -underBinder; intro x)); first
      | (refine Frame.cut (w := 2200105623616) (s := s) (x := x) ?_ fun _ => ?_; (on_goal 1 => try dsimp only [x]); (on_goal 2 => clear_value x)))
      | ((with_reducible refine lnFinish_frame ?_ ?_); on_goal 2 => rfl)
      | ((with_reducible refine regionWriteOp_frame ?_ ?_); on_goal 2 => rfl)
      | ((with_reducible refine regionFreeOp_frame ?_ ?_); on_goal 2 => rfl)
      | ((with_reducible refine regionSealOp_frame ?_ ?_); on_goal 2 => rfl)
      | ((with_reducible refine regionEraseOp_frame ?_ ?_); on_goal 2 => rfl)
      | ((with_reducible refine lnQueryOp_frame ?_ ?_); on_goal 2 => rfl)
      | ((with_reducible refine Frame.updLn ?_ ?_); on_goal 2 => rfl)
      | with_reducible refine Frame.ite ?_ ?_
      | split

theorem lineRetry_frame {w₀ : Nat} {s₀ : State} {id : Nat} {s : State} (h₀ : Frame w₀ s₀ s) (hw₀ : 91402444864 ||| w₀ = w₀) :
    Frame w₀ s₀ (lineRetry id s).2 := by
  refine h₀.trans 91402444864 ?_ hw₀
  clear h₀ hw₀
  unfold lineRetry
  repeat' first
      | with_reducible exact Frame.refl
      | ((first | intro x | (lift_lets -underBinder; intro x)); first
      | clear_value x)
      | ((with_reducible refine updLine_frame ?_ ?_); on_goal 2 => rfl)
      | ((with_reducible refine readEnd_frame ?_ ?_); on_goal 2 => rfl)
      | ((with_reducible refine lineTry_frame ?_ ?_); on_goal 2 => rfl)
      | ((with_reducible refine lineUnsealOp_frame ?_ ?_); on_goal 2 => rfl)
      | with_reducible refine Frame.ite2 ?_ ?_
      | split

theorem poolKick_frame {w₀ : Nat} {s₀ : State}  {s : State} (h₀ : Frame w₀ s₀ s) (hw₀ : 37474806177856 ||| w₀ = w₀) :
    Frame w₀ s₀ (poolKick s).2 := by
  refine h₀.trans 37474806177856 ?_ hw₀
  clear h₀ hw₀
  unfold poolKick
  repeat' first
      | with_reducible assumption
      | with_reducible exact Frame.refl
      | ((first | intro x | (lift_lets -underBinder; intro x)); first
      | (refine Frame.cut (w := 37474806177856) (s := s) (x := x) ?_ fun _ => ?_; (on_goal 1 => try dsimp only [x]); (on_goal 2 => clear_value x)))
      | ((with_reducible refine eachAns_frame (fun _ s => ?_) ?_ ?_); on_goal 3 => rfl)
      | ((with_reducible refine treeKick_frame ?_ ?_); on_goal 2 => rfl)
      | ((with_reducible refine installStep_frame ?_ ?_); on_goal 2 => rfl)
      | ((with_reducible refine freeStep_frame ?_ ?_); on_goal 2 => rfl)
      | ((with_reducible refine lineRetry_frame ?_ ?_); on_goal 2 => rfl)

theorem lineRspTake_frame {w₀ : Nat} {s₀ : State} {pipe : Nat} {p : Bytes} {s : State} (h₀ : Frame w₀ s₀ s) (hw₀ : 91402510400 ||| w₀ = w₀) :
    Frame w₀ s₀ (lineRspTake pipe p s).2 := by
  refine h₀.trans 91402510400 ?_ hw₀
  clear h₀ hw₀
  unfold lineRspTake
  repeat' first
      | with_reducible exact Frame.refl
      | ((first | intro x | (lift_lets -underBinder; intro x)); first
      | clear_value x)
      | ((with_reducible refine staleReply_frame ?_ ?_); on_goal 2 => rfl)
      | ((with_reducible refine nodeRspOp_frame ?_ ?_); on_goal 2 => rfl)
      | ((with_reducible refine lineRspOp_frame ?_ ?_); on_goal 2 => rfl)
      | ((with_reducible refine Frame.updLn ?_ ?_); on_goal 2 => rfl)
      | with_reducible refine Frame.ite2 ?_ ?_
      | split

end Sys2Proof.Machine
end

