-- ==== Sys2Proof/Laws/FrAccess.lean ====
section
/-! SUPPORT. What each operation of Machine/Access.lean may change (see Frame.lean). -/

namespace Sys2Proof.Machine

-- One declaration at a time, so that the elaborator holds few threads (each takes stack of its own).
set_option Elab.async false

theorem readLines_frame {w₀ : Nat} {s₀ : State} {want : Nat} {hall : Nat} {hgen : Nat} {va : Nat} {need : Need} {o : Owner} {unit : Nat} {s : State} (h₀ : Frame w₀ s₀ s) (hw₀ : 35275774533720 ||| w₀ = w₀) :
    Frame w₀ s₀ (readLines want hall hgen va need o unit s).2.2 := by
  refine h₀.trans 35275774533720 ?_ hw₀
  clear h₀ hw₀
  unfold readLines
  repeat' first
      | with_reducible exact Frame.refl
      | ((with_reducible refine hallStale_frame ?_ ?_); on_goal 2 => rfl)
      | ((with_reducible refine mpRead_frame ?_ ?_); on_goal 2 => rfl)
      | ((with_reducible refine mpReadTwo_frame ?_ ?_); on_goal 2 => rfl)
      | ((with_reducible refine translate_frame ?_ ?_); on_goal 2 => rfl)
      | ((with_reducible refine lineIssue_frame ?_ ?_); on_goal 2 => rfl)
      | (refine Frame.ofEq ‹_› ?_)
      | with_reducible refine Frame.ite3 ?_ ?_
      | split

theorem writeLine_frame {w₀ : Nat} {s₀ : State} {hall : Nat} {hgen : Nat} {va : Nat} {need : Need} {data : Bytes} {o : Owner} {unit : Nat} {s : State} (h₀ : Frame w₀ s₀ s) (hw₀ : 35275774533720 ||| w₀ = w₀) :
    Frame w₀ s₀ (writeLine hall hgen va need data o unit s).2 := by
  refine h₀.trans 35275774533720 ?_ hw₀
  clear h₀ hw₀
  unfold writeLine
  repeat' first
      | with_reducible exact Frame.refl
      | ((first | intro x | (lift_lets -underBinder; intro x)); first
      | clear_value x)
      | ((with_reducible refine hallStale_frame ?_ ?_); on_goal 2 => rfl)
      | ((with_reducible refine mpWrite_frame ?_ ?_); on_goal 2 => rfl)
      | ((with_reducible refine translate_frame ?_ ?_); on_goal 2 => rfl)
      | ((with_reducible refine lineIssue_frame ?_ ?_); on_goal 2 => rfl)
      | (refine Frame.ofEq ‹_› ?_)
      | with_reducible refine Frame.ite2 ?_ ?_
      | split

theorem pushReq_frame {w₀ : Nat} {s₀ : State} {i : Nat} {block : Bytes} {data : Bytes} {hall : Nat} {o : Owner} {unit : Nat} {s : State} (h₀ : Frame w₀ s₀ s) (hw₀ : 8192 ||| w₀ = w₀) :
    Frame w₀ s₀ (pushReq i block data hall o unit s) := by
  refine h₀.trans 8192 ?_ hw₀
  clear h₀ hw₀
  unfold pushReq
  repeat' first
      | with_reducible exact Frame.refl
      | ((with_reducible refine txPush_frame ?_ ?_); on_goal 2 => rfl)

theorem hostRead_frame {w₀ : Nat} {s₀ : State} {hall : Nat} {addr : Nat} {len : Nat} {o : Owner} {unit : Nat} {s : State} (h₀ : Frame w₀ s₀ s) (hw₀ : 35184372090912 ||| w₀ = w₀) :
    Frame w₀ s₀ (hostRead hall addr len o unit s).2 := by
  refine h₀.trans 35184372090912 ?_ hw₀
  clear h₀ hw₀
  unfold hostRead
  repeat' first
      | with_reducible assumption
      | with_reducible exact Frame.refl
      | ((first | intro x | (lift_lets -underBinder; intro x)); first
      | (refine Frame.cut (w := 35184372090912) (s := s) (x := x) ?_ fun _ => ?_; (on_goal 1 => try dsimp only [x]); (on_goal 2 => clear_value x))
      | clear_value x)
      | ((with_reducible refine ideEmit_frame ?_ ?_); on_goal 2 => rfl)
      | ((with_reducible refine Frame.setHostReads ?_ ?_); on_goal 2 => rfl)
      | with_reducible refine Frame.ite2 ?_ ?_
      | split

theorem hostWrite_frame {w₀ : Nat} {s₀ : State} {hall : Nat} {addr : Nat} {data : Bytes} {s : State} (h₀ : Frame w₀ s₀ s) (hw₀ : 35185580050432 ||| w₀ = w₀) :
    Frame w₀ s₀ (hostWrite hall addr data s).2 := by
  refine h₀.trans 35185580050432 ?_ hw₀
  clear h₀ hw₀
  unfold hostWrite
  repeat' first
      | with_reducible exact Frame.refl
      | ((with_reducible refine charge_frame ?_ ?_); on_goal 2 => rfl)
      | ((with_reducible refine ideEmit_frame ?_ ?_); on_goal 2 => rfl)
      | with_reducible refine Frame.ite2 ?_ ?_
      | split

theorem hostTake_frame {w₀ : Nat} {s₀ : State} {tag : Nat} {st : Status} {data : Bytes} {s : State} (h₀ : Frame w₀ s₀ s) (hw₀ : 18387828768 ||| w₀ = w₀) :
    Frame w₀ s₀ (hostTake tag st data s).2 := by
  refine h₀.trans 18387828768 ?_ hw₀
  clear h₀ hw₀
  unfold hostTake
  repeat' first
      | with_reducible assumption
      | with_reducible exact Frame.refl
      | ((first | intro x | (lift_lets -underBinder; intro x)); first
      | (refine Frame.cut (w := 18387828768) (s := s) (x := x) ?_ fun _ => ?_; (on_goal 1 => try dsimp only [x]); (on_goal 2 => clear_value x))
      | clear_value x)
      | ((with_reducible refine hallStale_frame ?_ ?_); on_goal 2 => rfl)
      | ((with_reducible refine charge_frame ?_ ?_); on_goal 2 => rfl)
      | ((with_reducible refine staleReply_frame ?_ ?_); on_goal 2 => rfl)
      | ((with_reducible refine Frame.setHostReads ?_ ?_); on_goal 2 => rfl)
      | with_reducible refine Frame.ite2 ?_ ?_
      | split

end Sys2Proof.Machine
end

