-- ==== Sys2Proof/Laws/FrMover.lean ====
section
/-! SUPPORT. What each operation of Machine/Mover.lean may change (see Frame.lean). -/

namespace Sys2Proof.Machine

-- One declaration at a time, so that the elaborator holds few threads (each takes stack of its own).
set_option Elab.async false

theorem updMover_frame {w₀ : Nat} {s₀ : State} {m : Nat} {f : Mover → Mover} {s : State} (h₀ : Frame w₀ s₀ s) (hw₀ : 524288 ||| w₀ = w₀) :
    Frame w₀ s₀ (updMover m f s) := by
  refine h₀.trans 524288 ?_ hw₀
  clear h₀ hw₀
  unfold updMover
  repeat' first
      | with_reducible exact Frame.refl
      | ((with_reducible refine Frame.updMvSoft (f := _) ?_ ?_ ?_); (on_goal 1 => (intro _; unfold Mv.rest; rfl)); on_goal 2 => rfl)

theorem updRunning_frame {w₀ : Nat} {s₀ : State} {m : Nat} {f : MDesc → MDesc} {s : State} (h₀ : Frame w₀ s₀ s) (hw₀ : 17180393472 ||| w₀ = w₀) :
    Frame w₀ s₀ (updRunning m f s) := by
  refine h₀.trans 17180393472 ?_ hw₀
  clear h₀ hw₀
  unfold updRunning
  repeat' first
      | with_reducible exact Frame.refl
      | ((with_reducible refine updMover_frame ?_ ?_); on_goal 2 => rfl)

theorem updSeg_frame {w₀ : Nat} {s₀ : State} {m : Nat} {f : Seg → Seg} {s : State} (h₀ : Frame w₀ s₀ s) (hw₀ : 524288 ||| w₀ = w₀) :
    Frame w₀ s₀ (updSeg m f s) := by
  refine h₀.trans 524288 ?_ hw₀
  clear h₀ hw₀
  unfold updSeg
  repeat' first
      | with_reducible exact Frame.refl
      | ((with_reducible refine updMover_frame ?_ ?_); on_goal 2 => rfl)

theorem moverPut_frame {w₀ : Nat} {s₀ : State} {m : Nat} {c : Nat} {d : Bytes} {work : Option Nat} {s : State} (h₀ : Frame w₀ s₀ s) (hw₀ : 524288 ||| w₀ = w₀) :
    Frame w₀ s₀ (moverPut m c d work s) := by
  refine h₀.trans 524288 ?_ hw₀
  clear h₀ hw₀
  unfold moverPut
  repeat' first
      | with_reducible exact Frame.refl
      | ((with_reducible refine updMover_frame ?_ ?_); on_goal 2 => rfl)

theorem pooledCount_frame {w₀ : Nat} {s₀ : State} {m : Nat} {old : State} {s : State} (h₀ : Frame w₀ s₀ s) (hw₀ : 524288 ||| w₀ = w₀) :
    Frame w₀ s₀ (pooledCount m old s) := by
  refine h₀.trans 524288 ?_ hw₀
  clear h₀ hw₀
  unfold pooledCount
  repeat' first
      | with_reducible exact Frame.refl
      | ((with_reducible refine State.mvCount_frame ?_ ?_); on_goal 2 => rfl)
      | with_reducible refine Frame.ite ?_ ?_

theorem askSource_frame {w₀ : Nat} {s₀ : State} {m : Nat} {x : MDesc} {g : Seg} {s : State} (h₀ : Frame w₀ s₀ s) (hw₀ : 35275775060088 ||| w₀ = w₀) :
    Frame w₀ s₀ (askSource m x g s).2 := by
  refine h₀.trans 35275775060088 ?_ hw₀
  clear h₀ hw₀
  unfold askSource
  repeat' first
      | with_reducible exact Frame.refl
      | ((first | intro x | (lift_lets -underBinder; intro x)); first
      | (refine Frame.cutFn2 (w := 35275775060088) (f := x) ?_ fun _ => ?_; (on_goal 1 => intro _ s; try dsimp only [x]); (on_goal 2 => clear_value x))
      | clear_value x)
      | ((with_reducible refine State.mvCount_frame ?_ ?_); on_goal 2 => rfl)
      | ((with_reducible refine readLines_frame ?_ ?_); on_goal 2 => rfl)
      | ((with_reducible refine pushReq_frame ?_ ?_); on_goal 2 => rfl)
      | ((with_reducible refine hostRead_frame ?_ ?_); on_goal 2 => rfl)
      | ((with_reducible refine updSeg_frame ?_ ?_); on_goal 2 => rfl)
      | ((with_reducible refine pooledCount_frame ?_ ?_); on_goal 2 => rfl)
      | dsimp -zeta only
      | with_reducible refine Frame.app2 ‹_› ?_
      | with_reducible refine Frame.ite2 ?_ ?_
      | split

theorem markFull_frame {w₀ : Nat} {s₀ : State} {m : Nat} {s : State} (h₀ : Frame w₀ s₀ s) (hw₀ : 524288 ||| w₀ = w₀) :
    Frame w₀ s₀ (markFull m s) := by
  refine h₀.trans 524288 ?_ hw₀
  clear h₀ hw₀
  unfold markFull
  repeat' first
      | with_reducible exact Frame.refl
      | ((with_reducible refine State.mvEvent_frame ?_ ?_); on_goal 2 => rfl)
      | with_reducible refine Frame.ite ?_ ?_

theorem askAll_frame {w₀ : Nat} {s₀ : State} {m : Nat} {x0 : Nat} {x1 : State} (h₀ : Frame w₀ s₀ x1) (hw₀ : 35275775060088 ||| w₀ = w₀) :
    Frame w₀ s₀ (askAll m x0 x1).2 := by
  refine h₀.trans 35275775060088 ?_ hw₀
  clear h₀ hw₀
  induction x0 generalizing x1 with
  | zero =>
    unfold askAll
    repeat' first
      | with_reducible exact Frame.refl
  | succ n ih =>
    unfold askAll
    repeat' first
      | with_reducible assumption
      | with_reducible exact Frame.refl
      | ((first | intro x | (lift_lets -underBinder; intro x)); first
      | (refine Frame.cut (w := 35275775060088) (s := x1) (x := x) ?_ fun _ => ?_; (on_goal 1 => try dsimp only [x]); (on_goal 2 => clear_value x))
      | clear_value x)
      | ((with_reducible refine State.mvEvent_frame ?_ ?_); on_goal 2 => rfl)
      | ((with_reducible refine askSource_frame ?_ ?_); on_goal 2 => rfl)
      | ((with_reducible refine markFull_frame ?_ ?_); on_goal 2 => rfl)
      | dsimp -zeta only
      | with_reducible refine Frame.app ‹_› ?_
      | with_reducible refine Frame.ite2 ?_ ?_
      | split

theorem startWrites_frame {w₀ : Nat} {s₀ : State} {m : Nat} {x : MDesc} {g : Seg} {s : State} (h₀ : Frame w₀ s₀ s) (hw₀ : 90194845696 ||| w₀ = w₀) :
    Frame w₀ s₀ (startWrites m x g s) := by
  refine h₀.trans 90194845696 ?_ hw₀
  clear h₀ hw₀
  unfold startWrites
  repeat' first
      | with_reducible assumption
      | with_reducible exact Frame.refl
      | ((first | intro x | (lift_lets -underBinder; intro x)); first
      | (refine Frame.cut (w := 90194845696) (s := s) (x := x) ?_ fun _ => ?_; (on_goal 1 => try dsimp only [x]); (on_goal 2 => clear_value x))
      | (refine Frame.cutFn (w := 90194845696) (f := x) ?_ fun _ => ?_; (on_goal 1 => intro s; try dsimp only [x]); (on_goal 2 => clear_value x))
      | clear_value x)
      | ((with_reducible refine State.mvCount_frame ?_ ?_); on_goal 2 => rfl)
      | ((with_reducible refine reportFault_frame ?_ ?_); on_goal 2 => rfl)
      | ((with_reducible refine txPush_frame ?_ ?_); on_goal 2 => rfl)
      | ((with_reducible refine updSeg_frame ?_ ?_); on_goal 2 => rfl)
      | dsimp -zeta only
      | with_reducible refine Frame.app ‹_› ?_
      | with_reducible refine Frame.ite ?_ ?_
      | split

theorem issueWrite_frame {w₀ : Nat} {s₀ : State} {m : Nat} {x : MDesc} {w : MOut} {s : State} (h₀ : Frame w₀ s₀ s) (hw₀ : 35275775060056 ||| w₀ = w₀) :
    Frame w₀ s₀ (issueWrite m x w s).2 := by
  refine h₀.trans 35275775060056 ?_ hw₀
  clear h₀ hw₀
  unfold issueWrite
  repeat' first
      | with_reducible assumption
      | with_reducible exact Frame.refl
      | ((first | intro x | (lift_lets -underBinder; intro x)); first
      | (refine Frame.cut2 (w := 35275775060056) (s := s) (x := x) ?_ fun _ => ?_; (on_goal 1 => try dsimp only [x]); (on_goal 2 => clear_value x))
      | clear_value x)
      | ((with_reducible refine mpWrite_frame ?_ ?_); on_goal 2 => rfl)
      | ((with_reducible refine writeLine_frame ?_ ?_); on_goal 2 => rfl)
      | ((with_reducible refine hostWrite_frame ?_ ?_); on_goal 2 => rfl)
      | ((with_reducible refine pooledCount_frame ?_ ?_); on_goal 2 => rfl)
      | dsimp -zeta only
      | with_reducible refine Frame.ite2 ?_ ?_
      | split

theorem oneWrite_frame {w₀ : Nat} {s₀ : State} {m : Nat} {x : MDesc} {w : MOut} {s : State} (h₀ : Frame w₀ s₀ s) (hw₀ : 35275775060056 ||| w₀ = w₀) :
    Frame w₀ s₀ (oneWrite m x w s).2 := by
  refine h₀.trans 35275775060056 ?_ hw₀
  clear h₀ hw₀
  unfold oneWrite
  repeat' first
      | with_reducible exact Frame.refl
      | ((with_reducible refine State.mvCount_frame ?_ ?_); on_goal 2 => rfl)
      | ((with_reducible refine issueWrite_frame ?_ ?_); on_goal 2 => rfl)
      | with_reducible refine Frame.ite ?_ ?_

theorem writeAll_frame {w₀ : Nat} {s₀ : State} {m : Nat} {x0 : Nat} {x1 : State} (h₀ : Frame w₀ s₀ x1) (hw₀ : 35275775060056 ||| w₀ = w₀) :
    Frame w₀ s₀ (writeAll m x0 x1).2 := by
  refine h₀.trans 35275775060056 ?_ hw₀
  clear h₀ hw₀
  induction x0 generalizing x1 with
  | zero =>
    unfold writeAll
    repeat' first
      | with_reducible exact Frame.refl
  | succ n ih =>
    unfold writeAll
    repeat' first
      | with_reducible exact Frame.refl
      | ((first | intro x | (lift_lets -underBinder; intro x)); first
      | clear_value x)
      | ((with_reducible refine State.mvEvent_frame ?_ ?_); on_goal 2 => rfl)
      | ((with_reducible refine updSeg_frame ?_ ?_); on_goal 2 => rfl)
      | ((with_reducible refine oneWrite_frame ?_ ?_); on_goal 2 => rfl)
      | dsimp -zeta only
      | with_reducible refine Frame.app ‹_› ?_
      | with_reducible refine Frame.ite2 ?_ ?_
      | split

theorem applyToken_frame {w₀ : Nat} {s₀ : State} {m : Nat} {t : Nat × BitVec 16} {s : State} (h₀ : Frame w₀ s₀ s) (hw₀ : 87141384192 ||| w₀ = w₀) :
    Frame w₀ s₀ (applyToken m t s) := by
  refine h₀.trans 87141384192 ?_ hw₀
  clear h₀ hw₀
  unfold applyToken
  repeat' first
      | with_reducible assumption
      | with_reducible exact Frame.refl
      | ((first | intro x | (lift_lets -underBinder; intro x)); first
      | (refine Frame.cut (w := 87141384192) (s := s) (x := x) ?_ fun _ => ?_; (on_goal 1 => try dsimp only [x]); (on_goal 2 => clear_value x))
      | clear_value x)
      | ((with_reducible refine abortAck_frame ?_ ?_); on_goal 2 => rfl)
      | ((with_reducible refine workEnd_frame ?_ ?_); on_goal 2 => rfl)
      | ((with_reducible refine updMover_frame ?_ ?_); on_goal 2 => rfl)
      | with_reducible refine Frame.forAll (fun _ s => ?_) _ ?_
      | with_reducible refine Frame.ite ?_ ?_
      | split

theorem applyTokens_frame {w₀ : Nat} {s₀ : State} {m : Nat} {s : State} (h₀ : Frame w₀ s₀ s) (hw₀ : 87141384192 ||| w₀ = w₀) :
    Frame w₀ s₀ (applyTokens m s) := by
  refine h₀.trans 87141384192 ?_ hw₀
  clear h₀ hw₀
  unfold applyTokens
  repeat' first
      | with_reducible exact Frame.refl
      | ((first | intro x | (lift_lets -underBinder; intro x)); first
      | clear_value x)
      | ((with_reducible refine applyToken_frame ?_ ?_); on_goal 2 => rfl)
      | with_reducible refine Frame.forAll (fun _ s => ?_) _ ?_
      | with_reducible refine Frame.ite ?_ ?_

theorem segEnd_frame {w₀ : Nat} {s₀ : State} {m : Nat} {s : State} (h₀ : Frame w₀ s₀ s) (hw₀ : 87141384192 ||| w₀ = w₀) :
    Frame w₀ s₀ (segEnd m s) := by
  refine h₀.trans 87141384192 ?_ hw₀
  clear h₀ hw₀
  unfold segEnd
  repeat' first
      | with_reducible assumption
      | with_reducible exact Frame.refl
      | ((first | intro x | (lift_lets -underBinder; intro x)); first
      | (refine Frame.cut (w := 87141384192) (s := s) (x := x) ?_ fun _ => ?_; (on_goal 1 => try dsimp only [x]); (on_goal 2 => clear_value x))
      | clear_value x)
      | ((with_reducible refine State.mvEvent_frame ?_ ?_); on_goal 2 => rfl)
      | ((with_reducible refine updMover_frame ?_ ?_); on_goal 2 => rfl)
      | ((with_reducible refine updRunning_frame ?_ ?_); on_goal 2 => rfl)
      | ((with_reducible refine applyTokens_frame ?_ ?_); on_goal 2 => rfl)
      | with_reducible refine Frame.ite ?_ ?_
      | split

theorem segWrites_frame {w₀ : Nat} {s₀ : State} {m : Nat} {s : State} (h₀ : Frame w₀ s₀ s) (hw₀ : 35275808614488 ||| w₀ = w₀) :
    Frame w₀ s₀ (segWrites m s).2 := by
  refine h₀.trans 35275808614488 ?_ hw₀
  clear h₀ hw₀
  unfold segWrites
  repeat' first
      | with_reducible exact Frame.refl
      | ((first | intro x | (lift_lets -underBinder; intro x)); first
      | clear_value x)
      | ((with_reducible refine writeAll_frame ?_ ?_); on_goal 2 => rfl)
      | ((with_reducible refine segEnd_frame ?_ ?_); on_goal 2 => rfl)
      | dsimp -zeta only
      | with_reducible refine Frame.ite ?_ ?_

theorem dropStale_frame {w₀ : Nat} {s₀ : State} {m : Nat} {s : State} (h₀ : Frame w₀ s₀ s) (hw₀ : 87141384192 ||| w₀ = w₀) :
    Frame w₀ s₀ (dropStale m s) := by
  refine h₀.trans 87141384192 ?_ hw₀
  clear h₀ hw₀
  unfold dropStale
  repeat' first
      | with_reducible assumption
      | with_reducible exact Frame.refl
      | ((first | intro x | (lift_lets -underBinder; intro x)); first
      | (refine Frame.cut (w := 87141384192) (s := s) (x := x) ?_ fun _ => ?_; (on_goal 1 => try dsimp only [x]); (on_goal 2 => clear_value x))
      | clear_value x)
      | ((with_reducible refine hallStale_frame ?_ ?_); on_goal 2 => rfl)
      | ((with_reducible refine workEnd_frame ?_ ?_); on_goal 2 => rfl)
      | ((with_reducible refine updMover_frame ?_ ?_); on_goal 2 => rfl)
      | with_reducible refine Frame.forAll (fun _ s => ?_) _ ?_
      | with_reducible refine Frame.ite ?_ ?_
      | split

theorem segStep_frame {w₀ : Nat} {s₀ : State} {m : Nat} {s : State} (h₀ : Frame w₀ s₀ s) (hw₀ : 35275808614520 ||| w₀ = w₀) :
    Frame w₀ s₀ (segStep m s).2 := by
  refine h₀.trans 35275808614520 ?_ hw₀
  clear h₀ hw₀
  unfold segStep
  repeat' first
      | with_reducible exact Frame.refl
      | ((first | intro x | (lift_lets -underBinder; intro x)); first
      | clear_value x)
      | ((with_reducible refine askAll_frame ?_ ?_); on_goal 2 => rfl)
      | ((with_reducible refine startWrites_frame ?_ ?_); on_goal 2 => rfl)
      | ((with_reducible refine segWrites_frame ?_ ?_); on_goal 2 => rfl)
      | ((with_reducible refine dropStale_frame ?_ ?_); on_goal 2 => rfl)
      | dsimp -zeta only
      | with_reducible refine Frame.ite2 ?_ ?_
      | split

theorem moverTake_frame {w₀ : Nat} {s₀ : State} {m : Nat} {n : Nat} {store : Bool} {st : Status} {data : Bytes} {s : State} (h₀ : Frame w₀ s₀ s) (hw₀ : 35275808614520 ||| w₀ = w₀) :
    Frame w₀ s₀ (moverTake m n store st data s).2 := by
  refine h₀.trans 35275808614520 ?_ hw₀
  clear h₀ hw₀
  unfold moverTake
  repeat' first
      | with_reducible assumption
      | with_reducible exact Frame.refl
      | ((first | intro x | (lift_lets -underBinder; intro x)); first
      | (refine Frame.cut (w := 35275808614520) (s := s) (x := x) ?_ fun _ => ?_; (on_goal 1 => try dsimp only [x]); (on_goal 2 => clear_value x))
      | clear_value x)
      | ((with_reducible refine State.mvEvent_frame ?_ ?_); on_goal 2 => rfl)
      | ((with_reducible refine State.mvCount_frame ?_ ?_); on_goal 2 => rfl)
      | ((with_reducible refine progress_frame ?_ ?_); on_goal 2 => rfl)
      | ((with_reducible refine updMover_frame ?_ ?_); on_goal 2 => rfl)
      | ((with_reducible refine updSeg_frame ?_ ?_); on_goal 2 => rfl)
      | ((with_reducible refine segStep_frame ?_ ?_); on_goal 2 => rfl)
      | with_reducible refine Frame.ite ?_ ?_
      | with_reducible refine Frame.ite2 ?_ ?_
      | split

theorem markWaits_frame {w₀ : Nat} {s₀ : State} {m : Nat} {c : Nat} {s : State} (h₀ : Frame w₀ s₀ s) (hw₀ : 33554432 ||| w₀ = w₀) :
    Frame w₀ s₀ (markWaits m c s) := by
  refine h₀.trans 33554432 ?_ hw₀
  clear h₀ hw₀
  unfold markWaits
  repeat' first
      | with_reducible assumption
      | with_reducible exact Frame.refl
      | ((first | intro x | (lift_lets -underBinder; intro x)); first
      | (refine Frame.cut (w := 33554432) (s := s) (x := x) ?_ fun _ => ?_; (on_goal 1 => try dsimp only [x]); (on_goal 2 => clear_value x))
      | clear_value x)
      | ((with_reducible refine workBlocked_frame ?_ ?_); on_goal 2 => rfl)
      | ((with_reducible refine workUnblocked_frame ?_ ?_); on_goal 2 => rfl)
      | with_reducible refine Frame.forAll (fun _ s => ?_) _ ?_

theorem moverSegmentOp_frame {w₀ : Nat} {s₀ : State} {m : Nat} {s : State} (h₀ : Frame w₀ s₀ s) (hw₀ : 35275808614520 ||| w₀ = w₀) :
    Frame w₀ s₀ (moverSegmentOp m s).2 := by
  refine h₀.trans 35275808614520 ?_ hw₀
  clear h₀ hw₀
  unfold moverSegmentOp
  repeat' first
      | with_reducible assumption
      | with_reducible exact Frame.refl
      | ((first | intro x | (lift_lets -underBinder; intro x)); first
      | (refine Frame.cut (w := 35275808614520) (s := s) (x := x) ?_ fun _ => ?_; (on_goal 1 => try dsimp only [x]); (on_goal 2 => clear_value x))
      | clear_value x)
      | ((with_reducible refine State.mvCount_frame ?_ ?_); on_goal 2 => rfl)
      | ((with_reducible refine hallCount_frame ?_ ?_); on_goal 2 => rfl)
      | ((with_reducible refine updMover_frame ?_ ?_); on_goal 2 => rfl)
      | ((with_reducible refine updRunning_frame ?_ ?_); on_goal 2 => rfl)
      | ((with_reducible refine applyTokens_frame ?_ ?_); on_goal 2 => rfl)
      | ((with_reducible refine dropStale_frame ?_ ?_); on_goal 2 => rfl)
      | ((with_reducible refine segStep_frame ?_ ?_); on_goal 2 => rfl)
      | ((with_reducible refine markWaits_frame ?_ ?_); on_goal 2 => rfl)
      | with_reducible refine Frame.ite2 ?_ ?_
      | split

theorem descriptorComplete_frame {w₀ : Nat} {s₀ : State} {m : Nat} {s : State} (h₀ : Frame w₀ s₀ s) (hw₀ : 87142432768 ||| w₀ = w₀) :
    Frame w₀ s₀ (descriptorComplete m s) := by
  refine h₀.trans 87142432768 ?_ hw₀
  clear h₀ hw₀
  unfold descriptorComplete
  repeat' first
      | with_reducible assumption
      | with_reducible exact Frame.refl
      | ((first | intro x | (lift_lets -underBinder; intro x)); first
      | (refine Frame.cut (w := 87142432768) (s := s) (x := x) ?_ fun _ => ?_; (on_goal 1 => try dsimp only [x]); (on_goal 2 => clear_value x))
      | clear_value x)
      | ((with_reducible refine State.mvEvent_frame ?_ ?_); on_goal 2 => rfl)
      | ((with_reducible refine State.mvCount_frame ?_ ?_); on_goal 2 => rfl)
      | ((with_reducible refine workEnd_frame ?_ ?_); on_goal 2 => rfl)
      | ((with_reducible refine updMover_frame ?_ ?_); on_goal 2 => rfl)
      | ((with_reducible refine Frame.updMv ?_ ?_); on_goal 2 => rfl)
      | with_reducible refine Frame.ite ?_ ?_
      | split

theorem abortTokenOp_frame {w₀ : Nat} {s₀ : State} {m : Nat} {q : Nat} {qgen : BitVec 16} {s : State} (h₀ : Frame w₀ s₀ s) (hw₀ : 87141384192 ||| w₀ = w₀) :
    Frame w₀ s₀ (abortTokenOp m q qgen s) := by
  refine h₀.trans 87141384192 ?_ hw₀
  clear h₀ hw₀
  unfold abortTokenOp
  repeat' first
      | with_reducible assumption
      | with_reducible exact Frame.refl
      | ((first | intro x | (lift_lets -underBinder; intro x)); first
      | (refine Frame.cut (w := 87141384192) (s := s) (x := x) ?_ fun _ => ?_; (on_goal 1 => try dsimp only [x]); (on_goal 2 => clear_value x)))
      | ((with_reducible refine updMover_frame ?_ ?_); on_goal 2 => rfl)
      | ((with_reducible refine applyTokens_frame ?_ ?_); on_goal 2 => rfl)

theorem mvCommand_frame {w₀ : Nat} {s₀ : State} {op : Nat} {m : Nat} {s : State} (h₀ : Frame w₀ s₀ s) (hw₀ : 17181442048 ||| w₀ = w₀) :
    Frame w₀ s₀ (mvCommand op m s) := by
  refine h₀.trans 17181442048 ?_ hw₀
  clear h₀ hw₀
  unfold mvCommand
  repeat' first
      | with_reducible assumption
      | with_reducible exact Frame.refl
      | ((first | intro x | (lift_lets -underBinder; intro x)); first
      | (refine Frame.cut (w := 17181442048) (s := s) (x := x) ?_ fun _ => ?_; (on_goal 1 => try dsimp only [x]); (on_goal 2 => clear_value x))
      | (refine Frame.cutFn2 (w := 17181442048) (f := x) ?_ fun _ => ?_; (on_goal 1 => intro _ s; try dsimp only [x]); (on_goal 2 => clear_value x)))
      | ((with_reducible refine moverPut_frame ?_ ?_); on_goal 2 => rfl)
      | ((with_reducible refine Frame.updMv ?_ ?_); on_goal 2 => rfl)
      | with_reducible refine Frame.app2 ‹_› ?_
      | with_reducible refine Frame.ite ?_ ?_
      | split

end Sys2Proof.Machine
end

