-- ==== Sys2Proof/Laws/FrReduce.lean ====
section
/-! SUPPORT. What each operation of Machine/Reduce.lean may change (see Frame.lean). -/

namespace Sys2Proof.Machine

-- One declaration at a time, so that the elaborator holds few threads (each takes stack of its own).
set_option Elab.async false

theorem updRed_frame {w₀ : Nat} {s₀ : State} {u : Nat} {k : Nat} {f : RedSlot → RedSlot} {s : State} (h₀ : Frame w₀ s₀ s) (hw₀ : 2097152 ||| w₀ = w₀) :
    Frame w₀ s₀ (updRed u k f s) := by
  refine h₀.trans 2097152 ?_ hw₀
  clear h₀ hw₀
  unfold updRed
  repeat' first
      | with_reducible exact Frame.refl
      | ((with_reducible refine Frame.updRdSoft (f := _) ?_ ?_ ?_); (on_goal 1 => (intro _; unfold Rd.rest; rfl)); on_goal 2 => rfl)

theorem redPut_frame {w₀ : Nat} {s₀ : State} {u : Nat} {k : Nat} {d : Bytes} {work : Option Nat} {s : State} (h₀ : Frame w₀ s₀ s) (hw₀ : 2097152 ||| w₀ = w₀) :
    Frame w₀ s₀ (redPut u k d work s) := by
  refine h₀.trans 2097152 ?_ hw₀
  clear h₀ hw₀
  unfold redPut
  repeat' first
      | with_reducible exact Frame.refl
      | ((with_reducible refine updRed_frame ?_ ?_); on_goal 2 => rfl)

theorem redAbort_frame {w₀ : Nat} {s₀ : State} {u : Nat} {k : Nat} {st : Status} {s : State} (h₀ : Frame w₀ s₀ s) (hw₀ : 17592188149760 ||| w₀ = w₀) :
    Frame w₀ s₀ (redAbort u k st s) := by
  refine h₀.trans 17592188149760 ?_ hw₀
  clear h₀ hw₀
  unfold redAbort
  repeat' first
      | with_reducible assumption
      | with_reducible exact Frame.refl
      | ((first | intro x | (lift_lets -underBinder; intro x)); first
      | (refine Frame.cut (w := 17592188149760) (s := s) (x := x) ?_ fun _ => ?_; (on_goal 1 => try dsimp only [x]); (on_goal 2 => clear_value x))
      | clear_value x)
      | ((with_reducible refine State.rdCount_frame ?_ ?_); on_goal 2 => rfl)
      | ((with_reducible refine updRx_frame ?_ ?_); on_goal 2 => rfl)
      | ((with_reducible refine txWithdraw_frame ?_ ?_); on_goal 2 => rfl)
      | ((with_reducible refine updRed_frame ?_ ?_); on_goal 2 => rfl)
      | with_reducible refine Frame.ite ?_ ?_
      | split

theorem redAbortAll_frame {w₀ : Nat} {s₀ : State} {p : Bytes → Bool} {st : Status} {s : State} (h₀ : Frame w₀ s₀ s) (hw₀ : 17592188149760 ||| w₀ = w₀) :
    Frame w₀ s₀ (redAbortAll p st s) := by
  refine h₀.trans 17592188149760 ?_ hw₀
  clear h₀ hw₀
  unfold redAbortAll
  repeat' first
      | with_reducible exact Frame.refl
      | ((with_reducible refine redAbort_frame ?_ ?_); on_goal 2 => rfl)
      | with_reducible refine Frame.forAll (fun _ s => ?_) _ ?_

theorem redToken_frame {w₀ : Nat} {s₀ : State} {u : Nat} {q : Nat} {qgen : BitVec 16} {s : State} (h₀ : Frame w₀ s₀ s) (hw₀ : 17592221704192 ||| w₀ = w₀) :
    Frame w₀ s₀ (redToken u q qgen s) := by
  refine h₀.trans 17592221704192 ?_ hw₀
  clear h₀ hw₀
  unfold redToken
  repeat' first
      | with_reducible exact Frame.refl
      | ((first | intro x | (lift_lets -underBinder; intro x)); first
      | clear_value x)
      | ((with_reducible refine abortAck_frame ?_ ?_); on_goal 2 => rfl)
      | ((with_reducible refine redAbort_frame ?_ ?_); on_goal 2 => rfl)
      | with_reducible refine Frame.forAll (fun _ s => ?_) _ ?_
      | with_reducible refine Frame.ite ?_ ?_

theorem localTrans_frame {w₀ : Nat} {s₀ : State} {d : Bytes} {l : List Nat} {s : State} (h₀ : Frame w₀ s₀ s) (hw₀ : 74088185856 ||| w₀ = w₀) :
    Frame w₀ s₀ (localTrans d l s).2 := by
  refine h₀.trans 74088185856 ?_ hw₀
  clear h₀ hw₀
  unfold localTrans
  repeat' first
      | with_reducible exact Frame.refl
      | ((with_reducible refine hallStale_frame ?_ ?_); on_goal 2 => rfl)
      | ((with_reducible refine translate_frame ?_ ?_); on_goal 2 => rfl)
      | with_reducible refine Frame.foldl (fun _ _ => ?_) _ ?_
      | (refine Frame.ofEq ‹_› ?_)
      | with_reducible refine Frame.ite2 ?_ ?_
      | split

theorem redFlush_frame {w₀ : Nat} {s₀ : State} {u : Nat} {k : Nat} {last : Bool} {s : State} (h₀ : Frame w₀ s₀ s) (hw₀ : 2105344 ||| w₀ = w₀) :
    Frame w₀ s₀ (redFlush u k last s) := by
  refine h₀.trans 2105344 ?_ hw₀
  clear h₀ hw₀
  unfold redFlush
  repeat' first
      | with_reducible exact Frame.refl
      | ((first | intro x | (lift_lets -underBinder; intro x)); first
      | clear_value x)
      | ((with_reducible refine txPush_frame ?_ ?_); on_goal 2 => rfl)
      | ((with_reducible refine updRed_frame ?_ ?_); on_goal 2 => rfl)
      | split

theorem redStore_frame {w₀ : Nat} {s₀ : State} {u : Nat} {k : Nat} {d : Bytes} {e : Nat} {ne : Nat} {v : Bytes} {s : State} (h₀ : Frame w₀ s₀ s) (hw₀ : 35275776630872 ||| w₀ = w₀) :
    Frame w₀ s₀ (redStore u k d e ne v s).2 := by
  refine h₀.trans 35275776630872 ?_ hw₀
  clear h₀ hw₀
  unfold redStore
  repeat' first
      | with_reducible exact Frame.refl
      | ((with_reducible refine State.rdCount_frame ?_ ?_); on_goal 2 => rfl)
      | ((with_reducible refine writeLine_frame ?_ ?_); on_goal 2 => rfl)
      | ((with_reducible refine updRed_frame ?_ ?_); on_goal 2 => rfl)
      | with_reducible refine Frame.foldl (fun _ _ => ?_) _ ?_
      | with_reducible refine Frame.ite ?_ ?_

theorem redAdvance_frame {w₀ : Nat} {s₀ : State} {u : Nat} {k : Nat} {s : State} (h₀ : Frame w₀ s₀ s) (hw₀ : 2097152 ||| w₀ = w₀) :
    Frame w₀ s₀ (redAdvance u k s) := by
  refine h₀.trans 2097152 ?_ hw₀
  clear h₀ hw₀
  unfold redAdvance
  repeat' first
      | with_reducible exact Frame.refl
      | ((first | intro x | (lift_lets -underBinder; intro x)); first
      | clear_value x)
      | ((with_reducible refine updRed_frame ?_ ?_); on_goal 2 => rfl)
      | split

theorem redPiece_frame {w₀ : Nat} {s₀ : State} {u : Nat} {k : Nat} {n : Nat} {s : State} (h₀ : Frame w₀ s₀ s) (hw₀ : 35275776630872 ||| w₀ = w₀) :
    Frame w₀ s₀ (redPiece u k n s).2 := by
  refine h₀.trans 35275776630872 ?_ hw₀
  clear h₀ hw₀
  unfold redPiece
  repeat' first
      | with_reducible assumption
      | with_reducible exact Frame.refl
      | ((first | intro x | (lift_lets -underBinder; intro x)); first
      | (refine Frame.cut (w := 35275776630872) (s := s) (x := x) ?_ fun _ => ?_; (on_goal 1 => try dsimp only [x]); (on_goal 2 => clear_value x))
      | clear_value x)
      | ((with_reducible refine State.rdCount_frame ?_ ?_); on_goal 2 => rfl)
      | ((with_reducible refine progress_frame ?_ ?_); on_goal 2 => rfl)
      | ((with_reducible refine updRed_frame ?_ ?_); on_goal 2 => rfl)
      | ((with_reducible refine redFlush_frame ?_ ?_); on_goal 2 => rfl)
      | ((with_reducible refine redStore_frame ?_ ?_); on_goal 2 => rfl)
      | ((with_reducible refine redAdvance_frame ?_ ?_); on_goal 2 => rfl)
      | dsimp -zeta only
      | with_reducible refine Frame.ite ?_ ?_
      | with_reducible refine Frame.ite2 ?_ ?_

theorem redSliceOp_frame {w₀ : Nat} {s₀ : State} {u : Nat} {k : Nat} {lines : List MemLine} {s : State} (h₀ : Frame w₀ s₀ s) (hw₀ : 52867962675288 ||| w₀ = w₀) :
    Frame w₀ s₀ (redSliceOp u k lines s).2 := by
  refine h₀.trans 52867962675288 ?_ hw₀
  clear h₀ hw₀
  unfold redSliceOp
  repeat' first
      | with_reducible assumption
      | with_reducible exact Frame.refl
      | ((first | intro x | (lift_lets -underBinder; intro x)); first
      | (refine Frame.cut (w := 52867962675288) (s := s) (x := x) ?_ fun _ => ?_; (on_goal 1 => try dsimp only [x]); (on_goal 2 => clear_value x))
      | clear_value x)
      | ((with_reducible refine State.rdEvent_frame ?_ ?_); on_goal 2 => rfl)
      | ((with_reducible refine State.rdCount_frame ?_ ?_); on_goal 2 => rfl)
      | ((with_reducible refine reportFault_frame ?_ ?_); on_goal 2 => rfl)
      | ((with_reducible refine memCorrected_frame ?_ ?_); on_goal 2 => rfl)
      | ((with_reducible refine updRed_frame ?_ ?_); on_goal 2 => rfl)
      | ((with_reducible refine redAbort_frame ?_ ?_); on_goal 2 => rfl)
      | ((with_reducible refine localTrans_frame ?_ ?_); on_goal 2 => rfl)
      | ((with_reducible refine redPiece_frame ?_ ?_); on_goal 2 => rfl)
      | dsimp -zeta only
      | with_reducible refine Frame.ite ?_ ?_
      | with_reducible refine Frame.ite2 ?_ ?_

theorem redFeed_frame {w₀ : Nat} {s₀ : State} {u : Nat} {k : Nat} {b : Bytes} {s : State} (h₀ : Frame w₀ s₀ s) (hw₀ : 17181966336 ||| w₀ = w₀) :
    Frame w₀ s₀ (redFeed u k b s) := by
  refine h₀.trans 17181966336 ?_ hw₀
  clear h₀ hw₀
  unfold redFeed
  repeat' first
      | with_reducible exact Frame.refl
      | ((with_reducible refine progress_frame ?_ ?_); on_goal 2 => rfl)
      | ((with_reducible refine updRed_frame ?_ ?_); on_goal 2 => rfl)

theorem redMismatch_frame {w₀ : Nat} {s₀ : State} {natural : Bool} {u : Nat} {k : Nat} {s : State} (h₀ : Frame w₀ s₀ s) (hw₀ : 17665202593792 ||| w₀ = w₀) :
    Frame w₀ s₀ (redMismatch natural u k s) := by
  refine h₀.trans 17665202593792 ?_ hw₀
  clear h₀ hw₀
  unfold redMismatch
  repeat' first
      | with_reducible exact Frame.refl
      | ((first | intro x | (lift_lets -underBinder; intro x)); first
      | clear_value x)
      | ((with_reducible refine State.rdEvent_frame ?_ ?_); on_goal 2 => rfl)
      | ((with_reducible refine reportFault_frame ?_ ?_); on_goal 2 => rfl)
      | ((with_reducible refine redAbort_frame ?_ ?_); on_goal 2 => rfl)

theorem redInputLost_frame {w₀ : Nat} {s₀ : State} {u : Nat} {k : Nat} {s : State} (h₀ : Frame w₀ s₀ s) (hw₀ : 17592188149760 ||| w₀ = w₀) :
    Frame w₀ s₀ (redInputLost u k s) := by
  refine h₀.trans 17592188149760 ?_ hw₀
  clear h₀ hw₀
  unfold redInputLost
  repeat' first
      | with_reducible exact Frame.refl
      | ((with_reducible refine State.rdEvent_frame ?_ ?_); on_goal 2 => rfl)
      | ((with_reducible refine redAbort_frame ?_ ?_); on_goal 2 => rfl)

theorem redTake_frame {w₀ : Nat} {s₀ : State} {u : Nat} {k : Nat} {unit : Nat} {st : Status} {s : State} (h₀ : Frame w₀ s₀ s) (hw₀ : 17592188149760 ||| w₀ = w₀) :
    Frame w₀ s₀ (redTake u k unit st s) := by
  refine h₀.trans 17592188149760 ?_ hw₀
  clear h₀ hw₀
  unfold redTake
  repeat' first
      | with_reducible assumption
      | with_reducible exact Frame.refl
      | ((first | intro x | (lift_lets -underBinder; intro x)); first
      | (refine Frame.cut (w := 17592188149760) (s := s) (x := x) ?_ fun _ => ?_; (on_goal 1 => try dsimp only [x]); (on_goal 2 => clear_value x))
      | clear_value x)
      | ((with_reducible refine updRed_frame ?_ ?_); on_goal 2 => rfl)
      | ((with_reducible refine redAbort_frame ?_ ?_); on_goal 2 => rfl)
      | with_reducible refine Frame.ite ?_ ?_

theorem redCompleteOp_frame {w₀ : Nat} {s₀ : State} {u : Nat} {k : Nat} {s : State} (h₀ : Frame w₀ s₀ s) (hw₀ : 87142957056 ||| w₀ = w₀) :
    Frame w₀ s₀ (redCompleteOp u k s) := by
  refine h₀.trans 87142957056 ?_ hw₀
  clear h₀ hw₀
  unfold redCompleteOp
  repeat' first
      | with_reducible assumption
      | with_reducible exact Frame.refl
      | ((first | intro x | (lift_lets -underBinder; intro x)); first
      | (refine Frame.cut (w := 87142957056) (s := s) (x := x) ?_ fun _ => ?_; (on_goal 1 => try dsimp only [x]); (on_goal 2 => clear_value x))
      | clear_value x)
      | ((with_reducible refine State.rdCount_frame ?_ ?_); on_goal 2 => rfl)
      | ((with_reducible refine abortAck_frame ?_ ?_); on_goal 2 => rfl)
      | ((with_reducible refine workEnd_frame ?_ ?_); on_goal 2 => rfl)
      | ((with_reducible refine updRed_frame ?_ ?_); on_goal 2 => rfl)
      | with_reducible refine Frame.ite ?_ ?_
      | split

theorem rdCommand_frame {w₀ : Nat} {s₀ : State} {op : Nat} {u : Nat} {k : Nat} {s : State} (h₀ : Frame w₀ s₀ s) (hw₀ : 17592192344064 ||| w₀ = w₀) :
    Frame w₀ s₀ (rdCommand op u k s) := by
  refine h₀.trans 17592192344064 ?_ hw₀
  clear h₀ hw₀
  unfold rdCommand
  repeat' first
      | with_reducible assumption
      | with_reducible exact Frame.refl
      | ((first | intro x | (lift_lets -underBinder; intro x)); first
      | (refine Frame.cut (w := 17592192344064) (s := s) (x := x) ?_ fun _ => ?_; (on_goal 1 => try dsimp only [x]); (on_goal 2 => clear_value x))
      | (refine Frame.cutFn2 (w := 17592192344064) (f := x) ?_ fun _ => ?_; (on_goal 1 => intro _ s; try dsimp only [x]); (on_goal 2 => clear_value x))
      | clear_value x)
      | ((with_reducible refine redAbort_frame ?_ ?_); on_goal 2 => rfl)
      | ((with_reducible refine Frame.updRd ?_ ?_); on_goal 2 => rfl)
      | with_reducible refine Frame.app2 ‹_› ?_
      | with_reducible refine Frame.ite ?_ ?_
      | split

end Sys2Proof.Machine
end

