-- ==== Sys2Proof/Laws/FrAtomic.lean ====
section
/-! SUPPORT. What each operation of Machine/Atomic.lean may change (see Frame.lean). -/

namespace Sys2Proof.Machine

-- One declaration at a time, so that the elaborator holds few threads (each takes stack of its own).
set_option Elab.async false

theorem updHeld_frame {w₀ : Nat} {s₀ : State} {i : Nat} {seq : Nat} {f : HeldFrame → HeldFrame} {s : State} (h₀ : Frame w₀ s₀ s) (hw₀ : 8192 ||| w₀ = w₀) :
    Frame w₀ s₀ (updHeld i seq f s) := by
  refine h₀.trans 8192 ?_ hw₀
  clear h₀ hw₀
  unfold updHeld
  repeat' first
      | with_reducible assumption
      | with_reducible exact Frame.refl
      | ((first | intro x | (lift_lets -underBinder; intro x)); first
      | (refine Frame.cut (w := 8192) (s := s) (x := x) ?_ fun _ => ?_; (on_goal 1 => try dsimp only [x]); (on_goal 2 => clear_value x))
      | clear_value x)
      | ((with_reducible refine rxCount_frame ?_ ?_); on_goal 2 => rfl)
      | ((with_reducible refine updRx_frame ?_ ?_); on_goal 2 => rfl)
      | with_reducible refine Frame.ite ?_ ?_

theorem takeHeld_frame {w₀ : Nat} {s₀ : State} {i : Nat} {seq : Nat} {n : Nat} {s : State} (h₀ : Frame w₀ s₀ s) (hw₀ : 8192 ||| w₀ = w₀) :
    Frame w₀ s₀ (takeHeld i seq n s) := by
  refine h₀.trans 8192 ?_ hw₀
  clear h₀ hw₀
  unfold takeHeld
  repeat' first
      | with_reducible exact Frame.refl
      | ((with_reducible refine updHeld_frame ?_ ?_); on_goal 2 => rfl)

theorem heldDone_frame {w₀ : Nat} {s₀ : State} {i : Nat} {seq : Nat} {s : State} (h₀ : Frame w₀ s₀ s) (hw₀ : 8192 ||| w₀ = w₀) :
    Frame w₀ s₀ (heldDone i seq s) := by
  refine h₀.trans 8192 ?_ hw₀
  clear h₀ hw₀
  unfold heldDone
  repeat' first
      | with_reducible exact Frame.refl
      | ((with_reducible refine updHeld_frame ?_ ?_); on_goal 2 => rfl)

theorem keepRx_frame {w₀ : Nat} {s₀ : State} {i : Nat} {st : Status} {s : State} (h₀ : Frame w₀ s₀ s) (hw₀ : 8192 ||| w₀ = w₀) :
    Frame w₀ s₀ (keepRx i st s) := by
  refine h₀.trans 8192 ?_ hw₀
  clear h₀ hw₀
  unfold keepRx
  repeat' first
      | with_reducible exact Frame.refl
      | ((with_reducible refine updRx_frame ?_ ?_); on_goal 2 => rfl)
      | with_reducible refine Frame.ite ?_ ?_

theorem updHome_frame {w₀ : Nat} {s₀ : State} {id : Nat} {f : HomeReq → HomeReq} {s : State} (h₀ : Frame w₀ s₀ s) (hw₀ : 8388608 ||| w₀ = w₀) :
    Frame w₀ s₀ (updHome id f s) := by
  refine h₀.trans 8388608 ?_ hw₀
  clear h₀ hw₀
  unfold updHome
  repeat' first
      | with_reducible exact Frame.refl
      | ((with_reducible refine Frame.updAuSoft (f := _) ?_ ?_ ?_); (on_goal 1 => (intro _; unfold Au.rest; rfl)); on_goal 2 => rfl)

theorem homeUnitDone_frame {w₀ : Nat} {s₀ : State} {id : Nat} {u : Nat} {st : Status} {data : Bytes} {s : State} (h₀ : Frame w₀ s₀ s) (hw₀ : 17188265984 ||| w₀ = w₀) :
    Frame w₀ s₀ (homeUnitDone id u st data s) := by
  refine h₀.trans 17188265984 ?_ hw₀
  clear h₀ hw₀
  unfold homeUnitDone
  repeat' first
      | with_reducible assumption
      | with_reducible exact Frame.refl
      | ((first | intro x | (lift_lets -underBinder; intro x)); first
      | (refine Frame.cut (w := 17188265984) (s := s) (x := x) ?_ fun _ => ?_; (on_goal 1 => try dsimp only [x]); (on_goal 2 => clear_value x)))
      | ((with_reducible refine progress_frame ?_ ?_); on_goal 2 => rfl)
      | ((with_reducible refine heldDone_frame ?_ ?_); on_goal 2 => rfl)
      | ((with_reducible refine keepRx_frame ?_ ?_); on_goal 2 => rfl)
      | ((with_reducible refine updHome_frame ?_ ?_); on_goal 2 => rfl)
      | with_reducible refine Frame.ite ?_ ?_
      | split

theorem homeAdd_frame {w₀ : Nat} {s₀ : State} {r : HomeReq} {s : State} (h₀ : Frame w₀ s₀ s) (hw₀ : 8388608 ||| w₀ = w₀) :
    Frame w₀ s₀ (homeAdd r s) := by
  refine h₀.trans 8388608 ?_ hw₀
  clear h₀ hw₀
  unfold homeAdd
  repeat' first
      | with_reducible assumption
      | with_reducible exact Frame.refl
      | ((first | intro x | (lift_lets -underBinder; intro x)); first
      | (refine Frame.cut (w := 8388608) (s := s) (x := x) ?_ fun _ => ?_; (on_goal 1 => try dsimp only [x]); (on_goal 2 => clear_value x)))
      | ((with_reducible refine State.auEvent_frame ?_ ?_); on_goal 2 => rfl)
      | ((with_reducible refine Frame.updAuSoft (f := _) ?_ ?_ ?_); (on_goal 1 => (intro _; unfold Au.rest; rfl)); on_goal 2 => rfl)
      | with_reducible refine Frame.ite ?_ ?_

theorem homeTarget_frame {w₀ : Nat} {s₀ : State} {b : Bytes} {u : Nat} {s : State} (h₀ : Frame w₀ s₀ s) (hw₀ : 74088185856 ||| w₀ = w₀) :
    Frame w₀ s₀ (homeTarget b u s).2 := by
  refine h₀.trans 74088185856 ?_ hw₀
  clear h₀ hw₀
  unfold homeTarget
  repeat' first
      | with_reducible exact Frame.refl
      | ((first | intro x | (lift_lets -underBinder; intro x)); first
      | (refine Frame.cutFnP2 (w := 74088185856) (f := x) ?_ fun _ => ?_; (on_goal 1 => intro _ _ s; try dsimp only [x]); (on_goal 2 => clear_value x))
      | clear_value x)
      | ((with_reducible refine hallCount_frame ?_ ?_); on_goal 2 => rfl)
      | ((with_reducible refine hallStale_frame ?_ ?_); on_goal 2 => rfl)
      | ((with_reducible refine translate_frame ?_ ?_); on_goal 2 => rfl)
      | (refine Frame.ofEq ‹_› ?_)
      | with_reducible refine Frame.app3 ‹_› ?_
      | with_reducible refine Frame.ite2 ?_ ?_
      | split

theorem homeTargets_frame {w₀ : Nat} {s₀ : State} {b : Bytes} {s : State} (h₀ : Frame w₀ s₀ s) (hw₀ : 74088185856 ||| w₀ = w₀) :
    Frame w₀ s₀ (homeTargets b s).2 := by
  refine h₀.trans 74088185856 ?_ hw₀
  clear h₀ hw₀
  unfold homeTargets
  repeat' first
      | with_reducible exact Frame.refl
      | ((with_reducible refine homeTarget_frame ?_ ?_); on_goal 2 => rfl)
      | with_reducible refine Frame.foldl (fun _ _ => ?_) _ ?_

theorem homeEnter_frame {w₀ : Nat} {s₀ : State} {ctx : Nat} {seq : Nat} {o : Owner} {p : Bytes} {s : State} (h₀ : Frame w₀ s₀ s) (hw₀ : 91276451840 ||| w₀ = w₀) :
    Frame w₀ s₀ (homeEnter ctx seq o p s) := by
  refine h₀.trans 91276451840 ?_ hw₀
  clear h₀ hw₀
  unfold homeEnter
  repeat' first
      | with_reducible exact Frame.refl
      | ((first | intro x | (lift_lets -underBinder; intro x)); first
      | clear_value x)
      | ((with_reducible refine homeUnitDone_frame ?_ ?_); on_goal 2 => rfl)
      | ((with_reducible refine homeAdd_frame ?_ ?_); on_goal 2 => rfl)
      | ((with_reducible refine homeTargets_frame ?_ ?_); on_goal 2 => rfl)
      | with_reducible refine Frame.forAll (fun _ s => ?_) _ ?_
      | with_reducible refine Frame.ite ?_ ?_

theorem updComb_frame {w₀ : Nat} {s₀ : State} {e : Nat} {f : Comb → Comb} {s : State} (h₀ : Frame w₀ s₀ s) (hw₀ : 8388608 ||| w₀ = w₀) :
    Frame w₀ s₀ (updComb e f s) := by
  refine h₀.trans 8388608 ?_ hw₀
  clear h₀ hw₀
  unfold updComb
  repeat' first
      | with_reducible exact Frame.refl
      | ((with_reducible refine Frame.updAuSoft (f := _) ?_ ?_ ?_); (on_goal 1 => (intro _; unfold Au.rest; rfl)); on_goal 2 => rfl)

theorem combFree_frame {w₀ : Nat} {s₀ : State} {e : Nat} {s : State} (h₀ : Frame w₀ s₀ s) (hw₀ : 8388608 ||| w₀ = w₀) :
    Frame w₀ s₀ (combFree e s) := by
  refine h₀.trans 8388608 ?_ hw₀
  clear h₀ hw₀
  unfold combFree
  repeat' first
      | with_reducible exact Frame.refl
      | ((with_reducible refine Frame.updAuSoft (f := _) ?_ ?_ ?_); (on_goal 1 => (intro _; unfold Au.rest; rfl)); on_goal 2 => rfl)

theorem sigsDone_frame {w₀ : Nat} {s₀ : State} {l : List (Nat × Nat)} {s : State} (h₀ : Frame w₀ s₀ s) (hw₀ : 8192 ||| w₀ = w₀) :
    Frame w₀ s₀ (sigsDone l s) := by
  refine h₀.trans 8192 ?_ hw₀
  clear h₀ hw₀
  unfold sigsDone
  repeat' first
      | with_reducible exact Frame.refl
      | ((with_reducible refine heldDone_frame ?_ ?_); on_goal 2 => rfl)
      | with_reducible refine Frame.forAll (fun _ s => ?_) _ ?_
      | with_reducible refine Frame.ite ?_ ?_

theorem combWrite_frame {w₀ : Nat} {s₀ : State} {e : Nat} {s : State} (h₀ : Frame w₀ s₀ s) (hw₀ : 35275782922328 ||| w₀ = w₀) :
    Frame w₀ s₀ (combWrite e s).2 := by
  refine h₀.trans 35275782922328 ?_ hw₀
  clear h₀ hw₀
  unfold combWrite
  repeat' first
      | with_reducible assumption
      | with_reducible exact Frame.refl
      | ((first | intro x | (lift_lets -underBinder; intro x)); first
      | (refine Frame.cut (w := 35275782922328) (s := s) (x := x) ?_ fun _ => ?_; (on_goal 1 => try dsimp only [x]); (on_goal 2 => clear_value x))
      | clear_value x)
      | ((with_reducible refine mpWrite_frame ?_ ?_); on_goal 2 => rfl)
      | ((with_reducible refine lineIssue_frame ?_ ?_); on_goal 2 => rfl)
      | ((with_reducible refine updComb_frame ?_ ?_); on_goal 2 => rfl)
      | with_reducible refine Frame.ite2 ?_ ?_

theorem combClean_frame {w₀ : Nat} {s₀ : State} {e : Nat} {who : Nat × Nat} {s : State} (h₀ : Frame w₀ s₀ s) (hw₀ : 35275782922328 ||| w₀ = w₀) :
    Frame w₀ s₀ (combClean e who s).2 := by
  refine h₀.trans 35275782922328 ?_ hw₀
  clear h₀ hw₀
  unfold combClean
  repeat' first
      | with_reducible exact Frame.refl
      | ((first | intro x | (lift_lets -underBinder; intro x)); first
      | clear_value x)
      | ((with_reducible refine updComb_frame ?_ ?_); on_goal 2 => rfl)
      | ((with_reducible refine combWrite_frame ?_ ?_); on_goal 2 => rfl)
      | with_reducible refine Frame.ite2 ?_ ?_

theorem flushStep_frame {w₀ : Nat} {s₀ : State}  {s : State} (h₀ : Frame w₀ s₀ s) (hw₀ : 8388608 ||| w₀ = w₀) :
    Frame w₀ s₀ (flushStep s) := by
  refine h₀.trans 8388608 ?_ hw₀
  clear h₀ hw₀
  unfold flushStep
  repeat' first
      | with_reducible exact Frame.refl
      | ((with_reducible refine Frame.updAuSoft (f := _) ?_ ?_ ?_); (on_goal 1 => (intro _; unfold Au.rest; rfl)); on_goal 2 => rfl)
      | with_reducible refine Frame.ite ?_ ?_

theorem combWritten_frame {w₀ : Nat} {s₀ : State} {e : Nat} {s : State} (h₀ : Frame w₀ s₀ s) (hw₀ : 35275782922328 ||| w₀ = w₀) :
    Frame w₀ s₀ (combWritten e s).2 := by
  refine h₀.trans 35275782922328 ?_ hw₀
  clear h₀ hw₀
  unfold combWritten
  repeat' first
      | with_reducible assumption
      | with_reducible exact Frame.refl
      | ((first | intro x | (lift_lets -underBinder; intro x)); first
      | (refine Frame.cut (w := 35275782922328) (s := s) (x := x) ?_ fun _ => ?_; (on_goal 1 => try dsimp only [x]); (on_goal 2 => clear_value x))
      | clear_value x)
      | ((with_reducible refine State.auCount_frame ?_ ?_); on_goal 2 => rfl)
      | ((with_reducible refine updComb_frame ?_ ?_); on_goal 2 => rfl)
      | ((with_reducible refine combFree_frame ?_ ?_); on_goal 2 => rfl)
      | ((with_reducible refine sigsDone_frame ?_ ?_); on_goal 2 => rfl)
      | ((with_reducible refine combWrite_frame ?_ ?_); on_goal 2 => rfl)
      | ((with_reducible refine flushStep_frame ?_ ?_); on_goal 2 => rfl)
      | with_reducible refine Frame.ite ?_ ?_
      | with_reducible refine Frame.ite2 ?_ ?_

theorem combPlace_frame {w₀ : Nat} {s₀ : State}  {s : State} (h₀ : Frame w₀ s₀ s) (hw₀ : 35275782922328 ||| w₀ = w₀) :
    Frame w₀ s₀ (combPlace s).2.2 := by
  refine h₀.trans 35275782922328 ?_ hw₀
  clear h₀ hw₀
  unfold combPlace
  repeat' first
      | with_reducible assumption
      | with_reducible exact Frame.refl
      | ((first | intro x | (lift_lets -underBinder; intro x)); first
      | (refine Frame.cut (w := 35275782922328) (s := s) (x := x) ?_ fun _ => ?_; (on_goal 1 => try dsimp only [x]); (on_goal 2 => clear_value x))
      | clear_value x)
      | ((with_reducible refine State.auEvent_frame ?_ ?_); on_goal 2 => rfl)
      | ((with_reducible refine updComb_frame ?_ ?_); on_goal 2 => rfl)
      | ((with_reducible refine combFree_frame ?_ ?_); on_goal 2 => rfl)
      | ((with_reducible refine combWrite_frame ?_ ?_); on_goal 2 => rfl)
      | dsimp -zeta only
      | with_reducible refine Frame.ite3 ?_ ?_
      | split

theorem combJoin_frame {w₀ : Nat} {s₀ : State} {e : Nat} {id : Nat} {u : Nat} {s : State} (h₀ : Frame w₀ s₀ s) (hw₀ : 8388608 ||| w₀ = w₀) :
    Frame w₀ s₀ (combJoin e id u s) := by
  refine h₀.trans 8388608 ?_ hw₀
  clear h₀ hw₀
  unfold combJoin
  repeat' first
      | with_reducible exact Frame.refl
      | ((with_reducible refine updHome_frame ?_ ?_); on_goal 2 => rfl)
      | ((with_reducible refine updComb_frame ?_ ?_); on_goal 2 => rfl)
      | ((with_reducible refine Frame.updAuSoft (f := _) ?_ ?_ ?_); (on_goal 1 => (intro _; unfold Au.rest; rfl)); on_goal 2 => rfl)

theorem serveLoads_frame {w₀ : Nat} {s₀ : State} {e : Nat} {x0 : Nat} {x1 : State} (h₀ : Frame w₀ s₀ x1) (hw₀ : 17188265984 ||| w₀ = w₀) :
    Frame w₀ s₀ (serveLoads e x0 x1) := by
  refine h₀.trans 17188265984 ?_ hw₀
  clear h₀ hw₀
  induction x0 generalizing x1 with
  | zero =>
    unfold serveLoads
    repeat' first
      | with_reducible exact Frame.refl
  | succ n ih =>
    unfold serveLoads
    repeat' first
      | with_reducible exact Frame.refl
      | ((first | intro x | (lift_lets -underBinder; intro x)); first
      | clear_value x)
      | ((with_reducible refine homeUnitDone_frame ?_ ?_); on_goal 2 => rfl)
      | ((with_reducible refine updComb_frame ?_ ?_); on_goal 2 => rfl)
      | with_reducible refine Frame.app ‹_› ?_
      | with_reducible refine Frame.ite ?_ ?_
      | split

theorem combDrop_frame {w₀ : Nat} {s₀ : State} {e : Nat} {st : Status} {s : State} (h₀ : Frame w₀ s₀ s) (hw₀ : 17188265984 ||| w₀ = w₀) :
    Frame w₀ s₀ (combDrop e st s) := by
  refine h₀.trans 17188265984 ?_ hw₀
  clear h₀ hw₀
  unfold combDrop
  repeat' first
      | with_reducible exact Frame.refl
      | ((first | intro x | (lift_lets -underBinder; intro x)); first
      | clear_value x)
      | ((with_reducible refine homeUnitDone_frame ?_ ?_); on_goal 2 => rfl)
      | ((with_reducible refine combFree_frame ?_ ?_); on_goal 2 => rfl)
      | ((with_reducible refine sigsDone_frame ?_ ?_); on_goal 2 => rfl)
      | with_reducible refine Frame.forAll (fun _ s => ?_) _ ?_

theorem atomicApply_frame {w₀ : Nat} {s₀ : State} {e : Nat} {s : State} (h₀ : Frame w₀ s₀ s) (hw₀ : 90219487232 ||| w₀ = w₀) :
    Frame w₀ s₀ (atomicApply e s) := by
  refine h₀.trans 90219487232 ?_ hw₀
  clear h₀ hw₀
  unfold atomicApply
  repeat' first
      | with_reducible assumption
      | with_reducible exact Frame.refl
      | ((first | intro x | (lift_lets -underBinder; intro x)); first
      | (refine Frame.cut (w := 90219487232) (s := s) (x := x) ?_ fun _ => ?_; (on_goal 1 => try dsimp only [x]); (on_goal 2 => clear_value x))
      | (refine Frame.cutFn (w := 90219487232) (f := x) ?_ fun _ => ?_; (on_goal 1 => intro s; try dsimp only [x]); (on_goal 2 => clear_value x))
      | (refine Frame.cutFn2 (w := 90219487232) (f := x) ?_ fun _ => ?_; (on_goal 1 => intro _ s; try dsimp only [x]); (on_goal 2 => clear_value x))
      | clear_value x)
      | ((with_reducible refine State.auEvent_frame ?_ ?_); on_goal 2 => rfl)
      | ((with_reducible refine State.auCount_frame ?_ ?_); on_goal 2 => rfl)
      | ((with_reducible refine sendFault_frame ?_ ?_); on_goal 2 => rfl)
      | ((with_reducible refine reportFault_frame ?_ ?_); on_goal 2 => rfl)
      | ((with_reducible refine homeUnitDone_frame ?_ ?_); on_goal 2 => rfl)
      | ((with_reducible refine updComb_frame ?_ ?_); on_goal 2 => rfl)
      | ((with_reducible refine serveLoads_frame ?_ ?_); on_goal 2 => rfl)
      | ((with_reducible refine combDrop_frame ?_ ?_); on_goal 2 => rfl)
      | ((with_reducible refine Frame.updAu ?_ ?_); on_goal 2 => rfl)
      | with_reducible refine Frame.app ‹_› ?_
      | with_reducible refine Frame.app2 ‹_› ?_
      | with_reducible refine Frame.ite ?_ ?_
      | split

theorem combFilled_frame {w₀ : Nat} {s₀ : State} {e : Nat} {st : Status} {data : Bytes} {s : State} (h₀ : Frame w₀ s₀ s) (hw₀ : 17188265984 ||| w₀ = w₀) :
    Frame w₀ s₀ (combFilled e st data s) := by
  refine h₀.trans 17188265984 ?_ hw₀
  clear h₀ hw₀
  unfold combFilled
  repeat' first
      | with_reducible assumption
      | with_reducible exact Frame.refl
      | ((first | intro x | (lift_lets -underBinder; intro x)); first
      | (refine Frame.cut (w := 17188265984) (s := s) (x := x) ?_ fun _ => ?_; (on_goal 1 => try dsimp only [x]); (on_goal 2 => clear_value x))
      | clear_value x)
      | ((with_reducible refine updHome_frame ?_ ?_); on_goal 2 => rfl)
      | ((with_reducible refine homeUnitDone_frame ?_ ?_); on_goal 2 => rfl)
      | ((with_reducible refine updComb_frame ?_ ?_); on_goal 2 => rfl)
      | ((with_reducible refine combFree_frame ?_ ?_); on_goal 2 => rfl)
      | ((with_reducible refine serveLoads_frame ?_ ?_); on_goal 2 => rfl)
      | with_reducible refine Frame.forAll (fun _ s => ?_) _ ?_
      | with_reducible refine Frame.ite ?_ ?_

theorem homeStart_frame {w₀ : Nat} {s₀ : State} {before : List HomeReq} {r : HomeReq} {u : Nat} {region : Nat} {addr : Nat} {s : State} (h₀ : Frame w₀ s₀ s) (hw₀ : 35275782922328 ||| w₀ = w₀) :
    Frame w₀ s₀ (homeStart before r u region addr s).2 := by
  refine h₀.trans 35275782922328 ?_ hw₀
  clear h₀ hw₀
  unfold homeStart
  repeat' first
      | with_reducible assumption
      | with_reducible exact Frame.refl
      | ((first | intro x | (lift_lets -underBinder; intro x)); first
      | (refine Frame.cut (w := 35275782922328) (s := s) (x := x) ?_ fun _ => ?_; (on_goal 1 => try dsimp only [x]); (on_goal 2 => clear_value x))
      | (refine Frame.cutFn (w := 35275782922328) (f := x) ?_ fun _ => ?_; (on_goal 1 => intro s; try dsimp only [x]); (on_goal 2 => clear_value x))
      | clear_value x)
      | ((with_reducible refine State.auCount_frame ?_ ?_); on_goal 2 => rfl)
      | ((with_reducible refine mpRead_frame ?_ ?_); on_goal 2 => rfl)
      | ((with_reducible refine mpWriteBe_frame ?_ ?_); on_goal 2 => rfl)
      | ((with_reducible refine lineIssue_frame ?_ ?_); on_goal 2 => rfl)
      | ((with_reducible refine updHome_frame ?_ ?_); on_goal 2 => rfl)
      | ((with_reducible refine homeUnitDone_frame ?_ ?_); on_goal 2 => rfl)
      | ((with_reducible refine updComb_frame ?_ ?_); on_goal 2 => rfl)
      | ((with_reducible refine combPlace_frame ?_ ?_); on_goal 2 => rfl)
      | ((with_reducible refine combJoin_frame ?_ ?_); on_goal 2 => rfl)
      | ((with_reducible refine serveLoads_frame ?_ ?_); on_goal 2 => rfl)
      | (refine Frame.ofEq3 ‹_› ?_)
      | dsimp -zeta only
      | with_reducible refine Frame.app ‹_› ?_
      | with_reducible refine Frame.ite ?_ ?_
      | with_reducible refine Frame.ite2 ?_ ?_
      | split

theorem homeBegin_frame {w₀ : Nat} {s₀ : State} {id : Nat} {s : State} (h₀ : Frame w₀ s₀ s) (hw₀ : 35275782922328 ||| w₀ = w₀) :
    Frame w₀ s₀ (homeBegin id s).2 := by
  refine h₀.trans 35275782922328 ?_ hw₀
  clear h₀ hw₀
  unfold homeBegin
  repeat' first
      | with_reducible exact Frame.refl
      | ((first | intro x | (lift_lets -underBinder; intro x)); first
      | clear_value x)
      | ((with_reducible refine homeStart_frame ?_ ?_); on_goal 2 => rfl)
      | with_reducible refine Frame.foldl (fun _ _ => ?_) _ ?_
      | dsimp -zeta only
      | with_reducible refine Frame.ite2 ?_ ?_
      | split

theorem homeAnswer_frame {w₀ : Nat} {s₀ : State} {r : HomeReq} {s : State} (h₀ : Frame w₀ s₀ s) (hw₀ : 8396800 ||| w₀ = w₀) :
    Frame w₀ s₀ (homeAnswer r s).2 := by
  refine h₀.trans 8396800 ?_ hw₀
  clear h₀ hw₀
  unfold homeAnswer
  repeat' first
      | with_reducible assumption
      | with_reducible exact Frame.refl
      | ((first | intro x | (lift_lets -underBinder; intro x)); first
      | (refine Frame.cut (w := 8396800) (s := s) (x := x) ?_ fun _ => ?_; (on_goal 1 => try dsimp only [x]); (on_goal 2 => clear_value x))
      | clear_value x)
      | ((with_reducible refine State.auCount_frame ?_ ?_); on_goal 2 => rfl)
      | ((with_reducible refine txPush_frame ?_ ?_); on_goal 2 => rfl)
      | ((with_reducible refine Frame.updAuSoft (f := _) ?_ ?_ ?_); (on_goal 1 => (intro _; unfold Au.rest; rfl)); on_goal 2 => rfl)
      | with_reducible refine Frame.ite ?_ ?_
      | with_reducible refine Frame.ite2 ?_ ?_
      | split

theorem homeRetire_frame {w₀ : Nat} {s₀ : State}  {s : State} (h₀ : Frame w₀ s₀ s) (hw₀ : 8396800 ||| w₀ = w₀) :
    Frame w₀ s₀ (homeRetire s).2 := by
  refine h₀.trans 8396800 ?_ hw₀
  clear h₀ hw₀
  unfold homeRetire
  repeat' first
      | with_reducible assumption
      | with_reducible exact Frame.refl
      | ((first | intro x | (lift_lets -underBinder; intro x)); first
      | (refine Frame.cut3 (w := 8396800) (s := s) (x := x) ?_ fun _ => ?_; (on_goal 1 => try dsimp only [x]); (on_goal 2 => clear_value x)))
      | ((with_reducible refine homeAnswer_frame ?_ ?_); on_goal 2 => rfl)
      | with_reducible refine Frame.foldl3 (fun _ _ => ?_) _ ?_
      | with_reducible refine Frame.ite3 ?_ ?_

theorem homeKick_frame {w₀ : Nat} {s₀ : State}  {s : State} (h₀ : Frame w₀ s₀ s) (hw₀ : 35275782922328 ||| w₀ = w₀) :
    Frame w₀ s₀ (homeKick s).2 := by
  refine h₀.trans 35275782922328 ?_ hw₀
  clear h₀ hw₀
  unfold homeKick
  repeat' first
      | with_reducible exact Frame.refl
      | ((with_reducible refine eachAns_frame (fun _ s => ?_) ?_ ?_); on_goal 3 => rfl)
      | ((with_reducible refine combWrite_frame ?_ ?_); on_goal 2 => rfl)
      | ((with_reducible refine homeBegin_frame ?_ ?_); on_goal 2 => rfl)
      | ((with_reducible refine homeRetire_frame ?_ ?_); on_goal 2 => rfl)

theorem homeFixed_frame {w₀ : Nat} {s₀ : State} {ctx : Nat} {rnum : Nat} {st : Status} {s : State} (h₀ : Frame w₀ s₀ s) (hw₀ : 8388608 ||| w₀ = w₀) :
    Frame w₀ s₀ (homeFixed ctx rnum st s) := by
  refine h₀.trans 8388608 ?_ hw₀
  clear h₀ hw₀
  unfold homeFixed
  repeat' first
      | with_reducible exact Frame.refl
      | ((with_reducible refine homeAdd_frame ?_ ?_); on_goal 2 => rfl)

theorem homeServe_frame {w₀ : Nat} {s₀ : State} {i : Nat} {h : HeldFrame} {s : State} (h₀ : Frame w₀ s₀ s) (hw₀ : 91276451840 ||| w₀ = w₀) :
    Frame w₀ s₀ (homeServe i h s) := by
  refine h₀.trans 91276451840 ?_ hw₀
  clear h₀ hw₀
  unfold homeServe
  repeat' first
      | with_reducible exact Frame.refl
      | ((first | intro x | (lift_lets -underBinder; intro x)); first
      | (refine Frame.cutFn2 (w := 91276451840) (f := x) ?_ fun _ => ?_; (on_goal 1 => intro _ s; try dsimp only [x]); (on_goal 2 => clear_value x))
      | clear_value x)
      | ((with_reducible refine takeHeld_frame ?_ ?_); on_goal 2 => rfl)
      | ((with_reducible refine keepRx_frame ?_ ?_); on_goal 2 => rfl)
      | ((with_reducible refine homeEnter_frame ?_ ?_); on_goal 2 => rfl)
      | ((with_reducible refine homeFixed_frame ?_ ?_); on_goal 2 => rfl)
      | with_reducible refine Frame.app2 ‹_› ?_
      | with_reducible refine Frame.ite ?_ ?_

theorem reqFraming_frame {w₀ : Nat} {s₀ : State} {i : Nat} {h : HeldFrame} {natural : Bool} {s : State} (h₀ : Frame w₀ s₀ s) (hw₀ : 73022840832 ||| w₀ = w₀) :
    Frame w₀ s₀ (reqFraming i h natural s) := by
  refine h₀.trans 73022840832 ?_ hw₀
  clear h₀ hw₀
  unfold reqFraming
  repeat' first
      | with_reducible assumption
      | with_reducible exact Frame.refl
      | ((first | intro x | (lift_lets -underBinder; intro x)); first
      | (refine Frame.cut (w := 73022840832) (s := s) (x := x) ?_ fun _ => ?_; (on_goal 1 => try dsimp only [x]); (on_goal 2 => clear_value x))
      | clear_value x)
      | ((with_reducible refine State.auEvent_frame ?_ ?_); on_goal 2 => rfl)
      | ((with_reducible refine reportFault_frame ?_ ?_); on_goal 2 => rfl)
      | ((with_reducible refine rxCount_frame ?_ ?_); on_goal 2 => rfl)
      | ((with_reducible refine takeHeld_frame ?_ ?_); on_goal 2 => rfl)

theorem homeSync_frame {w₀ : Nat} {s₀ : State} {i : Nat} {h : HeldFrame} {s : State} (h₀ : Frame w₀ s₀ s) (hw₀ : 8396800 ||| w₀ = w₀) :
    Frame w₀ s₀ (homeSync i h s) := by
  refine h₀.trans 8396800 ?_ hw₀
  clear h₀ hw₀
  unfold homeSync
  repeat' first
      | with_reducible assumption
      | with_reducible exact Frame.refl
      | ((first | intro x | (lift_lets -underBinder; intro x)); first
      | (refine Frame.cut (w := 8396800) (s := s) (x := x) ?_ fun _ => ?_; (on_goal 1 => try dsimp only [x]); (on_goal 2 => clear_value x))
      | clear_value x)
      | ((with_reducible refine State.auCount_frame ?_ ?_); on_goal 2 => rfl)
      | ((with_reducible refine updRx_frame ?_ ?_); on_goal 2 => rfl)
      | ((with_reducible refine takeHeld_frame ?_ ?_); on_goal 2 => rfl)
      | ((with_reducible refine homeFixed_frame ?_ ?_); on_goal 2 => rfl)
      | with_reducible refine Frame.ite ?_ ?_

theorem homeAcceptOp_frame {w₀ : Nat} {s₀ : State} {i : Nat} {s : State} (h₀ : Frame w₀ s₀ s) (hw₀ : 35275782922328 ||| w₀ = w₀) :
    Frame w₀ s₀ (homeAcceptOp i s).2 := by
  refine h₀.trans 35275782922328 ?_ hw₀
  clear h₀ hw₀
  unfold homeAcceptOp
  repeat' first
      | with_reducible assumption
      | with_reducible exact Frame.refl
      | ((first | intro x | (lift_lets -underBinder; intro x)); first
      | (refine Frame.cut (w := 35275782922328) (s := s) (x := x) ?_ fun _ => ?_; (on_goal 1 => try dsimp only [x]); (on_goal 2 => clear_value x))
      | (refine Frame.cutFn (w := 35275782922328) (f := x) ?_ fun _ => ?_; (on_goal 1 => intro s; try dsimp only [x]); (on_goal 2 => clear_value x))
      | clear_value x)
      | ((with_reducible refine State.auEvent_frame ?_ ?_); on_goal 2 => rfl)
      | ((with_reducible refine State.auCount_frame ?_ ?_); on_goal 2 => rfl)
      | ((with_reducible refine hallStale_frame ?_ ?_); on_goal 2 => rfl)
      | ((with_reducible refine updRx_frame ?_ ?_); on_goal 2 => rfl)
      | ((with_reducible refine takeHeld_frame ?_ ?_); on_goal 2 => rfl)
      | ((with_reducible refine homeKick_frame ?_ ?_); on_goal 2 => rfl)
      | ((with_reducible refine homeFixed_frame ?_ ?_); on_goal 2 => rfl)
      | ((with_reducible refine homeServe_frame ?_ ?_); on_goal 2 => rfl)
      | ((with_reducible refine reqFraming_frame ?_ ?_); on_goal 2 => rfl)
      | ((with_reducible refine homeSync_frame ?_ ?_); on_goal 2 => rfl)
      | with_reducible refine Frame.forAll (fun _ s => ?_) _ ?_
      | with_reducible refine Frame.app ‹_› ?_
      | with_reducible refine Frame.ite ?_ ?_
      | with_reducible refine Frame.ite2 ?_ ?_
      | split

theorem auFlushOp_frame {w₀ : Nat} {s₀ : State} {op : Nat} {hall : Option Nat} {s : State} (h₀ : Frame w₀ s₀ s) (hw₀ : 35275782922328 ||| w₀ = w₀) :
    Frame w₀ s₀ (auFlushOp op hall s).2 := by
  refine h₀.trans 35275782922328 ?_ hw₀
  clear h₀ hw₀
  unfold auFlushOp
  repeat' first
      | with_reducible assumption
      | with_reducible exact Frame.refl
      | ((first | intro x | (lift_lets -underBinder; intro x)); first
      | (refine Frame.cut (w := 35275782922328) (s := s) (x := x) ?_ fun _ => ?_; (on_goal 1 => try dsimp only [x]); (on_goal 2 => clear_value x)))
      | ((with_reducible refine eachAns_frame (fun _ s => ?_) ?_ ?_); on_goal 3 => rfl)
      | ((with_reducible refine combClean_frame ?_ ?_); on_goal 2 => rfl)
      | ((with_reducible refine flushStep_frame ?_ ?_); on_goal 2 => rfl)
      | ((with_reducible refine Frame.updAuSoft (f := _) ?_ ?_ ?_); (on_goal 1 => (intro _; unfold Au.rest; rfl)); on_goal 2 => rfl)

theorem auCommand_frame {w₀ : Nat} {s₀ : State} {op : Nat} {hall : Nat} {s : State} (h₀ : Frame w₀ s₀ s) (hw₀ : 35275799699544 ||| w₀ = w₀) :
    Frame w₀ s₀ (auCommand op hall s).2 := by
  refine h₀.trans 35275799699544 ?_ hw₀
  clear h₀ hw₀
  unfold auCommand
  repeat' first
      | with_reducible assumption
      | with_reducible exact Frame.refl
      | ((first | intro x | (lift_lets -underBinder; intro x)); first
      | (refine Frame.cut (w := 35275799699544) (s := s) (x := x) ?_ fun _ => ?_; (on_goal 1 => try dsimp only [x]); (on_goal 2 => clear_value x)))
      | ((with_reducible refine auFlushOp_frame ?_ ?_); on_goal 2 => rfl)
      | ((with_reducible refine Frame.updAuSoft (f := _) ?_ ?_ ?_); (on_goal 1 => (intro _; unfold Au.rest; rfl)); on_goal 2 => rfl)
      | ((with_reducible refine Frame.updAu ?_ ?_); on_goal 2 => rfl)
      | with_reducible refine Frame.ite2 ?_ ?_
      | split

end Sys2Proof.Machine
end

