-- ==== Sys2Proof/Laws/FrService.lean ====
section
/-! SUPPORT. What each operation of Machine/Service.lean may change (see Frame.lean). -/

namespace Sys2Proof.Machine

-- One declaration at a time, so that the elaborator holds few threads (each takes stack of its own).
set_option Elab.async false

theorem serviceSendOn_frame {w₀ : Nat} {s₀ : State} {i : Nat} {m : Bytes} {s : State} (h₀ : Frame w₀ s₀ s) (hw₀ : 8192 ||| w₀ = w₀) :
    Frame w₀ s₀ (serviceSendOn i m s) := by
  refine h₀.trans 8192 ?_ hw₀
  clear h₀ hw₀
  unfold serviceSendOn
  repeat' first
      | with_reducible exact Frame.refl
      | ((with_reducible refine txPush_frame ?_ ?_); on_goal 2 => rfl)
      | with_reducible refine Frame.ite ?_ ?_

theorem serviceSend_frame {w₀ : Nat} {s₀ : State} {from' : Option Nat} {m : Bytes} {s : State} (h₀ : Frame w₀ s₀ s) (hw₀ : 8192 ||| w₀ = w₀) :
    Frame w₀ s₀ (serviceSend from' m s) := by
  refine h₀.trans 8192 ?_ hw₀
  clear h₀ hw₀
  unfold serviceSend
  repeat' first
      | with_reducible exact Frame.refl
      | ((with_reducible refine serviceSendOn_frame ?_ ?_); on_goal 2 => rfl)
      | with_reducible refine Frame.forAll (fun _ s => ?_) _ ?_

theorem retireReceive_frame {w₀ : Nat} {s₀ : State} {i : Nat} {m : Bytes} {s : State} (h₀ : Frame w₀ s₀ s) (hw₀ : 105626164312256 ||| w₀ = w₀) :
    Frame w₀ s₀ (retireReceive i m s) := by
  refine h₀.trans 105626164312256 ?_ hw₀
  clear h₀ hw₀
  unfold retireReceive
  repeat' first
      | with_reducible assumption
      | with_reducible exact Frame.refl
      | ((first | intro x | (lift_lets -underBinder; intro x)); first
      | (refine Frame.cut (w := 105626164312256) (s := s) (x := x) ?_ fun _ => ?_; (on_goal 1 => try dsimp only [x]); (on_goal 2 => clear_value x))
      | clear_value x)
      | ((with_reducible refine State.atEvent_frame ?_ ?_); on_goal 2 => rfl)
      | ((with_reducible refine retireMatchOp_frame ?_ ?_); on_goal 2 => rfl)
      | ((with_reducible refine serviceSend_frame ?_ ?_); on_goal 2 => rfl)
      | ((with_reducible refine Frame.updDom ?_ ?_); on_goal 2 => rfl)
      | with_reducible refine Frame.ite ?_ ?_

theorem timeStartOp_frame {w₀ : Nat} {s₀ : State}  {s : State} (h₀ : Frame w₀ s₀ s) (hw₀ : 824633729024 ||| w₀ = w₀) :
    Frame w₀ s₀ (timeStartOp s) := by
  refine h₀.trans 824633729024 ?_ hw₀
  clear h₀ hw₀
  unfold timeStartOp
  repeat' first
      | with_reducible assumption
      | with_reducible exact Frame.refl
      | ((first | intro x | (lift_lets -underBinder; intro x)); first
      | (refine Frame.cut (w := 824633729024) (s := s) (x := x) ?_ fun _ => ?_; (on_goal 1 => try dsimp only [x]); (on_goal 2 => clear_value x))
      | clear_value x)
      | ((with_reducible refine serviceSendOn_frame ?_ ?_); on_goal 2 => rfl)
      | ((with_reducible refine Frame.updPwr (f := _) ?_ ?_ ?_); (on_goal 1 => (intro _; rfl)); on_goal 2 => rfl)
      | with_reducible refine Frame.ite ?_ ?_
      | split

theorem servo_frame {w₀ : Nat} {s₀ : State} {o : Int} {s : State} (h₀ : Frame w₀ s₀ s) (hw₀ : 824633720832 ||| w₀ = w₀) :
    Frame w₀ s₀ (servo o s) := by
  refine h₀.trans 824633720832 ?_ hw₀
  clear h₀ hw₀
  unfold servo
  repeat' first
      | with_reducible assumption
      | with_reducible exact Frame.refl
      | ((first | intro x | (lift_lets -underBinder; intro x)); first
      | (refine Frame.cut (w := 824633720832) (s := s) (x := x) ?_ fun _ => ?_; (on_goal 1 => try dsimp only [x]); (on_goal 2 => clear_value x))
      | clear_value x)
      | ((with_reducible refine State.pwrEvent_frame ?_ ?_); on_goal 2 => rfl)
      | ((with_reducible refine Frame.updPwr (f := _) ?_ ?_ ?_); (on_goal 1 => (intro _; rfl)); on_goal 2 => rfl)
      | with_reducible refine Frame.ite ?_ ?_

theorem timeReceive_frame {w₀ : Nat} {s₀ : State} {i : Nat} {m : Bytes} {s : State} (h₀ : Frame w₀ s₀ s) (hw₀ : 824633733120 ||| w₀ = w₀) :
    Frame w₀ s₀ (timeReceive i m s) := by
  refine h₀.trans 824633733120 ?_ hw₀
  clear h₀ hw₀
  unfold timeReceive
  repeat' first
      | with_reducible assumption
      | with_reducible exact Frame.refl
      | ((first | intro x | (lift_lets -underBinder; intro x)); first
      | (refine Frame.cut (w := 824633733120) (s := s) (x := x) ?_ fun _ => ?_; (on_goal 1 => try dsimp only [x]); (on_goal 2 => clear_value x))
      | clear_value x)
      | ((with_reducible refine serviceSendOn_frame ?_ ?_); on_goal 2 => rfl)
      | ((with_reducible refine servo_frame ?_ ?_); on_goal 2 => rfl)
      | ((with_reducible refine Frame.updDom ?_ ?_); on_goal 2 => rfl)
      | ((with_reducible refine Frame.updPwr (f := _) ?_ ?_ ?_); (on_goal 1 => (intro _; rfl)); on_goal 2 => rfl)
      | with_reducible refine Frame.ite ?_ ?_
      | split

theorem timeDiscard_frame {w₀ : Nat} {s₀ : State}  {s : State} (h₀ : Frame w₀ s₀ s) (hw₀ : 824633720832 ||| w₀ = w₀) :
    Frame w₀ s₀ (timeDiscard s) := by
  refine h₀.trans 824633720832 ?_ hw₀
  clear h₀ hw₀
  unfold timeDiscard
  repeat' first
      | with_reducible exact Frame.refl
      | ((with_reducible refine Frame.updPwr (f := _) ?_ ?_ ?_); (on_goal 1 => (intro _; rfl)); on_goal 2 => rfl)

theorem timeParentAct_frame {w₀ : Nat} {s₀ : State} {a : Act} {arg : Bytes} {s : State} (h₀ : Frame w₀ s₀ s) (hw₀ : 3023656976384 ||| w₀ = w₀) :
    Frame w₀ s₀ (timeParentAct a arg s) := by
  refine h₀.trans 3023656976384 ?_ hw₀
  clear h₀ hw₀
  unfold timeParentAct
  repeat' first
      | with_reducible exact Frame.refl
      | ((first | intro x | (lift_lets -underBinder; intro x)); first
      | clear_value x)
      | ((with_reducible refine runAct_frame (fun s => ?_) ?_ ?_); on_goal 3 => rfl)
      | ((with_reducible refine timeDiscard_frame ?_ ?_); on_goal 2 => rfl)
      | ((with_reducible refine Frame.updPwr (f := _) ?_ ?_ ?_); (on_goal 1 => (intro _; rfl)); on_goal 2 => rfl)
      | with_reducible refine Frame.ite2 ?_ ?_

end Sys2Proof.Machine
end

