-- ==== Sys2Proof/Laws/FrDebug.lean ====
section
/-! SUPPORT. What each operation of Machine/Debug.lean may change (see Frame.lean). -/

namespace Sys2Proof.Machine

-- One declaration at a time, so that the elaborator holds few threads (each takes stack of its own).
set_option Elab.async false

theorem rushesTickOp_frame {w₀ : Nat} {s₀ : State} {unit : Nat} {s : State} (h₀ : Frame w₀ s₀ s) (hw₀ : 68719476736 ||| w₀ = w₀) :
    Frame w₀ s₀ (rushesTickOp unit s) := by
  refine h₀.trans 68719476736 ?_ hw₀
  clear h₀ hw₀
  unfold rushesTickOp
  repeat' first
      | with_reducible exact Frame.refl
      | ((with_reducible refine rushesBlock_frame ?_ ?_); on_goal 2 => rfl)
      | with_reducible refine Frame.ite ?_ ?_

theorem rushesReadAct_frame {w₀ : Nat} {s₀ : State} {a : Act} {arg : Bytes} {s : State} (h₀ : Frame w₀ s₀ s) (hw₀ : 2199023255552 ||| w₀ = w₀) :
    Frame w₀ s₀ (rushesReadAct a arg s) := by
  refine h₀.trans 2199023255552 ?_ hw₀
  clear h₀ hw₀
  unfold rushesReadAct
  repeat' first
      | with_reducible exact Frame.refl
      | ((first | intro x | (lift_lets -underBinder; intro x)); first
      | clear_value x)
      | ((with_reducible refine runAct_frame (fun s => ?_) ?_ ?_); on_goal 3 => rfl)
      | with_reducible refine Frame.ite2 ?_ ?_

theorem pmatchOp_frame {w₀ : Nat} {s₀ : State} {hall : Nat} {slot : Nat} {v : DWord} {s : State} (h₀ : Frame w₀ s₀ s) (hw₀ : 1073741824 ||| w₀ = w₀) :
    Frame w₀ s₀ (pmatchOp hall slot v s) := by
  refine h₀.trans 1073741824 ?_ hw₀
  clear h₀ hw₀
  unfold pmatchOp
  repeat' first
      | with_reducible exact Frame.refl
      | ((first | intro x | (lift_lets -underBinder; intro x)); first
      | clear_value x)
      | ((with_reducible refine updHall_frame ?_ ?_); on_goal 2 => rfl)
      | with_reducible refine Frame.ite ?_ ?_

theorem dailiesOp_frame {w₀ : Nat} {s₀ : State} {kind : Nat} {unit : Nat} {scanMap : Nat} {body : List ScanWord} {s : State} (h₀ : Frame w₀ s₀ s) (hw₀ : 35390530519040 ||| w₀ = w₀) :
    Frame w₀ s₀ (dailiesOp kind unit scanMap body s) := by
  refine h₀.trans 35390530519040 ?_ hw₀
  clear h₀ hw₀
  unfold dailiesOp
  repeat' first
      | with_reducible assumption
      | with_reducible exact Frame.refl
      | ((first | intro x | (lift_lets -underBinder; intro x)); first
      | (refine Frame.cut (w := 35390530519040) (s := s) (x := x) ?_ fun _ => ?_; (on_goal 1 => try dsimp only [x]); (on_goal 2 => clear_value x))
      | clear_value x)
      | ((with_reducible refine State.dbgEvent_frame ?_ ?_); on_goal 2 => rfl)
      | ((with_reducible refine State.dbgCount_frame ?_ ?_); on_goal 2 => rfl)
      | ((with_reducible refine Frame.updDbg ?_ ?_); on_goal 2 => rfl)
      | ((with_reducible refine Frame.emit ?_ ?_); on_goal 2 => rfl)
      | dsimp -zeta only
      | with_reducible refine Frame.ite ?_ ?_

theorem rushesDump_frame {w₀ : Nat} {s₀ : State}  {s : State} (h₀ : Frame w₀ s₀ s) (hw₀ : 35184372088832 ||| w₀ = w₀) :
    Frame w₀ s₀ (rushesDump s) := by
  refine h₀.trans 35184372088832 ?_ hw₀
  clear h₀ hw₀
  unfold rushesDump
  repeat' first
      | with_reducible assumption
      | with_reducible exact Frame.refl
      | ((first | intro x | (lift_lets -underBinder; intro x)); first
      | (refine Frame.cut (w := 35184372088832) (s := s) (x := x) ?_ fun _ => ?_; (on_goal 1 => try dsimp only [x]); (on_goal 2 => clear_value x))
      | clear_value x)
      | ((with_reducible refine Frame.emit ?_ ?_); on_goal 2 => rfl)
      | with_reducible refine Frame.forAll (fun _ s => ?_) _ ?_

theorem cutSet_frame {w₀ : Nat} {s₀ : State} {c : CutArg} {s : State} (h₀ : Frame w₀ s₀ s) (hw₀ : 1030792151040 ||| w₀ = w₀) :
    Frame w₀ s₀ (cutSet c s) := by
  refine h₀.trans 1030792151040 ?_ hw₀
  clear h₀ hw₀
  unfold cutSet
  repeat' first
      | with_reducible exact Frame.refl
      | ((with_reducible refine entryVoid_frame ?_ ?_); on_goal 2 => rfl)
      | ((with_reducible refine Frame.updDbg ?_ ?_); on_goal 2 => rfl)

theorem cutArmOp_frame {w₀ : Nat} {s₀ : State} {c : CutArg} {s : State} (h₀ : Frame w₀ s₀ s) (hw₀ : 1030792159232 ||| w₀ = w₀) :
    Frame w₀ s₀ (cutArmOp c s).2 := by
  refine h₀.trans 1030792159232 ?_ hw₀
  clear h₀ hw₀
  unfold cutArmOp
  repeat' first
      | with_reducible assumption
      | with_reducible exact Frame.refl
      | ((first | intro x | (lift_lets -underBinder; intro x)); first
      | (refine Frame.cut (w := 1030792159232) (s := s) (x := x) ?_ fun _ => ?_; (on_goal 1 => try dsimp only [x]); (on_goal 2 => clear_value x)))
      | ((with_reducible refine serviceSend_frame ?_ ?_); on_goal 2 => rfl)
      | ((with_reducible refine cutSet_frame ?_ ?_); on_goal 2 => rfl)
      | dsimp -zeta only
      | with_reducible refine Frame.ite ?_ ?_
      | split

theorem cutArmAct_frame {w₀ : Nat} {s₀ : State} {a : Act} {arg : Bytes} {s : State} (h₀ : Frame w₀ s₀ s) (hw₀ : 3229815414784 ||| w₀ = w₀) :
    Frame w₀ s₀ (cutArmAct a arg s) := by
  refine h₀.trans 3229815414784 ?_ hw₀
  clear h₀ hw₀
  unfold cutArmAct
  repeat' first
      | with_reducible exact Frame.refl
      | ((with_reducible refine runAct_frame (fun s => ?_) ?_ ?_); on_goal 3 => rfl)
      | ((with_reducible refine cutArmOp_frame ?_ ?_); on_goal 2 => rfl)

theorem cutDisarmOp_frame {w₀ : Nat} {s₀ : State}  {s : State} (h₀ : Frame w₀ s₀ s) (hw₀ : 206158430208 ||| w₀ = w₀) :
    Frame w₀ s₀ (cutDisarmOp s).2 := by
  refine h₀.trans 206158430208 ?_ hw₀
  clear h₀ hw₀
  unfold cutDisarmOp
  repeat' first
      | with_reducible exact Frame.refl
      | ((with_reducible refine Frame.updDbg ?_ ?_); on_goal 2 => rfl)
      | with_reducible refine Frame.ite2 ?_ ?_

theorem cutDisarmAct_frame {w₀ : Nat} {s₀ : State} {a : Act} {s : State} (h₀ : Frame w₀ s₀ s) (hw₀ : 2405181685760 ||| w₀ = w₀) :
    Frame w₀ s₀ (cutDisarmAct a s) := by
  refine h₀.trans 2405181685760 ?_ hw₀
  clear h₀ hw₀
  unfold cutDisarmAct
  repeat' first
      | with_reducible exact Frame.refl
      | ((with_reducible refine runAct_frame (fun s => ?_) ?_ ?_); on_goal 3 => rfl)
      | ((with_reducible refine cutDisarmOp_frame ?_ ?_); on_goal 2 => rfl)

theorem cutReceive_frame {w₀ : Nat} {s₀ : State} {i : Nat} {m : Bytes} {s : State} (h₀ : Frame w₀ s₀ s) (hw₀ : 1030792159232 ||| w₀ = w₀) :
    Frame w₀ s₀ (cutReceive i m s) := by
  refine h₀.trans 1030792159232 ?_ hw₀
  clear h₀ hw₀
  unfold cutReceive
  repeat' first
      | with_reducible assumption
      | with_reducible exact Frame.refl
      | ((first | intro x | (lift_lets -underBinder; intro x)); first
      | (refine Frame.cut (w := 1030792159232) (s := s) (x := x) ?_ fun _ => ?_; (on_goal 1 => try dsimp only [x]); (on_goal 2 => clear_value x))
      | clear_value x)
      | ((with_reducible refine State.dbgEvent_frame ?_ ?_); on_goal 2 => rfl)
      | ((with_reducible refine State.dbgCount_frame ?_ ?_); on_goal 2 => rfl)
      | ((with_reducible refine serviceSend_frame ?_ ?_); on_goal 2 => rfl)
      | ((with_reducible refine cutSet_frame ?_ ?_); on_goal 2 => rfl)
      | ((with_reducible refine Frame.updDbg ?_ ?_); on_goal 2 => rfl)
      | with_reducible refine Frame.ite ?_ ?_
      | split

theorem cutStopOp_frame {w₀ : Nat} {s₀ : State}  {s : State} (h₀ : Frame w₀ s₀ s) (hw₀ : 1030792151040 ||| w₀ = w₀) :
    Frame w₀ s₀ (cutStopOp s) := by
  refine h₀.trans 1030792151040 ?_ hw₀
  clear h₀ hw₀
  unfold cutStopOp
  repeat' first
      | with_reducible assumption
      | with_reducible exact Frame.refl
      | ((first | intro x | (lift_lets -underBinder; intro x)); first
      | (refine Frame.cut (w := 1030792151040) (s := s) (x := x) ?_ fun _ => ?_; (on_goal 1 => try dsimp only [x]); (on_goal 2 => clear_value x))
      | clear_value x)
      | ((with_reducible refine State.dbgEvent_frame ?_ ?_); on_goal 2 => rfl)
      | ((with_reducible refine State.dbgCount_frame ?_ ?_); on_goal 2 => rfl)
      | ((with_reducible refine timeDiscard_frame ?_ ?_); on_goal 2 => rfl)
      | ((with_reducible refine Frame.updDbg ?_ ?_); on_goal 2 => rfl)
      | with_reducible refine Frame.ite ?_ ?_

theorem lateArrivalOp_frame {w₀ : Nat} {s₀ : State} {channel : Nat} {item : Nat} {s : State} (h₀ : Frame w₀ s₀ s) (hw₀ : 206158430208 ||| w₀ = w₀) :
    Frame w₀ s₀ (lateArrivalOp channel item s) := by
  refine h₀.trans 206158430208 ?_ hw₀
  clear h₀ hw₀
  unfold lateArrivalOp
  repeat' first
      | with_reducible exact Frame.refl
      | ((with_reducible refine State.dbgCount_frame ?_ ?_); on_goal 2 => rfl)
      | ((with_reducible refine Frame.updDbg ?_ ?_); on_goal 2 => rfl)
      | with_reducible refine Frame.ite ?_ ?_

theorem shiftStamps_frame {w₀ : Nat} {s₀ : State} {d : Nat} {s : State} (h₀ : Frame w₀ s₀ s) (hw₀ : 12920029184 ||| w₀ = w₀) :
    Frame w₀ s₀ (shiftStamps d s) := by
  refine h₀.trans 12920029184 ?_ hw₀
  clear h₀ hw₀
  unfold shiftStamps
  repeat' first
      | with_reducible assumption
      | with_reducible exact Frame.refl
      | ((first | intro x | (lift_lets -underBinder; intro x)); first
      | (refine Frame.cut (w := 12920029184) (s := s) (x := x) ?_ fun _ => ?_; (on_goal 1 => try dsimp only [x]); (on_goal 2 => clear_value x))
      | clear_value x)
      | ((with_reducible refine Frame.updFcu ?_ ?_); on_goal 2 => rfl)
      | ((with_reducible refine Frame.updFeSoft (f := _) ?_ ?_ ?_); (on_goal 1 => (intro _; unfold Fe.rest; rfl)); on_goal 2 => rfl)
      | ((with_reducible refine Frame.updMvSoft (f := _) ?_ ?_ ?_); (on_goal 1 => (intro _; unfold Mv.rest; rfl)); on_goal 2 => rfl)

theorem cutResumeOp_frame {w₀ : Nat} {s₀ : State}  {s : State} (h₀ : Frame w₀ s₀ s) (hw₀ : 1043712180230 ||| w₀ = w₀) :
    Frame w₀ s₀ (cutResumeOp s) := by
  refine h₀.trans 1043712180230 ?_ hw₀
  clear h₀ hw₀
  unfold cutResumeOp
  repeat' first
      | with_reducible assumption
      | with_reducible exact Frame.refl
      | ((first | intro x | (lift_lets -underBinder; intro x)); first
      | (refine Frame.cut (w := 1043712180230) (s := s) (x := x) ?_ fun _ => ?_; (on_goal 1 => try dsimp only [x]); (on_goal 2 => clear_value x))
      | clear_value x)
      | ((with_reducible refine State.dbgEvent_frame ?_ ?_); on_goal 2 => rfl)
      | ((with_reducible refine rushesAt_frame ?_ ?_); on_goal 2 => rfl)
      | ((with_reducible refine afterStop_frame ?_ ?_); on_goal 2 => rfl)
      | ((with_reducible refine shiftStamps_frame ?_ ?_); on_goal 2 => rfl)
      | ((with_reducible refine Frame.updDbg ?_ ?_); on_goal 2 => rfl)
      | with_reducible refine Frame.forAll (fun _ s => ?_) _ ?_
      | with_reducible refine Frame.ite ?_ ?_
      | split

theorem dbgFinish_frame {w₀ : Nat} {s₀ : State}  {r : Status × State} (h₀ : Frame w₀ s₀ r.2) (hw₀ : 206158430208 ||| w₀ = w₀) :
    Frame w₀ s₀ (dbgFinish r) := by
  refine h₀.trans 206158430208 ?_ hw₀
  clear h₀ hw₀
  rcases r with ⟨_, s⟩
  show Frame 206158430208 s _
  unfold dbgFinish
  repeat' first
      | with_reducible exact Frame.refl
      | ((with_reducible refine Frame.updDbg ?_ ?_); on_goal 2 => rfl)

theorem ringReadOp_frame {w₀ : Nat} {s₀ : State}  {s : State} (h₀ : Frame w₀ s₀ s) (hw₀ : 206158430208 ||| w₀ = w₀) :
    Frame w₀ s₀ (ringReadOp s).2 := by
  refine h₀.trans 206158430208 ?_ hw₀
  clear h₀ hw₀
  unfold ringReadOp
  repeat' first
      | with_reducible exact Frame.refl
      | ((first | intro x | (lift_lets -underBinder; intro x)); first
      | clear_value x)
      | ((with_reducible refine Frame.updDbg ?_ ?_); on_goal 2 => rfl)
      | with_reducible refine Frame.ite2 ?_ ?_

theorem dbgCommand_frame {w₀ : Nat} {s₀ : State} {op : Nat} {flags : Byte} {serial : BitVec 12} {s : State} (h₀ : Frame w₀ s₀ s) (hw₀ : 36215164248064 ||| w₀ = w₀) :
    Frame w₀ s₀ (dbgCommand op flags serial s) := by
  refine h₀.trans 36215164248064 ?_ hw₀
  clear h₀ hw₀
  unfold dbgCommand
  repeat' first
      | with_reducible assumption
      | with_reducible exact Frame.refl
      | ((first | intro x | (lift_lets -underBinder; intro x)); first
      | (refine Frame.cut (w := 36215164248064) (s := s) (x := x) ?_ fun _ => ?_; (on_goal 1 => try dsimp only [x]); (on_goal 2 => clear_value x)))
      | ((with_reducible refine rushesDump_frame ?_ ?_); on_goal 2 => rfl)
      | ((with_reducible refine cutArmOp_frame ?_ ?_); on_goal 2 => rfl)
      | ((with_reducible refine cutDisarmOp_frame ?_ ?_); on_goal 2 => rfl)
      | ((with_reducible refine dbgFinish_frame ?_ ?_); on_goal 2 => rfl)
      | ((with_reducible refine ringReadOp_frame ?_ ?_); on_goal 2 => rfl)
      | ((with_reducible refine Frame.updDbg ?_ ?_); on_goal 2 => rfl)
      | with_reducible refine Frame.ite2 ?_ ?_
      | split

end Sys2Proof.Machine
end

