-- ==== Sys2Proof/Laws/FrLinkRx.lean ====
section
/-! SUPPORT. What each operation of Machine/LinkRx.lean may change (see Frame.lean). -/

namespace Sys2Proof.Machine

-- One declaration at a time, so that the elaborator holds few threads (each takes stack of its own).
set_option Elab.async false

theorem relayOp_frame {w₀ : Nat} {s₀ : State} {lane : Nat} {route : Byte} {b : Bytes} {s : State} (h₀ : Frame w₀ s₀ s) (hw₀ : 35184372113408 ||| w₀ = w₀) :
    Frame w₀ s₀ (relayOp lane route b s) := by
  refine h₀.trans 35184372113408 ?_ hw₀
  clear h₀ hw₀
  unfold relayOp
  repeat' first
      | with_reducible exact Frame.refl
      | ((first | intro x | (lift_lets -underBinder; intro x)); first
      | clear_value x)
      | ((with_reducible refine updLane_frame ?_ ?_); on_goal 2 => rfl)
      | ((with_reducible refine Frame.emit ?_ ?_); on_goal 2 => rfl)
      | with_reducible refine Frame.ite ?_ ?_

theorem resyncOf_frame {w₀ : Nat} {s₀ : State} {i : Nat} {st : Status} {s : State} (h₀ : Frame w₀ s₀ s) (hw₀ : 8192 ||| w₀ = w₀) :
    Frame w₀ s₀ (resyncOf i st s).2 := by
  refine h₀.trans 8192 ?_ hw₀
  clear h₀ hw₀
  unfold resyncOf
  repeat' first
      | with_reducible exact Frame.refl
      | ((first | intro x | (lift_lets -underBinder; intro x)); first
      | clear_value x)
      | ((with_reducible refine enterResync_frame ?_ ?_); on_goal 2 => rfl)
      | with_reducible refine Frame.ite2 ?_ ?_
      | split

theorem rxLoss_frame {w₀ : Nat} {s₀ : State} {i : Nat} {n : Nat} {seqs : List Nat} {st : Status} {taint : Bool} {s : State} (h₀ : Frame w₀ s₀ s) (hw₀ : 188416 ||| w₀ = w₀) :
    Frame w₀ s₀ (rxLoss i n seqs st taint s).2 := by
  refine h₀.trans 188416 ?_ hw₀
  clear h₀ hw₀
  unfold rxLoss
  repeat' first
      | with_reducible assumption
      | with_reducible exact Frame.refl
      | ((first | intro x | (lift_lets -underBinder; intro x)); first
      | (refine Frame.cut (w := 188416) (s := s) (x := x) ?_ fun _ => ?_; (on_goal 1 => try dsimp only [x]); (on_goal 2 => clear_value x))
      | clear_value x)
      | ((with_reducible refine State.lsEvent_frame ?_ ?_); on_goal 2 => rfl)
      | ((with_reducible refine rxCount_frame ?_ ?_); on_goal 2 => rfl)
      | ((with_reducible refine updRx_frame ?_ ?_); on_goal 2 => rfl)
      | ((with_reducible refine resyncOf_frame ?_ ?_); on_goal 2 => rfl)
      | with_reducible refine Frame.ite ?_ ?_

theorem rxMark_frame {w₀ : Nat} {s₀ : State} {i : Nat} {seq : Nat} {s : State} (h₀ : Frame w₀ s₀ s) (hw₀ : 73014632448 ||| w₀ = w₀) :
    Frame w₀ s₀ (rxMark i seq s).2 := by
  refine h₀.trans 73014632448 ?_ hw₀
  clear h₀ hw₀
  unfold rxMark
  repeat' first
      | with_reducible assumption
      | with_reducible exact Frame.refl
      | ((first | intro x | (lift_lets -underBinder; intro x)); first
      | (refine Frame.cut (w := 73014632448) (s := s) (x := x) ?_ fun _ => ?_; (on_goal 1 => try dsimp only [x]); (on_goal 2 => clear_value x))
      | clear_value x)
      | ((with_reducible refine reportFault_frame ?_ ?_); on_goal 2 => rfl)
      | ((with_reducible refine updRx_frame ?_ ?_); on_goal 2 => rfl)
      | ((with_reducible refine rxLoss_frame ?_ ?_); on_goal 2 => rfl)
      | with_reducible refine Frame.ite2 ?_ ?_

theorem placeCount_frame {w₀ : Nat} {s₀ : State} {n : Nat} {s : State} (h₀ : Frame w₀ s₀ s) (hw₀ : 524288 ||| w₀ = w₀) :
    Frame w₀ s₀ (placeCount n s) := by
  refine h₀.trans 524288 ?_ hw₀
  clear h₀ hw₀
  unfold placeCount
  repeat' first
      | with_reducible exact Frame.refl
      | ((with_reducible refine Frame.updMvSoft (f := _) ?_ ?_ ?_); (on_goal 1 => (intro _; unfold Mv.rest; rfl)); on_goal 2 => rfl)

theorem updPlace_frame {w₀ : Nat} {s₀ : State} {i : Nat} {f : Place → Place} {s : State} (h₀ : Frame w₀ s₀ s) (hw₀ : 8192 ||| w₀ = w₀) :
    Frame w₀ s₀ (updPlace i f s) := by
  refine h₀.trans 8192 ?_ hw₀
  clear h₀ hw₀
  unfold updPlace
  repeat' first
      | with_reducible exact Frame.refl
      | ((with_reducible refine updRx_frame ?_ ?_); on_goal 2 => rfl)

theorem placeRedLost_frame {w₀ : Nat} {s₀ : State} {i : Nat} {s : State} (h₀ : Frame w₀ s₀ s) (hw₀ : 17592188149760 ||| w₀ = w₀) :
    Frame w₀ s₀ (placeRedLost i s) := by
  refine h₀.trans 17592188149760 ?_ hw₀
  clear h₀ hw₀
  unfold placeRedLost
  repeat' first
      | with_reducible exact Frame.refl
      | ((first | intro x | (lift_lets -underBinder; intro x)); first
      | clear_value x)
      | ((with_reducible refine redInputLost_frame ?_ ?_); on_goal 2 => rfl)
      | with_reducible refine Frame.ite ?_ ?_
      | split

theorem placeRedSkipped_frame {w₀ : Nat} {s₀ : State} {i : Nat} {b : Bytes} {s : State} (h₀ : Frame w₀ s₀ s) (hw₀ : 17592188149760 ||| w₀ = w₀) :
    Frame w₀ s₀ (placeRedSkipped i b s) := by
  refine h₀.trans 17592188149760 ?_ hw₀
  clear h₀ hw₀
  unfold placeRedSkipped
  repeat' first
      | with_reducible exact Frame.refl
      | ((first | intro x | (lift_lets -underBinder; intro x)); first
      | clear_value x)
      | ((with_reducible refine redInputLost_frame ?_ ?_); on_goal 2 => rfl)
      | with_reducible refine Frame.forAll (fun _ s => ?_) _ ?_

theorem placeSkip_frame {w₀ : Nat} {s₀ : State} {i : Nat} {h : HeldFrame} {natural : Bool} {s : State} (h₀ : Frame w₀ s₀ s) (hw₀ : 17665203118080 ||| w₀ = w₀) :
    Frame w₀ s₀ (placeSkip i h natural s) := by
  refine h₀.trans 17665203118080 ?_ hw₀
  clear h₀ hw₀
  unfold placeSkip
  repeat' first
      | with_reducible assumption
      | with_reducible exact Frame.refl
      | ((first | intro x | (lift_lets -underBinder; intro x)); first
      | (refine Frame.cut (w := 17665203118080) (s := s) (x := x) ?_ fun _ => ?_; (on_goal 1 => try dsimp only [x]); (on_goal 2 => clear_value x))
      | clear_value x)
      | ((with_reducible refine State.mvEvent_frame ?_ ?_); on_goal 2 => rfl)
      | ((with_reducible refine reportFault_frame ?_ ?_); on_goal 2 => rfl)
      | ((with_reducible refine takeHeld_frame ?_ ?_); on_goal 2 => rfl)
      | ((with_reducible refine keepRx_frame ?_ ?_); on_goal 2 => rfl)
      | ((with_reducible refine placeCount_frame ?_ ?_); on_goal 2 => rfl)
      | ((with_reducible refine updPlace_frame ?_ ?_); on_goal 2 => rfl)
      | ((with_reducible refine placeRedLost_frame ?_ ?_); on_goal 2 => rfl)
      | ((with_reducible refine placeRedSkipped_frame ?_ ?_); on_goal 2 => rfl)
      | with_reducible refine Frame.ite ?_ ?_

theorem placeTake_frame {w₀ : Nat} {s₀ : State} {i : Nat} {seq : Nat} {st : Status} {s : State} (h₀ : Frame w₀ s₀ s) (hw₀ : 532480 ||| w₀ = w₀) :
    Frame w₀ s₀ (placeTake i seq st s) := by
  refine h₀.trans 532480 ?_ hw₀
  clear h₀ hw₀
  unfold placeTake
  repeat' first
      | with_reducible assumption
      | with_reducible exact Frame.refl
      | ((first | intro x | (lift_lets -underBinder; intro x)); first
      | (refine Frame.cut (w := 532480) (s := s) (x := x) ?_ fun _ => ?_; (on_goal 1 => try dsimp only [x]); (on_goal 2 => clear_value x)))
      | ((with_reducible refine heldDone_frame ?_ ?_); on_goal 2 => rfl)
      | ((with_reducible refine keepRx_frame ?_ ?_); on_goal 2 => rfl)
      | ((with_reducible refine placeCount_frame ?_ ?_); on_goal 2 => rfl)
      | ((with_reducible refine updPlace_frame ?_ ?_); on_goal 2 => rfl)
      | with_reducible refine Frame.ite ?_ ?_

theorem placeWrites_frame {w₀ : Nat} {s₀ : State} {i : Nat} {seq : Nat} {hall : Nat} {hgen : Nat} {x0 : List (Nat × Bytes)} {x1 : State} (h₀ : Frame w₀ s₀ x1) (hw₀ : 35275775058008 ||| w₀ = w₀) :
    Frame w₀ s₀ (placeWrites i seq hall hgen x0 x1).2 := by
  refine h₀.trans 35275775058008 ?_ hw₀
  clear h₀ hw₀
  induction x0 generalizing x1 with
  | nil =>
    unfold placeWrites
    repeat' first
      | with_reducible exact Frame.refl
  | cons a l ih =>
    unfold placeWrites
    repeat' first
      | with_reducible assumption
      | with_reducible exact Frame.refl
      | ((first | intro x | (lift_lets -underBinder; intro x)); first
      | (refine Frame.cut (w := 35275775058008) (s := x1) (x := x) ?_ fun _ => ?_; (on_goal 1 => try dsimp only [x]); (on_goal 2 => clear_value x))
      | clear_value x)
      | ((with_reducible refine writeLine_frame ?_ ?_); on_goal 2 => rfl)
      | ((with_reducible refine heldDone_frame ?_ ?_); on_goal 2 => rfl)
      | ((with_reducible refine placeTake_frame ?_ ?_); on_goal 2 => rfl)
      | with_reducible refine Frame.forAll (fun _ x1 => ?_) _ ?_
      | dsimp -zeta only
      | with_reducible refine Frame.app ‹_› ?_
      | with_reducible refine Frame.ite2 ?_ ?_

theorem placeData_frame {w₀ : Nat} {s₀ : State} {i : Nat} {h : HeldFrame} {data : Bytes} {s : State} (h₀ : Frame w₀ s₀ s) (hw₀ : 52867963199576 ||| w₀ = w₀) :
    FrameOpt w₀ s₀ (placeData i h data s) := by
  refine FrameOpt.trans 52867963199576 h₀ ?_ hw₀
  clear h₀ hw₀
  unfold placeData
  repeat' first
      | with_reducible assumption
      | with_reducible exact Frame.refl
      | ((first | intro x | (lift_lets -underBinder; intro x)); first
      | (refine Frame.cut (w := 52867963199576) (s := s) (x := x) ?_ fun _ => ?_; (on_goal 1 => try dsimp only [x]); (on_goal 2 => clear_value x))
      | (refine Frame.cutFn (w := 52867963199576) (f := x) ?_ fun _ => ?_; (on_goal 1 => intro s; try dsimp only [x]); (on_goal 2 => clear_value x))
      | clear_value x)
      | ((with_reducible refine redFeed_frame ?_ ?_); on_goal 2 => rfl)
      | ((with_reducible refine takeHeld_frame ?_ ?_); on_goal 2 => rfl)
      | ((with_reducible refine placeCount_frame ?_ ?_); on_goal 2 => rfl)
      | ((with_reducible refine updPlace_frame ?_ ?_); on_goal 2 => rfl)
      | ((with_reducible refine placeSkip_frame ?_ ?_); on_goal 2 => rfl)
      | ((with_reducible refine placeWrites_frame ?_ ?_); on_goal 2 => rfl)
      | dsimp -zeta only
      | with_reducible refine Frame.app ‹_› ?_
      | with_reducible exact FrameOpt.none
      | with_reducible refine FrameOpt.some ?_
      | with_reducible refine Frame.ite ?_ ?_
      | split

theorem placeFirst_frame {w₀ : Nat} {s₀ : State} {i : Nat} {h : HeldFrame} {s : State} (h₀ : Frame w₀ s₀ s) (hw₀ : 52867963199576 ||| w₀ = w₀) :
    FrameOpt w₀ s₀ (placeFirst i h s) := by
  refine FrameOpt.trans 52867963199576 h₀ ?_ hw₀
  clear h₀ hw₀
  unfold placeFirst
  repeat' first
      | with_reducible exact Frame.refl
      | ((first | intro x | (lift_lets -underBinder; intro x)); first
      | (refine Frame.cutFn (w := 52867963199576) (f := x) ?_ fun _ => ?_; (on_goal 1 => intro s; try dsimp only [x]); (on_goal 2 => clear_value x))
      | clear_value x)
      | ((with_reducible refine redMismatch_frame ?_ ?_); on_goal 2 => rfl)
      | ((with_reducible refine updPlace_frame ?_ ?_); on_goal 2 => rfl)
      | ((with_reducible refine placeSkip_frame ?_ ?_); on_goal 2 => rfl)
      | ((with_reducible refine placeData_frame ?_ ?_); on_goal 2 => rfl)
      | with_reducible refine Frame.app ‹_› ?_
      | with_reducible exact FrameOpt.none
      | with_reducible refine FrameOpt.some ?_
      | split

theorem placeGap_frame {w₀ : Nat} {s₀ : State} {i : Nat} {h : HeldFrame} {s : State} (h₀ : Frame w₀ s₀ s) (hw₀ : 17592188674048 ||| w₀ = w₀) :
    Frame w₀ s₀ (placeGap i h s) := by
  refine h₀.trans 17592188674048 ?_ hw₀
  clear h₀ hw₀
  unfold placeGap
  repeat' first
      | with_reducible assumption
      | with_reducible exact Frame.refl
      | ((first | intro x | (lift_lets -underBinder; intro x)); first
      | (refine Frame.cut (w := 17592188674048) (s := s) (x := x) ?_ fun _ => ?_; (on_goal 1 => try dsimp only [x]); (on_goal 2 => clear_value x))
      | clear_value x)
      | ((with_reducible refine takeHeld_frame ?_ ?_); on_goal 2 => rfl)
      | ((with_reducible refine placeCount_frame ?_ ?_); on_goal 2 => rfl)
      | ((with_reducible refine updPlace_frame ?_ ?_); on_goal 2 => rfl)
      | ((with_reducible refine placeRedLost_frame ?_ ?_); on_goal 2 => rfl)
      | with_reducible refine Frame.ite ?_ ?_

theorem placeStep_frame {w₀ : Nat} {s₀ : State} {i : Nat} {s : State} (h₀ : Frame w₀ s₀ s) (hw₀ : 52867963199576 ||| w₀ = w₀) :
    FrameOpt w₀ s₀ (placeStep i s) := by
  refine FrameOpt.trans 52867963199576 h₀ ?_ hw₀
  clear h₀ hw₀
  unfold placeStep
  repeat' first
      | with_reducible exact Frame.refl
      | ((first | intro x | (lift_lets -underBinder; intro x)); first
      | clear_value x)
      | ((with_reducible refine hallStale_frame ?_ ?_); on_goal 2 => rfl)
      | ((with_reducible refine takeHeld_frame ?_ ?_); on_goal 2 => rfl)
      | ((with_reducible refine placeCount_frame ?_ ?_); on_goal 2 => rfl)
      | ((with_reducible refine updPlace_frame ?_ ?_); on_goal 2 => rfl)
      | ((with_reducible refine placeSkip_frame ?_ ?_); on_goal 2 => rfl)
      | ((with_reducible refine placeData_frame ?_ ?_); on_goal 2 => rfl)
      | ((with_reducible refine placeFirst_frame ?_ ?_); on_goal 2 => rfl)
      | ((with_reducible refine placeGap_frame ?_ ?_); on_goal 2 => rfl)
      | with_reducible exact FrameOpt.none
      | with_reducible refine FrameOpt.some ?_
      | split

theorem placePump_frame {w₀ : Nat} {s₀ : State} {i : Nat} {x0 : Nat} {x1 : State} (h₀ : Frame w₀ s₀ x1) (hw₀ : 52867963199576 ||| w₀ = w₀) :
    Frame w₀ s₀ (placePump i x0 x1).2 := by
  refine h₀.trans 52867963199576 ?_ hw₀
  clear h₀ hw₀
  induction x0 generalizing x1 with
  | zero =>
    unfold placePump
    repeat' first
      | with_reducible exact Frame.refl
  | succ n ih =>
    unfold placePump
    repeat' first
      | with_reducible exact Frame.refl
      | ((with_reducible refine State.rdEvent_frame ?_ ?_); on_goal 2 => rfl)
      | ((with_reducible refine placeStep_frame ?_ ?_); on_goal 2 => rfl)
      | ((with_reducible refine Frame.trans 52867963199576 ?_ (ih ..) ?_); on_goal 2 => rfl)
      | (refine FrameOpt.get ‹_› ?_)
      | with_reducible refine Frame.ite ?_ ?_
      | split

theorem placeAll_frame {w₀ : Nat} {s₀ : State}  {s : State} (h₀ : Frame w₀ s₀ s) (hw₀ : 52867963199576 ||| w₀ = w₀) :
    Frame w₀ s₀ (placeAll s).2 := by
  refine h₀.trans 52867963199576 ?_ hw₀
  clear h₀ hw₀
  unfold placeAll
  repeat' first
      | with_reducible exact Frame.refl
      | ((first | intro x | (lift_lets -underBinder; intro x)); first
      | clear_value x)
      | ((with_reducible refine eachAns_frame (fun _ s => ?_) ?_ ?_); on_goal 3 => rfl)
      | ((with_reducible refine placePump_frame ?_ ?_); on_goal 2 => rfl)

theorem holdFrame_frame {w₀ : Nat} {s₀ : State} {i : Nat} {b : Bytes} {plain : Bytes} {s : State} (h₀ : Frame w₀ s₀ s) (hw₀ : 8192 ||| w₀ = w₀) :
    Frame w₀ s₀ (holdFrame i b plain s) := by
  refine h₀.trans 8192 ?_ hw₀
  clear h₀ hw₀
  unfold holdFrame
  repeat' first
      | with_reducible exact Frame.refl
      | ((first | intro x | (lift_lets -underBinder; intro x)); first
      | clear_value x)
      | ((with_reducible refine updRx_frame ?_ ?_); on_goal 2 => rfl)

theorem serviceTake_frame {w₀ : Nat} {s₀ : State} {i : Nat} {m : Bytes} {s : State} (h₀ : Frame w₀ s₀ s) (hw₀ : 106588236986560 ||| w₀ = w₀) :
    Frame w₀ s₀ (serviceTake i m s) := by
  refine h₀.trans 106588236986560 ?_ hw₀
  clear h₀ hw₀
  unfold serviceTake
  repeat' first
      | with_reducible exact Frame.refl
      | ((with_reducible refine retireReceive_frame ?_ ?_); on_goal 2 => rfl)
      | ((with_reducible refine timeReceive_frame ?_ ?_); on_goal 2 => rfl)
      | ((with_reducible refine cutReceive_frame ?_ ?_); on_goal 2 => rfl)
      | ((with_reducible refine Frame.updDom ?_ ?_); on_goal 2 => rfl)
      | split

theorem gapApply_frame {w₀ : Nat} {s₀ : State} {i : Nat} {b : Bytes} {plain : Bytes} {s : State} (h₀ : Frame w₀ s₀ s) (hw₀ : 52867963215960 ||| w₀ = w₀) :
    Frame w₀ s₀ (gapApply i b plain s).2 := by
  refine h₀.trans 52867963215960 ?_ hw₀
  clear h₀ hw₀
  unfold gapApply
  repeat' first
      | with_reducible assumption
      | with_reducible exact Frame.refl
      | ((first | intro x | (lift_lets -underBinder; intro x)); first
      | (refine Frame.cut (w := 52867963215960) (s := s) (x := x) ?_ fun _ => ?_; (on_goal 1 => try dsimp only [x]); (on_goal 2 => clear_value x))
      | clear_value x)
      | ((with_reducible refine rxCount_frame ?_ ?_); on_goal 2 => rfl)
      | ((with_reducible refine updRx_frame ?_ ?_); on_goal 2 => rfl)
      | ((with_reducible refine rxLoss_frame ?_ ?_); on_goal 2 => rfl)
      | ((with_reducible refine placePump_frame ?_ ?_); on_goal 2 => rfl)
      | ((with_reducible refine holdFrame_frame ?_ ?_); on_goal 2 => rfl)
      | dsimp -zeta only
      | with_reducible refine Frame.ite2 ?_ ?_

theorem frameAccepted_frame {w₀ : Nat} {s₀ : State} {i : Nat} {b : Bytes} {plain : Bytes} {s : State} (h₀ : Frame w₀ s₀ s) (hw₀ : 124198813628632 ||| w₀ = w₀) :
    Frame w₀ s₀ (frameAccepted i b plain s).2 := by
  refine h₀.trans 124198813628632 ?_ hw₀
  clear h₀ hw₀
  unfold frameAccepted
  repeat' first
      | with_reducible assumption
      | with_reducible exact Frame.refl
      | ((first | intro x | (lift_lets -underBinder; intro x)); first
      | (refine Frame.cut (w := 124198813628632) (s := s) (x := x) ?_ fun _ => ?_; (on_goal 1 => try dsimp only [x]); (on_goal 2 => clear_value x))
      | clear_value x)
      | ((with_reducible refine rxCount_frame ?_ ?_); on_goal 2 => rfl)
      | ((with_reducible refine placePump_frame ?_ ?_); on_goal 2 => rfl)
      | ((with_reducible refine holdFrame_frame ?_ ?_); on_goal 2 => rfl)
      | ((with_reducible refine serviceTake_frame ?_ ?_); on_goal 2 => rfl)
      | ((with_reducible refine gapApply_frame ?_ ?_); on_goal 2 => rfl)
      | with_reducible refine Frame.ite2 ?_ ?_

theorem expanderFrame_frame {w₀ : Nat} {s₀ : State} {i : Nat} {b : Bytes} {s : State} (h₀ : Frame w₀ s₀ s) (hw₀ : 91402526784 ||| w₀ = w₀) :
    Frame w₀ s₀ (expanderFrame i b s).2 := by
  refine h₀.trans 91402526784 ?_ hw₀
  clear h₀ hw₀
  unfold expanderFrame
  repeat' first
      | with_reducible exact Frame.refl
      | ((first | intro x | (lift_lets -underBinder; intro x)); first
      | clear_value x)
      | ((with_reducible refine rxCount_frame ?_ ?_); on_goal 2 => rfl)
      | ((with_reducible refine lineRspTake_frame ?_ ?_); on_goal 2 => rfl)
      | ((with_reducible refine rxMark_frame ?_ ?_); on_goal 2 => rfl)

theorem tagFailed_frame {w₀ : Nat} {s₀ : State} {p : Nat} {i : Nat} {b : Bytes} {natural : Bool} {s : State} (h₀ : Frame w₀ s₀ s) (hw₀ : 52867963215960 ||| w₀ = w₀) :
    Frame w₀ s₀ (tagFailed p i b natural s).2 := by
  refine h₀.trans 52867963215960 ?_ hw₀
  clear h₀ hw₀
  unfold tagFailed
  repeat' first
      | with_reducible assumption
      | with_reducible exact Frame.refl
      | ((first | intro x | (lift_lets -underBinder; intro x)); first
      | (refine Frame.cut (w := 52867963215960) (s := s) (x := x) ?_ fun _ => ?_; (on_goal 1 => try dsimp only [x]); (on_goal 2 => clear_value x))
      | clear_value x)
      | ((with_reducible refine State.lsEvent_frame ?_ ?_); on_goal 2 => rfl)
      | ((with_reducible refine reportFault_frame ?_ ?_); on_goal 2 => rfl)
      | ((with_reducible refine rxCount_frame ?_ ?_); on_goal 2 => rfl)
      | ((with_reducible refine updRx_frame ?_ ?_); on_goal 2 => rfl)
      | ((with_reducible refine rxLoss_frame ?_ ?_); on_goal 2 => rfl)
      | ((with_reducible refine placePump_frame ?_ ?_); on_goal 2 => rfl)
      | dsimp -zeta only
      | with_reducible refine Frame.ite2 ?_ ?_

theorem onLane_frame {w₀ : Nat} {s₀ : State} {lane : Nat} {i : Nat} {s : State} (h₀ : Frame w₀ s₀ s) (hw₀ : 8192 ||| w₀ = w₀) :
    Frame w₀ s₀ (onLane lane i s) := by
  refine h₀.trans 8192 ?_ hw₀
  clear h₀ hw₀
  unfold onLane
  repeat' first
      | with_reducible exact Frame.refl
      | ((with_reducible refine updRx_frame ?_ ?_); on_goal 2 => rfl)
      | with_reducible refine Frame.ite ?_ ?_

theorem rxVerify_frame {w₀ : Nat} {s₀ : State} {lane : Nat} {i : Nat} {b : Bytes} {s : State} (h₀ : Frame w₀ s₀ s) (hw₀ : 124198813628632 ||| w₀ = w₀) :
    Frame w₀ s₀ (rxVerify lane i b s).2 := by
  refine h₀.trans 124198813628632 ?_ hw₀
  clear h₀ hw₀
  unfold rxVerify
  repeat' first
      | with_reducible exact Frame.refl
      | ((first | intro x | (lift_lets -underBinder; intro x)); first
      | clear_value x)
      | ((with_reducible refine raiseFault_frame ?_ ?_); on_goal 2 => rfl)
      | ((with_reducible refine hallStale_frame ?_ ?_); on_goal 2 => rfl)
      | ((with_reducible refine rxCount_frame ?_ ?_); on_goal 2 => rfl)
      | ((with_reducible refine keyFor_frame ?_ ?_); on_goal 2 => rfl)
      | ((with_reducible refine rxMark_frame ?_ ?_); on_goal 2 => rfl)
      | ((with_reducible refine frameAccepted_frame ?_ ?_); on_goal 2 => rfl)
      | ((with_reducible refine tagFailed_frame ?_ ?_); on_goal 2 => rfl)
      | ((with_reducible refine onLane_frame ?_ ?_); on_goal 2 => rfl)
      | (refine Frame.ofEq ‹_› ?_)
      | dsimp -zeta only
      | with_reducible refine Frame.ite2 ?_ ?_
      | split

theorem frameHere_frame {w₀ : Nat} {s₀ : State} {lane : Nat} {vc : BitVec 2} {b : Bytes} {s : State} (h₀ : Frame w₀ s₀ s) (hw₀ : 124198813694168 ||| w₀ = w₀) :
    Frame w₀ s₀ (frameHere lane vc b s).2 := by
  refine h₀.trans 124198813694168 ?_ hw₀
  clear h₀ hw₀
  unfold frameHere
  repeat' first
      | with_reducible exact Frame.refl
      | ((first | intro x | (lift_lets -underBinder; intro x)); first
      | clear_value x)
      | ((with_reducible refine State.lsEvent_frame ?_ ?_); on_goal 2 => rfl)
      | ((with_reducible refine reportFault_frame ?_ ?_); on_goal 2 => rfl)
      | ((with_reducible refine rxCount_frame ?_ ?_); on_goal 2 => rfl)
      | ((with_reducible refine expanderFrame_frame ?_ ?_); on_goal 2 => rfl)
      | ((with_reducible refine onLane_frame ?_ ?_); on_goal 2 => rfl)
      | ((with_reducible refine rxVerify_frame ?_ ?_); on_goal 2 => rfl)
      | with_reducible refine Frame.ite2 ?_ ?_
      | split

theorem remoteSignal_frame {w₀ : Nat} {s₀ : State} {i : Nat} {m : Bytes} {st : Status} {s : State} (h₀ : Frame w₀ s₀ s) (hw₀ : 41856100466688 ||| w₀ = w₀) :
    Frame w₀ s₀ (remoteSignal i m st s) := by
  refine h₀.trans 41856100466688 ?_ hw₀
  clear h₀ hw₀
  unfold remoteSignal
  repeat' first
      | with_reducible assumption
      | with_reducible exact Frame.refl
      | ((first | intro x | (lift_lets -underBinder; intro x)); first
      | (refine Frame.cut (w := 41856100466688) (s := s) (x := x) ?_ fun _ => ?_; (on_goal 1 => try dsimp only [x]); (on_goal 2 => clear_value x))
      | clear_value x)
      | ((with_reducible refine State.fsEvent_frame ?_ ?_); on_goal 2 => rfl)
      | ((with_reducible refine State.fsCount_frame ?_ ?_); on_goal 2 => rfl)
      | ((with_reducible refine reportFault_frame ?_ ?_); on_goal 2 => rfl)
      | ((with_reducible refine hallStale_frame ?_ ?_); on_goal 2 => rfl)
      | ((with_reducible refine signalFence_frame ?_ ?_); on_goal 2 => rfl)
      | with_reducible refine Frame.ite ?_ ?_

theorem heldDrop_frame {w₀ : Nat} {s₀ : State} {i : Nat} {seq : Nat} {s : State} (h₀ : Frame w₀ s₀ s) (hw₀ : 8192 ||| w₀ = w₀) :
    Frame w₀ s₀ (heldDrop i seq s) := by
  refine h₀.trans 8192 ?_ hw₀
  clear h₀ hw₀
  unfold heldDrop
  repeat' first
      | with_reducible exact Frame.refl
      | ((first | intro x | (lift_lets -underBinder; intro x)); first
      | clear_value x)
      | ((with_reducible refine rxCount_frame ?_ ?_); on_goal 2 => rfl)
      | ((with_reducible refine updRx_frame ?_ ?_); on_goal 2 => rfl)

theorem signalDeliver_frame {w₀ : Nat} {s₀ : State} {i : Nat} {h : HeldFrame} {st : Status} {s : State} (h₀ : Frame w₀ s₀ s) (hw₀ : 41856100474880 ||| w₀ = w₀) :
    Frame w₀ s₀ (signalDeliver i h st s) := by
  refine h₀.trans 41856100474880 ?_ hw₀
  clear h₀ hw₀
  unfold signalDeliver
  repeat' first
      | with_reducible exact Frame.refl
      | ((with_reducible refine updRx_frame ?_ ?_); on_goal 2 => rfl)
      | ((with_reducible refine remoteSignal_frame ?_ ?_); on_goal 2 => rfl)
      | ((with_reducible refine heldDrop_frame ?_ ?_); on_goal 2 => rfl)

theorem drainComplete_frame {w₀ : Nat} {s₀ : State}  {s : State} (h₀ : Frame w₀ s₀ s) (hw₀ : 12352 ||| w₀ = w₀) :
    Frame w₀ s₀ (drainComplete s) := by
  refine h₀.trans 12352 ?_ hw₀
  clear h₀ hw₀
  unfold drainComplete
  repeat' first
      | with_reducible assumption
      | with_reducible exact Frame.refl
      | ((first | intro x | (lift_lets -underBinder; intro x)); first
      | (refine Frame.cut (w := 12352) (s := s) (x := x) ?_ fun _ => ?_; (on_goal 1 => try dsimp only [x]); (on_goal 2 => clear_value x))
      | clear_value x)
      | ((with_reducible refine retireHandle_frame ?_ ?_); on_goal 2 => rfl)
      | ((with_reducible refine Frame.updDom ?_ ?_); on_goal 2 => rfl)
      | ((with_reducible refine Frame.updLsSoft (f := _) ?_ ?_ ?_); (on_goal 1 => (intro _; unfold Ls.rest; rfl)); on_goal 2 => rfl)
      | with_reducible refine Frame.forAll (fun _ s => ?_) _ ?_
      | with_reducible refine Frame.ite ?_ ?_

theorem rxClose_frame {w₀ : Nat} {s₀ : State} {i : Nat} {s : State} (h₀ : Frame w₀ s₀ s) (hw₀ : 28736 ||| w₀ = w₀) :
    Frame w₀ s₀ (rxClose i s) := by
  refine h₀.trans 28736 ?_ hw₀
  clear h₀ hw₀
  unfold rxClose
  repeat' first
      | with_reducible assumption
      | with_reducible exact Frame.refl
      | ((first | intro x | (lift_lets -underBinder; intro x)); first
      | (refine Frame.cut (w := 28736) (s := s) (x := x) ?_ fun _ => ?_; (on_goal 1 => try dsimp only [x]); (on_goal 2 => clear_value x))
      | clear_value x)
      | ((with_reducible refine State.lsEvent_frame ?_ ?_); on_goal 2 => rfl)
      | ((with_reducible refine retireHandle_frame ?_ ?_); on_goal 2 => rfl)
      | ((with_reducible refine updRx_frame ?_ ?_); on_goal 2 => rfl)
      | ((with_reducible refine drainComplete_frame ?_ ?_); on_goal 2 => rfl)
      | ((with_reducible refine Frame.updLsSoft (f := _) ?_ ?_ ?_); (on_goal 1 => (intro _; unfold Ls.rest; rfl)); on_goal 2 => rfl)

theorem frameReleaseOp_frame {w₀ : Nat} {s₀ : State} {i : Nat} {s : State} (h₀ : Frame w₀ s₀ s) (hw₀ : 41873423134808 ||| w₀ = w₀) :
    Frame w₀ s₀ (frameReleaseOp i s).2 := by
  refine h₀.trans 41873423134808 ?_ hw₀
  clear h₀ hw₀
  unfold frameReleaseOp
  repeat' first
      | with_reducible assumption
      | with_reducible exact Frame.refl
      | ((first | intro x | (lift_lets -underBinder; intro x)); first
      | (refine Frame.cut (w := 41873423134808) (s := s) (x := x) ?_ fun _ => ?_; (on_goal 1 => try dsimp only [x]); (on_goal 2 => clear_value x))
      | clear_value x)
      | ((with_reducible refine eachAns_frame (fun _ s => ?_) ?_ ?_); on_goal 3 => rfl)
      | ((with_reducible refine takeHeld_frame ?_ ?_); on_goal 2 => rfl)
      | ((with_reducible refine combClean_frame ?_ ?_); on_goal 2 => rfl)
      | ((with_reducible refine heldDrop_frame ?_ ?_); on_goal 2 => rfl)
      | ((with_reducible refine signalDeliver_frame ?_ ?_); on_goal 2 => rfl)
      | ((with_reducible refine rxClose_frame ?_ ?_); on_goal 2 => rfl)
      | with_reducible refine Frame.ite2 ?_ ?_
      | split

theorem rspMismatch_frame {w₀ : Nat} {s₀ : State} {natural : Bool} {i : Nat} {t : Nat} {s : State} (h₀ : Frame w₀ s₀ s) (hw₀ : 73014452224 ||| w₀ = w₀) :
    Frame w₀ s₀ (rspMismatch natural i t s).2 := by
  refine h₀.trans 73014452224 ?_ hw₀
  clear h₀ hw₀
  unfold rspMismatch
  repeat' first
      | with_reducible exact Frame.refl
      | ((first | intro x | (lift_lets -underBinder; intro x)); first
      | clear_value x)
      | ((with_reducible refine reportFault_frame ?_ ?_); on_goal 2 => rfl)
      | ((with_reducible refine enterResync_frame ?_ ?_); on_goal 2 => rfl)

theorem rspServe_frame {w₀ : Nat} {s₀ : State} {t : Nat} {l : List (Status × Bytes)} {s : State} (h₀ : Frame w₀ s₀ s) (hw₀ : 17179877376 ||| w₀ = w₀) :
    Frame w₀ s₀ (rspServe t l s).2 := by
  refine h₀.trans 17179877376 ?_ hw₀
  clear h₀ hw₀
  unfold rspServe
  repeat' first
      | with_reducible assumption
      | with_reducible exact Frame.refl
      | ((first | intro x | (lift_lets -underBinder; intro x)); first
      | (refine Frame.cut (w := 17179877376) (s := s) (x := x) ?_ fun _ => ?_; (on_goal 1 => try dsimp only [x]); (on_goal 2 => clear_value x)))
      | ((with_reducible refine staleReply_frame ?_ ?_); on_goal 2 => rfl)
      | ((with_reducible refine updTx_frame ?_ ?_); on_goal 2 => rfl)
      | with_reducible refine Frame.ite2 ?_ ?_
      | split

theorem rspItem_frame {w₀ : Nat} {s₀ : State} {i : Nat} {block : Option Bytes} {data : Bytes} {s : State} (h₀ : Frame w₀ s₀ s) (hw₀ : 90194321408 ||| w₀ = w₀) :
    Frame w₀ s₀ (rspItem i block data s).2 := by
  refine h₀.trans 90194321408 ?_ hw₀
  clear h₀ hw₀
  unfold rspItem
  repeat' first
      | with_reducible exact Frame.refl
      | ((first | intro x | (lift_lets -underBinder; intro x)); first
      | (refine Frame.cutFn (w := 90194321408) (f := x) ?_ fun _ => ?_; (on_goal 1 => intro s; try dsimp only [x]); (on_goal 2 => clear_value x))
      | clear_value x)
      | ((with_reducible refine rxCount_frame ?_ ?_); on_goal 2 => rfl)
      | ((with_reducible refine updTx_frame ?_ ?_); on_goal 2 => rfl)
      | ((with_reducible refine rspMismatch_frame ?_ ?_); on_goal 2 => rfl)
      | ((with_reducible refine rspServe_frame ?_ ?_); on_goal 2 => rfl)
      | dsimp -zeta only
      | with_reducible refine Frame.app ‹_› ?_
      | with_reducible refine Frame.ite2 ?_ ?_
      | split

theorem rspReceiveOp_frame {w₀ : Nat} {s₀ : State} {i : Nat} {s : State} (h₀ : Frame w₀ s₀ s) (hw₀ : 90194321408 ||| w₀ = w₀) :
    Frame w₀ s₀ (rspReceiveOp i s).2 := by
  refine h₀.trans 90194321408 ?_ hw₀
  clear h₀ hw₀
  unfold rspReceiveOp
  repeat' first
      | with_reducible assumption
      | with_reducible exact Frame.refl
      | ((first | intro x | (lift_lets -underBinder; intro x)); first
      | (refine Frame.cut (w := 90194321408) (s := s) (x := x) ?_ fun _ => ?_; (on_goal 1 => try dsimp only [x]); (on_goal 2 => clear_value x))
      | clear_value x)
      | ((with_reducible refine updRx_frame ?_ ?_); on_goal 2 => rfl)
      | ((with_reducible refine takeHeld_frame ?_ ?_); on_goal 2 => rfl)
      | ((with_reducible refine rspItem_frame ?_ ?_); on_goal 2 => rfl)
      | with_reducible refine Frame.ite2 ?_ ?_
      | split

theorem rxBreak_frame {w₀ : Nat} {s₀ : State} {i : Nat} {taint : Bool} {s : State} (h₀ : Frame w₀ s₀ s) (hw₀ : 52867963215960 ||| w₀ = w₀) :
    Frame w₀ s₀ (rxBreak i taint s).2 := by
  refine h₀.trans 52867963215960 ?_ hw₀
  clear h₀ hw₀
  unfold rxBreak
  repeat' first
      | with_reducible assumption
      | with_reducible exact Frame.refl
      | ((first | intro x | (lift_lets -underBinder; intro x)); first
      | (refine Frame.cut (w := 52867963215960) (s := s) (x := x) ?_ fun _ => ?_; (on_goal 1 => try dsimp only [x]); (on_goal 2 => clear_value x))
      | clear_value x)
      | ((with_reducible refine State.lsEvent_frame ?_ ?_); on_goal 2 => rfl)
      | ((with_reducible refine updRx_frame ?_ ?_); on_goal 2 => rfl)
      | ((with_reducible refine rxLoss_frame ?_ ?_); on_goal 2 => rfl)
      | ((with_reducible refine placePump_frame ?_ ?_); on_goal 2 => rfl)

theorem rxFailoverOp_frame {w₀ : Nat} {s₀ : State} {p : Nat} {s : State} (h₀ : Frame w₀ s₀ s) (hw₀ : 52867963215960 ||| w₀ = w₀) :
    Frame w₀ s₀ (rxFailoverOp p s).2 := by
  refine h₀.trans 52867963215960 ?_ hw₀
  clear h₀ hw₀
  unfold rxFailoverOp
  repeat' first
      | with_reducible assumption
      | with_reducible exact Frame.refl
      | ((first | intro x | (lift_lets -underBinder; intro x)); first
      | (refine Frame.cut (w := 52867963215960) (s := s) (x := x) ?_ fun _ => ?_; (on_goal 1 => try dsimp only [x]); (on_goal 2 => clear_value x))
      | clear_value x)
      | ((with_reducible refine State.lsEvent_frame ?_ ?_); on_goal 2 => rfl)
      | ((with_reducible refine raiseFault_frame ?_ ?_); on_goal 2 => rfl)
      | ((with_reducible refine reportFault_frame ?_ ?_); on_goal 2 => rfl)
      | ((with_reducible refine forfeitLease_frame ?_ ?_); on_goal 2 => rfl)
      | ((with_reducible refine eachAns_frame (fun _ s => ?_) ?_ ?_); on_goal 3 => rfl)
      | ((with_reducible refine rxBreak_frame ?_ ?_); on_goal 2 => rfl)
      | ((with_reducible refine Frame.updLs ?_ ?_); on_goal 2 => rfl)
      | with_reducible refine Frame.ite ?_ ?_
      | with_reducible refine Frame.ite2 ?_ ?_
      | split

theorem frameTakeOp_frame {w₀ : Nat} {s₀ : State} {lane : Nat} {vc : BitVec 2} {route : Byte} {b : Bytes} {s : State} (h₀ : Frame w₀ s₀ s) (hw₀ : 124198813694168 ||| w₀ = w₀) :
    Frame w₀ s₀ (frameTakeOp lane vc route b s).2 := by
  refine h₀.trans 124198813694168 ?_ hw₀
  clear h₀ hw₀
  unfold frameTakeOp
  repeat' first
      | with_reducible exact Frame.refl
      | ((first | intro x | (lift_lets -underBinder; intro x)); first
      | clear_value x)
      | ((with_reducible refine injFired_frame ?_ ?_); on_goal 2 => rfl)
      | ((with_reducible refine relayOp_frame ?_ ?_); on_goal 2 => rfl)
      | ((with_reducible refine frameHere_frame ?_ ?_); on_goal 2 => rfl)
      | ((with_reducible refine rxFailoverOp_frame ?_ ?_); on_goal 2 => rfl)
      | dsimp -zeta only
      | with_reducible refine Frame.ite2 ?_ ?_

theorem rxLaneLost_frame {w₀ : Nat} {s₀ : State} {i : Nat} {s : State} (h₀ : Frame w₀ s₀ s) (hw₀ : 52867963215960 ||| w₀ = w₀) :
    Frame w₀ s₀ (rxLaneLost i s).2 := by
  refine h₀.trans 52867963215960 ?_ hw₀
  clear h₀ hw₀
  unfold rxLaneLost
  repeat' first
      | with_reducible exact Frame.refl
      | ((first | intro x | (lift_lets -underBinder; intro x)); first
      | clear_value x)
      | ((with_reducible refine State.lsEvent_frame ?_ ?_); on_goal 2 => rfl)
      | ((with_reducible refine updRx_frame ?_ ?_); on_goal 2 => rfl)
      | ((with_reducible refine rxBreak_frame ?_ ?_); on_goal 2 => rfl)
      | with_reducible refine Frame.ite2 ?_ ?_

theorem moveResync_frame {w₀ : Nat} {s₀ : State} {i : Nat} {s : State} (h₀ : Frame w₀ s₀ s) (hw₀ : 8192 ||| w₀ = w₀) :
    Frame w₀ s₀ (moveResync i s).2 := by
  refine h₀.trans 8192 ?_ hw₀
  clear h₀ hw₀
  unfold moveResync
  repeat' first
      | with_reducible exact Frame.refl
      | ((with_reducible refine enterResync_frame ?_ ?_); on_goal 2 => rfl)
      | with_reducible refine Frame.ite2 ?_ ?_

theorem laneFallOp_frame {w₀ : Nat} {s₀ : State} {lane : Nat} {s : State} (h₀ : Frame w₀ s₀ s) (hw₀ : 52867963215966 ||| w₀ = w₀) :
    Frame w₀ s₀ (laneFallOp lane s).2 := by
  refine h₀.trans 52867963215966 ?_ hw₀
  clear h₀ hw₀
  unfold laneFallOp
  repeat' first
      | with_reducible assumption
      | with_reducible exact Frame.refl
      | ((first | intro x | (lift_lets -underBinder; intro x)); first
      | (refine Frame.cut (w := 52867963215966) (s := s) (x := x) ?_ fun _ => ?_; (on_goal 1 => try dsimp only [x]); (on_goal 2 => clear_value x))
      | clear_value x)
      | ((with_reducible refine raiseFault_frame ?_ ?_); on_goal 2 => rfl)
      | ((with_reducible refine eachAns_frame (fun _ s => ?_) ?_ ?_); on_goal 3 => rfl)
      | ((with_reducible refine txLaneFall_frame ?_ ?_); on_goal 2 => rfl)
      | ((with_reducible refine rxLaneLost_frame ?_ ?_); on_goal 2 => rfl)
      | ((with_reducible refine moveResync_frame ?_ ?_); on_goal 2 => rfl)
      | ((with_reducible refine Frame.emit ?_ ?_); on_goal 2 => rfl)
      | ((with_reducible refine Frame.updPins ?_ ?_); on_goal 2 => rfl)
      | dsimp -zeta only
      | with_reducible refine Frame.ite ?_ ?_
      | with_reducible refine Frame.ite2 ?_ ?_

theorem frameReceiveOp_frame {w₀ : Nat} {s₀ : State} {lane : Nat} {vc : BitVec 2} {route : Byte} {b : Bytes} {s : State} (h₀ : Frame w₀ s₀ s) (hw₀ : 124198813694168 ||| w₀ = w₀) :
    Frame w₀ s₀ (frameReceiveOp lane vc route b s).2 := by
  refine h₀.trans 124198813694168 ?_ hw₀
  clear h₀ hw₀
  unfold frameReceiveOp
  repeat' first
      | with_reducible exact Frame.refl
      | ((first | intro x | (lift_lets -underBinder; intro x)); first
      | clear_value x)
      | ((with_reducible refine reportFault_frame ?_ ?_); on_goal 2 => rfl)
      | ((with_reducible refine eachAns_frame (fun _ s => ?_) ?_ ?_); on_goal 3 => rfl)
      | ((with_reducible refine frameTakeOp_frame ?_ ?_); on_goal 2 => rfl)
      | ((with_reducible refine rxLaneLost_frame ?_ ?_); on_goal 2 => rfl)
      | dsimp -zeta only
      | with_reducible refine Frame.ite2 ?_ ?_

theorem txSealRow_frame {w₀ : Nat} {s₀ : State} {i : Nat} {mismatch : Bool} {s : State} (h₀ : Frame w₀ s₀ s) (hw₀ : 74490896448 ||| w₀ = w₀) :
    Frame w₀ s₀ (txSealRow i mismatch s).2 := by
  refine h₀.trans 74490896448 ?_ hw₀
  clear h₀ hw₀
  unfold txSealRow
  repeat' first
      | with_reducible exact Frame.refl
      | ((first | intro x | (lift_lets -underBinder; intro x)); first
      | clear_value x)
      | ((with_reducible refine reportFault_frame ?_ ?_); on_goal 2 => rfl)
      | ((with_reducible refine txSealOp_frame ?_ ?_); on_goal 2 => rfl)
      | ((with_reducible refine eachAns_frame (fun _ s => ?_) ?_ ?_); on_goal 3 => rfl)
      | ((with_reducible refine txLaneFall_frame ?_ ?_); on_goal 2 => rfl)
      | ((with_reducible refine moveResync_frame ?_ ?_); on_goal 2 => rfl)
      | dsimp -zeta only
      | with_reducible refine Frame.ite2 ?_ ?_

theorem laneRiseOp_frame {w₀ : Nat} {s₀ : State} {lane : Nat} {s : State} (h₀ : Frame w₀ s₀ s) (hw₀ : 6 ||| w₀ = w₀) :
    Frame w₀ s₀ (laneRiseOp lane s) := by
  refine h₀.trans 6 ?_ hw₀
  clear h₀ hw₀
  unfold laneRiseOp
  repeat' first
      | with_reducible exact Frame.refl
      | ((with_reducible refine Frame.updPins ?_ ?_); on_goal 2 => rfl)
      | with_reducible refine Frame.ite ?_ ?_

theorem abandonOp_frame {w₀ : Nat} {s₀ : State} {i : Nat} {s : State} (h₀ : Frame w₀ s₀ s) (hw₀ : 52867963215960 ||| w₀ = w₀) :
    Frame w₀ s₀ (abandonOp i s).2 := by
  refine h₀.trans 52867963215960 ?_ hw₀
  clear h₀ hw₀
  unfold abandonOp
  repeat' first
      | with_reducible exact Frame.refl
      | ((with_reducible refine rxBreak_frame ?_ ?_); on_goal 2 => rfl)

theorem streamAbandonAct_frame {w₀ : Nat} {s₀ : State} {a : Act} {arg : Bytes} {s : State} (h₀ : Frame w₀ s₀ s) (hw₀ : 55066986471512 ||| w₀ = w₀) :
    Frame w₀ s₀ (streamAbandonAct a arg s).2 := by
  refine h₀.trans 55066986471512 ?_ hw₀
  clear h₀ hw₀
  unfold streamAbandonAct
  repeat' first
      | with_reducible exact Frame.refl
      | ((first | intro x | (lift_lets -underBinder; intro x)); first
      | clear_value x)
      | ((with_reducible refine actDone_frame ?_ ?_); on_goal 2 => rfl)
      | ((with_reducible refine eachAns_frame (fun _ s => ?_) ?_ ?_); on_goal 3 => rfl)
      | ((with_reducible refine abandonOp_frame ?_ ?_); on_goal 2 => rfl)
      | dsimp -zeta only
      | with_reducible refine Frame.ite2 ?_ ?_

theorem rxPeerLost_frame {w₀ : Nat} {s₀ : State} {i : Nat} {s : State} (h₀ : Frame w₀ s₀ s) (hw₀ : 59448288616512 ||| w₀ = w₀) :
    Frame w₀ s₀ (rxPeerLost i s) := by
  refine h₀.trans 59448288616512 ?_ hw₀
  clear h₀ hw₀
  unfold rxPeerLost
  repeat' first
      | with_reducible assumption
      | with_reducible exact Frame.refl
      | ((first | intro x | (lift_lets -underBinder; intro x)); first
      | (refine Frame.cut (w := 59448288616512) (s := s) (x := x) ?_ fun _ => ?_; (on_goal 1 => try dsimp only [x]); (on_goal 2 => clear_value x))
      | clear_value x)
      | ((with_reducible refine retireHandle_frame ?_ ?_); on_goal 2 => rfl)
      | ((with_reducible refine updRx_frame ?_ ?_); on_goal 2 => rfl)
      | ((with_reducible refine placeRedLost_frame ?_ ?_); on_goal 2 => rfl)
      | ((with_reducible refine signalDeliver_frame ?_ ?_); on_goal 2 => rfl)
      | with_reducible refine Frame.forAll (fun _ s => ?_) _ ?_

theorem txBindOp_frame {w₀ : Nat} {s₀ : State} {i : Nat} {s : State} (h₀ : Frame w₀ s₀ s) (hw₀ : 8192 ||| w₀ = w₀) :
    Frame w₀ s₀ (txBindOp i s).2 := by
  refine h₀.trans 8192 ?_ hw₀
  clear h₀ hw₀
  unfold txBindOp
  repeat' first
      | with_reducible exact Frame.refl
      | ((first | intro x | (lift_lets -underBinder; intro x)); first
      | clear_value x)
      | ((with_reducible refine updTx_frame ?_ ?_); on_goal 2 => rfl)
      | with_reducible refine Frame.ite2 ?_ ?_

theorem rxBindOp_frame {w₀ : Nat} {s₀ : State} {i : Nat} {s : State} (h₀ : Frame w₀ s₀ s) (hw₀ : 8192 ||| w₀ = w₀) :
    Frame w₀ s₀ (rxBindOp i s).2 := by
  refine h₀.trans 8192 ?_ hw₀
  clear h₀ hw₀
  unfold rxBindOp
  repeat' first
      | with_reducible exact Frame.refl
      | ((first | intro x | (lift_lets -underBinder; intro x)); first
      | clear_value x)
      | ((with_reducible refine updRx_frame ?_ ?_); on_goal 2 => rfl)
      | with_reducible refine Frame.ite2 ?_ ?_

theorem unbindOp_frame {w₀ : Nat} {s₀ : State} {i : Nat} {rx : Bool} {s : State} (h₀ : Frame w₀ s₀ s) (hw₀ : 8192 ||| w₀ = w₀) :
    Frame w₀ s₀ (unbindOp i rx s).2.2 := by
  refine h₀.trans 8192 ?_ hw₀
  clear h₀ hw₀
  unfold unbindOp
  repeat' first
      | with_reducible exact Frame.refl
      | ((first | intro x | (lift_lets -underBinder; intro x)); first
      | clear_value x)
      | ((with_reducible refine updTx_frame ?_ ?_); on_goal 2 => rfl)
      | ((with_reducible refine updRx_frame ?_ ?_); on_goal 2 => rfl)
      | with_reducible refine Frame.ite3 ?_ ?_

theorem armSwitchOp_frame {w₀ : Nat} {s₀ : State}  {s : State} (h₀ : Frame w₀ s₀ s) (hw₀ : 24576 ||| w₀ = w₀) :
    Frame w₀ s₀ (armSwitchOp s) := by
  refine h₀.trans 24576 ?_ hw₀
  clear h₀ hw₀
  unfold armSwitchOp
  repeat' first
      | with_reducible exact Frame.refl
      | ((first | intro x | (lift_lets -underBinder; intro x)); first
      | clear_value x)
      | ((with_reducible refine Frame.updLs ?_ ?_); on_goal 2 => rfl)

theorem lsQueryOp_frame {w₀ : Nat} {s₀ : State} {i : Nat} {rx : Bool} {s : State} (h₀ : Frame w₀ s₀ s) (hw₀ : 24576 ||| w₀ = w₀) :
    Frame w₀ s₀ (lsQueryOp i rx s) := by
  refine h₀.trans 24576 ?_ hw₀
  clear h₀ hw₀
  unfold lsQueryOp
  repeat' first
      | with_reducible exact Frame.refl
      | ((first | intro x | (lift_lets -underBinder; intro x)); first
      | clear_value x)
      | ((with_reducible refine Frame.updLs ?_ ?_); on_goal 2 => rfl)
      | with_reducible refine Frame.ite ?_ ?_

theorem lsFailoverOp_frame {w₀ : Nat} {s₀ : State}  {s : State} (h₀ : Frame w₀ s₀ s) (hw₀ : 52867963215960 ||| w₀ = w₀) :
    Frame w₀ s₀ (lsFailoverOp s).2.2 := by
  refine h₀.trans 52867963215960 ?_ hw₀
  clear h₀ hw₀
  unfold lsFailoverOp
  repeat' first
      | with_reducible exact Frame.refl
      | ((with_reducible refine txFailoverOp_frame ?_ ?_); on_goal 2 => rfl)
      | ((with_reducible refine rxFailoverOp_frame ?_ ?_); on_goal 2 => rfl)
      | with_reducible refine Frame.ite3 ?_ ?_

theorem lsCommand_frame {w₀ : Nat} {s₀ : State} {op : Nat} {i : Nat} {s : State} (h₀ : Frame w₀ s₀ s) (hw₀ : 52867963215960 ||| w₀ = w₀) :
    Frame w₀ s₀ (lsCommand op i s).2 := by
  refine h₀.trans 52867963215960 ?_ hw₀
  clear h₀ hw₀
  unfold lsCommand
  repeat' first
      | with_reducible assumption
      | with_reducible exact Frame.refl
      | ((first | intro x | (lift_lets -underBinder; intro x)); first
      | (refine Frame.cut (w := 52867963215960) (s := s) (x := x) ?_ fun _ => ?_; (on_goal 1 => try dsimp only [x]); (on_goal 2 => clear_value x))
      | (refine Frame.cutFnQ (w := 52867963215960) (f := x) ?_ fun _ => ?_; (on_goal 1 => rintro ⟨_, s⟩; try dsimp only [x]); (on_goal 2 => clear_value x)))
      | ((with_reducible refine abandonOp_frame ?_ ?_); on_goal 2 => rfl)
      | ((with_reducible refine txBindOp_frame ?_ ?_); on_goal 2 => rfl)
      | ((with_reducible refine rxBindOp_frame ?_ ?_); on_goal 2 => rfl)
      | ((with_reducible refine unbindOp_frame ?_ ?_); on_goal 2 => rfl)
      | ((with_reducible refine armSwitchOp_frame ?_ ?_); on_goal 2 => rfl)
      | ((with_reducible refine lsQueryOp_frame ?_ ?_); on_goal 2 => rfl)
      | ((with_reducible refine lsFailoverOp_frame ?_ ?_); on_goal 2 => rfl)
      | ((with_reducible refine Frame.updLs ?_ ?_); on_goal 2 => rfl)
      | dsimp -zeta only
      | with_reducible refine Frame.appQ ‹_› ?_
      | with_reducible refine Frame.ite2 ?_ ?_
      | split

end Sys2Proof.Machine
end

