-- ==== Sys2Proof/Laws/FrSubmit.lean ====
section
/-! SUPPORT. What each operation of Machine/Submit.lean may change (see Frame.lean). -/

namespace Sys2Proof.Machine

-- One declaration at a time, so that the elaborator holds few threads (each takes stack of its own).
set_option Elab.async false

theorem queueCreateOp_frame {w₀ : Nat} {s₀ : State} {b : Bytes} {roleOk : Bool} {s : State} (h₀ : Frame w₀ s₀ s) (hw₀ : 100663296 ||| w₀ = w₀) :
    Frame w₀ s₀ (queueCreateOp b roleOk s).2 := by
  refine h₀.trans 100663296 ?_ hw₀
  clear h₀ hw₀
  unfold queueCreateOp
  repeat' first
      | with_reducible assumption
      | with_reducible exact Frame.refl
      | ((first | intro x | (lift_lets -underBinder; intro x)); first
      | (refine Frame.cut (w := 100663296) (s := s) (x := x) ?_ fun _ => ?_; (on_goal 1 => try dsimp only [x]); (on_goal 2 => clear_value x))
      | clear_value x)
      | ((with_reducible refine updQueue_frame ?_ ?_); on_goal 2 => rfl)
      | ((with_reducible refine Frame.updFe ?_ ?_); on_goal 2 => rfl)
      | with_reducible refine Frame.ite2 ?_ ?_
      | split

theorem queueCreateAct_frame {w₀ : Nat} {s₀ : State} {a : Act} {arg : Bytes} {s : State} (h₀ : Frame w₀ s₀ s) (hw₀ : 2199123918848 ||| w₀ = w₀) :
    Frame w₀ s₀ (queueCreateAct a arg s) := by
  refine h₀.trans 2199123918848 ?_ hw₀
  clear h₀ hw₀
  unfold queueCreateAct
  repeat' first
      | with_reducible exact Frame.refl
      | ((with_reducible refine actDone_frame ?_ ?_); on_goal 2 => rfl)
      | ((with_reducible refine queueCreateOp_frame ?_ ?_); on_goal 2 => rfl)

theorem sendToken_frame {w₀ : Nat} {s₀ : State} {q : Nat} {e : Nat} {s : State} (h₀ : Frame w₀ s₀ s) (hw₀ : 52863701622784 ||| w₀ = w₀) :
    Frame w₀ s₀ (sendToken q e s) := by
  refine h₀.trans 52863701622784 ?_ hw₀
  clear h₀ hw₀
  unfold sendToken
  repeat' first
      | with_reducible exact Frame.refl
      | ((first | intro x | (lift_lets -underBinder; intro x)); first
      | clear_value x)
      | ((with_reducible refine abortTokenOp_frame ?_ ?_); on_goal 2 => rfl)
      | ((with_reducible refine redToken_frame ?_ ?_); on_goal 2 => rfl)
      | ((with_reducible refine Frame.updFeSoft (f := _) ?_ ?_ ?_); (on_goal 1 => (intro _; unfold Fe.rest; rfl)); on_goal 2 => rfl)
      | ((with_reducible refine Frame.emit ?_ ?_); on_goal 2 => rfl)
      | with_reducible refine Frame.ite ?_ ?_

theorem sendTokens_frame {w₀ : Nat} {s₀ : State} {q : Nat} {s : State} (h₀ : Frame w₀ s₀ s) (hw₀ : 52863701622784 ||| w₀ = w₀) :
    Frame w₀ s₀ (sendTokens q s) := by
  refine h₀.trans 52863701622784 ?_ hw₀
  clear h₀ hw₀
  unfold sendTokens
  repeat' first
      | with_reducible exact Frame.refl
      | ((first | intro x | (lift_lets -underBinder; intro x)); first
      | clear_value x)
      | ((with_reducible refine updQueue_frame ?_ ?_); on_goal 2 => rfl)
      | ((with_reducible refine sendToken_frame ?_ ?_); on_goal 2 => rfl)
      | with_reducible refine Frame.forAll (fun _ s => ?_) _ ?_

theorem queueLeaves_frame {w₀ : Nat} {s₀ : State} {q : Nat} {s : State} (h₀ : Frame w₀ s₀ s) (hw₀ : 570425378 ||| w₀ = w₀) :
    Frame w₀ s₀ (queueLeaves q s) := by
  refine h₀.trans 570425378 ?_ hw₀
  clear h₀ hw₀
  unfold queueLeaves
  repeat' first
      | with_reducible assumption
      | with_reducible exact Frame.refl
      | ((first | intro x | (lift_lets -underBinder; intro x)); first
      | (refine Frame.cut (w := 570425378) (s := s) (x := x) ?_ fun _ => ?_; (on_goal 1 => try dsimp only [x]); (on_goal 2 => clear_value x)))
      | ((with_reducible refine deactivate_frame ?_ ?_); on_goal 2 => rfl)
      | ((with_reducible refine dropReservations_frame ?_ ?_); on_goal 2 => rfl)
      | ((with_reducible refine setPreempt_frame ?_ ?_); on_goal 2 => rfl)
      | ((with_reducible refine Frame.updFeSoft (f := _) ?_ ?_ ?_); (on_goal 1 => (intro _; unfold Fe.rest; rfl)); on_goal 2 => rfl)
      | ((with_reducible refine Frame.updFs ?_ ?_); on_goal 2 => rfl)
      | ((with_reducible refine Frame.setHostReads ?_ ?_); on_goal 2 => rfl)

theorem queueDie_frame {w₀ : Nat} {s₀ : State} {q : Nat} {s : State} (h₀ : Frame w₀ s₀ s) (hw₀ : 52864238493730 ||| w₀ = w₀) :
    Frame w₀ s₀ (queueDie q s) := by
  refine h₀.trans 52864238493730 ?_ hw₀
  clear h₀ hw₀
  unfold queueDie
  repeat' first
      | with_reducible assumption
      | with_reducible exact Frame.refl
      | ((first | intro x | (lift_lets -underBinder; intro x)); first
      | (refine Frame.cut (w := 52864238493730) (s := s) (x := x) ?_ fun _ => ?_; (on_goal 1 => try dsimp only [x]); (on_goal 2 => clear_value x))
      | clear_value x)
      | ((with_reducible refine updQueue_frame ?_ ?_); on_goal 2 => rfl)
      | ((with_reducible refine sendTokens_frame ?_ ?_); on_goal 2 => rfl)
      | ((with_reducible refine queueLeaves_frame ?_ ?_); on_goal 2 => rfl)
      | with_reducible refine Frame.ite ?_ ?_

theorem queueDestroyOp_frame {w₀ : Nat} {s₀ : State} {hall : Nat} {slot : Nat} {f : Nat} {v : DWord} {roleOk : Bool} {byFe : Bool} {who : List (Nat × Nat)} {s : State} (h₀ : Frame w₀ s₀ s) (hw₀ : 52864238493730 ||| w₀ = w₀) :
    Frame w₀ s₀ (queueDestroyOp hall slot f v roleOk byFe who s).2 := by
  refine h₀.trans 52864238493730 ?_ hw₀
  clear h₀ hw₀
  unfold queueDestroyOp
  repeat' first
      | with_reducible assumption
      | with_reducible exact Frame.refl
      | ((first | intro x | (lift_lets -underBinder; intro x)); first
      | (refine Frame.cut (w := 52864238493730) (s := s) (x := x) ?_ fun _ => ?_; (on_goal 1 => try dsimp only [x]); (on_goal 2 => clear_value x))
      | clear_value x)
      | ((with_reducible refine updQueue_frame ?_ ?_); on_goal 2 => rfl)
      | ((with_reducible refine queueDie_frame ?_ ?_); on_goal 2 => rfl)
      | with_reducible refine Frame.ite2 ?_ ?_
      | split

theorem queueDestroyAct_frame {w₀ : Nat} {s₀ : State} {a : Act} {arg : Bytes} {s : State} (h₀ : Frame w₀ s₀ s) (hw₀ : 55063261749282 ||| w₀ = w₀) :
    Frame w₀ s₀ (queueDestroyAct a arg s) := by
  refine h₀.trans 55063261749282 ?_ hw₀
  clear h₀ hw₀
  unfold queueDestroyAct
  repeat' first
      | with_reducible exact Frame.refl
      | ((first | intro x | (lift_lets -underBinder; intro x)); first
      | clear_value x)
      | ((with_reducible refine actDone_frame ?_ ?_); on_goal 2 => rfl)
      | ((with_reducible refine actWaits_frame ?_ ?_); on_goal 2 => rfl)
      | ((with_reducible refine queueDestroyOp_frame ?_ ?_); on_goal 2 => rfl)
      | dsimp -zeta only
      | with_reducible refine Frame.ite ?_ ?_

theorem destroyFinishOp_frame {w₀ : Nat} {s₀ : State} {q : Nat} {s : State} (h₀ : Frame w₀ s₀ s) (hw₀ : 41856167575552 ||| w₀ = w₀) :
    Frame w₀ s₀ (destroyFinishOp q s) := by
  refine h₀.trans 41856167575552 ?_ hw₀
  clear h₀ hw₀
  unfold destroyFinishOp
  repeat' first
      | with_reducible assumption
      | with_reducible exact Frame.refl
      | ((first | intro x | (lift_lets -underBinder; intro x)); first
      | (refine Frame.cut (w := 41856167575552) (s := s) (x := x) ?_ fun _ => ?_; (on_goal 1 => try dsimp only [x]); (on_goal 2 => clear_value x))
      | clear_value x)
      | ((with_reducible refine State.feEvent_frame ?_ ?_); on_goal 2 => rfl)
      | ((with_reducible refine answerAll_frame ?_ ?_); on_goal 2 => rfl)
      | ((with_reducible refine updQueue_frame ?_ ?_); on_goal 2 => rfl)
      | ((with_reducible refine signalFence_frame ?_ ?_); on_goal 2 => rfl)
      | ((with_reducible refine faultFence_frame ?_ ?_); on_goal 2 => rfl)
      | ((with_reducible refine Frame.updFe ?_ ?_); on_goal 2 => rfl)
      | with_reducible refine Frame.forAll (fun _ s => ?_) _ ?_
      | with_reducible refine Frame.ite ?_ ?_
      | split

theorem feFinish_frame {w₀ : Nat} {s₀ : State} {op : Nat} {r : Status × State} (h₀ : Frame w₀ s₀ r.2) (hw₀ : 100663296 ||| w₀ = w₀) :
    Frame w₀ s₀ (feFinish op r) := by
  refine h₀.trans 100663296 ?_ hw₀
  clear h₀ hw₀
  rcases r with ⟨_, s⟩
  show Frame 100663296 s _
  unfold feFinish
  repeat' first
      | with_reducible exact Frame.refl
      | ((with_reducible refine Frame.updFe ?_ ?_); on_goal 2 => rfl)

theorem feCommand_frame {w₀ : Nat} {s₀ : State} {op : Nat} {q : Nat} {s : State} (h₀ : Frame w₀ s₀ s) (hw₀ : 52864305602594 ||| w₀ = w₀) :
    Frame w₀ s₀ (feCommand op q s) := by
  refine h₀.trans 52864305602594 ?_ hw₀
  clear h₀ hw₀
  unfold feCommand
  repeat' first
      | with_reducible exact Frame.refl
      | ((first | intro x | (lift_lets -underBinder; intro x)); first
      | clear_value x)
      | ((with_reducible refine queueCreateOp_frame ?_ ?_); on_goal 2 => rfl)
      | ((with_reducible refine queueDestroyOp_frame ?_ ?_); on_goal 2 => rfl)
      | ((with_reducible refine feFinish_frame ?_ ?_); on_goal 2 => rfl)
      | ((with_reducible refine Frame.updFe ?_ ?_); on_goal 2 => rfl)
      | dsimp -zeta only
      | with_reducible refine Frame.ite ?_ ?_
      | split

theorem reserveSlots_frame {w₀ : Nat} {s₀ : State} {q : Nat} {s : State} (h₀ : Frame w₀ s₀ s) (hw₀ : 33554434 ||| w₀ = w₀) :
    Frame w₀ s₀ (reserveSlots q s) := by
  refine h₀.trans 33554434 ?_ hw₀
  clear h₀ hw₀
  unfold reserveSlots
  repeat' first
      | with_reducible exact Frame.refl
      | ((first | intro x | (lift_lets -underBinder; intro x)); first
      | clear_value x)
      | ((with_reducible refine setPreempt_frame ?_ ?_); on_goal 2 => rfl)
      | ((with_reducible refine Frame.updFeSoft (f := _) ?_ ?_ ?_); (on_goal 1 => (intro _; unfold Fe.rest; rfl)); on_goal 2 => rfl)

theorem doorbellOp_frame {w₀ : Nat} {s₀ : State} {hall : Nat} {slot : Nat} {t : Word} {s : State} (h₀ : Frame w₀ s₀ s) (hw₀ : 69826772994 ||| w₀ = w₀) :
    Frame w₀ s₀ (doorbellOp hall slot t s) := by
  refine h₀.trans 69826772994 ?_ hw₀
  clear h₀ hw₀
  unfold doorbellOp
  repeat' first
      | with_reducible assumption
      | with_reducible exact Frame.refl
      | ((first | intro x | (lift_lets -underBinder; intro x)); first
      | (refine Frame.cut (w := 69826772994) (s := s) (x := x) ?_ fun _ => ?_; (on_goal 1 => try dsimp only [x]); (on_goal 2 => clear_value x))
      | clear_value x)
      | ((with_reducible refine State.feCount_frame ?_ ?_); on_goal 2 => rfl)
      | ((with_reducible refine rushes_frame ?_ ?_); on_goal 2 => rfl)
      | ((with_reducible refine hallCount_frame ?_ ?_); on_goal 2 => rfl)
      | ((with_reducible refine updQueue_frame ?_ ?_); on_goal 2 => rfl)
      | ((with_reducible refine reserveSlots_frame ?_ ?_); on_goal 2 => rfl)
      | with_reducible refine Frame.ite ?_ ?_
      | split

theorem fetchAsk_frame {w₀ : Nat} {s₀ : State} {q : Nat} {f : Fetch} {addr : Nat} {len : Nat} {s : State} (h₀ : Frame w₀ s₀ s) (hw₀ : 35257420089378 ||| w₀ = w₀) :
    Frame w₀ s₀ (fetchAsk q f addr len s) := by
  refine h₀.trans 35257420089378 ?_ hw₀
  clear h₀ hw₀
  unfold fetchAsk
  repeat' first
      | with_reducible exact Frame.refl
      | ((first | intro x | (lift_lets -underBinder; intro x)); first
      | clear_value x)
      | ((with_reducible refine updQueue_frame ?_ ?_); on_goal 2 => rfl)
      | ((with_reducible refine queueStop_frame ?_ ?_); on_goal 2 => rfl)
      | ((with_reducible refine hostRead_frame ?_ ?_); on_goal 2 => rfl)
      | dsimp -zeta only
      | with_reducible refine Frame.ite ?_ ?_

theorem feFetch_frame {w₀ : Nat} {s₀ : State} {q : Nat} {s : State} (h₀ : Frame w₀ s₀ s) (hw₀ : 35257420089378 ||| w₀ = w₀) :
    Frame w₀ s₀ (feFetch q s) := by
  refine h₀.trans 35257420089378 ?_ hw₀
  clear h₀ hw₀
  unfold feFetch
  repeat' first
      | with_reducible exact Frame.refl
      | ((first | intro x | (lift_lets -underBinder; intro x)); first
      | clear_value x)
      | ((with_reducible refine fetchAsk_frame ?_ ?_); on_goal 2 => rfl)
      | with_reducible refine Frame.ite ?_ ?_
      | split

theorem saveRecord_frame {w₀ : Nat} {s₀ : State} {q : Nat} {s : State} (h₀ : Frame w₀ s₀ s) (hw₀ : 52776591687704 ||| w₀ = w₀) :
    Frame w₀ s₀ (saveRecord q s) := by
  refine h₀.trans 52776591687704 ?_ hw₀
  clear h₀ hw₀
  unfold saveRecord
  repeat' first
      | with_reducible assumption
      | with_reducible exact Frame.refl
      | ((first | intro x | (lift_lets -underBinder; intro x)); first
      | (refine Frame.cut (w := 52776591687704) (s := s) (x := x) ?_ fun _ => ?_; (on_goal 1 => try dsimp only [x]); (on_goal 2 => clear_value x)))
      | ((with_reducible refine updQueue_frame ?_ ?_); on_goal 2 => rfl)
      | ((with_reducible refine mpWrite_frame ?_ ?_); on_goal 2 => rfl)
      | ((with_reducible refine Frame.opened ?_ ?_); on_goal 2 => rfl)
      | with_reducible refine Frame.forAll (fun _ s => ?_) _ ?_

theorem loadRecord_frame {w₀ : Nat} {s₀ : State} {q : Nat} {s : State} (h₀ : Frame w₀ s₀ s) (hw₀ : 35184372088856 ||| w₀ = w₀) :
    Frame w₀ s₀ (loadRecord q s) := by
  refine h₀.trans 35184372088856 ?_ hw₀
  clear h₀ hw₀
  unfold loadRecord
  repeat' first
      | with_reducible exact Frame.refl
      | ((with_reducible refine mpRead_frame ?_ ?_); on_goal 2 => rfl)
      | with_reducible refine Frame.forAll (fun _ s => ?_) _ ?_
      | with_reducible refine Frame.ite ?_ ?_

theorem ringBufferEnd_frame {w₀ : Nat} {s₀ : State} {q : Nat} {s : State} (h₀ : Frame w₀ s₀ s) (hw₀ : 52776591687706 ||| w₀ = w₀) :
    Frame w₀ s₀ (ringBufferEnd q s) := by
  refine h₀.trans 52776591687706 ?_ hw₀
  clear h₀ hw₀
  unfold ringBufferEnd
  repeat' first
      | with_reducible assumption
      | with_reducible exact Frame.refl
      | ((first | intro x | (lift_lets -underBinder; intro x)); first
      | (refine Frame.cut (w := 52776591687706) (s := s) (x := x) ?_ fun _ => ?_; (on_goal 1 => try dsimp only [x]); (on_goal 2 => clear_value x))
      | clear_value x)
      | ((with_reducible refine updQueue_frame ?_ ?_); on_goal 2 => rfl)
      | ((with_reducible refine deactivate_frame ?_ ?_); on_goal 2 => rfl)
      | ((with_reducible refine dropReservations_frame ?_ ?_); on_goal 2 => rfl)
      | ((with_reducible refine setPreempt_frame ?_ ?_); on_goal 2 => rfl)
      | ((with_reducible refine saveRecord_frame ?_ ?_); on_goal 2 => rfl)
      | with_reducible refine Frame.ite ?_ ?_

theorem settle_frame {w₀ : Nat} {s₀ : State} {q : Nat} {x0 : Nat} {x1 : State} (h₀ : Frame w₀ s₀ x1) (hw₀ : 52776591687706 ||| w₀ = w₀) :
    Frame w₀ s₀ (settle q x0 x1) := by
  refine h₀.trans 52776591687706 ?_ hw₀
  clear h₀ hw₀
  induction x0 generalizing x1 with
  | zero =>
    unfold settle
    repeat' first
      | with_reducible exact Frame.refl
  | succ n ih =>
    unfold settle
    repeat' first
      | with_reducible assumption
      | with_reducible exact Frame.refl
      | ((first | intro x | (lift_lets -underBinder; intro x)); first
      | (refine Frame.cut (w := 52776591687706) (s := x1) (x := x) ?_ fun _ => ?_; (on_goal 1 => try dsimp only [x]); (on_goal 2 => clear_value x))
      | clear_value x)
      | ((with_reducible refine updQueue_frame ?_ ?_); on_goal 2 => rfl)
      | ((with_reducible refine ringBufferEnd_frame ?_ ?_); on_goal 2 => rfl)
      | dsimp -zeta only
      | with_reducible refine Frame.app ‹_› ?_
      | with_reducible refine Frame.ite ?_ ?_
      | split

theorem feKick_frame {w₀ : Nat} {s₀ : State} {q : Nat} {s : State} (h₀ : Frame w₀ s₀ s) (hw₀ : 52849606133818 ||| w₀ = w₀) :
    Frame w₀ s₀ (feKick q s) := by
  refine h₀.trans 52849606133818 ?_ hw₀
  clear h₀ hw₀
  unfold feKick
  repeat' first
      | with_reducible exact Frame.refl
      | ((first | intro x | (lift_lets -underBinder; intro x)); first
      | clear_value x)
      | ((with_reducible refine feFetch_frame ?_ ?_); on_goal 2 => rfl)
      | ((with_reducible refine settle_frame ?_ ?_); on_goal 2 => rfl)
      | with_reducible refine Frame.ite ?_ ?_

theorem fetchFailed_frame {w₀ : Nat} {s₀ : State} {q : Nat} {st : Status} {s : State} (h₀ : Frame w₀ s₀ s) (hw₀ : 73047998466 ||| w₀ = w₀) :
    Frame w₀ s₀ (fetchFailed q st s) := by
  refine h₀.trans 73047998466 ?_ hw₀
  clear h₀ hw₀
  unfold fetchFailed
  repeat' first
      | with_reducible exact Frame.refl
      | ((with_reducible refine queueStop_frame ?_ ?_); on_goal 2 => rfl)
      | with_reducible refine Frame.ite ?_ ?_

theorem queueFetched_frame {w₀ : Nat} {s₀ : State} {q : Nat} {s : State} (h₀ : Frame w₀ s₀ s) (hw₀ : 32 ||| w₀ = w₀) :
    Frame w₀ s₀ (queueFetched q s) := by
  refine h₀.trans 32 ?_ hw₀
  clear h₀ hw₀
  unfold queueFetched
  repeat' first
      | with_reducible exact Frame.refl
      | ((with_reducible refine Frame.setHostReads ?_ ?_); on_goal 2 => rfl)

theorem ringFetched_frame {w₀ : Nat} {s₀ : State} {q : Nat} {entry : Bytes} {s : State} (h₀ : Frame w₀ s₀ s) (hw₀ : 35274599958562 ||| w₀ = w₀) :
    Frame w₀ s₀ (ringFetched q entry s) := by
  refine h₀.trans 35274599958562 ?_ hw₀
  clear h₀ hw₀
  unfold ringFetched
  repeat' first
      | with_reducible assumption
      | with_reducible exact Frame.refl
      | ((first | intro x | (lift_lets -underBinder; intro x)); first
      | (refine Frame.cut (w := 35274599958562) (s := s) (x := x) ?_ fun _ => ?_; (on_goal 1 => try dsimp only [x]); (on_goal 2 => clear_value x))
      | clear_value x)
      | ((with_reducible refine State.feCount_frame ?_ ?_); on_goal 2 => rfl)
      | ((with_reducible refine progress_frame ?_ ?_); on_goal 2 => rfl)
      | ((with_reducible refine updQueue_frame ?_ ?_); on_goal 2 => rfl)
      | ((with_reducible refine queueStop_frame ?_ ?_); on_goal 2 => rfl)
      | ((with_reducible refine fetchAsk_frame ?_ ?_); on_goal 2 => rfl)
      | ((with_reducible refine queueFetched_frame ?_ ?_); on_goal 2 => rfl)
      | with_reducible refine Frame.ite ?_ ?_

theorem openChunk_frame {w₀ : Nat} {s₀ : State} {q : Nat} {c : Nat} {header : Bytes} {body : Bytes} {again : Bool} {s : State} (h₀ : Frame w₀ s₀ s) (hw₀ : 73048031296 ||| w₀ = w₀) :
    Frame w₀ s₀ (openChunk q c header body again s).2 := by
  refine h₀.trans 73048031296 ?_ hw₀
  clear h₀ hw₀
  unfold openChunk
  repeat' first
      | with_reducible exact Frame.refl
      | ((first | intro x | (lift_lets -underBinder; intro x)); first
      | clear_value x)
      | ((with_reducible refine State.feEvent_frame ?_ ?_); on_goal 2 => rfl)
      | ((with_reducible refine raiseFault_frame ?_ ?_); on_goal 2 => rfl)
      | ((with_reducible refine keyFor_frame ?_ ?_); on_goal 2 => rfl)
      | (refine Frame.ofEq ‹_› ?_)
      | dsimp -zeta only
      | with_reducible refine Frame.ite ?_ ?_
      | with_reducible refine Frame.ite2 ?_ ?_
      | split

theorem chunkFails_frame {w₀ : Nat} {s₀ : State} {q : Nat} {kind : Nat} {pos : Nat} {s : State} (h₀ : Frame w₀ s₀ s) (hw₀ : 73047998466 ||| w₀ = w₀) :
    Frame w₀ s₀ (chunkFails q kind pos s) := by
  refine h₀.trans 73047998466 ?_ hw₀
  clear h₀ hw₀
  unfold chunkFails
  repeat' first
      | with_reducible exact Frame.refl
      | ((with_reducible refine State.feEvent_frame ?_ ?_); on_goal 2 => rfl)
      | ((with_reducible refine reportFault_frame ?_ ?_); on_goal 2 => rfl)
      | ((with_reducible refine queueStopBy_frame ?_ ?_); on_goal 2 => rfl)
      | ((with_reducible refine queueStop_frame ?_ ?_); on_goal 2 => rfl)
      | with_reducible refine Frame.ite ?_ ?_

theorem chunkFetched_frame {w₀ : Nat} {s₀ : State} {q : Nat} {data : Bytes} {again : Bool} {s : State} (h₀ : Frame w₀ s₀ s) (hw₀ : 73048031330 ||| w₀ = w₀) :
    Frame w₀ s₀ (chunkFetched q data again s) := by
  refine h₀.trans 73048031330 ?_ hw₀
  clear h₀ hw₀
  unfold chunkFetched
  repeat' first
      | with_reducible assumption
      | with_reducible exact Frame.refl
      | ((first | intro x | (lift_lets -underBinder; intro x)); first
      | (refine Frame.cut (w := 73048031330) (s := s) (x := x) ?_ fun _ => ?_; (on_goal 1 => try dsimp only [x]); (on_goal 2 => clear_value x))
      | clear_value x)
      | ((with_reducible refine State.feCount_frame ?_ ?_); on_goal 2 => rfl)
      | ((with_reducible refine updQueue_frame ?_ ?_); on_goal 2 => rfl)
      | ((with_reducible refine queueStopBy_frame ?_ ?_); on_goal 2 => rfl)
      | ((with_reducible refine queueStop_frame ?_ ?_); on_goal 2 => rfl)
      | ((with_reducible refine queueFetched_frame ?_ ?_); on_goal 2 => rfl)
      | ((with_reducible refine openChunk_frame ?_ ?_); on_goal 2 => rfl)
      | ((with_reducible refine chunkFails_frame ?_ ?_); on_goal 2 => rfl)
      | (refine Frame.ofEq ‹_› ?_)
      | with_reducible refine Frame.ite ?_ ?_
      | split

theorem feRetry_frame {w₀ : Nat} {s₀ : State}  {s : State} (h₀ : Frame w₀ s₀ s) (hw₀ : 52849606166650 ||| w₀ = w₀) :
    Frame w₀ s₀ (feRetry s) := by
  refine h₀.trans 52849606166650 ?_ hw₀
  clear h₀ hw₀
  unfold feRetry
  repeat' first
      | with_reducible exact Frame.refl
      | ((with_reducible refine updQueue_frame ?_ ?_); on_goal 2 => rfl)
      | ((with_reducible refine feKick_frame ?_ ?_); on_goal 2 => rfl)
      | ((with_reducible refine chunkFetched_frame ?_ ?_); on_goal 2 => rfl)
      | with_reducible refine Frame.forAll (fun _ s => ?_) _ ?_
      | split

theorem yieldEntry_frame {w₀ : Nat} {s₀ : State} {q : Nat} {s : State} (h₀ : Frame w₀ s₀ s) (hw₀ : 52776591687736 ||| w₀ = w₀) :
    Frame w₀ s₀ (yieldEntry q s) := by
  refine h₀.trans 52776591687736 ?_ hw₀
  clear h₀ hw₀
  unfold yieldEntry
  repeat' first
      | with_reducible assumption
      | with_reducible exact Frame.refl
      | ((first | intro x | (lift_lets -underBinder; intro x)); first
      | (refine Frame.cut (w := 52776591687736) (s := s) (x := x) ?_ fun _ => ?_; (on_goal 1 => try dsimp only [x]); (on_goal 2 => clear_value x)))
      | ((with_reducible refine State.feCount_frame ?_ ?_); on_goal 2 => rfl)
      | ((with_reducible refine updQueue_frame ?_ ?_); on_goal 2 => rfl)
      | ((with_reducible refine deactivate_frame ?_ ?_); on_goal 2 => rfl)
      | ((with_reducible refine saveRecord_frame ?_ ?_); on_goal 2 => rfl)
      | ((with_reducible refine queueFetched_frame ?_ ?_); on_goal 2 => rfl)

theorem takeEntry_frame {w₀ : Nat} {s₀ : State} {q : Nat} {s : State} (h₀ : Frame w₀ s₀ s) (hw₀ : 52849606133818 ||| w₀ = w₀) :
    Frame w₀ s₀ (takeEntry q s) := by
  refine h₀.trans 52849606133818 ?_ hw₀
  clear h₀ hw₀
  unfold takeEntry
  repeat' first
      | with_reducible assumption
      | with_reducible exact Frame.refl
      | ((first | intro x | (lift_lets -underBinder; intro x)); first
      | (refine Frame.cut (w := 52849606133818) (s := s) (x := x) ?_ fun _ => ?_; (on_goal 1 => try dsimp only [x]); (on_goal 2 => clear_value x)))
      | ((with_reducible refine updQueue_frame ?_ ?_); on_goal 2 => rfl)
      | ((with_reducible refine fetchAsk_frame ?_ ?_); on_goal 2 => rfl)
      | ((with_reducible refine loadRecord_frame ?_ ?_); on_goal 2 => rfl)
      | ((with_reducible refine feKick_frame ?_ ?_); on_goal 2 => rfl)
      | ((with_reducible refine Frame.updFeSoft (f := _) ?_ ?_ ?_); (on_goal 1 => (intro _; unfold Fe.rest; rfl)); on_goal 2 => rfl)
      | split

theorem activateOp_frame {w₀ : Nat} {s₀ : State} {q : Nat} {s : State} (h₀ : Frame w₀ s₀ s) (hw₀ : 52849740351546 ||| w₀ = w₀) :
    Frame w₀ s₀ (activateOp q s) := by
  refine h₀.trans 52849740351546 ?_ hw₀
  clear h₀ hw₀
  unfold activateOp
  repeat' first
      | with_reducible exact Frame.refl
      | ((first | intro x | (lift_lets -underBinder; intro x)); first
      | clear_value x)
      | ((with_reducible refine State.admCount_frame ?_ ?_); on_goal 2 => rfl)
      | ((with_reducible refine yieldEntry_frame ?_ ?_); on_goal 2 => rfl)
      | ((with_reducible refine takeEntry_frame ?_ ?_); on_goal 2 => rfl)
      | with_reducible refine Frame.ite ?_ ?_
      | split

theorem fairness_frame {w₀ : Nat} {s₀ : State} {q : Nat} {s : State} (h₀ : Frame w₀ s₀ s) (hw₀ : 52776591687736 ||| w₀ = w₀) :
    Frame w₀ s₀ (fairness q s) := by
  refine h₀.trans 52776591687736 ?_ hw₀
  clear h₀ hw₀
  unfold fairness
  repeat' first
      | with_reducible exact Frame.refl
      | ((first | intro x | (lift_lets -underBinder; intro x)); first
      | clear_value x)
      | ((with_reducible refine yieldEntry_frame ?_ ?_); on_goal 2 => rfl)
      | with_reducible refine Frame.ite ?_ ?_

theorem setPos_frame {w₀ : Nat} {s₀ : State} {q : Nat} {n : Nat} {s : State} (h₀ : Frame w₀ s₀ s) (hw₀ : 33554432 ||| w₀ = w₀) :
    Frame w₀ s₀ (setPos q n s) := by
  refine h₀.trans 33554432 ?_ hw₀
  clear h₀ hw₀
  unfold setPos
  repeat' first
      | with_reducible exact Frame.refl
      | ((with_reducible refine updQueue_frame ?_ ?_); on_goal 2 => rfl)

theorem packetDone_frame {w₀ : Nat} {s₀ : State} {q : Nat} {next : Nat} {s : State} (h₀ : Frame w₀ s₀ s) (hw₀ : 52866786003002 ||| w₀ = w₀) :
    Frame w₀ s₀ (packetDone q next s) := by
  refine h₀.trans 52866786003002 ?_ hw₀
  clear h₀ hw₀
  unfold packetDone
  repeat' first
      | with_reducible assumption
      | with_reducible exact Frame.refl
      | ((first | intro x | (lift_lets -underBinder; intro x)); first
      | (refine Frame.cut (w := 52866786003002) (s := s) (x := x) ?_ fun _ => ?_; (on_goal 1 => try dsimp only [x]); (on_goal 2 => clear_value x)))
      | ((with_reducible refine State.feCount_frame ?_ ?_); on_goal 2 => rfl)
      | ((with_reducible refine progress_frame ?_ ?_); on_goal 2 => rfl)
      | ((with_reducible refine updQueue_frame ?_ ?_); on_goal 2 => rfl)
      | ((with_reducible refine settle_frame ?_ ?_); on_goal 2 => rfl)
      | ((with_reducible refine feKick_frame ?_ ?_); on_goal 2 => rfl)
      | ((with_reducible refine fairness_frame ?_ ?_); on_goal 2 => rfl)
      | ((with_reducible refine setPos_frame ?_ ?_); on_goal 2 => rfl)

theorem decodeNext_frame {w₀ : Nat} {s₀ : State} {q : Nat} {op : Nat} {f : Packet → State → State} {s : State} (hf : ∀ a0 u, Frame w₀ u (f a0 u)) (h₀ : Frame w₀ s₀ s) (hw₀ : 52849606133818 ||| w₀ = w₀) :
    Frame w₀ s₀ (decodeNext q op f s) := by
  unfold decodeNext
  repeat' first
      | with_reducible assumption
      | ((first | intro x | (lift_lets -underBinder; intro x)); first
      | clear_value x)
      | ((with_reducible refine reportFault_frame ?_ ?_); on_goal 2 => first | rfl | exact mask_le rfl hw₀)
      | ((with_reducible refine queueStop_frame ?_ ?_); on_goal 2 => first | rfl | exact mask_le rfl hw₀)
      | ((with_reducible refine feKick_frame ?_ ?_); on_goal 2 => first | rfl | exact mask_le rfl hw₀)
      | with_reducible refine Frame.app2 ‹_› ?_
      | with_reducible refine Frame.ite ?_ ?_
      | split

theorem badPacket_frame {w₀ : Nat} {s₀ : State} {q : Nat} {p : Packet} {s : State} (h₀ : Frame w₀ s₀ s) (hw₀ : 73047998466 ||| w₀ = w₀) :
    Frame w₀ s₀ (badPacket q p s) := by
  refine h₀.trans 73047998466 ?_ hw₀
  clear h₀ hw₀
  unfold badPacket
  repeat' first
      | with_reducible exact Frame.refl
      | ((with_reducible refine queueStop_frame ?_ ?_); on_goal 2 => rfl)

theorem holdQueue_frame {w₀ : Nat} {s₀ : State} {q : Nat} {s : State} (h₀ : Frame w₀ s₀ s) (hw₀ : 33554432 ||| w₀ = w₀) :
    Frame w₀ s₀ (holdQueue q s) := by
  refine h₀.trans 33554432 ?_ hw₀
  clear h₀ hw₀
  unfold holdQueue
  repeat' first
      | with_reducible exact Frame.refl
      | ((with_reducible refine updQueue_frame ?_ ?_); on_goal 2 => rfl)

theorem landingHeld_frame {w₀ : Nat} {s₀ : State} {q : Nat} {s : State} (h₀ : Frame w₀ s₀ s) (hw₀ : 167772160 ||| w₀ = w₀) :
    Frame w₀ s₀ (landingHeld q s) := by
  refine h₀.trans 167772160 ?_ hw₀
  clear h₀ hw₀
  unfold landingHeld
  repeat' first
      | with_reducible exact Frame.refl
      | ((with_reducible refine State.admCount_frame ?_ ?_); on_goal 2 => rfl)
      | ((with_reducible refine updQueue_frame ?_ ?_); on_goal 2 => rfl)
      | with_reducible refine Frame.ite ?_ ?_

theorem radioIssued_frame {w₀ : Nat} {s₀ : State} {q : Nat} {s : State} (h₀ : Frame w₀ s₀ s) (hw₀ : 74524393472 ||| w₀ = w₀) :
    Frame w₀ s₀ (radioIssued q s) := by
  refine h₀.trans 74524393472 ?_ hw₀
  clear h₀ hw₀
  unfold radioIssued
  repeat' first
      | with_reducible assumption
      | with_reducible exact Frame.refl
      | ((first | intro x | (lift_lets -underBinder; intro x)); first
      | (refine Frame.cut (w := 74524393472) (s := s) (x := x) ?_ fun _ => ?_; (on_goal 1 => try dsimp only [x]); (on_goal 2 => clear_value x))
      | clear_value x)
      | ((with_reducible refine State.admEvent_frame ?_ ?_); on_goal 2 => rfl)
      | ((with_reducible refine State.admCount_frame ?_ ?_); on_goal 2 => rfl)
      | ((with_reducible refine reportFault_frame ?_ ?_); on_goal 2 => rfl)
      | ((with_reducible refine hallCount_frame ?_ ?_); on_goal 2 => rfl)
      | ((with_reducible refine updQueue_frame ?_ ?_); on_goal 2 => rfl)
      | ((with_reducible refine Frame.updAdm ?_ ?_); on_goal 2 => rfl)
      | with_reducible refine Frame.ite ?_ ?_
      | split

theorem issueWork_frame {w₀ : Nat} {s₀ : State} {q : Nat} {p : Packet} {f : Nat → State → State} {s : State} (hf : ∀ a0 u, Frame w₀ u (f a0 u)) (h₀ : Frame w₀ s₀ s) (hw₀ : 52868262398010 ||| w₀ = w₀) :
    Frame w₀ s₀ (issueWork q p f s) := by
  unfold issueWork
  repeat' first
      | with_reducible assumption
      | ((first | intro x | (lift_lets -underBinder; intro x)); first
      | clear_value x)
      | ((with_reducible refine workRefused_frame ?_ ?_); on_goal 2 => first | rfl | exact mask_le rfl hw₀)
      | ((with_reducible refine packetDone_frame ?_ ?_); on_goal 2 => first | rfl | exact mask_le rfl hw₀)
      | ((with_reducible refine radioIssued_frame ?_ ?_); on_goal 2 => first | rfl | exact mask_le rfl hw₀)
      | with_reducible refine Frame.app2 ‹_› ?_
      | split

theorem updSlot_frame {w₀ : Nat} {s₀ : State} {e : Nat} {f : EngSlot → EngSlot} {s : State} (h₀ : Frame w₀ s₀ s) (hw₀ : 33554432 ||| w₀ = w₀) :
    Frame w₀ s₀ (updSlot e f s) := by
  refine h₀.trans 33554432 ?_ hw₀
  clear h₀ hw₀
  unfold updSlot
  repeat' first
      | with_reducible exact Frame.refl
      | ((with_reducible refine Frame.updFeSoft (f := _) ?_ ?_ ?_); (on_goal 1 => (intro _; unfold Fe.rest; rfl)); on_goal 2 => rfl)

theorem slotWait_frame {w₀ : Nat} {s₀ : State} {e : Nat} {q : Nat} {s : State} (h₀ : Frame w₀ s₀ s) (hw₀ : 33554434 ||| w₀ = w₀) :
    Frame w₀ s₀ (slotWait e q s) := by
  refine h₀.trans 33554434 ?_ hw₀
  clear h₀ hw₀
  unfold slotWait
  repeat' first
      | with_reducible assumption
      | with_reducible exact Frame.refl
      | ((first | intro x | (lift_lets -underBinder; intro x)); first
      | (refine Frame.cut (w := 33554434) (s := s) (x := x) ?_ fun _ => ?_; (on_goal 1 => try dsimp only [x]); (on_goal 2 => clear_value x))
      | clear_value x)
      | ((with_reducible refine setPreempt_frame ?_ ?_); on_goal 2 => rfl)
      | ((with_reducible refine holdQueue_frame ?_ ?_); on_goal 2 => rfl)
      | ((with_reducible refine updSlot_frame ?_ ?_); on_goal 2 => rfl)
      | with_reducible refine Frame.ite ?_ ?_

theorem launchIssue_frame {w₀ : Nat} {s₀ : State} {q : Nat} {e : Nat} {u : Bytes} {last : Bool} {id : Nat} {s : State} (h₀ : Frame w₀ s₀ s) (hw₀ : 35254400188418 ||| w₀ = w₀) :
    Frame w₀ s₀ (launchIssue q e u last id s) := by
  refine h₀.trans 35254400188418 ?_ hw₀
  clear h₀ hw₀
  unfold launchIssue
  repeat' first
      | with_reducible assumption
      | with_reducible exact Frame.refl
      | ((first | intro x | (lift_lets -underBinder; intro x)); first
      | (refine Frame.cut (w := 35254400188418) (s := s) (x := x) ?_ fun _ => ?_; (on_goal 1 => try dsimp only [x]); (on_goal 2 => clear_value x))
      | clear_value x)
      | ((with_reducible refine setPreempt_frame ?_ ?_); on_goal 2 => rfl)
      | ((with_reducible refine workIssue_frame ?_ ?_); on_goal 2 => rfl)
      | ((with_reducible refine updSlot_frame ?_ ?_); on_goal 2 => rfl)
      | ((with_reducible refine Frame.emit ?_ ?_); on_goal 2 => rfl)

theorem launchPacket_frame {w₀ : Nat} {s₀ : State} {q : Nat} {p : Packet} {s : State} (h₀ : Frame w₀ s₀ s) (hw₀ : 52868329506874 ||| w₀ = w₀) :
    Frame w₀ s₀ (launchPacket q p s) := by
  refine h₀.trans 52868329506874 ?_ hw₀
  clear h₀ hw₀
  unfold launchPacket
  repeat' first
      | with_reducible exact Frame.refl
      | ((first | intro x | (lift_lets -underBinder; intro x)); first
      | clear_value x)
      | ((with_reducible refine workIssue_frame ?_ ?_); on_goal 2 => rfl)
      | ((with_reducible refine workEnd_frame ?_ ?_); on_goal 2 => rfl)
      | ((with_reducible refine badPacket_frame ?_ ?_); on_goal 2 => rfl)
      | ((with_reducible refine issueWork_frame (fun _ s => ?_) ?_ ?_); on_goal 3 => rfl)
      | ((with_reducible refine slotWait_frame ?_ ?_); on_goal 2 => rfl)
      | ((with_reducible refine launchIssue_frame ?_ ?_); on_goal 2 => rfl)
      | with_reducible refine Frame.ite ?_ ?_

theorem takeEnd_frame {w₀ : Nat} {s₀ : State} {e : Nat} {s : State} (h₀ : Frame w₀ s₀ s) (hw₀ : 76269223938 ||| w₀ = w₀) :
    Frame w₀ s₀ (takeEnd e s) := by
  refine h₀.trans 76269223938 ?_ hw₀
  clear h₀ hw₀
  unfold takeEnd
  repeat' first
      | with_reducible assumption
      | with_reducible exact Frame.refl
      | ((first | intro x | (lift_lets -underBinder; intro x)); first
      | (refine Frame.cut (w := 76269223938) (s := s) (x := x) ?_ fun _ => ?_; (on_goal 1 => try dsimp only [x]); (on_goal 2 => clear_value x))
      | clear_value x)
      | ((with_reducible refine State.feEvent_frame ?_ ?_); on_goal 2 => rfl)
      | ((with_reducible refine State.feCount_frame ?_ ?_); on_goal 2 => rfl)
      | ((with_reducible refine reportFault_frame ?_ ?_); on_goal 2 => rfl)
      | ((with_reducible refine hallCount_frame ?_ ?_); on_goal 2 => rfl)
      | ((with_reducible refine setPreempt_frame ?_ ?_); on_goal 2 => rfl)
      | ((with_reducible refine updSlot_frame ?_ ?_); on_goal 2 => rfl)
      | ((with_reducible refine Frame.updItu ?_ ?_); on_goal 2 => rfl)
      | with_reducible refine Frame.ite ?_ ?_
      | split

theorem takeOverrunOp_frame {w₀ : Nat} {s₀ : State} {e : Nat} {s : State} (h₀ : Frame w₀ s₀ s) (hw₀ : 74121740288 ||| w₀ = w₀) :
    Frame w₀ s₀ (takeOverrunOp e s) := by
  refine h₀.trans 74121740288 ?_ hw₀
  clear h₀ hw₀
  unfold takeOverrunOp
  repeat' first
      | with_reducible assumption
      | with_reducible exact Frame.refl
      | ((first | intro x | (lift_lets -underBinder; intro x)); first
      | (refine Frame.cut (w := 74121740288) (s := s) (x := x) ?_ fun _ => ?_; (on_goal 1 => try dsimp only [x]); (on_goal 2 => clear_value x))
      | clear_value x)
      | ((with_reducible refine State.feEvent_frame ?_ ?_); on_goal 2 => rfl)
      | ((with_reducible refine State.feCount_frame ?_ ?_); on_goal 2 => rfl)
      | ((with_reducible refine raiseFault_frame ?_ ?_); on_goal 2 => rfl)
      | ((with_reducible refine hallCount_frame ?_ ?_); on_goal 2 => rfl)
      | ((with_reducible refine updSlot_frame ?_ ?_); on_goal 2 => rfl)
      | with_reducible refine Frame.ite ?_ ?_
      | split

theorem slotReturns_frame {w₀ : Nat} {s₀ : State} {e : Nat} {s : State} (h₀ : Frame w₀ s₀ s) (hw₀ : 127808831490 ||| w₀ = w₀) :
    Frame w₀ s₀ (slotReturns e s) := by
  refine h₀.trans 127808831490 ?_ hw₀
  clear h₀ hw₀
  unfold slotReturns
  repeat' first
      | with_reducible assumption
      | with_reducible exact Frame.refl
      | ((first | intro x | (lift_lets -underBinder; intro x)); first
      | (refine Frame.cut (w := 127808831490) (s := s) (x := x) ?_ fun _ => ?_; (on_goal 1 => try dsimp only [x]); (on_goal 2 => clear_value x)))
      | ((with_reducible refine updSlot_frame ?_ ?_); on_goal 2 => rfl)
      | ((with_reducible refine takeEnd_frame ?_ ?_); on_goal 2 => rfl)
      | ((with_reducible refine Frame.updHr ?_ ?_); on_goal 2 => rfl)

theorem cpCompletionOp_frame {w₀ : Nat} {s₀ : State} {w : DWord} {s : State} (h₀ : Frame w₀ s₀ s) (hw₀ : 128010158082 ||| w₀ = w₀) :
    Frame w₀ s₀ (cpCompletionOp w s) := by
  refine h₀.trans 128010158082 ?_ hw₀
  clear h₀ hw₀
  unfold cpCompletionOp
  repeat' first
      | with_reducible assumption
      | with_reducible exact Frame.refl
      | ((first | intro x | (lift_lets -underBinder; intro x)); first
      | (refine Frame.cut (w := 128010158082) (s := s) (x := x) ?_ fun _ => ?_; (on_goal 1 => try dsimp only [x]); (on_goal 2 => clear_value x))
      | (refine Frame.cutFn (w := 128010158082) (f := x) ?_ fun _ => ?_; (on_goal 1 => intro s; try dsimp only [x]); (on_goal 2 => clear_value x))
      | clear_value x)
      | ((with_reducible refine State.feCount_frame ?_ ?_); on_goal 2 => rfl)
      | ((with_reducible refine progress_frame ?_ ?_); on_goal 2 => rfl)
      | ((with_reducible refine abortAck_frame ?_ ?_); on_goal 2 => rfl)
      | ((with_reducible refine workEnd_frame ?_ ?_); on_goal 2 => rfl)
      | ((with_reducible refine updSlot_frame ?_ ?_); on_goal 2 => rfl)
      | ((with_reducible refine takeEnd_frame ?_ ?_); on_goal 2 => rfl)
      | ((with_reducible refine slotReturns_frame ?_ ?_); on_goal 2 => rfl)
      | ((with_reducible refine Frame.updFe ?_ ?_); on_goal 2 => rfl)
      | with_reducible refine Frame.forAll (fun _ s => ?_) _ ?_
      | with_reducible refine Frame.app ‹_› ?_
      | with_reducible refine Frame.ite ?_ ?_
      | split

theorem absentPacket_frame {w₀ : Nat} {s₀ : State} {q : Nat} {p : Packet} {s : State} (h₀ : Frame w₀ s₀ s) (hw₀ : 52867859744826 ||| w₀ = w₀) :
    Frame w₀ s₀ (absentPacket q p s) := by
  refine h₀.trans 52867859744826 ?_ hw₀
  clear h₀ hw₀
  unfold absentPacket
  repeat' first
      | with_reducible exact Frame.refl
      | ((with_reducible refine absentUnit_frame ?_ ?_); on_goal 2 => rfl)
      | ((with_reducible refine packetDone_frame ?_ ?_); on_goal 2 => rfl)

theorem movePacket_frame {w₀ : Nat} {s₀ : State} {q : Nat} {p : Packet} {s : State} (h₀ : Frame w₀ s₀ s) (hw₀ : 52868330031162 ||| w₀ = w₀) :
    Frame w₀ s₀ (movePacket q p s) := by
  refine h₀.trans 52868330031162 ?_ hw₀
  clear h₀ hw₀
  unfold movePacket
  repeat' first
      | with_reducible exact Frame.refl
      | ((first | intro x | (lift_lets -underBinder; intro x)); first
      | (refine Frame.cutFn2 (w := 52868330031162) (f := x) ?_ fun _ => ?_; (on_goal 1 => intro _ s; try dsimp only [x]); (on_goal 2 => clear_value x))
      | clear_value x)
      | ((with_reducible refine workIssue_frame ?_ ?_); on_goal 2 => rfl)
      | ((with_reducible refine moverPut_frame ?_ ?_); on_goal 2 => rfl)
      | ((with_reducible refine badPacket_frame ?_ ?_); on_goal 2 => rfl)
      | ((with_reducible refine holdQueue_frame ?_ ?_); on_goal 2 => rfl)
      | ((with_reducible refine landingHeld_frame ?_ ?_); on_goal 2 => rfl)
      | ((with_reducible refine issueWork_frame (fun _ s => ?_) ?_ ?_); on_goal 3 => rfl)
      | ((with_reducible refine absentPacket_frame ?_ ?_); on_goal 2 => rfl)
      | with_reducible refine Frame.app2 ‹_› ?_
      | with_reducible refine Frame.ite ?_ ?_
      | split

theorem reducePacket_frame {w₀ : Nat} {s₀ : State} {q : Nat} {p : Packet} {s : State} (h₀ : Frame w₀ s₀ s) (hw₀ : 52868331604026 ||| w₀ = w₀) :
    Frame w₀ s₀ (reducePacket q p s) := by
  refine h₀.trans 52868331604026 ?_ hw₀
  clear h₀ hw₀
  unfold reducePacket
  repeat' first
      | with_reducible assumption
      | with_reducible exact Frame.refl
      | ((first | intro x | (lift_lets -underBinder; intro x)); first
      | (refine Frame.cut (w := 52868331604026) (s := s) (x := x) ?_ fun _ => ?_; (on_goal 1 => try dsimp only [x]); (on_goal 2 => clear_value x))
      | clear_value x)
      | ((with_reducible refine workIssue_frame ?_ ?_); on_goal 2 => rfl)
      | ((with_reducible refine workEnd_frame ?_ ?_); on_goal 2 => rfl)
      | ((with_reducible refine redPut_frame ?_ ?_); on_goal 2 => rfl)
      | ((with_reducible refine badPacket_frame ?_ ?_); on_goal 2 => rfl)
      | ((with_reducible refine landingHeld_frame ?_ ?_); on_goal 2 => rfl)
      | ((with_reducible refine issueWork_frame (fun _ s => ?_) ?_ ?_); on_goal 3 => rfl)
      | ((with_reducible refine absentPacket_frame ?_ ?_); on_goal 2 => rfl)
      | with_reducible refine Frame.ite ?_ ?_
      | split

theorem signalPacket_frame {w₀ : Nat} {s₀ : State} {q : Nat} {p : Packet} {s : State} (h₀ : Frame w₀ s₀ s) (hw₀ : 52866786003002 ||| w₀ = w₀) :
    Frame w₀ s₀ (signalPacket q p s) := by
  refine h₀.trans 52866786003002 ?_ hw₀
  clear h₀ hw₀
  unfold signalPacket
  repeat' first
      | with_reducible exact Frame.refl
      | ((first | intro x | (lift_lets -underBinder; intro x)); first
      | clear_value x)
      | ((with_reducible refine updQueue_frame ?_ ?_); on_goal 2 => rfl)
      | ((with_reducible refine packetDone_frame ?_ ?_); on_goal 2 => rfl)
      | ((with_reducible refine badPacket_frame ?_ ?_); on_goal 2 => rfl)
      | with_reducible refine Frame.ite ?_ ?_

theorem signalUnsent_frame {w₀ : Nat} {s₀ : State} {q : Nat} {gen : Nat} {st : Status} {s : State} (h₀ : Frame w₀ s₀ s) (hw₀ : 33554432 ||| w₀ = w₀) :
    Frame w₀ s₀ (signalUnsent q gen st s) := by
  refine h₀.trans 33554432 ?_ hw₀
  clear h₀ hw₀
  unfold signalUnsent
  repeat' first
      | with_reducible assumption
      | with_reducible exact Frame.refl
      | ((first | intro x | (lift_lets -underBinder; intro x)); first
      | (refine Frame.cut (w := 33554432) (s := s) (x := x) ?_ fun _ => ?_; (on_goal 1 => try dsimp only [x]); (on_goal 2 => clear_value x)))
      | ((with_reducible refine keepStatus_frame ?_ ?_); on_goal 2 => rfl)
      | ((with_reducible refine Frame.updFeSoft (f := _) ?_ ?_ ?_); (on_goal 1 => (intro _; unfold Fe.rest; rfl)); on_goal 2 => rfl)
      | with_reducible refine Frame.ite ?_ ?_

theorem signalApplyOp_frame {w₀ : Nat} {s₀ : State} {q : Nat} {s : State} (h₀ : Frame w₀ s₀ s) (hw₀ : 41856100474880 ||| w₀ = w₀) :
    Frame w₀ s₀ (signalApplyOp q s) := by
  refine h₀.trans 41856100474880 ?_ hw₀
  clear h₀ hw₀
  unfold signalApplyOp
  repeat' first
      | with_reducible assumption
      | with_reducible exact Frame.refl
      | ((first | intro x | (lift_lets -underBinder; intro x)); first
      | (refine Frame.cut (w := 41856100474880) (s := s) (x := x) ?_ fun _ => ?_; (on_goal 1 => try dsimp only [x]); (on_goal 2 => clear_value x))
      | (refine Frame.cutFn (w := 41856100474880) (f := x) ?_ fun _ => ?_; (on_goal 1 => intro s; try dsimp only [x]); (on_goal 2 => clear_value x))
      | clear_value x)
      | ((with_reducible refine updQueue_frame ?_ ?_); on_goal 2 => rfl)
      | ((with_reducible refine signalFence_frame ?_ ?_); on_goal 2 => rfl)
      | ((with_reducible refine signalSem_frame ?_ ?_); on_goal 2 => rfl)
      | ((with_reducible refine txPush_frame ?_ ?_); on_goal 2 => rfl)
      | ((with_reducible refine signalUnsent_frame ?_ ?_); on_goal 2 => rfl)
      | with_reducible refine Frame.app ‹_› ?_
      | with_reducible refine Frame.ite ?_ ?_
      | split

theorem waitMet_frame {w₀ : Nat} {s₀ : State} {q : Nat} {st : Status} {s : State} (h₀ : Frame w₀ s₀ s) (hw₀ : 570425344 ||| w₀ = w₀) :
    Frame w₀ s₀ (waitMet q st s) := by
  refine h₀.trans 570425344 ?_ hw₀
  clear h₀ hw₀
  unfold waitMet
  repeat' first
      | with_reducible exact Frame.refl
      | ((with_reducible refine State.fsCount_frame ?_ ?_); on_goal 2 => rfl)
      | ((with_reducible refine keepStatus_frame ?_ ?_); on_goal 2 => rfl)
      | with_reducible refine Frame.ite ?_ ?_

theorem waitPacket_frame {w₀ : Nat} {s₀ : State} {q : Nat} {p : Packet} {s : State} (h₀ : Frame w₀ s₀ s) (hw₀ : 52867322873914 ||| w₀ = w₀) :
    Frame w₀ s₀ (waitPacket q p s) := by
  refine h₀.trans 52867322873914 ?_ hw₀
  clear h₀ hw₀
  unfold waitPacket
  repeat' first
      | with_reducible exact Frame.refl
      | with_reducible exact Frame.appC ‹_› _
      | ((first | intro x | (lift_lets -underBinder; intro x)); first
      | (refine Frame.cutC (w := 52867322873914) (s := s) (f := x) (fun _ => ?_) fun _ => ?_; (on_goal 1 => try dsimp only [x]); (on_goal 2 => clear_value x))
      | clear_value x)
      | ((with_reducible refine State.feCount_frame ?_ ?_); on_goal 2 => rfl)
      | ((with_reducible refine updQueue_frame ?_ ?_); on_goal 2 => rfl)
      | ((with_reducible refine parkQueue_frame ?_ ?_); on_goal 2 => rfl)
      | ((with_reducible refine updSem_frame ?_ ?_); on_goal 2 => rfl)
      | ((with_reducible refine saveRecord_frame ?_ ?_); on_goal 2 => rfl)
      | ((with_reducible refine setPos_frame ?_ ?_); on_goal 2 => rfl)
      | ((with_reducible refine packetDone_frame ?_ ?_); on_goal 2 => rfl)
      | ((with_reducible refine badPacket_frame ?_ ?_); on_goal 2 => rfl)
      | ((with_reducible refine waitMet_frame ?_ ?_); on_goal 2 => rfl)
      | with_reducible refine Frame.ite ?_ ?_

theorem setGreg_frame {w₀ : Nat} {s₀ : State} {q : Nat} {r : Nat} {v : DWord} {s : State} (h₀ : Frame w₀ s₀ s) (hw₀ : 33554432 ||| w₀ = w₀) :
    Frame w₀ s₀ (setGreg q r v s) := by
  refine h₀.trans 33554432 ?_ hw₀
  clear h₀ hw₀
  unfold setGreg
  repeat' first
      | with_reducible exact Frame.refl
      | ((with_reducible refine updQueue_frame ?_ ?_); on_goal 2 => rfl)

theorem condJumpPacket_frame {w₀ : Nat} {s₀ : State} {q : Nat} {p : Packet} {s : State} (h₀ : Frame w₀ s₀ s) (hw₀ : 52866786003002 ||| w₀ = w₀) :
    Frame w₀ s₀ (condJumpPacket q p s) := by
  refine h₀.trans 52866786003002 ?_ hw₀
  clear h₀ hw₀
  unfold condJumpPacket
  repeat' first
      | with_reducible exact Frame.refl
      | ((first | intro x | (lift_lets -underBinder; intro x)); first
      | clear_value x)
      | ((with_reducible refine updQueue_frame ?_ ?_); on_goal 2 => rfl)
      | ((with_reducible refine packetDone_frame ?_ ?_); on_goal 2 => rfl)
      | ((with_reducible refine badPacket_frame ?_ ?_); on_goal 2 => rfl)
      | with_reducible refine Frame.ite ?_ ?_

theorem loopPacket_frame {w₀ : Nat} {s₀ : State} {q : Nat} {p : Packet} {s : State} (h₀ : Frame w₀ s₀ s) (hw₀ : 52866786003002 ||| w₀ = w₀) :
    Frame w₀ s₀ (loopPacket q p s) := by
  refine h₀.trans 52866786003002 ?_ hw₀
  clear h₀ hw₀
  unfold loopPacket
  repeat' first
      | with_reducible exact Frame.refl
      | ((first | intro x | (lift_lets -underBinder; intro x)); first
      | clear_value x)
      | ((with_reducible refine updQueue_frame ?_ ?_); on_goal 2 => rfl)
      | ((with_reducible refine packetDone_frame ?_ ?_); on_goal 2 => rfl)
      | ((with_reducible refine badPacket_frame ?_ ?_); on_goal 2 => rfl)
      | with_reducible refine Frame.ite ?_ ?_

theorem callPacket_frame {w₀ : Nat} {s₀ : State} {q : Nat} {p : Packet} {s : State} (h₀ : Frame w₀ s₀ s) (hw₀ : 35257420089378 ||| w₀ = w₀) :
    Frame w₀ s₀ (callPacket q p s) := by
  refine h₀.trans 35257420089378 ?_ hw₀
  clear h₀ hw₀
  unfold callPacket
  repeat' first
      | with_reducible assumption
      | with_reducible exact Frame.refl
      | ((first | intro x | (lift_lets -underBinder; intro x)); first
      | (refine Frame.cut (w := 35257420089378) (s := s) (x := x) ?_ fun _ => ?_; (on_goal 1 => try dsimp only [x]); (on_goal 2 => clear_value x))
      | clear_value x)
      | ((with_reducible refine State.feCount_frame ?_ ?_); on_goal 2 => rfl)
      | ((with_reducible refine updQueue_frame ?_ ?_); on_goal 2 => rfl)
      | ((with_reducible refine fetchAsk_frame ?_ ?_); on_goal 2 => rfl)
      | ((with_reducible refine setPos_frame ?_ ?_); on_goal 2 => rfl)
      | ((with_reducible refine badPacket_frame ?_ ?_); on_goal 2 => rfl)
      | with_reducible refine Frame.ite ?_ ?_

theorem retPacket_frame {w₀ : Nat} {s₀ : State} {q : Nat} {p : Packet} {s : State} (h₀ : Frame w₀ s₀ s) (hw₀ : 52866786003002 ||| w₀ = w₀) :
    Frame w₀ s₀ (retPacket q p s) := by
  refine h₀.trans 52866786003002 ?_ hw₀
  clear h₀ hw₀
  unfold retPacket
  repeat' first
      | with_reducible exact Frame.refl
      | ((first | intro x | (lift_lets -underBinder; intro x)); first
      | clear_value x)
      | ((with_reducible refine updQueue_frame ?_ ?_); on_goal 2 => rfl)
      | ((with_reducible refine packetDone_frame ?_ ?_); on_goal 2 => rfl)
      | ((with_reducible refine badPacket_frame ?_ ?_); on_goal 2 => rfl)
      | with_reducible refine Frame.ite ?_ ?_

theorem setRegPacket_frame {w₀ : Nat} {s₀ : State} {q : Nat} {p : Packet} {s : State} (h₀ : Frame w₀ s₀ s) (hw₀ : 52866786003002 ||| w₀ = w₀) :
    Frame w₀ s₀ (setRegPacket q p s) := by
  refine h₀.trans 52866786003002 ?_ hw₀
  clear h₀ hw₀
  unfold setRegPacket
  repeat' first
      | with_reducible exact Frame.refl
      | ((first | intro x | (lift_lets -underBinder; intro x)); first
      | clear_value x)
      | ((with_reducible refine packetDone_frame ?_ ?_); on_goal 2 => rfl)
      | ((with_reducible refine badPacket_frame ?_ ?_); on_goal 2 => rfl)
      | ((with_reducible refine setGreg_frame ?_ ?_); on_goal 2 => rfl)
      | with_reducible refine Frame.ite ?_ ?_

theorem markPacket_frame {w₀ : Nat} {s₀ : State} {q : Nat} {p : Packet} {s : State} (h₀ : Frame w₀ s₀ s) (hw₀ : 52866786003002 ||| w₀ = w₀) :
    Frame w₀ s₀ (markPacket q p s) := by
  refine h₀.trans 52866786003002 ?_ hw₀
  clear h₀ hw₀
  unfold markPacket
  repeat' first
      | with_reducible assumption
      | with_reducible exact Frame.refl
      | ((first | intro x | (lift_lets -underBinder; intro x)); first
      | (refine Frame.cut (w := 52866786003002) (s := s) (x := x) ?_ fun _ => ?_; (on_goal 1 => try dsimp only [x]); (on_goal 2 => clear_value x))
      | clear_value x)
      | ((with_reducible refine rushes_frame ?_ ?_); on_goal 2 => rfl)
      | ((with_reducible refine updQueue_frame ?_ ?_); on_goal 2 => rfl)
      | ((with_reducible refine packetDone_frame ?_ ?_); on_goal 2 => rfl)
      | ((with_reducible refine badPacket_frame ?_ ?_); on_goal 2 => rfl)
      | with_reducible refine Frame.ite ?_ ?_

theorem ownRequest_frame {w₀ : Nat} {s₀ : State} {hall : Nat} {gen : Nat} {va : Nat} {t : Trans} {block : Bytes} {data : Bytes} {o : Owner} {s : State} (h₀ : Frame w₀ s₀ s) (hw₀ : 91410833472 ||| w₀ = w₀) :
    FrameOpt w₀ s₀ (ownRequest hall gen va t block data o s) := by
  refine FrameOpt.trans 91410833472 h₀ ?_ hw₀
  clear h₀ hw₀
  unfold ownRequest
  repeat' first
      | with_reducible exact Frame.refl
      | ((first | intro x | (lift_lets -underBinder; intro x)); first
      | clear_value x)
      | ((with_reducible refine hallStale_frame ?_ ?_); on_goal 2 => rfl)
      | ((with_reducible refine lineIssue_frame ?_ ?_); on_goal 2 => rfl)
      | ((with_reducible refine pushReq_frame ?_ ?_); on_goal 2 => rfl)
      | ((with_reducible refine homeEnter_frame ?_ ?_); on_goal 2 => rfl)
      | with_reducible exact FrameOpt.none
      | with_reducible refine FrameOpt.some ?_
      | with_reducible refine Frame.ite2 ?_ ?_
      | split

theorem atomicIssue_frame {w₀ : Nat} {s₀ : State} {q : Nat} {u : Bytes} {p : Packet} {s : State} (h₀ : Frame w₀ s₀ s) (hw₀ : 52868338067578 ||| w₀ = w₀) :
    Frame w₀ s₀ (atomicIssue q u p s).2 := by
  refine h₀.trans 52868338067578 ?_ hw₀
  clear h₀ hw₀
  unfold atomicIssue
  repeat' first
      | with_reducible exact Frame.refl
      | ((first | intro x | (lift_lets -underBinder; intro x)); first
      | (refine Frame.cutFn (w := 52868338067578) (f := x) ?_ fun _ => ?_; (on_goal 1 => intro s; try dsimp only [x]); (on_goal 2 => clear_value x))
      | clear_value x)
      | ((with_reducible refine hallStale_frame ?_ ?_); on_goal 2 => rfl)
      | ((with_reducible refine workRefused_frame ?_ ?_); on_goal 2 => rfl)
      | ((with_reducible refine workIssue_frame ?_ ?_); on_goal 2 => rfl)
      | ((with_reducible refine translate_frame ?_ ?_); on_goal 2 => rfl)
      | ((with_reducible refine packetDone_frame ?_ ?_); on_goal 2 => rfl)
      | ((with_reducible refine landingHeld_frame ?_ ?_); on_goal 2 => rfl)
      | ((with_reducible refine radioIssued_frame ?_ ?_); on_goal 2 => rfl)
      | ((with_reducible refine absentPacket_frame ?_ ?_); on_goal 2 => rfl)
      | ((with_reducible refine ownRequest_frame ?_ ?_); on_goal 2 => rfl)
      | ((with_reducible refine Frame.updFeSoft (f := _) ?_ ?_ ?_); (on_goal 1 => (intro _; unfold Fe.rest; rfl)); on_goal 2 => rfl)
      | dsimp -zeta only
      | with_reducible refine Frame.app ‹_› ?_
      | (refine FrameOpt.get ‹_› ?_)
      | with_reducible refine Frame.ite2 ?_ ?_
      | split

theorem atomicOp_frame {w₀ : Nat} {s₀ : State} {q : Nat} {s : State} (h₀ : Frame w₀ s₀ s) (hw₀ : 52868338067578 ||| w₀ = w₀) :
    Frame w₀ s₀ (atomicOp q s).2 := by
  refine h₀.trans 52868338067578 ?_ hw₀
  clear h₀ hw₀
  unfold atomicOp
  repeat' first
      | with_reducible assumption
      | with_reducible exact Frame.refl
      | ((first | intro x | (lift_lets -underBinder; intro x)); first
      | (refine Frame.cut (w := 52868338067578) (s := s) (x := x) ?_ fun _ => ?_; (on_goal 1 => try dsimp only [x]); (on_goal 2 => clear_value x))
      | clear_value x)
      | ((with_reducible refine updQueue_frame ?_ ?_); on_goal 2 => rfl)
      | ((with_reducible refine decodeNext_frame (fun _ s => ?_) ?_ ?_); on_goal 3 => rfl)
      | ((with_reducible refine badPacket_frame ?_ ?_); on_goal 2 => rfl)
      | ((with_reducible refine atomicIssue_frame ?_ ?_); on_goal 2 => rfl)
      | with_reducible refine Frame.ite ?_ ?_
      | with_reducible refine Frame.ite2 ?_ ?_
      | split

theorem atomicEnd_frame {w₀ : Nat} {s₀ : State} {id : Nat} {st : Status} {line : Bytes} {s : State} (h₀ : Frame w₀ s₀ s) (hw₀ : 91444387904 ||| w₀ = w₀) :
    Frame w₀ s₀ (atomicEnd id st line s).2 := by
  refine h₀.trans 91444387904 ?_ hw₀
  clear h₀ hw₀
  unfold atomicEnd
  repeat' first
      | with_reducible assumption
      | with_reducible exact Frame.refl
      | ((first | intro x | (lift_lets -underBinder; intro x)); first
      | (refine Frame.cut (w := 91444387904) (s := s) (x := x) ?_ fun _ => ?_; (on_goal 1 => try dsimp only [x]); (on_goal 2 => clear_value x))
      | (refine FrameOpt.cut (w := 91444387904) (s := s) (x := x) ?_ fun _ => ?_; (on_goal 1 => try dsimp only [x]); (on_goal 2 => clear_value x))
      | clear_value x)
      | ((with_reducible refine workEnd_frame ?_ ?_); on_goal 2 => rfl)
      | ((with_reducible refine setGreg_frame ?_ ?_); on_goal 2 => rfl)
      | ((with_reducible refine ownRequest_frame ?_ ?_); on_goal 2 => rfl)
      | with_reducible exact FrameOpt.get2 ‹_›
      | with_reducible exact FrameOpt.none
      | with_reducible refine Frame.ite ?_ ?_
      | with_reducible refine Frame.ite2 ?_ ?_
      | split

theorem cpAnswer_frame {w₀ : Nat} {s₀ : State} {tag : Nat} {st : Status} {data : Bytes} {s : State} (h₀ : Frame w₀ s₀ s) (hw₀ : 35184372088832 ||| w₀ = w₀) :
    Frame w₀ s₀ (cpAnswer tag st data s) := by
  refine h₀.trans 35184372088832 ?_ hw₀
  clear h₀ hw₀
  unfold cpAnswer
  repeat' first
      | with_reducible exact Frame.refl
      | ((with_reducible refine Frame.emit ?_ ?_); on_goal 2 => rfl)

theorem cpReqOp_frame {w₀ : Nat} {s₀ : State} {r : CpReq} {s : State} (h₀ : Frame w₀ s₀ s) (hw₀ : 35275782922304 ||| w₀ = w₀) :
    Frame w₀ s₀ (cpReqOp r s).2 := by
  refine h₀.trans 35275782922304 ?_ hw₀
  clear h₀ hw₀
  unfold cpReqOp
  repeat' first
      | with_reducible exact Frame.refl
      | ((first | intro x | (lift_lets -underBinder; intro x)); first
      | clear_value x)
      | ((with_reducible refine translate_frame ?_ ?_); on_goal 2 => rfl)
      | ((with_reducible refine ownRequest_frame ?_ ?_); on_goal 2 => rfl)
      | ((with_reducible refine cpAnswer_frame ?_ ?_); on_goal 2 => rfl)
      | dsimp -zeta only
      | (refine FrameOpt.get ‹_› ?_)
      | with_reducible refine Frame.ite2 ?_ ?_
      | split

end Sys2Proof.Machine
end

