-- ==== Sys2Proof/Laws/FrFirm.lean ====
section
/-! SUPPORT. What each operation of Machine/Firm.lean may change (see Frame.lean). -/

namespace Sys2Proof.Machine

-- One declaration at a time, so that the elaborator holds few threads (each takes stack of its own).
set_option Elab.async false

theorem deriveEpochKey_frame {w₀ : Nat} {s₀ : State} {e : Nat} {s : State} (h₀ : Frame w₀ s₀ s) (hw₀ : 4160 ||| w₀ = w₀) :
    Frame w₀ s₀ (deriveEpochKey e s).2 := by
  refine h₀.trans 4160 ?_ hw₀
  clear h₀ hw₀
  unfold deriveEpochKey
  repeat' first
      | with_reducible exact Frame.refl
      | ((first | intro x | (lift_lets -underBinder; intro x)); first
      | clear_value x)
      | ((with_reducible refine deriveInto_frame ?_ ?_); on_goal 2 => rfl)
      | ((with_reducible refine Frame.updDom ?_ ?_); on_goal 2 => rfl)
      | dsimp -zeta only
      | with_reducible refine Frame.ite ?_ ?_
      | split

theorem deriveEntry_frame {w₀ : Nat} {s₀ : State} {epoch : Nat} {e : PlanEntry} {s : State} (h₀ : Frame w₀ s₀ s) (hw₀ : 64 ||| w₀ = w₀) :
    Frame w₀ s₀ (deriveEntry epoch e s).2 := by
  refine h₀.trans 64 ?_ hw₀
  clear h₀ hw₀
  unfold deriveEntry
  repeat' first
      | with_reducible exact Frame.refl
      | ((first | intro x | (lift_lets -underBinder; intro x)); first
      | clear_value x)
      | ((with_reducible refine deriveInto_frame ?_ ?_); on_goal 2 => rfl)
      | dsimp -zeta only
      | with_reducible refine Frame.ite2 ?_ ?_

theorem derivePlan_frame {w₀ : Nat} {s₀ : State}  {s : State} (h₀ : Frame w₀ s₀ s) (hw₀ : 4160 ||| w₀ = w₀) :
    Frame w₀ s₀ (derivePlan s) := by
  refine h₀.trans 4160 ?_ hw₀
  clear h₀ hw₀
  unfold derivePlan
  repeat' first
      | with_reducible exact Frame.refl
      | ((first | intro x | (lift_lets -underBinder; intro x)); first
      | (refine Frame.cutFnF (w := 4160) (f := x) ?_ fun _ => ?_; (on_goal 1 => rintro ⟨_, s⟩ _; try dsimp only [x]); (on_goal 2 => clear_value x))
      | clear_value x)
      | ((with_reducible refine deriveEntry_frame ?_ ?_); on_goal 2 => rfl)
      | ((with_reducible refine Frame.updDom ?_ ?_); on_goal 2 => rfl)
      | with_reducible refine Frame.foldl (fun _ _ => ?_) _ ?_
      | with_reducible refine Frame.appF ‹_› ?_

theorem retireEpoch_frame {w₀ : Nat} {s₀ : State} {e : Nat} {s : State} (h₀ : Frame w₀ s₀ s) (hw₀ : 4160 ||| w₀ = w₀) :
    Frame w₀ s₀ (retireEpoch e s) := by
  refine h₀.trans 4160 ?_ hw₀
  clear h₀ hw₀
  unfold retireEpoch
  repeat' first
      | with_reducible exact Frame.refl
      | ((first | intro x | (lift_lets -underBinder; intro x)); first
      | clear_value x)
      | ((with_reducible refine retireHandle_frame ?_ ?_); on_goal 2 => rfl)
      | ((with_reducible refine Frame.updDom ?_ ?_); on_goal 2 => rfl)
      | with_reducible refine Frame.ite ?_ ?_

theorem dropEpoch_frame {w₀ : Nat} {s₀ : State} {birth : Option Word} {s : State} (h₀ : Frame w₀ s₀ s) (hw₀ : 4160 ||| w₀ = w₀) :
    Frame w₀ s₀ (dropEpoch birth s) := by
  refine h₀.trans 4160 ?_ hw₀
  clear h₀ hw₀
  unfold dropEpoch
  repeat' first
      | with_reducible exact Frame.refl
      | ((with_reducible refine retireEpoch_frame ?_ ?_); on_goal 2 => rfl)
      | split

theorem deriveHallKey_frame {w₀ : Nat} {s₀ : State} {hall : Nat} {s : State} (h₀ : Frame w₀ s₀ s) (hw₀ : 1073741888 ||| w₀ = w₀) :
    Frame w₀ s₀ (deriveHallKey hall s) := by
  refine h₀.trans 1073741888 ?_ hw₀
  clear h₀ hw₀
  unfold deriveHallKey
  repeat' first
      | with_reducible exact Frame.refl
      | ((first | intro x | (lift_lets -underBinder; intro x)); first
      | clear_value x)
      | ((with_reducible refine deriveInto_frame ?_ ?_); on_goal 2 => rfl)
      | ((with_reducible refine updHall_frame ?_ ?_); on_goal 2 => rfl)
      | dsimp -zeta only
      | with_reducible refine Frame.ite ?_ ?_
      | split

theorem hallKeys_frame {w₀ : Nat} {s₀ : State} {hall : Nat} {s : State} (h₀ : Frame w₀ s₀ s) (hw₀ : 1073745984 ||| w₀ = w₀) :
    Frame w₀ s₀ (hallKeys hall s) := by
  refine h₀.trans 1073745984 ?_ hw₀
  clear h₀ hw₀
  unfold hallKeys
  repeat' first
      | with_reducible exact Frame.refl
      | ((with_reducible refine derivePlan_frame ?_ ?_); on_goal 2 => rfl)
      | ((with_reducible refine deriveHallKey_frame ?_ ?_); on_goal 2 => rfl)
      | with_reducible refine Frame.ite ?_ ?_

end Sys2Proof.Machine
end

