-- ==== Sys2Proof/Laws/FrHall.lean ====
section
/-! SUPPORT. What each operation of Machine/Hall.lean may change (see Frame.lean). -/

namespace Sys2Proof.Machine

-- One declaration at a time, so that the elaborator holds few threads (each takes stack of its own).
set_option Elab.async false

theorem ituFinish_frame {w₀ : Nat} {s₀ : State} {op : Nat} {st : Status} {s : State} (h₀ : Frame w₀ s₀ s) (hw₀ : 1073741824 ||| w₀ = w₀) :
    Frame w₀ s₀ (ituFinish op st s) := by
  refine h₀.trans 1073741824 ?_ hw₀
  clear h₀ hw₀
  unfold ituFinish
  repeat' first
      | with_reducible exact Frame.refl
      | ((with_reducible refine Frame.updItuSoft (f := _) ?_ ?_ ?_); (on_goal 1 => (intro _; unfold Itu.rest; rfl)); on_goal 2 => rfl)

theorem hallAnswer_frame {w₀ : Nat} {s₀ : State} {who : List (Nat × Nat)} {st : Status} {data : Bytes} {s : State} (h₀ : Frame w₀ s₀ s) (hw₀ : 2200096997376 ||| w₀ = w₀) :
    Frame w₀ s₀ (hallAnswer who st data s) := by
  refine h₀.trans 2200096997376 ?_ hw₀
  clear h₀ hw₀
  unfold hallAnswer
  repeat' first
      | with_reducible exact Frame.refl
      | ((with_reducible refine actDone_frame ?_ ?_); on_goal 2 => rfl)
      | ((with_reducible refine ituFinish_frame ?_ ?_); on_goal 2 => rfl)
      | with_reducible refine Frame.forAll (fun _ s => ?_) _ ?_
      | with_reducible refine Frame.ite ?_ ?_

theorem rootWrite_frame {w₀ : Nat} {s₀ : State} {hall : Nat} {s : State} (h₀ : Frame w₀ s₀ s) (hw₀ : 35184372088856 ||| w₀ = w₀) :
    Frame w₀ s₀ (rootWrite hall s) := by
  refine h₀.trans 35184372088856 ?_ hw₀
  clear h₀ hw₀
  unfold rootWrite
  repeat' first
      | with_reducible exact Frame.refl
      | ((first | intro x | (lift_lets -underBinder; intro x)); first
      | clear_value x)
      | ((with_reducible refine mpWrite_frame ?_ ?_); on_goal 2 => rfl)
      | with_reducible refine Frame.ite ?_ ?_

theorem hallChange_frame {w₀ : Nat} {s₀ : State} {hall : Nat} {f : Hall → Hall} {s : State} (h₀ : Frame w₀ s₀ s) (hw₀ : 35185445830680 ||| w₀ = w₀) :
    Frame w₀ s₀ (hallChange hall f s) := by
  refine h₀.trans 35185445830680 ?_ hw₀
  clear h₀ hw₀
  unfold hallChange
  repeat' first
      | with_reducible exact Frame.refl
      | ((with_reducible refine updHall_frame ?_ ?_); on_goal 2 => rfl)
      | ((with_reducible refine rootWrite_frame ?_ ?_); on_goal 2 => rfl)

theorem stillWaits_frame {w₀ : Nat} {s₀ : State} {who : Nat × Nat} {s : State} (h₀ : Frame w₀ s₀ s) (hw₀ : 2200096997376 ||| w₀ = w₀) :
    Frame w₀ s₀ (stillWaits who s) := by
  refine h₀.trans 2200096997376 ?_ hw₀
  clear h₀ hw₀
  unfold stillWaits
  repeat' first
      | with_reducible exact Frame.refl
      | ((with_reducible refine actWaits_frame ?_ ?_); on_goal 2 => rfl)
      | ((with_reducible refine Frame.updItuSoft (f := _) ?_ ?_ ?_); (on_goal 1 => (intro _; unfold Itu.rest; rfl)); on_goal 2 => rfl)
      | with_reducible refine Frame.ite ?_ ?_

theorem hallDone_frame {w₀ : Nat} {s₀ : State} {hall : Nat} {who : List (Nat × Nat)} {st : Status} {data : Bytes} {s : State} (h₀ : Frame w₀ s₀ s) (hw₀ : 2200096997376 ||| w₀ = w₀) :
    Frame w₀ s₀ (hallDone hall who st data s) := by
  refine h₀.trans 2200096997376 ?_ hw₀
  clear h₀ hw₀
  unfold hallDone
  repeat' first
      | with_reducible exact Frame.refl
      | ((with_reducible refine updHall_frame ?_ ?_); on_goal 2 => rfl)
      | ((with_reducible refine hallAnswer_frame ?_ ?_); on_goal 2 => rfl)
      | ((with_reducible refine stillWaits_frame ?_ ?_); on_goal 2 => rfl)
      | with_reducible refine Frame.forAll (fun _ s => ?_) _ ?_
      | with_reducible refine Frame.ite ?_ ?_

theorem rootDrained_frame {w₀ : Nat} {s₀ : State} {hall : Nat} {s : State} (h₀ : Frame w₀ s₀ s) (hw₀ : 2200096997376 ||| w₀ = w₀) :
    Frame w₀ s₀ (rootDrained hall s) := by
  refine h₀.trans 2200096997376 ?_ hw₀
  clear h₀ hw₀
  unfold rootDrained
  repeat' first
      | with_reducible exact Frame.refl
      | ((first | intro x | (lift_lets -underBinder; intro x)); first
      | clear_value x)
      | ((with_reducible refine updHall_frame ?_ ?_); on_goal 2 => rfl)
      | ((with_reducible refine hallAnswer_frame ?_ ?_); on_goal 2 => rfl)
      | with_reducible refine Frame.forAll (fun _ s => ?_) _ ?_
      | with_reducible refine Frame.ite ?_ ?_

theorem hallWaits_frame {w₀ : Nat} {s₀ : State} {hall : Nat} {who : Nat × Nat} {s : State} (h₀ : Frame w₀ s₀ s) (hw₀ : 2200096997376 ||| w₀ = w₀) :
    Frame w₀ s₀ (hallWaits hall who s) := by
  refine h₀.trans 2200096997376 ?_ hw₀
  clear h₀ hw₀
  unfold hallWaits
  repeat' first
      | with_reducible exact Frame.refl
      | ((with_reducible refine updHall_frame ?_ ?_); on_goal 2 => rfl)
      | ((with_reducible refine stillWaits_frame ?_ ?_); on_goal 2 => rfl)

theorem hallEnds_frame {w₀ : Nat} {s₀ : State} {hall : Nat} {st : Status} {s : State} (h₀ : Frame w₀ s₀ s) (hw₀ : 2200096997376 ||| w₀ = w₀) :
    Frame w₀ s₀ (hallEnds hall st s) := by
  refine h₀.trans 2200096997376 ?_ hw₀
  clear h₀ hw₀
  unfold hallEnds
  repeat' first
      | with_reducible exact Frame.refl
      | ((first | intro x | (lift_lets -underBinder; intro x)); first
      | clear_value x)
      | ((with_reducible refine updHall_frame ?_ ?_); on_goal 2 => rfl)
      | ((with_reducible refine hallDone_frame ?_ ?_); on_goal 2 => rfl)

theorem hallCreateOp_frame {w₀ : Nat} {s₀ : State} {b : Bytes} {roleOk : Bool} {who : Nat × Nat} {s : State} (h₀ : Frame w₀ s₀ s) (hw₀ : 37384469090904 ||| w₀ = w₀) :
    Frame w₀ s₀ (hallCreateOp b roleOk who s) := by
  refine h₀.trans 37384469090904 ?_ hw₀
  clear h₀ hw₀
  unfold hallCreateOp
  repeat' first
      | with_reducible assumption
      | with_reducible exact Frame.refl
      | with_reducible exact Frame.appC ‹_› _
      | ((first | intro x | (lift_lets -underBinder; intro x)); first
      | (refine Frame.cut (w := 37384469090904) (s := s) (x := x) ?_ fun _ => ?_; (on_goal 1 => try dsimp only [x]); (on_goal 2 => clear_value x))
      | (refine Frame.cutC (w := 37384469090904) (s := s) (f := x) (fun _ => ?_) fun _ => ?_; (on_goal 1 => try dsimp only [x]); (on_goal 2 => clear_value x))
      | clear_value x)
      | ((with_reducible refine recountConsent_frame ?_ ?_); on_goal 2 => rfl)
      | ((with_reducible refine hallKeys_frame ?_ ?_); on_goal 2 => rfl)
      | ((with_reducible refine hallAnswer_frame ?_ ?_); on_goal 2 => rfl)
      | ((with_reducible refine hallChange_frame ?_ ?_); on_goal 2 => rfl)
      | ((with_reducible refine hallDone_frame ?_ ?_); on_goal 2 => rfl)
      | with_reducible refine Frame.ite ?_ ?_

theorem hallCreateAct_frame {w₀ : Nat} {s₀ : State} {a : Act} {arg : Bytes} {s : State} (h₀ : Frame w₀ s₀ s) (hw₀ : 37384469090904 ||| w₀ = w₀) :
    Frame w₀ s₀ (hallCreateAct a arg s) := by
  refine h₀.trans 37384469090904 ?_ hw₀
  clear h₀ hw₀
  unfold hallCreateAct
  repeat' first
      | with_reducible exact Frame.refl
      | ((with_reducible refine hallCreateOp_frame ?_ ?_); on_goal 2 => rfl)

theorem hallGrantOp_frame {w₀ : Nat} {s₀ : State} {b : Bytes} {roleOk : Bool} {s : State} (h₀ : Frame w₀ s₀ s) (hw₀ : 35187593314328 ||| w₀ = w₀) :
    Frame w₀ s₀ (hallGrantOp b roleOk s).2 := by
  refine h₀.trans 35187593314328 ?_ hw₀
  clear h₀ hw₀
  unfold hallGrantOp
  repeat' first
      | with_reducible exact Frame.refl
      | ((first | intro x | (lift_lets -underBinder; intro x)); first
      | clear_value x)
      | ((with_reducible refine setRun_frame ?_ ?_); on_goal 2 => rfl)
      | dsimp -zeta only
      | with_reducible refine Frame.ite2 ?_ ?_

theorem hallUngrantOp_frame {w₀ : Nat} {s₀ : State} {b : Bytes} {roleOk : Bool} {s : State} (h₀ : Frame w₀ s₀ s) (hw₀ : 35187593314328 ||| w₀ = w₀) :
    Frame w₀ s₀ (hallUngrantOp b roleOk s).2 := by
  refine h₀.trans 35187593314328 ?_ hw₀
  clear h₀ hw₀
  unfold hallUngrantOp
  repeat' first
      | with_reducible exact Frame.refl
      | ((first | intro x | (lift_lets -underBinder; intro x)); first
      | clear_value x)
      | ((with_reducible refine setRun_frame ?_ ?_); on_goal 2 => rfl)
      | dsimp -zeta only
      | with_reducible refine Frame.ite2 ?_ ?_

theorem hallGrantAct_frame {w₀ : Nat} {s₀ : State} {a : Act} {arg : Bytes} {s : State} (h₀ : Frame w₀ s₀ s) (hw₀ : 37386616569880 ||| w₀ = w₀) :
    Frame w₀ s₀ (hallGrantAct a arg s) := by
  refine h₀.trans 37386616569880 ?_ hw₀
  clear h₀ hw₀
  unfold hallGrantAct
  repeat' first
      | with_reducible exact Frame.refl
      | ((with_reducible refine actDone_frame ?_ ?_); on_goal 2 => rfl)
      | ((with_reducible refine hallGrantOp_frame ?_ ?_); on_goal 2 => rfl)

theorem hallUngrantAct_frame {w₀ : Nat} {s₀ : State} {a : Act} {arg : Bytes} {s : State} (h₀ : Frame w₀ s₀ s) (hw₀ : 37386616569880 ||| w₀ = w₀) :
    Frame w₀ s₀ (hallUngrantAct a arg s) := by
  refine h₀.trans 37386616569880 ?_ hw₀
  clear h₀ hw₀
  unfold hallUngrantAct
  repeat' first
      | with_reducible exact Frame.refl
      | ((with_reducible refine actDone_frame ?_ ?_); on_goal 2 => rfl)
      | ((with_reducible refine hallUngrantOp_frame ?_ ?_); on_goal 2 => rfl)

theorem cleanOp_frame {w₀ : Nat} {s₀ : State} {first : Nat} {count : Nat} {s : State} (h₀ : Frame w₀ s₀ s) (hw₀ : 35187593314328 ||| w₀ = w₀) :
    Frame w₀ s₀ (cleanOp first count s).2 := by
  refine h₀.trans 35187593314328 ?_ hw₀
  clear h₀ hw₀
  unfold cleanOp
  repeat' first
      | with_reducible exact Frame.refl
      | ((with_reducible refine setRun_frame ?_ ?_); on_goal 2 => rfl)
      | ((with_reducible refine Frame.updItuSoft (f := _) ?_ ?_ ?_); (on_goal 1 => (intro _; unfold Itu.rest; rfl)); on_goal 2 => rfl)
      | with_reducible refine Frame.ite2 ?_ ?_

theorem mapOp_frame {w₀ : Nat} {s₀ : State} {b : Bytes} {roleOk : Bool} {s : State} (h₀ : Frame w₀ s₀ s) (hw₀ : 52777631875096 ||| w₀ = w₀) :
    Frame w₀ s₀ (mapOp b roleOk s).2 := by
  refine h₀.trans 52777631875096 ?_ hw₀
  clear h₀ hw₀
  unfold mapOp
  repeat' first
      | with_reducible assumption
      | with_reducible exact Frame.refl
      | ((first | intro x | (lift_lets -underBinder; intro x)); first
      | (refine Frame.cut (w := 52777631875096) (s := s) (x := x) ?_ fun _ => ?_; (on_goal 1 => try dsimp only [x]); (on_goal 2 => clear_value x))
      | clear_value x)
      | ((with_reducible refine State.ituEvent_frame ?_ ?_); on_goal 2 => rfl)
      | ((with_reducible refine setLeaves_frame ?_ ?_); on_goal 2 => rfl)
      | ((with_reducible refine rootWrite_frame ?_ ?_); on_goal 2 => rfl)
      | dsimp -zeta only
      | with_reducible refine Frame.ite ?_ ?_
      | with_reducible refine Frame.ite2 ?_ ?_

theorem mapAct_frame {w₀ : Nat} {s₀ : State} {a : Act} {arg : Bytes} {s : State} (h₀ : Frame w₀ s₀ s) (hw₀ : 54976655130648 ||| w₀ = w₀) :
    Frame w₀ s₀ (mapAct a arg s) := by
  refine h₀.trans 54976655130648 ?_ hw₀
  clear h₀ hw₀
  unfold mapAct
  repeat' first
      | with_reducible exact Frame.refl
      | ((first | intro x | (lift_lets -underBinder; intro x)); first
      | clear_value x)
      | ((with_reducible refine actDone_frame ?_ ?_); on_goal 2 => rfl)
      | ((with_reducible refine hallDone_frame ?_ ?_); on_goal 2 => rfl)
      | ((with_reducible refine mapOp_frame ?_ ?_); on_goal 2 => rfl)
      | dsimp -zeta only
      | with_reducible refine Frame.ite ?_ ?_

theorem unmapOp_frame {w₀ : Nat} {s₀ : State} {b : Bytes} {roleOk : Bool} {who : Nat × Nat} {s : State} (h₀ : Frame w₀ s₀ s) (hw₀ : 54978836168730 ||| w₀ = w₀) :
    Frame w₀ s₀ (unmapOp b roleOk who s).2 := by
  refine h₀.trans 54978836168730 ?_ hw₀
  clear h₀ hw₀
  unfold unmapOp
  repeat' first
      | with_reducible assumption
      | with_reducible exact Frame.refl
      | ((first | intro x | (lift_lets -underBinder; intro x)); first
      | (refine Frame.cut (w := 54978836168730) (s := s) (x := x) ?_ fun _ => ?_; (on_goal 1 => try dsimp only [x]); (on_goal 2 => clear_value x))
      | clear_value x)
      | ((with_reducible refine actWaits_frame ?_ ?_); on_goal 2 => rfl)
      | ((with_reducible refine setLeaves_frame ?_ ?_); on_goal 2 => rfl)
      | ((with_reducible refine rootWrite_frame ?_ ?_); on_goal 2 => rfl)
      | ((with_reducible refine Frame.updItuSoft (f := _) ?_ ?_ ?_); (on_goal 1 => (intro _; unfold Itu.rest; rfl)); on_goal 2 => rfl)
      | ((with_reducible refine Frame.updItu ?_ ?_); on_goal 2 => rfl)
      | dsimp -zeta only
      | with_reducible refine Frame.ite ?_ ?_
      | with_reducible refine Frame.ite2 ?_ ?_

theorem unmapAct_frame {w₀ : Nat} {s₀ : State} {a : Act} {arg : Bytes} {s : State} (h₀ : Frame w₀ s₀ s) (hw₀ : 54978836168730 ||| w₀ = w₀) :
    Frame w₀ s₀ (unmapAct a arg s) := by
  refine h₀.trans 54978836168730 ?_ hw₀
  clear h₀ hw₀
  unfold unmapAct
  repeat' first
      | with_reducible exact Frame.refl
      | ((with_reducible refine actDone_frame ?_ ?_); on_goal 2 => rfl)
      | ((with_reducible refine unmapOp_frame ?_ ?_); on_goal 2 => rfl)
      | with_reducible refine Frame.ite ?_ ?_

theorem tdiTeardown_frame {w₀ : Nat} {s₀ : State} {hall : Nat} {s : State} (h₀ : Frame w₀ s₀ s) (hw₀ : 1073741824 ||| w₀ = w₀) :
    Frame w₀ s₀ (tdiTeardown hall s) := by
  refine h₀.trans 1073741824 ?_ hw₀
  clear h₀ hw₀
  unfold tdiTeardown
  repeat' first
      | with_reducible exact Frame.refl
      | ((with_reducible refine updHall_frame ?_ ?_); on_goal 2 => rfl)

theorem freezeLost_frame {w₀ : Nat} {s₀ : State} {hall : Nat} {s : State} (h₀ : Frame w₀ s₀ s) (hw₀ : 2200096997376 ||| w₀ = w₀) :
    Frame w₀ s₀ (freezeLost hall s) := by
  refine h₀.trans 2200096997376 ?_ hw₀
  clear h₀ hw₀
  unfold freezeLost
  repeat' first
      | with_reducible exact Frame.refl
      | ((first | intro x | (lift_lets -underBinder; intro x)); first
      | clear_value x)
      | ((with_reducible refine updHall_frame ?_ ?_); on_goal 2 => rfl)
      | ((with_reducible refine hallAnswer_frame ?_ ?_); on_goal 2 => rfl)
      | with_reducible refine Frame.ite ?_ ?_

theorem retireBegin_frame {w₀ : Nat} {s₀ : State} {hall : Nat} {by' : RetireBy} {s : State} (h₀ : Frame w₀ s₀ s) (hw₀ : 55063261749306 ||| w₀ = w₀) :
    Frame w₀ s₀ (retireBegin hall by' s) := by
  refine h₀.trans 55063261749306 ?_ hw₀
  clear h₀ hw₀
  unfold retireBegin
  repeat' first
      | with_reducible assumption
      | with_reducible exact Frame.refl
      | ((first | intro x | (lift_lets -underBinder; intro x)); first
      | (refine Frame.cut (w := 55063261749306) (s := s) (x := x) ?_ fun _ => ?_; (on_goal 1 => try dsimp only [x]); (on_goal 2 => clear_value x)))
      | ((with_reducible refine queueDie_frame ?_ ?_); on_goal 2 => rfl)
      | ((with_reducible refine hallChange_frame ?_ ?_); on_goal 2 => rfl)
      | ((with_reducible refine freezeLost_frame ?_ ?_); on_goal 2 => rfl)
      | with_reducible refine Frame.forAll (fun _ s => ?_) _ ?_

theorem txFree_frame {w₀ : Nat} {s₀ : State} {i : Nat} {st : Status} {s : State} (h₀ : Frame w₀ s₀ s) (hw₀ : 8192 ||| w₀ = w₀) :
    Frame w₀ s₀ (txFree i st s).2 := by
  refine h₀.trans 8192 ?_ hw₀
  clear h₀ hw₀
  unfold txFree
  repeat' first
      | with_reducible exact Frame.refl
      | ((first | intro x | (lift_lets -underBinder; intro x)); first
      | clear_value x)
      | ((with_reducible refine updTx_frame ?_ ?_); on_goal 2 => rfl)

theorem freeStreams_frame {w₀ : Nat} {s₀ : State} {hall : Nat} {s : State} (h₀ : Frame w₀ s₀ s) (hw₀ : 10493952 ||| w₀ = w₀) :
    Frame w₀ s₀ (freeStreams hall s).2 := by
  refine h₀.trans 10493952 ?_ hw₀
  clear h₀ hw₀
  unfold freeStreams
  repeat' first
      | with_reducible assumption
      | with_reducible exact Frame.refl
      | ((first | intro x | (lift_lets -underBinder; intro x)); first
      | (refine Frame.cut (w := 10493952) (s := s) (x := x) ?_ fun _ => ?_; (on_goal 1 => try dsimp only [x]); (on_goal 2 => clear_value x))
      | clear_value x)
      | ((with_reducible refine eachAns_frame (fun _ s => ?_) ?_ ?_); on_goal 3 => rfl)
      | ((with_reducible refine txFree_frame ?_ ?_); on_goal 2 => rfl)
      | ((with_reducible refine Frame.updAuSoft (f := _) ?_ ?_ ?_); (on_goal 1 => (intro _; unfold Au.rest; rfl)); on_goal 2 => rfl)
      | ((with_reducible refine Frame.updLsSoft (f := _) ?_ ?_ ?_); (on_goal 1 => (intro _; unfold Ls.rest; rfl)); on_goal 2 => rfl)
      | ((with_reducible refine Frame.updRdSoft (f := _) ?_ ?_ ?_); (on_goal 1 => (intro _; unfold Rd.rest; rfl)); on_goal 2 => rfl)

theorem freeRegions_frame {w₀ : Nat} {s₀ : State} {hall : Nat} {s : State} (h₀ : Frame w₀ s₀ s) (hw₀ : 2199031808064 ||| w₀ = w₀) :
    Frame w₀ s₀ (freeRegions hall s) := by
  refine h₀.trans 2199031808064 ?_ hw₀
  clear h₀ hw₀
  unfold freeRegions
  repeat' first
      | with_reducible assumption
      | with_reducible exact Frame.refl
      | ((first | intro x | (lift_lets -underBinder; intro x)); first
      | (refine Frame.cut (w := 2199031808064) (s := s) (x := x) ?_ fun _ => ?_; (on_goal 1 => try dsimp only [x]); (on_goal 2 => clear_value x))
      | clear_value x)
      | ((with_reducible refine updRegion_frame ?_ ?_); on_goal 2 => rfl)
      | ((with_reducible refine trFinish_frame ?_ ?_); on_goal 2 => rfl)
      | ((with_reducible refine lnFinish_frame ?_ ?_); on_goal 2 => rfl)
      | ((with_reducible refine dropRegion_frame ?_ ?_); on_goal 2 => rfl)
      | ((with_reducible refine Frame.updTrSoft (f := _) ?_ ?_ ?_); (on_goal 1 => (intro _; unfold Tr.rest; rfl)); on_goal 2 => rfl)
      | with_reducible refine Frame.forAll (fun _ s => ?_) _ ?_
      | with_reducible refine Frame.ite ?_ ?_

theorem retireEnd_frame {w₀ : Nat} {s₀ : State} {hall : Nat} {s : State} (h₀ : Frame w₀ s₀ s) (hw₀ : 35185982701592 ||| w₀ = w₀) :
    Frame w₀ s₀ (retireEnd hall s) := by
  refine h₀.trans 35185982701592 ?_ hw₀
  clear h₀ hw₀
  unfold retireEnd
  repeat' first
      | with_reducible assumption
      | with_reducible exact Frame.refl
      | ((first | intro x | (lift_lets -underBinder; intro x)); first
      | (refine Frame.cut (w := 35185982701592) (s := s) (x := x) ?_ fun _ => ?_; (on_goal 1 => try dsimp only [x]); (on_goal 2 => clear_value x))
      | clear_value x)
      | ((with_reducible refine State.ituEvent_frame ?_ ?_); on_goal 2 => rfl)
      | ((with_reducible refine freeHallSync_frame ?_ ?_); on_goal 2 => rfl)
      | ((with_reducible refine hallChange_frame ?_ ?_); on_goal 2 => rfl)
      | ((with_reducible refine Frame.updItuSoft (f := _) ?_ ?_ ?_); (on_goal 1 => (intro _; unfold Itu.rest; rfl)); on_goal 2 => rfl)

theorem retireStep7_frame {w₀ : Nat} {s₀ : State} {hall : Nat} {s : State} (h₀ : Frame w₀ s₀ s) (hw₀ : 35185982701592 ||| w₀ = w₀) :
    Frame w₀ s₀ (retireStep7 hall s) := by
  refine h₀.trans 35185982701592 ?_ hw₀
  clear h₀ hw₀
  unfold retireStep7
  repeat' first
      | with_reducible exact Frame.refl
      | ((first | intro x | (lift_lets -underBinder; intro x)); first
      | clear_value x)
      | ((with_reducible refine retireEnd_frame ?_ ?_); on_goal 2 => rfl)
      | with_reducible refine Frame.ite ?_ ?_

theorem unmapCompleteOp_frame {w₀ : Nat} {s₀ : State} {serial : Nat} {s : State} (h₀ : Frame w₀ s₀ s) (hw₀ : 41858247950360 ||| w₀ = w₀) :
    Frame w₀ s₀ (unmapCompleteOp serial s) := by
  refine h₀.trans 41858247950360 ?_ hw₀
  clear h₀ hw₀
  unfold unmapCompleteOp
  repeat' first
      | with_reducible assumption
      | with_reducible exact Frame.refl
      | ((first | intro x | (lift_lets -underBinder; intro x)); first
      | (refine Frame.cut (w := 41858247950360) (s := s) (x := x) ?_ fun _ => ?_; (on_goal 1 => try dsimp only [x]); (on_goal 2 => clear_value x)))
      | ((with_reducible refine State.ituCount_frame ?_ ?_); on_goal 2 => rfl)
      | ((with_reducible refine signalFence_frame ?_ ?_); on_goal 2 => rfl)
      | ((with_reducible refine hallAnswer_frame ?_ ?_); on_goal 2 => rfl)
      | ((with_reducible refine retireStep7_frame ?_ ?_); on_goal 2 => rfl)
      | ((with_reducible refine Frame.updItu ?_ ?_); on_goal 2 => rfl)
      | with_reducible refine Frame.ite ?_ ?_
      | split

theorem flushHall_frame {w₀ : Nat} {s₀ : State} {hall : Nat} {s : State} (h₀ : Frame w₀ s₀ s) (hw₀ : 35275782922328 ||| w₀ = w₀) :
    Frame w₀ s₀ (flushHall hall s).2 := by
  refine h₀.trans 35275782922328 ?_ hw₀
  clear h₀ hw₀
  unfold flushHall
  repeat' first
      | with_reducible exact Frame.refl
      | ((first | intro x | (lift_lets -underBinder; intro x)); first
      | clear_value x)
      | ((with_reducible refine eachAns_frame (fun _ s => ?_) ?_ ?_); on_goal 3 => rfl)
      | ((with_reducible refine combClean_frame ?_ ?_); on_goal 2 => rfl)

theorem retireDrainOp_frame {w₀ : Nat} {s₀ : State} {hall : Nat} {s : State} (h₀ : Frame w₀ s₀ s) (hw₀ : 37475378700504 ||| w₀ = w₀) :
    Frame w₀ s₀ (retireDrainOp hall s).2 := by
  refine h₀.trans 37475378700504 ?_ hw₀
  clear h₀ hw₀
  unfold retireDrainOp
  repeat' first
      | with_reducible assumption
      | with_reducible exact Frame.refl
      | ((first | intro x | (lift_lets -underBinder; intro x)); first
      | (refine Frame.cut (w := 37475378700504) (s := s) (x := x) ?_ fun _ => ?_; (on_goal 1 => try dsimp only [x]); (on_goal 2 => clear_value x))
      | clear_value x)
      | ((with_reducible refine retireMatchOp_frame ?_ ?_); on_goal 2 => rfl)
      | ((with_reducible refine updHall_frame ?_ ?_); on_goal 2 => rfl)
      | ((with_reducible refine serviceSend_frame ?_ ?_); on_goal 2 => rfl)
      | ((with_reducible refine hallChange_frame ?_ ?_); on_goal 2 => rfl)
      | ((with_reducible refine freeStreams_frame ?_ ?_); on_goal 2 => rfl)
      | ((with_reducible refine freeRegions_frame ?_ ?_); on_goal 2 => rfl)
      | ((with_reducible refine retireStep7_frame ?_ ?_); on_goal 2 => rfl)
      | ((with_reducible refine flushHall_frame ?_ ?_); on_goal 2 => rfl)
      | dsimp -zeta only
      | with_reducible refine Frame.ite ?_ ?_
      | with_reducible refine Frame.ite2 ?_ ?_

theorem destroyAwaiting_frame {w₀ : Nat} {s₀ : State} {hall : Nat} {s : State} (h₀ : Frame w₀ s₀ s) (hw₀ : 37458064613592 ||| w₀ = w₀) :
    Frame w₀ s₀ (destroyAwaiting hall s).2 := by
  refine h₀.trans 37458064613592 ?_ hw₀
  clear h₀ hw₀
  unfold destroyAwaiting
  repeat' first
      | with_reducible exact Frame.refl
      | ((with_reducible refine retireMatchOp_frame ?_ ?_); on_goal 2 => rfl)
      | ((with_reducible refine updHall_frame ?_ ?_); on_goal 2 => rfl)
      | ((with_reducible refine freeStreams_frame ?_ ?_); on_goal 2 => rfl)
      | ((with_reducible refine freeRegions_frame ?_ ?_); on_goal 2 => rfl)
      | ((with_reducible refine retireEnd_frame ?_ ?_); on_goal 2 => rfl)

theorem hallDestroyOp_frame {w₀ : Nat} {s₀ : State} {hall : Nat} {roleOk : Bool} {who : Nat × Nat} {s : State} (h₀ : Frame w₀ s₀ s) (hw₀ : 55067565269242 ||| w₀ = w₀) :
    Frame w₀ s₀ (hallDestroyOp hall roleOk who s).2 := by
  refine h₀.trans 55067565269242 ?_ hw₀
  clear h₀ hw₀
  unfold hallDestroyOp
  repeat' first
      | with_reducible exact Frame.refl
      | ((first | intro x | (lift_lets -underBinder; intro x)); first
      | (refine Frame.cutFnR (w := 55067565269242) (f := x) ?_ fun _ => ?_; (on_goal 1 => rintro ⟨_, s⟩; try dsimp only [x]); (on_goal 2 => clear_value x))
      | clear_value x)
      | ((with_reducible refine updHall_frame ?_ ?_); on_goal 2 => rfl)
      | ((with_reducible refine ituFinish_frame ?_ ?_); on_goal 2 => rfl)
      | ((with_reducible refine hallAnswer_frame ?_ ?_); on_goal 2 => rfl)
      | ((with_reducible refine hallWaits_frame ?_ ?_); on_goal 2 => rfl)
      | ((with_reducible refine tdiTeardown_frame ?_ ?_); on_goal 2 => rfl)
      | ((with_reducible refine retireBegin_frame ?_ ?_); on_goal 2 => rfl)
      | ((with_reducible refine destroyAwaiting_frame ?_ ?_); on_goal 2 => rfl)
      | with_reducible refine Frame.appR ‹_› ?_
      | with_reducible refine Frame.ite ?_ ?_
      | with_reducible refine Frame.ite2 ?_ ?_
      | split

theorem hallDestroyAct_frame {w₀ : Nat} {s₀ : State} {a : Act} {arg : Bytes} {s : State} (h₀ : Frame w₀ s₀ s) (hw₀ : 55067565269242 ||| w₀ = w₀) :
    Frame w₀ s₀ (hallDestroyAct a arg s).2 := by
  refine h₀.trans 55067565269242 ?_ hw₀
  clear h₀ hw₀
  unfold hallDestroyAct
  repeat' first
      | with_reducible exact Frame.refl
      | ((with_reducible refine hallDestroyOp_frame ?_ ?_); on_goal 2 => rfl)

theorem scrubDoneOp_frame {w₀ : Nat} {s₀ : State} {hall : Nat} {who : Nat × Nat} {s : State} (h₀ : Frame w₀ s₀ s) (hw₀ : 37386616574552 ||| w₀ = w₀) :
    Frame w₀ s₀ (scrubDoneOp hall who s) := by
  refine h₀.trans 37386616574552 ?_ hw₀
  clear h₀ hw₀
  unfold scrubDoneOp
  repeat' first
      | with_reducible assumption
      | with_reducible exact Frame.refl
      | ((first | intro x | (lift_lets -underBinder; intro x)); first
      | (refine Frame.cut (w := 37386616574552) (s := s) (x := x) ?_ fun _ => ?_; (on_goal 1 => try dsimp only [x]); (on_goal 2 => clear_value x))
      | clear_value x)
      | ((with_reducible refine recountConsent_frame ?_ ?_); on_goal 2 => rfl)
      | ((with_reducible refine setGranules_frame ?_ ?_); on_goal 2 => rfl)
      | ((with_reducible refine dropEpoch_frame ?_ ?_); on_goal 2 => rfl)
      | ((with_reducible refine hallKeys_frame ?_ ?_); on_goal 2 => rfl)
      | ((with_reducible refine hallAnswer_frame ?_ ?_); on_goal 2 => rfl)
      | ((with_reducible refine hallChange_frame ?_ ?_); on_goal 2 => rfl)
      | ((with_reducible refine hallDone_frame ?_ ?_); on_goal 2 => rfl)
      | ((with_reducible refine hallEnds_frame ?_ ?_); on_goal 2 => rfl)
      | ((with_reducible refine Frame.updItuSoft (f := _) ?_ ?_ ?_); (on_goal 1 => (intro _; unfold Itu.rest; rfl)); on_goal 2 => rfl)
      | ((with_reducible refine Frame.updLc (f := _) ?_ ?_ ?_); (on_goal 1 => (intro _; rfl)); on_goal 2 => rfl)
      | with_reducible refine Frame.ite ?_ ?_

theorem tdiError_frame {w₀ : Nat} {s₀ : State} {hall : Nat} {s : State} (h₀ : Frame w₀ s₀ s) (hw₀ : 55063261749306 ||| w₀ = w₀) :
    Frame w₀ s₀ (tdiError hall s) := by
  refine h₀.trans 55063261749306 ?_ hw₀
  clear h₀ hw₀
  unfold tdiError
  repeat' first
      | with_reducible assumption
      | with_reducible exact Frame.refl
      | ((first | intro x | (lift_lets -underBinder; intro x)); first
      | (refine Frame.cut (w := 55063261749306) (s := s) (x := x) ?_ fun _ => ?_; (on_goal 1 => try dsimp only [x]); (on_goal 2 => clear_value x))
      | clear_value x)
      | ((with_reducible refine updHall_frame ?_ ?_); on_goal 2 => rfl)
      | ((with_reducible refine retireBegin_frame ?_ ?_); on_goal 2 => rfl)
      | with_reducible refine Frame.ite ?_ ?_

theorem resetPage_frame {w₀ : Nat} {s₀ : State} {hall : Nat} {s : State} (h₀ : Frame w₀ s₀ s) (hw₀ : 1610612736 ||| w₀ = w₀) :
    Frame w₀ s₀ (resetPage hall s) := by
  refine h₀.trans 1610612736 ?_ hw₀
  clear h₀ hw₀
  unfold resetPage
  repeat' first
      | with_reducible assumption
      | with_reducible exact Frame.refl
      | ((first | intro x | (lift_lets -underBinder; intro x)); first
      | (refine Frame.cut (w := 1610612736) (s := s) (x := x) ?_ fun _ => ?_; (on_goal 1 => try dsimp only [x]); (on_goal 2 => clear_value x)))
      | ((with_reducible refine updHall_frame ?_ ?_); on_goal 2 => rfl)
      | ((with_reducible refine Frame.updFs ?_ ?_); on_goal 2 => rfl)

theorem flrOp_frame {w₀ : Nat} {s₀ : State} {func : Nat} {s : State} (h₀ : Frame w₀ s₀ s) (hw₀ : 55063261749310 ||| w₀ = w₀) :
    Frame w₀ s₀ (flrOp func s) := by
  refine h₀.trans 55063261749310 ?_ hw₀
  clear h₀ hw₀
  unfold flrOp
  repeat' first
      | with_reducible assumption
      | with_reducible exact Frame.refl
      | ((first | intro x | (lift_lets -underBinder; intro x)); first
      | (refine Frame.cut (w := 55063261749310) (s := s) (x := x) ?_ fun _ => ?_; (on_goal 1 => try dsimp only [x]); (on_goal 2 => clear_value x))
      | clear_value x)
      | ((with_reducible refine queueDie_frame ?_ ?_); on_goal 2 => rfl)
      | ((with_reducible refine tdiError_frame ?_ ?_); on_goal 2 => rfl)
      | ((with_reducible refine resetPage_frame ?_ ?_); on_goal 2 => rfl)
      | ((with_reducible refine Frame.updFs ?_ ?_); on_goal 2 => rfl)
      | ((with_reducible refine Frame.updPins ?_ ?_); on_goal 2 => rfl)
      | with_reducible refine Frame.forAll (fun _ s => ?_) _ ?_
      | with_reducible refine Frame.ite ?_ ?_

theorem flrDoneOp_frame {w₀ : Nat} {s₀ : State} {func : Nat} {s : State} (h₀ : Frame w₀ s₀ s) (hw₀ : 35184372088838 ||| w₀ = w₀) :
    Frame w₀ s₀ (flrDoneOp func s) := by
  refine h₀.trans 35184372088838 ?_ hw₀
  clear h₀ hw₀
  unfold flrDoneOp
  repeat' first
      | with_reducible exact Frame.refl
      | ((with_reducible refine Frame.emit ?_ ?_); on_goal 2 => rfl)
      | ((with_reducible refine Frame.updPins ?_ ?_); on_goal 2 => rfl)
      | with_reducible refine Frame.ite ?_ ?_

end Sys2Proof.Machine
end

