-- ==== Sys2Proof/Laws/FrMigrate.lean ====
section
/-! SUPPORT. What each operation of Machine/Migrate.lean may change (see Frame.lean). -/

namespace Sys2Proof.Machine

-- One declaration at a time, so that the elaborator holds few threads (each takes stack of its own).
set_option Elab.async false

theorem hallFreezeOp_frame {w₀ : Nat} {s₀ : State} {hall : Nat} {roleOk : Bool} {who : Nat × Nat} {s : State} (h₀ : Frame w₀ s₀ s) (hw₀ : 37474806177880 ||| w₀ = w₀) :
    Frame w₀ s₀ (hallFreezeOp hall roleOk who s).2 := by
  refine h₀.trans 37474806177880 ?_ hw₀
  clear h₀ hw₀
  unfold hallFreezeOp
  repeat' first
      | with_reducible exact Frame.refl
      | ((with_reducible refine updHall_frame ?_ ?_); on_goal 2 => rfl)
      | ((with_reducible refine hallAnswer_frame ?_ ?_); on_goal 2 => rfl)
      | ((with_reducible refine hallWaits_frame ?_ ?_); on_goal 2 => rfl)
      | ((with_reducible refine flushHall_frame ?_ ?_); on_goal 2 => rfl)
      | with_reducible refine Frame.ite2 ?_ ?_

theorem freezeCompleteOp_frame {w₀ : Nat} {s₀ : State} {hall : Nat} {s : State} (h₀ : Frame w₀ s₀ s) (hw₀ : 37384469086232 ||| w₀ = w₀) :
    Frame w₀ s₀ (freezeCompleteOp hall s) := by
  refine h₀.trans 37384469086232 ?_ hw₀
  clear h₀ hw₀
  unfold freezeCompleteOp
  repeat' first
      | with_reducible exact Frame.refl
      | ((with_reducible refine hallChange_frame ?_ ?_); on_goal 2 => rfl)
      | ((with_reducible refine hallEnds_frame ?_ ?_); on_goal 2 => rfl)
      | with_reducible refine Frame.ite ?_ ?_

theorem hallSaveOp_frame {w₀ : Nat} {s₀ : State} {b : Bytes} {pages : List Bytes} {roleOk : Bool} {who : Nat × Nat} {s : State} (h₀ : Frame w₀ s₀ s) (hw₀ : 50651790870744 ||| w₀ = w₀) :
    Frame w₀ s₀ (hallSaveOp b pages roleOk who s) := by
  refine h₀.trans 50651790870744 ?_ hw₀
  clear h₀ hw₀
  unfold hallSaveOp
  repeat' first
      | with_reducible assumption
      | with_reducible exact Frame.refl
      | ((first | intro x | (lift_lets -underBinder; intro x)); first
      | (refine Frame.cut (w := 50651790870744) (s := s) (x := x) ?_ fun _ => ?_; (on_goal 1 => try dsimp only [x]); (on_goal 2 => clear_value x))
      | clear_value x)
      | ((with_reducible refine retireMatchOp_frame ?_ ?_); on_goal 2 => rfl)
      | ((with_reducible refine hostWrite_frame ?_ ?_); on_goal 2 => rfl)
      | ((with_reducible refine hallAnswer_frame ?_ ?_); on_goal 2 => rfl)
      | ((with_reducible refine hallChange_frame ?_ ?_); on_goal 2 => rfl)
      | ((with_reducible refine hallDone_frame ?_ ?_); on_goal 2 => rfl)
      | ((with_reducible refine Frame.drew ?_ ?_); on_goal 2 => rfl)
      | with_reducible refine Frame.forAll (fun _ s => ?_) _ ?_
      | dsimp -zeta only
      | with_reducible refine Frame.ite ?_ ?_
      | split

theorem restoreQueue_frame {w₀ : Nat} {s₀ : State} {c : Bytes} {s : State} (h₀ : Frame w₀ s₀ s) (hw₀ : 100663296 ||| w₀ = w₀) :
    Frame w₀ s₀ (restoreQueue c s) := by
  refine h₀.trans 100663296 ?_ hw₀
  clear h₀ hw₀
  unfold restoreQueue
  repeat' first
      | with_reducible exact Frame.refl
      | ((first | intro x | (lift_lets -underBinder; intro x)); first
      | clear_value x)
      | ((with_reducible refine updQueue_frame ?_ ?_); on_goal 2 => rfl)
      | ((with_reducible refine Frame.updFe ?_ ?_); on_goal 2 => rfl)

theorem restoreFence_frame {w₀ : Nat} {s₀ : State} {c : Bytes} {s : State} (h₀ : Frame w₀ s₀ s) (hw₀ : 41781978726400 ||| w₀ = w₀) :
    Frame w₀ s₀ (restoreFence c s) := by
  refine h₀.trans 41781978726400 ?_ hw₀
  clear h₀ hw₀
  unfold restoreFence
  repeat' first
      | with_reducible exact Frame.refl
      | ((first | intro x | (lift_lets -underBinder; intro x)); first
      | clear_value x)
      | ((with_reducible refine updFence_frame ?_ ?_); on_goal 2 => rfl)

theorem restoreSem_frame {w₀ : Nat} {s₀ : State} {hall : Nat} {c : Bytes} {s : State} (h₀ : Frame w₀ s₀ s) (hw₀ : 536870912 ||| w₀ = w₀) :
    Frame w₀ s₀ (restoreSem hall c s) := by
  refine h₀.trans 536870912 ?_ hw₀
  clear h₀ hw₀
  unfold restoreSem
  repeat' first
      | with_reducible exact Frame.refl
      | ((with_reducible refine updSem_frame ?_ ?_); on_goal 2 => rfl)

theorem restoreRoot_frame {w₀ : Nat} {s₀ : State} {c : Bytes} {s : State} (h₀ : Frame w₀ s₀ s) (hw₀ : 163840 ||| w₀ = w₀) :
    Frame w₀ s₀ (restoreRoot c s) := by
  refine h₀.trans 163840 ?_ hw₀
  clear h₀ hw₀
  unfold restoreRoot
  repeat' first
      | with_reducible exact Frame.refl
      | ((first | intro x | (lift_lets -underBinder; intro x)); first
      | clear_value x)
      | ((with_reducible refine updRegion_frame ?_ ?_); on_goal 2 => rfl)
      | ((with_reducible refine updTree_frame ?_ ?_); on_goal 2 => rfl)

theorem restorePage_frame {w₀ : Nat} {s₀ : State} {hall : Nat} {leaves : Tab (BitVec 128)} {c : Bytes} {s : State} (h₀ : Frame w₀ s₀ s) (hw₀ : 35184372088856 ||| w₀ = w₀) :
    Frame w₀ s₀ (restorePage hall leaves c s) := by
  refine h₀.trans 35184372088856 ?_ hw₀
  clear h₀ hw₀
  unfold restorePage
  repeat' first
      | with_reducible exact Frame.refl
      | ((first | intro x | (lift_lets -underBinder; intro x)); first
      | clear_value x)
      | ((with_reducible refine mpWrite_frame ?_ ?_); on_goal 2 => rfl)
      | with_reducible refine Frame.forAll (fun _ s => ?_) _ ?_
      | with_reducible refine Frame.ite ?_ ?_
      | split

theorem hallRestoreOp_frame {w₀ : Nat} {s₀ : State} {hall : Nat} {image : Bytes} {roleOk : Bool} {who : Nat × Nat} {s : State} (h₀ : Frame w₀ s₀ s) (hw₀ : 59375339339800 ||| w₀ = w₀) :
    Frame w₀ s₀ (hallRestoreOp hall image roleOk who s) := by
  refine h₀.trans 59375339339800 ?_ hw₀
  clear h₀ hw₀
  unfold hallRestoreOp
  repeat' first
      | with_reducible assumption
      | with_reducible exact Frame.refl
      | with_reducible exact Frame.appC ‹_› _
      | ((first | intro x | (lift_lets -underBinder; intro x)); first
      | (refine Frame.cut (w := 59375339339800) (s := s) (x := x) ?_ fun _ => ?_; (on_goal 1 => try dsimp only [x]); (on_goal 2 => clear_value x))
      | (refine Frame.cutC (w := 59375339339800) (s := s) (f := x) (fun _ => ?_) fun _ => ?_; (on_goal 1 => try dsimp only [x]); (on_goal 2 => clear_value x))
      | clear_value x)
      | ((with_reducible refine setLeaves_frame ?_ ?_); on_goal 2 => rfl)
      | ((with_reducible refine hallAnswer_frame ?_ ?_); on_goal 2 => rfl)
      | ((with_reducible refine hallChange_frame ?_ ?_); on_goal 2 => rfl)
      | ((with_reducible refine hallDone_frame ?_ ?_); on_goal 2 => rfl)
      | ((with_reducible refine restoreQueue_frame ?_ ?_); on_goal 2 => rfl)
      | ((with_reducible refine restoreFence_frame ?_ ?_); on_goal 2 => rfl)
      | ((with_reducible refine restoreSem_frame ?_ ?_); on_goal 2 => rfl)
      | ((with_reducible refine restoreRoot_frame ?_ ?_); on_goal 2 => rfl)
      | ((with_reducible refine restorePage_frame ?_ ?_); on_goal 2 => rfl)
      | with_reducible refine Frame.forAll (fun _ s => ?_) _ ?_
      | with_reducible refine Frame.ite ?_ ?_
      | split

theorem hallThawOp_frame {w₀ : Nat} {s₀ : State} {hall : Nat} {roleOk : Bool} {who : Nat × Nat} {s : State} (h₀ : Frame w₀ s₀ s) (hw₀ : 37384469090392 ||| w₀ = w₀) :
    Frame w₀ s₀ (hallThawOp hall roleOk who s) := by
  refine h₀.trans 37384469090392 ?_ hw₀
  clear h₀ hw₀
  unfold hallThawOp
  repeat' first
      | with_reducible exact Frame.refl
      | ((first | intro x | (lift_lets -underBinder; intro x)); first
      | clear_value x)
      | ((with_reducible refine hallKeys_frame ?_ ?_); on_goal 2 => rfl)
      | ((with_reducible refine hallAnswer_frame ?_ ?_); on_goal 2 => rfl)
      | ((with_reducible refine hallChange_frame ?_ ?_); on_goal 2 => rfl)
      | ((with_reducible refine hallDone_frame ?_ ?_); on_goal 2 => rfl)
      | with_reducible refine Frame.ite ?_ ?_

theorem migrateDoneOp_frame {w₀ : Nat} {s₀ : State} {hall : Nat} {roleOk : Bool} {who : Nat × Nat} {s : State} (h₀ : Frame w₀ s₀ s) (hw₀ : 55063261749306 ||| w₀ = w₀) :
    Frame w₀ s₀ (migrateDoneOp hall roleOk who s) := by
  refine h₀.trans 55063261749306 ?_ hw₀
  clear h₀ hw₀
  unfold migrateDoneOp
  repeat' first
      | with_reducible assumption
      | with_reducible exact Frame.refl
      | ((first | intro x | (lift_lets -underBinder; intro x)); first
      | (refine Frame.cut (w := 55063261749306) (s := s) (x := x) ?_ fun _ => ?_; (on_goal 1 => try dsimp only [x]); (on_goal 2 => clear_value x))
      | clear_value x)
      | ((with_reducible refine ituFinish_frame ?_ ?_); on_goal 2 => rfl)
      | ((with_reducible refine hallAnswer_frame ?_ ?_); on_goal 2 => rfl)
      | ((with_reducible refine hallWaits_frame ?_ ?_); on_goal 2 => rfl)
      | ((with_reducible refine retireBegin_frame ?_ ?_); on_goal 2 => rfl)
      | with_reducible refine Frame.ite ?_ ?_

theorem hallFreezeAct_frame {w₀ : Nat} {s₀ : State} {a : Act} {arg : Bytes} {s : State} (h₀ : Frame w₀ s₀ s) (hw₀ : 37474806177880 ||| w₀ = w₀) :
    Frame w₀ s₀ (hallFreezeAct a arg s).2 := by
  refine h₀.trans 37474806177880 ?_ hw₀
  clear h₀ hw₀
  unfold hallFreezeAct
  repeat' first
      | with_reducible exact Frame.refl
      | ((with_reducible refine hallFreezeOp_frame ?_ ?_); on_goal 2 => rfl)

theorem hallSaveAct_frame {w₀ : Nat} {s₀ : State} {a : Act} {arg : Bytes} {pages : List Bytes} {s : State} (h₀ : Frame w₀ s₀ s) (hw₀ : 50651790870744 ||| w₀ = w₀) :
    Frame w₀ s₀ (hallSaveAct a arg pages s) := by
  refine h₀.trans 50651790870744 ?_ hw₀
  clear h₀ hw₀
  unfold hallSaveAct
  repeat' first
      | with_reducible exact Frame.refl
      | ((with_reducible refine hallSaveOp_frame ?_ ?_); on_goal 2 => rfl)

theorem hallRestoreAct_frame {w₀ : Nat} {s₀ : State} {a : Act} {arg : Bytes} {image : Bytes} {s : State} (h₀ : Frame w₀ s₀ s) (hw₀ : 59375339339800 ||| w₀ = w₀) :
    Frame w₀ s₀ (hallRestoreAct a arg image s) := by
  refine h₀.trans 59375339339800 ?_ hw₀
  clear h₀ hw₀
  unfold hallRestoreAct
  repeat' first
      | with_reducible exact Frame.refl
      | ((with_reducible refine hallRestoreOp_frame ?_ ?_); on_goal 2 => rfl)

theorem hallThawAct_frame {w₀ : Nat} {s₀ : State} {a : Act} {arg : Bytes} {s : State} (h₀ : Frame w₀ s₀ s) (hw₀ : 37384469090392 ||| w₀ = w₀) :
    Frame w₀ s₀ (hallThawAct a arg s) := by
  refine h₀.trans 37384469090392 ?_ hw₀
  clear h₀ hw₀
  unfold hallThawAct
  repeat' first
      | with_reducible exact Frame.refl
      | ((with_reducible refine hallThawOp_frame ?_ ?_); on_goal 2 => rfl)

theorem migrateDoneAct_frame {w₀ : Nat} {s₀ : State} {a : Act} {arg : Bytes} {s : State} (h₀ : Frame w₀ s₀ s) (hw₀ : 55063261749306 ||| w₀ = w₀) :
    Frame w₀ s₀ (migrateDoneAct a arg s) := by
  refine h₀.trans 55063261749306 ?_ hw₀
  clear h₀ hw₀
  unfold migrateDoneAct
  repeat' first
      | with_reducible exact Frame.refl
      | ((with_reducible refine migrateDoneOp_frame ?_ ?_); on_goal 2 => rfl)

theorem ituEnd_frame {w₀ : Nat} {s₀ : State} {op : Nat} {r : Status × State} (h₀ : Frame w₀ s₀ r.2) (hw₀ : 1073741824 ||| w₀ = w₀) :
    Frame w₀ s₀ (ituEnd op r) := by
  refine h₀.trans 1073741824 ?_ hw₀
  clear h₀ hw₀
  rcases r with ⟨_, s⟩
  show Frame 1073741824 s _
  unfold ituEnd
  repeat' first
      | with_reducible exact Frame.refl
      | ((with_reducible refine ituFinish_frame ?_ ?_); on_goal 2 => rfl)

theorem ituCommand_frame {w₀ : Nat} {s₀ : State} {op : Nat} {hall : Nat} {pages : List Bytes} {image : Bytes} {s : State} (h₀ : Frame w₀ s₀ s) (hw₀ : 68263919401722 ||| w₀ = w₀) :
    Frame w₀ s₀ (ituCommand op hall pages image s).2 := by
  refine h₀.trans 68263919401722 ?_ hw₀
  clear h₀ hw₀
  unfold ituCommand
  repeat' first
      | with_reducible assumption
      | with_reducible exact Frame.refl
      | ((first | intro x | (lift_lets -underBinder; intro x)); first
      | (refine Frame.cut (w := 68263919401722) (s := s) (x := x) ?_ fun _ => ?_; (on_goal 1 => try dsimp only [x]); (on_goal 2 => clear_value x))
      | clear_value x)
      | ((with_reducible refine ituFinish_frame ?_ ?_); on_goal 2 => rfl)
      | ((with_reducible refine hallDone_frame ?_ ?_); on_goal 2 => rfl)
      | ((with_reducible refine hallCreateOp_frame ?_ ?_); on_goal 2 => rfl)
      | ((with_reducible refine hallGrantOp_frame ?_ ?_); on_goal 2 => rfl)
      | ((with_reducible refine hallUngrantOp_frame ?_ ?_); on_goal 2 => rfl)
      | ((with_reducible refine cleanOp_frame ?_ ?_); on_goal 2 => rfl)
      | ((with_reducible refine mapOp_frame ?_ ?_); on_goal 2 => rfl)
      | ((with_reducible refine unmapOp_frame ?_ ?_); on_goal 2 => rfl)
      | ((with_reducible refine hallDestroyOp_frame ?_ ?_); on_goal 2 => rfl)
      | ((with_reducible refine scrubDoneOp_frame ?_ ?_); on_goal 2 => rfl)
      | ((with_reducible refine hallFreezeOp_frame ?_ ?_); on_goal 2 => rfl)
      | ((with_reducible refine hallSaveOp_frame ?_ ?_); on_goal 2 => rfl)
      | ((with_reducible refine hallRestoreOp_frame ?_ ?_); on_goal 2 => rfl)
      | ((with_reducible refine hallThawOp_frame ?_ ?_); on_goal 2 => rfl)
      | ((with_reducible refine migrateDoneOp_frame ?_ ?_); on_goal 2 => rfl)
      | ((with_reducible refine ituEnd_frame ?_ ?_); on_goal 2 => rfl)
      | ((with_reducible refine Frame.updItu ?_ ?_); on_goal 2 => rfl)
      | dsimp -zeta only
      | with_reducible refine Frame.ite ?_ ?_
      | with_reducible refine Frame.ite2 ?_ ?_
      | split

theorem ituGoesOn_frame {w₀ : Nat} {s₀ : State} {op : Nat} {s : State} (h₀ : Frame w₀ s₀ s) (hw₀ : 1073741824 ||| w₀ = w₀) :
    Frame w₀ s₀ (ituGoesOn op s) := by
  refine h₀.trans 1073741824 ?_ hw₀
  clear h₀ hw₀
  unfold ituGoesOn
  repeat' first
      | with_reducible exact Frame.refl
      | ((with_reducible refine Frame.updItuSoft (f := _) ?_ ?_ ?_); (on_goal 1 => (intro _; unfold Itu.rest; rfl)); on_goal 2 => rfl)
      | with_reducible refine Frame.ite ?_ ?_

end Sys2Proof.Machine
end

