-- ==== Sys2Proof/Laws/FrDomain.lean ====
section
/-! SUPPORT. What each operation of Machine/Domain.lean may change (see Frame.lean). -/

namespace Sys2Proof.Machine

-- One declaration at a time, so that the elaborator holds few threads (each takes stack of its own).
set_option Elab.async false

theorem manifestChunkOp_frame {w₀ : Nat} {s₀ : State} {sess : Nat} {arg : Bytes} {s : State} (h₀ : Frame w₀ s₀ s) (hw₀ : 4096 ||| w₀ = w₀) :
    Frame w₀ s₀ (manifestChunkOp sess arg s).2 := by
  refine h₀.trans 4096 ?_ hw₀
  clear h₀ hw₀
  unfold manifestChunkOp
  repeat' first
      | with_reducible assumption
      | with_reducible exact Frame.refl
      | ((first | intro x | (lift_lets -underBinder; intro x)); first
      | (refine Frame.cut (w := 4096) (s := s) (x := x) ?_ fun _ => ?_; (on_goal 1 => try dsimp only [x]); (on_goal 2 => clear_value x))
      | clear_value x)
      | ((with_reducible refine Frame.updDom ?_ ?_); on_goal 2 => rfl)
      | with_reducible refine Frame.ite ?_ ?_
      | with_reducible refine Frame.ite2 ?_ ?_
      | split

theorem manifestChunkAct_frame {w₀ : Nat} {s₀ : State} {a : Act} {arg : Bytes} {s : State} (h₀ : Frame w₀ s₀ s) (hw₀ : 2199023259648 ||| w₀ = w₀) :
    Frame w₀ s₀ (manifestChunkAct a arg s) := by
  refine h₀.trans 2199023259648 ?_ hw₀
  clear h₀ hw₀
  unfold manifestChunkAct
  repeat' first
      | with_reducible exact Frame.refl
      | ((with_reducible refine runAct_frame (fun s => ?_) ?_ ?_); on_goal 3 => rfl)
      | ((with_reducible refine manifestChunkOp_frame ?_ ?_); on_goal 2 => rfl)

theorem planReplace_frame {w₀ : Nat} {s₀ : State} {b : Bytes} {s : State} (h₀ : Frame w₀ s₀ s) (hw₀ : 70368744183872 ||| w₀ = w₀) :
    Frame w₀ s₀ (planReplace b s) := by
  refine h₀.trans 70368744183872 ?_ hw₀
  clear h₀ hw₀
  unfold planReplace
  repeat' first
      | with_reducible assumption
      | with_reducible exact Frame.refl
      | ((first | intro x | (lift_lets -underBinder; intro x)); first
      | (refine Frame.cut (w := 70368744183872) (s := s) (x := x) ?_ fun _ => ?_; (on_goal 1 => try dsimp only [x]); (on_goal 2 => clear_value x))
      | clear_value x)
      | ((with_reducible refine retireHandle_frame ?_ ?_); on_goal 2 => rfl)
      | ((with_reducible refine measPut_frame ?_ ?_); on_goal 2 => rfl)
      | ((with_reducible refine derivePlan_frame ?_ ?_); on_goal 2 => rfl)
      | ((with_reducible refine Frame.updDom ?_ ?_); on_goal 2 => rfl)
      | with_reducible refine Frame.forAll (fun _ s => ?_) _ ?_
      | with_reducible refine Frame.ite ?_ ?_

theorem planChunkOp_frame {w₀ : Nat} {s₀ : State} {sess : Nat} {arg : Bytes} {s : State} (h₀ : Frame w₀ s₀ s) (hw₀ : 70368744183872 ||| w₀ = w₀) :
    Frame w₀ s₀ (planChunkOp sess arg s).2 := by
  refine h₀.trans 70368744183872 ?_ hw₀
  clear h₀ hw₀
  unfold planChunkOp
  repeat' first
      | with_reducible assumption
      | with_reducible exact Frame.refl
      | ((first | intro x | (lift_lets -underBinder; intro x)); first
      | (refine Frame.cut (w := 70368744183872) (s := s) (x := x) ?_ fun _ => ?_; (on_goal 1 => try dsimp only [x]); (on_goal 2 => clear_value x))
      | clear_value x)
      | ((with_reducible refine planReplace_frame ?_ ?_); on_goal 2 => rfl)
      | ((with_reducible refine Frame.updDom ?_ ?_); on_goal 2 => rfl)
      | with_reducible refine Frame.ite2 ?_ ?_
      | split

theorem planChunkAct_frame {w₀ : Nat} {s₀ : State} {a : Act} {arg : Bytes} {s : State} (h₀ : Frame w₀ s₀ s) (hw₀ : 72567767439424 ||| w₀ = w₀) :
    Frame w₀ s₀ (planChunkAct a arg s) := by
  refine h₀.trans 72567767439424 ?_ hw₀
  clear h₀ hw₀
  unfold planChunkAct
  repeat' first
      | with_reducible exact Frame.refl
      | ((with_reducible refine runAct_frame (fun s => ?_) ?_ ?_); on_goal 3 => rfl)
      | ((with_reducible refine planChunkOp_frame ?_ ?_); on_goal 2 => rfl)

theorem spdmImported_frame {w₀ : Nat} {s₀ : State} {sid : Nat} {h : Handle} {s : State} (h₀ : Frame w₀ s₀ s) (hw₀ : 70368744179712 ||| w₀ = w₀) :
    Frame w₀ s₀ (spdmImported sid h s) := by
  refine h₀.trans 70368744179712 ?_ hw₀
  clear h₀ hw₀
  unfold spdmImported
  repeat' first
      | with_reducible exact Frame.refl
      | ((with_reducible refine updConn_frame ?_ ?_); on_goal 2 => rfl)

theorem domainRootOp_frame {w₀ : Nat} {s₀ : State} {sess : Nat} {arg : Bytes} {s : State} (h₀ : Frame w₀ s₀ s) (hw₀ : 70368744184256 ||| w₀ = w₀) :
    Frame w₀ s₀ (domainRootOp sess arg s).2 := by
  refine h₀.trans 70368744184256 ?_ hw₀
  clear h₀ hw₀
  unfold domainRootOp
  repeat' first
      | with_reducible assumption
      | with_reducible exact Frame.refl
      | ((first | intro x | (lift_lets -underBinder; intro x)); first
      | (refine Frame.cut (w := 70368744184256) (s := s) (x := x) ?_ fun _ => ?_; (on_goal 1 => try dsimp only [x]); (on_goal 2 => clear_value x))
      | (refine Frame.cutFnP (w := 70368744184256) (f := x) ?_ fun _ => ?_; (on_goal 1 => intro _ s; try dsimp only [x]); (on_goal 2 => clear_value x))
      | clear_value x)
      | ((with_reducible refine retireHandle_frame ?_ ?_); on_goal 2 => rfl)
      | ((with_reducible refine unwrapInto_frame ?_ ?_); on_goal 2 => rfl)
      | ((with_reducible refine writeKeyRegion_frame ?_ ?_); on_goal 2 => rfl)
      | ((with_reducible refine importInto_frame ?_ ?_); on_goal 2 => rfl)
      | ((with_reducible refine spdmImported_frame ?_ ?_); on_goal 2 => rfl)
      | ((with_reducible refine Frame.updDom ?_ ?_); on_goal 2 => rfl)
      | dsimp -zeta only
      | with_reducible refine Frame.app2 ‹_› ?_
      | with_reducible refine Frame.ite2 ?_ ?_
      | split

theorem domainRootAct_frame {w₀ : Nat} {s₀ : State} {a : Act} {arg : Bytes} {s : State} (h₀ : Frame w₀ s₀ s) (hw₀ : 72567767439808 ||| w₀ = w₀) :
    Frame w₀ s₀ (domainRootAct a arg s) := by
  refine h₀.trans 72567767439808 ?_ hw₀
  clear h₀ hw₀
  unfold domainRootAct
  repeat' first
      | with_reducible exact Frame.refl
      | ((with_reducible refine actDone_frame ?_ ?_); on_goal 2 => rfl)
      | ((with_reducible refine domainRootOp_frame ?_ ?_); on_goal 2 => rfl)
      | with_reducible refine Frame.ite ?_ ?_

theorem installDocs_frame {w₀ : Nat} {s₀ : State} {m : Bytes} {p : Bytes} {s : State} (h₀ : Frame w₀ s₀ s) (hw₀ : 70368744183808 ||| w₀ = w₀) :
    Frame w₀ s₀ (installDocs m p s) := by
  refine h₀.trans 70368744183808 ?_ hw₀
  clear h₀ hw₀
  unfold installDocs
  repeat' first
      | with_reducible assumption
      | with_reducible exact Frame.refl
      | ((first | intro x | (lift_lets -underBinder; intro x)); first
      | (refine Frame.cut (w := 70368744183808) (s := s) (x := x) ?_ fun _ => ?_; (on_goal 1 => try dsimp only [x]); (on_goal 2 => clear_value x)))
      | ((with_reducible refine measPut_frame ?_ ?_); on_goal 2 => rfl)
      | ((with_reducible refine Frame.updDom ?_ ?_); on_goal 2 => rfl)

theorem joinCommitOp_frame {w₀ : Nat} {s₀ : State} {sess : Nat} {s : State} (h₀ : Frame w₀ s₀ s) (hw₀ : 70368744183872 ||| w₀ = w₀) :
    Frame w₀ s₀ (joinCommitOp sess s).2 := by
  refine h₀.trans 70368744183872 ?_ hw₀
  clear h₀ hw₀
  unfold joinCommitOp
  repeat' first
      | with_reducible assumption
      | with_reducible exact Frame.refl
      | ((first | intro x | (lift_lets -underBinder; intro x)); first
      | (refine Frame.cut (w := 70368744183872) (s := s) (x := x) ?_ fun _ => ?_; (on_goal 1 => try dsimp only [x]); (on_goal 2 => clear_value x))
      | clear_value x)
      | ((with_reducible refine deriveEpochKey_frame ?_ ?_); on_goal 2 => rfl)
      | ((with_reducible refine derivePlan_frame ?_ ?_); on_goal 2 => rfl)
      | ((with_reducible refine installDocs_frame ?_ ?_); on_goal 2 => rfl)
      | ((with_reducible refine Frame.updDom ?_ ?_); on_goal 2 => rfl)
      | dsimp -zeta only
      | with_reducible refine Frame.ite2 ?_ ?_
      | split

theorem joinCommitAct_frame {w₀ : Nat} {s₀ : State} {a : Act} {s : State} (h₀ : Frame w₀ s₀ s) (hw₀ : 72567767439424 ||| w₀ = w₀) :
    Frame w₀ s₀ (joinCommitAct a s) := by
  refine h₀.trans 72567767439424 ?_ hw₀
  clear h₀ hw₀
  unfold joinCommitAct
  repeat' first
      | with_reducible exact Frame.refl
      | ((with_reducible refine runAct_frame (fun s => ?_) ?_ ?_); on_goal 3 => rfl)
      | ((with_reducible refine joinCommitOp_frame ?_ ?_); on_goal 2 => rfl)

theorem leaveOp_frame {w₀ : Nat} {s₀ : State}  {s : State} (h₀ : Frame w₀ s₀ s) (hw₀ : 4160 ||| w₀ = w₀) :
    Frame w₀ s₀ (leaveOp s).2 := by
  refine h₀.trans 4160 ?_ hw₀
  clear h₀ hw₀
  unfold leaveOp
  repeat' first
      | with_reducible assumption
      | with_reducible exact Frame.refl
      | ((first | intro x | (lift_lets -underBinder; intro x)); first
      | (refine Frame.cut (w := 4160) (s := s) (x := x) ?_ fun _ => ?_; (on_goal 1 => try dsimp only [x]); (on_goal 2 => clear_value x))
      | clear_value x)
      | ((with_reducible refine destroySlots_frame ?_ ?_); on_goal 2 => rfl)
      | ((with_reducible refine Frame.updDom ?_ ?_); on_goal 2 => rfl)
      | with_reducible refine Frame.ite2 ?_ ?_

theorem leaveAct_frame {w₀ : Nat} {s₀ : State} {a : Act} {s : State} (h₀ : Frame w₀ s₀ s) (hw₀ : 2199023259712 ||| w₀ = w₀) :
    Frame w₀ s₀ (leaveAct a s) := by
  refine h₀.trans 2199023259712 ?_ hw₀
  clear h₀ hw₀
  unfold leaveAct
  repeat' first
      | with_reducible exact Frame.refl
      | ((with_reducible refine runAct_frame (fun s => ?_) ?_ ?_); on_goal 3 => rfl)
      | ((with_reducible refine leaveOp_frame ?_ ?_); on_goal 2 => rfl)

theorem txPeerLost_frame {w₀ : Nat} {s₀ : State} {i : Nat} {s : State} (h₀ : Frame w₀ s₀ s) (hw₀ : 8192 ||| w₀ = w₀) :
    Frame w₀ s₀ (txPeerLost i s).2 := by
  refine h₀.trans 8192 ?_ hw₀
  clear h₀ hw₀
  unfold txPeerLost
  repeat' first
      | with_reducible exact Frame.refl
      | ((first | intro x | (lift_lets -underBinder; intro x)); first
      | clear_value x)
      | ((with_reducible refine updTx_frame ?_ ?_); on_goal 2 => rfl)

theorem peerLostOp_frame {w₀ : Nat} {s₀ : State} {m : Nat} {s : State} (h₀ : Frame w₀ s₀ s) (hw₀ : 130641666521152 ||| w₀ = w₀) :
    Frame w₀ s₀ (peerLostOp m s).2 := by
  refine h₀.trans 130641666521152 ?_ hw₀
  clear h₀ hw₀
  unfold peerLostOp
  repeat' first
      | with_reducible assumption
      | with_reducible exact Frame.refl
      | ((first | intro x | (lift_lets -underBinder; intro x)); first
      | (refine Frame.cut (w := 130641666521152) (s := s) (x := x) ?_ fun _ => ?_; (on_goal 1 => try dsimp only [x]); (on_goal 2 => clear_value x))
      | clear_value x)
      | ((with_reducible refine State.atEvent_frame ?_ ?_); on_goal 2 => rfl)
      | ((with_reducible refine retireHandle_frame ?_ ?_); on_goal 2 => rfl)
      | ((with_reducible refine faultFence_frame ?_ ?_); on_goal 2 => rfl)
      | ((with_reducible refine eachAns_frame (fun _ s => ?_) ?_ ?_); on_goal 3 => rfl)
      | ((with_reducible refine redAbortAll_frame ?_ ?_); on_goal 2 => rfl)
      | ((with_reducible refine timeDiscard_frame ?_ ?_); on_goal 2 => rfl)
      | ((with_reducible refine rxPeerLost_frame ?_ ?_); on_goal 2 => rfl)
      | ((with_reducible refine txPeerLost_frame ?_ ?_); on_goal 2 => rfl)
      | ((with_reducible refine Frame.updDom ?_ ?_); on_goal 2 => rfl)
      | with_reducible refine Frame.forAll (fun _ s => ?_) _ ?_
      | with_reducible refine Frame.ite ?_ ?_

theorem memberLostAct_frame {w₀ : Nat} {s₀ : State} {a : Act} {arg : Bytes} {s : State} (h₀ : Frame w₀ s₀ s) (hw₀ : 130641666521152 ||| w₀ = w₀) :
    Frame w₀ s₀ (memberLostAct a arg s).2 := by
  refine h₀.trans 130641666521152 ?_ hw₀
  clear h₀ hw₀
  unfold memberLostAct
  repeat' first
      | with_reducible exact Frame.refl
      | ((first | intro x | (lift_lets -underBinder; intro x)); first
      | clear_value x)
      | ((with_reducible refine actDone_frame ?_ ?_); on_goal 2 => rfl)
      | ((with_reducible refine eachAns_frame (fun _ s => ?_) ?_ ?_); on_goal 3 => rfl)
      | ((with_reducible refine peerLostOp_frame ?_ ?_); on_goal 2 => rfl)
      | dsimp -zeta only
      | with_reducible refine Frame.ite2 ?_ ?_

theorem epochPrepareOp_frame {w₀ : Nat} {s₀ : State} {arg : Bytes} {s : State} (h₀ : Frame w₀ s₀ s) (hw₀ : 130641666521152 ||| w₀ = w₀) :
    Frame w₀ s₀ (epochPrepareOp arg s).2.2 := by
  refine h₀.trans 130641666521152 ?_ hw₀
  clear h₀ hw₀
  unfold epochPrepareOp
  repeat' first
      | with_reducible assumption
      | with_reducible exact Frame.refl
      | ((first | intro x | (lift_lets -underBinder; intro x)); first
      | (refine Frame.cut (w := 130641666521152) (s := s) (x := x) ?_ fun _ => ?_; (on_goal 1 => try dsimp only [x]); (on_goal 2 => clear_value x))
      | clear_value x)
      | ((with_reducible refine eachAns_frame (fun _ s => ?_) ?_ ?_); on_goal 3 => rfl)
      | ((with_reducible refine deriveEpochKey_frame ?_ ?_); on_goal 2 => rfl)
      | ((with_reducible refine derivePlan_frame ?_ ?_); on_goal 2 => rfl)
      | ((with_reducible refine installDocs_frame ?_ ?_); on_goal 2 => rfl)
      | ((with_reducible refine peerLostOp_frame ?_ ?_); on_goal 2 => rfl)
      | ((with_reducible refine Frame.updDom ?_ ?_); on_goal 2 => rfl)
      | dsimp -zeta only
      | with_reducible refine Frame.ite3 ?_ ?_
      | split

theorem epochPrepareAct_frame {w₀ : Nat} {s₀ : State} {a : Act} {arg : Bytes} {s : State} (h₀ : Frame w₀ s₀ s) (hw₀ : 130641666521152 ||| w₀ = w₀) :
    Frame w₀ s₀ (epochPrepareAct a arg s).2 := by
  refine h₀.trans 130641666521152 ?_ hw₀
  clear h₀ hw₀
  unfold epochPrepareAct
  repeat' first
      | with_reducible exact Frame.refl
      | ((with_reducible refine actDone_frame ?_ ?_); on_goal 2 => rfl)
      | ((with_reducible refine epochPrepareOp_frame ?_ ?_); on_goal 2 => rfl)
      | with_reducible refine Frame.ite2 ?_ ?_

theorem epochSwitchOp_frame {w₀ : Nat} {s₀ : State} {arg : Bytes} {s : State} (h₀ : Frame w₀ s₀ s) (hw₀ : 28736 ||| w₀ = w₀) :
    Frame w₀ s₀ (epochSwitchOp arg s).2 := by
  refine h₀.trans 28736 ?_ hw₀
  clear h₀ hw₀
  unfold epochSwitchOp
  repeat' first
      | with_reducible assumption
      | with_reducible exact Frame.refl
      | ((first | intro x | (lift_lets -underBinder; intro x)); first
      | (refine Frame.cut (w := 28736) (s := s) (x := x) ?_ fun _ => ?_; (on_goal 1 => try dsimp only [x]); (on_goal 2 => clear_value x)))
      | ((with_reducible refine drainComplete_frame ?_ ?_); on_goal 2 => rfl)
      | ((with_reducible refine armSwitchOp_frame ?_ ?_); on_goal 2 => rfl)
      | ((with_reducible refine Frame.updDom ?_ ?_); on_goal 2 => rfl)
      | ((with_reducible refine Frame.updLs ?_ ?_); on_goal 2 => rfl)
      | with_reducible refine Frame.ite2 ?_ ?_

theorem epochSwitchAct_frame {w₀ : Nat} {s₀ : State} {a : Act} {arg : Bytes} {s : State} (h₀ : Frame w₀ s₀ s) (hw₀ : 2199023284288 ||| w₀ = w₀) :
    Frame w₀ s₀ (epochSwitchAct a arg s) := by
  refine h₀.trans 2199023284288 ?_ hw₀
  clear h₀ hw₀
  unfold epochSwitchAct
  repeat' first
      | with_reducible exact Frame.refl
      | ((with_reducible refine runAct_frame (fun s => ?_) ?_ ?_); on_goal 3 => rfl)
      | ((with_reducible refine epochSwitchOp_frame ?_ ?_); on_goal 2 => rfl)

theorem epochRetireOp_frame {w₀ : Nat} {s₀ : State} {arg : Bytes} {s : State} (h₀ : Frame w₀ s₀ s) (hw₀ : 4160 ||| w₀ = w₀) :
    Frame w₀ s₀ (epochRetireOp arg s).2 := by
  refine h₀.trans 4160 ?_ hw₀
  clear h₀ hw₀
  unfold epochRetireOp
  repeat' first
      | with_reducible exact Frame.refl
      | ((with_reducible refine retireEpoch_frame ?_ ?_); on_goal 2 => rfl)
      | with_reducible refine Frame.ite2 ?_ ?_

theorem epochRetireAct_frame {w₀ : Nat} {s₀ : State} {a : Act} {arg : Bytes} {s : State} (h₀ : Frame w₀ s₀ s) (hw₀ : 2199023259712 ||| w₀ = w₀) :
    Frame w₀ s₀ (epochRetireAct a arg s) := by
  refine h₀.trans 2199023259712 ?_ hw₀
  clear h₀ hw₀
  unfold epochRetireAct
  repeat' first
      | with_reducible exact Frame.refl
      | ((with_reducible refine runAct_frame (fun s => ?_) ?_ ?_); on_goal 3 => rfl)
      | ((with_reducible refine epochRetireOp_frame ?_ ?_); on_goal 2 => rfl)

end Sys2Proof.Machine
end

