-- ==== Sys2Proof/Laws/FrFlash.lean ====
section
/-! SUPPORT. What each operation of Machine/Flash.lean may change (see Frame.lean). -/

namespace Sys2Proof.Machine

-- One declaration at a time, so that the elaborator holds few threads (each takes stack of its own).
set_option Elab.async false

theorem flashErase_frame {w₀ : Nat} {s₀ : State} {a : Nat} {n : Nat} {s : State} (h₀ : Frame w₀ s₀ s) (hw₀ : 1374389534720 ||| w₀ = w₀) :
    Frame w₀ s₀ (flashErase a n s) := by
  refine h₀.trans 1374389534720 ?_ hw₀
  clear h₀ hw₀
  unfold flashErase
  repeat' first
      | with_reducible exact Frame.refl
      | ((with_reducible refine Frame.updPwrFlash (f := _) ?_ ?_ ?_ ?_); (on_goal 1 => (intro _; unfold Pwr.rest; rfl)); (on_goal 1 => (first | exact fun _ h => keysOk_filter _ h | exact fun _ h => Memory.wf_writeBytes h | exact fun _ h => Memory.wf_write h)); on_goal 2 => rfl)

theorem flashEraseFrom_frame {w₀ : Nat} {s₀ : State} {a : Nat} {s : State} (h₀ : Frame w₀ s₀ s) (hw₀ : 1374389534720 ||| w₀ = w₀) :
    Frame w₀ s₀ (flashEraseFrom a s) := by
  refine h₀.trans 1374389534720 ?_ hw₀
  clear h₀ hw₀
  unfold flashEraseFrom
  repeat' first
      | with_reducible exact Frame.refl
      | ((with_reducible refine Frame.updPwrFlash (f := _) ?_ ?_ ?_ ?_); (on_goal 1 => (intro _; unfold Pwr.rest; rfl)); (on_goal 1 => (first | exact fun _ h => keysOk_filter _ h | exact fun _ h => Memory.wf_writeBytes h | exact fun _ h => Memory.wf_write h)); on_goal 2 => rfl)

theorem flashWrite_frame {w₀ : Nat} {s₀ : State} {a : Nat} {b : Bytes} {s : State} (h₀ : Frame w₀ s₀ s) (hw₀ : 1374389534720 ||| w₀ = w₀) :
    Frame w₀ s₀ (flashWrite a b s) := by
  refine h₀.trans 1374389534720 ?_ hw₀
  clear h₀ hw₀
  unfold flashWrite
  repeat' first
      | with_reducible exact Frame.refl
      | ((with_reducible refine Frame.updPwrFlash (f := _) ?_ ?_ ?_ ?_); (on_goal 1 => (intro _; unfold Pwr.rest; rfl)); (on_goal 1 => (first | exact fun _ h => keysOk_filter _ h | exact fun _ h => Memory.wf_writeBytes h | exact fun _ h => Memory.wf_write h)); on_goal 2 => rfl)

theorem flashProgram_frame {w₀ : Nat} {s₀ : State} {a : Nat} {x0 : Bytes} {x1 : Nat} {x2 : State} (h₀ : Frame w₀ s₀ x2) (hw₀ : 1374389534720 ||| w₀ = w₀) :
    Frame w₀ s₀ (flashProgram a x0 x1 x2) := by
  refine h₀.trans 1374389534720 ?_ hw₀
  clear h₀ hw₀
  induction x0 generalizing x1 x2 with
  | nil =>
    unfold flashProgram
    repeat' first
      | with_reducible exact Frame.refl
  | cons a l ih =>
    unfold flashProgram
    repeat' first
      | with_reducible exact Frame.refl
      | ((first | intro x | (lift_lets -underBinder; intro x)); first
      | clear_value x)
      | ((with_reducible refine Frame.updPwrFlash (f := _) ?_ ?_ ?_ ?_); (on_goal 1 => (intro _; unfold Pwr.rest; rfl)); (on_goal 1 => (first | exact fun _ h => keysOk_filter _ h | exact fun _ h => Memory.wf_writeBytes h | exact fun _ h => Memory.wf_write h)); on_goal 2 => rfl)
      | with_reducible refine Frame.app2 ‹_› ?_

theorem xspiOp_frame {w₀ : Nat} {s₀ : State} {op : Byte} {length : Byte} {s : State} (h₀ : Frame w₀ s₀ s) (hw₀ : 37108517437440 ||| w₀ = w₀) :
    Frame w₀ s₀ (xspiOp op length s) := by
  refine h₀.trans 37108517437440 ?_ hw₀
  clear h₀ hw₀
  unfold xspiOp
  repeat' first
      | with_reducible assumption
      | with_reducible exact Frame.refl
      | ((first | intro x | (lift_lets -underBinder; intro x)); first
      | (refine Frame.cut (w := 37108517437440) (s := s) (x := x) ?_ fun _ => ?_; (on_goal 1 => try dsimp only [x]); (on_goal 2 => clear_value x))
      | (refine Frame.cutFn2 (w := 37108517437440) (f := x) ?_ fun _ => ?_; (on_goal 1 => intro _ s; try dsimp only [x]); (on_goal 2 => clear_value x))
      | clear_value x)
      | ((with_reducible refine flashErase_frame ?_ ?_); on_goal 2 => rfl)
      | ((with_reducible refine flashProgram_frame ?_ ?_); on_goal 2 => rfl)
      | ((with_reducible refine Frame.emit ?_ ?_); on_goal 2 => rfl)
      | ((with_reducible refine Frame.updPwr (f := _) ?_ ?_ ?_); (on_goal 1 => (intro _; rfl)); on_goal 2 => rfl)
      | with_reducible refine Frame.app2 ‹_› ?_
      | with_reducible refine Frame.ite ?_ ?_
      | split

theorem factoryWrite_frame {w₀ : Nat} {s₀ : State} {off : Nat} {b : Bytes} {s : State} (h₀ : Frame w₀ s₀ s) (hw₀ : 1374389534720 ||| w₀ = w₀) :
    Frame w₀ s₀ (factoryWrite off b s) := by
  refine h₀.trans 1374389534720 ?_ hw₀
  clear h₀ hw₀
  unfold factoryWrite
  repeat' first
      | with_reducible exact Frame.refl
      | ((with_reducible refine flashWrite_frame ?_ ?_); on_goal 2 => rfl)

end Sys2Proof.Machine
end

