-- ==== Sys2Proof/Laws/FrShutdown.lean ====
section
/-! SUPPORT. What each operation of Machine/Shutdown.lean may change (see Frame.lean). -/

namespace Sys2Proof.Machine

-- One declaration at a time, so that the elaborator holds few threads (each takes stack of its own).
set_option Elab.async false

theorem shutOver_frame {w₀ : Nat} {s₀ : State} {st : Status} {data : Bytes} {s : State} (h₀ : Frame w₀ s₀ s) (hw₀ : 2473901162496 ||| w₀ = w₀) :
    Frame w₀ s₀ (shutOver st data s) := by
  refine h₀.trans 2473901162496 ?_ hw₀
  clear h₀ hw₀
  unfold shutOver
  repeat' first
      | with_reducible exact Frame.refl
      | ((with_reducible refine actDone_frame ?_ ?_); on_goal 2 => rfl)
      | ((with_reducible refine Frame.updPwrSoft (f := _) ?_ ?_ ?_); (on_goal 1 => (intro _; refine ⟨?_, rfl⟩; unfold Pwr.rest; rfl)); on_goal 2 => rfl)

theorem storeWrite_frame {w₀ : Nat} {s₀ : State} {x0 : Nat} {x1 : List (Nat × Bytes)} {x2 : State} (h₀ : Frame w₀ s₀ x2) (hw₀ : 1374389534720 ||| w₀ = w₀) :
    Frame w₀ s₀ (storeWrite x0 x1 x2) := by
  refine h₀.trans 1374389534720 ?_ hw₀
  clear h₀ hw₀
  induction x1 generalizing x0 x2 with
  | nil =>
    unfold storeWrite
    repeat' first
      | with_reducible exact Frame.refl
  | cons a l ih =>
    unfold storeWrite
    repeat' first
      | with_reducible exact Frame.refl
      | ((with_reducible refine flashWrite_frame ?_ ?_); on_goal 2 => rfl)
      | ((with_reducible refine Frame.trans 1374389534720 ?_ (ih ..) ?_); on_goal 2 => rfl)

theorem shutEnd_frame {w₀ : Nat} {s₀ : State}  {s : State} (h₀ : Frame w₀ s₀ s) (hw₀ : 3573412790272 ||| w₀ = w₀) :
    Frame w₀ s₀ (shutEnd s) := by
  refine h₀.trans 3573412790272 ?_ hw₀
  clear h₀ hw₀
  unfold shutEnd
  repeat' first
      | with_reducible assumption
      | with_reducible exact Frame.refl
      | ((first | intro x | (lift_lets -underBinder; intro x)); first
      | (refine Frame.cut (w := 3573412790272) (s := s) (x := x) ?_ fun _ => ?_; (on_goal 1 => try dsimp only [x]); (on_goal 2 => clear_value x))
      | clear_value x)
      | ((with_reducible refine flashErase_frame ?_ ?_); on_goal 2 => rfl)
      | ((with_reducible refine shutOver_frame ?_ ?_); on_goal 2 => rfl)
      | ((with_reducible refine storeWrite_frame ?_ ?_); on_goal 2 => rfl)
      | ((with_reducible refine Frame.updPwrSoft (f := _) ?_ ?_ ?_); (on_goal 1 => (intro _; refine ⟨?_, rfl⟩; unfold Pwr.rest; rfl)); on_goal 2 => rfl)

theorem shutStep_frame {w₀ : Nat} {s₀ : State}  {s : State} (h₀ : Frame w₀ s₀ s) (hw₀ : 38849195712600 ||| w₀ = w₀) :
    Frame w₀ s₀ (shutStep s).2 := by
  refine h₀.trans 38849195712600 ?_ hw₀
  clear h₀ hw₀
  unfold shutStep
  repeat' first
      | with_reducible exact Frame.refl
      | ((first | intro x | (lift_lets -underBinder; intro x)); first
      | (refine Frame.cutFn2 (w := 38849195712600) (f := x) ?_ fun _ => ?_; (on_goal 1 => intro _ s; try dsimp only [x]); (on_goal 2 => clear_value x))
      | clear_value x)
      | ((with_reducible refine trStart_frame ?_ ?_); on_goal 2 => rfl)
      | ((with_reducible refine auFlushOp_frame ?_ ?_); on_goal 2 => rfl)
      | ((with_reducible refine shutOver_frame ?_ ?_); on_goal 2 => rfl)
      | ((with_reducible refine shutEnd_frame ?_ ?_); on_goal 2 => rfl)
      | ((with_reducible refine Frame.updPwrSoft (f := _) ?_ ?_ ?_); (on_goal 1 => (intro _; refine ⟨?_, rfl⟩; unfold Pwr.rest; rfl)); on_goal 2 => rfl)
      | ((with_reducible refine Frame.updTrSoft (f := _) ?_ ?_ ?_); (on_goal 1 => (intro _; unfold Tr.rest; rfl)); on_goal 2 => rfl)
      | dsimp -zeta only
      | with_reducible refine Frame.app2 ‹_› ?_
      | with_reducible refine Frame.ite2 ?_ ?_
      | split

theorem shutSteps_frame {w₀ : Nat} {s₀ : State} {x0 : Nat} {x1 : State} (h₀ : Frame w₀ s₀ x1) (hw₀ : 38849195712600 ||| w₀ = w₀) :
    Frame w₀ s₀ (shutSteps x0 x1).2 := by
  refine h₀.trans 38849195712600 ?_ hw₀
  clear h₀ hw₀
  induction x0 generalizing x1 with
  | zero =>
    unfold shutSteps
    repeat' first
      | with_reducible exact Frame.refl
  | succ n ih =>
    unfold shutSteps
    repeat' first
      | with_reducible exact Frame.refl
      | ((with_reducible refine shutStep_frame ?_ ?_); on_goal 2 => rfl)
      | ((with_reducible refine Frame.trans 38849195712600 ?_ (ih ..) ?_); on_goal 2 => rfl)
      | with_reducible refine Frame.ite2 ?_ ?_

theorem shutdownAct_frame {w₀ : Nat} {s₀ : State} {a : Act} {arg : Bytes} {s : State} (h₀ : Frame w₀ s₀ s) (hw₀ : 2473901162496 ||| w₀ = w₀) :
    Frame w₀ s₀ (shutdownAct a arg s).2 := by
  refine h₀.trans 2473901162496 ?_ hw₀
  clear h₀ hw₀
  unfold shutdownAct
  repeat' first
      | with_reducible exact Frame.refl
      | ((first | intro x | (lift_lets -underBinder; intro x)); first
      | clear_value x)
      | ((with_reducible refine actDone_frame ?_ ?_); on_goal 2 => rfl)
      | ((with_reducible refine actWaits_frame ?_ ?_); on_goal 2 => rfl)
      | ((with_reducible refine Frame.updPwrSoft (f := _) ?_ ?_ ?_); (on_goal 1 => (intro _; refine ⟨?_, rfl⟩; unfold Pwr.rest; rfl)); on_goal 2 => rfl)
      | with_reducible refine Frame.ite2 ?_ ?_

theorem rootStoreUseAct_frame {w₀ : Nat} {s₀ : State} {a : Act} {arg : Bytes} {s : State} (h₀ : Frame w₀ s₀ s) (hw₀ : 3023656976384 ||| w₀ = w₀) :
    Frame w₀ s₀ (rootStoreUseAct a arg s) := by
  refine h₀.trans 3023656976384 ?_ hw₀
  clear h₀ hw₀
  unfold rootStoreUseAct
  repeat' first
      | with_reducible exact Frame.refl
      | ((with_reducible refine runAct_frame (fun s => ?_) ?_ ?_); on_goal 3 => rfl)
      | ((with_reducible refine Frame.updPwr (f := _) ?_ ?_ ?_); (on_goal 1 => (intro _; rfl)); on_goal 2 => rfl)
      | with_reducible refine Frame.ite2 ?_ ?_

end Sys2Proof.Machine
end

