-- ==== Sys2Proof/Laws/FrDeliver.lean ====
section
/-! SUPPORT. What each operation of Machine/Deliver.lean may change (see Frame.lean). -/

namespace Sys2Proof.Machine

-- One declaration at a time, so that the elaborator holds few threads (each takes stack of its own).
set_option Elab.async false

theorem fetchTake_frame {w₀ : Nat} {s₀ : State} {q : Nat} {a : Ans} {s : State} (h₀ : Frame w₀ s₀ s) (hw₀ : 52866786035834 ||| w₀ = w₀) :
    Frame w₀ s₀ (fetchTake q a s) := by
  refine h₀.trans 52866786035834 ?_ hw₀
  clear h₀ hw₀
  unfold fetchTake
  repeat' first
      | with_reducible exact Frame.refl
      | ((with_reducible refine feKick_frame ?_ ?_); on_goal 2 => rfl)
      | ((with_reducible refine fetchFailed_frame ?_ ?_); on_goal 2 => rfl)
      | ((with_reducible refine ringFetched_frame ?_ ?_); on_goal 2 => rfl)
      | ((with_reducible refine chunkFetched_frame ?_ ?_); on_goal 2 => rfl)
      | with_reducible refine Frame.ite ?_ ?_

theorem takeAns_frame {w₀ : Nat} {s₀ : State} {a : Ans} {s : State} (h₀ : Frame w₀ s₀ s) (hw₀ : 55067028400250 ||| w₀ = w₀) :
    Frame w₀ s₀ (takeAns a s).2 := by
  refine h₀.trans 55067028400250 ?_ hw₀
  clear h₀ hw₀
  unfold takeAns
  repeat' first
      | with_reducible exact Frame.refl
      | ((with_reducible refine nodeUnsent_frame ?_ ?_); on_goal 2 => rfl)
      | ((with_reducible refine lineUnsent_frame ?_ ?_); on_goal 2 => rfl)
      | ((with_reducible refine moverTake_frame ?_ ?_); on_goal 2 => rfl)
      | ((with_reducible refine redTake_frame ?_ ?_); on_goal 2 => rfl)
      | ((with_reducible refine homeUnitDone_frame ?_ ?_); on_goal 2 => rfl)
      | ((with_reducible refine combWritten_frame ?_ ?_); on_goal 2 => rfl)
      | ((with_reducible refine combFilled_frame ?_ ?_); on_goal 2 => rfl)
      | ((with_reducible refine homeKick_frame ?_ ?_); on_goal 2 => rfl)
      | ((with_reducible refine placeTake_frame ?_ ?_); on_goal 2 => rfl)
      | ((with_reducible refine signalUnsent_frame ?_ ?_); on_goal 2 => rfl)
      | ((with_reducible refine atomicEnd_frame ?_ ?_); on_goal 2 => rfl)
      | ((with_reducible refine cpAnswer_frame ?_ ?_); on_goal 2 => rfl)
      | ((with_reducible refine rootDrained_frame ?_ ?_); on_goal 2 => rfl)
      | ((with_reducible refine fetchTake_frame ?_ ?_); on_goal 2 => rfl)
      | ((with_reducible refine Frame.emit ?_ ?_); on_goal 2 => rfl)
      | with_reducible refine Frame.ite ?_ ?_
      | with_reducible refine Frame.ite2 ?_ ?_
      | split

theorem kicks_frame {w₀ : Nat} {s₀ : State}  {s : State} (h₀ : Frame w₀ s₀ s) (hw₀ : 56441417934970 ||| w₀ = w₀) :
    Frame w₀ s₀ (kicks s).2 := by
  refine h₀.trans 56441417934970 ?_ hw₀
  clear h₀ hw₀
  unfold kicks
  repeat' first
      | with_reducible exact Frame.refl
      | ((with_reducible refine eachAns_frame (fun _ s => ?_) ?_ ?_); on_goal 3 => rfl)
      | ((with_reducible refine poolKick_frame ?_ ?_); on_goal 2 => rfl)
      | ((with_reducible refine segStep_frame ?_ ?_); on_goal 2 => rfl)
      | ((with_reducible refine homeKick_frame ?_ ?_); on_goal 2 => rfl)
      | ((with_reducible refine placeAll_frame ?_ ?_); on_goal 2 => rfl)
      | ((with_reducible refine feRetry_frame ?_ ?_); on_goal 2 => rfl)
      | ((with_reducible refine flushHall_frame ?_ ?_); on_goal 2 => rfl)
      | ((with_reducible refine shutSteps_frame ?_ ?_); on_goal 2 => rfl)

theorem deliver_frame {w₀ : Nat} {s₀ : State} {n : Nat} {l : List Ans} {s : State} (h₀ : Frame w₀ s₀ s)
    (hw₀ : 56441417934970 ||| w₀ = w₀) : Frame w₀ s₀ (deliver n l s) := by
  refine h₀.trans 56441417934970 ?_ hw₀
  clear h₀ hw₀
  induction n generalizing l s with
  | zero =>
    cases l <;> exact Frame.refl
  | succ n ih =>
    cases l with
    | nil =>
      rw [deliver]
      split
      · rename_i e
        exact Frame.ofEq e (kicks_frame Frame.refl rfl)
      · rename_i e
        exact (Frame.ofEq e (kicks_frame Frame.refl rfl)).trans _ ih (Nat.or_self _)
    | cons a l =>
      rw [deliver]
      split
      rename_i e
      exact (Frame.ofEq e (takeAns_frame Frame.refl rfl)).trans _ ih (Nat.or_self _)

theorem settled_frame {w₀ : Nat} {s₀ : State} {r : List Ans × State} (h₀ : Frame w₀ s₀ r.2) (hw₀ : 56441417934970 ||| w₀ = w₀) :
    Frame w₀ s₀ (settled r) := by
  unfold settled
  refine Frame.ite h₀ ?_
  exact deliver_frame h₀ hw₀

theorem mpResponseOp_frame {w₀ : Nat} {s₀ : State} {port : Nat} {tag : Nat} {we : Bool} {err : BitVec 2} {data : Bytes} {s : State} (h₀ : Frame w₀ s₀ s) (hw₀ : 56441417934974 ||| w₀ = w₀) :
    Frame w₀ s₀ (mpResponseOp port tag we err data s) := by
  refine h₀.trans 56441417934974 ?_ hw₀
  clear h₀ hw₀
  unfold mpResponseOp
  repeat' first
      | with_reducible exact Frame.refl
      | ((with_reducible refine mpTake_frame ?_ ?_); on_goal 2 => rfl)
      | ((with_reducible refine settled_frame ?_ ?_); on_goal 2 => rfl)

theorem linkReceive_frame {w₀ : Nat} {s₀ : State} {lane : Nat} {vc : BitVec 2} {route : Byte} {first : Bool} {frame : Bytes} {s : State} (h₀ : Frame w₀ s₀ s) (hw₀ : 127497356966142 ||| w₀ = w₀) :
    Frame w₀ s₀ (linkReceive lane vc route first frame s) := by
  refine h₀.trans 127497356966142 ?_ hw₀
  clear h₀ hw₀
  unfold linkReceive
  repeat' first
      | with_reducible exact Frame.refl
      | ((with_reducible refine portInput_frame ?_ ?_); on_goal 2 => rfl)
      | ((with_reducible refine frameReceiveOp_frame ?_ ?_); on_goal 2 => rfl)
      | ((with_reducible refine settled_frame ?_ ?_); on_goal 2 => rfl)
      | ((with_reducible refine Frame.updPins ?_ ?_); on_goal 2 => rfl)
      | with_reducible refine Frame.ite ?_ ?_

theorem frameSentRow_frame {w₀ : Nat} {s₀ : State} {lane : Nat} {s : State} (h₀ : Frame w₀ s₀ s) (hw₀ : 56441417955450 ||| w₀ = w₀) :
    Frame w₀ s₀ (frameSentRow lane s) := by
  refine h₀.trans 56441417955450 ?_ hw₀
  clear h₀ hw₀
  unfold frameSentRow
  repeat' first
      | with_reducible exact Frame.refl
      | ((with_reducible refine frameSentOp_frame ?_ ?_); on_goal 2 => rfl)
      | ((with_reducible refine drainComplete_frame ?_ ?_); on_goal 2 => rfl)
      | ((with_reducible refine settled_frame ?_ ?_); on_goal 2 => rfl)

end Sys2Proof.Machine
end

