-- ==== Sys2Proof/Laws/FrLanding.lean ====
section
/-! SUPPORT. What each operation of Machine/Landing.lean may change (see Frame.lean). -/

namespace Sys2Proof.Machine

-- One declaration at a time, so that the elaborator holds few threads (each takes stack of its own).
set_option Elab.async false

theorem landEnter_frame {w₀ : Nat} {s₀ : State} {tread : Nat} {u : Nat} {s : State} (h₀ : Frame w₀ s₀ s) (hw₀ : 35310142660696 ||| w₀ = w₀) :
    Frame w₀ s₀ (landEnter tread u s).2 := by
  refine h₀.trans 35310142660696 ?_ hw₀
  clear h₀ hw₀
  unfold landEnter
  repeat' first
      | with_reducible assumption
      | with_reducible exact Frame.refl
      | ((first | intro x | (lift_lets -underBinder; intro x)); first
      | (refine Frame.cut (w := 35310142660696) (s := s) (x := x) ?_ fun _ => ?_; (on_goal 1 => try dsimp only [x]); (on_goal 2 => clear_value x)))
      | ((with_reducible refine rushesBlock_frame ?_ ?_); on_goal 2 => rfl)
      | ((with_reducible refine eachAns_frame (fun _ s => ?_) ?_ ?_); on_goal 3 => rfl)
      | ((with_reducible refine combClean_frame ?_ ?_); on_goal 2 => rfl)
      | ((with_reducible refine Frame.updHr ?_ ?_); on_goal 2 => rfl)
      | with_reducible refine Frame.ite2 ?_ ?_

theorem landTx_frame {w₀ : Nat} {s₀ : State} {t1 : Bool} {p : Nat} {s : State} (h₀ : Frame w₀ s₀ s) (hw₀ : 35184372113408 ||| w₀ = w₀) :
    Frame w₀ s₀ (landTx t1 p s) := by
  refine h₀.trans 35184372113408 ?_ hw₀
  clear h₀ hw₀
  unfold landTx
  repeat' first
      | with_reducible assumption
      | with_reducible exact Frame.refl
      | ((first | intro x | (lift_lets -underBinder; intro x)); first
      | (refine Frame.cut (w := 35184372113408) (s := s) (x := x) ?_ fun _ => ?_; (on_goal 1 => try dsimp only [x]); (on_goal 2 => clear_value x))
      | clear_value x)
      | ((with_reducible refine State.lsEvent_frame ?_ ?_); on_goal 2 => rfl)
      | ((with_reducible refine voidOut_frame ?_ ?_); on_goal 2 => rfl)
      | ((with_reducible refine resumeAtMark_frame ?_ ?_); on_goal 2 => rfl)
      | ((with_reducible refine Frame.updLs ?_ ?_); on_goal 2 => rfl)
      | with_reducible refine Frame.forAll (fun _ s => ?_) _ ?_
      | with_reducible refine Frame.ite ?_ ?_
      | split

theorem rxDiscard_frame {w₀ : Nat} {s₀ : State} {i : Nat} {s : State} (h₀ : Frame w₀ s₀ s) (hw₀ : 188416 ||| w₀ = w₀) :
    Frame w₀ s₀ (rxDiscard i s).2 := by
  refine h₀.trans 188416 ?_ hw₀
  clear h₀ hw₀
  unfold rxDiscard
  repeat' first
      | with_reducible assumption
      | with_reducible exact Frame.refl
      | ((first | intro x | (lift_lets -underBinder; intro x)); first
      | (refine Frame.cut (w := 188416) (s := s) (x := x) ?_ fun _ => ?_; (on_goal 1 => try dsimp only [x]); (on_goal 2 => clear_value x))
      | clear_value x)
      | ((with_reducible refine updRx_frame ?_ ?_); on_goal 2 => rfl)
      | ((with_reducible refine rxLoss_frame ?_ ?_); on_goal 2 => rfl)
      | with_reducible refine Frame.ite2 ?_ ?_

theorem landRx_frame {w₀ : Nat} {s₀ : State} {p : Nat} {s : State} (h₀ : Frame w₀ s₀ s) (hw₀ : 188416 ||| w₀ = w₀) :
    Frame w₀ s₀ (landRx p s).2 := by
  refine h₀.trans 188416 ?_ hw₀
  clear h₀ hw₀
  unfold landRx
  repeat' first
      | with_reducible exact Frame.refl
      | ((with_reducible refine eachAns_frame (fun _ s => ?_) ?_ ?_); on_goal 3 => rfl)
      | ((with_reducible refine rxDiscard_frame ?_ ?_); on_goal 2 => rfl)
      | split

theorem lineAbort_frame {w₀ : Nat} {s₀ : State} {u : Nat} {id : Nat} {s : State} (h₀ : Frame w₀ s₀ s) (hw₀ : 18253717504 ||| w₀ = w₀) :
    Frame w₀ s₀ (lineAbort u id s).2 := by
  refine h₀.trans 18253717504 ?_ hw₀
  clear h₀ hw₀
  unfold lineAbort
  repeat' first
      | with_reducible assumption
      | with_reducible exact Frame.refl
      | ((first | intro x | (lift_lets -underBinder; intro x)); first
      | (refine Frame.cut (w := 18253717504) (s := s) (x := x) ?_ fun _ => ?_; (on_goal 1 => try dsimp only [x]); (on_goal 2 => clear_value x))
      | clear_value x)
      | ((with_reducible refine lineEnd_frame ?_ ?_); on_goal 2 => rfl)
      | ((with_reducible refine Frame.updLn ?_ ?_); on_goal 2 => rfl)
      | ((with_reducible refine Frame.updLsSoft (f := _) ?_ ?_ ?_); (on_goal 1 => (intro _; unfold Ls.rest; rfl)); on_goal 2 => rfl)
      | with_reducible refine Frame.ite ?_ ?_
      | split

theorem ackAll_frame {w₀ : Nat} {s₀ : State} {engine : Nat} {s : State} (h₀ : Frame w₀ s₀ s) (hw₀ : 33554432 ||| w₀ = w₀) :
    Frame w₀ s₀ (ackAll engine s) := by
  refine h₀.trans 33554432 ?_ hw₀
  clear h₀ hw₀
  unfold ackAll
  repeat' first
      | with_reducible exact Frame.refl
      | ((with_reducible refine abortAck_frame ?_ ?_); on_goal 2 => rfl)
      | with_reducible refine Frame.forAll (fun _ s => ?_) _ ?_

theorem moverWithdraw_frame {w₀ : Nat} {s₀ : State} {m : Nat} {s : State} (h₀ : Frame w₀ s₀ s) (hw₀ : 8192 ||| w₀ = w₀) :
    Frame w₀ s₀ (moverWithdraw m s) := by
  refine h₀.trans 8192 ?_ hw₀
  clear h₀ hw₀
  unfold moverWithdraw
  repeat' first
      | with_reducible exact Frame.refl
      | ((first | intro x | (lift_lets -underBinder; intro x)); first
      | clear_value x)
      | ((with_reducible refine updTx_frame ?_ ?_); on_goal 2 => rfl)
      | ((with_reducible refine txWithdraw_frame ?_ ?_); on_goal 2 => rfl)
      | with_reducible refine Frame.forAll (fun _ s => ?_) _ ?_

theorem landMover_frame {w₀ : Nat} {s₀ : State} {m : Nat} {s : State} (h₀ : Frame w₀ s₀ s) (hw₀ : 87142440960 ||| w₀ = w₀) :
    Frame w₀ s₀ (landMover m s) := by
  refine h₀.trans 87142440960 ?_ hw₀
  clear h₀ hw₀
  unfold landMover
  repeat' first
      | with_reducible assumption
      | with_reducible exact Frame.refl
      | ((first | intro x | (lift_lets -underBinder; intro x)); first
      | (refine Frame.cut (w := 87142440960) (s := s) (x := x) ?_ fun _ => ?_; (on_goal 1 => try dsimp only [x]); (on_goal 2 => clear_value x))
      | clear_value x)
      | ((with_reducible refine State.mvEvent_frame ?_ ?_); on_goal 2 => rfl)
      | ((with_reducible refine updMover_frame ?_ ?_); on_goal 2 => rfl)
      | ((with_reducible refine applyTokens_frame ?_ ?_); on_goal 2 => rfl)
      | ((with_reducible refine descriptorComplete_frame ?_ ?_); on_goal 2 => rfl)
      | ((with_reducible refine ackAll_frame ?_ ?_); on_goal 2 => rfl)
      | ((with_reducible refine moverWithdraw_frame ?_ ?_); on_goal 2 => rfl)
      | ((with_reducible refine Frame.updMv ?_ ?_); on_goal 2 => rfl)
      | with_reducible refine Frame.forAll (fun _ s => ?_) _ ?_
      | with_reducible refine Frame.ite ?_ ?_

theorem landRed_frame {w₀ : Nat} {s₀ : State} {u : Nat} {s : State} (h₀ : Frame w₀ s₀ s) (hw₀ : 17679329009664 ||| w₀ = w₀) :
    Frame w₀ s₀ (landRed u s) := by
  refine h₀.trans 17679329009664 ?_ hw₀
  clear h₀ hw₀
  unfold landRed
  repeat' first
      | with_reducible assumption
      | with_reducible exact Frame.refl
      | ((first | intro x | (lift_lets -underBinder; intro x)); first
      | (refine Frame.cut (w := 17679329009664) (s := s) (x := x) ?_ fun _ => ?_; (on_goal 1 => try dsimp only [x]); (on_goal 2 => clear_value x)))
      | ((with_reducible refine updRed_frame ?_ ?_); on_goal 2 => rfl)
      | ((with_reducible refine redAbort_frame ?_ ?_); on_goal 2 => rfl)
      | ((with_reducible refine redCompleteOp_frame ?_ ?_); on_goal 2 => rfl)
      | ((with_reducible refine ackAll_frame ?_ ?_); on_goal 2 => rfl)
      | with_reducible refine Frame.forAll (fun _ s => ?_) _ ?_
      | with_reducible refine Frame.ite ?_ ?_

theorem landHost_frame {w₀ : Nat} {s₀ : State}  {s : State} (h₀ : Frame w₀ s₀ s) (hw₀ : 32 ||| w₀ = w₀) :
    Frame w₀ s₀ (landHost s).2 := by
  refine h₀.trans 32 ?_ hw₀
  clear h₀ hw₀
  unfold landHost
  repeat' first
      | with_reducible exact Frame.refl
      | ((first | intro x | (lift_lets -underBinder; intro x)); first
      | clear_value x)
      | ((with_reducible refine Frame.setHostReads ?_ ?_); on_goal 2 => rfl)

theorem landAu_frame {w₀ : Nat} {s₀ : State}  {s : State} (h₀ : Frame w₀ s₀ s) (hw₀ : 90202710016 ||| w₀ = w₀) :
    Frame w₀ s₀ (landAu s).2 := by
  refine h₀.trans 90202710016 ?_ hw₀
  clear h₀ hw₀
  unfold landAu
  repeat' first
      | with_reducible assumption
      | with_reducible exact Frame.refl
      | ((first | intro x | (lift_lets -underBinder; intro x)); first
      | (refine Frame.cut (w := 90202710016) (s := s) (x := x) ?_ fun _ => ?_; (on_goal 1 => try dsimp only [x]); (on_goal 2 => clear_value x)))
      | ((with_reducible refine State.auEvent_frame ?_ ?_); on_goal 2 => rfl)
      | ((with_reducible refine raiseFault_frame ?_ ?_); on_goal 2 => rfl)
      | ((with_reducible refine homeUnitDone_frame ?_ ?_); on_goal 2 => rfl)
      | ((with_reducible refine sigsDone_frame ?_ ?_); on_goal 2 => rfl)
      | ((with_reducible refine homeRetire_frame ?_ ?_); on_goal 2 => rfl)
      | ((with_reducible refine Frame.updAuSoft (f := _) ?_ ?_ ?_); (on_goal 1 => (intro _; unfold Au.rest; rfl)); on_goal 2 => rfl)
      | with_reducible refine Frame.forAll (fun _ s => ?_) _ ?_

theorem landAnswer_frame {w₀ : Nat} {s₀ : State} {t1 : Bool} {u : Nat} {s : State} (h₀ : Frame w₀ s₀ s) (hw₀ : 52868006273056 ||| w₀ = w₀) :
    Frame w₀ s₀ (landAnswer t1 u s).2 := by
  refine h₀.trans 52868006273056 ?_ hw₀
  clear h₀ hw₀
  unfold landAnswer
  repeat' first
      | with_reducible exact Frame.refl
      | ((with_reducible refine eachAns_frame (fun _ s => ?_) ?_ ?_); on_goal 3 => rfl)
      | ((with_reducible refine landTx_frame ?_ ?_); on_goal 2 => rfl)
      | ((with_reducible refine landRx_frame ?_ ?_); on_goal 2 => rfl)
      | ((with_reducible refine lineAbort_frame ?_ ?_); on_goal 2 => rfl)
      | ((with_reducible refine landMover_frame ?_ ?_); on_goal 2 => rfl)
      | ((with_reducible refine landRed_frame ?_ ?_); on_goal 2 => rfl)
      | ((with_reducible refine landHost_frame ?_ ?_); on_goal 2 => rfl)
      | ((with_reducible refine landAu_frame ?_ ?_); on_goal 2 => rfl)
      | with_reducible refine Frame.ite2 ?_ ?_

theorem unitReset_frame {w₀ : Nat} {s₀ : State} {u : Nat} {s : State} (h₀ : Frame w₀ s₀ s) (hw₀ : 64424509504 ||| w₀ = w₀) :
    Frame w₀ s₀ (unitReset u s) := by
  refine h₀.trans 64424509504 ?_ hw₀
  clear h₀ hw₀
  unfold unitReset
  repeat' first
      | with_reducible assumption
      | with_reducible exact Frame.refl
      | ((first | intro x | (lift_lets -underBinder; intro x)); first
      | (refine Frame.cut (w := 64424509504) (s := s) (x := x) ?_ fun _ => ?_; (on_goal 1 => try dsimp only [x]); (on_goal 2 => clear_value x)))
      | ((with_reducible refine forfeitLease_frame ?_ ?_); on_goal 2 => rfl)
      | ((with_reducible refine Frame.updFcu ?_ ?_); on_goal 2 => rfl)
      | ((with_reducible refine Frame.updHr ?_ ?_); on_goal 2 => rfl)

theorem landLeave_frame {w₀ : Nat} {s₀ : State} {u : Nat} {s : State} (h₀ : Frame w₀ s₀ s) (hw₀ : 120259084288 ||| w₀ = w₀) :
    Frame w₀ s₀ (landLeave u s) := by
  refine h₀.trans 120259084288 ?_ hw₀
  clear h₀ hw₀
  unfold landLeave
  repeat' first
      | with_reducible exact Frame.refl
      | ((with_reducible refine rushesBlock_frame ?_ ?_); on_goal 2 => rfl)
      | ((with_reducible refine Frame.updHr ?_ ?_); on_goal 2 => rfl)

theorem fetchAgain_frame {w₀ : Nat} {s₀ : State} {q : Nat} {s : State} (h₀ : Frame w₀ s₀ s) (hw₀ : 52849606133818 ||| w₀ = w₀) :
    Frame w₀ s₀ (fetchAgain q s) := by
  refine h₀.trans 52849606133818 ?_ hw₀
  clear h₀ hw₀
  unfold fetchAgain
  repeat' first
      | with_reducible exact Frame.refl
      | ((first | intro x | (lift_lets -underBinder; intro x)); first
      | clear_value x)
      | ((with_reducible refine fetchAsk_frame ?_ ?_); on_goal 2 => rfl)
      | ((with_reducible refine feKick_frame ?_ ?_); on_goal 2 => rfl)
      | with_reducible refine Frame.ite ?_ ?_
      | split

theorem fetchAllAgain_frame {w₀ : Nat} {s₀ : State}  {s : State} (h₀ : Frame w₀ s₀ s) (hw₀ : 52849606133818 ||| w₀ = w₀) :
    Frame w₀ s₀ (fetchAllAgain s) := by
  refine h₀.trans 52849606133818 ?_ hw₀
  clear h₀ hw₀
  unfold fetchAllAgain
  repeat' first
      | with_reducible exact Frame.refl
      | ((with_reducible refine fetchAgain_frame ?_ ?_); on_goal 2 => rfl)
      | with_reducible refine Frame.forAll (fun _ s => ?_) _ ?_

theorem landUnits_frame {w₀ : Nat} {s₀ : State} {t1 : Bool} {stays : Bool} {us : List Nat} {s : State} (h₀ : Frame w₀ s₀ s) (hw₀ : 52910955948154 ||| w₀ = w₀) :
    Frame w₀ s₀ (landUnits t1 stays us s).2 := by
  refine h₀.trans 52910955948154 ?_ hw₀
  clear h₀ hw₀
  unfold landUnits
  repeat' first
      | with_reducible assumption
      | with_reducible exact Frame.refl
      | ((first | intro x | (lift_lets -underBinder; intro x)); first
      | (refine Frame.cut (w := 52910955948154) (s := s) (x := x) ?_ fun _ => ?_; (on_goal 1 => try dsimp only [x]); (on_goal 2 => clear_value x)))
      | ((with_reducible refine eachAns_frame (fun _ s => ?_) ?_ ?_); on_goal 3 => rfl)
      | ((with_reducible refine landAnswer_frame ?_ ?_); on_goal 2 => rfl)
      | ((with_reducible refine unitReset_frame ?_ ?_); on_goal 2 => rfl)
      | ((with_reducible refine landLeave_frame ?_ ?_); on_goal 2 => rfl)
      | ((with_reducible refine fetchAllAgain_frame ?_ ?_); on_goal 2 => rfl)
      | with_reducible refine Frame.forAll (fun _ s => ?_) _ ?_
      | dsimp -zeta only
      | with_reducible refine Frame.ite ?_ ?_

theorem linkEnables_frame {w₀ : Nat} {s₀ : State}  {s : State} (h₀ : Frame w₀ s₀ s) (hw₀ : 6 ||| w₀ = w₀) :
    Frame w₀ s₀ (linkEnables s) := by
  refine h₀.trans 6 ?_ hw₀
  clear h₀ hw₀
  unfold linkEnables
  repeat' first
      | with_reducible exact Frame.refl
      | ((first | intro x | (lift_lets -underBinder; intro x)); first
      | clear_value x)
      | ((with_reducible refine Frame.updPins ?_ ?_); on_goal 2 => rfl)

theorem txSliceLost_frame {w₀ : Nat} {s₀ : State} {hold : Bool} {voided : List (Nat × Chunk)} {i : Nat} {s : State} (h₀ : Frame w₀ s₀ s) (hw₀ : 24576 ||| w₀ = w₀) :
    Frame w₀ s₀ (txSliceLost hold voided i s).2 := by
  refine h₀.trans 24576 ?_ hw₀
  clear h₀ hw₀
  unfold txSliceLost
  repeat' first
      | with_reducible exact Frame.refl
      | ((first | intro x | (lift_lets -underBinder; intro x)); first
      | clear_value x)
      | ((with_reducible refine offerAgain_frame ?_ ?_); on_goal 2 => rfl)
      | ((with_reducible refine txBreak_frame ?_ ?_); on_goal 2 => rfl)
      | ((with_reducible refine txMove_frame ?_ ?_); on_goal 2 => rfl)
      | ((with_reducible refine moveResync_frame ?_ ?_); on_goal 2 => rfl)
      | with_reducible refine Frame.forAll (fun _ s => ?_) _ ?_
      | dsimp -zeta only
      | with_reducible refine Frame.ite2 ?_ ?_

theorem rxSliceLost_frame {w₀ : Nat} {s₀ : State} {hold : Bool} {i : Nat} {s : State} (h₀ : Frame w₀ s₀ s) (hw₀ : 52867963215960 ||| w₀ = w₀) :
    Frame w₀ s₀ (rxSliceLost hold i s).2 := by
  refine h₀.trans 52867963215960 ?_ hw₀
  clear h₀ hw₀
  unfold rxSliceLost
  repeat' first
      | with_reducible exact Frame.refl
      | ((first | intro x | (lift_lets -underBinder; intro x)); first
      | clear_value x)
      | ((with_reducible refine State.lsEvent_frame ?_ ?_); on_goal 2 => rfl)
      | ((with_reducible refine updRx_frame ?_ ?_); on_goal 2 => rfl)
      | ((with_reducible refine rxBreak_frame ?_ ?_); on_goal 2 => rfl)
      | with_reducible refine Frame.ite2 ?_ ?_

theorem laneStops_frame {w₀ : Nat} {s₀ : State} {hold : Bool} {lane : Nat} {s : State} (h₀ : Frame w₀ s₀ s) (hw₀ : 52867963215960 ||| w₀ = w₀) :
    Frame w₀ s₀ (laneStops hold lane s).2 := by
  refine h₀.trans 52867963215960 ?_ hw₀
  clear h₀ hw₀
  unfold laneStops
  repeat' first
      | with_reducible assumption
      | with_reducible exact Frame.refl
      | ((first | intro x | (lift_lets -underBinder; intro x)); first
      | (refine Frame.cut (w := 52867963215960) (s := s) (x := x) ?_ fun _ => ?_; (on_goal 1 => try dsimp only [x]); (on_goal 2 => clear_value x))
      | clear_value x)
      | ((with_reducible refine txCount_frame ?_ ?_); on_goal 2 => rfl)
      | ((with_reducible refine updLane_frame ?_ ?_); on_goal 2 => rfl)
      | ((with_reducible refine eachAns_frame (fun _ s => ?_) ?_ ?_); on_goal 3 => rfl)
      | ((with_reducible refine txSliceLost_frame ?_ ?_); on_goal 2 => rfl)
      | ((with_reducible refine rxSliceLost_frame ?_ ?_); on_goal 2 => rfl)
      | ((with_reducible refine Frame.emit ?_ ?_); on_goal 2 => rfl)
      | with_reducible refine Frame.ite ?_ ?_

theorem txReturns_frame {w₀ : Nat} {s₀ : State} {i : Nat} {s : State} (h₀ : Frame w₀ s₀ s) (hw₀ : 8192 ||| w₀ = w₀) :
    Frame w₀ s₀ (txReturns i s).2 := by
  refine h₀.trans 8192 ?_ hw₀
  clear h₀ hw₀
  unfold txReturns
  repeat' first
      | with_reducible assumption
      | with_reducible exact Frame.refl
      | ((first | intro x | (lift_lets -underBinder; intro x)); first
      | (refine Frame.cut (w := 8192) (s := s) (x := x) ?_ fun _ => ?_; (on_goal 1 => try dsimp only [x]); (on_goal 2 => clear_value x))
      | clear_value x)
      | ((with_reducible refine updTx_frame ?_ ?_); on_goal 2 => rfl)
      | ((with_reducible refine gapFirst_frame ?_ ?_); on_goal 2 => rfl)
      | ((with_reducible refine moveResync_frame ?_ ?_); on_goal 2 => rfl)
      | dsimp -zeta only
      | with_reducible refine Frame.ite2 ?_ ?_

theorem laneReturns_frame {w₀ : Nat} {s₀ : State} {lane : Nat} {s : State} (h₀ : Frame w₀ s₀ s) (hw₀ : 8192 ||| w₀ = w₀) :
    Frame w₀ s₀ (laneReturns lane s).2 := by
  refine h₀.trans 8192 ?_ hw₀
  clear h₀ hw₀
  unfold laneReturns
  repeat' first
      | with_reducible exact Frame.refl
      | ((with_reducible refine eachAns_frame (fun _ s => ?_) ?_ ?_); on_goal 3 => rfl)
      | ((with_reducible refine txReturns_frame ?_ ?_); on_goal 2 => rfl)

theorem redirectLines_frame {w₀ : Nat} {s₀ : State}  {s : State} (h₀ : Frame w₀ s₀ s) (hw₀ : 32768 ||| w₀ = w₀) :
    Frame w₀ s₀ (redirectLines s) := by
  refine h₀.trans 32768 ?_ hw₀
  clear h₀ hw₀
  unfold redirectLines
  repeat' first
      | with_reducible exact Frame.refl
      | ((with_reducible refine Frame.updLnSoft (f := _) ?_ ?_ ?_); (on_goal 1 => (intro _; unfold Ln.rest; rfl)); on_goal 2 => rfl)

end Sys2Proof.Machine
end

