-- ==== Sys2Proof/Laws/FrReset.lean ====
section
/-! SUPPORT. What each operation of Machine/Reset.lean may change (see Frame.lean). -/

namespace Sys2Proof.Machine

-- One declaration at a time, so that the elaborator holds few threads (each takes stack of its own).
set_option Elab.async false

theorem hrFinish_frame {w₀ : Nat} {s₀ : State} {st : Status} {s : State} (h₀ : Frame w₀ s₀ s) (hw₀ : 51539607552 ||| w₀ = w₀) :
    Frame w₀ s₀ (hrFinish st s) := by
  refine h₀.trans 51539607552 ?_ hw₀
  clear h₀ hw₀
  unfold hrFinish
  repeat' first
      | with_reducible exact Frame.refl
      | ((with_reducible refine Frame.updHr ?_ ?_); on_goal 2 => rfl)

theorem waiterDone_frame {w₀ : Nat} {s₀ : State} {w : Waiter} {s : State} (h₀ : Frame w₀ s₀ s) (hw₀ : 2250562863104 ||| w₀ = w₀) :
    Frame w₀ s₀ (waiterDone w s) := by
  refine h₀.trans 2250562863104 ?_ hw₀
  clear h₀ hw₀
  unfold waiterDone
  repeat' first
      | with_reducible exact Frame.refl
      | ((with_reducible refine answerAll_frame ?_ ?_); on_goal 2 => rfl)
      | ((with_reducible refine hrFinish_frame ?_ ?_); on_goal 2 => rfl)
      | with_reducible refine Frame.ite ?_ ?_

theorem treadAdd_frame {w₀ : Nat} {s₀ : State} {t : Nat} {target : Nat} {missed : Bool} {w : Waiter} {s : State} (h₀ : Frame w₀ s₀ s) (hw₀ : 51539607552 ||| w₀ = w₀) :
    Frame w₀ s₀ (treadAdd t target missed w s) := by
  refine h₀.trans 51539607552 ?_ hw₀
  clear h₀ hw₀
  unfold treadAdd
  repeat' first
      | with_reducible exact Frame.refl
      | ((first | intro x | (lift_lets -underBinder; intro x)); first
      | clear_value x)
      | ((with_reducible refine Frame.updHr ?_ ?_); on_goal 2 => rfl)

theorem treadJoin_frame {w₀ : Nat} {s₀ : State} {t : Nat} {target : Nat} {w : Waiter} {s : State} (h₀ : Frame w₀ s₀ s) (hw₀ : 51539607552 ||| w₀ = w₀) :
    Frame w₀ s₀ (treadJoin t target w s) := by
  refine h₀.trans 51539607552 ?_ hw₀
  clear h₀ hw₀
  unfold treadJoin
  repeat' first
      | with_reducible exact Frame.refl
      | ((with_reducible refine Frame.updHr ?_ ?_); on_goal 2 => rfl)

theorem treadOver_frame {w₀ : Nat} {s₀ : State} {t : Nat} {target : Nat} {s : State} (h₀ : Frame w₀ s₀ s) (hw₀ : 2250562863104 ||| w₀ = w₀) :
    Frame w₀ s₀ (treadOver t target s) := by
  refine h₀.trans 2250562863104 ?_ hw₀
  clear h₀ hw₀
  unfold treadOver
  repeat' first
      | with_reducible exact Frame.refl
      | ((with_reducible refine waiterDone_frame ?_ ?_); on_goal 2 => rfl)
      | ((with_reducible refine Frame.updHr ?_ ?_); on_goal 2 => rfl)
      | split

theorem stairFault_frame {w₀ : Nat} {s₀ : State} {kind : Nat} {detail : Nat} {inj : Bool} {s : State} (h₀ : Frame w₀ s₀ s) (hw₀ : 73014444032 ||| w₀ = w₀) :
    Frame w₀ s₀ (stairFault kind detail inj s) := by
  refine h₀.trans 73014444032 ?_ hw₀
  clear h₀ hw₀
  unfold stairFault
  repeat' first
      | with_reducible exact Frame.refl
      | ((with_reducible refine sendFault_frame ?_ ?_); on_goal 2 => rfl)

theorem t0Start_frame {w₀ : Nat} {s₀ : State} {q : Nat} {cause : Status} {s : State} (h₀ : Frame w₀ s₀ s) (hw₀ : 52864238493730 ||| w₀ = w₀) :
    Frame w₀ s₀ (t0Start q cause s) := by
  refine h₀.trans 52864238493730 ?_ hw₀
  clear h₀ hw₀
  unfold t0Start
  repeat' first
      | with_reducible assumption
      | with_reducible exact Frame.refl
      | ((first | intro x | (lift_lets -underBinder; intro x)); first
      | (refine Frame.cut (w := 52864238493730) (s := s) (x := x) ?_ fun _ => ?_; (on_goal 1 => try dsimp only [x]); (on_goal 2 => clear_value x))
      | clear_value x)
      | ((with_reducible refine updQueue_frame ?_ ?_); on_goal 2 => rfl)
      | ((with_reducible refine endWait_frame ?_ ?_); on_goal 2 => rfl)
      | ((with_reducible refine sendTokens_frame ?_ ?_); on_goal 2 => rfl)
      | ((with_reducible refine queueLeaves_frame ?_ ?_); on_goal 2 => rfl)
      | with_reducible refine Frame.ite ?_ ?_

theorem t0Sweep_frame {w₀ : Nat} {s₀ : State}  {s : State} (h₀ : Frame w₀ s₀ s) (hw₀ : 2250562863104 ||| w₀ = w₀) :
    Frame w₀ s₀ (t0Sweep s) := by
  refine h₀.trans 2250562863104 ?_ hw₀
  clear h₀ hw₀
  unfold t0Sweep
  repeat' first
      | with_reducible exact Frame.refl
      | ((first | intro x | (lift_lets -underBinder; intro x)); first
      | clear_value x)
      | ((with_reducible refine treadOver_frame ?_ ?_); on_goal 2 => rfl)
      | with_reducible refine Frame.forAll (fun _ s => ?_) _ ?_

theorem t0Order_frame {w₀ : Nat} {s₀ : State} {target : Nat} {guilty : Option Nat} {w : Waiter} {s : State} (h₀ : Frame w₀ s₀ s) (hw₀ : 55097621487650 ||| w₀ = w₀) :
    Frame w₀ s₀ (t0Order target guilty w s) := by
  refine h₀.trans 55097621487650 ?_ hw₀
  clear h₀ hw₀
  unfold t0Order
  repeat' first
      | with_reducible assumption
      | with_reducible exact Frame.refl
      | ((first | intro x | (lift_lets -underBinder; intro x)); first
      | (refine Frame.cut (w := 55097621487650) (s := s) (x := x) ?_ fun _ => ?_; (on_goal 1 => try dsimp only [x]); (on_goal 2 => clear_value x)))
      | ((with_reducible refine State.hrCount_frame ?_ ?_); on_goal 2 => rfl)
      | ((with_reducible refine treadAdd_frame ?_ ?_); on_goal 2 => rfl)
      | ((with_reducible refine treadJoin_frame ?_ ?_); on_goal 2 => rfl)
      | ((with_reducible refine t0Start_frame ?_ ?_); on_goal 2 => rfl)
      | ((with_reducible refine t0Sweep_frame ?_ ?_); on_goal 2 => rfl)
      | with_reducible refine Frame.forAll (fun _ s => ?_) _ ?_
      | with_reducible refine Frame.ite ?_ ?_

theorem t0FinishOp_frame {w₀ : Nat} {s₀ : State} {q : Nat} {s : State} (h₀ : Frame w₀ s₀ s) (hw₀ : 41834625630208 ||| w₀ = w₀) :
    Frame w₀ s₀ (t0FinishOp q s) := by
  refine h₀.trans 41834625630208 ?_ hw₀
  clear h₀ hw₀
  unfold t0FinishOp
  repeat' first
      | with_reducible assumption
      | with_reducible exact Frame.refl
      | ((first | intro x | (lift_lets -underBinder; intro x)); first
      | (refine Frame.cut (w := 41834625630208) (s := s) (x := x) ?_ fun _ => ?_; (on_goal 1 => try dsimp only [x]); (on_goal 2 => clear_value x))
      | clear_value x)
      | ((with_reducible refine updQueue_frame ?_ ?_); on_goal 2 => rfl)
      | ((with_reducible refine faultFence_frame ?_ ?_); on_goal 2 => rfl)
      | ((with_reducible refine t0Sweep_frame ?_ ?_); on_goal 2 => rfl)
      | with_reducible refine Frame.forAll (fun _ s => ?_) _ ?_
      | with_reducible refine Frame.ite ?_ ?_

theorem outsideAborted_frame {w₀ : Nat} {s₀ : State}  {s : State} (h₀ : Frame w₀ s₀ s) (hw₀ : 35184372088832 ||| w₀ = w₀) :
    Frame w₀ s₀ (outsideAborted s) := by
  refine h₀.trans 35184372088832 ?_ hw₀
  clear h₀ hw₀
  unfold outsideAborted
  repeat' first
      | with_reducible exact Frame.refl
      | ((with_reducible refine cpAnswer_frame ?_ ?_); on_goal 2 => rfl)
      | ((with_reducible refine Frame.emit ?_ ?_); on_goal 2 => rfl)
      | with_reducible refine Frame.forAll (fun _ s => ?_) _ ?_
      | split

theorem t3State_frame {w₀ : Nat} {s₀ s : State} (h₀ : Frame w₀ s₀ s) (hw₀ : 78065325571070 ||| w₀ = w₀) :
    Frame w₀ s₀ (t3State s) :=
  h₀.trans 78065325571070 (by
    constructor <;> first
        | exact fun i => absurd i (by decide)
        | exact fun _ => rfl
        | exact fun _ => ⟨rfl, rfl⟩
        | exact ⟨List.suffix_refl _, Nat.le_refl _, Nat.le_refl _⟩
        | exact ⟨id, fun _ => rfl, fun _ => rfl, id, fun _ => BitVec.or_self⟩
        | exact ⟨id, fun _ => rfl, fun h => keysOk_filter _ h, id, fun _ => BitVec.or_self⟩) hw₀

theorem t3End_frame {w₀ : Nat} {s₀ : State}  {s : State} (h₀ : Frame w₀ s₀ s) (hw₀ : 113249697659902 ||| w₀ = w₀) :
    Frame w₀ s₀ (t3End s) := by
  refine h₀.trans 113249697659902 ?_ hw₀
  clear h₀ hw₀
  unfold t3End
  repeat' first
      | with_reducible assumption
      | with_reducible exact Frame.refl
      | ((first | intro x | (lift_lets -underBinder; intro x)); first
      | (refine Frame.cut (w := 113249697659902) (s := s) (x := x) ?_ fun _ => ?_; (on_goal 1 => try dsimp only [x]); (on_goal 2 => clear_value x))
      | clear_value x)
      | ((with_reducible refine faultFence_frame ?_ ?_); on_goal 2 => rfl)
      | ((with_reducible refine outsideAborted_frame ?_ ?_); on_goal 2 => rfl)
      | ((with_reducible refine t3State_frame ?_ ?_); on_goal 2 => rfl)
      | with_reducible refine Frame.forAll (fun _ s => ?_) _ ?_

theorem cutDisarmed_frame {w₀ : Nat} {s₀ : State}  {s : State} (h₀ : Frame w₀ s₀ s) (hw₀ : 206158430208 ||| w₀ = w₀) :
    Frame w₀ s₀ (cutDisarmed s) := by
  refine h₀.trans 206158430208 ?_ hw₀
  clear h₀ hw₀
  unfold cutDisarmed
  repeat' first
      | with_reducible exact Frame.refl
      | ((with_reducible refine Frame.updDbg ?_ ?_); on_goal 2 => rfl)

theorem t3Order_frame {w₀ : Nat} {s₀ : State} {w : Waiter} {s : State} (h₀ : Frame w₀ s₀ s) (hw₀ : 113249697659902 ||| w₀ = w₀) :
    Frame w₀ s₀ (t3Order w s).2 := by
  refine h₀.trans 113249697659902 ?_ hw₀
  clear h₀ hw₀
  unfold t3Order
  repeat' first
      | with_reducible assumption
      | with_reducible exact Frame.refl
      | ((first | intro x | (lift_lets -underBinder; intro x)); first
      | (refine Frame.cut (w := 113249697659902) (s := s) (x := x) ?_ fun _ => ?_; (on_goal 1 => try dsimp only [x]); (on_goal 2 => clear_value x))
      | clear_value x)
      | ((with_reducible refine State.hrCount_frame ?_ ?_); on_goal 2 => rfl)
      | ((with_reducible refine eachAns_frame (fun _ s => ?_) ?_ ?_); on_goal 3 => rfl)
      | ((with_reducible refine landEnter_frame ?_ ?_); on_goal 2 => rfl)
      | ((with_reducible refine treadAdd_frame ?_ ?_); on_goal 2 => rfl)
      | ((with_reducible refine treadJoin_frame ?_ ?_); on_goal 2 => rfl)
      | ((with_reducible refine t3End_frame ?_ ?_); on_goal 2 => rfl)
      | ((with_reducible refine cutDisarmed_frame ?_ ?_); on_goal 2 => rfl)
      | ((with_reducible refine Frame.updHr ?_ ?_); on_goal 2 => rfl)
      | dsimp -zeta only
      | with_reducible refine Frame.ite2 ?_ ?_

theorem t2Missed_frame {w₀ : Nat} {s₀ : State} {k : Nat} {inj : Bool} {s : State} (h₀ : Frame w₀ s₀ s) (hw₀ : 113249697659902 ||| w₀ = w₀) :
    Frame w₀ s₀ (t2Missed k inj s).2 := by
  refine h₀.trans 113249697659902 ?_ hw₀
  clear h₀ hw₀
  unfold t2Missed
  repeat' first
      | with_reducible assumption
      | with_reducible exact Frame.refl
      | ((first | intro x | (lift_lets -underBinder; intro x)); first
      | (refine Frame.cut (w := 113249697659902) (s := s) (x := x) ?_ fun _ => ?_; (on_goal 1 => try dsimp only [x]); (on_goal 2 => clear_value x)))
      | ((with_reducible refine State.hrEvent_frame ?_ ?_); on_goal 2 => rfl)
      | ((with_reducible refine State.hrCount_frame ?_ ?_); on_goal 2 => rfl)
      | ((with_reducible refine stairFault_frame ?_ ?_); on_goal 2 => rfl)
      | ((with_reducible refine t3Order_frame ?_ ?_); on_goal 2 => rfl)
      | with_reducible refine Frame.ite2 ?_ ?_

theorem retireWork_frame {w₀ : Nat} {s₀ : State} {k : Nat} {s : State} (h₀ : Frame w₀ s₀ s) (hw₀ : 87143481344 ||| w₀ = w₀) :
    Frame w₀ s₀ (retireWork k s) := by
  refine h₀.trans 87143481344 ?_ hw₀
  clear h₀ hw₀
  unfold retireWork
  repeat' first
      | with_reducible assumption
      | with_reducible exact Frame.refl
      | ((first | intro x | (lift_lets -underBinder; intro x)); first
      | (refine Frame.cut (w := 87143481344) (s := s) (x := x) ?_ fun _ => ?_; (on_goal 1 => try dsimp only [x]); (on_goal 2 => clear_value x))
      | (refine Frame.cutFn2 (w := 87143481344) (f := x) ?_ fun _ => ?_; (on_goal 1 => intro _ s; try dsimp only [x]); (on_goal 2 => clear_value x)))
      | ((with_reducible refine hallCount_frame ?_ ?_); on_goal 2 => rfl)
      | ((with_reducible refine workEnd_frame ?_ ?_); on_goal 2 => rfl)
      | ((with_reducible refine updMover_frame ?_ ?_); on_goal 2 => rfl)
      | ((with_reducible refine updRed_frame ?_ ?_); on_goal 2 => rfl)
      | with_reducible refine Frame.forAll (fun _ s => ?_) _ ?_
      | with_reducible refine Frame.app2 ‹_› ?_
      | split

theorem t2End_frame {w₀ : Nat} {s₀ : State} {k : Nat} {s : State} (h₀ : Frame w₀ s₀ s) (hw₀ : 130841883704318 ||| w₀ = w₀) :
    Frame w₀ s₀ (t2End k s).2 := by
  refine h₀.trans 130841883704318 ?_ hw₀
  clear h₀ hw₀
  unfold t2End
  repeat' first
      | with_reducible assumption
      | with_reducible exact Frame.refl
      | ((first | intro x | (lift_lets -underBinder; intro x)); first
      | (refine Frame.cut (w := 130841883704318) (s := s) (x := x) ?_ fun _ => ?_; (on_goal 1 => try dsimp only [x]); (on_goal 2 => clear_value x))
      | (refine Frame.cut2 (w := 130841883704318) (s := s) (x := x) ?_ fun _ => ?_; (on_goal 1 => try dsimp only [x]); (on_goal 2 => clear_value x))
      | clear_value x)
      | ((with_reducible refine State.fcuEvent_frame ?_ ?_); on_goal 2 => rfl)
      | ((with_reducible refine eachAns_frame (fun _ s => ?_) ?_ ?_); on_goal 3 => rfl)
      | ((with_reducible refine landUnits_frame ?_ ?_); on_goal 2 => rfl)
      | ((with_reducible refine linkEnables_frame ?_ ?_); on_goal 2 => rfl)
      | ((with_reducible refine laneStops_frame ?_ ?_); on_goal 2 => rfl)
      | ((with_reducible refine laneReturns_frame ?_ ?_); on_goal 2 => rfl)
      | ((with_reducible refine treadOver_frame ?_ ?_); on_goal 2 => rfl)
      | ((with_reducible refine t2Missed_frame ?_ ?_); on_goal 2 => rfl)
      | ((with_reducible refine retireWork_frame ?_ ?_); on_goal 2 => rfl)
      | ((with_reducible refine Frame.updFcu ?_ ?_); on_goal 2 => rfl)
      | dsimp -zeta only
      | with_reducible refine Frame.ite2 ?_ ?_
      | split

theorem t2Order_frame {w₀ : Nat} {s₀ : State} {k : Nat} {w : Waiter} {s : State} (h₀ : Frame w₀ s₀ s) (hw₀ : 130841883704318 ||| w₀ = w₀) :
    Frame w₀ s₀ (t2Order k w s).2 := by
  refine h₀.trans 130841883704318 ?_ hw₀
  clear h₀ hw₀
  unfold t2Order
  repeat' first
      | with_reducible assumption
      | with_reducible exact Frame.refl
      | ((first | intro x | (lift_lets -underBinder; intro x)); first
      | (refine Frame.cut (w := 130841883704318) (s := s) (x := x) ?_ fun _ => ?_; (on_goal 1 => try dsimp only [x]); (on_goal 2 => clear_value x))
      | clear_value x)
      | ((with_reducible refine State.hrCount_frame ?_ ?_); on_goal 2 => rfl)
      | ((with_reducible refine injFired_frame ?_ ?_); on_goal 2 => rfl)
      | ((with_reducible refine eachAns_frame (fun _ s => ?_) ?_ ?_); on_goal 3 => rfl)
      | ((with_reducible refine timeDiscard_frame ?_ ?_); on_goal 2 => rfl)
      | ((with_reducible refine landEnter_frame ?_ ?_); on_goal 2 => rfl)
      | ((with_reducible refine linkEnables_frame ?_ ?_); on_goal 2 => rfl)
      | ((with_reducible refine laneStops_frame ?_ ?_); on_goal 2 => rfl)
      | ((with_reducible refine redirectLines_frame ?_ ?_); on_goal 2 => rfl)
      | ((with_reducible refine treadAdd_frame ?_ ?_); on_goal 2 => rfl)
      | ((with_reducible refine treadJoin_frame ?_ ?_); on_goal 2 => rfl)
      | ((with_reducible refine t2End_frame ?_ ?_); on_goal 2 => rfl)
      | ((with_reducible refine Frame.updFcu ?_ ?_); on_goal 2 => rfl)
      | ((with_reducible refine Frame.updHr ?_ ?_); on_goal 2 => rfl)
      | dsimp -zeta only
      | with_reducible refine Frame.ite ?_ ?_
      | with_reducible refine Frame.ite2 ?_ ?_

theorem slotOut_frame {w₀ : Nat} {s₀ : State} {e : Nat} {s : State} (h₀ : Frame w₀ s₀ s) (hw₀ : 121500598272 ||| w₀ = w₀) :
    Frame w₀ s₀ (slotOut e s) := by
  refine h₀.trans 121500598272 ?_ hw₀
  clear h₀ hw₀
  unfold slotOut
  repeat' first
      | with_reducible assumption
      | with_reducible exact Frame.refl
      | ((first | intro x | (lift_lets -underBinder; intro x)); first
      | (refine Frame.cut (w := 121500598272) (s := s) (x := x) ?_ fun _ => ?_; (on_goal 1 => try dsimp only [x]); (on_goal 2 => clear_value x))
      | clear_value x)
      | ((with_reducible refine State.hrEvent_frame ?_ ?_); on_goal 2 => rfl)
      | ((with_reducible refine workEnd_frame ?_ ?_); on_goal 2 => rfl)
      | ((with_reducible refine updSlot_frame ?_ ?_); on_goal 2 => rfl)
      | ((with_reducible refine ackAll_frame ?_ ?_); on_goal 2 => rfl)
      | ((with_reducible refine Frame.updHr ?_ ?_); on_goal 2 => rfl)
      | with_reducible refine Frame.forAll (fun _ s => ?_) _ ?_

theorem t1Missed_frame {w₀ : Nat} {s₀ : State} {u : Nat} {inj : Bool} {s : State} (h₀ : Frame w₀ s₀ s) (hw₀ : 130841883704318 ||| w₀ = w₀) :
    Frame w₀ s₀ (t1Missed u inj s).2 := by
  refine h₀.trans 130841883704318 ?_ hw₀
  clear h₀ hw₀
  unfold t1Missed
  repeat' first
      | with_reducible assumption
      | with_reducible exact Frame.refl
      | ((first | intro x | (lift_lets -underBinder; intro x)); first
      | (refine Frame.cut (w := 130841883704318) (s := s) (x := x) ?_ fun _ => ?_; (on_goal 1 => try dsimp only [x]); (on_goal 2 => clear_value x)))
      | ((with_reducible refine State.hrEvent_frame ?_ ?_); on_goal 2 => rfl)
      | ((with_reducible refine State.hrCount_frame ?_ ?_); on_goal 2 => rfl)
      | ((with_reducible refine stairFault_frame ?_ ?_); on_goal 2 => rfl)
      | ((with_reducible refine t3Order_frame ?_ ?_); on_goal 2 => rfl)
      | ((with_reducible refine t2Order_frame ?_ ?_); on_goal 2 => rfl)
      | with_reducible refine Frame.ite2 ?_ ?_
      | split

theorem t1End_frame {w₀ : Nat} {s₀ : State} {u : Nat} {s : State} (h₀ : Frame w₀ s₀ s) (hw₀ : 130841883704318 ||| w₀ = w₀) :
    Frame w₀ s₀ (t1End u s).2 := by
  refine h₀.trans 130841883704318 ?_ hw₀
  clear h₀ hw₀
  unfold t1End
  repeat' first
      | with_reducible assumption
      | with_reducible exact Frame.refl
      | ((first | intro x | (lift_lets -underBinder; intro x)); first
      | (refine Frame.cut (w := 130841883704318) (s := s) (x := x) ?_ fun _ => ?_; (on_goal 1 => try dsimp only [x]); (on_goal 2 => clear_value x)))
      | ((with_reducible refine landUnits_frame ?_ ?_); on_goal 2 => rfl)
      | ((with_reducible refine treadOver_frame ?_ ?_); on_goal 2 => rfl)
      | ((with_reducible refine t1Missed_frame ?_ ?_); on_goal 2 => rfl)
      | dsimp -zeta only
      | with_reducible refine Frame.ite2 ?_ ?_
      | split

theorem t1Order_frame {w₀ : Nat} {s₀ : State} {u : Nat} {w : Waiter} {s : State} (h₀ : Frame w₀ s₀ s) (hw₀ : 130841883704318 ||| w₀ = w₀) :
    Frame w₀ s₀ (t1Order u w s).2 := by
  refine h₀.trans 130841883704318 ?_ hw₀
  clear h₀ hw₀
  unfold t1Order
  repeat' first
      | with_reducible assumption
      | with_reducible exact Frame.refl
      | ((first | intro x | (lift_lets -underBinder; intro x)); first
      | (refine Frame.cut (w := 130841883704318) (s := s) (x := x) ?_ fun _ => ?_; (on_goal 1 => try dsimp only [x]); (on_goal 2 => clear_value x))
      | clear_value x)
      | ((with_reducible refine State.hrCount_frame ?_ ?_); on_goal 2 => rfl)
      | ((with_reducible refine injFired_frame ?_ ?_); on_goal 2 => rfl)
      | ((with_reducible refine landEnter_frame ?_ ?_); on_goal 2 => rfl)
      | ((with_reducible refine waiterDone_frame ?_ ?_); on_goal 2 => rfl)
      | ((with_reducible refine treadAdd_frame ?_ ?_); on_goal 2 => rfl)
      | ((with_reducible refine treadJoin_frame ?_ ?_); on_goal 2 => rfl)
      | ((with_reducible refine slotOut_frame ?_ ?_); on_goal 2 => rfl)
      | ((with_reducible refine t1End_frame ?_ ?_); on_goal 2 => rfl)
      | dsimp -zeta only
      | with_reducible refine Frame.ite ?_ ?_
      | with_reducible refine Frame.ite2 ?_ ?_

theorem t0Missed_frame {w₀ : Nat} {s₀ : State} {target : Nat} {s : State} (h₀ : Frame w₀ s₀ s) (hw₀ : 130841883704318 ||| w₀ = w₀) :
    Frame w₀ s₀ (t0Missed target s).2 := by
  refine h₀.trans 130841883704318 ?_ hw₀
  clear h₀ hw₀
  unfold t0Missed
  repeat' first
      | with_reducible assumption
      | with_reducible exact Frame.refl
      | ((first | intro x | (lift_lets -underBinder; intro x)); first
      | (refine Frame.cut (w := 130841883704318) (s := s) (x := x) ?_ fun _ => ?_; (on_goal 1 => try dsimp only [x]); (on_goal 2 => clear_value x))
      | clear_value x)
      | ((with_reducible refine State.hrEvent_frame ?_ ?_); on_goal 2 => rfl)
      | ((with_reducible refine State.hrCount_frame ?_ ?_); on_goal 2 => rfl)
      | ((with_reducible refine eachAns_frame (fun _ s => ?_) ?_ ?_); on_goal 3 => rfl)
      | ((with_reducible refine t1Order_frame ?_ ?_); on_goal 2 => rfl)
      | with_reducible refine Frame.ite2 ?_ ?_

theorem windowMiss_frame {w₀ : Nat} {s₀ : State} {t : Nat} {target : Nat} {s : State} (h₀ : Frame w₀ s₀ s) (hw₀ : 130841883704318 ||| w₀ = w₀) :
    Frame w₀ s₀ (windowMiss t target s).2 := by
  refine h₀.trans 130841883704318 ?_ hw₀
  clear h₀ hw₀
  unfold windowMiss
  repeat' first
      | with_reducible assumption
      | with_reducible exact Frame.refl
      | ((first | intro x | (lift_lets -underBinder; intro x)); first
      | (refine Frame.cut (w := 130841883704318) (s := s) (x := x) ?_ fun _ => ?_; (on_goal 1 => try dsimp only [x]); (on_goal 2 => clear_value x)))
      | ((with_reducible refine t2Missed_frame ?_ ?_); on_goal 2 => rfl)
      | ((with_reducible refine t1Missed_frame ?_ ?_); on_goal 2 => rfl)
      | ((with_reducible refine t0Missed_frame ?_ ?_); on_goal 2 => rfl)
      | ((with_reducible refine Frame.updHr ?_ ?_); on_goal 2 => rfl)
      | ((with_reducible refine Frame.updPins ?_ ?_); on_goal 2 => rfl)
      | with_reducible refine Frame.ite2 ?_ ?_
      | split

theorem drainEnd_frame {w₀ : Nat} {s₀ : State} {t : Nat} {target : Nat} {s : State} (h₀ : Frame w₀ s₀ s) (hw₀ : 130841883704318 ||| w₀ = w₀) :
    Frame w₀ s₀ (drainEnd t target s).2 := by
  refine h₀.trans 130841883704318 ?_ hw₀
  clear h₀ hw₀
  unfold drainEnd
  repeat' first
      | with_reducible exact Frame.refl
      | ((with_reducible refine t3End_frame ?_ ?_); on_goal 2 => rfl)
      | ((with_reducible refine t2End_frame ?_ ?_); on_goal 2 => rfl)
      | ((with_reducible refine t1End_frame ?_ ?_); on_goal 2 => rfl)
      | with_reducible refine Frame.ite2 ?_ ?_
      | split

theorem orderTread_frame {w₀ : Nat} {s₀ : State} {tread : Nat} {target : Nat} {w : Waiter} {s : State} (h₀ : Frame w₀ s₀ s) (hw₀ : 130841883704318 ||| w₀ = w₀) :
    Frame w₀ s₀ (orderTread tread target w s).2 := by
  refine h₀.trans 130841883704318 ?_ hw₀
  clear h₀ hw₀
  unfold orderTread
  repeat' first
      | with_reducible exact Frame.refl
      | ((with_reducible refine waiterDone_frame ?_ ?_); on_goal 2 => rfl)
      | ((with_reducible refine t0Order_frame ?_ ?_); on_goal 2 => rfl)
      | ((with_reducible refine t3Order_frame ?_ ?_); on_goal 2 => rfl)
      | ((with_reducible refine t2Order_frame ?_ ?_); on_goal 2 => rfl)
      | ((with_reducible refine t1Order_frame ?_ ?_); on_goal 2 => rfl)
      | ((with_reducible refine Frame.updPins ?_ ?_); on_goal 2 => rfl)
      | split

theorem hrCommand_frame {w₀ : Nat} {s₀ : State} {op : Nat} {tread : Nat} {s : State} (h₀ : Frame w₀ s₀ s) (hw₀ : 130841883704318 ||| w₀ = w₀) :
    Frame w₀ s₀ (hrCommand op tread s).2 := by
  refine h₀.trans 130841883704318 ?_ hw₀
  clear h₀ hw₀
  unfold hrCommand
  repeat' first
      | with_reducible assumption
      | with_reducible exact Frame.refl
      | ((first | intro x | (lift_lets -underBinder; intro x)); first
      | (refine Frame.cut (w := 130841883704318) (s := s) (x := x) ?_ fun _ => ?_; (on_goal 1 => try dsimp only [x]); (on_goal 2 => clear_value x))
      | clear_value x)
      | ((with_reducible refine hrFinish_frame ?_ ?_); on_goal 2 => rfl)
      | ((with_reducible refine orderTread_frame ?_ ?_); on_goal 2 => rfl)
      | ((with_reducible refine Frame.updHr ?_ ?_); on_goal 2 => rfl)
      | with_reducible refine Frame.ite ?_ ?_
      | with_reducible refine Frame.ite2 ?_ ?_
      | split

theorem resetOrderAct_frame {w₀ : Nat} {s₀ : State} {a : Act} {arg : Bytes} {s : State} (h₀ : Frame w₀ s₀ s) (hw₀ : 130841883704318 ||| w₀ = w₀) :
    Frame w₀ s₀ (resetOrderAct a arg s).2 := by
  refine h₀.trans 130841883704318 ?_ hw₀
  clear h₀ hw₀
  unfold resetOrderAct
  repeat' first
      | with_reducible exact Frame.refl
      | ((first | intro x | (lift_lets -underBinder; intro x)); first
      | clear_value x)
      | ((with_reducible refine actDone_frame ?_ ?_); on_goal 2 => rfl)
      | ((with_reducible refine actWaits_frame ?_ ?_); on_goal 2 => rfl)
      | ((with_reducible refine orderTread_frame ?_ ?_); on_goal 2 => rfl)
      | with_reducible refine Frame.ite2 ?_ ?_

end Sys2Proof.Machine
end

