-- ==== Sys2Proof/Laws/FrHang.lean ====
section
/-! SUPPORT. What each operation of Machine/Hang.lean may change (see Frame.lean). -/

namespace Sys2Proof.Machine

-- One declaration at a time, so that the elaborator holds few threads (each takes stack of its own).
set_option Elab.async false

theorem updWatch_frame {w₀ : Nat} {s₀ : State} {key : Nat} {f : Watch → Watch} {s : State} (h₀ : Frame w₀ s₀ s) (hw₀ : 17179869184 ||| w₀ = w₀) :
    Frame w₀ s₀ (updWatch key f s) := by
  refine h₀.trans 17179869184 ?_ hw₀
  clear h₀ hw₀
  unfold updWatch
  repeat' first
      | with_reducible exact Frame.refl
      | ((with_reducible refine Frame.updHrSoft (f := _) ?_ ?_ ?_); (on_goal 1 => (intro _; unfold Hr.rest; rfl)); on_goal 2 => rfl)

theorem watchClear_frame {w₀ : Nat} {s₀ : State} {key : Nat} {s : State} (h₀ : Frame w₀ s₀ s) (hw₀ : 17179869184 ||| w₀ = w₀) :
    Frame w₀ s₀ (watchClear key s) := by
  refine h₀.trans 17179869184 ?_ hw₀
  clear h₀ hw₀
  unfold watchClear
  repeat' first
      | with_reducible exact Frame.refl
      | ((with_reducible refine updWatch_frame ?_ ?_); on_goal 2 => rfl)

theorem retakeCleared_frame {w₀ : Nat} {s₀ : State} {key : Nat} {s : State} (h₀ : Frame w₀ s₀ s) (hw₀ : 51539607552 ||| w₀ = w₀) :
    Frame w₀ s₀ (retakeCleared key s) := by
  refine h₀.trans 51539607552 ?_ hw₀
  clear h₀ hw₀
  unfold retakeCleared
  repeat' first
      | with_reducible exact Frame.refl
      | ((with_reducible refine State.hrEvent_frame ?_ ?_); on_goal 2 => rfl)
      | ((with_reducible refine State.hrCount_frame ?_ ?_); on_goal 2 => rfl)
      | ((with_reducible refine watchClear_frame ?_ ?_); on_goal 2 => rfl)

theorem objGuilty_frame {w₀ : Nat} {s₀ : State} {key : Nat} {inj : Bool} {s : State} (h₀ : Frame w₀ s₀ s) (hw₀ : 130841883704318 ||| w₀ = w₀) :
    Frame w₀ s₀ (objGuilty key inj s).2 := by
  refine h₀.trans 130841883704318 ?_ hw₀
  clear h₀ hw₀
  unfold objGuilty
  repeat' first
      | with_reducible assumption
      | with_reducible exact Frame.refl
      | ((first | intro x | (lift_lets -underBinder; intro x)); first
      | (refine Frame.cut (w := 130841883704318) (s := s) (x := x) ?_ fun _ => ?_; (on_goal 1 => try dsimp only [x]); (on_goal 2 => clear_value x))
      | clear_value x)
      | ((with_reducible refine State.hrEvent_frame ?_ ?_); on_goal 2 => rfl)
      | ((with_reducible refine State.hrCount_frame ?_ ?_); on_goal 2 => rfl)
      | ((with_reducible refine rushesBlock_frame ?_ ?_); on_goal 2 => rfl)
      | ((with_reducible refine sendFault_frame ?_ ?_); on_goal 2 => rfl)
      | ((with_reducible refine t0Order_frame ?_ ?_); on_goal 2 => rfl)
      | ((with_reducible refine t1Order_frame ?_ ?_); on_goal 2 => rfl)
      | ((with_reducible refine watchClear_frame ?_ ?_); on_goal 2 => rfl)
      | ((with_reducible refine Frame.updHr ?_ ?_); on_goal 2 => rfl)
      | with_reducible refine Frame.ite2 ?_ ?_

theorem retakeVerdict_frame {w₀ : Nat} {s₀ : State} {key : Nat} {s : State} (h₀ : Frame w₀ s₀ s) (hw₀ : 130841883704318 ||| w₀ = w₀) :
    Frame w₀ s₀ (retakeVerdict key s).2 := by
  refine h₀.trans 130841883704318 ?_ hw₀
  clear h₀ hw₀
  unfold retakeVerdict
  repeat' first
      | with_reducible assumption
      | with_reducible exact Frame.refl
      | ((first | intro x | (lift_lets -underBinder; intro x)); first
      | (refine Frame.cut (w := 130841883704318) (s := s) (x := x) ?_ fun _ => ?_; (on_goal 1 => try dsimp only [x]); (on_goal 2 => clear_value x))
      | clear_value x)
      | ((with_reducible refine injFired_frame ?_ ?_); on_goal 2 => rfl)
      | ((with_reducible refine watchClear_frame ?_ ?_); on_goal 2 => rfl)
      | ((with_reducible refine retakeCleared_frame ?_ ?_); on_goal 2 => rfl)
      | ((with_reducible refine objGuilty_frame ?_ ?_); on_goal 2 => rfl)
      | with_reducible refine Frame.ite ?_ ?_
      | with_reducible refine Frame.ite2 ?_ ?_
      | split

theorem retakesEnd_frame {w₀ : Nat} {s₀ : State}  {s : State} (h₀ : Frame w₀ s₀ s) (hw₀ : 130841883704318 ||| w₀ = w₀) :
    Frame w₀ s₀ (retakesEnd s).2 := by
  refine h₀.trans 130841883704318 ?_ hw₀
  clear h₀ hw₀
  unfold retakesEnd
  repeat' first
      | with_reducible exact Frame.refl
      | ((first | intro x | (lift_lets -underBinder; intro x)); first
      | clear_value x)
      | ((with_reducible refine eachAns_frame (fun _ s => ?_) ?_ ?_); on_goal 3 => rfl)
      | ((with_reducible refine retakeVerdict_frame ?_ ?_); on_goal 2 => rfl)

theorem boundaryOf_frame {w₀ : Nat} {s₀ : State} {key : Nat} {s : State} (h₀ : Frame w₀ s₀ s) (hw₀ : 124554051584 ||| w₀ = w₀) :
    Frame w₀ s₀ (boundaryOf key s) := by
  refine h₀.trans 124554051584 ?_ hw₀
  clear h₀ hw₀
  unfold boundaryOf
  repeat' first
      | with_reducible assumption
      | with_reducible exact Frame.refl
      | ((first | intro x | (lift_lets -underBinder; intro x)); first
      | (refine Frame.cut (w := 124554051584) (s := s) (x := x) ?_ fun _ => ?_; (on_goal 1 => try dsimp only [x]); (on_goal 2 => clear_value x))
      | clear_value x)
      | ((with_reducible refine State.hrEvent_frame ?_ ?_); on_goal 2 => rfl)
      | ((with_reducible refine State.hrCount_frame ?_ ?_); on_goal 2 => rfl)
      | ((with_reducible refine rushesBlock_frame ?_ ?_); on_goal 2 => rfl)
      | ((with_reducible refine sendFault_frame ?_ ?_); on_goal 2 => rfl)
      | ((with_reducible refine injFired_frame ?_ ?_); on_goal 2 => rfl)
      | ((with_reducible refine updWatch_frame ?_ ?_); on_goal 2 => rfl)
      | ((with_reducible refine retakeCleared_frame ?_ ?_); on_goal 2 => rfl)
      | with_reducible refine Frame.ite ?_ ?_

theorem retakesStart_frame {w₀ : Nat} {s₀ : State} {x0 : List Nat} {x1 : Nat} {x2 : List Nat} {x3 : State} (h₀ : Frame w₀ s₀ x3) (hw₀ : 17179869184 ||| w₀ = w₀) :
    Frame w₀ s₀ (retakesStart x0 x1 x2 x3) := by
  refine h₀.trans 17179869184 ?_ hw₀
  clear h₀ hw₀
  induction x0 generalizing x1 x2 x3 with
  | nil =>
    unfold retakesStart
    repeat' first
      | with_reducible exact Frame.refl
  | cons a l ih =>
    unfold retakesStart
    repeat' first
      | with_reducible exact Frame.refl
      | ((first | intro x | (lift_lets -underBinder; intro x)); first
      | clear_value x)
      | ((with_reducible refine updWatch_frame ?_ ?_); on_goal 2 => rfl)
      | with_reducible refine Frame.forAll (fun _ x3 => ?_) _ ?_
      | with_reducible refine Frame.app3 ‹_› ?_
      | with_reducible refine Frame.ite ?_ ?_

theorem boundaryOp_frame {w₀ : Nat} {s₀ : State}  {s : State} (h₀ : Frame w₀ s₀ s) (hw₀ : 130841883704318 ||| w₀ = w₀) :
    Frame w₀ s₀ (boundaryOp s).2 := by
  refine h₀.trans 130841883704318 ?_ hw₀
  clear h₀ hw₀
  unfold boundaryOp
  repeat' first
      | with_reducible assumption
      | with_reducible exact Frame.refl
      | ((first | intro x | (lift_lets -underBinder; intro x)); first
      | (refine Frame.cut (w := 130841883704318) (s := s) (x := x) ?_ fun _ => ?_; (on_goal 1 => try dsimp only [x]); (on_goal 2 => clear_value x)))
      | ((with_reducible refine setPreempt_frame ?_ ?_); on_goal 2 => rfl)
      | ((with_reducible refine retakesEnd_frame ?_ ?_); on_goal 2 => rfl)
      | ((with_reducible refine boundaryOf_frame ?_ ?_); on_goal 2 => rfl)
      | ((with_reducible refine retakesStart_frame ?_ ?_); on_goal 2 => rfl)
      | ((with_reducible refine Frame.updHrSoft (f := _) ?_ ?_ ?_); (on_goal 1 => (intro _; unfold Hr.rest; rfl)); on_goal 2 => rfl)
      | with_reducible refine Frame.forAll (fun _ s => ?_) _ ?_
      | dsimp -zeta only
      | with_reducible refine Frame.ite2 ?_ ?_

end Sys2Proof.Machine
end

