-- ==== Sys2Proof/Laws/FrFcu.lean ====
section
/-! SUPPORT. What each operation of Machine/Fcu.lean may change (see Frame.lean). -/

namespace Sys2Proof.Machine

-- One declaration at a time, so that the elaborator holds few threads (each takes stack of its own).
set_option Elab.async false

theorem logPut_frame {w₀ : Nat} {s₀ : State} {x : LogRec} {s : State} (h₀ : Frame w₀ s₀ s) (hw₀ : 12884901888 ||| w₀ = w₀) :
    Frame w₀ s₀ (logPut x s) := by
  refine h₀.trans 12884901888 ?_ hw₀
  clear h₀ hw₀
  unfold logPut
  repeat' first
      | with_reducible assumption
      | with_reducible exact Frame.refl
      | ((first | intro x | (lift_lets -underBinder; intro x)); first
      | (refine Frame.cut (w := 12884901888) (s := s) (x := x) ?_ fun _ => ?_; (on_goal 1 => try dsimp only [x]); (on_goal 2 => clear_value x))
      | clear_value x)
      | ((with_reducible refine State.fcuEvent_frame ?_ ?_); on_goal 2 => rfl)
      | ((with_reducible refine State.fcuCount_frame ?_ ?_); on_goal 2 => rfl)
      | ((with_reducible refine Frame.updFcu ?_ ?_); on_goal 2 => rfl)
      | with_reducible refine Frame.ite ?_ ?_

theorem safeEnter_frame {w₀ : Nat} {s₀ : State} {x : LogRec} {fatal : Bool} {s : State} (h₀ : Frame w₀ s₀ s) (hw₀ : 105772159625286 ||| w₀ = w₀) :
    Frame w₀ s₀ (safeEnter x fatal s) := by
  refine h₀.trans 105772159625286 ?_ hw₀
  clear h₀ hw₀
  unfold safeEnter
  repeat' first
      | with_reducible assumption
      | with_reducible exact Frame.refl
      | ((first | intro x | (lift_lets -underBinder; intro x)); first
      | (refine Frame.cut (w := 105772159625286) (s := s) (x := x) ?_ fun _ => ?_; (on_goal 1 => try dsimp only [x]); (on_goal 2 => clear_value x)))
      | ((with_reducible refine State.fcuEvent_frame ?_ ?_); on_goal 2 => rfl)
      | ((with_reducible refine zeroKeyRegisters_frame ?_ ?_); on_goal 2 => rfl)
      | ((with_reducible refine voidOut_frame ?_ ?_); on_goal 2 => rfl)
      | ((with_reducible refine Frame.updDbg ?_ ?_); on_goal 2 => rfl)
      | ((with_reducible refine Frame.updFcu ?_ ?_); on_goal 2 => rfl)
      | ((with_reducible refine Frame.updLsSoft (f := _) ?_ ?_ ?_); (on_goal 1 => (intro _; unfold Ls.rest; rfl)); on_goal 2 => rfl)
      | ((with_reducible refine Frame.updPins ?_ ?_); on_goal 2 => rfl)
      | with_reducible refine Frame.forAll (fun _ s => ?_) _ ?_
      | with_reducible refine Frame.ite ?_ ?_

theorem markSpare_frame {w₀ : Nat} {s₀ : State} {src : Nat} {s : State} (h₀ : Frame w₀ s₀ s) (hw₀ : 24576 ||| w₀ = w₀) :
    Frame w₀ s₀ (markSpare src s) := by
  refine h₀.trans 24576 ?_ hw₀
  clear h₀ hw₀
  unfold markSpare
  repeat' first
      | with_reducible exact Frame.refl
      | ((with_reducible refine Frame.updLs ?_ ?_); on_goal 2 => rfl)
      | with_reducible refine Frame.ite ?_ ?_

theorem fenceC3_frame {w₀ : Nat} {s₀ : State} {src : Nat} {r : FRec} {x : LogRec} {s : State} (h₀ : Frame w₀ s₀ s) (hw₀ : 130841883704318 ||| w₀ = w₀) :
    Frame w₀ s₀ (fenceC3 src r x s).2 := by
  refine h₀.trans 130841883704318 ?_ hw₀
  clear h₀ hw₀
  unfold fenceC3
  repeat' first
      | with_reducible assumption
      | with_reducible exact Frame.refl
      | ((first | intro x | (lift_lets -underBinder; intro x)); first
      | (refine Frame.cut (w := 130841883704318) (s := s) (x := x) ?_ fun _ => ?_; (on_goal 1 => try dsimp only [x]); (on_goal 2 => clear_value x)))
      | ((with_reducible refine t2Order_frame ?_ ?_); on_goal 2 => rfl)
      | ((with_reducible refine safeEnter_frame ?_ ?_); on_goal 2 => rfl)
      | ((with_reducible refine markSpare_frame ?_ ?_); on_goal 2 => rfl)
      | ((with_reducible refine Frame.updFcu ?_ ?_); on_goal 2 => rfl)
      | with_reducible refine Frame.ite2 ?_ ?_
      | split

theorem acceptRecord_frame {w₀ : Nat} {s₀ : State} {src : Nat} {r : FRec} {tdelta : Nat} {s : State} (h₀ : Frame w₀ s₀ s) (hw₀ : 130841883704318 ||| w₀ = w₀) :
    Frame w₀ s₀ (acceptRecord src r tdelta s).2 := by
  refine h₀.trans 130841883704318 ?_ hw₀
  clear h₀ hw₀
  unfold acceptRecord
  repeat' first
      | with_reducible assumption
      | with_reducible exact Frame.refl
      | ((first | intro x | (lift_lets -underBinder; intro x)); first
      | (refine Frame.cut (w := 130841883704318) (s := s) (x := x) ?_ fun _ => ?_; (on_goal 1 => try dsimp only [x]); (on_goal 2 => clear_value x))
      | clear_value x)
      | ((with_reducible refine State.fcuEvent_frame ?_ ?_); on_goal 2 => rfl)
      | ((with_reducible refine State.fcuCount_frame ?_ ?_); on_goal 2 => rfl)
      | ((with_reducible refine logPut_frame ?_ ?_); on_goal 2 => rfl)
      | ((with_reducible refine safeEnter_frame ?_ ?_); on_goal 2 => rfl)
      | ((with_reducible refine fenceC3_frame ?_ ?_); on_goal 2 => rfl)
      | ((with_reducible refine Frame.emit ?_ ?_); on_goal 2 => rfl)
      | with_reducible refine Frame.ite ?_ ?_
      | with_reducible refine Frame.ite2 ?_ ?_

theorem ownFault_frame {w₀ : Nat} {s₀ : State} {kind : Nat} {detail : Nat} {s : State} (h₀ : Frame w₀ s₀ s) (hw₀ : 73014444032 ||| w₀ = w₀) :
    Frame w₀ s₀ (ownFault kind detail s) := by
  refine h₀.trans 73014444032 ?_ hw₀
  clear h₀ hw₀
  unfold ownFault
  repeat' first
      | with_reducible exact Frame.refl
      | ((with_reducible refine raiseFault_frame ?_ ?_); on_goal 2 => rfl)

theorem selfCheck_frame {w₀ : Nat} {s₀ : State} {kind : Nat} {f : State → State} {s : State} (hf : ∀ u, Frame w₀ u (f u)) (h₀ : Frame w₀ s₀ s) (hw₀ : 73014444032 ||| w₀ = w₀) :
    Frame w₀ s₀ (selfCheck kind f s) := by
  unfold selfCheck
  repeat' first
      | with_reducible assumption
      | ((with_reducible refine reportFault_frame ?_ ?_); on_goal 2 => first | rfl | exact mask_le rfl hw₀)
      | with_reducible refine Frame.ite ?_ ?_
      | with_reducible refine Frame.trans w₀ ?_ (hf _) (Nat.or_self w₀)

theorem selfChecks_frame {w₀ : Nat} {s₀ : State} {kind : Nat} {s : State} (h₀ : Frame w₀ s₀ s) (hw₀ : 81604378624 ||| w₀ = w₀) :
    Frame w₀ s₀ (selfChecks kind s) := by
  refine h₀.trans 81604378624 ?_ hw₀
  clear h₀ hw₀
  unfold selfChecks
  repeat' first
      | with_reducible assumption
      | with_reducible exact Frame.refl
      | ((first | intro x | (lift_lets -underBinder; intro x)); first
      | (refine Frame.cut (w := 81604378624) (s := s) (x := x) ?_ fun _ => ?_; (on_goal 1 => try dsimp only [x]); (on_goal 2 => clear_value x)))
      | ((with_reducible refine selfCheck_frame (fun s => ?_) ?_ ?_); on_goal 3 => rfl)
      | ((with_reducible refine Frame.updFcu ?_ ?_); on_goal 2 => rfl)

theorem faultAccept_frame {w₀ : Nat} {s₀ : State} {src : Nat} {tdelta : Nat} {s : State} (h₀ : Frame w₀ s₀ s) (hw₀ : 130841883704318 ||| w₀ = w₀) :
    Frame w₀ s₀ (faultAccept src tdelta s).2 := by
  refine h₀.trans 130841883704318 ?_ hw₀
  clear h₀ hw₀
  unfold faultAccept
  repeat' first
      | with_reducible assumption
      | with_reducible exact Frame.refl
      | ((first | intro x | (lift_lets -underBinder; intro x)); first
      | (refine Frame.cut (w := 130841883704318) (s := s) (x := x) ?_ fun _ => ?_; (on_goal 1 => try dsimp only [x]); (on_goal 2 => clear_value x))
      | clear_value x)
      | ((with_reducible refine reportFault_frame ?_ ?_); on_goal 2 => rfl)
      | ((with_reducible refine acceptRecord_frame ?_ ?_); on_goal 2 => rfl)
      | ((with_reducible refine ownFault_frame ?_ ?_); on_goal 2 => rfl)
      | ((with_reducible refine selfChecks_frame ?_ ?_); on_goal 2 => rfl)
      | ((with_reducible refine Frame.updFcu ?_ ?_); on_goal 2 => rfl)
      | with_reducible refine Frame.ite ?_ ?_
      | with_reducible refine Frame.ite2 ?_ ?_
      | split

theorem autoT3Op_frame {w₀ : Nat} {s₀ : State}  {s : State} (h₀ : Frame w₀ s₀ s) (hw₀ : 113249697659902 ||| w₀ = w₀) :
    Frame w₀ s₀ (autoT3Op s).2 := by
  refine h₀.trans 113249697659902 ?_ hw₀
  clear h₀ hw₀
  unfold autoT3Op
  repeat' first
      | with_reducible exact Frame.refl
      | ((with_reducible refine t3Order_frame ?_ ?_); on_goal 2 => rfl)
      | with_reducible refine Frame.ite2 ?_ ?_

theorem injArm_frame {w₀ : Nat} {s₀ : State} {src : Nat} {kind : Nat} {s : State} (h₀ : Frame w₀ s₀ s) (hw₀ : 81604378624 ||| w₀ = w₀) :
    Frame w₀ s₀ (injArm src kind s) := by
  refine h₀.trans 81604378624 ?_ hw₀
  clear h₀ hw₀
  unfold injArm
  repeat' first
      | with_reducible assumption
      | with_reducible exact Frame.refl
      | ((first | intro x | (lift_lets -underBinder; intro x)); first
      | (refine Frame.cut (w := 81604378624) (s := s) (x := x) ?_ fun _ => ?_; (on_goal 1 => try dsimp only [x]); (on_goal 2 => clear_value x)))
      | ((with_reducible refine State.fcuCount_frame ?_ ?_); on_goal 2 => rfl)
      | ((with_reducible refine reportFault_frame ?_ ?_); on_goal 2 => rfl)
      | ((with_reducible refine Frame.updFcu ?_ ?_); on_goal 2 => rfl)
      | with_reducible refine Frame.ite ?_ ?_

theorem faultInjectAct_frame {w₀ : Nat} {s₀ : State} {a : Act} {arg : Bytes} {s : State} (h₀ : Frame w₀ s₀ s) (hw₀ : 2280627634176 ||| w₀ = w₀) :
    Frame w₀ s₀ (faultInjectAct a arg s) := by
  refine h₀.trans 2280627634176 ?_ hw₀
  clear h₀ hw₀
  unfold faultInjectAct
  repeat' first
      | with_reducible exact Frame.refl
      | ((first | intro x | (lift_lets -underBinder; intro x)); first
      | clear_value x)
      | ((with_reducible refine runAct_frame (fun s => ?_) ?_ ?_); on_goal 3 => rfl)
      | ((with_reducible refine injArm_frame ?_ ?_); on_goal 2 => rfl)
      | with_reducible refine Frame.ite2 ?_ ?_

end Sys2Proof.Machine
end

