-- ==== Sys2Proof/Laws/FrRegRead.lean ====
section
/-! SUPPORT. What each operation of Machine/RegRead.lean may change (see Frame.lean). -/

namespace Sys2Proof.Machine

-- One declaration at a time, so that the elaborator holds few threads (each takes stack of its own).
set_option Elab.async false

theorem updShadows_frame {w₀ : Nat} {s₀ : State} {f : Shadows → Shadows} {x0 : Bus} {x1 : State} (h₀ : Frame w₀ s₀ x1) (hw₀ : 6 ||| w₀ = w₀) :
    Frame w₀ s₀ (updShadows f x0 x1) := by
  refine h₀.trans 6 ?_ hw₀
  clear h₀ hw₀
  unfold updShadows
  repeat' first
      | with_reducible exact Frame.refl
      | ((with_reducible refine Frame.updPins ?_ ?_); on_goal 2 => rfl)
      | split

theorem readLatMax_frame {w₀ : Nat} {s₀ : State}  {s : State} (h₀ : Frame w₀ s₀ s) (hw₀ : 17592588697600 ||| w₀ = w₀) :
    Frame w₀ s₀ (readLatMax s) := by
  refine h₀.trans 17592588697600 ?_ hw₀
  clear h₀ hw₀
  unfold readLatMax
  repeat' first
      | with_reducible exact Frame.refl
      | ((with_reducible refine Frame.updAdm ?_ ?_); on_goal 2 => rfl)
      | ((with_reducible refine Frame.opened ?_ ?_); on_goal 2 => rfl)

theorem busRead_frame {w₀ : Nat} {s₀ : State} {bus : Bus} {a : Nat} {s : State} (h₀ : Frame w₀ s₀ s) (hw₀ : 17592588697606 ||| w₀ = w₀) :
    Frame w₀ s₀ (busRead bus a s).2 := by
  refine h₀.trans 17592588697606 ?_ hw₀
  clear h₀ hw₀
  unfold busRead
  repeat' first
      | with_reducible exact Frame.refl
      | ((first | intro x | (lift_lets -underBinder; intro x)); first
      | clear_value x)
      | ((with_reducible refine updShadows_frame ?_ ?_); on_goal 2 => rfl)
      | ((with_reducible refine readLatMax_frame ?_ ?_); on_goal 2 => rfl)
      | dsimp -zeta only
      | with_reducible refine Frame.ite ?_ ?_
      | with_reducible refine Frame.ite2 ?_ ?_
      | split

theorem readRow_frame {w₀ : Nat} {s₀ : State} {bus : Bus} {a : Nat} {s : State} (h₀ : Frame w₀ s₀ s) (hw₀ : 52776960786438 ||| w₀ = w₀) :
    Frame w₀ s₀ (readRow bus a s) := by
  refine h₀.trans 52776960786438 ?_ hw₀
  clear h₀ hw₀
  unfold readRow
  repeat' first
      | with_reducible exact Frame.refl
      | ((with_reducible refine busRead_frame ?_ ?_); on_goal 2 => rfl)
      | ((with_reducible refine Frame.emit ?_ ?_); on_goal 2 => rfl)

end Sys2Proof.Machine
end

