-- ==== Sys2Proof/Laws/FrRegWrite.lean ====
section
/-! SUPPORT. What each operation of Machine/RegWrite.lean may change (see Frame.lean). -/

namespace Sys2Proof.Machine

-- One declaration at a time, so that the elaborator holds few threads (each takes stack of its own).
set_option Elab.async false

theorem cmdWrite_frame {w₀ : Nat} {s₀ : State} {go : Bool} {top : Nat} {opBits : Nat} {v : Nat} {bad : State → State} {store : Nat → State → List Ans × State} {run : Nat → State → List Ans × State} {s : State} (hbad : ∀ u, Frame w₀ u (bad u)) (hstore : ∀ a0 u, Frame w₀ u (store a0 u).2) (hrun : ∀ a0 u, Frame w₀ u (run a0 u).2) (h₀ : Frame w₀ s₀ s) (hw₀ : 0 ||| w₀ = w₀) :
    Frame w₀ s₀ (cmdWrite go top opBits v bad store run s).2 := by
  unfold cmdWrite
  repeat' first
      | with_reducible assumption
      | ((first | intro x | (lift_lets -underBinder; intro x)); first
      | clear_value x)
      | dsimp -zeta only
      | with_reducible refine Frame.app ‹_› ?_
      | with_reducible refine Frame.app2 ‹_› ?_
      | with_reducible refine Frame.appP ‹_› ?_
      | with_reducible refine Frame.ite2 ?_ ?_

theorem quiet_frame {w₀ : Nat} {s₀ : State}  {s : State} (h₀ : Frame w₀ s₀ s) (hw₀ : 0 ||| w₀ = w₀) :
    Frame w₀ s₀ (quiet s).2 := by
  refine h₀.trans 0 ?_ hw₀
  clear h₀ hw₀
  unfold quiet
  repeat' first
      | with_reducible exact Frame.refl

theorem kvKeep_frame {w₀ : Nat} {s₀ s : State} {f : Kv → Kv} (hf : ∀ k, (f k).region = k.region) (h₀ : Frame w₀ s₀ s)
    (hw₀ : 192 ||| w₀ = w₀) (hs : ∀ x, x.slots.wf = true → (f x).slots.wf = true := by exact fun _ h => h) : Frame w₀ s₀ (kvKeep f s) := by
  unfold kvKeep
  exact Frame.ite h₀ (Frame.updKv hf h₀ hw₀ hs)

theorem kvWrite_frame {w₀ : Nat} {s₀ : State} {off : Nat} {v : Nat} {s : State} (h₀ : Frame w₀ s₀ s) (hw₀ : 123218350369216 ||| w₀ = w₀) :
    Frame w₀ s₀ (kvWrite off v s) := by
  refine h₀.trans 123218350369216 ?_ hw₀
  clear h₀ hw₀
  unfold kvWrite
  repeat' first
      | with_reducible exact Frame.refl
      | ((first | intro x | (lift_lets -underBinder; intro x)); first
      | clear_value x)
      | ((with_reducible refine kvCommand_frame ?_ ?_); on_goal 2 => rfl)
      | ((with_reducible refine Frame.opened ?_ ?_); on_goal 2 => rfl)
      | ((with_reducible refine Frame.updKv (f := _) ?_ ?_ ?_); (on_goal 1 => (intro _; rfl)); on_goal 2 => rfl)
      | dsimp -zeta only
      | ((with_reducible refine kvKeep_frame (f := _) ?_ ?_ ?_); (on_goal 1 => (intro _; rfl)); on_goal 2 => rfl)
      | with_reducible refine Frame.ite ?_ ?_
      | split

theorem kvWrite64_frame {w₀ : Nat} {s₀ : State} {off : Nat} {v : Nat} {s : State} (h₀ : Frame w₀ s₀ s) (hw₀ : 192 ||| w₀ = w₀) :
    Frame w₀ s₀ (kvWrite64 off v s) := by
  refine h₀.trans 192 ?_ hw₀
  clear h₀ hw₀
  unfold kvWrite64
  repeat' first
      | with_reducible exact Frame.refl
      | ((with_reducible refine Frame.updKv (f := _) ?_ ?_ ?_); (on_goal 1 => (intro _; rfl)); on_goal 2 => rfl)
      | with_reducible refine Frame.ite ?_ ?_

theorem lcWrite_frame {w₀ : Nat} {s₀ : State} {off : Nat} {v : Nat} {s : State} (h₀ : Frame w₀ s₀ s) (hw₀ : 96757023246848 ||| w₀ = w₀) :
    Frame w₀ s₀ (lcWrite off v s) := by
  refine h₀.trans 96757023246848 ?_ hw₀
  clear h₀ hw₀
  unfold lcWrite
  repeat' first
      | with_reducible exact Frame.refl
      | ((first | intro x | (lift_lets -underBinder; intro x)); first
      | clear_value x)
      | ((with_reducible refine lcCommand_frame ?_ ?_); on_goal 2 => rfl)
      | ((with_reducible refine cmdWrite_frame (fun s => ?_) (fun _ s => ?_) (fun _ s => ?_) ?_ ?_); on_goal 5 => rfl)
      | ((with_reducible refine quiet_frame ?_ ?_); on_goal 2 => rfl)
      | ((with_reducible refine Frame.opened ?_ ?_); on_goal 2 => rfl)
      | ((with_reducible refine Frame.updLc (f := _) ?_ ?_ ?_); (on_goal 1 => (intro _; rfl)); on_goal 2 => rfl)
      | dsimp -zeta only
      | with_reducible refine Frame.ite ?_ ?_
      | split

theorem atWrite_frame {w₀ : Nat} {s₀ : State} {off : Nat} {v : Nat} {s : State} (h₀ : Frame w₀ s₀ s) (hw₀ : 87960930228224 ||| w₀ = w₀) :
    Frame w₀ s₀ (atWrite off v s) := by
  refine h₀.trans 87960930228224 ?_ hw₀
  clear h₀ hw₀
  unfold atWrite
  repeat' first
      | with_reducible exact Frame.refl
      | ((with_reducible refine atCommand_frame ?_ ?_); on_goal 2 => rfl)
      | ((with_reducible refine cmdWrite_frame (fun s => ?_) (fun _ s => ?_) (fun _ s => ?_) ?_ ?_); on_goal 5 => rfl)
      | ((with_reducible refine quiet_frame ?_ ?_); on_goal 2 => rfl)
      | ((with_reducible refine Frame.updAt ?_ ?_); on_goal 2 => rfl)
      | ((with_reducible refine Frame.updDom ?_ ?_); on_goal 2 => rfl)
      | ((with_reducible refine Frame.opened ?_ ?_); on_goal 2 => rfl)
      | with_reducible refine Frame.ite ?_ ?_
      | split

theorem lsKeep_frame {w₀ : Nat} {s₀ : State} {f : Ls → Ls} {s : State} (h₀ : Frame w₀ s₀ s) (hw₀ : 24576 ||| w₀ = w₀) :
    Frame w₀ s₀ (lsKeep f s).2 := by
  refine h₀.trans 24576 ?_ hw₀
  clear h₀ hw₀
  unfold lsKeep
  repeat' first
      | with_reducible exact Frame.refl
      | ((with_reducible refine quiet_frame ?_ ?_); on_goal 2 => rfl)
      | ((with_reducible refine Frame.updLs ?_ ?_); on_goal 2 => rfl)
      | with_reducible refine Frame.ite ?_ ?_

theorem lsWrite_frame {w₀ : Nat} {s₀ : State} {off : Nat} {v : Nat} {s : State} (h₀ : Frame w₀ s₀ s) (hw₀ : 52867963215960 ||| w₀ = w₀) :
    Frame w₀ s₀ (lsWrite off v s).2 := by
  refine h₀.trans 52867963215960 ?_ hw₀
  clear h₀ hw₀
  unfold lsWrite
  repeat' first
      | with_reducible exact Frame.refl
      | ((with_reducible refine lsCommand_frame ?_ ?_); on_goal 2 => rfl)
      | ((with_reducible refine cmdWrite_frame (fun s => ?_) (fun _ s => ?_) (fun _ s => ?_) ?_ ?_); on_goal 5 => rfl)
      | ((with_reducible refine quiet_frame ?_ ?_); on_goal 2 => rfl)
      | ((with_reducible refine lsKeep_frame ?_ ?_); on_goal 2 => rfl)
      | ((with_reducible refine Frame.opened ?_ ?_); on_goal 2 => rfl)
      | ((with_reducible refine Frame.updLs ?_ ?_); on_goal 2 => rfl)
      | split

theorem lsWrite64_frame {w₀ : Nat} {s₀ : State} {off : Nat} {v : Nat} {s : State} (h₀ : Frame w₀ s₀ s) (hw₀ : 24576 ||| w₀ = w₀) :
    Frame w₀ s₀ (lsWrite64 off v s) := by
  refine h₀.trans 24576 ?_ hw₀
  clear h₀ hw₀
  unfold lsWrite64
  repeat' first
      | with_reducible exact Frame.refl
      | ((with_reducible refine Frame.updLs ?_ ?_); on_goal 2 => rfl)
      | with_reducible refine Frame.ite ?_ ?_

theorem lnWrite_frame {w₀ : Nat} {s₀ : State} {off : Nat} {v : Nat} {s : State} (h₀ : Frame w₀ s₀ s) (hw₀ : 19792291668032 ||| w₀ = w₀) :
    Frame w₀ s₀ (lnWrite off v s) := by
  refine h₀.trans 19792291668032 ?_ hw₀
  clear h₀ hw₀
  unfold lnWrite
  repeat' first
      | with_reducible exact Frame.refl
      | ((first | intro x | (lift_lets -underBinder; intro x)); first
      | clear_value x)
      | ((with_reducible refine lnCommand_frame ?_ ?_); on_goal 2 => rfl)
      | ((with_reducible refine cmdWrite_frame (fun s => ?_) (fun _ s => ?_) (fun _ s => ?_) ?_ ?_); on_goal 5 => rfl)
      | ((with_reducible refine quiet_frame ?_ ?_); on_goal 2 => rfl)
      | ((with_reducible refine Frame.opened ?_ ?_); on_goal 2 => rfl)
      | ((with_reducible refine Frame.updLnSoft (f := _) ?_ ?_ ?_); (on_goal 1 => (intro _; unfold Ln.rest; rfl)); on_goal 2 => rfl)
      | ((with_reducible refine Frame.updLn ?_ ?_); on_goal 2 => rfl)
      | dsimp -zeta only
      | with_reducible refine Frame.ite ?_ ?_
      | split

theorem trWrite_frame {w₀ : Nat} {s₀ : State} {off : Nat} {v : Nat} {s : State} (h₀ : Frame w₀ s₀ s) (hw₀ : 52849573011456 ||| w₀ = w₀) :
    Frame w₀ s₀ (trWrite off v s) := by
  refine h₀.trans 52849573011456 ?_ hw₀
  clear h₀ hw₀
  unfold trWrite
  repeat' first
      | with_reducible exact Frame.refl
      | ((with_reducible refine trCommand_frame ?_ ?_); on_goal 2 => rfl)
      | ((with_reducible refine cmdWrite_frame (fun s => ?_) (fun _ s => ?_) (fun _ s => ?_) ?_ ?_); on_goal 5 => rfl)
      | ((with_reducible refine quiet_frame ?_ ?_); on_goal 2 => rfl)
      | ((with_reducible refine Frame.opened ?_ ?_); on_goal 2 => rfl)
      | ((with_reducible refine Frame.updTrSoft (f := _) ?_ ?_ ?_); (on_goal 1 => (intro _; unfold Tr.rest; rfl)); on_goal 2 => rfl)
      | ((with_reducible refine Frame.updTr ?_ ?_); on_goal 2 => rfl)
      | with_reducible refine Frame.ite ?_ ?_
      | split

theorem trWrite64_frame {w₀ : Nat} {s₀ : State} {off : Nat} {v : Nat} {s : State} (h₀ : Frame w₀ s₀ s) (hw₀ : 131072 ||| w₀ = w₀) :
    Frame w₀ s₀ (trWrite64 off v s) := by
  refine h₀.trans 131072 ?_ hw₀
  clear h₀ hw₀
  unfold trWrite64
  repeat' first
      | with_reducible exact Frame.refl
      | ((with_reducible refine Frame.updTrSoft (f := _) ?_ ?_ ?_); (on_goal 1 => (intro _; unfold Tr.rest; rfl)); on_goal 2 => rfl)
      | with_reducible refine Frame.ite ?_ ?_

theorem mvWrite_frame {w₀ : Nat} {s₀ : State} {off : Nat} {v : Nat} {s : State} (h₀ : Frame w₀ s₀ s) (hw₀ : 17609367486464 ||| w₀ = w₀) :
    Frame w₀ s₀ (mvWrite off v s) := by
  refine h₀.trans 17609367486464 ?_ hw₀
  clear h₀ hw₀
  unfold mvWrite
  repeat' first
      | with_reducible exact Frame.refl
      | ((with_reducible refine mvCommand_frame ?_ ?_); on_goal 2 => rfl)
      | ((with_reducible refine cmdWrite_frame (fun s => ?_) (fun _ s => ?_) (fun _ s => ?_) ?_ ?_); on_goal 5 => rfl)
      | ((with_reducible refine quiet_frame ?_ ?_); on_goal 2 => rfl)
      | ((with_reducible refine Frame.opened ?_ ?_); on_goal 2 => rfl)
      | ((with_reducible refine Frame.updMv ?_ ?_); on_goal 2 => rfl)
      | with_reducible refine Frame.ite ?_ ?_
      | split

theorem rdWrite_frame {w₀ : Nat} {s₀ : State} {off : Nat} {v : Nat} {s : State} (h₀ : Frame w₀ s₀ s) (hw₀ : 17592192344064 ||| w₀ = w₀) :
    Frame w₀ s₀ (rdWrite off v s) := by
  refine h₀.trans 17592192344064 ?_ hw₀
  clear h₀ hw₀
  unfold rdWrite
  repeat' first
      | with_reducible exact Frame.refl
      | ((with_reducible refine rdCommand_frame ?_ ?_); on_goal 2 => rfl)
      | ((with_reducible refine cmdWrite_frame (fun s => ?_) (fun _ s => ?_) (fun _ s => ?_) ?_ ?_); on_goal 5 => rfl)
      | ((with_reducible refine quiet_frame ?_ ?_); on_goal 2 => rfl)
      | ((with_reducible refine Frame.opened ?_ ?_); on_goal 2 => rfl)
      | ((with_reducible refine Frame.updRd ?_ ?_); on_goal 2 => rfl)
      | split

theorem auWrite_frame {w₀ : Nat} {s₀ : State} {off : Nat} {v : Nat} {s : State} (h₀ : Frame w₀ s₀ s) (hw₀ : 52867985743960 ||| w₀ = w₀) :
    Frame w₀ s₀ (auWrite off v s).2 := by
  refine h₀.trans 52867985743960 ?_ hw₀
  clear h₀ hw₀
  unfold auWrite
  repeat' first
      | with_reducible exact Frame.refl
      | ((with_reducible refine auCommand_frame ?_ ?_); on_goal 2 => rfl)
      | ((with_reducible refine cmdWrite_frame (fun s => ?_) (fun _ s => ?_) (fun _ s => ?_) ?_ ?_); on_goal 5 => rfl)
      | ((with_reducible refine quiet_frame ?_ ?_); on_goal 2 => rfl)
      | ((with_reducible refine Frame.updAuSoft (f := _) ?_ ?_ ?_); (on_goal 1 => (intro _; unfold Au.rest; rfl)); on_goal 2 => rfl)
      | ((with_reducible refine Frame.updAu ?_ ?_); on_goal 2 => rfl)
      | ((with_reducible refine Frame.opened ?_ ?_); on_goal 2 => rfl)
      | split

theorem feWrite_frame {w₀ : Nat} {s₀ : State} {off : Nat} {v : Nat} {s : State} (h₀ : Frame w₀ s₀ s) (hw₀ : 52864574038050 ||| w₀ = w₀) :
    Frame w₀ s₀ (feWrite off v s) := by
  refine h₀.trans 52864574038050 ?_ hw₀
  clear h₀ hw₀
  unfold feWrite
  repeat' first
      | with_reducible exact Frame.refl
      | ((with_reducible refine feCommand_frame ?_ ?_); on_goal 2 => rfl)
      | ((with_reducible refine cmdWrite_frame (fun s => ?_) (fun _ s => ?_) (fun _ s => ?_) ?_ ?_); on_goal 5 => rfl)
      | ((with_reducible refine quiet_frame ?_ ?_); on_goal 2 => rfl)
      | ((with_reducible refine Frame.updAdm ?_ ?_); on_goal 2 => rfl)
      | ((with_reducible refine Frame.updFe ?_ ?_); on_goal 2 => rfl)
      | ((with_reducible refine Frame.opened ?_ ?_); on_goal 2 => rfl)
      | with_reducible refine Frame.ite ?_ ?_
      | split

theorem feWrite64_frame {w₀ : Nat} {s₀ : State} {off : Nat} {v : Nat} {s : State} (h₀ : Frame w₀ s₀ s) (hw₀ : 100663296 ||| w₀ = w₀) :
    Frame w₀ s₀ (feWrite64 off v s) := by
  refine h₀.trans 100663296 ?_ hw₀
  clear h₀ hw₀
  unfold feWrite64
  repeat' first
      | with_reducible exact Frame.refl
      | ((with_reducible refine Frame.updFe ?_ ?_); on_goal 2 => rfl)
      | with_reducible refine Frame.ite ?_ ?_

theorem fsWrite_frame {w₀ : Nat} {s₀ : State} {off : Nat} {v : Nat} {s : State} (h₀ : Frame w₀ s₀ s) (hw₀ : 59375272067072 ||| w₀ = w₀) :
    Frame w₀ s₀ (fsWrite off v s) := by
  refine h₀.trans 59375272067072 ?_ hw₀
  clear h₀ hw₀
  unfold fsWrite
  repeat' first
      | with_reducible exact Frame.refl
      | ((with_reducible refine fsCommand_frame ?_ ?_); on_goal 2 => rfl)
      | ((with_reducible refine cmdWrite_frame (fun s => ?_) (fun _ s => ?_) (fun _ s => ?_) ?_ ?_); on_goal 5 => rfl)
      | ((with_reducible refine quiet_frame ?_ ?_); on_goal 2 => rfl)
      | ((with_reducible refine Frame.opened ?_ ?_); on_goal 2 => rfl)
      | ((with_reducible refine Frame.updFs ?_ ?_); on_goal 2 => rfl)
      | with_reducible refine Frame.ite ?_ ?_
      | split

theorem ituWrite_frame {w₀ : Nat} {s₀ : State} {off : Nat} {v : Nat} {s : State} (h₀ : Frame w₀ s₀ s) (hw₀ : 68263919401722 ||| w₀ = w₀) :
    Frame w₀ s₀ (ituWrite off v s).2 := by
  refine h₀.trans 68263919401722 ?_ hw₀
  clear h₀ hw₀
  unfold ituWrite
  repeat' first
      | with_reducible exact Frame.refl
      | ((first | intro x | (lift_lets -underBinder; intro x)); first
      | (refine Frame.cutFnP (w := 68263919401722) (f := x) ?_ fun _ => ?_; (on_goal 1 => intro _ s; try dsimp only [x]); (on_goal 2 => clear_value x)))
      | ((with_reducible refine ituCommand_frame ?_ ?_); on_goal 2 => rfl)
      | ((with_reducible refine cmdWrite_frame (fun s => ?_) (fun _ s => ?_) (fun _ s => ?_) ?_ ?_); on_goal 5 => rfl)
      | ((with_reducible refine quiet_frame ?_ ?_); on_goal 2 => rfl)
      | ((with_reducible refine Frame.opened ?_ ?_); on_goal 2 => rfl)
      | ((with_reducible refine Frame.updItuSoft (f := _) ?_ ?_ ?_); (on_goal 1 => (intro _; unfold Itu.rest; rfl)); on_goal 2 => rfl)
      | ((with_reducible refine Frame.updItu ?_ ?_); on_goal 2 => rfl)
      | dsimp -zeta only
      | with_reducible refine Frame.app2 ‹_› ?_
      | with_reducible refine Frame.ite ?_ ?_
      | with_reducible refine Frame.ite2 ?_ ?_
      | split

theorem ituWrite64_frame {w₀ : Nat} {s₀ : State} {off : Nat} {v : Nat} {s : State} (h₀ : Frame w₀ s₀ s) (hw₀ : 3221225472 ||| w₀ = w₀) :
    Frame w₀ s₀ (ituWrite64 off v s) := by
  refine h₀.trans 3221225472 ?_ hw₀
  clear h₀ hw₀
  unfold ituWrite64
  repeat' first
      | with_reducible exact Frame.refl
      | ((with_reducible refine Frame.updItu ?_ ?_); on_goal 2 => rfl)
      | with_reducible refine Frame.ite ?_ ?_

theorem policyWrite_frame {w₀ : Nat} {s₀ : State} {w : Nat} {v : Word} {s : State} (h₀ : Frame w₀ s₀ s) (hw₀ : 12884901888 ||| w₀ = w₀) :
    Frame w₀ s₀ (policyWrite w v s) := by
  refine h₀.trans 12884901888 ?_ hw₀
  clear h₀ hw₀
  unfold policyWrite
  repeat' first
      | with_reducible exact Frame.refl
      | ((with_reducible refine Frame.updFcu ?_ ?_); on_goal 2 => rfl)
      | with_reducible refine Frame.ite ?_ ?_

theorem fcuWrite_frame {w₀ : Nat} {s₀ : State} {off : Nat} {v : Nat} {s : State} (h₀ : Frame w₀ s₀ s) (hw₀ : 17673790423040 ||| w₀ = w₀) :
    Frame w₀ s₀ (fcuWrite off v s) := by
  refine h₀.trans 17673790423040 ?_ hw₀
  clear h₀ hw₀
  unfold fcuWrite
  repeat' first
      | with_reducible exact Frame.refl
      | ((with_reducible refine injArm_frame ?_ ?_); on_goal 2 => rfl)
      | ((with_reducible refine policyWrite_frame ?_ ?_); on_goal 2 => rfl)
      | ((with_reducible refine Frame.updFcu ?_ ?_); on_goal 2 => rfl)
      | ((with_reducible refine Frame.opened ?_ ?_); on_goal 2 => rfl)
      | with_reducible refine Frame.ite ?_ ?_
      | split

theorem hrCfgWrite_frame {w₀ : Nat} {s₀ : State} {v : Nat} {s : State} (h₀ : Frame w₀ s₀ s) (hw₀ : 51539607552 ||| w₀ = w₀) :
    Frame w₀ s₀ (hrCfgWrite v s) := by
  refine h₀.trans 51539607552 ?_ hw₀
  clear h₀ hw₀
  unfold hrCfgWrite
  repeat' first
      | with_reducible exact Frame.refl
      | ((with_reducible refine Frame.updHr ?_ ?_); on_goal 2 => rfl)

theorem hrWindowWrite_frame {w₀ : Nat} {s₀ : State} {v : Nat} {s : State} (h₀ : Frame w₀ s₀ s) (hw₀ : 51539607552 ||| w₀ = w₀) :
    Frame w₀ s₀ (hrWindowWrite v s) := by
  refine h₀.trans 51539607552 ?_ hw₀
  clear h₀ hw₀
  unfold hrWindowWrite
  repeat' first
      | with_reducible exact Frame.refl
      | ((with_reducible refine Frame.updHr ?_ ?_); on_goal 2 => rfl)

theorem hrWrite_frame {w₀ : Nat} {s₀ : State} {off : Nat} {v : Nat} {s : State} (h₀ : Frame w₀ s₀ s) (hw₀ : 130841883704318 ||| w₀ = w₀) :
    Frame w₀ s₀ (hrWrite off v s).2 := by
  refine h₀.trans 130841883704318 ?_ hw₀
  clear h₀ hw₀
  unfold hrWrite
  repeat' first
      | with_reducible exact Frame.refl
      | ((first | intro x | (lift_lets -underBinder; intro x)); first
      | clear_value x)
      | ((with_reducible refine hrCommand_frame ?_ ?_); on_goal 2 => rfl)
      | ((with_reducible refine cmdWrite_frame (fun s => ?_) (fun _ s => ?_) (fun _ s => ?_) ?_ ?_); on_goal 5 => rfl)
      | ((with_reducible refine quiet_frame ?_ ?_); on_goal 2 => rfl)
      | ((with_reducible refine hrCfgWrite_frame ?_ ?_); on_goal 2 => rfl)
      | ((with_reducible refine hrWindowWrite_frame ?_ ?_); on_goal 2 => rfl)
      | ((with_reducible refine Frame.opened ?_ ?_); on_goal 2 => rfl)
      | ((with_reducible refine Frame.updHr ?_ ?_); on_goal 2 => rfl)
      | dsimp -zeta only
      | with_reducible refine Frame.ite ?_ ?_
      | split

theorem dbgWrite_frame {w₀ : Nat} {s₀ : State} {off : Nat} {v : Nat} {s : State} (h₀ : Frame w₀ s₀ s) (hw₀ : 53807350292480 ||| w₀ = w₀) :
    Frame w₀ s₀ (dbgWrite off v s) := by
  refine h₀.trans 53807350292480 ?_ hw₀
  clear h₀ hw₀
  unfold dbgWrite
  repeat' first
      | with_reducible exact Frame.refl
      | ((with_reducible refine dbgCommand_frame ?_ ?_); on_goal 2 => rfl)
      | ((with_reducible refine cmdWrite_frame (fun s => ?_) (fun _ s => ?_) (fun _ s => ?_) ?_ ?_); on_goal 5 => rfl)
      | ((with_reducible refine quiet_frame ?_ ?_); on_goal 2 => rfl)
      | ((with_reducible refine Frame.updDbg ?_ ?_); on_goal 2 => rfl)
      | ((with_reducible refine Frame.opened ?_ ?_); on_goal 2 => rfl)
      | with_reducible refine Frame.ite ?_ ?_
      | split

theorem dbgWrite64_frame {w₀ : Nat} {s₀ : State} {off : Nat} {v : Nat} {s : State} (h₀ : Frame w₀ s₀ s) (hw₀ : 206158430208 ||| w₀ = w₀) :
    Frame w₀ s₀ (dbgWrite64 off v s) := by
  refine h₀.trans 206158430208 ?_ hw₀
  clear h₀ hw₀
  unfold dbgWrite64
  repeat' first
      | with_reducible exact Frame.refl
      | ((with_reducible refine Frame.updDbg ?_ ?_); on_goal 2 => rfl)
      | with_reducible refine Frame.ite ?_ ?_

theorem cclkMultOp_frame {w₀ : Nat} {s₀ : State} {v : Nat} {s : State} (h₀ : Frame w₀ s₀ s) (hw₀ : 824633720832 ||| w₀ = w₀) :
    Frame w₀ s₀ (cclkMultOp v s) := by
  refine h₀.trans 824633720832 ?_ hw₀
  clear h₀ hw₀
  unfold cclkMultOp
  repeat' first
      | with_reducible exact Frame.refl
      | ((with_reducible refine Frame.updPwr (f := _) ?_ ?_ ?_); (on_goal 1 => (intro _; rfl)); on_goal 2 => rfl)
      | with_reducible refine Frame.ite ?_ ?_

theorem pllLocked_frame {w₀ : Nat} {s₀ : State}  {s : State} (h₀ : Frame w₀ s₀ s) (hw₀ : 824633720832 ||| w₀ = w₀) :
    Frame w₀ s₀ (pllLocked s) := by
  refine h₀.trans 824633720832 ?_ hw₀
  clear h₀ hw₀
  unfold pllLocked
  repeat' first
      | with_reducible exact Frame.refl
      | ((with_reducible refine Frame.updPwr (f := _) ?_ ?_ ?_); (on_goal 1 => (intro _; rfl)); on_goal 2 => rfl)
      | with_reducible refine Frame.ite ?_ ?_

theorem pwrCfgWrite_frame {w₀ : Nat} {s₀ : State} {v : Nat} {s : State} (h₀ : Frame w₀ s₀ s) (hw₀ : 824633720832 ||| w₀ = w₀) :
    Frame w₀ s₀ (pwrCfgWrite v s) := by
  refine h₀.trans 824633720832 ?_ hw₀
  clear h₀ hw₀
  unfold pwrCfgWrite
  repeat' first
      | with_reducible exact Frame.refl
      | ((with_reducible refine Frame.updPwr (f := _) ?_ ?_ ?_); (on_goal 1 => (intro _; rfl)); on_goal 2 => rfl)

theorem pwrWrite_frame {w₀ : Nat} {s₀ : State} {off : Nat} {v : Nat} {s : State} (h₀ : Frame w₀ s₀ s) (hw₀ : 61297773248512 ||| w₀ = w₀) :
    Frame w₀ s₀ (pwrWrite off v s) := by
  refine h₀.trans 61297773248512 ?_ hw₀
  clear h₀ hw₀
  unfold pwrWrite
  repeat' first
      | with_reducible exact Frame.refl
      | ((first | intro x | (lift_lets -underBinder; intro x)); first
      | clear_value x)
      | ((with_reducible refine timeDiscard_frame ?_ ?_); on_goal 2 => rfl)
      | ((with_reducible refine xspiOp_frame ?_ ?_); on_goal 2 => rfl)
      | ((with_reducible refine cclkMultOp_frame ?_ ?_); on_goal 2 => rfl)
      | ((with_reducible refine pwrCfgWrite_frame ?_ ?_); on_goal 2 => rfl)
      | ((with_reducible refine Frame.opened ?_ ?_); on_goal 2 => rfl)
      | ((with_reducible refine Frame.updMgt ?_ ?_); on_goal 2 => rfl)
      | ((with_reducible refine Frame.updPwr (f := _) ?_ ?_ ?_); (on_goal 1 => (intro _; rfl)); on_goal 2 => rfl)
      | dsimp -zeta only
      | with_reducible refine Frame.ite ?_ ?_
      | split

theorem keeperWrite_frame {w₀ : Nat} {s₀ : State} {a : Nat} {v : Nat} {s : State} (h₀ : Frame w₀ s₀ s) (hw₀ : 140737488354302 ||| w₀ = w₀) :
    Frame w₀ s₀ (keeperWrite a v s).2 := by
  refine h₀.trans 140737488354302 ?_ hw₀
  clear h₀ hw₀
  unfold keeperWrite
  repeat' first
      | with_reducible exact Frame.refl
      | ((first | intro x | (lift_lets -underBinder; intro x)); first
      | clear_value x)
      | ((with_reducible refine quiet_frame ?_ ?_); on_goal 2 => rfl)
      | ((with_reducible refine kvWrite_frame ?_ ?_); on_goal 2 => rfl)
      | ((with_reducible refine lcWrite_frame ?_ ?_); on_goal 2 => rfl)
      | ((with_reducible refine atWrite_frame ?_ ?_); on_goal 2 => rfl)
      | ((with_reducible refine lsWrite_frame ?_ ?_); on_goal 2 => rfl)
      | ((with_reducible refine lnWrite_frame ?_ ?_); on_goal 2 => rfl)
      | ((with_reducible refine trWrite_frame ?_ ?_); on_goal 2 => rfl)
      | ((with_reducible refine mvWrite_frame ?_ ?_); on_goal 2 => rfl)
      | ((with_reducible refine rdWrite_frame ?_ ?_); on_goal 2 => rfl)
      | ((with_reducible refine auWrite_frame ?_ ?_); on_goal 2 => rfl)
      | ((with_reducible refine feWrite_frame ?_ ?_); on_goal 2 => rfl)
      | ((with_reducible refine fsWrite_frame ?_ ?_); on_goal 2 => rfl)
      | ((with_reducible refine ituWrite_frame ?_ ?_); on_goal 2 => rfl)
      | ((with_reducible refine fcuWrite_frame ?_ ?_); on_goal 2 => rfl)
      | ((with_reducible refine hrWrite_frame ?_ ?_); on_goal 2 => rfl)
      | ((with_reducible refine dbgWrite_frame ?_ ?_); on_goal 2 => rfl)
      | ((with_reducible refine pwrWrite_frame ?_ ?_); on_goal 2 => rfl)
      | with_reducible refine Frame.ite2 ?_ ?_
      | split

theorem keeperWrite64_frame {w₀ : Nat} {s₀ : State} {a : Nat} {v : Nat} {s : State} (h₀ : Frame w₀ s₀ s) (hw₀ : 209480474816 ||| w₀ = w₀) :
    Frame w₀ s₀ (keeperWrite64 a v s) := by
  refine h₀.trans 209480474816 ?_ hw₀
  clear h₀ hw₀
  unfold keeperWrite64
  repeat' first
      | with_reducible exact Frame.refl
      | ((first | intro x | (lift_lets -underBinder; intro x)); first
      | clear_value x)
      | ((with_reducible refine kvWrite64_frame ?_ ?_); on_goal 2 => rfl)
      | ((with_reducible refine lsWrite64_frame ?_ ?_); on_goal 2 => rfl)
      | ((with_reducible refine trWrite64_frame ?_ ?_); on_goal 2 => rfl)
      | ((with_reducible refine feWrite64_frame ?_ ?_); on_goal 2 => rfl)
      | ((with_reducible refine ituWrite64_frame ?_ ?_); on_goal 2 => rfl)
      | ((with_reducible refine dbgWrite64_frame ?_ ?_); on_goal 2 => rfl)
      | split

theorem mailboxWrite_frame {w₀ : Nat} {s₀ : State} {page : Nat} {off : Nat} {v : Nat} {s : State} (h₀ : Frame w₀ s₀ s) (hw₀ : 70370354792448 ||| w₀ = w₀) :
    Frame w₀ s₀ (mailboxWrite page off v s) := by
  refine h₀.trans 70370354792448 ?_ hw₀
  clear h₀ hw₀
  unfold mailboxWrite
  repeat' first
      | with_reducible exact Frame.refl
      | ((with_reducible refine updMailbox_frame ?_ ?_); on_goal 2 => rfl)
      | ((with_reducible refine mailboxRequestOp_frame ?_ ?_); on_goal 2 => rfl)
      | with_reducible refine Frame.ite ?_ ?_

theorem msixWrite_frame {w₀ : Nat} {s₀ : State} {hall : Nat} {i : Nat} {v : Nat} {s : State} (h₀ : Frame w₀ s₀ s) (hw₀ : 1073741824 ||| w₀ = w₀) :
    Frame w₀ s₀ (msixWrite hall i v s) := by
  refine h₀.trans 1073741824 ?_ hw₀
  clear h₀ hw₀
  unfold msixWrite
  repeat' first
      | with_reducible exact Frame.refl
      | ((first | intro x | (lift_lets -underBinder; intro x)); first
      | clear_value x)
      | ((with_reducible refine updHall_frame ?_ ?_); on_goal 2 => rfl)

theorem hallPageWrite_frame {w₀ : Nat} {s₀ : State} {hall : Nat} {off : Nat} {v : Nat} {s : State} (h₀ : Frame w₀ s₀ s) (hw₀ : 70439107823618 ||| w₀ = w₀) :
    Frame w₀ s₀ (hallPageWrite hall off v s) := by
  refine h₀.trans 70439107823618 ?_ hw₀
  clear h₀ hw₀
  unfold hallPageWrite
  repeat' first
      | with_reducible exact Frame.refl
      | ((with_reducible refine doorbellOp_frame ?_ ?_); on_goal 2 => rfl)
      | ((with_reducible refine mailboxWrite_frame ?_ ?_); on_goal 2 => rfl)
      | ((with_reducible refine msixWrite_frame ?_ ?_); on_goal 2 => rfl)
      | with_reducible refine Frame.ite ?_ ?_

theorem pageWrite_frame {w₀ : Nat} {s₀ : State} {page : Nat} {off : Nat} {v : Nat} {s : State} (h₀ : Frame w₀ s₀ s) (hw₀ : 71263741544450 ||| w₀ = w₀) :
    Frame w₀ s₀ (pageWrite page off v s) := by
  refine h₀.trans 71263741544450 ?_ hw₀
  clear h₀ hw₀
  unfold pageWrite
  repeat' first
      | with_reducible exact Frame.refl
      | ((with_reducible refine mailboxWrite_frame ?_ ?_); on_goal 2 => rfl)
      | ((with_reducible refine hallPageWrite_frame ?_ ?_); on_goal 2 => rfl)
      | ((with_reducible refine Frame.updPwr (f := _) ?_ ?_ ?_); (on_goal 1 => (intro _; rfl)); on_goal 2 => rfl)
      | with_reducible refine Frame.ite ?_ ?_

theorem pageWrite64_frame {w₀ : Nat} {s₀ : State} {page : Nat} {off : Nat} {v : Nat} {s : State} (h₀ : Frame w₀ s₀ s) (hw₀ : 1073741824 ||| w₀ = w₀) :
    Frame w₀ s₀ (pageWrite64 page off v s) := by
  refine h₀.trans 1073741824 ?_ hw₀
  clear h₀ hw₀
  unfold pageWrite64
  repeat' first
      | with_reducible exact Frame.refl
      | ((with_reducible refine pmatchOp_frame ?_ ?_); on_goal 2 => rfl)
      | with_reducible refine Frame.ite ?_ ?_

theorem busPut_frame {w₀ : Nat} {s₀ : State} {bus : Bus} {a : Nat} {v : Nat} {s : State} (h₀ : Frame w₀ s₀ s) (hw₀ : 140737488354302 ||| w₀ = w₀) :
    Frame w₀ s₀ (busPut bus a v s).2 := by
  refine h₀.trans 140737488354302 ?_ hw₀
  clear h₀ hw₀
  unfold busPut
  repeat' first
      | with_reducible exact Frame.refl
      | ((with_reducible refine keeperWrite_frame ?_ ?_); on_goal 2 => rfl)
      | ((with_reducible refine pageWrite_frame ?_ ?_); on_goal 2 => rfl)
      | split

theorem busPut64_frame {w₀ : Nat} {s₀ : State} {bus : Bus} {a : Nat} {v : Nat} {s : State} (h₀ : Frame w₀ s₀ s) (hw₀ : 209480474816 ||| w₀ = w₀) :
    Frame w₀ s₀ (busPut64 bus a v s) := by
  refine h₀.trans 209480474816 ?_ hw₀
  clear h₀ hw₀
  unfold busPut64
  repeat' first
      | with_reducible exact Frame.refl
      | ((with_reducible refine keeperWrite64_frame ?_ ?_); on_goal 2 => rfl)
      | ((with_reducible refine pageWrite64_frame ?_ ?_); on_goal 2 => rfl)
      | split

theorem busWrite_frame {w₀ : Nat} {s₀ : State} {bus : Bus} {a : Nat} {v : Nat} {s : State} (h₀ : Frame w₀ s₀ s) (hw₀ : 140737488354302 ||| w₀ = w₀) :
    Frame w₀ s₀ (busWrite bus a v s).2 := by
  refine h₀.trans 140737488354302 ?_ hw₀
  clear h₀ hw₀
  unfold busWrite
  repeat' first
      | with_reducible exact Frame.refl
      | ((first | intro x | (lift_lets -underBinder; intro x)); first
      | clear_value x)
      | ((with_reducible refine updShadows_frame ?_ ?_); on_goal 2 => rfl)
      | ((with_reducible refine busPut_frame ?_ ?_); on_goal 2 => rfl)
      | ((with_reducible refine busPut64_frame ?_ ?_); on_goal 2 => rfl)
      | with_reducible refine Frame.ite2 ?_ ?_
      | split

theorem busWrite8_frame {w₀ : Nat} {s₀ : State} {bus : Bus} {a : Nat} {v : Nat} {s : State} (h₀ : Frame w₀ s₀ s) (hw₀ : 140737488354302 ||| w₀ = w₀) :
    Frame w₀ s₀ (busWrite8 bus a v s).2 := by
  refine h₀.trans 140737488354302 ?_ hw₀
  clear h₀ hw₀
  unfold busWrite8
  repeat' first
      | with_reducible exact Frame.refl
      | ((with_reducible refine busPut_frame ?_ ?_); on_goal 2 => rfl)
      | ((with_reducible refine busPut64_frame ?_ ?_); on_goal 2 => rfl)
      | split

theorem lowWordHold_frame {w₀ : Nat} {s₀ : State} {bus : Bus} {a : Nat} {v : Word} {s : State} (h₀ : Frame w₀ s₀ s) (hw₀ : 6 ||| w₀ = w₀) :
    Frame w₀ s₀ (lowWordHold bus a v s) := by
  refine h₀.trans 6 ?_ hw₀
  clear h₀ hw₀
  unfold lowWordHold
  repeat' first
      | with_reducible exact Frame.refl
      | ((with_reducible refine updShadows_frame ?_ ?_); on_goal 2 => rfl)
      | with_reducible refine Frame.ite ?_ ?_

end Sys2Proof.Machine
end

