-- ==== Sys2Proof/Laws/FrPower.lean ====
section
/-! SUPPORT. What each operation of Machine/Power.lean may change (see Frame.lean). -/

namespace Sys2Proof.Machine

-- One declaration at a time, so that the elaborator holds few threads (each takes stack of its own).
set_option Elab.async false

theorem writeBackContexts_frame {w₀ : Nat} {s₀ : State}  {s : State} (h₀ : Frame w₀ s₀ s) (hw₀ : 8256 ||| w₀ = w₀) :
    Frame w₀ s₀ (writeBackContexts s) := by
  refine h₀.trans 8256 ?_ hw₀
  clear h₀ hw₀
  unfold writeBackContexts
  repeat' first
      | with_reducible assumption
      | with_reducible exact Frame.refl
      | ((first | intro x | (lift_lets -underBinder; intro x)); first
      | (refine Frame.cut (w := 8256) (s := s) (x := x) ?_ fun _ => ?_; (on_goal 1 => try dsimp only [x]); (on_goal 2 => clear_value x)))
      | ((with_reducible refine returnLease_frame ?_ ?_); on_goal 2 => rfl)
      | ((with_reducible refine Frame.updLsSoft (f := _) ?_ ?_ ?_); (on_goal 1 => (intro _; unfold Ls.rest; rfl)); on_goal 2 => rfl)
      | with_reducible refine Frame.forAll (fun _ s => ?_) _ ?_

theorem landOff_frame {w₀ : Nat} {s₀ : State} {u : Nat} {s : State} (h₀ : Frame w₀ s₀ s) (hw₀ : 52902328705112 ||| w₀ = w₀) :
    Frame w₀ s₀ (landOff u s).2 := by
  refine h₀.trans 52902328705112 ?_ hw₀
  clear h₀ hw₀
  unfold landOff
  repeat' first
      | with_reducible exact Frame.refl
      | ((with_reducible refine landEnter_frame ?_ ?_); on_goal 2 => rfl)
      | ((with_reducible refine Frame.opened ?_ ?_); on_goal 2 => rfl)

theorem stateEntry_frame {w₀ : Nat} {s₀ : State}  {s : State} (h₀ : Frame w₀ s₀ s) (hw₀ : 53726962425950 ||| w₀ = w₀) :
    Frame w₀ s₀ (stateEntry s).2 := by
  refine h₀.trans 53726962425950 ?_ hw₀
  clear h₀ hw₀
  unfold stateEntry
  repeat' first
      | with_reducible assumption
      | with_reducible exact Frame.refl
      | ((first | intro x | (lift_lets -underBinder; intro x)); first
      | (refine Frame.cut (w := 53726962425950) (s := s) (x := x) ?_ fun _ => ?_; (on_goal 1 => try dsimp only [x]); (on_goal 2 => clear_value x)))
      | ((with_reducible refine eachAns_frame (fun _ s => ?_) ?_ ?_); on_goal 3 => rfl)
      | ((with_reducible refine writeBackContexts_frame ?_ ?_); on_goal 2 => rfl)
      | ((with_reducible refine landOff_frame ?_ ?_); on_goal 2 => rfl)
      | ((with_reducible refine Frame.updPins ?_ ?_); on_goal 2 => rfl)
      | ((with_reducible refine Frame.updPwr (f := _) ?_ ?_ ?_); (on_goal 1 => (intro _; rfl)); on_goal 2 => rfl)
      | dsimp -zeta only
      | with_reducible refine Frame.ite ?_ ?_
      | with_reducible refine Frame.ite2 ?_ ?_
      | split

theorem wakeStart_frame {w₀ : Nat} {s₀ : State}  {s : State} (h₀ : Frame w₀ s₀ s) (hw₀ : 6 ||| w₀ = w₀) :
    Frame w₀ s₀ (wakeStart s) := by
  refine h₀.trans 6 ?_ hw₀
  clear h₀ hw₀
  unfold wakeStart
  repeat' first
      | with_reducible exact Frame.refl
      | ((with_reducible refine Frame.updPins ?_ ?_); on_goal 2 => rfl)

theorem wakeNow_frame {w₀ : Nat} {s₀ : State}  {s : State} (h₀ : Frame w₀ s₀ s) (hw₀ : 893353197574 ||| w₀ = w₀) :
    Frame w₀ s₀ (wakeNow s) := by
  refine h₀.trans 893353197574 ?_ hw₀
  clear h₀ hw₀
  unfold wakeNow
  repeat' first
      | with_reducible exact Frame.refl
      | ((with_reducible refine wakeEnds_frame ?_ ?_); on_goal 2 => rfl)
      | ((with_reducible refine wakeStart_frame ?_ ?_); on_goal 2 => rfl)
      | ((with_reducible refine Frame.updPins ?_ ?_); on_goal 2 => rfl)
      | with_reducible refine Frame.ite ?_ ?_

theorem wakeOp_frame {w₀ : Nat} {s₀ : State}  {s : State} (h₀ : Frame w₀ s₀ s) (hw₀ : 893353197574 ||| w₀ = w₀) :
    Frame w₀ s₀ (wakeOp s) := by
  refine h₀.trans 893353197574 ?_ hw₀
  clear h₀ hw₀
  unfold wakeOp
  repeat' first
      | with_reducible assumption
      | with_reducible exact Frame.refl
      | ((first | intro x | (lift_lets -underBinder; intro x)); first
      | (refine Frame.cut (w := 893353197574) (s := s) (x := x) ?_ fun _ => ?_; (on_goal 1 => try dsimp only [x]); (on_goal 2 => clear_value x)))
      | ((with_reducible refine entryVoid_frame ?_ ?_); on_goal 2 => rfl)
      | ((with_reducible refine wakeNow_frame ?_ ?_); on_goal 2 => rfl)
      | ((with_reducible refine Frame.updPins ?_ ?_); on_goal 2 => rfl)
      | with_reducible refine Frame.ite ?_ ?_

theorem offLeave_frame {w₀ : Nat} {s₀ : State} {reset : Bool} {st : Nat} {s : State} (h₀ : Frame w₀ s₀ s) (hw₀ : 133143986240 ||| w₀ = w₀) :
    Frame w₀ s₀ (offLeave reset st s) := by
  refine h₀.trans 133143986240 ?_ hw₀
  clear h₀ hw₀
  unfold offLeave
  repeat' first
      | with_reducible exact Frame.refl
      | ((first | intro x | (lift_lets -underBinder; intro x)); first
      | clear_value x)
      | ((with_reducible refine unitReset_frame ?_ ?_); on_goal 2 => rfl)
      | ((with_reducible refine landLeave_frame ?_ ?_); on_goal 2 => rfl)
      | with_reducible refine Frame.forAll (fun _ s => ?_) _ ?_
      | with_reducible refine Frame.ite ?_ ?_

theorem packRise_frame {w₀ : Nat} {s₀ : State}  {s : State} (h₀ : Frame w₀ s₀ s) (hw₀ : 957777707078 ||| w₀ = w₀) :
    Frame w₀ s₀ (packRise s) := by
  refine h₀.trans 957777707078 ?_ hw₀
  clear h₀ hw₀
  unfold packRise
  repeat' first
      | with_reducible assumption
      | with_reducible exact Frame.refl
      | ((first | intro x | (lift_lets -underBinder; intro x)); first
      | (refine Frame.cut (w := 957777707078) (s := s) (x := x) ?_ fun _ => ?_; (on_goal 1 => try dsimp only [x]); (on_goal 2 => clear_value x))
      | clear_value x)
      | ((with_reducible refine State.pwrEvent_frame ?_ ?_); on_goal 2 => rfl)
      | ((with_reducible refine rushesBlock_frame ?_ ?_); on_goal 2 => rfl)
      | ((with_reducible refine wakeEnds_frame ?_ ?_); on_goal 2 => rfl)
      | ((with_reducible refine landLeave_frame ?_ ?_); on_goal 2 => rfl)
      | ((with_reducible refine offLeave_frame ?_ ?_); on_goal 2 => rfl)
      | ((with_reducible refine Frame.updPins ?_ ?_); on_goal 2 => rfl)
      | ((with_reducible refine Frame.updPwr (f := _) ?_ ?_ ?_); (on_goal 1 => (intro _; rfl)); on_goal 2 => rfl)
      | with_reducible refine Frame.forAll (fun _ s => ?_) _ ?_
      | with_reducible refine Frame.ite ?_ ?_

theorem packFall_frame {w₀ : Nat} {s₀ : State}  {s : State} (h₀ : Frame w₀ s₀ s) (hw₀ : 893353197574 ||| w₀ = w₀) :
    Frame w₀ s₀ (packFall s) := by
  refine h₀.trans 893353197574 ?_ hw₀
  clear h₀ hw₀
  unfold packFall
  repeat' first
      | with_reducible assumption
      | with_reducible exact Frame.refl
      | ((first | intro x | (lift_lets -underBinder; intro x)); first
      | (refine Frame.cut (w := 893353197574) (s := s) (x := x) ?_ fun _ => ?_; (on_goal 1 => try dsimp only [x]); (on_goal 2 => clear_value x))
      | clear_value x)
      | ((with_reducible refine wakeNow_frame ?_ ?_); on_goal 2 => rfl)
      | ((with_reducible refine Frame.updPins ?_ ?_); on_goal 2 => rfl)
      | ((with_reducible refine Frame.updPwr (f := _) ?_ ?_ ?_); (on_goal 1 => (intro _; rfl)); on_goal 2 => rfl)
      | with_reducible refine Frame.ite ?_ ?_

theorem clockLossOp_frame {w₀ : Nat} {s₀ : State} {pll : Bool} {clock : ClockDomain} {s : State} (h₀ : Frame w₀ s₀ s) (hw₀ : 897648164864 ||| w₀ = w₀) :
    Frame w₀ s₀ (clockLossOp pll clock s) := by
  refine h₀.trans 897648164864 ?_ hw₀
  clear h₀ hw₀
  unfold clockLossOp
  repeat' first
      | with_reducible assumption
      | with_reducible exact Frame.refl
      | ((first | intro x | (lift_lets -underBinder; intro x)); first
      | (refine Frame.cut (w := 897648164864) (s := s) (x := x) ?_ fun _ => ?_; (on_goal 1 => try dsimp only [x]); (on_goal 2 => clear_value x)))
      | ((with_reducible refine raiseFault_frame ?_ ?_); on_goal 2 => rfl)
      | ((with_reducible refine Frame.updPwr (f := _) ?_ ?_ ?_); (on_goal 1 => (intro _; rfl)); on_goal 2 => rfl)
      | with_reducible refine Frame.ite ?_ ?_

theorem wakeAct_frame {w₀ : Nat} {s₀ : State} {a : Act} {s : State} (h₀ : Frame w₀ s₀ s) (hw₀ : 3023656976384 ||| w₀ = w₀) :
    Frame w₀ s₀ (wakeAct a s) := by
  refine h₀.trans 3023656976384 ?_ hw₀
  clear h₀ hw₀
  unfold wakeAct
  repeat' first
      | with_reducible exact Frame.refl
      | ((with_reducible refine runAct_frame (fun s => ?_) ?_ ?_); on_goal 3 => rfl)
      | ((with_reducible refine Frame.updPwr (f := _) ?_ ?_ ?_); (on_goal 1 => (intro _; rfl)); on_goal 2 => rfl)
      | with_reducible refine Frame.ite ?_ ?_

end Sys2Proof.Machine
end

