-- ==== Sys2Proof/Laws/FrBoot.lean ====
section
/-! SUPPORT. What each operation of Machine/Boot.lean may change (see Frame.lean). -/

namespace Sys2Proof.Machine

-- One declaration at a time, so that the elaborator holds few threads (each takes stack of its own).
set_option Elab.async false

theorem porFrom_frame {w₀ : Nat} {s₀ s : State} (h₀ : Frame w₀ s₀ s) (hw₀ : 78065325571070 ||| w₀ = w₀) :
    Frame w₀ s₀ (porFrom s) :=
  h₀.trans 78065325571070 (by
    constructor <;> first
        | exact fun i => absurd i (by decide)
        | exact fun _ => rfl
        | exact fun _ => ⟨rfl, rfl⟩
        | exact ⟨List.suffix_refl _, Nat.le_refl _, Nat.le_refl _⟩
        | exact ⟨id, fun _ => rfl, fun _ => rfl, id, fun _ => BitVec.or_self⟩
        | exact ⟨id, fun _ => rfl, fun h => keysOk_filter _ h, id, fun _ => BitVec.or_self⟩) hw₀

theorem porState_frame {w₀ : Nat} {s₀ : State}  {s : State} (h₀ : Frame w₀ s₀ s) (hw₀ : 95657511616510 ||| w₀ = w₀) :
    Frame w₀ s₀ (porState s) := by
  refine h₀.trans 95657511616510 ?_ hw₀
  clear h₀ hw₀
  unfold porState
  repeat' first
      | with_reducible exact Frame.refl
      | ((with_reducible refine otpInterrupted_frame ?_ ?_); on_goal 2 => rfl)
      | ((with_reducible refine porFrom_frame ?_ ?_); on_goal 2 => rfl)

theorem porOp_frame {w₀ : Nat} {s₀ : State} {level : Bool} {s : State} (h₀ : Frame w₀ s₀ s) (hw₀ : 95657511616510 ||| w₀ = w₀) :
    Frame w₀ s₀ (porOp level s) := by
  refine h₀.trans 95657511616510 ?_ hw₀
  clear h₀ hw₀
  unfold porOp
  repeat' first
      | with_reducible exact Frame.refl
      | ((with_reducible refine porState_frame ?_ ?_); on_goal 2 => rfl)
      | ((with_reducible refine Frame.updPins ?_ ?_); on_goal 2 => rfl)
      | ((with_reducible refine Frame.updPwr (f := _) ?_ ?_ ?_); (on_goal 1 => (intro _; rfl)); on_goal 2 => rfl)
      | with_reducible refine Frame.ite ?_ ?_

theorem otpDone_frame {w₀ : Nat} {s₀ : State}  {s : State} (h₀ : Frame w₀ s₀ s) (hw₀ : 113249697660926 ||| w₀ = w₀) :
    Frame w₀ s₀ (otpDone s).2 := by
  refine h₀.trans 113249697660926 ?_ hw₀
  clear h₀ hw₀
  unfold otpDone
  repeat' first
      | with_reducible assumption
      | with_reducible exact Frame.refl
      | ((first | intro x | (lift_lets -underBinder; intro x)); first
      | (refine Frame.cut (w := 113249697660926) (s := s) (x := x) ?_ fun _ => ?_; (on_goal 1 => try dsimp only [x]); (on_goal 2 => clear_value x))
      | clear_value x)
      | ((with_reducible refine State.lcEvent_frame ?_ ?_); on_goal 2 => rfl)
      | ((with_reducible refine otpWordDone_frame ?_ ?_); on_goal 2 => rfl)
      | ((with_reducible refine otpJobDone_frame ?_ ?_); on_goal 2 => rfl)
      | ((with_reducible refine t3Order_frame ?_ ?_); on_goal 2 => rfl)
      | dsimp -zeta only
      | with_reducible refine Frame.ite ?_ ?_
      | with_reducible refine Frame.ite2 ?_ ?_

theorem measure_frame {w₀ : Nat} {s₀ : State} {n : Nat} {b : Bytes} {s : State} (h₀ : Frame w₀ s₀ s) (hw₀ : 70368744179712 ||| w₀ = w₀) :
    Frame w₀ s₀ (measure n b s) := by
  refine h₀.trans 70368744179712 ?_ hw₀
  clear h₀ hw₀
  unfold measure
  repeat' first
      | with_reducible exact Frame.refl
      | ((with_reducible refine measPut_frame ?_ ?_); on_goal 2 => rfl)

theorem dice_frame {w₀ : Nat} {s₀ : State} {k : Nat} {s : State} (h₀ : Frame w₀ s₀ s) (hw₀ : 70368744179712 ||| w₀ = w₀) :
    Frame w₀ s₀ (dice k s) := by
  refine h₀.trans 70368744179712 ?_ hw₀
  clear h₀ hw₀
  unfold dice
  repeat' first
      | with_reducible exact Frame.refl
      | ((with_reducible refine diceStepOp_frame ?_ ?_); on_goal 2 => rfl)

theorem romTransition_frame {w₀ : Nat} {s₀ : State} {t : Nat} {s : State} (h₀ : Frame w₀ s₀ s) (hw₀ : 107000553860038 ||| w₀ = w₀) :
    Frame w₀ s₀ (romTransition t s) := by
  refine h₀.trans 107000553860038 ?_ hw₀
  clear h₀ hw₀
  unfold romTransition
  repeat' first
      | with_reducible assumption
      | with_reducible exact Frame.refl
      | ((first | intro x | (lift_lets -underBinder; intro x)); first
      | (refine Frame.cut (w := 107000553860038) (s := s) (x := x) ?_ fun _ => ?_; (on_goal 1 => try dsimp only [x]); (on_goal 2 => clear_value x))
      | clear_value x)
      | ((with_reducible refine wipeAllOp_frame ?_ ?_); on_goal 2 => rfl)
      | ((with_reducible refine otpStart_frame ?_ ?_); on_goal 2 => rfl)
      | ((with_reducible refine intentDone_frame ?_ ?_); on_goal 2 => rfl)
      | ((with_reducible refine flashEraseFrom_frame ?_ ?_); on_goal 2 => rfl)
      | ((with_reducible refine Frame.updLc (f := _) ?_ ?_ ?_); (on_goal 1 => (intro _; rfl)); on_goal 2 => rfl)
      | with_reducible refine Frame.ite ?_ ?_

theorem policyLoad_frame {w₀ : Nat} {s₀ : State} {r : Bytes} {s : State} (h₀ : Frame w₀ s₀ s) (hw₀ : 52911818678306 ||| w₀ = w₀) :
    Frame w₀ s₀ (policyLoad r s) := by
  refine h₀.trans 52911818678306 ?_ hw₀
  clear h₀ hw₀
  unfold policyLoad
  repeat' first
      | with_reducible exact Frame.refl
      | ((with_reducible refine feWrite_frame ?_ ?_); on_goal 2 => rfl)
      | ((with_reducible refine policyWrite_frame ?_ ?_); on_goal 2 => rfl)
      | ((with_reducible refine hrCfgWrite_frame ?_ ?_); on_goal 2 => rfl)
      | ((with_reducible refine hrWindowWrite_frame ?_ ?_); on_goal 2 => rfl)
      | with_reducible refine Frame.forAll (fun _ s => ?_) _ ?_
      | split

theorem policyArea_frame {w₀ : Nat} {s₀ : State}  {s : State} (h₀ : Frame w₀ s₀ s) (hw₀ : 123280562858018 ||| w₀ = w₀) :
    Frame w₀ s₀ (policyArea s) := by
  refine h₀.trans 123280562858018 ?_ hw₀
  clear h₀ hw₀
  unfold policyArea
  repeat' first
      | with_reducible assumption
      | with_reducible exact Frame.refl
      | ((first | intro x | (lift_lets -underBinder; intro x)); first
      | (refine Frame.cut (w := 123280562858018) (s := s) (x := x) ?_ fun _ => ?_; (on_goal 1 => try dsimp only [x]); (on_goal 2 => clear_value x)))
      | ((with_reducible refine measure_frame ?_ ?_); on_goal 2 => rfl)
      | ((with_reducible refine policyLoad_frame ?_ ?_); on_goal 2 => rfl)
      | with_reducible refine Frame.forAll (fun _ s => ?_) _ ?_
      | dsimp -zeta only
      | with_reducible refine Frame.ite ?_ ?_

theorem anchorLoad_frame {w₀ : Nat} {s₀ : State}  {s : State} (h₀ : Frame w₀ s₀ s) (hw₀ : 76965813946368 ||| w₀ = w₀) :
    Frame w₀ s₀ (anchorLoad s) := by
  refine h₀.trans 76965813946368 ?_ hw₀
  clear h₀ hw₀
  unfold anchorLoad
  repeat' first
      | with_reducible exact Frame.refl
      | ((first | intro x | (lift_lets -underBinder; intro x)); first
      | clear_value x)
      | ((with_reducible refine measPut_frame ?_ ?_); on_goal 2 => rfl)
      | ((with_reducible refine Frame.updMgt ?_ ?_); on_goal 2 => rfl)
      | with_reducible refine Frame.ite ?_ ?_

theorem firmMemory_frame {w₀ : Nat} {s₀ : State}  {s : State} (h₀ : Frame w₀ s₀ s) (hw₀ : 17595507933184 ||| w₀ = w₀) :
    Frame w₀ s₀ (firmMemory s) := by
  refine h₀.trans 17595507933184 ?_ hw₀
  clear h₀ hw₀
  unfold firmMemory
  repeat' first
      | with_reducible assumption
      | with_reducible exact Frame.refl
      | ((first | intro x | (lift_lets -underBinder; intro x)); first
      | (refine Frame.cut (w := 17595507933184) (s := s) (x := x) ?_ fun _ => ?_; (on_goal 1 => try dsimp only [x]); (on_goal 2 => clear_value x))
      | clear_value x)
      | ((with_reducible refine Frame.updFe ?_ ?_); on_goal 2 => rfl)
      | ((with_reducible refine Frame.opened ?_ ?_); on_goal 2 => rfl)
      | ((with_reducible refine Frame.updItu ?_ ?_); on_goal 2 => rfl)

theorem retireAfterT3_frame {w₀ : Nat} {s₀ : State}  {s : State} (h₀ : Frame w₀ s₀ s) (hw₀ : 55067565269242 ||| w₀ = w₀) :
    Frame w₀ s₀ (retireAfterT3 s).2 := by
  refine h₀.trans 55067565269242 ?_ hw₀
  clear h₀ hw₀
  unfold retireAfterT3
  repeat' first
      | with_reducible assumption
      | with_reducible exact Frame.refl
      | ((first | intro x | (lift_lets -underBinder; intro x)); first
      | (refine Frame.cut (w := 55067565269242) (s := s) (x := x) ?_ fun _ => ?_; (on_goal 1 => try dsimp only [x]); (on_goal 2 => clear_value x))
      | clear_value x)
      | ((with_reducible refine updHall_frame ?_ ?_); on_goal 2 => rfl)
      | ((with_reducible refine eachAns_frame (fun _ s => ?_) ?_ ?_); on_goal 3 => rfl)
      | ((with_reducible refine retireBegin_frame ?_ ?_); on_goal 2 => rfl)
      | ((with_reducible refine retireStep7_frame ?_ ?_); on_goal 2 => rfl)
      | ((with_reducible refine destroyAwaiting_frame ?_ ?_); on_goal 2 => rfl)
      | dsimp -zeta only
      | with_reducible refine Frame.ite ?_ ?_
      | with_reducible refine Frame.ite2 ?_ ?_
      | split

theorem raiseEnables_frame {w₀ : Nat} {s₀ : State}  {s : State} (h₀ : Frame w₀ s₀ s) (hw₀ : 6 ||| w₀ = w₀) :
    Frame w₀ s₀ (raiseEnables s) := by
  refine h₀.trans 6 ?_ hw₀
  clear h₀ hw₀
  unfold raiseEnables
  repeat' first
      | with_reducible exact Frame.refl
      | ((with_reducible refine Frame.updPins ?_ ?_); on_goal 2 => rfl)

theorem firmwareStart_frame {w₀ : Nat} {s₀ : State}  {s : State} (h₀ : Frame w₀ s₀ s) (hw₀ : 130704422381822 ||| w₀ = w₀) :
    Frame w₀ s₀ (firmwareStart s).2 := by
  refine h₀.trans 130704422381822 ?_ hw₀
  clear h₀ hw₀
  unfold firmwareStart
  repeat' first
      | with_reducible assumption
      | with_reducible exact Frame.refl
      | ((first | intro x | (lift_lets -underBinder; intro x)); first
      | (refine Frame.cut (w := 130704422381822) (s := s) (x := x) ?_ fun _ => ?_; (on_goal 1 => try dsimp only [x]); (on_goal 2 => clear_value x)))
      | ((with_reducible refine dice_frame ?_ ?_); on_goal 2 => rfl)
      | ((with_reducible refine policyArea_frame ?_ ?_); on_goal 2 => rfl)
      | ((with_reducible refine anchorLoad_frame ?_ ?_); on_goal 2 => rfl)
      | ((with_reducible refine firmMemory_frame ?_ ?_); on_goal 2 => rfl)
      | ((with_reducible refine retireAfterT3_frame ?_ ?_); on_goal 2 => rfl)
      | ((with_reducible refine raiseEnables_frame ?_ ?_); on_goal 2 => rfl)
      | ((with_reducible refine Frame.updFcu ?_ ?_); on_goal 2 => rfl)
      | ((with_reducible refine Frame.updPwr (f := _) ?_ ?_ ?_); (on_goal 1 => (intro _; rfl)); on_goal 2 => rfl)
      | with_reducible refine Frame.ite ?_ ?_
      | with_reducible refine Frame.ite2 ?_ ?_

theorem enterRecovery_frame {w₀ : Nat} {s₀ : State} {reason : Nat} {s : State} (h₀ : Frame w₀ s₀ s) (hw₀ : 71193377900550 ||| w₀ = w₀) :
    Frame w₀ s₀ (enterRecovery reason s) := by
  refine h₀.trans 71193377900550 ?_ hw₀
  clear h₀ hw₀
  unfold enterRecovery
  repeat' first
      | with_reducible exact Frame.refl
      | ((with_reducible refine dice_frame ?_ ?_); on_goal 2 => rfl)
      | ((with_reducible refine Frame.updPins ?_ ?_); on_goal 2 => rfl)
      | ((with_reducible refine Frame.updPwr (f := _) ?_ ?_ ?_); (on_goal 1 => (intro _; rfl)); on_goal 2 => rfl)

theorem xspiSelect_frame {w₀ : Nat} {s₀ : State}  {s : State} (h₀ : Frame w₀ s₀ s) (hw₀ : 824633720832 ||| w₀ = w₀) :
    Frame w₀ s₀ (xspiSelect s) := by
  refine h₀.trans 824633720832 ?_ hw₀
  clear h₀ hw₀
  unfold xspiSelect
  repeat' first
      | with_reducible exact Frame.refl
      | ((with_reducible refine Frame.updPwr (f := _) ?_ ?_ ?_); (on_goal 1 => (intro _; rfl)); on_goal 2 => rfl)
      | split

theorem imageAccepted_frame {w₀ : Nat} {s₀ : State}  {s : State} (h₀ : Frame w₀ s₀ s) (hw₀ : 71193377900608 ||| w₀ = w₀) :
    Frame w₀ s₀ (imageAccepted s) := by
  refine h₀.trans 71193377900608 ?_ hw₀
  clear h₀ hw₀
  unfold imageAccepted
  repeat' first
      | with_reducible assumption
      | with_reducible exact Frame.refl
      | ((first | intro x | (lift_lets -underBinder; intro x)); first
      | (refine Frame.cut (w := 71193377900608) (s := s) (x := x) ?_ fun _ => ?_; (on_goal 1 => try dsimp only [x]); (on_goal 2 => clear_value x))
      | clear_value x)
      | ((with_reducible refine destroySlots_frame ?_ ?_); on_goal 2 => rfl)
      | ((with_reducible refine measPut_frame ?_ ?_); on_goal 2 => rfl)
      | ((with_reducible refine measure_frame ?_ ?_); on_goal 2 => rfl)
      | ((with_reducible refine dice_frame ?_ ?_); on_goal 2 => rfl)
      | ((with_reducible refine Frame.updPwr (f := _) ?_ ?_ ?_); (on_goal 1 => (intro _; rfl)); on_goal 2 => rfl)
      | with_reducible refine Frame.ite ?_ ?_

theorem secretStart_frame {w₀ : Nat} {s₀ : State}  {s : State} (h₀ : Frame w₀ s₀ s) (hw₀ : 8796093022720 ||| w₀ = w₀) :
    Frame w₀ s₀ (secretStart s) := by
  refine h₀.trans 8796093022720 ?_ hw₀
  clear h₀ hw₀
  unfold secretStart
  repeat' first
      | with_reducible exact Frame.refl
      | ((with_reducible refine otpStart_frame ?_ ?_); on_goal 2 => rfl)
      | ((with_reducible refine Frame.drew ?_ ?_); on_goal 2 => rfl)

theorem scrapIdentity_frame {w₀ : Nat} {s₀ : State}  {s : State} (h₀ : Frame w₀ s₀ s) (hw₀ : 79164837201920 ||| w₀ = w₀) :
    Frame w₀ s₀ (scrapIdentity s) := by
  refine h₀.trans 79164837201920 ?_ hw₀
  clear h₀ hw₀
  unfold scrapIdentity
  repeat' first
      | with_reducible exact Frame.refl
      | ((first | intro x | (lift_lets -underBinder; intro x)); first
      | clear_value x)
      | ((with_reducible refine Frame.updAt ?_ ?_); on_goal 2 => rfl)
      | ((with_reducible refine Frame.drew ?_ ?_); on_goal 2 => rfl)

theorem romBoot_frame {w₀ : Nat} {s₀ : State}  {s : State} (h₀ : Frame w₀ s₀ s) (hw₀ : 140600027048958 ||| w₀ = w₀) :
    Frame w₀ s₀ (romBoot s).2 := by
  refine h₀.trans 140600027048958 ?_ hw₀
  clear h₀ hw₀
  unfold romBoot
  repeat' first
      | with_reducible assumption
      | with_reducible exact Frame.refl
      | ((first | intro x | (lift_lets -underBinder; intro x)); first
      | (refine Frame.cut (w := 140600027048958) (s := s) (x := x) ?_ fun _ => ?_; (on_goal 1 => try dsimp only [x]); (on_goal 2 => clear_value x)))
      | ((with_reducible refine measure_frame ?_ ?_); on_goal 2 => rfl)
      | ((with_reducible refine romTransition_frame ?_ ?_); on_goal 2 => rfl)
      | ((with_reducible refine firmwareStart_frame ?_ ?_); on_goal 2 => rfl)
      | ((with_reducible refine enterRecovery_frame ?_ ?_); on_goal 2 => rfl)
      | ((with_reducible refine xspiSelect_frame ?_ ?_); on_goal 2 => rfl)
      | ((with_reducible refine imageAccepted_frame ?_ ?_); on_goal 2 => rfl)
      | ((with_reducible refine secretStart_frame ?_ ?_); on_goal 2 => rfl)
      | ((with_reducible refine scrapIdentity_frame ?_ ?_); on_goal 2 => rfl)
      | ((with_reducible refine Frame.updLc (f := _) ?_ ?_ ?_); (on_goal 1 => (intro _; rfl)); on_goal 2 => rfl)
      | ((with_reducible refine Frame.updPins ?_ ?_); on_goal 2 => rfl)
      | ((with_reducible refine Frame.updPwr (f := _) ?_ ?_ ?_); (on_goal 1 => (intro _; rfl)); on_goal 2 => rfl)
      | with_reducible refine Frame.ite2 ?_ ?_
      | split

theorem programOver_frame {w₀ : Nat} {s₀ : State} {at' : Nat} {b : Bytes} {s : State} (h₀ : Frame w₀ s₀ s) (hw₀ : 1374389534720 ||| w₀ = w₀) :
    Frame w₀ s₀ (programOver at' b s) := by
  refine h₀.trans 1374389534720 ?_ hw₀
  clear h₀ hw₀
  unfold programOver
  repeat' first
      | with_reducible exact Frame.refl
      | ((with_reducible refine flashWrite_frame ?_ ?_); on_goal 2 => rfl)

theorem recoveryWriteAct_frame {w₀ : Nat} {s₀ : State} {a : Act} {arg : Bytes} {s : State} (h₀ : Frame w₀ s₀ s) (hw₀ : 4123168604160 ||| w₀ = w₀) :
    Frame w₀ s₀ (recoveryWriteAct a arg s) := by
  refine h₀.trans 4123168604160 ?_ hw₀
  clear h₀ hw₀
  unfold recoveryWriteAct
  repeat' first
      | with_reducible assumption
      | with_reducible exact Frame.refl
      | ((first | intro x | (lift_lets -underBinder; intro x)); first
      | (refine Frame.cut (w := 4123168604160) (s := s) (x := x) ?_ fun _ => ?_; (on_goal 1 => try dsimp only [x]); (on_goal 2 => clear_value x))
      | clear_value x)
      | ((with_reducible refine actDone_frame ?_ ?_); on_goal 2 => rfl)
      | ((with_reducible refine flashErase_frame ?_ ?_); on_goal 2 => rfl)
      | ((with_reducible refine programOver_frame ?_ ?_); on_goal 2 => rfl)
      | ((with_reducible refine Frame.updPwr (f := _) ?_ ?_ ?_); (on_goal 1 => (intro _; rfl)); on_goal 2 => rfl)
      | with_reducible refine Frame.forAll (fun _ s => ?_) _ ?_
      | with_reducible refine Frame.ite ?_ ?_

theorem recoveryCommitAct_frame {w₀ : Nat} {s₀ : State} {a : Act} {s : State} (h₀ : Frame w₀ s₀ s) (hw₀ : 113249697659902 ||| w₀ = w₀) :
    Frame w₀ s₀ (recoveryCommitAct a s).2 := by
  refine h₀.trans 113249697659902 ?_ hw₀
  clear h₀ hw₀
  unfold recoveryCommitAct
  repeat' first
      | with_reducible exact Frame.refl
      | ((with_reducible refine actDone_frame ?_ ?_); on_goal 2 => rfl)
      | ((with_reducible refine t3Order_frame ?_ ?_); on_goal 2 => rfl)
      | with_reducible refine Frame.ite2 ?_ ?_
      | split

theorem factoryCertAct_frame {w₀ : Nat} {s₀ : State} {a : Act} {arg : Bytes} {s : State} (h₀ : Frame w₀ s₀ s) (hw₀ : 3573412790272 ||| w₀ = w₀) :
    Frame w₀ s₀ (factoryCertAct a arg s) := by
  refine h₀.trans 3573412790272 ?_ hw₀
  clear h₀ hw₀
  unfold factoryCertAct
  repeat' first
      | with_reducible exact Frame.refl
      | ((first | intro x | (lift_lets -underBinder; intro x)); first
      | clear_value x)
      | ((with_reducible refine runAct_frame (fun s => ?_) ?_ ?_); on_goal 3 => rfl)
      | ((with_reducible refine factoryWrite_frame ?_ ?_); on_goal 2 => rfl)
      | with_reducible refine Frame.ite2 ?_ ?_

end Sys2Proof.Machine
end

