-- ==== Sys2Proof/Laws/FrTdisp.lean ====
section
/-! SUPPORT. What each operation of Machine/Tdisp.lean may change (see Frame.lean). -/

namespace Sys2Proof.Machine

-- One declaration at a time, so that the elaborator holds few threads (each takes stack of its own).
set_option Elab.async false

theorem boundError_frame {w₀ : Nat} {s₀ : State} {i : Nat} {s : State} (h₀ : Frame w₀ s₀ s) (hw₀ : 55063261749306 ||| w₀ = w₀) :
    Frame w₀ s₀ (boundError i s) := by
  refine h₀.trans 55063261749306 ?_ hw₀
  clear h₀ hw₀
  unfold boundError
  repeat' first
      | with_reducible exact Frame.refl
      | ((with_reducible refine tdiError_frame ?_ ?_); on_goal 2 => rfl)
      | split

theorem ideSettle_frame {w₀ : Nat} {s₀ : State} {i : Nat} {s : State} (h₀ : Frame w₀ s₀ s) (hw₀ : 125432005929018 ||| w₀ = w₀) :
    Frame w₀ s₀ (ideSettle i s) := by
  refine h₀.trans 125432005929018 ?_ hw₀
  clear h₀ hw₀
  unfold ideSettle
  repeat' first
      | with_reducible assumption
      | with_reducible exact Frame.refl
      | ((first | intro x | (lift_lets -underBinder; intro x)); first
      | (refine Frame.cut (w := 125432005929018) (s := s) (x := x) ?_ fun _ => ?_; (on_goal 1 => try dsimp only [x]); (on_goal 2 => clear_value x))
      | clear_value x)
      | ((with_reducible refine State.atEvent_frame ?_ ?_); on_goal 2 => rfl)
      | ((with_reducible refine updIde_frame ?_ ?_); on_goal 2 => rfl)
      | ((with_reducible refine boundError_frame ?_ ?_); on_goal 2 => rfl)
      | with_reducible refine Frame.ite ?_ ?_

theorem ideFailure_frame {w₀ : Nat} {s₀ : State} {natural : Bool} {i : Nat} {s : State} (h₀ : Frame w₀ s₀ s) (hw₀ : 125436300896314 ||| w₀ = w₀) :
    Frame w₀ s₀ (ideFailure natural i s) := by
  refine h₀.trans 125436300896314 ?_ hw₀
  clear h₀ hw₀
  unfold ideFailure
  repeat' first
      | with_reducible assumption
      | with_reducible exact Frame.refl
      | ((first | intro x | (lift_lets -underBinder; intro x)); first
      | (refine Frame.cut (w := 125436300896314) (s := s) (x := x) ?_ fun _ => ?_; (on_goal 1 => try dsimp only [x]); (on_goal 2 => clear_value x))
      | clear_value x)
      | ((with_reducible refine State.atEvent_frame ?_ ?_); on_goal 2 => rfl)
      | ((with_reducible refine reportFault_frame ?_ ?_); on_goal 2 => rfl)
      | ((with_reducible refine updIde_frame ?_ ?_); on_goal 2 => rfl)
      | ((with_reducible refine boundError_frame ?_ ?_); on_goal 2 => rfl)

theorem kmProg_frame {w₀ : Nat} {s₀ : State} {stream : Nat} {sub' : Nat} {tx : Bool} {ks : Nat} {key : BitVec 256} {s : State} (h₀ : Frame w₀ s₀ s) (hw₀ : 55063261751354 ||| w₀ = w₀) :
    Frame w₀ s₀ (kmProg stream sub' tx ks key s).2 := by
  refine h₀.trans 55063261751354 ?_ hw₀
  clear h₀ hw₀
  unfold kmProg
  repeat' first
      | with_reducible exact Frame.refl
      | ((first | intro x | (lift_lets -underBinder; intro x)); first
      | clear_value x)
      | ((with_reducible refine updIdeKey_frame ?_ ?_); on_goal 2 => rfl)
      | ((with_reducible refine boundError_frame ?_ ?_); on_goal 2 => rfl)
      | with_reducible refine Frame.ite2 ?_ ?_

theorem kmGo_frame {w₀ : Nat} {s₀ : State} {stream : Nat} {sub' : Nat} {tx : Bool} {ks : Nat} {s : State} (h₀ : Frame w₀ s₀ s) (hw₀ : 125432005929018 ||| w₀ = w₀) :
    Frame w₀ s₀ (kmGo stream sub' tx ks s).2 := by
  refine h₀.trans 125432005929018 ?_ hw₀
  clear h₀ hw₀
  unfold kmGo
  repeat' first
      | with_reducible assumption
      | with_reducible exact Frame.refl
      | ((first | intro x | (lift_lets -underBinder; intro x)); first
      | (refine Frame.cut (w := 125432005929018) (s := s) (x := x) ?_ fun _ => ?_; (on_goal 1 => try dsimp only [x]); (on_goal 2 => clear_value x))
      | clear_value x)
      | ((with_reducible refine updIdeKey_frame ?_ ?_); on_goal 2 => rfl)
      | ((with_reducible refine ideSettle_frame ?_ ?_); on_goal 2 => rfl)
      | with_reducible refine Frame.ite2 ?_ ?_

theorem kmStop_frame {w₀ : Nat} {s₀ : State} {stream : Nat} {sub' : Nat} {tx : Bool} {ks : Nat} {s : State} (h₀ : Frame w₀ s₀ s) (hw₀ : 125432005929018 ||| w₀ = w₀) :
    Frame w₀ s₀ (kmStop stream sub' tx ks s).2 := by
  refine h₀.trans 125432005929018 ?_ hw₀
  clear h₀ hw₀
  unfold kmStop
  repeat' first
      | with_reducible exact Frame.refl
      | ((first | intro x | (lift_lets -underBinder; intro x)); first
      | clear_value x)
      | ((with_reducible refine updIdeKey_frame ?_ ?_); on_goal 2 => rfl)
      | ((with_reducible refine ideSettle_frame ?_ ?_); on_goal 2 => rfl)
      | with_reducible refine Frame.ite2 ?_ ?_

theorem kmRow_frame {w₀ : Nat} {s₀ : State} {sid : Nat} {f : State → KmAnswer × State} {s : State} (hf : ∀ u, Frame w₀ u (f u).2) (h₀ : Frame w₀ s₀ s) (hw₀ : 105553116268608 ||| w₀ = w₀) :
    Frame w₀ s₀ (kmRow sid f s) := by
  unfold kmRow
  repeat' first
      | with_reducible assumption
      | ((with_reducible refine spdmCounted_frame ?_ ?_); on_goal 2 => first | rfl | exact mask_le rfl hw₀)
      | ((with_reducible refine Frame.emit ?_ ?_); on_goal 2 => first | rfl | exact mask_le rfl hw₀)
      | with_reducible refine Frame.ite ?_ ?_
      | with_reducible refine Frame.trans w₀ ?_ (hf _) (Nat.or_self w₀)

theorem tdRequest_frame {w₀ : Nat} {s₀ : State} {hall : Nat} {f : State → TdAnswer × State} {s : State} (hf : ∀ u, Frame w₀ u (f u).2) (h₀ : Frame w₀ s₀ s) (hw₀ : 0 ||| w₀ = w₀) :
    Frame w₀ s₀ (tdRequest hall f s).2 := by
  unfold tdRequest
  repeat' first
      | with_reducible assumption
      | with_reducible refine Frame.ite2 ?_ ?_
      | with_reducible refine Frame.trans w₀ ?_ (hf _) (Nat.or_self w₀)

theorem tdVersion_frame {w₀ : Nat} {s₀ : State}  {s : State} (h₀ : Frame w₀ s₀ s) (hw₀ : 0 ||| w₀ = w₀) :
    Frame w₀ s₀ (tdVersion s).2 := by
  refine h₀.trans 0 ?_ hw₀
  clear h₀ hw₀
  unfold tdVersion
  repeat' first
      | with_reducible exact Frame.refl

theorem tdCapabilities_frame {w₀ : Nat} {s₀ : State}  {s : State} (h₀ : Frame w₀ s₀ s) (hw₀ : 0 ||| w₀ = w₀) :
    Frame w₀ s₀ (tdCapabilities s).2 := by
  refine h₀.trans 0 ?_ hw₀
  clear h₀ hw₀
  unfold tdCapabilities
  repeat' first
      | with_reducible exact Frame.refl

theorem tdLock_frame {w₀ : Nat} {s₀ : State} {hall : Nat} {stream : Nat} {off : DWord} {s : State} (h₀ : Frame w₀ s₀ s) (hw₀ : 8797166764032 ||| w₀ = w₀) :
    Frame w₀ s₀ (tdLock hall stream off s).2 := by
  refine h₀.trans 8797166764032 ?_ hw₀
  clear h₀ hw₀
  unfold tdLock
  repeat' first
      | with_reducible exact Frame.refl
      | ((first | intro x | (lift_lets -underBinder; intro x)); first
      | clear_value x)
      | ((with_reducible refine updHall_frame ?_ ?_); on_goal 2 => rfl)
      | ((with_reducible refine Frame.drew ?_ ?_); on_goal 2 => rfl)
      | with_reducible refine Frame.ite2 ?_ ?_

theorem tdReport_frame {w₀ : Nat} {s₀ : State} {hall : Nat} {off : Nat} {len : Nat} {s : State} (h₀ : Frame w₀ s₀ s) (hw₀ : 0 ||| w₀ = w₀) :
    Frame w₀ s₀ (tdReport hall off len s).2 := by
  refine h₀.trans 0 ?_ hw₀
  clear h₀ hw₀
  unfold tdReport
  repeat' first
      | with_reducible exact Frame.refl
      | ((first | intro x | (lift_lets -underBinder; intro x)); first
      | clear_value x)
      | with_reducible refine Frame.ite2 ?_ ?_

theorem tdState_frame {w₀ : Nat} {s₀ : State} {hall : Nat} {s : State} (h₀ : Frame w₀ s₀ s) (hw₀ : 0 ||| w₀ = w₀) :
    Frame w₀ s₀ (tdState hall s).2 := by
  refine h₀.trans 0 ?_ hw₀
  clear h₀ hw₀
  unfold tdState
  repeat' first
      | with_reducible exact Frame.refl

theorem tdStart_frame {w₀ : Nat} {s₀ : State} {hall : Nat} {nonce : BitVec 256} {s : State} (h₀ : Frame w₀ s₀ s) (hw₀ : 1073741824 ||| w₀ = w₀) :
    Frame w₀ s₀ (tdStart hall nonce s).2 := by
  refine h₀.trans 1073741824 ?_ hw₀
  clear h₀ hw₀
  unfold tdStart
  repeat' first
      | with_reducible exact Frame.refl
      | ((first | intro x | (lift_lets -underBinder; intro x)); first
      | clear_value x)
      | ((with_reducible refine updHall_frame ?_ ?_); on_goal 2 => rfl)
      | with_reducible refine Frame.ite2 ?_ ?_

theorem tdStopped_frame {w₀ : Nat} {s₀ : State} {hall : Nat} {s : State} (h₀ : Frame w₀ s₀ s) (hw₀ : 1073741824 ||| w₀ = w₀) :
    Frame w₀ s₀ (tdStopped hall s).2 := by
  refine h₀.trans 1073741824 ?_ hw₀
  clear h₀ hw₀
  unfold tdStopped
  repeat' first
      | with_reducible exact Frame.refl
      | ((with_reducible refine updHall_frame ?_ ?_); on_goal 2 => rfl)

theorem tdStopWaits_frame {w₀ : Nat} {s₀ : State} {hall : Nat} {s : State} (h₀ : Frame w₀ s₀ s) (hw₀ : 1073741824 ||| w₀ = w₀) :
    Frame w₀ s₀ (tdStopWaits hall s).2 := by
  refine h₀.trans 1073741824 ?_ hw₀
  clear h₀ hw₀
  unfold tdStopWaits
  repeat' first
      | with_reducible exact Frame.refl
      | ((with_reducible refine updHall_frame ?_ ?_); on_goal 2 => rfl)

theorem tdStop_frame {w₀ : Nat} {s₀ : State} {hall : Nat} {s : State} (h₀ : Frame w₀ s₀ s) (hw₀ : 55063261749306 ||| w₀ = w₀) :
    Frame w₀ s₀ (tdStop hall s).2 := by
  refine h₀.trans 55063261749306 ?_ hw₀
  clear h₀ hw₀
  unfold tdStop
  repeat' first
      | with_reducible exact Frame.refl
      | ((first | intro x | (lift_lets -underBinder; intro x)); first
      | clear_value x)
      | ((with_reducible refine retireBegin_frame ?_ ?_); on_goal 2 => rfl)
      | ((with_reducible refine tdStopped_frame ?_ ?_); on_goal 2 => rfl)
      | ((with_reducible refine tdStopWaits_frame ?_ ?_); on_goal 2 => rfl)
      | with_reducible refine Frame.ite2 ?_ ?_
      | split

theorem tdSend_frame {w₀ : Nat} {s₀ : State} {hall : Nat} {r : TdAnswer × State} (h₀ : Frame w₀ s₀ r.2) (hw₀ : 35184372088832 ||| w₀ = w₀) :
    Frame w₀ s₀ (tdSend hall r) := by
  refine h₀.trans 35184372088832 ?_ hw₀
  clear h₀ hw₀
  rcases r with ⟨_, s⟩
  show Frame 35184372088832 s _
  unfold tdSend
  repeat' first
      | with_reducible exact Frame.refl
      | ((with_reducible refine Frame.emit ?_ ?_); on_goal 2 => rfl)
      | split

theorem kmMessage_frame {w₀ : Nat} {s₀ : State} {m : Bytes} {s : State} (h₀ : Frame w₀ s₀ s) (hw₀ : 125432005929018 ||| w₀ = w₀) :
    Frame w₀ s₀ (kmMessage m s).2 := by
  refine h₀.trans 125432005929018 ?_ hw₀
  clear h₀ hw₀
  unfold kmMessage
  repeat' first
      | with_reducible assumption
      | with_reducible exact Frame.refl
      | ((first | intro x | (lift_lets -underBinder; intro x)); first
      | (refine Frame.cut2 (w := 125432005929018) (s := s) (x := x) ?_ fun _ => ?_; (on_goal 1 => try dsimp only [x]); (on_goal 2 => clear_value x))
      | clear_value x)
      | ((with_reducible refine kmProg_frame ?_ ?_); on_goal 2 => rfl)
      | ((with_reducible refine kmGo_frame ?_ ?_); on_goal 2 => rfl)
      | ((with_reducible refine kmStop_frame ?_ ?_); on_goal 2 => rfl)
      | split

theorem tdWork_frame {w₀ : Nat} {s₀ : State} {type : Nat} {hall : Nat} {p : Bytes} {s : State} (h₀ : Frame w₀ s₀ s) (hw₀ : 63859354771514 ||| w₀ = w₀) :
    Frame w₀ s₀ (tdWork type hall p s).2 := by
  refine h₀.trans 63859354771514 ?_ hw₀
  clear h₀ hw₀
  unfold tdWork
  repeat' first
      | with_reducible exact Frame.refl
      | ((with_reducible refine tdVersion_frame ?_ ?_); on_goal 2 => rfl)
      | ((with_reducible refine tdCapabilities_frame ?_ ?_); on_goal 2 => rfl)
      | ((with_reducible refine tdLock_frame ?_ ?_); on_goal 2 => rfl)
      | ((with_reducible refine tdReport_frame ?_ ?_); on_goal 2 => rfl)
      | ((with_reducible refine tdState_frame ?_ ?_); on_goal 2 => rfl)
      | ((with_reducible refine tdStart_frame ?_ ?_); on_goal 2 => rfl)
      | ((with_reducible refine tdStop_frame ?_ ?_); on_goal 2 => rfl)
      | split

theorem tdMessage_frame {w₀ : Nat} {s₀ : State} {m : Bytes} {s : State} (h₀ : Frame w₀ s₀ s) (hw₀ : 63859354771514 ||| w₀ = w₀) :
    Frame w₀ s₀ (tdMessage m s).2 := by
  refine h₀.trans 63859354771514 ?_ hw₀
  clear h₀ hw₀
  unfold tdMessage
  repeat' first
      | with_reducible exact Frame.refl
      | ((first | intro x | (lift_lets -underBinder; intro x)); first
      | clear_value x)
      | ((with_reducible refine tdRequest_frame (fun s => ?_) ?_ ?_); on_goal 3 => rfl)
      | ((with_reducible refine tdWork_frame ?_ ?_); on_goal 2 => rfl)
      | (refine Frame.ofEq ‹_› ?_)
      | with_reducible refine Frame.ite2 ?_ ?_
      | split

theorem vendorMessage_frame {w₀ : Nat} {s₀ : State} {m : Bytes} {s : State} (h₀ : Frame w₀ s₀ s) (hw₀ : 134228098951226 ||| w₀ = w₀) :
    Frame w₀ s₀ (vendorMessage m s).2 := by
  refine h₀.trans 134228098951226 ?_ hw₀
  clear h₀ hw₀
  unfold vendorMessage
  repeat' first
      | with_reducible exact Frame.refl
      | ((first | intro x | (lift_lets -underBinder; intro x)); first
      | clear_value x)
      | ((with_reducible refine kmMessage_frame ?_ ?_); on_goal 2 => rfl)
      | ((with_reducible refine tdMessage_frame ?_ ?_); on_goal 2 => rfl)
      | dsimp -zeta only
      | with_reducible refine Frame.ite2 ?_ ?_

theorem doeVendor_frame {w₀ : Nat} {s₀ : State} {x : Spdm} {p : Bytes} {s : State} (h₀ : Frame w₀ s₀ s) (hw₀ : 134228098951290 ||| w₀ = w₀) :
    FrameOpt w₀ s₀ (doeVendor x p s) := by
  refine FrameOpt.trans 134228098951290 h₀ ?_ hw₀
  clear h₀ hw₀
  unfold doeVendor
  repeat' first
      | with_reducible exact Frame.refl
      | ((with_reducible refine spdmCounted_frame ?_ ?_); on_goal 2 => rfl)
      | ((with_reducible refine vendorMessage_frame ?_ ?_); on_goal 2 => rfl)
      | with_reducible exact FrameOpt.none
      | with_reducible refine FrameOpt.some ?_
      | split

theorem doeReply_frame {w₀ : Nat} {s₀ : State} {kind : Nat} {r : Bytes} {s : State} (h₀ : Frame w₀ s₀ s) (hw₀ : 70368744179712 ||| w₀ = w₀) :
    Frame w₀ s₀ (doeReply kind r s) := by
  refine h₀.trans 70368744179712 ?_ hw₀
  clear h₀ hw₀
  unfold doeReply
  repeat' first
      | with_reducible exact Frame.refl
      | ((first | intro x | (lift_lets -underBinder; intro x)); first
      | clear_value x)
      | ((with_reducible refine Frame.updAt ?_ ?_); on_goal 2 => rfl)

theorem doeGo_frame {w₀ : Nat} {s₀ : State}  {s : State} (h₀ : Frame w₀ s₀ s) (hw₀ : 134228098951290 ||| w₀ = w₀) :
    Frame w₀ s₀ (doeGo s) := by
  refine h₀.trans 134228098951290 ?_ hw₀
  clear h₀ hw₀
  unfold doeGo
  repeat' first
      | with_reducible assumption
      | with_reducible exact Frame.refl
      | ((first | intro x | (lift_lets -underBinder; intro x)); first
      | (refine Frame.cut (w := 134228098951290) (s := s) (x := x) ?_ fun _ => ?_; (on_goal 1 => try dsimp only [x]); (on_goal 2 => clear_value x))
      | clear_value x)
      | ((with_reducible refine spdmPlain_frame ?_ ?_); on_goal 2 => rfl)
      | ((with_reducible refine doeReply_frame ?_ ?_); on_goal 2 => rfl)
      | ((with_reducible refine Frame.updAt ?_ ?_); on_goal 2 => rfl)
      | dsimp -zeta only
      | ((with_reducible refine spdmSecured_frame (fun _ _ _ => doeVendor_frame Frame.refl rfl) ?_ ?_); on_goal 2 => rfl)
      | with_reducible refine Frame.ite ?_ ?_
      | split

theorem doeStopped_frame {w₀ : Nat} {hall : Nat} {s t : State} (e : doeStopped hall s = some t)
    (hw₀ : 70368744179712 ||| w₀ = w₀) : Frame w₀ s t := by
  unfold doeStopped at e
  repeat' first
      | (cases e; done)
      | (rw [← Option.some.inj e]; exact doeReply_frame Frame.refl hw₀)
      | split at e

theorem stopAnswer_frame {w₀ : Nat} {s₀ : State} {hall : Nat} {s : State} (h₀ : Frame w₀ s₀ s) (hw₀ : 105554190010368 ||| w₀ = w₀) :
    Frame w₀ s₀ (stopAnswer hall s) := by
  unfold stopAnswer
  refine Frame.ite ?_ h₀
  split
  rename_i e
  have k := Frame.ofEq e (tdStopped_frame (hall := hall) h₀ (mask_le rfl hw₀))
  split
  · rename_i d
    exact k.trans w₀ (doeStopped_frame d (mask_le rfl hw₀)) (Nat.or_self _)
  · exact tdSend_frame k (mask_le rfl hw₀)

theorem cfgWrite_frame {w₀ : Nat} {s₀ : State} {off : Nat} {v : Word} {s : State} (h₀ : Frame w₀ s₀ s) (hw₀ : 134228098951290 ||| w₀ = w₀) :
    Frame w₀ s₀ (cfgWrite off v s) := by
  refine h₀.trans 134228098951290 ?_ hw₀
  clear h₀ hw₀
  unfold cfgWrite
  repeat' first
      | with_reducible assumption
      | with_reducible exact Frame.refl
      | ((first | intro x | (lift_lets -underBinder; intro x)); first
      | (refine Frame.cut (w := 134228098951290) (s := s) (x := x) ?_ fun _ => ?_; (on_goal 1 => try dsimp only [x]); (on_goal 2 => clear_value x)))
      | ((with_reducible refine updIde_frame ?_ ?_); on_goal 2 => rfl)
      | ((with_reducible refine boundError_frame ?_ ?_); on_goal 2 => rfl)
      | ((with_reducible refine ideSettle_frame ?_ ?_); on_goal 2 => rfl)
      | ((with_reducible refine doeGo_frame ?_ ?_); on_goal 2 => rfl)
      | ((with_reducible refine Frame.updAt ?_ ?_); on_goal 2 => rfl)
      | with_reducible refine Frame.ite ?_ ?_
      | split

end Sys2Proof.Machine
end

