-- ==== Sys2Proof/Laws/FrHostPort.lean ====
section
/-! SUPPORT. What each operation of Machine/HostPort.lean may change (see Frame.lean). -/

namespace Sys2Proof.Machine

-- One declaration at a time, so that the elaborator holds few threads (each takes stack of its own).
set_option Elab.async false

theorem pageGet_frame {w₀ : Nat} {s₀ : State} {x0 : Nat} {x1 : Bus} {x2 : Nat} {x3 : Nat} {x4 : State} (h₀ : Frame w₀ s₀ x4) (hw₀ : 17592588697606 ||| w₀ = w₀) :
    Frame w₀ s₀ (pageGet x0 x1 x2 x3 x4).2 := by
  refine h₀.trans 17592588697606 ?_ hw₀
  clear h₀ hw₀
  induction x0 generalizing x1 x2 x3 x4 with
  | zero =>
    unfold pageGet
    repeat' first
      | with_reducible exact Frame.refl
  | succ n ih =>
    unfold pageGet
    repeat' first
      | with_reducible assumption
      | with_reducible exact Frame.refl
      | ((first | intro x | (lift_lets -underBinder; intro x)); first
      | (refine Frame.cut2 (w := 17592588697606) (s := x4) (x := x) ?_ fun _ => ?_; (on_goal 1 => try dsimp only [x]); (on_goal 2 => clear_value x))
      | clear_value x)
      | ((with_reducible refine busRead_frame ?_ ?_); on_goal 2 => rfl)
      | dsimp -zeta only
      | ((with_reducible refine Frame.trans 17592588697606 ?_ (ih ..) ?_); on_goal 2 => rfl)
      | with_reducible refine Frame.ite2 ?_ ?_

theorem pagePut_frame {w₀ : Nat} {s₀ : State} {x0 : Nat} {x1 : Bus} {x2 : Nat} {x3 : Bytes} {x4 : State} (h₀ : Frame w₀ s₀ x4) (hw₀ : 140737488354302 ||| w₀ = w₀) :
    Frame w₀ s₀ (pagePut x0 x1 x2 x3 x4).2 := by
  refine h₀.trans 140737488354302 ?_ hw₀
  clear h₀ hw₀
  induction x0 generalizing x1 x2 x3 x4 with
  | zero =>
    unfold pagePut
    repeat' first
      | with_reducible exact Frame.refl
  | succ n ih =>
    unfold pagePut
    repeat' first
      | with_reducible assumption
      | with_reducible exact Frame.refl
      | ((first | intro x | (lift_lets -underBinder; intro x)); first
      | (refine Frame.cut2 (w := 140737488354302) (s := x4) (x := x) ?_ fun _ => ?_; (on_goal 1 => try dsimp only [x]); (on_goal 2 => clear_value x))
      | clear_value x)
      | ((with_reducible refine busWrite_frame ?_ ?_); on_goal 2 => rfl)
      | ((with_reducible refine busWrite8_frame ?_ ?_); on_goal 2 => rfl)
      | dsimp -zeta only
      | ((with_reducible refine Frame.trans 140737488354302 ?_ (ih ..) ?_); on_goal 2 => rfl)
      | with_reducible refine Frame.ite2 ?_ ?_

theorem ideCheck_frame {w₀ : Nat} {s₀ : State} {t : Tlp} {s : State} (h₀ : Frame w₀ s₀ s) (hw₀ : 134232393918586 ||| w₀ = w₀) :
    Frame w₀ s₀ (ideCheck t s).2 := by
  refine h₀.trans 134232393918586 ?_ hw₀
  clear h₀ hw₀
  unfold ideCheck
  repeat' first
      | with_reducible exact Frame.refl
      | ((first | intro x | (lift_lets -underBinder; intro x)); first
      | clear_value x)
      | ((with_reducible refine updIdeKey_frame ?_ ?_); on_goal 2 => rfl)
      | ((with_reducible refine ideFailure_frame ?_ ?_); on_goal 2 => rfl)
      | with_reducible refine Frame.ite2 ?_ ?_
      | split

theorem tlpRefused_frame {w₀ : Nat} {s₀ : State} {t : Tlp} {s : State} (h₀ : Frame w₀ s₀ s) (hw₀ : 134228098951290 ||| w₀ = w₀) :
    Frame w₀ s₀ (tlpRefused t s) := by
  refine h₀.trans 134228098951290 ?_ hw₀
  clear h₀ hw₀
  unfold tlpRefused
  repeat' first
      | with_reducible exact Frame.refl
      | ((with_reducible refine Frame.emit ?_ ?_); on_goal 2 => rfl)
      | with_reducible refine Frame.ite ?_ ?_

theorem completionTake_frame {w₀ : Nat} {s₀ : State} {func : Nat} {tag : Nat} {st : Status} {data : Bytes} {s : State} (h₀ : Frame w₀ s₀ s) (hw₀ : 18387828768 ||| w₀ = w₀) :
    Frame w₀ s₀ (completionTake func tag st data s).2 := by
  refine h₀.trans 18387828768 ?_ hw₀
  clear h₀ hw₀
  unfold completionTake
  repeat' first
      | with_reducible assumption
      | with_reducible exact Frame.refl
      | ((first | intro x | (lift_lets -underBinder; intro x)); first
      | (refine Frame.cut (w := 18387828768) (s := s) (x := x) ?_ fun _ => ?_; (on_goal 1 => try dsimp only [x]); (on_goal 2 => clear_value x)))
      | ((with_reducible refine hallStale_frame ?_ ?_); on_goal 2 => rfl)
      | ((with_reducible refine charge_frame ?_ ?_); on_goal 2 => rfl)
      | ((with_reducible refine staleReply_frame ?_ ?_); on_goal 2 => rfl)
      | ((with_reducible refine hostTake_frame ?_ ?_); on_goal 2 => rfl)
      | ((with_reducible refine Frame.setHostReads ?_ ?_); on_goal 2 => rfl)
      | with_reducible refine Frame.ite2 ?_ ?_
      | split

theorem tlpSafe_frame {w₀ : Nat} {s₀ : State} {t : Tlp} {s : State} (h₀ : Frame w₀ s₀ s) (hw₀ : 134228098951294 ||| w₀ = w₀) :
    Frame w₀ s₀ (tlpSafe t s) := by
  refine h₀.trans 134228098951294 ?_ hw₀
  clear h₀ hw₀
  unfold tlpSafe
  repeat' first
      | with_reducible exact Frame.refl
      | ((with_reducible refine tlpRefused_frame ?_ ?_); on_goal 2 => rfl)
      | ((with_reducible refine Frame.updPins ?_ ?_); on_goal 2 => rfl)
      | split

theorem tlpAnswers_frame {w₀ : Nat} {s₀ : State} {t : Tlp} {b : Bytes} {s : State} (h₀ : Frame w₀ s₀ s) (hw₀ : 35184372090880 ||| w₀ = w₀) :
    Frame w₀ s₀ (tlpAnswers t b s) := by
  refine h₀.trans 35184372090880 ?_ hw₀
  clear h₀ hw₀
  unfold tlpAnswers
  repeat' first
      | with_reducible exact Frame.refl
      | ((first | intro x | (lift_lets -underBinder; intro x)); first
      | clear_value x)
      | ((with_reducible refine ideEmit_frame ?_ ?_); on_goal 2 => rfl)

theorem tlpWork_frame {w₀ : Nat} {s₀ : State} {t : Tlp} {s : State} (h₀ : Frame w₀ s₀ s) (hw₀ : 140737488354302 ||| w₀ = w₀) :
    Frame w₀ s₀ (tlpWork t s).2 := by
  refine h₀.trans 140737488354302 ?_ hw₀
  clear h₀ hw₀
  unfold tlpWork
  repeat' first
      | with_reducible exact Frame.refl
      | ((first | intro x | (lift_lets -underBinder; intro x)); first
      | clear_value x)
      | ((with_reducible refine cfgWrite_frame ?_ ?_); on_goal 2 => rfl)
      | ((with_reducible refine pageGet_frame ?_ ?_); on_goal 2 => rfl)
      | ((with_reducible refine pagePut_frame ?_ ?_); on_goal 2 => rfl)
      | ((with_reducible refine tlpRefused_frame ?_ ?_); on_goal 2 => rfl)
      | ((with_reducible refine completionTake_frame ?_ ?_); on_goal 2 => rfl)
      | ((with_reducible refine tlpAnswers_frame ?_ ?_); on_goal 2 => rfl)
      | dsimp -zeta only
      | with_reducible refine Frame.ite2 ?_ ?_
      | split

theorem tlpReceive_frame {w₀ : Nat} {s₀ : State} {t : Tlp} {s : State} (h₀ : Frame w₀ s₀ s) (hw₀ : 140737488354302 ||| w₀ = w₀) :
    Frame w₀ s₀ (tlpReceive t s).2 := by
  refine h₀.trans 140737488354302 ?_ hw₀
  clear h₀ hw₀
  unfold tlpReceive
  repeat' first
      | with_reducible assumption
      | with_reducible exact Frame.refl
      | ((first | intro x | (lift_lets -underBinder; intro x)); first
      | (refine Frame.cut (w := 140737488354302) (s := s) (x := x) ?_ fun _ => ?_; (on_goal 1 => try dsimp only [x]); (on_goal 2 => clear_value x)))
      | ((with_reducible refine portInput_frame ?_ ?_); on_goal 2 => rfl)
      | ((with_reducible refine hallCount_frame ?_ ?_); on_goal 2 => rfl)
      | ((with_reducible refine ideCheck_frame ?_ ?_); on_goal 2 => rfl)
      | ((with_reducible refine tlpRefused_frame ?_ ?_); on_goal 2 => rfl)
      | ((with_reducible refine tlpSafe_frame ?_ ?_); on_goal 2 => rfl)
      | ((with_reducible refine tlpWork_frame ?_ ?_); on_goal 2 => rfl)
      | ((with_reducible refine Frame.updPins ?_ ?_); on_goal 2 => rfl)
      | (refine Frame.ofEq ‹_› ?_)
      | dsimp -zeta only
      | with_reducible refine Frame.ite ?_ ?_
      | with_reducible refine Frame.ite2 ?_ ?_
      | split

end Sys2Proof.Machine
end

