-- ==== Sys2Proof/Laws/FrQuery.lean ====
section
/-! SUPPORT. What each operation of Machine/Query.lean may change (see Frame.lean). -/

namespace Sys2Proof.Machine

-- One declaration at a time, so that the elaborator holds few threads (each takes stack of its own).
set_option Elab.async false

theorem keyQueryAct_frame {w₀ : Nat} {s₀ : State} {a : Act} {arg : Bytes} {s : State} (h₀ : Frame w₀ s₀ s) (hw₀ : 2199023255552 ||| w₀ = w₀) :
    Frame w₀ s₀ (keyQueryAct a arg s) := by
  refine h₀.trans 2199023255552 ?_ hw₀
  clear h₀ hw₀
  unfold keyQueryAct
  repeat' first
      | with_reducible exact Frame.refl
      | ((first | intro x | (lift_lets -underBinder; intro x)); first
      | clear_value x)
      | ((with_reducible refine runAct_frame (fun s => ?_) ?_ ?_); on_goal 3 => rfl)
      | with_reducible refine Frame.ite2 ?_ ?_

theorem hallQueryAct_frame {w₀ : Nat} {s₀ : State} {a : Act} {arg : Bytes} {s : State} (h₀ : Frame w₀ s₀ s) (hw₀ : 2199023255552 ||| w₀ = w₀) :
    Frame w₀ s₀ (hallQueryAct a arg s) := by
  refine h₀.trans 2199023255552 ?_ hw₀
  clear h₀ hw₀
  unfold hallQueryAct
  repeat' first
      | with_reducible exact Frame.refl
      | ((first | intro x | (lift_lets -underBinder; intro x)); first
      | clear_value x)
      | ((with_reducible refine runAct_frame (fun s => ?_) ?_ ?_); on_goal 3 => rfl)
      | with_reducible refine Frame.ite2 ?_ ?_

theorem logReadAct_frame {w₀ : Nat} {s₀ : State} {a : Act} {arg : Bytes} {s : State} (h₀ : Frame w₀ s₀ s) (hw₀ : 2199023255552 ||| w₀ = w₀) :
    Frame w₀ s₀ (logReadAct a arg s) := by
  refine h₀.trans 2199023255552 ?_ hw₀
  clear h₀ hw₀
  unfold logReadAct
  repeat' first
      | with_reducible exact Frame.refl
      | ((first | intro x | (lift_lets -underBinder; intro x)); first
      | clear_value x)
      | ((with_reducible refine runAct_frame (fun s => ?_) ?_ ?_); on_goal 3 => rfl)
      | with_reducible refine Frame.ite2 ?_ ?_

theorem counterReadAct_frame {w₀ : Nat} {s₀ : State} {a : Act} {arg : Bytes} {s : State} (h₀ : Frame w₀ s₀ s) (hw₀ : 2199023255552 ||| w₀ = w₀) :
    Frame w₀ s₀ (counterReadAct a arg s) := by
  refine h₀.trans 2199023255552 ?_ hw₀
  clear h₀ hw₀
  unfold counterReadAct
  repeat' first
      | with_reducible exact Frame.refl
      | ((first | intro x | (lift_lets -underBinder; intro x)); first
      | clear_value x)
      | ((with_reducible refine runAct_frame (fun s => ?_) ?_ ?_); on_goal 3 => rfl)
      | with_reducible refine Frame.ite2 ?_ ?_

theorem hallCountersAct_frame {w₀ : Nat} {s₀ : State} {a : Act} {arg : Bytes} {s : State} (h₀ : Frame w₀ s₀ s) (hw₀ : 2199023255552 ||| w₀ = w₀) :
    Frame w₀ s₀ (hallCountersAct a arg s) := by
  refine h₀.trans 2199023255552 ?_ hw₀
  clear h₀ hw₀
  unfold hallCountersAct
  repeat' first
      | with_reducible exact Frame.refl
      | ((first | intro x | (lift_lets -underBinder; intro x)); first
      | clear_value x)
      | ((with_reducible refine runAct_frame (fun s => ?_) ?_ ?_); on_goal 3 => rfl)
      | with_reducible refine Frame.ite2 ?_ ?_

theorem streamQueryAct_frame {w₀ : Nat} {s₀ : State} {a : Act} {arg : Bytes} {s : State} (h₀ : Frame w₀ s₀ s) (hw₀ : 2199023280128 ||| w₀ = w₀) :
    Frame w₀ s₀ (streamQueryAct a arg s) := by
  refine h₀.trans 2199023280128 ?_ hw₀
  clear h₀ hw₀
  unfold streamQueryAct
  repeat' first
      | with_reducible exact Frame.refl
      | ((first | intro x | (lift_lets -underBinder; intro x)); first
      | clear_value x)
      | ((with_reducible refine runAct_frame (fun s => ?_) ?_ ?_); on_goal 3 => rfl)
      | with_reducible refine Frame.ite2 ?_ ?_

theorem regionQueryAct_frame {w₀ : Nat} {s₀ : State} {a : Act} {arg : Bytes} {s : State} (h₀ : Frame w₀ s₀ s) (hw₀ : 2199023255552 ||| w₀ = w₀) :
    Frame w₀ s₀ (regionQueryAct a arg s) := by
  refine h₀.trans 2199023255552 ?_ hw₀
  clear h₀ hw₀
  unfold regionQueryAct
  repeat' first
      | with_reducible exact Frame.refl
      | ((first | intro x | (lift_lets -underBinder; intro x)); first
      | clear_value x)
      | ((with_reducible refine runAct_frame (fun s => ?_) ?_ ?_); on_goal 3 => rfl)
      | with_reducible refine Frame.ite2 ?_ ?_

theorem prefill_frame {w₀ : Nat} {s₀ : State} {h : Handle} {parent : Handle} {label : Bytes} {s : State} (h₀ : Frame w₀ s₀ s) (hw₀ : 64 ||| w₀ = w₀) :
    Frame w₀ s₀ (prefill h parent label s).2 := by
  refine h₀.trans 64 ?_ hw₀
  clear h₀ hw₀
  unfold prefill
  repeat' first
      | with_reducible exact Frame.refl
      | ((first | intro x | (lift_lets -underBinder; intro x)); first
      | clear_value x)
      | ((with_reducible refine State.kvEvent_frame ?_ ?_); on_goal 2 => rfl)
      | ((with_reducible refine State.kvCount_frame ?_ ?_); on_goal 2 => rfl)
      | ((with_reducible refine placePinned_frame ?_ ?_); on_goal 2 => rfl)
      | dsimp -zeta only
      | with_reducible refine Frame.ite ?_ ?_
      | with_reducible refine Frame.ite2 ?_ ?_

theorem regionKeys_frame {w₀ : Nat} {s₀ : State} {d : Bytes} {x0 : List (Nat × Nat)} {x1 : List Handle} {x2 : State} (h₀ : Frame w₀ s₀ x2) (hw₀ : 64 ||| w₀ = w₀) :
    Frame w₀ s₀ (regionKeys d x0 x1 x2).2.2 := by
  refine h₀.trans 64 ?_ hw₀
  clear h₀ hw₀
  induction x0 generalizing x1 x2 with
  | nil =>
    unfold regionKeys
    repeat' first
      | with_reducible exact Frame.refl
  | cons a l ih =>
    unfold regionKeys
    repeat' first
      | with_reducible exact Frame.refl
      | ((first | intro x | (lift_lets -underBinder; intro x)); first
      | clear_value x)
      | ((with_reducible refine retireHandle_frame ?_ ?_); on_goal 2 => rfl)
      | ((with_reducible refine prefill_frame ?_ ?_); on_goal 2 => rfl)
      | with_reducible refine Frame.forAll (fun _ x2 => ?_) _ ?_
      | dsimp -zeta only
      | with_reducible refine Frame.app2 ‹_› ?_
      | with_reducible refine Frame.ite3 ?_ ?_

theorem regionStage_frame {w₀ : Nat} {s₀ : State} {desc : Option Bytes} {new : List Handle} {s : State} (h₀ : Frame w₀ s₀ s)
    (hw₀ : 491520 ||| w₀ = w₀) : Frame w₀ s₀ (regionStage desc new s) := by
  unfold regionStage
  split
  · exact Frame.updTr (Frame.updLn h₀ (mask_le rfl hw₀)) (mask_le rfl hw₀)
  · exact h₀

theorem regionRun_frame {w₀ : Nat} {s₀ : State} {a : Act} {obj : Nat} {op : Nat} {r : Nat} {sealed : Bool} {desc : Option Bytes} {new : List Handle} {old : List Handle} {s : State} (h₀ : Frame w₀ s₀ s) (hw₀ : 2200105885760 ||| w₀ = w₀) :
    Frame w₀ s₀ (regionRun a obj op r sealed desc new old s) := by
  refine h₀.trans 2200105885760 ?_ hw₀
  clear h₀ hw₀
  unfold regionRun
  repeat' first
      | with_reducible assumption
      | with_reducible exact Frame.refl
      | ((first | intro x | (lift_lets -underBinder; intro x)); first
      | (refine Frame.cut (w := 2200105885760) (s := s) (x := x) ?_ fun _ => ?_; (on_goal 1 => try dsimp only [x]); (on_goal 2 => clear_value x)))
      | ((with_reducible refine retireHandle_frame ?_ ?_); on_goal 2 => rfl)
      | ((with_reducible refine actWaits_frame ?_ ?_); on_goal 2 => rfl)
      | ((with_reducible refine lnCommand_frame ?_ ?_); on_goal 2 => rfl)
      | ((with_reducible refine regionStage_frame ?_ ?_); on_goal 2 => rfl)
      | ((with_reducible refine Frame.updLnSoft (f := _) ?_ ?_ ?_); (on_goal 1 => (intro _; unfold Ln.rest; rfl)); on_goal 2 => rfl)
      | with_reducible refine Frame.forAll (fun _ s => ?_) _ ?_
      | with_reducible refine Frame.ite ?_ ?_

theorem regionMay_frame {w₀ : Nat} {s₀ : State} {a : Act} {obj : Nat} {r : Nat} {formed : Bool} {work : State → State} {s : State} (hwork : ∀ u, Frame w₀ u (work u)) (h₀ : Frame w₀ s₀ s) (hw₀ : 2199023255552 ||| w₀ = w₀) :
    Frame w₀ s₀ (regionMay a obj r formed s work) := by
  unfold regionMay
  repeat' first
      | with_reducible assumption
      | ((with_reducible refine actDone_frame ?_ ?_); on_goal 2 => first | rfl | exact mask_le rfl hw₀)
      | with_reducible refine Frame.ite ?_ ?_
      | with_reducible refine Frame.trans w₀ ?_ (hwork _) (Nat.or_self w₀)

theorem regionInstallAct_frame {w₀ : Nat} {s₀ : State} {a : Act} {arg : Bytes} {s : State} (h₀ : Frame w₀ s₀ s) (hw₀ : 2200105885760 ||| w₀ = w₀) :
    Frame w₀ s₀ (regionInstallAct a arg s) := by
  refine h₀.trans 2200105885760 ?_ hw₀
  clear h₀ hw₀
  unfold regionInstallAct
  repeat' first
      | with_reducible exact Frame.refl
      | ((first | intro x | (lift_lets -underBinder; intro x)); first
      | clear_value x)
      | ((with_reducible refine actDone_frame ?_ ?_); on_goal 2 => rfl)
      | ((with_reducible refine regionKeys_frame ?_ ?_); on_goal 2 => rfl)
      | ((with_reducible refine regionRun_frame ?_ ?_); on_goal 2 => rfl)
      | ((with_reducible refine regionMay_frame (fun s => ?_) ?_ ?_); on_goal 3 => rfl)
      | dsimp -zeta only
      | with_reducible refine Frame.ite ?_ ?_

theorem regionSealAct_frame {w₀ : Nat} {s₀ : State} {a : Act} {arg : Bytes} {s : State} (h₀ : Frame w₀ s₀ s) (hw₀ : 2200105885760 ||| w₀ = w₀) :
    Frame w₀ s₀ (regionSealAct a arg s) := by
  refine h₀.trans 2200105885760 ?_ hw₀
  clear h₀ hw₀
  unfold regionSealAct
  repeat' first
      | with_reducible exact Frame.refl
      | ((with_reducible refine regionRun_frame ?_ ?_); on_goal 2 => rfl)
      | ((with_reducible refine regionMay_frame (fun s => ?_) ?_ ?_); on_goal 3 => rfl)

theorem regionEraseAct_frame {w₀ : Nat} {s₀ : State} {a : Act} {arg : Bytes} {s : State} (h₀ : Frame w₀ s₀ s) (hw₀ : 2200105885760 ||| w₀ = w₀) :
    Frame w₀ s₀ (regionEraseAct a arg s) := by
  refine h₀.trans 2200105885760 ?_ hw₀
  clear h₀ hw₀
  unfold regionEraseAct
  repeat' first
      | with_reducible exact Frame.refl
      | ((first | intro x | (lift_lets -underBinder; intro x)); first
      | clear_value x)
      | ((with_reducible refine actDone_frame ?_ ?_); on_goal 2 => rfl)
      | ((with_reducible refine regionKeys_frame ?_ ?_); on_goal 2 => rfl)
      | ((with_reducible refine regionRun_frame ?_ ?_); on_goal 2 => rfl)
      | ((with_reducible refine regionMay_frame (fun s => ?_) ?_ ?_); on_goal 3 => rfl)
      | dsimp -zeta only
      | with_reducible refine Frame.ite ?_ ?_

theorem regionFreeAct_frame {w₀ : Nat} {s₀ : State} {a : Act} {arg : Bytes} {s : State} (h₀ : Frame w₀ s₀ s) (hw₀ : 2200105885760 ||| w₀ = w₀) :
    Frame w₀ s₀ (regionFreeAct a arg s) := by
  refine h₀.trans 2200105885760 ?_ hw₀
  clear h₀ hw₀
  unfold regionFreeAct
  repeat' first
      | with_reducible exact Frame.refl
      | ((with_reducible refine regionRun_frame ?_ ?_); on_goal 2 => rfl)
      | ((with_reducible refine regionMay_frame (fun s => ?_) ?_ ?_); on_goal 3 => rfl)

end Sys2Proof.Machine
end

