-- ==== Sys2Proof/Laws/FrSheet.lean ====
section
/-! SUPPORT. What each operation of Machine/Sheet.lean may change (see Frame.lean). -/

namespace Sys2Proof.Machine

-- One declaration at a time, so that the elaborator holds few threads (each takes stack of its own).
set_option Elab.async false

theorem recordSent_frame {w₀ : Nat} {s₀ : State} {n : Nat} {s : State} (h₀ : Frame w₀ s₀ s) (hw₀ : 41781441855488 ||| w₀ = w₀) :
    Frame w₀ s₀ (recordSent n s) := by
  refine h₀.trans 41781441855488 ?_ hw₀
  clear h₀ hw₀
  unfold recordSent
  repeat' first
      | with_reducible assumption
      | with_reducible exact Frame.refl
      | ((first | intro x | (lift_lets -underBinder; intro x)); first
      | (refine Frame.cut (w := 41781441855488) (s := s) (x := x) ?_ fun _ => ?_; (on_goal 1 => try dsimp only [x]); (on_goal 2 => clear_value x))
      | clear_value x)
      | ((with_reducible refine State.mgtCount_frame ?_ ?_); on_goal 2 => rfl)
      | ((with_reducible refine updSess_frame ?_ ?_); on_goal 2 => rfl)
      | ((with_reducible refine Frame.emit ?_ ?_); on_goal 2 => rfl)
      | with_reducible refine Frame.ite ?_ ?_

theorem endSession_frame {w₀ : Nat} {s₀ : State} {n : Nat} {s : State} (h₀ : Frame w₀ s₀ s) (hw₀ : 76965813950528 ||| w₀ = w₀) :
    Frame w₀ s₀ (endSession n s) := by
  refine h₀.trans 76965813950528 ?_ hw₀
  clear h₀ hw₀
  unfold endSession
  repeat' first
      | with_reducible assumption
      | with_reducible exact Frame.refl
      | ((first | intro x | (lift_lets -underBinder; intro x)); first
      | (refine Frame.cut (w := 76965813950528) (s := s) (x := x) ?_ fun _ => ?_; (on_goal 1 => try dsimp only [x]); (on_goal 2 => clear_value x))
      | clear_value x)
      | ((with_reducible refine retireHandle_frame ?_ ?_); on_goal 2 => rfl)
      | ((with_reducible refine closeSpdm_frame ?_ ?_); on_goal 2 => rfl)
      | ((with_reducible refine Frame.updDom ?_ ?_); on_goal 2 => rfl)
      | ((with_reducible refine Frame.updMgt ?_ ?_); on_goal 2 => rfl)
      | with_reducible refine Frame.forAll (fun _ s => ?_) _ ?_

theorem handshakeRefused_frame {w₀ : Nat} {s₀ : State}  {s : State} (h₀ : Frame w₀ s₀ s) (hw₀ : 6597069766656 ||| w₀ = w₀) :
    Frame w₀ s₀ (handshakeRefused s) := by
  refine h₀.trans 6597069766656 ?_ hw₀
  clear h₀ hw₀
  unfold handshakeRefused
  repeat' first
      | with_reducible exact Frame.refl
      | ((with_reducible refine State.mgtEvent_frame ?_ ?_); on_goal 2 => rfl)
      | ((with_reducible refine State.mgtCount_frame ?_ ?_); on_goal 2 => rfl)

theorem clientHello_frame {w₀ : Nat} {s₀ : State} {h : Hello} {s : State} (h₀ : Frame w₀ s₀ s) (hw₀ : 59373627899904 ||| w₀ = w₀) :
    Frame w₀ s₀ (clientHello h s) := by
  refine h₀.trans 59373627899904 ?_ hw₀
  clear h₀ hw₀
  unfold clientHello
  repeat' first
      | with_reducible assumption
      | with_reducible exact Frame.refl
      | ((first | intro x | (lift_lets -underBinder; intro x)); first
      | (refine Frame.cut (w := 59373627899904) (s := s) (x := x) ?_ fun _ => ?_; (on_goal 1 => try dsimp only [x]); (on_goal 2 => clear_value x))
      | clear_value x)
      | ((with_reducible refine State.mgtCount_frame ?_ ?_); on_goal 2 => rfl)
      | ((with_reducible refine handshakeRefused_frame ?_ ?_); on_goal 2 => rfl)
      | ((with_reducible refine Frame.opened ?_ ?_); on_goal 2 => rfl)
      | ((with_reducible refine Frame.updMgt ?_ ?_); on_goal 2 => rfl)
      | ((with_reducible refine Frame.emit ?_ ?_); on_goal 2 => rfl)
      | with_reducible refine Frame.ite ?_ ?_

theorem handshakeFails_frame {w₀ : Nat} {s₀ : State} {n : Nat} {s : State} (h₀ : Frame w₀ s₀ s) (hw₀ : 41781441855488 ||| w₀ = w₀) :
    Frame w₀ s₀ (handshakeFails n s) := by
  refine h₀.trans 41781441855488 ?_ hw₀
  clear h₀ hw₀
  unfold handshakeFails
  repeat' first
      | with_reducible exact Frame.refl
      | ((with_reducible refine State.mgtCount_frame ?_ ?_); on_goal 2 => rfl)
      | ((with_reducible refine handshakeRefused_frame ?_ ?_); on_goal 2 => rfl)
      | ((with_reducible refine Frame.updMgtSoft (f := _) ?_ ?_ ?_); (on_goal 1 => (intro _; unfold Mgt.rest; rfl)); on_goal 2 => rfl)
      | ((with_reducible refine Frame.emit ?_ ?_); on_goal 2 => rfl)

theorem sessionLive_frame {w₀ : Nat} {s₀ : State} {n : Nat} {c : CertChain} {s : State} (h₀ : Frame w₀ s₀ s) (hw₀ : 41781441855488 ||| w₀ = w₀) :
    Frame w₀ s₀ (sessionLive n c s) := by
  refine h₀.trans 41781441855488 ?_ hw₀
  clear h₀ hw₀
  unfold sessionLive
  repeat' first
      | with_reducible assumption
      | with_reducible exact Frame.refl
      | ((first | intro x | (lift_lets -underBinder; intro x)); first
      | (refine Frame.cut (w := 41781441855488) (s := s) (x := x) ?_ fun _ => ?_; (on_goal 1 => try dsimp only [x]); (on_goal 2 => clear_value x)))
      | ((with_reducible refine State.mgtCount_frame ?_ ?_); on_goal 2 => rfl)
      | ((with_reducible refine updSess_frame ?_ ?_); on_goal 2 => rfl)
      | ((with_reducible refine Frame.emit ?_ ?_); on_goal 2 => rfl)

theorem handshakeFinished_frame {w₀ : Nat} {s₀ : State} {n : Nat} {c : CertChain} {good : Bool} {s : State} (h₀ : Frame w₀ s₀ s) (hw₀ : 112150186039360 ||| w₀ = w₀) :
    Frame w₀ s₀ (handshakeFinished n c good s) := by
  refine h₀.trans 112150186039360 ?_ hw₀
  clear h₀ hw₀
  unfold handshakeFinished
  repeat' first
      | with_reducible exact Frame.refl
      | ((with_reducible refine State.mgtEvent_frame ?_ ?_); on_goal 2 => rfl)
      | ((with_reducible refine endSession_frame ?_ ?_); on_goal 2 => rfl)
      | ((with_reducible refine handshakeFails_frame ?_ ?_); on_goal 2 => rfl)
      | ((with_reducible refine sessionLive_frame ?_ ?_); on_goal 2 => rfl)
      | with_reducible refine Frame.ite ?_ ?_
      | split

theorem sheetSend_frame {w₀ : Nat} {s₀ : State} {n : Nat} {b : Bytes} {s : State} (h₀ : Frame w₀ s₀ s) (hw₀ : 41781441855488 ||| w₀ = w₀) :
    Frame w₀ s₀ (sheetSend n b s) := by
  refine h₀.trans 41781441855488 ?_ hw₀
  clear h₀ hw₀
  unfold sheetSend
  repeat' first
      | with_reducible exact Frame.refl
      | ((with_reducible refine recordSent_frame ?_ ?_); on_goal 2 => rfl)
      | ((with_reducible refine Frame.emit ?_ ?_); on_goal 2 => rfl)

theorem respond_frame {w₀ : Nat} {s₀ : State} {n : Nat} {op : Nat} {tag : Word} {outcome : Nat} {st : Status} {body : Bytes} {s : State} (h₀ : Frame w₀ s₀ s) (hw₀ : 41781441855488 ||| w₀ = w₀) :
    Frame w₀ s₀ (respond n op tag outcome st body s) := by
  refine h₀.trans 41781441855488 ?_ hw₀
  clear h₀ hw₀
  unfold respond
  repeat' first
      | with_reducible assumption
      | with_reducible exact Frame.refl
      | ((first | intro x | (lift_lets -underBinder; intro x)); first
      | (refine Frame.cut (w := 41781441855488) (s := s) (x := x) ?_ fun _ => ?_; (on_goal 1 => try dsimp only [x]); (on_goal 2 => clear_value x))
      | clear_value x)
      | ((with_reducible refine updSess_frame ?_ ?_); on_goal 2 => rfl)
      | ((with_reducible refine sheetSend_frame ?_ ?_); on_goal 2 => rfl)

theorem boxRead_frame {w₀ : Nat} {s₀ : State} {n : Nat} {obj : Nat} {off : Nat} {s : State} (h₀ : Frame w₀ s₀ s) (hw₀ : 2199023255552 ||| w₀ = w₀) :
    Frame w₀ s₀ (boxRead n obj off s) := by
  refine h₀.trans 2199023255552 ?_ hw₀
  clear h₀ hw₀
  unfold boxRead
  repeat' first
      | with_reducible exact Frame.refl
      | ((first | intro x | (lift_lets -underBinder; intro x)); first
      | clear_value x)
      | ((with_reducible refine boxPut_frame ?_ ?_); on_goal 2 => rfl)
      | with_reducible refine Frame.ite ?_ ?_

theorem sheetGet_frame {w₀ : Nat} {s₀ : State} {n : Nat} {q : Req} {s : State} (h₀ : Frame w₀ s₀ s) (hw₀ : 41781441855488 ||| w₀ = w₀) :
    Frame w₀ s₀ (sheetGet n q s) := by
  refine h₀.trans 41781441855488 ?_ hw₀
  clear h₀ hw₀
  unfold sheetGet
  repeat' first
      | with_reducible exact Frame.refl
      | ((first | intro x | (lift_lets -underBinder; intro x)); first
      | clear_value x)
      | ((with_reducible refine respond_frame ?_ ?_); on_goal 2 => rfl)
      | ((with_reducible refine boxRead_frame ?_ ?_); on_goal 2 => rfl)
      | with_reducible refine Frame.ite ?_ ?_
      | split

theorem setValue_frame {w₀ : Nat} {s₀ : State} {obj : Nat} {v : Bytes} {s : State} (h₀ : Frame w₀ s₀ s) (hw₀ : 8572754722816 ||| w₀ = w₀) :
    Frame w₀ s₀ (setValue obj v s).2.2 := by
  refine h₀.trans 8572754722816 ?_ hw₀
  clear h₀ hw₀
  unfold setValue
  repeat' first
      | with_reducible assumption
      | with_reducible exact Frame.refl
      | ((first | intro x | (lift_lets -underBinder; intro x)); first
      | (refine Frame.cut (w := 8572754722816) (s := s) (x := x) ?_ fun _ => ?_; (on_goal 1 => try dsimp only [x]); (on_goal 2 => clear_value x))
      | clear_value x)
      | ((with_reducible refine flashErase_frame ?_ ?_); on_goal 2 => rfl)
      | ((with_reducible refine flashWrite_frame ?_ ?_); on_goal 2 => rfl)
      | ((with_reducible refine hrWindowWrite_frame ?_ ?_); on_goal 2 => rfl)
      | ((with_reducible refine Frame.updMgt ?_ ?_); on_goal 2 => rfl)
      | ((with_reducible refine Frame.updPwr (f := _) ?_ ?_ ?_); (on_goal 1 => (intro _; rfl)); on_goal 2 => rfl)
      | with_reducible refine Frame.ite3 ?_ ?_
      | split

theorem sheetSet_frame {w₀ : Nat} {s₀ : State} {n : Nat} {q : Req} {s : State} (h₀ : Frame w₀ s₀ s) (hw₀ : 43757126811648 ||| w₀ = w₀) :
    Frame w₀ s₀ (sheetSet n q s) := by
  refine h₀.trans 43757126811648 ?_ hw₀
  clear h₀ hw₀
  unfold sheetSet
  repeat' first
      | with_reducible exact Frame.refl
      | ((first | intro x | (lift_lets -underBinder; intro x)); first
      | clear_value x)
      | ((with_reducible refine respond_frame ?_ ?_); on_goal 2 => rfl)
      | ((with_reducible refine setValue_frame ?_ ?_); on_goal 2 => rfl)
      | dsimp -zeta only
      | with_reducible refine Frame.ite ?_ ?_
      | split

theorem sheetGetMulti_frame {w₀ : Nat} {s₀ : State} {n : Nat} {q : Req} {s : State} (h₀ : Frame w₀ s₀ s) (hw₀ : 41781441855488 ||| w₀ = w₀) :
    Frame w₀ s₀ (sheetGetMulti n q s) := by
  refine h₀.trans 41781441855488 ?_ hw₀
  clear h₀ hw₀
  unfold sheetGetMulti
  repeat' first
      | with_reducible exact Frame.refl
      | ((first | intro x | (lift_lets -underBinder; intro x)); first
      | clear_value x)
      | ((with_reducible refine respond_frame ?_ ?_); on_goal 2 => rfl)
      | with_reducible refine Frame.ite ?_ ?_

theorem quietAct_frame {w₀ : Nat} {s₀ : State}  {s : State} (h₀ : Frame w₀ s₀ s) (hw₀ : 0 ||| w₀ = w₀) :
    Frame w₀ s₀ (quietAct s).2 := by
  refine h₀.trans 0 ?_ hw₀
  clear h₀ hw₀
  unfold quietAct
  repeat' first
      | with_reducible exact Frame.refl

theorem runDomain_frame {w₀ : Nat} {s₀ : State} {obj : Nat} {a : Act} {arg : Bytes} {s : State} (h₀ : Frame w₀ s₀ s) (hw₀ : 139457230207994 ||| w₀ = w₀) :
    Frame w₀ s₀ (runDomain obj a arg s).2 := by
  refine h₀.trans 139457230207994 ?_ hw₀
  clear h₀ hw₀
  unfold runDomain
  repeat' first
      | with_reducible exact Frame.refl
      | ((with_reducible refine actWaits_frame ?_ ?_); on_goal 2 => rfl)
      | ((with_reducible refine measExtendAct_frame ?_ ?_); on_goal 2 => rfl)
      | ((with_reducible refine slateAct_frame ?_ ?_); on_goal 2 => rfl)
      | ((with_reducible refine spdmMsgAct_frame ?_ ?_); on_goal 2 => rfl)
      | ((with_reducible refine timeParentAct_frame ?_ ?_); on_goal 2 => rfl)
      | ((with_reducible refine hallCreateAct_frame ?_ ?_); on_goal 2 => rfl)
      | ((with_reducible refine hallGrantAct_frame ?_ ?_); on_goal 2 => rfl)
      | ((with_reducible refine hallUngrantAct_frame ?_ ?_); on_goal 2 => rfl)
      | ((with_reducible refine hallDestroyAct_frame ?_ ?_); on_goal 2 => rfl)
      | ((with_reducible refine hallFreezeAct_frame ?_ ?_); on_goal 2 => rfl)
      | ((with_reducible refine hallThawAct_frame ?_ ?_); on_goal 2 => rfl)
      | ((with_reducible refine migrateDoneAct_frame ?_ ?_); on_goal 2 => rfl)
      | ((with_reducible refine manifestChunkAct_frame ?_ ?_); on_goal 2 => rfl)
      | ((with_reducible refine planChunkAct_frame ?_ ?_); on_goal 2 => rfl)
      | ((with_reducible refine domainRootAct_frame ?_ ?_); on_goal 2 => rfl)
      | ((with_reducible refine joinCommitAct_frame ?_ ?_); on_goal 2 => rfl)
      | ((with_reducible refine leaveAct_frame ?_ ?_); on_goal 2 => rfl)
      | ((with_reducible refine memberLostAct_frame ?_ ?_); on_goal 2 => rfl)
      | ((with_reducible refine epochPrepareAct_frame ?_ ?_); on_goal 2 => rfl)
      | ((with_reducible refine epochSwitchAct_frame ?_ ?_); on_goal 2 => rfl)
      | ((with_reducible refine epochRetireAct_frame ?_ ?_); on_goal 2 => rfl)
      | ((with_reducible refine shutdownAct_frame ?_ ?_); on_goal 2 => rfl)
      | ((with_reducible refine rootStoreUseAct_frame ?_ ?_); on_goal 2 => rfl)
      | ((with_reducible refine wakeAct_frame ?_ ?_); on_goal 2 => rfl)
      | ((with_reducible refine keyQueryAct_frame ?_ ?_); on_goal 2 => rfl)
      | ((with_reducible refine hallQueryAct_frame ?_ ?_); on_goal 2 => rfl)
      | ((with_reducible refine quietAct_frame ?_ ?_); on_goal 2 => rfl)
      | split

theorem runUnit_frame {w₀ : Nat} {s₀ : State} {obj : Nat} {a : Act} {arg : Bytes} {s : State} (h₀ : Frame w₀ s₀ s) (hw₀ : 140737488354302 ||| w₀ = w₀) :
    Frame w₀ s₀ (runUnit obj a arg s).2 := by
  refine h₀.trans 140737488354302 ?_ hw₀
  clear h₀ hw₀
  unfold runUnit
  repeat' first
      | with_reducible exact Frame.refl
      | ((with_reducible refine fenceCreateAct_frame ?_ ?_); on_goal 2 => rfl)
      | ((with_reducible refine fenceDestroyAct_frame ?_ ?_); on_goal 2 => rfl)
      | ((with_reducible refine fenceClearAct_frame ?_ ?_); on_goal 2 => rfl)
      | ((with_reducible refine semAllocAct_frame ?_ ?_); on_goal 2 => rfl)
      | ((with_reducible refine semFreeAct_frame ?_ ?_); on_goal 2 => rfl)
      | ((with_reducible refine consentAct_frame ?_ ?_); on_goal 2 => rfl)
      | ((with_reducible refine debugNonceAct_frame ?_ ?_); on_goal 2 => rfl)
      | ((with_reducible refine debugCertAct_frame ?_ ?_); on_goal 2 => rfl)
      | ((with_reducible refine transitionAct_frame ?_ ?_); on_goal 2 => rfl)
      | ((with_reducible refine rollbackCommitAct_frame ?_ ?_); on_goal 2 => rfl)
      | ((with_reducible refine otpProgramAct_frame ?_ ?_); on_goal 2 => rfl)
      | ((with_reducible refine rushesReadAct_frame ?_ ?_); on_goal 2 => rfl)
      | ((with_reducible refine cutArmAct_frame ?_ ?_); on_goal 2 => rfl)
      | ((with_reducible refine cutDisarmAct_frame ?_ ?_); on_goal 2 => rfl)
      | ((with_reducible refine streamAbandonAct_frame ?_ ?_); on_goal 2 => rfl)
      | ((with_reducible refine queueCreateAct_frame ?_ ?_); on_goal 2 => rfl)
      | ((with_reducible refine queueDestroyAct_frame ?_ ?_); on_goal 2 => rfl)
      | ((with_reducible refine mapAct_frame ?_ ?_); on_goal 2 => rfl)
      | ((with_reducible refine unmapAct_frame ?_ ?_); on_goal 2 => rfl)
      | ((with_reducible refine resetOrderAct_frame ?_ ?_); on_goal 2 => rfl)
      | ((with_reducible refine faultInjectAct_frame ?_ ?_); on_goal 2 => rfl)
      | ((with_reducible refine recoveryWriteAct_frame ?_ ?_); on_goal 2 => rfl)
      | ((with_reducible refine recoveryCommitAct_frame ?_ ?_); on_goal 2 => rfl)
      | ((with_reducible refine factoryCertAct_frame ?_ ?_); on_goal 2 => rfl)
      | ((with_reducible refine logReadAct_frame ?_ ?_); on_goal 2 => rfl)
      | ((with_reducible refine counterReadAct_frame ?_ ?_); on_goal 2 => rfl)
      | ((with_reducible refine hallCountersAct_frame ?_ ?_); on_goal 2 => rfl)
      | ((with_reducible refine streamQueryAct_frame ?_ ?_); on_goal 2 => rfl)
      | ((with_reducible refine regionQueryAct_frame ?_ ?_); on_goal 2 => rfl)
      | ((with_reducible refine regionInstallAct_frame ?_ ?_); on_goal 2 => rfl)
      | ((with_reducible refine regionSealAct_frame ?_ ?_); on_goal 2 => rfl)
      | ((with_reducible refine regionEraseAct_frame ?_ ?_); on_goal 2 => rfl)
      | ((with_reducible refine regionFreeAct_frame ?_ ?_); on_goal 2 => rfl)
      | ((with_reducible refine quietAct_frame ?_ ?_); on_goal 2 => rfl)
      | split

theorem runAction_frame {w₀ : Nat} {s₀ : State} {obj : Nat} {a : Act} {arg : Bytes} {s : State} (h₀ : Frame w₀ s₀ s) (hw₀ : 140737488354302 ||| w₀ = w₀) :
    Frame w₀ s₀ (runAction obj a arg s).2 := by
  refine h₀.trans 140737488354302 ?_ hw₀
  clear h₀ hw₀
  unfold runAction
  repeat' first
      | with_reducible exact Frame.refl
      | ((with_reducible refine runDomain_frame ?_ ?_); on_goal 2 => rfl)
      | ((with_reducible refine runUnit_frame ?_ ?_); on_goal 2 => rfl)
      | with_reducible refine Frame.ite2 ?_ ?_

theorem startAction_frame {w₀ : Nat} {s₀ : State} {obj : Nat} {a : Act} {arg : Bytes} {s : State} (h₀ : Frame w₀ s₀ s) (hw₀ : 140737488354302 ||| w₀ = w₀) :
    Frame w₀ s₀ (startAction obj a arg s).2 := by
  refine h₀.trans 140737488354302 ?_ hw₀
  clear h₀ hw₀
  unfold startAction
  repeat' first
      | with_reducible assumption
      | with_reducible exact Frame.refl
      | ((first | intro x | (lift_lets -underBinder; intro x)); first
      | (refine Frame.cut (w := 140737488354302) (s := s) (x := x) ?_ fun _ => ?_; (on_goal 1 => try dsimp only [x]); (on_goal 2 => clear_value x)))
      | ((with_reducible refine actWaits_frame ?_ ?_); on_goal 2 => rfl)
      | ((with_reducible refine runAction_frame ?_ ?_); on_goal 2 => rfl)
      | ((with_reducible refine Frame.updMgt ?_ ?_); on_goal 2 => rfl)
      | ((with_reducible refine Frame.updPwr (f := _) ?_ ?_ ?_); (on_goal 1 => (intro _; rfl)); on_goal 2 => rfl)
      | with_reducible refine Frame.ite2 ?_ ?_

theorem runDeferred_frame {w₀ : Nat} {s₀ : State}  {s : State} (h₀ : Frame w₀ s₀ s) (hw₀ : 140737488354302 ||| w₀ = w₀) :
    Frame w₀ s₀ (runDeferred s).2 := by
  refine h₀.trans 140737488354302 ?_ hw₀
  clear h₀ hw₀
  unfold runDeferred
  repeat' first
      | with_reducible exact Frame.refl
      | ((with_reducible refine runAction_frame ?_ ?_); on_goal 2 => rfl)
      | ((with_reducible refine Frame.updMgt ?_ ?_); on_goal 2 => rfl)
      | with_reducible refine Frame.foldl (fun _ _ => ?_) _ ?_
      | with_reducible refine Frame.ite2 ?_ ?_

theorem waitAnswer_frame {w₀ : Nat} {s₀ : State} {n : Nat} {obj : Nat} {s : State} (h₀ : Frame w₀ s₀ s) (hw₀ : 41781441855488 ||| w₀ = w₀) :
    Frame w₀ s₀ (waitAnswer n obj s) := by
  refine h₀.trans 41781441855488 ?_ hw₀
  clear h₀ hw₀
  unfold waitAnswer
  repeat' first
      | with_reducible assumption
      | with_reducible exact Frame.refl
      | ((first | intro x | (lift_lets -underBinder; intro x)); first
      | (refine Frame.cut (w := 41781441855488) (s := s) (x := x) ?_ fun _ => ?_; (on_goal 1 => try dsimp only [x]); (on_goal 2 => clear_value x))
      | clear_value x)
      | ((with_reducible refine boxPut_frame ?_ ?_); on_goal 2 => rfl)
      | ((with_reducible refine respond_frame ?_ ?_); on_goal 2 => rfl)
      | ((with_reducible refine boxRead_frame ?_ ?_); on_goal 2 => rfl)
      | with_reducible refine Frame.ite ?_ ?_
      | split

theorem sheetAction_frame {w₀ : Nat} {s₀ : State} {n : Nat} {q : Req} {s : State} (h₀ : Frame w₀ s₀ s) (hw₀ : 140737488354302 ||| w₀ = w₀) :
    Frame w₀ s₀ (sheetAction n q s).2 := by
  refine h₀.trans 140737488354302 ?_ hw₀
  clear h₀ hw₀
  unfold sheetAction
  repeat' first
      | with_reducible assumption
      | with_reducible exact Frame.refl
      | ((first | intro x | (lift_lets -underBinder; intro x)); first
      | (refine Frame.cut (w := 140737488354302) (s := s) (x := x) ?_ fun _ => ?_; (on_goal 1 => try dsimp only [x]); (on_goal 2 => clear_value x))
      | clear_value x)
      | ((with_reducible refine updSess_frame ?_ ?_); on_goal 2 => rfl)
      | ((with_reducible refine boxPut_frame ?_ ?_); on_goal 2 => rfl)
      | ((with_reducible refine respond_frame ?_ ?_); on_goal 2 => rfl)
      | ((with_reducible refine startAction_frame ?_ ?_); on_goal 2 => rfl)
      | ((with_reducible refine waitAnswer_frame ?_ ?_); on_goal 2 => rfl)
      | with_reducible refine Frame.ite2 ?_ ?_
      | split

theorem waitResponse_frame {w₀ : Nat} {s₀ : State} {n : Nat} {tag : Word} {s : State} (h₀ : Frame w₀ s₀ s) (hw₀ : 41781441855488 ||| w₀ = w₀) :
    Frame w₀ s₀ (waitResponse n tag s) := by
  refine h₀.trans 41781441855488 ?_ hw₀
  clear h₀ hw₀
  unfold waitResponse
  repeat' first
      | with_reducible exact Frame.refl
      | ((with_reducible refine waitAnswer_frame ?_ ?_); on_goal 2 => rfl)
      | split

theorem sheetSubscribe_frame {w₀ : Nat} {s₀ : State} {n : Nat} {q : Req} {s : State} (h₀ : Frame w₀ s₀ s) (hw₀ : 41781441855488 ||| w₀ = w₀) :
    Frame w₀ s₀ (sheetSubscribe n q s) := by
  refine h₀.trans 41781441855488 ?_ hw₀
  clear h₀ hw₀
  unfold sheetSubscribe
  repeat' first
      | with_reducible exact Frame.refl
      | ((first | intro x | (lift_lets -underBinder; intro x)); first
      | clear_value x)
      | ((with_reducible refine updSess_frame ?_ ?_); on_goal 2 => rfl)
      | ((with_reducible refine respond_frame ?_ ?_); on_goal 2 => rfl)
      | with_reducible refine Frame.ite ?_ ?_
      | split

theorem notify_frame {w₀ : Nat} {s₀ : State} {n : Nat} {tag : Word} {s : State} (h₀ : Frame w₀ s₀ s) (hw₀ : 41781441855488 ||| w₀ = w₀) :
    Frame w₀ s₀ (notify n tag s) := by
  refine h₀.trans 41781441855488 ?_ hw₀
  clear h₀ hw₀
  unfold notify
  repeat' first
      | with_reducible assumption
      | with_reducible exact Frame.refl
      | ((first | intro x | (lift_lets -underBinder; intro x)); first
      | (refine Frame.cut (w := 41781441855488) (s := s) (x := x) ?_ fun _ => ?_; (on_goal 1 => try dsimp only [x]); (on_goal 2 => clear_value x))
      | clear_value x)
      | ((with_reducible refine State.mgtCount_frame ?_ ?_); on_goal 2 => rfl)
      | ((with_reducible refine updSess_frame ?_ ?_); on_goal 2 => rfl)
      | ((with_reducible refine sheetSend_frame ?_ ?_); on_goal 2 => rfl)
      | with_reducible refine Frame.ite ?_ ?_
      | split

theorem sheetServe_frame {w₀ : Nat} {s₀ : State} {row : Nat} {n : Nat} {m : Bytes} {work : Req → State → List Ans × State} {s : State} (hwork : ∀ a0 u, Frame w₀ u (work a0 u).2) (h₀ : Frame w₀ s₀ s) (hw₀ : 41781441855488 ||| w₀ = w₀) :
    Frame w₀ s₀ (sheetServe row n m work s).2 := by
  unfold sheetServe
  repeat' first
      | with_reducible assumption
      | ((first | intro x | (lift_lets -underBinder; intro x)); first
      | (refine Frame.cut (w := w₀) (s := s₀) (x := x) ?_ fun _ => ?_; (on_goal 1 => try dsimp only [x]); (on_goal 2 => clear_value x))
      | clear_value x)
      | ((with_reducible refine State.mgtCount_frame ?_ ?_); on_goal 2 => first | rfl | exact mask_le rfl hw₀)
      | ((with_reducible refine updSess_frame ?_ ?_); on_goal 2 => first | rfl | exact mask_le rfl hw₀)
      | ((with_reducible refine sheetSend_frame ?_ ?_); on_goal 2 => first | rfl | exact mask_le rfl hw₀)
      | ((with_reducible refine respond_frame ?_ ?_); on_goal 2 => first | rfl | exact mask_le rfl hw₀)
      | with_reducible refine Frame.app2 ‹_› ?_
      | with_reducible refine Frame.ite2 ?_ ?_
      | split

theorem quietWork_frame {w₀ : Nat} {s₀ : State} {f : Req → State → State} {q : Req} {s : State} (hf : ∀ a0 u, Frame w₀ u (f a0 u)) (h₀ : Frame w₀ s₀ s) (hw₀ : 0 ||| w₀ = w₀) :
    Frame w₀ s₀ (quietWork f q s).2 := by
  unfold quietWork
  repeat' first
      | with_reducible assumption
      | with_reducible refine Frame.trans w₀ ?_ (hf _ _) (Nat.or_self w₀)

end Sys2Proof.Machine
end

