-- ==== Sys2Proof/Laws/FrSegment.lean ====
section
/-! SUPPORT. What each operation of Machine/Segment.lean may change (see Frame.lean). -/

namespace Sys2Proof.Machine

-- One declaration at a time, so that the elaborator holds few threads (each takes stack of its own).
set_option Elab.async false

theorem segmentSend_frame {w₀ : Nat} {s₀ : State} {type : Nat} {node : Nat} {s : State} (h₀ : Frame w₀ s₀ s) (hw₀ : 41781441855488 ||| w₀ = w₀) :
    Frame w₀ s₀ (segmentSend type node s) := by
  refine h₀.trans 41781441855488 ?_ hw₀
  clear h₀ hw₀
  unfold segmentSend
  repeat' first
      | with_reducible exact Frame.refl
      | ((with_reducible refine State.mgtCount_frame ?_ ?_); on_goal 2 => rfl)
      | ((with_reducible refine Frame.emit ?_ ?_); on_goal 2 => rfl)

theorem updClaim_frame {w₀ : Nat} {s₀ : State} {f : Claim → Claim} {s : State} (h₀ : Frame w₀ s₀ s) (hw₀ : 6597069766656 ||| w₀ = w₀) :
    Frame w₀ s₀ (updClaim f s) := by
  refine h₀.trans 6597069766656 ?_ hw₀
  clear h₀ hw₀
  unfold updClaim
  repeat' first
      | with_reducible exact Frame.refl
      | ((with_reducible refine Frame.updMgt ?_ ?_); on_goal 2 => rfl)

theorem claimChoose_frame {w₀ : Nat} {s₀ : State}  {s : State} (h₀ : Frame w₀ s₀ s) (hw₀ : 6597069766656 ||| w₀ = w₀) :
    Frame w₀ s₀ (claimChoose s) := by
  refine h₀.trans 6597069766656 ?_ hw₀
  clear h₀ hw₀
  unfold claimChoose
  repeat' first
      | with_reducible exact Frame.refl
      | ((with_reducible refine updClaim_frame ?_ ?_); on_goal 2 => rfl)
      | split

theorem claimSendOp_frame {w₀ : Nat} {s₀ : State}  {s : State} (h₀ : Frame w₀ s₀ s) (hw₀ : 41781441855488 ||| w₀ = w₀) :
    Frame w₀ s₀ (claimSendOp s) := by
  refine h₀.trans 41781441855488 ?_ hw₀
  clear h₀ hw₀
  unfold claimSendOp
  repeat' first
      | with_reducible exact Frame.refl
      | ((with_reducible refine segmentSend_frame ?_ ?_); on_goal 2 => rfl)
      | ((with_reducible refine updClaim_frame ?_ ?_); on_goal 2 => rfl)
      | with_reducible refine Frame.ite ?_ ?_

theorem claimWindowOp_frame {w₀ : Nat} {s₀ : State}  {s : State} (h₀ : Frame w₀ s₀ s) (hw₀ : 41781441855488 ||| w₀ = w₀) :
    Frame w₀ s₀ (claimWindowOp s) := by
  refine h₀.trans 41781441855488 ?_ hw₀
  clear h₀ hw₀
  unfold claimWindowOp
  repeat' first
      | with_reducible exact Frame.refl
      | ((first | intro x | (lift_lets -underBinder; intro x)); first
      | clear_value x)
      | ((with_reducible refine State.mgtEvent_frame ?_ ?_); on_goal 2 => rfl)
      | ((with_reducible refine segmentSend_frame ?_ ?_); on_goal 2 => rfl)
      | ((with_reducible refine updClaim_frame ?_ ?_); on_goal 2 => rfl)
      | with_reducible refine Frame.ite ?_ ?_

theorem listenAgain_frame {w₀ : Nat} {s₀ : State}  {s : State} (h₀ : Frame w₀ s₀ s) (hw₀ : 6597069766656 ||| w₀ = w₀) :
    Frame w₀ s₀ (listenAgain s) := by
  refine h₀.trans 6597069766656 ?_ hw₀
  clear h₀ hw₀
  unfold listenAgain
  repeat' first
      | with_reducible exact Frame.refl
      | ((with_reducible refine updClaim_frame ?_ ?_); on_goal 2 => rfl)

theorem nodeGivenUp_frame {w₀ : Nat} {s₀ : State}  {s : State} (h₀ : Frame w₀ s₀ s) (hw₀ : 76965813950528 ||| w₀ = w₀) :
    Frame w₀ s₀ (nodeGivenUp s) := by
  refine h₀.trans 76965813950528 ?_ hw₀
  clear h₀ hw₀
  unfold nodeGivenUp
  repeat' first
      | with_reducible exact Frame.refl
      | ((with_reducible refine State.mgtEvent_frame ?_ ?_); on_goal 2 => rfl)
      | ((with_reducible refine endSession_frame ?_ ?_); on_goal 2 => rfl)
      | ((with_reducible refine listenAgain_frame ?_ ?_); on_goal 2 => rfl)
      | with_reducible refine Frame.forAll (fun _ s => ?_) _ ?_

theorem segmentHeard_frame {w₀ : Nat} {s₀ : State} {m : Bytes} {s : State} (h₀ : Frame w₀ s₀ s) (hw₀ : 112150186039360 ||| w₀ = w₀) :
    Frame w₀ s₀ (segmentHeard m s) := by
  refine h₀.trans 112150186039360 ?_ hw₀
  clear h₀ hw₀
  unfold segmentHeard
  repeat' first
      | with_reducible exact Frame.refl
      | ((first | intro x | (lift_lets -underBinder; intro x)); first
      | clear_value x)
      | ((with_reducible refine segmentSend_frame ?_ ?_); on_goal 2 => rfl)
      | ((with_reducible refine updClaim_frame ?_ ?_); on_goal 2 => rfl)
      | ((with_reducible refine claimChoose_frame ?_ ?_); on_goal 2 => rfl)
      | ((with_reducible refine nodeGivenUp_frame ?_ ?_); on_goal 2 => rfl)
      | with_reducible refine Frame.ite ?_ ?_

theorem segmentTake_frame {w₀ : Nat} {s₀ : State} {m : Bytes} {s : State} (h₀ : Frame w₀ s₀ s) (hw₀ : 112150186039360 ||| w₀ = w₀) :
    Frame w₀ s₀ (segmentTake m s) := by
  refine h₀.trans 112150186039360 ?_ hw₀
  clear h₀ hw₀
  unfold segmentTake
  repeat' first
      | with_reducible exact Frame.refl
      | ((with_reducible refine State.mgtCount_frame ?_ ?_); on_goal 2 => rfl)
      | ((with_reducible refine segmentHeard_frame ?_ ?_); on_goal 2 => rfl)
      | with_reducible refine Frame.ite ?_ ?_

theorem segmentRow_frame {w₀ : Nat} {s₀ : State} {type : Nat} {m : Bytes} {s : State} (h₀ : Frame w₀ s₀ s) (hw₀ : 112150186039360 ||| w₀ = w₀) :
    Frame w₀ s₀ (segmentRow type m s) := by
  refine h₀.trans 112150186039360 ?_ hw₀
  clear h₀ hw₀
  unfold segmentRow
  repeat' first
      | with_reducible exact Frame.refl
      | ((with_reducible refine State.mgtCount_frame ?_ ?_); on_goal 2 => rfl)
      | ((with_reducible refine segmentTake_frame ?_ ?_); on_goal 2 => rfl)
      | with_reducible refine Frame.ite ?_ ?_

theorem mgtFrame_frame {w₀ : Nat} {s₀ : State} {f : MgtFrame} {s : State} (h₀ : Frame w₀ s₀ s) (hw₀ : 112150186039360 ||| w₀ = w₀) :
    Frame w₀ s₀ (mgtFrame f s) := by
  refine h₀.trans 112150186039360 ?_ hw₀
  clear h₀ hw₀
  unfold mgtFrame
  repeat' first
      | with_reducible assumption
      | with_reducible exact Frame.refl
      | ((first | intro x | (lift_lets -underBinder; intro x)); first
      | (refine Frame.cut (w := 112150186039360) (s := s) (x := x) ?_ fun _ => ?_; (on_goal 1 => try dsimp only [x]); (on_goal 2 => clear_value x)))
      | ((with_reducible refine State.mgtCount_frame ?_ ?_); on_goal 2 => rfl)
      | ((with_reducible refine segmentTake_frame ?_ ?_); on_goal 2 => rfl)
      | with_reducible refine Frame.ite ?_ ?_

theorem neighborOp_frame {w₀ : Nat} {s₀ : State} {target : Bytes} {s : State} (h₀ : Frame w₀ s₀ s) (hw₀ : 41781441855488 ||| w₀ = w₀) :
    Frame w₀ s₀ (neighborOp target s) := by
  refine h₀.trans 41781441855488 ?_ hw₀
  clear h₀ hw₀
  unfold neighborOp
  repeat' first
      | with_reducible exact Frame.refl
      | ((with_reducible refine State.mgtCount_frame ?_ ?_); on_goal 2 => rfl)
      | ((with_reducible refine Frame.emit ?_ ?_); on_goal 2 => rfl)
      | with_reducible refine Frame.ite ?_ ?_

theorem echoOp_frame {w₀ : Nat} {s₀ : State} {payload : Bytes} {s : State} (h₀ : Frame w₀ s₀ s) (hw₀ : 41781441855488 ||| w₀ = w₀) :
    Frame w₀ s₀ (echoOp payload s) := by
  refine h₀.trans 41781441855488 ?_ hw₀
  clear h₀ hw₀
  unfold echoOp
  repeat' first
      | with_reducible exact Frame.refl
      | ((with_reducible refine State.mgtCount_frame ?_ ?_); on_goal 2 => rfl)
      | ((with_reducible refine Frame.emit ?_ ?_); on_goal 2 => rfl)
      | with_reducible refine Frame.ite ?_ ?_

end Sys2Proof.Machine
end

