-- ==== Sys2Proof/Laws/FrExec.lean ====
section
/-! SUPPORT. What each command may change: every command answers a next state, within its frame (see Frame.lean). -/

namespace Sys2Proof.Machine

-- One declaration at a time, so that the elaborator holds few threads (each takes stack of its own).
set_option Elab.async false

/-- The answer is a next state that differs from `s` only in the parts that `w` names. -/
def Goes (w : Nat) (s : State) (a : Answer) : Prop := ∃ t, a = .next t ∧ Frame w s t

theorem Goes.mk {w : Nat} {s t : State} (h : Frame w s t) : Goes w s (goOn t) := ⟨t, rfl, h⟩

theorem Goes.mono {w w' : Nat} {s : State} {a : Answer} (h : Goes w s a) (hw : w ||| w' = w') : Goes w' s a :=
  h.imp fun _ p => ⟨p.1, p.2.mono hw⟩

theorem treadRow_frame (tread : Nat) (target : Nat) (s : State) : Goes 131941395332094 s (treadRow tread target s) := by
  unfold treadRow
  repeat' first
      | with_reducible refine Goes.mk ?_
      | with_reducible exact Frame.refl
      | ((with_reducible refine settled_frame ?_ ?_); on_goal 2 => rfl)
      | ((with_reducible refine orderTread_frame ?_ ?_); on_goal 2 => rfl)
      | with_reducible refine Frame.ite2 ?_ ?_

theorem execLocalTimebaseCorrection_frame (dom : ClockDomain) (cycles : Nat) (s : State) : Goes 1030792151040 s (execLocalTimebaseCorrection dom cycles s) := by
  unfold execLocalTimebaseCorrection
  repeat' first
      | with_reducible refine Goes.mk ?_
      | with_reducible exact Frame.refl
      | ((with_reducible refine correctDomain_frame ?_ ?_); on_goal 2 => rfl)

theorem execS1SelfWake_frame (port : Nat) (s : State) : Goes 893353197574 s (execS1SelfWake port s) := by
  unfold execS1SelfWake
  repeat' first
      | with_reducible refine Goes.mk ?_
      | with_reducible exact Frame.refl
      | ((with_reducible refine portInput_frame ?_ ?_); on_goal 2 => rfl)
      | with_reducible refine Frame.ite ?_ ?_

theorem execExtFaultRise_frame (n : Nat) (s : State) : Goes 73014444038 s (execExtFaultRise n s) := by
  unfold execExtFaultRise
  repeat' first
      | with_reducible refine Goes.mk ?_
      | with_reducible exact Frame.refl
      | ((with_reducible refine extFaultRise_frame ?_ ?_); on_goal 2 => rfl)

theorem execExtFaultFall_frame (n : Nat) (s : State) : Goes 6 s (execExtFaultFall n s) := by
  unfold execExtFaultFall
  repeat' first
      | with_reducible refine Goes.mk ?_
      | with_reducible exact Frame.refl
      | ((with_reducible refine extFaultFall_frame ?_ ?_); on_goal 2 => rfl)

theorem execKeyLookup_frame (l : Lookup) (s : State) : Goes 35258460315712 s (execKeyLookup l s) := by
  unfold execKeyLookup
  repeat' first
      | with_reducible refine Goes.mk ?_
      | with_reducible exact Frame.refl
      | ((with_reducible refine keyLookupOp_frame ?_ ?_); on_goal 2 => rfl)

theorem execDerivationQueueAdmit_frame (s : State) : Goes 64 s (execDerivationQueueAdmit s) := by
  unfold execDerivationQueueAdmit
  repeat' first
      | with_reducible refine Goes.mk ?_
      | with_reducible exact Frame.refl
      | ((with_reducible refine admitDerivation_frame ?_ ?_); on_goal 2 => rfl)

theorem execKeyRegisterDrop_frame (unit : Nat) (s : State) : Goes 64 s (execKeyRegisterDrop unit s) := by
  unfold execKeyRegisterDrop
  repeat' first
      | with_reducible refine Goes.mk ?_
      | with_reducible exact Frame.refl
      | ((with_reducible refine dropKeyRegister_frame ?_ ?_); on_goal 2 => rfl)

theorem execDeriveHmac_frame (replace : Bool) (s : State) : Goes 105626164324800 s (execDeriveHmac replace s) := by
  unfold execDeriveHmac
  repeat' first
      | with_reducible refine Goes.mk ?_
      | with_reducible exact Frame.refl
      | ((with_reducible refine kvCommand_frame ?_ ?_); on_goal 2 => rfl)

theorem execDeriveFast_frame (replace : Bool) (s : State) : Goes 105626164324800 s (execDeriveFast replace s) := by
  unfold execDeriveFast
  repeat' first
      | with_reducible refine Goes.mk ?_
      | with_reducible exact Frame.refl
      | ((with_reducible refine kvCommand_frame ?_ ?_); on_goal 2 => rfl)

theorem execUnwrap_frame (replace : Bool) (s : State) : Goes 105626164324800 s (execUnwrap replace s) := by
  unfold execUnwrap
  repeat' first
      | with_reducible refine Goes.mk ?_
      | with_reducible exact Frame.refl
      | ((with_reducible refine kvCommand_frame ?_ ?_); on_goal 2 => rfl)

theorem execImportKey_frame (replace : Bool) (s : State) : Goes 105626164324800 s (execImportKey replace s) := by
  unfold execImportKey
  repeat' first
      | with_reducible refine Goes.mk ?_
      | with_reducible exact Frame.refl
      | ((with_reducible refine kvCommand_frame ?_ ?_); on_goal 2 => rfl)

theorem execSetBudget_frame (s : State) : Goes 105626164324800 s (execSetBudget s) := by
  unfold execSetBudget
  repeat' first
      | with_reducible refine Goes.mk ?_
      | with_reducible exact Frame.refl
      | ((with_reducible refine kvCommand_frame ?_ ?_); on_goal 2 => rfl)

theorem execKvQuery_frame (s : State) : Goes 105626164324800 s (execKvQuery s) := by
  unfold execKvQuery
  repeat' first
      | with_reducible refine Goes.mk ?_
      | with_reducible exact Frame.refl
      | ((with_reducible refine kvCommand_frame ?_ ?_); on_goal 2 => rfl)

theorem execBucketRefill_frame (s : State) : Goes 1073741824 s (execBucketRefill s) := by
  unfold execBucketRefill
  repeat' first
      | with_reducible refine Goes.mk ?_
      | with_reducible exact Frame.refl
      | ((with_reducible refine bucketRefillOp_frame ?_ ?_); on_goal 2 => rfl)

theorem execMsixMessage_frame (hall : Nat) (vector : Nat) (s : State) : Goes 35185982703616 s (execMsixMessage hall vector s) := by
  unfold execMsixMessage
  repeat' first
      | with_reducible refine Goes.mk ?_
      | with_reducible exact Frame.refl
      | ((with_reducible refine msixMessageOp_frame ?_ ?_); on_goal 2 => rfl)

theorem execWaitGraphWalk_frame (q : Nat) (s : State) : Goes 570425344 s (execWaitGraphWalk q s) := by
  unfold execWaitGraphWalk
  repeat' first
      | with_reducible refine Goes.mk ?_
      | with_reducible exact Frame.refl
      | ((with_reducible refine waitGraphWalkOp_frame ?_ ?_); on_goal 2 => rfl)

theorem execFenceCreate_frame (a : Act) (arg : Bytes) (s : State) : Goes 41781978726400 s (execFenceCreate a arg s) := by
  unfold execFenceCreate
  repeat' first
      | with_reducible refine Goes.mk ?_
      | with_reducible exact Frame.refl
      | ((with_reducible refine fenceCreateAct_frame ?_ ?_); on_goal 2 => rfl)

theorem execFenceDestroy_frame (a : Act) (arg : Bytes) (s : State) : Goes 2199560126464 s (execFenceDestroy a arg s) := by
  unfold execFenceDestroy
  repeat' first
      | with_reducible refine Goes.mk ?_
      | with_reducible exact Frame.refl
      | ((with_reducible refine fenceDestroyAct_frame ?_ ?_); on_goal 2 => rfl)

theorem execFenceClear_frame (a : Act) (arg : Bytes) (s : State) : Goes 2199560126464 s (execFenceClear a arg s) := by
  unfold execFenceClear
  repeat' first
      | with_reducible refine Goes.mk ?_
      | with_reducible exact Frame.refl
      | ((with_reducible refine fenceClearAct_frame ?_ ?_); on_goal 2 => rfl)

theorem execSemAlloc_frame (a : Act) (arg : Bytes) (s : State) : Goes 2199560126464 s (execSemAlloc a arg s) := by
  unfold execSemAlloc
  repeat' first
      | with_reducible refine Goes.mk ?_
      | with_reducible exact Frame.refl
      | ((with_reducible refine semAllocAct_frame ?_ ?_); on_goal 2 => rfl)

theorem execSemFree_frame (a : Act) (arg : Bytes) (s : State) : Goes 2199560126464 s (execSemFree a arg s) := by
  unfold execSemFree
  repeat' first
      | with_reducible refine Goes.mk ?_
      | with_reducible exact Frame.refl
      | ((with_reducible refine semFreeAct_frame ?_ ?_); on_goal 2 => rfl)

theorem execFsFenceCreate_frame (s : State) : Goes 41783086022656 s (execFsFenceCreate s) := by
  unfold execFsFenceCreate
  repeat' first
      | with_reducible refine Goes.mk ?_
      | with_reducible exact Frame.refl
      | ((with_reducible refine fsCommand_frame ?_ ?_); on_goal 2 => rfl)

theorem execFsFenceDestroy_frame (s : State) : Goes 41783086022656 s (execFsFenceDestroy s) := by
  unfold execFsFenceDestroy
  repeat' first
      | with_reducible refine Goes.mk ?_
      | with_reducible exact Frame.refl
      | ((with_reducible refine fsCommand_frame ?_ ?_); on_goal 2 => rfl)

theorem execFsFenceClear_frame (s : State) : Goes 41783086022656 s (execFsFenceClear s) := by
  unfold execFsFenceClear
  repeat' first
      | with_reducible refine Goes.mk ?_
      | with_reducible exact Frame.refl
      | ((with_reducible refine fsCommand_frame ?_ ?_); on_goal 2 => rfl)

theorem execFsSemAlloc_frame (s : State) : Goes 41783086022656 s (execFsSemAlloc s) := by
  unfold execFsSemAlloc
  repeat' first
      | with_reducible refine Goes.mk ?_
      | with_reducible exact Frame.refl
      | ((with_reducible refine fsCommand_frame ?_ ?_); on_goal 2 => rfl)

theorem execFsSemFree_frame (s : State) : Goes 41783086022656 s (execFsSemFree s) := by
  unfold execFsSemFree
  repeat' first
      | with_reducible refine Goes.mk ?_
      | with_reducible exact Frame.refl
      | ((with_reducible refine fsCommand_frame ?_ ?_); on_goal 2 => rfl)

theorem execFsQuery_frame (kind : BitVec 2) (obj : BitVec 16) (s : State) : Goes 41783086022656 s (execFsQuery kind obj s) := by
  unfold execFsQuery
  repeat' first
      | with_reducible refine Goes.mk ?_
      | with_reducible exact Frame.refl
      | ((with_reducible refine fsCommand_frame ?_ ?_); on_goal 2 => rfl)

theorem execFsFault_frame (kind : BitVec 2) (obj : BitVec 16) (s : State) : Goes 41783086022656 s (execFsFault kind obj s) := by
  unfold execFsFault
  repeat' first
      | with_reducible refine Goes.mk ?_
      | with_reducible exact Frame.refl
      | ((with_reducible refine fsCommand_frame ?_ ?_); on_goal 2 => rfl)

theorem execOtpVppOk_frame (s : State) : Goes 35184372089344 s (execOtpVppOk s) := by
  unfold execOtpVppOk
  repeat' first
      | with_reducible refine Goes.mk ?_
      | with_reducible exact Frame.refl
      | ((with_reducible refine otpVppOkOp_frame ?_ ?_); on_goal 2 => rfl)

theorem execConsent_frame (a : Act) (arg : Bytes) (s : State) : Goes 2199023256064 s (execConsent a arg s) := by
  unfold execConsent
  repeat' first
      | with_reducible refine Goes.mk ?_
      | with_reducible exact Frame.refl
      | ((with_reducible refine consentAct_frame ?_ ?_); on_goal 2 => rfl)

theorem execKeeperHaltRequest_frame (s : State) : Goes 35184372089344 s (execKeeperHaltRequest s) := by
  unfold execKeeperHaltRequest
  repeat' first
      | with_reducible refine Goes.mk ?_
      | with_reducible exact Frame.refl
      | ((with_reducible refine keeperHalt_frame ?_ ?_); on_goal 2 => rfl)

theorem execDebugNonce_frame (a : Act) (s : State) : Goes 10995116278272 s (execDebugNonce a s) := by
  unfold execDebugNonce
  repeat' first
      | with_reducible refine Goes.mk ?_
      | with_reducible exact Frame.refl
      | ((with_reducible refine debugNonceAct_frame ?_ ?_); on_goal 2 => rfl)

theorem execDebugCert_frame (a : Act) (arg : Bytes) (s : State) : Goes 72567767435776 s (execDebugCert a arg s) := by
  unfold execDebugCert
  repeat' first
      | with_reducible refine Goes.mk ?_
      | with_reducible exact Frame.refl
      | ((with_reducible refine debugCertAct_frame ?_ ?_); on_goal 2 => rfl)

theorem execTransition_frame (a : Act) (arg : Bytes) (s : State) : Goes 2199023256064 s (execTransition a arg s) := by
  unfold execTransition
  repeat' first
      | with_reducible refine Goes.mk ?_
      | with_reducible exact Frame.refl
      | ((with_reducible refine transitionAct_frame ?_ ?_); on_goal 2 => rfl)

theorem execRollbackCommit_frame (a : Act) (arg : Bytes) (s : State) : Goes 2199023256064 s (execRollbackCommit a arg s) := by
  unfold execRollbackCommit
  repeat' first
      | with_reducible refine Goes.mk ?_
      | with_reducible exact Frame.refl
      | ((with_reducible refine rollbackCommitAct_frame ?_ ?_); on_goal 2 => rfl)

theorem execOtpProgram_frame (a : Act) (arg : Bytes) (s : State) : Goes 2199023256064 s (execOtpProgram a arg s) := by
  unfold execOtpProgram
  repeat' first
      | with_reducible refine Goes.mk ?_
      | with_reducible exact Frame.refl
      | ((with_reducible refine otpProgramAct_frame ?_ ?_); on_goal 2 => rfl)

theorem execLcBegin_frame (target : BitVec 3) (s : State) : Goes 79164837202432 s (execLcBegin target s) := by
  unfold execLcBegin
  repeat' first
      | with_reducible refine Goes.mk ?_
      | with_reducible exact Frame.refl
      | ((with_reducible refine lcCommand_frame ?_ ?_); on_goal 2 => rfl)

theorem execLcEraseReport_frame (s : State) : Goes 79164837202432 s (execLcEraseReport s) := by
  unfold execLcEraseReport
  repeat' first
      | with_reducible refine Goes.mk ?_
      | with_reducible exact Frame.refl
      | ((with_reducible refine lcCommand_frame ?_ ?_); on_goal 2 => rfl)

theorem execLcCommit_frame (s : State) : Goes 79164837202432 s (execLcCommit s) := by
  unfold execLcCommit
  repeat' first
      | with_reducible refine Goes.mk ?_
      | with_reducible exact Frame.refl
      | ((with_reducible refine lcCommand_frame ?_ ?_); on_goal 2 => rfl)

theorem execLcRollbackAdvance_frame (s : State) : Goes 79164837202432 s (execLcRollbackAdvance s) := by
  unfold execLcRollbackAdvance
  repeat' first
      | with_reducible refine Goes.mk ?_
      | with_reducible exact Frame.refl
      | ((with_reducible refine lcCommand_frame ?_ ?_); on_goal 2 => rfl)

theorem execLcNewNonce_frame (s : State) : Goes 79164837202432 s (execLcNewNonce s) := by
  unfold execLcNewNonce
  repeat' first
      | with_reducible refine Goes.mk ?_
      | with_reducible exact Frame.refl
      | ((with_reducible refine lcCommand_frame ?_ ?_); on_goal 2 => rfl)

theorem execLcGrant_frame (s : State) : Goes 79164837202432 s (execLcGrant s) := by
  unfold execLcGrant
  repeat' first
      | with_reducible refine Goes.mk ?_
      | with_reducible exact Frame.refl
      | ((with_reducible refine lcCommand_frame ?_ ?_); on_goal 2 => rfl)

theorem execLcClearRights_frame (s : State) : Goes 79164837202432 s (execLcClearRights s) := by
  unfold execLcClearRights
  repeat' first
      | with_reducible refine Goes.mk ?_
      | with_reducible exact Frame.refl
      | ((with_reducible refine lcCommand_frame ?_ ?_); on_goal 2 => rfl)

theorem execScanModeRequest_frame (level : Bool) (s : State) : Goes 52776558133254 s (execScanModeRequest level s) := by
  unfold execScanModeRequest
  repeat' first
      | with_reducible refine Goes.mk ?_
      | with_reducible exact Frame.refl
      | ((with_reducible refine scanMode_frame ?_ ?_); on_goal 2 => rfl)

theorem execAtExtend_frame (index : BitVec 3) (s : State) : Goes 70368744179712 s (execAtExtend index s) := by
  unfold execAtExtend
  repeat' first
      | with_reducible refine Goes.mk ?_
      | with_reducible exact Frame.refl
      | ((with_reducible refine atCommand_frame ?_ ?_); on_goal 2 => rfl)

theorem execAtDiceStep_frame (index : BitVec 3) (s : State) : Goes 70368744179712 s (execAtDiceStep index s) := by
  unfold execAtDiceStep
  repeat' first
      | with_reducible refine Goes.mk ?_
      | with_reducible exact Frame.refl
      | ((with_reducible refine atCommand_frame ?_ ?_); on_goal 2 => rfl)

theorem execAtSign_frame (s : State) : Goes 70368744179712 s (execAtSign s) := by
  unfold execAtSign
  repeat' first
      | with_reducible refine Goes.mk ?_
      | with_reducible exact Frame.refl
      | ((with_reducible refine atCommand_frame ?_ ?_); on_goal 2 => rfl)

theorem execMeasExtend_frame (a : Act) (arg : Bytes) (s : State) : Goes 72567767435264 s (execMeasExtend a arg s) := by
  unfold execMeasExtend
  repeat' first
      | with_reducible refine Goes.mk ?_
      | with_reducible exact Frame.refl
      | ((with_reducible refine measExtendAct_frame ?_ ?_); on_goal 2 => rfl)

theorem execMailboxRequest_frame (page : Nat) (cmd : Word) (s : State) : Goes 70370354792448 s (execMailboxRequest page cmd s) := by
  unfold execMailboxRequest
  repeat' first
      | with_reducible refine Goes.mk ?_
      | with_reducible exact Frame.refl
      | ((with_reducible refine mailboxRequestOp_frame ?_ ?_); on_goal 2 => rfl)

theorem execSlateRequest_frame (path : SlatePath) (nonce : Bytes) (s : State) : Goes 72569378048000 s (execSlateRequest path nonce s) := by
  unfold execSlateRequest
  repeat' first
      | with_reducible refine Goes.mk ?_
      | with_reducible exact Frame.refl
      | ((with_reducible refine slateRequestOp_frame ?_ ?_); on_goal 2 => rfl)

theorem execSlateComplete_frame (s : State) : Goes 72568304306176 s (execSlateComplete s) := by
  unfold execSlateComplete
  repeat' first
      | with_reducible refine Goes.mk ?_
      | with_reducible exact Frame.refl
      | ((with_reducible refine slateCompleteOp_frame ?_ ?_); on_goal 2 => rfl)

theorem execGetVersion_frame (t : Transport) (s : State) : Goes 105553116268608 s (execGetVersion t s) := by
  unfold execGetVersion
  repeat' first
      | with_reducible refine Goes.mk ?_
      | with_reducible exact Frame.refl
      | ((with_reducible refine spdmSend_frame ?_ ?_); on_goal 2 => rfl)
      | ((with_reducible refine getVersionOp_frame ?_ ?_); on_goal 2 => rfl)

theorem execGetCapabilities_frame (t : Transport) (version : Byte) (s : State) : Goes 105553116268544 s (execGetCapabilities t version s) := by
  unfold execGetCapabilities
  repeat' first
      | with_reducible refine Goes.mk ?_
      | with_reducible exact Frame.refl
      | ((with_reducible refine spdmSend_frame ?_ ?_); on_goal 2 => rfl)
      | ((with_reducible refine getCapabilitiesOp_frame ?_ ?_); on_goal 2 => rfl)

theorem execNegotiateAlgorithms_frame (t : Transport) (offer : AlgOffer) (s : State) : Goes 105553116268544 s (execNegotiateAlgorithms t offer s) := by
  unfold execNegotiateAlgorithms
  repeat' first
      | with_reducible refine Goes.mk ?_
      | with_reducible exact Frame.refl
      | ((with_reducible refine spdmSend_frame ?_ ?_); on_goal 2 => rfl)
      | ((with_reducible refine negotiateOp_frame ?_ ?_); on_goal 2 => rfl)

theorem execGetDigests_frame (t : Transport) (s : State) : Goes 35184372088832 s (execGetDigests t s) := by
  unfold execGetDigests
  repeat' first
      | with_reducible refine Goes.mk ?_
      | with_reducible exact Frame.refl
      | ((with_reducible refine spdmSend_frame ?_ ?_); on_goal 2 => rfl)
      | ((with_reducible refine getDigestsOp_frame ?_ ?_); on_goal 2 => rfl)

theorem execGetCertificate_frame (t : Transport) (slot : Nat) (offset : Nat) (length : Nat) (s : State) : Goes 35184372088832 s (execGetCertificate t slot offset length s) := by
  unfold execGetCertificate
  repeat' first
      | with_reducible refine Goes.mk ?_
      | with_reducible exact Frame.refl
      | ((with_reducible refine spdmSend_frame ?_ ?_); on_goal 2 => rfl)
      | ((with_reducible refine getCertificateOp_frame ?_ ?_); on_goal 2 => rfl)

theorem execChallenge_frame (t : Transport) (slot : Nat) (summary : Bool) (nonce : Bytes) (s : State) : Goes 61572651155456 s (execChallenge t slot summary nonce s) := by
  unfold execChallenge
  repeat' first
      | with_reducible refine Goes.mk ?_
      | with_reducible exact Frame.refl
      | ((with_reducible refine spdmSend_frame ?_ ?_); on_goal 2 => rfl)
      | ((with_reducible refine challengeOp_frame ?_ ?_); on_goal 2 => rfl)

theorem execGetMeasurements_frame (t : Transport) (index : Nat) (signed : Bool) (nonce : Bytes) (s : State) : Goes 61572651155456 s (execGetMeasurements t index signed nonce s) := by
  unfold execGetMeasurements
  repeat' first
      | with_reducible refine Goes.mk ?_
      | with_reducible exact Frame.refl
      | ((with_reducible refine spdmSend_frame ?_ ?_); on_goal 2 => rfl)
      | ((with_reducible refine getMeasurementsOp_frame ?_ ?_); on_goal 2 => rfl)

theorem execKeyExchange_frame (t : Transport) (carrier : Nat) (exchange : Bytes) (s : State) : Goes 131941395335168 s (execKeyExchange t carrier exchange s) := by
  unfold execKeyExchange
  repeat' first
      | with_reducible refine Goes.mk ?_
      | with_reducible exact Frame.refl
      | ((with_reducible refine spdmSend_frame ?_ ?_); on_goal 2 => rfl)
      | ((with_reducible refine keyExchangeOp_frame ?_ ?_); on_goal 2 => rfl)

theorem execFinish_frame (t : Transport) (sid : Nat) (verified : Bool) (s : State) : Goes 105553116268608 s (execFinish t sid verified s) := by
  unfold execFinish
  repeat' first
      | with_reducible refine Goes.mk ?_
      | with_reducible exact Frame.refl
      | ((with_reducible refine spdmSend_frame ?_ ?_); on_goal 2 => rfl)
      | ((with_reducible refine finishOp_frame ?_ ?_); on_goal 2 => rfl)

theorem execEndSession_frame (t : Transport) (sid : Nat) (s : State) : Goes 105553116268608 s (execEndSession t sid s) := by
  unfold execEndSession
  repeat' first
      | with_reducible refine Goes.mk ?_
      | with_reducible exact Frame.refl
      | ((with_reducible refine spdmSend_frame ?_ ?_); on_goal 2 => rfl)
      | ((with_reducible refine endSessionOp_frame ?_ ?_); on_goal 2 => rfl)

theorem execSpdmMsg_frame (a : Act) (arg : Bytes) (s : State) : Goes 98956046501952 s (execSpdmMsg a arg s) := by
  unfold execSpdmMsg
  repeat' first
      | with_reducible refine Goes.mk ?_
      | with_reducible exact Frame.refl
      | ((with_reducible refine spdmMsgAct_frame ?_ ?_); on_goal 2 => rfl)

theorem execDoeDiscovery_frame (index : Nat) (s : State) : Goes 35184372088832 s (execDoeDiscovery index s) := by
  unfold execDoeDiscovery
  repeat' first
      | with_reducible refine Goes.mk ?_
      | with_reducible exact Frame.refl
      | ((with_reducible refine doeDiscoveryOp_frame ?_ ?_); on_goal 2 => rfl)

theorem execTranslationLookup_frame (r : ItuReq) (s : State) : Goes 35260607758336 s (execTranslationLookup r s) := by
  unfold execTranslationLookup
  repeat' first
      | with_reducible refine Goes.mk ?_
      | with_reducible exact Frame.refl
      | ((with_reducible refine translationLookupOp_frame ?_ ?_); on_goal 2 => rfl)

theorem execWalkReadResponse_frame (walk : Nat) (err : BitVec 2) (s : State) : Goes 35260607758336 s (execWalkReadResponse walk err s) := by
  unfold execWalkReadResponse
  repeat' first
      | with_reducible refine Goes.mk ?_
      | with_reducible exact Frame.refl
      | ((with_reducible refine walkReadOp_frame ?_ ?_); on_goal 2 => rfl)

theorem execSwitchInstant_frame (ctx : Nat) (s : State) : Goes 24576 s (execSwitchInstant ctx s) := by
  unfold execSwitchInstant
  repeat' first
      | with_reducible refine Goes.mk ?_
      | with_reducible exact Frame.refl
      | ((with_reducible refine switchInstantOp_frame ?_ ?_); on_goal 2 => rfl)

theorem execTreeCounterRead_frame (region : Nat) (line : Nat) (s : State) : Goes 35257386704896 s (execTreeCounterRead region line s) := by
  unfold execTreeCounterRead
  repeat' first
      | with_reducible refine Goes.mk ?_
      | with_reducible exact Frame.refl
      | ((with_reducible refine counterRowOp_frame ?_ ?_); on_goal 2 => rfl)

theorem execTreeCounterIncrement_frame (region : Nat) (line : Nat) (s : State) : Goes 35257386704896 s (execTreeCounterIncrement region line s) := by
  unfold execTreeCounterIncrement
  repeat' first
      | with_reducible refine Goes.mk ?_
      | with_reducible exact Frame.refl
      | ((with_reducible refine counterRowOp_frame ?_ ?_); on_goal 2 => rfl)

theorem execTrRootSave_frame (index : Byte) (keep : Bool) (s : State) : Goes 35257386967040 s (execTrRootSave index keep s) := by
  unfold execTrRootSave
  repeat' first
      | with_reducible refine Goes.mk ?_
      | with_reducible exact Frame.refl
      | ((with_reducible refine trCommand_frame ?_ ?_); on_goal 2 => rfl)

theorem execTrRootLoad_frame (index : Byte) (s : State) : Goes 35257386967040 s (execTrRootLoad index s) := by
  unfold execTrRootLoad
  repeat' first
      | with_reducible refine Goes.mk ?_
      | with_reducible exact Frame.refl
      | ((with_reducible refine trCommand_frame ?_ ?_); on_goal 2 => rfl)

theorem execTrRootDrop_frame (index : Byte) (s : State) : Goes 35257386967040 s (execTrRootDrop index s) := by
  unfold execTrRootDrop
  repeat' first
      | with_reducible refine Goes.mk ?_
      | with_reducible exact Frame.refl
      | ((with_reducible refine trCommand_frame ?_ ?_); on_goal 2 => rfl)

theorem execTrFlush_frame (index : Byte) (s : State) : Goes 35257386967040 s (execTrFlush index s) := by
  unfold execTrFlush
  repeat' first
      | with_reducible refine Goes.mk ?_
      | with_reducible exact Frame.refl
      | ((with_reducible refine trCommand_frame ?_ ?_); on_goal 2 => rfl)

theorem execTrQuery_frame (index : Byte) (s : State) : Goes 35257386967040 s (execTrQuery index s) := by
  unfold execTrQuery
  repeat' first
      | with_reducible refine Goes.mk ?_
      | with_reducible exact Frame.refl
      | ((with_reducible refine trCommand_frame ?_ ?_); on_goal 2 => rfl)

theorem execTrInject_frame (index : Byte) (level : BitVec 4) (s : State) : Goes 35257386967040 s (execTrInject index level s) := by
  unfold execTrInject
  repeat' first
      | with_reducible refine Goes.mk ?_
      | with_reducible exact Frame.refl
      | ((with_reducible refine trCommand_frame ?_ ?_); on_goal 2 => rfl)

theorem execLnRegionWrite_frame (index : BitVec 11) (sealed : Bool) (s : State) : Goes 2200105623616 s (execLnRegionWrite index sealed s) := by
  unfold execLnRegionWrite
  repeat' first
      | with_reducible refine Goes.mk ?_
      | with_reducible exact Frame.refl
      | ((with_reducible refine lnCommand_frame ?_ ?_); on_goal 2 => rfl)

theorem execLnRegionFree_frame (index : BitVec 11) (s : State) : Goes 2200105623616 s (execLnRegionFree index s) := by
  unfold execLnRegionFree
  repeat' first
      | with_reducible refine Goes.mk ?_
      | with_reducible exact Frame.refl
      | ((with_reducible refine lnCommand_frame ?_ ?_); on_goal 2 => rfl)

theorem execLnRegionSeal_frame (index : BitVec 11) (s : State) : Goes 2200105623616 s (execLnRegionSeal index s) := by
  unfold execLnRegionSeal
  repeat' first
      | with_reducible refine Goes.mk ?_
      | with_reducible exact Frame.refl
      | ((with_reducible refine lnCommand_frame ?_ ?_); on_goal 2 => rfl)

theorem execLnQuery_frame (index : BitVec 11) (s : State) : Goes 2200105623616 s (execLnQuery index s) := by
  unfold execLnQuery
  repeat' first
      | with_reducible refine Goes.mk ?_
      | with_reducible exact Frame.refl
      | ((with_reducible refine lnCommand_frame ?_ ?_); on_goal 2 => rfl)

theorem execRegionSealComplete_frame (region : Nat) (s : State) : Goes 2199023288384 s (execRegionSealComplete region s) := by
  unfold execRegionSealComplete
  repeat' first
      | with_reducible refine Goes.mk ?_
      | with_reducible exact Frame.refl
      | ((with_reducible refine sealCompleteOp_frame ?_ ?_); on_goal 2 => rfl)

theorem execRegionEraseComplete_frame (region : Nat) (s : State) : Goes 2199031808064 s (execRegionEraseComplete region s) := by
  unfold execRegionEraseComplete
  repeat' first
      | with_reducible refine Goes.mk ?_
      | with_reducible exact Frame.refl
      | ((with_reducible refine eraseCompleteOp_frame ?_ ?_); on_goal 2 => rfl)

theorem execMoverDescriptorComplete_frame (m : Nat) (s : State) : Goes 87142432768 s (execMoverDescriptorComplete m s) := by
  unfold execMoverDescriptorComplete
  repeat' first
      | with_reducible refine Goes.mk ?_
      | with_reducible exact Frame.refl
      | ((with_reducible refine descriptorComplete_frame ?_ ?_); on_goal 2 => rfl)

theorem execMoverAbortToken_frame (m : Nat) (q : Nat) (qgen : BitVec 16) (s : State) : Goes 87141384192 s (execMoverAbortToken m q qgen s) := by
  unfold execMoverAbortToken
  repeat' first
      | with_reducible refine Goes.mk ?_
      | with_reducible exact Frame.refl
      | ((with_reducible refine abortTokenOp_frame ?_ ?_); on_goal 2 => rfl)

theorem execMvSubmit_frame (mover : BitVec 4) (s : State) : Goes 17181442048 s (execMvSubmit mover s) := by
  unfold execMvSubmit
  repeat' first
      | with_reducible refine Goes.mk ?_
      | with_reducible exact Frame.refl
      | ((with_reducible refine mvCommand_frame ?_ ?_); on_goal 2 => rfl)

theorem execMvQuery_frame (mover : BitVec 4) (s : State) : Goes 17181442048 s (execMvQuery mover s) := by
  unfold execMvQuery
  repeat' first
      | with_reducible refine Goes.mk ?_
      | with_reducible exact Frame.refl
      | ((with_reducible refine mvCommand_frame ?_ ?_); on_goal 2 => rfl)

theorem execReductionSlotComplete_frame (u : Nat) (slot : Nat) (s : State) : Goes 87142957056 s (execReductionSlotComplete u slot s) := by
  unfold execReductionSlotComplete
  repeat' first
      | with_reducible refine Goes.mk ?_
      | with_reducible exact Frame.refl
      | ((with_reducible refine redCompleteOp_frame ?_ ?_); on_goal 2 => rfl)

theorem execRdQuery_frame (u : BitVec 3) (slot : BitVec 2) (s : State) : Goes 17592192344064 s (execRdQuery u slot s) := by
  unfold execRdQuery
  repeat' first
      | with_reducible refine Goes.mk ?_
      | with_reducible exact Frame.refl
      | ((with_reducible refine rdCommand_frame ?_ ?_); on_goal 2 => rfl)

theorem execRdAbort_frame (u : BitVec 3) (slot : BitVec 2) (s : State) : Goes 17592192344064 s (execRdAbort u slot s) := by
  unfold execRdAbort
  repeat' first
      | with_reducible refine Goes.mk ?_
      | with_reducible exact Frame.refl
      | ((with_reducible refine rdCommand_frame ?_ ?_); on_goal 2 => rfl)

theorem execHallRetireMessage_frame (ctx : Nat) (msg : Bytes) (s : State) : Goes 105626164312256 s (execHallRetireMessage ctx msg s) := by
  unfold execHallRetireMessage
  repeat' first
      | with_reducible refine Goes.mk ?_
      | with_reducible exact Frame.refl
      | ((with_reducible refine retireReceive_frame ?_ ?_); on_goal 2 => rfl)

theorem execTimeExchangeStart_frame (s : State) : Goes 824633729024 s (execTimeExchangeStart s) := by
  unfold execTimeExchangeStart
  repeat' first
      | with_reducible refine Goes.mk ?_
      | with_reducible exact Frame.refl
      | ((with_reducible refine timeStartOp_frame ?_ ?_); on_goal 2 => rfl)

theorem execTimeMessageReceive_frame (ctx : Nat) (msg : Bytes) (s : State) : Goes 824633733120 s (execTimeMessageReceive ctx msg s) := by
  unfold execTimeMessageReceive
  repeat' first
      | with_reducible refine Goes.mk ?_
      | with_reducible exact Frame.refl
      | ((with_reducible refine timeReceive_frame ?_ ?_); on_goal 2 => rfl)

theorem execTimeParent_frame (a : Act) (arg : Bytes) (s : State) : Goes 3023656976384 s (execTimeParent a arg s) := by
  unfold execTimeParent
  repeat' first
      | with_reducible refine Goes.mk ?_
      | with_reducible exact Frame.refl
      | ((with_reducible refine timeParentAct_frame ?_ ?_); on_goal 2 => rfl)

theorem execRushesTick_frame (unit : Nat) (s : State) : Goes 68719476736 s (execRushesTick unit s) := by
  unfold execRushesTick
  repeat' first
      | with_reducible refine Goes.mk ?_
      | with_reducible exact Frame.refl
      | ((with_reducible refine rushesTickOp_frame ?_ ?_); on_goal 2 => rfl)

theorem execRushesRead_frame (a : Act) (arg : Bytes) (s : State) : Goes 2199023255552 s (execRushesRead a arg s) := by
  unfold execRushesRead
  repeat' first
      | with_reducible refine Goes.mk ?_
      | with_reducible exact Frame.refl
      | ((with_reducible refine rushesReadAct_frame ?_ ?_); on_goal 2 => rfl)

theorem execPmatchWrite_frame (hall : Nat) (slot : Nat) (value : DWord) (s : State) : Goes 1073741824 s (execPmatchWrite hall slot value s) := by
  unfold execPmatchWrite
  repeat' first
      | with_reducible refine Goes.mk ?_
      | with_reducible exact Frame.refl
      | ((with_reducible refine pmatchOp_frame ?_ ?_); on_goal 2 => rfl)

theorem execDailiesRecord_frame (kind : Byte) (unit : Nat) (scanMap : Nat) (body : List ScanWord) (s : State) : Goes 35390530519040 s (execDailiesRecord kind unit scanMap body s) := by
  unfold execDailiesRecord
  repeat' first
      | with_reducible refine Goes.mk ?_
      | with_reducible exact Frame.refl
      | ((with_reducible refine dailiesOp_frame ?_ ?_); on_goal 2 => rfl)

theorem execCutArm_frame (a : Act) (arg : Bytes) (s : State) : Goes 3229815414784 s (execCutArm a arg s) := by
  unfold execCutArm
  repeat' first
      | with_reducible refine Goes.mk ?_
      | with_reducible exact Frame.refl
      | ((with_reducible refine cutArmAct_frame ?_ ?_); on_goal 2 => rfl)

theorem execCutDisarm_frame (a : Act) (s : State) : Goes 2405181685760 s (execCutDisarm a s) := by
  unfold execCutDisarm
  repeat' first
      | with_reducible refine Goes.mk ?_
      | with_reducible exact Frame.refl
      | ((with_reducible refine cutDisarmAct_frame ?_ ?_); on_goal 2 => rfl)

theorem execCutOrderReceive_frame (ctx : Nat) (msg : Bytes) (s : State) : Goes 1030792159232 s (execCutOrderReceive ctx msg s) := by
  unfold execCutOrderReceive
  repeat' first
      | with_reducible refine Goes.mk ?_
      | with_reducible exact Frame.refl
      | ((with_reducible refine cutReceive_frame ?_ ?_); on_goal 2 => rfl)

theorem execCutStop_frame (s : State) : Goes 1030792151040 s (execCutStop s) := by
  unfold execCutStop
  repeat' first
      | with_reducible refine Goes.mk ?_
      | with_reducible exact Frame.refl
      | ((with_reducible refine cutStopOp_frame ?_ ?_); on_goal 2 => rfl)

theorem execLateArrival_frame (channel : Nat) (item : Nat) (s : State) : Goes 206158430208 s (execLateArrival channel item s) := by
  unfold execLateArrival
  repeat' first
      | with_reducible refine Goes.mk ?_
      | with_reducible exact Frame.refl
      | ((with_reducible refine lateArrivalOp_frame ?_ ?_); on_goal 2 => rfl)

theorem execCutResume_frame (s : State) : Goes 1043712180230 s (execCutResume s) := by
  unfold execCutResume
  repeat' first
      | with_reducible refine Goes.mk ?_
      | with_reducible exact Frame.refl
      | ((with_reducible refine cutResumeOp_frame ?_ ?_); on_goal 2 => rfl)

theorem execDbgArm_frame (flags : Byte) (serial : BitVec 12) (s : State) : Goes 36215164248064 s (execDbgArm flags serial s) := by
  unfold execDbgArm
  repeat' first
      | with_reducible refine Goes.mk ?_
      | with_reducible exact Frame.refl
      | ((with_reducible refine dbgCommand_frame ?_ ?_); on_goal 2 => rfl)

theorem execDbgDisarm_frame (s : State) : Goes 36215164248064 s (execDbgDisarm s) := by
  unfold execDbgDisarm
  repeat' first
      | with_reducible refine Goes.mk ?_
      | with_reducible exact Frame.refl
      | ((with_reducible refine dbgCommand_frame ?_ ?_); on_goal 2 => rfl)

theorem execDbgRushesDump_frame (s : State) : Goes 36215164248064 s (execDbgRushesDump s) := by
  unfold execDbgRushesDump
  repeat' first
      | with_reducible refine Goes.mk ?_
      | with_reducible exact Frame.refl
      | ((with_reducible refine dbgCommand_frame ?_ ?_); on_goal 2 => rfl)

theorem execDbgRingRead_frame (s : State) : Goes 36215164248064 s (execDbgRingRead s) := by
  unfold execDbgRingRead
  repeat' first
      | with_reducible refine Goes.mk ?_
      | with_reducible exact Frame.refl
      | ((with_reducible refine dbgCommand_frame ?_ ?_); on_goal 2 => rfl)

theorem execLaneUpRise_frame (lane : Nat) (s : State) : Goes 6 s (execLaneUpRise lane s) := by
  unfold execLaneUpRise
  repeat' first
      | with_reducible refine Goes.mk ?_
      | with_reducible exact Frame.refl
      | ((with_reducible refine laneRiseOp_frame ?_ ?_); on_goal 2 => rfl)

theorem execQueueCreate_frame (a : Act) (arg : Bytes) (s : State) : Goes 2199123918848 s (execQueueCreate a arg s) := by
  unfold execQueueCreate
  repeat' first
      | with_reducible refine Goes.mk ?_
      | with_reducible exact Frame.refl
      | ((with_reducible refine queueCreateAct_frame ?_ ?_); on_goal 2 => rfl)

theorem execQueueDestroy_frame (a : Act) (arg : Bytes) (s : State) : Goes 55063261749282 s (execQueueDestroy a arg s) := by
  unfold execQueueDestroy
  repeat' first
      | with_reducible refine Goes.mk ?_
      | with_reducible exact Frame.refl
      | ((with_reducible refine queueDestroyAct_frame ?_ ?_); on_goal 2 => rfl)

theorem execFeCmdCreate_frame (s : State) : Goes 52864305602594 s (execFeCmdCreate s) := by
  unfold execFeCmdCreate
  repeat' first
      | with_reducible refine Goes.mk ?_
      | with_reducible exact Frame.refl
      | ((with_reducible refine feCommand_frame ?_ ?_); on_goal 2 => rfl)

theorem execFeCmdDestroy_frame (s : State) : Goes 52864305602594 s (execFeCmdDestroy s) := by
  unfold execFeCmdDestroy
  repeat' first
      | with_reducible refine Goes.mk ?_
      | with_reducible exact Frame.refl
      | ((with_reducible refine feCommand_frame ?_ ?_); on_goal 2 => rfl)

theorem execFeCmdQuery_frame (q : BitVec 14) (s : State) : Goes 52864305602594 s (execFeCmdQuery q s) := by
  unfold execFeCmdQuery
  repeat' first
      | with_reducible refine Goes.mk ?_
      | with_reducible exact Frame.refl
      | ((with_reducible refine feCommand_frame ?_ ?_); on_goal 2 => rfl)

theorem execDoorbell_frame (hall : Nat) (slot : Nat) (value : Word) (s : State) : Goes 894460493830 s (execDoorbell hall slot value s) := by
  unfold execDoorbell
  repeat' first
      | with_reducible refine Goes.mk ?_
      | with_reducible exact Frame.refl
      | ((with_reducible refine portInput_frame ?_ ?_); on_goal 2 => rfl)
      | ((with_reducible refine doorbellOp_frame ?_ ?_); on_goal 2 => rfl)
      | with_reducible refine Frame.ite ?_ ?_

theorem execRingEntryFetched_frame (q : Nat) (entry : Bytes) (s : State) : Goes 35274599958562 s (execRingEntryFetched q entry s) := by
  unfold execRingEntryFetched
  repeat' first
      | with_reducible refine Goes.mk ?_
      | with_reducible exact Frame.refl
      | ((with_reducible refine ringFetched_frame ?_ ?_); on_goal 2 => rfl)

theorem execCommandChunkFetched_frame (q : Nat) (data : Bytes) (s : State) : Goes 52849606166650 s (execCommandChunkFetched q data s) := by
  unfold execCommandChunkFetched
  repeat' first
      | with_reducible refine Goes.mk ?_
      | with_reducible exact Frame.refl
      | ((with_reducible refine feKick_frame ?_ ?_); on_goal 2 => rfl)
      | ((with_reducible refine chunkFetched_frame ?_ ?_); on_goal 2 => rfl)

theorem execQueueActivate_frame (q : Nat) (s : State) : Goes 52849740351546 s (execQueueActivate q s) := by
  unfold execQueueActivate
  repeat' first
      | with_reducible refine Goes.mk ?_
      | with_reducible exact Frame.refl
      | ((with_reducible refine activateOp_frame ?_ ?_); on_goal 2 => rfl)

theorem execLaunch_frame (q : Nat) (s : State) : Goes 52868329506874 s (execLaunch q s) := by
  unfold execLaunch
  repeat' first
      | with_reducible refine Goes.mk ?_
      | with_reducible exact Frame.refl
      | ((with_reducible refine decodeNext_frame (fun _ s => ?_) ?_ ?_); on_goal 3 => rfl)
      | ((with_reducible refine launchPacket_frame ?_ ?_); on_goal 2 => rfl)

theorem execTakeOverrun_frame (slot : Nat) (s : State) : Goes 74121740288 s (execTakeOverrun slot s) := by
  unfold execTakeOverrun
  repeat' first
      | with_reducible refine Goes.mk ?_
      | with_reducible exact Frame.refl
      | ((with_reducible refine takeOverrunOp_frame ?_ ?_); on_goal 2 => rfl)

theorem execCpCompletion_frame (w : DWord) (s : State) : Goes 952643878918 s (execCpCompletion w s) := by
  unfold execCpCompletion
  repeat' first
      | with_reducible refine Goes.mk ?_
      | with_reducible exact Frame.refl
      | ((with_reducible refine portInput_frame ?_ ?_); on_goal 2 => rfl)
      | ((with_reducible refine cpCompletionOp_frame ?_ ?_); on_goal 2 => rfl)
      | with_reducible refine Frame.ite ?_ ?_

theorem execMove_frame (q : Nat) (s : State) : Goes 52868330031162 s (execMove q s) := by
  unfold execMove
  repeat' first
      | with_reducible refine Goes.mk ?_
      | with_reducible exact Frame.refl
      | ((with_reducible refine decodeNext_frame (fun _ s => ?_) ?_ ?_); on_goal 3 => rfl)
      | ((with_reducible refine movePacket_frame ?_ ?_); on_goal 2 => rfl)

theorem execReduce_frame (q : Nat) (s : State) : Goes 52868331604026 s (execReduce q s) := by
  unfold execReduce
  repeat' first
      | with_reducible refine Goes.mk ?_
      | with_reducible exact Frame.refl
      | ((with_reducible refine decodeNext_frame (fun _ s => ?_) ?_ ?_); on_goal 3 => rfl)
      | ((with_reducible refine reducePacket_frame ?_ ?_); on_goal 2 => rfl)

theorem execSignal_frame (q : Nat) (s : State) : Goes 52866786003002 s (execSignal q s) := by
  unfold execSignal
  repeat' first
      | with_reducible refine Goes.mk ?_
      | with_reducible exact Frame.refl
      | ((with_reducible refine decodeNext_frame (fun _ s => ?_) ?_ ?_); on_goal 3 => rfl)
      | ((with_reducible refine signalPacket_frame ?_ ?_); on_goal 2 => rfl)

theorem execSignalApply_frame (q : Nat) (s : State) : Goes 41856100474880 s (execSignalApply q s) := by
  unfold execSignalApply
  repeat' first
      | with_reducible refine Goes.mk ?_
      | with_reducible exact Frame.refl
      | ((with_reducible refine signalApplyOp_frame ?_ ?_); on_goal 2 => rfl)

theorem execWait_frame (q : Nat) (s : State) : Goes 52867322873914 s (execWait q s) := by
  unfold execWait
  repeat' first
      | with_reducible refine Goes.mk ?_
      | with_reducible exact Frame.refl
      | ((with_reducible refine decodeNext_frame (fun _ s => ?_) ?_ ?_); on_goal 3 => rfl)
      | ((with_reducible refine waitPacket_frame ?_ ?_); on_goal 2 => rfl)

theorem execCondJump_frame (q : Nat) (s : State) : Goes 52866786003002 s (execCondJump q s) := by
  unfold execCondJump
  repeat' first
      | with_reducible refine Goes.mk ?_
      | with_reducible exact Frame.refl
      | ((with_reducible refine decodeNext_frame (fun _ s => ?_) ?_ ?_); on_goal 3 => rfl)
      | ((with_reducible refine condJumpPacket_frame ?_ ?_); on_goal 2 => rfl)

theorem execLoop_frame (q : Nat) (s : State) : Goes 52866786003002 s (execLoop q s) := by
  unfold execLoop
  repeat' first
      | with_reducible refine Goes.mk ?_
      | with_reducible exact Frame.refl
      | ((with_reducible refine decodeNext_frame (fun _ s => ?_) ?_ ?_); on_goal 3 => rfl)
      | ((with_reducible refine loopPacket_frame ?_ ?_); on_goal 2 => rfl)

theorem execCall_frame (q : Nat) (s : State) : Goes 52849606133818 s (execCall q s) := by
  unfold execCall
  repeat' first
      | with_reducible refine Goes.mk ?_
      | with_reducible exact Frame.refl
      | ((with_reducible refine decodeNext_frame (fun _ s => ?_) ?_ ?_); on_goal 3 => rfl)
      | ((with_reducible refine callPacket_frame ?_ ?_); on_goal 2 => rfl)

theorem execRet_frame (q : Nat) (s : State) : Goes 52866786003002 s (execRet q s) := by
  unfold execRet
  repeat' first
      | with_reducible refine Goes.mk ?_
      | with_reducible exact Frame.refl
      | ((with_reducible refine decodeNext_frame (fun _ s => ?_) ?_ ?_); on_goal 3 => rfl)
      | ((with_reducible refine retPacket_frame ?_ ?_); on_goal 2 => rfl)

theorem execSetReg_frame (q : Nat) (s : State) : Goes 52866786003002 s (execSetReg q s) := by
  unfold execSetReg
  repeat' first
      | with_reducible refine Goes.mk ?_
      | with_reducible exact Frame.refl
      | ((with_reducible refine decodeNext_frame (fun _ s => ?_) ?_ ?_); on_goal 3 => rfl)
      | ((with_reducible refine setRegPacket_frame ?_ ?_); on_goal 2 => rfl)

theorem execMark_frame (q : Nat) (s : State) : Goes 52866786003002 s (execMark q s) := by
  unfold execMark
  repeat' first
      | with_reducible refine Goes.mk ?_
      | with_reducible exact Frame.refl
      | ((with_reducible refine decodeNext_frame (fun _ s => ?_) ?_ ?_); on_goal 3 => rfl)
      | ((with_reducible refine markPacket_frame ?_ ?_); on_goal 2 => rfl)

theorem execHallCreate_frame (a : Act) (arg : Bytes) (s : State) : Goes 37384469090904 s (execHallCreate a arg s) := by
  unfold execHallCreate
  repeat' first
      | with_reducible refine Goes.mk ?_
      | with_reducible exact Frame.refl
      | ((with_reducible refine hallCreateAct_frame ?_ ?_); on_goal 2 => rfl)

theorem execHallGrant_frame (a : Act) (arg : Bytes) (s : State) : Goes 37386616569880 s (execHallGrant a arg s) := by
  unfold execHallGrant
  repeat' first
      | with_reducible refine Goes.mk ?_
      | with_reducible exact Frame.refl
      | ((with_reducible refine hallGrantAct_frame ?_ ?_); on_goal 2 => rfl)

theorem execHallUngrant_frame (a : Act) (arg : Bytes) (s : State) : Goes 37386616569880 s (execHallUngrant a arg s) := by
  unfold execHallUngrant
  repeat' first
      | with_reducible refine Goes.mk ?_
      | with_reducible exact Frame.refl
      | ((with_reducible refine hallUngrantAct_frame ?_ ?_); on_goal 2 => rfl)

theorem execMap_frame (a : Act) (arg : Bytes) (s : State) : Goes 54976655130648 s (execMap a arg s) := by
  unfold execMap
  repeat' first
      | with_reducible refine Goes.mk ?_
      | with_reducible exact Frame.refl
      | ((with_reducible refine mapAct_frame ?_ ?_); on_goal 2 => rfl)

theorem execUnmap_frame (a : Act) (arg : Bytes) (s : State) : Goes 54978836168730 s (execUnmap a arg s) := by
  unfold execUnmap
  repeat' first
      | with_reducible refine Goes.mk ?_
      | with_reducible exact Frame.refl
      | ((with_reducible refine unmapAct_frame ?_ ?_); on_goal 2 => rfl)

theorem execUnmapComplete_frame (serial : Nat) (s : State) : Goes 41858247950360 s (execUnmapComplete serial s) := by
  unfold execUnmapComplete
  repeat' first
      | with_reducible refine Goes.mk ?_
      | with_reducible exact Frame.refl
      | ((with_reducible refine unmapCompleteOp_frame ?_ ?_); on_goal 2 => rfl)

theorem execHpFlr_frame (func : Nat) (s : State) : Goes 55887895470142 s (execHpFlr func s) := by
  unfold execHpFlr
  repeat' first
      | with_reducible refine Goes.mk ?_
      | with_reducible exact Frame.refl
      | ((with_reducible refine portInput_frame ?_ ?_); on_goal 2 => rfl)
      | ((with_reducible refine flrOp_frame ?_ ?_); on_goal 2 => rfl)
      | with_reducible refine Frame.ite ?_ ?_

theorem execHpFlrDone_frame (func : Nat) (s : State) : Goes 35184372088838 s (execHpFlrDone func s) := by
  unfold execHpFlrDone
  repeat' first
      | with_reducible refine Goes.mk ?_
      | with_reducible exact Frame.refl
      | ((with_reducible refine flrDoneOp_frame ?_ ?_); on_goal 2 => rfl)

theorem execHallFreezeComplete_frame (hall : Nat) (s : State) : Goes 37384469086232 s (execHallFreezeComplete hall s) := by
  unfold execHallFreezeComplete
  repeat' first
      | with_reducible refine Goes.mk ?_
      | with_reducible exact Frame.refl
      | ((with_reducible refine freezeCompleteOp_frame ?_ ?_); on_goal 2 => rfl)

theorem execHallSave_frame (a : Act) (arg : Bytes) (pages : List Bytes) (s : State) : Goes 50651790870744 s (execHallSave a arg pages s) := by
  unfold execHallSave
  repeat' first
      | with_reducible refine Goes.mk ?_
      | with_reducible exact Frame.refl
      | ((with_reducible refine hallSaveAct_frame ?_ ?_); on_goal 2 => rfl)

theorem execHallRestore_frame (a : Act) (arg : Bytes) (image : Bytes) (s : State) : Goes 59375339339800 s (execHallRestore a arg image s) := by
  unfold execHallRestore
  repeat' first
      | with_reducible refine Goes.mk ?_
      | with_reducible exact Frame.refl
      | ((with_reducible refine hallRestoreAct_frame ?_ ?_); on_goal 2 => rfl)

theorem execHallThaw_frame (a : Act) (arg : Bytes) (s : State) : Goes 37384469090392 s (execHallThaw a arg s) := by
  unfold execHallThaw
  repeat' first
      | with_reducible refine Goes.mk ?_
      | with_reducible exact Frame.refl
      | ((with_reducible refine hallThawAct_frame ?_ ?_); on_goal 2 => rfl)

theorem execMigrateDone_frame (a : Act) (arg : Bytes) (s : State) : Goes 55063261749306 s (execMigrateDone a arg s) := by
  unfold execMigrateDone
  repeat' first
      | with_reducible refine Goes.mk ?_
      | with_reducible exact Frame.refl
      | ((with_reducible refine migrateDoneAct_frame ?_ ?_); on_goal 2 => rfl)

theorem execScrubDone_frame (hall : BitVec 12) (s : State) : Goes 68263919401722 s (execScrubDone hall s) := by
  unfold execScrubDone
  repeat' first
      | with_reducible refine Goes.mk ?_
      | with_reducible exact Frame.refl
      | ((with_reducible refine ituCommand_frame ?_ ?_); on_goal 2 => rfl)

theorem execItuClean_frame (s : State) : Goes 68263919401722 s (execItuClean s) := by
  unfold execItuClean
  repeat' first
      | with_reducible refine Goes.mk ?_
      | with_reducible exact Frame.refl
      | ((with_reducible refine ituCommand_frame ?_ ?_); on_goal 2 => rfl)

theorem execItuQuery_frame (hall : BitVec 12) (s : State) : Goes 68263919401722 s (execItuQuery hall s) := by
  unfold execItuQuery
  repeat' first
      | with_reducible refine Goes.mk ?_
      | with_reducible exact Frame.refl
      | ((with_reducible refine ituCommand_frame ?_ ?_); on_goal 2 => rfl)

theorem execItuHallCreate_frame (s : State) : Goes 68263919401722 s (execItuHallCreate s) := by
  unfold execItuHallCreate
  repeat' first
      | with_reducible refine Goes.mk ?_
      | with_reducible exact Frame.refl
      | ((with_reducible refine ituCommand_frame ?_ ?_); on_goal 2 => rfl)

theorem execItuGrant_frame (s : State) : Goes 68263919401722 s (execItuGrant s) := by
  unfold execItuGrant
  repeat' first
      | with_reducible refine Goes.mk ?_
      | with_reducible exact Frame.refl
      | ((with_reducible refine ituCommand_frame ?_ ?_); on_goal 2 => rfl)

theorem execItuUngrant_frame (s : State) : Goes 68263919401722 s (execItuUngrant s) := by
  unfold execItuUngrant
  repeat' first
      | with_reducible refine Goes.mk ?_
      | with_reducible exact Frame.refl
      | ((with_reducible refine ituCommand_frame ?_ ?_); on_goal 2 => rfl)

theorem execItuMap_frame (s : State) : Goes 68263919401722 s (execItuMap s) := by
  unfold execItuMap
  repeat' first
      | with_reducible refine Goes.mk ?_
      | with_reducible exact Frame.refl
      | ((with_reducible refine ituCommand_frame ?_ ?_); on_goal 2 => rfl)

theorem execItuUnmap_frame (s : State) : Goes 68263919401722 s (execItuUnmap s) := by
  unfold execItuUnmap
  repeat' first
      | with_reducible refine Goes.mk ?_
      | with_reducible exact Frame.refl
      | ((with_reducible refine ituCommand_frame ?_ ?_); on_goal 2 => rfl)

theorem execItuSave_frame (pages : List Bytes) (s : State) : Goes 68263919401722 s (execItuSave pages s) := by
  unfold execItuSave
  repeat' first
      | with_reducible refine Goes.mk ?_
      | with_reducible exact Frame.refl
      | ((with_reducible refine ituCommand_frame ?_ ?_); on_goal 2 => rfl)
      | ((with_reducible refine ituGoesOn_frame ?_ ?_); on_goal 2 => rfl)

theorem execItuRestore_frame (image : Bytes) (s : State) : Goes 68263919401722 s (execItuRestore image s) := by
  unfold execItuRestore
  repeat' first
      | with_reducible refine Goes.mk ?_
      | with_reducible exact Frame.refl
      | ((with_reducible refine ituCommand_frame ?_ ?_); on_goal 2 => rfl)
      | ((with_reducible refine ituGoesOn_frame ?_ ?_); on_goal 2 => rfl)

theorem execItuThaw_frame (s : State) : Goes 68263919401722 s (execItuThaw s) := by
  unfold execItuThaw
  repeat' first
      | with_reducible refine Goes.mk ?_
      | with_reducible exact Frame.refl
      | ((with_reducible refine ituCommand_frame ?_ ?_); on_goal 2 => rfl)

theorem execItuMigrateDone_frame (s : State) : Goes 68263919401722 s (execItuMigrateDone s) := by
  unfold execItuMigrateDone
  repeat' first
      | with_reducible refine Goes.mk ?_
      | with_reducible exact Frame.refl
      | ((with_reducible refine ituCommand_frame ?_ ?_); on_goal 2 => rfl)

theorem execManifestChunk_frame (a : Act) (arg : Bytes) (s : State) : Goes 2199023259648 s (execManifestChunk a arg s) := by
  unfold execManifestChunk
  repeat' first
      | with_reducible refine Goes.mk ?_
      | with_reducible exact Frame.refl
      | ((with_reducible refine manifestChunkAct_frame ?_ ?_); on_goal 2 => rfl)

theorem execPlanChunk_frame (a : Act) (arg : Bytes) (s : State) : Goes 72567767439424 s (execPlanChunk a arg s) := by
  unfold execPlanChunk
  repeat' first
      | with_reducible refine Goes.mk ?_
      | with_reducible exact Frame.refl
      | ((with_reducible refine planChunkAct_frame ?_ ?_); on_goal 2 => rfl)

theorem execDomainRoot_frame (a : Act) (arg : Bytes) (s : State) : Goes 72567767439808 s (execDomainRoot a arg s) := by
  unfold execDomainRoot
  repeat' first
      | with_reducible refine Goes.mk ?_
      | with_reducible exact Frame.refl
      | ((with_reducible refine domainRootAct_frame ?_ ?_); on_goal 2 => rfl)

theorem execJoinCommit_frame (a : Act) (s : State) : Goes 72567767439424 s (execJoinCommit a s) := by
  unfold execJoinCommit
  repeat' first
      | with_reducible refine Goes.mk ?_
      | with_reducible exact Frame.refl
      | ((with_reducible refine joinCommitAct_frame ?_ ?_); on_goal 2 => rfl)

theorem execLeave_frame (a : Act) (s : State) : Goes 2199023259712 s (execLeave a s) := by
  unfold execLeave
  repeat' first
      | with_reducible refine Goes.mk ?_
      | with_reducible exact Frame.refl
      | ((with_reducible refine leaveAct_frame ?_ ?_); on_goal 2 => rfl)

theorem execEpochSwitch_frame (a : Act) (arg : Bytes) (s : State) : Goes 2199023284288 s (execEpochSwitch a arg s) := by
  unfold execEpochSwitch
  repeat' first
      | with_reducible refine Goes.mk ?_
      | with_reducible exact Frame.refl
      | ((with_reducible refine epochSwitchAct_frame ?_ ?_); on_goal 2 => rfl)

theorem execEpochRetire_frame (a : Act) (arg : Bytes) (s : State) : Goes 2199023259712 s (execEpochRetire a arg s) := by
  unfold execEpochRetire
  repeat' first
      | with_reducible refine Goes.mk ?_
      | with_reducible exact Frame.refl
      | ((with_reducible refine epochRetireAct_frame ?_ ?_); on_goal 2 => rfl)

theorem execXspiCommand_frame (opcode : Byte) (length : Byte) (s : State) : Goes 37108517437440 s (execXspiCommand opcode length s) := by
  unfold execXspiCommand
  repeat' first
      | with_reducible refine Goes.mk ?_
      | with_reducible exact Frame.refl
      | ((with_reducible refine xspiOp_frame ?_ ?_); on_goal 2 => rfl)

theorem execRootStoreUse_frame (a : Act) (arg : Bytes) (s : State) : Goes 3023656976384 s (execRootStoreUse a arg s) := by
  unfold execRootStoreUse
  repeat' first
      | with_reducible refine Goes.mk ?_
      | with_reducible exact Frame.refl
      | ((with_reducible refine rootStoreUseAct_frame ?_ ?_); on_goal 2 => rfl)

theorem execMpResponse_frame (port : Nat) (tag : Nat) (we : Bool) (err : BitVec 2) (data : Bytes) (s : State) : Goes 56991173748862 s (execMpResponse port tag we err data s) := by
  unfold execMpResponse
  repeat' first
      | with_reducible refine Goes.mk ?_
      | with_reducible exact Frame.refl
      | ((with_reducible refine portInput_frame ?_ ?_); on_goal 2 => rfl)
      | ((with_reducible refine mpResponseOp_frame ?_ ?_); on_goal 2 => rfl)
      | with_reducible refine Frame.ite ?_ ?_

theorem execCpReqReceive_frame (r : CpReq) (s : State) : Goes 56991173748862 s (execCpReqReceive r s) := by
  unfold execCpReqReceive
  repeat' first
      | with_reducible refine Goes.mk ?_
      | with_reducible exact Frame.refl
      | ((with_reducible refine portInput_frame ?_ ?_); on_goal 2 => rfl)
      | ((with_reducible refine cpReqOp_frame ?_ ?_); on_goal 2 => rfl)
      | ((with_reducible refine settled_frame ?_ ?_); on_goal 2 => rfl)
      | with_reducible refine Frame.ite ?_ ?_

theorem execLineWrite_frame (r : LineAcc) (data : Bytes) (s : State) : Goes 56441417934970 s (execLineWrite r data s) := by
  unfold execLineWrite
  repeat' first
      | with_reducible refine Goes.mk ?_
      | with_reducible exact Frame.refl
      | ((with_reducible refine lineIssue_frame ?_ ?_); on_goal 2 => rfl)
      | ((with_reducible refine settled_frame ?_ ?_); on_goal 2 => rfl)

theorem execPartialWrite_frame (r : LineAcc) (be : BitVec 64) (data : Bytes) (s : State) : Goes 56441417934970 s (execPartialWrite r be data s) := by
  unfold execPartialWrite
  repeat' first
      | with_reducible refine Goes.mk ?_
      | with_reducible exact Frame.refl
      | ((with_reducible refine lineIssue_frame ?_ ?_); on_goal 2 => rfl)
      | ((with_reducible refine settled_frame ?_ ?_); on_goal 2 => rfl)

theorem execLineRead_frame (r : LineAcc) (s : State) : Goes 56441417934970 s (execLineRead r s) := by
  unfold execLineRead
  repeat' first
      | with_reducible refine Goes.mk ?_
      | with_reducible exact Frame.refl
      | ((with_reducible refine lineIssue_frame ?_ ?_); on_goal 2 => rfl)
      | ((with_reducible refine settled_frame ?_ ?_); on_goal 2 => rfl)

theorem execInflightTableAdmit_frame (s : State) : Goes 56441417934970 s (execInflightTableAdmit s) := by
  unfold execInflightTableAdmit
  repeat' first
      | with_reducible refine Goes.mk ?_
      | with_reducible exact Frame.refl
      | ((with_reducible refine admitLine_frame ?_ ?_); on_goal 2 => rfl)
      | ((with_reducible refine settled_frame ?_ ?_); on_goal 2 => rfl)

theorem execLineRspReceive_frame (pipe : Nat) (payload : Bytes) (s : State) : Goes 56441418000506 s (execLineRspReceive pipe payload s) := by
  unfold execLineRspReceive
  repeat' first
      | with_reducible refine Goes.mk ?_
      | with_reducible exact Frame.refl
      | ((with_reducible refine lineRspTake_frame ?_ ?_); on_goal 2 => rfl)
      | ((with_reducible refine settled_frame ?_ ?_); on_goal 2 => rfl)
      | with_reducible refine Frame.ite ?_ ?_

theorem execNodeFetchResponse_frame (payload : Bytes) (s : State) : Goes 56441417934970 s (execNodeFetchResponse payload s) := by
  unfold execNodeFetchResponse
  repeat' first
      | with_reducible refine Goes.mk ?_
      | with_reducible exact Frame.refl
      | ((with_reducible refine nodeRspOp_frame ?_ ?_); on_goal 2 => rfl)
      | ((with_reducible refine settled_frame ?_ ?_); on_goal 2 => rfl)

theorem execNodeWritebackResponse_frame (payload : Bytes) (s : State) : Goes 56441417934970 s (execNodeWritebackResponse payload s) := by
  unfold execNodeWritebackResponse
  repeat' first
      | with_reducible refine Goes.mk ?_
      | with_reducible exact Frame.refl
      | ((with_reducible refine nodeRspOp_frame ?_ ?_); on_goal 2 => rfl)
      | ((with_reducible refine settled_frame ?_ ?_); on_goal 2 => rfl)

theorem execRetire_frame (s : State) : Goes 126810162129402 s (execRetire s) := by
  unfold execRetire
  repeat' first
      | with_reducible refine Goes.mk ?_
      | with_reducible exact Frame.refl
      | ((with_reducible refine kvCommand_frame ?_ ?_); on_goal 2 => rfl)
      | ((with_reducible refine settled_frame ?_ ?_); on_goal 2 => rfl)

theorem execRetireMatch_frame (s : State) : Goes 126810162129402 s (execRetireMatch s) := by
  unfold execRetireMatch
  repeat' first
      | with_reducible refine Goes.mk ?_
      | with_reducible exact Frame.refl
      | ((with_reducible refine kvCommand_frame ?_ ?_); on_goal 2 => rfl)
      | ((with_reducible refine settled_frame ?_ ?_); on_goal 2 => rfl)

theorem execWipeAll_frame (s : State) : Goes 126810162129402 s (execWipeAll s) := by
  unfold execWipeAll
  repeat' first
      | with_reducible refine Goes.mk ?_
      | with_reducible exact Frame.refl
      | ((with_reducible refine kvCommand_frame ?_ ?_); on_goal 2 => rfl)
      | ((with_reducible refine settled_frame ?_ ?_); on_goal 2 => rfl)

theorem execFastDerivationDone_frame (s : State) : Goes 56441417935098 s (execFastDerivationDone s) := by
  unfold execFastDerivationDone
  repeat' first
      | with_reducible refine Goes.mk ?_
      | with_reducible exact Frame.refl
      | ((with_reducible refine derivationDone_frame ?_ ?_); on_goal 2 => rfl)
      | ((with_reducible refine settled_frame ?_ ?_); on_goal 2 => rfl)

theorem execLnRegionErase_frame (index : BitVec 11) (s : State) : Goes 56441418000506 s (execLnRegionErase index s) := by
  unfold execLnRegionErase
  repeat' first
      | with_reducible refine Goes.mk ?_
      | with_reducible exact Frame.refl
      | ((with_reducible refine lnCommand_frame ?_ ?_); on_goal 2 => rfl)
      | ((with_reducible refine settled_frame ?_ ?_); on_goal 2 => rfl)

theorem execLinkFrameReceive_frame (lane : Nat) (vc : BitVec 2) (route : Byte) (frame : LinkFrame) (s : State) : Goes 127497356966142 s (execLinkFrameReceive lane vc route frame s) := by
  unfold execLinkFrameReceive
  repeat' first
      | with_reducible refine Goes.mk ?_
      | with_reducible exact Frame.refl
      | ((with_reducible refine linkReceive_frame ?_ ?_); on_goal 2 => rfl)

theorem execFrameRelease_frame (ctx : Nat) (s : State) : Goes 60840001337466 s (execFrameRelease ctx s) := by
  unfold execFrameRelease
  repeat' first
      | with_reducible refine Goes.mk ?_
      | with_reducible exact Frame.refl
      | ((with_reducible refine frameReleaseOp_frame ?_ ?_); on_goal 2 => rfl)
      | ((with_reducible refine settled_frame ?_ ?_); on_goal 2 => rfl)

theorem execLaneUpFall_frame (lane : Nat) (s : State) : Goes 56441417951358 s (execLaneUpFall lane s) := by
  unfold execLaneUpFall
  repeat' first
      | with_reducible refine Goes.mk ?_
      | with_reducible exact Frame.refl
      | ((with_reducible refine laneFallOp_frame ?_ ?_); on_goal 2 => rfl)
      | ((with_reducible refine settled_frame ?_ ?_); on_goal 2 => rfl)

theorem execTxFrameSeal_frame (ctx : Nat) (mismatch : Bool) (s : State) : Goes 56441686386810 s (execTxFrameSeal ctx mismatch s) := by
  unfold execTxFrameSeal
  repeat' first
      | with_reducible refine Goes.mk ?_
      | with_reducible exact Frame.refl
      | ((with_reducible refine txSealRow_frame ?_ ?_); on_goal 2 => rfl)
      | ((with_reducible refine settled_frame ?_ ?_); on_goal 2 => rfl)

theorem execFrameSent_frame (lane : Nat) (s : State) : Goes 56441417955450 s (execFrameSent lane s) := by
  unfold execFrameSent
  repeat' first
      | with_reducible refine Goes.mk ?_
      | with_reducible exact Frame.refl
      | ((with_reducible refine frameSentRow_frame ?_ ?_); on_goal 2 => rfl)

theorem execTxFailover_frame (pipe : Nat) (s : State) : Goes 56441417951354 s (execTxFailover pipe s) := by
  unfold execTxFailover
  repeat' first
      | with_reducible refine Goes.mk ?_
      | with_reducible exact Frame.refl
      | ((with_reducible refine txFailoverOp_frame ?_ ?_); on_goal 2 => rfl)
      | ((with_reducible refine settled_frame ?_ ?_); on_goal 2 => rfl)

theorem execRxFailover_frame (pipe : Nat) (s : State) : Goes 56441417951354 s (execRxFailover pipe s) := by
  unfold execRxFailover
  repeat' first
      | with_reducible refine Goes.mk ?_
      | with_reducible exact Frame.refl
      | ((with_reducible refine rxFailoverOp_frame ?_ ?_); on_goal 2 => rfl)
      | ((with_reducible refine settled_frame ?_ ?_); on_goal 2 => rfl)

theorem execStreamAbandon_frame (a : Act) (arg : Bytes) (s : State) : Goes 56441417951354 s (execStreamAbandon a arg s) := by
  unfold execStreamAbandon
  repeat' first
      | with_reducible refine Goes.mk ?_
      | with_reducible exact Frame.refl
      | ((with_reducible refine streamAbandonAct_frame ?_ ?_); on_goal 2 => rfl)
      | ((with_reducible refine settled_frame ?_ ?_); on_goal 2 => rfl)

theorem execLsTxBind_frame (index : BitVec 9) (s : State) : Goes 56441417951354 s (execLsTxBind index s) := by
  unfold execLsTxBind
  repeat' first
      | with_reducible refine Goes.mk ?_
      | with_reducible exact Frame.refl
      | ((with_reducible refine lsCommand_frame ?_ ?_); on_goal 2 => rfl)
      | ((with_reducible refine settled_frame ?_ ?_); on_goal 2 => rfl)

theorem execLsRxBind_frame (index : BitVec 9) (s : State) : Goes 56441417951354 s (execLsRxBind index s) := by
  unfold execLsRxBind
  repeat' first
      | with_reducible refine Goes.mk ?_
      | with_reducible exact Frame.refl
      | ((with_reducible refine lsCommand_frame ?_ ?_); on_goal 2 => rfl)
      | ((with_reducible refine settled_frame ?_ ?_); on_goal 2 => rfl)

theorem execLsUnbind_frame (index : BitVec 9) (s : State) : Goes 56441417951354 s (execLsUnbind index s) := by
  unfold execLsUnbind
  repeat' first
      | with_reducible refine Goes.mk ?_
      | with_reducible exact Frame.refl
      | ((with_reducible refine lsCommand_frame ?_ ?_); on_goal 2 => rfl)
      | ((with_reducible refine settled_frame ?_ ?_); on_goal 2 => rfl)

theorem execLsAbandon_frame (index : BitVec 9) (s : State) : Goes 56441417951354 s (execLsAbandon index s) := by
  unfold execLsAbandon
  repeat' first
      | with_reducible refine Goes.mk ?_
      | with_reducible exact Frame.refl
      | ((with_reducible refine lsCommand_frame ?_ ?_); on_goal 2 => rfl)
      | ((with_reducible refine settled_frame ?_ ?_); on_goal 2 => rfl)

theorem execLsArmSwitch_frame (s : State) : Goes 56441417951354 s (execLsArmSwitch s) := by
  unfold execLsArmSwitch
  repeat' first
      | with_reducible refine Goes.mk ?_
      | with_reducible exact Frame.refl
      | ((with_reducible refine lsCommand_frame ?_ ?_); on_goal 2 => rfl)
      | ((with_reducible refine settled_frame ?_ ?_); on_goal 2 => rfl)

theorem execLsQuery_frame (index : BitVec 9) (s : State) : Goes 56441417951354 s (execLsQuery index s) := by
  unfold execLsQuery
  repeat' first
      | with_reducible refine Goes.mk ?_
      | with_reducible exact Frame.refl
      | ((with_reducible refine lsCommand_frame ?_ ?_); on_goal 2 => rfl)
      | ((with_reducible refine settled_frame ?_ ?_); on_goal 2 => rfl)

theorem execLsFailover_frame (s : State) : Goes 56441417951354 s (execLsFailover s) := by
  unfold execLsFailover
  repeat' first
      | with_reducible refine Goes.mk ?_
      | with_reducible exact Frame.refl
      | ((with_reducible refine lsCommand_frame ?_ ?_); on_goal 2 => rfl)
      | ((with_reducible refine settled_frame ?_ ?_); on_goal 2 => rfl)

theorem execMoverSegment_frame (m : Nat) (s : State) : Goes 56441417934970 s (execMoverSegment m s) := by
  unfold execMoverSegment
  repeat' first
      | with_reducible refine Goes.mk ?_
      | with_reducible exact Frame.refl
      | ((with_reducible refine moverSegmentOp_frame ?_ ?_); on_goal 2 => rfl)
      | ((with_reducible refine settled_frame ?_ ?_); on_goal 2 => rfl)

theorem execReductionSlice_frame (u : Nat) (slot : Nat) (lines : List MemLine) (s : State) : Goes 56441417934970 s (execReductionSlice u slot lines s) := by
  unfold execReductionSlice
  repeat' first
      | with_reducible refine Goes.mk ?_
      | with_reducible exact Frame.refl
      | ((with_reducible refine redSliceOp_frame ?_ ?_); on_goal 2 => rfl)
      | ((with_reducible refine settled_frame ?_ ?_); on_goal 2 => rfl)

theorem execHomeReqAccept_frame (ctx : Nat) (s : State) : Goes 56441417934970 s (execHomeReqAccept ctx s) := by
  unfold execHomeReqAccept
  repeat' first
      | with_reducible refine Goes.mk ?_
      | with_reducible exact Frame.refl
      | ((with_reducible refine homeAcceptOp_frame ?_ ?_); on_goal 2 => rfl)
      | ((with_reducible refine settled_frame ?_ ?_); on_goal 2 => rfl)

theorem execAtomicUpdateApply_frame (entry : Nat) (s : State) : Goes 56441434712186 s (execAtomicUpdateApply entry s) := by
  unfold execAtomicUpdateApply
  repeat' first
      | with_reducible refine Goes.mk ?_
      | with_reducible exact Frame.refl
      | ((with_reducible refine atomicApply_frame ?_ ?_); on_goal 2 => rfl)
      | ((with_reducible refine settled_frame ?_ ?_); on_goal 2 => rfl)

theorem execCombiningFillDone_frame (entry : Nat) (status : Status) (data : Bytes) (s : State) : Goes 56441417934970 s (execCombiningFillDone entry status data s) := by
  unfold execCombiningFillDone
  repeat' first
      | with_reducible refine Goes.mk ?_
      | with_reducible exact Frame.refl
      | ((with_reducible refine combFilled_frame ?_ ?_); on_goal 2 => rfl)
      | ((with_reducible refine settled_frame ?_ ?_); on_goal 2 => rfl)

theorem execRspItemReceive_frame (ctx : Nat) (s : State) : Goes 56441417934970 s (execRspItemReceive ctx s) := by
  unfold execRspItemReceive
  repeat' first
      | with_reducible refine Goes.mk ?_
      | with_reducible exact Frame.refl
      | ((with_reducible refine rspReceiveOp_frame ?_ ?_); on_goal 2 => rfl)
      | ((with_reducible refine settled_frame ?_ ?_); on_goal 2 => rfl)

theorem execAuFlushHall_frame (hall : BitVec 12) (s : State) : Goes 56441434712186 s (execAuFlushHall hall s) := by
  unfold execAuFlushHall
  repeat' first
      | with_reducible refine Goes.mk ?_
      | with_reducible exact Frame.refl
      | ((with_reducible refine auCommand_frame ?_ ?_); on_goal 2 => rfl)
      | ((with_reducible refine settled_frame ?_ ?_); on_goal 2 => rfl)

theorem execAuFlushAll_frame (s : State) : Goes 56441434712186 s (execAuFlushAll s) := by
  unfold execAuFlushAll
  repeat' first
      | with_reducible refine Goes.mk ?_
      | with_reducible exact Frame.refl
      | ((with_reducible refine auCommand_frame ?_ ?_); on_goal 2 => rfl)
      | ((with_reducible refine settled_frame ?_ ?_); on_goal 2 => rfl)

theorem execAuInject_frame (s : State) : Goes 56441434712186 s (execAuInject s) := by
  unfold execAuInject
  repeat' first
      | with_reducible refine Goes.mk ?_
      | with_reducible exact Frame.refl
      | ((with_reducible refine auCommand_frame ?_ ?_); on_goal 2 => rfl)
      | ((with_reducible refine settled_frame ?_ ?_); on_goal 2 => rfl)

theorem execAtomic_frame (q : Nat) (s : State) : Goes 56441753479290 s (execAtomic q s) := by
  unfold execAtomic
  repeat' first
      | with_reducible refine Goes.mk ?_
      | with_reducible exact Frame.refl
      | ((with_reducible refine atomicOp_frame ?_ ?_); on_goal 2 => rfl)
      | ((with_reducible refine settled_frame ?_ ?_); on_goal 2 => rfl)

theorem execRetireDrainDone_frame (hall : Nat) (s : State) : Goes 56441954806010 s (execRetireDrainDone hall s) := by
  unfold execRetireDrainDone
  repeat' first
      | with_reducible refine Goes.mk ?_
      | with_reducible exact Frame.refl
      | ((with_reducible refine retireDrainOp_frame ?_ ?_); on_goal 2 => rfl)
      | ((with_reducible refine settled_frame ?_ ?_); on_goal 2 => rfl)

theorem execHallDestroy_frame (a : Act) (arg : Bytes) (s : State) : Goes 56441954806010 s (execHallDestroy a arg s) := by
  unfold execHallDestroy
  repeat' first
      | with_reducible refine Goes.mk ?_
      | with_reducible exact Frame.refl
      | ((with_reducible refine hallDestroyAct_frame ?_ ?_); on_goal 2 => rfl)
      | ((with_reducible refine settled_frame ?_ ?_); on_goal 2 => rfl)

theorem execHallFreeze_frame (a : Act) (arg : Bytes) (s : State) : Goes 56441417934970 s (execHallFreeze a arg s) := by
  unfold execHallFreeze
  repeat' first
      | with_reducible refine Goes.mk ?_
      | with_reducible exact Frame.refl
      | ((with_reducible refine hallFreezeAct_frame ?_ ?_); on_goal 2 => rfl)
      | ((with_reducible refine settled_frame ?_ ?_); on_goal 2 => rfl)

theorem execItuHallDestroy_frame (s : State) : Goes 69638308936442 s (execItuHallDestroy s) := by
  unfold execItuHallDestroy
  repeat' first
      | with_reducible refine Goes.mk ?_
      | with_reducible exact Frame.refl
      | ((with_reducible refine ituCommand_frame ?_ ?_); on_goal 2 => rfl)
      | ((with_reducible refine settled_frame ?_ ?_); on_goal 2 => rfl)

theorem execItuFreeze_frame (s : State) : Goes 69638308936442 s (execItuFreeze s) := by
  unfold execItuFreeze
  repeat' first
      | with_reducible refine Goes.mk ?_
      | with_reducible exact Frame.refl
      | ((with_reducible refine ituCommand_frame ?_ ?_); on_goal 2 => rfl)
      | ((with_reducible refine settled_frame ?_ ?_); on_goal 2 => rfl)

theorem execMemberLost_frame (a : Act) (arg : Bytes) (s : State) : Goes 131758501312634 s (execMemberLost a arg s) := by
  unfold execMemberLost
  repeat' first
      | with_reducible refine Goes.mk ?_
      | with_reducible exact Frame.refl
      | ((with_reducible refine memberLostAct_frame ?_ ?_); on_goal 2 => rfl)
      | ((with_reducible refine settled_frame ?_ ?_); on_goal 2 => rfl)

theorem execEpochPrepare_frame (a : Act) (arg : Bytes) (s : State) : Goes 131758501312634 s (execEpochPrepare a arg s) := by
  unfold execEpochPrepare
  repeat' first
      | with_reducible refine Goes.mk ?_
      | with_reducible exact Frame.refl
      | ((with_reducible refine epochPrepareAct_frame ?_ ?_); on_goal 2 => rfl)
      | ((with_reducible refine settled_frame ?_ ?_); on_goal 2 => rfl)

theorem execQueueT0Finish_frame (q : Nat) (s : State) : Goes 60874361055354 s (execQueueT0Finish q s) := by
  unfold execQueueT0Finish
  repeat' first
      | with_reducible refine Goes.mk ?_
      | with_reducible exact Frame.refl
      | ((with_reducible refine settled_frame ?_ ?_); on_goal 2 => rfl)
      | ((with_reducible refine t0FinishOp_frame ?_ ?_); on_goal 2 => rfl)

theorem execQueueDestroyFinish_frame (q : Nat) (s : State) : Goes 60874428164218 s (execQueueDestroyFinish q s) := by
  unfold execQueueDestroyFinish
  repeat' first
      | with_reducible refine Goes.mk ?_
      | with_reducible exact Frame.refl
      | ((with_reducible refine destroyFinishOp_frame ?_ ?_); on_goal 2 => rfl)
      | ((with_reducible refine settled_frame ?_ ?_); on_goal 2 => rfl)
      | ((with_reducible refine t0Sweep_frame ?_ ?_); on_goal 2 => rfl)

theorem execTreadWindowMiss_frame (tread : Nat) (target : Nat) (s : State) : Goes 131941395332094 s (execTreadWindowMiss tread target s) := by
  unfold execTreadWindowMiss
  repeat' first
      | with_reducible refine Goes.mk ?_
      | with_reducible exact Frame.refl
      | ((with_reducible refine settled_frame ?_ ?_); on_goal 2 => rfl)
      | ((with_reducible refine windowMiss_frame ?_ ?_); on_goal 2 => rfl)

theorem execLandingDrainEnd_frame (tread : Nat) (target : Nat) (s : State) : Goes 131941395332094 s (execLandingDrainEnd tread target s) := by
  unfold execLandingDrainEnd
  repeat' first
      | with_reducible refine Goes.mk ?_
      | with_reducible exact Frame.refl
      | ((with_reducible refine settled_frame ?_ ?_); on_goal 2 => rfl)
      | ((with_reducible refine drainEnd_frame ?_ ?_); on_goal 2 => rfl)

theorem execQueueT0Reset_frame (q : Nat) (s : State) : Goes 131941395332094 s (execQueueT0Reset q s) := by
  unfold execQueueT0Reset
  repeat' first
      | with_reducible exact treadRow_frame ..

theorem execEngineT1Reset_frame (unit : Nat) (s : State) : Goes 131941395332094 s (execEngineT1Reset unit s) := by
  unfold execEngineT1Reset
  repeat' first
      | with_reducible exact treadRow_frame ..

theorem execSliceT2Reset_frame (slice : Nat) (s : State) : Goes 131941395332094 s (execSliceT2Reset slice s) := by
  unfold execSliceT2Reset
  repeat' first
      | with_reducible exact treadRow_frame ..

theorem execBlockT3Reset_frame (s : State) : Goes 131941395332094 s (execBlockT3Reset s) := by
  unfold execBlockT3Reset
  repeat' first
      | with_reducible exact treadRow_frame ..

theorem execHrReset_frame (tread : BitVec 3) (s : State) : Goes 131941395332094 s (execHrReset tread s) := by
  unfold execHrReset
  repeat' first
      | with_reducible refine Goes.mk ?_
      | with_reducible exact Frame.refl
      | ((with_reducible refine settled_frame ?_ ?_); on_goal 2 => rfl)
      | ((with_reducible refine hrCommand_frame ?_ ?_); on_goal 2 => rfl)

theorem execHrQuery_frame (tread : BitVec 3) (s : State) : Goes 131941395332094 s (execHrQuery tread s) := by
  unfold execHrQuery
  repeat' first
      | with_reducible refine Goes.mk ?_
      | with_reducible exact Frame.refl
      | ((with_reducible refine settled_frame ?_ ?_); on_goal 2 => rfl)
      | ((with_reducible refine hrCommand_frame ?_ ?_); on_goal 2 => rfl)

theorem execResetOrder_frame (a : Act) (arg : Bytes) (s : State) : Goes 131941395332094 s (execResetOrder a arg s) := by
  unfold execResetOrder
  repeat' first
      | with_reducible refine Goes.mk ?_
      | with_reducible exact Frame.refl
      | ((with_reducible refine settled_frame ?_ ?_); on_goal 2 => rfl)
      | ((with_reducible refine resetOrderAct_frame ?_ ?_); on_goal 2 => rfl)

theorem execHangWindowBoundary_frame (s : State) : Goes 131941395332094 s (execHangWindowBoundary s) := by
  unfold execHangWindowBoundary
  repeat' first
      | with_reducible refine Goes.mk ?_
      | with_reducible exact Frame.refl
      | ((with_reducible refine settled_frame ?_ ?_); on_goal 2 => rfl)
      | ((with_reducible refine boundaryOp_frame ?_ ?_); on_goal 2 => rfl)

theorem execFaultMessageAccept_frame (source : Nat) (tdelta : BitVec 16) (s : State) : Goes 131941395332094 s (execFaultMessageAccept source tdelta s) := by
  unfold execFaultMessageAccept
  repeat' first
      | with_reducible refine Goes.mk ?_
      | with_reducible exact Frame.refl
      | ((with_reducible refine settled_frame ?_ ?_); on_goal 2 => rfl)
      | ((with_reducible refine faultAccept_frame ?_ ?_); on_goal 2 => rfl)

theorem execAutoT3Request_frame (s : State) : Goes 131941395332094 s (execAutoT3Request s) := by
  unfold execAutoT3Request
  repeat' first
      | with_reducible refine Goes.mk ?_
      | with_reducible exact Frame.refl
      | ((with_reducible refine settled_frame ?_ ?_); on_goal 2 => rfl)
      | ((with_reducible refine autoT3Op_frame ?_ ?_); on_goal 2 => rfl)

theorem execFcuInjArm_frame (source : BitVec 12) (kind : Byte) (s : State) : Goes 81604378624 s (execFcuInjArm source kind s) := by
  unfold execFcuInjArm
  repeat' first
      | with_reducible refine Goes.mk ?_
      | with_reducible exact Frame.refl
      | ((with_reducible refine injArm_frame ?_ ?_); on_goal 2 => rfl)

theorem execFaultInject_frame (a : Act) (arg : Bytes) (s : State) : Goes 2280627634176 s (execFaultInject a arg s) := by
  unfold execFaultInject
  repeat' first
      | with_reducible refine Goes.mk ?_
      | with_reducible exact Frame.refl
      | ((with_reducible refine faultInjectAct_frame ?_ ?_); on_goal 2 => rfl)

theorem execRcRegisterRead_frame (bus : Bus) (addr : Nat) (s : State) : Goes 53670313984006 s (execRcRegisterRead bus addr s) := by
  unfold execRcRegisterRead
  repeat' first
      | with_reducible refine Goes.mk ?_
      | with_reducible exact Frame.refl
      | ((with_reducible refine busInput_frame ?_ ?_); on_goal 2 => rfl)
      | ((with_reducible refine readRow_frame ?_ ?_); on_goal 2 => rfl)
      | with_reducible refine Frame.ite ?_ ?_

theorem execLowWordReadLatch_frame (bus : Bus) (addr : Nat) (s : State) : Goes 53670313984006 s (execLowWordReadLatch bus addr s) := by
  unfold execLowWordReadLatch
  repeat' first
      | with_reducible refine Goes.mk ?_
      | with_reducible exact Frame.refl
      | ((with_reducible refine busInput_frame ?_ ?_); on_goal 2 => rfl)
      | ((with_reducible refine readRow_frame ?_ ?_); on_goal 2 => rfl)
      | with_reducible refine Frame.ite ?_ ?_

theorem execCclkMultWrite_frame (mult : BitVec 5) (s : State) : Goes 824633720832 s (execCclkMultWrite mult s) := by
  unfold execCclkMultWrite
  repeat' first
      | with_reducible refine Goes.mk ?_
      | with_reducible exact Frame.refl
      | ((with_reducible refine cclkMultOp_frame ?_ ?_); on_goal 2 => rfl)

theorem execPllRelockDone_frame (s : State) : Goes 824633720832 s (execPllRelockDone s) := by
  unfold execPllRelockDone
  repeat' first
      | with_reducible refine Goes.mk ?_
      | with_reducible exact Frame.refl
      | ((with_reducible refine pllLocked_frame ?_ ?_); on_goal 2 => rfl)

theorem execRegisterWrite_frame (bus : Bus) (addr : Nat) (value : Word) (s : State) : Goes 140737488354302 s (execRegisterWrite bus addr value s) := by
  unfold execRegisterWrite
  repeat' first
      | with_reducible refine Goes.mk ?_
      | with_reducible exact Frame.refl
      | ((with_reducible refine busInput_frame ?_ ?_); on_goal 2 => rfl)
      | ((with_reducible refine settled_frame ?_ ?_); on_goal 2 => rfl)
      | ((with_reducible refine busWrite_frame ?_ ?_); on_goal 2 => rfl)
      | with_reducible refine Frame.ite ?_ ?_

theorem execLowWordWriteHold_frame (bus : Bus) (addr : Nat) (value : Word) (s : State) : Goes 893353197574 s (execLowWordWriteHold bus addr value s) := by
  unfold execLowWordWriteHold
  repeat' first
      | with_reducible refine Goes.mk ?_
      | with_reducible exact Frame.refl
      | ((with_reducible refine busInput_frame ?_ ?_); on_goal 2 => rfl)
      | ((with_reducible refine lowWordHold_frame ?_ ?_); on_goal 2 => rfl)
      | with_reducible refine Frame.ite ?_ ?_

theorem execPowerStateEntry_frame (s : State) : Goes 57025533487230 s (execPowerStateEntry s) := by
  unfold execPowerStateEntry
  repeat' first
      | with_reducible refine Goes.mk ?_
      | with_reducible exact Frame.refl
      | ((with_reducible refine settled_frame ?_ ?_); on_goal 2 => rfl)
      | ((with_reducible refine stateEntry_frame ?_ ?_); on_goal 2 => rfl)

theorem execFpWake_frame (s : State) : Goes 893353197574 s (execFpWake s) := by
  unfold execFpWake
  repeat' first
      | with_reducible refine Goes.mk ?_
      | with_reducible exact Frame.refl
      | ((with_reducible refine wakeOp_frame ?_ ?_); on_goal 2 => rfl)

theorem execFpPackFall_frame (s : State) : Goes 893353197574 s (execFpPackFall s) := by
  unfold execFpPackFall
  repeat' first
      | with_reducible refine Goes.mk ?_
      | with_reducible exact Frame.refl
      | ((with_reducible refine packFall_frame ?_ ?_); on_goal 2 => rfl)

theorem execClockLoss_frame (pll : Bool) (clock : ClockDomain) (s : State) : Goes 897648164864 s (execClockLoss pll clock s) := by
  unfold execClockLoss
  repeat' first
      | with_reducible refine Goes.mk ?_
      | with_reducible exact Frame.refl
      | ((with_reducible refine clockLossOp_frame ?_ ?_); on_goal 2 => rfl)

theorem execWake_frame (a : Act) (s : State) : Goes 3023656976384 s (execWake a s) := by
  unfold execWake
  repeat' first
      | with_reducible refine Goes.mk ?_
      | with_reducible exact Frame.refl
      | ((with_reducible refine wakeAct_frame ?_ ?_); on_goal 2 => rfl)

theorem execShutdown_frame (a : Act) (arg : Bytes) (s : State) : Goes 56441417934970 s (execShutdown a arg s) := by
  unfold execShutdown
  repeat' first
      | with_reducible refine Goes.mk ?_
      | with_reducible exact Frame.refl
      | ((with_reducible refine shutdownAct_frame ?_ ?_); on_goal 2 => rfl)
      | ((with_reducible refine settled_frame ?_ ?_); on_goal 2 => rfl)

theorem execPowerOnReset_frame (level : Bool) (s : State) : Goes 95657511616510 s (execPowerOnReset level s) := by
  unfold execPowerOnReset
  repeat' first
      | with_reducible refine Goes.mk ?_
      | with_reducible exact Frame.refl
      | ((with_reducible refine porOp_frame ?_ ?_); on_goal 2 => rfl)

theorem execOtpProgramDone_frame (s : State) : Goes 131941395333118 s (execOtpProgramDone s) := by
  unfold execOtpProgramDone
  repeat' first
      | with_reducible refine Goes.mk ?_
      | with_reducible exact Frame.refl
      | ((with_reducible refine settled_frame ?_ ?_); on_goal 2 => rfl)
      | ((with_reducible refine otpDone_frame ?_ ?_); on_goal 2 => rfl)

theorem execMaskRomBoot_frame (s : State) : Goes 140600027048958 s (execMaskRomBoot s) := by
  unfold execMaskRomBoot
  repeat' first
      | with_reducible refine Goes.mk ?_
      | with_reducible exact Frame.refl
      | ((with_reducible refine settled_frame ?_ ?_); on_goal 2 => rfl)
      | ((with_reducible refine romBoot_frame ?_ ?_); on_goal 2 => rfl)

theorem execRecoveryWrite_frame (a : Act) (arg : Bytes) (s : State) : Goes 4123168604160 s (execRecoveryWrite a arg s) := by
  unfold execRecoveryWrite
  repeat' first
      | with_reducible refine Goes.mk ?_
      | with_reducible exact Frame.refl
      | ((with_reducible refine recoveryWriteAct_frame ?_ ?_); on_goal 2 => rfl)

theorem execRecoveryCommit_frame (a : Act) (s : State) : Goes 131941395332094 s (execRecoveryCommit a s) := by
  unfold execRecoveryCommit
  repeat' first
      | with_reducible refine Goes.mk ?_
      | with_reducible exact Frame.refl
      | ((with_reducible refine settled_frame ?_ ?_); on_goal 2 => rfl)
      | ((with_reducible refine recoveryCommitAct_frame ?_ ?_); on_goal 2 => rfl)

theorem execFactoryCertWrite_frame (a : Act) (arg : Bytes) (s : State) : Goes 3573412790272 s (execFactoryCertWrite a arg s) := by
  unfold execFactoryCertWrite
  repeat' first
      | with_reducible refine Goes.mk ?_
      | with_reducible exact Frame.refl
      | ((with_reducible refine factoryCertAct_frame ?_ ?_); on_goal 2 => rfl)

theorem execIdeKmQuery_frame (sid : Nat) (s : State) : Goes 105553116268608 s (execIdeKmQuery sid s) := by
  unfold execIdeKmQuery
  repeat' first
      | with_reducible refine Goes.mk ?_
      | with_reducible exact Frame.refl
      | ((with_reducible refine kmRow_frame (fun s => ?_) ?_ ?_); on_goal 3 => rfl)

theorem execKeyProg_frame (sid : Nat) (stream : Nat) (sub' : Nat) (tx : Bool) (ks : Nat) (key : BitVec 256) (s : State) : Goes 126810698983546 s (execKeyProg sid stream sub' tx ks key s) := by
  unfold execKeyProg
  repeat' first
      | with_reducible refine Goes.mk ?_
      | with_reducible exact Frame.refl
      | ((with_reducible refine settled_frame ?_ ?_); on_goal 2 => rfl)
      | ((with_reducible refine kmProg_frame ?_ ?_); on_goal 2 => rfl)
      | ((with_reducible refine kmRow_frame (fun s => ?_) ?_ ?_); on_goal 3 => rfl)

theorem execKSetGo_frame (sid : Nat) (stream : Nat) (sub' : Nat) (tx : Bool) (ks : Nat) (s : State) : Goes 125432005929082 s (execKSetGo sid stream sub' tx ks s) := by
  unfold execKSetGo
  repeat' first
      | with_reducible refine Goes.mk ?_
      | with_reducible exact Frame.refl
      | ((with_reducible refine kmGo_frame ?_ ?_); on_goal 2 => rfl)
      | ((with_reducible refine kmRow_frame (fun s => ?_) ?_ ?_); on_goal 3 => rfl)

theorem execKSetStop_frame (sid : Nat) (stream : Nat) (sub' : Nat) (tx : Bool) (ks : Nat) (s : State) : Goes 126810698983546 s (execKSetStop sid stream sub' tx ks s) := by
  unfold execKSetStop
  repeat' first
      | with_reducible refine Goes.mk ?_
      | with_reducible exact Frame.refl
      | ((with_reducible refine settled_frame ?_ ?_); on_goal 2 => rfl)
      | ((with_reducible refine kmStop_frame ?_ ?_); on_goal 2 => rfl)
      | ((with_reducible refine kmRow_frame (fun s => ?_) ?_ ?_); on_goal 3 => rfl)

theorem execGetTdispVersion_frame (hall : Nat) (s : State) : Goes 35184372088832 s (execGetTdispVersion hall s) := by
  unfold execGetTdispVersion
  repeat' first
      | with_reducible refine Goes.mk ?_
      | with_reducible exact Frame.refl
      | ((with_reducible refine tdRequest_frame (fun s => ?_) ?_ ?_); on_goal 3 => rfl)
      | ((with_reducible refine tdVersion_frame ?_ ?_); on_goal 2 => rfl)
      | ((with_reducible refine tdSend_frame ?_ ?_); on_goal 2 => rfl)

theorem execGetTdispCapabilities_frame (hall : Nat) (s : State) : Goes 35184372088832 s (execGetTdispCapabilities hall s) := by
  unfold execGetTdispCapabilities
  repeat' first
      | with_reducible refine Goes.mk ?_
      | with_reducible exact Frame.refl
      | ((with_reducible refine tdRequest_frame (fun s => ?_) ?_ ?_); on_goal 3 => rfl)
      | ((with_reducible refine tdCapabilities_frame ?_ ?_); on_goal 2 => rfl)
      | ((with_reducible refine tdSend_frame ?_ ?_); on_goal 2 => rfl)

theorem execLockInterfaceRequest_frame (hall : Nat) (stream : Nat) (s : State) : Goes 43981538852864 s (execLockInterfaceRequest hall stream s) := by
  unfold execLockInterfaceRequest
  repeat' first
      | with_reducible refine Goes.mk ?_
      | with_reducible exact Frame.refl
      | ((with_reducible refine tdRequest_frame (fun s => ?_) ?_ ?_); on_goal 3 => rfl)
      | ((with_reducible refine tdLock_frame ?_ ?_); on_goal 2 => rfl)
      | ((with_reducible refine tdSend_frame ?_ ?_); on_goal 2 => rfl)

theorem execGetDeviceInterfaceReport_frame (hall : Nat) (s : State) : Goes 35184372088832 s (execGetDeviceInterfaceReport hall s) := by
  unfold execGetDeviceInterfaceReport
  repeat' first
      | with_reducible refine Goes.mk ?_
      | with_reducible exact Frame.refl
      | ((with_reducible refine tdRequest_frame (fun s => ?_) ?_ ?_); on_goal 3 => rfl)
      | ((with_reducible refine tdReport_frame ?_ ?_); on_goal 2 => rfl)
      | ((with_reducible refine tdSend_frame ?_ ?_); on_goal 2 => rfl)

theorem execGetDeviceInterfaceState_frame (hall : Nat) (s : State) : Goes 35184372088832 s (execGetDeviceInterfaceState hall s) := by
  unfold execGetDeviceInterfaceState
  repeat' first
      | with_reducible refine Goes.mk ?_
      | with_reducible exact Frame.refl
      | ((with_reducible refine tdRequest_frame (fun s => ?_) ?_ ?_); on_goal 3 => rfl)
      | ((with_reducible refine tdState_frame ?_ ?_); on_goal 2 => rfl)
      | ((with_reducible refine tdSend_frame ?_ ?_); on_goal 2 => rfl)

theorem execStartInterfaceRequest_frame (hall : Nat) (nonce : BitVec 256) (s : State) : Goes 35185445830656 s (execStartInterfaceRequest hall nonce s) := by
  unfold execStartInterfaceRequest
  repeat' first
      | with_reducible refine Goes.mk ?_
      | with_reducible exact Frame.refl
      | ((with_reducible refine tdRequest_frame (fun s => ?_) ?_ ?_); on_goal 3 => rfl)
      | ((with_reducible refine tdStart_frame ?_ ?_); on_goal 2 => rfl)
      | ((with_reducible refine tdSend_frame ?_ ?_); on_goal 2 => rfl)

theorem execStopInterfaceRequest_frame (hall : Nat) (s : State) : Goes 56441954805882 s (execStopInterfaceRequest hall s) := by
  unfold execStopInterfaceRequest
  repeat' first
      | with_reducible refine Goes.mk ?_
      | with_reducible exact Frame.refl
      | ((with_reducible refine settled_frame ?_ ?_); on_goal 2 => rfl)
      | ((with_reducible refine tdRequest_frame (fun s => ?_) ?_ ?_); on_goal 3 => rfl)
      | ((with_reducible refine tdStop_frame ?_ ?_); on_goal 2 => rfl)
      | ((with_reducible refine tdSend_frame ?_ ?_); on_goal 2 => rfl)

theorem execStopInterfaceAnswer_frame (hall : Nat) (s : State) : Goes 105554190010368 s (execStopInterfaceAnswer hall s) := by
  unfold execStopInterfaceAnswer
  repeat' first
      | with_reducible refine Goes.mk ?_
      | with_reducible exact Frame.refl
      | ((with_reducible refine stopAnswer_frame ?_ ?_); on_goal 2 => rfl)

theorem execHpTlpReceive_frame (tlp : Tlp) (s : State) : Goes 140737488354302 s (execHpTlpReceive tlp s) := by
  unfold execHpTlpReceive
  repeat' first
      | with_reducible refine Goes.mk ?_
      | with_reducible exact Frame.refl
      | ((with_reducible refine settled_frame ?_ ?_); on_goal 2 => rfl)
      | ((with_reducible refine tlpReceive_frame ?_ ?_); on_goal 2 => rfl)

theorem execKeyQuery_frame (a : Act) (arg : Bytes) (s : State) : Goes 2199023255552 s (execKeyQuery a arg s) := by
  unfold execKeyQuery
  repeat' first
      | with_reducible refine Goes.mk ?_
      | with_reducible exact Frame.refl
      | ((with_reducible refine keyQueryAct_frame ?_ ?_); on_goal 2 => rfl)

theorem execHallQuery_frame (a : Act) (arg : Bytes) (s : State) : Goes 2199023255552 s (execHallQuery a arg s) := by
  unfold execHallQuery
  repeat' first
      | with_reducible refine Goes.mk ?_
      | with_reducible exact Frame.refl
      | ((with_reducible refine hallQueryAct_frame ?_ ?_); on_goal 2 => rfl)

theorem execLogRead_frame (a : Act) (arg : Bytes) (s : State) : Goes 2199023255552 s (execLogRead a arg s) := by
  unfold execLogRead
  repeat' first
      | with_reducible refine Goes.mk ?_
      | with_reducible exact Frame.refl
      | ((with_reducible refine logReadAct_frame ?_ ?_); on_goal 2 => rfl)

theorem execCounterRead_frame (a : Act) (arg : Bytes) (s : State) : Goes 2199023255552 s (execCounterRead a arg s) := by
  unfold execCounterRead
  repeat' first
      | with_reducible refine Goes.mk ?_
      | with_reducible exact Frame.refl
      | ((with_reducible refine counterReadAct_frame ?_ ?_); on_goal 2 => rfl)

theorem execHallCounters_frame (a : Act) (arg : Bytes) (s : State) : Goes 2199023255552 s (execHallCounters a arg s) := by
  unfold execHallCounters
  repeat' first
      | with_reducible refine Goes.mk ?_
      | with_reducible exact Frame.refl
      | ((with_reducible refine hallCountersAct_frame ?_ ?_); on_goal 2 => rfl)

theorem execStreamQuery_frame (a : Act) (arg : Bytes) (s : State) : Goes 2199023280128 s (execStreamQuery a arg s) := by
  unfold execStreamQuery
  repeat' first
      | with_reducible refine Goes.mk ?_
      | with_reducible exact Frame.refl
      | ((with_reducible refine streamQueryAct_frame ?_ ?_); on_goal 2 => rfl)

theorem execRegionQuery_frame (a : Act) (arg : Bytes) (s : State) : Goes 2199023255552 s (execRegionQuery a arg s) := by
  unfold execRegionQuery
  repeat' first
      | with_reducible refine Goes.mk ?_
      | with_reducible exact Frame.refl
      | ((with_reducible refine regionQueryAct_frame ?_ ?_); on_goal 2 => rfl)

theorem execRegionInstall_frame (a : Act) (arg : Bytes) (s : State) : Goes 2200105885760 s (execRegionInstall a arg s) := by
  unfold execRegionInstall
  repeat' first
      | with_reducible refine Goes.mk ?_
      | with_reducible exact Frame.refl
      | ((with_reducible refine regionInstallAct_frame ?_ ?_); on_goal 2 => rfl)

theorem execRegionSeal_frame (a : Act) (arg : Bytes) (s : State) : Goes 2200105885760 s (execRegionSeal a arg s) := by
  unfold execRegionSeal
  repeat' first
      | with_reducible refine Goes.mk ?_
      | with_reducible exact Frame.refl
      | ((with_reducible refine regionSealAct_frame ?_ ?_); on_goal 2 => rfl)

theorem execRegionErase_frame (a : Act) (arg : Bytes) (s : State) : Goes 2200105885760 s (execRegionErase a arg s) := by
  unfold execRegionErase
  repeat' first
      | with_reducible refine Goes.mk ?_
      | with_reducible exact Frame.refl
      | ((with_reducible refine regionEraseAct_frame ?_ ?_); on_goal 2 => rfl)

theorem execRegionFree_frame (a : Act) (arg : Bytes) (s : State) : Goes 2200105885760 s (execRegionFree a arg s) := by
  unfold execRegionFree
  repeat' first
      | with_reducible refine Goes.mk ?_
      | with_reducible exact Frame.refl
      | ((with_reducible refine regionFreeAct_frame ?_ ?_); on_goal 2 => rfl)

theorem execSessionEnd_frame (sess : Nat) (s : State) : Goes 76965813950528 s (execSessionEnd sess s) := by
  unfold execSessionEnd
  repeat' first
      | with_reducible refine Goes.mk ?_
      | with_reducible exact Frame.refl
      | ((with_reducible refine endSession_frame ?_ ?_); on_goal 2 => rfl)

theorem execDtlsClientHello_frame (h : Hello) (s : State) : Goes 59373627899904 s (execDtlsClientHello h s) := by
  unfold execDtlsClientHello
  repeat' first
      | with_reducible refine Goes.mk ?_
      | with_reducible exact Frame.refl
      | ((with_reducible refine clientHello_frame ?_ ?_); on_goal 2 => rfl)

theorem execDtlsHandshakeFinished_frame (sess : Nat) (chain : CertChain) (good : Bool) (s : State) : Goes 112150186039360 s (execDtlsHandshakeFinished sess chain good s) := by
  unfold execDtlsHandshakeFinished
  repeat' first
      | with_reducible refine Goes.mk ?_
      | with_reducible exact Frame.refl
      | ((with_reducible refine handshakeFinished_frame ?_ ?_); on_goal 2 => rfl)

theorem execKeyUpdate_frame (sess : Nat) (s : State) : Goes 41781441855488 s (execKeyUpdate sess s) := by
  unfold execKeyUpdate
  repeat' first
      | with_reducible refine Goes.mk ?_
      | with_reducible exact Frame.refl
      | ((with_reducible refine State.mgtCount_frame ?_ ?_); on_goal 2 => rfl)
      | ((with_reducible refine updSess_frame ?_ ?_); on_goal 2 => rfl)
      | ((with_reducible refine recordSent_frame ?_ ?_); on_goal 2 => rfl)
      | ((with_reducible refine Frame.emit ?_ ?_); on_goal 2 => rfl)
      | with_reducible refine Frame.ite ?_ ?_

theorem execFpPackRise_frame (s : State) : Goes 140737488354302 s (execFpPackRise s) := by
  unfold execFpPackRise
  repeat' first
      | with_reducible refine Goes.mk ?_
      | with_reducible exact Frame.refl
      | ((with_reducible refine settled_frame ?_ ?_); on_goal 2 => rfl)
      | ((with_reducible refine packRise_frame ?_ ?_); on_goal 2 => rfl)
      | ((with_reducible refine runDeferred_frame ?_ ?_); on_goal 2 => rfl)

theorem execActionWaitResponse_frame (sess : Nat) (tag : Word) (s : State) : Goes 41781441855488 s (execActionWaitResponse sess tag s) := by
  unfold execActionWaitResponse
  repeat' first
      | with_reducible refine Goes.mk ?_
      | with_reducible exact Frame.refl
      | ((with_reducible refine waitResponse_frame ?_ ?_); on_goal 2 => rfl)

theorem execSubscriptionNotify_frame (sess : Nat) (tag : Word) (s : State) : Goes 41781441855488 s (execSubscriptionNotify sess tag s) := by
  unfold execSubscriptionNotify
  repeat' first
      | with_reducible refine Goes.mk ?_
      | with_reducible exact Frame.refl
      | ((with_reducible refine notify_frame ?_ ?_); on_goal 2 => rfl)

theorem execCallSheetGet_frame (sess : Nat) (msg : Bytes) (s : State) : Goes 60839464446074 s (execCallSheetGet sess msg s) := by
  unfold execCallSheetGet
  repeat' first
      | with_reducible refine Goes.mk ?_
      | with_reducible exact Frame.refl
      | ((with_reducible refine settled_frame ?_ ?_); on_goal 2 => rfl)
      | ((with_reducible refine sheetGet_frame ?_ ?_); on_goal 2 => rfl)
      | ((with_reducible refine sheetServe_frame (fun _ s => ?_) ?_ ?_); on_goal 3 => rfl)
      | ((with_reducible refine quietWork_frame (fun _ s => ?_) ?_ ?_); on_goal 3 => rfl)

theorem execCallSheetSet_frame (sess : Nat) (msg : Bytes) (s : State) : Goes 61423579998330 s (execCallSheetSet sess msg s) := by
  unfold execCallSheetSet
  repeat' first
      | with_reducible refine Goes.mk ?_
      | with_reducible exact Frame.refl
      | ((with_reducible refine settled_frame ?_ ?_); on_goal 2 => rfl)
      | ((with_reducible refine sheetSet_frame ?_ ?_); on_goal 2 => rfl)
      | ((with_reducible refine sheetServe_frame (fun _ s => ?_) ?_ ?_); on_goal 3 => rfl)
      | ((with_reducible refine quietWork_frame (fun _ s => ?_) ?_ ?_); on_goal 3 => rfl)

theorem execCallSheetGetMulti_frame (sess : Nat) (msg : Bytes) (s : State) : Goes 60839464446074 s (execCallSheetGetMulti sess msg s) := by
  unfold execCallSheetGetMulti
  repeat' first
      | with_reducible refine Goes.mk ?_
      | with_reducible exact Frame.refl
      | ((with_reducible refine settled_frame ?_ ?_); on_goal 2 => rfl)
      | ((with_reducible refine sheetGetMulti_frame ?_ ?_); on_goal 2 => rfl)
      | ((with_reducible refine sheetServe_frame (fun _ s => ?_) ?_ ?_); on_goal 3 => rfl)
      | ((with_reducible refine quietWork_frame (fun _ s => ?_) ?_ ?_); on_goal 3 => rfl)

theorem execCallSheetAction_frame (sess : Nat) (msg : Bytes) (s : State) : Goes 140737488354302 s (execCallSheetAction sess msg s) := by
  unfold execCallSheetAction
  repeat' first
      | with_reducible refine Goes.mk ?_
      | with_reducible exact Frame.refl
      | ((with_reducible refine settled_frame ?_ ?_); on_goal 2 => rfl)
      | ((with_reducible refine sheetAction_frame ?_ ?_); on_goal 2 => rfl)
      | ((with_reducible refine sheetServe_frame (fun _ s => ?_) ?_ ?_); on_goal 3 => rfl)

theorem execCallSheetSubscribe_frame (sess : Nat) (msg : Bytes) (s : State) : Goes 60839464446074 s (execCallSheetSubscribe sess msg s) := by
  unfold execCallSheetSubscribe
  repeat' first
      | with_reducible refine Goes.mk ?_
      | with_reducible exact Frame.refl
      | ((with_reducible refine settled_frame ?_ ?_); on_goal 2 => rfl)
      | ((with_reducible refine sheetSubscribe_frame ?_ ?_); on_goal 2 => rfl)
      | ((with_reducible refine sheetServe_frame (fun _ s => ?_) ?_ ?_); on_goal 3 => rfl)
      | ((with_reducible refine quietWork_frame (fun _ s => ?_) ?_ ?_); on_goal 3 => rfl)

theorem execClaimListenEnd_frame (s : State) : Goes 6597069766656 s (execClaimListenEnd s) := by
  unfold execClaimListenEnd
  repeat' first
      | with_reducible refine Goes.mk ?_
      | with_reducible exact Frame.refl
      | ((with_reducible refine claimChoose_frame ?_ ?_); on_goal 2 => rfl)
      | with_reducible refine Frame.ite ?_ ?_

theorem execClaimSend_frame (s : State) : Goes 41781441855488 s (execClaimSend s) := by
  unfold execClaimSend
  repeat' first
      | with_reducible refine Goes.mk ?_
      | with_reducible exact Frame.refl
      | ((with_reducible refine claimSendOp_frame ?_ ?_); on_goal 2 => rfl)

theorem execClaimWindowEnd_frame (s : State) : Goes 41781441855488 s (execClaimWindowEnd s) := by
  unfold execClaimWindowEnd
  repeat' first
      | with_reducible refine Goes.mk ?_
      | with_reducible exact Frame.refl
      | ((with_reducible refine claimWindowOp_frame ?_ ?_); on_goal 2 => rfl)

theorem execAnnounceSend_frame (s : State) : Goes 41781441855488 s (execAnnounceSend s) := by
  unfold execAnnounceSend
  repeat' first
      | with_reducible refine Goes.mk ?_
      | with_reducible exact Frame.refl
      | ((with_reducible refine segmentSend_frame ?_ ?_); on_goal 2 => rfl)
      | with_reducible refine Frame.ite ?_ ?_

theorem execNoNodeRetry_frame (s : State) : Goes 6597069766656 s (execNoNodeRetry s) := by
  unfold execNoNodeRetry
  repeat' first
      | with_reducible refine Goes.mk ?_
      | with_reducible exact Frame.refl
      | ((with_reducible refine listenAgain_frame ?_ ?_); on_goal 2 => rfl)
      | with_reducible refine Frame.ite ?_ ?_

theorem execAnnounceReceive_frame (m : Bytes) (s : State) : Goes 112150186039360 s (execAnnounceReceive m s) := by
  unfold execAnnounceReceive
  repeat' first
      | with_reducible refine Goes.mk ?_
      | with_reducible exact Frame.refl
      | ((with_reducible refine segmentRow_frame ?_ ?_); on_goal 2 => rfl)

theorem execClaimReceive_frame (m : Bytes) (s : State) : Goes 112150186039360 s (execClaimReceive m s) := by
  unfold execClaimReceive
  repeat' first
      | with_reducible refine Goes.mk ?_
      | with_reducible exact Frame.refl
      | ((with_reducible refine segmentRow_frame ?_ ?_); on_goal 2 => rfl)

theorem execDefendReceive_frame (m : Bytes) (s : State) : Goes 112150186039360 s (execDefendReceive m s) := by
  unfold execDefendReceive
  repeat' first
      | with_reducible refine Goes.mk ?_
      | with_reducible exact Frame.refl
      | ((with_reducible refine segmentRow_frame ?_ ?_); on_goal 2 => rfl)

theorem execMgtFrameReceive_frame (f : MgtFrame) (s : State) : Goes 112150186039360 s (execMgtFrameReceive f s) := by
  unfold execMgtFrameReceive
  repeat' first
      | with_reducible refine Goes.mk ?_
      | with_reducible exact Frame.refl
      | ((with_reducible refine mgtFrame_frame ?_ ?_); on_goal 2 => rfl)

theorem execPlcaBeaconLoss_frame (s : State) : Goes 6597069766656 s (execPlcaBeaconLoss s) := by
  unfold execPlcaBeaconLoss
  repeat' first
      | with_reducible refine Goes.mk ?_
      | with_reducible exact Frame.refl
      | ((with_reducible refine State.mgtEvent_frame ?_ ?_); on_goal 2 => rfl)
      | ((with_reducible refine Frame.updMgt ?_ ?_); on_goal 2 => rfl)

theorem execPlcaBeaconSeen_frame (s : State) : Goes 6597069766656 s (execPlcaBeaconSeen s) := by
  unfold execPlcaBeaconSeen
  repeat' first
      | with_reducible refine Goes.mk ?_
      | with_reducible exact Frame.refl
      | ((with_reducible refine Frame.updMgt ?_ ?_); on_goal 2 => rfl)

theorem execNeighborSolicitation_frame (target : Bytes) (s : State) : Goes 41781441855488 s (execNeighborSolicitation target s) := by
  unfold execNeighborSolicitation
  repeat' first
      | with_reducible refine Goes.mk ?_
      | with_reducible exact Frame.refl
      | ((with_reducible refine neighborOp_frame ?_ ?_); on_goal 2 => rfl)

theorem execEchoRequest_frame (payload : Bytes) (s : State) : Goes 41781441855488 s (execEchoRequest payload s) := by
  unfold execEchoRequest
  repeat' first
      | with_reducible refine Goes.mk ?_
      | with_reducible exact Frame.refl
      | ((with_reducible refine echoOp_frame ?_ ?_); on_goal 2 => rfl)

end Sys2Proof.Machine
end

