-- ==== Sys2Proof/Laws/State.lean ====
section
/-! SUPPORT. What each update function of the state does to each field. -/

namespace Sys2Proof.Machine.State

-- One declaration at a time, so that the elaborator holds few threads (each takes stack of its own).
set_option Elab.async false

@[simp] theorem updPins_pending (f : Pins → Pins) (s : State) : (s.updPins f).pending = s.pending := rfl
@[simp] theorem updPins_conf (f : Pins → Pins) (s : State) : (s.updPins f).conf = s.conf := rfl
@[simp] theorem updPins_pins (f : Pins → Pins) (s : State) : (s.updPins f).pins = f s.pins := rfl
@[simp] theorem updPins_mp (f : Pins → Pins) (s : State) : (s.updPins f).mp = s.mp := rfl
@[simp] theorem updPins_mpNext (f : Pins → Pins) (s : State) : (s.updPins f).mpNext = s.mpNext := rfl
@[simp] theorem updPins_hostReads (f : Pins → Pins) (s : State) : (s.updPins f).hostReads = s.hostReads := rfl
@[simp] theorem updPins_kv (f : Pins → Pins) (s : State) : (s.updPins f).kv = s.kv := rfl
@[simp] theorem updPins_lc (f : Pins → Pins) (s : State) : (s.updPins f).lc = s.lc := rfl
@[simp] theorem updPins_att (f : Pins → Pins) (s : State) : (s.updPins f).att = s.att := rfl
@[simp] theorem updPins_dom (f : Pins → Pins) (s : State) : (s.updPins f).dom = s.dom := rfl
@[simp] theorem updPins_ls (f : Pins → Pins) (s : State) : (s.updPins f).ls = s.ls := rfl
@[simp] theorem updPins_ln (f : Pins → Pins) (s : State) : (s.updPins f).ln = s.ln := rfl
@[simp] theorem updPins_tr (f : Pins → Pins) (s : State) : (s.updPins f).tr = s.tr := rfl
@[simp] theorem updPins_mv (f : Pins → Pins) (s : State) : (s.updPins f).mv = s.mv := rfl
@[simp] theorem updPins_rd (f : Pins → Pins) (s : State) : (s.updPins f).rd = s.rd := rfl
@[simp] theorem updPins_au (f : Pins → Pins) (s : State) : (s.updPins f).au = s.au := rfl
@[simp] theorem updPins_fe (f : Pins → Pins) (s : State) : (s.updPins f).fe = s.fe := rfl
@[simp] theorem updPins_adm (f : Pins → Pins) (s : State) : (s.updPins f).adm = s.adm := rfl
@[simp] theorem updPins_fs (f : Pins → Pins) (s : State) : (s.updPins f).fs = s.fs := rfl
@[simp] theorem updPins_itu (f : Pins → Pins) (s : State) : (s.updPins f).itu = s.itu := rfl
@[simp] theorem updPins_fcu (f : Pins → Pins) (s : State) : (s.updPins f).fcu = s.fcu := rfl
@[simp] theorem updPins_hr (f : Pins → Pins) (s : State) : (s.updPins f).hr = s.hr := rfl
@[simp] theorem updPins_dbg (f : Pins → Pins) (s : State) : (s.updPins f).dbg = s.dbg := rfl
@[simp] theorem updPins_pwr (f : Pins → Pins) (s : State) : (s.updPins f).pwr = s.pwr := rfl
@[simp] theorem updPins_mgt (f : Pins → Pins) (s : State) : (s.updPins f).mgt = s.mgt := rfl
@[simp] theorem updPins_draws (f : Pins → Pins) (s : State) : (s.updPins f).draws = s.draws := rfl
@[simp] theorem updPins_frees (f : Pins → Pins) (s : State) : (s.updPins f).frees = s.frees := rfl
@[simp] theorem updPins_out (f : Pins → Pins) (s : State) : (s.updPins f).out = s.out := rfl

@[simp] theorem updKv_pending (f : Kv → Kv) (s : State) : (s.updKv f).pending = s.pending := rfl
@[simp] theorem updKv_conf (f : Kv → Kv) (s : State) : (s.updKv f).conf = s.conf := rfl
@[simp] theorem updKv_pins (f : Kv → Kv) (s : State) : (s.updKv f).pins = s.pins := rfl
@[simp] theorem updKv_mp (f : Kv → Kv) (s : State) : (s.updKv f).mp = s.mp := rfl
@[simp] theorem updKv_mpNext (f : Kv → Kv) (s : State) : (s.updKv f).mpNext = s.mpNext := rfl
@[simp] theorem updKv_hostReads (f : Kv → Kv) (s : State) : (s.updKv f).hostReads = s.hostReads := rfl
@[simp] theorem updKv_kv (f : Kv → Kv) (s : State) : (s.updKv f).kv = f s.kv := rfl
@[simp] theorem updKv_lc (f : Kv → Kv) (s : State) : (s.updKv f).lc = s.lc := rfl
@[simp] theorem updKv_att (f : Kv → Kv) (s : State) : (s.updKv f).att = s.att := rfl
@[simp] theorem updKv_dom (f : Kv → Kv) (s : State) : (s.updKv f).dom = s.dom := rfl
@[simp] theorem updKv_ls (f : Kv → Kv) (s : State) : (s.updKv f).ls = s.ls := rfl
@[simp] theorem updKv_ln (f : Kv → Kv) (s : State) : (s.updKv f).ln = s.ln := rfl
@[simp] theorem updKv_tr (f : Kv → Kv) (s : State) : (s.updKv f).tr = s.tr := rfl
@[simp] theorem updKv_mv (f : Kv → Kv) (s : State) : (s.updKv f).mv = s.mv := rfl
@[simp] theorem updKv_rd (f : Kv → Kv) (s : State) : (s.updKv f).rd = s.rd := rfl
@[simp] theorem updKv_au (f : Kv → Kv) (s : State) : (s.updKv f).au = s.au := rfl
@[simp] theorem updKv_fe (f : Kv → Kv) (s : State) : (s.updKv f).fe = s.fe := rfl
@[simp] theorem updKv_adm (f : Kv → Kv) (s : State) : (s.updKv f).adm = s.adm := rfl
@[simp] theorem updKv_fs (f : Kv → Kv) (s : State) : (s.updKv f).fs = s.fs := rfl
@[simp] theorem updKv_itu (f : Kv → Kv) (s : State) : (s.updKv f).itu = s.itu := rfl
@[simp] theorem updKv_fcu (f : Kv → Kv) (s : State) : (s.updKv f).fcu = s.fcu := rfl
@[simp] theorem updKv_hr (f : Kv → Kv) (s : State) : (s.updKv f).hr = s.hr := rfl
@[simp] theorem updKv_dbg (f : Kv → Kv) (s : State) : (s.updKv f).dbg = s.dbg := rfl
@[simp] theorem updKv_pwr (f : Kv → Kv) (s : State) : (s.updKv f).pwr = s.pwr := rfl
@[simp] theorem updKv_mgt (f : Kv → Kv) (s : State) : (s.updKv f).mgt = s.mgt := rfl
@[simp] theorem updKv_draws (f : Kv → Kv) (s : State) : (s.updKv f).draws = s.draws := rfl
@[simp] theorem updKv_frees (f : Kv → Kv) (s : State) : (s.updKv f).frees = s.frees := rfl
@[simp] theorem updKv_out (f : Kv → Kv) (s : State) : (s.updKv f).out = s.out := rfl

@[simp] theorem updLc_pending (f : Lc → Lc) (s : State) : (s.updLc f).pending = s.pending := rfl
@[simp] theorem updLc_conf (f : Lc → Lc) (s : State) : (s.updLc f).conf = s.conf := rfl
@[simp] theorem updLc_pins (f : Lc → Lc) (s : State) : (s.updLc f).pins = s.pins := rfl
@[simp] theorem updLc_mp (f : Lc → Lc) (s : State) : (s.updLc f).mp = s.mp := rfl
@[simp] theorem updLc_mpNext (f : Lc → Lc) (s : State) : (s.updLc f).mpNext = s.mpNext := rfl
@[simp] theorem updLc_hostReads (f : Lc → Lc) (s : State) : (s.updLc f).hostReads = s.hostReads := rfl
@[simp] theorem updLc_kv (f : Lc → Lc) (s : State) : (s.updLc f).kv = s.kv := rfl
@[simp] theorem updLc_lc (f : Lc → Lc) (s : State) : (s.updLc f).lc = f s.lc := rfl
@[simp] theorem updLc_att (f : Lc → Lc) (s : State) : (s.updLc f).att = s.att := rfl
@[simp] theorem updLc_dom (f : Lc → Lc) (s : State) : (s.updLc f).dom = s.dom := rfl
@[simp] theorem updLc_ls (f : Lc → Lc) (s : State) : (s.updLc f).ls = s.ls := rfl
@[simp] theorem updLc_ln (f : Lc → Lc) (s : State) : (s.updLc f).ln = s.ln := rfl
@[simp] theorem updLc_tr (f : Lc → Lc) (s : State) : (s.updLc f).tr = s.tr := rfl
@[simp] theorem updLc_mv (f : Lc → Lc) (s : State) : (s.updLc f).mv = s.mv := rfl
@[simp] theorem updLc_rd (f : Lc → Lc) (s : State) : (s.updLc f).rd = s.rd := rfl
@[simp] theorem updLc_au (f : Lc → Lc) (s : State) : (s.updLc f).au = s.au := rfl
@[simp] theorem updLc_fe (f : Lc → Lc) (s : State) : (s.updLc f).fe = s.fe := rfl
@[simp] theorem updLc_adm (f : Lc → Lc) (s : State) : (s.updLc f).adm = s.adm := rfl
@[simp] theorem updLc_fs (f : Lc → Lc) (s : State) : (s.updLc f).fs = s.fs := rfl
@[simp] theorem updLc_itu (f : Lc → Lc) (s : State) : (s.updLc f).itu = s.itu := rfl
@[simp] theorem updLc_fcu (f : Lc → Lc) (s : State) : (s.updLc f).fcu = s.fcu := rfl
@[simp] theorem updLc_hr (f : Lc → Lc) (s : State) : (s.updLc f).hr = s.hr := rfl
@[simp] theorem updLc_dbg (f : Lc → Lc) (s : State) : (s.updLc f).dbg = s.dbg := rfl
@[simp] theorem updLc_pwr (f : Lc → Lc) (s : State) : (s.updLc f).pwr = s.pwr := rfl
@[simp] theorem updLc_mgt (f : Lc → Lc) (s : State) : (s.updLc f).mgt = s.mgt := rfl
@[simp] theorem updLc_draws (f : Lc → Lc) (s : State) : (s.updLc f).draws = s.draws := rfl
@[simp] theorem updLc_frees (f : Lc → Lc) (s : State) : (s.updLc f).frees = s.frees := rfl
@[simp] theorem updLc_out (f : Lc → Lc) (s : State) : (s.updLc f).out = s.out := rfl

@[simp] theorem updAt_pending (f : At → At) (s : State) : (s.updAt f).pending = s.pending := rfl
@[simp] theorem updAt_conf (f : At → At) (s : State) : (s.updAt f).conf = s.conf := rfl
@[simp] theorem updAt_pins (f : At → At) (s : State) : (s.updAt f).pins = s.pins := rfl
@[simp] theorem updAt_mp (f : At → At) (s : State) : (s.updAt f).mp = s.mp := rfl
@[simp] theorem updAt_mpNext (f : At → At) (s : State) : (s.updAt f).mpNext = s.mpNext := rfl
@[simp] theorem updAt_hostReads (f : At → At) (s : State) : (s.updAt f).hostReads = s.hostReads := rfl
@[simp] theorem updAt_kv (f : At → At) (s : State) : (s.updAt f).kv = s.kv := rfl
@[simp] theorem updAt_lc (f : At → At) (s : State) : (s.updAt f).lc = s.lc := rfl
@[simp] theorem updAt_att (f : At → At) (s : State) : (s.updAt f).att = f s.att := rfl
@[simp] theorem updAt_dom (f : At → At) (s : State) : (s.updAt f).dom = s.dom := rfl
@[simp] theorem updAt_ls (f : At → At) (s : State) : (s.updAt f).ls = s.ls := rfl
@[simp] theorem updAt_ln (f : At → At) (s : State) : (s.updAt f).ln = s.ln := rfl
@[simp] theorem updAt_tr (f : At → At) (s : State) : (s.updAt f).tr = s.tr := rfl
@[simp] theorem updAt_mv (f : At → At) (s : State) : (s.updAt f).mv = s.mv := rfl
@[simp] theorem updAt_rd (f : At → At) (s : State) : (s.updAt f).rd = s.rd := rfl
@[simp] theorem updAt_au (f : At → At) (s : State) : (s.updAt f).au = s.au := rfl
@[simp] theorem updAt_fe (f : At → At) (s : State) : (s.updAt f).fe = s.fe := rfl
@[simp] theorem updAt_adm (f : At → At) (s : State) : (s.updAt f).adm = s.adm := rfl
@[simp] theorem updAt_fs (f : At → At) (s : State) : (s.updAt f).fs = s.fs := rfl
@[simp] theorem updAt_itu (f : At → At) (s : State) : (s.updAt f).itu = s.itu := rfl
@[simp] theorem updAt_fcu (f : At → At) (s : State) : (s.updAt f).fcu = s.fcu := rfl
@[simp] theorem updAt_hr (f : At → At) (s : State) : (s.updAt f).hr = s.hr := rfl
@[simp] theorem updAt_dbg (f : At → At) (s : State) : (s.updAt f).dbg = s.dbg := rfl
@[simp] theorem updAt_pwr (f : At → At) (s : State) : (s.updAt f).pwr = s.pwr := rfl
@[simp] theorem updAt_mgt (f : At → At) (s : State) : (s.updAt f).mgt = s.mgt := rfl
@[simp] theorem updAt_draws (f : At → At) (s : State) : (s.updAt f).draws = s.draws := rfl
@[simp] theorem updAt_frees (f : At → At) (s : State) : (s.updAt f).frees = s.frees := rfl
@[simp] theorem updAt_out (f : At → At) (s : State) : (s.updAt f).out = s.out := rfl

@[simp] theorem updDom_pending (f : Dom → Dom) (s : State) : (s.updDom f).pending = s.pending := rfl
@[simp] theorem updDom_conf (f : Dom → Dom) (s : State) : (s.updDom f).conf = s.conf := rfl
@[simp] theorem updDom_pins (f : Dom → Dom) (s : State) : (s.updDom f).pins = s.pins := rfl
@[simp] theorem updDom_mp (f : Dom → Dom) (s : State) : (s.updDom f).mp = s.mp := rfl
@[simp] theorem updDom_mpNext (f : Dom → Dom) (s : State) : (s.updDom f).mpNext = s.mpNext := rfl
@[simp] theorem updDom_hostReads (f : Dom → Dom) (s : State) : (s.updDom f).hostReads = s.hostReads := rfl
@[simp] theorem updDom_kv (f : Dom → Dom) (s : State) : (s.updDom f).kv = s.kv := rfl
@[simp] theorem updDom_lc (f : Dom → Dom) (s : State) : (s.updDom f).lc = s.lc := rfl
@[simp] theorem updDom_att (f : Dom → Dom) (s : State) : (s.updDom f).att = s.att := rfl
@[simp] theorem updDom_dom (f : Dom → Dom) (s : State) : (s.updDom f).dom = f s.dom := rfl
@[simp] theorem updDom_ls (f : Dom → Dom) (s : State) : (s.updDom f).ls = s.ls := rfl
@[simp] theorem updDom_ln (f : Dom → Dom) (s : State) : (s.updDom f).ln = s.ln := rfl
@[simp] theorem updDom_tr (f : Dom → Dom) (s : State) : (s.updDom f).tr = s.tr := rfl
@[simp] theorem updDom_mv (f : Dom → Dom) (s : State) : (s.updDom f).mv = s.mv := rfl
@[simp] theorem updDom_rd (f : Dom → Dom) (s : State) : (s.updDom f).rd = s.rd := rfl
@[simp] theorem updDom_au (f : Dom → Dom) (s : State) : (s.updDom f).au = s.au := rfl
@[simp] theorem updDom_fe (f : Dom → Dom) (s : State) : (s.updDom f).fe = s.fe := rfl
@[simp] theorem updDom_adm (f : Dom → Dom) (s : State) : (s.updDom f).adm = s.adm := rfl
@[simp] theorem updDom_fs (f : Dom → Dom) (s : State) : (s.updDom f).fs = s.fs := rfl
@[simp] theorem updDom_itu (f : Dom → Dom) (s : State) : (s.updDom f).itu = s.itu := rfl
@[simp] theorem updDom_fcu (f : Dom → Dom) (s : State) : (s.updDom f).fcu = s.fcu := rfl
@[simp] theorem updDom_hr (f : Dom → Dom) (s : State) : (s.updDom f).hr = s.hr := rfl
@[simp] theorem updDom_dbg (f : Dom → Dom) (s : State) : (s.updDom f).dbg = s.dbg := rfl
@[simp] theorem updDom_pwr (f : Dom → Dom) (s : State) : (s.updDom f).pwr = s.pwr := rfl
@[simp] theorem updDom_mgt (f : Dom → Dom) (s : State) : (s.updDom f).mgt = s.mgt := rfl
@[simp] theorem updDom_draws (f : Dom → Dom) (s : State) : (s.updDom f).draws = s.draws := rfl
@[simp] theorem updDom_frees (f : Dom → Dom) (s : State) : (s.updDom f).frees = s.frees := rfl
@[simp] theorem updDom_out (f : Dom → Dom) (s : State) : (s.updDom f).out = s.out := rfl

@[simp] theorem updLs_pending (f : Ls → Ls) (s : State) : (s.updLs f).pending = s.pending := rfl
@[simp] theorem updLs_conf (f : Ls → Ls) (s : State) : (s.updLs f).conf = s.conf := rfl
@[simp] theorem updLs_pins (f : Ls → Ls) (s : State) : (s.updLs f).pins = s.pins := rfl
@[simp] theorem updLs_mp (f : Ls → Ls) (s : State) : (s.updLs f).mp = s.mp := rfl
@[simp] theorem updLs_mpNext (f : Ls → Ls) (s : State) : (s.updLs f).mpNext = s.mpNext := rfl
@[simp] theorem updLs_hostReads (f : Ls → Ls) (s : State) : (s.updLs f).hostReads = s.hostReads := rfl
@[simp] theorem updLs_kv (f : Ls → Ls) (s : State) : (s.updLs f).kv = s.kv := rfl
@[simp] theorem updLs_lc (f : Ls → Ls) (s : State) : (s.updLs f).lc = s.lc := rfl
@[simp] theorem updLs_att (f : Ls → Ls) (s : State) : (s.updLs f).att = s.att := rfl
@[simp] theorem updLs_dom (f : Ls → Ls) (s : State) : (s.updLs f).dom = s.dom := rfl
@[simp] theorem updLs_ls (f : Ls → Ls) (s : State) : (s.updLs f).ls = f s.ls := rfl
@[simp] theorem updLs_ln (f : Ls → Ls) (s : State) : (s.updLs f).ln = s.ln := rfl
@[simp] theorem updLs_tr (f : Ls → Ls) (s : State) : (s.updLs f).tr = s.tr := rfl
@[simp] theorem updLs_mv (f : Ls → Ls) (s : State) : (s.updLs f).mv = s.mv := rfl
@[simp] theorem updLs_rd (f : Ls → Ls) (s : State) : (s.updLs f).rd = s.rd := rfl
@[simp] theorem updLs_au (f : Ls → Ls) (s : State) : (s.updLs f).au = s.au := rfl
@[simp] theorem updLs_fe (f : Ls → Ls) (s : State) : (s.updLs f).fe = s.fe := rfl
@[simp] theorem updLs_adm (f : Ls → Ls) (s : State) : (s.updLs f).adm = s.adm := rfl
@[simp] theorem updLs_fs (f : Ls → Ls) (s : State) : (s.updLs f).fs = s.fs := rfl
@[simp] theorem updLs_itu (f : Ls → Ls) (s : State) : (s.updLs f).itu = s.itu := rfl
@[simp] theorem updLs_fcu (f : Ls → Ls) (s : State) : (s.updLs f).fcu = s.fcu := rfl
@[simp] theorem updLs_hr (f : Ls → Ls) (s : State) : (s.updLs f).hr = s.hr := rfl
@[simp] theorem updLs_dbg (f : Ls → Ls) (s : State) : (s.updLs f).dbg = s.dbg := rfl
@[simp] theorem updLs_pwr (f : Ls → Ls) (s : State) : (s.updLs f).pwr = s.pwr := rfl
@[simp] theorem updLs_mgt (f : Ls → Ls) (s : State) : (s.updLs f).mgt = s.mgt := rfl
@[simp] theorem updLs_draws (f : Ls → Ls) (s : State) : (s.updLs f).draws = s.draws := rfl
@[simp] theorem updLs_frees (f : Ls → Ls) (s : State) : (s.updLs f).frees = s.frees := rfl
@[simp] theorem updLs_out (f : Ls → Ls) (s : State) : (s.updLs f).out = s.out := rfl

@[simp] theorem updLn_pending (f : Ln → Ln) (s : State) : (s.updLn f).pending = s.pending := rfl
@[simp] theorem updLn_conf (f : Ln → Ln) (s : State) : (s.updLn f).conf = s.conf := rfl
@[simp] theorem updLn_pins (f : Ln → Ln) (s : State) : (s.updLn f).pins = s.pins := rfl
@[simp] theorem updLn_mp (f : Ln → Ln) (s : State) : (s.updLn f).mp = s.mp := rfl
@[simp] theorem updLn_mpNext (f : Ln → Ln) (s : State) : (s.updLn f).mpNext = s.mpNext := rfl
@[simp] theorem updLn_hostReads (f : Ln → Ln) (s : State) : (s.updLn f).hostReads = s.hostReads := rfl
@[simp] theorem updLn_kv (f : Ln → Ln) (s : State) : (s.updLn f).kv = s.kv := rfl
@[simp] theorem updLn_lc (f : Ln → Ln) (s : State) : (s.updLn f).lc = s.lc := rfl
@[simp] theorem updLn_att (f : Ln → Ln) (s : State) : (s.updLn f).att = s.att := rfl
@[simp] theorem updLn_dom (f : Ln → Ln) (s : State) : (s.updLn f).dom = s.dom := rfl
@[simp] theorem updLn_ls (f : Ln → Ln) (s : State) : (s.updLn f).ls = s.ls := rfl
@[simp] theorem updLn_ln (f : Ln → Ln) (s : State) : (s.updLn f).ln = f s.ln := rfl
@[simp] theorem updLn_tr (f : Ln → Ln) (s : State) : (s.updLn f).tr = s.tr := rfl
@[simp] theorem updLn_mv (f : Ln → Ln) (s : State) : (s.updLn f).mv = s.mv := rfl
@[simp] theorem updLn_rd (f : Ln → Ln) (s : State) : (s.updLn f).rd = s.rd := rfl
@[simp] theorem updLn_au (f : Ln → Ln) (s : State) : (s.updLn f).au = s.au := rfl
@[simp] theorem updLn_fe (f : Ln → Ln) (s : State) : (s.updLn f).fe = s.fe := rfl
@[simp] theorem updLn_adm (f : Ln → Ln) (s : State) : (s.updLn f).adm = s.adm := rfl
@[simp] theorem updLn_fs (f : Ln → Ln) (s : State) : (s.updLn f).fs = s.fs := rfl
@[simp] theorem updLn_itu (f : Ln → Ln) (s : State) : (s.updLn f).itu = s.itu := rfl
@[simp] theorem updLn_fcu (f : Ln → Ln) (s : State) : (s.updLn f).fcu = s.fcu := rfl
@[simp] theorem updLn_hr (f : Ln → Ln) (s : State) : (s.updLn f).hr = s.hr := rfl
@[simp] theorem updLn_dbg (f : Ln → Ln) (s : State) : (s.updLn f).dbg = s.dbg := rfl
@[simp] theorem updLn_pwr (f : Ln → Ln) (s : State) : (s.updLn f).pwr = s.pwr := rfl
@[simp] theorem updLn_mgt (f : Ln → Ln) (s : State) : (s.updLn f).mgt = s.mgt := rfl
@[simp] theorem updLn_draws (f : Ln → Ln) (s : State) : (s.updLn f).draws = s.draws := rfl
@[simp] theorem updLn_frees (f : Ln → Ln) (s : State) : (s.updLn f).frees = s.frees := rfl
@[simp] theorem updLn_out (f : Ln → Ln) (s : State) : (s.updLn f).out = s.out := rfl

@[simp] theorem updTr_pending (f : Tr → Tr) (s : State) : (s.updTr f).pending = s.pending := rfl
@[simp] theorem updTr_conf (f : Tr → Tr) (s : State) : (s.updTr f).conf = s.conf := rfl
@[simp] theorem updTr_pins (f : Tr → Tr) (s : State) : (s.updTr f).pins = s.pins := rfl
@[simp] theorem updTr_mp (f : Tr → Tr) (s : State) : (s.updTr f).mp = s.mp := rfl
@[simp] theorem updTr_mpNext (f : Tr → Tr) (s : State) : (s.updTr f).mpNext = s.mpNext := rfl
@[simp] theorem updTr_hostReads (f : Tr → Tr) (s : State) : (s.updTr f).hostReads = s.hostReads := rfl
@[simp] theorem updTr_kv (f : Tr → Tr) (s : State) : (s.updTr f).kv = s.kv := rfl
@[simp] theorem updTr_lc (f : Tr → Tr) (s : State) : (s.updTr f).lc = s.lc := rfl
@[simp] theorem updTr_att (f : Tr → Tr) (s : State) : (s.updTr f).att = s.att := rfl
@[simp] theorem updTr_dom (f : Tr → Tr) (s : State) : (s.updTr f).dom = s.dom := rfl
@[simp] theorem updTr_ls (f : Tr → Tr) (s : State) : (s.updTr f).ls = s.ls := rfl
@[simp] theorem updTr_ln (f : Tr → Tr) (s : State) : (s.updTr f).ln = s.ln := rfl
@[simp] theorem updTr_tr (f : Tr → Tr) (s : State) : (s.updTr f).tr = f s.tr := rfl
@[simp] theorem updTr_mv (f : Tr → Tr) (s : State) : (s.updTr f).mv = s.mv := rfl
@[simp] theorem updTr_rd (f : Tr → Tr) (s : State) : (s.updTr f).rd = s.rd := rfl
@[simp] theorem updTr_au (f : Tr → Tr) (s : State) : (s.updTr f).au = s.au := rfl
@[simp] theorem updTr_fe (f : Tr → Tr) (s : State) : (s.updTr f).fe = s.fe := rfl
@[simp] theorem updTr_adm (f : Tr → Tr) (s : State) : (s.updTr f).adm = s.adm := rfl
@[simp] theorem updTr_fs (f : Tr → Tr) (s : State) : (s.updTr f).fs = s.fs := rfl
@[simp] theorem updTr_itu (f : Tr → Tr) (s : State) : (s.updTr f).itu = s.itu := rfl
@[simp] theorem updTr_fcu (f : Tr → Tr) (s : State) : (s.updTr f).fcu = s.fcu := rfl
@[simp] theorem updTr_hr (f : Tr → Tr) (s : State) : (s.updTr f).hr = s.hr := rfl
@[simp] theorem updTr_dbg (f : Tr → Tr) (s : State) : (s.updTr f).dbg = s.dbg := rfl
@[simp] theorem updTr_pwr (f : Tr → Tr) (s : State) : (s.updTr f).pwr = s.pwr := rfl
@[simp] theorem updTr_mgt (f : Tr → Tr) (s : State) : (s.updTr f).mgt = s.mgt := rfl
@[simp] theorem updTr_draws (f : Tr → Tr) (s : State) : (s.updTr f).draws = s.draws := rfl
@[simp] theorem updTr_frees (f : Tr → Tr) (s : State) : (s.updTr f).frees = s.frees := rfl
@[simp] theorem updTr_out (f : Tr → Tr) (s : State) : (s.updTr f).out = s.out := rfl

@[simp] theorem updMv_pending (f : Mv → Mv) (s : State) : (s.updMv f).pending = s.pending := rfl
@[simp] theorem updMv_conf (f : Mv → Mv) (s : State) : (s.updMv f).conf = s.conf := rfl
@[simp] theorem updMv_pins (f : Mv → Mv) (s : State) : (s.updMv f).pins = s.pins := rfl
@[simp] theorem updMv_mp (f : Mv → Mv) (s : State) : (s.updMv f).mp = s.mp := rfl
@[simp] theorem updMv_mpNext (f : Mv → Mv) (s : State) : (s.updMv f).mpNext = s.mpNext := rfl
@[simp] theorem updMv_hostReads (f : Mv → Mv) (s : State) : (s.updMv f).hostReads = s.hostReads := rfl
@[simp] theorem updMv_kv (f : Mv → Mv) (s : State) : (s.updMv f).kv = s.kv := rfl
@[simp] theorem updMv_lc (f : Mv → Mv) (s : State) : (s.updMv f).lc = s.lc := rfl
@[simp] theorem updMv_att (f : Mv → Mv) (s : State) : (s.updMv f).att = s.att := rfl
@[simp] theorem updMv_dom (f : Mv → Mv) (s : State) : (s.updMv f).dom = s.dom := rfl
@[simp] theorem updMv_ls (f : Mv → Mv) (s : State) : (s.updMv f).ls = s.ls := rfl
@[simp] theorem updMv_ln (f : Mv → Mv) (s : State) : (s.updMv f).ln = s.ln := rfl
@[simp] theorem updMv_tr (f : Mv → Mv) (s : State) : (s.updMv f).tr = s.tr := rfl
@[simp] theorem updMv_mv (f : Mv → Mv) (s : State) : (s.updMv f).mv = f s.mv := rfl
@[simp] theorem updMv_rd (f : Mv → Mv) (s : State) : (s.updMv f).rd = s.rd := rfl
@[simp] theorem updMv_au (f : Mv → Mv) (s : State) : (s.updMv f).au = s.au := rfl
@[simp] theorem updMv_fe (f : Mv → Mv) (s : State) : (s.updMv f).fe = s.fe := rfl
@[simp] theorem updMv_adm (f : Mv → Mv) (s : State) : (s.updMv f).adm = s.adm := rfl
@[simp] theorem updMv_fs (f : Mv → Mv) (s : State) : (s.updMv f).fs = s.fs := rfl
@[simp] theorem updMv_itu (f : Mv → Mv) (s : State) : (s.updMv f).itu = s.itu := rfl
@[simp] theorem updMv_fcu (f : Mv → Mv) (s : State) : (s.updMv f).fcu = s.fcu := rfl
@[simp] theorem updMv_hr (f : Mv → Mv) (s : State) : (s.updMv f).hr = s.hr := rfl
@[simp] theorem updMv_dbg (f : Mv → Mv) (s : State) : (s.updMv f).dbg = s.dbg := rfl
@[simp] theorem updMv_pwr (f : Mv → Mv) (s : State) : (s.updMv f).pwr = s.pwr := rfl
@[simp] theorem updMv_mgt (f : Mv → Mv) (s : State) : (s.updMv f).mgt = s.mgt := rfl
@[simp] theorem updMv_draws (f : Mv → Mv) (s : State) : (s.updMv f).draws = s.draws := rfl
@[simp] theorem updMv_frees (f : Mv → Mv) (s : State) : (s.updMv f).frees = s.frees := rfl
@[simp] theorem updMv_out (f : Mv → Mv) (s : State) : (s.updMv f).out = s.out := rfl

@[simp] theorem updRd_pending (f : Rd → Rd) (s : State) : (s.updRd f).pending = s.pending := rfl
@[simp] theorem updRd_conf (f : Rd → Rd) (s : State) : (s.updRd f).conf = s.conf := rfl
@[simp] theorem updRd_pins (f : Rd → Rd) (s : State) : (s.updRd f).pins = s.pins := rfl
@[simp] theorem updRd_mp (f : Rd → Rd) (s : State) : (s.updRd f).mp = s.mp := rfl
@[simp] theorem updRd_mpNext (f : Rd → Rd) (s : State) : (s.updRd f).mpNext = s.mpNext := rfl
@[simp] theorem updRd_hostReads (f : Rd → Rd) (s : State) : (s.updRd f).hostReads = s.hostReads := rfl
@[simp] theorem updRd_kv (f : Rd → Rd) (s : State) : (s.updRd f).kv = s.kv := rfl
@[simp] theorem updRd_lc (f : Rd → Rd) (s : State) : (s.updRd f).lc = s.lc := rfl
@[simp] theorem updRd_att (f : Rd → Rd) (s : State) : (s.updRd f).att = s.att := rfl
@[simp] theorem updRd_dom (f : Rd → Rd) (s : State) : (s.updRd f).dom = s.dom := rfl
@[simp] theorem updRd_ls (f : Rd → Rd) (s : State) : (s.updRd f).ls = s.ls := rfl
@[simp] theorem updRd_ln (f : Rd → Rd) (s : State) : (s.updRd f).ln = s.ln := rfl
@[simp] theorem updRd_tr (f : Rd → Rd) (s : State) : (s.updRd f).tr = s.tr := rfl
@[simp] theorem updRd_mv (f : Rd → Rd) (s : State) : (s.updRd f).mv = s.mv := rfl
@[simp] theorem updRd_rd (f : Rd → Rd) (s : State) : (s.updRd f).rd = f s.rd := rfl
@[simp] theorem updRd_au (f : Rd → Rd) (s : State) : (s.updRd f).au = s.au := rfl
@[simp] theorem updRd_fe (f : Rd → Rd) (s : State) : (s.updRd f).fe = s.fe := rfl
@[simp] theorem updRd_adm (f : Rd → Rd) (s : State) : (s.updRd f).adm = s.adm := rfl
@[simp] theorem updRd_fs (f : Rd → Rd) (s : State) : (s.updRd f).fs = s.fs := rfl
@[simp] theorem updRd_itu (f : Rd → Rd) (s : State) : (s.updRd f).itu = s.itu := rfl
@[simp] theorem updRd_fcu (f : Rd → Rd) (s : State) : (s.updRd f).fcu = s.fcu := rfl
@[simp] theorem updRd_hr (f : Rd → Rd) (s : State) : (s.updRd f).hr = s.hr := rfl
@[simp] theorem updRd_dbg (f : Rd → Rd) (s : State) : (s.updRd f).dbg = s.dbg := rfl
@[simp] theorem updRd_pwr (f : Rd → Rd) (s : State) : (s.updRd f).pwr = s.pwr := rfl
@[simp] theorem updRd_mgt (f : Rd → Rd) (s : State) : (s.updRd f).mgt = s.mgt := rfl
@[simp] theorem updRd_draws (f : Rd → Rd) (s : State) : (s.updRd f).draws = s.draws := rfl
@[simp] theorem updRd_frees (f : Rd → Rd) (s : State) : (s.updRd f).frees = s.frees := rfl
@[simp] theorem updRd_out (f : Rd → Rd) (s : State) : (s.updRd f).out = s.out := rfl

@[simp] theorem updAu_pending (f : Au → Au) (s : State) : (s.updAu f).pending = s.pending := rfl
@[simp] theorem updAu_conf (f : Au → Au) (s : State) : (s.updAu f).conf = s.conf := rfl
@[simp] theorem updAu_pins (f : Au → Au) (s : State) : (s.updAu f).pins = s.pins := rfl
@[simp] theorem updAu_mp (f : Au → Au) (s : State) : (s.updAu f).mp = s.mp := rfl
@[simp] theorem updAu_mpNext (f : Au → Au) (s : State) : (s.updAu f).mpNext = s.mpNext := rfl
@[simp] theorem updAu_hostReads (f : Au → Au) (s : State) : (s.updAu f).hostReads = s.hostReads := rfl
@[simp] theorem updAu_kv (f : Au → Au) (s : State) : (s.updAu f).kv = s.kv := rfl
@[simp] theorem updAu_lc (f : Au → Au) (s : State) : (s.updAu f).lc = s.lc := rfl
@[simp] theorem updAu_att (f : Au → Au) (s : State) : (s.updAu f).att = s.att := rfl
@[simp] theorem updAu_dom (f : Au → Au) (s : State) : (s.updAu f).dom = s.dom := rfl
@[simp] theorem updAu_ls (f : Au → Au) (s : State) : (s.updAu f).ls = s.ls := rfl
@[simp] theorem updAu_ln (f : Au → Au) (s : State) : (s.updAu f).ln = s.ln := rfl
@[simp] theorem updAu_tr (f : Au → Au) (s : State) : (s.updAu f).tr = s.tr := rfl
@[simp] theorem updAu_mv (f : Au → Au) (s : State) : (s.updAu f).mv = s.mv := rfl
@[simp] theorem updAu_rd (f : Au → Au) (s : State) : (s.updAu f).rd = s.rd := rfl
@[simp] theorem updAu_au (f : Au → Au) (s : State) : (s.updAu f).au = f s.au := rfl
@[simp] theorem updAu_fe (f : Au → Au) (s : State) : (s.updAu f).fe = s.fe := rfl
@[simp] theorem updAu_adm (f : Au → Au) (s : State) : (s.updAu f).adm = s.adm := rfl
@[simp] theorem updAu_fs (f : Au → Au) (s : State) : (s.updAu f).fs = s.fs := rfl
@[simp] theorem updAu_itu (f : Au → Au) (s : State) : (s.updAu f).itu = s.itu := rfl
@[simp] theorem updAu_fcu (f : Au → Au) (s : State) : (s.updAu f).fcu = s.fcu := rfl
@[simp] theorem updAu_hr (f : Au → Au) (s : State) : (s.updAu f).hr = s.hr := rfl
@[simp] theorem updAu_dbg (f : Au → Au) (s : State) : (s.updAu f).dbg = s.dbg := rfl
@[simp] theorem updAu_pwr (f : Au → Au) (s : State) : (s.updAu f).pwr = s.pwr := rfl
@[simp] theorem updAu_mgt (f : Au → Au) (s : State) : (s.updAu f).mgt = s.mgt := rfl
@[simp] theorem updAu_draws (f : Au → Au) (s : State) : (s.updAu f).draws = s.draws := rfl
@[simp] theorem updAu_frees (f : Au → Au) (s : State) : (s.updAu f).frees = s.frees := rfl
@[simp] theorem updAu_out (f : Au → Au) (s : State) : (s.updAu f).out = s.out := rfl

@[simp] theorem updFe_pending (f : Fe → Fe) (s : State) : (s.updFe f).pending = s.pending := rfl
@[simp] theorem updFe_conf (f : Fe → Fe) (s : State) : (s.updFe f).conf = s.conf := rfl
@[simp] theorem updFe_pins (f : Fe → Fe) (s : State) : (s.updFe f).pins = s.pins := rfl
@[simp] theorem updFe_mp (f : Fe → Fe) (s : State) : (s.updFe f).mp = s.mp := rfl
@[simp] theorem updFe_mpNext (f : Fe → Fe) (s : State) : (s.updFe f).mpNext = s.mpNext := rfl
@[simp] theorem updFe_hostReads (f : Fe → Fe) (s : State) : (s.updFe f).hostReads = s.hostReads := rfl
@[simp] theorem updFe_kv (f : Fe → Fe) (s : State) : (s.updFe f).kv = s.kv := rfl
@[simp] theorem updFe_lc (f : Fe → Fe) (s : State) : (s.updFe f).lc = s.lc := rfl
@[simp] theorem updFe_att (f : Fe → Fe) (s : State) : (s.updFe f).att = s.att := rfl
@[simp] theorem updFe_dom (f : Fe → Fe) (s : State) : (s.updFe f).dom = s.dom := rfl
@[simp] theorem updFe_ls (f : Fe → Fe) (s : State) : (s.updFe f).ls = s.ls := rfl
@[simp] theorem updFe_ln (f : Fe → Fe) (s : State) : (s.updFe f).ln = s.ln := rfl
@[simp] theorem updFe_tr (f : Fe → Fe) (s : State) : (s.updFe f).tr = s.tr := rfl
@[simp] theorem updFe_mv (f : Fe → Fe) (s : State) : (s.updFe f).mv = s.mv := rfl
@[simp] theorem updFe_rd (f : Fe → Fe) (s : State) : (s.updFe f).rd = s.rd := rfl
@[simp] theorem updFe_au (f : Fe → Fe) (s : State) : (s.updFe f).au = s.au := rfl
@[simp] theorem updFe_fe (f : Fe → Fe) (s : State) : (s.updFe f).fe = f s.fe := rfl
@[simp] theorem updFe_adm (f : Fe → Fe) (s : State) : (s.updFe f).adm = s.adm := rfl
@[simp] theorem updFe_fs (f : Fe → Fe) (s : State) : (s.updFe f).fs = s.fs := rfl
@[simp] theorem updFe_itu (f : Fe → Fe) (s : State) : (s.updFe f).itu = s.itu := rfl
@[simp] theorem updFe_fcu (f : Fe → Fe) (s : State) : (s.updFe f).fcu = s.fcu := rfl
@[simp] theorem updFe_hr (f : Fe → Fe) (s : State) : (s.updFe f).hr = s.hr := rfl
@[simp] theorem updFe_dbg (f : Fe → Fe) (s : State) : (s.updFe f).dbg = s.dbg := rfl
@[simp] theorem updFe_pwr (f : Fe → Fe) (s : State) : (s.updFe f).pwr = s.pwr := rfl
@[simp] theorem updFe_mgt (f : Fe → Fe) (s : State) : (s.updFe f).mgt = s.mgt := rfl
@[simp] theorem updFe_draws (f : Fe → Fe) (s : State) : (s.updFe f).draws = s.draws := rfl
@[simp] theorem updFe_frees (f : Fe → Fe) (s : State) : (s.updFe f).frees = s.frees := rfl
@[simp] theorem updFe_out (f : Fe → Fe) (s : State) : (s.updFe f).out = s.out := rfl

@[simp] theorem updAdm_pending (f : Adm → Adm) (s : State) : (s.updAdm f).pending = s.pending := rfl
@[simp] theorem updAdm_conf (f : Adm → Adm) (s : State) : (s.updAdm f).conf = s.conf := rfl
@[simp] theorem updAdm_pins (f : Adm → Adm) (s : State) : (s.updAdm f).pins = s.pins := rfl
@[simp] theorem updAdm_mp (f : Adm → Adm) (s : State) : (s.updAdm f).mp = s.mp := rfl
@[simp] theorem updAdm_mpNext (f : Adm → Adm) (s : State) : (s.updAdm f).mpNext = s.mpNext := rfl
@[simp] theorem updAdm_hostReads (f : Adm → Adm) (s : State) : (s.updAdm f).hostReads = s.hostReads := rfl
@[simp] theorem updAdm_kv (f : Adm → Adm) (s : State) : (s.updAdm f).kv = s.kv := rfl
@[simp] theorem updAdm_lc (f : Adm → Adm) (s : State) : (s.updAdm f).lc = s.lc := rfl
@[simp] theorem updAdm_att (f : Adm → Adm) (s : State) : (s.updAdm f).att = s.att := rfl
@[simp] theorem updAdm_dom (f : Adm → Adm) (s : State) : (s.updAdm f).dom = s.dom := rfl
@[simp] theorem updAdm_ls (f : Adm → Adm) (s : State) : (s.updAdm f).ls = s.ls := rfl
@[simp] theorem updAdm_ln (f : Adm → Adm) (s : State) : (s.updAdm f).ln = s.ln := rfl
@[simp] theorem updAdm_tr (f : Adm → Adm) (s : State) : (s.updAdm f).tr = s.tr := rfl
@[simp] theorem updAdm_mv (f : Adm → Adm) (s : State) : (s.updAdm f).mv = s.mv := rfl
@[simp] theorem updAdm_rd (f : Adm → Adm) (s : State) : (s.updAdm f).rd = s.rd := rfl
@[simp] theorem updAdm_au (f : Adm → Adm) (s : State) : (s.updAdm f).au = s.au := rfl
@[simp] theorem updAdm_fe (f : Adm → Adm) (s : State) : (s.updAdm f).fe = s.fe := rfl
@[simp] theorem updAdm_adm (f : Adm → Adm) (s : State) : (s.updAdm f).adm = f s.adm := rfl
@[simp] theorem updAdm_fs (f : Adm → Adm) (s : State) : (s.updAdm f).fs = s.fs := rfl
@[simp] theorem updAdm_itu (f : Adm → Adm) (s : State) : (s.updAdm f).itu = s.itu := rfl
@[simp] theorem updAdm_fcu (f : Adm → Adm) (s : State) : (s.updAdm f).fcu = s.fcu := rfl
@[simp] theorem updAdm_hr (f : Adm → Adm) (s : State) : (s.updAdm f).hr = s.hr := rfl
@[simp] theorem updAdm_dbg (f : Adm → Adm) (s : State) : (s.updAdm f).dbg = s.dbg := rfl
@[simp] theorem updAdm_pwr (f : Adm → Adm) (s : State) : (s.updAdm f).pwr = s.pwr := rfl
@[simp] theorem updAdm_mgt (f : Adm → Adm) (s : State) : (s.updAdm f).mgt = s.mgt := rfl
@[simp] theorem updAdm_draws (f : Adm → Adm) (s : State) : (s.updAdm f).draws = s.draws := rfl
@[simp] theorem updAdm_frees (f : Adm → Adm) (s : State) : (s.updAdm f).frees = s.frees := rfl
@[simp] theorem updAdm_out (f : Adm → Adm) (s : State) : (s.updAdm f).out = s.out := rfl

@[simp] theorem updFs_pending (f : Fs → Fs) (s : State) : (s.updFs f).pending = s.pending := rfl
@[simp] theorem updFs_conf (f : Fs → Fs) (s : State) : (s.updFs f).conf = s.conf := rfl
@[simp] theorem updFs_pins (f : Fs → Fs) (s : State) : (s.updFs f).pins = s.pins := rfl
@[simp] theorem updFs_mp (f : Fs → Fs) (s : State) : (s.updFs f).mp = s.mp := rfl
@[simp] theorem updFs_mpNext (f : Fs → Fs) (s : State) : (s.updFs f).mpNext = s.mpNext := rfl
@[simp] theorem updFs_hostReads (f : Fs → Fs) (s : State) : (s.updFs f).hostReads = s.hostReads := rfl
@[simp] theorem updFs_kv (f : Fs → Fs) (s : State) : (s.updFs f).kv = s.kv := rfl
@[simp] theorem updFs_lc (f : Fs → Fs) (s : State) : (s.updFs f).lc = s.lc := rfl
@[simp] theorem updFs_att (f : Fs → Fs) (s : State) : (s.updFs f).att = s.att := rfl
@[simp] theorem updFs_dom (f : Fs → Fs) (s : State) : (s.updFs f).dom = s.dom := rfl
@[simp] theorem updFs_ls (f : Fs → Fs) (s : State) : (s.updFs f).ls = s.ls := rfl
@[simp] theorem updFs_ln (f : Fs → Fs) (s : State) : (s.updFs f).ln = s.ln := rfl
@[simp] theorem updFs_tr (f : Fs → Fs) (s : State) : (s.updFs f).tr = s.tr := rfl
@[simp] theorem updFs_mv (f : Fs → Fs) (s : State) : (s.updFs f).mv = s.mv := rfl
@[simp] theorem updFs_rd (f : Fs → Fs) (s : State) : (s.updFs f).rd = s.rd := rfl
@[simp] theorem updFs_au (f : Fs → Fs) (s : State) : (s.updFs f).au = s.au := rfl
@[simp] theorem updFs_fe (f : Fs → Fs) (s : State) : (s.updFs f).fe = s.fe := rfl
@[simp] theorem updFs_adm (f : Fs → Fs) (s : State) : (s.updFs f).adm = s.adm := rfl
@[simp] theorem updFs_fs (f : Fs → Fs) (s : State) : (s.updFs f).fs = f s.fs := rfl
@[simp] theorem updFs_itu (f : Fs → Fs) (s : State) : (s.updFs f).itu = s.itu := rfl
@[simp] theorem updFs_fcu (f : Fs → Fs) (s : State) : (s.updFs f).fcu = s.fcu := rfl
@[simp] theorem updFs_hr (f : Fs → Fs) (s : State) : (s.updFs f).hr = s.hr := rfl
@[simp] theorem updFs_dbg (f : Fs → Fs) (s : State) : (s.updFs f).dbg = s.dbg := rfl
@[simp] theorem updFs_pwr (f : Fs → Fs) (s : State) : (s.updFs f).pwr = s.pwr := rfl
@[simp] theorem updFs_mgt (f : Fs → Fs) (s : State) : (s.updFs f).mgt = s.mgt := rfl
@[simp] theorem updFs_draws (f : Fs → Fs) (s : State) : (s.updFs f).draws = s.draws := rfl
@[simp] theorem updFs_frees (f : Fs → Fs) (s : State) : (s.updFs f).frees = s.frees := rfl
@[simp] theorem updFs_out (f : Fs → Fs) (s : State) : (s.updFs f).out = s.out := rfl

@[simp] theorem updItu_pending (f : Itu → Itu) (s : State) : (s.updItu f).pending = s.pending := rfl
@[simp] theorem updItu_conf (f : Itu → Itu) (s : State) : (s.updItu f).conf = s.conf := rfl
@[simp] theorem updItu_pins (f : Itu → Itu) (s : State) : (s.updItu f).pins = s.pins := rfl
@[simp] theorem updItu_mp (f : Itu → Itu) (s : State) : (s.updItu f).mp = s.mp := rfl
@[simp] theorem updItu_mpNext (f : Itu → Itu) (s : State) : (s.updItu f).mpNext = s.mpNext := rfl
@[simp] theorem updItu_hostReads (f : Itu → Itu) (s : State) : (s.updItu f).hostReads = s.hostReads := rfl
@[simp] theorem updItu_kv (f : Itu → Itu) (s : State) : (s.updItu f).kv = s.kv := rfl
@[simp] theorem updItu_lc (f : Itu → Itu) (s : State) : (s.updItu f).lc = s.lc := rfl
@[simp] theorem updItu_att (f : Itu → Itu) (s : State) : (s.updItu f).att = s.att := rfl
@[simp] theorem updItu_dom (f : Itu → Itu) (s : State) : (s.updItu f).dom = s.dom := rfl
@[simp] theorem updItu_ls (f : Itu → Itu) (s : State) : (s.updItu f).ls = s.ls := rfl
@[simp] theorem updItu_ln (f : Itu → Itu) (s : State) : (s.updItu f).ln = s.ln := rfl
@[simp] theorem updItu_tr (f : Itu → Itu) (s : State) : (s.updItu f).tr = s.tr := rfl
@[simp] theorem updItu_mv (f : Itu → Itu) (s : State) : (s.updItu f).mv = s.mv := rfl
@[simp] theorem updItu_rd (f : Itu → Itu) (s : State) : (s.updItu f).rd = s.rd := rfl
@[simp] theorem updItu_au (f : Itu → Itu) (s : State) : (s.updItu f).au = s.au := rfl
@[simp] theorem updItu_fe (f : Itu → Itu) (s : State) : (s.updItu f).fe = s.fe := rfl
@[simp] theorem updItu_adm (f : Itu → Itu) (s : State) : (s.updItu f).adm = s.adm := rfl
@[simp] theorem updItu_fs (f : Itu → Itu) (s : State) : (s.updItu f).fs = s.fs := rfl
@[simp] theorem updItu_itu (f : Itu → Itu) (s : State) : (s.updItu f).itu = f s.itu := rfl
@[simp] theorem updItu_fcu (f : Itu → Itu) (s : State) : (s.updItu f).fcu = s.fcu := rfl
@[simp] theorem updItu_hr (f : Itu → Itu) (s : State) : (s.updItu f).hr = s.hr := rfl
@[simp] theorem updItu_dbg (f : Itu → Itu) (s : State) : (s.updItu f).dbg = s.dbg := rfl
@[simp] theorem updItu_pwr (f : Itu → Itu) (s : State) : (s.updItu f).pwr = s.pwr := rfl
@[simp] theorem updItu_mgt (f : Itu → Itu) (s : State) : (s.updItu f).mgt = s.mgt := rfl
@[simp] theorem updItu_draws (f : Itu → Itu) (s : State) : (s.updItu f).draws = s.draws := rfl
@[simp] theorem updItu_frees (f : Itu → Itu) (s : State) : (s.updItu f).frees = s.frees := rfl
@[simp] theorem updItu_out (f : Itu → Itu) (s : State) : (s.updItu f).out = s.out := rfl

@[simp] theorem updFcu_pending (f : Fcu → Fcu) (s : State) : (s.updFcu f).pending = s.pending := rfl
@[simp] theorem updFcu_conf (f : Fcu → Fcu) (s : State) : (s.updFcu f).conf = s.conf := rfl
@[simp] theorem updFcu_pins (f : Fcu → Fcu) (s : State) : (s.updFcu f).pins = s.pins := rfl
@[simp] theorem updFcu_mp (f : Fcu → Fcu) (s : State) : (s.updFcu f).mp = s.mp := rfl
@[simp] theorem updFcu_mpNext (f : Fcu → Fcu) (s : State) : (s.updFcu f).mpNext = s.mpNext := rfl
@[simp] theorem updFcu_hostReads (f : Fcu → Fcu) (s : State) : (s.updFcu f).hostReads = s.hostReads := rfl
@[simp] theorem updFcu_kv (f : Fcu → Fcu) (s : State) : (s.updFcu f).kv = s.kv := rfl
@[simp] theorem updFcu_lc (f : Fcu → Fcu) (s : State) : (s.updFcu f).lc = s.lc := rfl
@[simp] theorem updFcu_att (f : Fcu → Fcu) (s : State) : (s.updFcu f).att = s.att := rfl
@[simp] theorem updFcu_dom (f : Fcu → Fcu) (s : State) : (s.updFcu f).dom = s.dom := rfl
@[simp] theorem updFcu_ls (f : Fcu → Fcu) (s : State) : (s.updFcu f).ls = s.ls := rfl
@[simp] theorem updFcu_ln (f : Fcu → Fcu) (s : State) : (s.updFcu f).ln = s.ln := rfl
@[simp] theorem updFcu_tr (f : Fcu → Fcu) (s : State) : (s.updFcu f).tr = s.tr := rfl
@[simp] theorem updFcu_mv (f : Fcu → Fcu) (s : State) : (s.updFcu f).mv = s.mv := rfl
@[simp] theorem updFcu_rd (f : Fcu → Fcu) (s : State) : (s.updFcu f).rd = s.rd := rfl
@[simp] theorem updFcu_au (f : Fcu → Fcu) (s : State) : (s.updFcu f).au = s.au := rfl
@[simp] theorem updFcu_fe (f : Fcu → Fcu) (s : State) : (s.updFcu f).fe = s.fe := rfl
@[simp] theorem updFcu_adm (f : Fcu → Fcu) (s : State) : (s.updFcu f).adm = s.adm := rfl
@[simp] theorem updFcu_fs (f : Fcu → Fcu) (s : State) : (s.updFcu f).fs = s.fs := rfl
@[simp] theorem updFcu_itu (f : Fcu → Fcu) (s : State) : (s.updFcu f).itu = s.itu := rfl
@[simp] theorem updFcu_fcu (f : Fcu → Fcu) (s : State) : (s.updFcu f).fcu = f s.fcu := rfl
@[simp] theorem updFcu_hr (f : Fcu → Fcu) (s : State) : (s.updFcu f).hr = s.hr := rfl
@[simp] theorem updFcu_dbg (f : Fcu → Fcu) (s : State) : (s.updFcu f).dbg = s.dbg := rfl
@[simp] theorem updFcu_pwr (f : Fcu → Fcu) (s : State) : (s.updFcu f).pwr = s.pwr := rfl
@[simp] theorem updFcu_mgt (f : Fcu → Fcu) (s : State) : (s.updFcu f).mgt = s.mgt := rfl
@[simp] theorem updFcu_draws (f : Fcu → Fcu) (s : State) : (s.updFcu f).draws = s.draws := rfl
@[simp] theorem updFcu_frees (f : Fcu → Fcu) (s : State) : (s.updFcu f).frees = s.frees := rfl
@[simp] theorem updFcu_out (f : Fcu → Fcu) (s : State) : (s.updFcu f).out = s.out := rfl

@[simp] theorem updHr_pending (f : Hr → Hr) (s : State) : (s.updHr f).pending = s.pending := rfl
@[simp] theorem updHr_conf (f : Hr → Hr) (s : State) : (s.updHr f).conf = s.conf := rfl
@[simp] theorem updHr_pins (f : Hr → Hr) (s : State) : (s.updHr f).pins = s.pins := rfl
@[simp] theorem updHr_mp (f : Hr → Hr) (s : State) : (s.updHr f).mp = s.mp := rfl
@[simp] theorem updHr_mpNext (f : Hr → Hr) (s : State) : (s.updHr f).mpNext = s.mpNext := rfl
@[simp] theorem updHr_hostReads (f : Hr → Hr) (s : State) : (s.updHr f).hostReads = s.hostReads := rfl
@[simp] theorem updHr_kv (f : Hr → Hr) (s : State) : (s.updHr f).kv = s.kv := rfl
@[simp] theorem updHr_lc (f : Hr → Hr) (s : State) : (s.updHr f).lc = s.lc := rfl
@[simp] theorem updHr_att (f : Hr → Hr) (s : State) : (s.updHr f).att = s.att := rfl
@[simp] theorem updHr_dom (f : Hr → Hr) (s : State) : (s.updHr f).dom = s.dom := rfl
@[simp] theorem updHr_ls (f : Hr → Hr) (s : State) : (s.updHr f).ls = s.ls := rfl
@[simp] theorem updHr_ln (f : Hr → Hr) (s : State) : (s.updHr f).ln = s.ln := rfl
@[simp] theorem updHr_tr (f : Hr → Hr) (s : State) : (s.updHr f).tr = s.tr := rfl
@[simp] theorem updHr_mv (f : Hr → Hr) (s : State) : (s.updHr f).mv = s.mv := rfl
@[simp] theorem updHr_rd (f : Hr → Hr) (s : State) : (s.updHr f).rd = s.rd := rfl
@[simp] theorem updHr_au (f : Hr → Hr) (s : State) : (s.updHr f).au = s.au := rfl
@[simp] theorem updHr_fe (f : Hr → Hr) (s : State) : (s.updHr f).fe = s.fe := rfl
@[simp] theorem updHr_adm (f : Hr → Hr) (s : State) : (s.updHr f).adm = s.adm := rfl
@[simp] theorem updHr_fs (f : Hr → Hr) (s : State) : (s.updHr f).fs = s.fs := rfl
@[simp] theorem updHr_itu (f : Hr → Hr) (s : State) : (s.updHr f).itu = s.itu := rfl
@[simp] theorem updHr_fcu (f : Hr → Hr) (s : State) : (s.updHr f).fcu = s.fcu := rfl
@[simp] theorem updHr_hr (f : Hr → Hr) (s : State) : (s.updHr f).hr = f s.hr := rfl
@[simp] theorem updHr_dbg (f : Hr → Hr) (s : State) : (s.updHr f).dbg = s.dbg := rfl
@[simp] theorem updHr_pwr (f : Hr → Hr) (s : State) : (s.updHr f).pwr = s.pwr := rfl
@[simp] theorem updHr_mgt (f : Hr → Hr) (s : State) : (s.updHr f).mgt = s.mgt := rfl
@[simp] theorem updHr_draws (f : Hr → Hr) (s : State) : (s.updHr f).draws = s.draws := rfl
@[simp] theorem updHr_frees (f : Hr → Hr) (s : State) : (s.updHr f).frees = s.frees := rfl
@[simp] theorem updHr_out (f : Hr → Hr) (s : State) : (s.updHr f).out = s.out := rfl

@[simp] theorem updDbg_pending (f : Dbg → Dbg) (s : State) : (s.updDbg f).pending = s.pending := rfl
@[simp] theorem updDbg_conf (f : Dbg → Dbg) (s : State) : (s.updDbg f).conf = s.conf := rfl
@[simp] theorem updDbg_pins (f : Dbg → Dbg) (s : State) : (s.updDbg f).pins = s.pins := rfl
@[simp] theorem updDbg_mp (f : Dbg → Dbg) (s : State) : (s.updDbg f).mp = s.mp := rfl
@[simp] theorem updDbg_mpNext (f : Dbg → Dbg) (s : State) : (s.updDbg f).mpNext = s.mpNext := rfl
@[simp] theorem updDbg_hostReads (f : Dbg → Dbg) (s : State) : (s.updDbg f).hostReads = s.hostReads := rfl
@[simp] theorem updDbg_kv (f : Dbg → Dbg) (s : State) : (s.updDbg f).kv = s.kv := rfl
@[simp] theorem updDbg_lc (f : Dbg → Dbg) (s : State) : (s.updDbg f).lc = s.lc := rfl
@[simp] theorem updDbg_att (f : Dbg → Dbg) (s : State) : (s.updDbg f).att = s.att := rfl
@[simp] theorem updDbg_dom (f : Dbg → Dbg) (s : State) : (s.updDbg f).dom = s.dom := rfl
@[simp] theorem updDbg_ls (f : Dbg → Dbg) (s : State) : (s.updDbg f).ls = s.ls := rfl
@[simp] theorem updDbg_ln (f : Dbg → Dbg) (s : State) : (s.updDbg f).ln = s.ln := rfl
@[simp] theorem updDbg_tr (f : Dbg → Dbg) (s : State) : (s.updDbg f).tr = s.tr := rfl
@[simp] theorem updDbg_mv (f : Dbg → Dbg) (s : State) : (s.updDbg f).mv = s.mv := rfl
@[simp] theorem updDbg_rd (f : Dbg → Dbg) (s : State) : (s.updDbg f).rd = s.rd := rfl
@[simp] theorem updDbg_au (f : Dbg → Dbg) (s : State) : (s.updDbg f).au = s.au := rfl
@[simp] theorem updDbg_fe (f : Dbg → Dbg) (s : State) : (s.updDbg f).fe = s.fe := rfl
@[simp] theorem updDbg_adm (f : Dbg → Dbg) (s : State) : (s.updDbg f).adm = s.adm := rfl
@[simp] theorem updDbg_fs (f : Dbg → Dbg) (s : State) : (s.updDbg f).fs = s.fs := rfl
@[simp] theorem updDbg_itu (f : Dbg → Dbg) (s : State) : (s.updDbg f).itu = s.itu := rfl
@[simp] theorem updDbg_fcu (f : Dbg → Dbg) (s : State) : (s.updDbg f).fcu = s.fcu := rfl
@[simp] theorem updDbg_hr (f : Dbg → Dbg) (s : State) : (s.updDbg f).hr = s.hr := rfl
@[simp] theorem updDbg_dbg (f : Dbg → Dbg) (s : State) : (s.updDbg f).dbg = f s.dbg := rfl
@[simp] theorem updDbg_pwr (f : Dbg → Dbg) (s : State) : (s.updDbg f).pwr = s.pwr := rfl
@[simp] theorem updDbg_mgt (f : Dbg → Dbg) (s : State) : (s.updDbg f).mgt = s.mgt := rfl
@[simp] theorem updDbg_draws (f : Dbg → Dbg) (s : State) : (s.updDbg f).draws = s.draws := rfl
@[simp] theorem updDbg_frees (f : Dbg → Dbg) (s : State) : (s.updDbg f).frees = s.frees := rfl
@[simp] theorem updDbg_out (f : Dbg → Dbg) (s : State) : (s.updDbg f).out = s.out := rfl

@[simp] theorem updPwr_pending (f : Pwr → Pwr) (s : State) : (s.updPwr f).pending = s.pending := rfl
@[simp] theorem updPwr_conf (f : Pwr → Pwr) (s : State) : (s.updPwr f).conf = s.conf := rfl
@[simp] theorem updPwr_pins (f : Pwr → Pwr) (s : State) : (s.updPwr f).pins = s.pins := rfl
@[simp] theorem updPwr_mp (f : Pwr → Pwr) (s : State) : (s.updPwr f).mp = s.mp := rfl
@[simp] theorem updPwr_mpNext (f : Pwr → Pwr) (s : State) : (s.updPwr f).mpNext = s.mpNext := rfl
@[simp] theorem updPwr_hostReads (f : Pwr → Pwr) (s : State) : (s.updPwr f).hostReads = s.hostReads := rfl
@[simp] theorem updPwr_kv (f : Pwr → Pwr) (s : State) : (s.updPwr f).kv = s.kv := rfl
@[simp] theorem updPwr_lc (f : Pwr → Pwr) (s : State) : (s.updPwr f).lc = s.lc := rfl
@[simp] theorem updPwr_att (f : Pwr → Pwr) (s : State) : (s.updPwr f).att = s.att := rfl
@[simp] theorem updPwr_dom (f : Pwr → Pwr) (s : State) : (s.updPwr f).dom = s.dom := rfl
@[simp] theorem updPwr_ls (f : Pwr → Pwr) (s : State) : (s.updPwr f).ls = s.ls := rfl
@[simp] theorem updPwr_ln (f : Pwr → Pwr) (s : State) : (s.updPwr f).ln = s.ln := rfl
@[simp] theorem updPwr_tr (f : Pwr → Pwr) (s : State) : (s.updPwr f).tr = s.tr := rfl
@[simp] theorem updPwr_mv (f : Pwr → Pwr) (s : State) : (s.updPwr f).mv = s.mv := rfl
@[simp] theorem updPwr_rd (f : Pwr → Pwr) (s : State) : (s.updPwr f).rd = s.rd := rfl
@[simp] theorem updPwr_au (f : Pwr → Pwr) (s : State) : (s.updPwr f).au = s.au := rfl
@[simp] theorem updPwr_fe (f : Pwr → Pwr) (s : State) : (s.updPwr f).fe = s.fe := rfl
@[simp] theorem updPwr_adm (f : Pwr → Pwr) (s : State) : (s.updPwr f).adm = s.adm := rfl
@[simp] theorem updPwr_fs (f : Pwr → Pwr) (s : State) : (s.updPwr f).fs = s.fs := rfl
@[simp] theorem updPwr_itu (f : Pwr → Pwr) (s : State) : (s.updPwr f).itu = s.itu := rfl
@[simp] theorem updPwr_fcu (f : Pwr → Pwr) (s : State) : (s.updPwr f).fcu = s.fcu := rfl
@[simp] theorem updPwr_hr (f : Pwr → Pwr) (s : State) : (s.updPwr f).hr = s.hr := rfl
@[simp] theorem updPwr_dbg (f : Pwr → Pwr) (s : State) : (s.updPwr f).dbg = s.dbg := rfl
@[simp] theorem updPwr_pwr (f : Pwr → Pwr) (s : State) : (s.updPwr f).pwr = f s.pwr := rfl
@[simp] theorem updPwr_mgt (f : Pwr → Pwr) (s : State) : (s.updPwr f).mgt = s.mgt := rfl
@[simp] theorem updPwr_draws (f : Pwr → Pwr) (s : State) : (s.updPwr f).draws = s.draws := rfl
@[simp] theorem updPwr_frees (f : Pwr → Pwr) (s : State) : (s.updPwr f).frees = s.frees := rfl
@[simp] theorem updPwr_out (f : Pwr → Pwr) (s : State) : (s.updPwr f).out = s.out := rfl

@[simp] theorem updMgt_pending (f : Mgt → Mgt) (s : State) : (s.updMgt f).pending = s.pending := rfl
@[simp] theorem updMgt_conf (f : Mgt → Mgt) (s : State) : (s.updMgt f).conf = s.conf := rfl
@[simp] theorem updMgt_pins (f : Mgt → Mgt) (s : State) : (s.updMgt f).pins = s.pins := rfl
@[simp] theorem updMgt_mp (f : Mgt → Mgt) (s : State) : (s.updMgt f).mp = s.mp := rfl
@[simp] theorem updMgt_mpNext (f : Mgt → Mgt) (s : State) : (s.updMgt f).mpNext = s.mpNext := rfl
@[simp] theorem updMgt_hostReads (f : Mgt → Mgt) (s : State) : (s.updMgt f).hostReads = s.hostReads := rfl
@[simp] theorem updMgt_kv (f : Mgt → Mgt) (s : State) : (s.updMgt f).kv = s.kv := rfl
@[simp] theorem updMgt_lc (f : Mgt → Mgt) (s : State) : (s.updMgt f).lc = s.lc := rfl
@[simp] theorem updMgt_att (f : Mgt → Mgt) (s : State) : (s.updMgt f).att = s.att := rfl
@[simp] theorem updMgt_dom (f : Mgt → Mgt) (s : State) : (s.updMgt f).dom = s.dom := rfl
@[simp] theorem updMgt_ls (f : Mgt → Mgt) (s : State) : (s.updMgt f).ls = s.ls := rfl
@[simp] theorem updMgt_ln (f : Mgt → Mgt) (s : State) : (s.updMgt f).ln = s.ln := rfl
@[simp] theorem updMgt_tr (f : Mgt → Mgt) (s : State) : (s.updMgt f).tr = s.tr := rfl
@[simp] theorem updMgt_mv (f : Mgt → Mgt) (s : State) : (s.updMgt f).mv = s.mv := rfl
@[simp] theorem updMgt_rd (f : Mgt → Mgt) (s : State) : (s.updMgt f).rd = s.rd := rfl
@[simp] theorem updMgt_au (f : Mgt → Mgt) (s : State) : (s.updMgt f).au = s.au := rfl
@[simp] theorem updMgt_fe (f : Mgt → Mgt) (s : State) : (s.updMgt f).fe = s.fe := rfl
@[simp] theorem updMgt_adm (f : Mgt → Mgt) (s : State) : (s.updMgt f).adm = s.adm := rfl
@[simp] theorem updMgt_fs (f : Mgt → Mgt) (s : State) : (s.updMgt f).fs = s.fs := rfl
@[simp] theorem updMgt_itu (f : Mgt → Mgt) (s : State) : (s.updMgt f).itu = s.itu := rfl
@[simp] theorem updMgt_fcu (f : Mgt → Mgt) (s : State) : (s.updMgt f).fcu = s.fcu := rfl
@[simp] theorem updMgt_hr (f : Mgt → Mgt) (s : State) : (s.updMgt f).hr = s.hr := rfl
@[simp] theorem updMgt_dbg (f : Mgt → Mgt) (s : State) : (s.updMgt f).dbg = s.dbg := rfl
@[simp] theorem updMgt_pwr (f : Mgt → Mgt) (s : State) : (s.updMgt f).pwr = s.pwr := rfl
@[simp] theorem updMgt_mgt (f : Mgt → Mgt) (s : State) : (s.updMgt f).mgt = f s.mgt := rfl
@[simp] theorem updMgt_draws (f : Mgt → Mgt) (s : State) : (s.updMgt f).draws = s.draws := rfl
@[simp] theorem updMgt_frees (f : Mgt → Mgt) (s : State) : (s.updMgt f).frees = s.frees := rfl
@[simp] theorem updMgt_out (f : Mgt → Mgt) (s : State) : (s.updMgt f).out = s.out := rfl

@[simp] theorem setMp_pending (l : List MpReq) (s : State) : (s.setMp l).pending = s.pending := rfl
@[simp] theorem setMp_conf (l : List MpReq) (s : State) : (s.setMp l).conf = s.conf := rfl
@[simp] theorem setMp_pins (l : List MpReq) (s : State) : (s.setMp l).pins = s.pins := rfl
@[simp] theorem setMp_mp (l : List MpReq) (s : State) : (s.setMp l).mp = l := rfl
@[simp] theorem setMp_mpNext (l : List MpReq) (s : State) : (s.setMp l).mpNext = s.mpNext := rfl
@[simp] theorem setMp_hostReads (l : List MpReq) (s : State) : (s.setMp l).hostReads = s.hostReads := rfl
@[simp] theorem setMp_kv (l : List MpReq) (s : State) : (s.setMp l).kv = s.kv := rfl
@[simp] theorem setMp_lc (l : List MpReq) (s : State) : (s.setMp l).lc = s.lc := rfl
@[simp] theorem setMp_att (l : List MpReq) (s : State) : (s.setMp l).att = s.att := rfl
@[simp] theorem setMp_dom (l : List MpReq) (s : State) : (s.setMp l).dom = s.dom := rfl
@[simp] theorem setMp_ls (l : List MpReq) (s : State) : (s.setMp l).ls = s.ls := rfl
@[simp] theorem setMp_ln (l : List MpReq) (s : State) : (s.setMp l).ln = s.ln := rfl
@[simp] theorem setMp_tr (l : List MpReq) (s : State) : (s.setMp l).tr = s.tr := rfl
@[simp] theorem setMp_mv (l : List MpReq) (s : State) : (s.setMp l).mv = s.mv := rfl
@[simp] theorem setMp_rd (l : List MpReq) (s : State) : (s.setMp l).rd = s.rd := rfl
@[simp] theorem setMp_au (l : List MpReq) (s : State) : (s.setMp l).au = s.au := rfl
@[simp] theorem setMp_fe (l : List MpReq) (s : State) : (s.setMp l).fe = s.fe := rfl
@[simp] theorem setMp_adm (l : List MpReq) (s : State) : (s.setMp l).adm = s.adm := rfl
@[simp] theorem setMp_fs (l : List MpReq) (s : State) : (s.setMp l).fs = s.fs := rfl
@[simp] theorem setMp_itu (l : List MpReq) (s : State) : (s.setMp l).itu = s.itu := rfl
@[simp] theorem setMp_fcu (l : List MpReq) (s : State) : (s.setMp l).fcu = s.fcu := rfl
@[simp] theorem setMp_hr (l : List MpReq) (s : State) : (s.setMp l).hr = s.hr := rfl
@[simp] theorem setMp_dbg (l : List MpReq) (s : State) : (s.setMp l).dbg = s.dbg := rfl
@[simp] theorem setMp_pwr (l : List MpReq) (s : State) : (s.setMp l).pwr = s.pwr := rfl
@[simp] theorem setMp_mgt (l : List MpReq) (s : State) : (s.setMp l).mgt = s.mgt := rfl
@[simp] theorem setMp_draws (l : List MpReq) (s : State) : (s.setMp l).draws = s.draws := rfl
@[simp] theorem setMp_frees (l : List MpReq) (s : State) : (s.setMp l).frees = s.frees := rfl
@[simp] theorem setMp_out (l : List MpReq) (s : State) : (s.setMp l).out = s.out := rfl

@[simp] theorem setHostReads_pending (l : List HostRd) (s : State) : (s.setHostReads l).pending = s.pending := rfl
@[simp] theorem setHostReads_conf (l : List HostRd) (s : State) : (s.setHostReads l).conf = s.conf := rfl
@[simp] theorem setHostReads_pins (l : List HostRd) (s : State) : (s.setHostReads l).pins = s.pins := rfl
@[simp] theorem setHostReads_mp (l : List HostRd) (s : State) : (s.setHostReads l).mp = s.mp := rfl
@[simp] theorem setHostReads_mpNext (l : List HostRd) (s : State) : (s.setHostReads l).mpNext = s.mpNext := rfl
@[simp] theorem setHostReads_hostReads (l : List HostRd) (s : State) : (s.setHostReads l).hostReads = l := rfl
@[simp] theorem setHostReads_kv (l : List HostRd) (s : State) : (s.setHostReads l).kv = s.kv := rfl
@[simp] theorem setHostReads_lc (l : List HostRd) (s : State) : (s.setHostReads l).lc = s.lc := rfl
@[simp] theorem setHostReads_att (l : List HostRd) (s : State) : (s.setHostReads l).att = s.att := rfl
@[simp] theorem setHostReads_dom (l : List HostRd) (s : State) : (s.setHostReads l).dom = s.dom := rfl
@[simp] theorem setHostReads_ls (l : List HostRd) (s : State) : (s.setHostReads l).ls = s.ls := rfl
@[simp] theorem setHostReads_ln (l : List HostRd) (s : State) : (s.setHostReads l).ln = s.ln := rfl
@[simp] theorem setHostReads_tr (l : List HostRd) (s : State) : (s.setHostReads l).tr = s.tr := rfl
@[simp] theorem setHostReads_mv (l : List HostRd) (s : State) : (s.setHostReads l).mv = s.mv := rfl
@[simp] theorem setHostReads_rd (l : List HostRd) (s : State) : (s.setHostReads l).rd = s.rd := rfl
@[simp] theorem setHostReads_au (l : List HostRd) (s : State) : (s.setHostReads l).au = s.au := rfl
@[simp] theorem setHostReads_fe (l : List HostRd) (s : State) : (s.setHostReads l).fe = s.fe := rfl
@[simp] theorem setHostReads_adm (l : List HostRd) (s : State) : (s.setHostReads l).adm = s.adm := rfl
@[simp] theorem setHostReads_fs (l : List HostRd) (s : State) : (s.setHostReads l).fs = s.fs := rfl
@[simp] theorem setHostReads_itu (l : List HostRd) (s : State) : (s.setHostReads l).itu = s.itu := rfl
@[simp] theorem setHostReads_fcu (l : List HostRd) (s : State) : (s.setHostReads l).fcu = s.fcu := rfl
@[simp] theorem setHostReads_hr (l : List HostRd) (s : State) : (s.setHostReads l).hr = s.hr := rfl
@[simp] theorem setHostReads_dbg (l : List HostRd) (s : State) : (s.setHostReads l).dbg = s.dbg := rfl
@[simp] theorem setHostReads_pwr (l : List HostRd) (s : State) : (s.setHostReads l).pwr = s.pwr := rfl
@[simp] theorem setHostReads_mgt (l : List HostRd) (s : State) : (s.setHostReads l).mgt = s.mgt := rfl
@[simp] theorem setHostReads_draws (l : List HostRd) (s : State) : (s.setHostReads l).draws = s.draws := rfl
@[simp] theorem setHostReads_frees (l : List HostRd) (s : State) : (s.setHostReads l).frees = s.frees := rfl
@[simp] theorem setHostReads_out (l : List HostRd) (s : State) : (s.setHostReads l).out = s.out := rfl

@[simp] theorem setMpNext_pending (l : Nat) (s : State) : (s.setMpNext l).pending = s.pending := rfl
@[simp] theorem setMpNext_conf (l : Nat) (s : State) : (s.setMpNext l).conf = s.conf := rfl
@[simp] theorem setMpNext_pins (l : Nat) (s : State) : (s.setMpNext l).pins = s.pins := rfl
@[simp] theorem setMpNext_mp (l : Nat) (s : State) : (s.setMpNext l).mp = s.mp := rfl
@[simp] theorem setMpNext_mpNext (l : Nat) (s : State) : (s.setMpNext l).mpNext = l := rfl
@[simp] theorem setMpNext_hostReads (l : Nat) (s : State) : (s.setMpNext l).hostReads = s.hostReads := rfl
@[simp] theorem setMpNext_kv (l : Nat) (s : State) : (s.setMpNext l).kv = s.kv := rfl
@[simp] theorem setMpNext_lc (l : Nat) (s : State) : (s.setMpNext l).lc = s.lc := rfl
@[simp] theorem setMpNext_att (l : Nat) (s : State) : (s.setMpNext l).att = s.att := rfl
@[simp] theorem setMpNext_dom (l : Nat) (s : State) : (s.setMpNext l).dom = s.dom := rfl
@[simp] theorem setMpNext_ls (l : Nat) (s : State) : (s.setMpNext l).ls = s.ls := rfl
@[simp] theorem setMpNext_ln (l : Nat) (s : State) : (s.setMpNext l).ln = s.ln := rfl
@[simp] theorem setMpNext_tr (l : Nat) (s : State) : (s.setMpNext l).tr = s.tr := rfl
@[simp] theorem setMpNext_mv (l : Nat) (s : State) : (s.setMpNext l).mv = s.mv := rfl
@[simp] theorem setMpNext_rd (l : Nat) (s : State) : (s.setMpNext l).rd = s.rd := rfl
@[simp] theorem setMpNext_au (l : Nat) (s : State) : (s.setMpNext l).au = s.au := rfl
@[simp] theorem setMpNext_fe (l : Nat) (s : State) : (s.setMpNext l).fe = s.fe := rfl
@[simp] theorem setMpNext_adm (l : Nat) (s : State) : (s.setMpNext l).adm = s.adm := rfl
@[simp] theorem setMpNext_fs (l : Nat) (s : State) : (s.setMpNext l).fs = s.fs := rfl
@[simp] theorem setMpNext_itu (l : Nat) (s : State) : (s.setMpNext l).itu = s.itu := rfl
@[simp] theorem setMpNext_fcu (l : Nat) (s : State) : (s.setMpNext l).fcu = s.fcu := rfl
@[simp] theorem setMpNext_hr (l : Nat) (s : State) : (s.setMpNext l).hr = s.hr := rfl
@[simp] theorem setMpNext_dbg (l : Nat) (s : State) : (s.setMpNext l).dbg = s.dbg := rfl
@[simp] theorem setMpNext_pwr (l : Nat) (s : State) : (s.setMpNext l).pwr = s.pwr := rfl
@[simp] theorem setMpNext_mgt (l : Nat) (s : State) : (s.setMpNext l).mgt = s.mgt := rfl
@[simp] theorem setMpNext_draws (l : Nat) (s : State) : (s.setMpNext l).draws = s.draws := rfl
@[simp] theorem setMpNext_frees (l : Nat) (s : State) : (s.setMpNext l).frees = s.frees := rfl
@[simp] theorem setMpNext_out (l : Nat) (s : State) : (s.setMpNext l).out = s.out := rfl

@[simp] theorem emit_pending (x : Out) (s : State) : (s.emit x).pending = s.pending := rfl
@[simp] theorem emit_conf (x : Out) (s : State) : (s.emit x).conf = s.conf := rfl
@[simp] theorem emit_pins (x : Out) (s : State) : (s.emit x).pins = s.pins := rfl
@[simp] theorem emit_mp (x : Out) (s : State) : (s.emit x).mp = s.mp := rfl
@[simp] theorem emit_mpNext (x : Out) (s : State) : (s.emit x).mpNext = s.mpNext := rfl
@[simp] theorem emit_hostReads (x : Out) (s : State) : (s.emit x).hostReads = s.hostReads := rfl
@[simp] theorem emit_kv (x : Out) (s : State) : (s.emit x).kv = s.kv := rfl
@[simp] theorem emit_lc (x : Out) (s : State) : (s.emit x).lc = s.lc := rfl
@[simp] theorem emit_att (x : Out) (s : State) : (s.emit x).att = s.att := rfl
@[simp] theorem emit_dom (x : Out) (s : State) : (s.emit x).dom = s.dom := rfl
@[simp] theorem emit_ls (x : Out) (s : State) : (s.emit x).ls = s.ls := rfl
@[simp] theorem emit_ln (x : Out) (s : State) : (s.emit x).ln = s.ln := rfl
@[simp] theorem emit_tr (x : Out) (s : State) : (s.emit x).tr = s.tr := rfl
@[simp] theorem emit_mv (x : Out) (s : State) : (s.emit x).mv = s.mv := rfl
@[simp] theorem emit_rd (x : Out) (s : State) : (s.emit x).rd = s.rd := rfl
@[simp] theorem emit_au (x : Out) (s : State) : (s.emit x).au = s.au := rfl
@[simp] theorem emit_fe (x : Out) (s : State) : (s.emit x).fe = s.fe := rfl
@[simp] theorem emit_adm (x : Out) (s : State) : (s.emit x).adm = s.adm := rfl
@[simp] theorem emit_fs (x : Out) (s : State) : (s.emit x).fs = s.fs := rfl
@[simp] theorem emit_itu (x : Out) (s : State) : (s.emit x).itu = s.itu := rfl
@[simp] theorem emit_fcu (x : Out) (s : State) : (s.emit x).fcu = s.fcu := rfl
@[simp] theorem emit_hr (x : Out) (s : State) : (s.emit x).hr = s.hr := rfl
@[simp] theorem emit_dbg (x : Out) (s : State) : (s.emit x).dbg = s.dbg := rfl
@[simp] theorem emit_pwr (x : Out) (s : State) : (s.emit x).pwr = s.pwr := rfl
@[simp] theorem emit_mgt (x : Out) (s : State) : (s.emit x).mgt = s.mgt := rfl
@[simp] theorem emit_draws (x : Out) (s : State) : (s.emit x).draws = s.draws := rfl
@[simp] theorem emit_frees (x : Out) (s : State) : (s.emit x).frees = s.frees := rfl
@[simp] theorem emit_out (x : Out) (s : State) : (s.emit x).out = x :: s.out := rfl

@[simp] theorem drew_pending (s : State) : s.drew.pending = s.pending := rfl
@[simp] theorem drew_conf (s : State) : s.drew.conf = s.conf := rfl
@[simp] theorem drew_pins (s : State) : s.drew.pins = s.pins := rfl
@[simp] theorem drew_mp (s : State) : s.drew.mp = s.mp := rfl
@[simp] theorem drew_mpNext (s : State) : s.drew.mpNext = s.mpNext := rfl
@[simp] theorem drew_hostReads (s : State) : s.drew.hostReads = s.hostReads := rfl
@[simp] theorem drew_kv (s : State) : s.drew.kv = s.kv := rfl
@[simp] theorem drew_lc (s : State) : s.drew.lc = s.lc := rfl
@[simp] theorem drew_att (s : State) : s.drew.att = s.att := rfl
@[simp] theorem drew_dom (s : State) : s.drew.dom = s.dom := rfl
@[simp] theorem drew_ls (s : State) : s.drew.ls = s.ls := rfl
@[simp] theorem drew_ln (s : State) : s.drew.ln = s.ln := rfl
@[simp] theorem drew_tr (s : State) : s.drew.tr = s.tr := rfl
@[simp] theorem drew_mv (s : State) : s.drew.mv = s.mv := rfl
@[simp] theorem drew_rd (s : State) : s.drew.rd = s.rd := rfl
@[simp] theorem drew_au (s : State) : s.drew.au = s.au := rfl
@[simp] theorem drew_fe (s : State) : s.drew.fe = s.fe := rfl
@[simp] theorem drew_adm (s : State) : s.drew.adm = s.adm := rfl
@[simp] theorem drew_fs (s : State) : s.drew.fs = s.fs := rfl
@[simp] theorem drew_itu (s : State) : s.drew.itu = s.itu := rfl
@[simp] theorem drew_fcu (s : State) : s.drew.fcu = s.fcu := rfl
@[simp] theorem drew_hr (s : State) : s.drew.hr = s.hr := rfl
@[simp] theorem drew_dbg (s : State) : s.drew.dbg = s.dbg := rfl
@[simp] theorem drew_pwr (s : State) : s.drew.pwr = s.pwr := rfl
@[simp] theorem drew_mgt (s : State) : s.drew.mgt = s.mgt := rfl
@[simp] theorem drew_draws (s : State) : s.drew.draws = s.draws + 1 := rfl
@[simp] theorem drew_frees (s : State) : s.drew.frees = s.frees := rfl
@[simp] theorem drew_out (s : State) : s.drew.out = s.out := rfl

@[simp] theorem opened_pending (s : State) : s.opened.pending = s.pending := rfl
@[simp] theorem opened_conf (s : State) : s.opened.conf = s.conf := rfl
@[simp] theorem opened_pins (s : State) : s.opened.pins = s.pins := rfl
@[simp] theorem opened_mp (s : State) : s.opened.mp = s.mp := rfl
@[simp] theorem opened_mpNext (s : State) : s.opened.mpNext = s.mpNext := rfl
@[simp] theorem opened_hostReads (s : State) : s.opened.hostReads = s.hostReads := rfl
@[simp] theorem opened_kv (s : State) : s.opened.kv = s.kv := rfl
@[simp] theorem opened_lc (s : State) : s.opened.lc = s.lc := rfl
@[simp] theorem opened_att (s : State) : s.opened.att = s.att := rfl
@[simp] theorem opened_dom (s : State) : s.opened.dom = s.dom := rfl
@[simp] theorem opened_ls (s : State) : s.opened.ls = s.ls := rfl
@[simp] theorem opened_ln (s : State) : s.opened.ln = s.ln := rfl
@[simp] theorem opened_tr (s : State) : s.opened.tr = s.tr := rfl
@[simp] theorem opened_mv (s : State) : s.opened.mv = s.mv := rfl
@[simp] theorem opened_rd (s : State) : s.opened.rd = s.rd := rfl
@[simp] theorem opened_au (s : State) : s.opened.au = s.au := rfl
@[simp] theorem opened_fe (s : State) : s.opened.fe = s.fe := rfl
@[simp] theorem opened_adm (s : State) : s.opened.adm = s.adm := rfl
@[simp] theorem opened_fs (s : State) : s.opened.fs = s.fs := rfl
@[simp] theorem opened_itu (s : State) : s.opened.itu = s.itu := rfl
@[simp] theorem opened_fcu (s : State) : s.opened.fcu = s.fcu := rfl
@[simp] theorem opened_hr (s : State) : s.opened.hr = s.hr := rfl
@[simp] theorem opened_dbg (s : State) : s.opened.dbg = s.dbg := rfl
@[simp] theorem opened_pwr (s : State) : s.opened.pwr = s.pwr := rfl
@[simp] theorem opened_mgt (s : State) : s.opened.mgt = s.mgt := rfl
@[simp] theorem opened_draws (s : State) : s.opened.draws = s.draws := rfl
@[simp] theorem opened_frees (s : State) : s.opened.frees = s.frees + 1 := rfl
@[simp] theorem opened_out (s : State) : s.opened.out = s.out := rfl

end Sys2Proof.Machine.State
end

