-- ==== Sys2Proof/WellFormed.lean ====
section
/-! DEFINITION. Which terms of Instr are commands that the block's surroundings can send: every operand within the range that the
spec gives its field, in the largest configuration. The meanings are total and say for themselves what an operand past the limit
of a smaller configuration does. -/

namespace Sys2Proof

-- One declaration at a time, so that the elaborator holds few threads (each takes stack of its own).
set_option Elab.async false

/-- A register address: in the windows of the Keeper's bus, or in a 64 KiB page (R22, R39). -/
def busAddr (b : Bus) (a : Nat) : Bool := match b with | .keeper => decide (a < 0x110000) | .page p => decide (p < 4097 ∧ a < 65536)

/-- A TLP: function 0 or a virtual function, payloads of at most 512 bytes inside the page (R39-R42). -/
def tlpOk (t : Tlp) : Bool :=
  decide (t.func < 4097) && match t.kind with
    | .memRead off len => decide (off + len ≤ 65536 ∧ len ≤ 512)
    | .memWrite off data => decide (off + data.length ≤ 65536 ∧ data.length ≤ 512)
    | .cfgRead off => decide (off < 4096)
    | .cfgWrite off _ => decide (off < 4096)
    | .completion _ _ data => decide (data.length ≤ 4096)
    | .message => true

/-- A remote memory request of the compute array (R46). -/
def cpReqOk (r : CpReq) : Bool := decide (r.hall < 4096)

/-- A pooled access (R196). -/
def lineAccOk (r : LineAcc) : Bool := decide (r.hall < 4096 ∧ r.region < 1280)

/-- A frame: whole beats of 32 bytes with its header (R149, R151). -/
def frameOk (b : Bytes) : Bool := decide (32 ≤ b.length) && b.length % 32 == 0

/-- A path of a Slate request (R133). -/
def pathOk : SlatePath → Bool
  | .operatorPage => true
  | .hallPage hall => decide (hall < 4096)
  | .action _ hall => decide (hall < 65536)

/-- The well-formed commands. -/
def Instr.wf : Instr → Bool
  | .registerWrite bus addr _ => busAddr bus addr
  | .rcRegisterRead bus addr => busAddr bus addr
  | .lowWordReadLatch bus addr => busAddr bus addr
  | .lowWordWriteHold bus addr _ => busAddr bus addr
  | .hpTlpReceive tlp => tlpOk tlp
  | .hpFlr func => decide (func < 4097)
  | .hpFlrDone func => decide (func < 4097)
  | .cpReqReceive r => cpReqOk r
  | .mpResponse port _ _ _ data => decide (port < 16) && decide (data.length ≤ 128)
  | .linkFrameReceive lane _ _ frame => decide (lane < 64) && frameOk frame.bytes
  | .frameRelease ctx => decide (ctx < 512)
  | .laneUpFall lane => decide (lane < 64)
  | .laneUpRise lane => decide (lane < 64)
  | .s1SelfWake port => decide (port < 4)
  | .extFaultRise n => decide (n < 8)
  | .keyLookup l => decide (l.unit < 4096 ∧ l.hall < 4096)
  | .keyRegisterDrop unit => decide (unit < 4096)
  | .transition _ arg => decide (arg.length ≤ 1368)
  | .rollbackCommit _ arg => decide (arg.length ≤ 1368)
  | .debugCert _ arg => decide (arg.length ≤ 1368)
  | .consent _ arg => decide (arg.length ≤ 1368)
  | .measExtend _ arg => decide (arg.length ≤ 1368)
  | .slateRequest path nonce => pathOk path && decide (nonce.length = 32)
  | .mailboxRequest page _ => decide (page < 4097)
  | .spdmMsg _ arg => decide (arg.length ≤ 1368)
  | .doeDiscovery index => decide (index < 256)
  | .getCertificate _ slot offset length => decide (slot < 16) && decide (offset < 65536) && decide (length < 65536)
  | .challenge _ slot _ nonce => decide (slot < 16) && decide (nonce.length = 32)
  | .getMeasurements _ index _ nonce => decide (index < 256) && decide (nonce.length = 32)
  | .keyProg _ stream sub _ ks _ => decide (stream < 65) && decide (sub < 3) && decide (ks < 2)
  | .kSetGo _ stream sub _ ks => decide (stream < 65) && decide (sub < 3) && decide (ks < 2)
  | .kSetStop _ stream sub _ ks => decide (stream < 65) && decide (sub < 3) && decide (ks < 2)
  | .getTdispVersion hall => decide (hall < 4096)
  | .getTdispCapabilities hall => decide (hall < 4096)
  | .lockInterfaceRequest hall stream => decide (hall < 4096) && decide (stream < 65)
  | .getDeviceInterfaceReport hall => decide (hall < 4096)
  | .getDeviceInterfaceState hall => decide (hall < 4096)
  | .startInterfaceRequest hall _ => decide (hall < 4096)
  | .stopInterfaceRequest hall => decide (hall < 4096)
  | .stopInterfaceAnswer hall => decide (hall < 4096)
  | .manifestChunk _ arg => decide (arg.length ≤ 1368)
  | .planChunk _ arg => decide (arg.length ≤ 1368)
  | .domainRoot _ arg => decide (arg.length ≤ 1368)
  | .memberLost _ arg => decide (arg.length ≤ 1368)
  | .epochPrepare _ arg => decide (arg.length ≤ 1368)
  | .epochSwitch _ arg => decide (arg.length ≤ 1368)
  | .epochRetire _ arg => decide (arg.length ≤ 1368)
  | .switchInstant ctx => decide (ctx < 512)
  | .hallRetireMessage ctx msg => decide (ctx < 512) && decide (msg.length ≤ 64)
  | .txFrameSeal ctx _ => decide (ctx < 512)
  | .frameSent lane => decide (lane < 64)
  | .txFailover pipe => decide (pipe < 68)
  | .rxFailover pipe => decide (pipe < 68)
  | .streamAbandon _ arg => decide (arg.length ≤ 1368)
  | .lineWrite r data => lineAccOk r && decide (data.length = 64)
  | .partialWrite r _ data => lineAccOk r && decide (data.length = 64)
  | .lineRead r => lineAccOk r
  | .lineRspReceive pipe payload => decide (pipe < 8) && decide (payload.length ≤ 4096)
  | .regionSealComplete region => decide (region < 1280)
  | .regionEraseComplete region => decide (region < 1280)
  | .treeCounterRead region line => decide (region < 256) && decide (line < 2 ^ 36)
  | .treeCounterIncrement region line => decide (region < 256) && decide (line < 2 ^ 36)
  | .nodeFetchResponse payload => decide (payload.length ≤ 4096)
  | .nodeWritebackResponse payload => decide (payload.length ≤ 4096)
  | .move q => decide (q < 16384)
  | .moverSegment m => decide (m < 16)
  | .moverDescriptorComplete m => decide (m < 16)
  | .moverAbortToken m q _ => decide (m < 16) && decide (q < 16384)
  | .reduce q => decide (q < 16384)
  | .reductionSlice u slot lines => decide (u < 8) && decide (slot < 4) && (lines.all fun l => decide (l.data.length = 64))
  | .reductionSlotComplete u slot => decide (u < 8) && decide (slot < 4)
  | .homeReqAccept ctx => decide (ctx < 512)
  | .atomicUpdateApply entry => decide (entry < 4096)
  | .combiningFillDone entry _ data => decide (entry < 4096) && decide (data.length ≤ 64)
  | .rspItemReceive ctx => decide (ctx < 512)
  | .queueCreate _ arg => decide (arg.length ≤ 1368)
  | .queueDestroy _ arg => decide (arg.length ≤ 1368)
  | .queueDestroyFinish q => decide (q < 16384)
  | .doorbell hall slot _ => decide (hall < 4096) && decide (slot < 256)
  | .queueActivate q => decide (q < 16384)
  | .ringEntryFetched q entry => decide (q < 16384) && decide (entry.length ≤ 16)
  | .commandChunkFetched q data => decide (q < 16384) && decide (data.length ≤ 592)
  | .launch q => decide (q < 16384)
  | .signal q => decide (q < 16384)
  | .signalApply q => decide (q < 16384)
  | .wait q => decide (q < 16384)
  | .waitGraphWalk q => decide (q < 16384)
  | .atomic q => decide (q < 16384)
  | .condJump q => decide (q < 16384)
  | .loop q => decide (q < 16384)
  | .call q => decide (q < 16384)
  | .ret q => decide (q < 16384)
  | .setReg q => decide (q < 16384)
  | .mark q => decide (q < 16384)
  | .takeOverrun slot => decide (slot < 16)
  | .fenceCreate _ arg => decide (arg.length ≤ 1368)
  | .fenceDestroy _ arg => decide (arg.length ≤ 1368)
  | .fenceClear _ arg => decide (arg.length ≤ 1368)
  | .semAlloc _ arg => decide (arg.length ≤ 1368)
  | .semFree _ arg => decide (arg.length ≤ 1368)
  | .msixMessage hall vector => decide (hall < 4096) && decide (vector < 8)
  | .hallCreate _ arg => decide (arg.length ≤ 1368)
  | .hallDestroy _ arg => decide (arg.length ≤ 1368)
  | .retireDrainDone hall => decide (hall < 4096)
  | .hallGrant _ arg => decide (arg.length ≤ 1368)
  | .hallUngrant _ arg => decide (arg.length ≤ 1368)
  | .map _ arg => decide (arg.length ≤ 1368)
  | .unmap _ arg => decide (arg.length ≤ 1368)
  | .ituSave pages => pages.all fun p => decide (p.length ≤ 4096)
  | .hallFreeze _ arg => decide (arg.length ≤ 1368)
  | .hallFreezeComplete hall => decide (hall < 4096)
  | .hallSave _ arg pages => decide (arg.length ≤ 1368) && (pages.all fun p => decide (p.length ≤ 4096))
  | .hallRestore _ arg _ => decide (arg.length ≤ 1368)
  | .hallThaw _ arg => decide (arg.length ≤ 1368)
  | .migrateDone _ arg => decide (arg.length ≤ 1368)
  | .hallQuery _ arg => decide (arg.length ≤ 1368)
  | .translationLookup r => decide (r.hall < 4096 ∧ r.unit < 4096)
  | .walkReadResponse walk _ => decide (walk < 64)
  | .faultMessageAccept source _ => decide (source < 4096)
  | .faultInject _ arg => decide (arg.length ≤ 1368)
  | .queueT0Reset q => decide (q < 16384)
  | .queueT0Finish q => decide (q < 16384)
  | .engineT1Reset unit => decide (unit < 4096)
  | .sliceT2Reset slice => decide (slice < 4)
  | .treadWindowMiss tread _ => decide (tread < 5)
  | .landingDrainEnd tread _ => decide (tread < 5)
  | .resetOrder _ arg => decide (arg.length ≤ 1368)
  | .cutArm _ arg => decide (arg.length ≤ 1368)
  | .dailiesRecord _ unit _ _ => decide (unit < 4096)
  | .lateArrival channel _ => decide (channel < 256)
  | .cutOrderReceive ctx msg => decide (ctx < 512) && decide (msg.length ≤ 64)
  | .rushesTick unit => decide (unit < 4096)
  | .rushesRead _ arg => decide (arg.length ≤ 1368)
  | .pmatchWrite hall slot _ => decide (hall < 4096) && decide (slot < 16)
  | .timeMessageReceive ctx msg => decide (ctx < 512) && decide (msg.length ≤ 64)
  | .timeParent _ arg => decide (arg.length ≤ 1368)
  | .recoveryWrite _ arg => decide (arg.length ≤ 1368)
  | .shutdown _ arg => decide (arg.length ≤ 1368)
  | .rootStoreUse _ arg => decide (arg.length ≤ 1368)
  | .mgtFrameReceive f => decide (f.payload.length ≤ 1452 ∧ f.port < 65536)
  | .announceReceive m => decide (m.length ≤ 1452)
  | .claimReceive m => decide (m.length ≤ 1452)
  | .defendReceive m => decide (m.length ≤ 1452)
  | .neighborSolicitation target => decide (target.length = 16)
  | .echoRequest payload => decide (payload.length ≤ 1456)
  | .callSheetGet _ msg => decide (msg.length ≤ 16384)
  | .callSheetSet _ msg => decide (msg.length ≤ 16384)
  | .callSheetGetMulti _ msg => decide (msg.length ≤ 16384)
  | .callSheetAction _ msg => decide (msg.length ≤ 16384)
  | .callSheetSubscribe _ msg => decide (msg.length ≤ 16384)
  | .keyQuery _ arg => decide (arg.length ≤ 1368)
  | .logRead _ arg => decide (arg.length ≤ 1368)
  | .counterRead _ arg => decide (arg.length ≤ 1368)
  | .hallCounters _ arg => decide (arg.length ≤ 1368)
  | .otpProgram _ arg => decide (arg.length ≤ 1368)
  | .streamQuery _ arg => decide (arg.length ≤ 1368)
  | .regionQuery _ arg => decide (arg.length ≤ 1368)
  | .regionInstall _ arg => decide (arg.length ≤ 1368)
  | .regionSeal _ arg => decide (arg.length ≤ 1368)
  | .regionErase _ arg => decide (arg.length ≤ 1368)
  | .regionFree _ arg => decide (arg.length ≤ 1368)
  | .factoryCertWrite _ arg => decide (arg.length ≤ 1368)
  | .extFaultFall n => decide (n < 8)
  | .localTimebaseCorrection _ _ | .cpCompletion _ | .powerOnReset _ | .fpWake | .fpPackRise | .fpPackFall
  | .otpProgramDone | .scanModeRequest _ | .derivationQueueAdmit | .fastDerivationDone | .deriveHmac _ | .deriveFast _
  | .unwrap _ | .importKey _ | .retire | .retireMatch | .setBudget | .wipeAll | .kvQuery | .lcBegin _ | .lcEraseReport
  | .lcCommit | .lcRollbackAdvance | .lcNewNonce | .lcGrant | .lcClearRights | .debugNonce _ | .atExtend _ | .atDiceStep _
  | .atSign | .slateComplete | .getVersion _ | .getCapabilities _ _ | .negotiateAlgorithms _ _ | .getDigests _
  | .keyExchange _ _ _ | .finish _ _ _ | .endSession _ _ | .ideKmQuery _ | .joinCommit _ | .leave _ | .lsTxBind _
  | .lsRxBind _ | .lsUnbind _ | .lsAbandon _ | .lsArmSwitch | .lsQuery _ | .lsFailover | .inflightTableAdmit
  | .lnRegionWrite _ _ | .lnRegionFree _ | .lnRegionSeal _ | .lnRegionErase _ | .lnQuery _ | .trRootSave _ _
  | .trRootLoad _ | .trRootDrop _ | .trFlush _ | .trQuery _ | .trInject _ _ | .mvSubmit _ | .mvQuery _ | .rdQuery _ _
  | .rdAbort _ _ | .auFlushHall _ | .auFlushAll | .auInject | .feCmdCreate | .feCmdDestroy | .feCmdQuery _
  | .fsFenceCreate | .fsFenceDestroy | .fsFenceClear | .fsSemAlloc | .fsSemFree | .fsQuery _ _ | .fsFault _ _
  | .unmapComplete _ | .scrubDone _ | .ituClean | .ituQuery _ | .ituHallCreate | .ituHallDestroy | .ituGrant | .ituUngrant
  | .ituMap | .ituUnmap | .ituFreeze | .ituRestore _ | .ituThaw | .ituMigrateDone | .bucketRefill | .autoT3Request
  | .fcuInjArm _ _ | .hangWindowBoundary | .blockT3Reset | .hrReset _ | .hrQuery _ | .cutDisarm _ | .dbgArm _ _
  | .dbgDisarm | .dbgRushesDump | .dbgRingRead | .cutStop | .cutResume | .cclkMultWrite _ | .pllRelockDone
  | .timeExchangeStart | .powerStateEntry | .maskRomBoot | .recoveryCommit _ | .wake _ | .xspiCommand _ _
  | .claimListenEnd | .claimSend | .claimWindowEnd | .announceSend | .noNodeRetry | .plcaBeaconLoss | .dtlsClientHello _
  | .sessionEnd _ | .keyUpdate _ | .actionWaitResponse _ _ | .subscriptionNotify _ _ | .clockLoss _ _ | .otpVppOk
  | .keeperHaltRequest | .plcaBeaconSeen | .dtlsHandshakeFinished _ _ _ => true

end Sys2Proof
end

