-- ==== Sys2Proof/Tests/Slice0.lean ====
section
/-! SUPPORT. Tests: the ill-formed commands that WellFormed refuses, and for every statement of Certificates/Slice0/Obligations.lean
that has hypotheses a concrete state and operands that meet all of them together, for each of its clauses. Where a hypothesis names the
result of a cryptographic function that the model leaves free (Config), the theorem takes that result as a hypothesis. -/

namespace Sys2Proof.Tests

open Sys2Proof Sys2Proof.Machine

-- One theorem at a time: the kernel evaluations need much stack, and each thread would take its own.
set_option Elab.async false
set_option linter.unusedVariables false

/-! ### Ill-formed commands -/

/-- Each of these commands breaks one check of WellFormed. -/
theorem test_ill_formed_1_are_refused : [((.registerWrite .keeper 0x110000 default) : Instr),
  (.registerWrite (.page 4097) 0 default), (.registerWrite (.page 0) 65536 default), (.rcRegisterRead .keeper 0x110000),
  (.rcRegisterRead (.page 4097) 0), (.rcRegisterRead (.page 0) 65536), (.lowWordReadLatch .keeper 0x110000),
  (.lowWordReadLatch (.page 4097) 0), (.lowWordReadLatch (.page 0) 65536), (.lowWordWriteHold .keeper 0x110000 default),
  (.lowWordWriteHold (.page 4097) 0 default), (.lowWordWriteHold (.page 0) 65536 default),
  (.hpTlpReceive { (default : Tlp) with func := 4097 }), (.hpTlpReceive { (default : Tlp) with kind := .memRead 65536 1 }),
  (.hpTlpReceive { (default : Tlp) with kind := .memRead 0 513 }),
  (.hpTlpReceive { (default : Tlp) with kind := .memWrite 65536 [0] }),
  (.hpTlpReceive { (default : Tlp) with kind := .memWrite 0 (List.replicate 513 0#8) }),
  (.hpTlpReceive { (default : Tlp) with kind := .cfgRead 4096 }),
  (.hpTlpReceive { (default : Tlp) with kind := .cfgWrite 4096 0#32 }),
  (.hpTlpReceive { (default : Tlp) with kind := .completion 0 default (List.replicate 4097 0#8) })].all (fun c => !Instr.wf c) = true := by
    decide +kernel

/-- Each of these commands breaks one check of WellFormed. -/
theorem test_ill_formed_2_are_refused : [((.hpFlr 4097) : Instr), (.hpFlrDone 4097),
  (.cpReqReceive { (default : CpReq) with hall := 4096 }), (.mpResponse 16 0 false default []),
  (.mpResponse 0 0 false default (List.replicate 129 0#8)), (.linkFrameReceive 64 default default ⟨true, List.replicate 32 0#8⟩),
  (.linkFrameReceive 0 default default ⟨true, List.replicate 31 0#8⟩),
  (.linkFrameReceive 0 default default ⟨true, List.replicate 33 0#8⟩), (.frameRelease 512), (.laneUpFall 64), (.laneUpRise 64),
  (.s1SelfWake 4), (.extFaultRise 8), (.keyLookup { (default : Lookup) with unit := 4096 }),
  (.keyLookup { (default : Lookup) with hall := 4096 }), (.keyRegisterDrop 4096), (.transition default (List.replicate 1369 0#8)),
  (.rollbackCommit default (List.replicate 1369 0#8)), (.debugCert default (List.replicate 1369 0#8)),
  (.consent default (List.replicate 1369 0#8))].all (fun c => !Instr.wf c) = true := by decide +kernel

/-- Each of these commands breaks one check of WellFormed. -/
theorem test_ill_formed_3_are_refused : [((.measExtend default (List.replicate 1369 0#8)) : Instr),
  (.slateRequest (.hallPage 4096) (List.replicate 32 0#8)), (.slateRequest (.action default 65536) (List.replicate 32 0#8)),
  (.slateRequest .operatorPage []), (.mailboxRequest 4097 default), (.spdmMsg default (List.replicate 1369 0#8)),
  (.doeDiscovery 256), (.getCertificate default 16 0 0), (.getCertificate default 0 65536 0), (.getCertificate default 0 0 65536),
  (.challenge default 16 false (List.replicate 32 0#8)), (.challenge default 0 false []),
  (.getMeasurements default 256 false (List.replicate 32 0#8)), (.getMeasurements default 0 false []),
  (.keyProg 0 65 0 false 0 default), (.keyProg 0 0 3 false 0 default), (.keyProg 0 0 0 false 2 default), (.kSetGo 0 65 0 false 0),
  (.kSetGo 0 0 3 false 0), (.kSetGo 0 0 0 false 2)].all (fun c => !Instr.wf c) = true := by decide +kernel

/-- Each of these commands breaks one check of WellFormed. -/
theorem test_ill_formed_4_are_refused : [((.kSetStop 0 65 0 false 0) : Instr), (.kSetStop 0 0 3 false 0), (.kSetStop 0 0 0 false 2),
  (.getTdispVersion 4096), (.getTdispCapabilities 4096), (.lockInterfaceRequest 4096 0), (.lockInterfaceRequest 0 65),
  (.getDeviceInterfaceReport 4096), (.getDeviceInterfaceState 4096), (.startInterfaceRequest 4096 default),
  (.stopInterfaceRequest 4096), (.stopInterfaceAnswer 4096), (.manifestChunk default (List.replicate 1369 0#8)),
  (.planChunk default (List.replicate 1369 0#8)), (.domainRoot default (List.replicate 1369 0#8)),
  (.memberLost default (List.replicate 1369 0#8)), (.epochPrepare default (List.replicate 1369 0#8)),
  (.epochSwitch default (List.replicate 1369 0#8)), (.epochRetire default (List.replicate 1369 0#8)),
  (.switchInstant 512)].all (fun c => !Instr.wf c) = true := by decide +kernel

/-- Each of these commands breaks one check of WellFormed. -/
theorem test_ill_formed_5_are_refused : [((.hallRetireMessage 512 []) : Instr), (.hallRetireMessage 0 (List.replicate 65 0#8)),
  (.txFrameSeal 512 false), (.frameSent 64), (.txFailover 68), (.rxFailover 68), (.streamAbandon default (List.replicate 1369 0#8)),
  (.lineWrite { (default : LineAcc) with hall := 4096 } (List.replicate 64 0#8)),
  (.lineWrite { (default : LineAcc) with region := 1280 } (List.replicate 64 0#8)), (.lineWrite default []),
  (.partialWrite { (default : LineAcc) with hall := 4096 } default (List.replicate 64 0#8)),
  (.partialWrite { (default : LineAcc) with region := 1280 } default (List.replicate 64 0#8)), (.partialWrite default default []),
  (.lineRead { (default : LineAcc) with hall := 4096 }), (.lineRead { (default : LineAcc) with region := 1280 }),
  (.lineRspReceive 8 []), (.lineRspReceive 0 (List.replicate 4097 0#8)), (.regionSealComplete 1280), (.regionEraseComplete 1280),
  (.treeCounterRead 256 0)].all (fun c => !Instr.wf c) = true := by decide +kernel

/-- Each of these commands breaks one check of WellFormed. -/
theorem test_ill_formed_6_are_refused : [((.treeCounterRead 0 (2 ^ 36)) : Instr), (.treeCounterIncrement 256 0),
  (.treeCounterIncrement 0 (2 ^ 36)), (.nodeFetchResponse (List.replicate 4097 0#8)),
  (.nodeWritebackResponse (List.replicate 4097 0#8)), (.move 16384), (.moverSegment 16), (.moverDescriptorComplete 16),
  (.moverAbortToken 16 0 default), (.moverAbortToken 0 16384 default), (.reduce 16384), (.reductionSlice 8 0 []),
  (.reductionSlice 0 4 []), (.reductionSlice 0 0 [default]), (.reductionSlotComplete 8 0), (.reductionSlotComplete 0 4),
  (.homeReqAccept 512), (.atomicUpdateApply 4096), (.combiningFillDone 4096 default []),
  (.combiningFillDone 0 default (List.replicate 65 0#8))].all (fun c => !Instr.wf c) = true := by decide +kernel

/-- Each of these commands breaks one check of WellFormed. -/
theorem test_ill_formed_7_are_refused : [((.rspItemReceive 512) : Instr), (.queueCreate default (List.replicate 1369 0#8)),
  (.queueDestroy default (List.replicate 1369 0#8)), (.queueDestroyFinish 16384), (.doorbell 4096 0 default),
  (.doorbell 0 256 default), (.queueActivate 16384), (.ringEntryFetched 16384 []), (.ringEntryFetched 0 (List.replicate 17 0#8)),
  (.commandChunkFetched 16384 []), (.commandChunkFetched 0 (List.replicate 593 0#8)), (.launch 16384), (.signal 16384),
  (.signalApply 16384), (.wait 16384), (.waitGraphWalk 16384), (.atomic 16384), (.condJump 16384), (.loop 16384),
  (.call 16384)].all (fun c => !Instr.wf c) = true := by decide +kernel

/-- Each of these commands breaks one check of WellFormed. -/
theorem test_ill_formed_8_are_refused : [((.ret 16384) : Instr), (.setReg 16384), (.mark 16384), (.takeOverrun 16),
  (.fenceCreate default (List.replicate 1369 0#8)), (.fenceDestroy default (List.replicate 1369 0#8)),
  (.fenceClear default (List.replicate 1369 0#8)), (.semAlloc default (List.replicate 1369 0#8)),
  (.semFree default (List.replicate 1369 0#8)), (.msixMessage 4096 0), (.msixMessage 0 8),
  (.hallCreate default (List.replicate 1369 0#8)), (.hallDestroy default (List.replicate 1369 0#8)), (.retireDrainDone 4096),
  (.hallGrant default (List.replicate 1369 0#8)), (.hallUngrant default (List.replicate 1369 0#8)),
  (.map default (List.replicate 1369 0#8)), (.unmap default (List.replicate 1369 0#8)), (.ituSave [List.replicate 4097 0#8]),
  (.hallFreeze default (List.replicate 1369 0#8))].all (fun c => !Instr.wf c) = true := by decide +kernel

/-- Each of these commands breaks one check of WellFormed. -/
theorem test_ill_formed_9_are_refused : [((.hallFreezeComplete 4096) : Instr), (.hallSave default (List.replicate 1369 0#8) []),
  (.hallSave default [] [List.replicate 4097 0#8]), (.hallRestore default (List.replicate 1369 0#8) []),
  (.hallThaw default (List.replicate 1369 0#8)), (.migrateDone default (List.replicate 1369 0#8)),
  (.hallQuery default (List.replicate 1369 0#8)), (.translationLookup { (default : ItuReq) with hall := 4096 }),
  (.translationLookup { (default : ItuReq) with unit := 4096 }), (.walkReadResponse 64 default), (.faultMessageAccept 4096 default),
  (.faultInject default (List.replicate 1369 0#8)), (.queueT0Reset 16384), (.queueT0Finish 16384), (.engineT1Reset 4096),
  (.sliceT2Reset 4), (.treadWindowMiss 5 0), (.landingDrainEnd 5 0), (.resetOrder default (List.replicate 1369 0#8)),
  (.cutArm default (List.replicate 1369 0#8))].all (fun c => !Instr.wf c) = true := by decide +kernel

/-- Each of these commands breaks one check of WellFormed. -/
theorem test_ill_formed_10_are_refused : [((.dailiesRecord default 4096 0 []) : Instr), (.lateArrival 256 0),
  (.cutOrderReceive 512 []), (.cutOrderReceive 0 (List.replicate 65 0#8)), (.rushesTick 4096),
  (.rushesRead default (List.replicate 1369 0#8)), (.pmatchWrite 4096 0 default), (.pmatchWrite 0 16 default),
  (.timeMessageReceive 512 []), (.timeMessageReceive 0 (List.replicate 65 0#8)), (.timeParent default (List.replicate 1369 0#8)),
  (.recoveryWrite default (List.replicate 1369 0#8)), (.shutdown default (List.replicate 1369 0#8)),
  (.rootStoreUse default (List.replicate 1369 0#8)),
  (.mgtFrameReceive { (default : MgtFrame) with payload := (List.replicate 1453 0#8) }),
  (.mgtFrameReceive { (default : MgtFrame) with port := 65536 }), (.announceReceive (List.replicate 1453 0#8)),
  (.claimReceive (List.replicate 1453 0#8)), (.defendReceive (List.replicate 1453 0#8)),
  (.neighborSolicitation [])].all (fun c => !Instr.wf c) = true := by decide +kernel

/-- Each of these commands breaks one check of WellFormed. -/
theorem test_ill_formed_11_are_refused : [((.echoRequest (List.replicate 1457 0#8)) : Instr),
  (.callSheetGet 0 (List.replicate 16385 0#8)), (.callSheetSet 0 (List.replicate 16385 0#8)),
  (.callSheetGetMulti 0 (List.replicate 16385 0#8)), (.callSheetAction 0 (List.replicate 16385 0#8)),
  (.callSheetSubscribe 0 (List.replicate 16385 0#8)), (.keyQuery default (List.replicate 1369 0#8)),
  (.logRead default (List.replicate 1369 0#8)), (.counterRead default (List.replicate 1369 0#8)),
  (.hallCounters default (List.replicate 1369 0#8)), (.otpProgram default (List.replicate 1369 0#8)),
  (.streamQuery default (List.replicate 1369 0#8)), (.regionQuery default (List.replicate 1369 0#8)),
  (.regionInstall default (List.replicate 1369 0#8)), (.regionSeal default (List.replicate 1369 0#8)),
  (.regionErase default (List.replicate 1369 0#8)), (.regionFree default (List.replicate 1369 0#8)),
  (.factoryCertWrite default (List.replicate 1369 0#8)), (.extFaultFall 8)].all (fun c => !Instr.wf c) = true := by decide +kernel

/-! ### States and operands -/

/-- All 39 bits of an OTP word. -/
def full : BitVec 39 := 0x7FFFFFFFFF#39

/-- A block in FIELD that serves: firmware runs, every port is enabled, hall 5 is live, session 0 is an operator's, a domain manager's
and the tenant of the hall. -/
def serving : State :=
  let z := State.reset
  let h : Hall := { (default : Hall) with state := .live, hgen := 3#16, tenant := 7#384 }
  let x : Session := { (default : Session) with live := true, anchored := true, root := 1#384, leaf := 7#384 }
  { z with
    pins := { z.pins with hpEn := true, cpEn := true, lpEn := 15#4, mpEn := 0xFFFF#16, laneUp := 0xFFFFFFFFFFFFFFFF#64 }
    pwr := { z.pwr with phase := .firmware, lockBit := true }
    lc := { z.lc with otp := [(69, 0x1000000#39), (81, 0x1000000#39), (96, full), (97, full)] }
    itu := { z.itu with halls := [(5, h)] }
    mgt := { z.mgt with sessions := [(0, x)] } }

/-- `serving` with its key vault changed. -/
def keys (f : Kv → Kv) : State := serving.updKv f

/-- A label of purpose `p`, class `c`, hall `h`, generation `g`. -/
def lab (p c h g : Nat) : Bytes := natLe p 2 ++ natLe h 2 ++ natLe g 2 ++ List.replicate 21 0#8 ++ natLe c 1 ++ List.replicate 36 0#8

/-- The same label in KV_LABEL. -/
def labWords (p c h g : Nat) : Tab Word := [(0, BitVec.ofNat 32 (p + h * 65536)), (1, BitVec.ofNat 32 g), (6, BitVec.ofNat 32 (c * 2 ^ 24))]

/-- Hall 5's key, in slot 7, which fast derivations may use. -/
def hallSlot : Nat × KeySlot := (7, { (default : KeySlot) with valid := true, handle := 0x30050001#32, level := 3, hgen := 3#16, fastParent := true })

/-- `serving` with an owner's certificate for every right staged, and its nonce. -/
def certS : State :=
  { serving with
    lc := { serving.lc with nonceValid := true }
    kv := { serving.kv with region := Memory.writeBytes 0#8 [] 0 ([1#8, 0x0D#8, 224#8, 0#8, 2#8, 63#8] ++ List.replicate 26 0#8) } }

/-- `serving` with its only hall sealed. -/
def sealedS : State := serving.updItu fun u => { u with halls := [(5, { u.halls.get 5 with mode := .sealed })] }

/-- `serving` with blank OTP: life-cycle state TEST_OPEN. -/
def testS : State := serving.updLc fun l => { l with otp := [] }

/-- The operator, the domain manager, the tenant and the factory, each in session 0. -/
def op : Act := ⟨.operator, 0⟩
def dm : Act := ⟨.domainManager, 0⟩
def ten : Act := ⟨.tenant, 0⟩
def fac : Act := ⟨.factory, 0⟩

/-- `serving` with both SPDM transports negotiated and session 3 finished on the DOE transport. -/
def spdmS : State :=
  let c : SpdmConn := { version := true, caps := true, algs := true, sessions := [Spdm.mk 3 0 true 5 0#384 []], closed := [] }
  serving.updAt fun a => { a with doe := c, callSheet := c, nextSid := 4 }

/-- `sealedS` with hall 5's interface in state `x`. -/
def tdiS (x : Tdi) : State := sealedS.updItu fun u => { u with halls := [(5, { u.halls.get 5 with tdi := x, lockNonce := 9#256, stream := some 63 })] }

/-- Hall 5's TDI stopped with its retire drained, asked for in DOE session 3. -/
def stopS : State :=
  let z := tdiS .run
  { z with
    att := { spdmS.att with doeBox := { (default : DoeBox) with waits := some (3, 5, [1#8, 2#8]) } }
    itu := { z.itu with halls := [(5, { z.itu.halls.get 5 with stopPending := true, drained := true, state := .retiring })] } }

/-- `tdiS .unlocked` in a domain, with stream 63 secure and its address association over every address, for function 6. -/
def lockS : State :=
  { tdiS .unlocked with
    dom := { serving.dom with joined := true }
    att := { serving.att with ideStreams := [(63, { secure := true, insecure := false, regs := [(1, 0x800000#32), (3, 0x600#32), (4, 0x601#32), (5, 0xFFF00001#32), (6, 0xFFFFFFFF#32)] })] } }

/-- Hall 5 in RUN on stream 63, whose posted key of set 0 is active, with MSI-X vector 7 pending and unmasked. -/
def ideS : State :=
  let z := tdiS .run
  { z with
    itu := { z.itu with halls := [(5, { z.itu.halls.get 5 with msixPending := 128#8, msixTable := [(31, 1#32)] })] }
    att := (updIdeKey 63 idePosted true 0 (fun k => { k with active := true }) z).att }

theorem lockS_streamOk (h : Config.barBase 6 + 0xFFFF < 2 ^ 64) : lockStreamOk lockS 5 63 = true := by
  have a : put 20 (bits (ideReg lockS 63 5) 8 12) + put 32 (ideReg lockS 63 7) = 0 := by decide +kernel
  have b : put 20 (bits (ideReg lockS 63 5) 20 12) + 0xFFFFF + put 32 (ideReg lockS 63 6) = 2 ^ 64 - 1 := by decide +kernel
  simp only [lockStreamOk, Bool.and_eq_true, decide_eq_true_eq]
  refine ⟨⟨by decide +kernel, ?_⟩, ?_⟩
  · rw [a]; exact Nat.zero_le _
  · rw [b]; have h' : Config.barBase (5 + 1) + 0xFFFF < 2 ^ 64 := h; omega

/-- A manifest of epoch `e` whose only entry is this block as member 3; its signature is all zeros. -/
def mfDoc (e : Nat) : Bytes :=
  natLe 0x4D01 2 ++ natLe 0 2 ++ natLe 184 4 ++ natLe 1 8 ++ natLe e 4 ++ natLe 1 2 ++ List.replicate 42 0#8
    ++ natLe serving.deviceId 8 ++ natLe 3 2 ++ natLe 0 10 ++ natLe serving.conf.caps.toNat 4 ++ List.replicate 96 0#8

/-- A plan of member 3 without entries under a manifest of digest 0. -/
def planDoc : Bytes := natLe 0x5001 2 ++ natLe 3 2 ++ natLe 160 4 ++ List.replicate 152 0#8

/-- `serving` with a domain root in slot 0, a new manifest of epoch `e` and a new plan. -/
def joinS (e : Nat) : State :=
  { serving with
    dom := { serving.dom with newManifest := some (mfDoc e), newPlan := some planDoc, root := some 0x10000001#32 }
    kv := { serving.kv with slots := [(0, { (default : KeySlot) with valid := true, handle := 0x10000001#32, level := 1 })] } }

/-- `planDoc` has the form of a plan under `mfDoc 1` wherever that manifest's digest is 0. -/
theorem planDoc_form (v : Config.sha384 (mfDoc 1) = 0#384) :
    planForm planDoc (mfMember (joinS 1) (mfDoc 1)) (docDigest (mfDoc 1)) = true := by
  simp only [docDigest, v, planForm]
  decide +kernel

/-- `joinS 6`, joined as member 3 in epoch 5. -/
def joinedS : State := (joinS 6).updDom fun d => { d with joined := true, epoch := 5#32, member := 3#13 }

/-- `serving` with TX context 511 live on lane 63 toward member 3, under the domain key whose lease pipe 66 holds. -/
def txS (f : TxCtx → TxCtx) : State :=
  let c : TxCtx := { (default : TxCtx) with live := true, handle := 0x10000001#32, dst := 3#16, cls := 3#2, lane := 63, nextSeq := 1 }
  { serving with
    ls := { serving.ls with tx := [(511, f c)] }
    kv := { serving.kv with pipes := [(Src.linkTx 63, { (default : PipeKey) with valid := true, handle := 0x10000001#32, slot := 0, hall := 0xFFF, key := 9#256, lease := 5 })] } }

/-- `serving` with the link seal arguments of a bind to member 3, stream 255, lane 63. -/
def lsS : State := serving.updLs fun l => { l with arg0 := 0x10000001#32, arg1 := 0x000300FF#32 }

/-- A region descriptor of hall 5, generation 3, through context 0 to expander 0: 64 KiB of data at 0. -/
def rDesc (vault : Bool) (version : Nat) : Bytes :=
  [if vault then 1#8 else 2#8, 0#8] ++ natLe 5 2 ++ natLe 3 2 ++ natLe 0x2000 2 ++ natLe 0 2 ++ [1#8, 0#8] ++ natLe version 4 ++ natLe 77 8
    ++ natLe (0x40050001 + 2 * version) 4 ++ natLe ((if vault then 0x50050001 else 0x40050002) + 2 * version) 4
    ++ natLe 0 6 ++ natLe 0x10000 6 ++ natLe 1 4 ++ natLe (if vault then 0x20000 else 0) 6 ++ List.replicate 10 0#8

/-- A descriptor's words. -/
def words16 (d : Bytes) : Tab Word := (List.range 16).foldl (fun t i => t.set i (BitVec.ofNat 32 (num d (4 * i) 4))) []

/-- `serving` with hall 5 within its quotas, contexts 0 bound, the tree keys in slots 0 and 1 and `r` as region `n`, whose
descriptor of version 1 also stands in LN_DESC. -/
def lnS (n : Nat) (r : Region) : State :=
  let q : Bytes := List.replicate 64 255#8
  let c : TxCtx := { (default : TxCtx) with live := true, handle := 0x20050001#32, dst := 0x2000#16, cls := 1#2 }
  let x : RxCtx := { (default : RxCtx) with live := true, expander := true, handle := 0x20050002#32, src := 0x2000#16, cls := 1#2 }
  { serving with
    itu := { serving.itu with halls := [(5, { serving.itu.halls.get 5 with quota := q })] }
    ls := { serving.ls with tx := [(0, c)], rx := [(0, x)] }
    kv := { serving.kv with slots := [(0, { (default : KeySlot) with valid := true, handle := 0x50050101#32, level := 2, hgen := 3#16, dpUse := true }),
      (1, { (default : KeySlot) with valid := true, handle := 0x50050102#32, level := 2, hgen := 3#16, dpUse := true })] }
    tr := { serving.tr with nkey := 0x50050102#32, trees := if n < 256 then [(n, { (default : Tree) with state := .active })] else [] }
    ln := { serving.ln with desc := words16 (rDesc (decide (n < 256)) 1), regions := [(n, r)] } }

/-- A reel and a vault region in a state. -/
def reel (x : RState) : Region := { (default : Region) with state := x, desc := rDesc false 0 }
def vault (x : RState) : Region := { (default : Region) with state := x, desc := rDesc true 0, nkey := 0x50050101#32 }

/-- An access to byte `off` of region `n` by hall 5. -/
def acc (n off : Nat) : LineAcc := { port := 9, hall := 5, hgen := 3#16, region := n, offset := off, ticket := 1 }

/-- Vault region 255, whose line 1,023 has counter 7; and the same with the line's leaf node not on chip. -/
def vt7 : State := (lnS 255 (vault .active)).updTr fun t => { t with trees := [(255, { (default : Tree) with
  state := .active, nodes := [(nodeKey 0 63, { (default : Node) with held := true, counters := [(15, 7)] })] })] }
def vtW : State := (lnS 255 (vault .active)).updTr fun t => { t with trees := [(255, { (default : Tree) with
  state := .active, nodes := [(nodeKey 1 3, { (default : Node) with held := true, counters := [(15, 1)] })] })] }

/-- Vault region 255, whose line 1,023 has its counter at the limit; and the same with the line's leaf node poisoned. -/
def vtMax : State := (lnS 255 (vault .active)).updTr fun t => { t with trees := [(255, { (default : Tree) with
  state := .active, nodes := [(nodeKey 0 63, { (default : Node) with held := true, counters := [(15, 2 ^ 60 - 1)] })] })] }
def vtP : State := (lnS 255 (vault .active)).updTr fun t => { t with trees := [(255, { (default : Tree) with
  state := .active, poison := [(0, 63)] })] }

/-- `serving` with the blob of a root of region 255 in TR_BLOB, its MAC all zeros. -/
def blobS : State := serving.updTr fun t => { t with index := 255#8, blob := [(0, 0x00F07201#32), (1, 255#32)] }

/-- A mover descriptor of 64 bytes of local memory, hall 5, with a flag byte of 2. -/
def mDesc (flags : Nat) : Bytes :=
  [0#8, 0#8, BitVec.ofNat 8 flags, 0#8] ++ natLe 64 4 ++ natLe 0 8 ++ natLe 0x1000 8 ++ List.replicate 36 0#8 ++ natLe 5 2 ++ natLe 3 2

/-- `serving` with that descriptor in the RADIO queue of mover 3. -/
def mvS (flags : Nat) : State :=
  serving.updMv fun v => { v with movers := [(3, { (default : Mover) with radio := [{ (default : MDesc) with desc := mDesc flags }] })] }

/-- `serving` with the first page of hall 5 mapped to the first page of local memory. -/
def mapS : State := serving.updItu fun u => { u with halls := [(5, { u.halls.get 5 with leaves := [(pageKey 0, 0x72#128)] })] }

/-- A reduction descriptor of mode 2 for two members: slices of 16 FP32 elements from byte 0, next member 4, previous 6. -/
def rdDoc : Bytes :=
  [2#8, 0x11#8, 1#8, 0#8] ++ natLe 2 2 ++ natLe 0 2 ++ natLe 16 4 ++ natLe 16 4 ++ natLe 0 8 ++ natLe 0x800 8 ++ List.replicate 16 0#8
    ++ natLe 6 2 ++ [1#8, 1#8] ++ natLe 4 2 ++ natLe 9 2 ++ List.replicate 4 0#8 ++ natLe 5 2 ++ natLe 3 2

/-- `s` with slot 3 of reduction unit 7 running that descriptor. -/
def redS (s : State) (f : RedSlot → RedSlot) : State :=
  s.updRd fun k => { k with slots := [(31, f { (default : RedSlot) with state := 1, desc := rdDoc })] }

/-- `redS serving` whose hall has gone into its next generation. -/
def redG : State := (redS serving id).updItu fun u => { u with halls := [(5, { u.halls.get 5 with hgen := 4#16 })] }

/-- A held REQ frame of hall 5: a read of one unit. -/
def reqH : HeldFrame :=
  { (default : HeldFrame) with
    seq := 1, type := tReq, last := true
    payload := [0#8, 0#8] ++ natLe 5 2 ++ natLe 3 2 ++ [0#8, 1#8] ++ natLe 0 8 ++ natLe 0 4 ++ natLe 1 4 ++ List.replicate 40 0#8 }

/-- `serving` with RX context 511 of hall 5 holding a frame. -/
def reqS (h : HeldFrame) : State :=
  serving.updLs fun l => { l with rx := [(511, { (default : RxCtx) with live := true, hall := 5, hgen := 3#16, held := [h] })] }

/-- The same holding the second frame of a RSP item. -/
def rspS : State :=
  serving.updLs fun l => { l with rx := [(511, { (default : RxCtx) with
    live := true, hall := 5, hgen := 3#16, held := [{ reqH with type := tRsp, last := true }], rspParts := [[1#8]] })] }

/-- `serving` with request 1 waiting on combining line 0. -/
def auS (block : Bytes) (f : Comb → Comb) : State :=
  serving.updAu fun a => { a with
    queue := [{ (default : HomeReq) with id := 1, block := block }]
    comb := [(0, f { (default : Comb) with live := true, hall := 5, data := List.replicate 64 0#8, waiting := [(1, 0)] })] }

/-- `serving` with hall 5 within its quotas, a state area, and queue 16,383 of hall 5 in slot 9, changed by `f`; fence 7 is hall 5's. -/
def queS (f : Queue → Queue) (g : Fe → Fe) : State :=
  let q : Queue := f { (default : Queue) with state := .idle, hall := 5, slot := 9, context := 1, ringLog2 := 6, qseq := 1#64 }
  { serving with
    itu := { serving.itu with halls := [(5, { serving.itu.halls.get 5 with quota := List.replicate 64 255#8 })] }
    fs := { serving.fs with fences := [(7, { (default : Fence) with state := 1#2, hall := 5 })] }
    fe := g { serving.fe with saveBase := 0x1000#64, queues := [(16383, q)], contexts := [(1, some 5)] } }

/-- QUEUE_CREATE's argument for hall 5, slot 8, a ring of 64 entries at 0. -/
def createArg : Bytes := natLe 5 2 ++ [8#8, 6#8] ++ natLe 0 28

/-- Words of a byte string. -/
def wordsOf (b : Bytes) (n : Nat) : Tab Word := (List.range n).foldl (fun t i => t.set i (BitVec.ofNat 32 (num b (4 * i) 4))) []

/-- The header of a plain command buffer of hall 5 with `n` units for queue 16,383. -/
def bufHead (n : Nat) : Bytes :=
  natLe 0xCB01 2 ++ [0#8, 1#8] ++ natLe n 4 ++ natLe 16383 2 ++ natLe 0 2 ++ natLe 0 4 ++ natLe 1 8 ++ natLe 0 8 ++ natLe 5 2 ++ natLe 3 2
    ++ List.replicate 28 0#8

/-- `queS` with QUEUE_DESTROY's argument in FE_ARG; and with the buffer's header on its way. -/
def desS : State := queS id fun f => { f with args := wordsOf (natLe 5 2 ++ [9#8, 0#8] ++ natLe 7 2 ++ natLe 0 2 ++ natLe 1 8) 8 }
def cbS : State := queS (fun q => { q with state := .running, active := true, fetch := .header 0x40#64 none }) id

/-- `queS` running a buffer of eight units whose first units are given, with the movers and streams that its packets name. -/
def pkS (u : Tab Bytes) (f : Queue → Queue) (g : Fe → Fe) : State :=
  let c : TxCtx := { (default : TxCtx) with live := true, handle := 0x20050001#32, dst := 4#16, stream := 1#8, cls := 1#2 }
  let x : RxCtx := { (default : RxCtx) with live := true, handle := 0x20050002#32, src := 6#16, stream := 1#8, cls := 1#2, hall := 5, hgen := 3#16 }
  (queS (fun q => f { q with state := .running, active := true, bufs := [({ addr := 0x40#64, header := bufHead 8, units := u }, 0)] }) g).updLs
    fun l => { l with tx := [(0, c)], rx := [(0, x)] }

/-- The packet whose only unit is `b`, filled with zeros, and the state that decodes it next. -/
def pk (b : Bytes) : Packet := { idx := 0, units := 8, unit := fit b 32, more := [] }
def pk1 (b : Bytes) : State := pkS [(0, fit b 32)] (fun q => q) (fun f => f)

/-- The packet with two more units that hold a descriptor. -/
def pk3 (b d : Bytes) : Packet := { idx := 0, units := 8, unit := fit b 32, more := [sub d 0 32, sub d 32 32] }
def pk3S (b d : Bytes) : State := pkS [(0, fit b 32), (1, sub d 0 32), (2, sub d 32 32)] (fun q => q) (fun f => f)

/-- `rdDoc` with slices of 64 elements. -/
def rdDoc64 : Bytes := rdDoc.take 8 ++ natLe 64 4 ++ natLe 64 4 ++ rdDoc.drop 16

/-- `queS` with the fence unit changed. -/
def fnS (f : Fs → Fs) : State := (queS (fun q => q) (fun f => f)).updFs f

/-- A quota block of the RESERVED class, and HALL_CREATE's argument for a plain hall 6. -/
def quotaDoc : Bytes :=
  [1#8, 1#8, 1#8, 0#8, 1#8, 0#8, 1#8, 0#8, 1#8, 1#8, 1#8, 0#8, 1#8, 0#8, 1#8, 0#8, 1#8, 0#8, 1#8, 0#8, 1#8, 0#8, 1#8] ++ List.replicate 41 0#8
def hallArg : Bytes := natLe 6 2 ++ natLe 1 2 ++ [1#8, 0#8] ++ List.replicate 58 0#8 ++ quotaDoc

/-- `queS` with an arena and the words of an argument in ITU_ARG. -/
def ituS (b : Bytes) (f : Itu → Itu) : State :=
  (queS (fun q => q) (fun f => f)).updItu fun u => f { u with arena := 0x40000000#64, arenaSize := 4#32, args := wordsOf b 32 }

/-- Hall 5 changed. -/
def hall5 (f : Hall → Hall) (s : State) : State := s.updItu fun u => { u with halls := [(5, f (u.halls.get 5))] }

/-- MAP's and UNMAP's arguments for the first page of hall 5; `mapS` with UNMAP's in ITU_ARG. -/
def mapDoc : Bytes := natLe 5 2 ++ natLe 0 2 ++ natLe 1 4 ++ natLe 0 8 ++ natLe 0x72 16
def unmapDoc : Bytes := natLe 5 2 ++ natLe 0 2 ++ natLe 1 4 ++ List.replicate 24 0#8
def mapI : State := mapS.updItu fun u => { u with args := wordsOf unmapDoc 32 }

/-- `serving` joined as member 3 with member 2, hall 5 born in epoch 1 with its key in slot 7, changed by `f`. -/
def migS (f : Hall → Hall) (b : Bytes) : State :=
  let s := keys fun k => { k with slots := [hallSlot] }
  hall5 (fun h => f { h with hallKey := 0x30050001#32, birth := some 1#32 })
    ((s.updDom fun d => { d with joined := true, member := 3#13, members := [{ (default : Member) with id := 2 }] }).updItu
      fun u => { u with args := wordsOf b 32 })

/-- The image of an empty hall 5 saved by member 2 for this block; its only chunk is zeros under a MAC of zeros. -/
def imgDoc : Bytes :=
  natLe 0x4801 2 ++ natLe 0 2 ++ natLe 8 4 ++ natLe 5 2 ++ natLe 3 2 ++ natLe 1 4 ++ natLe 2 2 ++ natLe 3 2 ++ natLe 9 4
    ++ List.replicate 568 0#8
def imgBody : Bytes := natLe 0xFF 2 ++ natLe 1 2 ++ List.replicate 508 0#8

/-- Its key. -/
def imgKey (src dst serial : Nat) : BitVec 256 := Crypto.deriveCmac 0#256 (mkLabel 0x0070 5 3 src dst 1 0 serial 0 7)

/-- `serving` with a record of kind 1 and class 0 in the FIFO of link transmitter 5. -/
def fcuS : State := serving.updFcu fun f => { f with fifo := [(0x105, [{ (default : FRec) with kind := 1 }])] }

/-- `queS` with treads in progress. -/
def hrS (l : List Tread) : State := (queS (fun q => q) (fun f => f)).updHr fun h => { h with treads := l }

/-- The atomic unit with a request in its home queue, so that it is busy. -/
def auB : State := serving.updAu fun a => { a with queue := [{ (default : HomeReq) with id := 1 }] }

/-- A slice 3 whose mover 15 is in a descriptor, its T2 begun, and its units in Landing. -/
def t2S : State := serving.updMv fun v => { v with movers := [(15, { (default : Mover) with seg := some default })] }
def t2U : State := treadAdd 2 3 false noWaiter ((t2S.hrCount 5).updFcu fun c => { c with inT2 := c.inT2 ||| BitVec.ofNat 4 (2 ^ 3) })
def t2V : State := (eachAns (sliceUnits t2U.conf 3 ++ spareUnits t2U 3) (landEnter 2) t2U).2

/-- A cut order of serial 1. -/
def cutMsg : Bytes := natLe 2 2 ++ natLe 0 14 ++ natLe 80000 8 ++ natLe 84000 8 ++ natLe 1 2 ++ natLe 0xD 1 ++ List.replicate 29 0#8

/-- A block in recovery whose life-cycle words are `otp`, with an image of four bytes whose digest field is zeros. -/
def recS (otp : Tab (BitVec 39)) : State :=
  { serving with
    lc := { serving.lc with otp := otp }
    pwr := { serving.pwr with
      phase := .recovery
      flash := Memory.writeBytes flashFill [] slotBase (natLe 0x1A01 2 ++ natLe 256 2 ++ natLe 4 4 ++ List.replicate 248 0#8) } }

/-- `txS` as a child of member 3's timebase. -/
def timeS : State :=
  ((txS fun c => { c with stream := 7#8 }).updDom fun d => { d with joined := true }).updPwr fun p => { p with parent := 0x80030007#32 }

/-- `timeS` with RX context 5 of the same member and stream. -/
def rxT : State :=
  timeS.updLs fun l =>
    { l with rx := [(5, { (default : RxCtx) with live := true, handle := 0x10000002#32, src := 3#16, stream := 7#8, cls := 3#2 })] }

/-- OTP words of FIELD with a firmware key digest. -/
def recW : Tab (BitVec 39) := [(69, 0x1000000#39), (81, 0x1000000#39), (82, full), (96, full), (97, full)]

/-- A segment message of type `t` from node 7, device 99, and the frame that carries one to every station. -/
def segM (t : Nat) : Bytes := [0x5C#8, BitVec.ofNat 8 t, 7#8, 0#8] ++ natLe 99 8 ++ List.replicate 20 0#8
def mf : MgtFrame := { dst := 0xFFFFFFFFFFFF#48, fcsGood := true, extHeader := false, fragment := false, sumGood := true, port := 61400, payload := segM 1 }

/-- `serving` with the management port on and its node claim in state `x`, after hearing of nodes `l`. -/
def mgS (x : BitVec 3) (l : List Nat) : State :=
  (serving.updPins fun p => { p with miiEn := true }).updMgt fun m => { m with
    claim := { state := x, node := 7, used := l, candidate := 7, sends := 0 } }

/-- `mgS 2` with `n` live sessions from 0 on and a handshake in session 9. -/
def sesS (n : Nat) : State :=
  (mgS 2 []).updMgt fun m => { m with
    sessions := ((List.range n).map fun i => (i, { (default : Session) with live := true })) ++ [(9, { (default : Session) with handshaking := true })] }

/-- A call-sheet request by the operator with tag 7, and the head of its body for an object. -/
def sheetM (op waits : Nat) (body : Bytes) : Bytes :=
  [1#8, BitVec.ofNat 8 op, 1#8, BitVec.ofNat 8 waits] ++ natLe 7 4 ++ natLe body.length 2 ++ natLe 0 2 ++ body
def objB (obj : Nat) : Bytes := natLe (obj / 256) 2 ++ natLe (obj % 256) 1 ++ [0#8]

/-- `serving` with session 0 changed. -/
def sess0 (f : Session → Session) : State := serving.updMgt fun m => { m with sessions := [(0, f (m.sessions.get 0))] }

/-- A descriptor without keys for hall 5, whose hall key is in slot 7; and a vault region to erase. -/
def instD : Bytes := (rDesc false 0).take 24 ++ List.replicate 8 0#8 ++ (rDesc false 0).drop 32
def instS : State := migS (fun h => h) []
def ersD : Bytes := (rDesc true 0).take 12 ++ natLe 1 4 ++ (rDesc true 0).drop 16
def ersS : State := instS.updLn fun l => { l with regions := [(255, vault .active)] }

/-- PROVISIONED with the factory's root digest in OTP. -/
def facS : State := serving.updLc fun l => { l with otp := [(69, 0x1000000#39), (96, full)] }

/-! ### Witnesses of the statements' hypotheses -/

/-- Hypotheses of the clauses 1, 2, 4, 5 of `SixtyFourBitShadows`. -/
theorem test_SixtyFourBitShadows_has_witnesses :
    (∃ (bus : Bus) (a v : Nat) (s : State), busServes bus s = true ∧ a % 8 = 0 ∧ busReg64 (busInput bus s) bus a = some v)
    ∧ (∃ (bus : Bus) (a v : Nat) (s : State), busServes bus s = true ∧ a % 8 = 0 ∧ busReg64 (busInput bus s) bus a = some v)
    ∧ (∃ (bus : Bus) (a v : Nat) (w : Word) (s : State), busServes bus s = true ∧ a % 8 = 0 ∧ busReg64 (busInput bus s) bus a = some v)
    ∧ (∃ (w : Word) (s : State), s.ls.go = false) :=
  ⟨⟨.keeper, 0x40028, 0, serving, by decide +kernel⟩,
   ⟨.keeper, 0x40028, 0, serving, by decide +kernel⟩,
   ⟨.keeper, 0x40028, 0, 9#32, serving, by decide +kernel⟩,
   ⟨5#32, serving, by decide +kernel⟩⟩

/-- Hypotheses of the clauses 1, 2, 3, 4, 5, 6, 7, 8, 9 of `HostPortCommands`. -/
theorem test_HostPortCommands_has_witnesses :
    (∃ (t : Tlp) (off len : Nat) (s : State), hpServes s = true ∧ isLanding s Src.hostPipes = false ∧ t.first = true ∧ t.err = false
      ∧ t.kind = .memRead off len ∧ off + len ≤ 0x10000 ∧ t.ide = none ∧ t.func ≤ (portInput s).conf.halls
      ∧ (((portInput s).fcu.safe = false ∨ t.func = 0)) ∧ tdiTakes (portInput s) t = true)
    ∧ (∃ (t : Tlp) (off : Nat) (data : Bytes) (s : State), hpServes s = true ∧ isLanding s Src.hostPipes = false ∧ t.first = true ∧ t.err = false
      ∧ t.kind = .memWrite off data ∧ off + data.length ≤ 0x10000 ∧ t.ide = none ∧ t.func ≤ (portInput s).conf.halls
      ∧ (((portInput s).fcu.safe = false ∨ t.func = 0)) ∧ tdiTakes (portInput s) t = true)
    ∧ (∃ (t : Tlp) (s : State), hpServes s = true ∧ isLanding s Src.hostPipes = false ∧ t.first = false)
    ∧ (∃ (t : Tlp) (s : State), hpServes s = true ∧ isLanding s Src.hostPipes = false ∧ t.first = true ∧ t.err = true)
    ∧ (∃ (s p : State), p = portInput s ∧ s.pins.hpEn = true ∧ p.pins.flr.contains 0 = false)
    ∧ (∃ (hall : Nat) (s p : State), p = portInput s ∧ s.pins.hpEn = true ∧ p.pins.flr.contains (hall + 1) = false ∧ hall < p.conf.halls
      ∧ (hallOf p hall).state = .free)
    ∧ (∃ (hall : Nat) (s p : State), p = portInput s ∧ s.pins.hpEn = true ∧ p.pins.flr.contains (hall + 1) = false ∧ hall < p.conf.halls
      ∧ (hallOf p hall).state = .live ∧ (hallOf p hall).mode = .plain)
    ∧ (∃ (func : Nat) (s : State), s.pins.hpEn = false)
    ∧ (∃ (func : Nat) (s : State), s.pins.flr.contains func = true ∧ flrReady s func = true) :=
  ⟨⟨{ (default : Tlp) with first := true, kind := .memRead 0 64 }, 0, 64, serving, by decide +kernel⟩,
   ⟨{ (default : Tlp) with func := 4096, first := true, kind := .memWrite 65532 [1#8, 2#8, 3#8, 4#8] }, 65532, [1#8, 2#8, 3#8, 4#8], serving,
    by decide +kernel⟩,
   ⟨(default : Tlp), serving, by decide +kernel⟩,
   ⟨{ (default : Tlp) with first := true, err := true }, serving, by decide +kernel⟩,
   ⟨serving, portInput serving, by decide +kernel⟩,
   ⟨4095, serving, portInput serving, by decide +kernel⟩,
   ⟨5, serving.updItu fun u => { u with halls := [(5, { hallOf serving 5 with mode := .plain })] },
    portInput (serving.updItu fun u => { u with halls := [(5, { hallOf serving 5 with mode := .plain })] }), by decide +kernel⟩,
   ⟨3, serving.updPins fun p => { p with hpEn := false }, by decide +kernel⟩,
   ⟨0, serving.updPins fun p => { p with flr := [0] }, by decide +kernel⟩⟩

/-- Hypotheses of the clauses 1, 2, 3, 4, 5, 6, 7, 8, 9, 10, 11 of `ComputeMemoryAndLinkPorts`. -/
theorem test_ComputeMemoryAndLinkPorts_has_witnesses :
    (∃ (w : DWord) (i : Nat) (l : List Nat) (s u : State), portInput s = u ∧ s.pins.cpEn = true ∧ portServes s = true ∧ u.fcu.safe = false
      ∧ bits w.toNat 0 12 = 0 ∧ u.hr.slotsOut.toNat.testBit (bits w.toNat 14 4) = false
      ∧ bits w.toNat 32 16 = (queueOf u (bits w.toNat 18 14)).qgen.toNat ∧ w.toNat.testBit 12 = false ∧ w.toNat.testBit 13 = false
      ∧ (slotOfEng u (bits w.toNat 14 4)).launches.filter (fun i => (u.fe.works.get i).live && (u.fe.works.get i).q == bits w.toNat 18 14) = i ::
      l)
    ∧ (∃ (r : CpReq) (s u v : State) (t : Trans) (x : List Ans × State), portInput s = u ∧ portServes s = true ∧ s.pins.cpEn = true ∧ u.fcu.safe = false
      ∧ cpReqOk r = true ∧ ((isLanding u Src.au = false ∨ r.op.toNat < 2))
      ∧ translate r.hall (hallOf u r.hall).hgen.toNat r.addr.toNat
      { targets := [1, 2], rd := r.op.toNat == 0 || decide (2 ≤ r.op.toNat), wr := r.op.toNat == 1 || decide (2 ≤ r.op.toNat), atm := decide (2 ≤ r.op.toNat) }
      u = (t, v) ∧ ownRequest r.hall (hallOf u r.hall).hgen.toNat r.addr.toNat t (cpBlock u r).1 (cpBlock u r).2 (.cp r.tag) v = some x
      ∧ reqFormOk (overwrite (cpBlock u r).1 8 (natLe 0 8) ++ (cpBlock u r).2) = true)
    ∧ (∃ (r : CpReq) (s u : State), portInput s = u ∧ portServes s = true ∧ s.pins.cpEn = true ∧ u.fcu.safe = true)
    ∧ (∃ (port tag : Nat) (we : Bool) (data : Bytes) (r : MpReq) (s u : State), portInput s = u ∧ s.pins.mpEn.getLsbD port = true
      ∧ u.mp.find? (fun r => r.sent && r.port == port && r.tag == tag && r.we == we) = some r ∧ u.fcu.armed = false)
    ∧ (∃ (lane : Nat) (vc : BitVec 2) (route : Byte) (b : Bytes) (s u : State), portInput s = u ∧ portServes s = true ∧ u.fcu.armed = false
      ∧ laneUp s lane = true ∧ isLanding u (Src.linkRx (rxPipe u lane)) = false ∧ rxPipeBad u (rxPipe u lane) = false
      ∧ holdRoom u lane vc.toNat = true ∧ bits (fDst b) 0 14 ≠ selfId u)
    ∧ (∃ (lane : Nat) (vc : BitVec 2) (route : Byte) (b : Bytes) (s u : State), portInput s = u ∧ portServes s = true ∧ u.fcu.armed = false
      ∧ laneUp s lane = true ∧ isLanding u (Src.linkRx (rxPipe u lane)) = false ∧ rxPipeBad u (rxPipe u lane) = false
      ∧ holdRoom u lane vc.toNat = true ∧ bits (fDst b) 0 14 = selfId u ∧ faultStall (Src.linkRx (rxPipe u lane)) u = false)
    ∧ (∃ (lane : Nat) (vc : BitVec 2) (route : Byte) (b : Bytes) (s : State), portServes s = true ∧ laneUp s lane = true)
    ∧ (∃ (lane : Nat) (vc : BitVec 2) (route : Byte) (first : Bool) (b : Bytes) (s : State), laneUp s lane = false)
    ∧ (∃ (ctx : Nat) (h : HeldFrame) (s : State), (rxOf s ctx).live = true ∧ (rxOf s ctx).waiting = false
      ∧ (rxOf s ctx).held.find? (fun h => isOrdered h && h.seq == rxFloor (rxOf s ctx)) = some h ∧ h.type = tSignal ∧ h.taken = false
      ∧ combDirty s (some (rxOf s ctx).hall) = [])
    ∧ (∃ (lane : Nat) (s : State), lane < s.conf.lanes ∧ s.pins.laneUp.toNat.testBit lane = true)
    ∧ (∃ (lane : Nat) (s : State), lane < s.conf.lanes) :=
  ⟨⟨0x84000#64, 4, [], serving.updFe fun f =>
    { f with slots := [(1, { (default : EngSlot) with launches := [4] })], works := [(4, { (default : Work) with live := true, q := 2 })] },
    serving.updFe fun f =>
    { f with slots := [(1, { (default : EngSlot) with launches := [4] })], works := [(4, { (default : Work) with live := true, q := 2 })] },
    by decide +kernel⟩,
   ⟨{ (default : CpReq) with hall := 5 }, serving, serving, (translate 5 3 0 { targets := [1, 2], rd := true, wr := false, atm := false } serving).2,
    .fail Status.translationFault, (ansNow (.cp 0) 0 Status.translationFault [],
    (translate 5 3 0 { targets := [1, 2], rd := true, wr := false, atm := false } serving).2), by decide +kernel⟩,
   ⟨{ (default : CpReq) with hall := 5 }, serving.updFcu fun f => { f with safe := true }, serving.updFcu fun f => { f with safe := true },
    by decide +kernel⟩,
   ⟨15, 1023, true, [], { (default : MpReq) with port := 15, tag := 1023, we := true, lines := 2, sent := true },
    serving.setMp [{ (default : MpReq) with port := 15, tag := 1023, we := true, lines := 2, sent := true }],
    serving.setMp [{ (default : MpReq) with port := 15, tag := 1023, we := true, lines := 2, sent := true }], by decide +kernel⟩,
   ⟨63, 0#2, 0#8, [0#8, 0#8, 1#8, 0#8] ++ List.replicate 28 0#8, serving, serving, by decide +kernel⟩,
   ⟨63, 1#2, 0#8, List.replicate 64 0#8, serving, serving, by decide +kernel⟩,
   ⟨63, 1#2, 0#8, List.replicate 64 0#8, serving, by decide +kernel⟩,
   ⟨63, 1#2, 0#8, true, List.replicate 64 0#8, { serving with conf := .m4 }, by decide +kernel⟩,
   ⟨511, { (default : HeldFrame) with seq := 1, type := tSignal, payload := List.replicate 16 0#8 },
    serving.updLs fun l =>
    { l with rx := [(511, { (default : RxCtx) with live := true, top := 1, hall := 5, hgen := 3#16, held := [{ (default : HeldFrame) with seq := 1, type := tSignal, payload := List.replicate 16 0#8 }] })] },
    by decide +kernel⟩,
   ⟨63, serving, by decide +kernel⟩,
   ⟨0, serving.updPins fun p => { p with laneUp := 0#64 }, by decide +kernel⟩⟩

/-- Hypotheses of the clauses 2, 3, 4, 5, 6, 7, 8, 9, 10, 11 of `PinEvents`. -/
theorem test_PinEvents_has_witnesses :
    (∃ (s : State), s.pins.por = true)
    ∧ (∃ (s : State), s.stopped = false ∧ s.pwr.entering = false ∧ s.pins.preq = false ∧ s.pins.pack = false ∧ s.pins.pstate = 1#2)
    ∧ (∃ (s : State), s.pins.preq = true ∧ s.pwr.entering = true ∧ s.pins.wake = false ∧ s.pwr.voided = false ∧ s.pins.ptgt ≠ 0#2)
    ∧ (∃ (s : State), s.pins.pack = true ∧ s.pins.wake = false ∧ s.pwr.voided = false)
    ∧ (∃ (port : Nat) (s : State), portOn port s = true ∧ s.pins.pstate = 1#2 ∧ s.stopped = false ∧ s.pwr.entering = false)
    ∧ (∃ (port : Nat) (s : State), portOn port s = false)
    ∧ (∃ (n : Nat) (s : State), n < 8 ∧ s.pins.extHigh.toNat.testBit n = false ∧ s.stopped = false ∧ (s.fcu.fifo.get (Src.extFault n)).length < 4)
    ∧ (∃ (n : Nat) (s : State), n < 8 ∧ s.pins.extHigh.toNat.testBit n = true)
    ∧ (∃ (n : Nat) (s : State), n < 8)
    ∧ (∃ (pll : Bool) (clock : ClockDomain) (s : State), ((pll = true ∨ clockNeeded s clock = true)) ∧ s.fcu.fifo.get Src.pwr = []) :=
  ⟨⟨serving.updPins fun p => { p with por := true }, by decide +kernel⟩,
   ⟨serving.updPins fun p => { p with pstate := 1#2 }, by decide +kernel⟩,
   ⟨{ serving with pins := { serving.pins with preq := true, ptgt := 2#2 }, pwr := { serving.pwr with entering := true } }, by decide +kernel⟩,
   ⟨serving.updPins fun p => { p with pack := true }, by decide +kernel⟩,
   ⟨3, serving.updPins fun p => { p with pstate := 1#2 }, by decide +kernel⟩,
   ⟨2, serving.updPins fun p => { p with lpEn := 0#4, pstate := 1#2 }, by decide +kernel⟩,
   ⟨7, serving, by decide +kernel⟩,
   ⟨0, serving.updPins fun p => { p with extHigh := 1#8 }, by decide +kernel⟩,
   ⟨7, serving.updPins fun p => { p with extHigh := 0xFF#8 }, by decide +kernel⟩,
   ⟨true, .cclk, serving, by decide +kernel⟩⟩

/-- Hypotheses of the clauses 1, 2, 3, 4, 5, 6, 7, 9, 10, 11, 12, 13, 14, 15 of `KeyVaultCommands`. -/
theorem test_KeyVaultCommands_has_witnesses :
    (∃ (l : Lookup) (i : Nat) (s : State), s.fcu.armed = false ∧ s.fcu.safe = false ∧ s.kv.locked = false ∧ s.kv.pipes.get l.unit = default
      ∧ slotOf (returnLease l.unit s).kv l.handle = some i ∧ ((returnLease l.unit s).kv.slots.get i).dpUse = true ∧ 2 ≤ hClass l.handle
      ∧ hHall l.handle = l.hall ∧ ((returnLease l.unit s).kv.slots.get i).hgen = l.hgen
      ∧ ((returnLease l.unit s).kv.slots.get i).budgetOn = false)
    ∧ (∃ (d : Derivation) (rest : List Derivation) (s : State), s.kv.stalled = d :: rest ∧ s.kv.queue.length < 64
      ∧ s.kv.queue.any (fun x => x.handle == d.handle) = false)
    ∧ (∃ (d : Derivation) (rest : List Derivation) (i : Nat) (s : State), s.kv.queue = d :: rest ∧ s.fcu.armed = false
      ∧ fastOk s.kv d.handle d.parent d.label = true ∧ d.pinned = true ∧ d.tickets = [] ∧ slotOf s.kv d.handle = none ∧ freePinned s.kv = some i)
    ∧ (∃ (d : Derivation) (rest : List Derivation) (unit ticket i : Nat) (s : State), s.kv.queue = d :: rest ∧ s.fcu.armed = false
      ∧ fastOk s.kv d.handle d.parent d.label = true ∧ d.pinned = false ∧ d.tickets = [(unit, ticket)] ∧ s.kv.pipes.get unit = default
      ∧ slotOf s.kv d.handle = none ∧ freeDerived s.kv = some i)
    ∧ (∃ (replace : Bool) (i : Nat) (s : State), s.kv.go = false ∧ s.kv.locked = false ∧ labelLevel (kvLabel s.kv) (hClass s.kv.handle) = some 1
      ∧ handleOk s.kv.handle = true ∧ ((hClass s.kv.handle < 2 ∨ labHall (kvLabel s.kv) = hHall s.kv.handle)) ∧ labPurpose (kvLabel s.kv) ≠ 0x0021
      ∧ hClass s.kv.handle ≠ 2 ∧ s.kv.parent = 0#32 ∧ s.lcState ≠ scrap ∧ slotOf s.kv s.kv.handle = none ∧ freePinned s.kv = some i)
    ∧ (∃ (i p : Nat) (s : State), s.kv.go = false ∧ s.kv.locked = false ∧ labelLevel (kvLabel s.kv) (hClass s.kv.handle) = some 2
      ∧ handleOk s.kv.handle = true ∧ ((hClass s.kv.handle < 2 ∨ labHall (kvLabel s.kv) = hHall s.kv.handle)) ∧ slotOf s.kv s.kv.parent = some p
      ∧ (s.kv.slots.get p).level = 1 ∧ hClass s.kv.parent = 1 ∧ slotOf s.kv s.kv.handle = none ∧ freePinned s.kv = some i)
    ∧ (∃ (replace : Bool) (i : Nat) (s : State), s.kv.go = false ∧ s.kv.locked = false ∧ fastOk s.kv s.kv.handle s.kv.parent (kvLabel s.kv) = true
      ∧ slotOf s.kv s.kv.handle = none ∧ freePinned s.kv = some i ∧ s.kv.queue.any (fun x => x.handle == s.kv.handle) = false
      ∧ s.kv.queue.length < 64)
    ∧ (∃ (i : Nat) (s : State), s.kv.go = false ∧ s.kv.locked = false ∧ hClass s.kv.handle = 0 ∧ handleOk s.kv.handle = true
      ∧ inKeyRegion s.kv.src.toNat 32 = true ∧ slotOf s.kv s.kv.handle = none ∧ freePinned s.kv = some i)
    ∧ (∃ (i : Nat) (s : State), s.kv.go = false ∧ s.kv.locked = false ∧ slotOf s.kv s.kv.handle = some i)
    ∧ (∃ (s : State), s.kv.go = false ∧ s.kv.locked = false ∧ s.kv.queue = [] ∧ s.kv.stalled = [])
    ∧ (∃ (i : Nat) (s : State), s.kv.go = false ∧ s.kv.locked = false ∧ slotOf s.kv s.kv.handle = some i)
    ∧ (∃ (s : State), s.kv.queue = [] ∧ s.kv.stalled = [])
    ∧ (∃ (s : State), s.kv.go = false)
    ∧ (∃ (unit : Nat) (s : State), s.kv.pipes.wf = true ∧ (s.kv.pipes.get unit).dropping = true) :=
  ⟨⟨{ (default : Lookup) with unit := 1000, handle := 0x60050001#32, hall := 5, hgen := 3#16 }, 9,
    keys fun k => { k with slots := [(9, { (default : KeySlot) with valid := true, handle := 0x60050001#32, hgen := 3#16, dpUse := true })] },
    by decide +kernel⟩,
   ⟨{ (default : Derivation) with handle := 1#32 }, [], keys fun k =>
    { k with stalled := [{ (default : Derivation) with handle := 1#32 }], queue := List.replicate 63 default }, by decide +kernel⟩,
   ⟨{ (default : Derivation) with handle := 0x40050002#32, parent := 0x30050001#32, label := lab 0x40 4 5 3, pinned := true }, [], 0,
    keys fun k =>
    { k with slots := [hallSlot], queue := [{ (default : Derivation) with handle := 0x40050002#32, parent := 0x30050001#32, label := lab 0x40 4 5 3, pinned := true }] },
    by decide +kernel⟩,
   ⟨{ (default : Derivation) with handle := 0x40050002#32, parent := 0x30050001#32, label := lab 0x40 4 5 3, tickets := [(8, 1)] }, [], 8, 1, 4096,
    keys fun k =>
    { k with slots := [hallSlot], queue := [{ (default : Derivation) with handle := 0x40050002#32, parent := 0x30050001#32, label := lab 0x40 4 5 3, tickets := [(8, 1)] }] },
    by decide +kernel⟩,
   ⟨true, 0, keys fun k => { k with handle := 1#32, label := labWords 0x10 0 0 0 }, by decide +kernel⟩,
   ⟨1, 0, keys fun k =>
    { k with handle := 0x10000001#32, parent := 0x10000002#32, label := labWords 0x20 1 0 0, slots := [(0, { (default : KeySlot) with valid := true, handle := 0x10000002#32, level := 1 })] },
    by decide +kernel⟩,
   ⟨true, 0, keys fun k => { k with slots := [hallSlot], handle := 0x40050002#32, parent := 0x30050001#32, label := labWords 0x40 4 5 3 },
    by decide +kernel⟩,
   ⟨0, keys fun k => { k with handle := 1#32, src := 16352#32 }, by decide +kernel⟩,
   ⟨7, keys fun k => { k with slots := [hallSlot], handle := 0x30050001#32 }, by decide +kernel⟩,
   ⟨keys fun k => { k with slots := [hallSlot], kmatch := 0x30050003#32 }, by decide +kernel⟩,
   ⟨7, keys fun k => { k with slots := [hallSlot], handle := 0x30050001#32, budget := 0xFFFFFFFFFFFF#48 }, by decide +kernel⟩,
   ⟨keys fun k => { k with slots := [hallSlot] }, by decide +kernel⟩,
   ⟨keys fun k => { k with slots := [hallSlot], handle := 0x30050001#32 }, by decide +kernel⟩,
   ⟨4095, keys fun k => { k with pipes := [(4095, { (default : PipeKey) with valid := true, dropping := true })] }, by decide +kernel⟩⟩

/-- Hypotheses of clause 8 of `KeyVaultCommands`. -/
theorem test_KeyVaultCommands_clause_8_has_a_witness (h : Crypto.kwUnwrap ((keys fun k =>
    { k with handle := 1#32, parent := 2#32, slots := [(0, { (default : KeySlot) with valid := true, handle := 2#32, level := 1 })] }).kv.slots.get
    0).key (fit (keyRegion (keys fun k =>
    { k with handle := 1#32, parent := 2#32, slots := [(0, { (default : KeySlot) with valid := true, handle := 2#32, level := 1 })] }) 0 48) 48) =
    some (natLe 1 2 ++ [0#8, 1#8] ++ List.replicate 36 0#8)) :
    ∃ (i k : Nat) (p : Bytes) (s : State), s.kv.go = false ∧ s.kv.locked = false ∧ inKeyRegion s.kv.src.toNat 48 = true
    ∧ slotOf s.kv s.kv.parent = some k ∧ hClass s.kv.parent = 0 ∧ Crypto.kwUnwrap (s.kv.slots.get k).key (fit (keyRegion s s.kv.src.toNat 48) 48) =
    some p ∧ num p 0 2 = 1 ∧ num p 2 1 = hClass s.kv.handle ∧ num p 3 1 = 1 ∧ handleOk s.kv.handle = true ∧ num p 4 1 < 2 ∧ allZero (sub p 5 3) = true
    ∧ slotOf s.kv s.kv.handle = none ∧ freePinned s.kv = some i :=
  by
  refine ⟨1, 0, natLe 1 2 ++ [0#8, 1#8] ++ List.replicate 36 0#8, keys fun k =>
    { k with handle := 1#32, parent := 2#32, slots := [(0, { (default : KeySlot) with valid := true, handle := 2#32, level := 1 })] }, ?_, ?_, ?_, ?_,
    ?_, h, ?_⟩ <;> decide +kernel

/-- Hypotheses of the clauses 1, 2, 4, 5, 6, 7, 9, 10, 11, 12 of `OtpAndLifeCycleCommands`. -/
theorem test_OtpAndLifeCycleCommands_has_witnesses :
    (∃ (w : Nat) (b : BitVec 39) (rest : List (Nat × BitVec 39)) (s : State), s.lc.vppReq = true ∧ s.lc.otpQueue = (w, b) :: rest
      ∧ s.lc.otpBusy = false)
    ∧ (∃ (w : Nat) (b : BitVec 39) (rest : List (Nat × BitVec 39)) (s : State), s.lc.otpBusy = true ∧ s.lc.otpQueue = (w, b) :: rest
      ∧ s.lc.otp.wf = true)
    ∧ (∃ (s : State), s.lc.go = false ∧ s.lc.otpQueue = [] ∧ s.lcPending ≠ some scrap)
    ∧ (∃ (n : Nat) (s : State), s.lc.go = false ∧ s.lc.otpQueue = [] ∧ s.lcPending = some n ∧ s.kv.locked = true ∧ ((n < 3 ∨ s.lc.eraseDone = true)))
    ∧ (∃ (s : State), s.lc.go = false ∧ s.lc.otpQueue = [] ∧ rollbackCount s.lc.otp < 4992)
    ∧ (∃ (s : State), s.lc.go = false)
    ∧ (∃ (s : State), s.lc.go = false)
    ∧ (∃ (level : Bool) (s : State), s.lcState = testOpen)
    ∧ (∃ (level : Bool) (s : State), s.lcState ≠ testOpen)
    ∧ (∃ (s : State), s.rightHalt = true ∧ s.consentGiven = true) :=
  ⟨⟨128, 1#39, [], serving.updLc fun l => { l with vppReq := true, otpQueue := [(128, 1#39)] }, by decide +kernel⟩,
   ⟨98, full, [], serving.updLc fun l => { l with otpBusy := true, otpQueue := [(98, full)] }, by decide +kernel⟩,
   ⟨serving, by decide +kernel⟩,
   ⟨3, { serving with lc := { serving.lc with otp := [(96, full), (97, full), (102, full)], eraseDone := true }, kv := { serving.kv with locked := true } },
    by decide +kernel⟩,
   ⟨serving, by decide +kernel⟩,
   ⟨serving, by decide +kernel⟩,
   ⟨serving, by decide +kernel⟩,
   ⟨true, State.reset, by decide +kernel⟩,
   ⟨true, serving, by decide +kernel⟩,
   ⟨serving.updLc fun l => { l with rights := 32#6 }, by decide +kernel⟩⟩

/-- Hypotheses of clause 3 of `OtpAndLifeCycleCommands`. -/
theorem test_OtpAndLifeCycleCommands_clause_3_has_a_witness (h : Crypto.digestBytes (Config.sha384 (fit (lcToken serving) 16)) = otpBytes
    serving.lc.otp (tokenWord 4) 12) :
    ∃ (target : BitVec 3) (s : State), s.lc.go = false ∧ s.lc.tokenLock = false ∧ s.lc.running = none ∧ s.lc.otpQueue = []
    ∧ pairOk s target.toNat none = true ∧ tokenless s target.toNat = false ∧ Crypto.digestBytes (Config.sha384 (fit (lcToken s) 16)) = otpBytes
    s.lc.otp (tokenWord target.toNat) 12 :=
  by
  refine ⟨4#3, serving, ?_, ?_, ?_, ?_, ?_, ?_, h⟩ <;> decide +kernel

/-- Hypotheses of clause 8 of `OtpAndLifeCycleCommands`. -/
theorem test_OtpAndLifeCycleCommands_clause_8_has_a_witness (h : Crypto.digestBytes (Config.sha384 (sub (keyRegion certS 0 224) 32 96)) = otpBytes
    certS.lc.otp 70 12) (v : Config.ecdsaVerify (sub (keyRegion certS 0 224) 32 96) (Config.sha384 (sub (keyRegion certS 0 224) 0 128)) (sub
    (keyRegion certS 0 224) 128 96) = true) :
    ∃ (s : State), s.lc.go = false ∧ certForm s (keyRegion s 0 224) = true ∧ Config.ecdsaVerify (sub (keyRegion s 0 224) 32 96) (Config.sha384 (sub
    (keyRegion s 0 224) 0 128)) (sub (keyRegion s 0 224) 128 96) = true :=
  ⟨certS, by decide +kernel, by simp only [certForm, h]; decide +kernel, v⟩

/-- Hypotheses of the clauses 2, 3, 5, 6, 7 of `LifeCycleActions`. -/
theorem test_LifeCycleActions_has_witnesses :
    (∃ (a : Act) (arg : Bytes) (s : State), mayAct s [.operator] a = true ∧ ((s.lcState = provisioned ∨ s.lcState = field)) ∧ arg.length = 2
      ∧ num arg 0 2 ≤ s.pwr.secver.toNat ∧ num arg 0 2 ≤ 4992 ∧ rollbackCount s.lc.otp < num arg 0 2 ∧ s.lc.otpQueue = [])
    ∧ (∃ (a : Act) (s : State), mayAct s [.factory, .operator] a = true ∧ debugRole s a.role = true)
    ∧ (∃ (a : Act) (arg : Bytes) (l : List Nat) (s : State), mayAct s [.tenant] a = true ∧ arg.length = 16
      ∧ (usedHalls s).filterMap (fun e => if isSealed e.2 && boundTo s a.sess e.1 then some e.1 else none) = l ∧ l ≠ [])
    ∧ (∃ (a : Act) (arg : Bytes) (w n : Nat) (owner : Bool) (s : State), otpGroup (num arg 0 1) = some (w, n, owner)
      ∧ ((if owner then mayAct s [.operator] a = true ∧ s.lcState = provisioned else mayAct s [.factory] a = true ∧ s.lcState = testOpen))
      ∧ arg.length = 4 + 4 * n ∧ allZero (sub arg 1 3) = true ∧ otpBlank s.lc.otp w n = true ∧ s.lc.otpQueue = [])
    ∧ (∃ (a : Act) (arg : Bytes) (s : State), mayAct s [.factory, .operator] a = false) :=
  ⟨⟨op, [0x80#8, 0x13#8], serving.updPwr fun p => { p with secver := 0xFFFF#16 }, by decide +kernel⟩,
   ⟨op, serving, by decide +kernel⟩,
   ⟨ten, List.replicate 16 0#8, [5], sealedS, by decide +kernel⟩,
   ⟨fac, 1#8 :: 0#8 :: 0#8 :: 0#8 :: List.replicate 8 255#8, 8, 2, false, testS, by decide +kernel⟩,
   ⟨ten, [], serving, by decide +kernel⟩⟩

/-- Hypotheses of clause 1 of `LifeCycleActions`. -/
theorem test_LifeCycleActions_clause_1_has_a_witness (h : Crypto.digestBytes (Config.sha384 (fit (sub (4#8 :: List.replicate 16 0#8) 1 16) 16)) =
    otpBytes serving.lc.otp (tokenWord (num (4#8 :: List.replicate 16 0#8) 0 1)) 12) :
    ∃ (a : Act) (arg : Bytes) (s : State), mayAct s [.factory, .operator] a = true ∧ arg.length = 17 ∧ s.lc.tokenLock = false ∧ s.lc.running = none
    ∧ s.lc.otpQueue = [] ∧ pairOk s (num arg 0 1) (some a.role) = true ∧ tokenless s (num arg 0 1) = false
    ∧ Crypto.digestBytes (Config.sha384 (fit (sub arg 1 16) 16)) = otpBytes s.lc.otp (tokenWord (num arg 0 1)) 12 :=
  by
  refine ⟨op, 4#8 :: List.replicate 16 0#8, serving, ?_, ?_, ?_, ?_, ?_, ?_, ?_, h⟩ <;> decide +kernel

/-- Hypotheses of clause 4 of `LifeCycleActions`. -/
theorem test_LifeCycleActions_clause_4_has_a_witness (h : Crypto.digestBytes (Config.sha384 (sub (keyRegion certS 0 224) 32 96)) = otpBytes
    certS.lc.otp 70 12) (v : Config.ecdsaVerify (sub (keyRegion certS 0 224) 32 96) (Config.sha384 (sub (keyRegion certS 0 224) 0 128)) (sub
    (keyRegion certS 0 224) 128 96) = true) :
    ∃ (a : Act) (c : Bytes) (s : State), mayAct s [.factory, .operator] a = true ∧ certForm s c = true
    ∧ Config.ecdsaVerify (sub c 32 96) (Config.sha384 (sub c 0 128)) (sub c 128 96) = true :=
  ⟨op, keyRegion certS 0 224, certS, by decide +kernel, by simp only [certForm, h]; decide +kernel, v⟩

/-- Hypotheses of the clauses 1, 2, 3, 4, 5, 6, 7, 8, 9 of `AttestationCommands`. -/
theorem test_AttestationCommands_has_witnesses :
    (∃ (index : BitVec 3) (s : State), s.att.locks.toNat.testBit index.toNat = false)
    ∧ (∃ (index : BitVec 3) (s : State), s.att.locks.toNat.testBit index.toNat = true)
    ∧ (∃ (k : BitVec 3) (s : State), k.toNat ≤ 2 ∧ s.att.layer = k)
    ∧ (∃ (s : State), s.att.layer ≠ 0#3)
    ∧ (∃ (a : Act) (arg : Bytes) (s : State), mayAct s [.domainManager] a = true ∧ arg.length = 52 ∧ ((num arg 0 1 = 6 ∨ num arg 0 1 = 7))
      ∧ allZero (sub arg 1 3) = true ∧ s.att.locks.toNat.testBit (num arg 0 1) = false)
    ∧ (∃ (nonce : Bytes) (s : State), (mailboxOf s 0).result ≠ Status.notReady ∧ s.att.slates = [])
    ∧ (∃ (hall : Nat) (s : State), (mailboxOf s (hall + 1)).result ≠ Status.notReady ∧ s.att.slates = [])
    ∧ (∃ (page : Nat) (cmd : Word) (s : State), cmd.setWidth 8 ≠ 1#8)
    ∧ (∃ (nonce body : Bytes) (s : State), s.att.slates = [{ path := .operatorPage, nonce := nonce, sampled := true, bytes := body }]) :=
  ⟨⟨7#3, serving, by decide +kernel⟩,
   ⟨7#3, serving.updAt fun a => { a with locks := 128#8 }, by decide +kernel⟩,
   ⟨2#3, serving.updAt fun a => { a with layer := 2#3 }, by decide +kernel⟩,
   ⟨serving.updAt fun a => { a with layer := 3#3 }, by decide +kernel⟩,
   ⟨dm, 7#8 :: List.replicate 51 0#8, serving, by decide +kernel⟩,
   ⟨List.replicate 32 1#8, serving, by decide +kernel⟩,
   ⟨4095, serving, by decide +kernel⟩,
   ⟨4096, 0x200#32, serving, by decide +kernel⟩,
   ⟨List.replicate 32 1#8, [1#8], serving.updAt fun a =>
    { a with slates := [{ path := .operatorPage, nonce := List.replicate 32 1#8, sampled := true, bytes := [1#8] }] }, by decide +kernel⟩⟩

/-- Hypotheses of the clauses 2, 3, 4, 6, 7, 8, 9, 10, 11, 12, 13 of `SpdmResponder`. -/
theorem test_SpdmResponder_has_witnesses :
    (∃ (t : Transport) (s : State), (connOf s t).version = true)
    ∧ (∃ (t : Transport) (o : AlgOffer) (s : State), (connOf s t).caps = true ∧ o.asym = true ∧ o.hash = true ∧ o.measHash = true ∧ o.measSpec = true
      ∧ o.dhe = true ∧ o.aead = true ∧ o.keySchedule = true)
    ∧ (∃ (t : Transport) (s : State), (connOf s t).algs = true)
    ∧ (∃ (t : Transport) (summary : Bool) (nonce : Bytes) (s : State), (connOf s t).algs = true)
    ∧ (∃ (t : Transport) (index : Nat) (nonce : Bytes) (s : State), (connOf s t).algs = true ∧ 1 ≤ index ∧ index ≤ 8)
    ∧ (∃ (t : Transport) (index : Nat) (nonce : Bytes) (s : State), (connOf s t).algs = true ∧ 1 ≤ index ∧ index ≤ 8)
    ∧ (∃ (t : Transport) (carrier : Nat) (x : Bytes) (s : State), (connOf s t).algs = true ∧ (connOf s t).sessions.length < 4 ∧ num x 1 1 = 0)
    ∧ (∃ (t : Transport) (carrier : Nat) (x : Bytes) (s : State), (connOf s t).algs = true ∧ 4 ≤ (connOf s t).sessions.length)
    ∧ (∃ (t : Transport) (sid : Nat) (x : Spdm) (s : State), spdmOf s t sid = some x ∧ x.finished = false ∧ x.messages + 1 < 2 ^ 32)
    ∧ (∃ (t : Transport) (sid : Nat) (x : Spdm) (s : State), spdmOf s t sid = some x)
    ∧ (∃ (a : Act) (m : Bytes) (s : State), mayAct s [.domainManager] a = true ∧ m.length ≤ 1368) :=
  ⟨⟨.callSheet, spdmS, by decide +kernel⟩,
   ⟨.doe, ⟨true, true, true, true, true, true, true⟩, spdmS, by decide +kernel⟩,
   ⟨.doe, spdmS, by decide +kernel⟩,
   ⟨.doe, true, List.replicate 32 1#8, spdmS, by decide +kernel⟩,
   ⟨.callSheet, 8, List.replicate 32 1#8, spdmS, by decide +kernel⟩,
   ⟨.callSheet, 1, List.replicate 32 1#8, spdmS, by decide +kernel⟩,
   ⟨.doe, 0, [], spdmS, by decide +kernel⟩,
   ⟨.doe, 0, [], spdmS.updAt fun a => { a with doe := { a.doe with sessions := (List.range 4).map fun i => Spdm.mk i 0 true 5 0#384 [] } },
    by decide +kernel⟩,
   ⟨.doe, 3, Spdm.mk 3 0 false 0xFFFFFFFE 0#384 [], spdmS.updAt fun a =>
    { a with doe := { a.doe with sessions := [Spdm.mk 3 0 false 0xFFFFFFFE 0#384 []] } }, by decide +kernel⟩,
   ⟨.doe, 3, Spdm.mk 3 0 true 5 0#384 [], spdmS, by decide +kernel⟩,
   ⟨dm, List.replicate 1368 0#8, spdmS, by decide +kernel⟩⟩

/-- Hypotheses of clause 5 of `SpdmResponder`. -/
theorem test_SpdmResponder_clause_5_has_a_witness (h : 0 < (chainBytes spdmS).length) :
    ∃ (t : Transport) (offset length : Nat) (s : State), (connOf s t).algs = true ∧ offset < (chainBytes s).length :=
  ⟨.doe, 0, 16, spdmS, by decide +kernel, h⟩

/-- Hypotheses of the clauses 1, 2, 3, 4, 5, 7, 8, 9, 10, 11, 12, 13 of `IdeAndTdispRequests`. -/
theorem test_IdeAndTdispRequests_has_witnesses :
    (∃ (sid : Nat) (s : State), doeSession s sid = true)
    ∧ (∃ (sid stream sub' ks : Nat) (tx : Bool) (key : BitVec 256) (s : State), doeSession s sid = true ∧ stream ≤ 64 ∧ sub' < 3 ∧ ks < 2
      ∧ (ideKeyOf s stream sub' tx ks).active = false ∧ boundHall s stream = none)
    ∧ (∃ (sid stream sub' ks : Nat) (tx : Bool) (s : State), doeSession s sid = true ∧ stream ≤ 64 ∧ sub' < 3 ∧ ks < 2
      ∧ (ideKeyOf s stream sub' tx ks).loaded = true ∧ (ideOf s stream).secure = false)
    ∧ (∃ (sid stream sub' ks : Nat) (tx : Bool) (s : State), doeSession s sid = true ∧ stream ≤ 64 ∧ sub' < 3 ∧ ks < 2 ∧ (ideOf s stream).secure = false
      ∧ s.att.ideKeys.wf = true)
    ∧ (∃ (hall : Nat) (s : State), tdiThere s hall = true)
    ∧ (∃ (hall : Nat) (s : State), tdiThere s hall = true ∧ (hallOf s hall).tdi = .locked)
    ∧ (∃ (hall : Nat) (nonce : BitVec 256) (s : State), tdiThere s hall = true ∧ (hallOf s hall).tdi = .locked ∧ nonce ≠ (hallOf s hall).lockNonce)
    ∧ (∃ (hall : Nat) (s : State), tdiThere s hall = true ∧ (hallOf s hall).tdi = .unlocked)
    ∧ (∃ (hall : Nat) (s : State), tdiThere s hall = true ∧ (hallOf s hall).tdi = .run ∧ (hallOf s hall).state = .live)
    ∧ (∃ (hall : Nat) (s : State), (hallOf s hall).stopPending = true ∧ (((hallOf s hall).drained = true ∨ (hallOf s hall).state ≠ .retiring))
      ∧ (hallOf s hall).state ≠ .free ∧ ((∀ w, s.att.doeBox.waits = some w → w.2.1 ≠ hall)))
    ∧ (∃ (hall sid : Nat) (head : Bytes) (x : Spdm) (s : State), (hallOf s hall).stopPending = true
      ∧ (((hallOf s hall).drained = true ∨ (hallOf s hall).state ≠ .retiring)) ∧ s.att.doeBox.waits = some (sid, hall, head)
      ∧ spdmOf s .doe sid = some x)
    ∧ (∃ (hall stream : Nat) (s : State), tdiThere s hall = false) :=
  ⟨⟨3, spdmS, by decide +kernel⟩,
   ⟨3, 64, 2, 1, true, 5#256, spdmS, by decide +kernel⟩,
   ⟨3, 64, 2, 1, true, spdmS.updAt fun a =>
    { a with ideKeys := [(ideKeyAt 64 2 true 1, { loaded := true, active := false, recent := false, key := 5#256, count := 0 })] },
    by decide +kernel⟩,
   ⟨3, 64, 2, 1, true, spdmS.updAt fun a =>
    { a with ideKeys := [(ideKeyAt 64 2 true 1, { loaded := true, active := true, recent := true, key := 5#256, count := 7 })] },
    by decide +kernel⟩,
   ⟨5, tdiS .run, by decide +kernel⟩,
   ⟨5, tdiS .locked, by decide +kernel⟩,
   ⟨5, 10#256, tdiS .locked, by decide +kernel⟩,
   ⟨5, tdiS .unlocked, by decide +kernel⟩,
   ⟨5, tdiS .run, by decide +kernel⟩,
   ⟨5, (tdiS .run).updItu fun u => { u with halls := [(5, { u.halls.get 5 with stopPending := true, drained := true, state := .retiring })] },
    by decide +kernel⟩,
   ⟨5, 3, [1#8, 2#8], Spdm.mk 3 0 true 5 0#384 [], stopS, by decide +kernel⟩,
   ⟨6, 63, tdiS .run, by decide +kernel⟩⟩

/-- Hypotheses of clause 6 of `IdeAndTdispRequests`. -/
theorem test_IdeAndTdispRequests_clause_6_has_a_witness (h : Config.barBase 6 + 0xFFFF < 2 ^ 64) :
    ∃ (hall stream : Nat) (s : State), tdiThere s hall = true ∧ (hallOf s hall).state = .live ∧ flrRuns s hall = false
    ∧ (hallOf s hall).tdi = .unlocked ∧ (hallOf s hall).lockBusy = false ∧ s.lcState = field ∧ s.dom.joined = true
    ∧ lockStreamOk s hall stream = true :=
  by
  refine ⟨5, 63, lockS, ?_, ?_, ?_, ?_, ?_, ?_, ?_, lockS_streamOk h⟩ <;> decide +kernel

/-- Hypotheses of the clauses 1, 5, 6, 7, 8, 9, 10, 11, 12 of `DomainCommands`. -/
theorem test_DomainCommands_has_witnesses :
    (∃ (a : Act) (arg b : Bytes) (s w : State), mayAct s [.domainManager] a = true ∧ s.lcState = field ∧ w = chunkFrom a.sess arg s
      ∧ otherSession w a.sess = false ∧ chunkJoins s.dom.manifestBuf arg = some b ∧ docWhole b = false)
    ∧ (∃ (a : Act) (m p : Bytes) (r : Handle) (s v u : State), mayAct s [.domainManager] a = true ∧ s.lcState = field ∧ s.dom.joined = false
      ∧ otherSession s a.sess = false ∧ s.dom.newManifest = some m ∧ s.dom.newPlan = some p ∧ s.dom.root = some r
      ∧ deriveEpochKey (mfEpoch m) s = (Status.ok, v) ∧ u = joinMade a.sess m p s v)
    ∧ (∃ (a : Act) (s : State), mayAct s [.domainManager] a = true ∧ (usedHalls s).any (fun e => isSealed e.2) = false)
    ∧ (∃ (a : Act) (m : Nat) (s : State), mayAct s [.domainManager] a = true ∧ s.dom.joined = true ∧ m < 8192)
    ∧ (∃ (a : Act) (m p arg : Bytes) (s v u : State), mayAct s [.domainManager] a = true ∧ s.dom.stepPending = false ∧ s.dom.newManifest = some m
      ∧ s.dom.newPlan = some p ∧ arg.length = 4 ∧ s.dom.joined = true ∧ s.dom.epoch.toNat + 1 = num arg 0 4 ∧ num arg 0 4 < 2 ^ 32
      ∧ mfEpoch m = num arg 0 4 ∧ mfMember s m = s.dom.member.toNat ∧ deriveEpochKey (num arg 0 4) s = (Status.ok, v)
      ∧ (mfMembers m).filter (fun x => x.lost && !memberLost s x.id) = [] ∧ u = stepMade (num arg 0 4) m p v)
    ∧ (∃ (a : Act) (arg : Bytes) (s : State), mayAct s [.domainManager] a = true ∧ arg.length = 8 ∧ s.dom.stepPending = true ∧ s.dom.switched = false)
    ∧ (∃ (a : Act) (arg : Bytes) (s : State), mayAct s [.domainManager] a = true ∧ arg.length = 4 ∧ s.dom.joined = true)
    ∧ (∃ (ctx : Nat) (m : Bytes) (s : State), m.length = 64 ∧ num m 0 2 = 1 ∧ allZero (m.drop 20) = true
      ∧ (s.dom.retireSeen.get (num m 2 2)).toNat < num m 8 8)
    ∧ (∃ (ctx : Nat) (m : Bytes) (s : State), num m 8 8 ≤ (s.dom.retireSeen.get (num m 2 2)).toNat) :=
  ⟨⟨dm, natLe 4 4 ++ [7#8], [1#8, 2#8, 3#8, 4#8, 7#8], serving.updDom (fun d => { d with manifestBuf := [1#8, 2#8, 3#8, 4#8] }),
    serving.updDom (fun d => { d with manifestBuf := [1#8, 2#8, 3#8, 4#8] }), by decide +kernel⟩,
   by
  refine ⟨dm, mfDoc 1, planDoc, 0x10000001#32, joinS 1, (deriveEpochKey (mfEpoch (mfDoc 1)) (joinS 1)).2,
    joinMade 0 (mfDoc 1) planDoc (joinS 1) (deriveEpochKey (mfEpoch (mfDoc 1)) (joinS 1)).2, ?_, ?_, ?_, ?_, ?_, ?_, ?_, Prod.ext (?_) rfl,
    rfl⟩ <;> decide +kernel,
   ⟨dm, (joinS 1).updDom fun d => { d with joined := true, epoch := 5#32 }, by decide +kernel⟩,
   ⟨dm, 8191, joinedS, by decide +kernel⟩,
   by
  refine ⟨dm, mfDoc 6, planDoc, natLe 6 4, joinedS, (deriveEpochKey (num (natLe 6 4) 0 4) joinedS).2,
    stepMade 6 (mfDoc 6) planDoc (deriveEpochKey (num (natLe 6 4) 0 4) joinedS).2, ?_, ?_, ?_, ?_, ?_, ?_, ?_, ?_, ?_, ?_, Prod.ext (?_) rfl, ?_,
    rfl⟩ <;> decide +kernel,
   ⟨dm, natLe 0xFFFFFFFFFFFFFFFF 8, joinedS.updDom fun d => { d with stepPending := true }, by decide +kernel⟩,
   ⟨dm, natLe 5 4, joinedS, by decide +kernel⟩,
   ⟨0, natLe 1 2 ++ natLe 3 2 ++ natLe 0 4 ++ natLe 1 8 ++ natLe 5 2 ++ natLe 3 2 ++ List.replicate 44 0#8, joinedS, by decide +kernel⟩,
   ⟨0, natLe 1 2 ++ natLe 3 2 ++ natLe 0 4 ++ natLe 0 8 ++ List.replicate 48 0#8, joinedS, by decide +kernel⟩⟩

/-- Hypotheses of clause 2 of `DomainCommands`. -/
theorem test_DomainCommands_clause_2_has_a_witness (h : docSigned (sessOf serving dm.sess).leaf (mfDoc 1) = true) :
    ∃ (a : Act) (arg b : Bytes) (s w : State), mayAct s [.domainManager] a = true ∧ s.lcState = field ∧ w = chunkFrom a.sess arg s
    ∧ otherSession w a.sess = false ∧ chunkJoins s.dom.manifestBuf arg = some b ∧ docWhole b = true ∧ docSigned (sessOf s a.sess).leaf b = true
    ∧ mfForm b = true ∧ mfOwnOk { w with dom := { w.dom with manifestBuf := [] } } b = true
    ∧ signerOk { w with dom := { w.dom with manifestBuf := [] } } (sessOf s a.sess).leaf = true :=
  by
  refine ⟨dm, natLe 0 4 ++ mfDoc 1, mfDoc 1, serving, serving, ?_, ?_, ?_, ?_, ?_, ?_, h, ?_, ?_, ?_⟩ <;> decide +kernel

/-- Hypotheses of clause 3 of `DomainCommands`. -/
theorem test_DomainCommands_clause_3_has_a_witness (h : docSigned (sessOf (joinS 1) dm.sess).leaf planDoc = true) (v : Config.sha384 (mfDoc 1) =
    0#384) :
    ∃ (a : Act) (arg b m : Bytes) (s u : State), mayAct s [.domainManager] a = true ∧ s.lcState = field ∧ otherSession s a.sess = false
    ∧ chunkJoins s.dom.planBuf arg = some b ∧ docWhole b = true ∧ u = { s with dom := { s.dom with planBuf := [] } }
    ∧ docSigned (sessOf s a.sess).leaf b = true ∧ signerOk u (sessOf s a.sess).leaf = true ∧ s.dom.newManifest = some m
    ∧ planForm b (mfMember u m) (docDigest m) = true :=
  by
  refine ⟨dm, natLe 0 4 ++ planDoc, planDoc, mfDoc 1, joinS 1, joinS 1, ?_, ?_, ?_, ?_, ?_, ?_, h, ?_, ?_, planDoc_form v⟩ <;> decide +kernel

/-- Hypotheses of clause 4 of `DomainCommands`. -/
theorem test_DomainCommands_clause_4_has_a_witness (h : (domainRootOp dm.sess (natLe 3 4 ++ List.replicate 48 0#8) spdmS).1.1 = Status.ok) :
    ∃ (a : Act) (arg b : Bytes) (s v : State), mayAct s [.domainManager] a = true ∧ domainRootOp a.sess arg s = ((Status.ok, b), v) :=
  ⟨dm, natLe 3 4 ++ List.replicate 48 0#8, (domainRootOp dm.sess (natLe 3 4 ++ List.replicate 48 0#8) spdmS).1.2, spdmS,
    (domainRootOp dm.sess (natLe 3 4 ++ List.replicate 48 0#8) spdmS).2, by decide +kernel, by rw [← h]⟩

/-- Hypotheses of the clauses 1, 2, 3, 4, 5, 6, 7, 8, 9, 10, 11, 13, 14 of `LinkSealEngines`. -/
theorem test_LinkSealEngines_has_witnesses :
    (∃ (i : Nat) (s : State), (txOf s i).live = true ∧ (txOf s i).armed = true ∧ s.ls.switchAt.toNat ≤ s.now
      ∧ (laneOf s (txLane (txOf s i))).out.all (fun f => f.ctx != i) = true ∧ (txOf s i).broken = false ∧ toLost s (txOf s i) = false
      ∧ s.ls.tx.any (fun e => e.2.live && e.2.succOf == some i) = false)
    ∧ (∃ (i : Nat) (mismatch : Bool) (k : Chunk) (rest : List Chunk) (key : BitVec 256) (s u v : State), s.fcu.armed = false
      ∧ txHead (txOf s i) = some (k, rest) ∧ txReady (txOf s i) = true ∧ laneSends s (txLane (txOf s i)) = true
      ∧ (laneOf s (txLane (txOf s i))).out = [] ∧ txTurn s i = true ∧ faultStall (Src.linkTx (txPipe s (txLane (txOf s i)))) s = false
      ∧ toLost s (txOf s i) = false ∧ u = updTx i raiseMark (cacheContext i s)
      ∧ sealKey (isControl k)
      { unit := Src.linkTx (txPipe u (txLane (txOf s i))), handle := (txOf s i).handle, hall := handleHall (txOf s i).handle, hgen := (hallOf u (handleHall (txOf s i).handle)).hgen, sealing := true, parent := 0#32, label := [], ticket := 0 }
      u = (.hit key, v))
    ∧ (∃ (lane : Nat) (f : Presented) (rest : List Presented) (s : State), (laneOf s lane).out = f :: rest ∧ f.isVoid = false ∧ f.chunk.type ≠ tClose)
    ∧ (∃ (lane : Nat) (f : Presented) (rest : List Presented) (s : State), (laneOf s lane).out = f :: rest ∧ f.isVoid = true
      ∧ (txOf s f.ctx).live = true)
    ∧ (∃ (p : Nat) (s : State), p < 64 ∧ p < s.conf.lanes ∧ txPipe s p = p ∧ (s.ls.spares.get (groupOf p)).txLane = none
      ∧ (s.ls.spares.get (groupOf p)).txBad = false ∧ s.fcu.armed = false)
    ∧ (∃ (p : Nat) (s : State), p < 64 ∧ p < s.conf.lanes ∧ rxPipe s p = p ∧ (s.ls.spares.get (groupOf p)).rxLane = none
      ∧ (s.ls.spares.get (groupOf p)).rxBad = false ∧ s.fcu.armed = false)
    ∧ (∃ (a : Act) (arg : Bytes) (l : List Nat) (s : State), mayAct s [.domainManager] a = true ∧ arg.length = 3
      ∧ s.ls.rx.filterMap (fun e => if e.2.live && e.2.src.toNat == num arg 0 2 && e.2.stream.toNat == num arg 2 1 then some e.1 else none) = l
      ∧ l ≠ [])
    ∧ (∃ (index : BitVec 9) (s u : State), u = { s with ls := { s.ls with index := index } } ∧ (txOf s index.toNat).live = false ∧ bindForm u = true
      ∧ s.ls.tx.any (fun e => e.2.live && e.2.dst.toNat == lsPeer s.ls && e.2.stream.toNat == lsStream s.ls && e.2.epoch == lsEpoch s.ls) = false)
    ∧ (∃ (index : BitVec 9) (s u : State), u = { s with ls := { s.ls with index := index } } ∧ (rxOf s index.toNat).live = false
      ∧ lsExpander s.ls = false ∧ bindForm u = true ∧ s.ls.rx.any (fun e => e.2.live && e.2.src.toNat == lsPeer s.ls && e.2.stream.toNat ==
      lsStream s.ls && e.2.epoch == lsEpoch s.ls) = false)
    ∧ (∃ (index : BitVec 9) (s : State), lsRx s.ls = false ∧ (txOf s index.toNat).live = true
      ∧ s.ls.lanes.any (fun e => e.2.out.any fun f => f.ctx == index.toNat) = false)
    ∧ (∃ (index : BitVec 9) (s u : State), u = { s with ls := { s.ls with index := index } } ∧ (rxOf s index.toNat).live = true)
    ∧ (∃ (index : BitVec 9) (s : State), lsRx s.ls = false)
    ∧ (∃ (s : State), s.injectionAllowed = true ∧ lsLane s.ls < s.conf.lanes ∧ lsRx s.ls = false) :=
  ⟨⟨511, txS fun c => { c with armed := true }, by decide +kernel⟩,
   ⟨511, false, plainChunk tService [], [], 9#256, txS fun c => { c with chunks := [plainChunk tService []] },
    updTx 511 raiseMark (cacheContext 511 (txS fun c => { c with chunks := [plainChunk tService []] })),
    (keyFor
    { unit := Src.linkTx 63, handle := 0x10000001#32, hall := 0xFFF, hgen := 0#16, sealing := true, parent := 0#32, label := [], ticket := 0 }
    (updTx 511 raiseMark (cacheContext 511 (txS fun c => { c with chunks := [plainChunk tService []] })))).2, by decide +kernel⟩,
   ⟨63, { (default : Presented) with ctx := 511, seq := 1, bytes := [1#8], chunk := plainChunk tService [] }, [],
    (txS id).updLs fun l =>
    { l with lanes := [(63, { (default : Lane) with out := [{ (default : Presented) with ctx := 511, seq := 1, bytes := [1#8], chunk := plainChunk tService [] }] })] },
    by decide +kernel⟩,
   ⟨63, { (default : Presented) with ctx := 511, seq := 1, bytes := [1#8], isVoid := true, chunk := plainChunk tService [] }, [],
    (txS id).updLs fun l =>
    { l with lanes := [(63, { (default : Lane) with out := [{ (default : Presented) with ctx := 511, seq := 1, bytes := [1#8], isVoid := true, chunk := plainChunk tService [] }] })] },
    by decide +kernel⟩,
   ⟨63, serving, by decide +kernel⟩,
   ⟨63, serving, by decide +kernel⟩,
   ⟨dm, natLe 3 2 ++ natLe 255 1, [511], serving.updLs fun l =>
    { l with rx := [(511, { (default : RxCtx) with live := true, src := 3#16, stream := 255#8 })] }, by decide +kernel⟩,
   ⟨511#9, lsS, { lsS with ls := { lsS.ls with index := 511#9 } }, by decide +kernel⟩,
   ⟨511#9, lsS, { lsS with ls := { lsS.ls with index := 511#9 } }, by decide +kernel⟩,
   ⟨511#9, txS id, by decide +kernel⟩,
   ⟨511#9, (serving.updLs fun l => { l with rx := [(511, { (default : RxCtx) with live := true, src := 3#16, stream := 255#8 })] }),
    { (serving.updLs fun l => { l with rx := [(511, { (default : RxCtx) with live := true, src := 3#16, stream := 255#8 })] }) with ls := { serving.ls with index := 511#9, rx := [(511, { (default : RxCtx) with live := true, src := 3#16, stream := 255#8 })] } },
    by decide +kernel⟩,
   ⟨511#9, txS id, by decide +kernel⟩,
   ⟨(testS.updLs fun l => { l with arg1 := 0xFC#32 }), by decide +kernel⟩⟩

/-- Hypotheses of the clauses 1, 2, 3, 4, 5, 6, 7, 8, 9, 10 of `LineRequests`. -/
theorem test_LineRequests_has_witnesses :
    (∃ (a : LineAcc) (data : Bytes) (s : State) (q : LineReq), q = lineReqOf s a .write (~~~0#64) data ∧ lineTaken s a = true
      ∧ isVault a.region = false ∧ (regionOf s a.region).state = .writing ∧ (regionOf s a.region).sealing = false
      ∧ (regionOf s a.region).cursor ≤ q.line)
    ∧ (∃ (a : LineAcc) (data : Bytes) (s : State) (q : LineReq), q = lineReqOf s a .write (~~~0#64) data ∧ lineTaken s a = true
      ∧ (regionOf s a.region).state = .active ∧ (regionOf s a.region).sealing = false)
    ∧ (∃ (a : LineAcc) (be : BitVec 64) (data : Bytes) (s : State) (q : LineReq),
      q = lineReqOf s a (if be = ~~~0#64 then .write else .partialWrite) be data ∧ lineTaken s a = true ∧ isVault a.region = true
      ∧ (regionOf s a.region).state = .active ∧ (regionOf s a.region).sealing = false)
    ∧ (∃ (a : LineAcc) (s : State) (q : LineReq), q = lineReqOf s a .read 0#64 [] ∧ lineTaken s a = true
      ∧ (((regionOf s a.region).state = .active ∨ (regionOf s a.region).state = .sealed ∨ (regionOf s a.region).state = .tainted ∨ ((regionOf s
      a.region).state = .writing ∧ q.line < (regionOf s a.region).cursor))))
    ∧ (∃ (a : LineAcc) (s : State), 4096 ≤ s.ln.inflight.length)
    ∧ (∃ (q : LineReq) (rest : List LineReq) (s : State), s.ln.stalled = q :: rest ∧ s.ln.inflight.length < 4096)
    ∧ (∃ (pipe : Nat) (p : Bytes) (q : LineReq) (s : State), pipe < s.conf.linePipes ∧ s.fcu.safe = false ∧ s.fcu.armed = false
      ∧ s.tr.requests.any (fun r => r.id == num p 0 4) = false ∧ s.ln.aborted.find? (·.1 == num p 0 4) = none
      ∧ s.ln.inflight.find? (fun r => r.id == num p 0 4 && (r.phase == 1 || r.phase == 2)) = some q ∧ num p 4 1 = 2 ∧ rspStatus p 0 = 0
      ∧ rspStatus p 1 = 0)
    ∧ (∃ (pipe : Nat) (p : Bytes) (s : State), pipe < s.conf.linePipes ∧ s.fcu.safe = false ∧ s.fcu.armed = false
      ∧ s.tr.requests.any (fun r => r.id == num p 0 4) = false ∧ s.ln.aborted.find? (·.1 == num p 0 4) = none
      ∧ s.ln.inflight.find? (fun r => r.id == num p 0 4 && (r.phase == 1 || r.phase == 2)) = none)
    ∧ (∃ (pipe unit : Nat) (p : Bytes) (s : State), pipe < s.conf.linePipes ∧ s.fcu.safe = false
      ∧ s.tr.requests.any (fun r => r.id == num p 0 4) = false ∧ s.ln.aborted.find? (·.1 == num p 0 4) = some (num p 0 4, unit))
    ∧ (∃ (pipe : Nat) (p : Bytes) (s : State), s.conf.linePipes ≤ pipe) :=
  ⟨⟨acc 1279 64, List.replicate 64 7#8, lnS 1279 (reel .writing), lineReqOf (lnS 1279 (reel .writing)) (acc 1279 64) .write (~~~0#64) (List.replicate
    64 7#8), by decide +kernel⟩,
   ⟨acc 255 65472, List.replicate 64 7#8, lnS 255 (vault .active), lineReqOf (lnS 255 (vault .active)) (acc 255 65472) .write (~~~0#64)
    (List.replicate 64 7#8), by decide +kernel⟩,
   ⟨acc 255 65472, 1#64, List.replicate 64 7#8, lnS 255 (vault .active), lineReqOf (lnS 255 (vault .active)) (acc 255 65472) .partialWrite 1#64
    (List.replicate 64 7#8), by decide +kernel⟩,
   ⟨acc 1279 64, lnS 1279 { reel .writing with cursor := 2 }, lineReqOf (lnS 1279 { reel .writing with cursor := 2 }) (acc 1279 64) .read 0#64 [],
    by decide +kernel⟩,
   ⟨acc 1279 64, (lnS 1279 (reel .sealed)).updLn fun l => { l with inflight := List.replicate 4096 default }, by decide +kernel⟩,
   ⟨{ (default : LineReq) with acc := acc 1279 64 }, [], (lnS 1279 (reel .sealed)).updLn fun l =>
    { l with stalled := [{ (default : LineReq) with acc := acc 1279 64 }] }, by decide +kernel⟩,
   ⟨7, natLe 5 4 ++ [2#8] ++ List.replicate 187 0#8, { (default : LineReq) with id := 5, acc := acc 1279 64, op := .write, phase := 2 },
    (lnS 1279 (reel .writing)).updLn fun l =>
    { l with inflight := [{ (default : LineReq) with id := 5, acc := acc 1279 64, op := .write, phase := 2 }] }, by decide +kernel⟩,
   ⟨7, natLe 5 4 ++ [2#8] ++ List.replicate 187 0#8, serving, by decide +kernel⟩,
   ⟨7, 300, natLe 5 4 ++ [2#8] ++ List.replicate 187 0#8, serving.updLn fun l => { l with aborted := [(5, 300)] }, by decide +kernel⟩,
   ⟨7, [], { serving with conf := .m4 }, by decide +kernel⟩⟩

/-- Hypotheses of the clauses 1, 2, 3, 4, 5, 6, 7, 8, 9, 10, 11, 12, 13 of `RegionCommands`. -/
theorem test_RegionCommands_has_witnesses :
    (∃ (index : BitVec 11) (sealed : Bool) (s : State), s.ln.go = false ∧ index.toNat < 1280 ∧ isVault index.toNat = false
      ∧ regionWriteRefusal index.toNat (descBytes s.ln) sealed
      { s with ln := { s.ln with sealed := sealed, index := BitVec.ofNat 11 index.toNat } } = none)
    ∧ (∃ (index : BitVec 11) (sealed : Bool) (s : State), s.ln.go = false ∧ isVault index.toNat = true ∧ (treeOf s index.toNat).state ≠ .staged
      ∧ regionWriteRefusal index.toNat (descBytes s.ln) sealed
      { s with ln := { s.ln with sealed := sealed, index := BitVec.ofNat 11 index.toNat } } = none)
    ∧ (∃ (index : BitVec 11) (s : State), s.ln.go = false ∧ index.toNat < 1280 ∧ (regionOf s index.toNat).state ≠ .free
      ∧ (treeOf s index.toNat).busy = false ∧ regionQuiet s index.toNat = true ∧ combBusy s index.toNat = false)
    ∧ (∃ (index : BitVec 11) (s : State), s.ln.go = false ∧ index.toNat < 1280 ∧ (regionOf s index.toNat).state ≠ .free
      ∧ (treeOf s index.toNat).busy = false ∧ (regionQuiet s index.toNat && !combBusy s index.toNat) = false)
    ∧ (∃ (index : BitVec 11) (s : State), s.ln.go = false ∧ index.toNat < 1280 ∧ (regionOf s index.toNat).state = .writing)
    ∧ (∃ (r : Nat) (s : State), (regionOf s r).sealing = true ∧ acceptedLines s r = false)
    ∧ (∃ (r : Nat) (s : State), (regionOf s r).sealing = true ∧ acceptedLines s r = true)
    ∧ (∃ (index : BitVec 11) (s : State), s.ln.go = false ∧ isVault index.toNat = true ∧ s.conf.tree = true ∧ (regionOf s index.toNat).state = .active
      ∧ (treeOf s index.toNat).busy = false ∧ regionEraseOk index.toNat s = true)
    ∧ (∃ (index : BitVec 11) (s : State), s.ln.go = false ∧ isVault index.toNat = false ∧ s.ln.answer = [])
    ∧ (∃ (r : Nat) (s : State), (regionOf s r).state = .erasing ∧ regionQuiet s r = true ∧ combBusy s r = false)
    ∧ (∃ (index : BitVec 11) (s : State), s.ln.go = false ∧ index.toNat < 1280)
    ∧ (∃ (index : BitVec 11) (s : State), s.ln.go = false ∧ 1280 ≤ index.toNat)
    ∧ (∃ (index : BitVec 11) (s : State), s.ln.go = true) :=
  ⟨⟨1279#11, false, lnS 1278 (reel .sealed), by decide +kernel⟩,
   ⟨255#11, true, lnS 254 (vault .active), by decide +kernel⟩,
   ⟨255#11, lnS 255 (vault .active), by decide +kernel⟩,
   ⟨1279#11, (lnS 1279 (reel .writing)).updLn fun l => { l with inflight := [{ (default : LineReq) with acc := acc 1279 0 }] }, by decide +kernel⟩,
   ⟨1279#11, lnS 1279 (reel .writing), by decide +kernel⟩,
   ⟨1279, lnS 1279 { reel .writing with sealing := true }, by decide +kernel⟩,
   ⟨1279, (lnS 1279 { reel .writing with sealing := true }).updLn fun l => { l with inflight := [{ (default : LineReq) with acc := acc 1279 0 }] },
    by decide +kernel⟩,
   ⟨255#11, lnS 255 (vault .active), by decide +kernel⟩,
   ⟨256#11, lnS 256 (reel .sealed), by decide +kernel⟩,
   ⟨255, lnS 255 { vault .erasing with newDesc := rDesc true 1, newNkey := 0x50050102#32 }, by decide +kernel⟩,
   ⟨1279#11, lnS 1279 { reel .writing with cursor := 1024 }, by decide +kernel⟩,
   ⟨1280#11, serving, by decide +kernel⟩,
   ⟨7#11, serving.updLn fun l => { l with go := true }, by decide +kernel⟩⟩

/-- Hypotheses of the clauses 1, 2, 3, 4, 6, 7, 8, 9, 10, 11, 12 of `TreeCommands`. -/
theorem test_TreeCommands_has_witnesses :
    (∃ (index : Byte) (keep : Bool) (s : State), s.tr.go = false ∧ s.conf.tree = true ∧ (treeOf s index.toNat).state = .active
      ∧ (regionOf s index.toNat).state = .active ∧ (treeOf s index.toNat).busy = false)
    ∧ (∃ (index : Byte) (s : State), s.tr.go = false ∧ s.conf.tree = true ∧ ((treeOf s index.toNat).state = .active
      ∧ (regionOf s index.toNat).state = .active ∨ (treeOf s index.toNat).state = .tainted ∧ (regionOf s index.toNat).state = .tainted)
      ∧ (treeOf s index.toNat).busy = false)
    ∧ (∃ (index : Byte) (keep : Bool) (s : State), s.tr.go = false ∧ (treeOf s index.toNat).state ≠ .active ∧ (treeOf s index.toNat).state ≠ .tainted)
    ∧ (∃ (index : Byte) (s : State), s.tr.go = false ∧ (treeOf s index.toNat).state ≠ .active ∧ (treeOf s index.toNat).state ≠ .tainted)
    ∧ (∃ (index : Byte) (s : State), s.tr.go = false ∧ s.conf.tree = true ∧ s.lcState = scrap)
    ∧ (∃ (index : Byte) (s : State), s.tr.go = false ∧ (treeOf s index.toNat).state = .staged)
    ∧ (∃ (index : Byte) (s : State), s.tr.go = false ∧ (treeOf s index.toNat).state ≠ .staged)
    ∧ (∃ (index : Byte) (s : State), s.tr.go = false)
    ∧ (∃ (index : Byte) (level : BitVec 4) (s : State), s.tr.go = false ∧ s.injectionAllowed = true ∧ s.conf.tree = true)
    ∧ (∃ (index : Byte) (level : BitVec 4) (s : State), s.tr.go = false ∧ s.injectionAllowed = false)
    ∧ (∃ (index : Byte) (keep : Bool) (level : BitVec 4) (s : State), s.tr.go = true) :=
  ⟨⟨255#8, true, lnS 255 (vault .active), by decide +kernel⟩,
   ⟨255#8, (lnS 255 (vault .tainted)).updTr fun t => { t with trees := [(255, { (default : Tree) with state := .tainted })] }, by decide +kernel⟩,
   ⟨255#8, true, serving, by decide +kernel⟩,
   ⟨255#8, serving, by decide +kernel⟩,
   ⟨255#8, serving.updLc fun l => { l with otp := [(69, 0x1000000#39), (81, 0x1000000#39), (96, full), (97, full), (99, full)] }, by decide +kernel⟩,
   ⟨255#8, serving.updTr fun t =>
    { t with trees := [(255, { (default : Tree) with state := .staged })], requests := [{ (default : NodeReq) with id := 5, region := 255 }] },
    by decide +kernel⟩,
   ⟨255#8, lnS 255 (vault .active), by decide +kernel⟩,
   ⟨255#8, lnS 255 (vault .active), by decide +kernel⟩,
   ⟨255#8, 0xF#4, testS, by decide +kernel⟩,
   ⟨255#8, 0xF#4, serving.updLc fun l => { l with otp := [(69, 0x1000000#39), (81, 0x1000000#39), (96, full), (97, full), (99, full)] },
    by decide +kernel⟩,
   ⟨255#8, true, 0xF#4, serving.updTr fun t => { t with go := true }, by decide +kernel⟩⟩

/-- Hypotheses of clause 5 of `TreeCommands`. -/
theorem test_TreeCommands_clause_5_has_a_witness (h : Crypto.digestBytes (Crypto.hmac (Crypto.keyBytes (storageKey blobS)) ((blobBytes blobS.tr).take
    192)) = List.replicate 48 0#8) :
    ∃ (index : Byte) (s : State), s.tr.go = false ∧ rootLoadOk index.toNat s = true :=
  ⟨255#8, blobS, by decide +kernel, by simp only [rootLoadOk, h]; decide +kernel⟩

/-- Hypotheses of the clauses 1, 3, 4, 5, 6, 7, 8, 9, 10 of `MoverCommands`. -/
theorem test_MoverCommands_has_witnesses :
    (∃ (mover : BitVec 4) (s : State), mover.toNat < s.conf.movers ∧ isLanding s (Src.mover mover.toNat) = false
      ∧ (moverOf s mover.toNat).reserved.length < 16)
    ∧ (∃ (mover : BitVec 4) (s : State), mover.toNat < s.conf.movers)
    ∧ (∃ (m : Nat) (s : State), s.fcu.safe = false ∧ moverFresh m s = true ∧ (moverOf s m).seg.isSome = true)
    ∧ (∃ (m : Nat) (s : State), s.fcu.safe = false ∧ moverFresh m s = true ∧ m < s.conf.movers ∧ faultStall (Src.mover m) s = false
      ∧ (moverOf s m).tokens = [] ∧ (moverOf s m).seg = none ∧ nextClass (moverOf s m) = none)
    ∧ (∃ (m c : Nat) (d : MDesc) (s u : State), s.fcu.safe = false ∧ moverFresh m s = true ∧ m < s.conf.movers ∧ faultStall (Src.mover m) s = false
      ∧ isLanding s (Src.mover m) = false ∧ (moverOf s m).tokens = [] ∧ (moverOf s m).seg = none ∧ nextClass (moverOf s m) = some c
      ∧ (classQueue (moverOf s m) c).find? (fun d => !mdDone d) = some d ∧ lostMover (moverOf s m) c = none
      ∧ u = updMover m (fun y => { y with seg := some (segBegin d c), running := c + 1 }) (markWaits m c s)
      ∧ (d.started || moverCheck d.desc d.work.isNone u) = true)
    ∧ (∃ (m c : Nat) (d : MDesc) (s u : State), s.fcu.safe = false ∧ moverFresh m s = true ∧ m < s.conf.movers ∧ faultStall (Src.mover m) s = false
      ∧ isLanding s (Src.mover m) = false ∧ (moverOf s m).tokens = [] ∧ (moverOf s m).seg = none ∧ nextClass (moverOf s m) = some c
      ∧ (classQueue (moverOf s m) c).find? (fun d => !mdDone d) = some d ∧ lostMover (moverOf s m) c = none
      ∧ u = updMover m (fun y => { y with seg := some (segBegin d c), running := c + 1 }) (markWaits m c s) ∧ d.started = false
      ∧ moverCheck d.desc d.work.isNone u = false)
    ∧ (∃ (m : Nat) (d : MDesc) (rest : List MDesc) (s : State), s.fcu.safe = false ∧ (moverOf s m).radio = d :: rest ∧ mdDone d = true)
    ∧ (∃ (m w : Nat) (d : MDesc) (rest : List MDesc) (s : State), s.fcu.safe = false ∧ (moverOf s m).radio = d :: rest ∧ mdDone d = true
      ∧ d.work = some w)
    ∧ (∃ (m q : Nat) (qgen : BitVec 16) (s : State), (moverOf s m).seg.isSome = true ∧ (moverOf s m).tokens.contains (q, qgen) = false) :=
  ⟨⟨3#4, serving, by decide +kernel⟩,
   ⟨3#4, serving, by decide +kernel⟩,
   ⟨3, serving.updMv fun v => { v with movers := [(3, { (default : Mover) with seg := some default })] }, by decide +kernel⟩,
   ⟨3, serving, by decide +kernel⟩,
   ⟨3, 0, { (default : MDesc) with desc := mDesc 0 }, mvS 0, updMover 3 (fun y =>
    { y with seg := some (segBegin { (default : MDesc) with desc := mDesc 0 } 0), running := 1 }) (markWaits 3 0 (mvS 0)), by decide +kernel⟩,
   ⟨3, 0, { (default : MDesc) with desc := mDesc 4 }, mvS 4, updMover 3 (fun y =>
    { y with seg := some (segBegin { (default : MDesc) with desc := mDesc 4 } 0), running := 1 }) (markWaits 3 0 (mvS 4)), by decide +kernel⟩,
   ⟨3, { (default : MDesc) with stopped := true }, [], serving.updMv fun v =>
    { v with movers := [(3, { (default : Mover) with radio := [{ (default : MDesc) with stopped := true }] })] }, by decide +kernel⟩,
   ⟨3, 0, { (default : MDesc) with stopped := true, work := some 0 }, [], serving.updMv fun v =>
    { v with movers := [(3, { (default : Mover) with radio := [{ (default : MDesc) with stopped := true, work := some 0 }] })] },
    by decide +kernel⟩,
   ⟨3, 0, 0#16, serving.updMv fun v => { v with movers := [(3, { (default : Mover) with seg := some default })] }, by decide +kernel⟩⟩

/-- Hypotheses of the clauses 1, 2, 3, 4, 5, 6, 7, 8, 9, 10, 11 of `ReductionCommands`. -/
theorem test_ReductionCommands_has_witnesses :
    (∃ (u : BitVec 3) (slot : BitVec 2) (s : State), u.toNat < s.conf.redUnits)
    ∧ (∃ (u : BitVec 3) (slot : BitVec 2) (s : State), u.toNat < s.conf.redUnits ∧ (redOf s u.toNat slot.toNat).state ≠ 0
      ∧ (redOf s u.toNat slot.toNat).ending = Status.ok)
    ∧ (∃ (u : BitVec 3) (slot : BitVec 2) (s : State), 0 < s.conf.redUnits ∧ ((s.conf.redUnits ≤ u.toNat ∨ (redOf s u.toNat slot.toNat).state = 0)))
    ∧ (∃ (u k : Nat) (lines : List MemLine) (s : State), redReady (redOf s u k) = 0)
    ∧ (∃ (u k : Nat) (lines : List MemLine) (s : State), redRuns u k s = true ∧ (memberLost s (rdNext (redOf s u k).desc) || memberLost s (rdPrev (redOf
      s u k).desc)) = true)
    ∧ (∃ (u k : Nat) (lines : List MemLine) (e : Status) (s v : State), redRuns u k s = true ∧ memberLost s (rdNext (redOf s u k).desc) = false
      ∧ memberLost s (rdPrev (redOf s u k).desc) = false ∧ localTrans (redOf s u k).desc (redLocalNeed (redOf s u k)) s = (e, v) ∧ e ≠ Status.ok
      ∧ e ≠ Status.hallGone)
    ∧ (∃ (u k : Nat) (lines : List MemLine) (s v : State), redRuns u k s = true ∧ memberLost s (rdNext (redOf s u k).desc) = false
      ∧ memberLost s (rdPrev (redOf s u k).desc) = false ∧ localTrans (redOf s u k).desc (redLocalNeed (redOf s u k)) s = (Status.hallGone, v))
    ∧ (∃ (u k : Nat) (lines : List MemLine) (s : State), redRuns u k s = true ∧ s.fcu.armed = false ∧ memberLost s (rdNext (redOf s u k).desc) = false
      ∧ memberLost s (rdPrev (redOf s u k).desc) = false ∧ redLocalNeed (redOf s u k) = [])
    ∧ (∃ (u k : Nat) (lines : List MemLine) (s v : State), redRuns u k s = true ∧ v.fcu.armed = false ∧ memberLost s (rdNext (redOf s u k).desc) = false
      ∧ memberLost s (rdPrev (redOf s u k).desc) = false ∧ localTrans (redOf s u k).desc (redLocalNeed (redOf s u k)) s = (Status.ok, v)
      ∧ redLocalNeed (redOf s u k) ≠ [] ∧ lines ≠ [] ∧ ((∀ l ∈ lines, l.err = 0#2)))
    ∧ (∃ (u k : Nat) (s : State), s.fcu.safe = false ∧ (redOf s u k).state = 3 ∧ (redOf s u k).stores = 0 ∧ (redOf s u k).sends = 0)
    ∧ (∃ (u k : Nat) (s : State), s.fcu.safe = false ∧ (((redOf s u k).state ≠ 3 ∨ 0 < (redOf s u k).stores ∨ 0 < (redOf s u k).sends))) :=
  ⟨⟨7#3, 3#2, redS serving id, by decide +kernel⟩,
   ⟨7#3, 3#2, redS serving id, by decide +kernel⟩,
   ⟨6#3, 3#2, redS serving id, by decide +kernel⟩,
   ⟨7, 3, [], redS serving fun x => { x with stage := 1 }, by decide +kernel⟩,
   ⟨7, 3, [], (redS serving id).updDom fun d => { d with lost := [4] }, by decide +kernel⟩,
   ⟨7, 3, [], Status.translationFault, redS serving id, (localTrans rdDoc [0] (redS serving id)).2, by decide +kernel⟩,
   ⟨7, 3, [], redG, (localTrans rdDoc [0] redG).2, by decide +kernel⟩,
   ⟨7, 3, [], redS serving fun x => { x with fetched := true }, by decide +kernel⟩,
   ⟨7, 3, [{ err := 0#2, data := List.replicate 64 1#8 }], redS mapS id, (localTrans rdDoc [0] (redS mapS id)).2, by decide +kernel⟩,
   ⟨7, 3, redS serving fun x => { x with state := 3 }, by decide +kernel⟩,
   ⟨7, 3, redS serving fun x => { x with state := 3, sends := 1 }, by decide +kernel⟩⟩

/-- Hypotheses of the clauses 1, 2, 3, 4, 5, 6, 7, 8, 9, 10, 11, 12, 13, 14, 15, 16, 17, 18 of `HomeAndCombining`. -/
theorem test_HomeAndCombining_has_witnesses :
    (∃ (i : Nat) (s : State), (rxOf s i).held.find? (fun h => h.type == tReq && !h.taken) = none)
    ∧ (∃ (i : Nat) (h : HeldFrame) (s : State), (rxOf s i).held.find? (fun h => h.type == tReq && !h.taken) = some h ∧ homeFits i h s = false)
    ∧ (∃ (i : Nat) (h : HeldFrame) (s : State), (rxOf s i).held.find? (fun h => h.type == tReq && !h.taken) = some h ∧ homeFits i h s = true
      ∧ rqPosted (h.payload.take 64) = true ∧ homeRoom s ((rxOf s i).cls == 0#2) 0 = false)
    ∧ (∃ (i : Nat) (h : HeldFrame) (s : State), (rxOf s i).held.find? (fun h => h.type == tReq && !h.taken) = some h ∧ homeFits i h s = true
      ∧ rqPosted (h.payload.take 64) = true ∧ homeRoom s ((rxOf s i).cls == 0#2) 0 = true)
    ∧ (∃ (i : Nat) (h : HeldFrame) (s : State), (rxOf s i).held.find? (fun h => h.type == tReq && !h.taken) = some h ∧ homeFits i h s = true
      ∧ s.fcu.armed = false ∧ rqPosted (h.payload.take 64) = false ∧ reqNumber (rxOf s i) (h.payload.take 64) = .serve
      ∧ homeRoom s ((rxOf s i).cls == 0#2) 1 = false)
    ∧ (∃ (i : Nat) (h : HeldFrame) (s : State), (rxOf s i).held.find? (fun h => h.type == tReq && !h.taken) = some h ∧ homeFits i h s = true
      ∧ s.fcu.armed = false ∧ rqPosted (h.payload.take 64) = false ∧ reqNumber (rxOf s i) (h.payload.take 64) = .serve
      ∧ homeRoom s ((rxOf s i).cls == 0#2) 1 = true)
    ∧ (∃ (i : Nat) (h : HeldFrame) (s : State), (rxOf s i).held.find? (fun h => h.type == tReq && !h.taken) = some h ∧ homeFits i h s = true
      ∧ s.fcu.armed = false ∧ rqPosted (h.payload.take 64) = false ∧ reqNumber (rxOf s i) (h.payload.take 64) = .sync
      ∧ homeRoom s ((rxOf s i).cls == 0#2) 1 = true)
    ∧ (∃ (i : Nat) (h : HeldFrame) (s : State), (rxOf s i).held.find? (fun h => h.type == tReq && !h.taken) = some h ∧ homeFits i h s = true
      ∧ s.fcu.armed = false ∧ rqPosted (h.payload.take 64) = false ∧ reqNumber (rxOf s i) (h.payload.take 64) = .drop)
    ∧ (∃ (e id u : Nat) (rest : List (Nat × Nat)) (r : HomeReq) (s : State), (combOf s e).waiting = (id, u) :: rest ∧ homeReq s id = some r
      ∧ (combOf s e).live = true ∧ (combOf s e).filling = false ∧ s.au.inject = false ∧ s.fcu.armed = false
      ∧ targetTainted s (combOf s e).region = false ∧ rqAtomic r.block = true)
    ∧ (∃ (e id u : Nat) (rest : List (Nat × Nat)) (r : HomeReq) (s : State), (combOf s e).waiting = (id, u) :: rest ∧ homeReq s id = some r
      ∧ (combOf s e).live = true ∧ (combOf s e).filling = false ∧ s.au.inject = false ∧ s.fcu.armed = false
      ∧ targetTainted s (combOf s e).region = false ∧ rqAtomic r.block = false)
    ∧ (∃ (e : Nat) (data : Bytes) (s : State), (combOf s e).live = true ∧ (combOf s e).filling = true)
    ∧ (∃ (e : Nat) (st : Status) (data : Bytes) (s : State), (combOf s e).live = true ∧ (combOf s e).filling = true ∧ (combOf s e).waiting = []
      ∧ st ≠ Status.ok)
    ∧ (∃ (e : Nat) (st : Status) (data : Bytes) (s : State), (combOf s e).filling = false)
    ∧ (∃ (i : Nat) (h : HeldFrame) (s u : State), (rxOf s i).held.find? (fun h => h.type == tRsp && !h.taken) = some h ∧ (rxOf s i).rspParts = []
      ∧ u = takeHeld i h.seq 0 s)
    ∧ (∃ (i : Nat) (b : Bytes) (rest : List Bytes) (h : HeldFrame) (s u : State), (rxOf s i).held.find? (fun h => h.type == tRsp && !h.taken) = some h
      ∧ (rxOf s i).rspParts = b :: rest ∧ u = updRx i (fun c => { c with rspParts := [] }) (takeHeld i h.seq 0 s) ∧ h.last = true)
    ∧ (∃ (hall : BitVec 12) (s u : State), s.conf.atomic = true ∧ s.au.go = false
      ∧ u = { s with au := { s.au with hall := BitVec.ofNat 12 hall.toNat, go := true, op := 1, flushing := true } })
    ∧ (∃ (s u : State), s.conf.atomic = true ∧ s.au.go = false ∧ u =
      { s with au := { s.au with hall := BitVec.ofNat 12 s.au.hall.toNat, go := true, op := 2, flushing := true } })
    ∧ (∃ (s : State), s.conf.atomic = true ∧ s.au.go = false) :=
  ⟨⟨511, serving, by decide +kernel⟩,
   ⟨511, reqH, (reqS reqH).updLs fun l => { l with rx := [(511, { (default : RxCtx) with live := true, hall := 6, held := [reqH] })] },
    by decide +kernel⟩,
   ⟨511, { reqH with payload := 1#8 :: reqH.payload.drop 1 }, (reqS { reqH with payload := 1#8 :: reqH.payload.drop 1 }).updAu fun a =>
    { a with queue := List.replicate 512 default }, by decide +kernel⟩,
   ⟨511, { reqH with payload := 1#8 :: reqH.payload.drop 1 }, reqS { reqH with payload := 1#8 :: reqH.payload.drop 1 }, by decide +kernel⟩,
   ⟨511, reqH, (reqS reqH).updAu fun a => { a with queue := List.replicate 512 default }, by decide +kernel⟩,
   ⟨511, reqH, reqS reqH, by decide +kernel⟩,
   ⟨511, { reqH with payload := 15#8 :: reqH.payload.drop 1 }, reqS { reqH with payload := 15#8 :: reqH.payload.drop 1 }, by decide +kernel⟩,
   ⟨511, reqH, (reqS reqH).updLs fun l => { l with rx := [(511, { l.rx.get 511 with homeNum := some 0xFFFF0000 })] }, by decide +kernel⟩,
   ⟨0, 1, 0, [], { (default : HomeReq) with id := 1, block := 5#8 :: reqH.payload.drop 1 }, auS (5#8 :: reqH.payload.drop 1) fun c => c,
    by decide +kernel⟩,
   ⟨0, 1, 0, [], { (default : HomeReq) with id := 1, block := 1#8 :: reqH.payload.drop 1 }, auS (1#8 :: reqH.payload.drop 1) fun c => c,
    by decide +kernel⟩,
   ⟨0, List.replicate 64 1#8, auS reqH.payload fun c => { c with filling := true, waiting := [] }, by decide +kernel⟩,
   ⟨0, Status.poisoned, [], auS reqH.payload fun c => { c with filling := true, waiting := [] }, by decide +kernel⟩,
   ⟨0, Status.poisoned, [], auS reqH.payload id, by decide +kernel⟩,
   ⟨511, { reqH with type := tRsp, last := false }, reqS { reqH with type := tRsp, last := false },
    takeHeld 511 1 0 (reqS { reqH with type := tRsp, last := false }), by decide +kernel⟩,
   ⟨511, [1#8], [], { reqH with type := tRsp, last := true }, rspS, updRx 511 (fun c => { c with rspParts := [] }) (takeHeld 511 1 0 rspS),
    by decide +kernel⟩,
   ⟨4095#12, serving, serving.updAu fun a => { a with hall := 4095#12, go := true, op := 1, flushing := true }, by decide +kernel⟩,
   ⟨serving, serving.updAu fun a => { a with go := true, op := 2, flushing := true }, by decide +kernel⟩,
   ⟨serving, by decide +kernel⟩⟩

/-- Hypotheses of the clauses 1, 2, 3, 4, 5, 6, 7, 8, 9, 10, 11, 12, 13 of `QueueCommands`. -/
theorem test_QueueCommands_has_witnesses :
    (∃ (a : Act) (arg : Bytes) (q : Nat) (s : State), hallRole s a (num arg 0 2) = true ∧ arg.length ≤ 32 ∧ queueCreateOk (fit arg 32) s = true
      ∧ firstFrom (fun q => (queueOf s q).state == .free) 16384 0 = some q)
    ∧ (∃ (q : Nat) (s : State), s.fe.go = false ∧ queueCreateOk (feArg s.fe) s = true
      ∧ firstFrom (fun q => (queueOf s q).state == .free) 16384 0 = some q)
    ∧ (∃ (a : Act) (arg b : Bytes) (q : Nat) (s : State), b = fit arg 16 ∧ hallRole s a (num b 0 2) = true ∧ arg.length ≤ 16 ∧ num b 3 1 = 0
      ∧ num b 6 2 = 0 ∧ (isSealed (hallOf s (num b 0 2)) && ((hallOf s (num b 0 2)).tdi == .locked || (hallOf s (num b 0 2)).tdi == .run)) = false
      ∧ fenceOfHall s (num b 4 2) (num b 0 2) = true ∧ queueAt s (num b 0 2) (num b 2 1) = some q ∧ (queueOf s q).state ≠ .dying)
    ∧ (∃ (b : Bytes) (q : Nat) (s u : State), s.fe.go = false ∧ b = feArg s.fe ∧ num b 3 1 = 0 ∧ num b 6 2 = 0 ∧ allZero (b.drop 16) = true
      ∧ (isSealed (hallOf s (num b 0 2)) && ((hallOf s (num b 0 2)).tdi == .locked || (hallOf s (num b 0 2)).tdi == .run)) = false
      ∧ fenceOfHall s (num b 4 2) (num b 0 2) = true ∧ queueAt s (num b 0 2) (num b 2 1) = some q ∧ (queueOf s q).state ≠ .dying
      ∧ u = queueDie q (updQueue q (fun x =>
      { x with destroyFence := some (num b 4 2, BitVec.ofNat 64 (num b 8 8)), byFe := true, answer := x.answer ++ [] }) s))
    ∧ (∃ (q f : Nat) (v : DWord) (s u : State), (queueOf s q).state = .dying ∧ (queueOf s q).acks = [] ∧ workOf s q = [] ∧ owed s q = []
      ∧ (queueOf s q).destroyFence = some (f, v) ∧ (queueOf s q).answer = [] ∧ (queueOf s q).byFe = false
      ∧ u = updQueue q (fun _ => { (default : Queue) with qgen := (queueOf s q).qgen + 1 }) s)
    ∧ (∃ (q : BitVec 14) (s : State), s.fe.go = false)
    ∧ (∃ (hall slot q : Nat) (t : Word) (s u : State), u = portInput s ∧ hpServes s = true ∧ queueAt u hall slot = some q ∧ doorbellOk hall q t u = true
      ∧ t ≠ (queueOf u q).tail ∧ (queueOf u q).state = .idle ∧ qClass (hallOf u hall) ≠ 0)
    ∧ (∃ (hall slot q : Nat) (t : Word) (s u : State), u = portInput s ∧ hpServes s = true ∧ queueAt u hall slot = some q
      ∧ doorbellOk hall q t u = false)
    ∧ (∃ (q : Nat) (s : State), (queueOf s q).state = .ready ∧ (queueOf s q).active = false ∧ (queueOf s q).t0 = false ∧ (queueOf s q).fetch = .idle
      ∧ s.fcu.safe = false ∧ (readyQueues s).any (fun p => decide (queueClass s p < queueClass s q) && entryFree s (queueClass s p)) = false
      ∧ entryFree s (queueClass s q) = true)
    ∧ (∃ (q : Nat) (entry : Bytes) (s : State), (queueOf s q).fetch = .ring ∧ (queueOf s q).state = .running ∧ num entry 8 8 = 0
      ∧ num entry 0 8 % 64 = 0)
    ∧ (∃ (q : Nat) (entry : Bytes) (s : State), (queueOf s q).fetch = .ring ∧ (queueOf s q).state = .running
      ∧ ((num entry 8 8 ≠ 0 ∨ num entry 0 8 % 64 ≠ 0)))
    ∧ (∃ (q : Nat) (data : Bytes) (addr : DWord) (h : Bytes) (s u : State), (queueOf s q).state = .running ∧ (queueOf s q).fetch = .header addr none
      ∧ h = fit (data.take 64) 64 ∧ u = queueFetched q s ∧ headerOk u q none h = true ∧ s.fcu.armed = false
      ∧ isSealed (hallOf s (queueOf s q).hall) = false)
    ∧ (∃ (e o : Nat) (s : State), (slotOfEng s e).owner = some o ∧ (slotOfEng s e).overrun = false
      ∧ s.fe.takeLimit.toNat * 64 * nsT < s.now - (slotOfEng s e).takeStart) :=
  ⟨⟨ten, createArg, 0, queS (fun q => q) (fun f => f), by decide +kernel⟩,
   ⟨0, queS id fun f => { f with args := wordsOf createArg 8 }, by decide +kernel⟩,
   ⟨ten, natLe 5 2 ++ [9#8, 0#8] ++ natLe 7 2 ++ natLe 0 2 ++ natLe 1 8, natLe 5 2 ++ [9#8, 0#8] ++ natLe 7 2 ++ natLe 0 2 ++ natLe 1 8, 16383,
    queS (fun q => q) (fun f => f), by decide +kernel⟩,
   ⟨natLe 5 2 ++ [9#8, 0#8] ++ natLe 7 2 ++ natLe 0 2 ++ natLe 1 8 ++ natLe 0 16, 16383, desS,
    queueDie 16383 (updQueue 16383 (fun x => { x with destroyFence := some (7, 1#64), byFe := true }) desS), by decide +kernel⟩,
   ⟨16383, 7, 1#64, queS (fun q => { q with state := .dying, destroyFence := some (7, 1#64) }) id,
    updQueue 16383 (fun _ => { (default : Queue) with qgen := 1#16 }) (queS (fun q => { q with state := .dying, destroyFence := some (7, 1#64) })
    id), by decide +kernel⟩,
   ⟨16383#14, queS (fun q => q) (fun f => f), by decide +kernel⟩,
   ⟨5, 9, 16383, 64#32, queS id id, queS (fun q => q) (fun f => f), by decide +kernel⟩,
   ⟨5, 9, 16383, 65#32, queS id id, queS (fun q => q) (fun f => f), by decide +kernel⟩,
   ⟨16383, queS (fun q => { q with state := .ready }) id, by decide +kernel⟩,
   ⟨16383, natLe 0x40 8 ++ natLe 0 8, queS (fun q => { q with state := .running, fetch := .ring, active := true }) id, by decide +kernel⟩,
   ⟨16383, natLe 0x41 8 ++ natLe 0 8, queS (fun q => { q with state := .running, fetch := .ring, active := true }) id, by decide +kernel⟩,
   ⟨16383, bufHead 1 ++ List.replicate 32 10#8, 0x40#64, bufHead 1, cbS, queueFetched 16383 cbS, by decide +kernel⟩,
   ⟨15, 16383, (queS id fun f => { f with slots := [(15, { (default : EngSlot) with owner := some 16383 })] }).updPwr fun p =>
    { p with copies := [(ClockDomain.code .cclk, { (default : TbCopy) with ticks := 2 ^ 60 })] }, by decide +kernel⟩⟩

/-- Hypotheses of the clauses 1, 2, 3, 4, 5, 6, 7, 8, 9, 10, 11, 12, 13, 14, 15, 16, 17 of `CommandPackets`. -/
theorem test_CommandPackets_has_witnesses :
    (∃ (q m : Nat) (p : Packet) (s : State), packetReady q 2 s = some p ∧ onlyBits (num p.unit 1 1) 2 = true ∧ allZero (p.unit.drop 3) = true
      ∧ num p.unit 2 1 = m ∧ m < 16 ∧ moverThere s m = true ∧ isLanding s (Src.mover m) = false ∧ retakeBars s q (engMover m) = false
      ∧ moverRoom s m (queueClass s q) = true ∧ workCheck s (queueOf s q).hall = .go)
    ∧ (∃ (q u k : Nat) (p : Packet) (d : Bytes) (s : State), packetReady q 3 s = some p ∧ onlyBits (num p.unit 1 1) 2 = true
      ∧ allZero (p.unit.drop 3) = true ∧ num p.unit 2 1 = u ∧ u < 8 ∧ redThere s u = true ∧ isLanding s (Src.red u) = false
      ∧ retakeBars s q (engRed u) = false ∧ redSlotFree s u (queueClass s q) = some k ∧ workCheck s (queueOf s q).hall = .go
      ∧ d = filledDesc s q p ∧ redOk (workIssue q (engRed u) none (rdN d * fmtBytes (rdIn d) (rdCE d)) s) u d = true)
    ∧ (∃ (q e : Nat) (p : Packet) (s : State), packetReady q 1 s = some p ∧ num p.unit 2 1 = e ∧ e < 16 ∧ onlyBits (num p.unit 1 1) 4 = true
      ∧ num p.unit 3 1 = 0 ∧ num p.unit 4 4 ≠ 0 ∧ (qEngines (hallOf s (queueOf s q).hall)).testBit e = true
      ∧ s.hr.slotsOut.toNat.testBit e = false ∧ s.pins.cpEn = true ∧ retakeBars s q e = false ∧ (slotOfEng s e).owner = some q
      ∧ (slotOfEng s e).lastIssued = false ∧ workCheck s (queueOf s q).hall = .go)
    ∧ (∃ (q : Nat) (p : Packet) (s : State), packetReady q 4 s = some p ∧ onlyBits (num p.unit 1 1) 0xC = true ∧ num p.unit 7 1 = 0
      ∧ allZero (p.unit.drop 16) = true ∧ bits (num p.unit 1 1) 2 2 < 3 ∧ ((bits (num p.unit 1 1) 2 2 = 0 ∨ num p.unit 8 8 < 2 ^ 32))
      ∧ num p.unit 4 3 = 0 ∧ (num p.unit 1 1).testBit 4 = false ∧ objectOk s (queueOf s q).hall (bits (num p.unit 1 1) 2 2) (num p.unit 2 2) =
      true)
    ∧ (∃ (q : Nat) (g : PendSignal) (rest : List PendSignal) (s : State), (queueOf s q).signals = g :: rest ∧ signalDue s q = true ∧ g.remote = none)
    ∧ (∃ (q f : Nat) (v : DWord) (p : Packet) (s : State), packetReady q 5 s = some p ∧ onlyBits (num p.unit 1 1) 0xC = true ∧ num p.unit 4 4 = 0
      ∧ allZero (p.unit.drop 16) = true ∧ bits (num p.unit 1 1) 2 2 = 0 ∧ num p.unit 2 2 = f ∧ BitVec.ofNat 64 (num p.unit 8 8) = v
      ∧ objectOk s (queueOf s q).hall 0 f = true ∧ (((fenceOf s f).state = 2#2 ∨ reached (fenceOf s f).value v = true)))
    ∧ (∃ (q f : Nat) (v : DWord) (p : Packet) (s u : State), packetReady q 5 s = some p ∧ onlyBits (num p.unit 1 1) 0xC = true ∧ num p.unit 4 4 = 0
      ∧ allZero (p.unit.drop 16) = true ∧ bits (num p.unit 1 1) 2 2 = 0 ∧ num p.unit 2 2 = f ∧ BitVec.ofNat 64 (num p.unit 8 8) = v
      ∧ objectOk s (queueOf s q).hall 0 f = true ∧ (fenceOf s f).state ≠ 2#2 ∧ reached (fenceOf s f).value v = false
      ∧ u = parkQueue q (.fence f v) ((updQueue q (fun x => { x with decoded := x.decoded + 1 }) (setPos q (p.idx + 1) s)).feCount 2))
    ∧ (∃ (q i : Nat) (a : Word) (p : Packet) (s : State), packetReady q 5 s = some p ∧ onlyBits (num p.unit 1 1) 0xC = true ∧ num p.unit 4 4 = 0
      ∧ allZero (p.unit.drop 16) = true ∧ bits (num p.unit 1 1) 2 2 = 1 ∧ num p.unit 2 2 = i ∧ num p.unit 8 8 = a.toNat ∧ a ≠ 0
      ∧ objectOk s (queueOf s q).hall 1 i = true ∧ (semWaiters s 1 i).isEmpty = true ∧ a.toNat ≤ (semOf s 1 i).count.toNat)
    ∧ (∃ (q : Nat) (rest : List Nat) (s : State), s.fs.walks = q :: rest)
    ∧ (∃ (q : Nat) (p : Packet) (s u : State), packetReady q 6 s = some p ∧ onlyBits (num p.unit 1 1) 0xC = true ∧ 2 ≤ num p.unit 2 1
      ∧ num p.unit 2 1 ≤ 5 ∧ onlyBits (num p.unit 3 1) 0xF = true ∧ num p.unit 4 4 = 0 ∧ num p.unit 8 8 % 8 = 0
      ∧ (num p.unit 1 1).testBit 2 = true ∧ ((num p.unit 2 1 = 5 ∨ num p.unit 24 8 = 0)) ∧ (num p.unit 3 1).testBit 3 = false
      ∧ u = updQueue q (fun x => { x with atomicAt := none }) (updQueue q (fun x => { x with atomicAt := some p.idx }) s))
    ∧ (∃ (q d : Nat) (imm : DWord) (p : Packet) (s : State), packetReady q 11 s = some p ∧ num p.unit 1 1 = 0 ∧ num p.unit 2 1 = d ∧ d < 8
      ∧ num p.unit 3 1 = 0 ∧ num p.unit 4 1 < 8 ∧ num p.unit 5 1 = 0 ∧ allZero (p.unit.drop 16) = true ∧ imm = BitVec.ofNat 64 (num p.unit 8 8))
    ∧ (∃ (q d : Nat) (imm : DWord) (p : Packet) (s : State), packetReady q 11 s = some p ∧ num p.unit 1 1 = 0 ∧ num p.unit 2 1 = d ∧ d < 8
      ∧ num p.unit 3 1 = 1 ∧ num p.unit 4 1 < 8 ∧ num p.unit 5 1 = 0 ∧ allZero (p.unit.drop 16) = true ∧ imm = BitVec.ofNat 64 (num p.unit 8 8)
      ∧ regPending s q d = false)
    ∧ (∃ (q : Nat) (p : Packet) (s : State), packetReady q 12 s = some p ∧ num p.unit 1 1 = 0 ∧ num p.unit 2 2 = 0 ∧ num p.unit 7 1 = 0
      ∧ allZero (p.unit.drop 10) = true)
    ∧ (∃ (q body n : Nat) (l : LoopRec) (p : Packet) (s : State), packetReady q 8 s = some p
      ∧ l = LoopRec.mk (p.idx + 1) (p.idx + 1 + body) n ((queueOf s q).bufs.length - 1) ∧ num p.unit 1 1 = 0 ∧ num p.unit 2 1 < 8
      ∧ num p.unit 3 1 = 0 ∧ num p.unit 4 4 = n ∧ num p.unit 8 2 = body ∧ allZero (p.unit.drop 10) = true ∧ 1 ≤ body ∧ openLoops s q = []
      ∧ p.idx + 1 + body ≤ p.units ∧ (queueOf s q).loops.length < 4)
    ∧ (∃ (q addr : Nat) (p : Packet) (s : State), packetReady q 9 s = some p ∧ num p.unit 1 1 = 0 ∧ allZero (sub p.unit 2 6) = true
      ∧ allZero (p.unit.drop 24) = true ∧ num p.unit 8 8 = addr ∧ addr % 64 = 0 ∧ (queueOf s q).bufs.length < 3)
    ∧ (∃ (q : Nat) (p : Packet) (s : State), packetReady q 10 s = some p ∧ num p.unit 1 1 = 0 ∧ allZero (p.unit.drop 2) = true)
    ∧ (∃ (q a b target : Nat) (p : Packet) (s : State), packetReady q 7 s = some p ∧ num p.unit 1 1 = 8 ∧ num p.unit 2 1 < 8 ∧ num p.unit 3 1 = a
      ∧ a < 8 ∧ num p.unit 6 1 = b ∧ b < 8 ∧ num p.unit 7 1 = 0 ∧ allZero (p.unit.drop 18) = true ∧ num p.unit 16 2 = target ∧ p.idx < target
      ∧ target ≤ p.units ∧ openLoops s q = [] ∧ regPending s q a = false ∧ regPending s q b = false) :=
  ⟨⟨16383, 3, pk3 [2#8, 2#8, 3#8] (mDesc 0), pk3S [2#8, 2#8, 3#8] (mDesc 0), by decide +kernel⟩,
   ⟨16383, 7, 0, pk3 [3#8, 2#8, 7#8] rdDoc64, filledDesc (pk3S [3#8, 2#8, 7#8] rdDoc64) 16383 (pk3 [3#8, 2#8, 7#8] rdDoc64), pk3S [3#8, 2#8,
    7#8] rdDoc64, by decide +kernel⟩,
   ⟨16383, 15, pk [1#8, 0#8, 15#8, 0#8, 1#8], pkS [(0, fit [1#8, 0#8, 15#8, 0#8,
    1#8] 32)] (fun q => q) fun f => { f with slots := [(15, { (default : EngSlot) with owner := some 16383 })] }, by decide +kernel⟩,
   ⟨16383, pk ([4#8, 0#8] ++ natLe 7 2 ++ natLe 0 4 ++ natLe 9 8), pk1 ([4#8, 0#8] ++ natLe 7 2 ++ natLe 0 4 ++ natLe 9 8), by decide +kernel⟩,
   ⟨16383, { tkind := 0, obj := 7, value := 9#64, remote := none, after := [] }, [],
    queS (fun q => { q with signals := [{ tkind := 0, obj := 7, value := 9#64, remote := none, after := [] }] }) fun f => f, by decide +kernel⟩,
   ⟨16383, 7, 0#64, pk ([5#8, 0#8] ++ natLe 7 2), pk1 ([5#8, 0#8] ++ natLe 7 2), by decide +kernel⟩,
   ⟨16383, 7, 1#64, pk ([5#8, 0#8] ++ natLe 7 2 ++ natLe 0 4 ++ natLe 1 8), pk1 ([5#8, 0#8] ++ natLe 7 2 ++ natLe 0 4 ++ natLe 1 8),
    parkQueue 16383 (.fence 7 1#64) ((updQueue 16383 (fun x => { x with decoded := x.decoded + 1 }) (setPos 16383 1 (pk1 ([5#8,
    0#8] ++ natLe 7 2 ++ natLe 0 4 ++ natLe 1 8)))).feCount 2), by decide +kernel⟩,
   ⟨16383, 4095, 3#32, pk ([5#8, 4#8] ++ natLe 4095 2 ++ natLe 0 4 ++ natLe 3 8), (pk1 ([5#8,
    4#8] ++ natLe 4095 2 ++ natLe 0 4 ++ natLe 3 8)).updFs fun x => { x with locals := [(4095, Sem.mk true 5 3#32)] }, by decide +kernel⟩,
   ⟨16383, [], serving.updFs fun x => { x with walks := [16383] }, by decide +kernel⟩,
   ⟨16383, pk [6#8, 4#8, 5#8], pk1 [6#8, 4#8, 5#8], updQueue 16383 (fun x => { x with atomicAt := none }) (updQueue 16383 (fun x =>
    { x with atomicAt := some 0 }) (pk1 [6#8, 4#8, 5#8])), by decide +kernel⟩,
   ⟨16383, 7, 9#64, pk ([11#8, 0#8, 7#8] ++ natLe 0 5 ++ natLe 9 8), pk1 ([11#8, 0#8, 7#8] ++ natLe 0 5 ++ natLe 9 8), by decide +kernel⟩,
   ⟨16383, 7, 9#64, pk ([11#8, 0#8, 7#8, 1#8] ++ natLe 0 4 ++ natLe 9 8), pk1 ([11#8, 0#8, 7#8, 1#8] ++ natLe 0 4 ++ natLe 9 8), by decide +kernel⟩,
   ⟨16383, pk ([12#8, 0#8, 0#8, 0#8] ++ natLe 0xFFFFFF 3 ++ [0#8] ++ natLe 0xFFFF 2), pk1 ([12#8, 0#8, 0#8,
    0#8] ++ natLe 0xFFFFFF 3 ++ [0#8] ++ natLe 0xFFFF 2), by decide +kernel⟩,
   ⟨16383, 7, 2, LoopRec.mk 1 8 2 0, pk ([8#8, 0#8, 0#8, 0#8] ++ natLe 2 4 ++ natLe 7 2), pk1 ([8#8, 0#8, 0#8, 0#8] ++ natLe 2 4 ++ natLe 7 2),
    by decide +kernel⟩,
   ⟨16383, 64, pk ([9#8] ++ natLe 0 7 ++ natLe 64 8), pk1 ([9#8] ++ natLe 0 7 ++ natLe 64 8), by decide +kernel⟩,
   ⟨16383, pk [10#8], pk1 [10#8], by decide +kernel⟩,
   ⟨16383, 7, 7, 8, pk ([7#8, 8#8, 7#8, 7#8, 0#8, 0#8, 7#8, 0#8] ++ natLe 0 8 ++ natLe 8 2), pk1 ([7#8, 8#8, 7#8, 7#8, 0#8, 0#8, 7#8,
    0#8] ++ natLe 0 8 ++ natLe 8 2), by decide +kernel⟩⟩

/-- Hypotheses of the clauses 1, 2, 3, 4, 5, 6, 7, 8, 9, 10, 11, 15, 16, 17 of `FenceAndSemaphoreCommands`. -/
theorem test_FenceAndSemaphoreCommands_has_witnesses :
    (∃ (a : Act) (arg : Bytes) (f : Nat) (s : State), hallRole s a (num (fit arg 16) 0 2) = true ∧ arg.length ≤ 16
      ∧ fenceCreateOk (fit arg 16) s = true ∧ freeFence s = some f)
    ∧ (∃ (f : Nat) (s : State), fenceCreateOk (fsArg s.fs) s = true ∧ freeFence s = some f)
    ∧ (∃ (a : Act) (arg : Bytes) (s : State), hallRole s a (num arg 0 2) = true ∧ padZero arg 4 16 = true
      ∧ fenceClearOk (num arg 0 2) (num arg 2 2) s = true ∧ fenceHeld s (num arg 2 2) = false)
    ∧ (∃ (a : Act) (arg : Bytes) (s : State), hallRole s a (num arg 0 2) = true ∧ padZero arg 4 16 = true
      ∧ fenceClearOk (num arg 0 2) (num arg 2 2) s = true ∧ fenceHeld s (num arg 2 2) = true)
    ∧ (∃ (s : State), s.fs.kind = 0 ∧ fenceClearOk (fenceOf s s.fs.obj.toNat).hall s.fs.obj.toNat s = true ∧ fenceHeld s s.fs.obj.toNat = false)
    ∧ (∃ (a : Act) (arg : Bytes) (s : State), hallRole s a (num arg 0 2) = true ∧ padZero arg 4 16 = true
      ∧ fenceClearOk (num arg 0 2) (num arg 2 2) s = true)
    ∧ (∃ (s : State), s.fs.kind = 0 ∧ fenceClearOk (fenceOf s s.fs.obj.toNat).hall s.fs.obj.toNat s = true)
    ∧ (∃ (a : Act) (arg : Bytes) (i : Nat) (s : State), hallRole s a (num arg 0 2) = true ∧ padZero arg 8 16 = true ∧ num arg 3 1 = 0
      ∧ semAllocOk (num arg 0 2) (num arg 2 1) s = true ∧ semFreeIndex (num arg 2 1) s = some i)
    ∧ (∃ (b : Bytes) (i : Nat) (s : State), b = fsArg s.fs ∧ padZero b 8 16 = true ∧ num b 3 1 = 0 ∧ num b 2 1 = 1 ∧ semAllocOk (num b 0 2) 1 s = true
      ∧ semFreeIndex 1 s = some i)
    ∧ (∃ (a : Act) (arg : Bytes) (s : State), hallRole s a (num arg 0 2) = true ∧ padZero arg 6 16 = true ∧ num arg 3 1 = 0
      ∧ semFreeOk (num arg 0 2) (num arg 2 1) (num arg 4 2) s = true)
    ∧ (∃ (s : State), s.fs.kind = 1 ∧ semFreeOk (semOf s 1 s.fs.obj.toNat).hall 1 s.fs.obj.toNat s = true)
    ∧ (∃ (obj : BitVec 16) (st : Status) (s u : State), st = BitVec.ofNat 16 (s.fs.args.get 0).toNat ∧ st ≠ Status.ok ∧ st ≠ Status.deferred
      ∧ (fenceOf s obj.toNat).state ≠ 0#2 ∧ u = { s with fs := { s.fs with kind := 0, obj := obj } })
    ∧ (∃ (hall vector : Nat) (s : State), s.itu.halls.wf = true ∧ (hallOf s hall).msixPending.toNat.testBit vector = true ∧ vector < 8
      ∧ (msixWord (hallOf s hall) (4 * vector + 3)).toNat.testBit 0 = false ∧ s.pins.hpEn = true ∧ s.fcu.safe = false
      ∧ s.hr.landing.contains Src.hostPipes = false ∧ boundStream s hall = none)
    ∧ (∃ (hall vector i ks : Nat) (s : State), s.itu.halls.wf = true ∧ (hallOf s hall).msixPending.toNat.testBit vector = true ∧ vector < 8
      ∧ (msixWord (hallOf s hall) (4 * vector + 3)).toNat.testBit 0 = false ∧ s.pins.hpEn = true ∧ s.fcu.safe = false
      ∧ s.hr.landing.contains Src.hostPipes = false ∧ boundStream s hall = some i ∧ ideTxSet s i idePosted = some ks) :=
  ⟨⟨ten, natLe 5 2 ++ natLe 2047 2 ++ natLe 0 4 ++ natLe 9 8, 0, fnS id, by decide +kernel⟩,
   ⟨0, fnS fun x => { x with args := wordsOf (natLe 5 2 ++ natLe 2047 2 ++ natLe 0 4 ++ natLe 9 8) 4 }, by decide +kernel⟩,
   ⟨ten, natLe 5 2 ++ natLe 7 2, fnS id, by decide +kernel⟩,
   ⟨ten, natLe 5 2 ++ natLe 7 2, (queS (fun q => { q with state := .parked, park := .fence 7 1#64 }) fun f => f).updFs fun x =>
    { x with parked := [16383] }, by decide +kernel⟩,
   ⟨fnS fun x => { x with obj := 7#16 }, by decide +kernel⟩,
   ⟨ten, natLe 5 2 ++ natLe 7 2 ++ natLe 0 12, fnS id, by decide +kernel⟩,
   ⟨fnS fun x => { x with obj := 7#16 }, by decide +kernel⟩,
   ⟨ten, natLe 5 2 ++ [2#8, 0#8] ++ natLe 0xFFFFFFFF 4, 0, fnS id, by decide +kernel⟩,
   ⟨natLe 5 2 ++ [1#8, 0#8] ++ natLe 0xFFFFFFFF 4 ++ natLe 0 8, 1, fnS fun x =>
    { x with args := wordsOf (natLe 5 2 ++ [1#8, 0#8] ++ natLe 0xFFFFFFFF 4) 4, locals := [(0, Sem.mk true 5 0#32)] }, by decide +kernel⟩,
   ⟨ten, natLe 5 2 ++ [2#8, 0#8] ++ natLe 255 2, fnS fun x => { x with broadcasts := [(255, Sem.mk true 5 0#32)] }, by decide +kernel⟩,
   ⟨fnS fun x => { x with kind := 1#2, obj := 4095#16, locals := [(4095, Sem.mk true 5 0#32)] }, by decide +kernel⟩,
   ⟨7#16, Status.poisoned, (fnS fun x => { x with args := [(0, 0xFFFF0000#32 + Status.poisoned.setWidth 32)] }),
    { (fnS fun x => { x with args := [(0, 0xFFFF0000#32 + Status.poisoned.setWidth 32)] }) with fs := { (fnS fun x => { x with args := [(0, 0xFFFF0000#32 + Status.poisoned.setWidth 32)] }).fs with kind := 0, obj := 7#16 } },
    by decide +kernel⟩,
   ⟨5, 7, serving.updItu fun u => { u with halls := [(5, { u.halls.get 5 with msixPending := 128#8, msixTable := [(31, 1#32)] })] },
    by decide +kernel⟩,
   ⟨5, 7, 63, 0, ideS, by decide +kernel⟩⟩

/-- Hypotheses of the clauses 1, 2, 3, 4, 5, 6, 7, 8, 9, 10, 11, 12, 13, 14, 15, 16, 17, 18, 19 of `HallAndMappingCommands`. -/
theorem test_HallAndMappingCommands_has_witnesses :
    (∃ (a : Act) (arg : Bytes) (s : State), mayAct s [.operator] a = true ∧ arg.length = 128 ∧ createBad (fit arg 128) s = false
      ∧ reservationFits s (sub (fit arg 128) 64 64) = true)
    ∧ (∃ (b : Bytes) (s u : State), s.itu.go = false ∧ u = ituTaken 1 s.itu.hall.toNat s ∧ b = ituArg s.itu ∧ createBad b u = false
      ∧ reservationFits u (sub b 64 64) = true)
    ∧ (∃ (a : Act) (arg : Bytes) (s : State), mayAct s [.operator] a = true ∧ arg.length = 128 ∧ a.sess ≠ keeperSess ∧ createBad (fit arg 128) s = false
      ∧ reservationFits s (sub (fit arg 128) 64 64) = false)
    ∧ (∃ (a : Act) (arg : Bytes) (s : State), mayAct s [.operator, .domainManager] a = true ∧ padZero arg 2 2 = true ∧ num arg 0 2 < s.conf.halls
      ∧ (hallOf s (num arg 0 2)).state = .live ∧ a.sess ≠ keeperSess)
    ∧ (∃ (a : Act) (arg : Bytes) (s : State), mayAct s [.operator, .domainManager] a = true ∧ padZero arg 2 2 = true ∧ num arg 0 2 < s.conf.halls
      ∧ (hallOf s (num arg 0 2)).state = .free ∧ a.sess ≠ keeperSess)
    ∧ (∃ (s u : State), s.itu.go = false ∧ u = ituTaken 2 s.itu.hall.toNat s ∧ num (ituArg s.itu) 0 2 < s.conf.halls
      ∧ (hallOf s (num (ituArg s.itu) 0 2)).state = .live)
    ∧ (∃ (hall : Nat) (a : List Ans) (s u v : State), retireWaits s hall = true ∧ hallQueues s hall = [] ∧ combDirty s (some hall) = []
      ∧ undrained s hall = false ∧ hallLines s hall = false ∧ (hallOf s hall).retireBy = .destroy ∧ freeStreams hall s = (a, u)
      ∧ v = updHall hall (fun h => { h with hallKey := 0#32 }) (retireMatchOp 15 hall (hallOf s hall).hgen.toNat (hallChange hall (fun h =>
      { h with drained := true, hgen := (hallOf s hall).hgen + 1 }) u)))
    ∧ (∃ (a : Act) (arg : Bytes) (s : State), mayAct s [.operator] a = true ∧ padZero arg 12 12 = true ∧ num arg 2 2 = 0)
    ∧ (∃ (b : Bytes) (s u v : State), s.itu.go = false ∧ b = ituArg s.itu ∧ u = ituTaken 3 s.itu.hall.toNat s ∧ v = ituTaken 4 s.itu.hall.toNat s)
    ∧ (∃ (a : Act) (arg : Bytes) (s : State), hallRole s a (num arg 0 2) = true ∧ padZero arg 32 32 = true ∧ num arg 2 2 = 0
      ∧ mapOk (fit arg 32) s = true)
    ∧ (∃ (b : Bytes) (s u : State), s.itu.go = false ∧ b = (ituArg s.itu).take 32 ∧ u = ituTaken 5 s.itu.hall.toNat s ∧ mapOk b u = true
      ∧ mapRoom b u = true)
    ∧ (∃ (a : Act) (arg b : Bytes) (s u : State), b = fit arg 32 ∧ unmapOp b (hallRole s a (num arg 0 2) && padZero arg 32 32) (a.sess,
      0x504002) s = (Status.ok, u) ∧ a.sess ≠ keeperSess ∧ (hallOf u (num b 0 2)).state = .live)
    ∧ (∃ (s u v : State), s.itu.go = false ∧ u = ituTaken 6 s.itu.hall.toNat s ∧ unmapOp ((ituArg s.itu).take 32) true (keeperSess, 6) u = (Status.ok,
      v))
    ∧ (∃ (serial : Nat) (r : Unmap) (s : State), s.itu.unmaps.find? (·.serial == serial) = some r ∧ unmapSettled s r = true ∧ r.fence = none)
    ∧ (∃ (serial f : Nat) (v : DWord) (r : Unmap) (s : State), s.itu.unmaps.find? (·.serial == serial) = some r ∧ unmapSettled s r = true
      ∧ r.fence = some (f, v))
    ∧ (∃ (hall : BitVec 12) (s u : State), s.itu.go = false ∧ u = ituTaken 12 hall.toNat s ∧ (hallOf s hall.toNat).state = .scrubbing
      ∧ endsFree (hallOf s hall.toNat) = false)
    ∧ (∃ (hall : BitVec 12) (s : State), s.itu.go = false ∧ (hallOf s hall.toNat).state ≠ .scrubbing)
    ∧ (∃ (first count : Nat) (s u : State), s.itu.go = false ∧ u = ituTaken 14 s.itu.hall.toNat s ∧ first = (s.itu.args.get 0).toNat
      ∧ count = (s.itu.args.get 1).toNat ∧ rangeOk u first count = true ∧ granulesAll first count (fun g => granuleState u g == 0 && !granuleKept
      u g) = true)
    ∧ (∃ (hall : BitVec 12) (s : State), s.itu.go = false) :=
  ⟨⟨op, hallArg, ituS [] fun u => u, by decide +kernel⟩,
   ⟨hallArg, ituS hallArg fun u => u, ituTaken 1 0 (ituS hallArg fun u => u), by decide +kernel⟩,
   ⟨op, hallArg, (ituS [] fun u => u).updAdm fun a => { a with spotFloor := 8191#13, hostLimit := 0#16 }, by decide +kernel⟩,
   ⟨op, natLe 5 2, serving, by decide +kernel⟩,
   ⟨op, natLe 6 2, serving, by decide +kernel⟩,
   ⟨ituS (natLe 5 2) fun u => u, ituTaken 2 0 (ituS (natLe 5 2) fun u => u), by decide +kernel⟩,
   ⟨5, (freeStreams 5 (hall5 (fun h => { h with state := .retiring, retireBy := .destroy }) serving)).1,
    hall5 (fun h => { h with state := .retiring, retireBy := .destroy }) serving,
    (freeStreams 5 (hall5 (fun h => { h with state := .retiring, retireBy := .destroy }) serving)).2,
    updHall 5 (fun h => { h with hallKey := 0#32 }) (retireMatchOp 15 5 3 (hallChange 5 (fun h => { h with drained := true, hgen := 4#16 })
    (freeStreams 5 (hall5 (fun h => { h with state := .retiring, retireBy := .destroy }) serving)).2)), by decide +kernel⟩,
   ⟨op, natLe 5 2 ++ natLe 0 2 ++ natLe 524287 4 ++ natLe 1 4, ituS [] fun u => { u with granules := [(524287, { state := 1, hall := 0 })] },
    by decide +kernel⟩,
   ⟨natLe 5 2 ++ natLe 0 2 ++ natLe 524287 4 ++ natLe 1 4 ++ natLe 0 116, ituS (natLe 5 2 ++ natLe 0 2 ++ natLe 524287 4 ++ natLe 1 4) fun u =>
    { u with granules := [(524287, { state := 2, hall := 5 })] }, ituTaken 3 0 (ituS (natLe 5 2 ++ natLe 0 2 ++ natLe 524287 4 ++ natLe 1 4) fun u
    => { u with granules := [(524287, { state := 2, hall := 5 })] }), ituTaken 4 0 (ituS (natLe 5 2 ++ natLe 0 2 ++ natLe 524287 4 ++ natLe 1 4)
    fun u => { u with granules := [(524287, { state := 2, hall := 5 })] }), by decide +kernel⟩,
   ⟨ten, mapDoc, ituS [] fun u => { u with granules := [(0, { state := 2, hall := 5 })] }, by decide +kernel⟩,
   ⟨mapDoc, ituS mapDoc fun u => { u with granules := [(0, { state := 2, hall := 5 })] },
    ituTaken 5 0 (ituS mapDoc fun u => { u with granules := [(0, { state := 2, hall := 5 })] }), by decide +kernel⟩,
   ⟨ten, unmapDoc, unmapDoc, mapS, (unmapOp unmapDoc true (0, 0x504002) mapS).2, by decide +kernel⟩,
   ⟨mapI, ituTaken 6 0 mapI, (unmapOp unmapDoc true (keeperSess, 6) (ituTaken 6 0 mapI)).2, by decide +kernel⟩,
   ⟨3, { (default : Unmap) with serial := 3, hall := 5 }, serving.updItu fun u =>
    { u with unmaps := [{ (default : Unmap) with serial := 3, hall := 5 }] }, by decide +kernel⟩,
   ⟨3, 7, 9#64, { (default : Unmap) with serial := 3, hall := 5, fence := some (7, 9#64) },
    (queS (fun q => q) (fun f => f)).updItu fun u =>
    { u with unmaps := [{ (default : Unmap) with serial := 3, hall := 5, fence := some (7, 9#64) }] }, by decide +kernel⟩,
   ⟨5#12, hall5 (fun h => { h with state := .scrubbing, retireBy := .stop, scrub := [1, 2] }) serving,
    ituTaken 12 5 (hall5 (fun h => { h with state := .scrubbing, retireBy := .stop, scrub := [1, 2] }) serving), by decide +kernel⟩,
   ⟨5#12, serving, by decide +kernel⟩,
   ⟨524286, 2, ituS (natLe 524286 4 ++ natLe 2 4) fun u => u, ituTaken 14 0 (ituS (natLe 524286 4 ++ natLe 2 4) fun u => u), by decide +kernel⟩,
   ⟨4095#12, serving, by decide +kernel⟩⟩

/-- Hypotheses of the clauses 1, 2, 3, 4, 5, 6, 7, 10, 11, 12, 13, 14, 15, 16, 17, 18, 19, 20, 21 of `MigrationAndTranslation`. -/
theorem test_MigrationAndTranslation_has_witnesses :
    (∃ (a : Act) (arg : Bytes) (h : Nat) (s : State), dmOnly a arg 2 s = true ∧ num arg 0 2 = h ∧ h < 4096 ∧ (hallOf s h).state = .live)
    ∧ (∃ (h : Nat) (s : State), s.itu.go = false ∧ num (ituArg s.itu) 0 2 = h ∧ h < 4096 ∧ (hallOf s h).state = .live)
    ∧ (∃ (a : Act) (arg : Bytes) (h : Nat) (s : State), dmOnly a arg 2 s = true ∧ num arg 0 2 = h ∧ (hallOf s h).state ≠ .live ∧ a.sess ≠ keeperSess)
    ∧ (∃ (h : Nat) (s : State), (hallOf s h).freezing = true ∧ freezeReady s h = true)
    ∧ (∃ (h : Nat) (s : State), (((hallOf s h).freezing = false ∨ freezeReady s h = false)))
    ∧ (∃ (a : Act) (arg : Bytes) (pages : List Bytes) (key : BitVec 256) (s : State), saveOk (fit arg 16) s = true ∧ dmOnly a arg 16 s = true
      ∧ migrationKey s (num (fit arg 16) 0 2) s.dom.member.toNat (num (fit arg 16) 2 2) (num (fit arg 16) 4 4) = some key)
    ∧ (∃ (pages : List Bytes) (b : Bytes) (key : BitVec 256) (s u : State), s.itu.go = false ∧ b = ituArg s.itu ∧ u = ituTaken 8 s.itu.hall.toNat s
      ∧ saveOk b u = true ∧ migrationKey u (num b 0 2) u.dom.member.toNat (num b 2 2) (num b 4 4) = some key)
    ∧ (∃ (a : Act) (arg : Bytes) (h : Nat) (s : State), dmOnly a arg 2 s = true ∧ num arg 0 2 = h ∧ h < 4096 ∧ (hallOf s h).state = .frozen
      ∧ s.pwr.shut.running = false)
    ∧ (∃ (h : Nat) (s : State), s.itu.go = false ∧ num (ituArg s.itu) 0 2 = h ∧ h < 4096 ∧ (hallOf s h).state = .frozen ∧ s.pwr.shut.running = false)
    ∧ (∃ (a : Act) (arg : Bytes) (h : Nat) (s : State), dmOnly a arg 2 s = true ∧ num arg 0 2 = h ∧ h < 4096 ∧ (hallOf s h).state = .moved
      ∧ (hallOf s h).retireBy ≠ .migrate ∧ a.sess ≠ keeperSess)
    ∧ (∃ (h : Nat) (s : State), s.itu.go = false ∧ num (ituArg s.itu) 0 2 = h ∧ h < 4096 ∧ (hallOf s h).state = .moved
      ∧ (hallOf s h).retireBy ≠ .migrate)
    ∧ (∃ (a : Act) (arg : Bytes) (s : State), mayAct s [.operator, .domainManager, .tenant] a = true ∧ arg.length = 2 ∧ num arg 0 2 < s.conf.halls
      ∧ mayName s a (num arg 0 2) = true)
    ∧ (∃ (r : ItuReq) (e : TlbEntry) (s u : State), s.fcu.armed = false ∧ u = ituCorrected r.hall r.va.toNat s ∧ genOk u r.hall r.hgen.toNat = true
      ∧ r.va.toNat < 2 ^ 48 ∧ tlbHit u r.hall r.hgen.toNat r.va.toNat = some e)
    ∧ (∃ (r : ItuReq) (w : Nat) (s u : State), s.fcu.armed = false ∧ u = ituCorrected r.hall r.va.toNat s ∧ genOk u r.hall r.hgen.toNat = true
      ∧ r.va.toNat < 2 ^ 48 ∧ tlbHit u r.hall r.hgen.toNat r.va.toNat = none ∧ freeWalk u = some w ∧ walkAbsent u r.hall r.va.toNat 3 = false)
    ∧ (∃ (r : ItuReq) (w : Nat) (s u : State), s.fcu.armed = false ∧ u = ituCorrected r.hall r.va.toNat s ∧ genOk u r.hall r.hgen.toNat = true
      ∧ r.va.toNat < 2 ^ 48 ∧ tlbHit u r.hall r.hgen.toNat r.va.toNat = none ∧ freeWalk u = some w ∧ walkAbsent u r.hall r.va.toNat 3 = true)
    ∧ (∃ (walk : Nat) (err : BitVec 2) (l : BitVec 128) (base : Nat) (s u : State), (s.itu.walks.get walk).live = true ∧ s.fcu.armed = false ∧ err = 0
      ∧ u = s.ituCount 2 ∧ genOk u (s.itu.walks.get walk).req.hall (s.itu.walks.get walk).req.hgen.toNat = true
      ∧ leafFor (hallOf u (s.itu.walks.get walk).req.hall) (s.itu.walks.get walk).req.va.toNat = some (l, base)
      ∧ leafSize l < (s.itu.walks.get walk).level ∧ walkAbsent u (s.itu.walks.get walk).req.hall (s.itu.walks.get walk).req.va.toNat
      ((s.itu.walks.get walk).level - 1) = false)
    ∧ (∃ (walk : Nat) (err : BitVec 2) (s : State), (s.itu.walks.get walk).live = false)
    ∧ (∃ (h : Nat) (x : Hall) (s : State), s.stopped = false ∧ usedHalls s = [(h, x)] ∧ qClass x < 2)
    ∧ (∃ (s : State), s.stopped = true) :=
  ⟨⟨dm, natLe 5 2, 5, serving, by decide +kernel⟩,
   ⟨5, ituS (natLe 5 2) fun u => u, by decide +kernel⟩,
   ⟨dm, natLe 5 2, 5, hall5 (fun h => { h with state := .frozen }) serving, by decide +kernel⟩,
   ⟨5, hall5 (fun h => { h with freezing := true }) serving, by decide +kernel⟩,
   ⟨5, serving, by decide +kernel⟩,
   ⟨dm, natLe 5 2 ++ natLe 2 2 ++ natLe 9 4, [], imgKey 3 2 9, migS (fun h => { h with state := .frozen }) [], by decide +kernel, by decide +kernel,
    rfl⟩,
   by
  refine ⟨[], natLe 5 2 ++ natLe 2 2 ++ natLe 9 4 ++ natLe 0 120, imgKey 3 2 9,
    migS (fun h => { h with state := .frozen }) (natLe 5 2 ++ natLe 2 2 ++ natLe 9 4),
    ituTaken 8 0 (migS (fun h => { h with state := .frozen }) (natLe 5 2 ++ natLe 2 2 ++ natLe 9 4)), ?_, ?_, ?_, ?_, rfl⟩ <;> decide +kernel,
   ⟨dm, natLe 5 2, 5, migS (fun h => { h with state := .frozen }) [], by decide +kernel⟩,
   ⟨5, migS (fun h => { h with state := .frozen }) (natLe 5 2), by decide +kernel⟩,
   ⟨dm, natLe 5 2, 5, migS (fun h => { h with state := .moved }) [], by decide +kernel⟩,
   ⟨5, migS (fun h => { h with state := .moved }) (natLe 5 2), by decide +kernel⟩,
   ⟨ten, natLe 5 2, serving, by decide +kernel⟩,
   ⟨{ hall := 5, hgen := 3#16, va := 0#64, read := true, write := false, atomic := false, unit := 0x200, ticket := 1 },
    { hall := 5, hgen := 3#16, page := 0, size := 0#2, leaf := 0x72#128 },
    mapS.updItu fun u => { u with tlb := [{ hall := 5, hgen := 3#16, page := 0, size := 0#2, leaf := 0x72#128 }] },
    mapS.updItu fun u => { u with tlb := [{ hall := 5, hgen := 3#16, page := 0, size := 0#2, leaf := 0x72#128 }] }, by decide +kernel⟩,
   ⟨{ hall := 5, hgen := 3#16, va := 0#64, read := true, write := false, atomic := false, unit := 0x200, ticket := 1 }, 0, mapS, mapS,
    by decide +kernel⟩,
   ⟨{ hall := 5, hgen := 3#16, va := 0#64, read := true, write := false, atomic := false, unit := 0x200, ticket := 1 }, 0,
    (mapS.updItu fun u => { u with halls := [(5, { u.halls.get 5 with tables := [(tableKey 3 (pageKey 0), 64)] })] }).updPins fun p =>
    { p with mpPresent := 0 }, (mapS.updItu fun u =>
    { u with halls := [(5, { u.halls.get 5 with tables := [(tableKey 3 (pageKey 0), 64)] })] }).updPins fun p => { p with mpPresent := 0 },
    by decide +kernel⟩,
   ⟨63, 0, 0x72#128, 0, mapS.updItu fun u =>
    { u with walks := [(63, { live := true, req := { hall := 5, hgen := 3#16, va := 0#64, read := true, write := false, atomic := false, unit := 0x200, ticket := 1 }, level := 3 })] },
    (mapS.updItu fun u =>
    { u with walks := [(63, { live := true, req := { hall := 5, hgen := 3#16, va := 0#64, read := true, write := false, atomic := false, unit := 0x200, ticket := 1 }, level := 3 })] }).ituCount
    2, by decide +kernel⟩,
   ⟨63, 0, serving, by decide +kernel⟩,
   ⟨5, serving.itu.halls.get 5, serving, by decide +kernel⟩,
   ⟨serving.updDbg fun d => { d with cutState := 2#2 }, by decide +kernel⟩⟩

/-- Hypotheses of clause 8 of `MigrationAndTranslation`. -/
theorem test_MigrationAndTranslation_clause_8_has_a_witness (h : openImage (imgKey 2 3 9) (imgDoc.take 64) imgDoc 1 = some imgBody) :
    ∃ (a : Act) (arg image body : Bytes) (h : Nat) (key : BitVec 256) (l : List (Nat × Bytes)) (placed : List (Nat × BitVec 128)) (s : State),
    dmOnly a arg 16 s = true ∧ allZero (sub arg 2 6) = true ∧ num arg 0 2 = h ∧ h < 4096 ∧ restoreParts h image s key body l placed :=
  by
  refine ⟨dm, natLe 5 2, imgDoc, imgBody, 5, imgKey 2 3 9, [], [], migS (fun h => { h with state := .awaiting }) [], ?_, ?_, ?_, ?_, ⟨?_, ?_, rfl, h,
    ?_, ?_, ?_, ?_, ?_⟩⟩ <;> decide +kernel

/-- Hypotheses of clause 9 of `MigrationAndTranslation`. -/
theorem test_MigrationAndTranslation_clause_9_has_a_witness (h : openImage (imgKey 2 3 9) (imgDoc.take 64) imgDoc 1 = some imgBody) :
    ∃ (image body : Bytes) (h : Nat) (key : BitVec 256) (l : List (Nat × Bytes)) (placed : List (Nat × BitVec 128)) (s u : State), s.itu.go = false
    ∧ num (ituArg s.itu) 0 2 = h ∧ h < 4096 ∧ u = ituTaken 9 s.itu.hall.toNat s ∧ restoreParts h image u key body l placed :=
  by
  refine ⟨imgDoc, imgBody, 5, imgKey 2 3 9, [], [], migS (fun h => { h with state := .awaiting }) (natLe 5 2),
    ituTaken 9 0 (migS (fun h => { h with state := .awaiting }) (natLe 5 2)), ?_, ?_, ?_, ?_, ⟨?_, ?_, rfl, h, ?_, ?_, ?_, ?_, ?_⟩⟩ <;> decide +kernel

/-- Hypotheses of the clauses 1, 2, 3, 4, 5, 6, 7, 8, 9, 10, 11, 12 of `FaultControlCommands`. -/
theorem test_FaultControlCommands_has_witnesses :
    (∃ (src : Nat) (d : BitVec 16) (s : State), s.stopped = false ∧ s.fcu.fifo.get src = [])
    ∧ (∃ (src : Nat) (d : BitVec 16) (s : State), s.stopped = true)
    ∧ (∃ (src : Nat) (d : BitVec 16) (r : FRec) (rest : List FRec) (s u : State), s.stopped = false ∧ s.fcu.armed = false ∧ src ≠ Src.fcu
      ∧ s.fcu.fifo.get src = r :: rest ∧ s.fcu.expect.get src = r.seq ∧ u =
      { s with fcu := { s.fcu with fifo := s.fcu.fifo.set src rest, expect := s.fcu.expect.set src (r.seq + 1) } })
    ∧ (∃ (src : Nat) (d : BitVec 16) (r : FRec) (rest : List FRec) (x : LogRec) (s u : State), s.stopped = false ∧ s.fcu.armed = false ∧ src ≠ Src.fcu
      ∧ s.fcu.fifo.get src = r :: rest ∧ s.fcu.expect.get src = r.seq ∧ r.cls < s.fcu.irqClass.toNat ∧ r.cls < 3
      ∧ policySafe s r.kind r.cls = false ∧ (s.fcu.logHead - s.fcu.logTail).toNat < 1024
      ∧ u = { s with fcu := { s.fcu with fifo := s.fcu.fifo.set src rest, expect := s.fcu.expect.set src (r.seq + 1) } }
      ∧ x = LogRec.mk (faultMessage src r d.toNat) r.detail (BitVec.ofNat 64 (s.now - d.toNat)))
    ∧ (∃ (s : State), s.fcu.safe = true ∧ s.fcu.autoT3 = true ∧ s.fcu.safeAt + s.fcu.hold.toNat * usT ≤ s.now)
    ∧ (∃ (s : State), ((s.fcu.safe = false ∨ s.fcu.autoT3 = false ∨ s.now < s.fcu.safeAt + s.fcu.hold.toNat * usT)))
    ∧ (∃ (src : BitVec 12) (kind : Byte) (s : State), injRefused src.toNat kind.toNat s = false ∧ firesAtOnce kind.toNat = false)
    ∧ (∃ (src : BitVec 12) (kind : Byte) (s : State), injRefused src.toNat kind.toNat s = true)
    ∧ (∃ (a : Act) (arg : Bytes) (s : State), mayAct s [.factory, .operator] a = true ∧ arg.length = 3 ∧ num arg 0 2 < 4096)
    ∧ (∃ (a : Act) (arg : Bytes) (s : State), mayAct s [.factory, .operator] a = false)
    ∧ (∃ (s : State), ((s.stopped = true ∨ 2 ≤ s.pins.pstate.toNat)))
    ∧ (∃ (s : State), s.stopped = false ∧ s.pins.pstate.toNat < 2 ∧ (s.hr.watch.filter fun e => e.2.retake) = []) :=
  ⟨⟨0x105, 9#16, serving, by decide +kernel⟩,
   ⟨0x105, 9#16, serving.updDbg fun d => { d with cutState := 2#2 }, by decide +kernel⟩,
   ⟨0x105, 9#16, { (default : FRec) with kind := 1 }, [], fcuS,
    { fcuS with fcu := { fcuS.fcu with fifo := fcuS.fcu.fifo.set 0x105 [], expect := fcuS.fcu.expect.set 0x105 1 } }, by decide +kernel⟩,
   ⟨0x105, 9#16, { (default : FRec) with kind := 1 }, [], LogRec.mk (faultMessage 0x105 { (default : FRec) with kind := 1 } 9) 0 (BitVec.ofNat 64 (0
    - 9)), fcuS, { fcuS with fcu := { fcuS.fcu with fifo := fcuS.fcu.fifo.set 0x105 [], expect := fcuS.fcu.expect.set 0x105 1 } },
    by decide +kernel⟩,
   ⟨(serving.updFcu fun f => { f with safe := true, autoT3 := true }).updPwr fun p =>
    { p with copies := p.copies.set (ClockDomain.code .cclk) { p.copies.get (ClockDomain.code .cclk) with ticks := 40000 } }, by decide +kernel⟩,
   ⟨(serving.updFcu fun f => { f with safe := true, autoT3 := true }).updPwr fun p =>
    { p with copies := p.copies.set (ClockDomain.code .cclk) { p.copies.get (ClockDomain.code .cclk) with ticks := 39999 } }, by decide +kernel⟩,
   ⟨BitVec.ofNat 12 Src.xbar, BitVec.ofNat 8 Kind.memCorr, testS, by decide +kernel⟩,
   ⟨BitVec.ofNat 12 Src.xbar, BitVec.ofNat 8 Kind.memCorr, serving.updLc fun l => { l with rights := 0#6 }, by decide +kernel⟩,
   ⟨fac, natLe Src.xbar 2 ++ natLe Kind.memCorr 1, testS, by decide +kernel⟩,
   ⟨ten, [], testS, by decide +kernel⟩,
   ⟨serving.updPins fun p => { p with pstate := 2#2 }, by decide +kernel⟩,
   ⟨serving, by decide +kernel⟩⟩

/-- Hypotheses of the clauses 1, 2, 3, 4, 5, 6, 7, 8, 9, 10, 11, 12, 13, 14, 15, 16, 17, 18, 19, 20, 21, 22 of `ResetCommands`. -/
theorem test_ResetCommands_has_witnesses :
    (∃ (q : Nat) (s : State), targetOk s 0 q = true ∧ treadOf s 0 q = none)
    ∧ (∃ (q : Nat) (x : Tread) (s : State), targetOk s 0 q = true ∧ treadOf s 0 q = some x)
    ∧ (∃ (q : Nat) (s : State), (queueOf s q).t0 = true ∧ (queueOf s q).acks = [] ∧ workOf s q = [] ∧ owed s q = [])
    ∧ (∃ (q : Nat) (s : State), (((queueOf s q).t0 = false ∨ (queueOf s q).acks ≠ [])))
    ∧ (∃ (unit : Nat) (s : State), targetOk s 2 unit = true ∧ within unit 0x2E0 16 = true)
    ∧ (∃ (unit : Nat) (a : List Ans) (s u : State), targetOk s 2 unit = true ∧ within unit 0x2E0 16 = false ∧ sliceOf s unit = none
      ∧ treadOf s 3 0 = none ∧ treadOf s 1 unit = none ∧ stairInjected s 1 unit = false
      ∧ landEnter 1 unit (treadAdd 1 unit false noWaiter (s.hrCount 4)) = (a, u) ∧ unitBusy u unit = true)
    ∧ (∃ (unit : Nat) (s : State), targetOk s 2 unit = true ∧ within unit 0x2E0 16 = false ∧ (treadOf s 3 0).isSome = true)
    ∧ (∃ (k : Nat) (x : Tread) (s : State), targetOk s 3 k = true ∧ treadOf s 2 k = some x)
    ∧ (∃ (k : Nat) (a b : List Ans) (s u v w : State), targetOk s 3 k = true ∧ treadOf s 2 k = none ∧ treadOf s 3 0 = none ∧ stairInjected s 2 k = false
      ∧ s.hr.treads = [] ∧ u = treadAdd 2 k false noWaiter ((s.hrCount 5).updFcu fun c => { c with inT2 := c.inT2 ||| BitVec.ofNat 4 (2 ^ k) })
      ∧ parentInSlice u k = false ∧ eachAns (sliceUnits u.conf k ++ spareUnits u k) (landEnter 2) u = (a, v)
      ∧ eachAns (sliceLanes s.conf k) (fun l => laneStops (!(redirectLines (linkEnables v)).pins.lpEn.toNat.testBit (groupOf l)) l) (redirectLines
      (linkEnables v)) = (b, w) ∧ (redirectLines (linkEnables v)).conf = s.conf ∧ (sliceUnits w.conf k ++ spareUnits w k).any (unitBusy w) = true)
    ∧ (∃ (a : List Ans) (s u : State), treadOf s 3 0 = none ∧ eachAns (allUnits s.conf) (landEnter 3) (treadAdd 3 0 false
      { keeper := s.hr.treads.any (·.byKeeper), boxes := (s.hr.treads.map (·.answer)).flatten } ((s.hrCount 6).updHr fun h =>
      { h with treads := [] })) = (a, u) ∧ anyBusy u = true)
    ∧ (∃ (k : Nat) (s : State), targetOk s 3 k = false)
    ∧ (∃ (t target : Nat) (s : State), t ≠ 3 ∧ treadOf s t target = none)
    ∧ (∃ (target : Nat) (x : Tread) (s : State), treadOf s 0 target = some x ∧ x.late = false ∧ s.hr.autoEsc = false)
    ∧ (∃ (target : Nat) (x : Tread) (s : State), treadOf s 0 target = some x ∧ x.late = true)
    ∧ (∃ (target : Nat) (x : Tread) (a : List Ans) (s u : State), s.stopped = false ∧ treadOf s 1 target = some x ∧ x.missed = false
      ∧ landUnits true false [target] s = (a, u))
    ∧ (∃ (s : State), s.stopped = false ∧ (treadOf s 3 0).isSome = true)
    ∧ (∃ (t target : Nat) (s : State), s.stopped = true)
    ∧ (∃ (tread : BitVec 3) (s u : State), s.hr.go = false ∧ u = { s with hr := { s.hr with tread := tread, op := 1 } }
      ∧ targetOk s tread.toNat s.hr.target.toNat = true)
    ∧ (∃ (tread : BitVec 3) (s : State), s.hr.go = false ∧ targetOk s tread.toNat s.hr.target.toNat = false)
    ∧ (∃ (s : State), s.hr.go = false ∧ targetOk s 0 s.hr.target.toNat = true)
    ∧ (∃ (a : Act) (arg : Bytes) (s : State), mayAct s [.operator] a = true ∧ arg.length = 8 ∧ allZero (sub arg 1 3) = true
      ∧ targetOk s (num arg 0 1) (num arg 4 4) = true)
    ∧ (∃ (a : Act) (arg : Bytes) (s : State), mayAct s [.operator] a = false) :=
  ⟨⟨16383, queS (fun q => q) fun f => f, by decide +kernel⟩,
   ⟨16383, { (default : Tread) with target := 16383 }, hrS [{ (default : Tread) with target := 16383 }], by decide +kernel⟩,
   ⟨16383, queS (fun q => { q with t0 := true }) fun f => f, by decide +kernel⟩,
   ⟨16383, queS (fun q => { q with t0 := true, acks := [0] }) fun f => f, by decide +kernel⟩,
   ⟨0x2EF, serving, by decide +kernel⟩,
   ⟨Src.au, (landEnter 1 Src.au (treadAdd 1 Src.au false noWaiter (auB.hrCount 4))).1, auB,
    (landEnter 1 Src.au (treadAdd 1 Src.au false noWaiter (auB.hrCount 4))).2, by decide +kernel⟩,
   ⟨Src.au, hrS [{ (default : Tread) with tread := 3 }], by decide +kernel⟩,
   ⟨3, { (default : Tread) with tread := 2, target := 3 }, hrS [{ (default : Tread) with tread := 2, target := 3 }], by decide +kernel⟩,
   ⟨3, (eachAns (sliceUnits t2U.conf 3 ++ spareUnits t2U 3) (landEnter 2) t2U).1,
    (eachAns (sliceLanes t2S.conf 3) (fun l => laneStops (!(redirectLines (linkEnables t2V)).pins.lpEn.toNat.testBit (groupOf l)) l)
    (redirectLines (linkEnables t2V))).1, t2S, t2U, t2V, (eachAns (sliceLanes t2S.conf 3) (fun l => laneStops (!(redirectLines (linkEnables
    t2V)).pins.lpEn.toNat.testBit (groupOf l)) l) (redirectLines (linkEnables t2V))).2, by decide +kernel⟩,
   ⟨(eachAns (allUnits auB.conf) (landEnter 3) (treadAdd 3 0 false { keeper := false, boxes := [] } ((auB.hrCount 6).updHr fun h =>
    { h with treads := [] }))).1, auB, (eachAns (allUnits auB.conf) (landEnter 3) (treadAdd 3 0 false { keeper := false, boxes := [] }
    ((auB.hrCount 6).updHr fun h => { h with treads := [] }))).2, by decide +kernel⟩,
   ⟨3, serving.updFcu fun f => { f with retired := 8#4 }, by decide +kernel⟩,
   ⟨2, 3, serving, by decide +kernel⟩,
   ⟨16383, { (default : Tread) with target := 16383 }, (hrS [{ (default : Tread) with target := 16383 }]).updHr fun h => { h with autoEsc := false },
    by decide +kernel⟩,
   ⟨16383, { (default : Tread) with target := 16383, late := true }, hrS [{ (default : Tread) with target := 16383, late := true }],
    by decide +kernel⟩,
   ⟨Src.au, { (default : Tread) with tread := 1, target := Src.au }, (landUnits true false [Src.au] (hrS
    [{ (default : Tread) with tread := 1, target := Src.au }])).1, hrS [{ (default : Tread) with tread := 1, target := Src.au }],
    (landUnits true false [Src.au] (hrS [{ (default : Tread) with tread := 1, target := Src.au }])).2, by decide +kernel⟩,
   ⟨hrS [{ (default : Tread) with tread := 3 }], by decide +kernel⟩,
   ⟨3, 0, serving.updDbg fun d => { d with cutState := 2#2 }, by decide +kernel⟩,
   ⟨4#3, serving, { serving with hr := { serving.hr with tread := 4#3, op := 1 } }, by decide +kernel⟩,
   ⟨7#3, serving, by decide +kernel⟩,
   ⟨(queS (fun q => q) fun f => f).updHr fun h => { h with target := 16383#32 }, by decide +kernel⟩,
   ⟨op, [4#8] ++ natLe 0 7, serving, by decide +kernel⟩,
   ⟨ten, [], serving, by decide +kernel⟩⟩

/-- Hypotheses of the clauses 1, 2, 3, 4, 5, 6, 7, 8, 9, 10, 11, 12, 13, 14, 15, 16, 17, 18, 19, 20, 21, 22 of `CutAndTraceCommands`. -/
theorem test_CutAndTraceCommands_has_witnesses :
    (∃ (a : Act) (arg : Bytes) (s : State), mayAct s (cutRoles s) a = true ∧ cutRefusal (cutArg arg) false s = none
      ∧ (cutArg arg).flags.testBit 1 = false)
    ∧ (∃ (a : Act) (arg : Bytes) (st : Status) (s : State), mayAct s (cutRoles s) a = true ∧ cutRefusal (cutArg arg) false s = some st)
    ∧ (∃ (flags : Byte) (serial : BitVec 12) (c : CutArg) (s u : State), flags.toNat.testBit 1 = false
      ∧ c = CutArg.mk s.dbg.cutT.toNat s.dbg.resumeT.toNat serial.toNat flags.toNat true
      ∧ u = { s with dbg := { s.dbg with flags := flags, serialOp := BitVec.ofNat 16 (serial.toNat * 16 + 1) } } ∧ cutRefusal c false u = none)
    ∧ (∃ (s : State), s.dbg.cutState = 1 ∧ s.pwr.master + usT ≤ s.dbg.armStop.toNat)
    ∧ (∃ (a : Act) (s : State), mayAct s (cutRoles s) a = true ∧ s.dbg.cutState = 1 ∧ s.pwr.master + usT ≤ s.dbg.armStop.toNat)
    ∧ (∃ (a : Act) (s : State), mayAct s (cutRoles s) a = true ∧ s.dbg.armStop.toNat < s.pwr.master + usT)
    ∧ (∃ (s : State), s.traceAllowed = true)
    ∧ (∃ (s : State), s.traceAllowed = false)
    ∧ (∃ (s : State), (ringUnits s.conf).contains (bits s.dbg.ringSel.toNat 16 12) = true)
    ∧ (∃ (s : State), s.dbg.cutState = 1 ∧ cutDomains.all (fun d => s.atStop d) = true)
    ∧ (∃ (s : State), ((s.dbg.cutState ≠ 1 ∨ cutDomains.all (fun d => s.atStop d) = false)))
    ∧ (∃ (inst : Nat) (s : State), s.dbg.cutState = 2 ∧ resumeInstant s = some inst)
    ∧ (∃ (s : State), ((s.dbg.cutState ≠ 2 ∨ resumeInstant s = none)))
    ∧ (∃ (unit scanMap : Nat) (body : List ScanWord) (s : State), s.dbg.cutState = 2 ∧ s.dbg.armFlags.toNat.testBit 0 = true ∧ s.dbg.dailiesDone = false
      ∧ s.dbg.records = 0)
    ∧ (∃ (unit scanMap : Nat) (body : List ScanWord) (s : State), s.dbg.cutState = 2 ∧ s.dbg.armFlags.toNat.testBit 0 = true ∧ s.dbg.dailiesDone = false
      ∧ s.dbg.records ≠ 0)
    ∧ (∃ (kind : Byte) (unit scanMap : Nat) (body : List ScanWord) (s : State), s.dbg.cutState ≠ 2)
    ∧ (∃ (channel item : Nat) (s : State), s.dbg.cutState = 2 ∧ channel < 17)
    ∧ (∃ (ctx : Nat) (m : Bytes) (s : State), num m 32 2 = s.dbg.lastOrder.toNat)
    ∧ (∃ (ctx : Nat) (m : Bytes) (c : CutArg) (s u : State), m.length = 64 ∧ num m 0 2 = 2 ∧ allZero (m.drop 35) = true ∧ num m 34 1 < 16
      ∧ (num m 34 1).testBit 1 = false ∧ s.dbg.cutState = 0 ∧ num m 32 2 = (s.dbg.lastOrder.toNat + 1) % 2 ^ 16
      ∧ c = CutArg.mk (num m 16 8) (num m 24 8) (num m 32 2) (num m 34 1) true
      ∧ u = { s with dbg := { s.dbg with lastOrder := BitVec.ofNat 16 (num m 32 2) } } ∧ cutRefusal c true u = none)
    ∧ (∃ (unit : Nat) (s : State), (ringUnits s.conf).contains unit = true)
    ∧ (∃ (a : Act) (arg : Bytes) (s : State), mayAct s [.operator, .domainManager, .tenant] a = true ∧ arg.length = 3 ∧ num arg 2 1 < 4
      ∧ (ringUnits s.conf).contains (num arg 0 2) = true)
    ∧ (∃ (hall slot : Nat) (v : DWord) (s : State), hallUsed s hall = true ∧ slot < 16) :=
  ⟨⟨op, natLe 80000 8 ++ natLe 84000 8 ++ natLe 0xFFFF 2 ++ natLe 0xD 1, serving, by decide +kernel⟩,
   ⟨op, natLe 79999 8 ++ natLe 84000 8 ++ natLe 0xFFFF 2 ++ natLe 0xD 1, Status.permission, serving, by decide +kernel⟩,
   ⟨0xD#8, 0xFFF#12, CutArg.mk 80000 84000 0xFFF 0xD true, serving.updDbg fun d => { d with cutT := 80000#64, resumeT := 84000#64 },
    { serving with dbg := { serving.dbg with cutT := 80000#64, resumeT := 84000#64, flags := 0xD#8, serialOp := 0xFFF1#16 } }, by decide +kernel⟩,
   ⟨serving.updDbg fun d => { d with cutState := 1#2, armStop := 4000#64 }, by decide +kernel⟩,
   ⟨op, serving.updDbg fun d => { d with cutState := 1#2, armStop := 4000#64 }, by decide +kernel⟩,
   ⟨op, serving.updDbg fun d => { d with cutState := 1#2, armStop := 3999#64 }, by decide +kernel⟩,
   ⟨testS, by decide +kernel⟩,
   ⟨serving.updLc fun l => { l with rights := 0#6 }, by decide +kernel⟩,
   ⟨serving.updDbg fun d => { d with ringSel := 0x010500FF#32 }, by decide +kernel⟩,
   ⟨serving.updDbg fun d => { d with cutState := 1#2 }, by decide +kernel⟩,
   ⟨serving.updDbg fun d => { d with cutState := 1#2, armStop := 1#64 }, by decide +kernel⟩,
   ⟨4000, (serving.updDbg fun d => { d with cutState := 2#2, dailiesDone := true }).updPwr fun p => { p with master := 4000 }, by decide +kernel⟩,
   ⟨serving.updDbg fun d => { d with cutState := 2#2 }, by decide +kernel⟩,
   ⟨0, 0, [], serving.updDbg fun d => { d with cutState := 2#2, armFlags := 1#8 }, by decide +kernel⟩,
   ⟨0, 0, [], serving.updDbg fun d => { d with cutState := 2#2, armFlags := 1#8, records := 1 }, by decide +kernel⟩,
   ⟨1#8, 0, 0, [], serving, by decide +kernel⟩,
   ⟨16, 5, serving.updDbg fun d => { d with cutState := 2#2 }, by decide +kernel⟩,
   ⟨0, List.replicate 64 0#8, serving, by decide +kernel⟩,
   ⟨0, cutMsg, CutArg.mk 80000 84000 1 0xD true, serving, { serving with dbg := { serving.dbg with lastOrder := 1#16 } }, by decide +kernel⟩,
   ⟨0x105, serving, by decide +kernel⟩,
   ⟨ten, natLe 0x105 2 ++ natLe 3 1, serving, by decide +kernel⟩,
   ⟨5, 15, 0xFFFFFFFFFFFFFFFF#64, serving, by decide +kernel⟩⟩

/-- Hypotheses of the clauses 1, 2, 3, 4, 5, 6, 7, 8, 9, 10, 11, 12, 13, 14, 15, 16, 17, 18, 21, 22, 23, 25, 26, 27 of `ClockTimePowerAndBoot`. -/
theorem test_ClockTimePowerAndBoot_has_witnesses :
    (∃ (d : ClockDomain) (n : Nat) (s : State), s.isHalted d = false)
    ∧ (∃ (d : ClockDomain) (n : Nat) (s : State), s.isHalted d = true)
    ∧ (∃ (m : BitVec 5) (s : State), enablesLow s = true ∧ 20 ≤ m.toNat ∧ m.toNat ≤ 26)
    ∧ (∃ (m : BitVec 5) (s : State), ((enablesLow s = false ∨ m.toNat < 20 ∨ 26 < m.toNat)))
    ∧ (∃ (s : State), s.pins.por = false ∧ s.pins.pstate ≠ 3)
    ∧ (∃ (i : Nat) (s u : State), parentValid s = true ∧ s.dom.joined = true ∧ memberLost s (parentMember s) = false
      ∧ serviceTo s (parentMember s) (parentStream s) = some i ∧ u = s.updPwr (fun p =>
      { p with exch := { p.exch with active := true, number := BitVec.ofNat 16 ((s.pwr.exch.number.toNat + 1) % 2 ^ 16), t1 := BitVec.ofNat 64 (sendStamp s (txLane (txOf s i))) } }))
    ∧ (∃ (s : State), parentValid s = false)
    ∧ (∃ (i t : Nat) (m : Bytes) (s u : State), m.length = 64 ∧ num m 0 2 = 3 ∧ num m 9 1 = 0 ∧ num m 12 4 = 0 ∧ allZero (m.drop 32) = true
      ∧ num m 8 1 = 1 ∧ serviceTo s (rxMember s i) (rxOf s i).stream.toNat = some t
      ∧ u = s.updDom (fun d => { d with timeSent := d.timeSent.set (rxMember s i) (BitVec.ofNat 64 (sendStamp s (txLane (txOf s t)))) }))
    ∧ (∃ (i : Nat) (m : Bytes) (s : State), m.length = 64 ∧ num m 0 2 = 3 ∧ num m 9 1 = 0 ∧ num m 12 4 = 0 ∧ allZero (m.drop 32) = true ∧ num m 8 1 = 2
      ∧ s.pwr.exch.active = true ∧ s.pwr.exch.number.toNat = num m 10 2 ∧ parentValid s = true ∧ rxMember s i = parentMember s
      ∧ s.pwr.exch.prevT1 = none)
    ∧ (∃ (a : Act) (arg : Bytes) (s : State), mayAct s [.domainManager] a = true ∧ arg.length = 4 ∧ s.pwr.exch.active = false)
    ∧ (∃ (a : Act) (arg : Bytes) (s : State), mayAct s [.domainManager] a = true ∧ arg.length = 4 ∧ s.pwr.exch.active = true)
    ∧ (∃ (s : State), ((shaking s = true ∨ s.stopped = true ∨ s.pwr.phase ≠ .firmware ∨ stateChosen s = none)))
    ∧ (∃ (st : Nat) (s : State), shaking s = false ∧ s.stopped = false ∧ s.pwr.phase = .firmware ∧ stateChosen s = some st)
    ∧ (∃ (s : State), ((s.pwr.phase ≠ .rom ∨ otpActive s = true)))
    ∧ (∃ (s : State), s.pwr.phase = .rom ∧ otpActive s = false ∧ s.lcState = testOpen ∧ otpBlank s.lc.otp 0 8 = true)
    ∧ (∃ (s u : State), s.pwr.phase = .rom ∧ otpActive s = false ∧ ((s.lcState ≠ testOpen ∨ otpBlank s.lc.otp 0 8 = false))
      ∧ u = (measure 0 Config.maskRom (s.updPwr fun p => { p with lockBit := true })).updLc (fun l => { l with rollback := rollbackCount l.otp })
      ∧ u.lcPending = none)
    ∧ (∃ (a : Act) (arg : Bytes) (s : State), mayRecover s [.factory, .operator] a = true ∧ 4 < arg.length ∧ arg.length ≤ 1028
      ∧ num arg 0 4 + (arg.length - 4) ≤ slotBytes ∧ (sectorsOf (num arg 0 4) (arg.length - 4)).all (fun k => s.pwr.erased.contains k) = true)
    ∧ (∃ (a : Act) (arg : Bytes) (s : State), mayRecover s [.factory, .operator] a = false)
    ∧ (∃ (a : Act) (arg : Bytes) (s : State), mayAct s [.domainManager] a = true ∧ arg.length = 8
      ∧ (usedHalls s).all (fun e => e.2.state == .frozen) = true ∧ s.pwr.shut.running = false)
    ∧ (∃ (a : Act) (arg : Bytes) (s : State), mayAct s [.domainManager] a = true ∧ arg.length = 8)
    ∧ (∃ (a : Act) (s : State), mayAct s [.operator, .domainManager] a = true)
    ∧ (∃ (len : Byte) (s : State), slotBase ≤ s.pwr.xspiAddr.toNat / 0x1000 * 0x1000 ∧ s.pwr.writeEnable = true)
    ∧ (∃ (len : Byte) (s : State), s.pwr.writeEnable = false)
    ∧ (∃ (pll : Bool) (c : ClockDomain) (s u : State), u = (if pll && c == .cclk then { s with pwr := { s.pwr with lockBit := false } } else s)
      ∧ (pll || clockNeeded u c) = true) :=
  ⟨⟨.cclk, 5, serving, by decide +kernel⟩,
   ⟨.lclk3, 5, serving.updDbg fun d => { d with cutState := 2#2, halted := cutDomains.map ClockDomain.code }, by decide +kernel⟩,
   ⟨26#5, State.reset, by decide +kernel⟩,
   ⟨27#5, State.reset, by decide +kernel⟩,
   ⟨State.reset, by decide +kernel⟩,
   ⟨511, timeS, timeS.updPwr (fun p =>
    { p with exch := { p.exch with active := true, number := 1#16, t1 := BitVec.ofNat 64 (sendStamp timeS 63) } }), by decide +kernel⟩,
   ⟨serving, by decide +kernel⟩,
   ⟨5, 511, natLe 3 2 ++ natLe 3 2 ++ natLe 0 4 ++ [1#8, 0#8] ++ natLe 9 2 ++ List.replicate 52 0#8, rxT,
    rxT.updDom (fun d => { d with timeSent := d.timeSent.set 3 (BitVec.ofNat 64 (sendStamp rxT 63)) }), by decide +kernel⟩,
   ⟨5, natLe 3 2 ++ natLe 3 2 ++ natLe 0 4 ++ [2#8, 0#8] ++ natLe 9 2 ++ List.replicate 52 0#8,
    rxT.updPwr fun p => { p with exch := { p.exch with active := true, number := 9#16 } }, by decide +kernel⟩,
   ⟨dm, natLe 0xFFFFFFFF 4, serving, by decide +kernel⟩,
   ⟨dm, natLe 0 4, serving.updPwr fun p => { p with exch := { p.exch with active := true } }, by decide +kernel⟩,
   ⟨State.reset, by decide +kernel⟩,
   ⟨1, (serving.updPwr fun p => { p with idle := 0#16, ltol := 0xFFFFFFFF#32 }), by decide +kernel⟩,
   ⟨serving, by decide +kernel⟩,
   ⟨State.reset, by decide +kernel⟩,
   by
  refine ⟨(State.reset.updLc fun l => { l with otp := [(0, full)] }), (measure 0 Config.maskRom ((State.reset.updLc fun l =>
    { l with otp := [(0, full)] }).updPwr fun p => { p with lockBit := true })).updLc (fun l => { l with rollback := rollbackCount l.otp }), ?_,
    ?_, ?_, rfl, ?_⟩ <;> decide +kernel,
   ⟨fac, natLe 0xFFFFC 4 ++ [1#8, 2#8, 3#8, 4#8], (recS []).updPwr fun p => { p with erased := [255] }, by decide +kernel⟩,
   ⟨ten, [], recS [], by decide +kernel⟩,
   ⟨dm, natLe 9 8, hall5 (fun h => { h with state := .frozen }) serving, by decide +kernel⟩,
   ⟨dm, natLe 9 8, serving, by decide +kernel⟩,
   ⟨dm, serving.updPins fun p => { p with pstate := 2#2 }, by decide +kernel⟩,
   ⟨0#8, serving.updPwr fun p => { p with writeEnable := true, xspiAddr := 0x10000#32 }, by decide +kernel⟩,
   ⟨0#8, serving, by decide +kernel⟩,
   ⟨true, .cclk, serving, { serving with pwr := { serving.pwr with lockBit := false } }, by decide +kernel⟩⟩

/-- Hypotheses of clause 19 of `ClockTimePowerAndBoot`. -/
theorem test_ClockTimePowerAndBoot_clause_19_has_a_witness (h : Crypto.digestBytes (Config.sha384 (bootBody (recS []))) = List.replicate 48 0#8) :
    ∃ (a : Act) (s : State), mayRecover s [.factory, .operator] a = true ∧ bootFault s = 0 :=
  ⟨fac, recS [], by decide +kernel, by simp only [bootFault, h]; decide +kernel⟩

/-- Hypotheses of clause 20 of `ClockTimePowerAndBoot`. -/
theorem test_ClockTimePowerAndBoot_clause_20_has_a_witness (h : Crypto.digestBytes (Config.sha384 (bootBody (recS recW))) = List.replicate 48 0#8)
    (k : Crypto.digestBytes (Config.sha384 (sub (bootHeader (recS recW)) 112 96)) = otpBytes (recS recW).lc.otp 82 12) (v : Config.ecdsaVerify (sub
    (bootHeader (recS recW)) 112 96) (Config.sha384 ((bootHeader (recS recW)).take 208)) (bootSignature (recS recW)) = false) :
    ∃ (a : Act) (s : State), mayRecover s [.factory, .operator] a = true ∧ bootFault s = 5 :=
  ⟨op, recS recW, by decide +kernel, by simp only [bootFault, h, k, v]; decide +kernel⟩

/-- Hypotheses of the clauses 1, 2, 3, 4, 5, 6, 7, 8, 9, 10, 11, 12, 15, 16, 17, 18, 19, 20, 21, 22, 23, 25 of `ManagementPort`. -/
theorem test_ManagementPort_has_witnesses :
    (∃ (f : MgtFrame) (s : State), s.pins.miiEn = false)
    ∧ (∃ (f : MgtFrame) (s : State), s.pins.miiEn = true ∧ f.fcsGood = false)
    ∧ (∃ (f : MgtFrame) (s : State), s.pins.miiEn = true ∧ s.stopped = false ∧ f.fcsGood = true ∧ (macAccepts s).contains f.dst.toNat = true
      ∧ f.extHeader = false ∧ f.fragment = false ∧ f.sumGood = true ∧ f.port = 61400 ∧ num f.payload 0 1 = 0x5C ∧ segmentOk f.payload = true)
    ∧ (∃ (m : Bytes) (s : State), s.stopped = false ∧ segmentOk m = true ∧ num m 1 1 = 1 ∧ num m 4 8 ≠ s.deviceId ∧ s.mgt.claim.state = 0
      ∧ s.mgt.claim.used.contains (num m 2 1) = false)
    ∧ (∃ (m : Bytes) (s : State), s.stopped = false ∧ segmentOk m = true ∧ num m 1 1 = 2 ∧ num m 4 8 ≠ s.deviceId ∧ s.mgt.claim.state = 2
      ∧ num m 2 1 = s.mgt.claim.node)
    ∧ (∃ (m : Bytes) (s : State), s.stopped = false ∧ segmentOk m = true ∧ num m 1 1 = 3 ∧ num m 4 8 ≠ s.deviceId ∧ s.mgt.claim.state = 1
      ∧ num m 2 1 = s.mgt.claim.candidate)
    ∧ (∃ (n : Nat) (s : State), s.mgt.claim.state = 0 ∧ firstFrom (fun n => !s.mgt.claim.used.contains n) 15 1 = some n)
    ∧ (∃ (s : State), s.mgt.claim.state = 0 ∧ firstFrom (fun n => !s.mgt.claim.used.contains n) 15 1 = none)
    ∧ (∃ (s : State), s.mgt.claim.state = 1 ∧ s.mgt.claim.sends < 3)
    ∧ (∃ (s : State), s.mgt.claim.state = 1)
    ∧ (∃ (s : State), s.mgt.claim.state = 2)
    ∧ (∃ (s : State), s.mgt.claim.state = 3)
    ∧ (∃ (s : State), maySend s = true)
    ∧ (∃ (x : Bytes) (s : State), x ≠ ipAddress s)
    ∧ (∃ (p : Bytes) (s : State), maySend s = true)
    ∧ (∃ (h : Hello) (s : State), servesSessions s = false)
    ∧ (∃ (s : State), servesSessions s = true ∧ (liveSessions s).length < 8)
    ∧ (∃ (s : State), servesSessions s = true ∧ (liveSessions s).length < 8)
    ∧ (∃ (n : Nat) (c : CertChain) (s : State), (sessOf s n).handshaking = true ∧ 1 ≤ c.certs ∧ c.certs ≤ 4 ∧ c.bytes ≤ 4096
      ∧ (liveSessions s).length < 8)
    ∧ (∃ (n old : Nat) (c : CertChain) (s : State), (sessOf s n).handshaking = true ∧ 1 ≤ c.certs ∧ c.certs ≤ 4 ∧ c.bytes ≤ 4096
      ∧ 8 ≤ (liveSessions s).length ∧ evictable s = some old)
    ∧ (∃ (n : Nat) (c : CertChain) (s : State), (sessOf s n).handshaking = true)
    ∧ (∃ (n : Nat) (s : State), (sessOf s n).live = true) :=
  ⟨⟨mf, serving, by decide +kernel⟩,
   ⟨{ mf with fcsGood := false }, mgS 0 [], by decide +kernel⟩,
   ⟨mf, mgS 0 [], by decide +kernel⟩,
   ⟨segM 1, mgS 0 [], by decide +kernel⟩,
   ⟨segM 2, mgS 2 [], by decide +kernel⟩,
   ⟨segM 3, mgS 1 [], by decide +kernel⟩,
   ⟨1, mgS 0 [], by decide +kernel⟩,
   ⟨mgS 0 (List.range 16), by decide +kernel⟩,
   ⟨(mgS 1 []).updMgt fun m => { m with claim := { m.claim with sends := 2 } }, by decide +kernel⟩,
   ⟨mgS 1 [], by decide +kernel⟩,
   ⟨mgS 2 [], by decide +kernel⟩,
   ⟨mgS 3 [], by decide +kernel⟩,
   ⟨mgS 2 [], by decide +kernel⟩,
   ⟨List.replicate 16 0#8, serving, by decide +kernel⟩,
   ⟨[1#8], mgS 2 [], by decide +kernel⟩,
   ⟨⟨true, true, true, true, true⟩, mgS 0 [], by decide +kernel⟩,
   ⟨mgS 2 [], by decide +kernel⟩,
   ⟨mgS 2 [], by decide +kernel⟩,
   ⟨9, { leaf := 0#384, root := 0#384, certs := 4, bytes := 4096 }, sesS 7, by decide +kernel⟩,
   ⟨9, 0, { leaf := 0#384, root := 0#384, certs := 1, bytes := 4096 }, (sesS 8).updPwr fun p =>
    { p with copies := [(ClockDomain.code .cclk, { (default : TbCopy) with ticks := 2 ^ 60 })] }, by decide +kernel⟩,
   ⟨9, { leaf := 0#384, root := 0#384, certs := 1, bytes := 4096 }, sesS 7, by decide +kernel⟩,
   ⟨0, sesS 7, by decide +kernel⟩⟩

/-- Hypotheses of the clauses 1, 2, 3, 4, 5, 6, 7, 8, 9, 10, 11, 12, 13 of `CallSheetRequests`. -/
theorem test_CallSheetRequests_has_witnesses :
    (∃ (n : Nat) (m : Bytes) (s : State), (sessOf s n).live = false)
    ∧ (∃ (n : Nat) (m : Bytes) (e : Word × Bytes) (s : State), (sessOf s n).live = true ∧ num m 1 1 = 1 ∧ cancels m = false
      ∧ (sessOf s n).kept.find? (fun e => e.1 == BitVec.ofNat 32 (num m 4 4)) = some e)
    ∧ (∃ (n : Nat) (m : Bytes) (s : State), (sessOf s n).live = true ∧ num m 1 1 = 1 ∧ requestOk m = false
      ∧ (sessOf s n).kept.all (fun e => e.1 != BitVec.ofNat 32 (num m 4 4)) = true
      ∧ (sessOf s n).outstanding.contains (BitVec.ofNat 32 (num m 4 4)) = false)
    ∧ (∃ (n obj : Nat) (m : Bytes) (q : Req) (e : Entry) (s u : State), sheetTakes 1 n m s = true ∧ q = reqOf m ∧ u = sheetTaken n s ∧ q.body.length = 8
      ∧ num q.body 3 1 = 0 ∧ obj = objOf q.body ∧ access u n q.role obj getRight = .inl e ∧ e.type ≠ 6 ∧ ((num q.body 4 4 = 0 ∨ e.type = 5)))
    ∧ (∃ (n obj o : Nat) (m : Bytes) (q : Req) (s u : State), sheetTakes 1 n m s = true ∧ q = reqOf m ∧ u = sheetTaken n s ∧ q.body.length = 8
      ∧ num q.body 3 1 = 0 ∧ obj = objOf q.body ∧ access u n q.role obj getRight = .inr o)
    ∧ (∃ (n : Nat) (m : Bytes) (q : Req) (e : Entry) (s u : State), sheetTakes 2 n m s = true ∧ q = reqOf m ∧ u = sheetTaken n s ∧ q.body.length = 9
      ∧ num q.body 3 1 = 0 ∧ num q.body 5 1 = 0 ∧ num q.body 6 2 = 1 ∧ objOf q.body = 0x200003 ∧ access u n q.role 0x200003 (·.wr) = .inl e
      ∧ num q.body 4 1 = e.type ∧ typeBytes e.type = 1 ∧ entryOf u 0x200003 = some e ∧ e.type ≠ 6 ∧ num (q.body.drop 8) 0 1 ≤ 3)
    ∧ (∃ (n k : Nat) (m : Bytes) (q : Req) (s u : State), sheetTakes 3 n m s = true ∧ q = reqOf m ∧ u = sheetTaken n s ∧ num q.body 0 1 = k ∧ 1 ≤ k
      ∧ k ≤ 64 ∧ allZero (sub q.body 1 3) = true ∧ q.body.length = 4 + 4 * k)
    ∧ (∃ (n obj : Nat) (m : Bytes) (q : Req) (e : Entry) (s u : State), sheetTakes 4 n m s = true ∧ q = reqOf m ∧ u = sheetTaken n s ∧ 8 ≤ q.body.length
      ∧ num q.body 3 1 = 0 ∧ num q.body 4 2 = 0 ∧ q.body.length = 8 + num q.body 6 2 ∧ num q.body 6 2 ≤ 1368 ∧ obj = objOf q.body
      ∧ access u n q.role obj (·.ex) = .inl e ∧ (boxOf u n obj).waitTag = none)
    ∧ (∃ (n : Nat) (tag : Word) (b : ActBox) (s : State), (sessOf s n).boxes.find? (fun b => b.waitTag == some tag) = some b ∧ boxOf s n b.obj = b
      ∧ b.waitTag = some tag ∧ b.result ≠ Status.notReady)
    ∧ (∃ (n : Nat) (tag : Word) (s : State), (sessOf s n).boxes.find? (fun b => b.waitTag == some tag) = none)
    ∧ (∃ (n obj : Nat) (m : Bytes) (q : Req) (e : Entry) (others : List Sub) (s u : State), sheetTakes 5 n m s = true ∧ q = reqOf m ∧ u = sheetTaken n s
      ∧ q.body.length = 8 ∧ num q.body 3 1 = 0 ∧ obj = objOf q.body ∧ access u n q.role obj (·.rd) = .inl e ∧ 10 ≤ num q.body 4 4
      ∧ num q.body 4 4 ≤ 3600000 ∧ others = (sessOf u n).subs.filter (fun x => x.tag != q.tag) ∧ others.length < 32)
    ∧ (∃ (n : Nat) (tag : Word) (x : Sub) (s u : State), (sessOf s n).subs.find? (fun x => x.tag == tag) = some x ∧ s.stopped = false
      ∧ (sessOf s n).live = true ∧ ((x.period.toNat ≠ onChange ∨ objValue s x.obj ≠ x.last))
      ∧ u = updSess n (fun y =>
      { y with notified := y.notified + 1, subs := y.subs.map fun z => if z.tag == tag then { z with last := objValue s x.obj } else z }) s)
    ∧ (∃ (n : Nat) (tag : Word) (s : State), (sessOf s n).subs.find? (fun x => x.tag == tag) = none) :=
  ⟨⟨1, [], serving, by decide +kernel⟩,
   ⟨0, sheetM 1 0 [], (7#32, [1#8]), sess0 fun x => { x with kept := [(7#32, [1#8])] }, by decide +kernel⟩,
   ⟨0, sheetM 1 1 [], serving, by decide +kernel⟩,
   ⟨0, 0x200003, sheetM 1 0 (objB 0x200003 ++ natLe 0 4), reqOf (sheetM 1 0 (objB 0x200003 ++ natLe 0 4)),
    { obj := 0x200003, type := 1, rd := rolesFOD, wr := [.operator], ex := [] }, serving, sheetTaken 0 serving, by decide +kernel⟩,
   ⟨0, 0x2000FF, ocNoObject, sheetM 1 0 (objB 0x2000FF ++ natLe 0 4), reqOf (sheetM 1 0 (objB 0x2000FF ++ natLe 0 4)), serving, sheetTaken 0 serving,
    by decide +kernel⟩,
   ⟨0, sheetM 2 0 (objB 0x200003 ++ [1#8, 0#8] ++ natLe 1 2 ++ [3#8]), reqOf (sheetM 2 0 (objB 0x200003 ++ [1#8, 0#8] ++ natLe 1 2 ++ [3#8])),
    { obj := 0x200003, type := 1, rd := rolesFOD, wr := [.operator], ex := [] }, serving, sheetTaken 0 serving, by decide +kernel⟩,
   ⟨0, 64, sheetM 3 0 ([64#8, 0#8, 0#8, 0#8] ++ List.replicate 256 0#8), reqOf (sheetM 3 0 ([64#8, 0#8, 0#8, 0#8] ++ List.replicate 256 0#8)),
    serving, sheetTaken 0 serving, by decide +kernel⟩,
   ⟨0, 0x902001, sheetM 4 0 (objB 0x902001 ++ natLe 0 4), reqOf (sheetM 4 0 (objB 0x902001 ++ natLe 0 4)),
    { obj := 0x902001, type := 6, rd := [], wr := [], ex := rolesFO }, serving, sheetTaken 0 serving, by decide +kernel⟩,
   ⟨0, 7#32, { (default : ActBox) with obj := 0x902001, waitTag := some 7#32 },
    sess0 fun x => { x with boxes := [{ (default : ActBox) with obj := 0x902001, waitTag := some 7#32 }] }, by decide +kernel⟩,
   ⟨0, 7#32, serving, by decide +kernel⟩,
   ⟨0, 0x200003, sheetM 5 0 (objB 0x200003 ++ natLe 3600000 4), reqOf (sheetM 5 0 (objB 0x200003 ++ natLe 3600000 4)),
    { obj := 0x200003, type := 1, rd := rolesFOD, wr := [.operator], ex := [] }, [], serving, sheetTaken 0 serving, by decide +kernel⟩,
   ⟨0, 7#32, { tag := 7#32, obj := 0x200003, period := 10#32, last := [] }, sess0 (fun x =>
    { x with subs := [{ tag := 7#32, obj := 0x200003, period := 10#32, last := [] }] }),
    updSess 0 (fun y => { y with notified := y.notified + 1, subs := y.subs.map fun z => if z.tag == 7#32 then { z with last := [3#8] } else z })
    (sess0 (fun x => { x with subs := [{ tag := 7#32, obj := 0x200003, period := 10#32, last := [] }] })), by decide +kernel⟩,
   ⟨0, 7#32, serving, by decide +kernel⟩⟩

/-- Hypotheses of the clauses 1, 2, 3, 4, 5, 6, 7, 8, 9, 10, 11, 12, 13, 14 of `QueryActions`. -/
theorem test_QueryActions_has_witnesses :
    (∃ (a : Act) (arg : Bytes) (s : State), mayAct s [.operator, .domainManager, .tenant] a = true ∧ a.role ≠ .tenant ∧ arg.length = 4)
    ∧ (∃ (a : Act) (arg : Bytes) (s : State), mayAct s [.factory, .operator, .domainManager] a = true ∧ arg.length = 5 ∧ 1 ≤ num arg 4 1
      ∧ num arg 4 1 ≤ 40)
    ∧ (∃ (a : Act) (arg : Bytes) (s : State), mayAct s [.factory, .operator, .domainManager] a = true ∧ arg.length = 5 ∧ 1 ≤ num arg 4 1
      ∧ num arg 4 1 ≤ 64 ∧ s.rightCounters = true ∧ ((List.range (num arg 4 1)).map fun i => num arg 0 4 + 8 * i).all (counterThere s) = true)
    ∧ (∃ (a : Act) (arg : Bytes) (s : State), mayAct s [.operator, .domainManager, .tenant] a = true ∧ arg.length = 2 ∧ num arg 0 2 < s.conf.halls
      ∧ mayName s a (num arg 0 2) = true)
    ∧ (∃ (a : Act) (arg : Bytes) (q : Ls) (s : State), mayAct s [.operator, .domainManager] a = true ∧ arg.length = 3 ∧ num arg 0 2 < 512
      ∧ num arg 2 1 ≤ 1 ∧ q = (lsQueryOp (num arg 0 2) (num arg 2 1 == 1) s).ls)
    ∧ (∃ (a : Act) (arg : Bytes) (s : State), mayAct s [.operator, .domainManager, .tenant] a = true ∧ a.role ≠ .tenant ∧ arg.length = 2
      ∧ num arg 0 2 < 1280)
    ∧ (∃ (a : Act) (arg : Bytes) (s : State), mayAct s [.operator, .domainManager, .tenant] a = false)
    ∧ (∃ (a : Act) (arg : Bytes) (s : State), mayAct s [.domainManager] a = true ∧ arg.length = 2 ∧ num arg 0 2 < 1280 ∧ s.ln.go = true)
    ∧ (∃ (a : Act) (arg : Bytes) (s : State), mayAct s [.domainManager] a = true ∧ arg.length = 2 ∧ num arg 0 2 < 1280 ∧ s.ln.go = false
      ∧ (regionOf s (num arg 0 2)).state = .writing)
    ∧ (∃ (a : Act) (arg : Bytes) (s : State), mayAct s [.domainManager] a = true ∧ arg.length = 2 ∧ num arg 0 2 < 1280 ∧ s.ln.go = false
      ∧ (regionOf s (num arg 0 2)).state ≠ .free ∧ (treeOf s (num arg 0 2)).busy = false ∧ regionQuiet s (num arg 0 2) = false)
    ∧ (∃ (a : Act) (arg d : Bytes) (r : Nat) (got : List Handle) (s u : State), mayAct s [.domainManager] a = true ∧ arg.length = 68 ∧ d = arg.drop 4
      ∧ r = num arg 0 2 ∧ num arg 2 1 ≤ 1 ∧ num arg 3 1 = 0 ∧ num d 24 8 = 0 ∧ dHall d < 4096 ∧ r < 1280 ∧ s.ln.go = false
      ∧ regionKeys d (regionPurposes (isVault r)) [] s = (Status.ok, got, u))
    ∧ (∃ (a : Act) (arg d o : Bytes) (r : Nat) (got : List Handle) (s u : State), mayAct s [.domainManager] a = true ∧ arg.length = 2 ∧ r = num arg 0 2
      ∧ isVault r = true ∧ (regionOf s r).state ≠ .free ∧ s.ln.go = false ∧ o = (regionOf s r).desc
      ∧ d = o.take 12 ++ natLe (dVersion o + 1) 4 ++ o.drop 16 ∧ regionKeys d (regionPurposes true) [] s = (Status.ok, got, u))
    ∧ (∃ (a : Act) (arg : Bytes) (s : State), mayAct s [.factory] a = true ∧ s.lcState = testOpen ∧ 4 < arg.length ∧ arg.length ≤ 1028
      ∧ num arg 0 4 + (arg.length - 4) ≤ slotBase)
    ∧ (∃ (a : Act) (arg : Bytes) (s : State), mayAct s [.factory] a = true ∧ s.lcState ≠ testOpen) :=
  ⟨⟨dm, natLe 0x30050001 4, keys fun k => { k with slots := [hallSlot] }, by decide +kernel⟩,
   ⟨op, natLe 0xFFFFFFFF 4 ++ [40#8], serving, by decide +kernel⟩,
   ⟨op, natLe 0x21000 4 ++ [1#8], serving, by decide +kernel⟩,
   ⟨ten, natLe 5 2, serving, by decide +kernel⟩,
   ⟨op, natLe 511 2 ++ [1#8], (lsQueryOp 511 true serving).ls, serving, by decide +kernel⟩,
   ⟨dm, natLe 255 2, lnS 255 (vault .active), by decide +kernel⟩,
   ⟨fac, [], serving, by decide +kernel⟩,
   ⟨dm, natLe 1279 2, serving.updLn fun l => { l with go := true }, by decide +kernel⟩,
   ⟨dm, natLe 1279 2, lnS 1279 (reel .writing), by decide +kernel⟩,
   ⟨dm, natLe 1279 2, (lnS 1279 (reel .writing)).updLn fun l => { l with inflight := [{ (default : LineReq) with acc := acc 1279 0 }] },
    by decide +kernel⟩,
   by
  refine ⟨dm, natLe 1279 2 ++ [1#8, 0#8] ++ instD, instD, 1279, (regionKeys instD (regionPurposes false) [] instS).2.1, instS,
    (regionKeys instD (regionPurposes false) [] instS).2.2, ?_, ?_, ?_, ?_, ?_, ?_, ?_, ?_, ?_, ?_,
    Prod.ext (?_) (Prod.ext rfl rfl)⟩ <;> decide +kernel,
   by
  refine ⟨dm, natLe 255 2, ersD, rDesc true 0, 255, (regionKeys ersD (regionPurposes true) [] ersS).2.1, ersS,
    (regionKeys ersD (regionPurposes true) [] ersS).2.2, ?_, ?_, ?_, ?_, ?_, ?_, ?_, ?_, Prod.ext (?_) (Prod.ext rfl rfl)⟩ <;> decide +kernel,
   ⟨fac, natLe 0xFFFF 4 ++ [1#8], testS, by decide +kernel⟩,
   ⟨fac, [], facS, by decide +kernel⟩⟩

/-- Hypotheses of `RollbackCounterNeverFalls`. -/
theorem test_RollbackCounterNeverFalls_has_a_witness : ∃ (s t : State), s.lc.otp.wf = true ∧ step s = .next t :=
  ⟨serving, serving.updPwr (fun p => { p with master := 40 }), by decide +kernel, rfl⟩

/-- Hypotheses of the clauses 1, 2, 3 of `EmptyQueueIsAReferenceEdge`. -/
theorem test_EmptyQueueIsAReferenceEdge_has_witnesses :
    (∃ (s : State), s.pending = [] ∧ s.pins.por = true)
    ∧ (∃ (s : State), s.pending = [] ∧ s.pins.por = false ∧ 0 < s.pwr.holdUntil ∧ s.dbg.cutState ≠ 1)
    ∧ (∃ (s : State), s.pending = [] ∧ s.pins.por = false ∧ s.pwr.holdUntil = 0 ∧ s.pwr.slew = 0 ∧ 0 ≤ s.pwr.masterFrac ∧ s.pwr.masterFrac < 2 ^ 32
      ∧ s.pwr.master + 41 < 2 ^ 64) :=
  ⟨⟨serving.updPins fun p => { p with por := true }, by decide +kernel⟩,
   ⟨serving.updPwr fun p => { p with holdUntil := 1 }, by decide +kernel⟩,
   ⟨serving.updPwr fun p => { p with master := 2 ^ 64 - 42, masterFrac := 2 ^ 32 - 1 }, by decide +kernel⟩⟩

/-- Hypotheses of `LeaveTheDomain`. -/
theorem test_LeaveTheDomain_has_a_witness : ∃ (a : Act) (s : State), mayAct s [.domainManager] a = true
    ∧ (usedHalls s).any (fun e => isSealed e.2) = true :=
  ⟨dm, sealedS, by decide +kernel⟩

/-- Hypotheses of the clauses 1, 2, 3, 4, 5, 6, 7, 8, 9, 10, 11 of `TreeCounters`. -/
theorem test_TreeCounters_has_witnesses :
    (∃ (r line : Nat) (s : State), treeServes s r = true ∧ line < treeLines (regionOf s r).desc ∧ (nkeyOf s r).isSome = true ∧ s.fcu.armed = false
      ∧ poisonedPath (treeOf s r) line = false ∧ pathHeld s r line = true)
    ∧ (∃ (r line : Nat) (s : State), treeServes s r = true ∧ line < treeLines (regionOf s r).desc ∧ (nkeyOf s r).isSome = true ∧ s.fcu.armed = false
      ∧ poisonedPath (treeOf s r) line = false ∧ pathHeld s r line = true ∧ (treeOf s r).state = .active ∧ leafCounter s r line < ctrMax)
    ∧ (∃ (r line : Nat) (s : State), treeServes s r = true ∧ line < treeLines (regionOf s r).desc ∧ (nkeyOf s r).isSome = true ∧ s.fcu.armed = false
      ∧ poisonedPath (treeOf s r) line = false ∧ pathHeld s r line = true ∧ (treeOf s r).state = .active ∧ ctrMax ≤ leafCounter s r line)
    ∧ (∃ (r line : Nat) (s : State), treeServes s r = true ∧ line < treeLines (regionOf s r).desc ∧ (nkeyOf s r).isSome = true ∧ s.fcu.armed = false
      ∧ poisonedPath (treeOf s r) line = true)
    ∧ (∃ (r line : Nat) (s : State), treeServes s r = true ∧ line < treeLines (regionOf s r).desc ∧ (nkeyOf s r).isSome = true ∧ s.fcu.armed = false
      ∧ poisonedPath (treeOf s r) line = true ∧ (treeOf s r).state = .active)
    ∧ (∃ (r line : Nat) (s : State), treeServes s r = true ∧ line < treeLines (regionOf s r).desc ∧ nkeyOf s r = none)
    ∧ (∃ (r line : Nat) (s u : State), treeServes s r = true ∧ line < treeLines (regionOf s r).desc ∧ counterOp r line false false s = (.waits, u))
    ∧ (∃ (r line : Nat) (s u : State), treeServes s r = true ∧ line < treeLines (regionOf s r).desc ∧ (treeOf s r).state = .active
      ∧ counterOp r line true false s = (.waits, u))
    ∧ (∃ (r line : Nat) (s : State), treeServes s r = true ∧ line < treeLines (regionOf s r).desc ∧ (treeOf s r).state = .tainted)
    ∧ (∃ (r line : Nat) (s : State), s.conf.tree = true ∧ isVault r = true ∧ ((treeOf s r).state = .saving ∨ (treeOf s r).state = .erasing))
    ∧ (∃ (r line : Nat) (s : State), (treeOf s r).state ≠ .saving ∧ (treeOf s r).state ≠ .erasing
      ∧ (treeServes s r = false ∨ treeLines (regionOf s r).desc ≤ line)) :=
  ⟨⟨255, 1023, vt7, by decide +kernel⟩,
   ⟨255, 1023, vt7, by decide +kernel⟩,
   ⟨255, 1023, vtMax, by decide +kernel⟩,
   ⟨255, 1023, vtP, by decide +kernel⟩,
   ⟨255, 1023, vtP, by decide +kernel⟩,
   ⟨255, 1023, vt7.updKv fun k => { k with slots := [] }, by decide +kernel⟩,
   ⟨255, 1023, vtW, (counterOp 255 1023 false false vtW).2, by decide +kernel⟩,
   ⟨255, 1023, vtW, (counterOp 255 1023 true false vtW).2, by decide +kernel⟩,
   ⟨255, 1023, (lnS 255 (vault .tainted)).updTr fun t => { t with trees := [(255, { (default : Tree) with state := .tainted })] }, by decide +kernel⟩,
   ⟨255, 1023, (lnS 255 (vault .erasing)).updTr fun t => { t with trees := [(255, { (default : Tree) with state := .erasing })] }, by decide +kernel⟩,
   ⟨255, 1024, lnS 255 (vault .active), by decide +kernel⟩⟩

/-- Hypotheses of the clauses 1, 2, 3, 4, 5, 6 of `NodeResponses`. -/
theorem test_NodeResponses_has_witnesses :
    (∃ (p : Bytes) (q : NodeReq) (s : State), s.tr.requests.find? (fun q => q.id == num p 0 4) = some q ∧ num p 4 1 = 2 * q.nodes.length
      ∧ q.fetch = true)
    ∧ (∃ (p : Bytes) (l j : Nat) (rest : List (Nat × Nat)) (q : NodeReq) (s : State), s.tr.requests.find? (fun q => q.id == num p 0 4) = some q
      ∧ q.nodes = (l, j) :: rest ∧ num p 4 1 = 2 * q.nodes.length ∧ q.fetch = false ∧ rspStatus p 0 = 0 ∧ rspStatus p 1 = 0
      ∧ (nodeOf (treeOf s q.region) l j).inFlight = true)
    ∧ (∃ (p : Bytes) (l j : Nat) (rest : List (Nat × Nat)) (q : NodeReq) (s : State), s.tr.requests.find? (fun q => q.id == num p 0 4) = some q
      ∧ q.nodes = (l, j) :: rest ∧ num p 4 1 = 2 * q.nodes.length ∧ q.fetch = false ∧ rspStatus p 0 ≠ 0 ∧ q.again = false)
    ∧ (∃ (p : Bytes) (l j : Nat) (rest : List (Nat × Nat)) (q : NodeReq) (s : State), s.tr.requests.find? (fun q => q.id == num p 0 4) = some q
      ∧ q.nodes = (l, j) :: rest ∧ num p 4 1 = 2 * q.nodes.length ∧ q.fetch = false ∧ rspStatus p 0 ≠ 0 ∧ q.again = true
      ∧ (nodeOf (treeOf s q.region) l j).inFlight = true)
    ∧ (∃ (p : Bytes) (s : State), s.tr.requests.find? (fun q => q.id == num p 0 4) = none)
    ∧ (∃ (p : Bytes) (q : NodeReq) (s : State), s.tr.requests.find? (fun q => q.id == num p 0 4) = some q ∧ num p 4 1 ≠ 2 * q.nodes.length) :=
  ⟨⟨natLe 5 4 ++ [2#8] ++ List.replicate 187 0#8, { (default : NodeReq) with id := 5, region := 255, nodes := [(0, 63)], fetch := true },
    (lnS 255 (vault .active)).updTr fun t =>
    { t with requests := [{ (default : NodeReq) with id := 5, region := 255, nodes := [(0, 63)], fetch := true }] }, by decide +kernel⟩,
   ⟨natLe 5 4 ++ [2#8] ++ List.replicate 187 0#8, 0, 63, [], { (default : NodeReq) with id := 5, region := 255, nodes := [(0, 63)] },
    (lnS 255 (vault .active)).updTr fun t =>
    { t with requests := [{ (default : NodeReq) with id := 5, region := 255, nodes := [(0, 63)] }], trees := [(255, { (default : Tree) with state := .active, nodes := [(nodeKey 0 63, { (default : Node) with held := true, inFlight := true })] })] },
    by decide +kernel⟩,
   ⟨natLe 5 4 ++ [2#8, 2#8] ++ List.replicate 186 0#8, 0, 63, [], { (default : NodeReq) with id := 5, region := 255, nodes := [(0, 63)] },
    (lnS 255 (vault .active)).updTr fun t =>
    { t with requests := [{ (default : NodeReq) with id := 5, region := 255, nodes := [(0, 63)] }], trees := [(255, { (default : Tree) with state := .active, nodes := [(nodeKey 0 63, { (default : Node) with held := true, inFlight := true })] })] },
    by decide +kernel⟩,
   ⟨natLe 5 4 ++ [2#8, 2#8] ++ List.replicate 186 0#8, 0, 63, [],
    { (default : NodeReq) with id := 5, region := 255, nodes := [(0, 63)], again := true },
    (lnS 255 (vault .active)).updTr fun t =>
    { t with requests := [{ (default : NodeReq) with id := 5, region := 255, nodes := [(0, 63)], again := true }], trees := [(255, { (default : Tree) with state := .active, nodes := [(nodeKey 0 63, { (default : Node) with held := true, inFlight := true })] })] },
    by decide +kernel⟩,
   ⟨natLe 5 4 ++ [2#8] ++ List.replicate 187 0#8, lnS 255 (vault .active), by decide +kernel⟩,
   ⟨natLe 5 4 ++ [6#8] ++ List.replicate 187 0#8, { (default : NodeReq) with id := 5, region := 255, nodes := [(0, 63)] },
    (lnS 255 (vault .active)).updTr fun t =>
    { t with requests := [{ (default : NodeReq) with id := 5, region := 255, nodes := [(0, 63)] }], trees := [(255, { (default : Tree) with state := .active, nodes := [(nodeKey 0 63, { (default : Node) with held := true, inFlight := true })] })] },
    by decide +kernel⟩⟩

/-- Hypotheses of `FrameOfTheSecrets`, `FrameOfTheEngines`, `FrameOfTheHalls` and `FrameOfTheControl`: a command that none of the lists names. -/
theorem test_frames_have_witnesses : ∃ (c : Instr) (s t : State), exec c s = .next t ∧ changesKeyVault c = false ∧ changesKeyRegion c = false
    ∧ changesLifeCycle c = false ∧ changesAttestation c = false ∧ changesDomain c = false ∧ drawsRandom c = false
    ∧ changesLinkSealer c = false ∧ changesLineSealer c = false ∧ changesTree c = false ∧ changesMovers c = false
    ∧ changesReduction c = false ∧ changesAtomics c = false ∧ changesFrontEnd c = false ∧ changesAdmission c = false
    ∧ changesFences c = false ∧ changesTranslation c = false ∧ changesPins c = false ∧ changesFaultUnit c = false
    ∧ changesHangUnit c = false ∧ changesDebug c = false ∧ changesPower c = false :=
  ⟨.echoRequest [1#8], mgS 2 [], _, rfl, by decide +kernel⟩

/-- The same for the management port. -/
theorem test_frame_of_management_has_a_witness : ∃ (c : Instr) (s t : State), exec c s = .next t ∧ changesManagement c = false :=
  ⟨.fpWake, serving, _, rfl, by decide +kernel⟩

/-- Hypothesis of `EveryStepKeepsTheStores`. -/
theorem test_EveryStepKeepsTheStores_has_a_witness : ∃ s : State, Machine.Inv s := ⟨serving, by unfold Machine.Inv; decide +kernel⟩

/-- Hypotheses of both clauses of `LifeCycleGoesForward`: a step of a block in FIELD, and one of a block with a full S4. -/
theorem test_LifeCycleGoesForward_has_witnesses : (∃ s t : State, step s = .next t ∧ s.lcState ≠ scrap)
    ∧ (∃ s t : State, step s = .next t ∧ sFull s.lc.otp 4 = true) :=
  ⟨⟨serving, _, rfl, by decide +kernel⟩, ⟨serving.updLc fun l => { l with otp := [(99, full)] }, _, rfl, by decide +kernel⟩⟩

/-- Hypotheses of the second clause of `LeaveTheDomain`. -/
theorem test_LeaveTheDomain_leaves_somewhere : ∃ (a : Act) (s : State), mayAct s [.domainManager] a = true
    ∧ (usedHalls s).any (fun e => isSealed e.2) = false ∧ s.kv.slots.wf = true :=
  ⟨dm, (joinS 1).updDom fun d => { d with joined := true, stepPending := true, member := 0x1FFF#13 }, by decide +kernel⟩

end Sys2Proof.Tests
end

section
/-! What every command keeps: the frame of each row of the opcode table (Laws/FrExec) beside the lists of Safety, over all commands at
once. The statements about every command follow from it. -/

namespace Sys2Proof.Machine

-- One declaration at a time, so that the elaborator holds few threads (each takes stack of its own).
set_option Elab.async false

/-! ### The masks that the lists of Safety permit -/

/-- The bits of a mask (see Frame) that a list of Safety guards, each with its list. -/
def maskGuards : List (Nat × (Instr → Bool)) :=
  [(2, changesPins), (7, changesKeyVault), (8, changesKeyRegion), (9, changesLifeCycle), (11, countsIde), (46, changesAttestation),
   (12, changesDomain), (14, changesLinkSealer), (16, changesLineSealer), (18, changesTree), (20, changesMovers),
   (22, changesReduction), (24, changesAtomics), (26, changesFrontEnd), (28, changesAdmission), (29, changesFences),
   (31, changesTranslation), (33, changesFaultUnit), (35, changesHangUnit), (37, changesDebug), (39, changesPower),
   (42, changesManagement), (43, drawsRandom)]

/-- A mask that leaves the waiting commands and the configuration alone, and every guarded part whose list does not name the command. -/
def maskPermitted (c : Instr) (w : Nat) : Bool := !w.testBit 0 && maskGuards.all fun g => g.2 c || !w.testBit g.1

theorem testBit_zero_of_maskPermitted {c : Instr} {w : Nat} (h : maskPermitted c w = true) : w.testBit 0 = false := by
  simp only [maskPermitted, Bool.and_eq_true, Bool.not_eq_true'] at h
  exact h.1

theorem testBit_of_maskPermitted {c : Instr} {w : Nat} (g : Nat × (Instr → Bool)) (h : maskPermitted c w = true) (hc : g.2 c = false)
    (hg : g ∈ maskGuards := by simp [maskGuards]) : w.testBit g.1 = false := by
  simp only [maskPermitted, Bool.and_eq_true, List.all_eq_true] at h
  simpa [hc] using h.2 g hg

/-- Every command goes on, within a mask that the lists of Safety permit: row by row, the frame of the row's own operation. -/
theorem exec_goes : ∀ (c : Instr) (s : State), ∃ w, maskPermitted c w = true ∧ Goes w s (exec c s)
  | .registerWrite bus addr value, s => ⟨_, rfl, execRegisterWrite_frame bus addr value s⟩
  | .rcRegisterRead bus addr, s => ⟨_, rfl, execRcRegisterRead_frame bus addr s⟩
  | .lowWordReadLatch bus addr, s => ⟨_, rfl, execLowWordReadLatch_frame bus addr s⟩
  | .lowWordWriteHold bus addr value, s => ⟨_, rfl, execLowWordWriteHold_frame bus addr value s⟩
  | .localTimebaseCorrection dom cycles, s => ⟨_, rfl, execLocalTimebaseCorrection_frame dom cycles s⟩
  | .hpTlpReceive tlp, s => ⟨_, rfl, execHpTlpReceive_frame tlp s⟩
  | .hpFlr func, s => ⟨_, rfl, execHpFlr_frame func s⟩
  | .hpFlrDone func, s => ⟨_, rfl, execHpFlrDone_frame func s⟩
  | .cpCompletion w, s => ⟨_, rfl, execCpCompletion_frame w s⟩
  | .cpReqReceive r, s => ⟨_, rfl, execCpReqReceive_frame r s⟩
  | .mpResponse port tag we err data, s => ⟨_, rfl, execMpResponse_frame port tag we err data s⟩
  | .linkFrameReceive lane vc route frame, s => ⟨_, rfl, execLinkFrameReceive_frame lane vc route frame s⟩
  | .frameRelease ctx, s => ⟨_, rfl, execFrameRelease_frame ctx s⟩
  | .laneUpFall lane, s => ⟨_, rfl, execLaneUpFall_frame lane s⟩
  | .laneUpRise lane, s => ⟨_, rfl, execLaneUpRise_frame lane s⟩
  | .powerOnReset level, s => ⟨_, rfl, execPowerOnReset_frame level s⟩
  | .fpWake, s => ⟨_, rfl, execFpWake_frame s⟩
  | .fpPackRise, s => ⟨_, rfl, execFpPackRise_frame s⟩
  | .fpPackFall, s => ⟨_, rfl, execFpPackFall_frame s⟩
  | .s1SelfWake port, s => ⟨_, rfl, execS1SelfWake_frame port s⟩
  | .extFaultRise n, s => ⟨_, rfl, execExtFaultRise_frame n s⟩
  | .otpProgramDone, s => ⟨_, rfl, execOtpProgramDone_frame s⟩
  | .scanModeRequest level, s => ⟨_, rfl, execScanModeRequest_frame level s⟩
  | .keyLookup l, s => ⟨_, rfl, execKeyLookup_frame l s⟩
  | .derivationQueueAdmit, s => ⟨_, rfl, execDerivationQueueAdmit_frame s⟩
  | .fastDerivationDone, s => ⟨_, rfl, execFastDerivationDone_frame s⟩
  | .deriveHmac replace, s => ⟨_, rfl, execDeriveHmac_frame replace s⟩
  | .deriveFast replace, s => ⟨_, rfl, execDeriveFast_frame replace s⟩
  | .unwrap replace, s => ⟨_, rfl, execUnwrap_frame replace s⟩
  | .importKey replace, s => ⟨_, rfl, execImportKey_frame replace s⟩
  | .retire, s => ⟨_, rfl, execRetire_frame s⟩
  | .retireMatch, s => ⟨_, rfl, execRetireMatch_frame s⟩
  | .setBudget, s => ⟨_, rfl, execSetBudget_frame s⟩
  | .wipeAll, s => ⟨_, rfl, execWipeAll_frame s⟩
  | .kvQuery, s => ⟨_, rfl, execKvQuery_frame s⟩
  | .keyRegisterDrop unit, s => ⟨_, rfl, execKeyRegisterDrop_frame unit s⟩
  | .transition a arg, s => ⟨_, rfl, execTransition_frame a arg s⟩
  | .lcBegin target, s => ⟨_, rfl, execLcBegin_frame target s⟩
  | .lcEraseReport, s => ⟨_, rfl, execLcEraseReport_frame s⟩
  | .lcCommit, s => ⟨_, rfl, execLcCommit_frame s⟩
  | .lcRollbackAdvance, s => ⟨_, rfl, execLcRollbackAdvance_frame s⟩
  | .lcNewNonce, s => ⟨_, rfl, execLcNewNonce_frame s⟩
  | .lcGrant, s => ⟨_, rfl, execLcGrant_frame s⟩
  | .lcClearRights, s => ⟨_, rfl, execLcClearRights_frame s⟩
  | .rollbackCommit a arg, s => ⟨_, rfl, execRollbackCommit_frame a arg s⟩
  | .debugNonce a, s => ⟨_, rfl, execDebugNonce_frame a s⟩
  | .debugCert a arg, s => ⟨_, rfl, execDebugCert_frame a arg s⟩
  | .consent a arg, s => ⟨_, rfl, execConsent_frame a arg s⟩
  | .atExtend index, s => ⟨_, rfl, execAtExtend_frame index s⟩
  | .atDiceStep index, s => ⟨_, rfl, execAtDiceStep_frame index s⟩
  | .atSign, s => ⟨_, rfl, execAtSign_frame s⟩
  | .measExtend a arg, s => ⟨_, rfl, execMeasExtend_frame a arg s⟩
  | .slateRequest path nonce, s => ⟨_, rfl, execSlateRequest_frame path nonce s⟩
  | .slateComplete, s => ⟨_, rfl, execSlateComplete_frame s⟩
  | .mailboxRequest page cmd, s => ⟨_, rfl, execMailboxRequest_frame page cmd s⟩
  | .spdmMsg a arg, s => ⟨_, rfl, execSpdmMsg_frame a arg s⟩
  | .doeDiscovery index, s => ⟨_, rfl, execDoeDiscovery_frame index s⟩
  | .getVersion t, s => ⟨_, rfl, execGetVersion_frame t s⟩
  | .getCapabilities t version, s => ⟨_, rfl, execGetCapabilities_frame t version s⟩
  | .negotiateAlgorithms t offer, s => ⟨_, rfl, execNegotiateAlgorithms_frame t offer s⟩
  | .getDigests t, s => ⟨_, rfl, execGetDigests_frame t s⟩
  | .getCertificate t slot offset length, s => ⟨_, rfl, execGetCertificate_frame t slot offset length s⟩
  | .challenge t slot summary nonce, s => ⟨_, rfl, execChallenge_frame t slot summary nonce s⟩
  | .getMeasurements t index signed nonce, s => ⟨_, rfl, execGetMeasurements_frame t index signed nonce s⟩
  | .keyExchange t carrier exchange, s => ⟨_, rfl, execKeyExchange_frame t carrier exchange s⟩
  | .finish t sid verified, s => ⟨_, rfl, execFinish_frame t sid verified s⟩
  | .endSession t sid, s => ⟨_, rfl, execEndSession_frame t sid s⟩
  | .ideKmQuery sid, s => ⟨_, rfl, execIdeKmQuery_frame sid s⟩
  | .keyProg sid stream sub tx ks key, s => ⟨_, rfl, execKeyProg_frame sid stream sub tx ks key s⟩
  | .kSetGo sid stream sub tx ks, s => ⟨_, rfl, execKSetGo_frame sid stream sub tx ks s⟩
  | .kSetStop sid stream sub tx ks, s => ⟨_, rfl, execKSetStop_frame sid stream sub tx ks s⟩
  | .getTdispVersion hall, s => ⟨_, rfl, execGetTdispVersion_frame hall s⟩
  | .getTdispCapabilities hall, s => ⟨_, rfl, execGetTdispCapabilities_frame hall s⟩
  | .lockInterfaceRequest hall stream, s => ⟨_, rfl, execLockInterfaceRequest_frame hall stream s⟩
  | .getDeviceInterfaceReport hall, s => ⟨_, rfl, execGetDeviceInterfaceReport_frame hall s⟩
  | .getDeviceInterfaceState hall, s => ⟨_, rfl, execGetDeviceInterfaceState_frame hall s⟩
  | .startInterfaceRequest hall nonce, s => ⟨_, rfl, execStartInterfaceRequest_frame hall nonce s⟩
  | .stopInterfaceRequest hall, s => ⟨_, rfl, execStopInterfaceRequest_frame hall s⟩
  | .stopInterfaceAnswer hall, s => ⟨_, rfl, execStopInterfaceAnswer_frame hall s⟩
  | .manifestChunk a arg, s => ⟨_, rfl, execManifestChunk_frame a arg s⟩
  | .planChunk a arg, s => ⟨_, rfl, execPlanChunk_frame a arg s⟩
  | .domainRoot a arg, s => ⟨_, rfl, execDomainRoot_frame a arg s⟩
  | .joinCommit a, s => ⟨_, rfl, execJoinCommit_frame a s⟩
  | .leave a, s => ⟨_, rfl, execLeave_frame a s⟩
  | .memberLost a arg, s => ⟨_, rfl, execMemberLost_frame a arg s⟩
  | .epochPrepare a arg, s => ⟨_, rfl, execEpochPrepare_frame a arg s⟩
  | .epochSwitch a arg, s => ⟨_, rfl, execEpochSwitch_frame a arg s⟩
  | .epochRetire a arg, s => ⟨_, rfl, execEpochRetire_frame a arg s⟩
  | .switchInstant ctx, s => ⟨_, rfl, execSwitchInstant_frame ctx s⟩
  | .hallRetireMessage ctx msg, s => ⟨_, rfl, execHallRetireMessage_frame ctx msg s⟩
  | .txFrameSeal ctx mismatch, s => ⟨_, rfl, execTxFrameSeal_frame ctx mismatch s⟩
  | .frameSent lane, s => ⟨_, rfl, execFrameSent_frame lane s⟩
  | .txFailover pipe, s => ⟨_, rfl, execTxFailover_frame pipe s⟩
  | .rxFailover pipe, s => ⟨_, rfl, execRxFailover_frame pipe s⟩
  | .streamAbandon a arg, s => ⟨_, rfl, execStreamAbandon_frame a arg s⟩
  | .lsTxBind index, s => ⟨_, rfl, execLsTxBind_frame index s⟩
  | .lsRxBind index, s => ⟨_, rfl, execLsRxBind_frame index s⟩
  | .lsUnbind index, s => ⟨_, rfl, execLsUnbind_frame index s⟩
  | .lsAbandon index, s => ⟨_, rfl, execLsAbandon_frame index s⟩
  | .lsArmSwitch, s => ⟨_, rfl, execLsArmSwitch_frame s⟩
  | .lsQuery index, s => ⟨_, rfl, execLsQuery_frame index s⟩
  | .lsFailover, s => ⟨_, rfl, execLsFailover_frame s⟩
  | .lineWrite r data, s => ⟨_, rfl, execLineWrite_frame r data s⟩
  | .partialWrite r be data, s => ⟨_, rfl, execPartialWrite_frame r be data s⟩
  | .lineRead r, s => ⟨_, rfl, execLineRead_frame r s⟩
  | .inflightTableAdmit, s => ⟨_, rfl, execInflightTableAdmit_frame s⟩
  | .lineRspReceive pipe payload, s => ⟨_, rfl, execLineRspReceive_frame pipe payload s⟩
  | .lnRegionWrite index sealed, s => ⟨_, rfl, execLnRegionWrite_frame index sealed s⟩
  | .lnRegionFree index, s => ⟨_, rfl, execLnRegionFree_frame index s⟩
  | .lnRegionSeal index, s => ⟨_, rfl, execLnRegionSeal_frame index s⟩
  | .regionSealComplete region, s => ⟨_, rfl, execRegionSealComplete_frame region s⟩
  | .lnRegionErase index, s => ⟨_, rfl, execLnRegionErase_frame index s⟩
  | .regionEraseComplete region, s => ⟨_, rfl, execRegionEraseComplete_frame region s⟩
  | .lnQuery index, s => ⟨_, rfl, execLnQuery_frame index s⟩
  | .treeCounterRead region line, s => ⟨_, rfl, execTreeCounterRead_frame region line s⟩
  | .treeCounterIncrement region line, s => ⟨_, rfl, execTreeCounterIncrement_frame region line s⟩
  | .nodeFetchResponse payload, s => ⟨_, rfl, execNodeFetchResponse_frame payload s⟩
  | .nodeWritebackResponse payload, s => ⟨_, rfl, execNodeWritebackResponse_frame payload s⟩
  | .trRootSave index keep, s => ⟨_, rfl, execTrRootSave_frame index keep s⟩
  | .trRootLoad index, s => ⟨_, rfl, execTrRootLoad_frame index s⟩
  | .trRootDrop index, s => ⟨_, rfl, execTrRootDrop_frame index s⟩
  | .trFlush index, s => ⟨_, rfl, execTrFlush_frame index s⟩
  | .trQuery index, s => ⟨_, rfl, execTrQuery_frame index s⟩
  | .trInject index level, s => ⟨_, rfl, execTrInject_frame index level s⟩
  | .move q, s => ⟨_, rfl, execMove_frame q s⟩
  | .mvSubmit mover, s => ⟨_, rfl, execMvSubmit_frame mover s⟩
  | .mvQuery mover, s => ⟨_, rfl, execMvQuery_frame mover s⟩
  | .moverSegment m, s => ⟨_, rfl, execMoverSegment_frame m s⟩
  | .moverDescriptorComplete m, s => ⟨_, rfl, execMoverDescriptorComplete_frame m s⟩
  | .moverAbortToken m q qgen, s => ⟨_, rfl, execMoverAbortToken_frame m q qgen s⟩
  | .reduce q, s => ⟨_, rfl, execReduce_frame q s⟩
  | .reductionSlice u slot lines, s => ⟨_, rfl, execReductionSlice_frame u slot lines s⟩
  | .reductionSlotComplete u slot, s => ⟨_, rfl, execReductionSlotComplete_frame u slot s⟩
  | .rdQuery u slot, s => ⟨_, rfl, execRdQuery_frame u slot s⟩
  | .rdAbort u slot, s => ⟨_, rfl, execRdAbort_frame u slot s⟩
  | .homeReqAccept ctx, s => ⟨_, rfl, execHomeReqAccept_frame ctx s⟩
  | .atomicUpdateApply entry, s => ⟨_, rfl, execAtomicUpdateApply_frame entry s⟩
  | .combiningFillDone entry status data, s => ⟨_, rfl, execCombiningFillDone_frame entry status data s⟩
  | .rspItemReceive ctx, s => ⟨_, rfl, execRspItemReceive_frame ctx s⟩
  | .auFlushHall hall, s => ⟨_, rfl, execAuFlushHall_frame hall s⟩
  | .auFlushAll, s => ⟨_, rfl, execAuFlushAll_frame s⟩
  | .auInject, s => ⟨_, rfl, execAuInject_frame s⟩
  | .queueCreate a arg, s => ⟨_, rfl, execQueueCreate_frame a arg s⟩
  | .queueDestroy a arg, s => ⟨_, rfl, execQueueDestroy_frame a arg s⟩
  | .queueDestroyFinish q, s => ⟨_, rfl, execQueueDestroyFinish_frame q s⟩
  | .feCmdCreate, s => ⟨_, rfl, execFeCmdCreate_frame s⟩
  | .feCmdDestroy, s => ⟨_, rfl, execFeCmdDestroy_frame s⟩
  | .feCmdQuery q, s => ⟨_, rfl, execFeCmdQuery_frame q s⟩
  | .doorbell hall slot value, s => ⟨_, rfl, execDoorbell_frame hall slot value s⟩
  | .queueActivate q, s => ⟨_, rfl, execQueueActivate_frame q s⟩
  | .ringEntryFetched q entry, s => ⟨_, rfl, execRingEntryFetched_frame q entry s⟩
  | .commandChunkFetched q data, s => ⟨_, rfl, execCommandChunkFetched_frame q data s⟩
  | .launch q, s => ⟨_, rfl, execLaunch_frame q s⟩
  | .signal q, s => ⟨_, rfl, execSignal_frame q s⟩
  | .signalApply q, s => ⟨_, rfl, execSignalApply_frame q s⟩
  | .wait q, s => ⟨_, rfl, execWait_frame q s⟩
  | .waitGraphWalk q, s => ⟨_, rfl, execWaitGraphWalk_frame q s⟩
  | .atomic q, s => ⟨_, rfl, execAtomic_frame q s⟩
  | .condJump q, s => ⟨_, rfl, execCondJump_frame q s⟩
  | .loop q, s => ⟨_, rfl, execLoop_frame q s⟩
  | .call q, s => ⟨_, rfl, execCall_frame q s⟩
  | .ret q, s => ⟨_, rfl, execRet_frame q s⟩
  | .setReg q, s => ⟨_, rfl, execSetReg_frame q s⟩
  | .mark q, s => ⟨_, rfl, execMark_frame q s⟩
  | .takeOverrun slot, s => ⟨_, rfl, execTakeOverrun_frame slot s⟩
  | .fenceCreate a arg, s => ⟨_, rfl, execFenceCreate_frame a arg s⟩
  | .fenceDestroy a arg, s => ⟨_, rfl, execFenceDestroy_frame a arg s⟩
  | .fenceClear a arg, s => ⟨_, rfl, execFenceClear_frame a arg s⟩
  | .semAlloc a arg, s => ⟨_, rfl, execSemAlloc_frame a arg s⟩
  | .semFree a arg, s => ⟨_, rfl, execSemFree_frame a arg s⟩
  | .fsFenceCreate, s => ⟨_, rfl, execFsFenceCreate_frame s⟩
  | .fsFenceDestroy, s => ⟨_, rfl, execFsFenceDestroy_frame s⟩
  | .fsFenceClear, s => ⟨_, rfl, execFsFenceClear_frame s⟩
  | .fsSemAlloc, s => ⟨_, rfl, execFsSemAlloc_frame s⟩
  | .fsSemFree, s => ⟨_, rfl, execFsSemFree_frame s⟩
  | .fsQuery kind obj, s => ⟨_, rfl, execFsQuery_frame kind obj s⟩
  | .fsFault kind obj, s => ⟨_, rfl, execFsFault_frame kind obj s⟩
  | .msixMessage hall vector, s => ⟨_, rfl, execMsixMessage_frame hall vector s⟩
  | .hallCreate a arg, s => ⟨_, rfl, execHallCreate_frame a arg s⟩
  | .hallDestroy a arg, s => ⟨_, rfl, execHallDestroy_frame a arg s⟩
  | .retireDrainDone hall, s => ⟨_, rfl, execRetireDrainDone_frame hall s⟩
  | .hallGrant a arg, s => ⟨_, rfl, execHallGrant_frame a arg s⟩
  | .hallUngrant a arg, s => ⟨_, rfl, execHallUngrant_frame a arg s⟩
  | .map a arg, s => ⟨_, rfl, execMap_frame a arg s⟩
  | .unmap a arg, s => ⟨_, rfl, execUnmap_frame a arg s⟩
  | .unmapComplete serial, s => ⟨_, rfl, execUnmapComplete_frame serial s⟩
  | .scrubDone hall, s => ⟨_, rfl, execScrubDone_frame hall s⟩
  | .ituClean, s => ⟨_, rfl, execItuClean_frame s⟩
  | .ituQuery hall, s => ⟨_, rfl, execItuQuery_frame hall s⟩
  | .ituHallCreate, s => ⟨_, rfl, execItuHallCreate_frame s⟩
  | .ituHallDestroy, s => ⟨_, rfl, execItuHallDestroy_frame s⟩
  | .ituGrant, s => ⟨_, rfl, execItuGrant_frame s⟩
  | .ituUngrant, s => ⟨_, rfl, execItuUngrant_frame s⟩
  | .ituMap, s => ⟨_, rfl, execItuMap_frame s⟩
  | .ituUnmap, s => ⟨_, rfl, execItuUnmap_frame s⟩
  | .ituFreeze, s => ⟨_, rfl, execItuFreeze_frame s⟩
  | .ituSave pages, s => ⟨_, rfl, execItuSave_frame pages s⟩
  | .ituRestore image, s => ⟨_, rfl, execItuRestore_frame image s⟩
  | .ituThaw, s => ⟨_, rfl, execItuThaw_frame s⟩
  | .ituMigrateDone, s => ⟨_, rfl, execItuMigrateDone_frame s⟩
  | .hallFreeze a arg, s => ⟨_, rfl, execHallFreeze_frame a arg s⟩
  | .hallFreezeComplete hall, s => ⟨_, rfl, execHallFreezeComplete_frame hall s⟩
  | .hallSave a arg pages, s => ⟨_, rfl, execHallSave_frame a arg pages s⟩
  | .hallRestore a arg image, s => ⟨_, rfl, execHallRestore_frame a arg image s⟩
  | .hallThaw a arg, s => ⟨_, rfl, execHallThaw_frame a arg s⟩
  | .migrateDone a arg, s => ⟨_, rfl, execMigrateDone_frame a arg s⟩
  | .hallQuery a arg, s => ⟨_, rfl, execHallQuery_frame a arg s⟩
  | .translationLookup r, s => ⟨_, rfl, execTranslationLookup_frame r s⟩
  | .walkReadResponse walk err, s => ⟨_, rfl, execWalkReadResponse_frame walk err s⟩
  | .bucketRefill, s => ⟨_, rfl, execBucketRefill_frame s⟩
  | .faultMessageAccept source tdelta, s => ⟨_, rfl, execFaultMessageAccept_frame source tdelta s⟩
  | .autoT3Request, s => ⟨_, rfl, execAutoT3Request_frame s⟩
  | .fcuInjArm source kind, s => ⟨_, rfl, execFcuInjArm_frame source kind s⟩
  | .faultInject a arg, s => ⟨_, rfl, execFaultInject_frame a arg s⟩
  | .hangWindowBoundary, s => ⟨_, rfl, execHangWindowBoundary_frame s⟩
  | .queueT0Reset q, s => ⟨_, rfl, execQueueT0Reset_frame q s⟩
  | .queueT0Finish q, s => ⟨_, rfl, execQueueT0Finish_frame q s⟩
  | .engineT1Reset unit, s => ⟨_, rfl, execEngineT1Reset_frame unit s⟩
  | .sliceT2Reset slice, s => ⟨_, rfl, execSliceT2Reset_frame slice s⟩
  | .blockT3Reset, s => ⟨_, rfl, execBlockT3Reset_frame s⟩
  | .treadWindowMiss tread target, s => ⟨_, rfl, execTreadWindowMiss_frame tread target s⟩
  | .landingDrainEnd tread target, s => ⟨_, rfl, execLandingDrainEnd_frame tread target s⟩
  | .hrReset tread, s => ⟨_, rfl, execHrReset_frame tread s⟩
  | .hrQuery tread, s => ⟨_, rfl, execHrQuery_frame tread s⟩
  | .resetOrder a arg, s => ⟨_, rfl, execResetOrder_frame a arg s⟩
  | .cutArm a arg, s => ⟨_, rfl, execCutArm_frame a arg s⟩
  | .cutDisarm a, s => ⟨_, rfl, execCutDisarm_frame a s⟩
  | .dbgArm flags serial, s => ⟨_, rfl, execDbgArm_frame flags serial s⟩
  | .dbgDisarm, s => ⟨_, rfl, execDbgDisarm_frame s⟩
  | .dbgRushesDump, s => ⟨_, rfl, execDbgRushesDump_frame s⟩
  | .dbgRingRead, s => ⟨_, rfl, execDbgRingRead_frame s⟩
  | .cutStop, s => ⟨_, rfl, execCutStop_frame s⟩
  | .cutResume, s => ⟨_, rfl, execCutResume_frame s⟩
  | .dailiesRecord kind unit scanMap body, s => ⟨_, rfl, execDailiesRecord_frame kind unit scanMap body s⟩
  | .lateArrival channel item, s => ⟨_, rfl, execLateArrival_frame channel item s⟩
  | .cutOrderReceive ctx msg, s => ⟨_, rfl, execCutOrderReceive_frame ctx msg s⟩
  | .rushesTick unit, s => ⟨_, rfl, execRushesTick_frame unit s⟩
  | .rushesRead a arg, s => ⟨_, rfl, execRushesRead_frame a arg s⟩
  | .pmatchWrite hall slot value, s => ⟨_, rfl, execPmatchWrite_frame hall slot value s⟩
  | .cclkMultWrite mult, s => ⟨_, rfl, execCclkMultWrite_frame mult s⟩
  | .pllRelockDone, s => ⟨_, rfl, execPllRelockDone_frame s⟩
  | .timeExchangeStart, s => ⟨_, rfl, execTimeExchangeStart_frame s⟩
  | .timeMessageReceive ctx msg, s => ⟨_, rfl, execTimeMessageReceive_frame ctx msg s⟩
  | .timeParent a arg, s => ⟨_, rfl, execTimeParent_frame a arg s⟩
  | .powerStateEntry, s => ⟨_, rfl, execPowerStateEntry_frame s⟩
  | .maskRomBoot, s => ⟨_, rfl, execMaskRomBoot_frame s⟩
  | .recoveryWrite a arg, s => ⟨_, rfl, execRecoveryWrite_frame a arg s⟩
  | .recoveryCommit a, s => ⟨_, rfl, execRecoveryCommit_frame a s⟩
  | .shutdown a arg, s => ⟨_, rfl, execShutdown_frame a arg s⟩
  | .rootStoreUse a arg, s => ⟨_, rfl, execRootStoreUse_frame a arg s⟩
  | .wake a, s => ⟨_, rfl, execWake_frame a s⟩
  | .xspiCommand opcode length, s => ⟨_, rfl, execXspiCommand_frame opcode length s⟩
  | .mgtFrameReceive f, s => ⟨_, rfl, execMgtFrameReceive_frame f s⟩
  | .announceReceive m, s => ⟨_, rfl, execAnnounceReceive_frame m s⟩
  | .claimReceive m, s => ⟨_, rfl, execClaimReceive_frame m s⟩
  | .defendReceive m, s => ⟨_, rfl, execDefendReceive_frame m s⟩
  | .claimListenEnd, s => ⟨_, rfl, execClaimListenEnd_frame s⟩
  | .claimSend, s => ⟨_, rfl, execClaimSend_frame s⟩
  | .claimWindowEnd, s => ⟨_, rfl, execClaimWindowEnd_frame s⟩
  | .announceSend, s => ⟨_, rfl, execAnnounceSend_frame s⟩
  | .noNodeRetry, s => ⟨_, rfl, execNoNodeRetry_frame s⟩
  | .plcaBeaconLoss, s => ⟨_, rfl, execPlcaBeaconLoss_frame s⟩
  | .neighborSolicitation target, s => ⟨_, rfl, execNeighborSolicitation_frame target s⟩
  | .echoRequest payload, s => ⟨_, rfl, execEchoRequest_frame payload s⟩
  | .dtlsClientHello h, s => ⟨_, rfl, execDtlsClientHello_frame h s⟩
  | .sessionEnd sess, s => ⟨_, rfl, execSessionEnd_frame sess s⟩
  | .keyUpdate sess, s => ⟨_, rfl, execKeyUpdate_frame sess s⟩
  | .callSheetGet sess msg, s => ⟨_, rfl, execCallSheetGet_frame sess msg s⟩
  | .callSheetSet sess msg, s => ⟨_, rfl, execCallSheetSet_frame sess msg s⟩
  | .callSheetGetMulti sess msg, s => ⟨_, rfl, execCallSheetGetMulti_frame sess msg s⟩
  | .callSheetAction sess msg, s => ⟨_, rfl, execCallSheetAction_frame sess msg s⟩
  | .actionWaitResponse sess tag, s => ⟨_, rfl, execActionWaitResponse_frame sess tag s⟩
  | .callSheetSubscribe sess msg, s => ⟨_, rfl, execCallSheetSubscribe_frame sess msg s⟩
  | .subscriptionNotify sess tag, s => ⟨_, rfl, execSubscriptionNotify_frame sess tag s⟩
  | .keyQuery a arg, s => ⟨_, rfl, execKeyQuery_frame a arg s⟩
  | .logRead a arg, s => ⟨_, rfl, execLogRead_frame a arg s⟩
  | .counterRead a arg, s => ⟨_, rfl, execCounterRead_frame a arg s⟩
  | .hallCounters a arg, s => ⟨_, rfl, execHallCounters_frame a arg s⟩
  | .otpProgram a arg, s => ⟨_, rfl, execOtpProgram_frame a arg s⟩
  | .streamQuery a arg, s => ⟨_, rfl, execStreamQuery_frame a arg s⟩
  | .regionQuery a arg, s => ⟨_, rfl, execRegionQuery_frame a arg s⟩
  | .regionInstall a arg, s => ⟨_, rfl, execRegionInstall_frame a arg s⟩
  | .regionSeal a arg, s => ⟨_, rfl, execRegionSeal_frame a arg s⟩
  | .regionErase a arg, s => ⟨_, rfl, execRegionErase_frame a arg s⟩
  | .regionFree a arg, s => ⟨_, rfl, execRegionFree_frame a arg s⟩
  | .factoryCertWrite a arg, s => ⟨_, rfl, execFactoryCertWrite_frame a arg s⟩
  | .clockLoss pll clock, s => ⟨_, rfl, execClockLoss_frame pll clock s⟩
  | .extFaultFall n, s => ⟨_, rfl, execExtFaultFall_frame n s⟩
  | .otpVppOk, s => ⟨_, rfl, execOtpVppOk_frame s⟩
  | .keeperHaltRequest, s => ⟨_, rfl, execKeeperHaltRequest_frame s⟩
  | .plcaBeaconSeen, s => ⟨_, rfl, execPlcaBeaconSeen_frame s⟩
  | .dtlsHandshakeFinished sess chain good, s => ⟨_, rfl, execDtlsHandshakeFinished_frame sess chain good s⟩

/-! ### Statements about every command -/

/-- Settles O35: no command's mask names the waiting commands or the configuration, and no frame lets the rest shrink. -/
theorem everyCommandCompletes : Obligations.EveryCommandCompletes := by
  unfold Obligations.EveryCommandCompletes
  intro c s
  obtain ⟨w, hw, t, ht, frame⟩ := exec_goes c s
  obtain ⟨hpending, hconf⟩ := frame.base (testBit_zero_of_maskPermitted hw)
  exact ⟨t, ht, hpending, hconf, frame.grows⟩

/-- Settles O40: by the definition of `step`. -/
theorem stepRunsTheFrontCommand : Obligations.StepRunsTheFrontCommand := by
  unfold Obligations.StepRunsTheFrontCommand
  intro c s rest
  rfl

theorem frame_of_exec {c : Instr} {s t : State} (h : exec c s = .next t) : ∃ w, maskPermitted c w = true ∧ Frame w s t := by
  obtain ⟨w, hw, u, hu, frame⟩ := exec_goes c s
  obtain rfl : u = t := Host.Outcome.next.inj (hu.symm.trans h)
  exact ⟨w, hw, frame⟩

/-- What holds of O31: the attestation unit is unchanged but for the counters of its IDE keys, and those too where `countsIde` does
not name the command. -/
theorem frameOfTheSecrets_butIdeCounters {c : Instr} {s t : State} (h : exec c s = .next t) :
    (changesKeyVault c = false → t.kv.rest = s.kv.rest)
    ∧ (changesKeyRegion c = false → t.kv.region = s.kv.region)
    ∧ (changesLifeCycle c = false → t.lc = s.lc)
    ∧ (changesAttestation c = false → t.att.rest = s.att.rest)
    ∧ (countsIde c = false → t.att = s.att)
    ∧ (changesDomain c = false → t.dom = s.dom)
    ∧ (drawsRandom c = false → t.draws = s.draws) := by
  obtain ⟨w, hw, frame⟩ := frame_of_exec h
  exact ⟨fun hc => frame.kvRest (testBit_of_maskPermitted (7, changesKeyVault) hw hc),
    fun hc => frame.region (testBit_of_maskPermitted (8, changesKeyRegion) hw hc),
    fun hc => frame.lc (testBit_of_maskPermitted (9, changesLifeCycle) hw hc),
    fun hc => frame.attRest (testBit_of_maskPermitted (46, changesAttestation) hw hc),
    fun hc => frame.att (testBit_of_maskPermitted (11, countsIde) hw hc),
    fun hc => frame.dom (testBit_of_maskPermitted (12, changesDomain) hw hc),
    fun hc => frame.draws (testBit_of_maskPermitted (43, drawsRandom) hw hc)⟩

/-- A running TDI of hall 0, bound to IDE stream 0 under an active key of count 0, with an MSI-X message pending and unmasked. -/
def msixInStream : State :=
  { State.reset with
    pins := { State.reset.pins with hpEn := true }
    itu := { (default : Itu) with halls := [(0, { (default : Hall) with
      state := .live, tdi := .run, stream := some 0, msixTable := [(3, 1#32)], msixPending := 1#8 })] }
    att := { (default : At) with
      ideKeys := [(ideKeyAt 0 idePosted true 0, { (default : IdeKey) with loaded := true, active := true })] } }

/-- R134: the message leaves sealed in the stream, which uses one IV of its key. -/
theorem msixMessage_counts_ideKey :
    ∃ t, exec (.msixMessage 0 0) msixInStream = .next t ∧ (ideKeyOf t 0 idePosted true 0).count = 1 :=
  ⟨_, rfl, by decide +kernel⟩

/-- Refutes O31: an MSI-X message, which `changesAttestation` does not name, counts an IV of an IDE key, and the statement has all of
`att` unchanged. `changesAttestation` leaves these counters out; `frameOfTheSecrets_butIdeCounters` is the statement without them. -/
theorem not_frameOfTheSecrets : ¬ Obligations.FrameOfTheSecrets := by
  unfold Obligations.FrameOfTheSecrets
  intro frame
  obtain ⟨t, ht, hcount⟩ := msixMessage_counts_ideKey
  obtain ⟨-, -, -, hatt, -⟩ := frame (.msixMessage 0 0) msixInStream t ht
  unfold ideKeyOf at hcount
  rw [hatt rfl] at hcount
  exact absurd hcount (by decide)

end Sys2Proof.Machine
end

section
/-! The registers of the Keeper's bus: the identification registers, what reset leaves, and the shadows. -/

namespace Sys2Proof.Machine

-- One declaration at a time, so that the elaborator holds few threads (each takes stack of its own).
set_option Elab.async false

/-- R21: a register of 32 bits on the Keeper's bus, but for ADM_LAT_MAX, reads past the shadows and leaves the state. -/
theorem exec_rcRegisterRead_keeper {a : Nat} {s : State} (ha : a % 4 = 0) (h64 : keeperRead64 s (a / 8 * 8) = none)
    (hmax : a ≠ 0x10120) :
    exec (.rcRegisterRead .keeper a) s = .next (s.emit (.regRead .keeper a (BitVec.ofNat 32 (keeperRead s a)))) := by
  have haligned : a / 4 * 4 = a := by omega
  have hread : busRead .keeper a s = (keeperRead s a, s) := by
    unfold busRead
    simp only [haligned, busReg64, h64, busReg, hmax, and_false, if_false]
  change goOn (readRow .keeper a s) = _
  unfold readRow
  rw [hread, haligned]

/-- R21: a write of a register of 32 bits on the Keeper's bus goes to its window past the shadows. -/
theorem exec_registerWrite_keeper {a : Nat} {w : Word} {s : State} (ha : a % 4 = 0) (h64 : keeperRead64 s (a / 8 * 8) = none) :
    exec (.registerWrite .keeper a w) s = .next (settled (keeperWrite a w.toNat s)) := by
  have haligned : a / 4 * 4 = a := by omega
  have hw : w.toNat % 2 ^ 32 = w.toNat := Nat.mod_eq_of_lt w.isLt
  have hwrite : busWrite .keeper a w.toNat s = keeperWrite a w.toNat s := by
    unfold busWrite
    simp only [haligned, busReg64, h64, hw, busPut]
  change goOn (settled (busWrite .keeper a w.toNat s)) = _
  rw [hwrite]

/-- R10: each field of CAPS is the configuration's number of that unit. -/
theorem caps_fields (k : Conf) : bits k.caps.toNat 28 2 + 1 = k.parts ∧ (bits k.caps.toNat 27 1 = 1 ↔ k.atomic = true)
    ∧ (bits k.caps.toNat 26 1 = 1 ↔ k.tree = true) ∧ 2 ^ bits k.caps.toNat 22 4 = k.halls ∧ bits k.caps.toNat 17 5 = k.movers
    ∧ bits k.caps.toNat 13 4 = k.redUnits ∧ bits k.caps.toNat 9 4 = k.linePipes ∧ 8 * bits k.caps.toNat 2 4 = k.lanes
    ∧ bits k.caps.toNat 0 2 = 0 := by
  cases k <;> decide

/-- Settles O44: both registers have 32 bits and stand in window 0, which no write reaches. -/
theorem identificationRegisters : Obligations.IdentificationRegisters := by
  unfold Obligations.IdentificationRegisters
  refine ⟨fun s => ?_, by decide, fun s => ?_, fun w s => ⟨?_, ?_⟩, by decide, by decide, caps_fields⟩
  · exact exec_rcRegisterRead_keeper rfl rfl (by decide)
  · have hcaps : keeperRead s 0x000008 = s.conf.caps.toNat := rfl
    rw [exec_rcRegisterRead_keeper rfl rfl (by decide), hcaps, BitVec.ofNat_toNat, BitVec.setWidth_eq]
  · exact exec_registerWrite_keeper rfl rfl
  · exact exec_registerWrite_keeper rfl rfl

/-- Settles O42: the fields of the state as `State.reset` gives them, then the registers as they read it. -/
theorem resetState : Obligations.ResetState := by
  unfold Obligations.ResetState
  refine ⟨rfl, rfl, rfl, by decide, rfl, rfl, rfl, rfl, rfl, rfl, rfl, rfl, rfl, rfl, rfl, rfl, rfl, ?_⟩
  decide

/-- An orderly shutdown whose last root is saved (R477 step 2), ready to end. -/
def savedShutdown : State :=
  { State.reset with pwr := { State.reset.pwr with shut := { (default : Shut) with running := true, stage := 2 } } }

/-- A write of the high word of LS_SWITCH_AT settles, and what can go on with it ends the shutdown. -/
theorem registerWrite_ends_shutdown :
    ∃ t, exec (.registerWrite .keeper 0x4002C 0#32) savedShutdown = .next t ∧ t.pwr.shut.running = false :=
  ⟨_, rfl, by decide +kernel⟩

/-- Refutes O1: its last clause has `pwr` unchanged by a write of the high word of LS_SWITCH_AT, in every state; a register write settles,
and with a shutdown ready to end that changes `pwr`. -/
theorem not_sixtyFourBitShadows : ¬ Obligations.SixtyFourBitShadows := by
  unfold Obligations.SixtyFourBitShadows
  rintro ⟨-, -, -, -, commits⟩
  obtain ⟨t, ht, -, -, -, hpwr, -⟩ := commits 0#32 savedShutdown rfl
  obtain ⟨u, hu, hended⟩ := registerWrite_ends_shutdown
  obtain rfl : t = u := Host.Outcome.next.inj (ht.symm.trans hu)
  rw [hpwr] at hended
  exact absurd hended (by decide)

end Sys2Proof.Machine
end

section
/-! The line requests: what stalls before a full table, and for whom. -/

namespace Sys2Proof.Machine

-- One declaration at a time, so that the elaborator holds few threads (each takes stack of its own).
set_option Elab.async false

/-- A write-back of the combining buffer: an inner request, which its region serves while it is being freed (R285). -/
def combWriteBack : LineReq := { (default : LineReq) with op := .write, owner := .comb 0, unit := 1 }

/-- That write-back, the oldest request stalled, with room in the table; its region is being freed, its pipe in Landing. -/
def writeBackStalled : State :=
  { State.reset with
    itu := { (default : Itu) with halls := [(0, { (default : Hall) with state := .live })] }
    hr := { State.reset.hr with landing := [Src.lineSeal 0] }
    ln := { (default : Ln) with
      regions := [(0, { (default : Region) with state := .active, freeing := true, desc := List.replicate 44 0#8 ++ [1#8] })]
      stalled := [combWriteBack] } }

/-- The table takes it, as an inner request. -/
theorem inflightTableAdmit_takes_writeBack :
    ∃ t, exec .inflightTableAdmit writeBackStalled = .next t ∧ t.ln.inflight.length = 1 :=
  ⟨_, rfl, by decide +kernel⟩

/-- A request that is not inner would be turned away from the region being freed. -/
theorem lineAccept_outer_turns_writeBack_away :
    (settled (lineAccept combWriteBack false { writeBackStalled with ln := { writeBackStalled.ln with stalled := [] } })).ln.inflight.length
      = 0 := by
  decide +kernel

/-- Refutes O13: its sixth clause admits every stalled request as one that is not inner; the model admits a write-back of the combining
buffer as an inner one, so that a region being freed takes it (R285). -/
theorem not_lineRequests : ¬ Obligations.LineRequests := by
  unfold Obligations.LineRequests
  rintro ⟨-, -, -, -, -, admits, -⟩
  obtain ⟨t, ht, htaken⟩ := inflightTableAdmit_takes_writeBack
  have houter := Host.Outcome.next.inj (ht.symm.trans (admits combWriteBack [] writeBackStalled rfl (by decide)))
  rw [houter, lineAccept_outer_turns_writeBack_away] at htaken
  exact absurd htaken (by decide)

end Sys2Proof.Machine
end

section
/-! The reference edge: what the correction of the copies changes, and how far the master goes on. -/

namespace Sys2Proof.Machine

-- One declaration at a time, so that the elaborator holds few threads (each takes stack of its own).
set_option Elab.async false

/-- `s` with other local copies and another list of halted domains: all that a correction changes. -/
def withClocks (copies : Tab TbCopy) (halted : List Nat) (s : State) : State :=
  { s with pwr := { s.pwr with copies := copies }, dbg := { s.dbg with halted := halted } }

/-- The copies after one domain's is corrected against the master (R30). -/
def copiesCorrected (d : ClockDomain) (cycles : Nat) (s : State) (copies : Tab TbCopy) : Tab TbCopy :=
  copies.mod (ClockDomain.code d) (correctCopy (tickRatio s.pwr.mult.toNat d) cycles s.pwr.master)

theorem correctDomain_halted {d : ClockDomain} {n : Nat} {s : State} (h : s.isHalted d = true) : correctDomain d n s = s := by
  simp [correctDomain, h]

/-- A correction changes its copy, and the list of halted domains only while a cut is armed (R32). -/
theorem correctDomain_running {d : ClockDomain} {n : Nat} {s : State} (h : s.isHalted d = false) :
    ∃ halted, correctDomain d n s = withClocks (copiesCorrected d n s s.pwr.copies) halted s
      ∧ (s.dbg.cutState ≠ 1#2 → halted = s.dbg.halted) := by
  simp only [correctDomain, h, Bool.false_eq_true, if_false, haltDomain]
  split
  case isTrue stop => exact ⟨_, rfl, fun hc => absurd stop.1 hc⟩
  case isFalse => exact ⟨_, rfl, fun _ => rfl⟩

/-- The corrections of an edge together, by induction on the domains corrected. -/
theorem forAll_correctDomain (l : List ClockDomain) (s : State) :
    ∃ copies halted, forAll l (fun d s => correctDomain d 0 s) s = withClocks copies halted s
      ∧ (s.dbg.cutState ≠ 1#2 → halted = s.dbg.halted)
      ∧ (s.dbg.cutState ≠ 1#2 → s.dbg.halted = [] →
          copies = l.foldl (fun c d => copiesCorrected d 0 s c) s.pwr.copies) := by
  induction l generalizing s with
  | nil => exact ⟨_, _, rfl, fun _ => rfl, fun _ _ => rfl⟩
  | cons d l ih =>
    cases hd : s.isHalted d with
    | true =>
      obtain ⟨copies, halted, heq, hkeep, -⟩ := ih s
      refine ⟨copies, halted, ?_, hkeep, fun _ hnone => ?_⟩
      · rw [← heq]
        exact congrArg (forAll l _) (correctDomain_halted hd)
      · simp [State.isHalted, hnone] at hd
    | false =>
      obtain ⟨first, hfirst, hkeep⟩ := correctDomain_running (n := 0) hd
      obtain ⟨copies, halted, heq, hkeep', hcopies⟩ := ih (withClocks (copiesCorrected d 0 s s.pwr.copies) first s)
      refine ⟨copies, halted, ?_, fun hc => (hkeep' hc).trans (hkeep hc), fun hc hnone => hcopies hc ((hkeep hc).trans hnone)⟩
      change forAll l _ (correctDomain d 0 s) = _
      rw [hfirst]
      exact heq

/-- R467: while it is held the master stands, and the hold runs down. -/
theorem edgeOf_held {p : Pwr} (h : 0 < p.holdUntil) : edgeOf p = { p with holdUntil := p.holdUntil - 40 } := by
  simp [edgeOf, h]

/-- R465: an edge that is neither held nor slewed adds 40 ticks and the rate, with the fraction kept. -/
theorem edgeOf_steady {p : Pwr} (hhold : p.holdUntil = 0) (hslew : p.slew = 0) :
    edgeOf p = { p with
      master := (p.master + (40 + (p.masterFrac + p.rate.toInt) / 4294967296).toNat) % 2 ^ 64
      masterFrac := (p.masterFrac + p.rate.toInt) % 4294967296 } := by
  simp [edgeOf, hhold, hslew]

/-- The ticks and the fraction that an edge leaves hold together what was there and what the edge adds. -/
theorem master_advance {m : Nat} {frac rate : Int} (hrate : -2147483648 ≤ rate ∧ rate < 2147483648)
    (hfrac : 0 ≤ frac ∧ frac < 4294967296) (hroom : m + 41 < 2 ^ 64) :
    (((m + (40 + (frac + rate) / 4294967296).toNat) % 2 ^ 64 : Nat) : Int) * 2 ^ 32 + (frac + rate) % 4294967296
      = ((m : Int) + 40) * 2 ^ 32 + frac + rate := by
  omega

theorem referenceEdge_running {s : State} (h : s.pins.por = false) :
    referenceEdge s = (forAll domains (fun d s => correctDomain d 0 s) s).updPwr edgeOf := by
  simp [referenceEdge, h]

theorem step_of_empty {s : State} (h : s.pending = []) : step s = .next (referenceEdge s) := by
  simp [step, h]

/-- Settles O41: the corrections of the copies, then the master's own advance. -/
theorem emptyQueueIsAReferenceEdge : Obligations.EmptyQueueIsAReferenceEdge := by
  unfold Obligations.EmptyQueueIsAReferenceEdge
  refine ⟨fun s hq hpor => ?_, fun s hq hpor hhold hcut => ?_, fun s hq hpor hhold hslew hlow hhigh hroom => ?_⟩
  · rw [step_of_empty hq, referenceEdge, hpor, if_pos rfl]
  · obtain ⟨copies, halted, heq, hkeep, hcopies⟩ := forAll_correctDomain domains s
    refine ⟨copies, ?_, hcopies hcut⟩
    rw [step_of_empty hq, referenceEdge_running hpor, heq, hkeep hcut]
    exact congrArg (fun p => Host.Outcome.next { s with pwr := p }) (edgeOf_held (p := { s.pwr with copies := copies }) hhold)
  · obtain ⟨copies, halted, heq, hkeep, hcopies⟩ := forAll_correctDomain domains s
    have hedge := edgeOf_steady (p := { s.pwr with copies := copies }) hhold hslew
    have hrate : -2147483648 ≤ s.pwr.rate.toInt ∧ s.pwr.rate.toInt < 2147483648 :=
      ⟨BitVec.le_toInt s.pwr.rate, BitVec.toInt_lt⟩
    refine ⟨_, step_of_empty hq, ?_⟩
    rw [referenceEdge_running hpor, heq]
    simp only [State.updPwr, withClocks, hedge, true_and]
    exact ⟨hkeep, hcopies, Int.emod_nonneg _ (by decide), Int.emod_lt_of_pos _ (by decide),
      master_advance hrate ⟨hlow, hhigh⟩ hroom⟩

end Sys2Proof.Machine
end

section
/-! The compute, memory and link ports: what their rows do with the input that the ports accept. -/

namespace Sys2Proof.Machine

-- One declaration at a time, so that the elaborator holds few threads (each takes stack of its own).
set_option Elab.async false

/-! ### Input at a port (R55) -/

theorem rushesBlock_pins (unit ev arg : Nat) (s : State) : (rushesBlock unit ev arg s).pins = s.pins :=
  (rushesBlock_frame (w₀ := 68719476736) Frame.refl rfl).pins (by decide)

/-- A wake changes the power state's pins and no enable and no lane. -/
theorem wakeEnds_pins (s : State) :
    (wakeEnds s).pins = { s.pins with pstate := 0#2, ptgt := 0#2, wake := false } := by
  rw [wakeEnds, rushesBlock_pins]
  rfl

theorem portInput_enables (s : State) :
    (portInput s).pins.laneUp = s.pins.laneUp ∧ (portInput s).pins.lpEn = s.pins.lpEn ∧ (portInput s).pins.cpEn = s.pins.cpEn := by
  simp only [portInput, entryVoid]
  split
  · exact ⟨rfl, rfl, rfl⟩
  · split
    · rw [wakeEnds_pins]
      exact ⟨rfl, rfl, rfl⟩
    · exact ⟨rfl, rfl, rfl⟩

theorem portInput_conf (s : State) : (portInput s).conf = s.conf :=
  ((portInput_frame (w₀ := 893353197574) Frame.refl rfl).base (by decide)).2

theorem laneUp_portInput (s : State) (lane : Nat) : laneUp (portInput s) lane = laneUp s lane := by
  obtain ⟨hlane, hlp, -⟩ := portInput_enables s
  simp only [laneUp, portInput_conf, hlane, hlp]

/-! ### The compute port -/

/-- R45: a completion word of a live launch ends its work item and takes the launch off its slot. -/
theorem cpCompletionOp_ends {w : DWord} {i : Nat} {l : List Nat} {u : State} (hsafe : u.fcu.safe = false)
    (hzero : bits w.toNat 0 12 = 0) (hin : u.hr.slotsOut.toNat.testBit (bits w.toNat 14 4) = false)
    (hgen : bits w.toNat 32 16 = (queueOf u (bits w.toNat 18 14)).qgen.toNat) (hack : w.toNat.testBit 12 = false)
    (htake : w.toNat.testBit 13 = false)
    (hmine : (slotOfEng u (bits w.toNat 14 4)).launches.filter
      (fun i => (u.fe.works.get i).live && (u.fe.works.get i).q == bits w.toNat 18 14) = i :: l) :
    cpCompletionOp w u = progress (watchUnit (Src.engine (bits w.toNat 14 4)))
      (updSlot (bits w.toNat 14 4) (fun y => { y with launches := y.launches.filter (· != i) })
        (workEnd i (BitVec.ofNat 16 (bits w.toNat 48 16)) u)) := by
  simp only [cpCompletionOp, hzero, hin, hgen, hack, htake, hmine, hsafe, ne_eq, not_true_eq_false, Bool.false_and,
    Bool.false_eq_true, if_false]

theorem cpReqOp_safe {r : CpReq} {u : State} (hen : u.pins.cpEn = true) (hsafe : u.fcu.safe = true) :
    cpReqOp r u = ([], cpAnswer r.tag Status.safeState [] u) := by
  simp [cpReqOp, hen, hsafe]

/-- R272: a well-formed request whose address translates is issued or served by the place it leads to. -/
theorem cpReqOp_served {r : CpReq} {u v : State} {t : Trans} {x : List Ans × State} (hen : u.pins.cpEn = true)
    (hsafe : u.fcu.safe = false) (hok : cpReqOk r = true) (hland : isLanding u Src.au = false ∨ r.op.toNat < 2)
    (htrans : translate r.hall (hallOf u r.hall).hgen.toNat r.addr.toNat
      { targets := [1, 2], rd := r.op.toNat == 0 || decide (2 ≤ r.op.toNat), wr := r.op.toNat == 1 || decide (2 ≤ r.op.toNat)
        atm := decide (2 ≤ r.op.toNat) } u = (t, v))
    (hown : ownRequest r.hall (hallOf u r.hall).hgen.toNat r.addr.toNat t (cpBlock u r).1 (cpBlock u r).2 (.cp r.tag) v = some x)
    (hform : reqFormOk (overwrite (cpBlock u r).1 8 (natLe 0 8) ++ (cpBlock u r).2) = true) : cpReqOp r u = x := by
  have hfree : (isLanding u Src.au && decide (2 ≤ r.op.toNat)) = false := by
    rcases hland with h | h
    · rw [h, Bool.false_and]
    · rw [decide_eq_false (Nat.not_le.mpr h), Bool.and_false]
  simp only [cpReqOp, hen, hsafe, hok, hfree, htrans, hform, hown, Bool.not_true, Bool.false_eq_true, if_false]

/-! ### The memory ports -/

theorem injected_unarmed {src kind : Nat} {s : State} (h : s.fcu.armed = false) : injected src kind s = false := by
  simp [injected, h]

/-- A response without an error, and with no injection armed, reports nothing (R397). -/
theorem memCorrected_unarmed {hall addr : Nat} {s : State} (h : s.fcu.armed = false) : memCorrected false hall addr s = s := by
  simp [memCorrected, checkFails, injected_unarmed h]

theorem mpPump_keeps (port : Nat) (s : State) :
    (mpPump port s).itu = s.itu ∧ (mpPump port s).hr = s.hr ∧ (mpPump port s).fcu = s.fcu := by
  have frame : Frame 35184372088840 s (mpPump port s) := mpPump_frame Frame.refl rfl
  exact ⟨frame.itu (by decide), frame.hr (by decide), frame.fcu (by decide)⟩

/-- `s` with a request of a memory port done, and the next one of the port on its way (R48). -/
def mpDone (port : Nat) (r : MpReq) (s : State) : State := mpPump port (s.setMp (s.mp.filter fun x => x.id != r.id))

theorem hallPassed_mpDone (port : Nat) (r : MpReq) (s : State) (hall : Nat) (hgen : BitVec 16) (o : Owner) :
    hallPassed (mpDone port r s) hall hgen o = hallPassed s hall hgen o := by
  obtain ⟨hitu, -, -⟩ := mpPump_keeps port (s.setMp (s.mp.filter fun x => x.id != r.id))
  have hhall : hallOf (mpDone port r s) hall = hallOf s hall := congrArg (fun u : Itu => u.halls.get hall) hitu
  simp only [hallPassed, hhall]

theorem ugen_mpDone (port : Nat) (r : MpReq) (s : State) (unit : Nat) : ugen (mpDone port r s) unit = ugen s unit := by
  obtain ⟨-, hhr, -⟩ := mpPump_keeps port (s.setMp (s.mp.filter fun x => x.id != r.id))
  exact congrArg (fun h : Hr => h.gens.get unit) hhr

theorem armed_mpDone (port : Nat) (r : MpReq) (s : State) : (mpDone port r s).fcu.armed = s.fcu.armed := by
  obtain ⟨-, -, hfcu⟩ := mpPump_keeps port (s.setMp (s.mp.filter fun x => x.id != r.id))
  exact congrArg Fcu.armed hfcu

/-- R48, R28, R430: a response without an error answers its requester, unless the hall's or the unit's generation has passed. -/
theorem mpTake_good {port tag : Nat} {we : Bool} {data : Bytes} {r : MpReq} {u : State}
    (hfind : u.mp.find? (fun r => r.sent && r.port == port && r.tag == tag && r.we == we) = some r) (harmed : u.fcu.armed = false) :
    mpTake port tag we 0#2 data u =
      if hallPassed u r.hall r.hgen r.owner then ([], hallStale r.hall (mpDone port r u))
      else if r.gen = ugen u (ownerUnit u r.owner) then (mpAnswers r false data, mpDone port r u)
      else ([], staleReply (ownerUnit u r.owner) (mpDone port r u)) := by
  have hdone : mpPump port (u.setMp (u.mp.filter fun x => x.id != r.id)) = mpDone port r u := rfl
  have harmed' : (mpDone port r u).fcu.armed = false := (armed_mpDone port r u).trans harmed
  simp [mpTake, hfind, hdone, memCorrected_unarmed harmed', checkFails, injected_unarmed harmed', hallPassed_mpDone, ugen_mpDone]

/-! ### The link ports -/

section Frames

variable {lane : Nat} {vc : BitVec 2} {route : Byte} {b : Bytes} {u : State} (harmed : u.fcu.armed = false)
  (hup : laneUp u lane = true) (hland : isLanding u (Src.linkRx (rxPipe u lane)) = false)
  (hpipe : rxPipeBad u (rxPipe u lane) = false) (hroom : holdRoom u lane vc.toNat = true)
include harmed hup hland hpipe hroom

/-- R50, R162: a frame that finds room and is for another member is relayed. -/
theorem frameReceiveOp_relays (hother : bits (fDst b) 0 14 ≠ selfId u) :
    frameReceiveOp lane vc route b u = ([], relayOp lane route b u) := by
  simp [frameReceiveOp, frameTakeOp, injected_unarmed harmed, hup, hland, hpipe, hroom, hother]

/-- R158: one that is for this member goes to its context. -/
theorem frameReceiveOp_here (hself : bits (fDst b) 0 14 = selfId u) (hstall : faultStall (Src.linkRx (rxPipe u lane)) u = false) :
    frameReceiveOp lane vc route b u = frameHere lane vc b u := by
  simp [frameReceiveOp, frameTakeOp, injected_unarmed harmed, hup, hland, hpipe, hroom, hself, hstall]

end Frames

/-- R160, R276: a SIGNAL at the floor with nothing dirty behind it is delivered. -/
theorem frameReleaseOp_signal {ctx : Nat} {h : HeldFrame} {s : State} (hlive : (rxOf s ctx).live = true)
    (hwaits : (rxOf s ctx).waiting = false)
    (hfind : (rxOf s ctx).held.find? (fun h => isOrdered h && h.seq == rxFloor (rxOf s ctx)) = some h) (htype : h.type = tSignal)
    (htaken : h.taken = false) (hclean : combDirty s (some (rxOf s ctx).hall) = []) :
    frameReleaseOp ctx s
      = ([], signalDeliver ctx h (signalStatus (rxOf s ctx) h.seq (BitVec.ofNat 16 (num h.payload 6 2))) s) := by
  have hopen : h.type ≠ tClose := by rw [htype]; decide
  simp [frameReleaseOp, hlive, hwaits, hfind, hopen, htaken, hclean]

/-! ### The levels of the lanes (R52, R168) -/

/-- `s` with the fall of a lane seen and reported. -/
def laneDropped (lane : Nat) (s : State) : State :=
  (s.updPins fun p => { p with laneUp := p.laneUp &&& ~~~(BitVec.ofNat 64 (2 ^ lane)) }).emit (.laneDown lane)

theorem Frame.unlessRaised {w : Nat} {s t : State} {c : Prop} [Decidable c] {src kind hall addr detail : Nat} (h : Frame w s t)
    (hw : 73014444032 ||| w = w) : Frame w s (if c then t else raiseFault src kind hall addr detail t) :=
  Frame.ite h (raiseFault_frame h hw)

/-- What follows the fall leaves the lanes' levels alone: neither a failover nor a loss nor a delivery changes a pin but cp_preempt.
The mask joins those of the operations cited. -/
theorem settled_laneFallOp_frame {lane : Nat} {s : State} (hlane : lane < s.conf.lanes) (hup : s.pins.laneUp.toNat.testBit lane = true) :
    Frame 56441417951354 (laneDropped lane s) (settled (laneFallOp lane s)) := by
  have hfalls : ¬ (s.conf.lanes ≤ lane ∨ (!s.pins.laneUp.toNat.testBit lane) = true) := by simp [hlane, hup]
  refine settled_frame ?_ rfl
  simp only [laneFallOp, if_neg hfalls]
  exact Frame.unlessRaised (Frame.unlessRaised (eachAns_frame (fun _ _ => rxLaneLost_frame Frame.refl rfl)
    (eachAns_frame (fun _ _ => moveResync_frame Frame.refl rfl) (txLaneFall_frame Frame.refl rfl) rfl) rfl) rfl) rfl

/-! ### The rows -/

theorem exec_cpCompletion {w : DWord} {s : State} (hen : s.pins.cpEn = true) (hserves : portServes s = true) :
    exec (.cpCompletion w) s = .next (cpCompletionOp w (portInput s)) := by
  change goOn (if (s.pins.cpEn && portServes s) = true then _ else _) = _
  rw [hen, hserves, Bool.and_self, if_pos rfl]

theorem exec_cpReqReceive {r : CpReq} {s : State} (hen : s.pins.cpEn = true) (hserves : portServes s = true) :
    exec (.cpReqReceive r) s = .next (settled (cpReqOp r (portInput s))) := by
  change goOn (if (s.pins.cpEn && portServes s) = true then _ else _) = _
  rw [hen, hserves, Bool.and_self, if_pos rfl]

theorem exec_mpResponse {port tag : Nat} {we : Bool} {err : BitVec 2} {data : Bytes} {s : State} (hen : s.pins.mpEn.getLsbD port = true) :
    exec (.mpResponse port tag we err data) s = .next (settled (mpTake port tag we err data (portInput s))) := by
  change goOn (if s.pins.mpEn.getLsbD port = true then _ else _) = _
  rw [if_pos hen]
  rfl

theorem exec_linkFrameReceive {lane : Nat} {vc : BitVec 2} {route : Byte} {first : Bool} {b : Bytes} {s : State}
    (hserves : portServes s = true) (hup : laneUp s lane = true) :
    exec (.linkFrameReceive lane vc route ⟨first, b⟩) s = .next (
      if first then settled (frameReceiveOp lane vc route b (portInput s))
      else (portInput s).updPins fun p => { p with framing := p.framing.bump (1 + groupOf lane) 1 }) := by
  change goOn (linkReceive lane vc route first b s) = _
  cases first <;> simp [linkReceive, hserves, hup]

theorem exec_linkFrameReceive_down {lane : Nat} {vc : BitVec 2} {route : Byte} {first : Bool} {b : Bytes} {s : State}
    (hdown : laneUp s lane = false) : exec (.linkFrameReceive lane vc route ⟨first, b⟩) s = .next s := by
  change goOn (linkReceive lane vc route first b s) = _
  simp [linkReceive, hdown]

theorem exec_frameRelease (ctx : Nat) (s : State) : exec (.frameRelease ctx) s = .next (settled (frameReleaseOp ctx s)) := rfl

theorem exec_laneUpFall (lane : Nat) (s : State) : exec (.laneUpFall lane) s = .next (settled (laneFallOp lane s)) := rfl

theorem exec_laneUpRise {lane : Nat} {s : State} (hlane : lane < s.conf.lanes) :
    exec (.laneUpRise lane) s = .next { s with pins := { s.pins with laneUp := s.pins.laneUp ||| BitVec.ofNat 64 (2 ^ lane) } } := by
  change goOn (if s.conf.lanes ≤ lane then _ else _) = _
  rw [if_neg (Nat.not_le.mpr hlane)]
  rfl

/-- Settles O3: each row by the lemma of its operation, on the state that the input itself leaves. -/
theorem computeMemoryAndLinkPorts : Obligations.ComputeMemoryAndLinkPorts := by
  unfold Obligations.ComputeMemoryAndLinkPorts
  refine ⟨?completion, ?request, ?safe, ?memory, ?relay, ?here, ?framing, ?down, ?signal, ?falls, ?rises⟩
  case completion =>
    rintro w i l s u rfl hen hserves hsafe hzero hin hgen hack htake hmine
    rw [exec_cpCompletion hen hserves, cpCompletionOp_ends hsafe hzero hin hgen hack htake hmine]
  case request =>
    rintro r s u v t x rfl hserves hen hsafe hok hland htrans hown hform
    obtain ⟨-, -, hcp⟩ := portInput_enables s
    rw [exec_cpReqReceive hen hserves, cpReqOp_served (hcp.trans hen) hsafe hok hland htrans hown hform]
  case safe =>
    rintro r s u rfl hserves hen hsafe
    obtain ⟨-, -, hcp⟩ := portInput_enables s
    rw [exec_cpReqReceive hen hserves, cpReqOp_safe (hcp.trans hen) hsafe]
  case memory =>
    rintro port tag we data r s u rfl hen hfind harmed
    rw [exec_mpResponse hen, mpTake_good hfind harmed]
    rfl
  case relay =>
    rintro lane vc route b s u rfl hserves harmed hup hland hpipe hroom hother
    rw [exec_linkFrameReceive hserves hup, if_pos rfl,
      frameReceiveOp_relays harmed ((laneUp_portInput s lane).trans hup) hland hpipe hroom hother]
  case here =>
    rintro lane vc route b s u rfl hserves harmed hup hland hpipe hroom hself hstall
    rw [exec_linkFrameReceive hserves hup, if_pos rfl,
      frameReceiveOp_here harmed ((laneUp_portInput s lane).trans hup) hland hpipe hroom hself hstall]
  case framing =>
    exact fun lane vc route b s hserves hup => ⟨_, exec_linkFrameReceive hserves hup, rfl⟩
  case down => exact fun lane vc route first b s hdown => exec_linkFrameReceive_down hdown
  case signal =>
    intro ctx h s hlive hwaits hfind htype htaken hclean
    rw [exec_frameRelease, frameReleaseOp_signal hlive hwaits hfind htype htaken hclean]
  case falls =>
    intro lane s hlane hup
    have frame := settled_laneFallOp_frame hlane hup
    have hrest : (settled (laneFallOp lane s)).pins.rest = (laneDropped lane s).pins.rest := frame.pinsRest (by decide)
    obtain ⟨hout, -, -⟩ := frame.grows
    exact ⟨_, exec_laneUpFall lane s, congrArg Pins.laneUp hrest, hout⟩
  case rises => exact fun lane s hlane => ⟨_, exec_laneUpRise hlane, rfl⟩

end Sys2Proof.Machine
end

section
/-! The movers: what their operations on the queues, the tokens and the commands do. -/

namespace Sys2Proof.Machine

-- One declaration at a time, so that the elaborator holds few threads (each takes stack of its own).
set_option Elab.async false

/-! ### The record of a mover -/

/-- A changed mover reads back where the change leaves something in it. -/
theorem moverOf_updMover {m : Nat} {f : Mover → Mover} {s : State} (h : f (moverOf s m) ≠ default) :
    moverOf (updMover m f s) m = f (moverOf s m) := Tab.get_mod_of_ne h

/-- The end of a work item touches no mover (R301). -/
theorem workEnd_mv (id : Nat) (st : Status) (s : State) : (workEnd id st s).mv = s.mv :=
  (workEnd_frame (w₀ := 87140859904) Frame.refl rfl).mv (by decide)

/-! ### The commands (R262) -/

/-- A command of mover `m` has ended: its register fields. -/
def mvEnded (op m : Nat) (st : Status) (s : State) : State :=
  s.updMv fun v => { v with go := false, mover := BitVec.ofNat 4 m, op := BitVec.ofNat 4 op, result := st }

@[simp] theorem moverOf_mvEnded (op m : Nat) (st : Status) (s : State) (k : Nat) : moverOf (mvEnded op m st s) k = moverOf s k := rfl

theorem mvCommand_submit (m : Nat) (s : State) :
    mvCommand 1 m s = if s.conf.movers ≤ m then mvEnded 1 m Status.permission s
      else if isLanding s (Src.mover m) = true then mvEnded 1 m Status.retryLater s
      else if moverRoom s m 1 = false then mvEnded 1 m Status.refusedCapacity s
      else mvEnded 1 m Status.ok (moverPut m 1 (mvDesc s.mv) none s) := by
  simp only [mvCommand, Bool.not_eq_true']
  rfl

/-- MV_QINFO and MV_QPROG loaded. -/
def mvShown (info : Word) (prog : DWord) (s : State) : State := s.updMv fun v => { v with qinfo := info, qprog := prog }

theorem mvCommand_query {m : Nat} {s : State} (h : m < s.conf.movers) :
    mvCommand 2 m s = mvEnded 2 m Status.ok (mvShown (BitVec.ofNat 32 (mvInfo s m)) (BitVec.ofNat 64 (mvProgress s m)) s) := by
  simp only [mvCommand, State.updMv_conf, Nat.not_le.mpr h, if_false]
  rfl

/-- A query changes the registers of its command and its result only. -/
theorem mvEnded_mvShown_mv (op m : Nat) (st : Status) (info : Word) (prog : DWord) (s : State) :
    (mvEnded op m st (mvShown info prog s)).mv.result = st ∧ (mvEnded op m st (mvShown info prog s)).mv.movers = s.mv.movers
      ∧ (mvEnded op m st (mvShown info prog s)).mv.qinfo = info ∧ (mvEnded op m st (mvShown info prog s)).mv.qprog = prog :=
  ⟨rfl, rfl, rfl, rfl⟩

theorem moverRoom_reserved {m : Nat} {s : State} : moverRoom s m 1 = decide ((moverOf s m).reserved.length < 16) := rfl

/-- A descriptor that joins the reserved queue stands at its end and takes the next tag. -/
theorem moverOf_moverPut_reserved {m : Nat} {d : Bytes} {work : Option Nat} {s : State} :
    moverOf (moverPut m 1 d work s) m = { moverOf s m with
      reserved := (moverOf s m).reserved
        ++ [{ (default : MDesc) with desc := d, work := work, firstAt := s.now, tag := (moverOf s m).nextTag }]
      nextTag := (moverOf s m).nextTag + 1 } := by
  refine moverOf_updMover fun h => ?_
  exact List.append_ne_nil_of_right_ne_nil _ (List.cons_ne_nil _ _) (congrArg Mover.reserved h)

/-! ### Segments (R242) -/

theorem dropStale_fresh {m : Nat} {s : State} (h : moverFresh m s = true) : dropStale m s = s := by
  have hnone : (((moverOf s m).radio ++ (moverOf s m).reserved ++ (moverOf s m).spot).filter
      fun d => !mdDone d && mdStale s d.desc) = [] := by
    refine List.filter_eq_nil_iff.mpr fun d hd => ?_
    have hfresh := List.all_eq_true.mp h d hd
    cases hdone : mdDone d <;> simp_all
  simp only [dropStale, hnone, List.isEmpty_nil, if_true]

theorem applyTokens_segment {m : Nat} {s : State} (h : (moverOf s m).seg.isSome = true) : applyTokens m s = s := by
  simp [applyTokens, h]

theorem applyTokens_none {m : Nat} {s : State} (h : (moverOf s m).tokens = []) : applyTokens m s = s := by
  simp [applyTokens, h, forAll]

/-- An open segment goes on. -/
theorem moverSegmentOp_open {m : Nat} {s : State} (hsafe : s.fcu.safe = false) (hfresh : moverFresh m s = true)
    (hseg : (moverOf s m).seg.isSome = true) : moverSegmentOp m s = segStep m s := by
  simp [moverSegmentOp, hsafe, dropStale_fresh hfresh, applyTokens_segment hseg, hseg]

section Boundary

variable {m : Nat} {s : State} (hsafe : s.fcu.safe = false) (hfresh : moverFresh m s = true) (hm : m < s.conf.movers)
  (hstall : faultStall (Src.mover m) s = false) (htokens : (moverOf s m).tokens = []) (hseg : (moverOf s m).seg = none)
include hsafe hfresh hm hstall htokens hseg

theorem moverSegmentOp_idle (hnext : nextClass (moverOf s m) = none) :
    moverSegmentOp m s = ([], updMover m (fun x => { x with running := 0 }) s) := by
  simp [moverSegmentOp, hsafe, dropStale_fresh hfresh, applyTokens_none htokens, hseg, hm, hstall, hnext]

/-- At a boundary the first open descriptor of the highest class takes the mover; it moves bytes when its checks hold (R241). -/
theorem moverSegmentOp_begins {c : Nat} {d : MDesc} (hland : isLanding s (Src.mover m) = false)
    (hnext : nextClass (moverOf s m) = some c) (hd : (classQueue (moverOf s m) c).find? (fun d => !mdDone d) = some d)
    (hlost : lostMover (moverOf s m) c = none) {u : State}
    (hu : u = updMover m (fun y => { y with seg := some (segBegin d c), running := c + 1 }) (markWaits m c s)) :
    moverSegmentOp m s = if (d.started || moverCheck d.desc d.work.isNone u) = true
      then segStep m (updRunning m (fun d => { d with started := true }) (u.mvCount (8 * m + 3) 1))
      else ([], applyTokens m (updMover m (fun y => { y with seg := none })
        (updRunning m (fun d => { d with started := true, stopped := true, status := Status.permission }) u))) := by
  subst hu
  simp only [moverSegmentOp, hsafe, dropStale_fresh hfresh, applyTokens_none htokens, hseg, hstall, hnext, hd, hland, hlost,
    Nat.not_le.mpr hm]
  cases d.started with
  | true => simp
  | false =>
    cases moverCheck d.desc d.work.isNone
      (updMover m (fun y => { y with seg := some (segBegin d c), running := c + 1 }) (markWaits m c s)) <;> simp

end Boundary

/-! ### Completion and aborts (R252, R253) -/

section Completion

variable {m : Nat} {d : MDesc} {rest : List MDesc} {s : State} (hsafe : s.fcu.safe = false)
  (hqueue : (moverOf s m).radio = d :: rest) (hdone : mdDone d = true)
include hsafe hqueue hdone

theorem descriptorComplete_keeper (hwork : d.work = none) :
    descriptorComplete m s = (((updMover m (fun x => { x with radio := rest }) s).mvCount (8 * m) 1).updMv
      fun v => { v with result := d.status }).mvEvent 3 := by
  simp [descriptorComplete, hsafe, firstFrom, classQueue, setClassQueue, hqueue, hdone, hwork]

theorem descriptorComplete_work {w : Nat} (hwork : d.work = some w) :
    descriptorComplete m s = workEnd w d.status ((updMover m (fun x => { x with radio := rest }) s).mvCount (8 * m) 1) := by
  simp [descriptorComplete, hsafe, firstFrom, classQueue, setClassQueue, hqueue, hdone, hwork]

end Completion

/-- A mover with an abort token noted, once (R253). -/
def withToken (t : Nat × BitVec 16) (x : Mover) : Mover := if x.tokens.contains t then x else { x with tokens := x.tokens ++ [t] }

theorem withToken_new {t : Nat × BitVec 16} {x : Mover} (h : x.tokens.contains t = false) :
    withToken t x = { x with tokens := x.tokens ++ [t] } := by
  rw [withToken, h]
  rfl

theorem abortTokenOp_eq (m q : Nat) (qgen : BitVec 16) (s : State) :
    abortTokenOp m q qgen s = applyTokens m (updMover m (withToken (q, qgen)) s) := rfl

/-- A token that comes while a segment is open waits for its boundary. -/
theorem abortTokenOp_waits {m q : Nat} {qgen : BitVec 16} {s : State} (hseg : (moverOf s m).seg.isSome = true)
    (hnew : (moverOf s m).tokens.contains (q, qgen) = false) :
    moverOf (abortTokenOp m q qgen s) m = { moverOf s m with tokens := (moverOf s m).tokens ++ [(q, qgen)] } := by
  have hnoted : withToken (q, qgen) (moverOf s m) ≠ default := fun h => by
    rw [withToken_new hnew] at h
    exact List.append_ne_nil_of_right_ne_nil _ (List.cons_ne_nil _ _) (congrArg Mover.tokens h)
  have hput := (moverOf_updMover hnoted).trans (withToken_new hnew)
  rw [abortTokenOp_eq, applyTokens_segment, hput]
  rw [hput]
  exact hseg

/-! ### The rows -/

theorem exec_mvSubmit (mover : BitVec 4) (s : State) : exec (.mvSubmit mover) s = .next (mvCommand 1 mover.toNat s) := rfl

theorem exec_mvQuery (mover : BitVec 4) (s : State) : exec (.mvQuery mover) s = .next (mvCommand 2 mover.toNat s) := rfl

theorem exec_moverSegment (m : Nat) (s : State) : exec (.moverSegment m) s = .next (settled (moverSegmentOp m s)) := rfl

theorem exec_moverDescriptorComplete (m : Nat) (s : State) :
    exec (.moverDescriptorComplete m) s = .next (descriptorComplete m s) := rfl

theorem exec_moverAbortToken (m q : Nat) (qgen : BitVec 16) (s : State) :
    exec (.moverAbortToken m q qgen) s = .next (abortTokenOp m q qgen s) := rfl

/-- Settles O16: the commands, the boundary of a segment, completion and the abort token, each by its own lemma. -/
theorem moverCommands : Obligations.MoverCommands := by
  unfold Obligations.MoverCommands
  refine ⟨?submit, ?refused, ?query, ?goesOn, ?idle, ?begins, ?fails, ?completes, ?worked, ?token⟩
  case submit =>
    intro mover s hm hland hroom
    have hop : mvCommand 1 mover.toNat s = mvEnded 1 mover.toNat Status.ok (moverPut mover.toNat 1 (mvDesc s.mv) none s) := by
      simp [mvCommand_submit, Nat.not_le.mpr hm, hland, moverRoom_reserved, hroom]
    refine ⟨_, (exec_mvSubmit mover s).trans (congrArg _ hop), rfl, rfl, rfl, ?_⟩
    rw [moverOf_mvEnded, moverOf_moverPut_reserved]
    exact ⟨rfl, rfl, rfl⟩
  case refused =>
    refine fun mover s => ⟨_, exec_mvSubmit mover s, fun hm => ?_, fun hm hland => ?_, fun hm hland hfull => ?_⟩
    · rw [mvCommand_submit, if_pos hm]
      exact ⟨rfl, rfl⟩
    · rw [mvCommand_submit, if_neg (Nat.not_le.mpr hm), if_pos hland]
      exact ⟨rfl, rfl⟩
    · have hroom : moverRoom s mover.toNat 1 = false := decide_eq_false (Nat.not_lt.mpr hfull)
      rw [mvCommand_submit, if_neg (Nat.not_le.mpr hm), if_neg (by simp [hland]), if_pos hroom]
      exact ⟨rfl, rfl⟩
  case query =>
    intro mover s hm
    refine ⟨_, exec_mvQuery mover s, ?_⟩
    rw [mvCommand_query hm]
    exact mvEnded_mvShown_mv ..
  case goesOn =>
    intro m s hsafe hfresh hseg
    rw [exec_moverSegment, moverSegmentOp_open hsafe hfresh hseg]
  case idle =>
    intro m s hsafe hfresh hm hstall htokens hseg hnext
    rw [exec_moverSegment, moverSegmentOp_idle hsafe hfresh hm hstall htokens hseg hnext]
  case begins =>
    intro m c d s u hsafe hfresh hm hstall hland htokens hseg hnext hd hlost hu hcheck
    rw [exec_moverSegment, moverSegmentOp_begins hsafe hfresh hm hstall htokens hseg hland hnext hd hlost hu, if_pos hcheck]
  case fails =>
    intro m c d s u hsafe hfresh hm hstall hland htokens hseg hnext hd hlost hu hstarted hcheck
    rw [exec_moverSegment, moverSegmentOp_begins hsafe hfresh hm hstall htokens hseg hland hnext hd hlost hu,
      if_neg (by simp [hstarted, hcheck])]
  case completes =>
    intro m d rest s hsafe hqueue hdone
    refine ⟨_, exec_moverDescriptorComplete m s, ?_⟩
    cases hwork : d.work with
    | none =>
      rw [descriptorComplete_keeper hsafe hqueue hdone hwork]
      exact ⟨rfl, fun _ => ⟨rfl, rfl⟩⟩
    | some w =>
      rw [descriptorComplete_work hsafe hqueue hdone hwork, workEnd_mv]
      exact ⟨rfl, fun hnone => nomatch hnone⟩
  case worked =>
    intro m w d rest s hsafe hqueue hdone hwork
    rw [exec_moverDescriptorComplete, descriptorComplete_work hsafe hqueue hdone hwork]
  case token =>
    intro m q qgen s hseg hnew
    refine ⟨_, exec_moverAbortToken m q qgen s, ?_⟩
    rw [abortTokenOp_waits hseg hnew]
    exact ⟨rfl, rfl, rfl, rfl⟩

end Sys2Proof.Machine
end

section
/-! The reduction units: what their commands, their slices and their completion do. -/

namespace Sys2Proof.Machine

-- One declaration at a time, so that the elaborator holds few threads (each takes stack of its own).
set_option Elab.async false

/-! ### The record of a slot -/

/-- A changed slot reads back where the change leaves something in it. -/
theorem redOf_updRed {u k : Nat} {f : RedSlot → RedSlot} {s : State} (h : f (redOf s u k) ≠ default) :
    redOf (updRed u k f s) u k = f (redOf s u k) := Tab.get_mod_of_ne h

/-- The end of a work item, and the acknowledgement of an abort, touch no slot (R301). -/
theorem workEnd_rd (id : Nat) (st : Status) (s : State) : (workEnd id st s).rd = s.rd :=
  (workEnd_frame (w₀ := 87140859904) Frame.refl rfl).rd (by decide)

theorem abortAck_rd (q e : Nat) (s : State) : (abortAck q e s).rd = s.rd := rfl

@[simp] theorem redOf_rdCount (n c u k : Nat) (s : State) : redOf (s.rdCount n c) u k = redOf s u k := rfl

/-- A slot that an abort has ended with a status (R261). -/
def slotAborted (st : Status) (x : RedSlot) : RedSlot :=
  { x with ending := st, state := 3, inbuf := [], outbuf := [], sends := 0, emitted := true }

theorem slotAborted_ne_default (st : Status) (x : RedSlot) : slotAborted st x ≠ default :=
  fun h => absurd (congrArg RedSlot.state h) (by decide : (3 : Nat) ≠ 0)

/-- An abort ends a slot that is in use and has not ended, whatever it withdraws on its way. -/
theorem redAbort_live {u k : Nat} {st : Status} {s : State} (huse : (redOf s u k).state ≠ 0)
    (hlive : (redOf s u k).ending = Status.ok) :
    ∃ v, redAbort u k st s = (updRed u k (slotAborted st) v).rdCount (8 * u + 4) 1 := by
  unfold redAbort
  rw [if_neg (by simp [huse, hlive])]
  exact ⟨_, rfl⟩

/-- It then holds no more output. -/
theorem redOf_redAbort {u k : Nat} {st : Status} {s : State} (huse : (redOf s u k).state ≠ 0)
    (hlive : (redOf s u k).ending = Status.ok) :
    (redOf (redAbort u k st s) u k).state = 3 ∧ (redOf (redAbort u k st s) u k).ending = st
      ∧ (redOf (redAbort u k st s) u k).outbuf = [] := by
  obtain ⟨v, hv⟩ := redAbort_live (st := st) huse hlive
  rw [hv, redOf_rdCount, redOf_updRed (slotAborted_ne_default st _)]
  exact ⟨rfl, rfl, rfl⟩

/-! ### The commands (R263) -/

/-- A command of slot `k` of unit `u` has ended: its register fields. -/
def rdEnded (op u k : Nat) (st : Status) (s : State) : State :=
  s.updRd fun r => { r with go := false, unit := BitVec.ofNat 3 u, slot := BitVec.ofNat 2 k, op := BitVec.ofNat 4 op, result := st }

/-- RD_QINFO and RD_QCOLL loaded. -/
def rdShown (info coll : Word) (s : State) : State := s.updRd fun r => { r with qinfo := info, qcoll := coll }

/-- RD_UNIT and RD_SLOT as a command leaves them. -/
def rdNamed (u k : Nat) (s : State) : State := s.updRd fun r => { r with unit := BitVec.ofNat 3 u, slot := BitVec.ofNat 2 k }

theorem rdCommand_query {u k : Nat} {s : State} (h : u < s.conf.redUnits) :
    rdCommand 1 u k s = rdEnded 1 u k Status.ok
      (rdShown (BitVec.ofNat 32 (rdInfo (redOf s u k))) (BitVec.ofNat 32 (rdCollInfo (redOf s u k))) s) := by
  have hunits : s.conf.redUnits ≠ 0 := by omega
  simp only [rdCommand, hunits, if_false, State.updRd_conf, h, decide_true, Bool.not_true, Bool.false_eq_true]
  rfl

theorem rdEnded_rdShown_rd (op u k : Nat) (st : Status) (info coll : Word) (s : State) :
    (rdEnded op u k st (rdShown info coll s)).rd.result = st ∧ (rdEnded op u k st (rdShown info coll s)).rd.slots = s.rd.slots
      ∧ (rdEnded op u k st (rdShown info coll s)).rd.qinfo = info ∧ (rdEnded op u k st (rdShown info coll s)).rd.qcoll = coll :=
  ⟨rfl, rfl, rfl, rfl⟩

theorem rdCommand_abort {u k : Nat} {s : State} (h : u < s.conf.redUnits) (huse : (redOf s u k).state ≠ 0) :
    rdCommand 2 u k s = (redAbort u k Status.resetAborted (rdNamed u k s)).updRd
      fun r => { r with go := false, op := BitVec.ofNat 4 2, result := Status.ok } := by
  have hunits : s.conf.redUnits ≠ 0 := by omega
  have huse' : ((redOf (rdNamed u k s) u k).state == 0) = false := beq_eq_false_iff_ne.mpr huse
  change (if s.conf.redUnits = 0 then s else
    if (!decide (u < s.conf.redUnits) || (redOf (rdNamed u k s) u k).state == 0) = true then _ else _) = _
  rw [huse', if_neg hunits, if_neg (by simp [h])]
  rfl

theorem rdCommand_abort_refused {u k : Nat} {s : State} (hunits : 0 < s.conf.redUnits)
    (h : s.conf.redUnits ≤ u ∨ (redOf s u k).state = 0) : rdCommand 2 u k s = rdEnded 2 u k Status.permission s := by
  have hbad : (!decide (u < s.conf.redUnits) || (redOf (rdNamed u k s) u k).state == 0) = true := by
    rcases h with h | h
    · simp [Nat.not_lt.mpr h]
    · have : ((redOf (rdNamed u k s) u k).state == 0) = true := beq_iff_eq.mpr h
      simp [this]
  change (if s.conf.redUnits = 0 then s else
    if (!decide (u < s.conf.redUnits) || (redOf (rdNamed u k s) u k).state == 0) = true then _ else _) = _
  rw [if_neg (by omega), if_pos hbad]
  rfl

/-! ### Slices (R256 to R258) -/

/-- Nothing of the slice is ready. -/
theorem redSliceOp_waits {u k : Nat} {lines : List MemLine} {s : State} (h : redReady (redOf s u k) = 0) :
    redSliceOp u k lines s = ([], s) := by
  simp [redSliceOp, h]

/-- What a slot that runs is not. -/
theorem redRuns_not_held {u k : Nat} {s : State} (h : redRuns u k s = true) :
    ¬ ((redOf s u k).state = 0 ∨ (redOf s u k).state = 3 ∨ (redOf s u k).ending ≠ Status.ok ∨ redReady (redOf s u k) = 0
      ∨ (isLanding s (Src.red u) = true ∧ (!redBegun (redOf s u k)) = true) ∨ faultStall (Src.red u) s = true
      ∨ s.fcu.safe = true) := by
  simp only [redRuns, Bool.and_eq_true, bne_iff_ne, beq_iff_eq, Bool.not_eq_true'] at h
  obtain ⟨⟨⟨⟨⟨⟨hfree, hended⟩, hending⟩, hready⟩, hland⟩, hstall⟩, hsafe⟩ := h
  simp [hfree, hended, hending, hready, hland, hstall, hsafe]

theorem redSliceOp_lost {u k : Nat} {lines : List MemLine} {s : State} (h : redRuns u k s = true)
    (hlost : (memberLost s (rdNext (redOf s u k).desc) || memberLost s (rdPrev (redOf s u k).desc)) = true) :
    redSliceOp u k lines s = ([], redAbort u k Status.peerLost s) := by
  simp only [redSliceOp]
  rw [if_neg (redRuns_not_held h), if_pos hlost]

section Running

variable {u k : Nat} {lines : List MemLine} {s v : State} (h : redRuns u k s = true)
  (hnext : memberLost s (rdNext (redOf s u k).desc) = false) (hprev : memberLost s (rdPrev (redOf s u k).desc) = false)
include h hnext hprev

/-- A local line that cannot be translated ends the slot, or drops the slice of a hall that is gone (R28, R261). -/
theorem redSliceOp_untranslated {e : Status} (htrans : localTrans (redOf s u k).desc (redLocalNeed (redOf s u k)) s = (e, v))
    (he : e ≠ Status.ok) :
    redSliceOp u k lines s = if e = Status.hallGone then ([], v) else ([], redAbort u k e v) := by
  simp only [redSliceOp]
  rw [if_neg (redRuns_not_held h), if_neg (by simp [hnext, hprev]), htrans]
  simp only [he, ne_eq, not_false_eq_true, if_true]

/-- A slice whose local operand is there, or that reads none, combines what is ready. -/
theorem redSliceOp_combines (hneed : redLocalNeed (redOf s u k) = []) (harmed : s.fcu.armed = false) :
    redSliceOp u k lines s = redPiece u k (redReady (redOf s u k)) s := by
  have htrans : localTrans (redOf s u k).desc [] s = (Status.ok, s) := rfl
  simp only [redSliceOp]
  rw [if_neg (redRuns_not_held h), if_neg (by simp [hnext, hprev]), hneed, htrans]
  simp [injected_unarmed harmed, show Status.ok ≠ Status.hallGone by decide]

/-- Local lines that came without an error enter staging first. -/
theorem redSliceOp_fetches (htrans : localTrans (redOf s u k).desc (redLocalNeed (redOf s u k)) s = (Status.ok, v))
    (harmed : v.fcu.armed = false) (hneed : redLocalNeed (redOf s u k) ≠ []) (hlines : lines ≠ [])
    (hgood : ∀ l ∈ lines, l.err = 0#2) :
    redSliceOp u k lines s = redPiece u k (redReady (redOf s u k)) (updRed u k (fun y => { y with
        fetched := true, localBuf := localWire (redOf s u k).desc (redOf s u k).stage (redOf s u k).slice lines })
      (memCorrected false (mdHall (redOf s u k).desc) (rdLocal (redOf s u k).desc) v)) := by
  have hused : lines.take (redLocalNeed (redOf s u k)).length ≠ [] := by simp [hneed, hlines]
  have herr : ∀ l ∈ lines.take (redLocalNeed (redOf s u k)).length, l.err = 0#2 := fun l hl => hgood l (List.mem_of_mem_take hl)
  have hbad : ((lines.take (redLocalNeed (redOf s u k)).length).any fun l => decide (2 ≤ l.err.toNat)) = false :=
    List.any_eq_false.mpr fun l hl => by simp [herr l hl]
  have hcorr : ((lines.take (redLocalNeed (redOf s u k)).length).any fun l => l.err == 1#2) = false :=
    List.any_eq_false.mpr fun l hl => by simp [herr l hl]
  simp only [redSliceOp]
  rw [if_neg (redRuns_not_held h), if_neg (by simp [hnext, hprev]), htrans]
  simp only [hbad, hcorr]
  simp [checkFails, injected_unarmed harmed, hneed, hlines, show Status.ok ≠ Status.hallGone by decide]

end Running

/-! ### Completion (R261) -/

/-- A slot that has not ended, or has something outstanding, stays. -/
theorem redCompleteOp_waits {u k : Nat} {s : State}
    (h : (redOf s u k).state ≠ 3 ∨ 0 < (redOf s u k).stores ∨ 0 < (redOf s u k).sends) : redCompleteOp u k s = s := by
  have hheld : (redOf s u k).state ≠ 3 ∨ 0 < (redOf s u k).stores ∨ 0 < (redOf s u k).sends ∨ s.fcu.safe = true := by tauto
  simp only [redCompleteOp, if_pos hheld]

/-- The record of a freed slot, its completion counted where it ended well. -/
def slotFreed (u k : Nat) (s : State) : State :=
  if (redOf s u k).ending = Status.ok then (updRed u k (fun _ => default) s).rdCount (8 * u + 1) 1 else updRed u k (fun _ => default) s

theorem slotFreed_rd (u k : Nat) (s : State) :
    (slotFreed u k s).rd.slots = s.rd.slots.set (4 * u + k) default ∧ (slotFreed u k s).rd.result = s.rd.result := by
  unfold slotFreed
  split <;> exact ⟨rfl, rfl⟩

/-- A slot that has drained is freed; the end of its work item and the acknowledgement leave the units alone. -/
theorem redCompleteOp_rd {u k : Nat} {s : State} (hsafe : s.fcu.safe = false) (hended : (redOf s u k).state = 3)
    (hstores : (redOf s u k).stores = 0) (hsends : (redOf s u k).sends = 0) : (redCompleteOp u k s).rd = (slotFreed u k s).rd := by
  simp only [redCompleteOp]
  rw [if_neg (by simp [hsafe, hended, hstores, hsends])]
  cases (redOf s u k).work with
  | none => rfl
  | some w =>
    simp only [apply_ite State.rd, abortAck_rd, ite_self]
    exact workEnd_rd w _ _

/-! ### The rows -/

theorem exec_rdQuery (u : BitVec 3) (slot : BitVec 2) (s : State) :
    exec (.rdQuery u slot) s = .next (rdCommand 1 u.toNat slot.toNat s) := rfl

theorem exec_rdAbort (u : BitVec 3) (slot : BitVec 2) (s : State) :
    exec (.rdAbort u slot) s = .next (rdCommand 2 u.toNat slot.toNat s) := rfl

theorem exec_reductionSlice (u k : Nat) (lines : List MemLine) (s : State) :
    exec (.reductionSlice u k lines) s = .next (settled (redSliceOp u k lines s)) := rfl

theorem exec_reductionSlotComplete (u k : Nat) (s : State) : exec (.reductionSlotComplete u k) s = .next (redCompleteOp u k s) := rfl

/-- Settles O17: the commands, each outcome of a slice, and completion, each by its own lemma. -/
theorem reductionCommands : Obligations.ReductionCommands := by
  unfold Obligations.ReductionCommands
  refine ⟨?query, ?abort, ?refused, ?waits, ?lost, ?untranslated, ?gone, ?combines, ?fetches, ?frees, ?stays⟩
  case query =>
    intro u slot s hu
    refine ⟨_, exec_rdQuery u slot s, ?_⟩
    rw [rdCommand_query hu]
    exact rdEnded_rdShown_rd ..
  case abort =>
    intro u slot s hu huse hlive
    refine ⟨_, exec_rdAbort u slot s, ?_⟩
    rw [rdCommand_abort hu huse]
    exact ⟨rfl, redOf_redAbort (s := rdNamed u.toNat slot.toNat s) huse hlive⟩
  case refused =>
    intro u slot s hunits hbad
    refine ⟨_, exec_rdAbort u slot s, ?_⟩
    rw [rdCommand_abort_refused hunits hbad]
    exact ⟨rfl, rfl⟩
  case waits =>
    intro u k lines s hready
    rw [exec_reductionSlice, redSliceOp_waits hready]
  case lost =>
    intro u k lines s hruns hlost
    rw [exec_reductionSlice, redSliceOp_lost hruns hlost]
  case untranslated =>
    intro u k lines e s v hruns hnext hprev htrans hok hgone
    rw [exec_reductionSlice, redSliceOp_untranslated hruns hnext hprev htrans hok, if_neg hgone]
  case gone =>
    intro u k lines s v hruns hnext hprev htrans
    rw [exec_reductionSlice, redSliceOp_untranslated hruns hnext hprev htrans (by decide), if_pos rfl]
  case combines =>
    intro u k lines s hruns harmed hnext hprev hneed
    rw [exec_reductionSlice, redSliceOp_combines hruns hnext hprev hneed harmed]
  case fetches =>
    intro u k lines s v hruns harmed hnext hprev htrans hneed hlines hgood
    rw [exec_reductionSlice, redSliceOp_fetches hruns hnext hprev htrans harmed hneed hlines hgood]
  case frees =>
    intro u k s hsafe hended hstores hsends
    refine ⟨_, exec_reductionSlotComplete u k s, ?_⟩
    rw [redCompleteOp_rd hsafe hended hstores hsends]
    exact slotFreed_rd u k s
  case stays =>
    intro u k s _ hheld
    rw [exec_reductionSlotComplete, redCompleteOp_waits hheld]

end Sys2Proof.Machine
end

section
/-! Clocks, time, power states, boot and the flash: what their rows do. -/

namespace Sys2Proof.Machine

-- One declaration at a time, so that the elaborator holds few threads (each takes stack of its own).
set_option Elab.async false

/-- An action that the session may run leaves its result (R335, R504). -/
theorem runAct_may {a : Act} {obj : Nat} {roles : List Role} {work : State → (Status × Bytes) × State} {s : State}
    (h : mayAct s roles a = true) :
    runAct a obj roles work s = actDone a.sess obj (work s).1.1 (work s).1.2 false (work s).2 := by
  simp [runAct, h]

/-! ### Clocks (R31, R462, R463, R397) -/

theorem exec_localTimebaseCorrection (d : ClockDomain) (n : Nat) (s : State) :
    exec (.localTimebaseCorrection d n) s = .next (correctDomain d n s) := rfl

theorem exec_cclkMultWrite (m : BitVec 5) (s : State) : exec (.cclkMultWrite m) s = .next (cclkMultOp m.toNat s) := rfl

theorem cclkMultOp_set {m : BitVec 5} {s : State} (hlow : enablesLow s = true) (hmin : 20 ≤ m.toNat) (hmax : m.toNat ≤ 26) :
    cclkMultOp m.toNat s = { s with pwr := { s.pwr with mult := m, lockBit := false } } := by
  rw [cclkMultOp, if_pos (by simp [hlow, hmin, hmax]), BitVec.ofNat_toNat, BitVec.setWidth_eq]
  rfl

/-- With an enable up, or for a value that CCLK cannot run at, nothing is written (R462). -/
theorem cclkMultOp_barred {v : Nat} {s : State} (h : enablesLow s = false ∨ v < 20 ∨ 26 < v) : cclkMultOp v s = s := by
  have hbars : (enablesLow s && decide (20 ≤ v ∧ v ≤ 26)) = false := by
    rcases h with hup | hsmall | hlarge
    · rw [hup, Bool.false_and]
    · rw [decide_eq_false (by omega), Bool.and_false]
    · rw [decide_eq_false (by omega), Bool.and_false]
  rw [cclkMultOp, hbars]
  rfl

theorem exec_pllRelockDone {s : State} (hpor : s.pins.por = false) (hoff : s.pins.pstate ≠ 3) :
    exec .pllRelockDone s = .next { s with pwr := { s.pwr with lockBit := true } } := by
  have hruns : (s.pins.por || s.pins.pstate == 3#2) = false := by simpa [hpor] using hoff
  change goOn (if (s.pins.por || s.pins.pstate == 3#2) = true then s else _) = _
  rw [hruns]
  rfl

theorem exec_clockLoss (pll : Bool) (c : ClockDomain) (s : State) : exec (.clockLoss pll c) s = .next (clockLossOp pll c s) := rfl

/-- The loss of a PLL, or of a clock that the power state needs, is a fault. -/
theorem clockLossOp_faults {pll : Bool} {c : ClockDomain} {s u : State}
    (hu : u = if pll && c == .cclk then { s with pwr := { s.pwr with lockBit := false } } else s)
    (hneeded : (pll || clockNeeded u c) = true) : clockLossOp pll c s = raiseFault Src.pwr Kind.clkLoss noHall 0 0 u := by
  have hlock : (if pll && c == .cclk then s.updPwr fun p => { p with lockBit := false } else s) = u := hu.symm
  rw [clockLossOp, hlock, if_pos hneeded]

/-! ### The time exchange (R465, R466) -/

theorem exec_timeExchangeStart (s : State) : exec .timeExchangeStart s = .next (timeStartOp s) := rfl

theorem timeStartOp_orphan {s : State} (h : parentValid s = false) : timeStartOp s = s := by
  simp [timeStartOp, h]

theorem timeStartOp_sends {i : Nat} {s : State} (hparent : parentValid s = true) (hjoined : s.dom.joined = true)
    (hlost : memberLost s (parentMember s) = false) (hctx : serviceTo s (parentMember s) (parentStream s) = some i) {u : State}
    (hu : u = s.updPwr (fun p => { p with exch := { p.exch with
      active := true, number := BitVec.ofNat 16 ((s.pwr.exch.number.toNat + 1) % 2 ^ 16)
      t1 := BitVec.ofNat 64 (sendStamp s (txLane (txOf s i))) } })) :
    timeStartOp s = serviceSendOn i (timeMessage 1 ((s.pwr.exch.number.toNat + 1) % 2 ^ 16) 0 0 u) u := by
  subst hu
  simp only [timeStartOp, hparent, hjoined, hlost, hctx, Bool.not_true, Bool.or_self, Bool.false_eq_true, if_false]

theorem exec_timeMessageReceive (i : Nat) (m : Bytes) (s : State) : exec (.timeMessageReceive i m) s = .next (timeReceive i m s) := rfl

section Messages

variable {i : Nat} {m : Bytes} {s : State} (hlength : m.length = 64) (htype : num m 0 2 = 3) (hflags : num m 9 1 = 0)
  (hzero : num m 12 4 = 0) (hrest : allZero (m.drop 32) = true)
include hlength htype hflags hzero hrest

/-- A REQ gets its RSP, with the times of its arrival and of the last RSP sent to its member. -/
theorem timeReceive_answers {t : Nat} (hphase : num m 8 1 = 1) (hctx : serviceTo s (rxMember s i) (rxOf s i).stream.toNat = some t)
    {u : State} (hu : u = s.updDom (fun d => { d with
      timeSent := d.timeSent.set (rxMember s i) (BitVec.ofNat 64 (sendStamp s (txLane (txOf s t)))) })) :
    timeReceive i m s = serviceSendOn t (timeMessage 2 (num m 10 2) (recvStamp s (rxLane (rxOf s i)))
      (s.dom.timeSent.get (rxMember s i)).toNat u) u := by
  subst hu
  simp [timeReceive, hlength, htype, hflags, hzero, hrest, hphase, hctx]

/-- The RSP of a first exchange ends it: its times are kept for the next, and no offset is taken. -/
theorem timeReceive_ends (hphase : num m 8 1 = 2) (hactive : s.pwr.exch.active = true) (hnumber : s.pwr.exch.number.toNat = num m 10 2)
    (hparent : parentValid s = true) (hfrom : rxMember s i = parentMember s) (hfirst : s.pwr.exch.prevT1 = none) :
    timeReceive i m s = s.updPwr fun p => { p with exch := { p.exch with
      active := false, prevT1 := some s.pwr.exch.t1, prevT2 := BitVec.ofNat 64 (num m 16 8)
      prevT4 := BitVec.ofNat 64 (recvStamp s (rxLane (rxOf s i))) } } := by
  simp [timeReceive, hlength, htype, hflags, hzero, hrest, hphase, hactive, hnumber, hparent, hfrom, hfirst]

end Messages

section Parent

variable {a : Act} {arg : Bytes} {s : State} (hmay : mayAct s [.domainManager] a = true) (hlength : arg.length = 4)
include hmay hlength

theorem exec_timeParent_busy (hactive : s.pwr.exch.active = true) :
    exec (.timeParent a arg) s = .next (actDone a.sess 0x404001 Status.retryLater [] false s) := by
  change goOn (timeParentAct a arg s) = _
  rw [timeParentAct, runAct_may hmay]
  simp [hlength, hactive]

theorem exec_timeParent_idle (hidle : s.pwr.exch.active = false) :
    exec (.timeParent a arg) s = .next (actDone a.sess 0x404001 Status.ok [] false
      (timeDiscard (s.updPwr fun p => { p with parent := BitVec.ofNat 32 (num arg 0 4) &&& 0x9FFF00FF#32 }))) := by
  change goOn (timeParentAct a arg s) = _
  rw [timeParentAct, runAct_may hmay]
  simp [hlength, hidle]

end Parent

/-! ### Power states (R468, R469) -/

theorem exec_powerStateEntry (s : State) : exec .powerStateEntry s = .next (settled (stateEntry s)) := rfl

theorem stateEntry_stays {s : State} (h : shaking s = true ∨ s.stopped = true ∨ s.pwr.phase ≠ .firmware ∨ stateChosen s = none) :
    stateEntry s = ([], s) := by
  by_cases hbars : (shaking s || s.stopped || s.pwr.phase != .firmware) = true
  · rw [stateEntry, if_pos hbars]
  · have hnone : stateChosen s = none := by
      simp only [Bool.or_eq_true, bne_iff_ne, not_or] at hbars
      tauto
    rw [stateEntry, if_neg hbars, hnone]

/-- The chosen state is asked for, whatever the Landing of its units leaves. -/
theorem stateEntry_enters {st : Nat} {s : State} (hshaking : shaking s = false) (hstopped : s.stopped = false)
    (hphase : s.pwr.phase = .firmware) (hchosen : stateChosen s = some st) :
    ∃ (a : List Ans) (v : State), stateEntry s = (a, (v.updPwr fun p => { p with entering := true, voided := false }).updPins
      fun p => { p with ptgt := BitVec.ofNat 2 st, preq := true }) := by
  have hbars : ¬ (shaking s || s.stopped || s.pwr.phase != .firmware) = true := by simp [hshaking, hstopped, hphase]
  rw [stateEntry, if_neg hbars, hchosen]
  exact ⟨_, _, rfl⟩

theorem exec_wake {a : Act} {s : State} (hmay : mayAct s [.operator, .domainManager] a = true) :
    exec (.wake a) s = .next (actDone a.sess 0x201001 Status.ok [] false
      (if s.pins.pstate = 0 then s else { s with pwr := { s.pwr with wakeReq := true } })) := by
  change goOn (wakeAct a s) = _
  rw [wakeAct, runAct_may hmay]
  rfl

/-! ### The mask ROM (R474) -/

theorem exec_maskRomBoot (s : State) : exec .maskRomBoot s = .next (settled (romBoot s)) := rfl

theorem romBoot_stays {s : State} (h : s.pwr.phase ≠ .rom ∨ otpActive s = true) : romBoot s = ([], s) := by
  rw [romBoot, if_pos h]

section Rom

variable {s : State} (hphase : s.pwr.phase = .rom) (hotp : otpActive s = false)
include hphase hotp

/-- A blank device secret is programmed first (R91, R92). -/
theorem romBoot_secret (hstate : s.lcState = testOpen) (hblank : otpBlank s.lc.otp 0 8 = true) : romBoot s = ([], secretStart s) := by
  rw [romBoot, if_neg (by simp [hphase, hotp]), if_pos ⟨hstate, hblank⟩]

/-- Else the ROM measures itself and ends in SCRAP, in the firmware or in recovery (R474 to R476). -/
theorem romBoot_boots {u : State} (hsecret : s.lcState ≠ testOpen ∨ otpBlank s.lc.otp 0 8 = false)
    (hu : u = (measure 0 Config.maskRom (s.updPwr fun p => { p with lockBit := true })).updLc
      (fun l => { l with rollback := rollbackCount l.otp }))
    (hpending : u.lcPending = none) :
    romBoot s = if u.lcState = scrap then
        ([], ((scrapIdentity u).updPins fun p => { p with miiEn := true }).updPwr fun p => { p with phase := .scrap })
      else if bootFault (xspiSelect u) = 0 then firmwareStart (imageAccepted (xspiSelect u))
      else ([], enterRecovery (bootFault (xspiSelect u)) (xspiSelect u)) := by
  have hthere : ¬ (s.lcState = testOpen ∧ otpBlank s.lc.otp 0 8 = true) := by
    rintro ⟨hstate, hblank⟩
    rcases hsecret with h | h
    · exact h hstate
    · rw [h] at hblank
      exact absurd hblank (by decide)
  simp only [romBoot]
  rw [if_neg (by simp [hphase, hotp]), if_neg hthere, ← hu, hpending]
  refine ite_congr rfl (fun _ => rfl) fun _ => ?_
  split
  case h_1 hgood => rw [if_pos hgood]
  case h_2 hbad => rw [if_neg hbad]

end Rom

/-! ### Recovery (R476) -/

theorem exec_recoveryWrite (a : Act) (arg : Bytes) (s : State) : exec (.recoveryWrite a arg) s = .next (recoveryWriteAct a arg s) := rfl

theorem exec_recoveryCommit (a : Act) (s : State) : exec (.recoveryCommit a) s = .next (settled (recoveryCommitAct a s)) := rfl

theorem recoveryWriteAct_refused {a : Act} {arg : Bytes} {s : State} (h : mayRecover s [.factory, .operator] a = false) :
    recoveryWriteAct a arg s = actDone a.sess 0x903001 Status.permission [] false s := by
  simp [recoveryWriteAct, h]

/-- A write into sectors that have been begun programs the slot. -/
theorem recoveryWriteAct_programs {a : Act} {arg : Bytes} {s : State} (hmay : mayRecover s [.factory, .operator] a = true)
    (hlow : 4 < arg.length) (hhigh : arg.length ≤ 1028) (hfits : num arg 0 4 + (arg.length - 4) ≤ slotBytes)
    (hbegun : (sectorsOf (num arg 0 4) (arg.length - 4)).all (fun k => s.pwr.erased.contains k) = true) :
    recoveryWriteAct a arg s = actDone a.sess 0x903001 Status.ok [] false
      (programOver (slotBase + num arg 0 4) (arg.drop 4) (s.updPwr fun p => { p with erased := p.erased ++ [] })) := by
  have hnew : ((sectorsOf (num arg 0 4) (arg.length - 4)).filter fun k => !s.pwr.erased.contains k) = [] :=
    List.filter_eq_nil_iff.mpr fun k hk => by rw [List.all_eq_true.mp hbegun k hk]; decide
  simp only [recoveryWriteAct, hnew]
  rw [if_neg (by simp [hmay, hlow, hhigh, hfits])]
  rfl

theorem recoveryCommitAct_refused {a : Act} {s : State} (h : mayRecover s [.factory, .operator] a = false) :
    recoveryCommitAct a s = ([], actDone a.sess 0x903002 Status.permission [] false s) := by
  simp [recoveryCommitAct, h]

theorem recoveryCommitAct_accepted {a : Act} {s : State} (hmay : mayRecover s [.factory, .operator] a = true) (hgood : bootFault s = 0) :
    recoveryCommitAct a s = t3Order noWaiter (actDone a.sess 0x903002 Status.ok [] false s) := by
  simp [recoveryCommitAct, hmay, hgood]

theorem recoveryCommitAct_unsigned {a : Act} {s : State} (hmay : mayRecover s [.factory, .operator] a = true) (hbad : bootFault s = 5) :
    recoveryCommitAct a s = ([], actDone a.sess 0x903002 Status.authFail [] false s) := by
  simp [recoveryCommitAct, hmay, hbad]

/-! ### Shutdown and the root store (R477, R478) -/

theorem exec_shutdown {a : Act} {arg : Bytes} {s : State} (hmay : mayAct s [.domainManager] a = true) (hlength : arg.length = 8)
    (hfrozen : (usedHalls s).all (fun e => e.2.state == .frozen) = true) (hidle : s.pwr.shut.running = false) :
    exec (.shutdown a arg) s = .next (settled ([], actWaits a.sess shutObj (s.updPwr fun p => { p with
      shut := Shut.mk true a.sess 0 (BitVec.ofNat 64 (num arg 0 8)) [] [] }))) := by
  change goOn (settled (shutdownAct a arg s)) = _
  simp [shutdownAct, hmay, hlength, hfrozen, hidle]

theorem exec_rootStoreUse {a : Act} {arg : Bytes} {s : State} (hmay : mayAct s [.domainManager] a = true) (hlength : arg.length = 8) :
    exec (.rootStoreUse a arg) s = .next (actDone a.sess 0x201003 Status.ok [] false
      { s with pwr := { s.pwr with rootStore := some (BitVec.ofNat 64 (num arg 0 8)) } }) := by
  change goOn (rootStoreUseAct a arg s) = _
  rw [rootStoreUseAct, runAct_may hmay, if_pos hlength]
  rfl

/-! ### The flash (R471, R479) -/

theorem exec_xspiCommand (op len : Byte) (s : State) : exec (.xspiCommand op len) s = .next (xspiOp op len s) := rfl

theorem xspiOp_writeEnable (len : Byte) (s : State) :
    (xspiOp 0x06 len s).pwr.writeEnable = true ∧ (xspiOp 0x06 len s).pwr.flash = s.pwr.flash := ⟨rfl, rfl⟩

/-- An erase outside the factory region uses write enable up. -/
theorem xspiOp_erases {len : Byte} {s : State} (hslot : slotBase ≤ s.pwr.xspiAddr.toNat / 0x1000 * 0x1000)
    (hwrite : s.pwr.writeEnable = true) :
    (xspiOp 0x21 len s).pwr.writeEnable = false
      ∧ (xspiOp 0x21 len s).pwr.flash = (flashErase (s.pwr.xspiAddr.toNat / 0x1000 * 0x1000) 0x1000 s).pwr.flash := by
  have hop : flashOp 0x21 = .erase 0x1000 := rfl
  have hfree : ∀ v : State, factoryBarred v (s.pwr.xspiAddr.toNat / 0x1000 * 0x1000) = false := fun v => by
    rw [factoryBarred, decide_eq_false (Nat.not_lt.mpr hslot), Bool.false_and]
  simp only [xspiOp, hop, State.updPwr_pwr, hfree, hwrite, Bool.not_true, Bool.false_eq_true, if_false]
  exact ⟨rfl, rfl⟩

/-- Without write enable a page program changes nothing in the flash. -/
theorem xspiOp_program_barred {len : Byte} {s : State} (hwrite : s.pwr.writeEnable = false) :
    (xspiOp 0x12 len s).pwr.flash = s.pwr.flash ∧ (xspiOp 0x12 len s).pwr.writeEnable = false := by
  have hop : flashOp 0x12 = .program := rfl
  simp only [xspiOp, hop, State.updPwr_pwr, hwrite, Bool.not_false, if_true]
  split <;> exact ⟨rfl, hwrite⟩

/-- Settles O27: each row by the lemma of its operation. -/
theorem clockTimePowerAndBoot : Obligations.ClockTimePowerAndBoot := by
  unfold Obligations.ClockTimePowerAndBoot
  refine ⟨?corrects, ?halted, ?mult, ?multBarred, ?relock, ?starts, ?orphan, ?answers, ?ends, ?parent, ?parentBusy, ?entryStays,
    ?entry, ?romStays, ?secret, ?boots, ?write, ?recoveryRefused, ?commit, ?unsigned, ?shutdown, ?rootStore, ?wake, ?writeEnable,
    ?erase, ?program, ?clockLoss⟩
  case corrects =>
    intro d n s hruns
    obtain ⟨halted, heq, hkeep⟩ := correctDomain_running (n := n) hruns
    refine ⟨_, exec_localTimebaseCorrection d n s, ?_⟩
    rw [heq]
    exact ⟨rfl, rfl, fun hcut => congrArg (fun l => { s.dbg with halted := l }) (hkeep hcut)⟩
  case halted =>
    intro d n s hhalted
    rw [exec_localTimebaseCorrection, correctDomain_halted hhalted]
  case mult =>
    intro m s hlow hmin hmax
    rw [exec_cclkMultWrite, cclkMultOp_set hlow hmin hmax]
  case multBarred =>
    intro m s hbars
    rw [exec_cclkMultWrite, cclkMultOp_barred hbars]
  case relock => exact fun s hpor hoff => exec_pllRelockDone hpor hoff
  case starts =>
    intro i s u hparent hjoined hlost hctx hu
    rw [exec_timeExchangeStart, timeStartOp_sends hparent hjoined hlost hctx hu]
  case orphan =>
    intro s hparent
    rw [exec_timeExchangeStart, timeStartOp_orphan hparent]
  case answers =>
    intro i t m s u hlength htype hflags hzero hrest hphase hctx hu
    rw [exec_timeMessageReceive, timeReceive_answers hlength htype hflags hzero hrest hphase hctx hu]
  case ends =>
    intro i m s hlength htype hflags hzero hrest hphase hactive hnumber hparent hfrom hfirst
    refine ⟨_, exec_timeMessageReceive i m s, ?_⟩
    rw [timeReceive_ends hlength htype hflags hzero hrest hphase hactive hnumber hparent hfrom hfirst]
    exact ⟨rfl, rfl, rfl, rfl⟩
  case parent =>
    intro a arg s hmay hlength hidle
    exact ⟨_, exec_timeParent_idle hmay hlength hidle, rfl, rfl, rfl⟩
  case parentBusy =>
    intro a arg s hmay hlength hactive
    rw [exec_timeParent_busy hmay hlength hactive]
  case entryStays =>
    intro s hbars
    rw [exec_powerStateEntry, stateEntry_stays hbars]
  case entry =>
    intro st s hshaking hstopped hphase hchosen
    obtain ⟨a, v, heq⟩ := stateEntry_enters hshaking hstopped hphase hchosen
    exact ⟨a, _, (exec_powerStateEntry s).trans (congrArg (fun r => Host.Outcome.next (settled r)) heq), rfl, rfl, rfl, rfl⟩
  case romStays =>
    intro s hstays
    rw [exec_maskRomBoot, romBoot_stays hstays]
  case secret =>
    intro s hphase hotp hstate hblank
    rw [exec_maskRomBoot, romBoot_secret hphase hotp hstate hblank]
  case boots =>
    intro s u hphase hotp hsecret hu hpending
    rw [exec_maskRomBoot, romBoot_boots hphase hotp hsecret hu hpending]
  case write =>
    intro a arg s hmay hlow hhigh hfits hbegun
    rw [exec_recoveryWrite, recoveryWriteAct_programs hmay hlow hhigh hfits hbegun]
  case recoveryRefused =>
    intro a arg s hmay
    rw [exec_recoveryWrite, recoveryWriteAct_refused hmay, exec_recoveryCommit, recoveryCommitAct_refused hmay]
    exact ⟨rfl, rfl⟩
  case commit =>
    intro a s hmay hgood
    rw [exec_recoveryCommit, recoveryCommitAct_accepted hmay hgood]
  case unsigned =>
    intro a s hmay hbad
    rw [exec_recoveryCommit, recoveryCommitAct_unsigned hmay hbad]
  case shutdown => exact fun a arg s hmay hlength hfrozen hidle => exec_shutdown hmay hlength hfrozen hidle
  case rootStore => exact fun a arg s hmay hlength => exec_rootStoreUse hmay hlength
  case wake => exact fun a s hmay => exec_wake hmay
  case writeEnable => exact fun len s => ⟨_, exec_xspiCommand 0x06 len s, xspiOp_writeEnable len s⟩
  case erase => exact fun len s hslot hwrite => ⟨_, exec_xspiCommand 0x21 len s, xspiOp_erases hslot hwrite⟩
  case program => exact fun len s hwrite => ⟨_, exec_xspiCommand 0x12 len s, xspiOp_program_barred hwrite⟩
  case clockLoss =>
    intro pll c s u hu hneeded
    rw [exec_clockLoss, clockLossOp_faults hu hneeded]

end Sys2Proof.Machine
end

section
/-! The stores over every step: their canonical form, the programmed bits, and what grows with those bits. -/

namespace Sys2Proof.Machine

-- One declaration at a time, so that the elaborator holds few threads (each takes stack of its own).
set_option Elab.async false

/-! ### One step -/

/-- Every step goes on and keeps the stores: a command within its frame, an empty queue within that of the reference edge. -/
theorem step_keeps (s : State) : ∃ t, step s = .next t ∧ Kept s t := by
  cases hq : s.pending with
  | nil =>
    have frame : Frame 1030792151040 s (referenceEdge s) := referenceEdge_frame Frame.refl rfl
    exact ⟨_, step_of_empty hq, frame.keeps⟩
  | cons c rest =>
    obtain ⟨w, -, t, ht, frame⟩ := exec_goes c { s with pending := rest }
    have hfront : Kept s { s with pending := rest } := Kept.same rfl rfl id rfl
    refine ⟨t, ?_, hfront.trans frame.keeps⟩
    rw [step, hq]
    exact ht

theorem kept_of_step {s t : State} (h : step s = .next t) : Kept s t := by
  obtain ⟨u, hu, kept⟩ := step_keeps s
  obtain rfl : u = t := Host.Outcome.next.inj (hu.symm.trans h)
  exact kept

theorem Kept.inv {s t : State} (kept : Kept s t) (h : Inv s) : Inv t := by
  obtain ⟨hflash, hregion, hslots, hotp⟩ := h
  exact ⟨kept.flash hflash, kept.region hregion, kept.slots hslots, kept.otp hotp⟩

/-- Settles O36: every frame carries the canonical forms along. -/
theorem everyStepKeepsTheStores : Obligations.EveryStepKeepsTheStores := by
  unfold Obligations.EveryStepKeepsTheStores
  intro s hs
  obtain ⟨t, ht, kept⟩ := step_keeps s
  exact ⟨t, ht, kept.inv hs⟩

/-- Settles O37: every frame carries the programmed bits along. -/
theorem programmedBitsStay : Obligations.ProgrammedBitsStay := by
  unfold Obligations.ProgrammedBitsStay
  intro s
  obtain ⟨t, ht, kept⟩ := step_keeps s
  exact ⟨t, ht, kept.up⟩

/-- Settles O43: nothing is listed at reset. -/
theorem storesAreCanonicalAtReset : Obligations.StoresAreCanonicalAtReset := by
  unfold Obligations.StoresAreCanonicalAtReset
  exact ⟨rfl, rfl, rfl, rfl⟩

/-- Settles O34: no mask names a part that its list guards against the command. -/
theorem frameOfTheControl : Obligations.FrameOfTheControl := by
  unfold Obligations.FrameOfTheControl
  intro c s t h
  obtain ⟨w, hw, frame⟩ := frame_of_exec h
  exact ⟨fun hc => frame.pinsRest (testBit_of_maskPermitted (2, changesPins) hw hc),
    fun hc => frame.fcuRest (testBit_of_maskPermitted (33, changesFaultUnit) hw hc),
    fun hc => frame.hrRest (testBit_of_maskPermitted (35, changesHangUnit) hw hc),
    fun hc => frame.dbgRest (testBit_of_maskPermitted (37, changesDebug) hw hc),
    fun hc => frame.pwrRest (testBit_of_maskPermitted (39, changesPower) hw hc),
    fun hc => frame.mgtRest (testBit_of_maskPermitted (42, changesManagement) hw hc)⟩

/-! ### The life cycle (R93) -/

/-- A full word stays full as bits are added. -/
theorem eq_otpFull_of_or {x y : BitVec 39} (hup : x ||| y = y) (hfull : x = otpFull) : y = otpFull := by
  rw [← hup, hfull]
  exact BitVec.allOnes_or

/-- The state words S1 to S`n` are full. -/
def fullUpTo (o : Tab (BitVec 39)) (n : Nat) : Prop := ∀ k, k < n → sFull o (k + 1) = true

theorem sFull_of_up {o p : Tab (BitVec 39)} (hup : ∀ w, o.get w ||| p.get w = p.get w) {n : Nat} (h : sFull o n = true) :
    sFull p n = true :=
  beq_iff_eq.mpr (eq_otpFull_of_or (hup _) (beq_iff_eq.mp h))

theorem sFull_of_sBlank {o : Tab (BitVec 39)} {n : Nat} (h : sBlank o n = true) : sFull o n = false := by
  rw [sFull, beq_iff_eq.mp h]
  decide

theorem decodeState_of_full {o : Tab (BitVec 39)} (h : sFull o 4 = true) : decodeState o = (scrap, none) := by
  simp [decodeState, h]

/-- What R93 decodes: SCRAP, or the base state, or the source of a pending transition. -/
theorem decodeState_cases (o : Tab (BitVec 39)) :
    (decodeState o).1 = scrap ∨ baseState o = some (decodeState o).1
      ∨ (decodeState o).1 < 3 ∧ pendingAt o ((decodeState o).1 + 1) = true := by
  unfold decodeState
  split
  · exact .inl rfl
  split
  case h_1 b hb =>
    split at hb
    · exact .inr (.inl hb)
    · nomatch hb
  case h_2 =>
    split
    case isTrue h => exact .inr (.inr ⟨by decide, h⟩)
    case isFalse =>
      split
      case isTrue h => exact .inr (.inr ⟨by decide, h⟩)
      case isFalse =>
        split
        case isTrue h => exact .inr (.inr ⟨by decide, h⟩)
        case isFalse =>
          split
          case h_1 b hb => exact .inr (.inl hb)
          case h_2 => exact .inl rfl

theorem fullUpTo_zero {o : Tab (BitVec 39)} : fullUpTo o 0 := fun k hk => absurd hk (Nat.not_lt_zero k)

theorem fullUpTo_succ {o : Tab (BitVec 39)} {n : Nat} (h : fullUpTo o n) (hn : sFull o (n + 1) = true) : fullUpTo o (n + 1) :=
  Nat.forall_lt_succ_right.mpr ⟨h, hn⟩

/-- A base state stands on the full words below it; the next word, where there is one, is not full. -/
theorem baseState_full {o : Tab (BitVec 39)} {b : Nat} (h : baseState o = some b) :
    b ≤ 3 ∧ fullUpTo o b ∧ (b < 3 → sFull o (b + 1) = false) := by
  simp only [baseState, Bool.and_eq_true] at h
  split at h
  case isTrue hs =>
    obtain ⟨⟨h1, -⟩, -⟩ := hs
    obtain rfl := Option.some.inj h
    exact ⟨by decide, fullUpTo_zero, fun _ => sFull_of_sBlank h1⟩
  split at h
  case isTrue hs =>
    obtain ⟨⟨h1, h2⟩, -⟩ := hs
    obtain rfl := Option.some.inj h
    exact ⟨by decide, fullUpTo_succ fullUpTo_zero h1, fun _ => sFull_of_sBlank h2⟩
  split at h
  case isTrue hs =>
    obtain ⟨⟨h1, h2⟩, h3⟩ := hs
    obtain rfl := Option.some.inj h
    exact ⟨by decide, fullUpTo_succ (fullUpTo_succ fullUpTo_zero h1) h2, fun _ => sFull_of_sBlank h3⟩
  split at h
  case isTrue hs =>
    obtain ⟨⟨h1, h2⟩, h3⟩ := hs
    obtain rfl := Option.some.inj h
    exact ⟨by decide, fullUpTo_succ (fullUpTo_succ (fullUpTo_succ fullUpTo_zero h1) h2) h3, fun hlt => absurd hlt (by decide)⟩
  case isFalse => nomatch h

/-- So does the source of a pending transition. -/
theorem pendingAt_full {o : Tab (BitVec 39)} {b : Nat} (h : pendingAt o (b + 1) = true) :
    fullUpTo o b ∧ sFull o (b + 1) = false := by
  simp only [pendingAt, Bool.and_eq_true, Bool.not_eq_true', List.all_eq_true, List.mem_range] at h
  obtain ⟨⟨⟨-, hnext⟩, hbelow⟩, -⟩ := h
  exact ⟨hbelow, hnext⟩

/-- A state other than SCRAP stands on the full words below it, and is the last that does. -/
theorem decodeState_full {o : Tab (BitVec 39)} (h : (decodeState o).1 ≠ scrap) :
    (decodeState o).1 ≤ 3 ∧ fullUpTo o (decodeState o).1 ∧ ((decodeState o).1 < 3 → sFull o ((decodeState o).1 + 1) = false) := by
  rcases decodeState_cases o with hscrap | hbase | ⟨hlt, hpending⟩
  · exact absurd hscrap h
  · exact baseState_full hbase
  · obtain ⟨hbelow, hnext⟩ := pendingAt_full hpending
    exact ⟨Nat.le_of_lt hlt, hbelow, fun _ => hnext⟩

/-- R93: as bits are added to the words, what they decode to goes forward. -/
theorem decodeState_mono {o p : Tab (BitVec 39)} (hup : ∀ w, o.get w ||| p.get w = p.get w) (h : (decodeState o).1 ≠ scrap) :
    (decodeState o).1 ≤ (decodeState p).1 := by
  obtain ⟨hle, hfull, -⟩ := decodeState_full h
  by_cases hp : (decodeState p).1 = scrap
  · exact hp ▸ Nat.le_succ_of_le hle
  · obtain ⟨-, -, hlast⟩ := decodeState_full hp
    by_contra hlt
    have hnext : sFull p ((decodeState p).1 + 1) = true := sFull_of_up hup (hfull _ (by omega))
    exact absurd hnext (by simp [hlast (by omega)])

/-- Settles O38: the bits of the state words only grow. -/
theorem lifeCycleGoesForward : Obligations.LifeCycleGoesForward := by
  unfold Obligations.LifeCycleGoesForward
  intro s t h
  have kept := kept_of_step h
  refine ⟨decodeState_mono kept.up, fun hfull => ?_⟩
  have hfull' := sFull_of_up kept.up hfull
  exact ⟨congrArg Prod.fst (decodeState_of_full hfull'), hfull'⟩

/-! ### The rollback counter (R100) -/

/-- The number of 1 bits of a word. -/
def onesOf (x : BitVec 39) : Nat := (List.range 39).foldl (fun k i => k + b2n (x.toNat.testBit i)) 0

/-- What an entry of the OTP table adds to the counter. -/
def rollbackOf (e : Nat × BitVec 39) : Nat := if 128 ≤ e.1 ∧ e.1 < 256 then onesOf e.2 else 0

theorem onesOf_eq_sum (x : BitVec 39) : onesOf x = ((List.range 39).map fun i => b2n (x.toNat.testBit i)).sum := by
  rw [onesOf, List.sum_eq_foldl, List.foldl_map]

theorem onesOf_zero : onesOf 0#39 = 0 := by decide

/-- A word with bits added has no fewer of them. -/
theorem onesOf_mono {x y : BitVec 39} (hup : x ||| y = y) : onesOf x ≤ onesOf y := by
  rw [onesOf_eq_sum, onesOf_eq_sum]
  refine List.sum_le_sum fun i _ => ?_
  rw [← hup, BitVec.toNat_or, Nat.testBit_or]
  cases x.toNat.testBit i <;> cases y.toNat.testBit i <;> decide

theorem rollbackCount_eq_sum (o : Tab (BitVec 39)) : rollbackCount o = (o.map rollbackOf).sum := by
  rw [List.sum_eq_foldl, List.foldl_map, rollbackCount]
  congr 1
  funext n e
  unfold rollbackOf
  split
  · rfl
  · rfl

/-- In a list in canonical form the entries and the words that they give count the same. -/
theorem sum_rollbackOf {lo : Nat} {l : List (Nat × BitVec 39)} (h : keysOk default lo l = true) :
    (l.map rollbackOf).sum = ∑ w ∈ Finset.Ico 128 256, onesOf (readKey default w l) := by
  induction l generalizing lo with
  | nil => exact (Finset.sum_eq_zero fun _ _ => onesOf_zero).symm
  | cons e l ih =>
    obtain ⟨k, x⟩ := e
    simp only [keysOk, Bool.and_eq_true, decide_eq_true_eq] at h
    obtain ⟨-, hl⟩ := h
    have hunlisted : onesOf (readKey default k l) = 0 := by
      rw [readKey_below hl (Nat.lt_succ_self k)]
      exact onesOf_zero
    have hword : ∀ w, onesOf (readKey default w ((k, x) :: l)) = (if k = w then onesOf x else 0) + onesOf (readKey default w l) := by
      intro w
      by_cases hw : k = w
      · subst hw
        simp [readKey, hunlisted]
      · simp [readKey, hw, Ne.symm hw]
    simp only [List.map_cons, List.sum_cons, hword, Finset.sum_add_distrib, Finset.sum_ite_eq, Finset.mem_Ico, ih hl]
    rfl

theorem rollbackCount_eq_words {o : Tab (BitVec 39)} (h : o.wf = true) :
    rollbackCount o = ∑ w ∈ Finset.Ico 128 256, onesOf (o.get w) :=
  (rollbackCount_eq_sum o).trans (sum_rollbackOf h)

/-- Settles O39: the counter is the sum over its words, whose bits only grow. -/
theorem rollbackCounterNeverFalls : Obligations.RollbackCounterNeverFalls := by
  unfold Obligations.RollbackCounterNeverFalls
  intro s t hwf h
  have kept := kept_of_step h
  rw [rollbackCount_eq_words hwf, rollbackCount_eq_words (kept.otp hwf)]
  exact Finset.sum_le_sum fun w _ => onesOf_mono (kept.up w)

end Sys2Proof.Machine
end

section
/-! The host port: where a TLP goes and what a function-level reset begins. -/

namespace Sys2Proof.Machine

-- One declaration at a time, so that the elaborator holds few threads (each takes stack of its own).
set_option Elab.async false

/-! ### TLPs (R39 to R42) -/

theorem exec_hpTlpReceive (t : Tlp) (s : State) : exec (.hpTlpReceive t) s = .next (settled (tlpReceive t s)) := rfl

/-- What follows a row's own effect leaves the pins alone, but for cp_preempt. -/
theorem settled_pinsRest (r : List Ans × State) : (settled r).pins.rest = r.2.pins.rest := by
  have frame : Frame 56441417934970 r.2 (settled r) := settled_frame Frame.refl rfl
  exact frame.pinsRest (by decide)

/-- A TLP that no check stops reaches its function. -/
theorem tlpReceive_works {t : Tlp} {s : State} (hserves : hpServes s = true) (hland : isLanding s Src.hostPipes = false)
    (hfirst : t.first = true) (herr : t.err = false) (hide : t.ide = none) (hfunc : t.func ≤ (portInput s).conf.halls)
    (hsafe : (portInput s).fcu.safe = false ∨ t.func = 0) (htdi : tdiTakes (portInput s) t = true) :
    tlpReceive t s = tlpWork t (portInput s) := by
  have hblocked : ((portInput s).fcu.safe && t.func != 0) = false := by
    rcases hsafe with h | h
    · rw [h, Bool.false_and]
    · rw [h, bne_self_eq_false, Bool.and_false]
  simp [tlpReceive, hserves, hland, hfirst, herr, Nat.not_lt.mpr hfunc, hblocked, ideCheck, hide, htdi]

/-- The completion of a TLP outside every stream leaves outside every stream: a TDI that sends in one takes no such TLP (R138). -/
theorem tlpAnswers_outside {t : Tlp} {b : Bytes} {s u : State} (hide : t.ide = none) (htdi : tdiTakes s t = true) (hitu : u.itu = s.itu) :
    tlpAnswers t b u = u.emit (.tlpAnswer t.func b) := by
  have hhall : hallOf u (t.func - 1) = hallOf s (t.func - 1) := congrArg (fun x : Itu => x.halls.get (t.func - 1)) hitu
  have hstream : (if t.func = 0 then t.ide.map (·.stream) else boundStream u (t.func - 1)) = none := by
    split
    case isTrue => rw [hide]; rfl
    case isFalse hfunc =>
      simp only [tdiTakes, hide, Bool.or_false, Bool.or_eq_true, beq_iff_eq, hfunc, false_or, Bool.not_eq_true'] at htdi
      simp [boundStream, hhall, htdi]
  simp only [tlpAnswers, hstream, ideEmit]

theorem pageGet_itu (fuel : Nat) (bus : Bus) (a n : Nat) (s : State) : (pageGet fuel bus a n s).2.itu = s.itu := by
  have frame : Frame 17592588697606 s (pageGet fuel bus a n s).2 := pageGet_frame Frame.refl rfl
  exact frame.itu (by decide)

theorem tlpWork_read {t : Tlp} {off len : Nat} {s : State} (hkind : t.kind = .memRead off len) (hend : off + len ≤ 0x10000)
    (hide : t.ide = none) (htdi : tdiTakes s t = true) :
    tlpWork t s = ([], (pageGet len (.page t.func) off len s).2.emit (.tlpAnswer t.func (pageGet len (.page t.func) off len s).1)) := by
  rw [← tlpAnswers_outside hide htdi (pageGet_itu ..)]
  simp only [tlpWork, hkind, if_neg (Nat.not_lt.mpr hend)]

theorem tlpWork_write {t : Tlp} {off : Nat} {data : Bytes} {s : State} (hkind : t.kind = .memWrite off data)
    (hend : off + data.length ≤ 0x10000) : tlpWork t s = pagePut data.length (.page t.func) off data s := by
  simp only [tlpWork, hkind, if_neg (Nat.not_lt.mpr hend)]

theorem tlpReceive_unmarked {t : Tlp} {s : State} (hserves : hpServes s = true) (hland : isLanding s Src.hostPipes = false)
    (hfirst : t.first = false) :
    tlpReceive t s = ([], (portInput s).updPins fun p => { p with framing := p.framing.bump 0 1 }) := by
  simp [tlpReceive, hserves, hland, hfirst]

theorem tlpReceive_erroneous {t : Tlp} {s : State} (hserves : hpServes s = true) (hland : isLanding s Src.hostPipes = false)
    (hfirst : t.first = true) (herr : t.err = true) :
    tlpReceive t s = ([], (portInput s).updPins fun p => { p with hpErrors := p.hpErrors + 1 }) := by
  simp [tlpReceive, hserves, hland, hfirst, herr]

/-! ### Function-level reset (R43) -/

theorem exec_hpFlr {func : Nat} {s : State} (hen : s.pins.hpEn = true) : exec (.hpFlr func) s = .next (flrOp func (portInput s)) := by
  change goOn (if s.pins.hpEn = true then _ else _) = _
  rw [if_pos hen]

theorem exec_hpFlr_disabled {func : Nat} {s : State} (hen : s.pins.hpEn = false) : exec (.hpFlr func) s = .next s := by
  change goOn (if s.pins.hpEn = true then _ else _) = _
  rw [if_neg (by simp [hen])]

theorem exec_hpFlrDone (func : Nat) (s : State) : exec (.hpFlrDone func) s = .next (flrDoneOp func s) := rfl

/-- `s` with a function's reset recorded. -/
def flrBegun (func : Nat) (s : State) : State := s.updPins fun p => { p with flr := p.flr ++ [func] }

theorem flrOp_operator {s : State} (hnew : s.pins.flr.contains 0 = false) :
    flrOp 0 s = (flrBegun 0 s).updFs fun x => { x with mailboxes := x.mailboxes.set 0 default } := by
  simp only [flrOp, hnew, Nat.not_lt_zero, decide_false, Bool.or_false, Bool.false_eq_true, if_false, if_true]
  rfl

/-- The reset of a hall's function, by the state of the hall. -/
theorem flrOp_hall {hall : Nat} {s : State} (hnew : s.pins.flr.contains (hall + 1) = false) (hhall : hall < s.conf.halls) :
    flrOp (hall + 1) s =
      if (hallOf s hall).state = .free then flrBegun (hall + 1) s
      else if isSealed (hallOf s hall) && ((hallOf s hall).tdi == .locked || (hallOf s hall).tdi == .run) then
        tdiError hall (flrBegun (hall + 1) s)
      else if flrDrains (hallOf s hall) then flrBegun (hall + 1) s
      else resetPage hall (forAll (hallQueues s hall) queueDie (flrBegun (hall + 1) s)) := by
  have hthere : decide (s.conf.halls < hall + 1) = false := decide_eq_false (by omega)
  simp only [flrOp, hnew, hthere, Bool.or_false, Bool.false_eq_true, if_false, Nat.add_eq_zero_iff, Nat.one_ne_zero, and_false]
  rfl

theorem isSealed_of_plain {h : Hall} (hmode : h.mode = .plain) : isSealed h = false := by
  rw [isSealed, hmode]
  rfl

theorem flrDoneOp_ready {func : Nat} {s : State} (hruns : s.pins.flr.contains func = true) (hready : flrReady s func = true) :
    flrDoneOp func s = (s.updPins fun p => { p with flr := p.flr.filter (· != func) }).emit (.flrDone func) := by
  rw [flrDoneOp, hruns, hready]
  rfl

/-- Settles O2: each row by the lemma of its operation, on the state that the input itself leaves. -/
theorem hostPortCommands : Obligations.HostPortCommands := by
  unfold Obligations.HostPortCommands
  refine ⟨?read, ?write, ?framing, ?errors, ?operator, ?free, ?plain, ?disabled, ?done⟩
  case read =>
    intro t off len s hserves hland hfirst herr hkind hend hide hfunc hsafe htdi
    rw [exec_hpTlpReceive, tlpReceive_works hserves hland hfirst herr hide hfunc hsafe htdi, tlpWork_read hkind hend hide htdi]
  case write =>
    intro t off data s hserves hland hfirst herr hkind hend hide hfunc hsafe htdi
    rw [exec_hpTlpReceive, tlpReceive_works hserves hland hfirst herr hide hfunc hsafe htdi, tlpWork_write hkind hend]
  case framing =>
    intro t s hserves hland hfirst
    refine ⟨_, exec_hpTlpReceive t s, ?_⟩
    rw [tlpReceive_unmarked hserves hland hfirst]
    exact congrArg Pins.framing (settled_pinsRest _)
  case errors =>
    intro t s hserves hland hfirst herr
    refine ⟨_, exec_hpTlpReceive t s, ?_⟩
    rw [tlpReceive_erroneous hserves hland hfirst herr]
    exact congrArg Pins.hpErrors (settled_pinsRest _)
  case operator =>
    rintro s p rfl hen hnew
    exact ⟨_, (exec_hpFlr hen).trans (congrArg _ (flrOp_operator hnew)), rfl, rfl, rfl⟩
  case free =>
    rintro hall s p rfl hen hnew hhall hfree
    exact ⟨_, (exec_hpFlr hen).trans (congrArg _ ((flrOp_hall hnew hhall).trans (if_pos hfree))), rfl⟩
  case plain =>
    rintro hall s p rfl hen hnew hhall hlive hmode
    have hused : (hallOf (portInput s) hall).state ≠ .free := by rw [hlive]; decide
    rw [exec_hpFlr hen, flrOp_hall hnew hhall, if_neg hused]
    simp only [flrDrains, isSealed_of_plain hmode, Bool.false_and, Bool.false_eq_true, if_false]
    rfl
  case disabled => exact fun func s hen => exec_hpFlr_disabled hen
  case done =>
    intro func s hruns hready
    exact ⟨_, (exec_hpFlrDone func s).trans (congrArg _ (flrDoneOp_ready hruns hready)), rfl, rfl, rfl⟩

end Sys2Proof.Machine
end

section
/-! The pins: power-on reset, the handshake of the power states, the fault inputs and the loss of a clock. -/

namespace Sys2Proof.Machine

-- One declaration at a time, so that the elaborator holds few threads (each takes stack of its own).
set_option Elab.async false

/-! ### Power-on reset (R53, R428) -/

/-- The programming that a power-on reset cuts short changes the OTP words alone. -/
theorem otpInterrupted_keeps (s : State) :
    (otpInterrupted s).pending = s.pending ∧ (otpInterrupted s).conf = s.conf ∧ (otpInterrupted s).pwr = s.pwr := by
  have frame : Frame 17592186045952 s (otpInterrupted s) := otpInterrupted_frame Frame.refl rfl
  obtain ⟨hpending, hconf⟩ := frame.base (by decide)
  exact ⟨hpending, hconf, frame.pwr (by decide)⟩

theorem exec_powerOnReset_asserted (s : State) : exec (.powerOnReset false) s = .next (porState s) := rfl

theorem exec_powerOnReset_released {s : State} (hpor : s.pins.por = true) :
    exec (.powerOnReset true) s = .next ((s.updPins fun p => { p with por := false }).updPwr fun p => { p with phase := .rom }) := by
  change goOn (if s.pins.por = true then _ else _) = _
  rw [if_pos hpor]

/-! ### Wakes (R54, R55, R469) -/

theorem rushesBlock_pwr (unit ev arg : Nat) (s : State) : (rushesBlock unit ev arg s).pwr = s.pwr :=
  (rushesBlock_frame (w₀ := 68719476736) Frame.refl rfl).pwr (by decide)

theorem wakeEnds_pwr (s : State) :
    (wakeEnds s).pwr = { s.pwr with wakeReq := false, events := raised s.pwr.events 0 } := by
  rw [wakeEnds, rushesBlock_pwr]
  rfl

/-- In S1, with no handshake under way, a wake ends the state at once. -/
theorem wakeOp_s1 {s : State} (hstop : s.stopped = false) (henter : s.pwr.entering = false) (hreq : s.pins.preq = false)
    (hpack : s.pins.pack = false) (hs1 : s.pins.pstate = 1#2) : wakeOp s = wakeEnds (s.updPins fun p => { p with wake := true }) := by
  have hstop' : (s.updPins fun p => { p with wake := true }).stopped = false := hstop
  simp [wakeOp, shaking, wakeNow, hstop', henter, hreq, hpack, hs1]

theorem exec_fpWake (s : State) : exec .fpWake s = .next (wakeOp s) := rfl

theorem portInput_s1 {s : State} (henter : s.pwr.entering = false) (hs1 : s.pins.pstate = 1#2) : portInput s = wakeEnds s := by
  simp [portInput, henter, hs1]

theorem exec_s1SelfWake {port : Nat} {s : State} (hon : portOn port s = true) (hs1 : s.pins.pstate = 1#2) (hstop : s.stopped = false) :
    exec (.s1SelfWake port) s = .next (portInput s) := by
  change goOn (if _ then _ else _) = _
  rw [if_pos ⟨hon, hs1, by rw [hstop]; rfl⟩]

theorem exec_s1SelfWake_off {port : Nat} {s : State} (hoff : portOn port s = false) : exec (.s1SelfWake port) s = .next s := by
  change goOn (if _ then _ else _) = _
  rw [if_neg fun h => absurd h.1 (by simp [hoff])]

/-! ### The handshake (R54, R469) -/

/-- `s` with an entry completed: the block is in the state that it asked for. -/
def packEntered (s : State) : State :=
  ((s.updPins fun p => { p with pack := true, preq := false }).updPwr fun p =>
      { p with entering := false, voided := false, lockBit := p.lockBit && decide (s.pins.ptgt.toNat < 3) }).updPins
    fun p => { p with pstate := s.pins.ptgt }

theorem packRise_enters {s : State} (hreq : s.pins.preq = true) (henter : s.pwr.entering = true) (hwake : s.pins.wake = false)
    (hvoid : s.pwr.voided = false) :
    packRise s = rushesBlock Src.pwr Ev.power s.pins.ptgt.toNat (packEntered s) := by
  simp [packRise, packEntered, hreq, henter, hwake, hvoid]

/-- What waits for S0 waits on in another state. -/
theorem runDeferred_waits {s : State} (h : s.pins.pstate ≠ 0#2) : runDeferred s = ([], s) := by
  simp [runDeferred, h]

theorem exec_fpPackRise (s : State) : exec .fpPackRise s = .next (settled (runDeferred (packRise s))) := rfl

theorem settled_pwrRest (r : List Ans × State) : (settled r).pwr.rest = r.2.pwr.rest := by
  have frame : Frame 56441417934970 r.2 (settled r) := settled_frame Frame.refl rfl
  exact frame.pwrRest (by decide)

theorem packFall_quiet {s : State} (hpack : s.pins.pack = true) (hwake : s.pins.wake = false) (hvoid : s.pwr.voided = false) :
    packFall s = (s.updPwr fun p => { p with voided := false }).updPins fun p => { p with pack := false } := by
  simp [packFall, hpack, hwake, hvoid]

theorem exec_fpPackFall (s : State) : exec .fpPackFall s = .next (packFall s) := rfl

/-! ### Faults at the pins (R56, R397) -/

/-- A record that finds room enters its source's FIFO with the next sequence number; the FIFO's registers change, and a trace ring. -/
theorem raiseFault_room {src kind hall addr detail : Nat} {s : State} (h : (s.fcu.fifo.get src).length < 4) :
    (raiseFault src kind hall addr detail s).fcu.fifo = s.fcu.fifo.set src (s.fcu.fifo.get src
        ++ [{ mkFault kind hall addr detail false with seq := s.fcu.seqs.get src }]) := by
  have hroom : ¬((mkFault kind hall addr detail false).cls = 0 ∧ 4 ≤ (s.fcu.fifo.get src).length) := fun hfull =>
    absurd hfull.2 (Nat.not_le.mpr h)
  rw [raiseFault, sendFault, if_neg hroom]
  exact congrArg Fcu.fifo ((rushes_frame (w₀ := 68719476736) Frame.refl rfl).fcu (by decide))

theorem raiseFault_keeps (src kind hall addr detail : Nat) (s : State) :
    (raiseFault src kind hall addr detail s).pins = s.pins ∧ (raiseFault src kind hall addr detail s).pwr = s.pwr := by
  have frame : Frame 73014444032 s (raiseFault src kind hall addr detail s) := raiseFault_frame Frame.refl rfl
  exact ⟨frame.pins (by decide), frame.pwr (by decide)⟩

/-- `s` with a fault input seen at 1. -/
def extSeen (n : Nat) (s : State) : State := s.updPins fun p => { p with extHigh := p.extHigh ||| BitVec.ofNat 8 (2 ^ n) }

theorem extFaultRise_low {n : Nat} {s : State} (hn : n < 8) (hlow : s.pins.extHigh.toNat.testBit n = false) (hstop : s.stopped = false) :
    extFaultRise n s = extFaultNow n (extSeen n s) := by
  have hstop' : (extSeen n s).stopped = false := hstop
  have hnew : ¬(8 ≤ n ∨ s.pins.extHigh.toNat.testBit n = true) := by simp [hlow, Nat.not_le.mpr hn]
  rw [extFaultRise, if_neg hnew]
  change (if (extSeen n s).stopped = true then _ else extFaultNow n (extSeen n s)) = _
  rw [hstop', if_neg Bool.false_ne_true]

theorem extFaultRise_high {n : Nat} {s : State} (hhigh : s.pins.extHigh.toNat.testBit n = true) : extFaultRise n s = s := by
  simp [extFaultRise, hhigh]

theorem extFaultFall_there {n : Nat} {s : State} (hn : n < 8) :
    extFaultFall n s = s.updPins fun p => { p with extHigh := p.extHigh &&& ~~~(BitVec.ofNat 8 (2 ^ n)) } := by
  simp [extFaultFall, Nat.not_le.mpr hn]

theorem exec_extFaultRise (n : Nat) (s : State) : exec (.extFaultRise n) s = .next (extFaultRise n s) := rfl

theorem exec_extFaultFall (n : Nat) (s : State) : exec (.extFaultFall n) s = .next (extFaultFall n s) := rfl

/-- `s` with the CCLK PLL out of lock, where it is that one that is lost. -/
def lockLost (pll : Bool) (clock : ClockDomain) (s : State) : State :=
  if pll && clock == .cclk then s.updPwr fun p => { p with lockBit := false } else s

theorem lockLost_keeps (pll : Bool) (clock : ClockDomain) (s : State) :
    (lockLost pll clock s).fcu = s.fcu ∧ (lockLost pll clock s).pins = s.pins := by
  unfold lockLost
  split
  · exact ⟨rfl, rfl⟩
  · exact ⟨rfl, rfl⟩

theorem clockLossOp_needed {pll : Bool} {clock : ClockDomain} {s : State} (h : pll = true ∨ clockNeeded s clock = true) :
    clockLossOp pll clock s = raiseFault Src.pwr Kind.clkLoss noHall 0 0 (lockLost pll clock s) := by
  have hneeded : clockNeeded (lockLost pll clock s) clock = clockNeeded s clock := by
    unfold clockNeeded
    rw [(lockLost_keeps pll clock s).2]
  refine clockLossOp_faults rfl ?_
  rw [hneeded, Bool.or_eq_true]
  exact h

/-- Settles O4: each row by the lemma of its operation. -/
theorem pinEvents : Obligations.PinEvents := by
  unfold Obligations.PinEvents
  refine ⟨?asserted, ?released, ?wake, ?enters, ?falls, ?selfWake, ?selfWakeOff, ?rise, ?high, ?fall, ?clock⟩
  case asserted =>
    intro s
    obtain ⟨hpending, hconf, hpwr⟩ := otpInterrupted_keeps s
    have hflash : (otpInterrupted s).pwr.flash = s.pwr.flash := congrArg Pwr.flash hpwr
    exact ⟨_, exec_powerOnReset_asserted s, rfl, rfl, hflash, rfl, rfl, rfl, rfl, rfl, rfl, rfl, hpending, hconf⟩
  case released => exact fun s hpor => ⟨_, exec_powerOnReset_released hpor, rfl, rfl, rfl⟩
  case wake =>
    intro s hstop henter hreq hpack hs1
    refine ⟨_, exec_fpWake s, ?_⟩
    rw [wakeOp_s1 hstop henter hreq hpack hs1, wakeEnds_pins, wakeEnds_pwr]
    exact ⟨rfl, rfl⟩
  case enters =>
    intro s hreq henter hwake hvoid htarget
    have hpins : (rushesBlock Src.pwr Ev.power s.pins.ptgt.toNat (packEntered s)).pins = (packEntered s).pins := rushesBlock_pins ..
    have hstays : (rushesBlock Src.pwr Ev.power s.pins.ptgt.toNat (packEntered s)).pins.pstate ≠ 0#2 := by
      rw [hpins]
      exact htarget
    refine ⟨_, exec_fpPackRise s, ?_⟩
    rw [packRise_enters hreq henter hwake hvoid, runDeferred_waits hstays]
    have hrest := settled_pinsRest ([], rushesBlock Src.pwr Ev.power s.pins.ptgt.toNat (packEntered s))
    have hpwr := settled_pwrRest ([], rushesBlock Src.pwr Ev.power s.pins.ptgt.toNat (packEntered s))
    rw [hpins] at hrest
    rw [rushesBlock_pwr] at hpwr
    exact ⟨congrArg Pins.pack hrest, congrArg Pins.preq hrest, congrArg Pins.pstate hrest, congrArg Pwr.entering hpwr⟩
  case falls =>
    intro s hpack hwake hvoid
    have hsame : { s.pwr with voided := false } = s.pwr := by rw [← hvoid]
    refine ⟨_, (exec_fpPackFall s).trans (congrArg _ (packFall_quiet hpack hwake hvoid)), rfl, ?_⟩
    simp only [State.updPwr, State.updPins, hsame]
  case selfWake =>
    intro port s hon hs1 hstop henter
    refine ⟨_, (exec_s1SelfWake hon hs1 hstop).trans (congrArg _ (portInput_s1 henter hs1)), wakeEnds_pins s, wakeEnds_pwr s⟩
  case selfWakeOff => exact fun port s hoff => exec_s1SelfWake_off hoff
  case rise =>
    intro n s hn hlow hstop hroom
    obtain ⟨hpins, -⟩ := raiseFault_keeps (Src.extFault n) Kind.extFault noHall 0 0 (extSeen n s)
    exact ⟨_, (exec_extFaultRise n s).trans (congrArg _ (extFaultRise_low hn hlow hstop)), congrArg Pins.extHigh hpins,
      raiseFault_room (s := extSeen n s) hroom⟩
  case high => exact fun n s _ hhigh => ⟨_, exec_extFaultRise n s, extFaultRise_high hhigh⟩
  case fall => exact fun n s hn => ⟨_, exec_extFaultFall n s, extFaultFall_there hn⟩
  case clock =>
    intro pll clock s hneeded hempty
    obtain ⟨hfcu, -⟩ := lockLost_keeps pll clock s
    obtain ⟨-, hpwr⟩ := raiseFault_keeps Src.pwr Kind.clkLoss noHall 0 0 (lockLost pll clock s)
    refine ⟨_, (exec_clockLoss pll clock s).trans (congrArg _ (clockLossOp_needed hneeded)), ?_, ?_⟩
    · rw [raiseFault_room (by rw [hfcu, hempty]; decide), hfcu, hempty]
      rfl
    · rintro rfl rfl
      exact hpwr

end Sys2Proof.Machine
end

section
/-! The OTP pins and the life-cycle controller: what each command of LC_CMD begins or does at once. -/

namespace Sys2Proof.Machine

-- One declaration at a time, so that the elaborator holds few threads (each takes stack of its own).
set_option Elab.async false

/-! ### OTP programming (R58, R59) -/

theorem exec_otpVppOk (s : State) : exec .otpVppOk s = .next (otpVppOkOp s) := rfl

theorem exec_otpProgramDone (s : State) : exec .otpProgramDone s = .next (settled (otpDone s)) := rfl

/-- The supply's arrival starts the head word. -/
theorem otpVppOkOp_starts {w : Nat} {b : BitVec 39} {rest : List (Nat × BitVec 39)} {s : State} (hreq : s.lc.vppReq = true)
    (hqueue : s.lc.otpQueue = (w, b) :: rest) (hidle : s.lc.otpBusy = false) :
    otpVppOkOp s = (s.updLc fun l => { l with vppOk := true, pgm := true, otpBusy := true }).emit (.otp w b) := by
  simp only [otpVppOkOp, hreq, if_true, otpPulse, State.updLc_lc, hqueue, hidle, Bool.not_false, Bool.and_self]
  rfl

theorem otpPulse_otp (s : State) : (otpPulse s).lc.otp = s.lc.otp := by
  have frame : Frame 35184372089344 s (otpPulse s) := otpPulse_frame Frame.refl rfl
  exact frame.otp (by decide)

/-- R58: the word's bits are joined to those it had. -/
theorem otpWordDone_otp {w : Nat} {b : BitVec 39} {rest : List (Nat × BitVec 39)} {s : State} (hbusy : s.lc.otpBusy = true)
    (hqueue : s.lc.otpQueue = (w, b) :: rest) : (otpWordDone s).lc.otp = s.lc.otp.mod w fun o => otpProgram o b := by
  simp only [otpWordDone, hqueue, hbusy, if_true, otpPulse_otp, State.updLc_lc]

theorem otpJobDone_otp (s : State) : (otpJobDone s).lc.otp = s.lc.otp := by
  have frame : Frame 2199023256070 s (otpJobDone s) := otpJobDone_frame Frame.refl rfl
  exact frame.otp (by decide)

theorem t3Order_otp (w : Waiter) (s : State) : (t3Order w s).2.lc.otp = s.lc.otp := by
  have frame : Frame 113249697659902 s (t3Order w s).2 := t3Order_frame Frame.refl rfl
  exact frame.otp (by decide)

theorem settled_otp (r : List Ans × State) : (settled r).lc.otp = r.2.lc.otp := by
  have frame : Frame 56441417934970 r.2 (settled r) := settled_frame Frame.refl rfl
  exact frame.otp (by decide)

/-- What the end of a word brings, a T3 included, leaves the OTP words as the word left them. -/
theorem otpDone_otp {s : State} (hbusy : s.lc.otpBusy = true) : (otpDone s).2.lc.otp = (otpWordDone s).lc.otp := by
  have hreset := (t3Order_otp noWaiter (otpJobDone (otpWordDone s))).trans (otpJobDone_otp _)
  simp only [otpDone, hbusy, Bool.not_true, Bool.false_eq_true, if_false]
  split
  case isTrue => rfl
  case isFalse =>
    split
    case h_1 =>
      change (if _ then State.lcEvent 0 _ else _ : State).lc.otp = _
      split
      · exact hreset
      · exact hreset
    case h_2 => exact otpJobDone_otp _

/-! ### LC_CMD (R104) -/

theorem exec_lcBegin (target : BitVec 3) (s : State) : exec (.lcBegin target) s = .next (lcCommand 1 target s) := rfl

theorem exec_lcEraseReport (s : State) : exec .lcEraseReport s = .next (lcCommand 2 s.lc.target s) := rfl

theorem exec_lcCommit (s : State) : exec .lcCommit s = .next (lcCommand 3 s.lc.target s) := rfl

theorem exec_lcRollbackAdvance (s : State) : exec .lcRollbackAdvance s = .next (lcCommand 4 s.lc.target s) := rfl

theorem exec_lcNewNonce (s : State) : exec .lcNewNonce s = .next (lcCommand 5 s.lc.target s) := rfl

theorem exec_lcGrant (s : State) : exec .lcGrant s = .next (lcCommand 6 s.lc.target s) := rfl

theorem exec_lcClearRights (s : State) : exec .lcClearRights s = .next (lcCommand 7 s.lc.target s) := rfl

/-- `s` with the fields of an LC_CMD loaded. -/
def lcTaken (op : Nat) (target : BitVec 3) (s : State) : State := s.updLc fun l => { l with op := BitVec.ofNat 4 op, target := target }

theorem otpActive_of_empty {s : State} (hqueue : s.lc.otpQueue = []) : otpActive s = false := by
  rw [otpActive, hqueue]
  rfl

/-- R96, R97: the Keeper's request with its token begins with the intent word. -/
theorem transitionOp_begins {target : Nat} {token : Bytes} {s : State} (hlock : s.lc.tokenLock = false) (hrun : s.lc.running = none)
    (hqueue : s.lc.otpQueue = []) (hpair : pairOk s target none = true) (htoken : tokenless s target = false)
    (hdigest : Crypto.digestBytes (Config.sha384 (fit token 16)) = otpBytes s.lc.otp (tokenWord target) 12) :
    transitionOp target token none s
      = (Status.ok, otpStart [(99 + target, otpFull)] (.intent target) (s.updLc fun l => { l with running := some target })) := by
  simp [transitionOp, hlock, hrun, otpActive_of_empty hqueue, hpair, htoken, hdigest]

theorem lcCommand_begin {target : BitVec 3} {s : State} (hgo : s.lc.go = false)
    (hop : transitionOp target.toNat (lcToken s) none (lcTaken 1 target s) = (Status.ok, otpStart [(99 + target.toNat, otpFull)]
      (.intent target.toNat) ((lcTaken 1 target s).updLc fun l => { l with running := some target.toNat }))) :
    lcCommand 1 target s = s.updLc fun l => { l with
      op := 1#4, target := target, running := some target.toNat, otpQueue := [(99 + target.toNat, otpFull)]
      otpThen := .intent target.toNat, vppReq := true, go := true } := by
  change (if s.lc.go = true then s else match transitionOp target.toNat (lcToken s) none (lcTaken 1 target s) with
    | (st, s) => if st = Status.ok then lcRuns s else lcFinish (st, s)) = _
  rw [hop]
  simp [hgo, lcRuns, otpStart, lcTaken, State.updLc]

theorem lcCommand_eraseReport {target : BitVec 3} {s : State} (hgo : s.lc.go = false) (hqueue : s.lc.otpQueue = [])
    (hscrap : s.lcPending ≠ some scrap) :
    lcCommand 2 target s = s.updLc fun l => { l with op := 2#4, target := target, eraseDone := true, result := Status.ok } := by
  have hreport : eraseReportOp (lcTaken 2 target s) = (lcTaken 2 target s).updLc fun l => { l with eraseDone := true } := if_neg hscrap
  change (if s.lc.go = true then s else if otpActive (lcTaken 2 target s) = true then _ else
    if otpActive (eraseReportOp (lcTaken 2 target s)) = true then _ else lcFinish (Status.ok, eraseReportOp (lcTaken 2 target s))) = _
  rw [hreport, otpActive_of_empty (s := lcTaken 2 target s) hqueue,
    otpActive_of_empty (s := (lcTaken 2 target s).updLc fun l => { l with eraseDone := true }) hqueue]
  simp [hgo, lcFinish, lcTaken, State.updLc]

/-- R98: with the vault locked, and the erase reported where the target asks for it, the state word is programmed. -/
theorem commitOp_begins {n : Nat} {s : State} (hqueue : s.lc.otpQueue = []) (hpending : s.lcPending = some n) (hlocked : s.kv.locked = true)
    (herase : n < 3 ∨ s.lc.eraseDone = true) : commitOp s = (Status.ok, otpStart [(95 + n, otpFull)] (.stateWord n) s) := by
  have herased : (decide (3 ≤ n) && !s.lc.eraseDone) = false := by
    rcases herase with h | h
    · rw [decide_eq_false (Nat.not_le.mpr h), Bool.false_and]
    · rw [h, Bool.not_true, Bool.and_false]
  simp [commitOp, hpending, hlocked, herased, otpActive_of_empty hqueue]

theorem lcCommand_commit {target : BitVec 3} {n : Nat} {s : State} (hgo : s.lc.go = false)
    (hop : commitOp (lcTaken 3 target s) = (Status.ok, otpStart [(95 + n, otpFull)] (.stateWord n) (lcTaken 3 target s))) :
    lcCommand 3 target s = s.updLc fun l => { l with
      op := 3#4, target := target, otpQueue := [(95 + n, otpFull)], otpThen := .stateWord n, vppReq := true, go := true } := by
  change (if s.lc.go = true then s else match commitOp (lcTaken 3 target s) with
    | (st, s) => if st = Status.ok then lcRuns s else lcFinish (st, s)) = _
  rw [hop]
  simp [hgo, lcRuns, otpStart, lcTaken, State.updLc]

/-- R100: the counter is advanced by one bit. -/
theorem lcCommand_rollbackAdvance {target : BitVec 3} {s : State} (hgo : s.lc.go = false) (hqueue : s.lc.otpQueue = [])
    (hroom : rollbackCount s.lc.otp < 4992) :
    lcCommand 4 target s = s.updLc fun l => { l with
      op := 4#4, target := target, otpQueue := rollbackBits (rollbackCount s.lc.otp) (rollbackCount s.lc.otp + 1)
      otpThen := .rollback (rollbackCount s.lc.otp + 1), vppReq := true, go := true } := by
  change (if s.lc.go = true then s else if otpActive (lcTaken 4 target s) = true then _ else
    if 4992 ≤ rollbackCount s.lc.otp then _ else lcRuns (rollbackStart (rollbackCount s.lc.otp + 1) (lcTaken 4 target s))) = _
  rw [otpActive_of_empty (s := lcTaken 4 target s) hqueue, hgo, if_neg (Nat.not_le.mpr hroom)]
  simp [lcRuns, rollbackStart, otpStart, lcTaken, State.updLc]

theorem lcCommand_newNonce {target : BitVec 3} {s : State} (hgo : s.lc.go = false) :
    lcCommand 5 target s = lcFinish (Status.ok, newNonce (lcTaken 5 target s)) := by
  change (if s.lc.go = true then s else _) = _
  simp only [hgo, Bool.false_eq_true, if_false]
  rfl

theorem lcCommand_grant {target : BitVec 3} {s : State} (hgo : s.lc.go = false) :
    lcCommand 6 target s = lcFinish (certOp (keyRegion s 0 224) (lcTaken 6 target s)) := by
  change (if s.lc.go = true then s else _) = _
  simp only [hgo, Bool.false_eq_true, if_false]
  rfl

theorem lcCommand_clearRights {target : BitVec 3} {s : State} (hgo : s.lc.go = false) :
    lcCommand 7 target s = s.updLc fun l => { l with
      op := 7#4, target := target, rights := 0#6, issuer := false, halted := false, result := Status.ok } := by
  change (if s.lc.go = true then s else lcFinish (Status.ok, clearRights (lcTaken 7 target s))) = _
  simp [hgo, lcFinish, clearRights, lcTaken, State.updLc]

/-! ### Nonces and certificates (R105, R108, R109) -/

/-- The consents are recounted; the nonce and the consents themselves stay. -/
theorem recountConsent_keeps (s : State) :
    (recountConsent s).lc.nonce = s.lc.nonce ∧ (recountConsent s).lc.nonceValid = s.lc.nonceValid
      ∧ (recountConsent s).lc.consents = s.lc.consents := by
  unfold recountConsent
  dsimp only
  split
  · simp [State.lcEvent]
  · simp

theorem recountConsent_rest (s : State) : (recountConsent s).draws = s.draws ∧ (recountConsent s).att = s.att := by
  have frame : Frame 512 s (recountConsent s) := recountConsent_frame Frame.refl rfl
  exact ⟨frame.draws (by decide), frame.att (by decide)⟩

/-- `s` with the rights of a certificate in force. -/
def rightsGranted (c : Bytes) (s : State) : State :=
  s.updLc fun l => { l with rights := BitVec.ofNat 6 (num c 5 1), issuer := num c 4 1 == 2 }

/-- A Keeper that has no right to halt runs (R105). -/
def haltDropped (s : State) : State := if s.rightHalt then s else s.updLc fun l => { l with halted := false }

theorem haltDropped_keeps (s : State) :
    (haltDropped s).lc.rights = s.lc.rights ∧ (haltDropped s).lc.issuer = s.lc.issuer ∧ (haltDropped s).lc.nonceValid = s.lc.nonceValid
      ∧ (haltDropped s).att = s.att := by
  unfold haltDropped
  split
  · exact ⟨rfl, rfl, rfl, rfl⟩
  · exact ⟨rfl, rfl, rfl, rfl⟩

theorem nonceUsed_keeps (s : State) : (nonceUsed s).lc.nonceValid = false ∧ (nonceUsed s).att = s.att := by
  obtain ⟨-, hvalid, -⟩ := recountConsent_keeps (s.updLc fun l => { l with nonceValid := false, consents := [] })
  obtain ⟨-, hatt⟩ := recountConsent_rest (s.updLc fun l => { l with nonceValid := false, consents := [] })
  exact ⟨hvalid, hatt⟩

theorem rightsGranted_after_nonceUsed (c : Bytes) (s : State) :
    (haltDropped (rightsGranted c (nonceUsed s))).lc.rights = BitVec.ofNat 6 (num c 5 1)
      ∧ (haltDropped (rightsGranted c (nonceUsed s))).lc.issuer = (num c 4 1 == 2)
      ∧ (haltDropped (rightsGranted c (nonceUsed s))).lc.nonceValid = false
      ∧ (haltDropped (rightsGranted c (nonceUsed s))).att = s.att := by
  obtain ⟨hrights, hissuer, hvalid, hatt⟩ := haltDropped_keeps (rightsGranted c (nonceUsed s))
  obtain ⟨hused, hatt'⟩ := nonceUsed_keeps s
  exact ⟨hrights, hissuer, hvalid.trans hused, hatt.trans hatt'⟩

/-- A certificate of the right form and signature replaces the rights and is measured (R109, R117). -/
theorem certOp_accepts {c : Bytes} {s : State} (hform : certForm s c = true)
    (hsigned : Config.ecdsaVerify (sub c 32 96) (Config.sha384 (sub c 0 128)) (sub c 128 96) = true) :
    certOp c s = (Status.ok,
      measPut 5 (Crypto.digestBytes (Config.sha384 (debugRecord c))) (haltDropped (rightsGranted c (nonceUsed s)))) := by
  simp only [certOp, hform, hsigned, Bool.not_true, Bool.false_eq_true, if_false]
  rfl

/-! ### Scan and halt (R62, R105) -/

theorem exec_scanModeRequest_testOpen {level : Bool} {s : State} (h : s.lcState = testOpen) :
    exec (.scanModeRequest level) s
      = .next ((s.updPins fun p => { p with scanOn := level }).opened.emit (.scan level (if level then s.open64.setWidth 8 else 0#8))) := by
  change goOn (if s.lcState = testOpen then _ else _) = _
  rw [if_pos h]

theorem exec_scanModeRequest_later {level : Bool} {s : State} (h : s.lcState ≠ testOpen) : exec (.scanModeRequest level) s = .next s := by
  change goOn (if s.lcState = testOpen then _ else _) = _
  rw [if_neg h]

theorem exec_keeperHaltRequest {s : State} (hright : s.rightHalt = true) (hconsent : s.consentGiven = true) :
    exec .keeperHaltRequest s = .next (s.updLc fun l => { l with halted := true }) := by
  change goOn (if (s.rightHalt && s.consentGiven) = true then _ else _) = _
  rw [hright, hconsent, Bool.and_self, if_pos rfl]

/-- Settles O6: each row by the lemma of its operation. -/
theorem otpAndLifeCycleCommands : Obligations.OtpAndLifeCycleCommands := by
  unfold Obligations.OtpAndLifeCycleCommands
  refine ⟨?supply, ?word, ?begin, ?erase, ?commit, ?rollback, ?nonce, ?grant, ?clear, ?scan, ?scanLater, ?halt⟩
  case supply =>
    intro w b rest s hreq hqueue hidle
    exact ⟨_, (exec_otpVppOk s).trans (congrArg _ (otpVppOkOp_starts hreq hqueue hidle)), rfl, rfl, rfl⟩
  case word =>
    intro w b rest s hbusy hqueue hwf
    have hotp : (settled (otpDone s)).lc.otp = s.lc.otp.mod w fun o => otpProgram o b :=
      (settled_otp _).trans ((otpDone_otp hbusy).trans (otpWordDone_otp hbusy hqueue))
    refine ⟨_, exec_otpProgramDone s, ?_, fun v hv => ?_⟩
    · rw [hotp, Tab.get_mod hwf]
      rfl
    · rw [hotp, Tab.get_mod_ne hv]
  case begin =>
    intro target s hgo hlock hrun hqueue hpair htoken hdigest
    have hop := transitionOp_begins (s := lcTaken 1 target s) hlock hrun hqueue hpair htoken hdigest
    exact ⟨_, (exec_lcBegin target s).trans (congrArg _ (lcCommand_begin hgo hop)), rfl, rfl, rfl, rfl, rfl⟩
  case erase =>
    intro s hgo hqueue hscrap
    exact ⟨_, (exec_lcEraseReport s).trans (congrArg _ (lcCommand_eraseReport hgo hqueue hscrap)), rfl, rfl⟩
  case commit =>
    intro n s hgo hqueue hpending hlocked herase
    have hop := commitOp_begins (s := lcTaken 3 s.lc.target s) hqueue hpending hlocked herase
    exact ⟨_, (exec_lcCommit s).trans (congrArg _ (lcCommand_commit hgo hop)), rfl, rfl, rfl, rfl⟩
  case rollback =>
    intro s hgo hqueue hroom
    exact ⟨_, (exec_lcRollbackAdvance s).trans (congrArg _ (lcCommand_rollbackAdvance hgo hqueue hroom)), rfl, rfl, rfl, rfl⟩
  case nonce =>
    intro s hgo
    refine ⟨_, (exec_lcNewNonce s).trans (congrArg _ (lcCommand_newNonce hgo)), ?_⟩
    obtain ⟨hnonce, hvalid, hconsents⟩ := recountConsent_keeps (((lcTaken 5 s.lc.target s).updLc fun l => { l with
      nonce := s.draw.setWidth 128, nonceValid := true, consents := [] }).drew)
    obtain ⟨hdraws, -⟩ := recountConsent_rest (((lcTaken 5 s.lc.target s).updLc fun l => { l with
      nonce := s.draw.setWidth 128, nonceValid := true, consents := [] }).drew)
    exact ⟨hnonce, hvalid, hconsents, rfl, hdraws⟩
  case grant =>
    intro s hgo hform hsigned
    refine ⟨_, (exec_lcGrant s).trans (congrArg _ ((lcCommand_grant hgo).trans
      (congrArg lcFinish (certOp_accepts (s := lcTaken 6 s.lc.target s) hform hsigned)))), ?_⟩
    obtain ⟨hrights, hissuer, hvalid, hatt⟩ := rightsGranted_after_nonceUsed (keyRegion s 0 224) (lcTaken 6 s.lc.target s)
    refine ⟨hrights, hissuer, hvalid, rfl, ?_⟩
    exact congrArg (fun a : At => a.meas.set 5 (Config.sha384 (Crypto.digestBytes (a.meas.get 5) ++ _))) hatt
  case clear =>
    intro s hgo
    exact ⟨_, (exec_lcClearRights s).trans (congrArg _ (lcCommand_clearRights hgo)), rfl, rfl⟩
  case scan => exact fun level s h => ⟨_, exec_scanModeRequest_testOpen h, rfl, rfl, rfl⟩
  case scanLater => exact fun level s h => ⟨_, exec_scanModeRequest_later h, rfl⟩
  case halt => exact fun s hright hconsent => ⟨_, exec_keeperHaltRequest hright hconsent, rfl⟩

end Sys2Proof.Machine
end

section
/-! Migration: what HALL_SAVE does to an item that waits for a key of the hall's generation. -/

namespace Sys2Proof.Machine

-- One declaration at a time, so that the elaborator holds few threads (each takes stack of its own).
set_option Elab.async false

/-- A frozen hall 0 with its hall key resident and the host port open; a pair key of its generation waits to be derived, and the front
end waits for it with the item that queue 0 has fetched (R77, R78). -/
def savedUnderLookup : State :=
  { State.reset with
    pins := { State.reset.pins with hpEn := true }
    itu := { (default : Itu) with halls := [(0, { (default : Hall) with
      state := .frozen, birth := some 0#32, hallKey := 0x30000000#32, quota := [2#8] })] }
    kv := { State.reset.kv with
      slots := [(0, { (default : KeySlot) with valid := true, handle := 0x30000000#32 })]
      queue := [{ (default : Derivation) with handle := 0x20000000#32, tickets := [(Src.fe, 0)] }] }
    fe := { State.reset.fe with queues := [(0, { (default : Queue) with state := .ready, fetched := some [] })] } }

/-- R85, R365: the save retires the pair keys of the hall's generation, and the item that waits for one is marked. -/
theorem ituSave_marks_item : ∃ t, exec (.ituSave []) savedUnderLookup = .next t ∧ (queueOf t 0).keyFail = true :=
  ⟨_, rfl, by decide +kernel⟩

/-- A hall's new state and its answers leave the front end alone. -/
theorem hallDone_hallChange_fe (hall : Nat) (who : List (Nat × Nat)) (st : Status) (data : Bytes) (f : Hall → Hall) (s : State) :
    (hallDone hall who st data (hallChange hall f s)).fe = s.fe := by
  have hchange : Frame 35185445830680 s (hallChange hall f s) := hallChange_frame Frame.refl rfl
  have hdone : Frame 2200096997376 (hallChange hall f s) (hallDone hall who st data (hallChange hall f s)) :=
    hallDone_frame Frame.refl rfl
  exact (hdone.fe (by decide)).trans (hchange.fe (by decide))

/-- Refutes O23: its clauses 6 and 7 have the front end unchanged by a save, from every state that meets their premises. The save retires
the pair keys of the hall's generation, and a queue whose item waits for one has that item marked (R85); no premise of these clauses
says that no such item waits. -/
theorem not_migrationAndTranslation : ¬ Obligations.MigrationAndTranslation := by
  unfold Obligations.MigrationAndTranslation
  rintro ⟨-, -, -, -, -, -, saves, -⟩
  obtain ⟨v, n, hv, -, hfe⟩ := saves [] _ _ savedUnderLookup _ rfl rfl rfl (by decide +kernel) rfl
  obtain ⟨t, ht, hmarked⟩ := ituSave_marks_item
  obtain rfl := Host.Outcome.next.inj (ht.symm.trans hv)
  unfold queueOf at hmarked
  rw [hallDone_hallChange_fe, hfe] at hmarked
  exact absurd hmarked (by decide)

end Sys2Proof.Machine
end

section
/-! The key vault: where a key enters the cache, what a lookup that hits loads, the derivation queue, and each KV_CMD. -/

namespace Sys2Proof.Machine

-- One declaration at a time, so that the elaborator holds few threads (each takes stack of its own).
set_option Elab.async false

/-! ### Keys enter the cache (R72, R73, R81) -/

/-- `s` with a key in slot `i`. -/
def keyPlaced (i : Nat) (x : KeySlot) (s : State) : State := s.updKv fun k => { k with slots := k.slots.set i x }

theorem keyPlaced_region (i : Nat) (x : KeySlot) (s : State) : (keyPlaced i x s).kv.region = s.kv.region := rfl

/-- A key of a new handle enters the free pinned slot, unless it is a pair key under REPLACE. -/
theorem placePinned_new {replace : Bool} {x : KeySlot} {i : Nat} {s : State} (hpair : (replace && isPairKey x) = false)
    (hnew : slotOf s.kv x.handle = none) (hfree : freePinned s.kv = some i) :
    placePinned replace x s = (Status.ok, keyPlaced i x s) := by
  simp only [placePinned, hpair, Bool.false_eq_true, if_false, hnew, placeFree, hfree]
  rfl

/-- A key of a new handle enters the free derived slot, as the one used last. -/
theorem placeDerived_new {x : KeySlot} {i : Nat} {s : State} (hnew : slotOf s.kv x.handle = none) (hfree : freeDerived s.kv = some i) :
    placeDerived x s = s.updKv fun k => { k with slots := k.slots.set i x, lru := k.lru.filter (· != i) ++ [i] } := by
  simp only [placeDerived, hnew, hfree]

/-- Of the keys at level 1 only those of class 2 are pair keys (R69). -/
theorem isPairKey_levelOne {h : Handle} {pi gen : Nat} {service : Bool} {attr : BitVec 4} {budget : Nat} {key : BitVec 256}
    (hclass : hClass h ≠ 2) : isPairKey (upperSlot h 1 pi gen service attr budget key) = false := by
  change (hClass h == 2 || (hClass h == 1 && (1 : Nat) == 3)) = false
  simp [hclass]

theorem purposeOf_levelFour {code cls : Nat} (h : purposeOf code = some (4, cls)) : 4 ≤ cls := by
  unfold purposeOf at h
  split at h <;> simp at h <;> omega

/-- R69: the purposes of level 4 are those of the classes 4 to 7. -/
theorem labelLevel_levelFour {l : Bytes} {cls : Nat} (h : labelLevel l cls = some 4) : 4 ≤ cls := by
  unfold labelLevel at h
  split at h
  case h_1 level c hpurpose =>
    split at h
    case isTrue hform =>
      obtain ⟨hclass, -⟩ := hform
      obtain rfl := Option.some.inj h
      exact hclass ▸ purposeOf_levelFour hpurpose
    case isFalse => simp at h
  case h_2 => simp at h

/-- R78: what the fast deriver may derive stands at level 4. -/
theorem fastOk_levelFour {k : Kv} {handle parent : Handle} {label : Bytes} (h : fastOk k handle parent label = true) :
    4 ≤ hClass handle := by
  unfold fastOk at h
  split at h
  case h_1 =>
    simp only [Bool.and_eq_true, beq_iff_eq] at h
    obtain ⟨⟨⟨⟨-, hlevel⟩, -⟩, -⟩, -⟩ := h
    exact labelLevel_levelFour hlevel
  case h_2 => simp at h

/-- A key of the classes 4 to 7 is no pair key. -/
theorem isPairKey_upperClass {x : KeySlot} (h : 4 ≤ hClass x.handle) : isPairKey x = false := by
  have htwo : hClass x.handle ≠ 2 := by omega
  have hone : hClass x.handle ≠ 1 := by omega
  simp [isPairKey, htwo, hone]

/-! ### Lookups (R75 to R77, R85) -/

theorem exec_keyLookup (l : Lookup) (s : State) : exec (.keyLookup l) s = .next (keyLookupOp l s) := rfl

theorem exec_keyRegisterDrop (unit : Nat) (s : State) : exec (.keyRegisterDrop unit) s = .next (dropKeyRegister unit s) := rfl

theorem injected_of_unarmed {src kind : Nat} {s : State} (h : s.fcu.armed = false) : injected src kind s = false := by
  simp [injected, h]

/-- An empty key register has no lease to give back. -/
theorem returnLease_empty {unit : Nat} {s : State} (h : s.kv.pipes.get unit = default) :
    returnLease unit s = s.updKv fun k => { k with pipes := k.pipes.set unit default } := by
  have hinvalid : (s.kv.pipes.get unit).valid = false := by
    rw [h]
    rfl
  simp [returnLease, hinvalid]

theorem returnLease_rest (unit : Nat) (s : State) : (returnLease unit s).fcu = s.fcu ∧ (returnLease unit s).out = s.out
    ∧ (returnLease unit s).kv.locked = s.kv.locked := by
  unfold returnLease
  dsimp only
  split
  · exact ⟨rfl, rfl, rfl⟩
  · exact ⟨rfl, rfl, rfl⟩

/-- Beside the unit's register, a load may count a change of key in the line seal pipes. -/
theorem loadRegister_keeps (unit : Nat) (r : PipeKey) (s : State) :
    (loadRegister unit r s).kv = { s.kv with pipes := s.kv.pipes.set unit r } ∧ (loadRegister unit r s).out = s.out := by
  unfold loadRegister
  dsimp only
  split
  · exact ⟨rfl, rfl⟩
  · exact ⟨rfl, rfl⟩

theorem rushes_keeps (unit ev hall scene shot arg : Nat) (s : State) :
    (rushes unit ev hall scene shot arg s).kv = s.kv ∧ (rushes unit ev hall scene shot arg s).out = s.out := by
  have frame : Frame 68719476736 s (rushes unit ev hall scene shot arg s) := rushes_frame Frame.refl rfl
  exact ⟨frame.kv (by decide), frame.out (by decide)⟩

/-- The key register that a hit without a lease loads. -/
def hitRegister (l : Lookup) (i : Nat) (key : BitVec 256) : PipeKey :=
  { valid := true, handle := l.handle, slot := i, hall := l.hall, hgen := l.hgen, key := key, lease := 0, dropping := false }

/-- `s` with a hit of slot `i` counted, and a derived slot as the one used last. -/
def slotUsed (i : Nat) (s : State) : State :=
  if pinLimit s.kv ≤ i then (s.kvCount 0).updKv fun k => { k with lru := k.lru.filter (· != i) ++ [i] } else s.kvCount 0

theorem slotUsed_keeps (i : Nat) (s : State) :
    (slotUsed i s).kv.slots = s.kv.slots ∧ (slotUsed i s).kv.pipes = s.kv.pipes ∧ (slotUsed i s).out = s.out := by
  unfold slotUsed
  split
  · exact ⟨rfl, rfl, rfl⟩
  · exact ⟨rfl, rfl, rfl⟩

/-- A hit under a key without a budget takes no lease (R76). -/
theorem serveHit_unbudgeted {l : Lookup} {i : Nat} {s : State} (h : (s.kv.slots.get i).budgetOn = false) :
    serveHit l i s = (.hit (s.kv.slots.get i).key, rushes l.unit Ev.keyLoad l.hall 0 0 (bits l.handle.toNat 0 16)
      (loadRegister l.unit (hitRegister l i (s.kv.slots.get i).key) (slotUsed i s))) := by
  simp only [serveHit, h, Bool.and_false, Bool.false_and, Bool.false_eq_true, if_false]
  rfl

theorem serveHit_keeps {l : Lookup} {i : Nat} {s : State} (h : (s.kv.slots.get i).budgetOn = false) :
    (serveHit l i s).2.out = s.out ∧ (serveHit l i s).2.kv.slots = s.kv.slots
      ∧ (serveHit l i s).2.kv.pipes = s.kv.pipes.set l.unit (hitRegister l i (s.kv.slots.get i).key) := by
  rw [serveHit_unbudgeted h]
  dsimp only
  obtain ⟨hkv, hout⟩ := rushes_keeps l.unit Ev.keyLoad l.hall 0 0 (bits l.handle.toNat 0 16)
    (loadRegister l.unit (hitRegister l i (s.kv.slots.get i).key) (slotUsed i s))
  obtain ⟨hkv', hout'⟩ := loadRegister_keeps l.unit (hitRegister l i (s.kv.slots.get i).key) (slotUsed i s)
  obtain ⟨hslots, hpipes, hout''⟩ := slotUsed_keeps i s
  rw [hkv, hkv', hout, hout', hslots, hpipes]
  exact ⟨hout'', rfl, rfl⟩

/-- R75: a resident key of classes 2 to 7 that the data path may use, of the item's hall and generation, is a hit. -/
theorem lookupKey_hits {l : Lookup} {i : Nat} {s : State} (hsafe : s.fcu.safe = false) (hlocked : s.kv.locked = false)
    (hslot : slotOf (returnLease l.unit s).kv l.handle = some i) (huse : ((returnLease l.unit s).kv.slots.get i).dpUse = true)
    (hclass : 2 ≤ hClass l.handle) (hhall : hHall l.handle = l.hall) (hgen : ((returnLease l.unit s).kv.slots.get i).hgen = l.hgen) :
    lookupKey l s = serveHit l i (returnLease l.unit s) := by
  obtain ⟨hfcu, -, hlocked'⟩ := returnLease_rest l.unit s
  have hone : (hClass l.handle == 1) = false := by simpa using (by omega : hClass l.handle ≠ 1)
  simp [lookupKey, hfcu, hsafe, hlocked', hlocked, hslot, huse, hone, hhall, hgen]

/-- A hit answers OK. -/
theorem keyLookupOp_hits {l : Lookup} {i : Nat} {s u : State} (harmed : s.fcu.armed = false) (hlookup : lookupKey l s = serveHit l i u)
    (hbudget : (u.kv.slots.get i).budgetOn = false) :
    keyLookupOp l s = (serveHit l i u).2.emit (.keyAnswer l.ticket Status.ok) := by
  simp only [keyLookupOp, injected_of_unarmed harmed, Bool.false_eq_true, if_false, hlookup, serveHit_unbudgeted hbudget]

theorem hitRegister_ne_default (l : Lookup) (i : Nat) (key : BitVec 256) : hitRegister l i key ≠ default := fun h =>
  Bool.noConfusion (congrArg PipeKey.valid h)

theorem dropKeyRegister_drops {unit : Nat} {s : State} (h : (s.kv.pipes.get unit).dropping = true) :
    dropKeyRegister unit s = s.updKv fun k => { k with pipes := k.pipes.set unit default } := if_pos h

/-! ### The derivation queue (R78) -/

theorem exec_derivationQueueAdmit (s : State) : exec .derivationQueueAdmit s = .next (admitDerivation s) := rfl

theorem exec_fastDerivationDone (s : State) : exec .fastDerivationDone s = .next (settled ([], derivationDone s)) := rfl

/-- A request for a handle that no queued one has enters at the end while there is room. -/
theorem enqueue_new {d : Derivation} {s : State} (hnew : (s.kv.queue.any fun x => x.handle == d.handle) = false)
    (hroom : s.kv.queue.length < 64) : enqueue d s = s.updKv fun k => { k with queue := k.queue ++ [d] } := by
  simp only [enqueue, hnew, Bool.false_eq_true, if_false, hroom, if_true]

theorem admitDerivation_enters {d : Derivation} {rest : List Derivation} {s : State} (hstalled : s.kv.stalled = d :: rest)
    (hroom : s.kv.queue.length < 64) (hnew : (s.kv.queue.any fun x => x.handle == d.handle) = false) :
    admitDerivation s = s.updKv fun k => { k with stalled := rest, queue := k.queue ++ [d] } := by
  simp only [admitDerivation, hstalled, hroom, if_true]
  exact enqueue_new (s := s.updKv fun k => { k with stalled := rest }) hnew hroom

/-- `s` with the derivation at the head of the queue taken. -/
def headTaken (s : State) : State := s.updKv fun k => { k with queue := k.queue.tail }

/-- The slot of the key that a derivation writes. -/
def childSlot (d : Derivation) (k : Kv) : KeySlot :=
  derivedSlot d ((slotOf k d.parent).getD 0) (k.slots.get ((slotOf k d.parent).getD 0))

/-- The key register of a requester that a derivation answers. -/
def childRegister (d : Derivation) (i : Nat) (key : BitVec 256) : PipeKey :=
  { valid := true, handle := d.handle, slot := i, hall := hHall d.handle, hgen := d.hgen, key := key, lease := 0, dropping := false }

/-- A requester has the derived key in its register and its answer. -/
def childAnswered (d : Derivation) (i : Nat) (key : BitVec 256) (t : Nat × Nat) (s : State) : State :=
  (loadRegister t.1 (childRegister d i key) (returnLease t.1 s)).emit (.keyAnswer t.2 Status.ok)

/-- Everyone who waits for a derivation is answered. -/
def childrenAnswered (d : Derivation) (key : BitVec 256) (s : State) : State :=
  forAll d.tickets (childAnswered d ((slotOf s.kv d.handle).getD 0) key) s

/-- A derivation whose parent still serves places its key, answers who waits for it, and ends a prefill. -/
theorem derivationDone_places {d : Derivation} {rest : List Derivation} {s u : State} {st : Status} (hqueue : s.kv.queue = d :: rest)
    (harmed : s.fcu.armed = false) (hfast : fastOk s.kv d.handle d.parent d.label = true)
    (hplace : placeChild d (childSlot d s.kv) (headTaken s) = (st, u)) :
    derivationDone s =
      (if d.pinned then (childrenAnswered d (childSlot d s.kv).key (u.kvCount 2)).updKv fun k => { k with go := false, result := st }
        else childrenAnswered d (childSlot d s.kv).key (u.kvCount 2)) := by
  have htaken : (s.updKv fun k => { k with queue := rest }) = headTaken s := by
    simp only [headTaken, State.updKv, hqueue, List.tail_cons]
  have hfast' : fastOk (headTaken s).kv d.handle d.parent d.label = true := hfast
  have hplace' : placeChild d (derivedSlot d ((slotOf (headTaken s).kv d.parent).getD 0)
      ((headTaken s).kv.slots.get ((slotOf (headTaken s).kv d.parent).getD 0))) (headTaken s) = (st, u) := hplace
  simp only [derivationDone, hqueue, htaken, hfast', injected_of_unarmed (s := headTaken s) harmed, Bool.not_true, Bool.false_eq_true,
    if_false, hplace']
  rfl

theorem placeChild_pinned {d : Derivation} {i : Nat} {x : KeySlot} {s : State} (hpinned : d.pinned = true)
    (hplace : placePinned true x s = (Status.ok, keyPlaced i x s)) : placeChild d x s = (Status.ok, keyPlaced i x s) := by
  simp [placeChild, hpinned, hplace]

theorem placeChild_derived {d : Derivation} {x : KeySlot} {s : State} (hpinned : d.pinned = false) :
    placeChild d x s = (Status.ok, placeDerived x s) := by
  simp [placeChild, hpinned]

theorem childAnswered_keeps {d : Derivation} {i : Nat} {key : BitVec 256} {unit ticket : Nat} {s : State}
    (hempty : s.kv.pipes.get unit = default) :
    (childAnswered d i key (unit, ticket) s).kv.slots = s.kv.slots ∧ (childAnswered d i key (unit, ticket) s).kv.queue = s.kv.queue
      ∧ (childAnswered d i key (unit, ticket) s).out = .keyAnswer ticket Status.ok :: s.out
      ∧ ((childAnswered d i key (unit, ticket) s).kv.pipes.get unit).key = key := by
  obtain ⟨hkv, hout⟩ := loadRegister_keeps unit (childRegister d i key) (returnLease unit s)
  rw [returnLease_empty hempty] at hkv hout
  have hregister : childRegister d i key ≠ default := fun h => Bool.noConfusion (congrArg PipeKey.valid h)
  simp only [childAnswered, returnLease_empty hempty, State.emit_kv, State.emit_out, hkv, hout, Tab.get_set_of_ne hregister]
  exact ⟨rfl, rfl, rfl, rfl⟩

/-! ### KV_CMD (R80, R85 to R89) -/

theorem exec_retire (s : State) : exec .retire s = .next (settled ([], kvCommand 5 false s)) := rfl

theorem exec_retireMatch (s : State) : exec .retireMatch s = .next (settled ([], kvCommand 6 false s)) := rfl

theorem exec_wipeAll (s : State) : exec .wipeAll s = .next (settled ([], kvCommand 8 false s)) := rfl

section Commands

variable {replace : Bool} {s : State} (hgo : s.kv.go = false) (hlocked : s.kv.locked = false)
include hgo hlocked

theorem exec_deriveHmac : exec (.deriveHmac replace) s
    = .next (kvFinish 1#4 replace (deriveInto s.kv.handle s.kv.parent (kvLabel s.kv) s.kv.attr s.kv.budget.toNat replace s)) := by
  change Host.Outcome.next (kvCommand 1 replace s) = _
  simp [kvCommand, hgo, hlocked]

theorem exec_deriveFast : exec (.deriveFast replace) s = .next (kvDeriveFast replace s) := by
  change Host.Outcome.next (kvCommand 2 replace s) = _
  simp [kvCommand, hgo, hlocked]

theorem exec_unwrap (hspan : inKeyRegion s.kv.src.toNat 48 = true) : exec (.unwrap replace) s
    = .next (kvFinish 3#4 replace (unwrapInto s.kv.handle s.kv.parent (keyRegion s s.kv.src.toNat 48) replace s)) := by
  change Host.Outcome.next (kvCommand 3 replace s) = _
  simp [kvCommand, hgo, hlocked, hspan]

theorem exec_importKey : exec (.importKey replace) s
    = .next (kvFinish 4#4 replace (importInto s.kv.handle s.kv.src.toNat s.kv.attr replace s)) := by
  change Host.Outcome.next (kvCommand 4 replace s) = _
  simp [kvCommand, hgo, hlocked]

theorem kvCommand_retire {i : Nat} (hslot : slotOf s.kv s.kv.handle = some i) :
    kvCommand 5 replace s = kvFinish 5#4 replace (Status.ok, destroySlots (withChildren s.kv [i]) s) := by
  simp [kvCommand, hgo, hlocked, hslot, retireHandle]

theorem kvCommand_retireMatch : kvCommand 6 replace s = kvFinish 6#4 replace (Status.ok,
    retireMatchOp (bits s.kv.kmatch.toNat 28 4) (bits s.kv.kmatch.toNat 16 12) (bits s.kv.kmatch.toNat 0 16) s) := by
  simp [kvCommand, hgo, hlocked]

theorem exec_setBudget {i : Nat} (hslot : slotOf s.kv s.kv.handle = some i) :
    exec .setBudget s = .next (kvFinish 7#4 false (Status.ok, setRemaining i s.kv.budget.toNat s)) := by
  change Host.Outcome.next (kvCommand 7 false s) = _
  simp [kvCommand, hgo, hlocked, hslot]

end Commands

/-- R89: WIPE_ALL runs whatever else does. -/
theorem kvCommand_wipeAll (replace : Bool) (s : State) : kvCommand 8 replace s = kvFinish 8#4 replace (Status.ok, wipeAllOp s) := by
  simp [kvCommand]

/-- QUERY runs in a locked vault too. -/
theorem exec_kvQuery {s : State} (hgo : s.kv.go = false) : exec .kvQuery s = .next (kvFinish 9#4 false (Status.ok,
    s.updKv fun k => { k with
      qinfo := BitVec.ofNat 32 (kvQueryOf s.kv s.kv.handle).1, qbudget := BitVec.ofNat 48 (kvQueryOf s.kv s.kv.handle).2 })) := by
  change Host.Outcome.next (kvCommand 9 false s) = _
  simp [kvCommand, hgo]

theorem kvFinish_region (op : BitVec 4) (replace : Bool) (st : Status) (s : State) :
    (kvFinish op replace (st, s)).kv.region = s.kv.region := rfl

theorem writeKeyRegion_region (off : Nat) (b : Bytes) (s : State) :
    (writeKeyRegion off b s).kv.region = Memory.writeBytes keyRegionFill s.kv.region off b := rfl

/-- A label of classes 2 to 7 names the hall of the handle. -/
theorem not_otherHall {h : Handle} {label : Bytes} (hhall : hClass h < 2 ∨ labHall label = hHall h) :
    ¬(2 ≤ hClass h ∧ labHall label ≠ hHall h) := fun ⟨hclass, hother⟩ => hhall.elim (Nat.not_lt.mpr hclass) hother

/-- R67: below no parent, a label of level 1 places a key derived from L0 and the life-cycle state. -/
theorem deriveInto_levelOne {h : Handle} {label : Bytes} {attr : BitVec 4} {budget i : Nat} {replace : Bool} {s : State}
    (hlevel : labelLevel label (hClass h) = some 1) (hhandle : handleOk h = true) (hhall : hClass h < 2 ∨ labHall label = hHall h)
    (hclass : hClass h ≠ 2) (hstate : s.lcState ≠ scrap) (hnew : slotOf s.kv h = none) (hfree : freePinned s.kv = some i) :
    deriveInto h 0#32 label attr budget replace s = (Status.ok, keyPlaced i (upperSlot h 1 8191 0 false attr budget
      (Crypto.deriveHmac s.l0 label [BitVec.ofNat 8 (s.lcState + 1)])) s) := by
  simp only [deriveInto, hlevel, hhandle, not_otherHall hhall, hstate]
  simpa using placePinned_new (by rw [isPairKey_levelOne hclass, Bool.and_false]) hnew hfree

/-- R67: a label of level 2 places a key derived from its resident parent of level 1. -/
theorem deriveInto_levelTwo {h parent : Handle} {label : Bytes} {attr : BitVec 4} {budget i p : Nat} {s : State}
    (hlevel : labelLevel label (hClass h) = some 2) (hhandle : handleOk h = true) (hhall : hClass h < 2 ∨ labHall label = hHall h)
    (hparent : slotOf s.kv parent = some p) (hupper : (s.kv.slots.get p).level = 1) (hclass : hClass parent = 1)
    (hnew : slotOf s.kv h = none) (hfree : freePinned s.kv = some i) :
    deriveInto h parent label attr budget false s = (Status.ok, keyPlaced i (upperSlot h 2 p (labGen label) (labPurpose label == 0x0021)
      attr budget (Crypto.deriveHmac (s.kv.slots.get p).key label [])) s) := by
  simp only [deriveInto, hlevel, hhandle, not_otherHall hhall, hparent, hupper, hclass]
  simpa using placePinned_new (Bool.false_and _) hnew hfree

/-- R86: a blob that the KEK opens, in the form of R86 for the handle, places its key. -/
theorem unwrapInto_places {h kek : Handle} {blob p : Bytes} {k i : Nat} {s : State} (hkek : slotOf s.kv kek = some k)
    (hclass : hClass kek = 0) (hopen : Crypto.kwUnwrap (s.kv.slots.get k).key (fit blob 48) = some p)
    (hform : num p 0 2 = 1 ∧ num p 2 1 = hClass h ∧ num p 3 1 = 1 ∧ handleOk h = true ∧ num p 4 1 < 2 ∧ allZero (sub p 5 3) = true)
    (hnew : slotOf s.kv h = none) (hfree : freePinned s.kv = some i) :
    unwrapInto h kek blob false s = (Status.ok, keyPlaced i
      (upperSlot h 1 8191 0 false (if num p 4 1 = 1 then 8#4 else 0#4) 0 (Crypto.keyOf (sub p 8 32))) s) := by
  simp only [unwrapInto, hkek, hclass, ne_eq, not_true_eq_false, if_false, hopen]
  rw [if_pos hform]
  exact placePinned_new (Bool.false_and _) hnew hfree

/-- R88: a class 0 key moves out of the key region. -/
theorem importInto_moves {h : Handle} {off i : Nat} {attr : BitVec 4} {s : State} (hclass : hClass h = 0) (hhandle : handleOk h = true)
    (hspan : inKeyRegion off 32 = true) (hnew : slotOf s.kv h = none) (hfree : freePinned s.kv = some i) :
    importInto h off attr false s = (Status.ok, writeKeyRegion off (List.replicate 32 0#8)
      (keyPlaced i (upperSlot h 1 8191 0 false attr 0 (Crypto.keyOf (keyRegion s off 32))) s)) := by
  have hplace := placePinned_new (x := upperSlot h 1 8191 0 false attr 0 (Crypto.keyOf (keyRegion s off 32))) (Bool.false_and _) hnew hfree
  simp [importInto, hclass, hhandle, hspan, hplace]

/-- R85: a prefill of a new key that the fast deriver may derive joins the queue. -/
theorem kvDeriveFast_queues {replace : Bool} {i : Nat} {s : State} (hfast : fastOk s.kv s.kv.handle s.kv.parent (kvLabel s.kv) = true)
    (hnew : slotOf s.kv s.kv.handle = none) (hfree : freePinned s.kv = some i) :
    kvDeriveFast replace s = enqueue
      { handle := s.kv.handle, parent := s.kv.parent, label := kvLabel s.kv, hgen := BitVec.ofNat 16 (labGen (kvLabel s.kv))
        pinned := true, attr := s.kv.attr, tickets := [] } (s.updKv fun k => { k with go := true, op := 2#4, replace := replace }) := by
  simp [kvDeriveFast, hfast, hnew, hfree]

/-- R85: a destroyed slot takes its descendants along. -/
theorem destroySlots_slots (s : State) (l : List Nat) :
    (destroySlots (withChildren s.kv l) s).kv.slots = slotsWithout s.kv l := rfl

/-- R85, R90: with no derivation queued, RETIRE_MATCH destroys the slots hit and nothing misses. -/
theorem retireMatchOp_slots {cls hall gen : Nat} {s : State} (hqueue : s.kv.queue = []) (hstalled : s.kv.stalled = []) :
    (retireMatchOp cls hall gen s).kv.slots = slotsWithout s.kv (s.kv.slots.filterMap fun e =>
      if e.2.valid && matches' cls hall gen e.2.handle e.2.hgen.toNat then some e.1 else none) := by
  simp only [retireMatchOp, hqueue, hstalled, List.append_nil, List.filter_nil]
  rfl

theorem setRemaining_slots (i n : Nat) (s : State) :
    (setRemaining i n s).kv.slots = s.kv.slots.set i { s.kv.slots.get i with budget := n } := by
  have hfault (hall : Nat) (u : State) : (raiseFault Src.kv Kind.keyBudget hall 0 0 u).kv = u.kv := by
    have frame : Frame 73014444032 u (raiseFault Src.kv Kind.keyBudget hall 0 0 u) := raiseFault_frame Frame.refl rfl
    exact frame.kv (by decide)
  unfold setRemaining
  dsimp only
  split
  · rw [hfault]
    split <;> rfl
  · split <;> rfl

/-- `s` with the cache, the key region and the layers' secrets gone (R89). -/
def keysWiped (s : State) : State :=
  (s.updKv fun k => { k with queue := [], stalled := [], slots := [], lru := [], region := [] }).updAt fun a => { a with
    cdi := 0#384, layerKey := 0#384 }

/-- The link lanes hold no keys. -/
theorem voidLanes_keeps (s : State) : (voidLanes s).kv = s.kv ∧ (voidLanes s).att = s.att ∧ (voidLanes s).lc = s.lc := ⟨rfl, rfl, rfl⟩

/-- The key registers are no part of the cache, and the IDE streams are no layer's secret. -/
theorem zeroKeyRegisters_keeps (s : State) : (zeroKeyRegisters s).kv = { s.kv with pipes := [] }
    ∧ (zeroKeyRegisters s).att.cdi = s.att.cdi ∧ (zeroKeyRegisters s).att.layerKey = s.att.layerKey ∧ (zeroKeyRegisters s).lc = s.lc := by
  unfold zeroKeyRegisters
  dsimp only
  split
  · exact ⟨rfl, rfl, rfl, rfl⟩
  · exact ⟨rfl, rfl, rfl, rfl⟩

/-- R89: with no derivation queued, WIPE_ALL wipes the keys and the key registers and locks the vault. -/
theorem wipeAllOp_idle {s : State} (hqueue : s.kv.queue = []) (hstalled : s.kv.stalled = []) :
    wipeAllOp s = ((voidLanes (zeroKeyRegisters (keysWiped s))).updKv fun k => { k with locked := true }).kvEvent 4 := by
  simp only [wipeAllOp, hqueue, hstalled, List.append_nil]
  rfl

theorem wipeAllOp_kv {s : State} (hqueue : s.kv.queue = []) (hstalled : s.kv.stalled = []) :
    (wipeAllOp s).kv = { (keysWiped s).kv with pipes := [], locked := true, events := raised s.kv.events 4 } := by
  obtain ⟨hkv, -⟩ := zeroKeyRegisters_keeps (keysWiped s)
  obtain ⟨hkv', -⟩ := voidLanes_keeps (zeroKeyRegisters (keysWiped s))
  simp only [wipeAllOp_idle hqueue hstalled, State.kvEvent, State.updKv_kv, hkv', hkv]
  rfl

theorem wipeAllOp_rest {s : State} (hqueue : s.kv.queue = []) (hstalled : s.kv.stalled = []) :
    (wipeAllOp s).att.cdi = 0#384 ∧ (wipeAllOp s).att.layerKey = 0#384 ∧ (wipeAllOp s).lc = s.lc := by
  obtain ⟨-, hcdi, hlayer, hlc⟩ := zeroKeyRegisters_keeps (keysWiped s)
  obtain ⟨-, hatt, hlc'⟩ := voidLanes_keeps (zeroKeyRegisters (keysWiped s))
  simp only [wipeAllOp_idle hqueue hstalled, State.kvEvent, State.updKv_att, State.updKv_lc, hatt, hlc', hcdi, hlayer, hlc]
  exact ⟨rfl, rfl, rfl⟩

/-- Settles O5: each row by the lemma of its operation. -/
theorem keyVaultCommands : Obligations.KeyVaultCommands := by
  unfold Obligations.KeyVaultCommands
  refine ⟨?lookup, ?enters, ?prefillDone, ?derived, ?levelOne, ?levelTwo, ?fast, ?unwrap, ?importKey, ?retire, ?retireMatch, ?budget, ?wipe,
    ?query, ?drop⟩
  case lookup =>
    intro l i s harmed hsafe hlocked _ hslot huse hclass hhall hgen hbudget
    have hlookup := lookupKey_hits hsafe hlocked hslot huse hclass hhall hgen
    obtain ⟨hout, hslots, hpipes⟩ := serveHit_keeps (l := l) hbudget
    refine ⟨_, (exec_keyLookup l s).trans (congrArg _ (keyLookupOp_hits harmed hlookup hbudget)), ?_, ?_⟩
    · obtain ⟨-, hout', -⟩ := returnLease_rest l.unit s
      exact congrArg _ (hout.trans hout')
    · have hregister := (congrArg (fun t => Tab.get t l.unit) hpipes).trans (Tab.get_set_of_ne (hitRegister_ne_default l i _))
      exact ⟨congrArg PipeKey.valid hregister, congrArg PipeKey.handle hregister, congrArg PipeKey.key hregister, hslots⟩
  case enters =>
    intro d rest s hstalled hroom hnew
    exact ⟨_, (exec_derivationQueueAdmit s).trans (congrArg _ (admitDerivation_enters hstalled hroom hnew)), rfl, rfl⟩
  case prefillDone =>
    intro d rest i s hqueue harmed hfast hpinned hnone hnew hfree
    have hpair : isPairKey (childSlot d s.kv) = false := isPairKey_upperClass (x := childSlot d s.kv) (fastOk_levelFour hfast)
    have hplace := placeChild_pinned hpinned (placePinned_new (replace := true) (x := childSlot d s.kv) (s := headTaken s)
      hpair hnew hfree)
    refine ⟨derivationDone s, exec_fastDerivationDone s, ?_⟩
    rw [derivationDone_places hqueue harmed hfast hplace, if_pos hpinned, childrenAnswered, hnone]
    exact ⟨congrArg List.tail hqueue, rfl, rfl, rfl⟩
  case derived =>
    intro d rest unit ticket i s hqueue harmed hfast hpinned htickets hempty hnew hfree
    have hplace := (placeChild_derived (x := childSlot d s.kv) (s := headTaken s) hpinned).trans
      (congrArg _ (placeDerived_new (x := childSlot d s.kv) (s := headTaken s) hnew hfree))
    refine ⟨derivationDone s, exec_fastDerivationDone s, ?_⟩
    rw [derivationDone_places hqueue harmed hfast hplace, if_neg (by simp [hpinned]), childrenAnswered, htickets]
    obtain ⟨hslots, htaken, hout, hkey⟩ := childAnswered_keeps (d := d) (i := _) (key := (childSlot d s.kv).key) (ticket := ticket)
      (s := ((headTaken s).updKv fun k => { k with
        slots := k.slots.set i (childSlot d s.kv), lru := k.lru.filter (· != i) ++ [i] }).kvCount 2) hempty
    exact ⟨htaken.trans (congrArg List.tail hqueue), hout, hslots, hkey⟩
  case levelOne =>
    intro replace i s hgo hlocked hlevel hhandle hhall _ hclass hparent hstate hnew hfree
    refine ⟨_, exec_deriveHmac hgo hlocked, ?_⟩
    rw [hparent, deriveInto_levelOne hlevel hhandle hhall hclass hstate hnew hfree]
    exact ⟨rfl, rfl, rfl⟩
  case levelTwo =>
    intro i p s hgo hlocked hlevel hhandle hhall hparent hupper hclass hnew hfree
    refine ⟨_, exec_deriveHmac hgo hlocked, ?_⟩
    rw [deriveInto_levelTwo hlevel hhandle hhall hparent hupper hclass hnew hfree]
    exact ⟨rfl, rfl⟩
  case fast =>
    intro replace i s hgo hlocked hfast hnew hfree hqueued hroom
    have hjoins := (kvDeriveFast_queues (replace := replace) hfast hnew hfree).trans (enqueue_new hqueued hroom)
    exact ⟨_, (exec_deriveFast hgo hlocked).trans (congrArg _ hjoins), rfl, rfl, rfl⟩
  case unwrap =>
    intro i k p s hgo hlocked hspan hkek hclass hopen hmagic hkeyClass hlevel hhandle hflags hzero hnew hfree
    refine ⟨_, exec_unwrap hgo hlocked hspan, ?_⟩
    rw [unwrapInto_places hkek hclass hopen ⟨hmagic, hkeyClass, hlevel, hhandle, hflags, hzero⟩ hnew hfree]
    exact ⟨rfl, rfl⟩
  case importKey =>
    intro i s hgo hlocked hclass hhandle hspan hnew hfree
    refine ⟨_, exec_importKey hgo hlocked, ?_⟩
    rw [importInto_moves hclass hhandle hspan hnew hfree]
    refine ⟨rfl, rfl, ?_⟩
    rw [kvFinish_region, writeKeyRegion_region, keyPlaced_region]
  case retire =>
    intro i s hgo hlocked hslot
    refine ⟨kvCommand 5 false s, exec_retire s, ?_⟩
    rw [kvCommand_retire hgo hlocked hslot]
    exact ⟨rfl, destroySlots_slots s [i]⟩
  case retireMatch =>
    intro s hgo hlocked hqueue hstalled
    refine ⟨kvCommand 6 false s, exec_retireMatch s, ?_⟩
    rw [kvCommand_retireMatch hgo hlocked]
    exact ⟨rfl, retireMatchOp_slots hqueue hstalled⟩
  case budget => exact fun i s hgo hlocked hslot => ⟨_, exec_setBudget hgo hlocked hslot, rfl, setRemaining_slots i _ s⟩
  case wipe =>
    intro s hqueue hstalled
    refine ⟨kvCommand 8 false s, exec_wipeAll s, ?_⟩
    rw [kvCommand_wipeAll, kvFinish, State.updKv_kv, wipeAllOp_kv hqueue hstalled]
    exact ⟨rfl, rfl, rfl, rfl, rfl, rfl, wipeAllOp_rest hqueue hstalled⟩
  case query => exact fun s hgo => ⟨_, exec_kvQuery hgo, rfl, rfl, rfl, rfl⟩
  case drop =>
    intro unit s hwf hdropping
    exact ⟨_, (exec_keyRegisterDrop unit s).trans (congrArg _ (dropKeyRegister_drops hdropping)), Tab.get_set hwf,
      fun v hv => Tab.get_set_ne hv, rfl⟩

end Sys2Proof.Machine
end

section
/-! The actions of the life cycle: transitions, the rollback counter, debug certificates, consent and the OTP groups. -/

namespace Sys2Proof.Machine

-- One declaration at a time, so that the elaborator holds few threads (each takes stack of its own).
set_option Elab.async false

/-- An action that the session may not run is refused before its work (R335, R504). -/
theorem runAct_may_not {a : Act} {obj : Nat} {roles : List Role} {work : State → (Status × Bytes) × State} {s : State}
    (h : mayAct s roles a = false) : runAct a obj roles work s = actDone a.sess obj Status.permission [] false s := by
  simp [runAct, h]

/-- The mailbox of an action that waits depends on the sessions alone: what the action does to the controller stands beside it. -/
theorem actWaits_updLc (n obj : Nat) (f : Lc → Lc) (s : State) :
    actWaits n obj (s.updLc f) = { s with lc := f s.lc, mgt := (actWaits n obj s).mgt } := by
  unfold actWaits boxPut
  change (if (!(sessOf s n).live) = true then _ else _) = { s with lc := f s.lc, mgt := (if (!(sessOf s n).live) = true then s else _).mgt }
  split <;> rfl

/-- An action that waits for OTP words changes the controller and its own mailbox, nothing else. -/
theorem actWaits_otpStart (n obj : Nat) (words : List (Nat × BitVec 39)) (after : OtpThen) (f : Lc → Lc) (s : State) :
    actWaits n obj (otpStart words after (s.updLc f))
      = { s with lc := { f s.lc with otpQueue := words, otpThen := after, vppReq := true }, mgt := (actWaits n obj s).mgt } :=
  actWaits_updLc n obj (fun l => { f l with otpQueue := words, otpThen := after, vppReq := true }) s

/-! ### TRANSITION (R96-R98) -/

theorem exec_transition (a : Act) (arg : Bytes) (s : State) : exec (.transition a arg) s = .next (transitionAct a arg s) := rfl

/-- R96, R97: a session's request with its token begins with the intent word; the role counts in the pair alone. -/
theorem transitionOp_begins_for {target : Nat} {token : Bytes} {r : Role} {s : State} (hlock : s.lc.tokenLock = false)
    (hrun : s.lc.running = none) (hqueue : s.lc.otpQueue = []) (hpair : pairOk s target (some r) = true) (htoken : tokenless s target = false)
    (hdigest : Crypto.digestBytes (Config.sha384 (fit token 16)) = otpBytes s.lc.otp (tokenWord target) 12) :
    transitionOp target token (some r) s
      = (Status.ok, otpStart [(99 + target, otpFull)] (.intent target) (s.updLc fun l => { l with running := some target })) := by
  simp [transitionOp, hlock, hrun, otpActive_of_empty hqueue, hpair, htoken, hdigest]

/-- An accepted TRANSITION waits for its intent word. -/
theorem transitionAct_waits {a : Act} {arg : Bytes} {s : State} (hmay : mayAct s [.factory, .operator] a = true) (hlength : arg.length = 17)
    (hop : transitionOp (num arg 0 1) (sub arg 1 16) (some a.role) s = (Status.ok, otpStart [(99 + num arg 0 1, otpFull)]
      (.intent (num arg 0 1)) (s.updLc fun l => { l with running := some (num arg 0 1) }))) :
    transitionAct a arg s = actWaits a.sess 0x901001 (otpStart [(99 + num arg 0 1, otpFull)] (.intent (num arg 0 1))
      (s.updLc fun l => { l with running := some (num arg 0 1), otpAnswer := [(a.sess, 0x901001)] })) := by
  simp [transitionAct, hmay, hlength, hop, otpStart, State.updLc]

/-- With the firmware running recovery accepts nothing, so a session that may not act is refused. -/
theorem transitionAct_refused {a : Act} {arg : Bytes} {s : State} (hmay : mayAct s [.factory, .operator] a = false)
    (hphase : s.pwr.phase = .firmware) : transitionAct a arg s = actDone a.sess 0x901001 Status.permission [] false s := by
  have hrecover : mayRecover s [.factory, .operator] a = false := by
    rw [mayRecover, hphase]
    rfl
  simp [transitionAct, hmay, hrecover]

/-! ### ROLLBACK_COMMIT (R100, R101) -/

theorem exec_rollbackCommit (a : Act) (arg : Bytes) (s : State) : exec (.rollbackCommit a arg) s = .next (rollbackCommitAct a arg s) := rfl

/-- A commit above the counter and within its two bounds waits for its bits. -/
theorem rollbackCommitAct_waits {a : Act} {arg : Bytes} {s : State} (hmay : mayAct s [.operator] a = true)
    (hstate : s.lcState = provisioned ∨ s.lcState = field) (hlength : arg.length = 2) (hsecver : num arg 0 2 ≤ s.pwr.secver.toNat)
    (hmax : num arg 0 2 ≤ 4992) (hup : rollbackCount s.lc.otp < num arg 0 2) (hqueue : s.lc.otpQueue = []) :
    rollbackCommitAct a arg s = actWaits a.sess 0x901003
      (rollbackStart (num arg 0 2) (s.updLc fun l => { l with otpAnswer := [(a.sess, 0x901003)] })) := by
  have hadmits : (s.lcState == provisioned || s.lcState == field) = true := by simpa using hstate
  simp [rollbackCommitAct, hmay, hadmits, hlength, hsecver, hmax, Nat.not_le.mpr hup, otpActive_of_empty hqueue]

/-! ### DEBUG_NONCE and DEBUG_CERT (R108, R109) -/

theorem exec_debugNonce (a : Act) (s : State) : exec (.debugNonce a) s = .next (debugNonceAct a s) := rfl

theorem exec_debugCert (a : Act) (arg : Bytes) (s : State) : exec (.debugCert a arg) s = .next (debugCertAct a arg s) := rfl

/-- A fresh nonce is the next draw, and no consent stands against it. -/
theorem newNonce_draws (s : State) :
    (newNonce s).lc.nonce = s.draw.setWidth 128 ∧ (newNonce s).lc.nonceValid = true ∧ (newNonce s).lc.consents = []
      ∧ (newNonce s).draws = s.draws + 1 := by
  obtain ⟨hnonce, hvalid, hconsents⟩ := recountConsent_keeps ((s.updLc fun l => { l with
    nonce := s.draw.setWidth 128, nonceValid := true, consents := [] }).drew)
  obtain ⟨hdraws, -⟩ := recountConsent_rest ((s.updLc fun l => { l with
    nonce := s.draw.setWidth 128, nonceValid := true, consents := [] }).drew)
  exact ⟨hnonce, hvalid, hconsents, hdraws⟩

theorem debugNonceAct_answers {a : Act} {s : State} (hmay : mayAct s [.factory, .operator] a = true) (hrole : debugRole s a.role = true) :
    debugNonceAct a s = actDone a.sess 0x902001 Status.ok (nonceBytes (newNonce s)) false (newNonce s) := by
  rw [debugNonceAct, runAct_may hmay, if_pos hrole]

theorem debugCertAct_answers {a : Act} {c : Bytes} {s u : State} {st : Status} (hmay : mayAct s [.factory, .operator] a = true)
    (hop : certOp c s = (st, u)) : debugCertAct a c s = actDone a.sess 0x902002 st [] false u := by
  rw [debugCertAct, runAct_may hmay, hop]

/-! ### CONSENT (R111) -/

theorem exec_consent (a : Act) (arg : Bytes) (s : State) : exec (.consent a arg) s = .next (consentAct a arg s) := rfl

/-- The SEALED halls that CONSENT of a session speaks for. -/
def sealedOf (s : State) (sess : Nat) : List Nat :=
  (usedHalls s).filterMap fun e => if isSealed e.2 && boundTo s sess e.1 then some e.1 else none

/-- The consents of these halls fall. -/
def consentWithdrawn (l : List Nat) (s : State) : State :=
  recountConsent (s.updLc fun x => { x with consents := x.consents.filter fun h => !l.contains h })

/-- The consents of these halls stand, each once. -/
def consentRecorded (l : List Nat) (s : State) : State :=
  recountConsent (s.updLc fun x => { x with consents := x.consents.filter (fun h => !l.contains h) ++ l })

theorem consentWithdrawn_consents (l : List Nat) (s : State) :
    (consentWithdrawn l s).lc.consents = s.lc.consents.filter fun h => !l.contains h := by
  obtain ⟨-, -, hconsents⟩ := recountConsent_keeps (s.updLc fun x => { x with consents := x.consents.filter fun h => !l.contains h })
  exact hconsents

theorem consentRecorded_consents (l : List Nat) (s : State) :
    (consentRecorded l s).lc.consents = s.lc.consents.filter (fun h => !l.contains h) ++ l := by
  obtain ⟨-, -, hconsents⟩ := recountConsent_keeps (s.updLc fun x => { x with consents := x.consents.filter (fun h => !l.contains h) ++ l })
  exact hconsents

/-- A session with SEALED halls and an argument of 16 bytes withdraws on zeros, records on the current nonce, and is refused otherwise. -/
theorem consentOp_bound {sess : Nat} {arg : Bytes} {s : State} (hbound : sealedOf s sess ≠ []) (hlength : arg.length = 16) :
    consentOp sess arg s = if allZero arg then (Status.ok, consentWithdrawn (sealedOf s sess) s)
      else if s.lc.nonceValid && arg == nonceBytes s then (Status.ok, consentRecorded (sealedOf s sess) s)
      else (Status.permission, s) := by
  have hserved : ¬((sealedOf s sess).isEmpty = true ∨ arg.length ≠ 16) := by simp [hbound, hlength]
  exact if_neg hserved

theorem consentAct_answers {a : Act} {arg : Bytes} {s u : State} {st : Status} (hmay : mayAct s [.tenant] a = true)
    (hop : consentOp a.sess arg s = (st, u)) : consentAct a arg s = actDone a.sess 0x902003 st [] false u := by
  rw [consentAct, runAct_may hmay, hop]

/-! ### OTP_PROGRAM (R92, R505) -/

theorem exec_otpProgram (a : Act) (arg : Bytes) (s : State) : exec (.otpProgram a arg) s = .next (otpProgramAct a arg s) := rfl

/-- A blank group waits for its words; the owner's groups are the operator's in PROVISIONED, the others the factory's in TEST_OPEN. -/
theorem otpProgramAct_waits {a : Act} {arg : Bytes} {w n : Nat} {owner : Bool} {s : State} (hgroup : otpGroup (num arg 0 1) = some (w, n, owner))
    (hmay : if owner then mayAct s [.operator] a = true ∧ s.lcState = provisioned else mayAct s [.factory] a = true ∧ s.lcState = testOpen)
    (hlength : arg.length = 4 + 4 * n) (hzero : allZero (sub arg 1 3) = true) (hblank : otpBlank s.lc.otp w n = true)
    (hqueue : s.lc.otpQueue = []) :
    otpProgramAct a arg s = actWaits a.sess 0x901002
      (otpStart (eccWords w (arg.drop 4) n) .group (s.updLc fun l => { l with otpAnswer := [(a.sess, 0x901002)] })) := by
  cases owner with
  | true =>
    obtain ⟨hact, hstate⟩ := hmay
    simp [otpProgramAct, hgroup, hact, hstate, hlength, hzero, hblank, otpActive_of_empty hqueue]
  | false =>
    obtain ⟨hact, hstate⟩ := hmay
    simp [otpProgramAct, hgroup, hact, hstate, hlength, hzero, hblank, otpActive_of_empty hqueue]

/-- Settles O7: each action by the lemma of its operation. -/
theorem lifeCycleActions : Obligations.LifeCycleActions := by
  unfold Obligations.LifeCycleActions
  refine ⟨?transition, ?rollback, ?nonce, ?cert, ?consent, ?otp, ?refused⟩
  case transition =>
    intro a arg s hmay hlength hlock hrun hqueue hpair htoken hdigest
    have hwaits := transitionAct_waits hmay hlength (transitionOp_begins_for hlock hrun hqueue hpair htoken hdigest)
    exact ⟨_, (exec_transition a arg s).trans (congrArg _ (hwaits.trans (actWaits_otpStart ..))), rfl, rfl, rfl, rfl, rfl⟩
  case rollback =>
    intro a arg s hmay hstate hlength hsecver hmax hup hqueue
    have hwaits := rollbackCommitAct_waits hmay hstate hlength hsecver hmax hup hqueue
    exact ⟨_, (exec_rollbackCommit a arg s).trans (congrArg _ (hwaits.trans (actWaits_otpStart ..))), rfl, rfl, rfl⟩
  case nonce =>
    intro a s hmay hrole
    exact ⟨_, newNonce s, exec_debugNonce a s, debugNonceAct_answers hmay hrole, newNonce_draws s⟩
  case cert =>
    intro a c s hmay hform hsigned
    obtain ⟨hrights, hissuer, hvalid, -⟩ := rightsGranted_after_nonceUsed c s
    exact ⟨_, _, exec_debugCert a c s, debugCertAct_answers hmay (certOp_accepts hform hsigned), hrights, hissuer, hvalid⟩
  case consent =>
    rintro a arg l s hmay hlength rfl hbound
    have hop := consentOp_bound (sess := a.sess) (arg := arg) (s := s) hbound hlength
    by_cases hzero : allZero arg = true
    · rw [if_pos hzero] at hop
      exact ⟨_, _, exec_consent a arg s, fun _ => ⟨consentAct_answers hmay hop, consentWithdrawn_consents _ s⟩,
        fun hnonzero => absurd (hnonzero.symm.trans hzero) Bool.false_ne_true⟩
    · rw [if_neg hzero] at hop
      refine ⟨_, consentRecorded (sealedOf s a.sess) s, exec_consent a arg s, fun h => absurd h hzero, fun _ hvalid hnonce => ?_⟩
      have hcurrent : (s.lc.nonceValid && arg == nonceBytes s) = true := by simp [hvalid, hnonce, nonceBytes]
      rw [if_pos hcurrent] at hop
      exact ⟨consentAct_answers hmay hop, consentRecorded_consents _ s⟩
  case otp =>
    intro a arg w n owner s hgroup hmay hlength hzero hblank hqueue
    have hwaits := otpProgramAct_waits hgroup hmay hlength hzero hblank hqueue
    exact ⟨_, (exec_otpProgram a arg s).trans (congrArg _ (hwaits.trans (actWaits_otpStart ..))), rfl, rfl, rfl⟩
  case refused =>
    intro a arg s hmay
    exact ⟨⟨_, exec_debugNonce a s, runAct_may_not hmay⟩, ⟨_, exec_debugCert a arg s, runAct_may_not hmay⟩,
      fun hphase => ⟨_, exec_transition a arg s, transitionAct_refused hmay hphase⟩⟩

end Sys2Proof.Machine
end

section
/-! The attestation unit: its commands, the Slates and the host-page mailboxes. -/

namespace Sys2Proof.Machine

-- One declaration at a time, so that the elaborator holds few threads (each takes stack of its own).
set_option Elab.async false

/-! ### AT_CMD (R116 to R122) -/

theorem exec_atExtend (index : BitVec 3) (s : State) :
    exec (.atExtend index) s = .next (atFinish 1 index (measExtendOp index.toNat (atDigest s) s)) := rfl

theorem exec_atDiceStep (index : BitVec 3) (s : State) :
    exec (.atDiceStep index) s = .next (atFinish 2 index (diceStepOp index.toNat s)) := rfl

theorem exec_atSign (s : State) : exec .atSign s = .next (atFinish 3 s.att.index (signOp s)) := rfl

theorem measExtendOp_unlocked {n : Nat} {d : Bytes} {s : State} (h : s.att.locks.toNat.testBit n = false) :
    measExtendOp n d s = (Status.ok, measPut n d s) := by
  simp [measExtendOp, h]

theorem measExtendOp_locked {n : Nat} {d : Bytes} {s : State} (h : s.att.locks.toNat.testBit n = true) :
    measExtendOp n d s = (Status.permission, s) := by
  simp [measExtendOp, h]

/-- R118: the step of the layer reached derives the next one. -/
theorem diceStepOp_next {k : Nat} {s : State} (hk : k ≤ 2) (hlayer : s.att.layer.toNat = k) :
    ∃ u, diceStepOp k s = (Status.ok, u) ∧ u.att.layer = BitVec.ofNat 3 (k + 1)
      ∧ u.att.locks = s.att.locks ||| BitVec.ofNat 8 (2 ^ k)
      ∧ u.att.cdi = Crypto.hmac (if k = 0 then Crypto.keyBytes s.l0 else Crypto.digestBytes s.att.cdi)
          (Crypto.digestBytes (measOf s k) ++ natBe k 1)
      ∧ u.att.layerKey = layerPrivate u.att.cdi ∧ u.att.pub = Config.ecdsaPublic u.att.layerKey ∧ u = { s with att := u.att } := by
  have hstep : ¬ (2 < k ∨ s.att.layer.toNat ≠ k) := by omega
  exact ⟨_, if_neg hstep, rfl, rfl, rfl, rfl, rfl, rfl⟩

/-- R122: with a layer reached there is a key to sign with. -/
theorem signOp_reached {s : State} (h : s.att.layer ≠ 0#3) :
    signOp s = (Status.ok, s.updAt fun a => { a with sig := Config.ecdsaSign a.layerKey (Crypto.digestOf (atDigest s)) }) :=
  if_neg h

/-! ### MEAS_EXTEND (R116) -/

theorem exec_measExtend (a : Act) (arg : Bytes) (s : State) : exec (.measExtend a arg) s = .next (measExtendAct a arg s) := rfl

theorem measExtendAct_extends {a : Act} {arg : Bytes} {s : State} (hmay : mayAct s [.domainManager] a = true)
    (hlength : arg.length = 52) (hindex : num arg 0 1 = 6 ∨ num arg 0 1 = 7) (hzero : allZero (sub arg 1 3) = true)
    (hlock : s.att.locks.toNat.testBit (num arg 0 1) = false) :
    measExtendAct a arg s = actDone a.sess 0x101003 Status.ok [] false (measPut (num arg 0 1) (arg.drop 4) s) := by
  unfold measExtendAct
  rw [runAct_may hmay]
  simp only [hlength, hindex, hzero, and_self, if_true, measExtendOp_unlocked hlock]

/-! ### The Slate (R132, R133) -/

theorem exec_slateRequest (path : SlatePath) (nonce : Bytes) (s : State) :
    exec (.slateRequest path nonce) s = .next (slateRequestOp path nonce s) := rfl

theorem exec_mailboxRequest (page : Nat) (cmd : Word) (s : State) :
    exec (.mailboxRequest page cmd) s = .next (mailboxRequestOp page cmd s) := rfl

theorem exec_slateComplete (s : State) : exec .slateComplete s = .next (slateCompleteOp s) := rfl

/-- A Slate asked for while none is being signed is sampled at once. -/
theorem slateQueue_idle {path : SlatePath} {nonce : Bytes} {s : State} (h : s.att.slates = []) :
    ∃ u, slateQueue path nonce s = u ∧ u.fs = s.fs ∧ u.att.slates.map (fun r => (r.path, r.nonce, r.sampled)) = [(path, nonce, true)] := by
  refine ⟨_, rfl, ?_, ?_⟩ <;> simp [slateQueue, slateStart, h]

/-- R334: a page whose mailbox is free gets its Slate's request. -/
theorem pageSlate_free {page : Nat} {nonce : Bytes} {s : State} (hfree : (mailboxOf s page).result ≠ Status.notReady)
    (hidle : s.att.slates = []) :
    (pageSlate page nonce s).fs.mailboxes
        = s.fs.mailboxes.mod page (fun m => { m with seq := m.seq + 1, result := Status.notReady, len := 0, data := [] })
      ∧ (pageSlate page nonce s).att.slates.map (fun r => (r.path, r.nonce, r.sampled)) = [(pagePath page, nonce, true)] := by
  obtain ⟨_, rfl, hfs, hslates⟩ := slateQueue_idle (path := pagePath page) (nonce := nonce) (s := mailboxBegin page s) hidle
  rw [pageSlate, if_neg hfree]
  exact ⟨congrArg Fs.mailboxes hfs, hslates⟩

/-- R19, R335: code 1 of MB_CMD asks for a Slate, the others start nothing. -/
theorem mailboxRequestOp_slate {page : Nat} {cmd : Word} {s : State} (h : cmd.setWidth 8 = 1#8) :
    mailboxRequestOp page cmd s = pageSlate page (mailboxArg (mailboxOf s page)) s := if_pos h

theorem mailboxRequestOp_unused {page : Nat} {cmd : Word} {s : State} (h : cmd.setWidth 8 ≠ 1#8) : mailboxRequestOp page cmd s = s :=
  if_neg h

/-- R133: the one Slate being signed goes into the operator page's mailbox. -/
theorem slateCompleteOp_operator {nonce body : Bytes} {s : State}
    (h : s.att.slates = [{ path := .operatorPage, nonce := nonce, sampled := true, bytes := body }]) :
    slateCompleteOp s = mailboxDone 0 Status.ok (body ++ natBe (Config.ecdsaSign s.att.layerKey (Config.sha384 body)).toNat 96)
      (s.updAt fun a => { a with slates := [] }) := by
  simp only [slateCompleteOp, h]
  rfl

/-- Settles O8: each row by the lemma of its operation. -/
theorem attestationCommands : Obligations.AttestationCommands := by
  unfold Obligations.AttestationCommands
  refine ⟨?extend, ?locked, ?dice, ?sign, ?action, ?operator, ?mailbox, ?unused, ?complete⟩
  case extend =>
    intro index s hlock
    rw [exec_atExtend, measExtendOp_unlocked hlock]
    exact ⟨_, rfl, rfl, rfl, rfl, rfl⟩
  case locked =>
    intro index s hlock
    rw [exec_atExtend, measExtendOp_locked hlock]
    exact ⟨_, rfl, rfl, rfl⟩
  case dice =>
    rintro k s hk rfl
    obtain ⟨u, hop, hlayer, hlocks, hcdi, hkey, hpub, hrest⟩ := diceStepOp_next hk rfl
    have hnext : u.att.layer.toNat = s.att.layer.toNat + 1 := by
      rw [hlayer, BitVec.toNat_ofNat]
      omega
    rw [exec_atDiceStep, hop]
    exact ⟨_, rfl, rfl, hnext, hlocks, hcdi, hkey, hpub, by rw [hrest]; rfl⟩
  case sign =>
    intro s hlayer
    rw [exec_atSign, signOp_reached hlayer]
    exact ⟨_, rfl, rfl, rfl, rfl⟩
  case action =>
    intro a arg s hmay hlength hindex hzero hlock
    exact ⟨_, _, exec_measExtend a arg s, measExtendAct_extends hmay hlength hindex hzero hlock, rfl⟩
  case operator =>
    intro nonce s hfree hidle
    exact ⟨_, exec_slateRequest .operatorPage nonce s, pageSlate_free hfree hidle⟩
  case mailbox =>
    intro hall s hfree hidle
    exact ⟨_, (exec_mailboxRequest ..).trans (congrArg _ (mailboxRequestOp_slate rfl)), pageSlate_free hfree hidle⟩
  case unused =>
    intro page cmd s hunused
    exact ⟨_, exec_mailboxRequest page cmd s, mailboxRequestOp_unused hunused⟩
  case complete =>
    intro nonce body s hslates
    exact ⟨_, (exec_slateComplete s).trans (congrArg _ (slateCompleteOp_operator hslates)), rfl, rfl⟩

end Sys2Proof.Machine
end

section
/-! The SPDM responder: its connections, its sessions and the answers of its requests. -/

namespace Sys2Proof.Machine

-- One declaration at a time, so that the elaborator holds few threads (each takes stack of its own).
set_option Elab.async false

/-! ### Bytes of an answer -/

@[simp] theorem length_natLe (n len : Nat) : (natLe n len).length = len := by
  induction len generalizing n with
  | zero => rfl
  | succ len ih => simp [natLe, ih]

@[simp] theorem length_natBe (n len : Nat) : (natBe n len).length = len := by
  simp [natBe]

@[simp] theorem length_digestBytes (d : Digest) : (Crypto.digestBytes d).length = 48 := length_natBe _ _

/-- What stands behind a head of known length. -/
theorem sub_append_of_length {a b c : Bytes} {n len : Nat} (ha : a.length = n) (hb : b.length = len) : sub (a ++ (b ++ c)) n len = b := by
  subst ha hb
  simp [sub]

/-! ### Connections (R127) -/

@[simp] theorem connOf_updConn (t : Transport) (f : SpdmConn → SpdmConn) (s : State) : connOf (updConn t f s) t = f (connOf s t) := by
  cases t <;> rfl

theorem connOf_of_att {s u : State} (h : u.att = s.att) (t : Transport) : connOf u t = connOf s t := by
  cases t <;> simp [connOf, h]

@[simp] theorem connOf_emit (o : Out) (s : State) (t : Transport) : connOf (s.emit o) t = connOf s t := by
  cases t <;> rfl

@[simp] theorem updConn_out (t : Transport) (f : SpdmConn → SpdmConn) (s : State) : (updConn t f s).out = s.out := by
  cases t <;> rfl

@[simp] theorem updConn_nextSid (t : Transport) (f : SpdmConn → SpdmConn) (s : State) : (updConn t f s).att.nextSid = s.att.nextSid := by
  cases t <;> rfl

/-- Closing sessions retires their keys, which changes no connection but the one that holds them. -/
theorem closeSpdm_keeps (t : Transport) (p : Spdm → Bool) (s : State) :
    connOf (closeSpdm t p s) t = { connOf s t with
        sessions := (connOf s t).sessions.filter fun x => !p x
        closed := (connOf s t).closed ++ ((connOf s t).sessions.filter p).map (·.sid) }
      ∧ (closeSpdm t p s).out = s.out := by
  have frame {l : List Spdm} {u : State} : Frame 64 u (retireImported l u) := retireImported_frame Frame.refl rfl
  constructor
  · rw [closeSpdm, connOf_of_att (frame.att (by decide)), connOf_updConn]
  · rw [closeSpdm, frame.out (by decide), updConn_out]

/-! ### Answers (R126) -/

theorem spdmSend_answer {t : Transport} {code : Byte} {b : Bytes} {s : State} (h : code ≠ 0x7F#8) :
    spdmSend t ((code, b), s) = s.emit (.spdm t code b) := if_neg h

theorem spdmSend_error (t : Transport) (code : Nat) (s : State) :
    spdmSend t (spdmErr code, s) = s.emit (.spdmError t (BitVec.ofNat 8 code)) := rfl

theorem exec_getVersion (t : Transport) (s : State) : exec (.getVersion t) s = .next (spdmSend t (getVersionOp t s)) := rfl

theorem exec_getCapabilities (t : Transport) (version : Byte) (s : State) :
    exec (.getCapabilities t version) s = .next (spdmSend t (getCapabilitiesOp t version s)) := rfl

theorem exec_negotiateAlgorithms (t : Transport) (o : AlgOffer) (s : State) :
    exec (.negotiateAlgorithms t o) s = .next (spdmSend t (negotiateOp t o s)) := rfl

theorem exec_getDigests (t : Transport) (s : State) : exec (.getDigests t) s = .next (spdmSend t (getDigestsOp t s)) := rfl

theorem exec_getCertificate (t : Transport) (slot offset length : Nat) (s : State) :
    exec (.getCertificate t slot offset length) s = .next (spdmSend t (getCertificateOp t slot offset length s)) := rfl

theorem exec_challenge (t : Transport) (slot : Nat) (summary : Bool) (nonce : Bytes) (s : State) :
    exec (.challenge t slot summary nonce) s = .next (spdmSend t (challengeOp t slot summary nonce s)) := rfl

theorem exec_getMeasurements (t : Transport) (index : Nat) (signed : Bool) (nonce : Bytes) (s : State) :
    exec (.getMeasurements t index signed nonce) s = .next (spdmSend t (getMeasurementsOp t index signed nonce s)) := rfl

theorem exec_keyExchange (t : Transport) (carrier : Nat) (x : Bytes) (s : State) :
    exec (.keyExchange t carrier x) s = .next (spdmSend t (keyExchangeOp t carrier x s)) := rfl

theorem exec_finish (t : Transport) (sid : Nat) (verified : Bool) (s : State) :
    exec (.finish t sid verified) s = .next (spdmSend t (finishOp t sid verified s)) := rfl

theorem exec_endSession (t : Transport) (sid : Nat) (s : State) : exec (.endSession t sid) s = .next (spdmSend t (endSessionOp t sid s)) :=
  rfl

theorem exec_spdmMsg (a : Act) (m : Bytes) (s : State) : exec (.spdmMsg a m) s = .next (spdmMsgAct a m s) := rfl

/-! ### The stages of a connection (R127 to R129) -/

theorem getCapabilitiesOp_known {t : Transport} {s : State} (h : (connOf s t).version = true) :
    getCapabilitiesOp t 0x13#8 s = ((0x61#8, [0#8, 0#8, 0#8, 11#8] ++ natLe 0 2 ++ natLe spdmCaps 4 ++ natLe 4096 4 ++ natLe 4096 4),
      updConn t (fun c => { c with caps := true }) s) := by
  simp [getCapabilitiesOp, h]

theorem negotiateOp_agrees {t : Transport} {o : AlgOffer} {s : State} (hcaps : (connOf s t).caps = true)
    (hoffer : (o.asym && o.hash && o.measHash && o.measSpec && o.dhe && o.aead && o.keySchedule) = true) :
    ∃ b, negotiateOp t o s = ((0x63#8, b), updConn t (fun c => { c with algs := true }) s) := by
  simp only [negotiateOp, hcaps, hoffer, Bool.not_true, Bool.false_eq_true, if_false, if_true]
  exact ⟨_, rfl⟩

section Agreed

variable {t : Transport} {s : State} (halgs : (connOf s t).algs = true)
include halgs

theorem getDigestsOp_agreed :
    getDigestsOp t s = ((0x01#8, [1#8, 1#8] ++ Crypto.digestBytes (Config.sha384 (chainBytes s))), s) := by
  simp [getDigestsOp, halgs]

theorem getCertificateOp_portion {offset length : Nat} (h : offset < (chainBytes s).length) :
    getCertificateOp t 0 offset length s = ((0x02#8, [0#8, 0#8] ++ natLe (sub (chainBytes s) offset length).length 2
      ++ natLe ((chainBytes s).length - offset - (sub (chainBytes s) offset length).length) 2 ++ sub (chainBytes s) offset length), s) := by
  have hin : ¬ (0 ≠ 0 ∨ (chainBytes s).length ≤ offset) := by omega
  simp only [getCertificateOp, halgs, if_neg hin, Bool.not_true, Bool.false_eq_true, if_false]

/-- R128: the answer to CHALLENGE, signed over the transcript. -/
theorem challengeOp_signs (summary : Bool) (nonce : Bytes) :
    challengeOp t 0 summary nonce s = ((0x03#8, [0#8, 1#8] ++ Crypto.digestBytes (Config.sha384 (chainBytes s)) ++ drawn32 s
      ++ measSummary s summary ++ natLe 0 2 ++ sub nonce 32 8 ++ (spdmSign s.drew).1), (spdmSign s.drew).2) := by
  simp [challengeOp, halgs]

/-- R129: the block of one index, without a signature. -/
theorem getMeasurementsOp_unsigned {index : Nat} (nonce : Bytes) (hlow : 1 ≤ index) (hhigh : index ≤ 8) :
    getMeasurementsOp t index false nonce s = ((0x60#8, [0#8, 0#8] ++ natLe 1 1 ++ natLe (measBlock s (index - 1)).length 3
      ++ measBlock s (index - 1) ++ drawn32 s ++ natLe 0 2 ++ sub nonce 0 8), s.drew) := by
  have hzero : index ≠ 0 := by omega
  have hall : index ≠ 0xFF := by omega
  simp [getMeasurementsOp, halgs, hzero, hall, hhigh]

/-- R129: the same block, signed. -/
theorem getMeasurementsOp_signed {index : Nat} (nonce : Bytes) (hlow : 1 ≤ index) (hhigh : index ≤ 8) :
    getMeasurementsOp t index true nonce s = ((0x60#8, [0#8, 0#8] ++ natLe 1 1 ++ natLe (measBlock s (index - 1)).length 3
      ++ measBlock s (index - 1) ++ drawn32 s ++ natLe 0 2 ++ sub nonce 33 8 ++ (spdmSign s.drew).1), (spdmSign s.drew).2) := by
  have hzero : index ≠ 0 := by omega
  have hall : index ≠ 0xFF := by omega
  simp [getMeasurementsOp, halgs, hzero, hall, hhigh]

end Agreed

/-! ### Sessions (R130) -/

/-- The session that KEY_EXCHANGE opens: its ID joins the requester's half with the block's own. -/
def sessionMade (carrier : Nat) (x : Bytes) (s : State) : Spdm :=
  Spdm.mk (num x 2 2 + put 16 (0x1000 + s.att.nextSid % 0x6000)) carrier false 1 (Config.exportSecret s.att.nextSid) []

theorem keyExchangeOp_opens {t : Transport} {carrier : Nat} {x : Bytes} {s : State} (halgs : (connOf s t).algs = true)
    (hroom : (connOf s t).sessions.length < 4) (hform : num x 1 1 = 0) :
    ∃ b u, keyExchangeOp t carrier x s = ((0x64#8, b), u)
      ∧ u.att = ((updConn t (fun c => { c with sessions := c.sessions ++ [sessionMade carrier x s] }) s).updAt
          fun a => { a with nextSid := a.nextSid + 1 }).att := by
  simp only [keyExchangeOp, halgs, hform, if_neg (Nat.not_le.mpr hroom), Bool.not_true, Bool.false_eq_true, if_false, ne_eq,
    not_true_eq_false]
  exact ⟨_, _, rfl, rfl⟩

theorem keyExchangeOp_full {t : Transport} {carrier : Nat} {x : Bytes} {s : State} (halgs : (connOf s t).algs = true)
    (hfull : 4 ≤ (connOf s t).sessions.length) : keyExchangeOp t carrier x s = (spdmErr errSessionLimit, s.atEvent 0) := by
  simp only [keyExchangeOp, halgs, if_pos hfull, Bool.not_true, Bool.false_eq_true, if_false]

/-- A change of the sessions of one ID that keeps their IDs changes the session found. -/
theorem find_map_sid {l : List Spdm} {sid : Nat} {f : Spdm → Spdm} (hf : ∀ y, (f y).sid = y.sid) :
    (l.map fun y => if y.sid == sid then f y else y).find? (fun y => y.sid == sid) = (l.find? fun y => y.sid == sid).map f := by
  induction l with
  | nil => rfl
  | cons y l ih =>
    by_cases hy : y.sid = sid
    · simp [hy, hf]
    · simpa [List.find?_cons, hy] using ih

/-- A session with one message more. -/
def messageMore (x : Spdm) : Spdm := { x with messages := x.messages + 1 }

theorem spdmCounted_below {t : Transport} {sid : Nat} {x : Spdm} {s : State} (hfind : spdmOf s t sid = some x)
    (hbound : x.messages + 1 < 2 ^ 32) :
    spdmCounted t sid s = updConn t (fun c => { c with
      sessions := c.sessions.map fun y => if y.sid == sid then messageMore y else y }) s := by
  simp only [spdmCounted, hfind, if_neg (Nat.not_le.mpr hbound)]
  rfl

theorem spdmOf_updSessions {t : Transport} {sid : Nat} {f : Spdm → Spdm} (hf : ∀ y, (f y).sid = y.sid) (s : State) :
    spdmOf (updConn t (fun c => { c with sessions := c.sessions.map fun y => if y.sid == sid then f y else y }) s) t sid
      = (spdmOf s t sid).map f := by
  rw [spdmOf, connOf_updConn]
  exact find_map_sid hf

/-- A session past its FINISH. -/
def finishMade (x : Spdm) : Spdm := { x with finished := true }

theorem finishOp_finishes {t : Transport} {sid : Nat} {x : Spdm} {s : State} (hfind : spdmOf s t sid = some x)
    (hopen : x.finished = false) :
    finishOp t sid true s = ((0x65#8, [0#8, 0#8]), spdmCounted t sid (updConn t (fun c => { c with
      sessions := c.sessions.map fun y => if y.sid == sid then finishMade y else y }) s)) := by
  simp only [finishOp, hfind, hopen, Bool.not_true, Bool.false_eq_true, if_false]
  rfl

theorem endSessionOp_closes {t : Transport} {sid : Nat} {x : Spdm} {s : State} (hfind : spdmOf s t sid = some x) :
    endSessionOp t sid s = ((0x6C#8, [0#8, 0#8]), closeSpdm t (fun y => y.sid == sid) s) := by
  simp only [endSessionOp, hfind]

theorem spdmOf_closeSpdm (t : Transport) (sid : Nat) (s : State) : spdmOf (closeSpdm t (fun y => y.sid == sid) s) t sid = none := by
  rw [spdmOf, (closeSpdm_keeps t _ s).1]
  simp

/-- R126: a message of the Call Sheet that fits is served. -/
theorem spdmMsgAct_serves {a : Act} {m : Bytes} {s : State} (hmay : mayAct s [.domainManager] a = true) (hlength : m.length ≤ 1368) :
    spdmMsgAct a m s
      = actDone a.sess 0x101002 Status.ok (spdmServe .callSheet a.sess m s).1 false (spdmServe .callSheet a.sess m s).2 := by
  unfold spdmMsgAct
  rw [runAct_may hmay]
  simp only [if_neg (Nat.not_lt.mpr hlength)]

/-- Settles O9: each request by the lemma of its operation. -/
theorem spdmResponder : Obligations.SpdmResponder := by
  unfold Obligations.SpdmResponder
  refine ⟨?version, ?capabilities, ?algorithms, ?digests, ?certificate, ?challenge, ?unsigned, ?signed, ?exchange, ?full, ?finish, ?ends,
    ?message, fun s => ⟨rfl, rfl, rfl⟩⟩
  case version =>
    intro t s
    obtain ⟨-, hout⟩ := closeSpdm_keeps t (fun _ => true) s
    refine ⟨_, (exec_getVersion t s).trans (congrArg _ (spdmSend_answer (by decide))), ?_, ?_⟩
    · rw [connOf_emit, connOf_updConn]
    · rw [State.emit_out, updConn_out, hout]
  case capabilities =>
    intro t s hversion
    rw [exec_getCapabilities, getCapabilitiesOp_known hversion, spdmSend_answer (by decide)]
    exact ⟨_, rfl, by simp, by simp⟩
  case algorithms =>
    intro t o s hcaps hasym hhash hmeas hspec hdhe haead hschedule
    obtain ⟨b, hop⟩ := negotiateOp_agrees (o := o) hcaps (by simp [*])
    rw [exec_negotiateAlgorithms, hop, spdmSend_answer (by decide)]
    exact ⟨_, rfl, by simp, b, by simp⟩
  case digests =>
    intro t s halgs
    rw [exec_getDigests, getDigestsOp_agreed halgs, spdmSend_answer (by decide)]
  case certificate =>
    intro t offset length s halgs hin
    rw [exec_getCertificate, getCertificateOp_portion halgs hin, spdmSend_answer (by decide)]
  case challenge =>
    intro t summary nonce s halgs
    rw [exec_challenge, challengeOp_signs halgs, spdmSend_answer (by decide)]
    refine ⟨_, _, rfl, rfl, rfl, ?_, rfl⟩
    simp only [List.append_assoc]
    exact sub_append_of_length rfl (length_digestBytes _)
  case unsigned =>
    intro t index nonce s halgs hlow hhigh
    rw [exec_getMeasurements, getMeasurementsOp_unsigned halgs nonce hlow hhigh, spdmSend_answer (by decide)]
  case signed =>
    intro t index nonce s halgs hlow hhigh
    rw [exec_getMeasurements, getMeasurementsOp_signed halgs nonce hlow hhigh, spdmSend_answer (by decide)]
    exact ⟨_, _, rfl, rfl, rfl, rfl, rfl⟩
  case exchange =>
    intro t carrier x s halgs hroom hform
    obtain ⟨b, u, hop, hatt⟩ := keyExchangeOp_opens (carrier := carrier) halgs hroom hform
    rw [exec_keyExchange, hop, spdmSend_answer (by decide)]
    refine ⟨_, rfl, ?_, ?_⟩
    · simp [hatt]
    · rw [connOf_emit, connOf_of_att hatt]
      cases t <;> rfl
  case full =>
    intro t carrier x s halgs hfull
    rw [exec_keyExchange, keyExchangeOp_full halgs hfull, spdmSend_error]
    exact ⟨_, rfl, rfl, by cases t <;> rfl, rfl⟩
  case finish =>
    intro t sid x s hfind hopen hbound
    have hfinished := (spdmOf_updSessions (t := t) (sid := sid) (f := finishMade) (fun _ => rfl) s).trans (congrArg (Option.map _) hfind)
    rw [exec_finish, finishOp_finishes hfind hopen, spdmCounted_below hfinished hbound, spdmSend_answer (by decide)]
    have hcounted := (spdmOf_updSessions (t := t) (sid := sid) (f := messageMore) (fun _ => rfl) _).trans
      (congrArg (Option.map messageMore) hfinished)
    exact ⟨_, rfl, by simp, hcounted⟩
  case ends =>
    intro t sid x s hfind
    obtain ⟨-, hout⟩ := closeSpdm_keeps t (fun y => y.sid == sid) s
    rw [exec_endSession, endSessionOp_closes hfind, spdmSend_answer (by decide)]
    exact ⟨_, rfl, congrArg _ hout, spdmOf_closeSpdm t sid s⟩
  case message =>
    intro a m s hmay hlength
    rw [exec_spdmMsg, spdmMsgAct_serves hmay hlength]

end Sys2Proof.Machine
end

section
/-! LEAVE: what it refuses, and the keys and the membership that it clears. -/

namespace Sys2Proof.Machine

-- One declaration at a time, so that the elaborator holds few threads (each takes stack of its own).
set_option Elab.async false

/-! ### Entries of a table that are struck -/

theorem key_ge_of_keysOk {α : Type} [DecidableEq α] {d : α} {lo : Nat} {t : List (Nat × α)} (ht : keysOk d lo t = true) {e : Nat × α}
    (he : e ∈ t) : lo ≤ e.1 := by
  induction t generalizing lo with
  | nil => cases he
  | cons x t ih =>
    simp only [keysOk, Bool.and_eq_true, decide_eq_true_eq] at ht
    obtain ⟨⟨hlo, -⟩, htail⟩ := ht
    rcases List.mem_cons.mp he with rfl | he
    · exact hlo
    · exact Nat.le_of_succ_le (le_trans (Nat.succ_le_succ hlo) (ih htail he))

/-- In a table in its canonical form the default value strikes the one entry of its key. -/
theorem mem_insertKey_default {α : Type} [DecidableEq α] {d : α} {lo k : Nat} {t : List (Nat × α)} (ht : keysOk d lo t = true)
    {e : Nat × α} (he : e ∈ insertKey d k d t) : e ∈ t ∧ e.1 ≠ k := by
  induction t generalizing lo with
  | nil => simp [insertKey] at he
  | cons x t ih =>
    obtain ⟨j, v⟩ := x
    simp only [keysOk, Bool.and_eq_true, decide_eq_true_eq] at ht
    obtain ⟨-, htail⟩ := ht
    rcases lt_trichotomy k j with hk | rfl | hk
    · simp only [insertKey, if_pos hk, if_true] at he
      refine ⟨he, ?_⟩
      rcases List.mem_cons.mp he with rfl | he
      · exact Nat.ne_of_gt hk
      · exact Nat.ne_of_gt (lt_trans hk (key_ge_of_keysOk htail he))
    · simp only [insertKey, lt_irrefl, if_false, if_true] at he
      exact ⟨List.mem_cons_of_mem _ he, Nat.ne_of_gt (key_ge_of_keysOk htail he)⟩
    · simp only [insertKey, if_neg (Nat.lt_asymm hk), if_neg (Nat.ne_of_gt hk)] at he
      rcases List.mem_cons.mp he with rfl | he
      · exact ⟨List.mem_cons_self, Nat.ne_of_lt hk⟩
      · obtain ⟨hmem, hne⟩ := ih htail he
        exact ⟨List.mem_cons_of_mem _ hmem, hne⟩

/-- What is left of a table, its entries of a list of keys struck. -/
theorem mem_forAll_set_default {α : Type} [Inhabited α] [DecidableEq α] {l : List Nat} {t : Tab α} (ht : t.wf = true) {e : Nat × α}
    (he : e ∈ forAll l (fun i (t : Tab α) => t.set i default) t) : e ∈ t ∧ e.1 ∉ l := by
  induction l generalizing t with
  | nil => exact ⟨he, List.not_mem_nil⟩
  | cons k l ih =>
    obtain ⟨hset, hrest⟩ := ih (Tab.wf_set ht) he
    obtain ⟨hmem, hne⟩ := mem_insertKey_default ht hset
    exact ⟨hmem, by simp [hne, hrest]⟩

/-! ### LEAVE (R143) -/

/-- The slots of the domain's keys, of class 1 or 2. -/
def domainSlots (k : Kv) : List Nat :=
  k.slots.filterMap fun e => if e.2.valid && (hClass e.2.handle == 1 || hClass e.2.handle == 2) then some e.1 else none

/-- The block as it leaves its domain. -/
def domainLeft (s : State) : State :=
  (destroySlots (withChildren s.kv (domainSlots s.kv)) s).updDom fun d => { (default : Dom) with
    epoch := d.epoch, retireSeen := d.retireSeen, retireDrops := d.retireDrops, timeSent := d.timeSent, nextIndex := d.nextIndex }

theorem exec_leave (a : Act) (s : State) : exec (.leave a) s = .next (leaveAct a s) := rfl

theorem leaveAct_sealed {a : Act} {s : State} (hmay : mayAct s [.domainManager] a = true)
    (hsealed : (usedHalls s).any (fun e => isSealed e.2) = true) :
    leaveAct a s = actDone a.sess 0x401005 Status.permission [] false s := by
  have hop : leaveOp s = (Status.permission, s) := if_pos hsealed
  unfold leaveAct
  rw [runAct_may hmay, hop]

theorem leaveAct_leaves {a : Act} {s : State} (hmay : mayAct s [.domainManager] a = true)
    (hplain : (usedHalls s).any (fun e => isSealed e.2) = false) :
    leaveAct a s = actDone a.sess 0x401005 Status.ok [] false (domainLeft s) := by
  have hop : leaveOp s = (Status.ok, domainLeft s) := if_neg (ne_true_of_eq_false hplain)
  unfold leaveAct
  rw [runAct_may hmay, hop]

/-- DOM_STATUS then shows no membership. -/
theorem domStatusWord_domainLeft (s : State) : domStatusWord (domainLeft s) = 0#32 := by
  have hdom : (domainLeft s).dom.joined = false ∧ (domainLeft s).dom.stepPending = false ∧ (domainLeft s).dom.member = 0#13 :=
    ⟨rfl, rfl, rfl⟩
  obtain ⟨hjoined, hpending, hmember⟩ := hdom
  rw [domStatusWord, hjoined, hpending, hmember]
  rfl

/-- No key of the domain is left. -/
theorem domainLeft_slots {s : State} (hslots : s.kv.slots.wf = true) {e : Nat × KeySlot} (he : e ∈ (domainLeft s).kv.slots)
    (hvalid : e.2.valid = true) : hClass e.2.handle ≠ 1 ∧ hClass e.2.handle ≠ 2 := by
  obtain ⟨hmem, hkept⟩ := mem_forAll_set_default hslots he
  have hroot : e.1 ∉ domainSlots s.kv := fun h => hkept (by simp [withChildren, h])
  by_contra hclass
  have hdomain : (hClass e.2.handle == 1 || hClass e.2.handle == 2) = true := by
    simpa [or_iff_not_and_not] using hclass
  exact hroot (List.mem_filterMap.mpr ⟨e, hmem, by simp only [hvalid, hdomain, Bool.and_self, if_true]⟩)

/-- Settles O46: a SEALED hall refuses LEAVE; without one the slots of the domain's keys are struck with their descendants. -/
theorem leaveTheDomain : Obligations.LeaveTheDomain := by
  unfold Obligations.LeaveTheDomain
  refine ⟨fun a s hmay hsealed => ?_, fun a s hmay hplain hslots => ⟨domainLeft s, ?_, domStatusWord_domainLeft s, fun e he => domainLeft_slots hslots he⟩⟩
  · rw [exec_leave, leaveAct_sealed hmay hsealed]
  · rw [exec_leave, leaveAct_leaves hmay hplain]

end Sys2Proof.Machine
end

section
/-! AT_STATUS and DOM_STATUS: their fields as they read, and what a write of them leaves. -/

namespace Sys2Proof.Machine

-- One declaration at a time, so that the elaborator holds few threads (each takes stack of its own).
set_option Elab.async false

/-! ### What the registers read (R123, R125) -/

/-- R123: the fields of AT_STATUS. -/
theorem atStatusWord_fields (s : State) : bits (atStatusWord s) 27 5 = 0 ∧ bits (atStatusWord s) 24 3 = s.att.layer.toNat
    ∧ bits (atStatusWord s) 16 8 = s.att.locks.toNat ∧ bits (atStatusWord s) 0 16 = s.att.result.toNat := by
  have hlayer := s.att.layer.isLt
  have hlocks := s.att.locks.isLt
  have hresult := s.att.result.isLt
  simp only [bits, atStatusWord, put, Nat.shiftRight_eq_div_pow]
  omega

theorem exec_read_atStatus (s : State) :
    ∃ v : Word, exec (.rcRegisterRead .keeper 0x100004) s = .next (s.emit (.regRead .keeper 0x100004 v))
      ∧ bits v.toNat 27 5 = 0 ∧ bits v.toNat 24 3 = s.att.layer.toNat ∧ bits v.toNat 16 8 = s.att.locks.toNat
      ∧ bits v.toNat 0 16 = s.att.result.toNat := by
  have hlayer := s.att.layer.isLt
  have hlocks := s.att.locks.isLt
  have hresult := s.att.result.isLt
  have hword : (BitVec.ofNat 32 (keeperRead s 0x100004)).toNat = atStatusWord s := by
    refine (BitVec.toNat_ofNat ..).trans (Nat.mod_eq_of_lt ?_)
    change atStatusWord s < 2 ^ 32
    simp only [atStatusWord, put]
    omega
  exact ⟨_, exec_rcRegisterRead_keeper rfl rfl (by decide), hword.symm ▸ atStatusWord_fields s⟩

/-- R125: the fields of DOM_STATUS. -/
theorem domStatusWord_fields (s : State) : (domStatusWord s).toNat.testBit 31 = s.dom.joined
    ∧ (domStatusWord s).toNat.testBit 30 = s.dom.stepPending ∧ (domStatusWord s).toNat.testBit 29 = false
    ∧ bits (domStatusWord s).toNat 16 13 = s.dom.member.toNat ∧ bits (domStatusWord s).toNat 0 16 = 0 := by
  have hmember := s.dom.member.isLt
  have hword : (domStatusWord s).toNat = b2n s.dom.joined * 2 ^ 31 + b2n s.dom.stepPending * 2 ^ 30 + s.dom.member.toNat * 2 ^ 16 := by
    refine (BitVec.toNat_ofNat ..).trans (Nat.mod_eq_of_lt ?_)
    simp only [put, b2n]
    split <;> split <;> omega
  rw [hword]
  simp only [Nat.testBit_eq_decide_div_mod_eq, bits, Nat.shiftRight_eq_div_pow]
  cases s.dom.joined <;> cases s.dom.stepPending <;> simp only [b2n, Bool.false_eq_true, if_false, if_true, decide_eq_true_eq,
    decide_eq_false_iff_not] <;> omega

/-- The attestation window of the Keeper's bus. -/
theorem keeperRead_attestation {off : Nat} (h : off < 0x10000) (s : State) : keeperRead s (0x100000 + off) = atRead s off := by
  have hwindow : (0x100000 + off) / 0x10000 = 0x10 := by omega
  have hoff : (0x100000 + off) % 0x10000 = off := by omega
  simp only [keeperRead, hwindow, hoff]
  rfl

/-- Stated with a variable for the word, so that the kernel chooses the register before it looks into the word. -/
theorem atRead_domStatus {s : State} {w : Nat} (h : (domStatusWord s).toNat = w) : atRead s 0x10 = w := by
  delta atRead
  rw [h]
  rfl

theorem exec_read_domStatus (s : State) :
    exec (.rcRegisterRead .keeper 0x100010) s = .next (s.emit (.regRead .keeper 0x100010 (domStatusWord s))) := by
  have hread := (keeperRead_attestation (off := 0x10) (by decide) s).trans (atRead_domStatus rfl)
  rw [exec_rcRegisterRead_keeper rfl rfl (by decide), hread, BitVec.ofNat_toNat, BitVec.setWidth_eq]

/-! ### What a write leaves -/

/-- What goes on behind a register write changes nothing of the domain, and of the attestation unit the counters of the IDE keys
alone. -/
theorem settled_attestation (s : State) : (settled ([], s)).att.rest = s.att.rest ∧ (settled ([], s)).dom = s.dom := by
  have frame : Frame 56441417934970 s (settled ([], s)) := settled_frame Frame.refl rfl
  exact ⟨frame.attRest (by decide), frame.dom (by decide)⟩

theorem exec_write_atStatus (w : Word) (s : State) :
    ∃ t, exec (.registerWrite .keeper 0x100004 w) s = .next t ∧ t.att.rest = s.att.rest ∧ t.dom = s.dom :=
  ⟨_, exec_registerWrite_keeper rfl rfl, settled_attestation s⟩

/-- R125: a write of DOM_STATUS sets its three fields. -/
theorem exec_write_domStatus (w : Word) (s : State) :
    ∃ t, exec (.registerWrite .keeper 0x100010 w) s = .next t ∧ t.att.rest = s.att.rest
      ∧ t.dom = { s.dom with
          joined := w.toNat.testBit 31, stepPending := w.toNat.testBit 30, member := BitVec.ofNat 13 (bits w.toNat 16 13) } :=
  ⟨_, exec_registerWrite_keeper rfl rfl, settled_attestation (atWrite 0x10 w.toNat s)⟩

/-! ### What a write of AT_STATUS lets go on -/

/-- A running queue of hall 0 with a ring entry to read, over IDE stream 0, to which the hall's running TDI is bound, under an active
key of count 0. -/
def fetchInStream : State :=
  { State.reset with
    pins := { State.reset.pins with hpEn := true }
    itu := { (default : Itu) with halls := [(0, { (default : Hall) with state := .live, tdi := .run, stream := some 0 })] }
    fe := { State.reset.fe with queues := [(0, { (default : Queue) with state := .running, active := true, tail := 1#32 })] }
    att := { (default : At) with
      ideStreams := [(0, { (default : IdeStream) with secure := true })]
      ideKeys := [(ideKeyAt 0 ideNonPosted true 0, { (default : IdeKey) with loaded := true, active := true })] } }

/-- R138: behind the write the front end reads the entry, sealed in the stream, which uses one IV of its key. -/
theorem registerWrite_counts_ideKey :
    ∃ t, exec (.registerWrite .keeper 0x100004 0#32) fetchInStream = .next t ∧ (ideKeyOf t 0 ideNonPosted true 0).count = 1 :=
  ⟨_, rfl, by decide +kernel⟩

/-- Refutes O45: its second clause has all of `att` unchanged by a write of AT_STATUS, in every state; a register write settles, and a host
read that then leaves in an IDE stream counts an IV of its key. The lemmas above are the statement without these counters. -/
theorem not_attestationStatusAndDomainStatus : ¬ Obligations.AttestationStatusAndDomainStatus := by
  unfold Obligations.AttestationStatusAndDomainStatus
  rintro ⟨-, unwritten, -⟩
  obtain ⟨t, ht, hatt, -⟩ := unwritten 0#32 fetchInStream
  obtain ⟨u, hu, hcount⟩ := registerWrite_counts_ideKey
  obtain rfl : t = u := Host.Outcome.next.inj (ht.symm.trans hu)
  unfold ideKeyOf at hcount
  rw [hatt] at hcount
  exact absurd hcount (by decide)

end Sys2Proof.Machine
end

section
/-! STOP_INTERFACE_REQUEST over DOE: the answer after the drain, and where a table of halls out of its canonical form shows another
record. -/

namespace Sys2Proof.Machine

-- One declaration at a time, so that the elaborator holds few threads (each takes stack of its own).
set_option Elab.async false

theorem exec_stopInterfaceAnswer (hall : Nat) (s : State) : exec (.stopInterfaceAnswer hall) s = .next (stopAnswer hall s) := rfl

/-- A hall whose TDI has stopped (R136). -/
def hallStopped (h : Hall) : Hall := { h with tdi := .unlocked, stopPending := false, lockNonce := 0#256, stream := none }

/-- The response object of STOP_INTERFACE_REQUEST for a session. -/
def stopReply (hall : Nat) (head : Bytes) (x : Spdm) : Bytes :=
  Config.securedSeal x.secret (spdmBytes (0x7E#8, [0#8, 0#8] ++ head ++ natLe (1 + (tdHead 0x07#8 (hall + 1)).length) 2
    ++ 1#8 :: tdHead 0x07#8 (hall + 1)))

/-- R136, R361: after step 2 of the retire the answer of a STOP that came over DOE is the mailbox's response. -/
theorem stopAnswer_doe {hall sid : Nat} {head : Bytes} {x : Spdm} {s : State} (hpending : (hallOf s hall).stopPending = true)
    (hdrained : (hallOf s hall).drained = true ∨ (hallOf s hall).state ≠ .retiring)
    (hwaits : s.att.doeBox.waits = some (sid, hall, head)) (hsession : spdmOf s .doe sid = some x) :
    stopAnswer hall s = doeReply 2 (stopReply hall head x) (updHall hall hallStopped s) := by
  have hdue : ((hallOf s hall).stopPending && ((hallOf s hall).drained || (hallOf s hall).state != .retiring)) = true := by
    simpa [hpending] using hdrained
  have hreply : doeStopped hall (updHall hall hallStopped s) = some (doeReply 2 (stopReply hall head x) (updHall hall hallStopped s)) := by
    have hwaits' : (updHall hall hallStopped s).att.doeBox.waits = some (sid, hall, head) := hwaits
    have hsession' : spdmOf (updHall hall hallStopped s) .doe sid = some x := hsession
    simp only [doeStopped, hwaits', hsession', ne_eq, not_true_eq_false, if_false]
    rfl
  have hstopped : tdStopped hall s = (.rsp 0x07#8 [], updHall hall hallStopped s) := rfl
  simp only [stopAnswer, hdue, hstopped, hreply, if_true]

/-- What holds of the DOE clause of O10, in a table of halls in its canonical form. -/
theorem exec_stopInterfaceAnswer_doe {hall sid : Nat} {head : Bytes} {x : Spdm} {s : State} (hhalls : s.itu.halls.wf = true)
    (hpending : (hallOf s hall).stopPending = true) (hdrained : (hallOf s hall).drained = true ∨ (hallOf s hall).state ≠ .retiring)
    (hwaits : s.att.doeBox.waits = some (sid, hall, head)) (hsession : spdmOf s .doe sid = some x) :
    ∃ t, exec (.stopInterfaceAnswer hall) s = .next t ∧ t.out = s.out ∧ t.att.doeBox.ready = true ∧ t.att.doeBox.waits = none
      ∧ (hallOf t hall).tdi = .unlocked :=
  ⟨_, (exec_stopInterfaceAnswer hall s).trans (congrArg _ (stopAnswer_doe hpending hdrained hwaits hsession)), rfl, rfl, rfl,
    congrArg Hall.tdi (Tab.get_mod hhalls)⟩

/-- Two records of hall 0, which no table in its canonical form has: a free one whose STOP, asked for over DOE, is to be answered, and
behind it one with a running TDI. -/
def stopWithTwoRecords : State :=
  { State.reset with
    itu := { (default : Itu) with halls :=
      [(0, { (default : Hall) with stopPending := true }), (0, { (default : Hall) with tdi := .run })] }
    att := { State.reset.att with
      doe := { (default : SpdmConn) with sessions := [default] }
      doeBox := { (default : DoeBox) with waits := some (0, 0, []) } } }

/-- The answer strikes the first record, and the second shows. -/
theorem stopInterfaceAnswer_shows_second :
    ∃ t, exec (.stopInterfaceAnswer 0) stopWithTwoRecords = .next t ∧ (hallOf t 0).tdi = .run :=
  ⟨_, rfl, by decide +kernel⟩

/-- Refutes O10: its clause for the answer over DOE has the TDI unlocked afterwards in every state, where, unlike its clause for K_SET_STOP,
it does not ask for a table in the canonical form. -/
theorem not_ideAndTdispRequests : ¬ Obligations.IdeAndTdispRequests := by
  unfold Obligations.IdeAndTdispRequests
  rintro ⟨-, -, -, -, -, -, -, -, -, -, -, answers, -⟩
  obtain ⟨t, ht, -, -, -, htdi⟩ := answers 0 0 [] default stopWithTwoRecords rfl (.inr (by decide)) rfl rfl
  obtain ⟨u, hu, hruns⟩ := stopInterfaceAnswer_shows_second
  obtain rfl : t = u := Host.Outcome.next.inj (ht.symm.trans hu)
  rw [hruns] at htdi
  exact absurd htdi (by decide)

end Sys2Proof.Machine
end

section
/-! The fence and semaphore commands, as actions and as FS_CMD operations, and the MSI-X messages. -/

namespace Sys2Proof.Machine

-- One declaration at a time, so that the elaborator holds few threads (each takes stack of its own).
set_option Elab.async false

/-! ### Fences (R316, R317) -/

/-- `s` with another record of fence `f`. -/
def fencePut (f : Nat) (x : Fence) (s : State) : State := { s with fs := { s.fs with fences := s.fs.fences.set f x } }

/-- R316: an argument block that names a fence that may be made makes the free one. -/
theorem fenceCreateOp_makes {b : Bytes} {f : Nat} {s : State} (hok : fenceCreateOk b s = true) (hfree : freeFence s = some f) :
    fenceCreateOp b true s = ((Status.ok, f), fencePut f (fenceMade b) s) := by
  simp only [fenceCreateOk, Bool.and_eq_true, Bool.or_eq_true, decide_eq_true_eq, Bool.not_eq_true', beq_iff_eq, bne_iff_ne,
    ne_eq] at hok
  obtain ⟨⟨⟨⟨⟨⟨⟨⟨⟨hhall, hlive⟩, hview⟩, hnotify⟩, hnew⟩, hkind⟩, hnone⟩, hqueue⟩, hmember⟩, hquota⟩ := hok
  unfold fenceCreateOp
  simp only [hfree]
  rw [if_neg, if_neg (Nat.not_le.mpr hquota)]
  · rfl
  · simp only [Bool.or_eq_true, Bool.and_eq_true, decide_eq_true_eq, beq_iff_eq, bne_iff_ne, ne_eq, Bool.not_eq_true', hlive, hnew]
    grind

section Cleared

variable {hall f : Nat} {s : State} (hok : fenceClearOk hall f s = true)
include hok

/-- R317: a fence of the hall that nothing holds is emptied. -/
theorem fenceDestroyOp_empties (hheld : fenceHeld s f = false) : fenceDestroyOp hall f true s = (Status.ok, fencePut f default s) := by
  obtain ⟨hmine, hstate⟩ := Bool.and_eq_true_iff.mp hok
  simp only [fenceDestroyOp, hmine, hstate, hheld, Bool.not_true, Bool.or_self, Bool.false_eq_true, if_false]
  rfl

theorem fenceDestroyOp_waits (hheld : fenceHeld s f = true) : fenceDestroyOp hall f true s = (Status.retryLater, s) := by
  obtain ⟨hmine, hstate⟩ := Bool.and_eq_true_iff.mp hok
  simp only [fenceDestroyOp, hmine, hstate, hheld, Bool.not_true, Bool.or_self, Bool.false_eq_true, if_false, if_true]

theorem fenceClearOp_clears : fenceClearOp hall f true s
    = (Status.ok, updFence f (fun o => { o with state := 1#2, status := Status.ok, backward := false }) s) := by
  obtain ⟨hmine, hstate⟩ := Bool.and_eq_true_iff.mp hok
  simp only [fenceClearOp, hmine, hstate, Bool.not_true, Bool.or_self, Bool.false_eq_true, if_false]

end Cleared

/-! ### Semaphores (R327) -/

theorem semAllocOp_makes {hall kind i : Nat} {count : Word} {s : State} (hok : semAllocOk hall kind s = true)
    (hfree : semFreeIndex kind s = some i) :
    semAllocOp hall kind count true s = ((Status.ok, i), updSem kind i (fun _ => Sem.mk true hall count) s) := by
  simp only [semAllocOk, Bool.and_eq_true, decide_eq_true_eq, beq_iff_eq] at hok
  obtain ⟨⟨⟨hhall, hlive⟩, hkind⟩, hquota⟩ := hok
  have hform : ¬ ((!true || decide (4096 ≤ hall) || (hallOf s hall).state != .live || !(kind == 1 || kind == 2)) = true) := by
    simp [hlive, hkind, hhall]
  unfold semFreeIndex at hfree
  simp only [semAllocOp, if_neg hform, if_neg (Nat.not_le.mpr hquota), hfree]

theorem semFreeOp_empties {hall kind i : Nat} {s : State} (hok : semFreeOk hall kind i s = true) :
    semFreeOp hall kind i true s = (Status.ok, updSem kind i (fun _ => default) s) := by
  simp only [semFreeOk, Bool.and_eq_true, beq_iff_eq] at hok
  obtain ⟨⟨⟨⟨hkind, halloc⟩, hhall⟩, hstate⟩, hnone⟩ := hok
  simp only [semFreeOp, hkind, halloc, hhall, hstate, hnone, bne_self_eq_false, Bool.not_true, Bool.or_self, Bool.false_eq_true, if_false]

/-! ### The actions -/

section Actions

variable {a : Act} {arg : Bytes} {s : State}

theorem exec_fenceCreate {f : Nat} (hrole : hallRole s a (num (fit arg 16) 0 2) = true) (hlength : arg.length ≤ 16)
    (hop : fenceCreateOp (fit arg 16) true s = ((Status.ok, f), fencePut f (fenceMade (fit arg 16)) s)) :
    exec (.fenceCreate a arg) s
      = .next (actDone a.sess 0x503001 Status.ok (natLe f 4) false (fencePut f (fenceMade (fit arg 16)) s)) := by
  change goOn (fenceCreateAct a arg s) = _
  simp only [fenceCreateAct, hrole, decide_eq_true hlength, Bool.and_self, hop, if_true]

section Fences

variable (hrole : hallRole s a (num arg 0 2) = true) (hpad : padZero arg 4 16 = true)
include hrole hpad

theorem exec_fenceDestroy {st : Status} {u : State} (hop : fenceDestroyOp (num arg 0 2) (num arg 2 2) true s = (st, u)) :
    exec (.fenceDestroy a arg) s = .next (actDone a.sess 0x503002 st [] false u) := by
  change goOn (fenceDestroyAct a arg s) = _
  simp only [fenceDestroyAct, hrole, hpad, Bool.and_self, hop]

theorem exec_fenceClear {st : Status} {u : State} (hop : fenceClearOp (num arg 0 2) (num arg 2 2) true s = (st, u)) :
    exec (.fenceClear a arg) s = .next (actDone a.sess 0x503003 st [] false u) := by
  change goOn (fenceClearAct a arg s) = _
  simp only [fenceClearAct, hrole, hpad, Bool.and_self, hop]

end Fences

theorem exec_semAlloc {i : Nat} {u : State} (hrole : hallRole s a (num arg 0 2) = true) (hpad : padZero arg 8 16 = true)
    (hzero : num arg 3 1 = 0)
    (hop : semAllocOp (num arg 0 2) (num arg 2 1) (BitVec.ofNat 32 (num arg 4 4)) true s = ((Status.ok, i), u)) :
    exec (.semAlloc a arg) s = .next (actDone a.sess 0x503004 Status.ok (natLe i 4) false u) := by
  change goOn (semAllocAct a arg s) = _
  simp only [semAllocAct, hrole, hpad, hzero, beq_self_eq_true, Bool.and_self, hop, if_true]

theorem exec_semFree {st : Status} {u : State} (hrole : hallRole s a (num arg 0 2) = true) (hpad : padZero arg 6 16 = true)
    (hzero : num arg 3 1 = 0) (hop : semFreeOp (num arg 0 2) (num arg 2 1) (num arg 4 2) true s = (st, u)) :
    exec (.semFree a arg) s = .next (actDone a.sess 0x503005 st [] false u) := by
  change goOn (semFreeAct a arg s) = _
  simp only [semFreeAct, hrole, hpad, hzero, beq_self_eq_true, Bool.and_self, hop]

end Actions

/-! ### FS_CMD (R338) -/

/-- `s` with the object fields of FS_CMD set. -/
def fsNamed (kind : BitVec 2) (obj : BitVec 16) (s : State) : State := { s with fs := { s.fs with kind := kind, obj := obj } }

theorem fsNamed_of_nat (kind : BitVec 2) (obj : BitVec 16) (s : State) :
    (s.updFs fun x => { x with kind := BitVec.ofNat 2 kind.toNat, obj := BitVec.ofNat 16 obj.toNat }) = fsNamed kind obj s := by
  simp only [BitVec.ofNat_toNat, BitVec.setWidth_eq]
  rfl

/-- A row without operands leaves the object fields as they stand. -/
theorem fsNamed_self (s : State) :
    (s.updFs fun x => { x with kind := BitVec.ofNat 2 (fsObj s).1, obj := BitVec.ofNat 16 (fsObj s).2 }) = s :=
  fsNamed_of_nat s.fs.kind s.fs.obj s

theorem exec_fsFenceCreate (s : State) : exec .fsFenceCreate s = .next (fsMade 1 (fenceCreateOp (fsArg s.fs) true s)) := by
  change goOn (fsCommand 1 (fsObj s).1 (fsObj s).2 s) = _
  simp only [fsCommand, fsNamed_self]

theorem exec_fsFenceDestroy {s : State} (hkind : s.fs.kind = 0) :
    exec .fsFenceDestroy s = .next (fsFinish 2 (fenceDestroyOp (fenceOf s s.fs.obj.toNat).hall s.fs.obj.toNat true s)) := by
  have hfence : ((fsObj s).1 == 0) = true := by simp [fsObj, hkind]
  change goOn (fsCommand 2 (fsObj s).1 (fsObj s).2 s) = _
  simp only [fsCommand, fsNamed_self, hfence]
  rfl

theorem exec_fsFenceClear {s : State} (hkind : s.fs.kind = 0) :
    exec .fsFenceClear s = .next (fsFinish 3 (fenceClearOp (fenceOf s s.fs.obj.toNat).hall s.fs.obj.toNat true s)) := by
  have hfence : ((fsObj s).1 == 0) = true := by simp [fsObj, hkind]
  change goOn (fsCommand 3 (fsObj s).1 (fsObj s).2 s) = _
  simp only [fsCommand, fsNamed_self, hfence]
  rfl

theorem exec_fsSemAlloc {s : State} (hpad : padZero (fsArg s.fs) 8 16 = true) (hzero : num (fsArg s.fs) 3 1 = 0) :
    exec .fsSemAlloc s = .next (fsMade 4 (semAllocOp (num (fsArg s.fs) 0 2) (num (fsArg s.fs) 2 1)
      (BitVec.ofNat 32 (num (fsArg s.fs) 4 4)) true s)) := by
  change goOn (fsCommand 4 (fsObj s).1 (fsObj s).2 s) = _
  simp only [fsCommand, fsNamed_self, hpad, hzero, beq_self_eq_true, Bool.and_self]

theorem exec_fsSemFree {s : State} (hkind : s.fs.kind = 1) :
    exec .fsSemFree s = .next (fsFinish 5 (semFreeOp (semOf s 1 s.fs.obj.toNat).hall 1 s.fs.obj.toNat true s)) := by
  have hlocal : fsObj s = (1, s.fs.obj.toNat) := by simp [fsObj, hkind]
  have hself := fsNamed_self s
  rw [hlocal] at hself
  change goOn (fsCommand 5 (fsObj s).1 (fsObj s).2 s) = _
  simp only [hlocal, fsCommand, hself]

theorem exec_fsQuery (kind : BitVec 2) (obj : BitVec 16) (s : State) :
    exec (.fsQuery kind obj) s = .next (fsFinish 6 (fsQueryOp kind.toNat obj.toNat (fsNamed kind obj s))) := by
  change goOn (fsCommand 6 kind.toNat obj.toNat s) = _
  simp only [fsCommand, fsNamed_of_nat]

theorem exec_fsFault (kind : BitVec 2) (obj : BitVec 16) (s : State) :
    exec (.fsFault kind obj) s = .next (fsFinish 7 (fsFaultOp kind.toNat obj.toNat (fsNamed kind obj s))) := by
  change goOn (fsCommand 7 kind.toNat obj.toNat s) = _
  simp only [fsCommand, fsNamed_of_nat]

/-- R321: a status that faults, and a fence that is not FREE. -/
theorem fsFaultOp_faults {obj : Nat} {st : Status} {s : State} (hst : BitVec.ofNat 16 (s.fs.args.get 0).toNat = st)
    (hok : st ≠ Status.ok) (hdeferred : st ≠ Status.deferred) (hfence : (fenceOf s obj).state ≠ 0#2) :
    fsFaultOp 0 obj s = (Status.ok, faultFence obj st s) := by
  simp [fsFaultOp, hst, hok, hdeferred, hfence]

/-! ### MSI-X (R138, R332) -/

/-- `s` with the message of a vector no longer pending. -/
def msixTaken (hall vector : Nat) (s : State) : State :=
  updHall hall (fun h => { h with msixPending := h.msixPending &&& ~~~(BitVec.ofNat 8 (2 ^ vector)) }) s

/-- A message taken leaves the TDI of its hall, and the stream that it sends in. -/
theorem boundStream_msixTaken {hall vector : Nat} {s : State} (hhalls : s.itu.halls.wf = true) :
    boundStream (msixTaken hall vector s) hall = boundStream s hall := by
  have hhall : (msixTaken hall vector s).itu.halls.get hall
      = { s.itu.halls.get hall with msixPending := (s.itu.halls.get hall).msixPending &&& ~~~(BitVec.ofNat 8 (2 ^ vector)) } :=
    Tab.get_mod (f := fun h : Hall => { h with msixPending := h.msixPending &&& ~~~(BitVec.ofNat 8 (2 ^ vector)) }) hhalls
  simp only [boundStream, hallOf, hhall]
  rfl

section Message

variable {hall vector : Nat} {s : State} (hhalls : s.itu.halls.wf = true)
  (hpending : (hallOf s hall).msixPending.toNat.testBit vector = true)
  (hmask : (msixWord (hallOf s hall) (4 * vector + 3)).toNat.testBit 0 = false) (hport : s.pins.hpEn = true)
  (hsafe : s.fcu.safe = false) (hland : s.hr.landing.contains Src.hostPipes = false)
include hhalls hpending hmask hport hsafe hland

/-- R332: the pending message of a vector that is not masked is sent, in the stream that its hall's TDI sends in. -/
theorem exec_msixMessage : ∃ head data, exec (.msixMessage hall vector) s
    = .next (ideEmit (boundStream s hall) idePosted head data (fun _ => .msix (hall + 1) vector) ((msixTaken hall vector s).fsCount 7)) := by
  have hdue : ((hallOf s hall).msixPending.toNat.testBit vector && !(msixWord (hallOf s hall) (4 * vector + 3)).toNat.testBit 0
      && s.pins.hpEn && !s.fcu.safe && !s.hr.landing.contains Src.hostPipes) = true := by
    simp only [hpending, hmask, hport, hsafe, hland, Bool.not_false, Bool.and_self]
  refine ⟨Config.ideHeader 1 (hall + 1) ((msixWord (hallOf s hall) (4 * vector)).toNat
    + put 32 (msixWord (hallOf s hall) (4 * vector + 1)).toNat) 4 true, natLe (msixWord (hallOf s hall) (4 * vector + 2)).toNat 4, ?_⟩
  change goOn (msixMessageOp hall vector s) = _
  rw [← boundStream_msixTaken (vector := vector) hhalls]
  exact congrArg _ (if_pos hdue)

end Message

/-- R134: in a stream the MAC of the message follows it. -/
theorem ideEmit_stream {i sub' ks : Nat} {head data : Bytes} {o : Out} {s : State} (hset : ideTxSet s i sub' = some ks) :
    ∃ x, (ideEmit (some i) sub' head data (fun _ => o) s).out = .ideTail i sub' ks x :: o :: s.out
      ∧ (ideEmit (some i) sub' head data (fun _ => o) s).itu = s.itu := by
  simp only [ideEmit, hset]
  exact ⟨_, rfl, rfl⟩

/-- Settles O21: each row by the lemma of its operation. -/
theorem fenceAndSemaphoreCommands : Obligations.FenceAndSemaphoreCommands := by
  unfold Obligations.FenceAndSemaphoreCommands
  refine ⟨?create, ?fsCreate, ?destroy, ?destroyWaits, ?fsDestroy, ?clear, ?fsClear, ?alloc, ?fsAlloc, ?free, ?fsFree, ?queryFence,
    ?querySem, ?queryNone, ?fault, ?message, ?sealed⟩
  case create =>
    intro a arg f s hrole hlength hok hfree
    exact exec_fenceCreate hrole hlength (fenceCreateOp_makes hok hfree)
  case fsCreate =>
    intro f s hok hfree
    rw [exec_fsFenceCreate, fenceCreateOp_makes hok hfree]
    exact ⟨_, rfl, rfl, rfl, rfl⟩
  case destroy =>
    intro a arg s hrole hpad hok hheld
    exact exec_fenceDestroy hrole hpad (fenceDestroyOp_empties hok hheld)
  case destroyWaits =>
    intro a arg s hrole hpad hok hheld
    exact exec_fenceDestroy hrole hpad (fenceDestroyOp_waits hok hheld)
  case fsDestroy =>
    intro s hkind hok hheld
    rw [exec_fsFenceDestroy hkind, fenceDestroyOp_empties hok hheld]
    exact ⟨_, rfl, rfl, rfl⟩
  case clear =>
    intro a arg s hrole hpad hok
    exact exec_fenceClear hrole hpad (fenceClearOp_clears hok)
  case fsClear =>
    intro s hkind hok
    rw [exec_fsFenceClear hkind, fenceClearOp_clears hok]
    exact ⟨_, rfl, rfl, rfl⟩
  case alloc =>
    intro a arg i s hrole hpad hzero hok hfree
    exact exec_semAlloc hrole hpad hzero (semAllocOp_makes hok hfree)
  case fsAlloc =>
    rintro b i s rfl hpad hzero hkind hok hfree
    rw [exec_fsSemAlloc hpad hzero, hkind, semAllocOp_makes hok hfree]
    exact ⟨_, rfl, rfl, rfl, rfl⟩
  case free =>
    intro a arg s hrole hpad hzero hok
    exact exec_semFree hrole hpad hzero (semFreeOp_empties hok)
  case fsFree =>
    intro s hkind hok
    rw [exec_fsSemFree hkind, semFreeOp_empties hok]
    exact ⟨_, rfl, rfl, rfl⟩
  case queryFence =>
    intro obj s
    exact ⟨_, exec_fsQuery 0 obj s, rfl, rfl, rfl, rfl⟩
  case querySem =>
    intro obj s
    exact ⟨_, exec_fsQuery 1 obj s, rfl, rfl, rfl⟩
  case queryNone =>
    intro obj s
    exact ⟨_, exec_fsQuery 3 obj s, rfl⟩
  case fault =>
    rintro obj st s u hst hok hdeferred hfence rfl
    have hop := fsFaultOp_faults (s := fsNamed 0 obj s) hst.symm hok hdeferred hfence
    exact ⟨_, (exec_fsFault 0 obj s).trans (congrArg (fun r => Host.Outcome.next (fsFinish 7 r)) hop), rfl, rfl⟩
  case message =>
    intro hall vector s hhalls hpending _ hmask hport hsafe hland hstream
    obtain ⟨head, data, hexec⟩ := exec_msixMessage hhalls hpending hmask hport hsafe hland
    rw [hexec, hstream]
    exact ⟨_, rfl, rfl, rfl⟩
  case sealed =>
    intro hall vector i ks s hhalls hpending _ hmask hport hsafe hland hstream hset
    obtain ⟨head, data, hexec⟩ := exec_msixMessage hhalls hpending hmask hport hsafe hland
    obtain ⟨x, hout, hitu⟩ := ideEmit_stream (head := head) (data := data) (o := .msix (hall + 1) vector)
      (s := (msixTaken hall vector s).fsCount 7) hset
    rw [hexec, hstream]
    exact ⟨_, x, rfl, hout, congrArg Itu.halls hitu⟩

end Sys2Proof.Machine
end

section
/-! The domain's commands: its documents, its root, the join, the loss of members, the epoch step and the hall retire message. -/

namespace Sys2Proof.Machine

-- One declaration at a time, so that the elaborator holds few threads (each takes stack of its own).
set_option Elab.async false

/-! ### Documents (R140, R141) -/

theorem exec_manifestChunk {a : Act} {arg : Bytes} {st : Status} {s u : State} (hmay : mayAct s [.domainManager] a = true)
    (hop : manifestChunkOp a.sess arg s = (st, u)) : exec (.manifestChunk a arg) s = .next (actDone a.sess 0x401001 st [] false u) := by
  change goOn (manifestChunkAct a arg s) = _
  rw [manifestChunkAct, runAct_may hmay, hop]

theorem exec_planChunk {a : Act} {arg : Bytes} {st : Status} {s u : State} (hmay : mayAct s [.domainManager] a = true)
    (hop : planChunkOp a.sess arg s = (st, u)) : exec (.planChunk a arg) s = .next (actDone a.sess 0x401002 st [] false u) := by
  change goOn (planChunkAct a arg s) = _
  rw [planChunkAct, runAct_may hmay, hop]

/-- A chunk that opens the join for its session leaves what was gathered. -/
@[simp] theorem chunkFrom_manifestBuf (sess : Nat) (arg : Bytes) (s : State) :
    (chunkFrom sess arg s).dom.manifestBuf = s.dom.manifestBuf := by
  unfold chunkFrom
  split <;> rfl

@[simp] theorem chunkFrom_lcState (sess : Nat) (arg : Bytes) (s : State) : (chunkFrom sess arg s).lcState = s.lcState := by
  unfold chunkFrom
  split <;> rfl

section Manifest

variable {sess : Nat} {arg b : Bytes} {s : State} (hfield : s.lcState = field) (hsess : otherSession (chunkFrom sess arg s) sess = false)
  (hjoins : chunkJoins s.dom.manifestBuf arg = some b)
include hfield hsess hjoins

/-- A chunk in order, in the join's session, comes to the question whether it completes the manifest. -/
theorem manifestChunkOp_joins : manifestChunkOp sess arg s
    = if !docWhole b then (Status.ok, (chunkFrom sess arg s).updDom fun d => { d with manifestBuf := b })
      else
        let u := (chunkFrom sess arg s).updDom fun d => { d with manifestBuf := [] }
        if !docSigned (sessOf s sess).leaf b then (Status.authFail, u)
        else if !mfForm b || !mfOwnOk u b || !signerOk u (sessOf s sess).leaf then (Status.permission, u)
        else (Status.ok, u.updDom fun d => { d with newManifest := some b, newPlan := none }) := by
  have hgo : ¬ ((chunkFrom sess arg s).lcState ≠ field ∨ otherSession (chunkFrom sess arg s) sess = true) := by simp [hfield, hsess]
  have hbuf := hjoins
  rw [← chunkFrom_manifestBuf sess arg s] at hbuf
  simp only [manifestChunkOp, ← chunkFrom.eq_1]
  rw [if_neg hgo, hbuf]

theorem manifestChunkOp_keeps (hpart : docWhole b = false) :
    manifestChunkOp sess arg s = (Status.ok, (chunkFrom sess arg s).updDom fun d => { d with manifestBuf := b }) := by
  rw [manifestChunkOp_joins hfield hsess hjoins, hpart]
  rfl

theorem manifestChunkOp_completes (hwhole : docWhole b = true) (hsigned : docSigned (sessOf s sess).leaf b = true)
    (hform : mfForm b = true) (hown : mfOwnOk ((chunkFrom sess arg s).updDom fun d => { d with manifestBuf := [] }) b = true)
    (hsigner : signerOk ((chunkFrom sess arg s).updDom fun d => { d with manifestBuf := [] }) (sessOf s sess).leaf = true) :
    manifestChunkOp sess arg s
      = (Status.ok, (chunkFrom sess arg s).updDom fun d => { d with manifestBuf := [], newManifest := some b, newPlan := none }) := by
  rw [manifestChunkOp_joins hfield hsess hjoins]
  simp only [hwhole, hsigned, hform, hown, hsigner, Bool.not_true, Bool.or_self, Bool.false_eq_true, if_false]
  rfl

end Manifest

/-- R141: a good plan for the manifest just accepted is the next one. -/
theorem planChunkOp_completes {sess : Nat} {arg b m : Bytes} {s : State} (hfield : s.lcState = field)
    (hsess : otherSession s sess = false) (hjoins : chunkJoins s.dom.planBuf arg = some b) (hwhole : docWhole b = true)
    (hsigned : docSigned (sessOf s sess).leaf b = true)
    (hsigner : signerOk (s.updDom fun d => { d with planBuf := [] }) (sessOf s sess).leaf = true) (hmf : s.dom.newManifest = some m)
    (hform : planForm b (mfMember (s.updDom fun d => { d with planBuf := [] }) m) (docDigest m) = true) :
    planChunkOp sess arg s = (Status.ok, s.updDom fun d => { d with planBuf := [], newPlan := some b }) := by
  have hgo : ¬ (s.lcState ≠ field ∨ otherSession s sess = true) := by simp [hfield, hsess]
  unfold planChunkOp
  rw [if_neg hgo, hjoins]
  simp only [hwhole, hsigned, hsigner, State.updDom_dom, hmf, hform, Bool.not_true, Bool.false_eq_true, if_false, if_true]
  rfl

/-! ### The root (R130, R142) -/

theorem exec_domainRoot {a : Act} {arg b : Bytes} {s v : State} (hmay : mayAct s [.domainManager] a = true)
    (hop : domainRootOp a.sess arg s = ((Status.ok, b), v)) : exec (.domainRoot a arg) s = .next (actDone a.sess 0x401003 Status.ok b true v) := by
  change goOn (domainRootAct a arg s) = _
  rw [domainRootAct, if_pos hmay, hop]
  rfl

/-- What an unwrapped root comes to: a status that is not OK is answered without a handle. -/
theorem root_of_unwrapped {st : Status} {h : Handle} {b : Bytes} {u v : State}
    (hop : (if st ≠ Status.ok then ((st, []), u) else ((Status.ok, natLe h.toNat 4), u.updDom fun d => { d with root := some h }))
      = ((Status.ok, b), v)) : ∃ h, v.dom.root = some h ∧ b = natLe h.toNat 4 := by
  split at hop
  · rename_i hst
    exact absurd (congrArg (·.1.1) hop) hst
  · cases hop
    exact ⟨h, rfl, rfl⟩

/-- A root that is taken is answered by its handle. -/
theorem domainRootOp_ok {sess : Nat} {arg b : Bytes} {s v : State} (hop : domainRootOp sess arg s = ((Status.ok, b), v)) :
    ∃ h, v.dom.root = some h ∧ b = natLe h.toNat 4 := by
  have hrefused : ∀ {st : Status} {u : State}, st ≠ Status.ok → ((st, ([] : Bytes)), u) ≠ ((Status.ok, b), v) := by
    rintro st u hst heq
    exact hst (congrArg (·.1.1) heq)
  unfold domainRootOp at hop
  dsimp only at hop
  split at hop
  · exact absurd hop (hrefused (by decide))
  split at hop
  · exact absurd hop (hrefused (by decide))
  split at hop
  · exact absurd hop (hrefused (by decide))
  split at hop
  · rename_i hst
    exact absurd hop (hrefused hst)
  split at hop
  · exact root_of_unwrapped hop
  · exact root_of_unwrapped hop

/-! ### The plan's keys (R141) -/

/-- The next entry of the plan with its key, when it is due. -/
def planStep (epoch : Nat) (a : List PlanEntry × State) (e : PlanEntry) : List PlanEntry × State :=
  match deriveEntry epoch e (a.2.updDom fun d => { d with plan := a.1 ++ [e] ++ d.plan.drop (a.1.length + 1) }) with
  | (e, s) => (a.1 ++ [e], s)

theorem derivePlan_eq (s : State) : derivePlan s
    = (s.dom.plan.foldl (planStep (planEpoch s)) ([], s)).2.updDom fun d =>
      { d with plan := (s.dom.plan.foldl (planStep (planEpoch s)) ([], s)).1 } := rfl

theorem planStep_dom (epoch : Nat) (a : List PlanEntry × State) (e : PlanEntry) :
    (planStep epoch a e).2.dom = { a.2.dom with plan := (planStep epoch a e).2.dom.plan } := by
  have hkeeps := (deriveEntry_frame (w₀ := 64) (epoch := epoch) (e := e)
    (s := a.2.updDom fun d => { d with plan := a.1 ++ [e] ++ d.plan.drop (a.1.length + 1) }) Frame.refl rfl).dom (by decide)
  exact hkeeps.trans (by rw [show (planStep epoch a e).2.dom = _ from hkeeps]; rfl)

theorem length_planStep (epoch : Nat) (a : List PlanEntry × State) (e : PlanEntry) : (planStep epoch a e).1.length = a.1.length + 1 := by
  simp [planStep]

theorem foldl_planStep (epoch : Nat) (l : List PlanEntry) (a : List PlanEntry × State) :
    (∃ plan, (l.foldl (planStep epoch) a).2.dom = { a.2.dom with plan := plan })
      ∧ (l.foldl (planStep epoch) a).1.length = a.1.length + l.length := by
  induction l generalizing a with
  | nil => exact ⟨⟨_, rfl⟩, rfl⟩
  | cons e l ih =>
    obtain ⟨⟨plan, hdom⟩, hlength⟩ := ih (planStep epoch a e)
    refine ⟨⟨plan, ?_⟩, ?_⟩
    · rw [List.foldl_cons, hdom, planStep_dom]
    · rw [List.foldl_cons, hlength, length_planStep, List.length_cons]
      omega

/-- The keys of the plan change the plan's handles alone. -/
theorem derivePlan_keeps (s : State) :
    ∃ plan, (derivePlan s).dom = { s.dom with plan := plan } ∧ plan.length = s.dom.plan.length := by
  obtain ⟨⟨plan, hdom⟩, hlength⟩ := foldl_planStep (planEpoch s) s.dom.plan ([], s)
  refine ⟨_, ?_, hlength.trans (Nat.zero_add _)⟩
  rw [derivePlan_eq, State.updDom_dom, hdom]

/-! ### The join and the epoch step (R142, R145) -/

/-- R142: the documents and the root joined, or nothing where the plan's keys find no room. -/
theorem joinCommitOp_of_epochKey {sess : Nat} {m p : Bytes} {r : Handle} {s v : State} (hfield : s.lcState = field)
    (hjoined : s.dom.joined = false) (hsess : otherSession s sess = false) (hmf : s.dom.newManifest = some m)
    (hplan : s.dom.newPlan = some p) (hroot : s.dom.root = some r) (hkey : deriveEpochKey (mfEpoch m) s = (Status.ok, v)) :
    joinCommitOp sess s = if planDerived (joinMade sess m p s v) then (Status.ok, joinMade sess m p s v) else (Status.refusedCapacity, s) := by
  have hgo : ¬ (s.lcState ≠ field ∨ s.dom.joined = true ∨ otherSession s sess = true) := by simp [hfield, hjoined, hsess]
  unfold joinCommitOp
  rw [hmf, hplan, hroot]
  dsimp only
  rw [if_neg hgo, hkey]
  rfl

theorem exec_joinCommit {a : Act} {st : Status} {s u : State} (hmay : mayAct s [.domainManager] a = true)
    (hop : joinCommitOp a.sess s = (st, u)) : exec (.joinCommit a) s = .next (actDone a.sess 0x401004 st [] false u) := by
  change goOn (joinCommitAct a s) = _
  rw [joinCommitAct, runAct_may hmay, hop]

theorem joinMade_dom (sess : Nat) (m p : Bytes) (s v : State) :
    ∃ plan, plan.length = (planEntries p).length ∧ (joinMade sess m p s v).dom = { v.dom with
      joined := true, member := BitVec.ofNat 13 (mfMember s m), epoch := BitVec.ofNat 32 (mfEpoch m)
      signer := some (sessOf s sess).leaf, lost := ((mfMembers m).filter (·.lost)).map (·.id), stepState := 0
      members := mfMembers m, manifest := docDigest m, plan := plan, newManifest := none, newPlan := none } := by
  obtain ⟨plan, hdom, hlength⟩ := derivePlan_keeps (installDocs m p (v.updDom fun d => { d with
    joined := true, member := BitVec.ofNat 13 (mfMember s m), epoch := BitVec.ofNat 32 (mfEpoch m)
    signer := some (sessOf s sess).leaf, lost := ((mfMembers m).filter (·.lost)).map (·.id), stepState := 0 }))
  exact ⟨plan, hlength, hdom⟩

theorem stepMade_dom (next : Nat) (m p : Bytes) (v : State) :
    ∃ plan, plan.length = (planEntries p).length ∧ (stepMade next m p v).dom = { v.dom with
      stepPending := true, nextEpoch := BitVec.ofNat 32 next, switched := false, stepState := 1, oldPlan := v.dom.plan
      members := mfMembers m, manifest := docDigest m, plan := plan, newManifest := none, newPlan := none } := by
  obtain ⟨plan, hdom, hlength⟩ := derivePlan_keeps (installDocs m p (v.updDom fun d => { d with
    stepPending := true, nextEpoch := BitVec.ofNat 32 next, switched := false, stepState := 1, oldPlan := d.plan }))
  exact ⟨plan, hlength, hdom⟩

theorem exec_epochPrepare {a : Act} {arg : Bytes} {st : Status} {x : List Ans} {s u : State} (hmay : mayAct s [.domainManager] a = true)
    (hop : epochPrepareOp arg s = (st, x, u)) :
    exec (.epochPrepare a arg) s = .next (settled (x, actDone a.sess 0x402001 st [] false u)) := by
  change goOn (settled (epochPrepareAct a arg s)) = _
  rw [epochPrepareAct, if_pos hmay, hop]

/-- R145: the step to the next epoch, where its manifest loses no more members. -/
theorem epochPrepareOp_of_epochKey {m p arg : Bytes} {s v : State} (hidle : s.dom.stepPending = false)
    (hmf : s.dom.newManifest = some m) (hplan : s.dom.newPlan = some p) (hlength : arg.length = 4) (hjoined : s.dom.joined = true)
    (hnext : s.dom.epoch.toNat + 1 = num arg 0 4) (hword : num arg 0 4 < 2 ^ 32) (hepoch : mfEpoch m = num arg 0 4)
    (hmember : mfMember s m = s.dom.member.toNat) (hkey : deriveEpochKey (num arg 0 4) s = (Status.ok, v))
    (hkept : (mfMembers m).filter (fun x => x.lost && !memberLost s x.id) = []) :
    epochPrepareOp arg s
      = if planDerived (stepMade (num arg 0 4) m p v) then (Status.ok, [], stepMade (num arg 0 4) m p v) else (Status.refusedCapacity, [], s) := by
  have hgo : ¬ (arg.length ≠ 4 ∨ (!s.dom.joined) = true ∨ s.dom.epoch.toNat + 1 ≠ num arg 0 4 ∨ 2 ^ 32 ≤ num arg 0 4
      ∨ mfEpoch m ≠ num arg 0 4 ∨ mfMember s m ≠ s.dom.member.toNat) := by
    simp [hlength, hjoined, hnext, hepoch, hmember]
    exact hword
  unfold epochPrepareOp
  rw [hidle, hmf, hplan]
  dsimp only
  rw [if_neg Bool.false_ne_true, if_neg hgo, hkey, hkept]
  rfl

theorem exec_epochSwitch {a : Act} {arg : Bytes} {s : State} (hmay : mayAct s [.domainManager] a = true) (hlength : arg.length = 8)
    (hpending : s.dom.stepPending = true) (hfirst : s.dom.switched = false) :
    exec (.epochSwitch a arg) s = .next (actDone a.sess 0x402002 Status.ok [] false (drainComplete
      ((armSwitchOp (s.updLs fun l => { l with switchAt := BitVec.ofNat 64 (num arg 0 8) })).updDom fun d =>
        { d with switched := true, stepState := 2 }))) := by
  have hgo : ¬ (arg.length ≠ 8 ∨ (!s.dom.stepPending) = true ∨ s.dom.switched = true) := by simp [hlength, hpending, hfirst]
  change goOn (epochSwitchAct a arg s) = _
  rw [epochSwitchAct, runAct_may hmay, epochSwitchOp, if_neg hgo]

theorem exec_epochRetire {a : Act} {arg : Bytes} {s : State} (hmay : mayAct s [.domainManager] a = true) (hlength : arg.length = 4)
    (hjoined : s.dom.joined = true) :
    exec (.epochRetire a arg) s = .next (actDone a.sess 0x402003 Status.ok [] false (retireEpoch (num arg 0 4) s)) := by
  have hgo : ¬ (arg.length ≠ 4 ∨ (!s.dom.joined) = true) := by simp [hlength, hjoined]
  change goOn (epochRetireAct a arg s) = _
  rw [epochRetireAct, runAct_may hmay, epochRetireOp, if_neg hgo]

/-! ### LEAVE, the loss of a member and the hall retire message (R143, R144, R146) -/

theorem domainLeft_kv_slots (s : State) : (domainLeft s).kv.slots = slotsWithout s.kv (domainSlots s.kv) := rfl

theorem num_natLe_two {m : Nat} (hm : m < 65536) : num (natLe m 2) 0 2 = m := by
  simp [num, sub, natLe, leNat]
  omega

/-- A list of one member is answered by the loss of that member. -/
theorem exec_memberLost_one {a : Act} {m : Nat} {s : State} (hmay : mayAct s [.domainManager] a = true) (hjoined : s.dom.joined = true)
    (hm : m < 8192) : exec (.memberLost a (natLe m 2)) s
      = .next (settled ((peerLostOp m s).1, actDone a.sess 0x402004 Status.ok [] false (peerLostOp m s).2)) := by
  have hids : ((List.range (2 / 2)).map fun i => num (natLe m 2) (2 * i) 2) = [m] := by
    simp [List.range_succ, num_natLe_two (lt_trans hm (by decide))]
  change goOn (settled (memberLostAct a (natLe m 2) s)) = _
  simp only [memberLostAct, hids, hmay, hjoined, length_natLe, List.all_cons, List.all_nil, decide_eq_true hm, Bool.and_self]
  rfl

theorem exec_hallRetireMessage (ctx : Nat) (m : Bytes) (s : State) : exec (.hallRetireMessage ctx m) s = .next (retireReceive ctx m s) := rfl

/-- R146: a message newer than its origin's last is applied, recorded and forwarded. -/
theorem retireReceive_newer {ctx : Nat} {m : Bytes} {s : State} (hlength : m.length = 64) (htype : num m 0 2 = 1)
    (hzero : allZero (m.drop 20) = true) (hnewer : (s.dom.retireSeen.get (num m 2 2)).toNat < num m 8 8) :
    retireReceive ctx m s = serviceSend (some (rxMember s ctx)) m ((retireMatchOp 15 (num m 16 2 % 4096) (num m 18 2)
      (s.updDom fun d => { d with retireSeen := d.retireSeen.set (num m 2 2) (BitVec.ofNat 64 (num m 8 8)) })).atEvent 1) := by
  have hgo : ¬ (m.length ≠ 64 ∨ num m 0 2 ≠ 1 ∨ (!allZero (m.drop 20)) = true
      ∨ num m 8 8 ≤ (s.dom.retireSeen.get (num m 2 2)).toNat) := by
    simp [hlength, htype, hzero, hnewer]
  exact if_neg hgo

theorem retireReceive_older {ctx : Nat} {m : Bytes} {s : State} (holder : num m 8 8 ≤ (s.dom.retireSeen.get (num m 2 2)).toNat) :
    retireReceive ctx m s = s.updDom fun d => { d with retireDrops := d.retireDrops + 1 } :=
  if_pos (Or.inr (Or.inr (Or.inr holder)))

/-- Settles O11: each row by the lemma of its operation; the keys of a plan change no more than the plan's handles. -/
theorem domainCommands : Obligations.DomainCommands := by
  unfold Obligations.DomainCommands
  refine ⟨?manifestPart, ?manifestWhole, ?plan, ?root, ?join, ?leave, ?memberLost, ?prepare, ?switch, ?retire, ?newer, ?older⟩
  case manifestPart =>
    rintro a arg b s w hmay hfield rfl hsess hjoins hpart
    exact ⟨_, exec_manifestChunk hmay (manifestChunkOp_keeps hfield hsess hjoins hpart), rfl⟩
  case manifestWhole =>
    rintro a arg b s w hmay hfield rfl hsess hjoins hwhole hsigned hform hown hsigner
    exact ⟨_, exec_manifestChunk hmay (manifestChunkOp_completes hfield hsess hjoins hwhole hsigned hform hown hsigner), rfl⟩
  case plan =>
    rintro a arg b m s u hmay hfield hsess hjoins hwhole rfl hsigned hsigner hmf hform
    exact ⟨_, exec_planChunk hmay (planChunkOp_completes hfield hsess hjoins hwhole hsigned hsigner hmf hform), rfl⟩
  case root =>
    intro a arg b s v hmay hop
    exact ⟨⟨_, exec_domainRoot hmay hop, rfl⟩, domainRootOp_ok hop⟩
  case join =>
    rintro a m p r s v u hmay hfield hjoined hsess hmf hplan hroot hkey rfl
    obtain ⟨plan, hlength, hdom⟩ := joinMade_dom a.sess m p s v
    rw [hdom]
    refine ⟨?_, rfl, rfl, rfl, rfl, hlength, rfl, rfl, rfl⟩
    have hop := joinCommitOp_of_epochKey hfield hjoined hsess hmf hplan hroot hkey
    by_cases hderived : planDerived (joinMade a.sess m p s v) = true
    · rw [if_pos hderived] at hop ⊢
      exact exec_joinCommit hmay hop
    · rw [if_neg hderived] at hop ⊢
      exact exec_joinCommit hmay hop
  case leave =>
    intro a s hmay hplain
    exact ⟨_, domainLeft s, (exec_leave a s).trans (congrArg Host.Outcome.next (leaveAct_leaves hmay hplain)), rfl, rfl, rfl, rfl, rfl,
      domainLeft_kv_slots s⟩
  case memberLost =>
    intro a m s hmay hjoined hm
    exact exec_memberLost_one hmay hjoined hm
  case prepare =>
    rintro a m p arg s v u hmay hidle hmf hplan hlength hjoined hnext hword hepoch hmember hkey hkept rfl
    obtain ⟨plan, hplanLength, hdom⟩ := stepMade_dom (num arg 0 4) m p v
    have hop := epochPrepareOp_of_epochKey hidle hmf hplan hlength hjoined hnext hword hepoch hmember hkey hkept
    rw [hdom]
    refine ⟨?_, rfl, rfl, rfl, rfl, rfl, hplanLength, rfl⟩
    by_cases hderived : planDerived (stepMade (num arg 0 4) m p v) = true
    · rw [if_pos hderived] at hop ⊢
      exact exec_epochPrepare hmay hop
    · rw [if_neg hderived] at hop ⊢
      exact exec_epochPrepare hmay hop
  case switch =>
    intro a arg s hmay hlength hpending hfirst
    exact ⟨_, _, exec_epochSwitch hmay hlength hpending hfirst, rfl, rfl, rfl, rfl⟩
  case retire =>
    intro a arg s hmay hlength hjoined
    exact exec_epochRetire hmay hlength hjoined
  case newer =>
    intro ctx m s hlength htype hzero hnewer
    exact ⟨_, (exec_hallRetireMessage ctx m s).trans (congrArg Host.Outcome.next (retireReceive_newer hlength htype hzero hnewer)), rfl⟩
  case older =>
    intro ctx m s holder
    exact ⟨_, (exec_hallRetireMessage ctx m s).trans (congrArg Host.Outcome.next (retireReceive_older holder)), rfl⟩

end Sys2Proof.Machine
end

section
/-! The link seal engines: the switch instant, the frames that leave, failover, and the commands of LS_CMD. -/

namespace Sys2Proof.Machine

-- One declaration at a time, so that the elaborator holds few threads (each takes stack of its own).
set_option Elab.async false

/-! ### A context written -/

/-- A TX context that is live after a write is read back as written. -/
theorem txOf_updTx_live {i : Nat} {f : TxCtx → TxCtx} {s : State} (hlive : (f (txOf s i)).live = true) :
    txOf (updTx i f s) i = f (txOf s i) :=
  Tab.get_mod_of_ne fun h => absurd ((congrArg TxCtx.live h).symm.trans hlive) (by decide)

theorem rxOf_updRx_live {i : Nat} {f : RxCtx → RxCtx} {s : State} (hlive : (f (rxOf s i)).live = true) :
    rxOf (updRx i f s) i = f (rxOf s i) :=
  Tab.get_mod_of_ne fun h => absurd ((congrArg RxCtx.live h).symm.trans hlive) (by decide)

/-! ### The switch instant (R169) -/

/-- The CLOSE that names the next epoch. -/
def closeChunk (s : State) : Chunk := plainChunk tClose (fit (natLe (s.dom.epoch.toNat + 1) 4) 64)

/-- A context without a successor at its instant: its GAPs, its CLOSE, and behind it what it holds. -/
def txClosing (s : State) (c : TxCtx) : TxCtx := { c with
  armed := false, closing := true, openItem := c.openItem
  chunks := c.chunks.filter (fun k => k.type == tGap) ++ [closeChunk s] ++ c.chunks.filter fun k => k.type != tGap }

theorem exec_switchInstant_closes {i : Nat} {s : State} (hlive : (txOf s i).live = true) (harmed : (txOf s i).armed = true)
    (hdue : s.ls.switchAt.toNat ≤ s.now) (hboundary : (laneOf s (txLane (txOf s i))).out.all (fun f => f.ctx != i) = true)
    (hbroken : (txOf s i).broken = false) (hlost : toLost s (txOf s i) = false)
    (hlast : s.ls.tx.any (fun e => e.2.live && e.2.succOf == some i) = false) :
    exec (.switchInstant i) s
      = .next ((updTx i (txClosing s) s).updLs fun l => { l with switchArmed := l.tx.any fun e => e.2.live && e.2.armed }) := by
  have hgo : ¬ ((!(txOf s i).live || !(txOf s i).armed || !decide (s.ls.switchAt.toNat ≤ s.now)
      || !(laneOf s (txLane (txOf s i))).out.all fun f => f.ctx != i) = true) := by
    simp [hlive, harmed, hdue]
    simpa using hboundary
  have hnone : s.ls.tx.find? (fun e => e.2.live && e.2.succOf == some i) = none := by
    rw [List.find?_eq_none]
    simpa using hlast
  change goOn (switchInstantOp i s) = _
  unfold switchInstantOp
  dsimp only
  rw [if_neg hgo, hnone, hbroken, hlost]
  simp only [Bool.or_self, Bool.false_and, Bool.or_false, Option.isNone_none, Bool.and_true]
  rfl

/-! ### Frames (R156, R166) -/

/-- R156: with no injection armed the head chunk of a context whose turn it is, and whose key is there, is sealed and presented. -/
theorem exec_txFrameSeal_hit {i : Nat} {mismatch : Bool} {k : Chunk} {rest : List Chunk} {key : BitVec 256} {s v : State}
    (harmed : s.fcu.armed = false) (hhead : txHead (txOf s i) = some (k, rest)) (hready : txReady (txOf s i) = true)
    (hsends : laneSends s (txLane (txOf s i)) = true) (hfree : (laneOf s (txLane (txOf s i))).out = []) (hturn : txTurn s i = true)
    (hstall : faultStall (Src.linkTx (txPipe s (txLane (txOf s i)))) s = false) (hlost : toLost s (txOf s i) = false)
    (hkey : sealKey (isControl k)
      { unit := Src.linkTx (txPipe (updTx i raiseMark (cacheContext i s)) (txLane (txOf s i))), handle := (txOf s i).handle,
        hall := handleHall (txOf s i).handle, hgen := (hallOf (updTx i raiseMark (cacheContext i s)) (handleHall (txOf s i).handle)).hgen,
        sealing := true, parent := 0#32, label := [], ticket := 0 } (updTx i raiseMark (cacheContext i s)) = (.hit key, v)) :
    exec (.txFrameSeal i mismatch) s = .next (settled ([], txPresent i k rest key mismatch v)) := by
  have hkept : (updTx i raiseMark (cacheContext i s)).fcu.armed = false :=
    (congrArg Fcu.armed ((cacheContext_frame (w₀ := 8192) Frame.refl rfl).fcu (by decide))).trans harmed
  have hgo : ¬ ((!txReady (txOf s i) || !laneSends s (txLane (txOf s i)) || !(laneOf s (txLane (txOf s i))).out.isEmpty || !txTurn s i
      || faultStall (Src.linkTx (txPipe s (txLane (txOf s i)))) s) = true) := by
    simp [hready, hsends, hfree, hturn, hstall]
  change goOn (settled (txSealRow i mismatch s)) = _
  have hrow : txSealRow i mismatch s = txSealOp i mismatch s := by
    simp only [txSealRow, injected_unarmed harmed, Bool.and_false, Bool.false_eq_true, if_false]
  unfold txSealOp at hrow
  dsimp only at hrow
  rw [hhead] at hrow
  dsimp only at hrow
  rw [if_neg hgo, hlost, if_neg Bool.false_ne_true, injected_unarmed hkept, if_neg Bool.false_ne_true, hkey] at hrow
  rw [hrow]

/-- The row's answers and the state it leaves, the drain of the halls looked at. -/
theorem exec_frameSent (lane : Nat) (s : State) :
    exec (.frameSent lane) s = .next (settled ((frameSentOp lane s).1, drainComplete (frameSentOp lane s).2)) := rfl

section Sent

variable {lane : Nat} {f : Presented} {rest : List Presented} {s : State} (hout : (laneOf s lane).out = f :: rest)
include hout

/-- R156: a frame wholly transferred leaves the block, and is its context's last one. -/
theorem frameSentOp_sent (hreal : f.isVoid = false) (hopen : f.chunk.type ≠ tClose) :
    ∃ v, frameSentOp lane s = (chunkEnds [f.chunk] Status.ok, updTx f.ctx (fun c => { c with lastSent := f.seq }) v)
      ∧ v.out = .frame lane (txOf s f.ctx).dst (txOf s f.ctx).cls f.bytes :: s.out ∧ v.ls.tx = s.ls.tx := by
  unfold frameSentOp
  rw [hout]
  dsimp only
  rw [hreal, if_neg Bool.false_ne_true, if_neg hopen, if_neg hopen]
  refine ⟨_, rfl, ?_⟩
  split
  · exact ⟨rfl, rfl⟩
  · exact ⟨rfl, rfl⟩

/-- R166: a void frame's chunk stands first again at its context. -/
theorem frameSentOp_void (hvoid : f.isVoid = true) (hlive : (txOf s f.ctx).live = true) :
    ∃ u, frameSentOp lane s = ([], u) ∧ u.out = .voidFrame lane :: s.out ∧ (txOf u f.ctx).chunks = f.chunk :: (txOf s f.ctx).chunks := by
  unfold frameSentOp
  rw [hout]
  dsimp only
  rw [hvoid, if_pos rfl]
  have hnot : ¬ ((!(txOf s f.ctx).live) = true) := by simp [hlive]
  refine ⟨_, rfl, ?_, ?_⟩
  · exact congrArg State.out (if_neg hnot)
  · refine (congrArg (fun t => (txOf t f.ctx).chunks) (if_neg hnot)).trans ?_
    rw [txOf_updTx_live hlive]
    rfl

end Sent

/-! ### Failover (R165 to R167) -/

/-- The spare pipe of lane `p`'s group stands in for its TX pipe. -/
def txSpared (p : Nat) (s : State) : State :=
  (forfeitLease (Src.linkTx p) s).updLs fun l => { l with
    txBad := l.txBad.filter (· != p) ++ [p], spares := l.spares.mod (groupOf p) fun x => { x with txLane := some p } }

def rxSpared (p : Nat) (s : State) : State :=
  (forfeitLease (Src.linkRx p) s).updLs fun l => { l with
    rxBad := l.rxBad.filter (· != p) ++ [p], spares := l.spares.mod (groupOf p) fun x => { x with rxLane := some p } }

/-- The hall in whose name a lane's failure is reported: that of the frame in transfer, that of the first RX context. -/
def txLaneHall (s : State) (lane : Nat) : Nat :=
  match (laneOf s lane).out with | f :: _ => handleHall (txOf s f.ctx).handle | [] => noHall

def rxLaneHall (s : State) (lane : Nat) : Nat := match rxOnLane s lane with | i :: _ => rxHall s i | [] => noHall

/-- The contexts of a lane that go on behind its spare. -/
def txResuming (lane : Nat) (s : State) : List Nat := (txOnLane s lane).filter fun i => !(txOf s i).waiting && !(txOf s i).broken

theorem spares_txSpared (p : Nat) (s : State) : ((txSpared p s).ls.spares.get (groupOf p)).txLane = some p :=
  congrArg Spare.txLane (Tab.get_mod_of_ne (f := fun x : Spare => { x with txLane := some p }) fun h =>
    Option.some_ne_none p (congrArg Spare.txLane h))

theorem spares_rxSpared (p : Nat) (s : State) : ((rxSpared p s).ls.spares.get (groupOf p)).rxLane = some p :=
  congrArg Spare.rxLane (Tab.get_mod_of_ne (f := fun x : Spare => { x with rxLane := some p }) fun h =>
    Option.some_ne_none p (congrArg Spare.rxLane h))

theorem contains_txSpared (p : Nat) (s : State) : (txSpared p s).ls.txBad.contains p = true := by simp [txSpared]

theorem contains_rxSpared (p : Nat) (s : State) : (rxSpared p s).ls.rxBad.contains p = true := by simp [rxSpared]

/-- A lane's frame that becomes void leaves the pipes as they are. -/
theorem voidOut_pipes (lane : Nat) (s : State) :
    (voidOut lane s).ls.spares = s.ls.spares ∧ (voidOut lane s).ls.events = s.ls.events ∧ (voidOut lane s).fcu = s.fcu := by
  unfold voidOut
  dsimp only
  split
  · exact ⟨rfl, rfl, rfl⟩
  · have hframe := Frame.forAll (w := 8192) (f := offerAgain) (fun a u => offerAgain_frame Frame.refl rfl) (laneOf s lane).out.reverse
      (t := (txCount (txPipe (updLane lane (fun l => { l with out := [] }) s) lane) 3 1
        (updLane lane (fun l => { l with out := [] }) s)).emit (.voidFrame lane)) Frame.refl
    have hls := hframe.lsRest (by decide)
    exact ⟨(congrArg Ls.spares hls :), (congrArg Ls.events hls :), hframe.fcu (by decide)⟩

section Failover

variable {p : Nat} {s : State} (hp : p < 64) (hlane : p < s.conf.lanes) (harmed : s.fcu.armed = false)
include hp hlane harmed

/-- R165: a free spare takes the lane of a TX pipe that fails; its contexts resume at their marks. -/
theorem txFailoverOp_spare (hpipe : txPipe s p = p) (hidle : (s.ls.spares.get (groupOf p)).txLane = none)
    (hgood : (s.ls.spares.get (groupOf p)).txBad = false) :
    txFailoverOp p s = ([], raiseFault (Src.linkTx (sparePipe (groupOf p))) Kind.linkPipe (txLaneHall s p) 0 p
      ((forAll (txResuming p (txSpared p (voidOut p s))) resumeAtMark (txSpared p (voidOut p s))).lsEvent 3)) := by
  obtain ⟨hspares, -, hfcu⟩ := voidOut_pipes p s
  have hgo : ¬ (s.conf.lanes ≤ p ∨ txPipe s p ≠ p) := by simp [hlane, hpipe]
  have hfree : ∀ u : State, u.ls.spares = (voidOut p s).ls.spares → u.fcu = (voidOut p s).fcu →
      checkFails (!(decide (p < 64) && (u.ls.spares.get (groupOf p)).txLane.isNone && !(u.ls.spares.get (groupOf p)).txBad)) (Src.linkTx p)
        Kind.linkNoSpare u = false := by
    intro u hu hfcu'
    have harmed' : u.fcu.armed = false := by rw [hfcu', hfcu, harmed]
    simp [checkFails, injected_unarmed harmed', hu, hspares, hp, hidle, hgood]
  unfold txFailoverOp laneOfTxPipe
  rw [if_pos hp]
  dsimp only
  rw [if_neg hgo]
  rw [if_pos hp]
  exact if_pos (congrArg Bool.not (hfree _ rfl rfl))

/-- R167: a free spare takes the lane of an RX pipe that fails, and nothing is lost. -/
theorem rxFailoverOp_spare (hpipe : rxPipe s p = p) (hidle : (s.ls.spares.get (groupOf p)).rxLane = none)
    (hgood : (s.ls.spares.get (groupOf p)).rxBad = false) :
    rxFailoverOp p s
      = ([], raiseFault (Src.linkRx (sparePipe (groupOf p))) Kind.linkPipe (rxLaneHall s p) 0 p ((rxSpared p s).lsEvent 3)) := by
  have hgo : ¬ (s.conf.lanes ≤ p ∨ rxPipe s p ≠ p) := by simp [hlane, hpipe]
  have hfree : ∀ u : State, u.ls.spares = s.ls.spares → u.fcu = s.fcu →
      checkFails (!(decide (p < 64) && (u.ls.spares.get (groupOf p)).rxLane.isNone && !(u.ls.spares.get (groupOf p)).rxBad)) (Src.linkRx p)
        Kind.linkNoSpare u = false := by
    intro u hu hfcu
    have harmed' : u.fcu.armed = false := by rw [hfcu, harmed]
    simp [checkFails, injected_unarmed harmed', hu, hp, hidle, hgood]
  unfold rxFailoverOp laneOfRxPipe
  rw [if_pos hp]
  dsimp only
  rw [if_neg hgo]
  rw [if_pos hp]
  exact if_pos (congrArg Bool.not (hfree _ rfl rfl))

end Failover

theorem ls_raiseFault (src kind hall addr detail : Nat) (s : State) : (raiseFault src kind hall addr detail s).ls = s.ls :=
  (raiseFault_frame (w₀ := 73014444032) Frame.refl rfl).ls (by decide)

theorem lsRest_forAll_resumeAtMark (l : List Nat) (s : State) : (forAll l resumeAtMark s).ls.rest = s.ls.rest :=
  (Frame.forAll (w := 8192) (f := resumeAtMark) (fun a u => resumeAtMark_frame Frame.refl rfl) l Frame.refl).lsRest (by decide)

/-! ### STREAM_ABANDON (R160) -/

theorem exec_streamAbandon {a : Act} {arg : Bytes} {l : List Nat} {s : State} (hmay : mayAct s [.domainManager] a = true)
    (hlength : arg.length = 3)
    (hctxs : s.ls.rx.filterMap (fun e => if e.2.live && e.2.src.toNat == num arg 0 2 && e.2.stream.toNat == num arg 2 1 then some e.1 else none)
      = l) (hsome : l ≠ []) :
    exec (.streamAbandon a arg) s
      = .next (settled ((eachAns l abandonOp s).1, actDone a.sess 0xA01001 Status.ok [] false (eachAns l abandonOp s).2)) := by
  have hgo : ¬ ((!mayAct s [.domainManager] a || arg.length != 3 || l.isEmpty) = true) := by simp [hmay, hlength, hsome]
  change goOn (settled (streamAbandonAct a arg s)) = _
  unfold streamAbandonAct
  rw [hctxs]
  dsimp only
  rw [if_neg hgo]

/-! ### LS_CMD (R174 to R178) -/

/-- `s` with INDEX written. -/
def lsIndexed (index : BitVec 9) (s : State) : State := { s with ls := { s.ls with index := index } }

theorem updLs_index (index : BitVec 9) (s : State) : (s.updLs fun l => { l with index := BitVec.ofNat 9 index.toNat }) = lsIndexed index s := by
  simp only [BitVec.ofNat_toNat, BitVec.setWidth_eq]
  rfl

theorem lsIndexed_self (s : State) : lsIndexed s.ls.index s = s := rfl

/-- LS_CMD as an operation leaves it. -/
def lsDone (op : Nat) (r : Status × State) : State := r.2.updLs fun l => { l with go := false, op := BitVec.ofNat 4 op, result := r.1 }

theorem exec_lsTxBind (index : BitVec 9) (s : State) :
    exec (.lsTxBind index) s = .next (settled ([], lsDone 1 (txBindOp index.toNat (lsIndexed index s)))) := by
  rw [← updLs_index]
  rfl

theorem exec_lsRxBind (index : BitVec 9) (s : State) :
    exec (.lsRxBind index) s = .next (settled ([], lsDone 2 (rxBindOp index.toNat (lsIndexed index s)))) := by
  rw [← updLs_index]
  rfl

theorem exec_lsUnbind {index : BitVec 9} {a : List Ans} {st : Status} {s u : State}
    (hop : unbindOp index.toNat (lsRx s.ls) (lsIndexed index s) = (st, a, u)) :
    exec (.lsUnbind index) s = .next (settled (a, lsDone 3 (st, u))) := by
  change goOn (settled (lsCommand 3 index.toNat s)) = _
  simp only [lsCommand, updLs_index]
  rw [show lsRx (lsIndexed index s).ls = lsRx s.ls from rfl, hop]
  rfl

theorem exec_lsAbandon {index : BitVec 9} {s : State} (hlive : (rxOf s index.toNat).live = true) :
    exec (.lsAbandon index) s = .next (settled ((abandonOp index.toNat (lsIndexed index s)).1,
      lsDone 4 (Status.ok, (abandonOp index.toNat (lsIndexed index s)).2))) := by
  have hlive' : (rxOf (lsIndexed index s) index.toNat).live = true := hlive
  change goOn (settled (lsCommand 4 index.toNat s)) = _
  simp only [lsCommand, updLs_index]
  rw [if_pos hlive']
  rfl

theorem exec_lsArmSwitch (s : State) : exec .lsArmSwitch s = .next (settled ([], lsDone 5 (Status.ok, armSwitchOp s))) := by
  change goOn (settled (lsCommand 5 s.ls.index.toNat s)) = _
  simp only [lsCommand, updLs_index, lsIndexed_self]
  rfl

theorem exec_lsQuery (index : BitVec 9) (s : State) :
    exec (.lsQuery index) s = .next (settled ([], lsDone 6 (Status.ok, lsQueryOp index.toNat (lsRx s.ls) (lsIndexed index s)))) := by
  rw [← updLs_index]
  rfl

theorem exec_lsFailover {a : List Ans} {st : Status} {s u : State} (hop : lsFailoverOp s = (st, a, u)) :
    exec .lsFailover s = .next (settled (a, lsDone 7 (st, u))) := by
  change goOn (settled (lsCommand 7 s.ls.index.toNat s)) = _
  simp only [lsCommand, updLs_index, lsIndexed_self, hop]
  rfl

/-- The TX context that the argument registers describe; it waits where it has a predecessor. -/
def txBound (s : State) : TxCtx := { (default : TxCtx) with
  live := true, handle := s.ls.arg0, dst := BitVec.ofNat 16 (lsPeer s.ls), stream := BitVec.ofNat 8 (lsStream s.ls)
  cls := BitVec.ofNat 2 (lsClass s.ls), epoch := lsEpoch s.ls, lane := lsLane s.ls, alt := lsAlt s.ls, nextSeq := 1
  succOf := lsSucc s.ls, waiting := match lsSucc s.ls with | some p => (txOf s p).live | none => false }

/-- The RX context from a member that the argument registers describe. -/
def rxBound (s : State) : RxCtx := { (default : RxCtx) with
  live := true, expander := false, handle := s.ls.arg0, src := BitVec.ofNat 16 (lsPeer s.ls)
  stream := BitVec.ofNat 8 (lsStream s.ls), cls := BitVec.ofNat 2 (lsClass s.ls), epoch := lsEpoch s.ls, lane := lsLane s.ls
  alt := lsAlt s.ls, succOf := lsSucc s.ls, waiting := match lsSucc s.ls with | some p => (rxOf s p).live | none => false
  hall := bindHall s.ls.arg0, hgen := (hallOf s (bindHall s.ls.arg0)).hgen }

section Bind

variable {i : Nat} {s : State} (hform : bindForm s = true)
include hform

/-- R175: a context that is free, for a stream that no other has, is bound with the argument registers. -/
theorem txBindOp_binds (hfree : (txOf s i).live = false)
    (hnew : s.ls.tx.any (fun e => e.2.live && e.2.dst.toNat == lsPeer s.ls && e.2.stream.toNat == lsStream s.ls && e.2.epoch == lsEpoch s.ls)
      = false) :
    txBindOp i s = (Status.ok, updTx i (fun _ => txBound s) s) := by
  unfold txBindOp
  dsimp only
  rw [hfree, hform, hnew]
  rfl

theorem rxBindOp_binds (hmember : lsExpander s.ls = false) (hfree : (rxOf s i).live = false)
    (hnew : s.ls.rx.any (fun e => e.2.live && e.2.src.toNat == lsPeer s.ls && e.2.stream.toNat == lsStream s.ls && e.2.epoch == lsEpoch s.ls)
      = false) :
    rxBindOp i s = (Status.ok, updRx i (fun _ => rxBound s) s) := by
  unfold rxBindOp
  dsimp only
  rw [hfree, hmember, if_neg Bool.false_ne_true, hform, hnew]
  rfl

end Bind

/-- R176: a TX context without a frame in a pipe is cleared. -/
theorem unbindOp_tx {i : Nat} {rx : Bool} {s : State} (htx : rx = false) (hlive : (txOf s i).live = true)
    (hidle : s.ls.lanes.any (fun e => e.2.out.any fun f => f.ctx == i) = false) :
    unbindOp i rx s = (Status.ok, chunkEnds (txOf s i).chunks Status.permission
      ++ ((txOf s i).unanswered.map fun u => unitsEnd u Status.permission).flatten, updTx i (fun _ => default) s) := by
  unfold unbindOp
  dsimp only
  rw [htx, if_neg Bool.false_ne_true, hlive, hidle]
  rfl

theorem lsFailoverOp_tx {s : State} (hinjects : s.injectionAllowed = true) (hlane : lsLane s.ls < s.conf.lanes) (htx : lsRx s.ls = false) :
    lsFailoverOp s = (Status.ok, (txFailoverOp (txPipe s (lsLane s.ls)) s).1, (txFailoverOp (txPipe s (lsLane s.ls)) s).2) := by
  have hgo : ¬ ((!s.injectionAllowed || decide (s.conf.lanes ≤ lsLane s.ls)) = true) := by simp [hinjects, hlane]
  unfold lsFailoverOp
  rw [if_neg hgo, htx]
  rfl

/-- Settles O12: each row by the lemma of its operation. -/
theorem linkSealEngines : Obligations.LinkSealEngines := by
  unfold Obligations.LinkSealEngines
  refine ⟨?instant, ?sealed, ?sent, ?void, ?txFail, ?rxFail, ?streamAbandon, ?txBind, ?rxBind, ?unbind, ?abandon, ?arm, ?query, ?failover⟩
  case instant =>
    intro i s hlive harmed hdue hboundary hbroken hlost hlast
    have hread : txOf (updTx i (txClosing s) s) i = txClosing s (txOf s i) := txOf_updTx_live hlive
    refine ⟨_, exec_switchInstant_closes hlive harmed hdue hboundary hbroken hlost hlast, ?_⟩
    exact ⟨(congrArg TxCtx.armed hread :), (congrArg TxCtx.closing hread :), (congrArg TxCtx.openItem hread :), (congrArg TxCtx.chunks hread :)⟩
  case sealed =>
    rintro i mismatch k rest key s u v harmed hhead hready hsends hfree hturn hstall hlost rfl hkey
    exact exec_txFrameSeal_hit harmed hhead hready hsends hfree hturn hstall hlost hkey
  case sent =>
    intro lane f rest s hout hreal hopen
    obtain ⟨v, hop, hleaves, htx⟩ := frameSentOp_sent hout hreal hopen
    rw [exec_frameSent, hop]
    refine ⟨_, rfl, hleaves, fun hlive => ?_⟩
    have hlive' : (txOf v f.ctx).live = true := by rw [txOf, htx]; exact hlive
    rw [txOf_updTx_live (f := fun c => { c with lastSent := f.seq }) hlive']
  case void =>
    intro lane f rest s hout hvoid hlive
    obtain ⟨u, hop, hleaves, hchunks⟩ := frameSentOp_void hout hvoid hlive
    exact ⟨u, by rw [exec_frameSent, hop], hleaves, hchunks⟩
  case txFail =>
    intro p s hp hlane hpipe hidle hgood harmed
    have hop := txFailoverOp_spare hp hlane harmed hpipe hidle hgood
    have hrest := lsRest_forAll_resumeAtMark (txResuming p (txSpared p (voidOut p s))) (txSpared p (voidOut p s))
    refine ⟨_, (congrArg (fun r => Host.Outcome.next (settled r)) hop :), ?_⟩
    rw [ls_raiseFault]
    refine ⟨?_, ?_, ?_⟩
    · exact (congrArg (fun t : Tab Spare => (t.get (groupOf p)).txLane) (congrArg Ls.spares hrest :)).trans (spares_txSpared p _)
    · exact (congrArg (fun b : List Nat => b.contains p) (congrArg Ls.txBad hrest :)).trans (contains_txSpared p _)
    · exact congrArg (fun e => raised e 3) ((congrArg Ls.events hrest :).trans (voidOut_pipes p s).2.1)
  case rxFail =>
    intro p s hp hlane hpipe hidle hgood harmed
    have hop := rxFailoverOp_spare hp hlane harmed hpipe hidle hgood
    refine ⟨_, (congrArg (fun r => Host.Outcome.next (settled r)) hop :), ?_⟩
    rw [ls_raiseFault]
    exact ⟨spares_rxSpared p s, contains_rxSpared p s, rfl⟩
  case streamAbandon =>
    intro a arg l s hmay hlength hctxs hsome
    exact exec_streamAbandon hmay hlength hctxs hsome
  case txBind =>
    rintro index s u rfl hfree hform hnew
    have hop := txBindOp_binds (i := index.toNat) (s := lsIndexed index s) hform hfree hnew
    have hread : txOf (updTx index.toNat (fun _ => txBound (lsIndexed index s)) (lsIndexed index s)) index.toNat = txBound (lsIndexed index s) :=
      txOf_updTx_live rfl
    refine ⟨_, (exec_lsTxBind index s).trans (congrArg (fun r => Host.Outcome.next (settled ([], lsDone 1 r))) hop), rfl, ?_⟩
    exact ⟨congrArg TxCtx.live hread, congrArg TxCtx.handle hread, congrArg TxCtx.dst hread, congrArg TxCtx.lane hread,
      congrArg TxCtx.nextSeq hread⟩
  case rxBind =>
    rintro index s u rfl hfree hmember hform hnew
    have hop := rxBindOp_binds (i := index.toNat) (s := lsIndexed index s) hform hmember hfree hnew
    have hread : rxOf (updRx index.toNat (fun _ => rxBound (lsIndexed index s)) (lsIndexed index s)) index.toNat = rxBound (lsIndexed index s) :=
      rxOf_updRx_live rfl
    refine ⟨_, (exec_lsRxBind index s).trans (congrArg (fun r => Host.Outcome.next (settled ([], lsDone 2 r))) hop), rfl, ?_⟩
    exact ⟨congrArg RxCtx.live hread, congrArg RxCtx.handle hread, congrArg RxCtx.src hread, congrArg RxCtx.lane hread, congrArg RxCtx.top hread⟩
  case unbind =>
    intro index s htx hlive hidle
    exact ⟨_, exec_lsUnbind (unbindOp_tx (s := lsIndexed index s) htx hlive hidle), rfl, rfl, rfl⟩
  case abandon =>
    rintro index s u rfl hlive
    exact ⟨_, exec_lsAbandon hlive, rfl, rfl⟩
  case arm =>
    intro s
    exact ⟨_, exec_lsArmSwitch s, rfl, rfl⟩
  case query =>
    intro index s htx
    refine ⟨_, exec_lsQuery index s, ?_⟩
    rw [htx]
    exact ⟨rfl, rfl, rfl, rfl, rfl⟩
  case failover =>
    intro s hinjects hlane htx
    exact ⟨_, exec_lsFailover (lsFailoverOp_tx hinjects hlane htx), rfl⟩

end Sys2Proof.Machine
end

section
/-! The engines under every command: the steady parts of the sealers, the tree unit, the movers, the reduction units and the atomic unit. -/

namespace Sys2Proof.Machine

/-- Settles O32: every command stays within a mask that its lists permit (`exec_goes`), and a permitted mask leaves the steady part of an
engine alone where the engine's list does not name the command. -/
theorem frameOfTheEngines : Obligations.FrameOfTheEngines := by
  unfold Obligations.FrameOfTheEngines
  intro c s t h
  obtain ⟨w, hw, frame⟩ := frame_of_exec h
  exact ⟨fun hc => frame.lsRest (testBit_of_maskPermitted (14, changesLinkSealer) hw hc),
    fun hc => frame.lnRest (testBit_of_maskPermitted (16, changesLineSealer) hw hc),
    fun hc => frame.trRest (testBit_of_maskPermitted (18, changesTree) hw hc),
    fun hc => frame.mvRest (testBit_of_maskPermitted (20, changesMovers) hw hc),
    fun hc => frame.rdRest (testBit_of_maskPermitted (22, changesReduction) hw hc),
    fun hc => frame.auRest (testBit_of_maskPermitted (24, changesAtomics) hw hc)⟩

end Sys2Proof.Machine
end

section
/-! REGION_ERASE: what its refusal leaves, and the descriptor whose MAC key is the NKEY of the erase. -/

namespace Sys2Proof.Machine

-- One declaration at a time, so that the elaborator holds few threads (each takes stack of its own).
set_option Elab.async false

theorem exec_lnRegionErase (index : BitVec 11) (s : State) :
    exec (.lnRegionErase index) s = .next (settled ([], lnCommand 4 index.toNat s.ln.sealed s)) := rfl

/-- What goes on behind a command leaves the region that the last accepted LN_CMD works on. -/
theorem settled_lnTarget (r : List Ans × State) : (settled r).ln.target = r.2.ln.target := by
  have frame : Frame 56441417934970 r.2 (settled r) := settled_frame Frame.refl rfl
  exact (congrArg Ln.target (frame.lnRest (by decide)) :)

/-- The descriptor of a vault region of hall 5, generation 3, at a version and with a MAC key: 64 KiB of data at 0 in expander 0. -/
def vaultDesc (version : Nat) (mkey : Handle) : Bytes :=
  [1#8, 0#8] ++ natLe 5 2 ++ natLe 3 2 ++ natLe 0x2000 2 ++ natLe 0 2 ++ [1#8, 0#8] ++ natLe version 4 ++ natLe 77 8
    ++ natLe (0x40050001 + 2 * version) 4 ++ natLe mkey.toNat 4
    ++ natLe 0 6 ++ natLe 0x10000 6 ++ natLe 1 4 ++ natLe 0x20000 6 ++ List.replicate 10 0#8

/-- Vault region 255 active under version 0, and in LN_DESC version 1, whose MAC key is the resident handle that stands in TR_NKEY. -/
def eraseMacIsNkey : State :=
  { State.reset with
    kv := { State.reset.kv with slots := [(0, { (default : KeySlot) with valid := true, handle := 0x50050003#32 })] }
    tr := { State.reset.tr with nkey := 0x50050003#32, trees := [(255, { (default : Tree) with state := .active })] }
    ln := { State.reset.ln with
      desc := descWords (vaultDesc 1 0x50050003#32)
      regions := [(255, { (default : Region) with state := .active, desc := vaultDesc 0 0x50050001#32, nkey := 0x50050101#32 })] } }

theorem eraseMacIsNkey_meets : eraseMacIsNkey.ln.go = false ∧ isVault (255#11).toNat = true ∧ eraseMacIsNkey.conf.tree = true
    ∧ (regionOf eraseMacIsNkey (255#11).toNat).state = .active ∧ (treeOf eraseMacIsNkey (255#11).toNat).busy = false
    ∧ regionEraseOk (255#11).toNat eraseMacIsNkey = true := by
  decide +kernel

/-- R202: the new handles must not be in use otherwise; the command is refused, and works on no region. -/
theorem lnCommand_refuses_eraseMacIsNkey :
    (lnCommand 4 255 eraseMacIsNkey.ln.sealed eraseMacIsNkey).ln.result = Status.permission
      ∧ (lnCommand 4 255 eraseMacIsNkey.ln.sealed eraseMacIsNkey).ln.target = 0 := by
  decide +kernel

/-- Refutes O14: its eighth clause has REGION_ERASE begin on region 255 wherever `regionEraseOk` holds, which does not ask that the new
data and MAC keys differ from TR_NKEY; the model refuses a MAC key that is also the NKEY (R202). Behind the command the region it works on
stays what it was, so no state of an erase that has begun settles to the refused one. -/
theorem not_regionCommands : ¬ Obligations.RegionCommands := by
  unfold Obligations.RegionCommands
  rintro ⟨-, -, -, -, -, -, -, begins, -⟩
  obtain ⟨hgo, hvault, htree, hactive, hidle, hok⟩ := eraseMacIsNkey_meets
  obtain ⟨u, hexec, -, -, htarget, -⟩ := begins 255#11 eraseMacIsNkey hgo hvault htree hactive hidle hok
  have hsame : (lnCommand 4 255 eraseMacIsNkey.ln.sealed eraseMacIsNkey).ln.target = u.ln.target := by
    have hsettled := Host.Outcome.next.inj ((exec_lnRegionErase 255#11 eraseMacIsNkey).symm.trans hexec)
    exact (settled_lnTarget _).symm.trans ((congrArg (fun s : State => s.ln.target) hsettled).trans (settled_lnTarget _))
  rw [lnCommand_refuses_eraseMacIsNkey.2, htarget] at hsame
  exact absurd hsame (by decide)

end Sys2Proof.Machine
end

section
/-! The counter rows of the tree unit: what a counter operation comes to, and what its row answers. -/

namespace Sys2Proof.Machine

-- One declaration at a time, so that the elaborator holds few threads (each takes stack of its own).
set_option Elab.async false

/-! ### The counter operation (R217, R218, R220, R225) -/

/-- A path whose nodes are all on chip needs nothing. -/
theorem bringPath_held {r : Nat} {s : State} {l : List (Nat × Nat)}
    (hheld : ∀ n ∈ l, nodeHeld (regionOf s r).desc (treeOf s r) n.1 n.2 = true) : bringPath r l s = (true, s) := by
  induction l with
  | nil => rfl
  | cons n l ih =>
    obtain ⟨hn, hl⟩ := List.forall_mem_cons.mp hheld
    rw [bringPath, if_pos hn]
    exact ih hl

/-- `s` with an operation on the leaf node of a line counted as a hit, and that node last in the order of use. -/
def leafHit (r line : Nat) (s : State) : State := touchNode r 0 (line / 16) (s.trCount 0)

/-- `s` with the counter of a line one higher in its leaf node, which is dirty, and the increment counted. -/
def leafRaised (r line c : Nat) (s : State) : State :=
  (updNode r 0 (line / 16) (fun n => { n with
    held := true, counters := n.counters.set (line % 16) (c + 1), dirty := true, changed := true }) s).trCount 2

/-- A region whose NKEY the vault does not serve. -/
theorem counterOp_keyless {r line : Nat} {inc again : Bool} {s : State} (hkey : nkeyOf s r = none) :
    counterOp r line inc again s = (.refused Status.permission, s) := by
  simp only [counterOp, hkey, Option.isNone_none, if_true]

section Served

variable {r line : Nat} {inc : Bool} {s : State} (hkey : (nkeyOf s r).isSome = true) (harmed : s.fcu.armed = false)
include hkey harmed

theorem counterOp_poisoned {again : Bool} (hpoison : poisonedPath (treeOf s r) line = true) :
    counterOp r line inc again s = (.poisoned, s.trCount 6) := by
  have hsome : (nkeyOf s r).isNone = false := by rw [← Option.not_isSome, hkey]; rfl
  simp only [counterOp, hsome, injected_unarmed harmed, Bool.and_false, Bool.false_eq_true, if_false, hpoison, if_true]

variable (hsound : poisonedPath (treeOf s r) line = false) (hheld : pathHeld s r line = true)
include hsound hheld

/-- A line whose path is on chip: its counter, one more for an increment, which a counter at its limit refuses (R191). -/
theorem counterOp_held : counterOp r line inc false s
    = if !inc then (.value (leafCounter s r line), leafHit r line s)
      else if ctrMax ≤ leafCounter s r line then (.limit, leafHit r line s)
      else (.value (leafCounter s r line + 1), leafRaised r line (leafCounter s r line) (leafHit r line s)) := by
  have hsome : (nkeyOf s r).isNone = false := by rw [← Option.not_isSome, hkey]; rfl
  obtain ⟨hleaf, hpath⟩ := (Bool.and_eq_true _ _).mp hheld
  have hbring : bringPath r (pathOf (regionOf s r).desc line) (s.trCount 0) = (true, s.trCount 0) :=
    bringPath_held (List.all_eq_true.mp hpath)
  simp only [counterOp, hsome, injected_unarmed harmed, Bool.and_false, Bool.false_eq_true, if_false, hsound, hleaf, if_true, hbring,
    Bool.not_true]
  rfl

end Served

/-! ### The counter rows (R217, R224, R228) -/

theorem exec_treeCounterRead (r line : Nat) (s : State) :
    exec (.treeCounterRead r line) s = .next (counterRowOp r line false false s) := rfl

theorem exec_treeCounterIncrement (r line : Nat) (s : State) :
    exec (.treeCounterIncrement r line) s = .next (counterRowOp r line true false s) := rfl

/-- A tree that serves is neither being saved nor erased. -/
theorem treeServes_rests {s : State} {r : Nat} (h : treeServes s r = true) :
    ((treeOf s r).state == .saving || (treeOf s r).state == .erasing) = false := by
  obtain ⟨-, hstate⟩ := (Bool.and_eq_true _ _).mp h
  rcases (Bool.or_eq_true _ _).mp hstate with h | h <;> rw [eq_of_beq h] <;> rfl

section Row

variable {r line : Nat} {inc : Bool} {s : State}

theorem counterRowOp_changing (htree : s.conf.tree = true) (hvault : isVault r = true)
    (hstate : (treeOf s r).state = .saving ∨ (treeOf s r).state = .erasing) :
    counterRowOp r line inc false s = s.emit (.status (.port Src.tree line) Status.retryLater []) := by
  have hchanges : ((treeOf s r).state == .saving || (treeOf s r).state == .erasing) = true := by simpa using hstate
  simp only [counterRowOp, htree, hvault, hchanges, Bool.not_false, Bool.and_self, if_true]

theorem counterRowOp_absent (hsaving : (treeOf s r).state ≠ .saving) (herasing : (treeOf s r).state ≠ .erasing)
    (habsent : treeServes s r = false ∨ treeLines (regionOf s r).desc ≤ line) :
    counterRowOp r line inc false s = s.emit (.status (.port Src.tree line) Status.permission []) := by
  have hrests : ((treeOf s r).state == .saving || (treeOf s r).state == .erasing) = false := by simp [hsaving, herasing]
  have hout : (!treeServes s r || decide (treeLines (regionOf s r).desc ≤ line)) = true := by simpa using habsent
  simp only [counterRowOp, hrests, Bool.and_false, Bool.false_and, Bool.or_false, Bool.false_eq_true, if_false, hout, if_true]

variable (hserves : treeServes s r = true) (hline : line < treeLines (regionOf s r).desc)
include hserves hline

theorem counterRowOp_tainted (htainted : (treeOf s r).state = .tainted) :
    counterRowOp r line true false s = s.emit (.status (.port Src.tree line) Status.integrityTainted []) := by
  have hin : decide (treeLines (regionOf s r).desc ≤ line) = false := decide_eq_false (Nat.not_le.mpr hline)
  have hrefused : ((treeOf s r).state == .tainted) = true := beq_of_eq htainted
  simp only [counterRowOp, treeServes_rests hserves, Bool.and_false, Bool.false_eq_true, if_false, hserves, hin, hrefused,
    Bool.true_or, Bool.not_true, Bool.or_self, Bool.true_and, if_true]

variable {c : Ctr} {u : State} (hsound : (inc && (treeOf s r).state == .tainted) = false)
include hsound

/-- A row of a line that the tree serves does what its counter operation comes to. -/
theorem counterRowOp_answers (hop : counterOp r line inc false s = (c, u)) (hends : c ≠ .waits) :
    counterRowOp r line inc false s = ctrAnswer line c u := by
  have hin : decide (treeLines (regionOf s r).desc ≤ line) = false := decide_eq_false (Nat.not_le.mpr hline)
  simp only [counterRowOp, treeServes_rests hserves, Bool.and_false, Bool.false_eq_true, if_false, hserves, hin, hsound,
    Bool.true_or, Bool.not_true, Bool.or_self, hop]

theorem counterRowOp_waits (hop : counterOp r line inc false s = (.waits, u)) :
    counterRowOp r line inc false s = u.updTr fun t => { t with waits := t.waits ++ [(r, line, inc)] } := by
  have hin : decide (treeLines (regionOf s r).desc ≤ line) = false := decide_eq_false (Nat.not_le.mpr hline)
  simp only [counterRowOp, treeServes_rests hserves, Bool.and_false, Bool.false_eq_true, if_false, hserves, hin, hsound,
    Bool.true_or, Bool.not_true, Bool.or_self, hop]

end Row

/-- Settles O47: each outcome of the counter operation, and each refusal of its row, by its own lemma. -/
theorem treeCounters : Obligations.TreeCounters := by
  unfold Obligations.TreeCounters
  refine ⟨?read, ?increment, ?limit, ?readPoisoned, ?incrementPoisoned, ?keyless, ?readWaits, ?incrementWaits, ?tainted, ?changing, ?absent⟩
  case read =>
    intro r line s hserves hline hkey harmed hsound hheld
    rw [exec_treeCounterRead, counterRowOp_answers hserves hline (Bool.false_and _) (counterOp_held hkey harmed hsound hheld) nofun]
    rfl
  case increment =>
    intro r line s hserves hline hkey harmed hsound hheld hactive hlimit
    have hop := counterOp_held (inc := true) hkey harmed hsound hheld
    rw [Bool.not_true, if_neg Bool.false_ne_true, if_neg (Nat.not_le.mpr hlimit)] at hop
    rw [exec_treeCounterIncrement, counterRowOp_answers hserves hline (by rw [hactive]; rfl) hop nofun]
    rfl
  case limit =>
    intro r line s hserves hline hkey harmed hsound hheld hactive hlimit
    have hop := counterOp_held (inc := true) hkey harmed hsound hheld
    rw [Bool.not_true, if_neg Bool.false_ne_true, if_pos hlimit] at hop
    rw [exec_treeCounterIncrement, counterRowOp_answers hserves hline (by rw [hactive]; rfl) hop nofun]
    rfl
  case readPoisoned =>
    intro r line s hserves hline hkey harmed hpoison
    rw [exec_treeCounterRead, counterRowOp_answers hserves hline (Bool.false_and _) (counterOp_poisoned hkey harmed hpoison) nofun]
    rfl
  case incrementPoisoned =>
    intro r line s hserves hline hkey harmed hpoison hactive
    rw [exec_treeCounterIncrement, counterRowOp_answers hserves hline (by rw [hactive]; rfl) (counterOp_poisoned hkey harmed hpoison) nofun]
    rfl
  case keyless =>
    intro r line s hserves hline hkey
    rw [exec_treeCounterRead, counterRowOp_answers hserves hline (Bool.false_and _) (counterOp_keyless hkey) nofun]
    rfl
  case readWaits =>
    intro r line s u hserves hline hop
    rw [exec_treeCounterRead, counterRowOp_waits hserves hline (Bool.false_and _) hop]
  case incrementWaits =>
    intro r line s u hserves hline hactive hop
    rw [exec_treeCounterIncrement, counterRowOp_waits hserves hline (by rw [hactive]; rfl) hop]
  case tainted =>
    intro r line s hserves hline htainted
    rw [exec_treeCounterIncrement, counterRowOp_tainted hserves hline htainted]
  case changing =>
    intro r line s htree hvault hstate
    rw [exec_treeCounterRead, exec_treeCounterIncrement, counterRowOp_changing htree hvault hstate, counterRowOp_changing htree hvault hstate]
    exact ⟨rfl, rfl⟩
  case absent =>
    intro r line s hsaving herasing habsent
    rw [exec_treeCounterRead, exec_treeCounterIncrement, counterRowOp_absent hsaving herasing habsent,
      counterRowOp_absent hsaving herasing habsent]
    exact ⟨rfl, rfl⟩

end Sys2Proof.Machine
end

section
/-! The node table of the tree unit: what a LINE_RSP ends, sends once more or leaves. -/

namespace Sys2Proof.Machine

-- One declaration at a time, so that the elaborator holds few threads (each takes stack of its own).
set_option Elab.async false

theorem exec_nodeFetchResponse (p : Bytes) (s : State) : exec (.nodeFetchResponse p) s = .next (settled ([], nodeRspOp p s)) := rfl

theorem exec_nodeWritebackResponse (p : Bytes) (s : State) : exec (.nodeWritebackResponse p) s = .next (settled ([], nodeRspOp p s)) := rfl

/-! ### The request of a response (R195, R219) -/

theorem nodeRspOp_unknown {p : Bytes} {s : State} (hfind : s.tr.requests.find? (fun q => q.id == num p 0 4) = none) :
    nodeRspOp p s = lineStray true 0 s := by
  simp only [nodeRspOp, hfind]

section Matched

variable {p : Bytes} {q : NodeReq} {s : State} (hfind : s.tr.requests.find? (fun q => q.id == num p 0 4) = some q)
include hfind

theorem nodeRspOp_miscounted (hcount : num p 4 1 ≠ 2 * q.nodes.length) : nodeRspOp p s = lineStray true 0 s := by
  simp only [nodeRspOp, hfind, if_pos hcount]

theorem nodeRspOp_fetch (hcount : num p 4 1 = 2 * q.nodes.length) (hfetch : q.fetch = true) :
    nodeRspOp p s = verifyFetched (fetchDone q p s) := by
  simp only [nodeRspOp, hfind, hcount, ne_eq, not_true_eq_false, if_false, hfetch, if_true]

theorem nodeRspOp_writeBack (hcount : num p 4 1 = 2 * q.nodes.length) (hfetch : q.fetch = false) :
    nodeRspOp p s = writeBackDone q (rspStatus p 0 == 0 && rspStatus p 1 == 0) s := by
  simp only [nodeRspOp, hfind, hcount, ne_eq, not_true_eq_false, if_false, hfetch, Bool.false_eq_true]

theorem nodeRspOp_failed (hcount : num p 4 1 = 2 * q.nodes.length) (hfetch : q.fetch = false) (hbad : rspStatus p 0 ≠ 0) :
    nodeRspOp p s = writeBackDone q false s := by
  rw [nodeRspOp_writeBack hfind hcount hfetch, beq_false_of_ne hbad, Bool.false_and]

end Matched

/-! ### Fetches (R218) -/

/-- A sequence of changes that each leave the node requests alone leaves them alone. -/
theorem requests_forAll {α : Type} {f : α → State → State} (hf : ∀ a s, (f a s).tr.requests = s.tr.requests) (l : List α) (s : State) :
    (forAll l f s).tr.requests = s.tr.requests := by
  induction l generalizing s with
  | nil => rfl
  | cons a l ih => exact (ih (f a s)).trans (hf a s)

/-- The nodes that a fetch brings enter the staging buffer; of the node table its own request alone goes. -/
theorem requests_fetchDone (q : NodeReq) (p : Bytes) (s : State) :
    (fetchDone q p s).tr.requests = s.tr.requests.filter (·.id != q.id) := by
  unfold fetchDone
  rw [requests_forAll]
  · rfl
  · intro e s
    dsimp only
    split <;> rfl

/-! ### Write-backs (R221) -/

/-- `s` with a request gone from the node table. -/
def nodeReqGone (q : NodeReq) (s : State) : State := s.updTr fun t => { t with requests := t.requests.filter (·.id != q.id) }

section WriteBack

variable {q : NodeReq} {l j : Nat} {rest : List (Nat × Nat)} {s : State} (hnodes : q.nodes = (l, j) :: rest)
include hnodes

theorem writeBackDone_good (hflight : (nodeOf (treeOf s q.region) l j).inFlight = true) :
    writeBackDone q true s = updNode q.region l j (fun n => { n with inFlight := false, dirty := n.dirty || n.changed, changed := false })
      ((nodeReqGone q s).trCount 4) := by
  unfold writeBackDone
  simp only [hnodes, hflight, if_true]
  rfl

theorem writeBackDone_again (hfirst : q.again = false) :
    writeBackDone q false s = sendNode { q with again := true }
      (s.updTr fun t => { t with requests := t.requests.map fun x => if x.id = q.id then { q with again := true } else x }) := by
  unfold writeBackDone
  simp only [hnodes, hfirst, Bool.false_eq_true, if_false]

theorem writeBackDone_fails (hsecond : q.again = true) (hflight : (nodeOf (treeOf s q.region) l j).inFlight = true) :
    writeBackDone q false s
      = failNode q.region l j 3 false (updNode q.region l j (fun n => { n with inFlight := false }) (nodeReqGone q s)) := by
  unfold writeBackDone
  simp only [hnodes, hflight, hsecond, Bool.false_eq_true, if_false, if_true]
  rfl

end WriteBack

/-- Settles O48: each response by the lemma of the request it finds, or of its finding none. -/
theorem nodeResponses : Obligations.NodeResponses := by
  unfold Obligations.NodeResponses
  refine ⟨?fetch, ?good, ?again, ?fails, ?unknown, ?miscounted⟩
  case fetch =>
    intro p q s hfind hcount hfetch
    rw [exec_nodeFetchResponse, nodeRspOp_fetch hfind hcount hfetch]
    exact ⟨rfl, requests_fetchDone q p s⟩
  case good =>
    intro p l j rest q s hfind hnodes hcount hfetch hlow hhigh hflight
    rw [exec_nodeWritebackResponse, nodeRspOp_writeBack hfind hcount hfetch, hlow, hhigh, beq_self_eq_true, Bool.and_self,
      writeBackDone_good hnodes hflight]
    exact ⟨_, rfl, rfl, rfl⟩
  case again =>
    intro p l j rest q s hfind hnodes hcount hfetch hbad hfirst
    rw [exec_nodeWritebackResponse, nodeRspOp_failed hfind hcount hfetch hbad, writeBackDone_again hnodes hfirst]
  case fails =>
    intro p l j rest q s hfind hnodes hcount hfetch hbad hsecond hflight
    rw [exec_nodeWritebackResponse, nodeRspOp_failed hfind hcount hfetch hbad, writeBackDone_fails hnodes hsecond hflight]
    rfl
  case unknown =>
    intro p s hfind
    rw [exec_nodeFetchResponse, exec_nodeWritebackResponse, nodeRspOp_unknown hfind]
    exact ⟨rfl, rfl⟩
  case miscounted =>
    intro p q s hfind hcount
    rw [exec_nodeFetchResponse, exec_nodeWritebackResponse, nodeRspOp_miscounted hfind hcount]
    exact ⟨rfl, rfl⟩

end Sys2Proof.Machine
end

section
/-! The packets of the command processor: what the decode of a ready packet comes to, and what each packet, signal and walk then does. -/

namespace Sys2Proof.Machine

-- One declaration at a time, so that the elaborator holds few threads (each takes stack of its own).
set_option Elab.async false

/-! ### The decode of a ready packet (R295) -/

/-- What makes `p` the ready packet of opcode `op` of queue `q`, in buffer `b` with `e` units behind its first. -/
structure ReadyIn (q op : Nat) (p : Packet) (s : State) (b : Buffer) (e : Nat) : Prop where
  bufs : ∃ rest, (queueOf s q).bufs = (b, p.idx) :: rest
  ext : extOf op = some e
  packet : p = { idx := p.idx, units := bufUnits b.header, unit := b.units.get p.idx
                 more := (List.range e).map fun i => b.units.get (p.idx + 1 + i) }
  running : (queueOf s q).state = .running
  active : (queueOf s q).active = true
  resting : (queueOf s q).fetch = .idle
  unheld : (queueOf s q).fetched = none
  safeOff : s.fcu.safe = false
  unarmed : s.fcu.armed = false
  serves : isLanding s Src.fe = false
  fetched : (b.units.get p.idx).isEmpty = false
  opcode : num (b.units.get p.idx) 0 1 = op
  extBits : bits (num (b.units.get p.idx) 1 1) 0 2 = e
  fits : p.idx + e + 1 ≤ bufUnits b.header
  moreFetched : ((List.range e).map fun i => b.units.get (p.idx + 1 + i)).any (·.isEmpty) = false

theorem packetReady_readyIn {q op : Nat} {p : Packet} {s : State} (hready : packetReady q op s = some p) :
    ∃ b e, ReadyIn q op p s b e := by
  unfold packetReady at hready
  split at hready
  case h_1 => contradiction
  case h_2 b pos rest hbufs =>
    dsimp only at hready
    split at hready
    case h_1 => contradiction
    case h_2 e hext =>
      split at hready
      case isFalse => contradiction
      case isTrue hmay =>
        obtain rfl := Option.some.inj hready
        simp only [Bool.and_eq_true, beq_iff_eq, Bool.not_eq_true', decide_eq_true_eq, Option.isNone_iff_eq_none] at hmay
        obtain ⟨⟨⟨⟨⟨⟨⟨⟨⟨⟨⟨hstate, hactive⟩, hfetch⟩, hfetched⟩, hsafe⟩, harmed⟩, hlanding⟩, hunit⟩, hop⟩, hbits⟩, hfits⟩, hmore⟩ :=
          hmay
        exact ⟨b, e, ⟨rest, hbufs⟩, hext, rfl, hstate, hactive, hfetch, hfetched, hsafe, harmed, hlanding, hunit, hop, hbits, hfits, hmore⟩

/-- A ready packet is handed to the meaning of its opcode. -/
theorem decodeNext_ready {q op : Nat} {p : Packet} {s : State} (hready : packetReady q op s = some p) (f : Packet → State → State) :
    decodeNext q op f s = f p s := by
  obtain ⟨b, e, hp⟩ := packetReady_readyIn hready
  obtain ⟨rest, hbufs⟩ := hp.bufs
  have hmay : ¬ ((queueOf s q).state ≠ .running ∨ (!(queueOf s q).active) = true ∨ (queueOf s q).fetch ≠ .idle
      ∨ (queueOf s q).fetched.isSome = true ∨ s.fcu.safe = true ∨ isLanding s Src.fe = true) := by
    simp [hp.running, hp.active, hp.resting, hp.unheld, hp.safeOff, hp.serves]
  have hform : ¬ (bits (num (b.units.get p.idx) 1 1) 0 2 ≠ e ∨ bufUnits b.header < p.idx + e + 1) :=
    not_or.mpr ⟨not_not.mpr hp.extBits, Nat.not_lt.mpr hp.fits⟩
  simp only [decodeNext, if_neg hmay, hbufs, hp.fetched, hp.opcode, hp.ext, ne_eq, not_true_eq_false, if_false, if_neg hform,
    hp.moreFetched, injected_unarmed hp.unarmed, Bool.false_eq_true]
  rw [← hp.packet]

section Ready

variable {q : Nat} {p : Packet} {s : State}

theorem exec_launch_ready (hready : packetReady q 1 s = some p) : exec (.launch q) s = .next (launchPacket q p s) :=
  congrArg goOn (decodeNext_ready hready (launchPacket q))

theorem exec_move_ready (hready : packetReady q 2 s = some p) : exec (.move q) s = .next (movePacket q p s) :=
  congrArg goOn (decodeNext_ready hready (movePacket q))

theorem exec_reduce_ready (hready : packetReady q 3 s = some p) : exec (.reduce q) s = .next (reducePacket q p s) :=
  congrArg goOn (decodeNext_ready hready (reducePacket q))

theorem exec_signal_ready (hready : packetReady q 4 s = some p) : exec (.signal q) s = .next (signalPacket q p s) :=
  congrArg goOn (decodeNext_ready hready (signalPacket q))

theorem exec_wait_ready (hready : packetReady q 5 s = some p) : exec (.wait q) s = .next (waitPacket q p s) :=
  congrArg goOn (decodeNext_ready hready (waitPacket q))

theorem exec_condJump_ready (hready : packetReady q 7 s = some p) : exec (.condJump q) s = .next (condJumpPacket q p s) :=
  congrArg goOn (decodeNext_ready hready (condJumpPacket q))

theorem exec_loop_ready (hready : packetReady q 8 s = some p) : exec (.loop q) s = .next (loopPacket q p s) :=
  congrArg goOn (decodeNext_ready hready (loopPacket q))

theorem exec_call_ready (hready : packetReady q 9 s = some p) : exec (.call q) s = .next (callPacket q p s) :=
  congrArg goOn (decodeNext_ready hready (callPacket q))

theorem exec_ret_ready (hready : packetReady q 10 s = some p) : exec (.ret q) s = .next (retPacket q p s) :=
  congrArg goOn (decodeNext_ready hready (retPacket q))

theorem exec_setReg_ready (hready : packetReady q 11 s = some p) : exec (.setReg q) s = .next (setRegPacket q p s) :=
  congrArg goOn (decodeNext_ready hready (setRegPacket q))

theorem exec_mark_ready (hready : packetReady q 12 s = some p) : exec (.mark q) s = .next (markPacket q p s) :=
  congrArg goOn (decodeNext_ready hready (markPacket q))

end Ready

theorem exec_atomic (q : Nat) (s : State) : exec (.atomic q) s = .next (settled (atomicOp q s)) := rfl

theorem exec_signalApply (q : Nat) (s : State) : exec (.signalApply q) s = .next (signalApplyOp q s) := rfl

theorem exec_waitGraphWalk (q : Nat) (s : State) : exec (.waitGraphWalk q) s = .next (waitGraphWalkOp q s) := rfl

/-- A queue's record after a change that leaves it other than an unused queue's. -/
theorem queueOf_updQueue {q : Nat} {f : Queue → Queue} {s : State} (hused : f (queueOf s q) ≠ default) :
    queueOf (updQueue q f s) q = f (queueOf s q) := Tab.get_mod_of_ne hused

theorem ne_default_of_running {x : Queue} (hrunning : x.state = .running) : x ≠ default := fun h =>
  absurd (hrunning.symm.trans (congrArg Queue.state h)) (by decide)

/-! ### Work packets (R296, R304, R378) -/

section Packets

variable {q : Nat} {p : Packet} {s : State}

/-- A work packet that the quota allows issues under the next work number. -/
theorem issueWork_goes (hquota : workCheck s (queueOf s q).hall = .go) (f : Nat → State → State) :
    issueWork q p f s = packetDone q (p.idx + 1 + p.more.length) (radioIssued q (f (nextWorkId s) s)) := by
  simp only [issueWork, hquota]

theorem movePacket_issues {m : Nat} (hflags : onlyBits (num p.unit 1 1) 2 = true) (hzero : allZero (p.unit.drop 3) = true)
    (hmover : num p.unit 2 1 = m) (hlow : m < 16) (hthere : moverThere s m = true) (hserves : isLanding s (Src.mover m) = false)
    (hfree : retakeBars s q (engMover m) = false) (hroom : moverRoom s m (queueClass s q) = true)
    (hquota : workCheck s (queueOf s q).hall = .go) :
    movePacket q p s = packetDone q (p.idx + 1 + p.more.length) (radioIssued q (moverPut m (queueClass s q) (filledDesc s q p)
      (some (nextWorkId s)) (workIssue q (engMover m) none (mdLength (filledDesc s q p)) s))) := by
  have hnamed : m ≠ 255 := by omega
  simp only [movePacket, hflags, hzero, hmover, hlow, hnamed, decide_true, Bool.true_or, Bool.not_true, Bool.or_self, Bool.false_eq_true,
    if_false, ne_eq, not_false_eq_true, if_true, hthere, hserves, hfree, hroom, issueWork_goes hquota]

theorem reducePacket_issues {u k : Nat} (hflags : onlyBits (num p.unit 1 1) 2 = true) (hzero : allZero (p.unit.drop 3) = true)
    (hunit : num p.unit 2 1 = u) (hlow : u < 8) (hthere : redThere s u = true) (hserves : isLanding s (Src.red u) = false)
    (hfree : retakeBars s q (engRed u) = false) (hslot : redSlotFree s u (queueClass s q) = some k)
    (hquota : workCheck s (queueOf s q).hall = .go)
    (hok : redOk (workIssue q (engRed u) none (rdN (filledDesc s q p) * fmtBytes (rdIn (filledDesc s q p)) (rdCE (filledDesc s q p))) s) u
      (filledDesc s q p) = true) :
    reducePacket q p s = packetDone q (p.idx + 1 + p.more.length) (radioIssued q (redPut u k (filledDesc s q p) (some (nextWorkId s))
      (workIssue q (engRed u) none (rdN (filledDesc s q p) * fmtBytes (rdIn (filledDesc s q p)) (rdCE (filledDesc s q p))) s))) := by
  simp only [reducePacket, hflags, hzero, hunit, decide_eq_false (Nat.not_le.mpr hlow), Bool.not_true, Bool.or_self, Bool.false_eq_true,
    if_false, hthere, hserves, hfree, hslot, issueWork_goes hquota, hok, if_true]

theorem launchPacket_issues {e : Nat} (hengine : num p.unit 2 1 = e) (hlow : e < 16) (hflags : onlyBits (num p.unit 1 1) 4 = true)
    (hzero : num p.unit 3 1 = 0) (hentry : num p.unit 4 4 ≠ 0) (hgranted : (qEngines (hallOf s (queueOf s q).hall)).testBit e = true)
    (hin : s.hr.slotsOut.toNat.testBit e = false) (hport : s.pins.cpEn = true) (hfree : retakeBars s q e = false)
    (howner : (slotOfEng s e).owner = some q) (htake : (slotOfEng s e).lastIssued = false)
    (hquota : workCheck s (queueOf s q).hall = .go) :
    launchPacket q p s = packetDone q (p.idx + 1 + p.more.length) (radioIssued q
      (launchIssue q e p.unit ((num p.unit 1 1).testBit 2) (nextWorkId s) s)) := by
  simp only [launchPacket, hengine, hflags, decide_eq_false (Nat.not_le.mpr hlow), hzero, bne_self_eq_false, beq_false_of_ne hentry,
    hgranted, hin, hport, hfree, howner, htake, beq_self_eq_true, Bool.not_true, Bool.not_false, Bool.and_self, Bool.or_self,
    Bool.false_eq_true, if_false, issueWork_goes hquota]

/-- An ATOMIC that is well formed and waits for no register is issued, its mark for the answers taken back. -/
theorem atomicOp_issues (hready : packetReady q 6 s = some p) (hflags : onlyBits (num p.unit 1 1) 0xC = true)
    (hleast : 2 ≤ num p.unit 2 1) (hmost : num p.unit 2 1 ≤ 5) (hreg : onlyBits (num p.unit 3 1) 0xF = true)
    (hzero : num p.unit 4 4 = 0) (haligned : num p.unit 8 8 % 8 = 0) (hwide : (num p.unit 1 1).testBit 2 = true)
    (hswap : num p.unit 2 1 = 5 ∨ num p.unit 24 8 = 0) (hnoreg : (num p.unit 3 1).testBit 3 = false) :
    atomicOp q s = atomicIssue q p.unit p (updQueue q (fun x => { x with atomicAt := none })
      (updQueue q (fun x => { x with atomicAt := some p.idx }) s)) := by
  obtain ⟨b, e, hp⟩ := packetReady_readyIn hready
  obtain ⟨rest, hbufs⟩ := hp.bufs
  obtain rfl : 0 = e := Option.some.inj hp.ext
  have hmarked : (queueOf (updQueue q (fun x => { x with atomicAt := some p.idx }) s) q).atomicAt = some p.idx :=
    by
    rw [queueOf_updQueue fun h => Option.some_ne_none _ (congrArg Queue.atomicAt h)]
  have hswaps : (num p.unit 2 1 == 5 || num p.unit 24 8 == 0) = true := by simpa using hswap
  simp only [atomicOp, decodeNext_ready hready, hflags, decide_eq_true (And.intro hleast hmost), hreg, hzero, hwide, if_true, haligned,
    beq_self_eq_true, Bool.true_or, hswaps, Bool.and_self, Bool.not_true, Bool.false_eq_true, if_false, hmarked, hbufs]
  have hunit : b.units.get p.idx = p.unit := (congrArg Packet.unit hp.packet).symm
  simp only [hunit, hnoreg, Bool.false_and, Bool.false_eq_true, if_false]
  congr 1
  rw [hp.packet]
  rfl

/-! ### SIGNAL and WAIT (R297, R300, R320, R323, R325) -/

/-- A byte with no bit outside a mask has none outside a wider one. -/
theorem onlyBits_wider {b m n : Nat} (hbits : onlyBits b m = true) (hwider : m &&& n = m) : onlyBits b n = true := by
  have hmask : b &&& m = b := eq_of_beq hbits
  refine beq_of_eq ?_
  calc b &&& n = b &&& m &&& n := by rw [hmask]
    _ = b := by rw [Nat.land_assoc, hwider, hmask]

theorem signalPacket_keeps (hflags : onlyBits (num p.unit 1 1) 0xC = true) (hseven : num p.unit 7 1 = 0)
    (hzero : allZero (p.unit.drop 16) = true) (hkind : bits (num p.unit 1 1) 2 2 < 3)
    (hvalue : bits (num p.unit 1 1) 2 2 = 0 ∨ num p.unit 8 8 < 2 ^ 32) (hmember : num p.unit 4 3 = 0)
    (hlocal : (num p.unit 1 1).testBit 4 = false)
    (hobject : objectOk s (queueOf s q).hall (bits (num p.unit 1 1) 2 2) (num p.unit 2 2) = true) :
    signalPacket q p s = packetDone q (p.idx + 1) (updQueue q (fun x => { x with signals := x.signals ++ [
      { tkind := bits (num p.unit 1 1) 2 2, obj := num p.unit 2 2, value := BitVec.ofNat 64 (num p.unit 8 8), remote := none
        after := workOf s q }] }) s) := by
  have hwidth : (bits (num p.unit 1 1) 2 2 == 0 || decide (num p.unit 8 8 < 2 ^ 32)) = true := by simpa using hvalue
  simp only [signalPacket, onlyBits_wider hflags (by decide : 0xC &&& 0x1C = 0xC), hseven, hzero, decide_eq_true hkind, hwidth, hlocal,
    hmember, hobject, beq_self_eq_true, Bool.and_self, Bool.or_true, Bool.not_true, Bool.or_self, Bool.false_eq_true, if_false]

theorem signalApplyOp_local {g : PendSignal} {rest : List PendSignal} (holdest : (queueOf s q).signals = g :: rest)
    (hdue : signalDue s q = true) (hlocal : g.remote = none) :
    signalApplyOp q s = if g.tkind = 0 then signalFence g.obj g.value (queueOf s q).kept
        (updQueue q (fun x => { x with kept := Status.ok }) (updQueue q (fun x => { x with signals := rest }) s))
      else signalSem g.tkind g.obj (BitVec.ofNat 32 g.value.toNat)
        (updQueue q (fun x => { x with kept := Status.ok }) (updQueue q (fun x => { x with signals := rest }) s)) := by
  simp only [signalApplyOp, holdest, hdue, hlocal, Bool.not_true, Bool.false_eq_true, if_false]

section Wait

variable (hflags : onlyBits (num p.unit 1 1) 0xC = true) (hzero : num p.unit 4 4 = 0) (hrest : allZero (p.unit.drop 16) = true)
include hflags hzero hrest

section Fence

variable (hkind : bits (num p.unit 1 1) 2 2 = 0) (hfence : objectOk s (queueOf s q).hall 0 (num p.unit 2 2) = true)
include hkind hfence

theorem waitPacket_fenceMet (hmet : (fenceOf s (num p.unit 2 2)).state = 2#2
      ∨ reached (fenceOf s (num p.unit 2 2)).value (BitVec.ofNat 64 (num p.unit 8 8)) = true) :
    waitPacket q p s = packetDone q (p.idx + 1) (waitMet q (fenceOf s (num p.unit 2 2)).status s) := by
  simp only [waitPacket, hflags, hzero, hrest, hkind, hfence, beq_self_eq_true, Nat.ofNat_pos, decide_true, Bool.true_or, Bool.and_self,
    Bool.not_true, Bool.or_self, Bool.false_eq_true, if_false, if_true, if_pos hmet]

theorem waitPacket_fenceParks {u : State} (hlive : (fenceOf s (num p.unit 2 2)).state ≠ 2#2)
    (hbelow : reached (fenceOf s (num p.unit 2 2)).value (BitVec.ofNat 64 (num p.unit 8 8)) = false)
    (hparked : u = parkQueue q (.fence (num p.unit 2 2) (BitVec.ofNat 64 (num p.unit 8 8)))
      ((updQueue q (fun x => { x with decoded := x.decoded + 1 }) (setPos q (p.idx + 1) s)).feCount 2)) :
    waitPacket q p s = if (queueOf u q).active then u else saveRecord q u := by
  simp only [waitPacket, hflags, hzero, hrest, hkind, hfence, beq_self_eq_true, Nat.ofNat_pos, decide_true, Bool.true_or, Bool.and_self,
    Bool.not_true, Bool.or_self, Bool.false_eq_true, if_false, if_true, hlive, hbelow, or_self, hparked]

end Fence

/-- A positive amount that a local semaphore holds, with no queue ahead, is taken at once. -/
theorem waitPacket_takes {a : Word} (hkind : bits (num p.unit 1 1) 2 2 = 1) (hamount : num p.unit 8 8 = a.toNat) (hpositive : a ≠ 0)
    (hsem : objectOk s (queueOf s q).hall 1 (num p.unit 2 2) = true) (hfirst : (semWaiters s 1 (num p.unit 2 2)).isEmpty = true)
    (hcount : a.toNat ≤ (semOf s 1 (num p.unit 2 2)).count.toNat) :
    waitPacket q p s = packetDone q (p.idx + 1) (updSem 1 (num p.unit 2 2) (fun x => { x with count := x.count - a }) s) := by
  have hsome : a.toNat ≠ 0 := fun h => hpositive (BitVec.eq_of_toNat_eq h)
  simp only [waitPacket, hflags, hzero, hrest, hkind, hamount, hsem, hfirst, beq_self_eq_true, decide_eq_true a.isLt, decide_eq_true hcount,
    Nat.reduceLT, Nat.reduceBEq, decide_true, Bool.or_true, Bool.and_self, Bool.not_true, Bool.or_self, Bool.false_eq_true, if_false, if_true,
    one_ne_zero, hsome, BitVec.ofNat_toNat, BitVec.setWidth_eq]

end Wait

theorem waitPacket_bad (hbad : num p.unit 4 4 ≠ 0) : waitPacket q p s = queueStop q Status.permission p.idx s := by
  simp only [waitPacket, beq_false_of_ne hbad, Bool.and_false, Bool.false_and, Bool.not_false, Bool.true_or, if_true, badPacket]

/-- The walk of the queue that parked first ends its WAIT where it comes back to the queue, and else joins it to the graph. -/
theorem waitGraphWalkOp_first {rest : List Nat} (hfirst : s.fs.walks = q :: rest) :
    waitGraphWalkOp q s = if walkReturns s q 16384 q then ((endWait q Status.deadlock s).fsEvent 1).fsCount 4
      else { s with fs := { s.fs with walks := rest, graph := s.fs.graph ++ [q] } } := by
  simp only [waitGraphWalkOp, hfirst, ne_eq, not_true_eq_false, if_false]
  rfl

/-! ### Control packets (R298, R302, R303) -/

section SetReg

variable {d : Nat} (hflags : num p.unit 1 1 = 0) (hdreg : num p.unit 2 1 = d) (hlow : d < 8) (hsreg : num p.unit 4 1 < 8)
  (hfive : num p.unit 5 1 = 0) (hzero : allZero (p.unit.drop 16) = true)
include hflags hdreg hlow hsreg hfive hzero

theorem setRegPacket_loads (hop : num p.unit 3 1 = 0) :
    setRegPacket q p s = packetDone q (p.idx + 1) (setGreg q d (BitVec.ofNat 64 (num p.unit 8 8)) s) := by
  simp only [setRegPacket, hflags, hdreg, hlow, hsreg, hfive, hzero, hop]
  rfl

theorem setRegPacket_adds (hop : num p.unit 3 1 = 1) (hready : regPending s q d = false) :
    setRegPacket q p s = packetDone q (p.idx + 1) (setGreg q d (greg s q d + BitVec.ofNat 64 (num p.unit 8 8)) s) := by
  simp only [setRegPacket, hflags, hdreg, hlow, hsreg, hfive, hzero, hop, hready]
  rfl

end SetReg

theorem setRegPacket_bad (hbad : num p.unit 1 1 ≠ 0) : setRegPacket q p s = queueStop q Status.permission p.idx s := by
  simp only [setRegPacket, beq_false_of_ne hbad, Bool.false_and, Bool.not_false, if_true, badPacket]

/-- A MARK changes no hall of the running queue that decodes it. -/
theorem markPacket_marks (hrunning : (queueOf s q).state = .running) (hflags : num p.unit 1 1 = 0) (htwo : num p.unit 2 2 = 0)
    (hseven : num p.unit 7 1 = 0) (hzero : allZero (p.unit.drop 10) = true) :
    markPacket q p s = packetDone q (p.idx + 1) (rushes Src.fe Ev.mark (queueOf s q).hall (num p.unit 4 3) (num p.unit 8 2) q
      (updQueue q (fun x => { x with scene := BitVec.ofNat 24 (num p.unit 4 3), shot := BitVec.ofNat 16 (num p.unit 8 2) }) s)) := by
  have hhall : (queueOf (updQueue q (fun x => { x with
      scene := BitVec.ofNat 24 (num p.unit 4 3), shot := BitVec.ofNat 16 (num p.unit 8 2) }) s) q).hall = (queueOf s q).hall := by
    rw [queueOf_updQueue]
    exact ne_default_of_running hrunning
  simp only [markPacket, hflags, htwo, hseven, hzero, ne_eq, not_true_eq_false, Bool.not_true, Bool.false_eq_true, or_self, if_false, hhall]

theorem markPacket_bad (hbad : num p.unit 1 1 ≠ 0) : markPacket q p s = queueStop q Status.permission p.idx s := by
  simp only [markPacket, ne_eq, hbad, not_false_eq_true, true_or, if_true, badPacket]

/-- A LOOP outside every open loop, with its count in the packet: none is skipped over, another is opened. -/
theorem loopPacket_opens {body n : Nat} (hflags : num p.unit 1 1 = 0) (hreg : num p.unit 2 1 < 8) (hthree : num p.unit 3 1 = 0)
    (hcount : num p.unit 4 4 = n) (hbody : num p.unit 8 2 = body) (hzero : allZero (p.unit.drop 10) = true) (hleast : 1 ≤ body)
    (houter : openLoops s q = []) (hfits : p.idx + 1 + body ≤ p.units) (hdepth : (queueOf s q).loops.length < 4) :
    loopPacket q p s = if n = 0 then packetDone q (p.idx + 1 + body) s
      else packetDone q (p.idx + 1) (updQueue q (fun x => { x with
        loops := LoopRec.mk (p.idx + 1) (p.idx + 1 + body) n ((queueOf s q).bufs.length - 1) :: x.loops }) s) := by
  simp only [loopPacket, hflags, hreg, hthree, hcount, hbody, hzero, houter, decide_eq_true (And.intro hleast hfits),
    if_neg (Nat.not_le.mpr hdepth), decide_true, beq_self_eq_true, Nat.zero_testBit, Bool.false_and]
  rfl

theorem callPacket_fetches {addr : Nat} (hflags : num p.unit 1 1 = 0) (hpad : allZero (sub p.unit 2 6) = true)
    (hzero : allZero (p.unit.drop 24) = true) (haddr : num p.unit 8 8 = addr) (haligned : addr % 64 = 0)
    (hdepth : (queueOf s q).bufs.length < 3) :
    callPacket q p s = fetchAsk q (.header (BitVec.ofNat 64 addr) (some (BitVec.ofNat 64 (num p.unit 16 8)))) addr
      (64 + chunkBytes (isSealed (hallOf s (queueOf s q).hall)) 16)
      ((updQueue q (fun x => { x with decoded := x.decoded + 1 }) (setPos q (p.idx + 1) s)).feCount 2) := by
  simp only [callPacket, hflags, hpad, hzero, haddr, haligned, hdepth, decide_true, beq_self_eq_true, Bool.and_self, Bool.not_true,
    Bool.false_eq_true, if_false]

theorem retPacket_returns (hflags : num p.unit 1 1 = 0) (hzero : allZero (p.unit.drop 2) = true) :
    retPacket q p s = packetDone q p.units (updQueue q (fun x => { x with
      loops := x.loops.filter fun l => decide (l.depth < (queueOf s q).bufs.length - 1) }) s) := by
  simp only [retPacket, hflags, hzero, ne_eq, not_true_eq_false, Bool.not_true, Bool.false_eq_true, or_self, if_false]

theorem retPacket_bad (hbad : num p.unit 1 1 ≠ 0) : retPacket q p s = queueStop q Status.permission p.idx s := by
  simp only [retPacket, ne_eq, hbad, not_false_eq_true, true_or, if_true, badPacket]

/-- A COND_JUMP between two registers, forward in its buffer and outside every open loop. -/
theorem condJumpPacket_jumps {a b target : Nat} (hflags : num p.unit 1 1 = 8) (hcond : num p.unit 2 1 < 8) (hleft : num p.unit 3 1 = a)
    (ha : a < 8) (hright : num p.unit 6 1 = b) (hb : b < 8) (hseven : num p.unit 7 1 = 0) (hzero : allZero (p.unit.drop 18) = true)
    (htarget : num p.unit 16 2 = target) (hforward : p.idx < target) (hinside : target ≤ p.units) (houter : openLoops s q = [])
    (hleftReady : regPending s q a = false) (hrightReady : regPending s q b = false) :
    condJumpPacket q p s
      = packetDone q (if condHolds (num p.unit 2 1) (greg s q a) (greg s q b) then target else p.idx + 1) s := by
  have hmask : onlyBits 8 0xC = true := rfl
  have hbreak : (8 : Nat).testBit 2 = false := rfl
  have hregister : (8 : Nat).testBit 3 = true := rfl
  have hnoFence : (a != 8) = true := bne_iff_ne.mpr (by omega)
  have hnoSem : (a != 9) = true := bne_iff_ne.mpr (by omega)
  have hfields : num p.unit 2 1 < 8 ∧ a < 10 ∧ b < 8 := ⟨hcond, by omega, hb⟩
  simp only [condJumpPacket, hflags, hleft, hright, hseven, hzero, htarget, houter, hbreak, hregister, hnoFence, hnoSem,
    decide_eq_true hfields, decide_eq_true (And.intro hforward hinside), hmask, ha, if_true, hleftReady, hrightReady]
  cases condHolds (num p.unit 2 1) (greg s q a) (greg s q b) <;> rfl

theorem condJumpPacket_bad (hbad : num p.unit 7 1 ≠ 0) : condJumpPacket q p s = queueStop q Status.permission p.idx s := by
  simp only [condJumpPacket, beq_false_of_ne hbad, Bool.and_false, Bool.false_and, Bool.not_false, if_true, badPacket]

end Packets

/-- Settles O20: each packet, signal and walk by its own lemma. -/
theorem commandPackets : Obligations.CommandPackets := by
  unfold Obligations.CommandPackets
  refine ⟨?move, ?reduce, ?launch, ?signal, ?signalApply, ?waitMet, ?waitParks, ?waitTakes, ?walk, ?atomic, ?setReg, ?addReg, ?mark,
    ?loop, ?call, ?ret, ?condJump, ?refused⟩
  case move =>
    intro q m p s hready hflags hzero hmover hlow hthere hserves hfree hroom hquota
    rw [exec_move_ready hready, movePacket_issues hflags hzero hmover hlow hthere hserves hfree hroom hquota]
  case reduce =>
    intro q u k p d s hready hflags hzero hunit hlow hthere hserves hfree hslot hquota hd hok
    subst hd
    rw [exec_reduce_ready hready, reducePacket_issues hflags hzero hunit hlow hthere hserves hfree hslot hquota hok]
  case launch =>
    intro q e p s hready hengine hlow hflags hzero hentry hgranted hin hport hfree howner htake hquota
    rw [exec_launch_ready hready,
      launchPacket_issues hengine hlow hflags hzero hentry hgranted hin hport hfree howner htake hquota]
  case signal =>
    intro q p s hready hflags hseven hzero hkind hvalue hmember hlocal hobject
    rw [exec_signal_ready hready, signalPacket_keeps hflags hseven hzero hkind hvalue hmember hlocal hobject]
  case signalApply =>
    intro q g rest s holdest hdue hlocal
    rw [exec_signalApply, signalApplyOp_local holdest hdue hlocal]
  case waitMet =>
    rintro q f v p s hready hflags hzero hrest hkind rfl rfl hfence hmet
    rw [exec_wait_ready hready, waitPacket_fenceMet hflags hzero hrest hkind hfence hmet]
  case waitParks =>
    rintro q f v p s u hready hflags hzero hrest hkind rfl rfl hfence hlive hbelow hparked
    rw [exec_wait_ready hready, waitPacket_fenceParks hflags hzero hrest hkind hfence hlive hbelow hparked]
  case waitTakes =>
    rintro q i a p s hready hflags hzero hrest hkind rfl hamount hpositive hsem hfirst hcount
    rw [exec_wait_ready hready, waitPacket_takes hflags hzero hrest hkind hamount hpositive hsem hfirst hcount]
  case walk =>
    intro q rest s hfirst
    rw [exec_waitGraphWalk, waitGraphWalkOp_first hfirst]
  case atomic =>
    rintro q p s u hready hflags hleast hmost hreg hzero haligned hwide hswap hnoreg rfl
    rw [exec_atomic, atomicOp_issues hready hflags hleast hmost hreg hzero haligned hwide hswap hnoreg]
  case setReg =>
    rintro q d imm p s hready hflags hdreg hlow hop hsreg hfive hzero rfl
    rw [exec_setReg_ready hready, setRegPacket_loads hflags hdreg hlow hsreg hfive hzero hop]
  case addReg =>
    rintro q d imm p s hready hflags hdreg hlow hop hsreg hfive hzero rfl hdone
    rw [exec_setReg_ready hready, setRegPacket_adds hflags hdreg hlow hsreg hfive hzero hop hdone]
  case mark =>
    intro q p s hready hflags htwo hseven hzero
    obtain ⟨b, e, hp⟩ := packetReady_readyIn hready
    rw [exec_mark_ready hready, markPacket_marks hp.running hflags htwo hseven hzero]
  case loop =>
    rintro q body n l p s hready rfl hflags hreg hthree hcount hbody hzero hleast houter hfits hdepth
    rw [exec_loop_ready hready, loopPacket_opens hflags hreg hthree hcount hbody hzero hleast houter hfits hdepth]
  case call =>
    intro q addr p s hready hflags hpad hzero haddr haligned hdepth
    rw [exec_call_ready hready, callPacket_fetches hflags hpad hzero haddr haligned hdepth]
  case ret =>
    intro q p s hready hflags hzero
    rw [exec_ret_ready hready, retPacket_returns hflags hzero]
  case condJump =>
    intro q a b target p s hready hflags hcond hleft ha hright hb hseven hzero htarget hforward hinside houter hleftReady hrightReady
    rw [exec_condJump_ready hready, condJumpPacket_jumps hflags hcond hleft ha hright hb hseven hzero htarget hforward hinside houter
      hleftReady hrightReady]
  case refused =>
    intro q p s
    refine ⟨?jump, ?register, ?marked, ?wait, ?returned⟩
    case jump => exact fun hready hbad => by rw [exec_condJump_ready hready, condJumpPacket_bad hbad]
    case register => exact fun hready hbad => by rw [exec_setReg_ready hready, setRegPacket_bad hbad]
    case marked => exact fun hready hbad => by rw [exec_mark_ready hready, markPacket_bad hbad]
    case wait => exact fun hready hbad => by rw [exec_wait_ready hready, waitPacket_bad hbad]
    case returned => exact fun hready hbad => by rw [exec_ret_ready hready, retPacket_bad hbad]

end Sys2Proof.Machine
end

section
/-! The home side of remote requests: what the acceptance of a REQ, the combining buffer, the answers and the atomic unit's commands do. -/

namespace Sys2Proof.Machine

-- One declaration at a time, so that the elaborator holds few threads (each takes stack of its own).
set_option Elab.async false

/-! ### Acceptance (R267, R271, R273, R278) -/

/-- A context that holds no untaken REQ. -/
theorem homeAcceptOp_empty {i : Nat} {s : State} (hnone : (rxOf s i).held.find? (fun h => h.type == tReq && !h.taken) = none) :
    homeAcceptOp i s = ([], s) := by
  simp only [homeAcceptOp, hnone]

theorem homeFits_iff {i : Nat} {h : HeldFrame} {s : State} : homeFits i h s = true ↔
    ¬ (rqHall (h.payload.take 64) ≠ (rxOf s i).hall ∨ rqHgen (h.payload.take 64) ≠ (rxOf s i).hgen.toNat
      ∨ (!genOk s (rxOf s i).hall (rxOf s i).hgen.toNat) = true) := by
  simp [homeFits, and_assoc]

section Accept

variable {i : Nat} {h : HeldFrame} {s : State} (hfind : (rxOf s i).held.find? (fun h => h.type == tReq && !h.taken) = some h)
include hfind

theorem homeAcceptOp_stale (hfits : homeFits i h s = false) :
    homeAcceptOp i s = ([], hallStale (rqHall (h.payload.take 64) % 4096) (takeHeld i h.seq 0 s)) := by
  have hstale := not_not.mp (mt homeFits_iff.mpr (Bool.not_eq_true _ ▸ hfits))
  simp only [homeAcceptOp, hfind, if_pos hstale]

/-- A posted REQ has no number: it needs room in the request queue alone. -/
theorem homeAcceptOp_posted (hfits : homeFits i h s = true) (hposted : rqPosted (h.payload.take 64) = true) :
    homeAcceptOp i s = if homeRoom s ((rxOf s i).cls == 0#2) 0 = true then homeKick (homeServe i h s) else ([], s) := by
  simp only [homeAcceptOp, hfind, if_neg (homeFits_iff.mp hfits), hposted]
  cases hroom : homeRoom s ((rxOf s i).cls == 0#2) 0 <;> simp [hroom]

section Numbered

variable (hfits : homeFits i h s = true) (harmed : s.fcu.armed = false) (hposted : rqPosted (h.payload.take 64) = false)
include hfits harmed hposted

/-- One that is in order also needs room for its answer, and the next number follows its own. -/
theorem homeAcceptOp_inOrder (hnumber : reqNumber (rxOf s i) (h.payload.take 64) = .serve) :
    homeAcceptOp i s = if homeRoom s ((rxOf s i).cls == 0#2) 1 = true
      then homeKick (homeServe i h (updRx i (fun c => { c with homeNum := some (nextNum (rqNum (h.payload.take 64))) }) s))
      else ([], s) := by
  simp only [homeAcceptOp, hfind, if_neg (homeFits_iff.mp hfits), injected_unarmed harmed, hposted, hnumber]
  cases hroom : homeRoom s ((rxOf s i).cls == 0#2) 1 <;> simp [hroom]

theorem homeAcceptOp_sync (hnumber : reqNumber (rxOf s i) (h.payload.take 64) = .sync) :
    homeAcceptOp i s = if homeRoom s ((rxOf s i).cls == 0#2) 1 = true then homeKick (homeSync i h s) else ([], s) := by
  simp only [homeAcceptOp, hfind, if_neg (homeFits_iff.mp hfits), injected_unarmed harmed, hposted, hnumber]
  cases hroom : homeRoom s ((rxOf s i).cls == 0#2) 1 <;> simp [hroom]

/-- One out of order is dropped and reported, whatever room there is. -/
theorem homeAcceptOp_outOfOrder (hnumber : reqNumber (rxOf s i) (h.payload.take 64) = .drop) :
    homeAcceptOp i s = homeKick (reqFraming i h true s) := by
  simp only [homeAcceptOp, hfind, if_neg (homeFits_iff.mp hfits), injected_unarmed harmed, hposted, hnumber]
  simp

end Numbered

end Accept

/-! ### Updates of the combining buffer (R274, R275, R277) -/

section Apply

variable {e id u : Nat} {rest : List (Nat × Nat)} {r : HomeReq} {s : State} (hwaiting : (combOf s e).waiting = (id, u) :: rest)
  (hreq : homeReq s id = some r) (hlive : (combOf s e).live = true) (hfilled : (combOf s e).filling = false)
  (hinject : s.au.inject = false) (harmed : s.fcu.armed = false) (hsound : targetTainted s (combOf s e).region = false)
include hwaiting hreq hlive hfilled hinject harmed hsound

/-- An atomic at the head of what waits replaces the line by its result and answers the old line. -/
theorem atomicApply_atomic (hatomic : rqAtomic r.block = true) :
    atomicApply e s = serveLoads e 4096 (updComb e (fun c => { c with waiting := rest })
      (homeUnitDone id u Status.ok (combOf s e).data ((updComb e (fun c => { c with
          dirty := true
          data := Num.atomLine (rqOp r.block) ((rqFlags r.block).testBit 0) ((rqFlags r.block).testBit 1) (rqMask r.block)
            (combOf s e).data (fit r.data 64) (rqBe r.block) (rqSwap r.block)
          reqHall := r.hall, reqAddr := rqAddr r.block + 64 * u, reqCtx := r.ctx % 512 }) s).auCount 1))) := by
  simp [atomicApply, hwaiting, hreq, hlive, hfilled, hinject, injected_unarmed harmed, hsound, hatomic]

/-- A store replaces its bytes of the line. -/
theorem atomicApply_store (hstore : rqAtomic r.block = false) :
    atomicApply e s = serveLoads e 4096 (updComb e (fun c => { c with waiting := rest })
      (homeUnitDone id u Status.ok [] (updComb e (fun c => { c with
        data := storeLine r u c.data, dirty := true, reqHall := r.hall, reqAddr := rqAddr r.block + 64 * u, reqCtx := r.ctx % 512 }) s))) := by
  simp [atomicApply, hwaiting, hreq, hlive, hfilled, hinject, injected_unarmed harmed, hsound, hstore]

end Apply

/-! ### Fills (R275) -/

theorem combFilled_good {e : Nat} {data : Bytes} {s : State} (hlive : (combOf s e).live = true) (hfilling : (combOf s e).filling = true) :
    combFilled e Status.ok data s
      = serveLoads e 4096 (updComb e (fun c => { c with filling := false, data := fit data 64 }) s) := by
  simp [combFilled, hlive, hfilling]

/-- A fill that fails, with no unit that waits on it, frees the buffer alone. -/
theorem combFilled_failed {e : Nat} {st : Status} {data : Bytes} {s : State} (hlive : (combOf s e).live = true)
    (hfilling : (combOf s e).filling = true) (hwaiting : (combOf s e).waiting = []) (hst : st ≠ Status.ok) :
    combFilled e st data s = combFree e s := by
  simp [combFilled, hlive, hfilling, hwaiting, hst, forAll]

theorem combFilled_stray {e : Nat} {st : Status} {data : Bytes} {s : State} (hfilled : (combOf s e).filling = false) :
    combFilled e st data s = s := by
  simp [combFilled, hfilled]

/-! ### RSP frames (R270, R271) -/

section Rsp

variable {i : Nat} {h : HeldFrame} {s : State} (hfind : (rxOf s i).held.find? (fun h => h.type == tRsp && !h.taken) = some h)
include hfind

/-- With no frame of an item before it: a whole answer in data form, or the response block of the status form. -/
theorem rspReceiveOp_first (hparts : (rxOf s i).rspParts = []) :
    rspReceiveOp i s = if h.last then rspItem i none h.payload (takeHeld i h.seq 0 s)
      else ([], updRx i (fun c => { c with rspParts := [h.payload] }) (takeHeld i h.seq 0 s)) := by
  simp only [rspReceiveOp, hfind, hparts]

theorem rspReceiveOp_second {b : Bytes} {rest : List Bytes} (hparts : (rxOf s i).rspParts = b :: rest) (hlast : h.last = true) :
    rspReceiveOp i s = rspItem i (some b) h.payload (updRx i (fun c => { c with rspParts := [] }) (takeHeld i h.seq 0 s)) := by
  simp only [rspReceiveOp, hfind, hparts, hlast, if_true]

end Rsp

/-! ### The commands (R281) -/

/-- A flush of operation `op` has begun over `hall`: AU_CMD's fields, GO and FLUSHING. -/
def auFlushing (op : BitVec 4) (hall : Nat) (s : State) : State :=
  { s with au := { s.au with hall := BitVec.ofNat 12 hall, go := true, op := op, flushing := true } }

/-- AU_INJECT has ended: it arms the unit's injection where injection is allowed (R114). -/
def auInjected (hall : Nat) (s : State) : State :=
  { s with au := { s.au with
    hall := BitVec.ofNat 12 hall, op := 3#4, inject := s.au.inject || s.injectionAllowed
    result := if s.injectionAllowed then Status.ok else Status.permission } }

/-- The write-backs of the dirty entries of a hall, or of every hall, are asked for by the flush. -/
def flushWrites (hall : Option Nat) (s : State) : List Ans × State :=
  eachAns (combDirty s hall) (fun e s => combClean e (512, 0) s) s

section Commands

variable {s : State} (hunit : s.conf.atomic = true) (hidle : s.au.go = false)
include hunit hidle

theorem auCommand_flushHall (hall : Nat) : auCommand 1 hall s
    = ((flushWrites (some hall) (auFlushing 1 hall s)).1, flushStep (flushWrites (some hall) (auFlushing 1 hall s)).2) := by
  simp only [auCommand, hunit, hidle, Bool.not_true, Bool.or_self, Bool.false_eq_true, if_false]
  rfl

theorem auCommand_flushAll (hall : Nat) : auCommand 2 hall s
    = ((flushWrites none (auFlushing 2 hall s)).1, flushStep (flushWrites none (auFlushing 2 hall s)).2) := by
  simp only [auCommand, hunit, hidle, Bool.not_true, Bool.or_self, Bool.false_eq_true, if_false]
  rfl

theorem auCommand_inject (hall : Nat) : auCommand 3 hall s = ([], auInjected hall s) := by
  simp only [auCommand, hunit, hidle, Bool.not_true, Bool.or_self, Bool.false_eq_true, if_false]
  rfl

end Commands

/-! ### The rows -/

theorem exec_homeReqAccept (i : Nat) (s : State) : exec (.homeReqAccept i) s = .next (settled (homeAcceptOp i s)) := rfl

theorem exec_atomicUpdateApply (e : Nat) (s : State) : exec (.atomicUpdateApply e) s = .next (settled ([], atomicApply e s)) := rfl

theorem exec_combiningFillDone (e : Nat) (st : Status) (data : Bytes) (s : State) :
    exec (.combiningFillDone e st data) s = .next (settled ([], combFilled e st data s)) := rfl

theorem exec_rspItemReceive (i : Nat) (s : State) : exec (.rspItemReceive i) s = .next (settled (rspReceiveOp i s)) := rfl

theorem exec_auFlushHall (hall : BitVec 12) (s : State) : exec (.auFlushHall hall) s = .next (settled (auCommand 1 hall.toNat s)) := rfl

theorem exec_auFlushAll (s : State) : exec .auFlushAll s = .next (settled (auCommand 2 s.au.hall.toNat s)) := rfl

theorem exec_auInject (s : State) : exec .auInject s = .next (settled (auCommand 3 s.au.hall.toNat s)) := rfl

/-- Settles O18: each outcome of the acceptance of a REQ, of an update, of a fill, of an RSP frame and of a command by its own lemma. -/
theorem homeAndCombining : Obligations.HomeAndCombining := by
  unfold Obligations.HomeAndCombining
  refine ⟨?empty, ?stale, ?postedWaits, ?posted, ?inOrderWaits, ?inOrder, ?sync, ?outOfOrder, ?atomic, ?store, ?filled, ?failed, ?stray,
    ?firstFrame, ?secondFrame, ?flushHall, ?flushAll, ?inject⟩
  case empty =>
    intro i s hnone
    rw [exec_homeReqAccept, homeAcceptOp_empty hnone]
  case stale =>
    intro i h s hfind hfits
    rw [exec_homeReqAccept, homeAcceptOp_stale hfind hfits]
  case postedWaits =>
    intro i h s hfind hfits hposted hfull
    rw [exec_homeReqAccept, homeAcceptOp_posted hfind hfits hposted, hfull, if_neg Bool.false_ne_true]
  case posted =>
    intro i h s hfind hfits hposted hroom
    rw [exec_homeReqAccept, homeAcceptOp_posted hfind hfits hposted, if_pos hroom]
  case inOrderWaits =>
    intro i h s hfind hfits harmed hposted hnumber hfull
    rw [exec_homeReqAccept, homeAcceptOp_inOrder hfind hfits harmed hposted hnumber, hfull, if_neg Bool.false_ne_true]
  case inOrder =>
    intro i h s hfind hfits harmed hposted hnumber hroom
    rw [exec_homeReqAccept, homeAcceptOp_inOrder hfind hfits harmed hposted hnumber, if_pos hroom]
  case sync =>
    intro i h s hfind hfits harmed hposted hnumber hroom
    rw [exec_homeReqAccept, homeAcceptOp_sync hfind hfits harmed hposted hnumber, if_pos hroom]
  case outOfOrder =>
    intro i h s hfind hfits harmed hposted hnumber
    rw [exec_homeReqAccept, homeAcceptOp_outOfOrder hfind hfits harmed hposted hnumber]
  case atomic =>
    intro e id u rest r s hwaiting hreq hlive hfilled hinject harmed hsound hatomic
    rw [exec_atomicUpdateApply, atomicApply_atomic hwaiting hreq hlive hfilled hinject harmed hsound hatomic]
  case store =>
    intro e id u rest r s hwaiting hreq hlive hfilled hinject harmed hsound hstore
    rw [exec_atomicUpdateApply, atomicApply_store hwaiting hreq hlive hfilled hinject harmed hsound hstore]
  case filled =>
    intro e data s hlive hfilling
    rw [exec_combiningFillDone, combFilled_good hlive hfilling]
  case failed =>
    intro e st data s hlive hfilling hwaiting hst
    rw [exec_combiningFillDone, combFilled_failed hlive hfilling hwaiting hst]
  case stray =>
    intro e st data s hfilled
    rw [exec_combiningFillDone, combFilled_stray hfilled]
  case firstFrame =>
    rintro i h s u hfind hparts rfl
    rw [exec_rspItemReceive, rspReceiveOp_first hfind hparts]
  case secondFrame =>
    rintro i b rest h s u hfind hparts rfl hlast
    rw [exec_rspItemReceive, rspReceiveOp_second hfind hparts hlast]
  case flushHall =>
    rintro hall s u hunit hidle rfl
    rw [exec_auFlushHall, auCommand_flushHall hunit hidle]
    rfl
  case flushAll =>
    rintro s u hunit hidle rfl
    rw [exec_auFlushAll, auCommand_flushAll hunit hidle]
    rfl
  case inject =>
    intro s hunit hidle
    refine ⟨auInjected s.au.hall.toNat s, ?_, rfl, rfl, fun hallowed => ?_, fun hforbidden => ?_⟩
    · rw [exec_auInject, auCommand_inject hunit hidle]
    · simp [auInjected, hallowed]
    · simp [auInjected, hforbidden]

end Sys2Proof.Machine
end

section
/-! The steady parts of the front end, the admission unit and the translation unit, and the whole of the fence unit, under every
command. -/

namespace Sys2Proof.Machine

/-- Settles O33: every command stays within a mask that its lists permit (`exec_goes`), and a permitted mask has no bit of a unit whose
list does not name the command. The fence unit's bit is that of the whole unit, the others' are those of their steady parts. -/
theorem frameOfTheHalls : Obligations.FrameOfTheHalls := by
  unfold Obligations.FrameOfTheHalls
  intro c s t h
  obtain ⟨w, hw, frame⟩ := frame_of_exec h
  exact ⟨fun hc => frame.feRest (testBit_of_maskPermitted (26, changesFrontEnd) hw hc),
    fun hc => frame.admRest (testBit_of_maskPermitted (28, changesAdmission) hw hc),
    fun hc => frame.fs (testBit_of_maskPermitted (29, changesFences) hw hc),
    fun hc => frame.ituRest (testBit_of_maskPermitted (31, changesTranslation) hw hc)⟩

end Sys2Proof.Machine
end

section
/-! The fault control unit and the window boundaries of the hang watch: what their rows do. -/

namespace Sys2Proof.Machine

-- One declaration at a time, so that the elaborator holds few threads (each takes stack of its own).
set_option Elab.async false

/-! ### Acceptance (R398 to R401, R408) -/

theorem exec_faultMessageAccept (src : Nat) (d : BitVec 16) (s : State) :
    exec (.faultMessageAccept src d) s = .next (settled (faultAccept src d.toNat s)) := rfl

theorem faultAccept_stopped {src d : Nat} {s : State} (hstop : s.stopped = true) : faultAccept src d s = ([], s) := if_pos hstop

theorem faultAccept_empty {src d : Nat} {s : State} (hempty : s.fcu.fifo.get src = []) : faultAccept src d s = ([], s) := by
  simp [faultAccept, hempty]

/-- With no injection armed the collector's checks of itself hold. -/
theorem selfChecks_unarmed {kind : Nat} {s : State} (h : s.fcu.armed = false) : selfChecks kind s = s := by
  simp [selfChecks, selfCheck, injected_unarmed h]

/-- `s` with the record `r` read from its source's FIFO, before `rest`. -/
def recordRead (src : Nat) (r : FRec) (rest : List FRec) (s : State) : State :=
  s.updFcu fun c => { c with fifo := c.fifo.set src rest, expect := c.expect.set src (r.seq + 1#8) }

/-- R401: the oldest record of a source, with the number that the collector expects, is accepted. -/
theorem faultAccept_next {src d : Nat} {r : FRec} {rest : List FRec} {s : State} (hrun : s.stopped = false)
    (harmed : s.fcu.armed = false) (hsrc : src ≠ Src.fcu) (hfifo : s.fcu.fifo.get src = r :: rest)
    (hseq : s.fcu.expect.get src = r.seq) : faultAccept src d s = acceptRecord src r d (recordRead src r rest s) := by
  have hchecks : selfChecks r.kind (recordRead src r rest s) = recordRead src r rest s := selfChecks_unarmed harmed
  have hnet : checkFails false Src.fcu Kind.fcuNet (recordRead src r rest s) = false := injected_unarmed harmed
  unfold recordRead at *
  simp [faultAccept, hrun, hfifo, hseq, hsrc, hchecks, hnet]

/-- The record of a fault in the log (R399). -/
def recordOf (src : Nat) (r : FRec) (d now : Nat) : LogRec := LogRec.mk (faultMessage src r d) r.detail (BitVec.ofNat 64 (now - d))

/-- R399: the log has room for one more record. -/
theorem logPut_room {x : LogRec} {s : State} (hroom : (s.fcu.logHead - s.fcu.logTail).toNat < 1024) :
    logPut x s = { s with fcu := { s.fcu with
      log := s.fcu.log.set (s.fcu.logHead.toNat % 1024) x, logHead := s.fcu.logHead + 1 } } := by
  simp only [logPut, decide_eq_false (Nat.not_le.mpr hroom)]
  rfl

/-- `s` with the record `x` logged and counted under its class. -/
def recordLogged (x : LogRec) (cls : Nat) (s : State) : State := ((logPut x s).fcuCount cls).fcuEvent cls

/-- Neither the classes that interrupt nor the policies change with the log. -/
theorem recordLogged_keeps {x : LogRec} {cls : Nat} {s : State} (hroom : (s.fcu.logHead - s.fcu.logTail).toNat < 1024) :
    (recordLogged x cls s).fcu.irqClass = s.fcu.irqClass
      ∧ ∀ kind, policySafe (recordLogged x cls s) kind cls = policySafe s kind cls := by
  rw [recordLogged, logPut_room hroom]
  exact ⟨rfl, fun _ => rfl⟩

/-- R400: a record below the classes of the interrupt and of the block, whose kind's policy is LOG, is logged and counted only. -/
theorem acceptRecord_logs {src d : Nat} {r : FRec} {s : State} (hirq : r.cls < s.fcu.irqClass.toNat) (hclass : r.cls < 3)
    (hpolicy : policySafe s r.kind r.cls = false) (hroom : (s.fcu.logHead - s.fcu.logTail).toNat < 1024) :
    acceptRecord src r d s = ([], recordLogged (recordOf src r d s.now) r.cls s) := by
  obtain ⟨hirqs, hpolicies⟩ := recordLogged_keeps (x := recordOf src r d s.now) (cls := r.cls) hroom
  have hquiet : ¬ (recordLogged (recordOf src r d s.now) r.cls s).fcu.irqClass.toNat ≤ r.cls := hirqs ▸ Nat.not_le.mpr hirq
  have hsafe : ¬ policySafe (recordLogged (recordOf src r d s.now) r.cls s) r.kind r.cls = true := by
    rw [hpolicies, hpolicy]
    exact Bool.false_ne_true
  unfold recordLogged recordOf at hquiet hsafe ⊢
  unfold acceptRecord
  dsimp only
  rw [if_neg hquiet, if_neg hsafe, if_neg (Nat.ne_of_lt hclass)]

/-! ### The block reset on the safe state (R404) -/

theorem exec_autoT3Request (s : State) : exec .autoT3Request s = .next (settled (autoT3Op s)) := rfl

theorem autoT3Op_due {s : State} (hsafe : s.fcu.safe = true) (hauto : s.fcu.autoT3 = true)
    (hheld : s.fcu.safeAt + s.fcu.hold.toNat * usT ≤ s.now) : autoT3Op s = t3Order noWaiter s := by
  simp [autoT3Op, hsafe, hauto, hheld]

theorem autoT3Op_waits {s : State} (h : s.fcu.safe = false ∨ s.fcu.autoT3 = false ∨ s.now < s.fcu.safeAt + s.fcu.hold.toNat * usT) :
    autoT3Op s = ([], s) := by
  refine if_neg ?_
  rcases h with h | h | h
  · simp [h]
  · simp [h]
  · simp [Nat.not_le.mpr h]

/-! ### Injection (R410) -/

theorem exec_fcuInjArm (src : BitVec 12) (kind : Byte) (s : State) :
    exec (.fcuInjArm src kind) s = .next (injArm src.toNat kind.toNat s) := rfl

theorem injArm_refused {src kind : Nat} {s : State} (h : injRefused src kind s = true) : injArm src kind s = s.fcuCount 6 := if_pos h

theorem injArm_arms {src kind : Nat} {s : State} (hfree : injRefused src kind s = false) (hlater : firesAtOnce kind = false) :
    injArm src kind s
      = { s with fcu := { s.fcu with armed := true, injKind := BitVec.ofNat 8 kind, injSource := BitVec.ofNat 12 src } } := by
  simp only [injArm, hfree, hlater]
  rfl

theorem exec_faultInject {a : Act} {arg : Bytes} {s : State} (hmay : mayAct s [.factory, .operator] a = true) (hlength : arg.length = 3)
    (hsrc : num arg 0 2 < 4096) : exec (.faultInject a arg) s = .next (actDone a.sess 0x602001
      (if injRefused (num arg 0 2) (num arg 2 1) s then Status.permission else Status.ok) [] false
      (injArm (num arg 0 2) (num arg 2 1) s)) := by
  change goOn (faultInjectAct a arg s) = _
  rw [faultInjectAct, runAct_may hmay]
  simp [hlength, Nat.not_le.mpr hsrc]

theorem exec_faultInject_refused {a : Act} (arg : Bytes) {s : State} (hmay : mayAct s [.factory, .operator] a = false) :
    exec (.faultInject a arg) s = .next (actDone a.sess 0x602001 Status.permission [] false s) :=
  congrArg Host.Outcome.next (runAct_may_not hmay)

/-! ### The boundaries of the hang windows (R418 to R420) -/

theorem exec_hangWindowBoundary (s : State) : exec .hangWindowBoundary s = .next (settled (boundaryOp s)) := rfl

theorem boundaryOp_held {s : State} (h : s.stopped = true ∨ 2 ≤ s.pins.pstate.toNat) : boundaryOp s = ([], s) := if_pos h

/-- `s` after every watched object has been judged at a boundary, with the window's progress forgotten. -/
def windowClosed (s : State) : State :=
  (forAll (watchKeys s) boundaryOf s).updHr fun h => { h with
    watch := forAll (h.watch.map (·.1)) (fun k t => t.mod k fun w => { w with moved := false }) h.watch }

/-- With no retake to end, a boundary judges every object and starts the retakes of the suspects. -/
theorem boundaryOp_runs {s : State} (hrun : s.stopped = false) (hpower : s.pins.pstate.toNat < 2)
    (hretakes : (s.hr.watch.filter fun e => e.2.retake) = []) :
    boundaryOp s = ([], setPreempt (retakesStart (suspects (windowClosed s)) 0 [] (windowClosed s))) := by
  have hends : retakesEnd s = ([], s) := by
    rw [retakesEnd, hretakes]
    rfl
  have hopen : ¬ (s.stopped = true ∨ 2 ≤ s.pins.pstate.toNat) := by
    simpa [hrun] using hpower
  rw [boundaryOp, if_neg hopen, hends]
  rfl

/-- Settles O24: each row by the lemma of its operation. -/
theorem faultControlCommands : Obligations.FaultControlCommands := by
  unfold Obligations.FaultControlCommands
  refine ⟨?empty, ?stopped, ?accepts, ?logs, ?auto, ?waits, ?arms, ?armRefused, ?injects, ?injectRefused, ?held, ?boundary⟩
  case empty =>
    intro src d s _ hempty
    rw [exec_faultMessageAccept, faultAccept_empty hempty]
  case stopped =>
    intro src d s hstop
    rw [exec_faultMessageAccept, faultAccept_stopped hstop]
  case accepts =>
    rintro src d r rest s u hrun harmed hsrc hfifo hseq rfl
    rw [exec_faultMessageAccept, faultAccept_next hrun harmed hsrc hfifo hseq]
    rfl
  case logs =>
    rintro src d r rest x s u hrun harmed hsrc hfifo hseq hirq hclass hpolicy hroom rfl rfl
    have hlogs := acceptRecord_logs (src := src) (d := d.toNat) (s := recordRead src r rest s) hirq hclass hpolicy hroom
    rw [exec_faultMessageAccept, faultAccept_next hrun harmed hsrc hfifo hseq, hlogs, recordLogged,
      logPut_room (s := recordRead src r rest s) hroom]
    rfl
  case auto =>
    intro s hsafe hauto hheld
    rw [exec_autoT3Request, autoT3Op_due hsafe hauto hheld]
  case waits =>
    intro s h
    rw [exec_autoT3Request, autoT3Op_waits h]
  case arms =>
    intro src kind s hfree hlater
    rw [exec_fcuInjArm, injArm_arms hfree hlater]
    exact ⟨_, rfl, rfl, by simp, by simp, rfl, rfl⟩
  case armRefused =>
    intro src kind s hrefused
    rw [exec_fcuInjArm, injArm_refused hrefused]
  case injects =>
    intro a arg s hmay hlength hsrc
    exact exec_faultInject hmay hlength hsrc
  case injectRefused =>
    intro a arg s hmay
    exact exec_faultInject_refused arg hmay
  case held =>
    intro s h
    rw [exec_hangWindowBoundary, boundaryOp_held h]
  case boundary =>
    intro s hrun hpower hretakes
    rw [exec_hangWindowBoundary, boundaryOp_runs hrun hpower hretakes]
    exact ⟨windowClosed s, rfl, rfl⟩

end Sys2Proof.Machine
end

section
/-! The block reset of a block with an armed cut. -/

namespace Sys2Proof.Machine

-- One declaration at a time, so that the elaborator holds few threads (each takes stack of its own).
set_option Elab.async false

/-- A cut is armed while a host read waits at the host pipes. -/
def armedCut : State :=
  { State.reset with
    hostReads := [default]
    dbg := { State.reset.dbg with cutState := 1 } }

/-- T3's Landing as the clause on the block reset has it begin: the cut is not disarmed. -/
def cutLanding : List Ans × State :=
  eachAns (allUnits armedCut.conf) (landEnter 3) (treadAdd 3 0 false
    { keeper := armedCut.hr.treads.any (·.byKeeper), boxes := (armedCut.hr.treads.map (·.answer)).flatten }
    ((armedCut.hrCount 6).updHr fun h => { h with treads := [] }))

theorem cutLanding_meets : treadOf armedCut 3 0 = none ∧ anyBusy cutLanding.2 = true := by
  decide +kernel

theorem cutLanding_settles : (settled (cutLanding.1, cutLanding.2)).dbg.cutState = 1 := by
  decide +kernel

/-- R461: the T3 that is ordered disarms the cut. -/
theorem t3Order_disarms_armedCut : (settled (t3Order noWaiter armedCut)).dbg.cutState = 0 := by
  decide +kernel

theorem exec_blockT3Reset (s : State) : exec .blockT3Reset s = .next (settled (t3Order noWaiter s)) := rfl

/-- Refutes O25: its tenth clause has the units land from the state of the order with the cut as it stands, where a T3 that is ordered
disarms an armed cut (R461). -/
theorem not_resetCommands : ¬ Obligations.ResetCommands := by
  unfold Obligations.ResetCommands
  rintro ⟨-, -, -, -, -, -, -, -, -, lands, -⟩
  obtain ⟨hnone, hbusy⟩ := cutLanding_meets
  have hexec := lands cutLanding.1 armedCut cutLanding.2 hnone (Prod.mk.eta (p := cutLanding)).symm hbusy
  have hsame : settled (t3Order noWaiter armedCut) = settled (cutLanding.1, cutLanding.2) :=
    Host.Outcome.next.inj ((exec_blockT3Reset armedCut).symm.trans hexec)
  have hcut := congrArg (fun s : State => s.dbg.cutState) hsame
  rw [t3Order_disarms_armedCut, cutLanding_settles] at hcut
  exact absurd hcut (by decide)

end Sys2Proof.Machine
end

section
/-! The actions of the Call Sheet that report state, those of the regions, and the factory certificate: what they do. -/

namespace Sys2Proof.Machine

-- One declaration at a time, so that the elaborator holds few threads (each takes stack of its own).
set_option Elab.async false

/-! ### Actions that report (R504) -/

section Queries

variable {a : Act} {arg : Bytes} {s : State}

theorem exec_keyQuery (hmay : mayAct s [.operator, .domainManager, .tenant] a = true) (hrole : a.role ≠ .tenant) (hlength : arg.length = 4) :
    exec (.keyQuery a arg) s = .next (actDone a.sess 0x301001 Status.ok
      (natLe (kvQueryOf s.kv (BitVec.ofNat 32 (num arg 0 4))).1 4 ++ natLe (kvQueryOf s.kv (BitVec.ofNat 32 (num arg 0 4))).2 8)
      false s) := by
  change goOn (keyQueryAct a arg s) = _
  rw [keyQueryAct, runAct_may hmay]
  simp [hlength, hrole]

theorem exec_logRead (hmay : mayAct s [.factory, .operator, .domainManager] a = true) (hlength : arg.length = 5) (hlow : 1 ≤ num arg 4 1)
    (hhigh : num arg 4 1 ≤ 40) : exec (.logRead a arg) s = .next (actDone a.sess 0x601001 Status.ok
      ((List.range (num arg 4 1)).map fun i => logRecord s (num arg 0 4 + i)).flatten false s) := by
  have hform : ¬ (arg.length ≠ 5 ∨ num arg 4 1 = 0 ∨ 40 < num arg 4 1) := by omega
  change goOn (logReadAct a arg s) = _
  rw [logReadAct, runAct_may hmay, if_neg hform]

theorem exec_counterRead (hmay : mayAct s [.factory, .operator, .domainManager] a = true) (hlength : arg.length = 5)
    (hlow : 1 ≤ num arg 4 1) (hhigh : num arg 4 1 ≤ 64) (hright : s.rightCounters = true)
    (hthere : ((List.range (num arg 4 1)).map fun i => num arg 0 4 + 8 * i).all (counterThere s) = true) :
    exec (.counterRead a arg) s = .next (actDone a.sess 0x801001 Status.ok
      (((List.range (num arg 4 1)).map fun i => num arg 0 4 + 8 * i).map fun o => natLe ((keeperRead64 s o).getD 0) 8).flatten
      false s) := by
  have hform : ¬ (arg.length ≠ 5 ∨ num arg 4 1 = 0 ∨ 64 < num arg 4 1 ∨ (!(s.rightCounters || (a.role == .factory && s.lcState == testOpen)))
      = true ∨ (!((List.range (num arg 4 1)).map fun i => num arg 0 4 + 8 * i).all (counterThere s)) = true) := by
    simp only [hright, hthere, Bool.true_or, Bool.not_true, Bool.false_eq_true, or_false]
    omega
  change goOn (counterReadAct a arg s) = _
  rw [counterReadAct, runAct_may hmay, if_neg hform]

theorem exec_hallCounters (hmay : mayAct s [.operator, .domainManager, .tenant] a = true) (hlength : arg.length = 2)
    (hhall : num arg 0 2 < s.conf.halls) (hname : mayName s a (num arg 0 2) = true) :
    exec (.hallCounters a arg) s = .next (actDone a.sess 0x802001 Status.ok (hallCounterBytes s (num arg 0 2)) false s) := by
  change goOn (hallCountersAct a arg s) = _
  rw [hallCountersAct, runAct_may hmay]
  simp [hlength, Nat.not_le.mpr hhall, hname]

theorem exec_streamQuery {q : Ls} (hmay : mayAct s [.operator, .domainManager] a = true) (hlength : arg.length = 3)
    (hindex : num arg 0 2 < 512) (hside : num arg 2 1 ≤ 1) (hq : q = (lsQueryOp (num arg 0 2) (num arg 2 1 == 1) s).ls) :
    exec (.streamQuery a arg) s = .next (actDone a.sess 0xA01002 Status.ok
      (natLe q.qinfo.toNat 4 ++ natLe q.qseq.toNat 8 ++ natLe q.qfloor.toNat 8) false s) := by
  subst hq
  have hform : ¬ (arg.length ≠ 3 ∨ 512 ≤ num arg 0 2 ∨ 1 < num arg 2 1) := by omega
  change goOn (streamQueryAct a arg s) = _
  rw [streamQueryAct, runAct_may hmay, if_neg hform]

theorem exec_regionQuery (hmay : mayAct s [.operator, .domainManager, .tenant] a = true) (hrole : a.role ≠ .tenant)
    (hlength : arg.length = 2) (hregion : num arg 0 2 < 1280) :
    exec (.regionQuery a arg) s = .next (actDone a.sess 0xB01001 Status.ok
      (natLe (lnInfo s (num arg 0 2)) 4 ++ natLe (regionOf s (num arg 0 2)).cursor 8
        ++ natLe (if isVault (num arg 0 2) then trInfo s (num arg 0 2) else 0) 4) false s) := by
  change goOn (regionQueryAct a arg s) = _
  rw [regionQueryAct, runAct_may hmay]
  simp [hlength, Nat.not_le.mpr hregion, hrole]

theorem exec_factoryCertWrite (hmay : mayAct s [.factory] a = true) (hstate : s.lcState = testOpen) (hlow : 4 < arg.length)
    (hhigh : arg.length ≤ 1028) (hslot : num arg 0 4 + (arg.length - 4) ≤ slotBase) :
    exec (.factoryCertWrite a arg) s
      = .next (actDone a.sess 0xF01001 Status.ok [] false (flashWrite (num arg 0 4) (arg.drop 4) s)) := by
  change goOn (factoryCertAct a arg s) = _
  rw [factoryCertAct, runAct_may hmay, if_pos ⟨hstate, hlow, hhigh, hslot⟩]
  rfl

theorem exec_factoryCertWrite_later (hmay : mayAct s [.factory] a = true) (hstate : s.lcState ≠ testOpen) :
    exec (.factoryCertWrite a arg) s = .next (actDone a.sess 0xF01001 Status.permission [] false s) := by
  change goOn (factoryCertAct a arg s) = _
  rw [factoryCertAct, runAct_may hmay, if_neg fun h => hstate h.1]

end Queries

/-! ### Region actions (R504, R505) -/

/-- A mailbox's record stands in the sessions: the rest of the block is as before. -/
@[simp] theorem actWaits_ln (n obj : Nat) (s : State) : (actWaits n obj s).ln = s.ln :=
  (actWaits_frame (w₀ := 2199023255552) Frame.refl rfl).ln (by decide)

@[simp] theorem actWaits_tr (n obj : Nat) (s : State) : (actWaits n obj s).tr = s.tr :=
  (actWaits_frame (w₀ := 2199023255552) Frame.refl rfl).tr (by decide)

section RegionActions

variable {a : Act} {obj r : Nat} {formed : Bool} {s : State} {work : State → State}

theorem regionMay_works (hmay : mayAct s [.domainManager] a = true) (hformed : formed = true) (hregion : r < 1280)
    (hgo : s.ln.go = false) : regionMay a obj r formed s work = work s := by
  simp [regionMay, hmay, hformed, hregion, hgo]

theorem regionMay_busy (hmay : mayAct s [.domainManager] a = true) (hformed : formed = true) (hregion : r < 1280)
    (hgo : s.ln.go = true) : regionMay a obj r formed s work = actDone a.sess obj Status.retryLater [] false s := by
  simp [regionMay, hmay, hformed, hregion, hgo]

end RegionActions

/-- `s` with the action of a session waiting for the region command, and the keys `old` to be retired at its end. -/
def regionWaits (a : Act) (obj : Nat) (old : List Handle) (s : State) : State :=
  (actWaits a.sess obj s).updLn fun l => { l with answer := [(a.sess, obj)], retire := old }

/-- A region action without keys of its own is the region command, its action waiting. -/
theorem regionRun_keyless (a : Act) (obj op r : Nat) (sealed : Bool) (old : List Handle) (s : State) :
    regionRun a obj op r sealed none [] old s = lnCommand op r sealed (regionWaits a obj old s) := ite_self _

/-- `s` with a region command taken into LN_CMD's fields. -/
def lnTaken (r : Nat) (sealed : Bool) (s : State) : State :=
  s.updLn fun l => { l with sealed := sealed, index := BitVec.ofNat 11 r }

section Commands

variable {r : Nat} {sealed : Bool} {s : State} (hgo : s.ln.go = false) (hregion : r < 1280)
include hgo hregion

theorem lnCommand_free : lnCommand 2 r sealed s = regionFreeOp r (lnTaken r sealed s) := by
  simp [lnCommand, lnTaken, hgo, hregion]

theorem lnCommand_seal : lnCommand 3 r sealed s = regionSealOp r (lnTaken r sealed s) := by
  simp [lnCommand, lnTaken, hgo, hregion]

end Commands

/-- R199: a reel region in WRITING begins to be sealed. -/
theorem regionSealOp_begins {r : Nat} {s : State} (h : (regionOf s r).state = .writing) :
    regionSealOp r s = (updRegion r (fun x => { x with sealing := true }) s).updLn fun l => { l with go := true, op := 3#4, target := r } :=
  if_pos h

/-- R204: a region begins to be freed, and waits while a request of it is not done. -/
theorem regionFreeOp_waits {r : Nat} {s : State} (hused : (regionOf s r).state ≠ .free) (hidle : (treeOf s r).busy = false)
    (hbusy : regionQuiet s r = false) : regionFreeOp r s
      = (updRegion r (fun x => { x with freeing := true }) s).updLn fun l => { l with go := true, op := 2#4, target := r } := by
  have hstep : ¬ ((regionOf s r).state = .free ∨ (treeOf s r).busy = true) := by simp [hused, hidle]
  rw [regionFreeOp, if_neg hstep]
  refine if_neg ?_
  change ¬ ((_ && regionQuiet s r && _) = true)
  simp [hbusy]

theorem regionOf_updRegion {r : Nat} {f : Region → Region} {s : State} (h : f (regionOf s r) ≠ default) :
    regionOf (updRegion r f s) r = f (regionOf s r) := Tab.get_mod_of_ne h

/-- A region that a command works on is listed. -/
theorem region_ne_default {x : Region} (h : x.sealing = true ∨ x.freeing = true) : x ≠ default := by
  rintro rfl
  exact absurd h (by decide)

section Keys

variable {a : Act} {arg : Bytes} {got : List Handle} {s u : State} (hmay : mayAct s [.domainManager] a = true) (hgo : s.ln.go = false)
include hmay hgo

/-- R505: with its keys derived, the region of the descriptor is installed. -/
theorem exec_regionInstall {d : Bytes} (hlength : arg.length = 68) (hd : d = arg.drop 4) (hflag : num arg 2 1 ≤ 1)
    (hpad : num arg 3 1 = 0) (hkeys : num d 24 8 = 0) (hhall : dHall d < 4096) (hregion : num arg 0 2 < 1280)
    (hop : regionKeys d (regionPurposes (isVault (num arg 0 2))) [] s = (Status.ok, got, u)) :
    exec (.regionInstall a arg) s
      = .next (regionRun a 0xB01002 1 (num arg 0 2) (num arg 2 1 == 1) (some (withKeys d got)) got [] u) := by
  subst hd
  change goOn (regionInstallAct a arg s) = _
  simp only [regionInstallAct]
  rw [regionMay_works hmay (by simp [hlength, hflag, hpad, hkeys, hhall]) hregion hgo, hop]
  rfl

/-- R202, R227: a vault region is erased under its next version, with new keys; the old ones go at the end. -/
theorem exec_regionErase {d o : Bytes} (hlength : arg.length = 2) (hvault : isVault (num arg 0 2) = true)
    (hused : (regionOf s (num arg 0 2)).state ≠ .free) (ho : o = (regionOf s (num arg 0 2)).desc)
    (hd : d = o.take 12 ++ natLe (dVersion o + 1) 4 ++ o.drop 16)
    (hop : regionKeys d (regionPurposes true) [] s = (Status.ok, got, u)) :
    exec (.regionErase a arg) s = .next (regionRun a 0xB01004 4 (num arg 0 2) false (some (withKeys d got)) got
      (heldKeys u (num arg 0 2)) u) := by
  subst hd ho
  have hregion : num arg 0 2 < 1280 := Nat.lt_trans (of_decide_eq_true hvault) (by decide)
  change goOn (regionEraseAct a arg s) = _
  simp only [regionEraseAct]
  rw [regionMay_works hmay (by simp [hlength, hvault, hused]) hregion hgo, hop]
  rfl

end Keys

/-- Settles O30: each action by its own lemma. -/
theorem queryActions : Obligations.QueryActions := by
  unfold Obligations.QueryActions
  refine ⟨?key, ?log, ?counters, ?hall, ?stream, ?region, ?refused, ?busy, ?seals, ?frees, ?install, ?erase, ?factory, ?later⟩
  case key => exact fun a arg s hmay hrole hlength => exec_keyQuery hmay hrole hlength
  case log => exact fun a arg s hmay hlength hlow hhigh => exec_logRead hmay hlength hlow hhigh
  case counters =>
    exact fun a arg s hmay hlength hlow hhigh hright hthere => exec_counterRead hmay hlength hlow hhigh hright hthere
  case hall => exact fun a arg s hmay hlength hhall hname => exec_hallCounters hmay hlength hhall hname
  case stream => exact fun a arg q s hmay hlength hindex hside hq => exec_streamQuery hmay hlength hindex hside hq
  case region => exact fun a arg s hmay hrole hlength hregion => exec_regionQuery hmay hrole hlength hregion
  case refused =>
    intro a arg s hmay
    exact ⟨congrArg _ (runAct_may_not hmay), congrArg _ (runAct_may_not hmay), congrArg _ (runAct_may_not hmay)⟩
  case busy =>
    intro a arg s hmay hlength hregion hgo
    have hformed : (arg.length == 2) = true := beq_iff_eq.mpr hlength
    exact ⟨congrArg _ (regionMay_busy hmay hformed hregion hgo), congrArg _ (regionMay_busy hmay hformed hregion hgo)⟩
  case seals =>
    intro a arg s hmay hlength hregion hgo hwriting
    have hgo' : (regionWaits a 0xB01003 [] s).ln.go = false := by simpa [regionWaits] using hgo
    have hstays : regionOf (lnTaken (num arg 0 2) false (regionWaits a 0xB01003 [] s)) (num arg 0 2) = regionOf s (num arg 0 2) := by
      simp [regionOf, lnTaken, regionWaits]
    have hop := regionSealOp_begins (hstays.symm ▸ hwriting)
    refine ⟨_, (congrArg _ (regionMay_works hmay (beq_iff_eq.mpr hlength) hregion hgo)).trans (congrArg _
      ((regionRun_keyless _ _ _ _ _ _ _).trans ((lnCommand_seal hgo' hregion).trans hop))), rfl, rfl, rfl, ?_, ?_⟩
    · rfl
    · exact congrArg Region.sealing (regionOf_updRegion (f := fun x => { x with sealing := true }) (region_ne_default (.inl rfl)))
  case frees =>
    intro a arg s hmay hlength hregion hgo hused hidle hbusy
    have hgo' : (regionWaits a 0xB01005 (heldKeys s (num arg 0 2)) s).ln.go = false := by simpa [regionWaits] using hgo
    have hregions : regionOf (lnTaken (num arg 0 2) false (regionWaits a 0xB01005 (heldKeys s (num arg 0 2)) s)) (num arg 0 2)
        = regionOf s (num arg 0 2) := by
      simp [regionOf, lnTaken, regionWaits]
    have htree : treeOf (lnTaken (num arg 0 2) false (regionWaits a 0xB01005 (heldKeys s (num arg 0 2)) s)) (num arg 0 2)
        = treeOf s (num arg 0 2) := by
      simp [treeOf, lnTaken, regionWaits]
    have hquiet : regionQuiet (lnTaken (num arg 0 2) false (regionWaits a 0xB01005 (heldKeys s (num arg 0 2)) s)) (num arg 0 2)
        = regionQuiet s (num arg 0 2) := by
      simp [regionQuiet, acceptedLines, lnTaken, regionWaits]
    have hop := regionFreeOp_waits (hregions.symm ▸ hused) (htree.symm ▸ hidle) (hquiet.trans hbusy)
    refine ⟨_, (congrArg _ (regionMay_works hmay (beq_iff_eq.mpr hlength) hregion hgo)).trans (congrArg _
      ((regionRun_keyless _ _ _ _ _ _ _).trans ((lnCommand_free hgo' hregion).trans hop))), rfl, rfl, rfl, rfl, ?_⟩
    exact congrArg Region.freeing (regionOf_updRegion (f := fun x => { x with freeing := true }) (region_ne_default (.inr rfl)))
  case install =>
    rintro a arg d r got s u hmay hlength hd rfl hflag hpad hkeys hhall hregion hgo hop
    exact exec_regionInstall hmay hgo hlength hd hflag hpad hkeys hhall hregion hop
  case erase =>
    rintro a arg d o r got s u hmay hlength rfl hvault hused hgo ho hd hop
    exact exec_regionErase hmay hgo hlength hvault hused ho hd hop
  case factory => exact fun a arg s hmay hstate hlow hhigh hslot => exec_factoryCertWrite hmay hstate hlow hhigh hslot
  case later => exact fun a arg s hmay hstate => exec_factoryCertWrite_later hmay hstate

end Sys2Proof.Machine
end

section
/-! CUT, Dailies and Rushes: what their rows do. -/

namespace Sys2Proof.Machine

-- One declaration at a time, so that the elaborator holds few threads (each takes stack of its own).
set_option Elab.async false

/-! ### Arming (R440, R446, R458) -/

/-- A cut that nothing refuses is armed; its orders go out only where DOMAIN = 1. -/
theorem cutArmOp_arms {c : CutArg} {s : State} (h : cutRefusal c false s = none) (hlocal : c.flags.testBit 1 = false) :
    cutArmOp c s = (Status.ok, cutSet c s) := by
  simp [cutArmOp, h, hlocal]

theorem cutArmOp_refused {c : CutArg} {st : Status} {s : State} (h : cutRefusal c false s = some st) : cutArmOp c s = (st, s) := by
  simp [cutArmOp, h]

theorem cutDisarmOp_disarms {s : State} (harmed : s.dbg.cutState = 1) (hfar : s.pwr.master + usT ≤ s.dbg.armStop.toNat) :
    cutDisarmOp s = (Status.ok, { s with dbg := { s.dbg with cutState := 0, halted := [] } }) := by
  have hmay : ¬ (s.dbg.cutState ≠ 1#2 ∨ s.dbg.armStop.toNat < s.pwr.master + usT) := by
    rw [harmed]
    simpa using hfar
  rw [cutDisarmOp, if_neg hmay]
  rfl

theorem cutDisarmOp_near {s : State} (hnear : s.dbg.armStop.toNat < s.pwr.master + usT) : cutDisarmOp s = (Status.permission, s) :=
  if_pos (.inr hnear)

section Actions

variable {a : Act} {arg : Bytes} {st : Status} {s u : State} (hmay : mayAct s (cutRoles s) a = true)
include hmay

theorem exec_cutArm (hop : cutArmOp (cutArg arg) s = (st, u)) :
    exec (.cutArm a arg) s = .next (actDone a.sess 0x803001 st [] false u) := by
  change goOn (cutArmAct a arg s) = _
  rw [cutArmAct, runAct_may hmay, hop]

theorem exec_cutDisarm (hop : cutDisarmOp s = (st, u)) : exec (.cutDisarm a) s = .next (actDone a.sess 0x803002 st [] false u) := by
  change goOn (cutDisarmAct a s) = _
  rw [cutDisarmAct, runAct_may hmay, hop]

end Actions

/-- `s` with the fields of DBG_CMD written. -/
def dbgWritten (op : Nat) (flags : Byte) (serial : BitVec 12) (s : State) : State :=
  { s with dbg := { s.dbg with flags := flags, serialOp := BitVec.ofNat 16 (serial.toNat * 16 + op) } }

theorem dbgFinish_rings (r : Status × State) : (dbgFinish r).dbg.rings = r.2.dbg.rings := rfl

theorem exec_dbgArm (flags : Byte) (serial : BitVec 12) (s : State) : exec (.dbgArm flags serial) s
    = .next (dbgFinish (cutArmOp (CutArg.mk s.dbg.cutT.toNat s.dbg.resumeT.toNat serial.toNat flags.toNat true)
      (dbgWritten 1 flags serial s))) := rfl

theorem exec_dbgDisarm (s : State) :
    exec .dbgDisarm s = .next (dbgFinish (cutDisarmOp (dbgWritten 2 s.dbg.flags (dbgSerial s) s))) := rfl

theorem exec_dbgRushesDump_may {s : State} (hright : s.traceAllowed = true) : exec .dbgRushesDump s
    = .next (dbgFinish (Status.ok, rushesDump (dbgWritten 3 s.dbg.flags (dbgSerial s) s))) := by
  have hstill : (dbgWritten 3 s.dbg.flags (dbgSerial s) s).traceAllowed = true := hright
  exact congrArg (fun r => Host.Outcome.next (dbgFinish r)) (if_pos hstill)

theorem exec_dbgRushesDump_may_not {s : State} (hright : s.traceAllowed = false) : exec .dbgRushesDump s
    = .next (dbgFinish (Status.permission, dbgWritten 3 s.dbg.flags (dbgSerial s) s)) := by
  have hstill : ¬ (dbgWritten 3 s.dbg.flags (dbgSerial s) s).traceAllowed = true := Bool.not_eq_true _ ▸ hright
  exact congrArg (fun r => Host.Outcome.next (dbgFinish r)) (if_neg hstill)

theorem exec_dbgRingRead (s : State) :
    exec .dbgRingRead s = .next (dbgFinish (ringReadOp (dbgWritten 4 s.dbg.flags (dbgSerial s) s))) := rfl

theorem ringReadOp_reads {s : State} (hunit : (ringUnits s.conf).contains (bits s.dbg.ringSel.toNat 16 12) = true) :
    ringReadOp s = (Status.ok, { s with dbg := { s.dbg with
      rdata := (ringRecords (s.dbg.rings.get (bits s.dbg.ringSel.toNat 16 12))).getD (bits s.dbg.ringSel.toNat 0 8) 0 } }) := by
  simp only [ringReadOp, hunit]
  rfl

/-- A dump leaves on so; the rings stay. -/
theorem rushesDump_dbg (s : State) : (rushesDump s).dbg = s.dbg :=
  (rushesDump_frame (w₀ := 35184372088832) Frame.refl rfl).dbg (by decide)

/-- R482: what voids an entry to a power state leaves the debug unit. -/
theorem cutSet_dbg (c : CutArg) (s : State) : (cutSet c s).dbg = { s.dbg with
    cutState := 1#2, late := decide (c.stop < (entryVoid s).pwr.master)
    armStop := BitVec.ofNat 64 c.stop, armResume := BitVec.ofNat 64 c.resume
    armSerial := BitVec.ofNat 16 c.serial, armFlags := BitVec.ofNat 8 c.flags } := by
  have hvoid : (entryVoid s).dbg = s.dbg := (entryVoid_frame (w₀ := 824633720832) Frame.refl rfl).dbg (by decide)
  have hmaster : (entryVoid s).pwr.master = s.pwr.master := by
    unfold entryVoid
    split <;> rfl
  rw [← hvoid, hmaster]
  rfl

/-! ### Stop and resume (R441 to R445) -/

theorem exec_cutStop (s : State) : exec .cutStop s = .next (cutStopOp s) := rfl

theorem cutStopOp_waits {s : State} (h : s.dbg.cutState ≠ 1 ∨ cutDomains.all (fun d => s.atStop d) = false) : cutStopOp s = s := by
  refine if_pos ?_
  simpa using h

/-- R441: with every domain at its stop edge the cut holds the block, from the state of the debug unit that the records start from. -/
theorem cutStopOp_stops {s : State} (harmed : s.dbg.cutState = 1) (hedges : cutDomains.all (fun d => s.atStop d) = true) :
    (cutStopOp s).dbg.cutState = 2 ∧ (cutStopOp s).dbg.records = 0 ∧ (cutStopOp s).dbg.lateList = []
      ∧ (cutStopOp s).dbg.halted = cutDomains.map ClockDomain.code
      ∧ (cutStopOp s).dbg.dailiesDone = !s.dbg.armFlags.toNat.testBit 0 := by
  have hgoes : ¬ (s.dbg.cutState ≠ 1#2 ∨ (!cutDomains.all fun d => s.atStop d) = true) := by
    rw [harmed, hedges]
    decide
  simp only [cutStopOp, if_neg hgoes]
  split <;> exact ⟨rfl, rfl, rfl, rfl, rfl⟩

theorem exec_cutResume (s : State) : exec .cutResume s = .next (cutResumeOp s) := rfl

theorem cutResumeOp_waits {s : State} (h : s.dbg.cutState ≠ 2 ∨ resumeInstant s = none) : cutResumeOp s = s := by
  rcases h with hstate | hinstant
  · exact if_pos hstate
  · simp [cutResumeOp, hinstant]

/-- The debug unit as the resume at `inst` leaves it, but for the rings. -/
def dbgResumed (inst : Nat) (d : Dbg) : Dbg := { d with
  cutState := 0#2, dailiesCut := !d.dailiesDone, dailiesDone := true, moved := inst != d.armResume.toNat
  resumeT := BitVec.ofNat 64 inst, lateList := [], halted := [], events := raised d.events 1 }

/-- R445: what follows the resume in the same command changes no more of the debug unit than its rings. -/
theorem cutResumeOp_resumes {inst : Nat} {s : State} (hstopped : s.dbg.cutState = 2) (hinstant : resumeInstant s = some inst) :
    (cutResumeOp s).dbg.rest = (dbgResumed inst s.dbg).rest := by
  have hgoes : ¬ s.dbg.cutState ≠ 2#2 := not_not.mpr hstopped
  simp only [cutResumeOp, if_neg hgoes, hinstant]
  refine ((afterStop_frame (w₀ := 897648164870) (Frame.forAll (fun unit v => ?_) _ Frame.refl) rfl).dbgRest (by decide)).trans ?_
  · exact rushesAt_frame (rushesAt_frame Frame.refl rfl) rfl
  · rw [State.dbgEvent, State.updDbg_dbg, (shiftStamps_frame (w₀ := 12920029184) Frame.refl rfl).dbg (by decide)]
    rfl

/-! ### Records on so, and late arrivals (R447 to R450) -/

theorem exec_dailiesRecord (kind : Byte) (unit scanMap : Nat) (body : List ScanWord) (s : State) :
    exec (.dailiesRecord kind unit scanMap body) s = .next (dailiesOp kind.toNat unit scanMap body s) := rfl

theorem dailiesOp_running {kind unit scanMap : Nat} {body : List ScanWord} {s : State} (h : s.dbg.cutState ≠ 2) :
    dailiesOp kind unit scanMap body s = s := if_pos (.inl h)

/-- The records of a cut that is not done begin with the header, and the header is none of the later ones. -/
theorem dailies_due {kind : Nat} {s : State} (hstopped : s.dbg.cutState = 2) (hdailies : s.dbg.armFlags.toNat.testBit 0 = true)
    (hopen : s.dbg.dailiesDone = false) (hknown : kind = 1 ∨ kind = 15) (horder : kind = 1 ↔ s.dbg.records = 0) :
    ¬ (s.dbg.cutState ≠ 2#2 ∨ (!s.dbg.armFlags.toNat.testBit 0) = true ∨ s.dbg.dailiesDone = true
      ∨ (!((decide (1 ≤ kind) && decide (kind ≤ 5)) || kind == 15)) = true ∨ ((kind = 1) ≠ (s.dbg.records = 0))) := by
  rcases hknown with rfl | rfl <;> simp [hstopped, hdailies, hopen, ← horder]

/-- R449: the cut header is the first record. -/
theorem dailiesOp_header {unit scanMap : Nat} {body : List ScanWord} {s : State} (hstopped : s.dbg.cutState = 2)
    (hdailies : s.dbg.armFlags.toNat.testBit 0 = true) (hopen : s.dbg.dailiesDone = false) (hfirst : s.dbg.records = 0) :
    dailiesOp 1 unit scanMap body s
      = ((s.emit (.so (soRecord s 1 false 0xFFF s.dbg.armSerial.toNat s.dbg.records 0 (cutHeader s)))).updDbg
          fun d => { d with records := d.records + 1 }).dbgCount 2 1 := by
  rw [dailiesOp, if_neg (dailies_due hstopped hdailies hopen (.inl rfl) (by simp [hfirst]))]
  rfl

/-- R449: the end record closes the records of a cut. -/
theorem dailiesOp_end {unit scanMap : Nat} {body : List ScanWord} {s : State} (hstopped : s.dbg.cutState = 2)
    (hdailies : s.dbg.armFlags.toNat.testBit 0 = true) (hopen : s.dbg.dailiesDone = false) (hlater : s.dbg.records ≠ 0) :
    (dailiesOp 15 unit scanMap body s).dbg.dailiesDone = true ∧ (dailiesOp 15 unit scanMap body s).dbg.dailiesEnd = s.pwr.master
      ∧ (dailiesOp 15 unit scanMap body s).dbg.records = s.dbg.records + 1 := by
  rw [dailiesOp, if_neg (dailies_due hstopped hdailies hopen (.inr rfl) (by simp [hlater]))]
  exact ⟨rfl, rfl, rfl⟩

theorem exec_lateArrival (channel item : Nat) (s : State) :
    exec (.lateArrival channel item) s = .next (lateArrivalOp channel item s) := rfl

theorem lateArrivalOp_notes {channel item : Nat} {s : State} (hstopped : s.dbg.cutState = 2) (hchannel : channel < 17) :
    lateArrivalOp channel item s
      = (s.updDbg fun d => { d with lateList := d.lateList ++ [(channel, item)] }).dbgCount 7 1 := by
  refine if_neg ?_
  simp [hstopped, Nat.not_le.mpr hchannel]

/-! ### Cut orders of the domain (R446) -/

theorem exec_cutOrderReceive (ctx : Nat) (m : Bytes) (s : State) : exec (.cutOrderReceive ctx m) s = .next (cutReceive ctx m s) := rfl

/-- An order is new by the distance of its serial from the last one's. -/
theorem cutReceive_known {ctx : Nat} {m : Bytes} {s : State} (h : num m 32 2 = s.dbg.lastOrder.toNat) :
    cutReceive ctx m s = s.dbgCount 5 1 := by
  have hdistance : (num m 32 2 + 2 ^ 16 - s.dbg.lastOrder.toNat) % 2 ^ 16 = 0 := by
    rw [h]
    omega
  refine if_pos ?_
  rw [hdistance]
  simp

theorem cutReceive_applies {ctx : Nat} {m : Bytes} {s : State} (hlength : m.length = 64) (hcode : num m 0 2 = 2)
    (hzero : allZero (m.drop 35) = true) (hflags : num m 34 1 < 16) (hforward : (num m 34 1).testBit 1 = false)
    (hfree : s.dbg.cutState = 0) (hserial : num m 32 2 = (s.dbg.lastOrder.toNat + 1) % 2 ^ 16)
    (hmay : cutRefusal (CutArg.mk (num m 16 8) (num m 24 8) (num m 32 2) (num m 34 1) true) true
      (s.updDbg fun x => { x with lastOrder := BitVec.ofNat 16 (num m 32 2) }) = none) :
    cutReceive ctx m s = serviceSend (some (rxMember (cutSet (CutArg.mk (num m 16 8) (num m 24 8) (num m 32 2) (num m 34 1) true)
        (s.updDbg fun x => { x with lastOrder := BitVec.ofNat 16 (num m 32 2) })) ctx)) m
      ((cutSet (CutArg.mk (num m 16 8) (num m 24 8) (num m 32 2) (num m 34 1) true)
        (s.updDbg fun x => { x with lastOrder := BitVec.ofNat 16 (num m 32 2) })).dbgCount 4 1) := by
  have hdistance : (num m 32 2 + 2 ^ 16 - s.dbg.lastOrder.toNat) % 2 ^ 16 = 1 := by
    have := s.dbg.lastOrder.isLt
    omega
  have hdrop : ¬ ((!(m.length == 64 && num m 0 2 == 2 && allZero (m.drop 35) && decide (num m 34 1 < 16) && !(num m 34 1).testBit 1))
      || decide ((num m 32 2 + 2 ^ 16 - s.dbg.lastOrder.toNat) % 2 ^ 16 = 0)
      || decide (2 ^ 15 ≤ (num m 32 2 + 2 ^ 16 - s.dbg.lastOrder.toNat) % 2 ^ 16)
      || (s.dbg.cutState != 0#2 && s.dbg.armSerial.toNat == num m 32 2)) = true := by
    rw [hdistance]
    simp [hlength, hcode, hzero, hflags, hforward, hfree]
  unfold cutReceive
  dsimp only
  rw [if_neg hdrop, hmay]

/-! ### Rings and matches (R451 to R456) -/

theorem exec_rushesTick (unit : Nat) (s : State) : exec (.rushesTick unit) s = .next (rushesTickOp unit s) := rfl

theorem rushesTickOp_ticks {unit : Nat} {s : State} (h : (ringUnits s.conf).contains unit = true) :
    rushesTickOp unit s = rushesBlock unit Ev.tick (bits (s.tb (clockOf unit)) 40 16) s := if_pos h

theorem exec_rushesRead {a : Act} {arg : Bytes} {s : State} (hmay : mayAct s [.operator, .domainManager, .tenant] a = true)
    (hlength : arg.length = 3) (hquarter : num arg 2 1 < 4) (hunit : (ringUnits s.conf).contains (num arg 0 2) = true) :
    exec (.rushesRead a arg) s = .next (actDone a.sess 0x803004 Status.ok
      ((((ringRecords (s.dbg.rings.get (num arg 0 2))).drop (64 * num arg 2 1)).take 64).map
        (fun x => natLe (if mayRead s a x then x.toNat else 0) 16)).flatten false s) := by
  have hform : ¬ (arg.length ≠ 3 ∨ 4 ≤ num arg 2 1 ∨ (!(ringUnits s.conf).contains (num arg 0 2)) = true) := by
    simp only [hlength, hunit]
    simpa using hquarter
  change goOn (rushesReadAct a arg s) = _
  rw [rushesReadAct, runAct_may hmay, if_neg hform]

theorem exec_pmatchWrite (hall slot : Nat) (v : DWord) (s : State) :
    exec (.pmatchWrite hall slot v) s = .next (pmatchOp hall slot v s) := rfl

theorem pmatchOp_sets {hall slot : Nat} {v : DWord} {s : State} (hused : hallUsed s hall = true) (hslot : slot < 16) :
    pmatchOp hall slot v s = updHall hall (fun h => { h with
      profiles := h.profiles.set slot (Profile.mk (v &&& 0xE00000FFFFFFFFFF#64) 0 0 0 0) }) s := by
  refine if_neg ?_
  simp [hused, hslot]

/-- Settles O26: each row by the lemma of its operation. -/
theorem cutAndTraceCommands : Obligations.CutAndTraceCommands := by
  unfold Obligations.CutAndTraceCommands
  refine ⟨?armAct, ?armActRefused, ?arm, ?disarm, ?disarmAct, ?disarmNear, ?dump, ?dumpRefused, ?ringRead, ?stops, ?stopWaits, ?resumes,
    ?resumeWaits, ?header, ?endRecord, ?running, ?late, ?known, ?order, ?tick, ?rushesRead, ?pmatch⟩
  case armAct =>
    intro a arg s hmay hfree hlocal
    exact exec_cutArm hmay (cutArmOp_arms hfree hlocal)
  case armActRefused =>
    intro a arg st s hmay hrefused
    exact exec_cutArm hmay (cutArmOp_refused hrefused)
  case arm =>
    rintro flags serial c s u hlocal rfl rfl hfree
    rw [exec_dbgArm, cutArmOp_arms (s := dbgWritten 1 flags serial s) hfree hlocal]
    refine ⟨_, rfl, rfl, ?_⟩
    simp [dbgFinish, cutSet_dbg]
  case disarm =>
    intro s harmed hfar
    rw [exec_dbgDisarm, cutDisarmOp_disarms (s := dbgWritten 2 s.dbg.flags (dbgSerial s) s) harmed hfar]
    exact ⟨_, rfl, rfl, rfl, rfl⟩
  case disarmAct =>
    intro a s hmay harmed hfar
    exact exec_cutDisarm hmay (cutDisarmOp_disarms harmed hfar)
  case disarmNear =>
    intro a s hmay hnear
    exact exec_cutDisarm hmay (cutDisarmOp_near hnear)
  case dump =>
    intro s hright
    rw [exec_dbgRushesDump_may hright]
    refine ⟨_, rfl, rfl, ?_⟩
    rw [dbgFinish_rings, rushesDump_dbg]
    rfl
  case dumpRefused =>
    intro s hright
    rw [exec_dbgRushesDump_may_not hright]
    exact ⟨_, rfl, rfl, rfl⟩
  case ringRead =>
    intro s hunit
    rw [exec_dbgRingRead, ringReadOp_reads (s := dbgWritten 4 s.dbg.flags (dbgSerial s) s) hunit]
    exact ⟨_, rfl, rfl, rfl, rfl⟩
  case stops =>
    intro s harmed hedges
    obtain ⟨hstate, hrecords, hlate, hhalted, hdone⟩ := cutStopOp_stops harmed hedges
    have hstopped : (cutStopOp s).stopped = true := beq_iff_eq.mpr hstate
    exact ⟨_, exec_cutStop s, hstate, hrecords, hlate, hstopped, hhalted, hdone⟩
  case stopWaits =>
    intro s h
    rw [exec_cutStop, cutStopOp_waits h]
  case resumes =>
    intro inst s hstopped hinstant
    have hrest := cutResumeOp_resumes hstopped hinstant
    have hstate : (cutResumeOp s).dbg.cutState = 0 := congrArg Dbg.cutState hrest
    have hruns : (cutResumeOp s).stopped = false := by
      rw [State.stopped, hstate]
      decide
    exact ⟨_, exec_cutResume s, hstate, congrArg Dbg.resumeT hrest, hruns, congrArg Dbg.moved hrest⟩
  case resumeWaits =>
    intro s h
    rw [exec_cutResume, cutResumeOp_waits h]
  case header =>
    intro unit scanMap body s hstopped hdailies hopen hfirst
    refine ⟨_, _, (exec_dailiesRecord 1 unit scanMap body s).trans
      (congrArg Host.Outcome.next (dailiesOp_header hstopped hdailies hopen hfirst)), rfl, ?_, ?_⟩
    · exact congrArg (· + 1) hfirst
    · rw [hfirst]
  case endRecord =>
    intro unit scanMap body s hstopped hdailies hopen hlater
    exact ⟨_, exec_dailiesRecord 15 unit scanMap body s, dailiesOp_end hstopped hdailies hopen hlater⟩
  case running =>
    intro kind unit scanMap body s hrunning
    rw [exec_dailiesRecord, dailiesOp_running hrunning]
  case late =>
    intro channel item s hstopped hchannel
    rw [exec_lateArrival, lateArrivalOp_notes hstopped hchannel]
    exact ⟨_, rfl, rfl⟩
  case known =>
    intro ctx m s hknown
    rw [exec_cutOrderReceive, cutReceive_known hknown]
  case order =>
    rintro ctx m c s u hlength hcode hzero hflags hforward hfree hserial rfl rfl hmay
    rw [exec_cutOrderReceive, cutReceive_applies hlength hcode hzero hflags hforward hfree hserial hmay]
    rfl
  case tick =>
    intro unit s hunit
    rw [exec_rushesTick, rushesTickOp_ticks hunit]
  case rushesRead =>
    intro a arg s hmay hlength hquarter hunit
    exact exec_rushesRead hmay hlength hquarter hunit
  case pmatch =>
    intro hall slot v s hused hslot
    rw [exec_pmatchWrite, pmatchOp_sets hused hslot]

end Sys2Proof.Machine
end

section
/-! The management port: frames, the node claim and the DTLS sessions. -/

namespace Sys2Proof.Machine

-- One declaration at a time, so that the elaborator holds few threads (each takes stack of its own).
set_option Elab.async false

/-! ### What the MAC takes (R483 to R485) -/

theorem exec_mgtFrameReceive (f : MgtFrame) (s : State) : exec (.mgtFrameReceive f) s = .next (mgtFrame f s) := rfl

theorem mgtFrame_down {f : MgtFrame} {s : State} (hdown : s.pins.miiEn = false) : mgtFrame f s = s := by
  simp [mgtFrame, hdown]

theorem mgtFrame_badSum {f : MgtFrame} {s : State} (hup : s.pins.miiEn = true) (hfcs : f.fcsGood = false) :
    mgtFrame f s = s.mgtCount 2 := by
  simp [mgtFrame, hup, hfcs]

/-- A good datagram to an accepted address that is a good segment message is heard. -/
theorem mgtFrame_segment {f : MgtFrame} {s : State} (hup : s.pins.miiEn = true) (hrun : s.stopped = false) (hfcs : f.fcsGood = true)
    (hours : (macAccepts s).contains f.dst.toNat = true) (hext : f.extHeader = false) (hwhole : f.fragment = false)
    (hsum : f.sumGood = true) (hport : f.port = 61400) (hsegment : num f.payload 0 1 = 0x5C) (hgood : segmentOk f.payload = true) :
    mgtFrame f s = segmentHeard f.payload (s.mgtCount 0) := by
  have htaken : ¬ (s.stopped = true ∨ (!f.fcsGood) = true ∨ (!(macAccepts s).contains f.dst.toNat) = true) := by
    rw [hrun, hfcs, hours]
    decide
  simp only [mgtFrame, if_neg htaken]
  simp [hup, hext, hwhole, hsum, hport, hsegment, segmentTake, hgood]

/-! ### The messages of other modules (R486, R487) -/

theorem exec_announceReceive (m : Bytes) (s : State) : exec (.announceReceive m) s = .next (segmentRow 1 m s) := rfl

theorem exec_claimReceive (m : Bytes) (s : State) : exec (.claimReceive m) s = .next (segmentRow 2 m s) := rfl

theorem exec_defendReceive (m : Bytes) (s : State) : exec (.defendReceive m) s = .next (segmentRow 3 m s) := rfl

section Heard

variable {type : Nat} {m : Bytes} {s : State}

/-- A good message of the row's own type is heard. -/
theorem segmentRow_heard (hrun : s.stopped = false) (hgood : segmentOk m = true) (htype : num m 1 1 = type) :
    segmentRow type m s = segmentHeard m s := by
  simp [segmentRow, segmentTake, hrun, hgood, htype]

/-- While the block listens, the number of a module that speaks is noted as used. -/
theorem segmentHeard_listening (hother : num m 4 8 ≠ s.deviceId) (hlistens : s.mgt.claim.state = 0)
    (hnew : s.mgt.claim.used.contains (num m 2 1) = false) :
    segmentHeard m s = updClaim (fun c => { c with used := s.mgt.claim.used ++ [num m 2 1] }) s := by
  have hfree : ¬ num m 2 1 ∈ s.mgt.claim.used := by simpa using hnew
  simp [segmentHeard, hother, hlistens, updClaim, State.updMgt, hfree]

/-- A CLAIM of the block's own number is answered with a DEFEND. -/
theorem segmentHeard_defends (hother : num m 4 8 ≠ s.deviceId) (hholds : s.mgt.claim.state = 2) (hclaim : num m 1 1 = 2)
    (hnode : num m 2 1 = s.mgt.claim.node) : segmentHeard m s = segmentSend 3 s.mgt.claim.node s := by
  simp [segmentHeard, hother, hholds, hclaim, hnode]

/-- A number that another module holds is no longer claimed. -/
theorem segmentHeard_yields (hother : num m 4 8 ≠ s.deviceId) (hclaims : s.mgt.claim.state = 1) (hheld : num m 1 1 ≠ 2)
    (hnode : num m 2 1 = s.mgt.claim.candidate) :
    segmentHeard m s = claimChoose (updClaim (fun c => { c with used := c.used ++ [num m 2 1] }) s) := by
  simp [segmentHeard, hother, hclaims, hheld, hnode]

end Heard

/-! ### The claim (R486) -/

theorem exec_claimListenEnd {s : State} (hlistens : s.mgt.claim.state = 0) : exec .claimListenEnd s = .next (claimChoose s) :=
  congrArg Host.Outcome.next (if_pos hlistens)

theorem claimChoose_lowest {n : Nat} {s : State} (h : firstFrom (fun n => !s.mgt.claim.used.contains n) 15 1 = some n) :
    claimChoose s = updClaim (fun c => { c with state := 1#3, candidate := n, sends := 0 }) s := by
  rw [claimChoose, h]

theorem claimChoose_none {s : State} (h : firstFrom (fun n => !s.mgt.claim.used.contains n) 15 1 = none) :
    claimChoose s = updClaim (fun c => { c with state := 3#3, candidate := 0, sends := 0 }) s := by
  rw [claimChoose, h]

theorem exec_claimSend {s : State} (hclaims : s.mgt.claim.state = 1) (hleft : s.mgt.claim.sends < 3) : exec .claimSend s
    = .next (segmentSend 2 s.mgt.claim.candidate (updClaim (fun c => { c with sends := c.sends + 1 }) s)) :=
  congrArg Host.Outcome.next (if_pos ⟨hclaims, hleft⟩)

theorem exec_claimWindowEnd {s : State} (hclaims : s.mgt.claim.state = 1) : exec .claimWindowEnd s
    = .next (segmentSend 1 s.mgt.claim.candidate
        ((updClaim (fun c => { c with state := 2#3, node := s.mgt.claim.candidate }) s).mgtEvent 0)) :=
  congrArg Host.Outcome.next (if_pos hclaims)

theorem exec_announceSend {s : State} (hholds : s.mgt.claim.state = 2) :
    exec .announceSend s = .next (segmentSend 1 s.mgt.claim.node s) := congrArg Host.Outcome.next (if_pos hholds)

theorem exec_noNodeRetry {s : State} (hnone : s.mgt.claim.state = 3) : exec .noNodeRetry s = .next (listenAgain s) :=
  congrArg Host.Outcome.next (if_pos hnone)

/-! ### Beacons, solicitations and echoes (R483, R488) -/

theorem exec_plcaBeaconLoss (s : State) :
    exec .plcaBeaconLoss s = .next ((s.updMgt fun m => { m with beacon := false }).mgtEvent 2) := rfl

theorem exec_neighborSolicitation {s : State} (hmay : maySend s = true) : exec (.neighborSolicitation (ipAddress s)) s
    = .next ((s.emit (.icmp ([136#8, 0#8] ++ [0x60#8, 0#8, 0#8, 0#8] ++ ipAddress s ++ [2#8, 1#8] ++ macAddress s))).mgtCount 1) := by
  change goOn (neighborOp (ipAddress s) s) = _
  simp [neighborOp, hmay]

theorem exec_neighborSolicitation_other {x : Bytes} {s : State} (hother : x ≠ ipAddress s) :
    exec (.neighborSolicitation x) s = .next s := by
  change goOn (neighborOp x s) = _
  simp [neighborOp, hother]

theorem exec_echoRequest {p : Bytes} {s : State} (hmay : maySend s = true) :
    exec (.echoRequest p) s = .next ((s.emit (.icmp ([129#8, 0#8] ++ p))).mgtCount 1) := congrArg Host.Outcome.next (if_pos hmay)

/-! ### Handshakes (R489, R491) -/

theorem exec_dtlsClientHello (h : Hello) (s : State) : exec (.dtlsClientHello h) s = .next (clientHello h s) := rfl

theorem clientHello_unserved {h : Hello} {s : State} (hserves : servesSessions s = false) :
    clientHello h s = (s.mgtCount 5).mgtEvent 4 := by
  simp [clientHello, hserves, handshakeRefused]

/-- Without a cookie the block answers a HelloRetryRequest and keeps nothing. -/
theorem clientHello_retry {s : State} (hserves : servesSessions s = true) (hroom : (liveSessions s).length < 8) :
    clientHello ⟨true, true, true, true, false⟩ s = (s.emit (.dtls s.mgt.nextSession 0)).mgtCount 1 := by
  simp [clientHello, hserves, Nat.not_le.mpr hroom]

/-- The record of a session whose handshake has begun. -/
def sessionBegun (s : State) : Session := { (default : Session) with handshaking := true, cid := s.open64.toNat, idleSince := s.now }

theorem clientHello_begins {s : State} (hserves : servesSessions s = true) (hroom : (liveSessions s).length < 8) :
    clientHello ⟨true, true, true, true, true⟩ s
      = (((s.opened.updMgt fun m => { m with
            nextSession := s.mgt.nextSession + 1, sessions := m.sessions.set s.mgt.nextSession (sessionBegun s) }).emit
          (.dtls s.mgt.nextSession 1)).emit (.identity s.mgt.nextSession (identityChain s))).mgtCount 1 := by
  simp only [clientHello, hserves]
  rw [if_neg (by decide), if_neg (by decide), if_neg (fun h => Nat.not_le.mpr hroom h.1), if_neg (by decide)]
  rfl

/-- The session that a ClientHello begins is in its handshake. -/
theorem sessions_set_begun (s : State) :
    (s.mgt.sessions.set s.mgt.nextSession (sessionBegun s)).get s.mgt.nextSession = sessionBegun s :=
  Tab.get_set_of_ne fun h => Bool.noConfusion (congrArg Session.handshaking h : true = false)

theorem exec_dtlsHandshakeFinished (n : Nat) (c : CertChain) (good : Bool) (s : State) :
    exec (.dtlsHandshakeFinished n c good) s = .next (handshakeFinished n c good s) := rfl

section Finished

variable {n : Nat} {c : CertChain} {s : State} (hbegun : (sessOf s n).handshaking = true)
include hbegun

theorem handshakeFinished_fails : handshakeFinished n c false s = handshakeFails n s := by
  simp [handshakeFinished, hbegun]

variable (hsome : 1 ≤ c.certs) (hcerts : c.certs ≤ 4) (hbytes : c.bytes ≤ 4096)
include hsome hcerts hbytes

/-- A good chain is short enough. -/
theorem handshakeFinished_good : handshakeFinished n c true s =
    if (liveSessions s).length < 8 then sessionLive n c s
    else match evictable s with
      | some old => sessionLive n c ((endSession old s).mgtEvent 3)
      | none => handshakeFails n s := by
  have hchain : ¬ ((!true) = true ∨ c.certs = 0 ∨ 4 < c.certs ∨ 4096 < c.bytes) := by
    simp only [Bool.not_true, Bool.false_eq_true, false_or]
    omega
  rw [handshakeFinished, if_neg hchain]
  simp only [hbegun]
  rfl

theorem handshakeFinished_room (hroom : (liveSessions s).length < 8) : handshakeFinished n c true s = sessionLive n c s := by
  rw [handshakeFinished_good hbegun hsome hcerts hbytes, if_pos hroom]

/-- The ninth session takes the place of the one idle longest. -/
theorem handshakeFinished_evicts {old : Nat} (hfull : 8 ≤ (liveSessions s).length) (hold : evictable s = some old) :
    handshakeFinished n c true s = sessionLive n c ((endSession old s).mgtEvent 3) := by
  rw [handshakeFinished_good hbegun hsome hcerts hbytes, if_neg (Nat.not_lt.mpr hfull), hold]

end Finished

/-! ### Sessions (R489, R491) -/

theorem exec_sessionEnd (n : Nat) (s : State) : exec (.sessionEnd n) s = .next (endSession n s) := rfl

/-- The end of a session drops its record and the actions it still asks for; its SPDM sessions and its handles are no part of the
port's state. -/
theorem endSession_mgt (n : Nat) (s : State) : (endSession n s).mgt = { s.mgt with
    sessions := s.mgt.sessions.filter fun e => e.1 != n, deferred := s.mgt.deferred.filter fun d => d.1.sess != n } := by
  unfold endSession
  rw [State.updMgt_mgt]
  have hkept (unread : List ActBox) (f : ActBox → Handle) : (forAll unread (fun b s =>
      (retireHandle (f b) s).updDom fun d => { d with root := if d.root == some (f b) then none else d.root })
      (closeSpdm .callSheet (fun x => x.carrier == n) s)).mgt = s.mgt :=
    (Frame.forAll (w := 70368744183872) (fun _ _ => (retireHandle_frame Frame.refl rfl).updDom rfl) unread
      (closeSpdm_frame Frame.refl rfl)).mgt (by decide)
  rw [hkept]

theorem session_ne_default_of_live {x : Session} (hlive : x.live = true) : x ≠ default := fun h =>
  absurd (hlive.symm.trans (congrArg Session.live h)) (by decide)

/-- A session's record after a change that leaves it live. -/
theorem sessOf_updSess {n : Nat} {f : Session → Session} {s : State} (hlive : (f (sessOf s n)).live = true) :
    sessOf (updSess n f s) n = f (sessOf s n) := Tab.get_mod_of_ne (session_ne_default_of_live hlive)

/-- R489: a record that leaves for a session is counted there. -/
theorem sessOf_recordSent {n : Nat} {s : State} (hlive : (sessOf s n).live = true) :
    sessOf (recordSent n s) n = { sessOf s n with sent := (sessOf s n).sent + 1 } := by
  have hcounted := sessOf_updSess (f := fun x => { x with sent := (sessOf s n).sent + 1 }) hlive
  unfold recordSent
  dsimp only
  split <;> exact hcounted

theorem exec_keyUpdate {n : Nat} {s : State} (hlive : (sessOf s n).live = true) : exec (.keyUpdate n) s
    = .next (recordSent n ((updSess n (fun x => { x with idleSince := s.now }) s).emit (.dtls n 6))) :=
  congrArg Host.Outcome.next (if_pos hlive)

/-- Settles O28: each row by the lemma of its operation. -/
theorem managementPort : Obligations.ManagementPort := by
  unfold Obligations.ManagementPort
  refine ⟨?down, ?badSum, ?segment, ?announced, ?claimed, ?defended, ?chosen, ?noneFree, ?claim, ?window, ?announce, ?retry, ?loss, ?seen,
    ?solicited, ?otherSolicited, ?echo, ?unserved, ?helloRetry, ?begun, ?live, ?evicts, ?fails, ?ends, ?update⟩
  case down =>
    intro f s hdown
    rw [exec_mgtFrameReceive, mgtFrame_down hdown]
  case badSum =>
    intro f s hup hfcs
    rw [exec_mgtFrameReceive, mgtFrame_badSum hup hfcs]
  case segment =>
    intro f s hup hrun hfcs hours hext hwhole hsum hport hsegment hgood
    rw [exec_mgtFrameReceive, mgtFrame_segment hup hrun hfcs hours hext hwhole hsum hport hsegment hgood]
  case announced =>
    intro m s hrun hgood htype hother hlistens hnew
    rw [exec_announceReceive, segmentRow_heard hrun hgood htype, segmentHeard_listening hother hlistens hnew]
    exact ⟨_, rfl, rfl, rfl, rfl⟩
  case claimed =>
    intro m s hrun hgood htype hother hholds hnode
    rw [exec_claimReceive, segmentRow_heard hrun hgood htype, segmentHeard_defends hother hholds htype hnode]
  case defended =>
    intro m s hrun hgood htype hother hclaims hnode
    have hheld : num m 1 1 ≠ 2 := by
      rw [htype]
      decide
    rw [exec_defendReceive, segmentRow_heard hrun hgood htype, segmentHeard_yields hother hclaims hheld hnode]
    rfl
  case chosen =>
    intro n s hlistens hlowest
    rw [exec_claimListenEnd hlistens, claimChoose_lowest hlowest]
    exact ⟨_, rfl, rfl, rfl, rfl, rfl⟩
  case noneFree =>
    intro s hlistens hnone
    rw [exec_claimListenEnd hlistens, claimChoose_none hnone]
    exact ⟨_, rfl, rfl⟩
  case claim =>
    intro s hclaims hleft
    exact ⟨_, exec_claimSend hclaims hleft, rfl, hclaims, rfl⟩
  case window =>
    intro s hclaims
    exact ⟨_, exec_claimWindowEnd hclaims, rfl, rfl, rfl, rfl⟩
  case announce =>
    intro s hholds
    exact ⟨_, exec_announceSend hholds, rfl, rfl⟩
  case retry =>
    intro s hnone
    exact ⟨_, exec_noNodeRetry hnone, rfl⟩
  case loss =>
    intro s
    exact ⟨_, exec_plcaBeaconLoss s, rfl, rfl⟩
  case seen =>
    intro s
    rfl
  case solicited =>
    intro s hmay
    exact ⟨_, exec_neighborSolicitation hmay, rfl, rfl⟩
  case otherSolicited =>
    intro x s hother
    exact exec_neighborSolicitation_other hother
  case echo =>
    intro p s hmay
    exact ⟨_, exec_echoRequest hmay, rfl⟩
  case unserved =>
    intro h s hserves
    rw [exec_dtlsClientHello, clientHello_unserved hserves]
  case helloRetry =>
    intro s hserves hroom
    rw [exec_dtlsClientHello, clientHello_retry hserves hroom]
    exact ⟨_, rfl, rfl, rfl, rfl⟩
  case begun =>
    intro s hserves hroom
    have hsession := sessions_set_begun s
    rw [exec_dtlsClientHello, clientHello_begins hserves hroom]
    exact ⟨_, rfl, rfl, congrArg Session.handshaking hsession, congrArg Session.live hsession, rfl⟩
  case live =>
    intro n c s hbegun hsome hcerts hbytes hroom
    rw [exec_dtlsHandshakeFinished, handshakeFinished_room hbegun hsome hcerts hbytes hroom]
  case evicts =>
    intro n old c s hbegun hsome hcerts hbytes hfull hold
    rw [exec_dtlsHandshakeFinished, handshakeFinished_evicts hbegun hsome hcerts hbytes hfull hold]
  case fails =>
    intro n c s hbegun
    rw [exec_dtlsHandshakeFinished, handshakeFinished_fails hbegun]
  case ends =>
    intro n s
    have hmgt := endSession_mgt n s
    exact ⟨_, exec_sessionEnd n s, congrArg Mgt.sessions hmgt, congrArg Mgt.deferred hmgt⟩
  case update =>
    intro n s hlive
    have hidle : sessOf (updSess n (fun x => { x with idleSince := s.now }) s) n = { sessOf s n with idleSince := s.now } :=
      sessOf_updSess hlive
    have hsent : sessOf (recordSent n ((updSess n (fun x => { x with idleSince := s.now }) s).emit (.dtls n 6))) n
        = { sessOf s n with idleSince := s.now, sent := (sessOf s n).sent + 1 } := by
      have hemitted : sessOf ((updSess n (fun x => { x with idleSince := s.now }) s).emit (.dtls n 6)) n
          = { sessOf s n with idleSince := s.now } := hidle
      rw [sessOf_recordSent (by rw [hemitted]; exact hlive), hemitted]
    exact ⟨_, exec_keyUpdate hlive, congrArg Session.idleSince hsent, congrArg Session.sent hsent⟩

end Sys2Proof.Machine
end

section
/-! The requests of the Call Sheet: what a session's message comes to, the five operations, and what follows them. -/

namespace Sys2Proof.Machine

-- One declaration at a time, so that the elaborator holds few threads (each takes stack of its own).
set_option Elab.async false

/-! ### A request is met (R501, R502) -/

/-- A request taken leaves its live session as it was but for its idle time. -/
theorem sessOf_sheetTaken {n : Nat} {s : State} (hlive : (sessOf s n).live = true) :
    sessOf (sheetTaken n s) n = { sessOf s n with idleSince := s.now } :=
  sessOf_updSess (f := fun x => { x with idleSince := s.now }) hlive

theorem updSess_eq_sheetTaken (n : Nat) (s : State) :
    State.mgtCount 6 (updSess n (fun x => { x with idleSince := s.now }) s) = sheetTaken n s := rfl

/-- No kept response has the TAG of a new request. -/
theorem kept_find_none {x : Session} {tag : Word} (h : x.kept.all (fun e => e.1 != tag) = true) :
    x.kept.find? (fun e => e.1 == tag) = none := by
  simpa [List.find?_eq_none] using h

section Served

variable {row n : Nat} {m : Bytes} {work : Req → State → List Ans × State} {s : State}

theorem sheetServe_dead (hdead : (sessOf s n).live = false) : sheetServe row n m work s = ([], s.mgtCount 4) := by
  simp [sheetServe, hdead]

variable (hlive : (sessOf s n).live = true) (hrow : num m 1 1 = row)
include hlive hrow

/-- A response that is still kept goes out again. -/
theorem sheetServe_kept {e : Word × Bytes} (hnew : cancels m = false)
    (hkept : (sessOf s n).kept.find? (fun e => e.1 == BitVec.ofNat 32 (num m 4 4)) = some e) :
    sheetServe row n m work s = ([], sheetSend n e.2 (sheetTaken n s)) := by
  simp [sheetServe, updSess_eq_sheetTaken, sessOf_sheetTaken hlive, hlive, hrow, hnew, hkept]

theorem sheetServe_malformed (hbad : requestOk m = false)
    (hnew : (sessOf s n).kept.all (fun e => e.1 != BitVec.ofNat 32 (num m 4 4)) = true)
    (hidle : (sessOf s n).outstanding.contains (BitVec.ofNat 32 (num m 4 4)) = false) :
    sheetServe row n m work s = ([], respond n row (BitVec.ofNat 32 (num m 4 4)) ocMalformed Status.ok [] (sheetTaken n s)) := by
  have hasks : cancels m = false := by simp [cancels, hbad]
  have hnone := kept_find_none hnew
  have hout : ¬ BitVec.ofNat 32 (num m 4 4) ∈ (sessOf s n).outstanding := by simpa using hidle
  simp [sheetServe, updSess_eq_sheetTaken, sessOf_sheetTaken hlive, hlive, hrow, hasks, hnone, hout, hbad]

end Served

/-- A request that its row takes does the row's operation. -/
theorem sheetServe_works {row n : Nat} {m : Bytes} {work : Req → State → List Ans × State} {s : State}
    (htakes : sheetTakes row n m s = true) : sheetServe row n m work s = work (reqOf m) (sheetTaken n s) := by
  simp only [sheetTakes, Bool.and_eq_true, Bool.or_eq_true, Bool.not_eq_true', beq_iff_eq, decide_eq_true_eq] at htakes
  obtain ⟨⟨⟨⟨⟨hlive, hrow⟩, hgood⟩, hroom⟩, hidle⟩, hnew⟩ := htakes
  have hfound : (if cancels m = true then none else (sessOf s n).kept.find? fun e => e.1 == BitVec.ofNat 32 (num m 4 4)) = none := by
    rcases hnew with hcancels | hnew
    · rw [if_pos hcancels]
    · rw [kept_find_none hnew, ite_self]
  have hout : ¬ BitVec.ofNat 32 (num m 4 4) ∈ (sessOf s n).outstanding := by simpa using hidle
  simp [sheetServe, updSess_eq_sheetTaken, sessOf_sheetTaken hlive, hlive, hrow, hfound, hout, hgood, Nat.not_le.mpr hroom]

section Rows

variable (n : Nat) (m : Bytes) (s : State)

theorem exec_callSheetGet : exec (.callSheetGet n m) s = .next (settled (sheetServe 1 n m (quietWork (sheetGet n)) s)) := rfl

theorem exec_callSheetSet : exec (.callSheetSet n m) s = .next (settled (sheetServe 2 n m (quietWork (sheetSet n)) s)) := rfl

theorem exec_callSheetGetMulti :
    exec (.callSheetGetMulti n m) s = .next (settled (sheetServe 3 n m (quietWork (sheetGetMulti n)) s)) := rfl

theorem exec_callSheetAction : exec (.callSheetAction n m) s = .next (settled (sheetServe 4 n m (sheetAction n) s)) := rfl

theorem exec_callSheetSubscribe :
    exec (.callSheetSubscribe n m) s = .next (settled (sheetServe 5 n m (quietWork (sheetSubscribe n)) s)) := rfl

end Rows

/-! ### The operations (R496 to R500) -/

section Operations

variable {n : Nat} {q : Req} {s : State}

section Get

variable (hlength : q.body.length = 8) (hzero : num q.body 3 1 = 0)
include hlength hzero

theorem sheetGet_value {e : Entry} (haccess : access s n q.role (objOf q.body) getRight = .inl e) (hvalue : e.type ≠ 6)
    (hoffset : num q.body 4 4 = 0 ∨ e.type = 5) : sheetGet n q s = respond n 1 q.tag ocDone Status.ok
      (getBody (objOf q.body) e.type (num q.body 4 4) (objValue s (objOf q.body))) s := by
  have hform : ¬ (q.body.length ≠ 8 ∨ num q.body 3 1 ≠ 0) := by simp [hlength, hzero]
  have hfrom : ¬ (num q.body 4 4 ≠ 0 ∧ e.type ≠ 5) := by
    rintro ⟨hsome, hshort⟩
    exact hoffset.elim hsome hshort
  simp only [sheetGet, if_neg hform, haccess, if_neg hvalue, if_neg hfrom]

theorem sheetGet_denied {o : Nat} (haccess : access s n q.role (objOf q.body) getRight = .inr o) :
    sheetGet n q s = respond n 1 q.tag o Status.ok [] s := by
  have hform : ¬ (q.body.length ≠ 8 ∨ num q.body 3 1 ≠ 0) := by simp [hlength, hzero]
  simp only [sheetGet, if_neg hform, haccess]

/-- A subscription with a period in range and room for it is added behind those of other TAGs. -/
theorem sheetSubscribe_adds {e : Entry} (haccess : access s n q.role (objOf q.body) (·.rd) = .inl e) (hlow : 10 ≤ num q.body 4 4)
    (hhigh : num q.body 4 4 ≤ 3600000) (hroom : ((sessOf s n).subs.filter fun x => x.tag != q.tag).length < 32) :
    sheetSubscribe n q s = respond n 5 q.tag ocDone Status.ok [] (updSess n (fun y => { y with
      subs := ((sessOf s n).subs.filter fun x => x.tag != q.tag)
        ++ [Sub.mk q.tag (objOf q.body) (BitVec.ofNat 32 (num q.body 4 4)) (objValue s (objOf q.body))] }) s) := by
  have hform : ¬ (q.body.length ≠ 8 ∨ num q.body 3 1 ≠ 0) := by simp [hlength, hzero]
  have hperiod : ¬ (num q.body 4 4 ≠ onChange ∧ (num q.body 4 4 < 10 ∨ 3600000 < num q.body 4 4)) := by omega
  have hadds : ¬ num q.body 4 4 = 0 := by omega
  simp only [sheetSubscribe, if_neg hform, haccess, if_neg hadds, if_neg hperiod, if_neg (Nat.not_le.mpr hroom)]

end Get

/-- A value of one byte is the number of its bytes, however many are asked for. -/
theorem num_one_byte {v : Bytes} (hlength : v.length = 1) : num v 0 4 = num v 0 1 := by
  simp [num, sub, List.take_of_length_le, hlength]

theorem setValue_maxState {v : Bytes} (h : num v 0 4 ≤ 3) : setValue 0x200003 v s
    = (ocDone, Status.ok, { s with pwr := { s.pwr with maxState := BitVec.ofNat 2 (num v 0 4) } }) := by
  rw [setValue, if_neg (Nat.not_lt.mpr h)]
  rfl

theorem sheetSet_maxState {e : Entry} (hlength : q.body.length = 9) (hzero : num q.body 3 1 = 0) (hzero' : num q.body 5 1 = 0)
    (hone : num q.body 6 2 = 1) (hobj : objOf q.body = 0x200003) (haccess : access s n q.role 0x200003 (·.wr) = .inl e)
    (htype : num q.body 4 1 = e.type) (hbytes : typeBytes e.type = 1) (hentry : entryOf s 0x200003 = some e) (hvalue : e.type ≠ 6)
    (hstate : num (q.body.drop 8) 0 1 ≤ 3) : sheetSet n q s = respond n 2 q.tag ocDone Status.ok []
      { s with pwr := { s.pwr with maxState := BitVec.ofNat 2 (num (q.body.drop 8) 0 1) } } := by
  have hbyte : num (q.body.drop 8) 0 4 = num (q.body.drop 8) 0 1 := num_one_byte (by simp [hlength])
  have hset := setValue_maxState (s := s) (hbyte ▸ hstate)
  rw [hbyte] at hset
  simp [sheetSet, hlength, hzero, hzero', hone, hobj, hentry, hvalue, haccess, htype, hbytes, hset]

theorem sheetGetMulti_answers (hsome : 1 ≤ num q.body 0 1) (hmost : num q.body 0 1 ≤ 64) (hzero : allZero (sub q.body 1 3) = true)
    (hlength : q.body.length = 4 + 4 * num q.body 0 1) : sheetGetMulti n q s = respond n 3 q.tag ocDone Status.ok
      (multiEntries s n q.role ((List.range (num q.body 0 1)).map fun i => sub q.body (4 + 4 * i) 4) []) s := by
  have hform : ¬ (num q.body 0 1 = 0 ∨ 64 < num q.body 0 1 ∨ (!allZero (sub q.body 1 3)) = true
      ∨ q.body.length ≠ 4 + 4 * num q.body 0 1) := by
    rw [hzero]
    simp only [hlength, Bool.not_true, Bool.false_eq_true, ne_eq, not_true_eq_false, or_false]
    omega
  rw [sheetGetMulti, if_neg hform]

theorem waitAnswer_untagged {obj : Nat} (h : (boxOf s n obj).waitTag = none) : waitAnswer n obj s = s := by
  simp [waitAnswer, h]

/-- An action that its role may run and whose last run has been answered. -/
theorem sheetAction_runs {e : Entry} (hlength : 8 ≤ q.body.length) (hzero : num q.body 3 1 = 0) (hzero' : num q.body 4 2 = 0)
    (hwhole : q.body.length = 8 + num q.body 6 2) (hmost : num q.body 6 2 ≤ 1368)
    (haccess : access s n q.role (objOf q.body) (·.ex) = .inl e) (huntagged : (boxOf s n (objOf q.body)).waitTag = none) :
    sheetAction n q s =
      if (boxOf s n (objOf q.body)).result = Status.notReady then ([], respond n 4 q.tag ocBusy Status.ok [] s)
      else if q.waits then startAction (objOf q.body) { role := q.role, sess := n } (q.body.drop 8)
        (boxPut n { boxOf (updSess n (fun x => { x with outstanding := x.outstanding ++ [q.tag] }) s) n (objOf q.body)
            with waitTag := some q.tag }
          (updSess n (fun x => { x with outstanding := x.outstanding ++ [q.tag] }) s))
      else startAction (objOf q.body) { role := q.role, sess := n } (q.body.drop 8)
        (respond n 4 q.tag ocDone Status.notReady [] s) := by
  have hform : ¬ (q.body.length < 8 ∨ num q.body 3 1 ≠ 0 ∨ num q.body 4 2 ≠ 0 ∨ q.body.length ≠ 8 + num q.body 6 2
      ∨ 1368 < num q.body 6 2) := by omega
  simp only [sheetAction, if_neg hform, haccess, waitAnswer_untagged huntagged]

end Operations

/-! ### Held answers and notifications (R499, R500) -/

theorem exec_actionWaitResponse (n : Nat) (tag : Word) (s : State) :
    exec (.actionWaitResponse n tag) s = .next (waitResponse n tag s) := rfl

theorem waitResponse_none {n : Nat} {tag : Word} {s : State} (h : (sessOf s n).boxes.find? (fun b => b.waitTag == some tag) = none) :
    waitResponse n tag s = s := by
  rw [waitResponse, h]

theorem waitResponse_answers {n : Nat} {tag : Word} {b : ActBox} {s : State}
    (hfound : (sessOf s n).boxes.find? (fun b => b.waitTag == some tag) = some b) (hbox : boxOf s n b.obj = b)
    (htag : b.waitTag = some tag) (hready : b.result ≠ Status.notReady) : waitResponse n tag s
      = boxRead n b.obj 0 (boxPut n { b with waitTag := none } (respond n 4 tag ocDone b.result (getBody b.obj 6 0 b.data) s)) := by
  simp only [waitResponse, hfound, waitAnswer, hbox, htag, if_neg hready]

theorem exec_subscriptionNotify (n : Nat) (tag : Word) (s : State) : exec (.subscriptionNotify n tag) s = .next (notify n tag s) := rfl

theorem notify_none {n : Nat} {tag : Word} {s : State} (h : (sessOf s n).subs.find? (fun x => x.tag == tag) = none) :
    notify n tag s = s := by
  rw [notify, h]

/-- The type that a notification names for its object: the one of its entry. -/
def notifiedType (s : State) (obj : Nat) : Nat := match entryOf s obj with | some e => e.type | none => 0

/-- A subscription whose period is due, or whose value has changed, is notified. -/
theorem notify_sends {n : Nat} {tag : Word} {x : Sub} {s : State} (hfound : (sessOf s n).subs.find? (fun x => x.tag == tag) = some x)
    (hrun : s.stopped = false) (hlive : (sessOf s n).live = true) (hdue : x.period.toNat ≠ onChange ∨ objValue s x.obj ≠ x.last) :
    notify n tag s = (sheetSend n (sheetBytes 5 ocDone tag Status.ok
      (natLe (sessOf s n).notified 4 ++ natLe s.now 8 ++ getBody x.obj (notifiedType s x.obj) 0 (objValue s x.obj)))
      (updSess n (fun y => { y with
        notified := y.notified + 1
        subs := y.subs.map fun z => if z.tag == tag then { z with last := objValue s x.obj } else z }) s)).mgtCount 7 := by
  have hgoes : ¬ (s.stopped || !(sessOf s n).live || (x.period.toNat == onChange && objValue s x.obj == x.last)) = true := by
    simpa [hrun, hlive, imp_iff_not_or] using hdue
  simp only [notify, hfound, if_neg hgoes]
  rfl

/-- Settles O29: each request by what its row takes, and its operation. -/
theorem callSheetRequests : Obligations.CallSheetRequests := by
  unfold Obligations.CallSheetRequests
  refine ⟨?dead, ?kept, ?malformed, ?get, ?getDenied, ?set, ?getMulti, ?action, ?response, ?noResponse, ?subscribe, ?notifies, ?noNotify⟩
  case dead =>
    intro n m s hdead
    rw [exec_callSheetGet, exec_callSheetSet, exec_callSheetGetMulti, exec_callSheetAction, exec_callSheetSubscribe]
    simp only [sheetServe_dead hdead, and_self]
  case kept =>
    intro n m e s hlive hrow hnew hkept
    rw [exec_callSheetGet, sheetServe_kept hlive hrow hnew hkept]
  case malformed =>
    intro n m s hlive hrow hbad hnew hidle
    rw [exec_callSheetGet, sheetServe_malformed hlive hrow hbad hnew hidle]
  case get =>
    rintro n obj m q e s u htakes rfl rfl hlength hzero rfl haccess hvalue hoffset
    rw [exec_callSheetGet, sheetServe_works htakes, quietWork, sheetGet_value hlength hzero haccess hvalue hoffset]
  case getDenied =>
    rintro n obj o m q s u htakes rfl rfl hlength hzero rfl haccess
    rw [exec_callSheetGet, sheetServe_works htakes, quietWork, sheetGet_denied hlength hzero haccess]
  case set =>
    rintro n m q e s u htakes rfl rfl hlength hzero hzero' hone hobj haccess htype hbytes hentry hvalue hstate
    rw [exec_callSheetSet, sheetServe_works htakes, quietWork,
      sheetSet_maxState hlength hzero hzero' hone hobj haccess htype hbytes hentry hvalue hstate]
  case getMulti =>
    rintro n k m q s u htakes rfl rfl rfl hsome hmost hzero hlength
    rw [exec_callSheetGetMulti, sheetServe_works htakes, quietWork, sheetGetMulti_answers hsome hmost hzero hlength]
  case action =>
    rintro n obj m q e s u htakes rfl rfl hlength hzero hzero' hwhole hmost rfl haccess huntagged
    rw [exec_callSheetAction, sheetServe_works htakes, sheetAction_runs hlength hzero hzero' hwhole hmost haccess huntagged]
  case response =>
    intro n tag b s hfound hbox htag hready
    rw [exec_actionWaitResponse, waitResponse_answers hfound hbox htag hready]
  case noResponse =>
    intro n tag s hnone
    rw [exec_actionWaitResponse, waitResponse_none hnone]
  case subscribe =>
    rintro n obj m q e others s u htakes rfl rfl hlength hzero rfl haccess hlow hhigh rfl hroom
    rw [exec_callSheetSubscribe, sheetServe_works htakes, quietWork, sheetSubscribe_adds hlength hzero haccess hlow hhigh hroom]
  case notifies =>
    rintro n tag x s u hfound hrun hlive hdue rfl
    rw [exec_subscriptionNotify, notify_sends hfound hrun hlive hdue]
    rfl
  case noNotify =>
    intro n tag s hnone
    rw [exec_subscriptionNotify, notify_none hnone]

end Sys2Proof.Machine
end

section
/-! Queues: creation, destruction, doorbells, the active set and the front end's reads. -/

namespace Sys2Proof.Machine

-- One declaration at a time, so that the elaborator holds few threads (each takes stack of its own).
set_option Elab.async false

/-! ### Creation (R287, R288, R309) -/

/-- `s` with the queue `q` that the argument block `b` asks for, its context with the queue's hall. -/
def queueCreated (b : Bytes) (q : Nat) (s : State) : State :=
  (updQueue q (fun _ => queueMade b (queueOf s q).qgen) s).updFe fun f => { f with
    contexts := f.contexts.set (num b 4 2) (some (num b 0 2)) }

/-- A good argument block makes the lowest free queue. -/
theorem queueCreateOp_makes {b : Bytes} {q : Nat} {s : State} (hok : queueCreateOk b s = true)
    (hfree : firstFrom (fun q => (queueOf s q).state == .free) 16384 0 = some q) :
    queueCreateOp b true s = ((Status.ok, q), queueCreated b q s) := by
  simp only [queueCreateOk, Bool.and_eq_true, bne_iff_ne, decide_eq_true_eq] at hok
  obtain ⟨⟨⟨⟨⟨⟨⟨⟨⟨⟨hsave, hhall⟩, hlive⟩, hsize⟩, hzero⟩, hslots⟩, hbase⟩, hkey⟩, hslot⟩, hcontext⟩, hquota⟩ := hok
  unfold queueCreateOp
  dsimp only
  rw [if_neg ?good, if_neg (Nat.not_le.mpr hquota), hfree]
  · rfl
  case good =>
    rw [Bool.not_eq_true]
    simp only [Bool.or_eq_false_iff]
    refine ⟨⟨⟨⟨⟨⟨⟨⟨⟨⟨rfl, by simpa using hsave⟩, by simpa using hhall⟩, by simpa using hlive⟩, ?size⟩, by simpa using hzero⟩, ?slots⟩,
      by simpa using hbase⟩, ?key⟩, ?slot⟩, ?context⟩
    case size => simpa using hsize
    case slots => simpa [imp_iff_not_or] using hslots
    case key =>
      split at hkey
      · next hsealed => simpa [hsealed, and_assoc] using hkey
      · next hopen => simpa [hopen] using hkey
    case slot => simpa using hslot
    case context =>
      cases hctx : s.fe.contexts.get (num b 4 2) with
      | none => rfl
      | some o =>
        rw [hctx] at hcontext
        simpa only [bne_eq_false_iff_eq, beq_iff_eq] using hcontext

theorem exec_queueCreate (a : Act) (arg : Bytes) (s : State) : exec (.queueCreate a arg) s = .next (queueCreateAct a arg s) := rfl

theorem queueCreateAct_makes {a : Act} {arg : Bytes} {q : Nat} {s : State} (hrole : hallRole s a (num arg 0 2) = true)
    (hlength : arg.length ≤ 32) (hok : queueCreateOk (fit arg 32) s = true)
    (hfree : firstFrom (fun q => (queueOf s q).state == .free) 16384 0 = some q) :
    queueCreateAct a arg s = actDone a.sess 0x502001 Status.ok (natLe (queueName (queueCreated (fit arg 32) q s) q) 4) false
      (queueCreated (fit arg 32) q s) := by
  have hmay : (hallRole s a (num arg 0 2) && decide (arg.length ≤ 32)) = true := by simp [hrole, hlength]
  have hmakes := queueCreateOp_makes hok hfree
  unfold queueCreateAct
  rw [hmay, hmakes]
  dsimp only
  rw [if_pos rfl]

/-- An answer to an action leaves the front end. -/
theorem actDone_fe (n obj : Nat) (st : Status) (data : Bytes) (oneShot : Bool) (s : State) :
    (actDone n obj st data oneShot s).fe = s.fe := (actDone_frame (w₀ := 2199023255552) Frame.refl rfl).fe (by decide)

theorem exec_feCmdCreate (s : State) : exec .feCmdCreate s = .next (feCommand 1 s.fe.queueArg.toNat s) := rfl

theorem feCommand_creates {n q : Nat} {s : State} (hgo : s.fe.go = false) (hok : queueCreateOk (feArg s.fe) s = true)
    (hfree : firstFrom (fun q => (queueOf s q).state == .free) 16384 0 = some q) : feCommand 1 n s
      = feFinish 1 (Status.ok, (queueCreated (feArg s.fe) q s).updFe fun f => { f with created := BitVec.ofNat 14 q }) := by
  have hready : ¬ s.fe.go = true := hgo ▸ Bool.false_ne_true
  rw [feCommand, if_neg hready]
  dsimp only
  rw [queueCreateOp_makes hok hfree]
  rfl

/-! ### Destruction (R306, R307, R311) -/

/-- `s` with the queue `q` dying, its end awaited by `who` and signalled to the fence `f` with the value `v`. -/
def queueDoomed (q f : Nat) (v : DWord) (byFe : Bool) (who : List (Nat × Nat)) (s : State) : State :=
  queueDie q (updQueue q (fun x => { x with destroyFence := some (f, v), byFe := byFe, answer := x.answer ++ who }) s)

theorem queueDestroyOp_dooms {hall slot f q : Nat} {v : DWord} {byFe : Bool} {who : List (Nat × Nat)} {s : State}
    (htdi : (isSealed (hallOf s hall) && ((hallOf s hall).tdi == .locked || (hallOf s hall).tdi == .run)) = false)
    (hfence : fenceOfHall s f hall = true) (hqueue : queueAt s hall slot = some q) (hlives : (queueOf s q).state ≠ .dying) :
    queueDestroyOp hall slot f v true byFe who s = (Status.ok, queueDoomed q f v byFe who s) := by
  have hmay : ¬ (!true || (isSealed (hallOf s hall) && ((hallOf s hall).tdi == .locked || (hallOf s hall).tdi == .run))
      || !fenceOfHall s f hall) = true := by
    rw [htdi, hfence]
    decide
  simp only [queueDestroyOp, if_neg hmay, hqueue, if_neg hlives]
  rfl

theorem exec_queueDestroy (a : Act) (arg : Bytes) (s : State) : exec (.queueDestroy a arg) s = .next (queueDestroyAct a arg s) := rfl

theorem queueDestroyAct_waits {a : Act} {arg b : Bytes} {q : Nat} {s : State} (hb : b = fit arg 16)
    (hrole : hallRole s a (num b 0 2) = true) (hlength : arg.length ≤ 16) (hzero : num b 3 1 = 0) (hzero' : num b 6 2 = 0)
    (htdi : (isSealed (hallOf s (num b 0 2)) && ((hallOf s (num b 0 2)).tdi == .locked || (hallOf s (num b 0 2)).tdi == .run)) = false)
    (hfence : fenceOfHall s (num b 4 2) (num b 0 2) = true) (hqueue : queueAt s (num b 0 2) (num b 2 1) = some q)
    (hlives : (queueOf s q).state ≠ .dying) : queueDestroyAct a arg s = actWaits a.sess 0x502002
      (queueDoomed q (num b 4 2) (BitVec.ofNat 64 (num b 8 8)) false [(a.sess, 0x502002)] s) := by
  subst hb
  have hmay : (hallRole s a (num (fit arg 16) 0 2)
      && (decide (arg.length ≤ 16) && num (fit arg 16) 3 1 == 0 && num (fit arg 16) 6 2 == 0)) = true := by
    simp [hrole, hlength, hzero, hzero']
  rw [queueDestroyAct]
  dsimp only
  rw [hmay, queueDestroyOp_dooms htdi hfence hqueue hlives]
  rfl

theorem exec_feCmdDestroy (s : State) : exec .feCmdDestroy s = .next (feCommand 2 s.fe.queueArg.toNat s) := rfl

theorem feCommand_destroys {n q : Nat} {b : Bytes} {s : State} (hgo : s.fe.go = false) (hb : b = feArg s.fe) (hzero : num b 3 1 = 0)
    (hzero' : num b 6 2 = 0) (hrest : allZero (b.drop 16) = true)
    (htdi : (isSealed (hallOf s (num b 0 2)) && ((hallOf s (num b 0 2)).tdi == .locked || (hallOf s (num b 0 2)).tdi == .run)) = false)
    (hfence : fenceOfHall s (num b 4 2) (num b 0 2) = true) (hqueue : queueAt s (num b 0 2) (num b 2 1) = some q)
    (hlives : (queueOf s q).state ≠ .dying) : feCommand 2 n s
      = (queueDoomed q (num b 4 2) (BitVec.ofNat 64 (num b 8 8)) true [] s).updFe fun f => { f with go := true, op := 2#4 } := by
  subst hb
  have hready : ¬ s.fe.go = true := hgo ▸ Bool.false_ne_true
  have hform : (num (feArg s.fe) 3 1 == 0 && num (feArg s.fe) 6 2 == 0 && allZero ((feArg s.fe).drop 16)) = true := by
    simp [hzero, hzero', hrest]
  rw [feCommand, if_neg hready]
  dsimp only
  rw [hform, queueDestroyOp_dooms htdi hfence hqueue hlives]
  rfl

theorem exec_queueDestroyFinish (q : Nat) (s : State) :
    exec (.queueDestroyFinish q) s = .next (settled ([], t0Sweep (destroyFinishOp q s))) := rfl

/-- `s` with the queue `q` free again, under its next generation. -/
def queueFreed (q : Nat) (s : State) : State := updQueue q (fun _ => { (default : Queue) with qgen := (queueOf s q).qgen + 1 }) s

/-- A dying queue that nothing is owed to or by is freed, its context too when no other queue has it, and its fence is signalled. -/
theorem destroyFinishOp_frees {q f : Nat} {v : DWord} {s : State} (hdying : (queueOf s q).state = .dying)
    (hacks : (queueOf s q).acks = []) (hwork : workOf s q = []) (howed : owed s q = [])
    (hfence : (queueOf s q).destroyFence = some (f, v)) (hanswer : (queueOf s q).answer = []) (hquiet : (queueOf s q).byFe = false) :
    destroyFinishOp q s = (signalFence f v Status.ok
      (if (queueFreed q s).fe.queues.any (fun e => e.2.state != .free && e.2.context == (queueOf s q).context) then queueFreed q s
       else { queueFreed q s with fe := { (queueFreed q s).fe with
        contexts := (queueFreed q s).fe.contexts.set (queueOf s q).context none } })).feEvent 2 := by
  have hends : ¬ ((queueOf s q).state ≠ .dying ∨ (!(queueOf s q).acks.isEmpty) = true ∨ (!(workOf s q).isEmpty) = true) := by
    simp [hdying, hacks, hwork]
  unfold destroyFinishOp
  dsimp only
  rw [if_neg hends, howed, hfence, hanswer, hquiet]
  rfl

theorem exec_feCmdQuery (q : BitVec 14) (s : State) : exec (.feCmdQuery q) s = .next (feCommand 3 q.toNat s) := rfl

theorem feCommand_queries {q : Nat} {s : State} (hgo : s.fe.go = false) : feCommand 3 q s
    = feFinish 3 (Status.ok, s.updFe fun f => { f with
        queueArg := BitVec.ofNat 14 q, qinfo := BitVec.ofNat 32 (feInfo s q), qacks := BitVec.ofNat 32 (queueOf s q).acks.length }) :=
  if_neg (hgo ▸ Bool.false_ne_true)

/-! ### Doorbells (R291) -/

/-- A queue that is not FREE is not the record of an unused one. -/
theorem ne_default_of_used {x : Queue} (hused : x.state ≠ .free) : x ≠ default := fun h => hused (congrArg Queue.state h)

theorem exec_doorbell {hall slot : Nat} {t : Word} {s : State} (hserves : hpServes s = true) :
    exec (.doorbell hall slot t) s = .next (doorbellOp hall slot t (portInput s)) := congrArg Host.Outcome.next (if_pos hserves)

theorem doorbell_refused_iff {hall q : Nat} {t : Word} {s : State} :
    (!((queueOf s q).state == .idle || (queueOf s q).state == .ready || (queueOf s q).state == .running || (queueOf s q).state == .parked)
      || (queueOf s q).t0 || (hallOf s hall).state != .live || (isSealed (hallOf s hall) && (hallOf s hall).tdi != .run)
      || decide (2 ^ (queueOf s q).ringLog2 - ((queueOf s q).tail - (queueOf s q).head).toNat < (t - (queueOf s q).tail).toNat))
      = !doorbellOk hall q t s := by
  simp only [doorbellOk, Bool.not_and, Bool.not_not, Bool.not_or, bne, ← decide_not, Nat.not_le]

section Doorbell

variable {hall slot q : Nat} {t : Word} {s : State}

/-- `s` with the tail of the queue `q` at `t`, and the doorbell recorded. -/
def doorbellRung (hall q : Nat) (t : Word) (s : State) : State := rushes Src.fe Ev.doorbell hall 0 0 q
  (updQueue q (fun x => { x with tail := t, state := if x.state = .idle then .ready else x.state }) s)

theorem queueOf_doorbellRung (hidle : (queueOf s q).state = .idle) :
    queueOf (doorbellRung hall q t s) q = { queueOf s q with tail := t, state := .ready } := by
  have hfe : (doorbellRung hall q t s).fe
      = (updQueue q (fun x => { x with tail := t, state := if x.state = .idle then .ready else x.state }) s).fe :=
    (rushes_frame (w₀ := 68719476736) Frame.refl rfl).fe (by decide)
  have hrung := queueOf_updQueue (q := q) (s := s)
    (f := fun x => { x with tail := t, state := if x.state = .idle then .ready else x.state })
    (ne_default_of_used (by simp [hidle]))
  rw [if_pos hidle] at hrung
  exact (congrArg (fun f : Fe => f.queues.get q) hfe).trans hrung

variable (hqueue : queueAt s hall slot = some q)
include hqueue

theorem doorbellOp_refused (hbad : doorbellOk hall q t s = false) : doorbellOp hall slot t s = (hallCount hall 7 1 s).feCount 3 := by
  simp only [doorbellOp, hqueue, doorbell_refused_iff, hbad]
  rfl

/-- A doorbell of a hall that is not RADIO moves its queue's tail; an idle queue becomes READY. -/
theorem doorbellOp_rings (hok : doorbellOk hall q t s = true) (hmoves : t ≠ (queueOf s q).tail)
    (hclass : qClass (hallOf s hall) ≠ 0) : doorbellOp hall slot t s = doorbellRung hall q t s := by
  simp only [doorbellOp, hqueue, doorbell_refused_iff, hok, if_neg hmoves, if_neg hclass]
  rfl

end Doorbell

/-! ### The active set (R382) -/

theorem exec_queueActivate (q : Nat) (s : State) : exec (.queueActivate q) s = .next (activateOp q s) := rfl

/-- `s` with the queue `q` in the active set, behind those already there. -/
def queueEntered (q : Nat) (s : State) : State :=
  (updQueue q (fun x => { x with active := true, state := .running, decoded := 0 }) (loadRecord q s)).updFe fun f => { f with
    activeOrder := f.activeOrder ++ [q] }

/-- The read of a queue's record is asked of memory: the front end's own state waits. -/
theorem loadRecord_fe (q : Nat) (s : State) : (loadRecord q s).fe = s.fe :=
  (loadRecord_frame (w₀ := 35184372088856) Frame.refl rfl).fe (by decide)

theorem queueOf_queueEntered (q : Nat) (s : State) :
    queueOf (queueEntered q s) q = { queueOf s q with active := true, state := .running, decoded := 0 } := by
  have hfe : queueOf (loadRecord q s) q = queueOf s q := congrArg (fun f : Fe => f.queues.get q) (loadRecord_fe q s)
  have hentered := queueOf_updQueue (q := q) (s := loadRecord q s) (f := fun x => { x with active := true, state := .running, decoded := 0 })
    (ne_default_of_running rfl)
  rw [hfe] at hentered
  exact hentered

/-- A READY queue with no header to read again takes a free entry of its class, unless a better class waits for one. -/
theorem activateOp_enters {q : Nat} {s : State} (hready : (queueOf s q).state = .ready) (hout : (queueOf s q).active = false)
    (hrun : (queueOf s q).t0 = false) (hfetch : (queueOf s q).fetch = .idle) (hsafe : s.fcu.safe = false)
    (hbest : (readyQueues s).any (fun p => decide (queueClass s p < queueClass s q) && entryFree s (queueClass s p)) = false)
    (hfree : entryFree s (queueClass s q) = true) : activateOp q s = feKick q (queueEntered q s) := by
  have hmay : ¬ ((queueOf s q).state ≠ .ready ∨ (queueOf s q).active = true ∨ (queueOf s q).t0 = true ∨ s.fcu.safe = true
      ∨ (readyQueues s).any (fun p => decide (queueClass s p < queueClass s q) && entryFree s (queueClass s p)) = true) := by
    rw [hbest]
    simp [hready, hout, hrun, hsafe]
  have hidle : (queueOf (queueEntered q s) q).fetch = .idle := by rw [queueOf_queueEntered, hfetch]
  unfold activateOp
  dsimp only
  rw [if_neg hmay, if_pos hfree]
  unfold takeEntry
  unfold queueEntered at hidle ⊢
  dsimp only
  rw [hidle]

/-! ### The reads of the front end (R289, R292, R294) -/

theorem exec_ringEntryFetched (q : Nat) (entry : Bytes) (s : State) :
    exec (.ringEntryFetched q entry) s = .next (ringFetched q entry s) := rfl

section RingEntry

variable {q : Nat} {entry : Bytes} {s : State} (hfetch : (queueOf s q).fetch = .ring) (hrunning : (queueOf s q).state = .running)
include hfetch hrunning

theorem ringFetched_bad (hbad : num entry 8 8 ≠ 0 ∨ num entry 0 8 % 64 ≠ 0) :
    ringFetched q entry s = queueStop q Status.permission 0 ((queueFetched q s).feCount 1) := by
  simp only [ringFetched, hfetch, hrunning, ne_eq, not_true_eq_false, or_self, if_false]
  exact if_pos hbad

/-- `s` with the ring entry of the queue `q` read: its head is past it. -/
def ringEntryRead (q : Nat) (s : State) : State :=
  progress q (updQueue q (fun x => { x with head := x.head + 1#32, fetch := .idle }) (queueFetched q s))

/-- A good ring entry has the buffer's header read. -/
theorem ringFetched_asks (hzero : num entry 8 8 = 0) (haligned : num entry 0 8 % 64 = 0) : ringFetched q entry s
    = fetchAsk q (.header (BitVec.ofNat 64 (num entry 0 8)) none) (num entry 0 8)
        (64 + chunkBytes (isSealed (hallOf s (queueOf s q).hall)) 16) (ringEntryRead q s) := by
  have hgood : ¬ (num entry 8 8 ≠ 0 ∨ num entry 0 8 % 64 ≠ 0) := by simp [hzero, haligned]
  simp only [ringFetched, hfetch, hrunning, ne_eq, not_true_eq_false, or_self, if_false]
  exact if_neg hgood

omit hfetch in
theorem queueOf_ringEntryRead :
    queueOf (ringEntryRead q s) q = { queueOf s q with head := (queueOf s q).head + 1, fetch := .idle } :=
  queueOf_updQueue (q := q) (s := queueFetched q s) (f := fun x => { x with head := x.head + 1#32, fetch := .idle })
    (ne_default_of_running hrunning)

end RingEntry

theorem exec_commandChunkFetched (q : Nat) (data : Bytes) (s : State) :
    exec (.commandChunkFetched q data) s = .next (feKick q (chunkFetched q data false s)) := rfl

/-- The first chunk of the buffer at `addr`, as its read brings it behind the header. -/
def firstChunk (addr : DWord) (data : Bytes) : Buffer :=
  addUnits { addr := addr, header := fit (data.take 64) 64, units := [] } 0
    (fit ((data.drop 64).take (32 * chunkUnits (fit (data.take 64) 64) 0)) (32 * chunkUnits (fit (data.take 64) 64) 0))

/-- The queue that its ring buffer has been read into. -/
def withBuffer (b : Buffer) (x : Queue) : Queue :=
  { x with fetch := .idle, fetched := none, bufs := (b, 0) :: x.bufs, qseq := x.qseq + 1#64 }

/-- A good header of a hall that is not SEALED brings its buffer's first units. -/
theorem chunkFetched_header {q : Nat} {data : Bytes} {addr : DWord} {s : State} (hrunning : (queueOf s q).state = .running)
    (hfetch : (queueOf s q).fetch = .header addr none) (hheader : headerOk (queueFetched q s) q none (fit (data.take 64) 64) = true)
    (harmed : s.fcu.armed = false) (hopen : isSealed (hallOf s (queueOf s q).hall) = false) :
    chunkFetched q data false s = (updQueue q (withBuffer (firstChunk addr data)) (queueFetched q s)).feCount 0 := by
  have hruns : ¬ (queueOf s q).state ≠ .running := not_not.mpr hrunning
  have hchecks : ¬ checkFails (!true) Src.fe Kind.cmdFormat (queueFetched q s) = true := by
    simp [checkFails, injected_unarmed (s := queueFetched q s) harmed]
  have hplain : isSealed (hallOf (queueFetched q s) (queueOf (queueFetched q s) q).hall) = false := hopen
  simp only [chunkFetched, if_neg hruns, hfetch, hheader, if_neg hchecks, chunkInjected, openChunk, hplain, Bool.not_false, if_true]
  rfl

/-! ### Takes (R304) -/

theorem exec_takeOverrun (e : Nat) (s : State) : exec (.takeOverrun e) s = .next (takeOverrunOp e s) := rfl

/-- `s` with the take of slot `e` marked as past its limit. -/
def takeMarked (e : Nat) (s : State) : State := updSlot e (fun x => { x with overrun := true }) s

theorem slotOfEng_takeMarked (e : Nat) (s : State) : slotOfEng (takeMarked e s) e = { slotOfEng s e with overrun := true } := by
  have hused : ({ slotOfEng s e with overrun := true } : EngSlot) ≠ default := fun h =>
    Bool.noConfusion (congrArg EngSlot.overrun h : true = false)
  exact Tab.get_mod_of_ne (f := fun x : EngSlot => { x with overrun := true }) hused

/-- The front end as a take past its limit leaves it: the slot marked, and the event counted. -/
theorem takeOverrunOp_fe {e o : Nat} {s : State} (howner : (slotOfEng s e).owner = some o) (hnew : (slotOfEng s e).overrun = false)
    (hlong : s.fe.takeLimit.toNat * 64 * nsT < s.now - (slotOfEng s e).takeStart) : (takeOverrunOp e s).fe
      = { (takeMarked e s).fe with
          counters := (takeMarked e s).fe.counters.bump 6 1, events := raised (takeMarked e s).fe.events 3 } := by
  have hfault : ¬ ((slotOfEng s e).overrun = true ∨ s.now - (slotOfEng s e).takeStart ≤ s.fe.takeLimit.toNat * 64 * nsT) := by
    simp [hnew, Nat.not_le.mpr hlong]
  have hraised (hall : Nat) : (hallCount hall 9 1 (raiseFault Src.fe Kind.takeOverrun hall 0 o (takeMarked e s))).fe
      = (takeMarked e s).fe :=
    (hallCount_frame (w₀ := 74088185856) (raiseFault_frame Frame.refl rfl) rfl).fe (by decide)
  simp only [takeOverrunOp, howner, if_neg hfault]
  rw [State.feEvent, State.updFe_fe, State.feCount, State.updFe_fe]
  unfold takeMarked at hraised ⊢
  rw [hraised]

/-- Settles O19: each row by the lemma of its operation. -/
theorem queueCommands : Obligations.QueueCommands := by
  unfold Obligations.QueueCommands
  refine ⟨?create, ?feCreate, ?destroy, ?feDestroy, ?finish, ?query, ?rings, ?refused, ?activates, ?entry, ?badEntry, ?chunk, ?overrun⟩
  case create =>
    intro a arg q s hrole hlength hok hfree
    rw [exec_queueCreate, queueCreateAct_makes hrole hlength hok hfree]
    refine ⟨_, rfl, ?_, ?_⟩ <;> rw [actDone_fe] <;> rfl
  case feCreate =>
    intro q s hgo hok hfree
    rw [exec_feCmdCreate, feCommand_creates hgo hok hfree]
    exact ⟨_, rfl, rfl, rfl, rfl, rfl⟩
  case destroy =>
    intro a arg b q s hb hrole hlength hzero hzero' htdi hfence hqueue hlives
    rw [exec_queueDestroy, queueDestroyAct_waits hb hrole hlength hzero hzero' htdi hfence hqueue hlives]
    rfl
  case feDestroy =>
    rintro b q s u hgo hb hzero hzero' hrest htdi hfence hqueue hlives rfl
    rw [exec_feCmdDestroy, feCommand_destroys hgo hb hzero hzero' hrest htdi hfence hqueue hlives]
    rfl
  case finish =>
    rintro q f v s u hdying hacks hwork howed hfence hanswer hquiet rfl
    rw [exec_queueDestroyFinish, destroyFinishOp_frees hdying hacks hwork howed hfence hanswer hquiet]
    rfl
  case query =>
    intro q s hgo
    rw [exec_feCmdQuery, feCommand_queries hgo]
    exact ⟨_, rfl, rfl, rfl, rfl, rfl⟩
  case rings =>
    rintro hall slot q t s u rfl hserves hqueue hok hmoves hidle hclass
    rw [exec_doorbell hserves, doorbellOp_rings hqueue hok hmoves hclass]
    have hqueue := queueOf_doorbellRung (hall := hall) (t := t) hidle
    refine ⟨_, rfl, congrArg Queue.tail hqueue, congrArg Queue.state hqueue, ?_⟩
    rw [hqueue]
  case refused =>
    rintro hall slot q t s u rfl hserves hqueue hbad
    rw [exec_doorbell hserves, doorbellOp_refused hqueue hbad]
  case activates =>
    intro q s hready hout hrun hfetch hsafe hbest hfree
    have hqueue := queueOf_queueEntered q s
    rw [exec_queueActivate, activateOp_enters hready hout hrun hfetch hsafe hbest hfree]
    refine ⟨_, rfl, congrArg Queue.state hqueue, congrArg Queue.active hqueue, congrArg Queue.decoded hqueue, ?_⟩
    have horder : (loadRecord q s).fe.activeOrder = s.fe.activeOrder := congrArg Fe.activeOrder (loadRecord_fe q s)
    exact congrArg (· ++ [q]) horder
  case entry =>
    intro q entry s hfetch hrunning hzero haligned
    have hqueue := queueOf_ringEntryRead hrunning
    rw [exec_ringEntryFetched, ringFetched_asks hfetch hrunning hzero haligned]
    exact ⟨_, rfl, congrArg Queue.head hqueue, (congrArg Queue.state hqueue).trans hrunning⟩
  case badEntry =>
    intro q entry s hfetch hrunning hbad
    rw [exec_ringEntryFetched, ringFetched_bad hfetch hrunning hbad]
  case chunk =>
    rintro q data addr h s u hrunning hfetch rfl rfl hheader harmed hopen
    have hqueue := queueOf_updQueue (q := q) (s := queueFetched q s) (f := withBuffer (firstChunk addr data))
      (ne_default_of_running hrunning)
    rw [exec_commandChunkFetched, chunkFetched_header hrunning hfetch hheader harmed hopen]
    exact ⟨_, rfl, congrArg Queue.qseq hqueue, congrArg Queue.bufs hqueue⟩
  case overrun =>
    intro e o s howner hnew hlong
    have hfe := takeOverrunOp_fe howner hnew hlong
    have hslot : slotOfEng (takeOverrunOp e s) e = { slotOfEng s e with overrun := true } :=
      (congrArg (fun f : Fe => f.slots.get e) hfe).trans (slotOfEng_takeMarked e s)
    refine ⟨_, exec_takeOverrun e s, congrArg EngSlot.overrun hslot, (congrArg EngSlot.owner hslot).trans howner, ?_⟩
    exact congrArg Fe.events hfe

end Sys2Proof.Machine
end

section
/-! Halls: creation and destruction, grants, maps and unmaps, the scrub, each also as an operation of ITU_CMD. -/

namespace Sys2Proof.Machine

-- One declaration at a time, so that the elaborator holds few threads (each takes stack of its own).
set_option Elab.async false

/-! ### ITU_CMD (R369, R370) -/

section ItuCmd

variable {s : State} (hgo : s.itu.go = false)
include hgo

theorem itu_starts : ¬ s.itu.go = true := hgo ▸ Bool.false_ne_true

theorem exec_ituHallCreate : exec .ituHallCreate s
    = .next (hallCreateOp (ituArg s.itu) true (keeperSess, 1) (ituTaken 1 s.itu.hall.toNat s)) :=
  congrArg (fun r : List Ans × State => Host.Outcome.next r.2) (if_neg (itu_starts hgo))

theorem exec_ituHallDestroy : exec .ituHallDestroy s
    = .next (settled (hallDestroyOp (num (ituArg s.itu) 0 2) true (keeperSess, 2) (ituTaken 2 s.itu.hall.toNat s))) :=
  congrArg (fun r : List Ans × State => Host.Outcome.next (settled r)) (if_neg (itu_starts hgo))

theorem exec_ituGrant : exec .ituGrant s
    = .next (ituEnd 3 (hallGrantOp (ituArg s.itu) true (ituTaken 3 s.itu.hall.toNat s))) :=
  congrArg (fun r : List Ans × State => Host.Outcome.next r.2) (if_neg (itu_starts hgo))

theorem exec_ituUngrant : exec .ituUngrant s
    = .next (ituEnd 4 (hallUngrantOp (ituArg s.itu) true (ituTaken 4 s.itu.hall.toNat s))) :=
  congrArg (fun r : List Ans × State => Host.Outcome.next r.2) (if_neg (itu_starts hgo))

/-- ITU_CMD's MAP, its status and state those of the operation. -/
theorem exec_ituMap_answers : exec .ituMap s
    = .next (if (mapOp ((ituArg s.itu).take 32) true (ituTaken 5 s.itu.hall.toNat s)).1 = Status.ok
      then hallDone (num (ituArg s.itu) 0 2) [(keeperSess, 5)] (mapOp ((ituArg s.itu).take 32) true (ituTaken 5 s.itu.hall.toNat s)).1 []
        (mapOp ((ituArg s.itu).take 32) true (ituTaken 5 s.itu.hall.toNat s)).2
      else ituEnd 5 (mapOp ((ituArg s.itu).take 32) true (ituTaken 5 s.itu.hall.toNat s))) :=
  congrArg (fun r : List Ans × State => Host.Outcome.next r.2) (if_neg (itu_starts hgo))

theorem exec_ituMap {u : State} (hop : mapOp ((ituArg s.itu).take 32) true (ituTaken 5 s.itu.hall.toNat s) = (Status.ok, u)) :
    exec .ituMap s = .next (hallDone (num (ituArg s.itu) 0 2) [(keeperSess, 5)] Status.ok [] u) := by
  rw [exec_ituMap_answers hgo, hop, if_pos rfl]

/-- ITU_CMD's UNMAP, its status and state those of the operation. -/
theorem exec_ituUnmap_answers : exec .ituUnmap s
    = .next (if (unmapOp ((ituArg s.itu).take 32) true (keeperSess, 6) (ituTaken 6 s.itu.hall.toNat s)).1 = Status.ok
      then (unmapOp ((ituArg s.itu).take 32) true (keeperSess, 6) (ituTaken 6 s.itu.hall.toNat s)).2
      else ituEnd 6 (unmapOp ((ituArg s.itu).take 32) true (keeperSess, 6) (ituTaken 6 s.itu.hall.toNat s))) := by
  change goOn (ituCommand 6 s.itu.hall.toNat [] [] s).2 = _
  simp only [ituCommand, if_neg (itu_starts hgo)]
  rfl

theorem exec_ituUnmap {u : State}
    (hop : unmapOp ((ituArg s.itu).take 32) true (keeperSess, 6) (ituTaken 6 s.itu.hall.toNat s) = (Status.ok, u)) :
    exec .ituUnmap s = .next u := by
  rw [exec_ituUnmap_answers hgo, hop, if_pos rfl]

theorem exec_scrubDone (hall : BitVec 12) :
    exec (.scrubDone hall) s = .next (scrubDoneOp hall.toNat (keeperSess, 12) (ituTaken 12 hall.toNat s)) :=
  congrArg (fun r : List Ans × State => Host.Outcome.next r.2) (if_neg (itu_starts hgo))

theorem exec_ituClean : exec .ituClean s = .next (ituEnd 14
    (cleanOp (s.itu.args.get 0).toNat (s.itu.args.get 1).toNat (ituTaken 14 s.itu.hall.toNat s))) :=
  congrArg (fun r : List Ans × State => Host.Outcome.next r.2) (if_neg (itu_starts hgo))

theorem exec_ituQuery (hall : BitVec 12) : exec (.ituQuery hall) s = .next (ituFinish 13 Status.ok
    ((ituTaken 13 hall.toNat s).updItu fun u => { u with
      qinfo := BitVec.ofNat 32 (ituInfo (ituTaken 13 hall.toNat s) hall.toNat) })) :=
  congrArg (fun r : List Ans × State => Host.Outcome.next r.2) (if_neg (itu_starts hgo))

end ItuCmd

/-- A session's requester has the result in its mailbox. -/
theorem hallAnswer_session {who : Nat × Nat} {st : Status} {data : Bytes} {s : State} (hsess : who.1 ≠ keeperSess) :
    hallAnswer [who] st data s = actDone who.1 who.2 st data false s := if_neg hsess

/-! ### Creation (R346, R376) -/

section Create

variable {b : Bytes} {who : Nat × Nat} {s : State} (hgood : createBad b s = false)
include hgood

theorem hallCreateOp_makes (hfits : reservationFits s (sub b 64 64) = true) : hallCreateOp b true who s
    = hallDone (num b 0 2) [who] Status.ok (natLe (put 16 (newHall b s).hgen.toNat + num b 0 2) 4)
        (recountConsent (hallKeys (num b 0 2) (hallChange (num b 0 2) (fun _ => newHall b s) s))) := by
  simp [hallCreateOp, hgood, hfits]

theorem hallCreateOp_full (hfull : reservationFits s (sub b 64 64) = false) :
    hallCreateOp b true who s = hallAnswer [who] Status.refusedCapacity [] s := by
  simp [hallCreateOp, hgood, hfull]

end Create

theorem exec_hallCreate {a : Act} {arg : Bytes} {s : State} (hmay : mayAct s [.operator] a = true) (hlength : arg.length = 128) :
    exec (.hallCreate a arg) s = .next (hallCreateOp (fit arg 128) true (a.sess, 0x501001) s) := by
  change goOn (hallCreateAct a arg s) = _
  rw [hallCreateAct, hmay, hlength]
  rfl

/-! ### Destruction (R360, R515) -/

theorem exec_hallDestroy {a : Act} {arg : Bytes} {s : State} (hmay : mayAct s [.operator, .domainManager] a = true)
    (hzero : padZero arg 2 2 = true) :
    exec (.hallDestroy a arg) s = .next (settled (hallDestroyOp (num arg 0 2) true (a.sess, 0x501002) s)) := by
  change goOn (settled (hallDestroyAct a arg s)) = _
  rw [hallDestroyAct, hmay, hzero]
  rfl

section Destroy

variable {hall : Nat} {who : Nat × Nat} {s : State} (hhall : hall < s.conf.halls)
include hhall

theorem destroy_allowed : ¬ (!true || decide (s.conf.halls ≤ hall)) = true := by
  simpa using hhall

/-- The destroy of a live hall begins its retire; the Keeper's command is done at once. -/
theorem hallDestroyOp_live (hlive : (hallOf s hall).state = .live) : hallDestroyOp hall true who s
    = ([], if who.1 = keeperSess then ituFinish 2 Status.notReady (tdiTeardown hall (retireBegin hall .destroy s))
        else hallWaits hall who (tdiTeardown hall (retireBegin hall .destroy s))) := by
  simp only [hallDestroyOp, if_neg (destroy_allowed hhall), hlive]

theorem hallDestroyOp_free (hfree : (hallOf s hall).state = .free) :
    hallDestroyOp hall true who s = ([], hallAnswer [who] Status.hallGone [] s) := by
  simp only [hallDestroyOp, if_neg (destroy_allowed hhall), hfree]

end Destroy

theorem exec_retireDrainDone (hall : Nat) (s : State) : exec (.retireDrainDone hall) s = .next (settled (retireDrainOp hall s)) := rfl

/-- Two changes of a hall that agree on its record are one. -/
theorem updHall_congr {hall : Nat} {f g : Hall → Hall} {s : State} (h : f (hallOf s hall) = g (hallOf s hall)) :
    updHall hall f s = updHall hall g s :=
  congrArg (fun x => s.updItu fun u => { u with halls := u.halls.set hall x }) h

/-- The reduction slots, the streams and the combining lines of a hall are no part of its record. -/
theorem freeStreams_hallOf (hall : Nat) (s : State) : hallOf (freeStreams hall s).2 hall = hallOf s hall :=
  congrArg (fun u : Itu => u.halls.get hall) ((freeStreams_frame (w₀ := 10493952) Frame.refl rfl).itu (by decide))

/-- R360 steps 2 to 7 of a hall that is destroyed: its generation rises, and keys, streams and regions go. -/
theorem retireDrainOp_destroys {hall : Nat} {a : List Ans} {s u v : State} (hwaits : retireWaits s hall = true)
    (hqueues : hallQueues s hall = []) (hclean : combDirty s (some hall) = []) (hdrained : undrained s hall = false)
    (hlines : hallLines s hall = false) (hby : (hallOf s hall).retireBy = .destroy) (hfree : freeStreams hall s = (a, u))
    (hv : v = updHall hall (fun h => { h with hallKey := 0#32 }) (retireMatchOp 15 hall (hallOf s hall).hgen.toNat
      (hallChange hall (fun h => { h with drained := true, hgen := (hallOf s hall).hgen + 1 }) u))) :
    retireDrainOp hall s
      = (a, retireStep7 hall (freeRegions hall (serviceSend none (retireMessage hall (hallOf s hall).hgen.toNat v) v))) := by
  subst hv
  have hrecord : hallOf u hall = hallOf s hall := by
    rw [← freeStreams_hallOf hall s, hfree]
  have hrises : hallChange hall (fun h => { h with drained := true, hgen := h.hgen + 1#16 }) u
      = hallChange hall (fun h => { h with drained := true, hgen := (hallOf s hall).hgen + 1 }) u := by
    rw [hallChange, updHall_congr (g := fun h => { h with drained := true, hgen := (hallOf s hall).hgen + 1 }) (by rw [hrecord]; rfl)]
    rfl
  rw [← hrises]
  simp only [retireDrainOp, hwaits, hqueues, hclean, hdrained, hlines, hfree, hby]
  rfl

/-! ### Grants (R349, R369) -/

section Grants

variable {b : Bytes} {s : State}

theorem hallGrantOp_grants (hok : grantOk b s = true) : hallGrantOp b true s
    = (Status.ok, setRun (num b 4 4) (num b 8 4) { state := 2, hall := num b 0 2 } s) := by
  simp only [grantOk, Bool.and_eq_true, decide_eq_true_eq] at hok
  obtain ⟨⟨⟨hhall, hserved⟩, hrange⟩, hclean⟩ := hok
  simp only [hallGrantOp, grantArg, hserved, hrange, hclean, Nat.not_le.mpr hhall, decide_false]
  rfl

theorem hallUngrantOp_ungrants (hok : ungrantOk b s = true) : hallUngrantOp b true s
    = (Status.ok, setRun (num b 4 4) (num b 8 4) default s) := by
  simp only [ungrantOk, Bool.and_eq_true, decide_eq_true_eq, Bool.not_eq_true'] at hok
  obtain ⟨⟨⟨⟨hhall, hserved⟩, hrange⟩, howned⟩, hfree⟩ := hok
  simp only [hallUngrantOp, grantArg, hserved, hrange, howned, hfree, Nat.not_le.mpr hhall, decide_false]
  rfl

end Grants

section GrantActs

variable {a : Act} {arg : Bytes} {s : State} (hmay : mayAct s [.operator] a = true) (hlength : padZero arg 12 12 = true)
  (hzero : num arg 2 2 = 0)
include hmay hlength hzero

theorem grant_allowed : (mayAct s [.operator] a && padZero arg 12 12 && num arg 2 2 == 0) = true := by
  rw [hmay, hlength, hzero]
  rfl

theorem exec_hallGrant {st : Status} {u : State} (hop : hallGrantOp (fit arg 12) true s = (st, u)) :
    exec (.hallGrant a arg) s = .next (actDone a.sess 0x501003 st [] false u) := by
  change goOn (hallGrantAct a arg s) = _
  rw [hallGrantAct, grant_allowed hmay hlength hzero, hop]

theorem exec_hallUngrant {st : Status} {u : State} (hop : hallUngrantOp (fit arg 12) true s = (st, u)) :
    exec (.hallUngrant a arg) s = .next (actDone a.sess 0x501004 st [] false u) := by
  change goOn (hallUngrantAct a arg s) = _
  rw [hallUngrantAct, grant_allowed hmay hlength hzero, hop]

end GrantActs

theorem cleanOp_cleans {first count : Nat} {s : State} (hrange : rangeOk s first count = true)
    (hdirty : granulesAll first count (fun g => granuleState s g == 0 && !granuleKept s g) = true) : cleanOp first count s
      = (Status.ok, (setRun first count { state := 1, hall := 0 } s).updItu fun t => { t with counters := t.counters.bump 6 count }) := by
  simp only [cleanOp, hrange, hdirty]
  rfl

/-! ### Map (R357) -/

/-- A MAP that nothing refuses is done when its tables fit. -/
theorem mapOp_maps {b : Bytes} {s : State} (hok : mapOk b s = true) : mapOp b true s
    = if mapRoom b s then (Status.ok, mapped b s) else (Status.refusedCapacity, s.ituEvent 0) := by
  simp only [mapOk, Bool.and_eq_true, decide_eq_true_eq, Bool.not_eq_true'] at hok
  obtain ⟨⟨⟨⟨⟨⟨⟨⟨hhall, hlive⟩, hcount⟩, hform⟩, hunmapped⟩, howned⟩, hregion⟩, hsettled⟩, hroot⟩ := hok
  unfold mapOp
  dsimp only
  rw [if_neg ?good, if_neg (Bool.eq_false_iff.mp hsettled)]
  · rw [← ite_not]
    simp only [Nat.not_lt, mapRoom, decide_eq_true_eq]
    rfl
  case good =>
    rw [Bool.not_eq_true]
    simp only [Bool.or_eq_false_iff]
    refine ⟨⟨⟨⟨⟨⟨⟨⟨rfl, by simpa using hhall⟩, by simpa using hlive⟩, ?count⟩, by simpa using hform⟩, hunmapped⟩, ?owned⟩, ?region⟩,
      hroot⟩
    case count =>
      rw [decide_eq_false_iff_not]
      omega
    case owned => simpa [or_iff_not_imp_left] using howned
    case region => simpa [or_iff_not_imp_left] using hregion

theorem exec_map {a : Act} {arg : Bytes} {s : State} (hrole : hallRole s a (num arg 0 2) = true) (hlength : padZero arg 32 32 = true)
    (hzero : num arg 2 2 = 0) (hok : mapOk (fit arg 32) s = true) : exec (.map a arg) s = .next (if mapRoom (fit arg 32) s
      then hallDone (num arg 0 2) [(a.sess, 0x504001)] Status.ok [] (mapped (fit arg 32) s)
      else actDone a.sess 0x504001 Status.refusedCapacity [] false (s.ituEvent 0)) := by
  have hmay : (hallRole s a (num arg 0 2) && padZero arg 32 32 && num arg 2 2 == 0) = true := by
    rw [hrole, hlength, hzero]
    rfl
  change goOn (mapAct a arg s) = _
  unfold mapAct
  dsimp only
  rw [hmay, mapOp_maps hok]
  split
  · exact congrArg Host.Outcome.next (if_pos rfl)
  · exact congrArg Host.Outcome.next (if_neg (show Status.refusedCapacity ≠ Status.ok by decide))

/-! ### Unmap (R358) -/

theorem hall_ne_default_of_live {x : Hall} (hlive : x.state = .live) : x ≠ default := fun h =>
  absurd (hlive.symm.trans (congrArg Hall.state h)) (by decide)

/-- A hall's record after a change that leaves it live. -/
theorem hallOf_updHall {hall : Nat} {f : Hall → Hall} {s : State} (hlive : (f (hallOf s hall)).state = .live) :
    hallOf (updHall hall f s) hall = f (hallOf s hall) := Tab.get_mod_of_ne (hall_ne_default_of_live hlive)

/-- A hall stays live while its tables take their places. -/
theorem live_forAll_placeTable {hall : Nat} (l : List Nat) {s : State} (hlive : (hallOf s hall).state = .live) :
    (hallOf (forAll l (placeTable hall) s) hall).state = .live := by
  induction l generalizing s with
  | nil => exact hlive
  | cons key l ih =>
    have hplaced := hallOf_updHall (f := fun h => { h with tables := h.tables.set key (tablesBase s + 8192 * freePlace (placesUsed s)
      (s.open64.toNat % max 1 (tablesRoom s - (placesUsed s).length))) }) hlive
    exact ih ((congrArg Hall.state hplaced).trans hlive)

/-- The leaves of a live hall are what they are set to. -/
theorem leaves_setLeaves {hall : Nat} {leaves : Tab (BitVec 128)} {pages : List (Nat × Nat)} {s : State}
    (hlive : (hallOf s hall).state = .live) : (hallOf (setLeaves hall leaves pages s) hall).leaves = leaves := by
  unfold setLeaves
  dsimp only
  have hlines (l : List (Nat × Nat)) (u : State) : (forAll l (tableLine hall) u).itu = u.itu :=
    (Frame.forAll (w := 35184372088856) (fun _ _ => tableLine_frame Frame.refl rfl) l Frame.refl).itu (by decide)
  rw [hallOf, hlines]
  exact congrArg Hall.leaves (hallOf_updHall (live_forAll_placeTable _ hlive))

/-- The pages that UNMAP's argument block names. -/
def unmapKeys (b : Bytes) : List Nat := runKeys (num b 8 8) (num b 4 4) (num b 16 1)

/-- The leaves of a hall after the UNMAP of an argument block. -/
def unmapLeaves (b : Bytes) (s : State) : Tab (BitVec 128) :=
  forAll (unmapKeys b) (fun k t => Tab.set t k default) (hallOf s (num b 0 2)).leaves

/-- The record that an UNMAP leaves until what used its pages has ended. -/
def unmapNoted (b : Bytes) (who : Nat × Nat) (s : State) : Unmap :=
  unmapRecord (num b 0 2) ((unmapKeys b).map fun k => (k, BitVec.ofNat 2 (num b 16 1)))
    ((unmapKeys b).map fun k => (hallOf s (num b 0 2)).leaves.get k)
    ((hallOf s (num b 0 2)).tables.filterMap fun e => if (tableKeys (unmapLeaves b s)).contains e.1 then none else some e.2)
    (if num b 17 1 = 1 then some (num b 18 2, BitVec.ofNat 64 (num b 24 8)) else none) who s

/-- `s` with the record of an UNMAP, and without the translations of its pages. -/
def unmapBegun (b : Bytes) (who : Nat × Nat) (s : State) : State :=
  s.updItu fun t => { t with
    unmaps := t.unmaps ++ [unmapNoted b who s]
    nextUnmap := t.nextUnmap + 1
    tlb := t.tlb.filter fun e => !(e.hall == num b 0 2
      && (unmapKeys b).any fun k => spansMeet (e.page * 512 ^ e.size.toNat) (512 ^ e.size.toNat) k (512 ^ num b 16 1)) }

/-- That state with the leaves gone and the hall's tables written. -/
def unmapMade (b : Bytes) (who : Nat × Nat) (s : State) : State :=
  let u := setLeaves (num b 0 2) (unmapLeaves b s) ((unmapKeys b).map fun k => (k, num b 16 1)) (unmapBegun b who s)
  if (unmapLeaves b s).isEmpty then rootWrite (num b 0 2) u else u

/-- An accepted UNMAP is one of a live hall. -/
theorem unmapOp_ok {b : Bytes} {roleOk : Bool} {who : Nat × Nat} {s u : State} (h : unmapOp b roleOk who s = (Status.ok, u)) :
    (hallOf s (num b 0 2)).state = .live
      ∧ u = if who.1 = keeperSess then (unmapMade b who s).updItu fun u => { u with go := true, op := 6#5 }
        else actWaits who.1 who.2 (unmapMade b who s) := by
  unfold unmapOp at h
  dsimp only at h
  split at h
  · exact absurd (congrArg Prod.fst h) (show Status.retryLater ≠ Status.ok by decide)
  split at h
  · exact absurd (congrArg Prod.fst h) (show Status.permission ≠ Status.ok by decide)
  next _ hgood =>
    refine ⟨?_, (congrArg Prod.snd h).symm⟩
    by_contra hdead
    exact hgood (by simp [hdead])

/-- Of the ITU's own state the unmap changes what its record and its pages ask for; tables and writes follow in the arena. -/
theorem unmapMade_ituRest (b : Bytes) (who : Nat × Nat) (s : State) :
    (unmapMade b who s).itu.rest = (unmapBegun b who s).itu.rest := by
  have hset : Frame 52777631875096 (unmapBegun b who s)
      (setLeaves (num b 0 2) (unmapLeaves b s) ((unmapKeys b).map fun k => (k, num b 16 1)) (unmapBegun b who s)) :=
    setLeaves_frame Frame.refl rfl
  unfold unmapMade
  dsimp only
  split
  · exact (rootWrite_frame hset rfl).ituRest (by decide)
  · exact hset.ituRest (by decide)

theorem unmapMade_leaves {b : Bytes} {who : Nat × Nat} {s : State} (hlive : (hallOf s (num b 0 2)).state = .live) :
    (hallOf (unmapMade b who s) (num b 0 2)).leaves = unmapLeaves b s := by
  have hset := leaves_setLeaves (leaves := unmapLeaves b s) (pages := (unmapKeys b).map fun k => (k, num b 16 1))
    (s := unmapBegun b who s) hlive
  unfold unmapMade
  dsimp only
  split
  · rw [hallOf, (rootWrite_frame (w₀ := 35184372088856) Frame.refl rfl).itu (by decide)]
    exact hset
  · exact hset

theorem exec_unmap {a : Act} {arg : Bytes} {s u : State}
    (hop : unmapOp (fit arg 32) (hallRole s a (num arg 0 2) && padZero arg 32 32) (a.sess, 0x504002) s = (Status.ok, u)) :
    exec (.unmap a arg) s = .next u := by
  change goOn (unmapAct a arg s) = _
  rw [unmapAct, hop]
  exact congrArg Host.Outcome.next (if_pos rfl)

theorem exec_unmapComplete (serial : Nat) (s : State) : exec (.unmapComplete serial) s = .next (unmapCompleteOp serial s) := rfl

section Complete

variable {serial : Nat} {r : Unmap} {s : State} (hfound : s.itu.unmaps.find? (·.serial == serial) = some r)
  (hsettled : unmapSettled s r = true)
include hfound hsettled

theorem unmapCompleteOp_ends (hfence : r.fence = none) : unmapCompleteOp serial s
    = retireStep7 r.hall (hallAnswer r.answer Status.ok []
        ((s.updItu fun t => { t with unmaps := t.unmaps.filter (·.serial != serial) }).ituCount 5)) := by
  simp [unmapCompleteOp, hfound, hsettled, hfence]

theorem unmapCompleteOp_signals {f : Nat} {v : DWord} (hfence : r.fence = some (f, v)) : unmapCompleteOp serial s
    = retireStep7 r.hall (hallAnswer r.answer Status.ok [] (signalFence f v Status.ok
        ((s.updItu fun t => { t with unmaps := t.unmaps.filter (·.serial != serial) }).ituCount 5))) := by
  simp [unmapCompleteOp, hfound, hsettled, hfence]

end Complete

/-! ### The scrub (R360, R361) -/

theorem scrubDoneOp_refused {hall : Nat} {who : Nat × Nat} {s : State} (h : (hallOf s hall).state ≠ .scrubbing) :
    scrubDoneOp hall who s = hallAnswer [who] Status.permission [] s := if_pos h

/-- A hall whose retire does not end FREE is live again after its scrub. -/
theorem scrubDoneOp_revives {hall : Nat} {who : Nat × Nat} {s : State} (hscrubs : (hallOf s hall).state = .scrubbing)
    (hstays : endsFree (hallOf s hall) = false) : scrubDoneOp hall who s = hallDone hall [who] Status.ok [] (hallKeys hall
      (hallChange hall (fun h => { h with state := .live, retireBy := .none, drained := false, scrub := [], lockBusy := false
                                          stream := none })
        (s.updItu fun t => { t with counters := t.counters.bump 6 (hallOf s hall).scrub.length }))) := by
  simp only [scrubDoneOp, if_neg (not_not.mpr hscrubs), hstays]
  rfl

/-- Settles O22: each row by the lemma of its operation. -/
theorem hallAndMappingCommands : Obligations.HallAndMappingCommands := by
  unfold Obligations.HallAndMappingCommands
  refine ⟨?create, ?ituCreate, ?full, ?destroy, ?gone, ?ituDestroy, ?drain, ?grants, ?ituGrants, ?map, ?ituMap, ?unmap, ?ituUnmap, ?ends,
    ?signals, ?revives, ?refused, ?clean, ?query⟩
  case create =>
    intro a arg s hmay hlength hgood hfits
    rw [exec_hallCreate hmay hlength, hallCreateOp_makes hgood hfits]
  case ituCreate =>
    rintro b s u hgo rfl rfl hgood hfits
    rw [exec_ituHallCreate hgo, hallCreateOp_makes hgood hfits]
  case full =>
    intro a arg s hmay hlength hsess hgood hfull
    rw [exec_hallCreate hmay hlength, hallCreateOp_full hgood hfull, hallAnswer_session hsess]
  case destroy =>
    intro a arg s hmay hzero hhall hlive hsess
    rw [exec_hallDestroy hmay hzero, hallDestroyOp_live hhall hlive, if_neg hsess]
  case gone =>
    intro a arg s hmay hzero hhall hfree hsess
    rw [exec_hallDestroy hmay hzero, hallDestroyOp_free hhall hfree, hallAnswer_session hsess]
  case ituDestroy =>
    rintro s u hgo rfl hhall hlive
    rw [exec_ituHallDestroy hgo, hallDestroyOp_live (s := ituTaken 2 s.itu.hall.toNat s) hhall hlive, if_pos rfl]
  case drain =>
    intro hall a s u v hwaits hqueues hclean hdrained hlines hby hfree hv
    rw [exec_retireDrainDone, retireDrainOp_destroys hwaits hqueues hclean hdrained hlines hby hfree hv]
  case grants =>
    intro a arg s hmay hlength hzero
    exact ⟨fun hok => exec_hallGrant hmay hlength hzero (hallGrantOp_grants hok),
      fun hok => exec_hallUngrant hmay hlength hzero (hallUngrantOp_ungrants hok)⟩
  case ituGrants =>
    rintro b s u v hgo rfl rfl rfl
    refine ⟨fun hok => ?_, fun hok => ?_⟩
    · rw [exec_ituGrant hgo, hallGrantOp_grants hok, ituEnd]
    · rw [exec_ituUngrant hgo, hallUngrantOp_ungrants hok, ituEnd]
  case map =>
    intro a arg s hrole hlength hzero hok
    exact exec_map hrole hlength hzero hok
  case ituMap =>
    rintro b s u hgo rfl rfl hok hroom
    exact exec_ituMap hgo ((mapOp_maps hok).trans (if_pos hroom))
  case unmap =>
    rintro a arg b s u rfl hop hsess -
    obtain ⟨hlive, hu⟩ := unmapOp_ok hop
    rw [if_neg hsess] at hu
    have hitu : u.itu = (unmapMade (fit arg 32) (a.sess, 0x504002) s).itu := by
      rw [hu]
      exact (actWaits_frame (w₀ := 2199023255552) Frame.refl rfl).itu (by decide)
    have hrest := (congrArg Itu.rest hitu).trans (unmapMade_ituRest (fit arg 32) (a.sess, 0x504002) s)
    refine ⟨unmapNoted (fit arg 32) (a.sess, 0x504002) s, exec_unmap hop, congrArg Itu.unmaps hrest, rfl, rfl, rfl, ?_⟩
    exact (congrArg (fun t : Itu => (t.halls.get (num (fit arg 32) 0 2)).leaves) hitu).trans (unmapMade_leaves hlive)
  case ituUnmap =>
    rintro s u v hgo rfl hop
    obtain ⟨-, hv⟩ := unmapOp_ok hop
    rw [if_pos rfl] at hv
    subst hv
    exact ⟨exec_ituUnmap hgo hop, rfl, rfl, congrArg Itu.nextUnmap (unmapMade_ituRest _ _ _)⟩
  case ends =>
    intro serial r s hfound hsettled hfence
    rw [exec_unmapComplete, unmapCompleteOp_ends hfound hsettled hfence]
  case signals =>
    intro serial f v r s hfound hsettled hfence
    rw [exec_unmapComplete, unmapCompleteOp_signals hfound hsettled hfence]
  case revives =>
    rintro hall s u hgo rfl hscrubs hstays
    rw [exec_scrubDone hgo, scrubDoneOp_revives (s := ituTaken 12 hall.toNat s) hscrubs hstays]
    rfl
  case refused =>
    intro hall s hgo hother
    rw [exec_scrubDone hgo, scrubDoneOp_refused (s := ituTaken 12 hall.toNat s) hother]
    rfl
  case clean =>
    rintro first count s u hgo rfl rfl rfl hrange hdirty
    rw [exec_ituClean hgo, cleanOp_cleans hrange hdirty, ituEnd]
  case query =>
    intro hall s hgo
    exact ⟨_, exec_ituQuery hgo hall, rfl, rfl, rfl, rfl⟩

end Sys2Proof.Machine
end
